-- ==== Sys2Proof/Word.lean ====
section
/-!
DEFINITION. The machine word: every register and every table word of the device is 32 bits wide
(00_scope.md, "Registers are 32 bits wide").
-/

namespace Sys2Proof

/-- A 32-bit register word. -/
abbrev Word := BitVec 32

end Sys2Proof
end

