-- ==== Sys2Proof/Machine/RegTypes.lean ====
section
/-!
DEFINITION. The kinds of things a register table holds: the spaces of 32-bit words the spec gives the device, the key
of one word, a bit field of a word, access codes (R5), reset classes (R8) and listed encodings (R7).
-/

namespace Sys2Proof.Machine

/-- The spaces of 32-bit words: one for each register block (R411, R412) and one for each indexed table or RAM that a
block reaches through an IDX and DATA register pair. -/
inductive Sp where
  /-- TLN[n] preset entry: n 0 to 47, entry 0 to 511, R22 -/
  | preset
  /-- TLN[n]: n 0 to 47, R40 -/
  | tln
  /-- TFR[n]: n 0 to 47, R70 -/
  | tfr
  /-- TFR[n] terminal status: n 0 to 47, terminal 0 to 511, R70 -/
  | tfrT
  /-- TFR pool: 1, R71 -/
  | pool
  /-- TFR pool DEC[j]: j 0 to 15, R71 -/
  | dec
  /-- TFR pool ENC[k]: k 0 to 7, R71 -/
  | enc
  /-- ACT[n]: n 0 to 47, R97 -/
  | act
  /-- ACT[n] terminal record: n 0 to 47, terminal 0 to 511, R97 -/
  | actT
  /-- ACT[n] brood entry: n 0 to 47, entry 0 to 63, R97 -/
  | brood
  /-- GRT[n]: n 0 to 47, R119 -/
  | grt
  /-- GRT[n] comb cell: inst = 2 x tree + bank, cell 0 to 1023, R100 -/
  | cell
  /-- GRT[n] allocation context: n 0 to 47, context 0 to 2047, R119; words 2 to 7 R132 of 06_grant_programs.md -/
  | ctx
  /-- GRT[n] burst profile: n 0 to 47, 12 profiles, R119 -/
  | prof
  /-- GSQ[k]: k 0 to 7, R149 -/
  | gsq
  /-- GSQ instruction memory words (R123), inst = cluster -/
  | imem
  /-- GSQ data memory words (R123), inst = cluster -/
  | dmem
  /-- CRL: 1, R169 -/
  | crl
  /-- OHP[p]: p 0 to 7, R170 -/
  | ohp
  /-- OHP channel mappings (R165, R170), inst = port -/
  | chan
  /-- CRL lane: direction 2, tree 48, lane 16, R169 -/
  | lane
  /-- CRL header template words (R169), idx = template -/
  | hdr
  /-- CLS[k]: k 0 to 3, R190 -/
  | cls
  /-- CLS EM_DATA staging words (R187), inst = pipeline -/
  | emD
  /-- CLS[k] ACTION table: k 0 to 3, 262144 entries, R185, R191 -/
  | cAction
  /-- CLS[k] PORT table: entry, R185, R191 -/
  | cPort
  /-- CLS[k] VID table: entry, R185, R191 -/
  | cVid
  /-- CLS[k] DOMAIN table: entry, R185, R191 -/
  | cDomain
  /-- CLS[k] GROUP table: entry, R185, R191 -/
  | cGroup
  /-- CLS[k] MEMBER table: entry, R185, R191 -/
  | cMember
  /-- CLS[k] METER table: entry, R185, R191 -/
  | cMeter
  /-- CLS[k] LIMIT table: entry, R185, R191 -/
  | cLimit
  /-- CLS LPM: 1, R190 -/
  | lpm
  /-- CLS LPM_DATA staging: 1, R190 -/
  | lpmD
  /-- BPM: 1, R211 -/
  | bpm
  /-- BPM quota: requester 0 to 31, pool 0 to 3, R211 -/
  | quota
  /-- TMD: 1, R235 -/
  | tmd
  /-- TMU: 1, R235 -/
  | tmu
  /-- TMU port: port 0 to 31, R235 -/
  | tmuPort
  /-- TMD/TMU scheduling node: level, tree or port, index, R236 -/
  | node
  /-- TMD/TMU class node: level 2, tree or port, index, R236 -/
  | nodeC
  /-- TMU gate control list entry: port 32, bank 2, entry 256, R235 -/
  | gcl
  /-- CPH[d]: d 0 to 1, R257 -/
  | cph
  /-- CPH[d] Port-ID entry: d, tree, PID 0 to 4095, R257 -/
  | cphPort
  /-- CPH[d] flow: d, flow 0 to 8191, R258 -/
  | flow
  /-- NET[n]: n 0 to 31, R283 -/
  | net
  /-- TIM: 1, R285 -/
  | tim
  /-- PAR: 1, R318 -/
  | par
  /-- SYS: 1, R319 -/
  | sys
  /-- SYS peer: 1024, R319 -/
  | peer
  /-- RST: 1, R340 -/
  | rst
  /-- CLK: 1, R340 -/
  | clk
  /-- NVM: 1, R363 -/
  | nvm
  /-- NVM BUF words (R360) -/
  | nvmBuf
  /-- flash words by byte address / 4 (R348) -/
  | flash
  /-- OTP: 1, R363 -/
  | otp
  /-- OTP PDATA staging words (R361) -/
  | otpP
  /-- OTP fuse words (R343) -/
  | otpFuse
  /-- OTP shadow words (R435) -/
  | otpSh
  /-- CMD: 1, R390 -/
  | cmd
  /-- CMD ring counters: 1, R391 -/
  | ringc
  /-- CMD session: s 0 to 3, R390 -/
  | sess
  /-- EVT: 1, R406 -/
  | evt
  /-- EVT SRC[i]: i 0 to 255, R406 -/
  | src
  /-- PMU: 1, R407 -/
  | pmu
  /-- PMU counter: i 0 to 63, R407 -/
  | pmuC
  deriving DecidableEq, Repr

/-- The events block and the ring counters are the words that raising a cause may write (R394 to R399, R372). -/
def Sp.isEvent : Sp → Bool
  | .src => true
  | .evt => true
  | .ringc => true
  | _ => false

/-- The key of one word: its space, the instance of the block, the index in a table (0 for a register), the word. -/
structure Key where
  sp : Sp
  inst : Nat
  idx : Nat
  word : Nat
  deriving DecidableEq, Repr

/-- Access codes of R5. -/
inductive Access where
  | rw | ro | rc | w1c | w1s | wo | wot | rwl | rwh
  deriving DecidableEq, Repr

/-- The reset classes that restore a field (R8): cold; cold and warm; cold, warm and block. -/
inductive Cls where
  | c | cw | cwb
  deriving DecidableEq, Repr

/-- The encodings a field's table lists (R7). -/
inductive Legal where
  | any
  | range (lo hi step : Nat)
  deriving DecidableEq, Repr

/-- One row of a field table. -/
structure FieldDesc where
  hi : Nat
  lo : Nat
  acc : Access
  reset : Nat
  cls : Cls
  legal : Legal
  deriving DecidableEq, Repr

/-- One register word and its fields. -/
structure RegDesc where
  word : Nat
  fields : List FieldDesc
  deriving DecidableEq, Repr

/-- A named field: where its bits lie. -/
structure Fld where
  sp : Sp
  word : Nat
  hi : Nat
  lo : Nat
  deriving DecidableEq, Repr

end Sys2Proof.Machine
end

