-- ==== Sys2Proof/Operand.lean ====
section
/-!
DEFINITION. The kinds of data a command carries from outside: selections, codeword contents, frame headers, messages
and packets. They are what the chapters say arrives at the block; a check the spec does not define bit by bit (a HEC, a
CRC-13, a MAC under a named standard) arrives as its verdict.
-/

namespace Sys2Proof

abbrev Byte := BitVec 8

/-- A burst of a map: the downstream frame whose map carried it, and its place among the bursts of that map (R114). -/
structure GrantRef where
  frame : Nat
  pos : Nat
  deriving DecidableEq, Repr

/-- A Serial_Number_ONU response that passed its check (R75, R77): the serial number, the first preamble bit in lane cycles,
the quiet window it answered, and the random delay in lane cycles. -/
structure SerialResponse where
  vendor : BitVec 32
  vssn : BitVec 32
  preamble : Nat
  grant : GrantRef
  random : Nat
  deriving DecidableEq, Repr

/-- What the lane saw as a window closes (R25, R28): the CDR's final phase, and the largest CTLE output in the window, mV
peak-to-peak. -/
structure CloseSeen where
  phase : BitVec 7
  level : Nat
  deriving DecidableEq, Repr

/-- A run of consecutive words with errors in a check mode, and its bit errors (R37). -/
structure PrbsErrors where
  bits : BitVec 16
  words : Nat
  deriving DecidableEq, Repr

/-- The positions of a burst's delimiter search (R55): UI from the window's centre, and the bits that differ from the
pattern there. -/
abbrev DelimiterSeen := List (BitVec 8 × Nat)

/-- A DBRu field of a codeword: the allocation of its burst that its place in the burst falls into, counted from 0; its value,
and whether its CRC-8 passes (R59). -/
structure DbruSeen where
  slot : Nat
  value : BitVec 24
  ok : Bool
  deriving DecidableEq, Repr

/-- An XGEM frame or fragment of a codeword (R60): the Key Index of its header (R240), the allocation of its burst that its
header stands in, counted from 0, and the byte offset of the header from the first byte after that allocation's DBRu (R244). -/
structure XgemSeen where
  port : BitVec 16
  first : Bool
  last : Bool
  bytes : Nat
  key : Fin 4 := 0
  slot : Nat := 0
  ofs : BitVec 20 := 0
  deriving DecidableEq, Repr

/-- What a codeword carries once decoded (R56, R59, R60, R66): whether it was correctable, the bits corrected, the
header of a first codeword (HEC verdict and ONU-ID), whether the response overlapped other light (R76), its DBRus and
XGEM fragments, and the 1 bits of the BIP-32 difference where it holds the trailer. -/
structure CwResult where
  ok : Bool
  corrected : Nat
  header : Option (Bool × BitVec 10)
  overlap : Bool
  dbrus : List DbruSeen
  xgems : List XgemSeen
  bip : Option Nat
  deriving DecidableEq, Repr

/-- Where a codeword's data comes from: decoder j, or a burst with FEC off, which bypasses the pool (R58). -/
inductive CwFrom where
  | decoder (j : Fin 16)
  | bypass (tree : Fin 48) (bits : Nat) (first last : Bool)
  deriving DecidableEq, Repr

/-- The kind of an upstream PLOAM message (R89). -/
inductive UpKind where
  | serialNumber | registration | dyingGasp | other
  deriving DecidableEq, Repr

/-- The integrity check of an upstream PLOAM message (R89): its verdict, and whether its burst was a response that
overlapped other light (R76). -/
structure PloamCheck where
  ok : Bool
  overlap : Bool
  deriving DecidableEq, Repr

/-- A PTP event message in transmission (R278): its messageType, its sequenceId, and whether it is a Sync with
twoStepFlag 0 or a Delay_Req. -/
structure PtpMsg where
  type : BitVec 4
  seq : BitVec 16
  oneStep : Bool
  deriving DecidableEq, Repr

/-- Where a pattern checker stands (R37, R283): the lane of a tree, or a network lane. -/
inductive PrbsAt where
  | tree (n : Fin 48)
  | lane (n : Fin 32)
  deriving DecidableEq, Repr

/-- An edge at the PPS_IN ball (R271): its direction, and whether the level after it held for 50 ns. -/
structure PpsSeen where
  rising : Bool
  held : Bool
  deriving DecidableEq, Repr

/-- What ECC found in the buffer reads of a transmission decision (R209, R222): the granule and whether the error is
uncorrectable, for the frame in transmission and for the frame that starts. -/
structure TxRead where
  cur : Option (Nat × Bool) := none
  next : Option (Nat × Bool) := none
  deriving DecidableEq, Repr

/-- What a frame for TMU is (R216): an upstream frame of a tree group with its action's class, an IEEE 1914.3 packet of
a tree group's lane, the device's own traffic, a host injection with its class. -/
inductive TmuKind where
  | upstream (group cls : Fin 8)
  | crl (group : Fin 8)
  | system
  | injection (cls : Fin 8)
  deriving DecidableEq, Repr

/-- An upstream container when its last segment is decoded (R153, R159): the segments that arrived and whether they are all of
it and in one allocation of the lane's cell, its four header words, the bytes between the header and the tag as received, its
Key Index, its tag (empty without one), the downstream frame whose map carried its allocation, and the byte offset of its first
XGEM header from the first byte after the allocation's DBRu (R244). -/
structure CrlContainer where
  segs : Nat
  whole : Bool
  w0 : BitVec 32
  w1 : BitVec 32
  w2 : BitVec 32
  w3 : BitVec 32
  payload : List (BitVec 8)
  keyIndex : Fin 4
  tag : List (BitVec 8)
  frame : BitVec 51
  ofs : BitVec 20
  deriving DecidableEq, Repr

/-- One bit time's worth of a slot of an overhead port, 16 of them: the three samples of each bit of OHP_DI (R164). -/
structure OhSamples where
  early : BitVec 16
  mid : BitVec 16
  late : BitVec 16
  deriving DecidableEq, Repr

/-- What follows the VLAN tags of a frame (R173): IPv4 with its destination and whether it is UDP to port 319 or 320; IPv6
with its destination; IEEE 1914.3 (EtherType 0xFC3D) with its flowID, its payload and its timing field as PTP ns; Mbakin
(0x88B5); PTP (0x88F7); anything else. -/
inductive L3 where
  | ipv4 (dst : BitVec 32) (udpPtp : Bool)
  | ipv6 (dst : BitVec 128)
  | roe (flow : BitVec 8) (payload : List (BitVec 8)) (pt : Nat)
  | mbakin | ptp | other
  deriving DecidableEq, Repr

/-- A parsed Ethernet header (R173): addresses, whether a VLAN tag is present, the outer VID (0 untagged). -/
structure FrameHdr where
  dst : BitVec 48
  src : BitVec 48
  tagged : Bool
  vid : BitVec 12
  l3 : L3
  deriving DecidableEq, Repr

/-- A frame that enters a pipeline: the oldest downstream frame it has not classified, or the oldest upstream SDU of its
trees, with its bytes. -/
inductive ClsIn where
  | down
  | up (bytes : List Byte)
  deriving DecidableEq, Repr

/-- A received PTP message (R276): messageType, domainNumber, the timeTransmitter's clockIdentity, whether the profile's
BMCA prefers it, the UTC offset of an Announce, the meanPathDelay a Delay_Resp yields, and its bytes. -/
structure PtpRx where
  type : BitVec 4
  domain : BitVec 8
  source : BitVec 64
  best : Bool
  utc : BitVec 16
  mpd : BitVec 32
  bytes : List Byte
  deriving DecidableEq, Repr

/-- A partner heartbeat as it is received (R291, R292): its CRC-32, the block lock of the two lanes, PAIR_ID, device
number, frame, ROLE, EPOCH, PMODE, whether the sender is the home unit, score, the four flags, whether the sender follows
this unit's time, the PTP time of its frame start, the last heartbeat it accepted with its own time of receipt, and
whether its image's widths, profiles, URO or witness differ (R294). Times are in 2^−16 ns. A message of any kind whose CRC fails
reads as no message of its kind: it comes as a heartbeat with crcOk false (log entry 123). -/
structure Heartbeat where
  crcOk : Bool
  p0 : Bool
  p1 : Bool
  pairId : BitVec 10
  dev : BitVec 10
  frame : Nat
  role : BitVec 3
  epoch : BitVec 32
  pmode : BitVec 2
  home : Bool
  score : BitVec 8
  sync : Bool
  ready : Bool
  live : Bool
  linkDown : Bool
  follows : Bool
  txTime : Nat
  ack : Option (Nat × Nat)
  differs : Bool
  deriving DecidableEq, Repr

/-- A change of the active's state as it reaches the standby (R36, R95, R115, R142, R161, R254). -/
inductive Delta where
  /-- a cell of the bank of a frame, without the fields hardware fills -/
  | cell (frame : Nat) (cell : BitVec 10) (w0 w1 w2 : Word)
  /-- a word of a mirrored register or table -/
  | word (sp : Machine.Sp) (inst idx word : Nat) (v : Word)
  /-- the smoker of the tree and its criterion -/
  | smoker (crit : Option (Fin 3))
  /-- a committed PLOAM key, terminal key, flow key, ring key; an invocation count -/
  | ploamKey (term : BitVec 9) (key : Nat)
  | terminalKey (d : Fin 2) (no : Nat) (key : Nat)
  | flowKey (d : Fin 2) (flow : BitVec 13) (slot : Fin 2) (key : Nat)
  | ringKey (d : Fin 2) (entry : BitVec 12) (key : Nat)
  /-- the transmit slot of a terminal after a switch -/
  | terminalSwitch (term : BitVec 10) (slot : Fin 2)
  | count (d : Fin 2) (flow : BitVec 13) (slot : Fin 2) (v : Nat)
  /-- acc, est, r and SEQ of a constant-rate lane -/
  | lane (dir : Fin 2) (lane : Fin 16) (acc est rate : Int) (seq : Nat)
  /-- a word of the tree's terminal records, presets, contexts or profiles, tagged with the frame of the comb close whose
  snapshot first includes it -/
  | tagged (frame : Nat) (sp : Machine.Sp) (idx word : Nat) (v : Word)
  /-- a pending hand-over of the tree's cluster: thread, entry, region word -/
  | swap (thread : Fin 4) (entry region : Nat)
  /-- the ONU-ID of the last witness -/
  | witness (last : Option (BitVec 9))
  deriving DecidableEq, Repr

/-- What a tree showed in an upstream frame (R28, R34, R92, R296): energy of at least 32 lane cycles anywhere; the same
outside the extended windows; the lane cycles that the longest energy in a gap of at least 100 ns outside them lasted, 0 for
none; whether at least 100 ns in total lay outside the windows. -/
structure TreeLight where
  tree : Fin 48
  energy : Bool
  outside : Bool
  stray : Nat
  gap : Bool
  deriving DecidableEq, Repr

/-- The time outside the extended windows in an upstream frame (R92), ns: in total, and the longest gap. -/
structure GapSeen where
  total : Nat
  longest : Nat
  deriving DecidableEq, Repr

/-- What a scrub pass found (R140, R193, R260, R299): a corrected error of a cluster, a pipeline or a cipher; an
uncorrectable error in a word of a cluster's instruction or data memory, an exact-match entry, a flow key
(flow × 2 + slot), a terminal key, a ring key (its entry), or elsewhere. -/
inductive ScrubError where
  | cluster (k : Fin 8)
  | program (k : Fin 8) (data : Bool) (word : BitVec 14)
  | pipeline (k : Fin 4)
  | cipher (d : Fin 2)
  | entry (k : Fin 4) (slot : BitVec 20)
  | flowKey (d : Fin 2) (no : BitVec 14)
  | terminalKey (d : Fin 2) (no : Nat)
  | ringKey (d : Fin 2) (entry : BitVec 12)
  | other
  deriving DecidableEq, Repr

/-- A Mbakin message as it is received (R311, R312): the header fields, the verdict of the check value, the body, and of a
HEARTBEAT its score, FR_ALIGNED and frame number. -/
structure MbakinMsg where
  /-- first lane of the port it arrives on -/
  port : Fin 32
  ver : BitVec 4
  type : BitVec 4
  redirected : Bool
  reply : Bool
  src : BitVec 10
  /-- none for all -/
  dst : Option (BitVec 10)
  expRole : BitVec 8
  role : BitVec 8
  epoch : BitVec 32
  expEpoch : BitVec 32
  pairId : BitVec 10
  seq : BitVec 16
  sec : BitVec 32
  ns : BitVec 30
  bodyLen : BitVec 11
  macOk : Bool
  score : BitVec 8
  frAligned : Bool
  frame : Nat
  body : List Byte
  deriving DecidableEq, Repr

end Sys2Proof
end

