-- ==== Sys2Proof/Syntax.lean ====
section
/-!
DEFINITION. The commands of the block: one constructor per row of the table, in its order. Operands of a fixed set are of a
type with just those values; what the spec gives a width is a bit vector of it.
-/

namespace Sys2Proof

/-- A command. -/
inductive Instr where
  /-- TX_MODE_RUN, R19. A write of TX_MODE from IDLE to RUN starts the transmitter exit sequence. -/
  | txModeRun (n : Fin 48)
  /-- TX_EXIT_COMPLETE, R19. The exit sequence completes: the output carries the word stream, TX_STATE becomes run and cause 13 is raised. -/
  | txExitComplete (n : Fin 48)
  /-- TX_MODE_IDLE, R39. A write of TX_MODE to IDLE returns the output to electrical idle at the next lane word and cuts the frame. -/
  | txModeIdle (n : Fin 48)
  /-- TX_PLL_UNLOCK, R20. Transmitter PLL loss of lock drives TREE_TXDIS high, drops clock-good and returns the transmit island to reset. -/
  | txPllUnlock (n : Fin 48)
  /-- TXDIS_FORCE_WRITE, R32. A write of FORCE.TXDIS_FORCE holds TREE_TXDIS high, or drives it low in test role only, and is otherwise discarded. -/
  | txdisForceWrite (n : Fin 48) (v : BitVec 2)
  /-- PRESET_DATA_ACCESS, R22. A software access to PRESET_DATA reads or writes a preset entry, resets its AGE on a write and advances the index. -/
  | presetDataAccess (n : Fin 48) (w : Option Word)
  /-- SELECTION_SEND, R114. The grant cluster presents the preset selection of an accepted burst 32 ns before its StartTime. -/
  | selectionSend (n : Fin 48)
  /-- PRESET_SELECTION, R27. A selection becomes usable in the receive island and is queued among the 4 pending selections. -/
  | presetSelection (n : Fin 48) (lead : Int)
  /-- SELECTION_LOAD, R26. The lane reads the entry, chooses the start mode, applies peaking and loads the CDR settings for the window. -/
  | selectionLoad (n : Fin 48)
  /-- MISSING_SELECTION_WINDOW, R27. At the ARRIVAL of a mapped window with no selection, the framing island opens it in acquisition mode and counts it. -/
  | missingSelectionWindow (n : Fin 48)
  /-- WINDOW_CLOSE, R35. A burst window closes: learning write-back and the burst reset strobe follow. -/
  | windowClose (n : Fin 48) (phase : CloseSeen) (beaten : Bool) (next : Option Nat)
  /-- WINDOW_ENERGY_MISS, R28. A granted window without energy in its first 64 UI is counted in MISS_CNT and attributed to the terminal. -/
  | windowEnergyMiss (n : Fin 48)
  /-- LOCK_DECLARED, R21. The CDR declares lock after 32 UI within ±0.1 UI. -/
  | lockDeclared (n : Fin 48) (ui : BitVec 16)
  /-- LOCK_FAIL, R30. A burst without lock by the end of its preamble is marked invalid and counted in LOL_CNT. -/
  | lockFail (n : Fin 48)
  /-- LOCK_LOST, R30. A burst whose phase error exceeds ±0.35 UI for 32 UI after lock is marked invalid and counted. -/
  | lockLost (n : Fin 48)
  /-- LOL_DECLARE, R30. LOL is declared after 16 consecutive bursts that failed or lost lock. -/
  | lolDeclare (n : Fin 48)
  /-- LOL_CLEAR, R30. LOL clears after 16 consecutive bursts that locked and kept lock. -/
  | lolClear (n : Fin 48)
  /-- LOS_DECLARE, R29. LOS is declared after 4 consecutive frames with windows but no energy. -/
  | losDeclare (n : Fin 48)
  /-- MODULE_PRESENCE_CHANGE, R31. The filtered TREE_PRES_N changes to present or absent and raises module inserted or removed. -/
  | modulePresenceChange (n : Fin 48) (present : Bool)
  /-- TREE_SD_CHANGE, R33. A change on TREE_SD is filtered, accepted or rejected as a glitch. -/
  | treeSdChange (n : Fin 48) (level : Bool) (samples : Nat)
  /-- CHATTER_DECLARE, R33. More than 8 rejected changes in 10 µs declare TREE_SD chattering and fall back to in-band detection. -/
  | chatterDeclare (n : Fin 48)
  /-- CHATTER_CLEAR, R33. Chattering clears after 1 ms without a rejected change. -/
  | chatterClear (n : Fin 48)
  /-- SD_ROGUE, R34. TREE_SD asserted outside every extended window for 2 whole frames is reported to rogue control at the third frame. -/
  | sdRogue (n : Fin 48)
  /-- TEST_MODE_WRITE, R37. A write of TEST.MODE takes the lane out of service into a pattern test at the next lane word. -/
  | testModeWrite (n : Fin 48) (mode : BitVec 3) (pattern : BitVec 2)
  /-- TEST_SLIP, R38. A write of 1 to TEST.SLIP moves the receive word boundary one bit later, or is ignored outside check modes. -/
  | testSlip (n : Fin 48)
  /-- PRBS_LOCK_GAIN, R37. The pattern checker sets PRBS_LOCK after 64 error-free words. -/
  | prbsLockGain (at_ : PrbsAt)
  /-- PRBS_LOCK_LOSS, R37. The pattern checker clears PRBS_LOCK after 4 consecutive words with errors. -/
  | prbsLockLoss (at_ : PrbsAt) (errs : PrbsErrors)
  /-- FS_HEADER_BUILD, R44. At T0 − 2,000 ns the framer writes the FS header, BWmap and PLOAM messages and hands codeword 0 to the encoder. -/
  | fsHeaderBuild (n : Fin 48)
  /-- MAP_DEADLINE, R50. At the step 2 deadline a frame without its BWmap is sent with an empty, void map. -/
  | mapDeadline (n : Fin 48)
  /-- FRAME_START, R49. Downstream frame k starts at the pin with its PSBd when the frame timebase reaches its instant. -/
  | frameStart (n : Fin 48)
  /-- ENCODER_SLOT, R51. Encoder E k encodes one codeword for the next running tree in round-robin order in a 54 ns slot. -/
  | encoderSlot (k : Fin 8)
  /-- CODEWORD_UNDERRUN, R52. A codeword due with an empty transmit FIFO is replaced by idle fill or an empty-header codeword for the rest of the frame. -/
  | codewordUnderrun (n : Fin 48)
  /-- FEC_EN_WRITE, R48. A write of FEC_EN = 0 takes effect only in test role and is otherwise discarded. -/
  | fecEnWrite (n : Fin 48) (v : BitVec 1)
  /-- DS_EN_WRITE, R53. A write of DS_EN switches between building frames and sending empty-header frames. -/
  | dsEnWrite (n : Fin 48) (v : BitVec 1)
  /-- PONID_HI_WRITE, R69. A write of PONID_HI makes the PON-ID structure take effect at the next frame start. -/
  | ponidHiWrite (n : Fin 48) (v : BitVec 19)
  /-- SFC_LO_READ, R70. A read of SFC_LO returns the superframe counter and latches SFC_HI. -/
  | sfcLoRead (n : Fin 48)
  /-- DELIMITER_ACCEPT, R55. A delimiter is matched in a window; its offset is stored as DLM_OFS and may be passed on as drift. -/
  | delimiterAccept (n : Fin 48) (ofs : DelimiterSeen)
  /-- DELIMITER_MISS, R55. A window with no match by its end loses its burst and is counted in DLM_MISS_CNT. -/
  | delimiterMiss (n : Fin 48)
  /-- BURST_OVERRUN, R57. Energy continuing into the next window discards the following burst and is reported to rogue control. -/
  | burstOverrun (n : Fin 48)
  /-- CODEWORD_QUEUED, R63. A completed upstream codeword enters its tree group's decoder queue. -/
  | codewordQueued (n : Fin 48) (bits : BitVec 15) (first : Bool) (last : Bool)
  /-- DECODER_DISPATCH, R62. Each cycle every free decoder takes the oldest waiting codeword of the pool. -/
  | decoderDispatch
  /-- KV_CHECK_DONE, R65. A known-vector check ends; a failure takes the decoder out of service, a pass returns it to service. -/
  | kvCheckDone (j : Fin 16) (pass : Bool)
  /-- CODEWORD_DECODED, R66. A decoded codeword returns to the framing island and its headers, DBRu, PLOAMu and XGEM frames are processed. -/
  | codewordDecoded (src : CwFrom) (r : CwResult)
  /-- CODEWORD_AGE_DISCARD, R64. A codeword whose wait reaches DP_CFG.MAX_AGE is discarded and counted as uncorrectable. -/
  | codewordAgeDiscard
  /-- DEC_EN_WRITE, R65. A write of DEC_EN takes a decoder out of service or clears its failed mark for a return check. -/
  | decEnWrite (j : Fin 16) (v : Bool)
  /-- REASM_TIMEOUT, R60. A reassembly context without a fragment for REASM_TO frames is discarded. -/
  | reasmTimeout (n : Fin 48) (port : BitVec 16)
  /-- DEG_WINDOW_TIMEOUT, R67. A degraded-signal window closes after MAX_WIN and is judged. -/
  | degWindowTimeout (n : Fin 48) (t : BitVec 9)
  /-- DEG_DECLARE, R67. DEG is declared after DECL_N consecutive windows above the threshold. -/
  | degDeclare (n : Fin 48) (t : BitVec 9)
  /-- DEG_CLEAR, R67. DEG clears after CLR_N consecutive windows below the threshold. -/
  | degClear (n : Fin 48) (t : BitVec 9)
  /-- DEG_CFG_WRITE, R68. A write to DEG_CFG closes every open window of the tree as inconclusive. -/
  | degCfgWrite (n : Fin 48) (w : Word)
  /-- DEG_EN_CLEAR, R68. A write of DEG_EN = 0 clears every DEG of the tree without a cause. -/
  | degEnClear (n : Fin 48)
  /-- SERIAL_NUMBER_ONU, R77. A Serial_Number_ONU message that passes its check is handled by the admission table. -/
  | serialNumberOnu (n : Fin 48) (r : SerialResponse)
  /-- REGISTRATION, R79. A decoded Registration message yields RTD and EqD and queues Ranging_Time. -/
  | registration (n : Fin 48) (t : BitVec 9) (a : Nat) (start : GrantRef)
  /-- RANGING_TIMEOUT, R78. No Registration by the end of the RNG_TO upstream frame fails ranging and deactivates the record. -/
  | rangingTimeout (n : Fin 48) (t : BitVec 9)
  /-- LOB_DECLARE, R83. MISS_N consecutive missed windows declare loss of burst and move the record to LOST. -/
  | lobDeclare (n : Fin 48) (t : BitVec 9)
  /-- LOB_HOLD_EXPIRY, R83. A LOST record without a burst for LOB_HOLD frames is deactivated. -/
  | lobHoldExpiry (n : Fin 48) (t : BitVec 9)
  /-- DYING_GASP, R84. A dying-gasp indication deactivates the terminal at once. -/
  | dyingGasp (n : Fin 48) (t : BitVec 9)
  /-- TCMD_DEACTIVATE, R86. TCMD OP 0b000 deactivates the terminal by R85. -/
  | tcmdDeactivate (n : Fin 48) (t : BitVec 9)
  /-- TCMD_DISABLE, R86. TCMD OP 0b001 sends Disable_Serial_Number and moves the record to DISABLED. -/
  | tcmdDisable (n : Fin 48) (t : BitVec 9)
  /-- TCMD_ENABLE, R86. TCMD OP 0b010 sends the enable form and returns a DISABLED record to FREE. -/
  | tcmdEnable (n : Fin 48) (t : BitVec 9)
  /-- TCMD_RE_RANGE, R86. TCMD OP 0b011 returns an OPERATING record to RANGING with a new ranging request. -/
  | tcmdReRange (n : Fin 48) (t : BitVec 9)
  /-- TCMD_ENABLE_ALL, R86. TCMD OP 0b100 sends enable-all and returns every DISABLED record to FREE. -/
  | tcmdEnableAll (n : Fin 48) (t : BitVec 9)
  /-- PLOAM_UPSTREAM, R89. An upstream PLOAM message is integrity-checked and consumed or sent to the host. -/
  | ploamUpstream (n : Fin 48) (t : BitVec 9) (kind : UpKind) (ok : PloamCheck) (body : List Byte)
  /-- PLOAM_KEY_COMMIT, R88. A write of KEY_DATA word 3 commits a terminal's PLOAM integrity key. -/
  | ploamKeyCommit (n : Fin 48) (w : Word)
  /-- TOD_REQUEST, R90. A write of TOD_N_HI starts computing the pin time of frame N. -/
  | todRequest (n : Fin 48) (v : BitVec 19)
  /-- TOD_DONE, R90. T_N is stored in the TOD registers and TOD_BUSY clears. -/
  | todDone (n : Fin 48)
  /-- ROGUE_CRITERION, R92. A rogue criterion is met and raises its cause, starting the smoker when enabled. -/
  | rogueCriterion (n : Fin 48) (crit : Fin 3)
  /-- SMOKER_OBSERVE, R93. After SETTLE frames the smoker judges the next frame and halves the candidates or ends. -/
  | smokerObserve (n : Fin 48) (gap : GapSeen) (light : Nat)
  /-- SMOKER_STOP, R95. A write of SMK_EN = 0 ends the smoker after its current round with restore(). -/
  | smokerStop (n : Fin 48)
  /-- COMB_CLOSE, R108. At T0 − 4,000 ns the comb freezes, is snapshotted, sorted, checked and emitted as the BWmap. -/
  | combClose (n : Fin 48)
  /-- CELL_DATA_WRITE, R102. A software write of CELL_DATA word 0 commits a cell to the open bank or is refused. -/
  | cellDataWrite (n : Fin 48) (w : Word)
  /-- WIT_CFG_WRITE, R118. A write of WIT_CFG changes the witness slot from the next close unless a fixed cell overlaps it. -/
  | witCfgWrite (n : Fin 48) (long : Bool) (start : BitVec 17)
  /-- ALLOC_CONTEXT_COMMIT, R119. A write of ALLOC_DATA word 1 commits an allocation context or refuses a duplicate Alloc-ID. -/
  | allocContextCommit (n : Fin 48) (w : Word)
  /-- MIRROR_DELTA, R115. The standby applies a mirrored comb or state delta received over the partner link. -/
  | mirrorDelta (n : Fin 48) (d : Delta) (crcOk : Bool)
  /-- MIRROR_CLOSE_MARKER, R115. The standby closes its comb when the close marker arrives and runs the close on its mirrored bank. -/
  | mirrorCloseMarker (n : Fin 48)
  /-- ADD, R127. rd = ra + rb modulo 2^32. -/
  | add (k : Fin 8) (t : Fin 4)
  /-- SUB, R127. rd = ra − rb modulo 2^32. -/
  | sub (k : Fin 8) (t : Fin 4)
  /-- AND, R127. Bitwise AND of ra and rb. -/
  | and (k : Fin 8) (t : Fin 4)
  /-- OR, R127. Bitwise OR of ra and rb. -/
  | or (k : Fin 8) (t : Fin 4)
  /-- XOR, R127. Bitwise XOR of ra and rb. -/
  | xor (k : Fin 8) (t : Fin 4)
  /-- SHL, R127. ra shifted left by rb[4:0]. -/
  | shl (k : Fin 8) (t : Fin 4)
  /-- SHR, R127. ra shifted right logically by rb[4:0]. -/
  | shr (k : Fin 8) (t : Fin 4)
  /-- MINU, R127. Unsigned minimum of ra and rb. -/
  | minu (k : Fin 8) (t : Fin 4)
  /-- MAXU, R127. Unsigned maximum of ra and rb. -/
  | maxu (k : Fin 8) (t : Fin 4)
  /-- SLTU, R127. rd = 1 if ra < rb unsigned, else 0. -/
  | sltu (k : Fin 8) (t : Fin 4)
  /-- MUL, R127. Low 32 bits of ra × rb. -/
  | mul (k : Fin 8) (t : Fin 4)
  /-- ADDI, R127. rd = ra + sign-extended immediate. -/
  | addi (k : Fin 8) (t : Fin 4)
  /-- ANDI, R127. Bitwise AND with the zero-extended immediate. -/
  | andi (k : Fin 8) (t : Fin 4)
  /-- ORI, R127. Bitwise OR with the zero-extended immediate. -/
  | ori (k : Fin 8) (t : Fin 4)
  /-- XORI, R127. Bitwise XOR with the zero-extended immediate. -/
  | xori (k : Fin 8) (t : Fin 4)
  /-- SHLI, R127. Shift left by imm[4:0]. -/
  | shli (k : Fin 8) (t : Fin 4)
  /-- SHRI, R127. Shift right logically by imm[4:0]. -/
  | shri (k : Fin 8) (t : Fin 4)
  /-- LUI, R127. rd = imm << 14. -/
  | lui (k : Fin 8) (t : Fin 4)
  /-- SLTUI, R127. rd = 1 if ra < zero-extended immediate. -/
  | sltui (k : Fin 8) (t : Fin 4)
  /-- LD, R127. Load a data memory word; a misaligned or out-of-range address faults. -/
  | ld (k : Fin 8) (t : Fin 4)
  /-- ST, R127. Store rd to a data memory word; a misaligned or out-of-range address faults. -/
  | st (k : Fin 8) (t : Fin 4)
  /-- AMADD, R127. Atomic fetch-and-add on a data memory word through the atomic unit. -/
  | amadd (k : Fin 8) (t : Fin 4)
  /-- BEQ, R127. Branch if ra = rb. -/
  | beq (k : Fin 8) (t : Fin 4)
  /-- BNE, R127. Branch if ra ≠ rb. -/
  | bne (k : Fin 8) (t : Fin 4)
  /-- BLTU, R127. Branch if ra < rb unsigned. -/
  | bltu (k : Fin 8) (t : Fin 4)
  /-- BGEU, R127. Branch if ra ≥ rb unsigned. -/
  | bgeu (k : Fin 8) (t : Fin 4)
  /-- BST, R127. Branch if ST equals the given status code. -/
  | bst (k : Fin 8) (t : Fin 4)
  /-- BSTN, R127. Branch if ST differs from the given status code. -/
  | bstn (k : Fin 8) (t : Fin 4)
  /-- JMP, R127. Jump to the target address. -/
  | jmp (k : Fin 8) (t : Fin 4)
  /-- JAL, R127. g15 = address + 1 and jump. -/
  | jal (k : Fin 8) (t : Fin 4)
  /-- JR, R127. Jump to ra[13:0]. -/
  | jr (k : Fin 8) (t : Fin 4)
  /-- ILLEGAL_INSTRUCTION, R140. An illegal word or a fetch outside the region faults the thread. -/
  | illegalInstruction (k : Fin 8) (t : Fin 4)
  /-- POPR, R129. Pop the oldest report of the masked trees, return a latched event, block, or return EMPTY. -/
  | popr (k : Fin 8) (t : Fin 4)
  /-- POPA, R130. Pop the oldest activation record, return a latched event, block, or return EMPTY. -/
  | popa (k : Fin 8) (t : Fin 4)
  /-- WFE, R138. Wait for a frame event, returning and clearing the latched events and the mailbox. -/
  | wfe (k : Fin 8) (t : Fin 4)
  /-- THREAD_WAKE, R129. A blocked POPR, POPA or WFE returns 2 cycles after its report, record or event arrives. -/
  | threadWake (k : Fin 8) (t : Fin 4)
  /-- CWR, R131. Store a cell to the open bank and return the frame it landed in and its status. -/
  | cwr (k : Fin 8) (t : Fin 4) (race : Fin 3)
  /-- CRD, R131. Read a cell from the open or frozen bank. -/
  | crd (k : Fin 8) (t : Fin 4)
  /-- PLF, R104. Place or remove the thread's fixed cell under the reserved-interval checks. -/
  | plf (k : Fin 8) (t : Fin 4) (lost : Bool)
  /-- DUR, R131. Compute a burst footprint with guard, returning STALE when the long profile would be used. -/
  | dur (k : Fin 8) (t : Fin 4)
  /-- CTXR, R127. Read two words of an allocation context. -/
  | ctxr (k : Fin 8) (t : Fin 4)
  /-- CTXW, R132. Write a program word of an allocation context. -/
  | ctxw (k : Fin 8) (t : Fin 4) (lost : Bool)
  /-- TBU, R133. Refill a context's credit and grant from it against a request. -/
  | tbu (k : Fin 8) (t : Fin 4) (lost : Bool)
  /-- PLS, R134. Step a poll list atomically to its next unskipped entry. -/
  | pls (k : Fin 8) (t : Fin 4)
  /-- EMP, R135. Copy a PLOAM body to a tree's normal PLOAM queue or return FULL. -/
  | emp (k : Fin 8) (t : Fin 4)
  /-- EVR, R136. Raise a program event on one of the cluster's event sources. -/
  | evr (k : Fin 8) (t : Fin 4)
  /-- FRM, R127. Return the open bank's frame number and the cycles to its comb close. -/
  | frm (k : Fin 8) (t : Fin 4)
  /-- TICK_EVENT, R137. The TICK event is latched TICK_CFG.LEAD × 8 ns before each CLOSE. -/
  | tickEvent (k : Fin 8)
  /-- WATCHDOG_FAULT, R140. A thread without a wait primitive for WDOG.CYCLES cycles faults with FCODE 5. -/
  | watchdogFault (k : Fin 8) (t : Fin 4)
  /-- THREAD_ENABLE, R148. A write of TEN from 0 to 1 starts the thread at THR_ENTRY with cleared state. -/
  | threadEnable (k : Fin 8) (t : Fin 4)
  /-- THREAD_DISABLE, R148. A write of TEN from 1 to 0 stops the thread after its current instruction. -/
  | threadDisable (k : Fin 8) (t : Fin 4)
  /-- THR_REGION_WRITE, R148. A write of THR_REGION is refused while the thread is enabled. -/
  | thrRegionWrite (k : Fin 8) (t : Fin 4) (w : Word)
  /-- HANDOVER_REQUEST, R145. A write of SWAP.GO checks a hand-over request and makes it pending or refuses it. -/
  | handoverRequest (k : Fin 8) (t : Fin 4)
  /-- MAILBOX_WRITE, R149. A write of MBX latches MSG for the thread and counts an overwrite. -/
  | mailboxWrite (k : Fin 8) (t : Fin 4) (w : Word)
  /-- IMEM_WRITE, R148. A write of IMEM_DATA stores an instruction word or is refused inside an enabled region or in standby. -/
  | imemWrite (k : Fin 8) (w : Word)
  /-- DMEM_WRITE, R139. A software write of DMEM_DATA stores a data memory word. -/
  | dmemWrite (k : Fin 8) (w : Word)
  /-- CTX_DATA_WRITE, R139. A software write of CTX_DATA stores a context word, winning a same-cycle program write. -/
  | ctxDataWrite (k : Fin 8) (w : Word)
  /-- TRACE_CTL_WRITE, R147. A write of TRACE_CTL sets sampling; EN from 0 to 1 empties the buffer. -/
  | traceCtlWrite (k : Fin 8) (w : Word)
  /-- TRACE_FULL, R147. The trace buffer fills in stop mode, sets FULL and raises cause 25. -/
  | traceFull (k : Fin 8)
  /-- CRL_BIND, R155. BIND.GO with OP bind checks a lane binding and binds it, placing its fixed cell upstream. -/
  | crlBind (dir : Fin 2) (n : Fin 48) (l : Fin 16)
  /-- CRL_UNBIND, R156. BIND.GO with OP unbind releases a lane and removes its fixed cell. -/
  | crlUnbind (dir : Fin 2) (n : Fin 48) (l : Fin 16)
  /-- CRL_BUILD, R157. At the build instant a downstream container is justified and built. -/
  | crlBuild (n : Fin 48) (l : Fin 16) (ofs : BitVec 20)
  /-- CRL_CONTAINER_DEADLINE, R158. A container not in the framing island by T0 − 2,000 ns is left out of the frame. -/
  | crlContainerDeadline (n : Fin 48) (l : Fin 16)
  /-- CRL_CONTAINER_RX, R159. An upstream container is checked when its last segment is decoded and written to the egress FIFO. -/
  | crlContainerRx (n : Fin 48) (l : Fin 16) (c : CrlContainer)
  /-- CRL_CONTAINER_MISSING, R159. A container not passed by its allocation end plus 1 µs is missing and repeated from the slip buffer. -/
  | crlContainerMissing (n : Fin 48) (l : Fin 16)
  /-- CRL_SYNC_ENTER, R159. A lane enters sync after 3 consecutive passing containers. -/
  | crlSyncEnter (n : Fin 48) (l : Fin 16)
  /-- CRL_SYNC_LEAVE, R159. A lane leaves sync after 8 consecutive missing or discarded containers. -/
  | crlSyncLeave (n : Fin 48) (l : Fin 16)
  /-- LABEL_ACCEPT, R162. A label carried by 3 consecutive containers is accepted and judged against LABEL_EXP. -/
  | labelAccept (n : Fin 48) (l : Fin 16)
  /-- CRL_PACKET_EMIT, R160. The packetizer emits an IEEE 1914.3 packet of paced bytes with its presentation time. -/
  | crlPacketEmit (n : Fin 48) (l : Fin 16)
  /-- ROE_PACKET_RX, R167. A downstream IEEE 1914.3 packet is checked and accepted or discarded. -/
  | roePacketRx (n : Fin 48) (l : Fin 16) (flow : BitVec 8) (payload : List (BitVec 8)) (pt : Nat)
  /-- ROE_PACKET_PRESENT, R167. An accepted packet is written into the lane FIFO at its presentation time, filling any gap. -/
  | roePacketPresent (n : Fin 48) (l : Fin 16)
  /-- OHP_PERIOD, R164. An overhead period starts with the OHP_FS pulse and shifts the 32 channel slots in and out. -/
  | ohpPeriod (p : Fin 8) (words : List OhSamples)
  /-- OHP_CHANNEL_WRITE, R165. A write of CH_DATA maps a channel or is refused for a second IN mapping. -/
  | ohpChannelWrite (p : Fin 8) (w : Word)
  /-- CRL_LANE_WRITE, R168. A write to lane words 0 to 4 of a bound lane is refused. -/
  | crlLaneWrite (w : Word)
  /-- CLS_FRAME, R173. A frame header enters a pipeline, is trapped or looked up in its slot, and takes its action. -/
  | clsFrame (k : Fin 4) (f : ClsIn)
  /-- CLS_SECOND_SLOT, R179. An IPv6 frame with a continuation runs a long-prefix exact-match lookup. -/
  | clsSecondSlot (k : Fin 4)
  /-- LEARN_APPLY, R182. A queued learn, refresh or move is applied to the exact-match table. -/
  | learnApply (k : Fin 4)
  /-- RELOCATION_CLEAR, R177. 24 cycles after a relocation write, the old slot is cleared and its HIT carried. -/
  | relocationClear (k : Fin 4)
  /-- MERGE, R183. The merge stage combines four lookup results, allocates once and sends conditional clears. -/
  | merge
  /-- CONDITIONAL_CLEAR, R183. A conditional clear removes an entry only if it still holds the STAMP carried. -/
  | conditionalClear (k : Fin 4)
  /-- AGING_VISIT, R184. The aging sweep visits a bucket, clearing HIT or removing entries. -/
  | agingVisit (k : Fin 4) (hits : BitVec 4)
  /-- EM_INSERT, R187. EM_CMD OP 0b000 inserts or updates the staged entry. -/
  | emInsert (k : Fin 4) (slot : BitVec 20)
  /-- EM_DELETE, R187. EM_CMD OP 0b001 deletes an entry by key. -/
  | emDelete (k : Fin 4) (slot : BitVec 20)
  /-- EM_SEARCH, R187. EM_CMD OP 0b010 searches for the staged key. -/
  | emSearch (k : Fin 4) (slot : BitVec 20)
  /-- EM_READ_SLOT, R187. EM_CMD OP 0b011 reads the entry at SLOT. -/
  | emReadSlot (k : Fin 4) (slot : BitVec 20)
  /-- EM_FLUSH_LEARNED, R187. EM_CMD OP 0b100 flushes every learned entry. -/
  | emFlushLearned (k : Fin 4) (slot : BitVec 20)
  /-- EM_FLUSH_TREE, R187. EM_CMD OP 0b101 flushes the learned entries of one local tree. -/
  | emFlushTree (k : Fin 4) (slot : BitVec 20)
  /-- EM_CMD_DONE, R187. An exact-match command completes with its RESULT and a held command starts. -/
  | emCmdDone (k : Fin 4)
  /-- LPM_ADD, R180. LPM_CMD OP 0b00 adds or replaces a prefix in all four tries. -/
  | lpmAdd
  /-- LPM_DELETE, R180. LPM_CMD OP 0b01 deletes a prefix from all four tries. -/
  | lpmDelete
  /-- LPM_FLUSH_V4, R180. LPM_CMD OP 0b10 flushes the IPv4 tries. -/
  | lpmFlushV4
  /-- LPM_FLUSH_V6, R180. LPM_CMD OP 0b11 flushes the IPv6 tries. -/
  | lpmFlushV6
  /-- LPM_CMD_DONE, R180. An LPM command completes, clearing BUSY and starting any held command. -/
  | lpmCmdDone
  /-- HASH_SEED_WRITE, R188. A write of a hash seed takes effect only while the table is empty. -/
  | hashSeedWrite (k : Fin 4) (i : Fin 2) (w : Word)
  /-- TABLE_ENTRY_COMMIT, R185. A write of a table's last TBL_DATA word commits the entry or refuses a foreign tree. -/
  | tableEntryCommit (k : Fin 4) (w : Word)
  /-- ALLOC, R199. An allocation request of a length and class is queued for its pool's arbiter. -/
  | alloc (r : Fin 32) (control : Bool) (len : BitVec 15) (count : BitVec 8) (holders : Word)
  /-- SHARE, R200. A SHARE raises a buffer's count and sets a holder bit after the checks. -/
  | share (r : Fin 32) (h : Word) (n : BitVec 8) (dst : Fin 32)
  /-- FREE, R200. A FREE lowers a buffer's count and returns it to the free list at 0. -/
  | free (r : Fin 32) (h : Word)
  /-- TRANSFER, R200. A TRANSFER moves a buffer's ownership and charge to another requester. -/
  | transfer (r : Fin 32) (h : Word) (dst : Fin 32)
  /-- BUFFER_ARBITRATION, R204. Each cycle each pool grants eligible queue heads or answers NO_BUFFER. -/
  | bufferArbitration
  /-- BUFFER_ACCESS, R206. An HBM read or write of a handle and offset is checked and performed. -/
  | bufferAccess (r : Fin 32) (h : Word) (ofs : BitVec 15) (len : BitVec 15) (data : Option (List Byte)) (ecc : Option (Nat × Bool))
  /-- POOL_LOCK, R197. A write of CTL.LOCK fixes the pool split and starts building the free lists, or is refused. -/
  | poolLock
  /-- FREE_LIST_DONE, R198. Every pool is listed and INIT_BUSY clears. -/
  | freeListDone
  /-- QUOTA_COMMIT, R203. A write of QUOTA_DATA word 1 commits MIN and MAX or is refused. -/
  | quotaCommit (w : Word)
  /-- RECLAIM_DONE, R207. The reclaim sweep completes and raises cause 13. -/
  | reclaimDone
  /-- DESC_SNAPSHOT, R210. A write of DESC_HANDLE snapshots the descriptor into DESC0 to DESC2. -/
  | descSnapshot (h : Word)
  /-- HBM_TEMP_SAMPLE, R209. A stack temperature sample is compared with TEMP_WARN. -/
  | hbmTempSample (st : Fin 2) (t : BitVec 8)
  /-- HBM_PHY_TRAIN_LOSS, R209. Loss of PHY training starts retraining with requests held. -/
  | hbmPhyTrainLoss (st : Fin 2)
  /-- HBM_RETRAIN_DONE, R209. The PHY retrain completes and held requests resume. -/
  | hbmRetrainDone (st : Fin 2)
  /-- TMD_ENQUEUE, R215. A downstream frame enters its queue or is discarded for no queue or tail drop. -/
  | tmdEnqueue (n : Fin 48) (port : BitVec 16) (h : Word) (len : BitVec 14)
  /-- TMD_DEQUEUE_OFFER, R223. The framer offers space and TMD answers with a selected frame or NONE. -/
  | tmdDequeueOffer (n : Fin 48)
  /-- TMD_FRAME_TAKEN, R224. The framer has taken a frame's last byte and TMD frees its reference. -/
  | tmdFrameTaken (n : Fin 48) (ecc : Option (Nat × Bool))
  /-- NOFRAG_RETURN, R225. The framer returns a no-fragment frame and its queue is held until the next frame start. -/
  | nofragReturn (n : Fin 48)
  /-- TREE_DEAD, R226. A tree without space offers for FLUSH_TO becomes dead and its frames are discarded. -/
  | treeDead (n : Fin 48)
  /-- TMU_ENQUEUE, R216. A frame enters its TMU queue by source and class or is discarded. -/
  | tmuEnqueue (p : Fin 32) (k : TmuKind) (h : Word) (len : BitVec 14) (m : Option PtpMsg)
  /-- TMU_TX_DECISION, R227. At a frame end or gate event TMU selects and sends the next frame under the brim rules. -/
  | tmuTxDecision (p : Fin 32) (rd : TxRead)
  /-- GATE_EVENT, R228. A gate control list entry takes effect at its PTP time. -/
  | gateEvent (p : Fin 32)
  /-- PREEMPT_CUT, R230. A preemptable frame is cut at the first allowed point for a ready express frame. -/
  | preemptCut (p : Fin 32)
  /-- GATE_CHANGE_REQUEST, R231. A write of GATE_CTL.CHANGE checks the admin bank and sets PENDING or is refused. -/
  | gateChangeRequest (p : Fin 32) (w : Word)
  /-- GATE_LIST_CHANGE, R231. At the change instant the admin bank becomes operational. -/
  | gateListChange (p : Fin 32)
  /-- CUT_THROUGH_OFFER, R232. TMU takes a cut-through offer from the upstream cipher or stores the frame. -/
  | cutThroughOffer (p : Fin 32) (g : Fin 8) (c : Fin 8) (h : Word) (len : BitVec 14)
  /-- NODE_WRITE, R236. A write of node word 1 commits words 0 and 1 of a scheduling node or is refused. -/
  | nodeWrite (m : Fin 2) (w : Word)
  /-- SHAPER_WRITE, R220. A write of RATE or BURST refills at the old rate and clips tokens to the new burst. -/
  | shaperWrite (m : Fin 2) (w : Word)
  /-- CIPHER_DS_SDU, R244. The downstream cipher treats an SDU by its Port-ID mode and builds its IV. -/
  | cipherDsSdu (n : Fin 48) (port : BitVec 16) (len : BitVec 14) (ofs : BitVec 20) (bytes : List Byte)
  /-- CIPHER_US_SDU, R240. The upstream cipher checks the Key Index and decrypts or checks an SDU. -/
  | cipherUsSdu (n : Fin 48) (ki : Fin 4) (frame : BitVec 51) (index : BitVec 38) (whole : Bool) (tagOk : Bool) (micOk : Bool) (bytes : List Byte)
  /-- CT_TAG_CHECK, R251. A cut-through SDU's tag check completes and its frame ends with a good or stomped FCS. -/
  | ctTagCheck (ok : Bool)
  /-- INVOCATION_WARNING, R248. The active slot count reaches 2^35 and raises cause 3. -/
  | invocationWarning (d : Fin 2) (f : BitVec 13)
  /-- FLOW_HOLD, R248. The active slot count reaches 2^36 and the flow is held. -/
  | flowHold (d : Fin 2) (f : BitVec 13)
  /-- FLOW_KEY_COMMIT, R249. A write of FKEY_DATA word 7 commits a flow key into the inactive slot. -/
  | flowKeyCommit (d : Fin 2) (w : Word)
  /-- TERMINAL_KEY_COMMIT, R241. A write of TKEY_DATA word 3 commits a terminal or broadcast key. -/
  | terminalKeyCommit (d : Fin 2) (w : Word)
  /-- RING_KEY_COMMIT, R250. A write of RING_DATA word 7 commits a ring key. -/
  | ringKeyCommit (d : Fin 2) (w : Word)
  /-- REKEY_TERMINAL_SWITCH, R241. REKEY OP 0b00 switches a terminal's transmit slot. -/
  | rekeyTerminalSwitch (d : Fin 2) (n : Fin 48) (t : BitVec 10)
  /-- REKEY_FLOW_SWITCH, R249. REKEY OP 0b01 switches a flow's transmit slot at the next frame start. -/
  | rekeyFlowSwitch (d : Fin 2) (f : BitVec 13)
  /-- REKEY_LOAD_RING, R257. REKEY OP 0b10 loads the next ring key into the inactive slot. -/
  | rekeyLoadRing (d : Fin 2) (f : BitVec 13)
  /-- REKEY_CLEAR_SLOT, R249. REKEY OP 0b11 clears the inactive slot in both islands. -/
  | rekeyClearSlot (d : Fin 2) (f : BitVec 13)
  /-- OLD_SLOT_EXPIRY, R250. The old slot after an automatic rekey is cleared after 8,000 frames. -/
  | oldSlotExpiry (d : Fin 2) (f : BitVec 13)
  /-- FLOW_WRITE, R256. A write of FLOW_DATA word 0 changes a flow, refused while VALID = 1 except for clearing VALID. -/
  | flowWrite (d : Fin 2) (w : Word)
  /-- CIPHER_PORT_WRITE, R242. A write of PORT_DATA sets a Port-ID's treatment, refusing OMCI with a sealed mode. -/
  | cipherPortWrite (d : Fin 2) (w : Word)
  /-- PORT_CFG_WRITE, R262. A write of PORT_CFG enables or configures a port, or is refused. -/
  | portCfgWrite (n : Fin 32) (w : Word)
  /-- AN_COMPLETE, R264. Auto-negotiation completes and link training starts on every lane of the port. -/
  | anComplete (n : Fin 32)
  /-- LINK_UP, R264. Training and PCS alignment hold for 1 ms and the link comes up. -/
  | linkUp (n : Fin 32)
  /-- LT_TIMEOUT, R265. The 500 ms attempt limit expires and the port backs off. -/
  | ltTimeout (n : Fin 32)
  /-- LT_SIGNAL_LOSS, R265. Signal loss or silent partner during training ends the attempt and starts a backoff. -/
  | ltSignalLoss (n : Fin 32)
  /-- BACKOFF_END, R265. The backoff ends and a new bring-up attempt starts. -/
  | backoffEnd (n : Fin 32)
  /-- LINK_DOWN, R266. Alignment, signal or local fault loss takes the link down and restarts bring-up. -/
  | linkDown (n : Fin 32) (localFault : Bool)
  /-- REMOTE_FAULT, R266. A received remote fault sets REMOTE_FAULT and raises cause 13. -/
  | remoteFault (n : Fin 32)
  /-- FEC_WINDOW, R267. Every 2^20 codewords the corrected symbols are compared with FEC_CFG. -/
  | fecWindow (n : Fin 32) (corr : BitVec 21) (uncorr : BitVec 21) (sym : BitVec 24)
  /-- VERIFY_RESPONSE, R268. A verify response arrives and preemption becomes active. -/
  | verifyResponse (n : Fin 32)
  /-- VERIFY_TIMEOUT, R268. A VERIFY_MS wait ends without response; another verify is sent or verification fails. -/
  | verifyTimeout (n : Fin 32)
  /-- NET_FRAME_RX, R263. The MAC receives a frame, timestamps it and accepts or discards it. -/
  | netFrameRx (n : Fin 32) (pt : Nat) (bytes : List Byte) (fcsOk : Bool)
  /-- REFERENCE_UPDATE, R273. A reference update measures phase error and slews or steps time. -/
  | referenceUpdate (err : Int)
  /-- TIM_LOCKED, R269. 16 consecutive updates within 2 ns enter LOCKED. -/
  | timLocked
  /-- TIM_UNLOCK, R269. 4 consecutive updates above 20 ns return LOCKED to ACQUIRING. -/
  | timUnlock
  /-- SOURCE_LOSS, R270. A source loses qualification; the fall-back is used or holdover entered. -/
  | sourceLoss (src : Fin 4) (err : Int)
  /-- SOURCE_RETURN, R270. SRC_PRI qualified for 16 s is used again, by an offset. -/
  | sourceReturn (err : Int)
  /-- REFCLK_CHECK, R271. Every 10 µs REFCLK is checked and declared lost or restored. -/
  | refclkCheck (ok : Bool)
  /-- PPS_EDGE, R271. A PPS_IN edge is filtered and accepted or rejected. -/
  | ppsEdge (edge : PpsSeen)
  /-- PPS_LOST, R271. No accepted edge for 2.5 s clears PPS_OK. -/
  | ppsLost
  /-- TOD_MESSAGE, R272. A TOD_SER message is checked and accepted or discarded. -/
  | todMessage (bytes : List Byte)
  /-- PPS_QUALIFIED, R272. 3 consecutive accepted edges with messages qualify the PPS source. -/
  | ppsQualified
  /-- ADJ_OFFSET, R285. ADJ_CMD OP 0b00 applies ADJ_OFS by slew or step. -/
  | adjOffset
  /-- ADJ_SET_TIME, R285. ADJ_CMD OP 0b01 arms setting time to SET_SEC. -/
  | adjSetTime
  /-- SET_TIME_APPLY, R285. At the next whole second time is set to SET_SEC. -/
  | setTimeApply
  /-- ADJ_REALIGN, R285. ADJ_CMD OP 0b10 decides a frame realignment now. -/
  | adjRealign
  /-- REALIGN_CUT, R281. At instant B the old frame is cut and the first realigned frame starts. -/
  | realignCut
  /-- FRAME_TIMEBASE_ALIGNED, R279. FR_ERR reaches 0 after a slew and FR_ALIGNED sets. -/
  | frameTimebaseAligned
  /-- ADJ_FREQ_WRITE, R282. A write of ADJ_FREQ steers frequency with the host source, or is discarded. -/
  | adjFreqWrite (w : Word)
  /-- PPS_OUT_PULSE, R275. PPS_OUT rises at each second or frame start for its width. -/
  | ppsOutPulse
  /-- PTP_MESSAGE_RX, R276. A received PTP message is used by the built-in receiver or sent to the host. -/
  | ptpMessageRx (n : Fin 32) (m : PtpRx)
  /-- PTP_QUAL_LOSS, R276. Announce or Sync missing for 3 intervals unqualifies a PTP port. -/
  | ptpQualLoss (n : Fin 32)
  /-- TXTS_READ, R283. A read of TXTS_DATA word 3 removes the oldest timestamp entry. -/
  | txtsRead (p : Fin 32)
  /-- SENTINEL_TIME_COPY, R269. Every 1 µs the sentinel island updates its copy of time. -/
  | sentinelTimeCopy
  /-- HEARTBEAT_RX, R292. A partner heartbeat is accepted and its role, time and flags are acted on. -/
  | heartbeatRx (h : Heartbeat)
  /-- HEARTBEAT_MISS, R292. A heartbeat not accepted at its frame start counts toward link down. -/
  | heartbeatMiss
  /-- PARTNER_LINK_DOWN, R292. 3 missing heartbeats, LINK_DOWN or P0 lock loss declare the partner link down. -/
  | partnerLinkDown
  /-- PARTNER_LINK_UP, R292. 8 consecutive accepted heartbeats declare the partner link up. -/
  | partnerLinkUp
  /-- P0_LOCK_LOSS, R292. P0 without block lock for 10 µs takes the partner link down. -/
  | p0LockLoss
  /-- P1_LOSS, R292. Loss of P1 alone raises cause 3 and mirroring continues on P0. -/
  | p1Loss (trees : BitVec 48)
  /-- BULK_COPY_DONE, R295. The bulk copy of mirrored state completes and SYNC sets. -/
  | bulkCopyDone
  /-- UPSTREAM_FRAME_JUDGE, R296. At each upstream frame end the unit judges whether light was seen and updates SILENT and LIVE. -/
  | upstreamFrameJudge (light : List TreeLight)
  /-- OFS_VALID, R297. 4 agreeing witness bursts make a tree's shadow offset valid. -/
  | ofsValid (n : Fin 48) (found : List Int)
  /-- HEALTH_EVAL, R299. Every 1 ms the health score is evaluated from the present faults. -/
  | healthEval (enc : Bool) (lane : Bool)
  /-- HEALTH_REPORT, R299. A standby sends its fault set every 1 s. -/
  | healthReport
  /-- YIELD, R300. An active below YIELD_THR for 2 evaluations yields to a ready standby. -/
  | yield
  /-- SWITCH_RX, R301. The standby receives SWITCH and answers ACK or NAK. -/
  | switchRx (k : Nat)
  /-- ACK_RX, R301. The active receives ACK, sends COMMIT and is bound to go dark. -/
  | ackRx
  /-- NAK_RX, R301. The active receives NAK and the switchover ends. -/
  | nakRx
  /-- COMMIT_RX, R301. The standby receives COMMIT and is bound to light at T0(k). -/
  | commitRx
  /-- SWITCHOVER_EXECUTE, R301. At T0(k) the active goes dark and becomes STANDBY and the standby lights and becomes ACTIVE. -/
  | switchoverExecute
  /-- SWITCH_ABORT, R301. No ACK by T0(k) − 4,000 ns aborts the switchover. -/
  | switchAbort
  /-- COMMIT_TIMEOUT, R301. A standby without COMMIT by T0(k) − 2,000 ns stays STANDBY. -/
  | commitTimeout
  /-- RELEASED_RX, R302. A standby receiving RELEASED becomes ACTIVE and lights the trees. -/
  | releasedRx (epoch : Word)
  /-- RETURN_SEND, R304. A home standby sends RETURN once its conditions held for RET_S. -/
  | returnSend
  /-- RETURN_RX, R304. The active answers RETURN with a planned switchover or NAK. -/
  | returnRx
  /-- LINK_DOWN_ROLE_CHANGE, R305. With the link down, a unit changes role at a frame start by silence, quiet or foreign light. -/
  | linkDownRoleChange
  /-- STARTUP_EXPIRY, R290. A pair formed for STARTUP_S changes START-UP to SERVICE. -/
  | startupExpiry
  /-- SENTINEL_FEED_LOSS, R309. A sentinel feed below its limit for 2 µs is lost; both lost is a sentinel reset. -/
  | sentinelFeedLoss (f : Fin 2)
  /-- SENTINEL_FEED_RETURN, R322. A sentinel feed returns: after both were lost the sentinel island leaves reset and a warm reset follows. -/
  | sentinelFeedReturn (f : Fin 2)
  /-- CORE_FEED_LOSS, R309. VDD_CORE below its limit for 200 ns is lost and core islands are isolated. -/
  | coreFeedLoss
  /-- CORE_FEED_RETURN, R322. VDD_CORE within limits for 1 ms starts a warm reset. -/
  | coreFeedReturn
  /-- ROLE_SWITCH_OVER, R310. ROLE_CMD OP 0b00 starts a switchover or makes a link-down standby ACTIVE. -/
  | roleSwitchOver
  /-- ROLE_ENTER_TEST, R310. ROLE_CMD OP 0b01 enters TEST at the next frame start. -/
  | roleEnterTest
  /-- ROLE_LEAVE_TEST, R310. ROLE_CMD OP 0b10 leaves TEST for NONE and joins. -/
  | roleLeaveTest
  /-- ROLE_REJOIN, R310. ROLE_CMD OP 0b11 moves a STANDBY to NONE to rejoin. -/
  | roleRejoin
  /-- MBAKIN_HEARTBEAT_SEND, R312. Every HB_MS a Mbakin HEARTBEAT is sent to all. -/
  | mbakinHeartbeatSend
  /-- MBAKIN_RX, R313. A received Mbakin message is checked and acted on by its type and expected role. -/
  | mbakinRx (m : MbakinMsg)
  /-- PEER_LOST, R315. A peer without a heartbeat for HB_MISS periods is lost. -/
  | peerLost (p : BitVec 10)
  /-- SYS_CTL_WRITE, R316. A write of SYS.CTL; EN = 1 without a device number raises cause 10. -/
  | sysCtlWrite (w : Word)
  /-- SYS_KEY_COMMIT, R317. A write of SYS KEY_DATA word 3 commits the system key. -/
  | sysKeyCommit (w : Word)
  /-- POWER_ON, R322. A sentinel feed rises while both were below: cold reset and release from phase 0. -/
  | powerOn (a : Bool) (b : Bool)
  /-- FUSE_MAP_LATCH, R336. The fuse map is read into the I/O ring latch. -/
  | fuseMapLatch
  /-- RESET_N_PULSE, R325. A RESET_N low pulse is accepted as a cold reset or ignored. -/
  | resetNPulse (width : Nat) (taken : Bool)
  /-- RST_WARM, R331. RST.CMD OP 0b00 starts a warm reset. -/
  | rstWarm
  /-- RST_BLOCK, R331. RST.CMD OP 0b01 resets one island for 64 cycles. -/
  | rstBlock (i : BitVec 8)
  /-- RST_RELEASE_HELD, R332. RST.CMD OP 0b10 releases a held island and clears its relapse history. -/
  | rstReleaseHeld (i : BitVec 8)
  /-- RST_COLD, R322. RST.CMD OP 0b11 starts a cold reset. -/
  | rstCold
  /-- ISLAND_RELEASE, R329. An island of the current phase is released at its clock-good and takes its image records. -/
  | islandRelease (i : Fin 226) (f : BitVec 16)
  /-- PHASE_STALL, R329. An island without clock-good for STALL_MS is held and the phases continue. -/
  | phaseStall (i : Fin 226)
  /-- CLOCK_GOOD_DROP, R332. An island whose clock-good drops after release relapses into reset. -/
  | clockGoodDrop (i : Fin 226) (pll : Bool) (f : BitVec 16)
  /-- IO_RAIL_LOSS, R336. VDD_IO18 outside its band loses the fuse latch and pins go to their unlatched state. -/
  | ioRailLoss
  /-- IO_RAIL_RETURN, R336. VDD_IO18 returns and the fuse map is read into the latch again. -/
  | ioRailReturn
  /-- PIN_OVERRIDE, R338. A write of PIN_OVR forces a pin in TEST or is discarded. -/
  | pinOverride (w : Word)
  /-- THERMAL_SAMPLE, R428. Every 1 ms the temperature sensors are read and thermal causes raised. -/
  | thermalSample (t : List Int)
  /-- THERMAL_TRIP, R429. THERMTRIP_N trips and the sentinel gives up control. -/
  | thermalTrip
  /-- OTP_SHADOW_LOADED, R435. The OTP shadow is loaded from the fuses after a cold release. -/
  | otpShadowLoaded
  /-- FLASH_DISCOVERY_DONE, R348. Flash discovery ends with the first slot header read, in octal or fall-back mode. -/
  | flashDiscoveryDone (good : Bool)
  /-- SLOT_CHECK_DONE, R353. A slot check completes with its result code and the running slot is chosen or the device held. -/
  | slotCheckDone
  /-- RUN_APPLY, R356. Once its island is released the NVM island reads and executes the island's run. -/
  | runApply
  /-- RECORD_WRITE, R350. A WRITE record writes its words to consecutive offsets. -/
  | recordWrite
  /-- RECORD_STREAM, R350. A STREAM record writes every word to one DATA offset. -/
  | recordStream
  /-- RECORD_MODIFY, R350. A MODIFY record read-modify-writes a register. -/
  | recordModify
  /-- RECORD_WAIT, R350. A WAIT record pauses the run until a register condition holds. -/
  | recordWait
  /-- WAIT_POLL, R350. Every 100 ns a waiting record reads its register and ends when true. -/
  | waitPoll (who : Option (Fin 5))
  /-- WAIT_TIMEOUT, R350. A WAIT record times out, raises cause 6 and the run continues. -/
  | waitTimeout (who : Option (Fin 5))
  /-- RECORD_KEY, R352. A KEY record is decrypted under IMG_SEAL_KEY and written. -/
  | recordKey
  /-- RECORD_TABLE, R378. A TABLE record performs its table-load groups. -/
  | recordTable
  /-- RECORD_END, R356. An END record finishes the run and opens its island to traffic. -/
  | recordEnd
  /-- NVM_READ, R360. NVM.CMD OP 0b000 reads flash words into BUF. -/
  | nvmRead (addr : Word) (len : BitVec 9)
  /-- NVM_PROGRAM, R360. NVM.CMD OP 0b001 programs BUF words within a page. -/
  | nvmProgram (addr : Word) (len : BitVec 9)
  /-- NVM_ERASE, R360. NVM.CMD OP 0b010 erases a 64 KiB sector. -/
  | nvmErase (addr : Word)
  /-- NVM_CHECK, R360. NVM.CMD OP 0b011 checks a slot by R353. -/
  | nvmCheck (slot : Fin 2)
  /-- NVM_BOOT, R360. NVM.CMD OP 0b100 checks the slots, applies one and releases the held phases. -/
  | nvmBoot
  /-- FLASH_OP_DONE, R348. A flash read, program or erase completes. -/
  | flashOpDone
  /-- FLASH_TIMEOUT, R348. A flash operation exceeding its time limit fails. -/
  | flashTimeout
  /-- OTP_PROGRAM_SETTINGS, R361. OTP.CMD OP 0b000 programs a settings generation. -/
  | otpProgramSettings
  /-- OTP_PROGRAM_KEY, R361. OTP.CMD OP 0b001 programs a key and its CRC. -/
  | otpProgramKey (arg : BitVec 10)
  /-- OTP_PROGRAM_DEVNUM, R361. OTP.CMD OP 0b010 programs DEVNUM and sets V. -/
  | otpProgramDevnum
  /-- OTP_ADVANCE_ARB, R361. OTP.CMD OP 0b011 advances the anti-rollback count. -/
  | otpAdvanceArb (arg : BitVec 10)
  /-- OTP_PROGRAM_PIN, R347. OTP.CMD OP 0b100 programs a pin fuse code that only sets bits. -/
  | otpProgramPin (pin : BitVec 10)
  /-- OTP_WORD_PROGRAMMED, R361. An OTP word is programmed and verified after 20 µs. -/
  | otpWordProgrammed (ok : Bool)
  /-- USB4_LINK_UP, R434. The USB4 link enters CL0 at Gen 4 or Gen 3 and LINK is set. -/
  | usb4LinkUp (gen4 : Bool)
  /-- USB4_LINK_REFUSED, R366. A host offering only Gen 2 leaves the port down. -/
  | usb4LinkRefused
  /-- USB4_EN_WRITE, R389. A write of USB4_EN enables the port or loses the tunnel. -/
  | usb4EnWrite (v : BitVec 1)
  /-- TUNNEL_LOSS, R368. Tunnel loss closes every session, ends privilege and stops captures. -/
  | tunnelLoss (down : Bool)
  /-- SESSION_OPEN, R369. A write of EN from 0 to 1 opens a session or is refused. -/
  | sessionOpen (i : Fin 4) (w : Word)
  /-- SESSION_CLOSE, R369. A write of EN = 0 closes a session. -/
  | sessionClose (i : Fin 4) (w : Word)
  /-- WINDOW_WRITE, R370. A posted write to a command window enters the session FIFO. -/
  | windowWrite (i : Fin 4) (l : List Byte)
  /-- PACKET_TIMEOUT, R370. A partial packet without its next byte for PKT_TO is discarded and faults the session. -/
  | packetTimeout (i : Fin 4)
  /-- HEAD_WRITE, R371. A write of HEAD releases ring space and rearms the interrupt. -/
  | headWrite (i : Fin 4) (w : Word)
  /-- HOST_SILENT, R372. A response waiting for room with HEAD unchanged for HOST_TO closes the session. -/
  | hostSilent (i : Fin 4)
  /-- UNLISTED_OPCODE, R374. An inbound packet with a wrong version, kind or opcode is answered BAD_OPCODE. -/
  | unlistedOpcode (i : Fin 4)
  /-- ECHO, R376. Returns the payload and ARG0. -/
  | echo (i : Fin 4)
  /-- REG_READ, R376. Reads N register words. -/
  | regRead (i : Fin 4)
  /-- REG_WRITE, R376. Writes register words. -/
  | regWrite (i : Fin 4)
  /-- REG_MODIFY, R376. Read-modify-writes a register and returns the old value. -/
  | regModify (i : Fin 4)
  /-- IDX_READ, R377. Writes an IDX register and reads N words from its DATA register. -/
  | idxRead (i : Fin 4)
  /-- IDX_WRITE, R377. Writes an IDX register and then words to its DATA register. -/
  | idxWrite (i : Fin 4)
  /-- TABLE_LOAD, R378. Performs table-load groups. -/
  | tableLoad (i : Fin 4)
  /-- PROG_LOAD, R376. Writes instruction words to a cluster after checking the whole range. -/
  | progLoad (i : Fin 4)
  /-- FLASH_READ, R376. Returns flash bytes. -/
  | flashRead (i : Fin 4)
  /-- FLASH_WRITE, R376. Erases and programs flash bytes. -/
  | flashWrite (i : Fin 4)
  /-- PLOAM_SEND, R376. Queues a PLOAM body on a tree's normal queue. -/
  | ploamSend (i : Fin 4)
  /-- INJECT, R380. Injects a frame toward a network port or a tree. -/
  | inject (i : Fin 4)
  /-- CAPTURE, R379. Arms or disarms a capture. -/
  | capture (i : Fin 4)
  /-- MBAKIN_SEND, R376. Sends a ROLE_QUERY or ACTION and waits for its reply. -/
  | mbakinSend (i : Fin 4)
  /-- MBAKIN_REPLY_TIMEOUT, R376. No reply within 100 ms answers MBAKIN_SEND with TIMEOUT. -/
  | mbakinReplyTimeout (i : Fin 5)
  /-- PRIV_CHALLENGE, R381. Returns a nonce and DEVICE_ID, or LOCKOUT. -/
  | privChallenge
  /-- PRIV_PROVE, R381. Checks the CMAC proof and grants privilege or counts a failure. -/
  | privProve
  /-- PRIV_DROP, R382. Ends session 0's privilege. -/
  | privDrop
  /-- LOCKOUT_EXPIRY, R381. The challenge lockout period ends. -/
  | lockoutExpiry
  /-- MMIO_ACCESS, R385. A direct MMIO register access passes the arbiter. -/
  | mmioAccess (ofs : BitVec 24) (w : Option Word) (be : BitVec 4)
  /-- IND_DATA_ACCESS, R385. An IND_DATA access reaches the register at IND_ADDR and advances OFFSET. -/
  | indDataAccess (w : Option Word)
  /-- REGISTER_WRITE, R386. A write to a register without a row of its own, subject to access codes, encodings and locks. -/
  | registerWrite (src : Fin 5) (ofs : BitVec 24) (w : Word)
  /-- RC_COUNTER_READ, R5. A read of an RC counter returns its value and clears it. -/
  | rcCounterRead (src : Fin 5) (ofs : BitVec 24)
  /-- CAUSE_RAISE, R394. A raise sets its cause bit, is captured and may be delivered. -/
  | causeRaise (src : BitVec 8) (bit : BitVec 5) (d0 : Word) (d1 : Word) (d2 : Word)
  /-- COUNT_DELIVERY, R395. RAISES reaching COUNT delivers at once. -/
  | countDelivery (src : BitVec 8)
  /-- HOLDOFF_END, R395. A holdoff ends with raises pending and delivers them. -/
  | holdoffEnd (src : BitVec 8)
  /-- DLV_ENABLE, R395. DLV_EN from 0 to 1 judges every source with raises pending. -/
  | dlvEnable
  /-- EVENT_EN_WRITE, R395. A write of SRC.EN counts one raise for each newly enabled set cause. -/
  | eventEnWrite (src : BitVec 8) (w : Word)
  /-- CAUSE_W1C, R398. A W1C write clears cause bits and may release EVENT_N. -/
  | causeW1c (src : BitVec 8) (w : Word)
  /-- CAPTURE_RELEASE, R399. A write of CAP_STS.REL clears V0, V1 and OVF. -/
  | captureRelease (src : BitVec 8)
  /-- PIN_PULSE_END, R398. An EVENT_N pulse ends after PULSE_W. -/
  | pinPulseEnd (p : Fin 2)
  /-- PMU_WRAP, R401. A 48-bit counter wraps and raises its cause or feeds its chained partner. -/
  | pmuWrap (i : Fin 64)
  /-- PMU_WINDOW_END, R403. A bandwidth window ends, updating VAL and PEAK and checking thresholds. -/
  | pmuWindowEnd (i : Fin 64)
  /-- PMU_SNAP, R402. A write of CTL.SNAP latches all 64 counters. -/
  | pmuSnap
  /-- VAL_LO_READ, R402. A read of VAL_LO latches the counter in non-snapshot mode. -/
  | valLoRead (i : Fin 64)
  /-- PMU_VAL_WRITE, R401. A write of VAL_LO sets the counter with the staged VAL_HI. -/
  | pmuValWrite (i : Fin 64) (w : Word)
  /-- PMU_CFG_WRITE, R400. A write of CFG or ARG sets a counter's event or is refused. -/
  | pmuCfgWrite (i : Fin 64) (arg : Bool) (w : Word)
  /-- SHAPER_RECOVERY, R219. A node's continuously refilled TOKENS climbs back to 0 or above, so the node becomes eligible again and takes a new start tag by R217. -/
  | shaperRecovery (m : Fin 2) (level : Fin 4) (t : Fin 48) (idx : BitVec 13)
  /-- MEMORY_SCRUB_PASS, R299. The SRAM and memory scrub completes a full pass, once per 10 s, and records whether it found an uncorrectable error. -/
  | memoryScrubPass (l : List ScrubError)
  /-- NET_LANE_SIGNAL_CHANGE, R287. A network lane's receiver loses or regains signal or loses CDR lock, raising causes 0 to 2 on its source. -/
  | netLaneSignalChange (n : Fin 32) (sig : Bool) (cdr : Bool)
  /-- CORE_FEED_RANGE_CHANGE, R419. VDD_CORE stays outside 0.7275 to 0.7725 V for 10 µs, or returns within the band for 1 ms, setting or clearing the fault of check 7. -/
  | coreFeedRangeChange (out : Bool)
  /-- PPS_OUT_FALL, R275. PPS_OUT falls after PPSO_W ms in mode 0b01, or after 1 µs in mode 0b10. -/
  | ppsOutFall
  /-- HBM_PHY_TRAINED, R329. The initial training of an HBM PHY after its release in phase 2 completes, setting HBM_STS READY, or fails and raises cause 3. -/
  | hbmPhyTrained (st : Fin 2) (ok : Bool)
  deriving DecidableEq, Repr

end Sys2Proof
end

