-- ==== Sys2Proof/Decode.lean ====
section
/-!
DEFINITION. Commands as words. No row of the table gives bits: the block takes its commands from outside, and what it
parses itself (packets, records, instruction words of the sequencers) is state that commands act on.
-/

namespace Sys2Proof

/-- The command a word spells by the table's bits: none, as no row gives any. -/
def decodeTableWord (_nbits _w : Nat) : Option Instr := none

end Sys2Proof
end

