-- ==== Sys2Proof/Config.lean ====
section
/-!
DEFINITION. What the spec leaves open and the model leaves free: constants without a body. No proof can see a value of
them, so a statement that mentions one holds for every value (log entry 5).
-/

namespace Sys2Proof

/-- A value the spec leaves open, drawn by the count of values drawn before it. -/
opaque Config.freeNat : Nat → Nat

/-- How a capture codes a buffer operation (R200): ALLOC 0, SHARE 1, FREE 2, TRANSFER 3, access 4 go in. -/
opaque Config.bufferOp : Nat → Nat

/-- Buffers the buffer manager has listed n ns after it began to build the free lists: R198 gives the order and the longest
time. -/
opaque Config.listedBy : Nat → Nat

/-- AES-256 CMAC of a message under a key, 128 bits (a named standard the spec does not define). -/
opaque Config.cmac : Nat → List Nat → Nat

/-- The G.9804.2 default PLOAM integrity key (R88). -/
opaque Config.ploamDefaultKey : Nat

/-- AES-256-GCM under a named standard (R352): key, IV, additional data words, tag, ciphertext words; the plaintext words
where the tag passes. -/
opaque Config.gcmOpen : Nat → Nat → List Nat → Nat → List Nat → Option (List Nat)

/-- The source address of a Mbakin message (R311 names its destination alone). -/
opaque Config.mbakinSource : Nat

/-- The part is a KOL4850-E, not a KOL4850-C (R427). -/
opaque Config.variantE : Bool

/-- AES-128 counter mode as G.9804.2 uses it (R241): key, superframe counter, position of the XGEM frame, payload. -/
opaque Config.xgemCipher : Nat → Nat → Nat → List (BitVec 8) → List (BitVec 8)

/-- AES-256-GCM (R243): key, 96-bit IV, additional authenticated data, plaintext; the ciphertext, and the 16-byte tag. -/
opaque Config.gcmCiphertext : Nat → Nat → List (BitVec 8) → List (BitVec 8) → List (BitVec 8)
opaque Config.gcmTag : Nat → Nat → List (BitVec 8) → List (BitVec 8) → List (BitVec 8)

/-- The plaintext AES-256-GCM gives (R243): key, 96-bit IV, additional authenticated data, ciphertext. -/
opaque Config.gcmPlaintext : Nat → Nat → List (BitVec 8) → List (BitVec 8) → List (BitVec 8)

/-- The OMCI message integrity check of G.9804.2 (R242): the terminal's key, if one is loaded, the direction, the message
without the field. -/
opaque Config.omciMic : Option Nat → Nat → List (BitVec 8) → BitVec 32

/-- A Delay_Req of the built-in receiver (R276), as its profile's standard builds it: PROFILE, port, sequenceId. -/
opaque Config.delayReq : Nat → Nat → Nat → List (BitVec 8)

/-- The subType of structure-agnostic data, and the timestamp form of orderInfo for a PTP time in ns (IEEE 1914.3, R166). -/
opaque Config.roeSubType : Nat
opaque Config.roeTimestamp : Nat → Nat

/-- The TPID of the VLAN tag a header template inserts (R169 gives its TCI alone). -/
opaque Config.roeTpid : Nat

end Sys2Proof
end

