-- ==== Sys2Proof/Machine/Fields.lean ====
section
/-!
DEFINITION. The names of the fields of the spec's field tables: a field is a space, a word and a bit range.
A name is <BLOCK>.<REGISTER>_<FIELD>; a counter or a register of one whole-word field is <BLOCK>.<REGISTER>.
-/

namespace Sys2Proof.Machine

/-! TLN[n] preset entry -/
abbrev PRESET.VALID : Fld := ⟨.preset, 0, 31, 31⟩
abbrev PRESET.HOLD : Fld := ⟨.preset, 0, 30, 30⟩
abbrev PRESET.PEAK : Fld := ⟨.preset, 0, 29, 26⟩
abbrev PRESET.GAIN : Fld := ⟨.preset, 0, 25, 23⟩
abbrev PRESET.PHASE : Fld := ⟨.preset, 0, 22, 16⟩
abbrev PRESET.AGE : Fld := ⟨.preset, 0, 15, 12⟩
abbrev PRESET.LOCK_UI : Fld := ⟨.preset, 0, 11, 0⟩

/-! TLN[n] -/
abbrev TLN.CTL_LEARN_EN : Fld := ⟨.tln, 0, 9, 9⟩
abbrev TLN.CTL_PRESET_EN : Fld := ⟨.tln, 0, 8, 8⟩
abbrev TLN.CTL_SD_USE : Fld := ⟨.tln, 0, 7, 6⟩
abbrev TLN.CTL_STRB_EN : Fld := ⟨.tln, 0, 5, 5⟩
abbrev TLN.CTL_RX_EN : Fld := ⟨.tln, 0, 4, 4⟩
abbrev TLN.CTL_LASER_EN : Fld := ⟨.tln, 0, 3, 3⟩
abbrev TLN.CTL_TX_MODE : Fld := ⟨.tln, 0, 1, 0⟩
abbrev TLN.RX_EQ_MAX_AGE : Fld := ⟨.tln, 1, 19, 16⟩
abbrev TLN.RX_EQ_ED_THRESH : Fld := ⟨.tln, 1, 15, 8⟩
abbrev TLN.RX_EQ_DEF_GAIN : Fld := ⟨.tln, 1, 6, 4⟩
abbrev TLN.RX_EQ_DEF_PEAK : Fld := ⟨.tln, 1, 3, 0⟩
abbrev TLN.PRESET_IDX_AUTO_INC : Fld := ⟨.tln, 2, 9, 9⟩
abbrev TLN.PRESET_IDX_IDX : Fld := ⟨.tln, 2, 8, 0⟩
abbrev TLN.PRESET_DATA : Fld := ⟨.tln, 3, 31, 0⟩
abbrev TLN.SD_CFG_SD_LAG : Fld := ⟨.tln, 4, 15, 8⟩
abbrev TLN.SD_CFG_SD_LEAD : Fld := ⟨.tln, 4, 7, 0⟩
abbrev TLN.STRB_CFG_WIDTH : Fld := ⟨.tln, 5, 7, 4⟩
abbrev TLN.STRB_CFG_DELAY : Fld := ⟨.tln, 5, 3, 0⟩
abbrev TLN.STS_PRBS_LOCK : Fld := ⟨.tln, 6, 10, 10⟩
abbrev TLN.STS_TX_PLL_LOCK : Fld := ⟨.tln, 6, 9, 9⟩
abbrev TLN.STS_TXDIS : Fld := ⟨.tln, 6, 8, 8⟩
abbrev TLN.STS_PRES : Fld := ⟨.tln, 6, 7, 7⟩
abbrev TLN.STS_SD : Fld := ⟨.tln, 6, 6, 6⟩
abbrev TLN.STS_CHATTER : Fld := ⟨.tln, 6, 5, 5⟩
abbrev TLN.STS_ED_INBAND : Fld := ⟨.tln, 6, 4, 4⟩
abbrev TLN.STS_LOL : Fld := ⟨.tln, 6, 3, 3⟩
abbrev TLN.STS_LOS : Fld := ⟨.tln, 6, 2, 2⟩
abbrev TLN.STS_TX_STATE : Fld := ⟨.tln, 6, 1, 0⟩
abbrev TLN.LOS_CNT : Fld := ⟨.tln, 8, 31, 0⟩
abbrev TLN.LOL_CNT : Fld := ⟨.tln, 9, 31, 0⟩
abbrev TLN.MISS_CNT : Fld := ⟨.tln, 10, 31, 0⟩
abbrev TLN.LATE_CNT : Fld := ⟨.tln, 11, 31, 0⟩
abbrev TLN.PRESET_DROP_CNT : Fld := ⟨.tln, 12, 31, 0⟩
abbrev TLN.COLLIDE_CNT : Fld := ⟨.tln, 13, 31, 0⟩
abbrev TLN.GLITCH_CNT : Fld := ⟨.tln, 14, 31, 0⟩
abbrev TLN.STRB_SUPP_CNT : Fld := ⟨.tln, 15, 31, 0⟩
abbrev TLN.TEST_PRBS_ERR_CNT : Fld := ⟨.tln, 16, 31, 16⟩
abbrev TLN.TEST_SLIP : Fld := ⟨.tln, 16, 8, 8⟩
abbrev TLN.TEST_PATTERN : Fld := ⟨.tln, 16, 5, 4⟩
abbrev TLN.TEST_MODE : Fld := ⟨.tln, 16, 2, 0⟩
abbrev TLN.FORCE_TXDIS_FORCE : Fld := ⟨.tln, 17, 1, 0⟩

/-! TFR[n] -/
abbrev TFR.CTL_PLOAM_MAX : Fld := ⟨.tfr, 0, 7, 4⟩
abbrev TFR.CTL_DEG_EN : Fld := ⟨.tfr, 0, 3, 3⟩
abbrev TFR.CTL_FEC_EN : Fld := ⟨.tfr, 0, 2, 2⟩
abbrev TFR.CTL_US_EN : Fld := ⟨.tfr, 0, 1, 1⟩
abbrev TFR.CTL_DS_EN : Fld := ⟨.tfr, 0, 0, 0⟩
abbrev TFR.PONID_LO : Fld := ⟨.tfr, 1, 31, 0⟩
abbrev TFR.PONID_HI_PON_ID_HI : Fld := ⟨.tfr, 2, 18, 0⟩
abbrev TFR.SFC_LO : Fld := ⟨.tfr, 3, 31, 0⟩
abbrev TFR.SFC_HI_SFC_HI : Fld := ⟨.tfr, 4, 18, 0⟩
abbrev TFR.US_CFG_REASM_TO : Fld := ⟨.tfr, 5, 27, 24⟩
abbrev TFR.US_CFG_URO : Fld := ⟨.tfr, 5, 19, 0⟩
abbrev TFR.DLM_CFG_WIN : Fld := ⟨.tfr, 6, 21, 16⟩
abbrev TFR.DLM_CFG_ERR_MAX : Fld := ⟨.tfr, 6, 11, 8⟩
abbrev TFR.DLM_CFG_OFS_WARN : Fld := ⟨.tfr, 6, 7, 0⟩
abbrev TFR.DEG_CFG_DECL_N : Fld := ⟨.tfr, 7, 31, 28⟩
abbrev TFR.DEG_CFG_CLR_N : Fld := ⟨.tfr, 7, 27, 24⟩
abbrev TFR.DEG_CFG_THR_EXP : Fld := ⟨.tfr, 7, 19, 16⟩
abbrev TFR.DEG_CFG_THR_MANT : Fld := ⟨.tfr, 7, 15, 12⟩
abbrev TFR.DEG_CFG_MAX_WIN : Fld := ⟨.tfr, 7, 7, 0⟩
abbrev TFR.STS_DEG_ANY : Fld := ⟨.tfr, 8, 3, 3⟩
abbrev TFR.STS_MAP_VOID : Fld := ⟨.tfr, 8, 2, 2⟩
abbrev TFR.STS_DS_STATE : Fld := ⟨.tfr, 8, 1, 0⟩
abbrev TFR.TERM_IDX_AUTO_INC : Fld := ⟨.tfr, 9, 15, 15⟩
abbrev TFR.TERM_IDX_TERM : Fld := ⟨.tfr, 9, 11, 3⟩
abbrev TFR.TERM_IDX_WORD : Fld := ⟨.tfr, 9, 2, 0⟩
abbrev TFR.TERM_DATA : Fld := ⟨.tfr, 10, 31, 0⟩
abbrev TFR.FRAME_CNT : Fld := ⟨.tfr, 16, 31, 0⟩
abbrev TFR.MAP_VOID_CNT : Fld := ⟨.tfr, 17, 31, 0⟩
abbrev TFR.SUBST_CNT : Fld := ⟨.tfr, 18, 31, 0⟩
abbrev TFR.DQ_LOST_CNT : Fld := ⟨.tfr, 19, 31, 0⟩
abbrev TFR.FRAG_CNT : Fld := ⟨.tfr, 20, 31, 0⟩
abbrev TFR.NOFRAG_WAIT_CNT : Fld := ⟨.tfr, 21, 31, 0⟩
abbrev TFR.PLOAM_DEFER_CNT : Fld := ⟨.tfr, 22, 31, 0⟩
abbrev TFR.BURST_CNT : Fld := ⟨.tfr, 23, 31, 0⟩
abbrev TFR.DLM_MISS_CNT : Fld := ⟨.tfr, 24, 31, 0⟩
abbrev TFR.HDR_ERR_CNT : Fld := ⟨.tfr, 25, 31, 0⟩
abbrev TFR.CW_UNCORR_CNT : Fld := ⟨.tfr, 26, 31, 0⟩
abbrev TFR.DBRU_CRC_CNT : Fld := ⟨.tfr, 27, 31, 0⟩
abbrev TFR.BIP_ERR_CNT : Fld := ⟨.tfr, 28, 31, 0⟩
abbrev TFR.OVERRUN_CNT : Fld := ⟨.tfr, 29, 31, 0⟩
abbrev TFR.REASM_TO_CNT : Fld := ⟨.tfr, 30, 31, 0⟩
abbrev TFR.REASM_FULL_CNT : Fld := ⟨.tfr, 31, 31, 0⟩

/-! TFR[n] terminal status -/
abbrev TFRT.DEG : Fld := ⟨.tfrT, 0, 31, 31⟩
abbrev TFRT.DLM_OFS : Fld := ⟨.tfrT, 0, 23, 16⟩
abbrev TFRT.DECL_RUN : Fld := ⟨.tfrT, 0, 15, 12⟩
abbrev TFRT.CLR_RUN : Fld := ⟨.tfrT, 0, 11, 8⟩
abbrev TFRT.CW_CNT : Fld := ⟨.tfrT, 1, 31, 0⟩
abbrev TFRT.CORR_BITS : Fld := ⟨.tfrT, 2, 31, 0⟩
abbrev TFRT.UNCORR_CNT : Fld := ⟨.tfrT, 3, 31, 0⟩
abbrev TFRT.DLM_MISS : Fld := ⟨.tfrT, 4, 31, 0⟩
abbrev TFRT.HDR_ERR : Fld := ⟨.tfrT, 5, 31, 0⟩

/-! TFR pool -/
abbrev POOL.DP_CTL_ST_EN : Fld := ⟨.pool, 0, 16, 16⟩
abbrev POOL.DP_CTL_DEC_EN : Fld := ⟨.pool, 0, 15, 0⟩
abbrev POOL.DP_CFG_MAX_AGE : Fld := ⟨.pool, 1, 11, 0⟩
abbrev POOL.DP_STS_DEC_TEST : Fld := ⟨.pool, 2, 31, 16⟩
abbrev POOL.DP_STS_DEC_INSVC : Fld := ⟨.pool, 2, 15, 0⟩
abbrev POOL.DP_WAIT_MAX_WAIT_MAX : Fld := ⟨.pool, 3, 11, 0⟩
abbrev POOL.DP_HIST0 : Fld := ⟨.pool, 4, 31, 0⟩
abbrev POOL.DP_HIST1 : Fld := ⟨.pool, 5, 31, 0⟩
abbrev POOL.DP_HIST2 : Fld := ⟨.pool, 6, 31, 0⟩
abbrev POOL.DP_HIST3 : Fld := ⟨.pool, 7, 31, 0⟩
abbrev POOL.DP_HIST4 : Fld := ⟨.pool, 8, 31, 0⟩
abbrev POOL.DP_HIST5 : Fld := ⟨.pool, 9, 31, 0⟩

/-! TFR pool DEC[j] -/
abbrev DEC.DEC_CNT : Fld := ⟨.dec, 0, 31, 0⟩
abbrev DEC.DEC_KV_FAIL : Fld := ⟨.dec, 1, 31, 0⟩

/-! TFR pool ENC[k] -/
abbrev ENC.ENC_CNT : Fld := ⟨.enc, 0, 31, 0⟩
abbrev ENC.ENC_LATE : Fld := ⟨.enc, 1, 31, 0⟩

/-! ACT[n] -/
abbrev ACT.CTL_DRIFT_EN : Fld := ⟨.act, 0, 10, 10⟩
abbrev ACT.CTL_SD_CRIT_EN : Fld := ⟨.act, 0, 9, 9⟩
abbrev ACT.CTL_OVR_CRIT_EN : Fld := ⟨.act, 0, 8, 8⟩
abbrev ACT.CTL_STRAY_CRIT_EN : Fld := ⟨.act, 0, 7, 7⟩
abbrev ACT.CTL_SMK_EN : Fld := ⟨.act, 0, 6, 6⟩
abbrev ACT.CTL_ADMIT : Fld := ⟨.act, 0, 5, 4⟩
abbrev ACT.CTL_EQ_EN : Fld := ⟨.act, 0, 1, 1⟩
abbrev ACT.CTL_ACT_EN : Fld := ⟨.act, 0, 0, 0⟩
abbrev ACT.RNG_CFG_RNG_TO : Fld := ⟨.act, 1, 31, 28⟩
abbrev ACT.RNG_CFG_EQ_TRIES : Fld := ⟨.act, 1, 27, 25⟩
abbrev ACT.RNG_CFG_PRESET_GAIN : Fld := ⟨.act, 1, 24, 22⟩
abbrev ACT.RNG_CFG_DRIFT_N : Fld := ⟨.act, 1, 21, 18⟩
abbrev ACT.RNG_CFG_RNG_WIN : Fld := ⟨.act, 1, 17, 10⟩
abbrev ACT.RNG_CFG_DIFF_MAX : Fld := ⟨.act, 1, 9, 0⟩
abbrev ACT.LOB_CFG_LOB_HOLD : Fld := ⟨.act, 2, 31, 16⟩
abbrev ACT.LOB_CFG_MISS_N : Fld := ⟨.act, 2, 11, 8⟩
abbrev ACT.ROGUE_CFG_STRAY_N : Fld := ⟨.act, 3, 31, 28⟩
abbrev ACT.ROGUE_CFG_OVR_N : Fld := ⟨.act, 3, 27, 24⟩
abbrev ACT.ROGUE_CFG_RETRY : Fld := ⟨.act, 3, 23, 20⟩
abbrev ACT.ROGUE_CFG_SETTLE : Fld := ⟨.act, 3, 19, 16⟩
abbrev ACT.ROGUE_CFG_STRAY_MIN : Fld := ⟨.act, 3, 15, 8⟩
abbrev ACT.TCMD_GO : Fld := ⟨.act, 4, 31, 31⟩
abbrev ACT.TCMD_ERR : Fld := ⟨.act, 4, 30, 30⟩
abbrev ACT.TCMD_OP : Fld := ⟨.act, 4, 26, 24⟩
abbrev ACT.TCMD_TERM : Fld := ⟨.act, 4, 8, 0⟩
abbrev ACT.STS_BROOD_CNT : Fld := ⟨.act, 5, 22, 16⟩
abbrev ACT.STS_OPER_CNT : Fld := ⟨.act, 5, 15, 6⟩
abbrev ACT.STS_TOD_BUSY : Fld := ⟨.act, 5, 1, 1⟩
abbrev ACT.STS_QW_OPEN : Fld := ⟨.act, 5, 0, 0⟩
abbrev ACT.SMK_STS_STATE : Fld := ⟨.act, 6, 31, 30⟩
abbrev ACT.SMK_STS_CRIT : Fld := ⟨.act, 6, 29, 28⟩
abbrev ACT.SMK_STS_ROUND : Fld := ⟨.act, 6, 27, 24⟩
abbrev ACT.SMK_STS_TRY : Fld := ⟨.act, 6, 23, 20⟩
abbrev ACT.SMK_STS_CAND : Fld := ⟨.act, 6, 19, 10⟩
abbrev ACT.SMK_STS_SUSPECT : Fld := ⟨.act, 6, 8, 0⟩
abbrev ACT.TOD_N_LO : Fld := ⟨.act, 7, 31, 0⟩
abbrev ACT.TOD_N_HI_N_HI : Fld := ⟨.act, 8, 18, 0⟩
abbrev ACT.TOD_SEC : Fld := ⟨.act, 9, 31, 0⟩
abbrev ACT.TOD_NS_NS : Fld := ⟨.act, 10, 29, 0⟩
abbrev ACT.TOD_SEC_HI_SEC_HI : Fld := ⟨.act, 11, 15, 0⟩
abbrev ACT.TERM_IDX_AUTO_INC : Fld := ⟨.act, 12, 15, 15⟩
abbrev ACT.TERM_IDX_TERM : Fld := ⟨.act, 12, 11, 3⟩
abbrev ACT.TERM_IDX_WORD : Fld := ⟨.act, 12, 2, 0⟩
abbrev ACT.TERM_DATA : Fld := ⟨.act, 13, 31, 0⟩
abbrev ACT.BROOD_IDX_AUTO_INC : Fld := ⟨.act, 14, 8, 8⟩
abbrev ACT.BROOD_IDX_ENTRY : Fld := ⟨.act, 14, 7, 2⟩
abbrev ACT.BROOD_IDX_WORD : Fld := ⟨.act, 14, 1, 0⟩
abbrev ACT.BROOD_DATA : Fld := ⟨.act, 15, 31, 0⟩
abbrev ACT.KEY_IDX_AUTO_INC : Fld := ⟨.act, 16, 15, 15⟩
abbrev ACT.KEY_IDX_TERM : Fld := ⟨.act, 16, 11, 3⟩
abbrev ACT.KEY_IDX_WORD : Fld := ⟨.act, 16, 2, 0⟩
abbrev ACT.KEY_DATA : Fld := ⟨.act, 17, 31, 0⟩
abbrev ACT.PLQ_STS_HI_LVL : Fld := ⟨.act, 18, 21, 16⟩
abbrev ACT.PLQ_STS_NORM_LVL : Fld := ⟨.act, 18, 8, 0⟩
abbrev ACT.SN_RX_CNT : Fld := ⟨.act, 24, 31, 0⟩
abbrev ACT.SN_COLL_CNT : Fld := ⟨.act, 25, 31, 0⟩
abbrev ACT.BROOD_FULL_CNT : Fld := ⟨.act, 26, 31, 0⟩
abbrev ACT.ADMIT_REJ_CNT : Fld := ⟨.act, 27, 31, 0⟩
abbrev ACT.RNG_OK_CNT : Fld := ⟨.act, 28, 31, 0⟩
abbrev ACT.RNG_FAIL_CNT : Fld := ⟨.act, 29, 31, 0⟩
abbrev ACT.REACH_REJ_CNT : Fld := ⟨.act, 30, 31, 0⟩
abbrev ACT.MIC_ERR_CNT : Fld := ⟨.act, 31, 31, 0⟩
abbrev ACT.PLQ_FULL_CNT : Fld := ⟨.act, 32, 31, 0⟩
abbrev ACT.LOB_CNT : Fld := ⟨.act, 33, 31, 0⟩
abbrev ACT.DEACT_CNT : Fld := ⟨.act, 34, 31, 0⟩
abbrev ACT.SMK_CNT : Fld := ⟨.act, 35, 31, 0⟩
abbrev ACT.PLU_DROP_CNT : Fld := ⟨.act, 36, 31, 0⟩

/-! ACT[n] terminal record -/
abbrev ACTT.STATE : Fld := ⟨.actT, 0, 31, 29⟩
abbrev ACTT.LISTED : Fld := ⟨.actT, 0, 28, 28⟩
abbrev ACTT.RATE : Fld := ⟨.actT, 0, 27, 26⟩
abbrev ACTT.EQ_PEAK : Fld := ⟨.actT, 0, 25, 22⟩
abbrev ACTT.BROOD : Fld := ⟨.actT, 0, 21, 16⟩
abbrev ACTT.LOB_RUN : Fld := ⟨.actT, 0, 15, 12⟩
abbrev ACTT.SMK_DIS : Fld := ⟨.actT, 0, 11, 11⟩
abbrev ACTT.TRIAL : Fld := ⟨.actT, 0, 10, 10⟩
abbrev ACTT.SN_VENDOR : Fld := ⟨.actT, 1, 31, 0⟩
abbrev ACTT.SN_VSSN : Fld := ⟨.actT, 2, 31, 0⟩
abbrev ACTT.EQD : Fld := ⟨.actT, 3, 25, 0⟩
abbrev ACTT.MIC_ERR : Fld := ⟨.actT, 4, 31, 0⟩

/-! ACT[n] brood entry -/
abbrev BROOD.SN_VENDOR : Fld := ⟨.brood, 0, 31, 0⟩
abbrev BROOD.SN_VSSN : Fld := ⟨.brood, 1, 31, 0⟩
abbrev BROOD.VALID : Fld := ⟨.brood, 2, 31, 31⟩
abbrev BROOD.PHASE : Fld := ⟨.brood, 2, 30, 29⟩
abbrev BROOD.ONU_ID : Fld := ⟨.brood, 2, 28, 20⟩
abbrev BROOD.AGE : Fld := ⟨.brood, 2, 19, 16⟩
abbrev BROOD.RTD_EST : Fld := ⟨.brood, 3, 19, 0⟩

/-! GRT[n] -/
abbrev GRT.CTL_RPT_EN : Fld := ⟨.grt, 0, 1, 1⟩
abbrev GRT.CTL_EN : Fld := ⟨.grt, 0, 0, 0⟩
abbrev GRT.WIT_CFG_LONG_SLOT : Fld := ⟨.grt, 1, 31, 31⟩
abbrev GRT.WIT_CFG_START : Fld := ⟨.grt, 1, 16, 0⟩
abbrev GRT.PROF_SEL_LONG12 : Fld := ⟨.grt, 2, 5, 4⟩
abbrev GRT.PROF_SEL_LONG25 : Fld := ⟨.grt, 2, 3, 2⟩
abbrev GRT.PROF_SEL_LONG50 : Fld := ⟨.grt, 2, 1, 0⟩
abbrev GRT.STS_MIRROR : Fld := ⟨.grt, 3, 31, 31⟩
abbrev GRT.STS_WIT_LAST : Fld := ⟨.grt, 3, 30, 30⟩
abbrev GRT.STS_LAST_EMIT : Fld := ⟨.grt, 3, 26, 16⟩
abbrev GRT.STS_LAST_REJ : Fld := ⟨.grt, 3, 10, 0⟩
abbrev GRT.CELL_IDX_AUTO_INC : Fld := ⟨.grt, 4, 15, 15⟩
abbrev GRT.CELL_IDX_BANK : Fld := ⟨.grt, 4, 14, 14⟩
abbrev GRT.CELL_IDX_WORD : Fld := ⟨.grt, 4, 13, 12⟩
abbrev GRT.CELL_IDX_CELL : Fld := ⟨.grt, 4, 9, 0⟩
abbrev GRT.CELL_DATA : Fld := ⟨.grt, 5, 31, 0⟩
abbrev GRT.ALLOC_IDX_AUTO_INC : Fld := ⟨.grt, 6, 15, 15⟩
abbrev GRT.ALLOC_IDX_CTX : Fld := ⟨.grt, 6, 11, 1⟩
abbrev GRT.ALLOC_IDX_WORD : Fld := ⟨.grt, 6, 0, 0⟩
abbrev GRT.ALLOC_DATA : Fld := ⟨.grt, 7, 31, 0⟩
abbrev GRT.PROF_IDX_AUTO_INC : Fld := ⟨.grt, 8, 15, 15⟩
abbrev GRT.PROF_IDX_RATE : Fld := ⟨.grt, 8, 5, 4⟩
abbrev GRT.PROF_IDX_PROF : Fld := ⟨.grt, 8, 3, 2⟩
abbrev GRT.PROF_IDX_WORD : Fld := ⟨.grt, 8, 1, 0⟩
abbrev GRT.PROF_DATA : Fld := ⟨.grt, 9, 31, 0⟩
abbrev GRT.CLOSE_CNT : Fld := ⟨.grt, 16, 31, 0⟩
abbrev GRT.EMIT_CNT : Fld := ⟨.grt, 17, 31, 0⟩
abbrev GRT.WIT_NONE_CNT : Fld := ⟨.grt, 18, 31, 0⟩
abbrev GRT.PROF_SUB_CNT : Fld := ⟨.grt, 19, 31, 0⟩
abbrev GRT.FIXED_HIT_CNT : Fld := ⟨.grt, 20, 31, 0⟩
abbrev GRT.RACE_CNT : Fld := ⟨.grt, 21, 31, 0⟩
abbrev GRT.RPT_CNT : Fld := ⟨.grt, 22, 31, 0⟩
abbrev GRT.RPT_CLIP_CNT : Fld := ⟨.grt, 23, 31, 0⟩
abbrev GRT.RPTQ_DROP_CNT : Fld := ⟨.grt, 24, 31, 0⟩
abbrev GRT.RPT_UNK_CNT : Fld := ⟨.grt, 25, 31, 0⟩
abbrev GRT.ODD_ST_CNT : Fld := ⟨.grt, 26, 31, 0⟩
abbrev GRT.MIRROR_LATE_CNT : Fld := ⟨.grt, 27, 31, 0⟩
abbrev GRT.REJ_CNT1 : Fld := ⟨.grt, 28, 31, 0⟩
abbrev GRT.REJ_CNT2 : Fld := ⟨.grt, 29, 31, 0⟩
abbrev GRT.REJ_CNT3 : Fld := ⟨.grt, 30, 31, 0⟩
abbrev GRT.REJ_CNT4 : Fld := ⟨.grt, 31, 31, 0⟩
abbrev GRT.REJ_CNT5 : Fld := ⟨.grt, 32, 31, 0⟩
abbrev GRT.REJ_CNT6 : Fld := ⟨.grt, 33, 31, 0⟩
abbrev GRT.REJ_CNT7 : Fld := ⟨.grt, 34, 31, 0⟩
abbrev GRT.REJ_CNT8 : Fld := ⟨.grt, 35, 31, 0⟩
abbrev GRT.WIT_SKIP_CNT : Fld := ⟨.grt, 36, 31, 0⟩

/-! GRT[n] comb cell -/
abbrev CELL.VALID : Fld := ⟨.cell, 0, 31, 31⟩
abbrev CELL.FIXED : Fld := ⟨.cell, 0, 30, 30⟩
abbrev CELL.FOLLOW : Fld := ⟨.cell, 0, 29, 29⟩
abbrev CELL.DBRU : Fld := ⟨.cell, 0, 28, 28⟩
abbrev CELL.PLOAMU : Fld := ⟨.cell, 0, 27, 27⟩
abbrev CELL.KIND : Fld := ⟨.cell, 0, 26, 25⟩
abbrev CELL.PROFILE : Fld := ⟨.cell, 0, 24, 23⟩
abbrev CELL.TERM : Fld := ⟨.cell, 0, 22, 14⟩
abbrev CELL.ALLOC_ID : Fld := ⟨.cell, 0, 13, 0⟩
abbrev CELL.STARTTIME : Fld := ⟨.cell, 1, 31, 15⟩
abbrev CELL.RATE : Fld := ⟨.cell, 1, 14, 13⟩
abbrev CELL.FOWN : Fld := ⟨.cell, 1, 12, 11⟩
abbrev CELL.WRITER : Fld := ⟨.cell, 1, 10, 8⟩
abbrev CELL.RESULT : Fld := ⟨.cell, 2, 31, 28⟩
abbrev CELL.SUBST : Fld := ⟨.cell, 2, 27, 27⟩
abbrev CELL.GRANTSIZE : Fld := ⟨.cell, 2, 15, 0⟩

/-! GRT[n] allocation context -/
abbrev CTX.VALID : Fld := ⟨.ctx, 0, 31, 31⟩
abbrev CTX.ALLOC_ID : Fld := ⟨.ctx, 0, 29, 16⟩
abbrev CTX.TERM : Fld := ⟨.ctx, 0, 8, 0⟩
abbrev CTX.MAX_RPT : Fld := ⟨.ctx, 1, 23, 0⟩
abbrev CTX.CREDIT : Fld := ⟨.ctx, 2, 31, 0⟩
abbrev CTX.RATE : Fld := ⟨.ctx, 3, 31, 0⟩
abbrev CTX.FREE : Fld := ⟨.ctx, 4, 31, 24⟩
abbrev CTX.BURST : Fld := ⟨.ctx, 4, 23, 0⟩
abbrev CTX.LAST : Fld := ⟨.ctx, 5, 31, 0⟩
abbrev CTX.P6 : Fld := ⟨.ctx, 6, 31, 0⟩
abbrev CTX.P7 : Fld := ⟨.ctx, 7, 31, 0⟩

/-! GRT[n] burst profile -/
abbrev PROF.VALID : Fld := ⟨.prof, 0, 31, 31⟩
abbrev PROF.FEC : Fld := ⟨.prof, 0, 30, 30⟩
abbrev PROF.DLM8 : Fld := ⟨.prof, 0, 29, 29⟩
abbrev PROF.GUARD : Fld := ⟨.prof, 0, 23, 16⟩
abbrev PROF.PREAMBLE : Fld := ⟨.prof, 0, 11, 0⟩
abbrev PROF.DLM_HI : Fld := ⟨.prof, 1, 31, 0⟩
abbrev PROF.DLM_LO : Fld := ⟨.prof, 2, 31, 0⟩

/-! GSQ[k] -/
abbrev GSQ.CTL_AUTO_RST : Fld := ⟨.gsq, 0, 8, 8⟩
abbrev GSQ.CTL_RST_LIMIT : Fld := ⟨.gsq, 0, 7, 4⟩
abbrev GSQ.CTL_TEN : Fld := ⟨.gsq, 0, 3, 0⟩
abbrev GSQ.TICK_CFG_LEAD : Fld := ⟨.gsq, 1, 14, 0⟩
abbrev GSQ.WDOG_CYCLES : Fld := ⟨.gsq, 2, 23, 0⟩
abbrev GSQ.MIRROR_CFG_LEN : Fld := ⟨.gsq, 3, 26, 16⟩
abbrev GSQ.MIRROR_CFG_BASE : Fld := ⟨.gsq, 3, 15, 0⟩
abbrev GSQ.SWAP_GO : Fld := ⟨.gsq, 4, 31, 31⟩
abbrev GSQ.SWAP_ERR : Fld := ⟨.gsq, 4, 30, 30⟩
abbrev GSQ.SWAP_THREAD : Fld := ⟨.gsq, 4, 1, 0⟩
abbrev GSQ.SWAP_ENTRY_ENTRY : Fld := ⟨.gsq, 5, 13, 0⟩
abbrev GSQ.SWAP_REGION_END : Fld := ⟨.gsq, 6, 29, 16⟩
abbrev GSQ.SWAP_REGION_START : Fld := ⟨.gsq, 6, 13, 0⟩
abbrev GSQ.THR_ENTRY0_ENTRY : Fld := ⟨.gsq, 8, 13, 0⟩
abbrev GSQ.THR_ENTRY1_ENTRY : Fld := ⟨.gsq, 9, 13, 0⟩
abbrev GSQ.THR_ENTRY2_ENTRY : Fld := ⟨.gsq, 10, 13, 0⟩
abbrev GSQ.THR_ENTRY3_ENTRY : Fld := ⟨.gsq, 11, 13, 0⟩
abbrev GSQ.THR_REGION0_END : Fld := ⟨.gsq, 12, 29, 16⟩
abbrev GSQ.THR_REGION0_START : Fld := ⟨.gsq, 12, 13, 0⟩
abbrev GSQ.THR_REGION1_END : Fld := ⟨.gsq, 13, 29, 16⟩
abbrev GSQ.THR_REGION1_START : Fld := ⟨.gsq, 13, 13, 0⟩
abbrev GSQ.THR_REGION2_END : Fld := ⟨.gsq, 14, 29, 16⟩
abbrev GSQ.THR_REGION2_START : Fld := ⟨.gsq, 14, 13, 0⟩
abbrev GSQ.THR_REGION3_END : Fld := ⟨.gsq, 15, 29, 16⟩
abbrev GSQ.THR_REGION3_START : Fld := ⟨.gsq, 15, 13, 0⟩
abbrev GSQ.THR_STS0_STATE : Fld := ⟨.gsq, 16, 31, 29⟩
abbrev GSQ.THR_STS0_FCODE : Fld := ⟨.gsq, 16, 28, 25⟩
abbrev GSQ.THR_STS0_SWAP_PEND : Fld := ⟨.gsq, 16, 24, 24⟩
abbrev GSQ.THR_STS0_ST : Fld := ⟨.gsq, 16, 23, 20⟩
abbrev GSQ.THR_STS0_PC : Fld := ⟨.gsq, 16, 13, 0⟩
abbrev GSQ.THR_STS1_STATE : Fld := ⟨.gsq, 17, 31, 29⟩
abbrev GSQ.THR_STS1_FCODE : Fld := ⟨.gsq, 17, 28, 25⟩
abbrev GSQ.THR_STS1_SWAP_PEND : Fld := ⟨.gsq, 17, 24, 24⟩
abbrev GSQ.THR_STS1_ST : Fld := ⟨.gsq, 17, 23, 20⟩
abbrev GSQ.THR_STS1_PC : Fld := ⟨.gsq, 17, 13, 0⟩
abbrev GSQ.THR_STS2_STATE : Fld := ⟨.gsq, 18, 31, 29⟩
abbrev GSQ.THR_STS2_FCODE : Fld := ⟨.gsq, 18, 28, 25⟩
abbrev GSQ.THR_STS2_SWAP_PEND : Fld := ⟨.gsq, 18, 24, 24⟩
abbrev GSQ.THR_STS2_ST : Fld := ⟨.gsq, 18, 23, 20⟩
abbrev GSQ.THR_STS2_PC : Fld := ⟨.gsq, 18, 13, 0⟩
abbrev GSQ.THR_STS3_STATE : Fld := ⟨.gsq, 19, 31, 29⟩
abbrev GSQ.THR_STS3_FCODE : Fld := ⟨.gsq, 19, 28, 25⟩
abbrev GSQ.THR_STS3_SWAP_PEND : Fld := ⟨.gsq, 19, 24, 24⟩
abbrev GSQ.THR_STS3_ST : Fld := ⟨.gsq, 19, 23, 20⟩
abbrev GSQ.THR_STS3_PC : Fld := ⟨.gsq, 19, 13, 0⟩
abbrev GSQ.MBX0 : Fld := ⟨.gsq, 20, 31, 0⟩
abbrev GSQ.MBX1 : Fld := ⟨.gsq, 21, 31, 0⟩
abbrev GSQ.MBX2 : Fld := ⟨.gsq, 22, 31, 0⟩
abbrev GSQ.MBX3 : Fld := ⟨.gsq, 23, 31, 0⟩
abbrev GSQ.IMEM_IDX_AUTO_INC : Fld := ⟨.gsq, 24, 31, 31⟩
abbrev GSQ.IMEM_IDX_ADDR : Fld := ⟨.gsq, 24, 13, 0⟩
abbrev GSQ.IMEM_DATA : Fld := ⟨.gsq, 25, 31, 0⟩
abbrev GSQ.DMEM_IDX_AUTO_INC : Fld := ⟨.gsq, 26, 31, 31⟩
abbrev GSQ.DMEM_IDX_ADDR : Fld := ⟨.gsq, 26, 15, 2⟩
abbrev GSQ.DMEM_DATA : Fld := ⟨.gsq, 27, 31, 0⟩
abbrev GSQ.CTX_IDX_AUTO_INC : Fld := ⟨.gsq, 28, 31, 31⟩
abbrev GSQ.CTX_IDX_TREE : Fld := ⟨.gsq, 28, 16, 14⟩
abbrev GSQ.CTX_IDX_CTX : Fld := ⟨.gsq, 28, 13, 3⟩
abbrev GSQ.CTX_IDX_WORD : Fld := ⟨.gsq, 28, 2, 0⟩
abbrev GSQ.CTX_DATA : Fld := ⟨.gsq, 29, 31, 0⟩
abbrev GSQ.REG_IDX_THREAD : Fld := ⟨.gsq, 30, 5, 4⟩
abbrev GSQ.REG_IDX_REG : Fld := ⟨.gsq, 30, 3, 0⟩
abbrev GSQ.REG_DATA : Fld := ⟨.gsq, 31, 31, 0⟩
abbrev GSQ.TRACE_CTL_EN : Fld := ⟨.gsq, 32, 31, 31⟩
abbrev GSQ.TRACE_CTL_RING : Fld := ⟨.gsq, 32, 30, 30⟩
abbrev GSQ.TRACE_CTL_MODE : Fld := ⟨.gsq, 32, 29, 28⟩
abbrev GSQ.TRACE_CTL_THREADS : Fld := ⟨.gsq, 32, 27, 24⟩
abbrev GSQ.TRACE_CTL_PERIOD : Fld := ⟨.gsq, 32, 15, 0⟩
abbrev GSQ.TRACE_ADDR_ADDR1 : Fld := ⟨.gsq, 33, 29, 16⟩
abbrev GSQ.TRACE_ADDR_ADDR0 : Fld := ⟨.gsq, 33, 13, 0⟩
abbrev GSQ.TRACE_STS_FULL : Fld := ⟨.gsq, 34, 31, 31⟩
abbrev GSQ.TRACE_STS_COUNT : Fld := ⟨.gsq, 34, 12, 0⟩
abbrev GSQ.TRACE_IDX_AUTO_INC : Fld := ⟨.gsq, 35, 31, 31⟩
abbrev GSQ.TRACE_IDX_ENTRY : Fld := ⟨.gsq, 35, 12, 1⟩
abbrev GSQ.TRACE_IDX_WORD : Fld := ⟨.gsq, 35, 0, 0⟩
abbrev GSQ.TRACE_DATA : Fld := ⟨.gsq, 36, 31, 0⟩
abbrev GSQ.FAULT_CNT : Fld := ⟨.gsq, 40, 31, 0⟩
abbrev GSQ.WDOG_CNT : Fld := ⟨.gsq, 41, 31, 0⟩
abbrev GSQ.AUTORST_CNT : Fld := ⟨.gsq, 42, 31, 0⟩
abbrev GSQ.SWAP_CNT : Fld := ⟨.gsq, 43, 31, 0⟩
abbrev GSQ.ARG_CNT : Fld := ⟨.gsq, 44, 31, 0⟩
abbrev GSQ.PLOAM_FULL_CNT : Fld := ⟨.gsq, 45, 31, 0⟩
abbrev GSQ.CTX_RACE_CNT : Fld := ⟨.gsq, 46, 31, 0⟩
abbrev GSQ.MBX_OVR_CNT : Fld := ⟨.gsq, 47, 31, 0⟩
abbrev GSQ.IMEM_REF_CNT : Fld := ⟨.gsq, 48, 31, 0⟩
abbrev GSQ.TRACE_DROP_CNT : Fld := ⟨.gsq, 49, 31, 0⟩
abbrev GSQ.ECC_CNT : Fld := ⟨.gsq, 50, 31, 0⟩

/-! CRL -/
abbrev CRL.CTL_RF_SH : Fld := ⟨.crl, 0, 11, 8⟩
abbrev CRL.CTL_KP_SH : Fld := ⟨.crl, 0, 7, 4⟩
abbrev CRL.CTL_KI_SH : Fld := ⟨.crl, 0, 3, 0⟩
abbrev CRL.BIND_GO : Fld := ⟨.crl, 1, 31, 31⟩
abbrev CRL.BIND_ERR : Fld := ⟨.crl, 1, 30, 30⟩
abbrev CRL.BIND_ERRCODE : Fld := ⟨.crl, 1, 29, 26⟩
abbrev CRL.BIND_OP : Fld := ⟨.crl, 1, 21, 21⟩
abbrev CRL.BIND_DIR : Fld := ⟨.crl, 1, 20, 20⟩
abbrev CRL.BIND_TREE : Fld := ⟨.crl, 1, 9, 4⟩
abbrev CRL.BIND_LANE : Fld := ⟨.crl, 1, 3, 0⟩
abbrev CRL.STS_PRIV_CNT : Fld := ⟨.crl, 2, 25, 21⟩
abbrev CRL.STS_BOUND_US : Fld := ⟨.crl, 2, 20, 11⟩
abbrev CRL.STS_BOUND_DN : Fld := ⟨.crl, 2, 10, 1⟩
abbrev CRL.LANE_IDX_AUTO_INC : Fld := ⟨.crl, 4, 15, 15⟩
abbrev CRL.LANE_IDX_DIR : Fld := ⟨.crl, 4, 14, 14⟩
abbrev CRL.LANE_IDX_TREE : Fld := ⟨.crl, 4, 13, 8⟩
abbrev CRL.LANE_IDX_LANE : Fld := ⟨.crl, 4, 7, 4⟩
abbrev CRL.LANE_IDX_WORD : Fld := ⟨.crl, 4, 3, 0⟩
abbrev CRL.LANE_DATA : Fld := ⟨.crl, 5, 31, 0⟩
abbrev CRL.HDR_IDX_AUTO_INC : Fld := ⟨.crl, 6, 10, 10⟩
abbrev CRL.HDR_IDX_HDR : Fld := ⟨.crl, 6, 9, 2⟩
abbrev CRL.HDR_IDX_WORD : Fld := ⟨.crl, 6, 1, 0⟩
abbrev CRL.HDR_DATA : Fld := ⟨.crl, 7, 31, 0⟩
abbrev CRL.STRAY_CNT : Fld := ⟨.crl, 8, 31, 0⟩

/-! OHP[p] -/
abbrev OHP.CTL_DIV : Fld := ⟨.ohp, 0, 7, 2⟩
abbrev OHP.CTL_EN : Fld := ⟨.ohp, 0, 0, 0⟩
abbrev OHP.CH_IDX_AUTO_INC : Fld := ⟨.ohp, 1, 5, 5⟩
abbrev OHP.CH_IDX_CH : Fld := ⟨.ohp, 1, 4, 0⟩
abbrev OHP.CH_DATA_IN_V : Fld := ⟨.ohp, 2, 31, 31⟩
abbrev OHP.CH_DATA_OUT_V : Fld := ⟨.ohp, 2, 30, 30⟩
abbrev OHP.CH_DATA_IN_TREE : Fld := ⟨.ohp, 2, 29, 24⟩
abbrev OHP.CH_DATA_IN_LANE : Fld := ⟨.ohp, 2, 23, 20⟩
abbrev OHP.CH_DATA_OUT_TREE : Fld := ⟨.ohp, 2, 19, 14⟩
abbrev OHP.CH_DATA_OUT_LANE : Fld := ⟨.ohp, 2, 13, 10⟩
abbrev OHP.OH_IDLE_CNT : Fld := ⟨.ohp, 4, 31, 0⟩
abbrev OHP.OH_OVR_CNT : Fld := ⟨.ohp, 5, 31, 0⟩

/-! CRL lane -/
abbrev LANE.BOUND : Fld := ⟨.lane, 0, 31, 31⟩
abbrev LANE.PRIV : Fld := ⟨.lane, 0, 30, 30⟩
abbrev LANE.CIPHER : Fld := ⟨.lane, 0, 29, 28⟩
abbrev LANE.TERM : Fld := ⟨.lane, 0, 24, 16⟩
abbrev LANE.PORT_ID : Fld := ⟨.lane, 0, 15, 0⟩
abbrev LANE.PPM : Fld := ⟨.lane, 1, 31, 20⟩
abbrev LANE.CN_NOM : Fld := ⟨.lane, 1, 19, 0⟩
abbrev LANE.CN_FRAC : Fld := ⟨.lane, 2, 31, 16⟩
abbrev LANE.GRANT : Fld := ⟨.lane, 2, 15, 0⟩
abbrev LANE.STARTTIME : Fld := ⟨.lane, 3, 31, 15⟩
abbrev LANE.PROFILE : Fld := ⟨.lane, 3, 14, 13⟩
abbrev LANE.CELL : Fld := ⟨.lane, 3, 9, 0⟩
abbrev LANE.ALLOC_ID : Fld := ⟨.lane, 4, 31, 18⟩
abbrev LANE.FLOW_ID : Fld := ⟨.lane, 4, 15, 8⟩
abbrev LANE.NPORT : Fld := ⟨.lane, 4, 4, 0⟩
abbrev LANE.THR_EXP : Fld := ⟨.lane, 5, 31, 28⟩
abbrev LANE.THR_MANT : Fld := ⟨.lane, 5, 27, 24⟩
abbrev LANE.DECL_N : Fld := ⟨.lane, 5, 23, 20⟩
abbrev LANE.CLR_N : Fld := ⟨.lane, 5, 19, 16⟩
abbrev LANE.LABEL_EXP : Fld := ⟨.lane, 5, 15, 8⟩
abbrev LANE.HDR : Fld := ⟨.lane, 5, 7, 0⟩
abbrev LANE.FT : Fld := ⟨.lane, 6, 31, 16⟩
abbrev LANE.WIN : Fld := ⟨.lane, 6, 15, 0⟩
abbrev LANE.PT_OFS : Fld := ⟨.lane, 7, 31, 16⟩
abbrev LANE.PKT_LEN : Fld := ⟨.lane, 7, 15, 0⟩
abbrev LANE.STATE : Fld := ⟨.lane, 8, 31, 30⟩
abbrev LANE.DEG : Fld := ⟨.lane, 8, 29, 29⟩
abbrev LANE.LBL_MISM : Fld := ⟨.lane, 8, 28, 28⟩
abbrev LANE.LBL_RX : Fld := ⟨.lane, 8, 27, 20⟩
abbrev LANE.CN_LAST : Fld := ⟨.lane, 8, 19, 0⟩
abbrev LANE.SLIP_REP_CNT : Fld := ⟨.lane, 9, 31, 0⟩
abbrev LANE.SLIP_DROP_CNT : Fld := ⟨.lane, 10, 31, 0⟩
abbrev LANE.JC_ERR_CNT : Fld := ⟨.lane, 11, 31, 0⟩
abbrev LANE.DISC_CNT : Fld := ⟨.lane, 12, 31, 0⟩
abbrev LANE.PKT_ERR_CNT : Fld := ⟨.lane, 13, 31, 0⟩

/-! CLS[k] -/
abbrev CLS.CTL_EVICT : Fld := ⟨.cls, 0, 2, 2⟩
abbrev CLS.CTL_AGE_EN : Fld := ⟨.cls, 0, 1, 1⟩
abbrev CLS.CTL_LEARN_EN : Fld := ⟨.cls, 0, 0, 0⟩
abbrev CLS.AGE_CFG_PERIOD : Fld := ⟨.cls, 1, 6, 0⟩
abbrev CLS.LEARN_CFG_REFRESH : Fld := ⟨.cls, 2, 3, 0⟩
abbrev CLS.HASH_SEED0 : Fld := ⟨.cls, 3, 31, 0⟩
abbrev CLS.HASH_SEED1 : Fld := ⟨.cls, 4, 31, 0⟩
abbrev CLS.STS_EM_BUSY : Fld := ⟨.cls, 5, 30, 30⟩
abbrev CLS.STS_EM_USED : Fld := ⟨.cls, 5, 20, 0⟩
abbrev CLS.LQ_STS_LVL : Fld := ⟨.cls, 6, 12, 0⟩
abbrev CLS.EM_IDX_AUTO_INC : Fld := ⟨.cls, 7, 2, 2⟩
abbrev CLS.EM_IDX_WORD : Fld := ⟨.cls, 7, 1, 0⟩
abbrev CLS.EM_DATA : Fld := ⟨.cls, 8, 31, 0⟩
abbrev CLS.EM_CMD_GO : Fld := ⟨.cls, 9, 31, 31⟩
abbrev CLS.EM_CMD_ERR : Fld := ⟨.cls, 9, 30, 30⟩
abbrev CLS.EM_CMD_RESULT : Fld := ⟨.cls, 9, 29, 27⟩
abbrev CLS.EM_CMD_OP : Fld := ⟨.cls, 9, 26, 24⟩
abbrev CLS.EM_CMD_SLOT : Fld := ⟨.cls, 9, 19, 0⟩
abbrev CLS.TBL_IDX_AUTO_INC : Fld := ⟨.cls, 10, 31, 31⟩
abbrev CLS.TBL_IDX_TABLE : Fld := ⟨.cls, 10, 30, 28⟩
abbrev CLS.TBL_IDX_WORD : Fld := ⟨.cls, 10, 19, 18⟩
abbrev CLS.TBL_IDX_ENTRY : Fld := ⟨.cls, 10, 17, 0⟩
abbrev CLS.TBL_DATA : Fld := ⟨.cls, 11, 31, 0⟩
abbrev CLS.LEARN_CNT : Fld := ⟨.cls, 16, 31, 0⟩
abbrev CLS.LEARN_DROP_CNT : Fld := ⟨.cls, 17, 31, 0⟩
abbrev CLS.LEARN_LIMIT_CNT : Fld := ⟨.cls, 18, 31, 0⟩
abbrev CLS.MOVE_LOCAL_CNT : Fld := ⟨.cls, 19, 31, 0⟩
abbrev CLS.SRC_VIOL_CNT : Fld := ⟨.cls, 20, 31, 0⟩
abbrev CLS.MOVE_CNT : Fld := ⟨.cls, 21, 31, 0⟩
abbrev CLS.MOVE_TIE_CNT : Fld := ⟨.cls, 22, 31, 0⟩
abbrev CLS.MOVE_CLR_FAIL_CNT : Fld := ⟨.cls, 23, 31, 0⟩
abbrev CLS.AGE_CNT : Fld := ⟨.cls, 24, 31, 0⟩
abbrev CLS.AGE_FAIL_CNT : Fld := ⟨.cls, 25, 31, 0⟩
abbrev CLS.EVICT_CNT : Fld := ⟨.cls, 26, 31, 0⟩
abbrev CLS.EM_FULL_CNT : Fld := ⟨.cls, 27, 31, 0⟩
abbrev CLS.CONT_CNT : Fld := ⟨.cls, 28, 31, 0⟩
abbrev CLS.TRAP_CNT : Fld := ⟨.cls, 29, 31, 0⟩
abbrev CLS.PORT_MISS_CNT : Fld := ⟨.cls, 30, 31, 0⟩
abbrev CLS.VID_MISS_CNT : Fld := ⟨.cls, 31, 31, 0⟩
abbrev CLS.ACT_DROP_CNT : Fld := ⟨.cls, 32, 31, 0⟩
abbrev CLS.METER_DROP_CNT : Fld := ⟨.cls, 33, 31, 0⟩
abbrev CLS.MIRROR_DROP_CNT : Fld := ⟨.cls, 34, 31, 0⟩

/-! CLS[k] ACTION table -/
abbrev CACTION.VALID : Fld := ⟨.cAction, 0, 31, 31⟩
abbrev CACTION.DEST : Fld := ⟨.cAction, 0, 30, 28⟩
abbrev CACTION.MIRROR : Fld := ⟨.cAction, 0, 27, 27⟩
abbrev CACTION.METER_EN : Fld := ⟨.cAction, 0, 26, 26⟩
abbrev CACTION.VOP : Fld := ⟨.cAction, 0, 25, 24⟩
abbrev CACTION.PCP : Fld := ⟨.cAction, 0, 23, 21⟩
abbrev CACTION.METER : Fld := ⟨.cAction, 0, 15, 0⟩
abbrev CACTION.VID : Fld := ⟨.cAction, 1, 11, 0⟩
abbrev CACTION.TARGET : Fld := ⟨.cAction, 2, 31, 0⟩

/-! CLS[k] PORT table -/
abbrev CPORT.VALID : Fld := ⟨.cPort, 0, 31, 31⟩
abbrev CPORT.LEARN : Fld := ⟨.cPort, 0, 30, 30⟩
abbrev CPORT.OMCI : Fld := ⟨.cPort, 0, 29, 29⟩
abbrev CPORT.PID_HI : Fld := ⟨.cPort, 0, 11, 8⟩
abbrev CPORT.DOMAIN : Fld := ⟨.cPort, 0, 7, 0⟩
abbrev CPORT.ACTION : Fld := ⟨.cPort, 1, 17, 0⟩

/-! CLS[k] VID table -/
abbrev CVID.VALID : Fld := ⟨.cVid, 0, 31, 31⟩
abbrev CVID.DOMAIN : Fld := ⟨.cVid, 0, 7, 0⟩

/-! CLS[k] DOMAIN table -/
abbrev CDOMAIN.VALID : Fld := ⟨.cDomain, 0, 31, 31⟩
abbrev CDOMAIN.ROUTED : Fld := ⟨.cDomain, 0, 30, 30⟩
abbrev CDOMAIN.FLOOD : Fld := ⟨.cDomain, 0, 13, 0⟩
abbrev CDOMAIN.LPM_DEF : Fld := ⟨.cDomain, 1, 17, 0⟩

/-! CLS[k] GROUP table -/
abbrev CGROUP.VALID : Fld := ⟨.cGroup, 0, 31, 31⟩
abbrev CGROUP.FIRST : Fld := ⟨.cGroup, 0, 25, 8⟩
abbrev CGROUP.COUNT : Fld := ⟨.cGroup, 0, 7, 0⟩

/-! CLS[k] MEMBER table -/
abbrev CMEMBER.VALID : Fld := ⟨.cMember, 0, 31, 31⟩
abbrev CMEMBER.TREE : Fld := ⟨.cMember, 0, 21, 16⟩
abbrev CMEMBER.PORT : Fld := ⟨.cMember, 0, 15, 0⟩

/-! CLS[k] METER table -/
abbrev CMETER.VALID : Fld := ⟨.cMeter, 0, 31, 31⟩
abbrev CMETER.CIR : Fld := ⟨.cMeter, 0, 19, 0⟩
abbrev CMETER.CBS : Fld := ⟨.cMeter, 1, 23, 0⟩

/-! CLS[k] LIMIT table -/
abbrev CLIMIT.MAX : Fld := ⟨.cLimit, 0, 20, 0⟩
abbrev CLIMIT.COUNT : Fld := ⟨.cLimit, 1, 20, 0⟩

/-! CLS LPM -/
abbrev LPM.LPM_CMD_GO : Fld := ⟨.lpm, 0, 31, 31⟩
abbrev LPM.LPM_CMD_ERR : Fld := ⟨.lpm, 0, 30, 30⟩
abbrev LPM.LPM_CMD_RESULT : Fld := ⟨.lpm, 0, 29, 28⟩
abbrev LPM.LPM_CMD_STAGE : Fld := ⟨.lpm, 0, 27, 25⟩
abbrev LPM.LPM_CMD_BUSY : Fld := ⟨.lpm, 0, 24, 24⟩
abbrev LPM.LPM_CMD_OP : Fld := ⟨.lpm, 0, 19, 18⟩
abbrev LPM.LPM_CMD_CIDX : Fld := ⟨.lpm, 0, 17, 0⟩
abbrev LPM.LPM_IDX_AUTO_INC : Fld := ⟨.lpm, 1, 2, 2⟩
abbrev LPM.LPM_IDX_WORD : Fld := ⟨.lpm, 1, 1, 0⟩
abbrev LPM.LPM_DATA : Fld := ⟨.lpm, 2, 31, 0⟩

/-! CLS LPM_DATA staging -/
abbrev LPMD.V6 : Fld := ⟨.lpmD, 0, 31, 31⟩
abbrev LPMD.LEN : Fld := ⟨.lpmD, 0, 30, 24⟩
abbrev LPMD.CONT : Fld := ⟨.lpmD, 0, 23, 23⟩
abbrev LPMD.CLEN : Fld := ⟨.lpmD, 0, 22, 16⟩
abbrev LPMD.ACTION : Fld := ⟨.lpmD, 1, 17, 0⟩
abbrev LPMD.ADDR_HI : Fld := ⟨.lpmD, 2, 31, 0⟩
abbrev LPMD.ADDR_LO : Fld := ⟨.lpmD, 3, 31, 0⟩

/-! BPM -/
abbrev BPM.CTL_RECLAIM_EN : Fld := ⟨.bpm, 0, 1, 1⟩
abbrev BPM.CTL_LOCK : Fld := ⟨.bpm, 0, 0, 0⟩
abbrev BPM.POOL_S_CNT : Fld := ⟨.bpm, 1, 10, 0⟩
abbrev BPM.POOL_M_CNT : Fld := ⟨.bpm, 2, 10, 0⟩
abbrev BPM.POOL_J_CNT : Fld := ⟨.bpm, 3, 10, 0⟩
abbrev BPM.POOL_C_CNT : Fld := ⟨.bpm, 4, 4, 0⟩
abbrev BPM.STS_INIT_BUSY : Fld := ⟨.bpm, 5, 31, 31⟩
abbrev BPM.STS_RECLAIM_BUSY : Fld := ⟨.bpm, 5, 30, 30⟩
abbrev BPM.STS_RECLAIM_REQ : Fld := ⟨.bpm, 5, 4, 0⟩
abbrev BPM.FREE0_FREE : Fld := ⟨.bpm, 8, 26, 0⟩
abbrev BPM.FREE1_FREE : Fld := ⟨.bpm, 9, 26, 0⟩
abbrev BPM.FREE2_FREE : Fld := ⟨.bpm, 10, 26, 0⟩
abbrev BPM.FREE3_FREE : Fld := ⟨.bpm, 11, 26, 0⟩
abbrev BPM.QUOTA_IDX_AUTO_INC : Fld := ⟨.bpm, 12, 31, 31⟩
abbrev BPM.QUOTA_IDX_REQ : Fld := ⟨.bpm, 12, 8, 4⟩
abbrev BPM.QUOTA_IDX_POOL : Fld := ⟨.bpm, 12, 3, 2⟩
abbrev BPM.QUOTA_IDX_WORD : Fld := ⟨.bpm, 12, 1, 0⟩
abbrev BPM.QUOTA_DATA : Fld := ⟨.bpm, 13, 31, 0⟩
abbrev BPM.DESC_HANDLE : Fld := ⟨.bpm, 14, 31, 0⟩
abbrev BPM.DESC0_ALLOC : Fld := ⟨.bpm, 15, 31, 31⟩
abbrev BPM.DESC0_PAIR : Fld := ⟨.bpm, 15, 30, 30⟩
abbrev BPM.DESC0_COUNT : Fld := ⟨.bpm, 15, 29, 22⟩
abbrev BPM.DESC0_OWNER : Fld := ⟨.bpm, 15, 21, 17⟩
abbrev BPM.DESC0_GEN : Fld := ⟨.bpm, 15, 16, 13⟩
abbrev BPM.DESC1 : Fld := ⟨.bpm, 16, 31, 0⟩
abbrev BPM.DESC2_LEN : Fld := ⟨.bpm, 17, 14, 0⟩
abbrev BPM.HBM_CFG0_TEMP_WARN : Fld := ⟨.bpm, 18, 7, 0⟩
abbrev BPM.HBM_CFG1_TEMP_WARN : Fld := ⟨.bpm, 19, 7, 0⟩
abbrev BPM.HBM_STS0_READY : Fld := ⟨.bpm, 20, 31, 31⟩
abbrev BPM.HBM_STS0_TEMP : Fld := ⟨.bpm, 20, 7, 0⟩
abbrev BPM.HBM_STS1_READY : Fld := ⟨.bpm, 21, 31, 31⟩
abbrev BPM.HBM_STS1_TEMP : Fld := ⟨.bpm, 21, 7, 0⟩
abbrev BPM.ALLOC_CNT0 : Fld := ⟨.bpm, 24, 31, 0⟩
abbrev BPM.ALLOC_CNT1 : Fld := ⟨.bpm, 25, 31, 0⟩
abbrev BPM.ALLOC_CNT2 : Fld := ⟨.bpm, 26, 31, 0⟩
abbrev BPM.ALLOC_CNT3 : Fld := ⟨.bpm, 27, 31, 0⟩
abbrev BPM.NOBUF_CNT0 : Fld := ⟨.bpm, 28, 31, 0⟩
abbrev BPM.NOBUF_CNT1 : Fld := ⟨.bpm, 29, 31, 0⟩
abbrev BPM.NOBUF_CNT2 : Fld := ⟨.bpm, 30, 31, 0⟩
abbrev BPM.NOBUF_CNT3 : Fld := ⟨.bpm, 31, 31, 0⟩
abbrev BPM.DFREE_CNT : Fld := ⟨.bpm, 32, 31, 0⟩
abbrev BPM.NONHOLD_CNT : Fld := ⟨.bpm, 33, 31, 0⟩
abbrev BPM.RANGE_CNT : Fld := ⟨.bpm, 34, 31, 0⟩
abbrev BPM.SHARE_REF_CNT : Fld := ⟨.bpm, 35, 31, 0⟩
abbrev BPM.TOOLONG_CNT : Fld := ⟨.bpm, 36, 31, 0⟩
abbrev BPM.STALE_ACC_CNT : Fld := ⟨.bpm, 37, 31, 0⟩
abbrev BPM.RECLAIM_CNT : Fld := ⟨.bpm, 38, 31, 0⟩
abbrev BPM.HBM_CE_CNT0 : Fld := ⟨.bpm, 39, 31, 0⟩
abbrev BPM.HBM_CE_CNT1 : Fld := ⟨.bpm, 40, 31, 0⟩
abbrev BPM.HBM_UE_CNT0 : Fld := ⟨.bpm, 41, 31, 0⟩
abbrev BPM.HBM_UE_CNT1 : Fld := ⟨.bpm, 42, 31, 0⟩

/-! BPM quota -/
abbrev QUOTA.MIN : Fld := ⟨.quota, 0, 26, 0⟩
abbrev QUOTA.MAX : Fld := ⟨.quota, 1, 26, 0⟩
abbrev QUOTA.USED : Fld := ⟨.quota, 2, 26, 0⟩

/-! TMD -/
abbrev TMD.CTL_FLUSH_TO : Fld := ⟨.tmd, 0, 7, 0⟩
abbrev TMD.DEAD0 : Fld := ⟨.tmd, 1, 31, 0⟩
abbrev TMD.DEAD1_DEAD : Fld := ⟨.tmd, 2, 15, 0⟩
abbrev TMD.NODE_IDX_AUTO_INC : Fld := ⟨.tmd, 4, 31, 31⟩
abbrev TMD.NODE_IDX_LEVEL : Fld := ⟨.tmd, 4, 30, 29⟩
abbrev TMD.NODE_IDX_TREE : Fld := ⟨.tmd, 4, 28, 23⟩
abbrev TMD.NODE_IDX_INDEX : Fld := ⟨.tmd, 4, 22, 10⟩
abbrev TMD.NODE_IDX_WORD : Fld := ⟨.tmd, 4, 2, 0⟩
abbrev TMD.NODE_DATA : Fld := ⟨.tmd, 5, 31, 0⟩
abbrev TMD.ENQ_CNT : Fld := ⟨.tmd, 16, 31, 0⟩
abbrev TMD.DEQ_CNT : Fld := ⟨.tmd, 17, 31, 0⟩
abbrev TMD.TAIL_DROP_CNT : Fld := ⟨.tmd, 18, 31, 0⟩
abbrev TMD.NOQ_CNT : Fld := ⟨.tmd, 19, 31, 0⟩
abbrev TMD.DEAD_DROP_CNT : Fld := ⟨.tmd, 20, 31, 0⟩
abbrev TMD.NOFRAG_RET_CNT : Fld := ⟨.tmd, 21, 31, 0⟩
abbrev TMD.RDERR_CNT : Fld := ⟨.tmd, 22, 31, 0⟩

/-! TMU -/
abbrev TMU.PORT_SEL_PORT : Fld := ⟨.tmu, 0, 4, 0⟩
abbrev TMU.GCL_IDX_AUTO_INC : Fld := ⟨.tmu, 10, 31, 31⟩
abbrev TMU.GCL_IDX_BANK : Fld := ⟨.tmu, 10, 9, 9⟩
abbrev TMU.GCL_IDX_ENTRY : Fld := ⟨.tmu, 10, 8, 1⟩
abbrev TMU.GCL_IDX_WORD : Fld := ⟨.tmu, 10, 0, 0⟩
abbrev TMU.GCL_DATA : Fld := ⟨.tmu, 11, 31, 0⟩
abbrev TMU.NODE_IDX_AUTO_INC : Fld := ⟨.tmu, 12, 31, 31⟩
abbrev TMU.NODE_IDX_LEVEL : Fld := ⟨.tmu, 12, 30, 30⟩
abbrev TMU.NODE_IDX_PORT : Fld := ⟨.tmu, 12, 29, 25⟩
abbrev TMU.NODE_IDX_INDEX : Fld := ⟨.tmu, 12, 24, 18⟩
abbrev TMU.NODE_IDX_WORD : Fld := ⟨.tmu, 12, 2, 0⟩
abbrev TMU.NODE_DATA : Fld := ⟨.tmu, 13, 31, 0⟩
abbrev TMU.ENQ_CNT : Fld := ⟨.tmu, 16, 31, 0⟩
abbrev TMU.TX_CNT : Fld := ⟨.tmu, 17, 31, 0⟩
abbrev TMU.TAIL_DROP_CNT : Fld := ⟨.tmu, 18, 31, 0⟩
abbrev TMU.NOQ_CNT : Fld := ⟨.tmu, 19, 31, 0⟩
abbrev TMU.OVERSIZE_CNT : Fld := ⟨.tmu, 20, 31, 0⟩
abbrev TMU.DOWN_DROP_CNT : Fld := ⟨.tmu, 21, 31, 0⟩
abbrev TMU.STBY_DROP_CNT : Fld := ⟨.tmu, 22, 31, 0⟩
abbrev TMU.CT_CNT : Fld := ⟨.tmu, 23, 31, 0⟩
abbrev TMU.CT_STORE_CNT : Fld := ⟨.tmu, 24, 31, 0⟩
abbrev TMU.PREEMPT_CNT : Fld := ⟨.tmu, 25, 31, 0⟩
abbrev TMU.GATE_HOLD_CNT : Fld := ⟨.tmu, 26, 31, 0⟩
abbrev TMU.CFG_RDERR_CNT_CFG_CHANGE_CNT : Fld := ⟨.tmu, 27, 31, 16⟩
abbrev TMU.CFG_RDERR_CNT_RDERR_CNT : Fld := ⟨.tmu, 27, 15, 0⟩

/-! TMU port -/
abbrev TMUPORT.PORT_CFG_CRL_CLASS : Fld := ⟨.tmuPort, 1, 31, 29⟩
abbrev TMUPORT.PORT_CFG_SYS_CLASS : Fld := ⟨.tmuPort, 1, 28, 26⟩
abbrev TMUPORT.PORT_CFG_CT_EN : Fld := ⟨.tmuPort, 1, 0, 0⟩
abbrev TMUPORT.GATE_CTL_CHANGE : Fld := ⟨.tmuPort, 2, 31, 31⟩
abbrev TMUPORT.GATE_CTL_ERR : Fld := ⟨.tmuPort, 2, 30, 30⟩
abbrev TMUPORT.GATE_CTL_PENDING : Fld := ⟨.tmuPort, 2, 29, 29⟩
abbrev TMUPORT.GATE_CTL_EN : Fld := ⟨.tmuPort, 2, 28, 28⟩
abbrev TMUPORT.GATE_CTL_ADMIN_LEN : Fld := ⟨.tmuPort, 2, 24, 16⟩
abbrev TMUPORT.GATE_CTL_ADMIN_STATES : Fld := ⟨.tmuPort, 2, 7, 0⟩
abbrev TMUPORT.ADMIN_BASE_NS_NS : Fld := ⟨.tmuPort, 3, 29, 0⟩
abbrev TMUPORT.ADMIN_BASE_SEC : Fld := ⟨.tmuPort, 4, 31, 0⟩
abbrev TMUPORT.ADMIN_BASE_SEC_HI_SEC_HI : Fld := ⟨.tmuPort, 5, 15, 0⟩
abbrev TMUPORT.ADMIN_CYCLE : Fld := ⟨.tmuPort, 6, 31, 0⟩
abbrev TMUPORT.CYCLE_EXT : Fld := ⟨.tmuPort, 7, 31, 0⟩
abbrev TMUPORT.OPER_STS_OPER_BANK : Fld := ⟨.tmuPort, 8, 31, 31⟩
abbrev TMUPORT.OPER_STS_OPER_LEN : Fld := ⟨.tmuPort, 8, 30, 22⟩
abbrev TMUPORT.OPER_STS_STATES : Fld := ⟨.tmuPort, 8, 7, 0⟩

/-! TMD/TMU scheduling node -/
abbrev NODE.VALID : Fld := ⟨.node, 0, 31, 31⟩
abbrev NODE.STRICT : Fld := ⟨.node, 0, 30, 30⟩
abbrev NODE.NOFRAG : Fld := ⟨.node, 0, 29, 29⟩
abbrev NODE.MCAST : Fld := ⟨.node, 0, 28, 28⟩
abbrev NODE.MQ : Fld := ⟨.node, 0, 27, 22⟩
abbrev NODE.PID_HI : Fld := ⟨.node, 0, 21, 18⟩
abbrev NODE.TERM : Fld := ⟨.node, 0, 17, 9⟩
abbrev NODE.CLASS : Fld := ⟨.node, 0, 8, 6⟩
abbrev NODE.WEIGHT : Fld := ⟨.node, 1, 15, 0⟩
abbrev NODE.RATE : Fld := ⟨.node, 2, 31, 0⟩
abbrev NODE.BURST : Fld := ⟨.node, 3, 23, 0⟩
abbrev NODE.TOKENS : Fld := ⟨.node, 4, 31, 0⟩
abbrev NODE.QLIM : Fld := ⟨.node, 5, 23, 0⟩
abbrev NODE.DEPTH : Fld := ⟨.node, 6, 23, 0⟩
abbrev NODE.DROP_CNT : Fld := ⟨.node, 7, 31, 0⟩

/-! TMD/TMU class node -/
abbrev NODEC.MAXLEN : Fld := ⟨.nodeC, 0, 13, 0⟩

/-! TMU gate control list entry -/
abbrev GCL.STATES : Fld := ⟨.gcl, 0, 7, 0⟩
abbrev GCL.INTERVAL : Fld := ⟨.gcl, 1, 31, 0⟩

/-! CPH[d] -/
abbrev CPH.CTL_COLD_GATE : Fld := ⟨.cph, 0, 3, 3⟩
abbrev CPH.CTL_LOCK : Fld := ⟨.cph, 0, 2, 2⟩
abbrev CPH.CTL_SHUFFLE_EN : Fld := ⟨.cph, 0, 1, 1⟩
abbrev CPH.CTL_DUMMY_EN : Fld := ⟨.cph, 0, 0, 0⟩
abbrev CPH.STS_COLD_HOLD : Fld := ⟨.cph, 1, 31, 31⟩
abbrev CPH.STS_HELD : Fld := ⟨.cph, 1, 13, 0⟩
abbrev CPH.PORT_IDX_AUTO_INC : Fld := ⟨.cph, 2, 31, 31⟩
abbrev CPH.PORT_IDX_TREE : Fld := ⟨.cph, 2, 17, 12⟩
abbrev CPH.PORT_IDX_PID : Fld := ⟨.cph, 2, 11, 0⟩
abbrev CPH.PORT_DATA : Fld := ⟨.cph, 3, 31, 0⟩
abbrev CPH.TKEY_IDX_AUTO_INC : Fld := ⟨.cph, 4, 31, 31⟩
abbrev CPH.TKEY_IDX_TREE : Fld := ⟨.cph, 4, 21, 16⟩
abbrev CPH.TKEY_IDX_TERM : Fld := ⟨.cph, 4, 15, 6⟩
abbrev CPH.TKEY_IDX_KEY : Fld := ⟨.cph, 4, 5, 4⟩
abbrev CPH.TKEY_IDX_WORD : Fld := ⟨.cph, 4, 1, 0⟩
abbrev CPH.TKEY_DATA : Fld := ⟨.cph, 5, 31, 0⟩
abbrev CPH.FLOW_IDX_AUTO_INC : Fld := ⟨.cph, 6, 31, 31⟩
abbrev CPH.FLOW_IDX_FLOW : Fld := ⟨.cph, 6, 16, 4⟩
abbrev CPH.FLOW_IDX_WORD : Fld := ⟨.cph, 6, 3, 0⟩
abbrev CPH.FLOW_DATA : Fld := ⟨.cph, 7, 31, 0⟩
abbrev CPH.FKEY_IDX_AUTO_INC : Fld := ⟨.cph, 8, 31, 31⟩
abbrev CPH.FKEY_IDX_FLOW : Fld := ⟨.cph, 8, 16, 4⟩
abbrev CPH.FKEY_IDX_SLOT : Fld := ⟨.cph, 8, 3, 3⟩
abbrev CPH.FKEY_IDX_WORD : Fld := ⟨.cph, 8, 2, 0⟩
abbrev CPH.FKEY_DATA : Fld := ⟨.cph, 9, 31, 0⟩
abbrev CPH.RING_IDX_AUTO_INC : Fld := ⟨.cph, 10, 31, 31⟩
abbrev CPH.RING_IDX_ENTRY : Fld := ⟨.cph, 10, 14, 3⟩
abbrev CPH.RING_IDX_WORD : Fld := ⟨.cph, 10, 2, 0⟩
abbrev CPH.RING_DATA : Fld := ⟨.cph, 11, 31, 0⟩
abbrev CPH.REKEY_GO : Fld := ⟨.cph, 12, 31, 31⟩
abbrev CPH.REKEY_ERR : Fld := ⟨.cph, 12, 30, 30⟩
abbrev CPH.REKEY_OP : Fld := ⟨.cph, 12, 29, 28⟩
abbrev CPH.REKEY_TREE : Fld := ⟨.cph, 12, 25, 20⟩
abbrev CPH.REKEY_TARGET : Fld := ⟨.cph, 12, 12, 0⟩
abbrev CPH.INV_START_START : Fld := ⟨.cph, 13, 27, 0⟩
abbrev CPH.SEAL_CNT : Fld := ⟨.cph, 16, 31, 0⟩
abbrev CPH.ENC_CNT : Fld := ⟨.cph, 17, 31, 0⟩
abbrev CPH.TAG_ERR_CNT : Fld := ⟨.cph, 18, 31, 0⟩
abbrev CPH.CT_STOMP_CNT : Fld := ⟨.cph, 19, 31, 0⟩
abbrev CPH.LEN_REJ_CNT : Fld := ⟨.cph, 20, 31, 0⟩
abbrev CPH.HOLD_DROP_CNT : Fld := ⟨.cph, 21, 31, 0⟩
abbrev CPH.KEY_ERR_CNT : Fld := ⟨.cph, 22, 31, 0⟩
abbrev CPH.OMCI_MIC_ERR_CNT : Fld := ⟨.cph, 23, 31, 0⟩
abbrev CPH.REKEY_CNT : Fld := ⟨.cph, 24, 31, 0⟩
abbrev CPH.AUTO_REKEY_CNT : Fld := ⟨.cph, 25, 31, 0⟩
abbrev CPH.RING_EMPTY_CNT : Fld := ⟨.cph, 26, 31, 0⟩
abbrev CPH.TKO_DROP_CNT : Fld := ⟨.cph, 27, 31, 0⟩

/-! CPH[d] Port-ID entry -/
abbrev CPHPORT.VALID : Fld := ⟨.cphPort, 0, 31, 31⟩
abbrev CPHPORT.MODE : Fld := ⟨.cphPort, 0, 30, 29⟩
abbrev CPHPORT.OMCI : Fld := ⟨.cphPort, 0, 28, 28⟩
abbrev CPHPORT.PID_HI : Fld := ⟨.cphPort, 0, 27, 24⟩
abbrev CPHPORT.BCAST : Fld := ⟨.cphPort, 0, 23, 23⟩
abbrev CPHPORT.TERM : Fld := ⟨.cphPort, 0, 22, 14⟩
abbrev CPHPORT.FLOW : Fld := ⟨.cphPort, 0, 12, 0⟩

/-! CPH[d] flow -/
abbrev FLOW.VALID : Fld := ⟨.flow, 0, 31, 31⟩
abbrev FLOW.KIND : Fld := ⟨.flow, 0, 30, 30⟩
abbrev FLOW.AUTO : Fld := ⟨.flow, 0, 29, 29⟩
abbrev FLOW.CT : Fld := ⟨.flow, 0, 28, 28⟩
abbrev FLOW.KEEP_TAG : Fld := ⟨.flow, 0, 27, 27⟩
abbrev FLOW.HELD : Fld := ⟨.flow, 0, 26, 26⟩
abbrev FLOW.ACT_SLOT : Fld := ⟨.flow, 0, 25, 25⟩
abbrev FLOW.SLOT_V : Fld := ⟨.flow, 0, 24, 23⟩
abbrev FLOW.TREE : Fld := ⟨.flow, 0, 22, 17⟩
abbrev FLOW.PORT_ID : Fld := ⟨.flow, 0, 15, 0⟩
abbrev FLOW.RING_LEN : Fld := ⟨.flow, 1, 31, 28⟩
abbrev FLOW.RING_POS : Fld := ⟨.flow, 1, 27, 24⟩
abbrev FLOW.RING_BASE : Fld := ⟨.flow, 1, 23, 12⟩
abbrev FLOW.INV0_LO : Fld := ⟨.flow, 2, 31, 0⟩
abbrev FLOW.INV1_LO : Fld := ⟨.flow, 3, 31, 0⟩
abbrev FLOW.INV1_HI : Fld := ⟨.flow, 4, 15, 8⟩
abbrev FLOW.INV0_HI : Fld := ⟨.flow, 4, 7, 0⟩
abbrev FLOW.ERR_CNT : Fld := ⟨.flow, 5, 31, 0⟩
abbrev FLOW.LAST_IV6 : Fld := ⟨.flow, 6, 31, 0⟩
abbrev FLOW.LAST_IV7 : Fld := ⟨.flow, 7, 31, 0⟩
abbrev FLOW.LAST_IV8 : Fld := ⟨.flow, 8, 31, 0⟩
abbrev FLOW.RESULT : Fld := ⟨.flow, 9, 31, 30⟩
abbrev FLOW.CT_W9 : Fld := ⟨.flow, 9, 29, 29⟩
abbrev FLOW.SLOT : Fld := ⟨.flow, 9, 28, 28⟩
abbrev FLOW.LEN : Fld := ⟨.flow, 9, 13, 0⟩

/-! NET[n] -/
abbrev NET.PORT_CFG_EN : Fld := ⟨.net, 0, 31, 31⟩
abbrev NET.PORT_CFG_SPEED : Fld := ⟨.net, 0, 30, 28⟩
abbrev NET.PORT_CFG_LANE_RATE : Fld := ⟨.net, 0, 27, 26⟩
abbrev NET.PORT_CFG_MODE : Fld := ⟨.net, 0, 25, 24⟩
abbrev NET.PORT_CFG_AN_EN : Fld := ⟨.net, 0, 23, 23⟩
abbrev NET.PORT_CFG_LT_EN : Fld := ⟨.net, 0, 22, 22⟩
abbrev NET.PORT_CFG_PREEMPT_EN : Fld := ⟨.net, 0, 21, 21⟩
abbrev NET.PORT_CFG_VERIFY_MS : Fld := ⟨.net, 0, 20, 14⟩
abbrev NET.PORT_CFG_MAX_FRAME : Fld := ⟨.net, 0, 13, 0⟩
abbrev NET.LT_CFG_BO_BASE : Fld := ⟨.net, 1, 11, 4⟩
abbrev NET.LT_CFG_BO_MAXEXP : Fld := ⟨.net, 1, 2, 0⟩
abbrev NET.FEC_CFG_SIG_EN : Fld := ⟨.net, 2, 31, 31⟩
abbrev NET.FEC_CFG_DEG_SET : Fld := ⟨.net, 2, 30, 15⟩
abbrev NET.FEC_CFG_DEG_CLR : Fld := ⟨.net, 2, 14, 0⟩
abbrev NET.PTP_CFG_TS_EN : Fld := ⟨.net, 3, 31, 31⟩
abbrev NET.PTP_CFG_ONESTEP_EN : Fld := ⟨.net, 3, 30, 30⟩
abbrev NET.PTP_CFG_RX_EN : Fld := ⟨.net, 3, 29, 29⟩
abbrev NET.PTP_CFG_DOMAIN : Fld := ⟨.net, 3, 23, 16⟩
abbrev NET.PTP_CFG_ASYM : Fld := ⟨.net, 3, 15, 0⟩
abbrev NET.LAT_CFG_RX_TRIM : Fld := ⟨.net, 4, 31, 16⟩
abbrev NET.LAT_CFG_TX_TRIM : Fld := ⟨.net, 4, 15, 0⟩
abbrev NET.STS_LINK : Fld := ⟨.net, 5, 31, 31⟩
abbrev NET.STS_PCS_ALIGNED : Fld := ⟨.net, 5, 30, 30⟩
abbrev NET.STS_LOCAL_FAULT : Fld := ⟨.net, 5, 29, 29⟩
abbrev NET.STS_REMOTE_FAULT : Fld := ⟨.net, 5, 28, 28⟩
abbrev NET.STS_LT_STATE : Fld := ⟨.net, 5, 27, 25⟩
abbrev NET.STS_PREEMPT_ACT : Fld := ⟨.net, 5, 24, 24⟩
abbrev NET.STS_VERIFY : Fld := ⟨.net, 5, 23, 22⟩
abbrev NET.STS_FEC_DEG : Fld := ⟨.net, 5, 21, 21⟩
abbrev NET.STS_LT_FAILS : Fld := ⟨.net, 5, 20, 16⟩
abbrev NET.STS_CFG_ERR : Fld := ⟨.net, 5, 15, 15⟩
abbrev NET.LANE_STS_PRBS_LOCK : Fld := ⟨.net, 6, 3, 3⟩
abbrev NET.LANE_STS_SIG : Fld := ⟨.net, 6, 2, 2⟩
abbrev NET.LANE_STS_CDR_LOCK : Fld := ⟨.net, 6, 1, 1⟩
abbrev NET.LANE_STS_TRAINED : Fld := ⟨.net, 6, 0, 0⟩
abbrev NET.LANE_TEST_PRBS_ERR_CNT : Fld := ⟨.net, 7, 31, 16⟩
abbrev NET.LANE_TEST_MODE : Fld := ⟨.net, 7, 2, 0⟩
abbrev NET.TXTS_STS_LVL : Fld := ⟨.net, 8, 6, 0⟩
abbrev NET.TXTS_DATA : Fld := ⟨.net, 9, 31, 0⟩
abbrev NET.RX_FRAME_CNT : Fld := ⟨.net, 16, 31, 0⟩
abbrev NET.TX_FRAME_CNT : Fld := ⟨.net, 17, 31, 0⟩
abbrev NET.LINK_DOWN_CNT : Fld := ⟨.net, 18, 31, 0⟩
abbrev NET.LT_FAIL_CNT : Fld := ⟨.net, 19, 31, 0⟩
abbrev NET.VERIFY_FAIL_CNT : Fld := ⟨.net, 20, 31, 0⟩
abbrev NET.FEC_CORR_CNT : Fld := ⟨.net, 21, 31, 0⟩
abbrev NET.FEC_UNCORR_CNT : Fld := ⟨.net, 22, 31, 0⟩
abbrev NET.FEC_SYM_CNT : Fld := ⟨.net, 23, 31, 0⟩
abbrev NET.RX_FCS_ERR_CNT : Fld := ⟨.net, 24, 31, 0⟩
abbrev NET.RX_OVERSIZE_CNT : Fld := ⟨.net, 25, 31, 0⟩
abbrev NET.TXTS_OVF_CNT : Fld := ⟨.net, 26, 31, 0⟩
abbrev NET.PTP_RX_CNT : Fld := ⟨.net, 27, 31, 0⟩

/-! TIM -/
abbrev TIM.CTL_SRC_PRI : Fld := ⟨.tim, 0, 31, 30⟩
abbrev TIM.CTL_SRC_FB : Fld := ⟨.tim, 0, 29, 28⟩
abbrev TIM.CTL_REALIGN_EN : Fld := ⟨.tim, 0, 27, 27⟩
abbrev TIM.CTL_PPS_POL : Fld := ⟨.tim, 0, 26, 26⟩
abbrev TIM.CTL_PPSO_MODE : Fld := ⟨.tim, 0, 25, 24⟩
abbrev TIM.CTL_PPSO_W : Fld := ⟨.tim, 0, 23, 16⟩
abbrev TIM.CTL_TOD_BAUD : Fld := ⟨.tim, 0, 15, 14⟩
abbrev TIM.SLEW_CFG_PH_SLEW : Fld := ⟨.tim, 1, 31, 24⟩
abbrev TIM.SLEW_CFG_FR_SLEW : Fld := ⟨.tim, 1, 23, 16⟩
abbrev TIM.SLEW_CFG_STEP_LIM : Fld := ⟨.tim, 1, 15, 0⟩
abbrev TIM.REALIGN_LIM : Fld := ⟨.tim, 2, 31, 0⟩
abbrev TIM.STS_STATE : Fld := ⟨.tim, 3, 31, 30⟩
abbrev TIM.STS_SRC_USED : Fld := ⟨.tim, 3, 29, 28⟩
abbrev TIM.STS_FR_ALIGNED : Fld := ⟨.tim, 3, 27, 27⟩
abbrev TIM.STS_REFCLK_OK : Fld := ⟨.tim, 3, 26, 26⟩
abbrev TIM.STS_PPS_OK : Fld := ⟨.tim, 3, 25, 25⟩
abbrev TIM.STS_TOD_OK : Fld := ⟨.tim, 3, 24, 24⟩
abbrev TIM.STS_PTP_OK : Fld := ⟨.tim, 3, 23, 23⟩
abbrev TIM.STS_UTC_OFS : Fld := ⟨.tim, 3, 15, 0⟩
abbrev TIM.TIME_SEC : Fld := ⟨.tim, 4, 31, 0⟩
abbrev TIM.TIME_SEC_HI_SEC_HI : Fld := ⟨.tim, 5, 15, 0⟩
abbrev TIM.TIME_NS_NS : Fld := ⟨.tim, 6, 29, 0⟩
abbrev TIM.TIME_FRAC_FRAC : Fld := ⟨.tim, 7, 15, 0⟩
abbrev TIM.ADJ_FREQ : Fld := ⟨.tim, 8, 31, 0⟩
abbrev TIM.ADJ_OFS : Fld := ⟨.tim, 9, 31, 0⟩
abbrev TIM.ADJ_CMD_GO : Fld := ⟨.tim, 10, 31, 31⟩
abbrev TIM.ADJ_CMD_ERR : Fld := ⟨.tim, 10, 30, 30⟩
abbrev TIM.ADJ_CMD_OP : Fld := ⟨.tim, 10, 29, 28⟩
abbrev TIM.SET_SEC : Fld := ⟨.tim, 11, 31, 0⟩
abbrev TIM.SET_SEC_HI_SEC_HI : Fld := ⟨.tim, 12, 15, 0⟩
abbrev TIM.PH_ERR : Fld := ⟨.tim, 13, 31, 0⟩
abbrev TIM.FR_ERR : Fld := ⟨.tim, 14, 31, 0⟩
abbrev TIM.PTPR_CFG_EN : Fld := ⟨.tim, 15, 31, 31⟩
abbrev TIM.PTPR_CFG_PROFILE : Fld := ⟨.tim, 15, 30, 30⟩
abbrev TIM.PTPR_CFG_PORT_BK : Fld := ⟨.tim, 15, 9, 5⟩
abbrev TIM.PTPR_CFG_PORT_PRI : Fld := ⟨.tim, 15, 4, 0⟩
abbrev TIM.PTPR_PARENT_HI : Fld := ⟨.tim, 16, 31, 0⟩
abbrev TIM.PTPR_PARENT_LO : Fld := ⟨.tim, 17, 31, 0⟩
abbrev TIM.PTPR_MPD : Fld := ⟨.tim, 18, 31, 0⟩
abbrev TIM.PPS_REJ_CNT : Fld := ⟨.tim, 24, 31, 0⟩
abbrev TIM.TOD_ERR_CNT : Fld := ⟨.tim, 25, 31, 0⟩
abbrev TIM.STEP_CNT : Fld := ⟨.tim, 26, 31, 0⟩
abbrev TIM.REALIGN_CNT : Fld := ⟨.tim, 27, 31, 0⟩
abbrev TIM.HOLDOVER_CNT : Fld := ⟨.tim, 28, 31, 0⟩
abbrev TIM.PTP_DROP_CNT : Fld := ⟨.tim, 29, 31, 0⟩
abbrev TIM.REFCLK_LOSS_CNT : Fld := ⟨.tim, 30, 31, 0⟩

/-! PAR -/
abbrev PAR.CTL_PAIR_EN : Fld := ⟨.par, 0, 31, 31⟩
abbrev PAR.CTL_HOME : Fld := ⟨.par, 0, 30, 30⟩
abbrev PAR.CTL_PMODE : Fld := ⟨.par, 0, 29, 28⟩
abbrev PAR.CTL_YIELD_THR : Fld := ⟨.par, 0, 27, 20⟩
abbrev PAR.CTL_FOREIGN_N : Fld := ⟨.par, 0, 19, 14⟩
abbrev PAR.CTL_STARTUP_S : Fld := ⟨.par, 0, 11, 0⟩
abbrev PAR.TIMING_TKO_N : Fld := ⟨.par, 1, 31, 24⟩
abbrev PAR.TIMING_RET_S : Fld := ⟨.par, 1, 23, 16⟩
abbrev PAR.TIMING_QUIET_N : Fld := ⟨.par, 1, 15, 0⟩
abbrev PAR.ROLE_CMD_GO : Fld := ⟨.par, 2, 31, 31⟩
abbrev PAR.ROLE_CMD_ERR : Fld := ⟨.par, 2, 30, 30⟩
abbrev PAR.ROLE_CMD_ERRCODE : Fld := ⟨.par, 2, 29, 27⟩
abbrev PAR.ROLE_CMD_OP : Fld := ⟨.par, 2, 25, 24⟩
abbrev PAR.STS_ROLE : Fld := ⟨.par, 3, 31, 29⟩
abbrev PAR.STS_PARTNER_ROLE : Fld := ⟨.par, 3, 28, 26⟩
abbrev PAR.STS_LINK : Fld := ⟨.par, 3, 25, 25⟩
abbrev PAR.STS_P0_UP : Fld := ⟨.par, 3, 24, 24⟩
abbrev PAR.STS_P1_UP : Fld := ⟨.par, 3, 23, 23⟩
abbrev PAR.STS_SYNC : Fld := ⟨.par, 3, 22, 22⟩
abbrev PAR.STS_READY : Fld := ⟨.par, 3, 21, 21⟩
abbrev PAR.STS_PARTNER_READY : Fld := ⟨.par, 3, 20, 20⟩
abbrev PAR.STS_LIVE : Fld := ⟨.par, 3, 19, 19⟩
abbrev PAR.STS_SILENT : Fld := ⟨.par, 3, 15, 0⟩
abbrev PAR.EPOCH : Fld := ⟨.par, 4, 31, 0⟩
abbrev PAR.HEALTH_SCORE : Fld := ⟨.par, 5, 31, 24⟩
abbrev PAR.HEALTH_PARTNER_SCORE : Fld := ⟨.par, 5, 23, 16⟩
abbrev PAR.HFAULT_FAULT : Fld := ⟨.par, 6, 8, 0⟩
abbrev PAR.CHK_EN_EN : Fld := ⟨.par, 7, 8, 0⟩
abbrev PAR.OFS_IDX_AUTO_INC : Fld := ⟨.par, 8, 31, 31⟩
abbrev PAR.OFS_IDX_TREE : Fld := ⟨.par, 8, 5, 0⟩
abbrev PAR.OFS_DATA_VALID : Fld := ⟨.par, 9, 31, 31⟩
abbrev PAR.OFS_DATA_OFS : Fld := ⟨.par, 9, 25, 0⟩
abbrev PAR.ASYM_ASYM : Fld := ⟨.par, 10, 15, 0⟩
abbrev PAR.PAIR_PARTNER_DEV : Fld := ⟨.par, 11, 25, 16⟩
abbrev PAR.PAIR_PAIR_ID : Fld := ⟨.par, 11, 9, 0⟩
abbrev PAR.TKO_CNT : Fld := ⟨.par, 16, 31, 0⟩
abbrev PAR.YIELD_CNT : Fld := ⟨.par, 17, 31, 0⟩
abbrev PAR.SWITCH_ABORT_CNT : Fld := ⟨.par, 18, 31, 0⟩
abbrev PAR.LINK_DOWN_CNT : Fld := ⟨.par, 19, 31, 0⟩
abbrev PAR.FOREIGN_CNT : Fld := ⟨.par, 20, 31, 0⟩
abbrev PAR.HB_ERR_CNT : Fld := ⟨.par, 21, 31, 0⟩
abbrev PAR.RESYNC_CNT : Fld := ⟨.par, 22, 31, 0⟩
abbrev PAR.RETURN_CNT : Fld := ⟨.par, 23, 31, 0⟩

/-! SYS -/
abbrev SYS.CTL_EN : Fld := ⟨.sys, 0, 31, 31⟩
abbrev SYS.CTL_RELAY_EN : Fld := ⟨.sys, 0, 30, 30⟩
abbrev SYS.CTL_PCP : Fld := ⟨.sys, 0, 29, 27⟩
abbrev SYS.CTL_VID : Fld := ⟨.sys, 0, 23, 12⟩
abbrev SYS.CTL_HB_MISS : Fld := ⟨.sys, 0, 11, 8⟩
abbrev SYS.CTL_HB_MS : Fld := ⟨.sys, 0, 7, 0⟩
abbrev SYS.ID_DEVNUM_V : Fld := ⟨.sys, 1, 31, 31⟩
abbrev SYS.ID_DEVNUM : Fld := ⟨.sys, 1, 25, 16⟩
abbrev SYS.PORTS : Fld := ⟨.sys, 2, 31, 0⟩
abbrev SYS.TOL_TIME_TOL : Fld := ⟨.sys, 3, 15, 0⟩
abbrev SYS.GRP_MAC_HI_MAC_HI : Fld := ⟨.sys, 4, 15, 0⟩
abbrev SYS.GRP_MAC_LO : Fld := ⟨.sys, 5, 31, 0⟩
abbrev SYS.BASE_MAC_HI_MAC_HI : Fld := ⟨.sys, 6, 15, 0⟩
abbrev SYS.BASE_MAC_LO : Fld := ⟨.sys, 7, 31, 0⟩
abbrev SYS.KEY_IDX_AUTO_INC : Fld := ⟨.sys, 8, 31, 31⟩
abbrev SYS.KEY_IDX_WORD : Fld := ⟨.sys, 8, 1, 0⟩
abbrev SYS.KEY_DATA : Fld := ⟨.sys, 9, 31, 0⟩
abbrev SYS.PEER_IDX_AUTO_INC : Fld := ⟨.sys, 10, 31, 31⟩
abbrev SYS.PEER_IDX_PEER : Fld := ⟨.sys, 10, 11, 2⟩
abbrev SYS.PEER_IDX_WORD : Fld := ⟨.sys, 10, 1, 0⟩
abbrev SYS.PEER_DATA : Fld := ⟨.sys, 11, 31, 0⟩
abbrev SYS.TX_CNT : Fld := ⟨.sys, 16, 31, 0⟩
abbrev SYS.RX_CNT : Fld := ⟨.sys, 17, 31, 0⟩
abbrev SYS.DROP_CNT : Fld := ⟨.sys, 18, 31, 0⟩
abbrev SYS.MAC_ERR_CNT : Fld := ⟨.sys, 19, 31, 0⟩
abbrev SYS.MISMATCH_TX_CNT : Fld := ⟨.sys, 20, 31, 0⟩
abbrev SYS.REDIRECT_CNT : Fld := ⟨.sys, 21, 31, 0⟩
abbrev SYS.PHASE_ERR_CNT : Fld := ⟨.sys, 22, 31, 0⟩
abbrev SYS.PEER_LOST_CNT : Fld := ⟨.sys, 23, 31, 0⟩

/-! SYS peer -/
abbrev PEER.ALIVE : Fld := ⟨.peer, 0, 31, 31⟩
abbrev PEER.ROLE : Fld := ⟨.peer, 0, 30, 28⟩
abbrev PEER.PAIR_ID : Fld := ⟨.peer, 0, 27, 18⟩
abbrev PEER.SCORE : Fld := ⟨.peer, 0, 17, 10⟩
abbrev PEER.FR_OK : Fld := ⟨.peer, 0, 9, 9⟩
abbrev PEER.EPOCH : Fld := ⟨.peer, 1, 31, 0⟩
abbrev PEER.AGE : Fld := ⟨.peer, 2, 15, 0⟩

/-! RST -/
abbrev RST.CTL_RELAPSE_LIMIT : Fld := ⟨.rst, 0, 15, 8⟩
abbrev RST.CTL_STALL_MS : Fld := ⟨.rst, 0, 7, 0⟩
abbrev RST.CMD_GO : Fld := ⟨.rst, 1, 31, 31⟩
abbrev RST.CMD_ERR : Fld := ⟨.rst, 1, 30, 30⟩
abbrev RST.CMD_ERRCODE : Fld := ⟨.rst, 1, 29, 28⟩
abbrev RST.CMD_OP : Fld := ⟨.rst, 1, 25, 24⟩
abbrev RST.CMD_ISLAND : Fld := ⟨.rst, 1, 7, 0⟩
abbrev RST.STS_LAST_CLASS : Fld := ⟨.rst, 2, 31, 29⟩
abbrev RST.STS_PHASE : Fld := ⟨.rst, 2, 28, 26⟩
abbrev RST.STS_IMG_HOLD : Fld := ⟨.rst, 2, 25, 25⟩
abbrev RST.STS_REFCLK_WAIT : Fld := ⟨.rst, 2, 24, 24⟩
abbrev RST.STS_HELD_CNT : Fld := ⟨.rst, 2, 15, 8⟩
abbrev RST.ISL_IDX_AUTO_INC : Fld := ⟨.rst, 4, 31, 31⟩
abbrev RST.ISL_IDX_ISLAND : Fld := ⟨.rst, 4, 7, 0⟩
abbrev RST.ISL_DATA_IN_RESET : Fld := ⟨.rst, 5, 31, 31⟩
abbrev RST.ISL_DATA_CLK_GOOD : Fld := ⟨.rst, 5, 30, 30⟩
abbrev RST.ISL_DATA_HELD : Fld := ⟨.rst, 5, 29, 29⟩
abbrev RST.ISL_DATA_PHASE : Fld := ⟨.rst, 5, 28, 26⟩
abbrev RST.ISL_DATA_RELAPSE_10S : Fld := ⟨.rst, 5, 15, 8⟩
abbrev RST.PIN_IDX_AUTO_INC : Fld := ⟨.rst, 6, 31, 31⟩
abbrev RST.PIN_IDX_PIN : Fld := ⟨.rst, 6, 9, 0⟩
abbrev RST.PIN_DATA_FUSE : Fld := ⟨.rst, 7, 8, 6⟩
abbrev RST.PIN_DATA_CUR : Fld := ⟨.rst, 7, 5, 3⟩
abbrev RST.PIN_DATA_SRC : Fld := ⟨.rst, 7, 2, 1⟩
abbrev RST.PIN_OVR_OVR_EN : Fld := ⟨.rst, 8, 31, 31⟩
abbrev RST.PIN_OVR_OVR : Fld := ⟨.rst, 8, 2, 0⟩
abbrev RST.WARM_CNT : Fld := ⟨.rst, 16, 31, 0⟩
abbrev RST.BLOCK_CNT : Fld := ⟨.rst, 17, 31, 0⟩
abbrev RST.RELAPSE_CNT : Fld := ⟨.rst, 18, 31, 0⟩
abbrev RST.GLITCH_CNT : Fld := ⟨.rst, 19, 31, 0⟩
abbrev RST.HOLD_CNT : Fld := ⟨.rst, 20, 31, 0⟩

/-! CLK -/
abbrev CLK.IDX_AUTO_INC : Fld := ⟨.clk, 0, 31, 31⟩
abbrev CLK.IDX_ISLAND : Fld := ⟨.clk, 0, 7, 0⟩
abbrev CLK.DATA_PLL_LOCK : Fld := ⟨.clk, 1, 31, 31⟩
abbrev CLK.DATA_CLK_GOOD : Fld := ⟨.clk, 1, 30, 30⟩
abbrev CLK.DATA_FREQ_ERR : Fld := ⟨.clk, 1, 15, 0⟩
abbrev CLK.LOCKLOSS_CNT : Fld := ⟨.clk, 2, 31, 0⟩

/-! NVM -/
abbrev NVM.CTL_NEXT_SLOT : Fld := ⟨.nvm, 0, 1, 0⟩
abbrev NVM.STS_STATE : Fld := ⟨.nvm, 1, 31, 29⟩
abbrev NVM.STS_SLOT : Fld := ⟨.nvm, 1, 28, 28⟩
abbrev NVM.STS_OCTAL : Fld := ⟨.nvm, 1, 27, 27⟩
abbrev NVM.STS_A_RES : Fld := ⟨.nvm, 1, 23, 20⟩
abbrev NVM.STS_B_RES : Fld := ⟨.nvm, 1, 19, 16⟩
abbrev NVM.STS_RUN_ARB : Fld := ⟨.nvm, 1, 8, 0⟩
abbrev NVM.IMG_ID : Fld := ⟨.nvm, 2, 31, 0⟩
abbrev NVM.CMD_GO : Fld := ⟨.nvm, 3, 31, 31⟩
abbrev NVM.CMD_ERR : Fld := ⟨.nvm, 3, 30, 30⟩
abbrev NVM.CMD_ERRCODE : Fld := ⟨.nvm, 3, 29, 27⟩
abbrev NVM.CMD_OP : Fld := ⟨.nvm, 3, 26, 24⟩
abbrev NVM.CMD_SLOT : Fld := ⟨.nvm, 3, 16, 16⟩
abbrev NVM.CMD_LEN : Fld := ⟨.nvm, 3, 8, 0⟩
abbrev NVM.ADDR : Fld := ⟨.nvm, 4, 31, 0⟩
abbrev NVM.BUF_IDX_AUTO_INC : Fld := ⟨.nvm, 5, 31, 31⟩
abbrev NVM.BUF_IDX_WORD : Fld := ⟨.nvm, 5, 7, 0⟩
abbrev NVM.BUF_DATA : Fld := ⟨.nvm, 6, 31, 0⟩
abbrev NVM.BOOT_CNT : Fld := ⟨.nvm, 16, 31, 0⟩
abbrev NVM.RUN_FAIL_CNT : Fld := ⟨.nvm, 17, 31, 0⟩
abbrev NVM.REPLAY_CNT : Fld := ⟨.nvm, 18, 31, 0⟩
abbrev NVM.FLASH_TO_CNT : Fld := ⟨.nvm, 19, 31, 0⟩

/-! OTP -/
abbrev OTP.STS_GEN : Fld := ⟨.otp, 0, 31, 30⟩
abbrev OTP.STS_GEN_VALID : Fld := ⟨.otp, 0, 29, 29⟩
abbrev OTP.STS_FROZEN : Fld := ⟨.otp, 0, 28, 28⟩
abbrev OTP.STS_GEN_DMG : Fld := ⟨.otp, 0, 27, 24⟩
abbrev OTP.STS_DEVNUM_V : Fld := ⟨.otp, 0, 23, 23⟩
abbrev OTP.STS_KEY_V : Fld := ⟨.otp, 0, 22, 20⟩
abbrev OTP.STS_KEY_BAD : Fld := ⟨.otp, 0, 19, 17⟩
abbrev OTP.STS_BUSY : Fld := ⟨.otp, 0, 16, 16⟩
abbrev OTP.STS_ARB : Fld := ⟨.otp, 0, 8, 0⟩
abbrev OTP.DEV_ID_LO : Fld := ⟨.otp, 1, 31, 0⟩
abbrev OTP.DEV_ID_HI : Fld := ⟨.otp, 2, 31, 0⟩
abbrev OTP.SH_IDX_AUTO_INC : Fld := ⟨.otp, 3, 31, 31⟩
abbrev OTP.SH_IDX_WORD : Fld := ⟨.otp, 3, 8, 0⟩
abbrev OTP.SH_DATA : Fld := ⟨.otp, 4, 31, 0⟩
abbrev OTP.CMD_GO : Fld := ⟨.otp, 5, 31, 31⟩
abbrev OTP.CMD_ERR : Fld := ⟨.otp, 5, 30, 30⟩
abbrev OTP.CMD_ERRCODE : Fld := ⟨.otp, 5, 29, 27⟩
abbrev OTP.CMD_OP : Fld := ⟨.otp, 5, 26, 24⟩
abbrev OTP.CMD_ARG : Fld := ⟨.otp, 5, 9, 0⟩
abbrev OTP.PDATA_IDX_AUTO_INC : Fld := ⟨.otp, 6, 31, 31⟩
abbrev OTP.PDATA_IDX_WORD : Fld := ⟨.otp, 6, 4, 0⟩
abbrev OTP.PDATA : Fld := ⟨.otp, 7, 31, 0⟩

/-! CMD -/
abbrev CMD.CTL_HOST_TO : Fld := ⟨.cmd, 0, 31, 24⟩
abbrev CMD.CTL_PKT_TO : Fld := ⟨.cmd, 0, 23, 16⟩
abbrev CMD.CTL_LOCK_S : Fld := ⟨.cmd, 0, 15, 8⟩
abbrev CMD.CTL_USB4_EN : Fld := ⟨.cmd, 0, 0, 0⟩
abbrev CMD.STS_LINK : Fld := ⟨.cmd, 1, 31, 29⟩
abbrev CMD.STS_PRIV : Fld := ⟨.cmd, 1, 28, 28⟩
abbrev CMD.STS_LOCKOUT : Fld := ⟨.cmd, 1, 27, 27⟩
abbrev CMD.STS_FAILS : Fld := ⟨.cmd, 1, 26, 24⟩
abbrev CMD.STS_STATE : Fld := ⟨.cmd, 1, 7, 0⟩
abbrev CMD.IND_ADDR_AUTO_INC : Fld := ⟨.cmd, 2, 31, 31⟩
abbrev CMD.IND_ADDR_OFFSET : Fld := ⟨.cmd, 2, 23, 0⟩
abbrev CMD.IND_DATA : Fld := ⟨.cmd, 3, 31, 0⟩
abbrev CMD.IND_STS_ACC_ERR : Fld := ⟨.cmd, 4, 31, 31⟩
abbrev CMD.IND_STS_BAD_ADDR : Fld := ⟨.cmd, 4, 30, 30⟩
abbrev CMD.GUARD_CNT : Fld := ⟨.cmd, 128, 31, 0⟩
abbrev CMD.WOT_CNT : Fld := ⟨.cmd, 129, 31, 0⟩
abbrev CMD.RWL_CNT : Fld := ⟨.cmd, 130, 31, 0⟩
abbrev CMD.RWH_CNT : Fld := ⟨.cmd, 131, 31, 0⟩
abbrev CMD.ENC_CNT : Fld := ⟨.cmd, 132, 31, 0⟩
abbrev CMD.GO_BUSY_CNT : Fld := ⟨.cmd, 133, 31, 0⟩
abbrev CMD.AUTH_FAIL_CNT : Fld := ⟨.cmd, 134, 31, 0⟩
abbrev CMD.PKT_ERR_CNT : Fld := ⟨.cmd, 135, 31, 0⟩
abbrev CMD.LINK_DOWN_CNT : Fld := ⟨.cmd, 138, 31, 0⟩
abbrev CMD.BAD_ADDR_CNT : Fld := ⟨.cmd, 139, 31, 0⟩

/-! CMD ring counters -/
abbrev RINGC.RING_DROP_CNT : Fld := ⟨.ringc, 136, 31, 0⟩
abbrev RINGC.CAP_DROP_CNT : Fld := ⟨.ringc, 137, 31, 0⟩

/-! CMD session -/
abbrev SESS.CTL_EN : Fld := ⟨.sess, 0, 31, 31⟩
abbrev SESS.CTL_IRQ_EN : Fld := ⟨.sess, 0, 4, 4⟩
abbrev SESS.CTL_PLU_EN : Fld := ⟨.sess, 0, 3, 3⟩
abbrev SESS.CTL_CAP_EN : Fld := ⟨.sess, 0, 2, 2⟩
abbrev SESS.CTL_EVT_EN : Fld := ⟨.sess, 0, 1, 1⟩
abbrev SESS.RING_LO_BASE_LO : Fld := ⟨.sess, 1, 31, 12⟩
abbrev SESS.RING_HI : Fld := ⟨.sess, 2, 31, 0⟩
abbrev SESS.RING_SIZE_LOG2 : Fld := ⟨.sess, 3, 4, 0⟩
abbrev SESS.HEAD_HEAD : Fld := ⟨.sess, 4, 23, 0⟩
abbrev SESS.TAIL_PHASE : Fld := ⟨.sess, 5, 31, 31⟩
abbrev SESS.TAIL_TAIL : Fld := ⟨.sess, 5, 23, 0⟩
abbrev SESS.CONSUMED : Fld := ⟨.sess, 6, 31, 0⟩
abbrev SESS.SSTS_STATE : Fld := ⟨.sess, 7, 31, 30⟩
abbrev SESS.SSTS_FIFO_LVL : Fld := ⟨.sess, 7, 16, 0⟩

/-! EVT -/
abbrev EVT.CTL_DLV_EN : Fld := ⟨.evt, 0, 31, 31⟩
abbrev EVT.CTL_PIN_PULSE : Fld := ⟨.evt, 0, 9, 8⟩
abbrev EVT.CTL_PULSE_W : Fld := ⟨.evt, 0, 7, 0⟩
abbrev EVT.STS_PIN : Fld := ⟨.evt, 1, 1, 0⟩
abbrev EVT.SUMMARY0 : Fld := ⟨.evt, 4, 31, 0⟩
abbrev EVT.SUMMARY1 : Fld := ⟨.evt, 5, 31, 0⟩
abbrev EVT.SUMMARY2 : Fld := ⟨.evt, 6, 31, 0⟩
abbrev EVT.SUMMARY3 : Fld := ⟨.evt, 7, 31, 0⟩
abbrev EVT.SUMMARY4 : Fld := ⟨.evt, 8, 31, 0⟩
abbrev EVT.SUMMARY5 : Fld := ⟨.evt, 9, 31, 0⟩
abbrev EVT.SUMMARY6 : Fld := ⟨.evt, 10, 31, 0⟩
abbrev EVT.SUMMARY7 : Fld := ⟨.evt, 11, 31, 0⟩
abbrev EVT.DLV_CNT : Fld := ⟨.evt, 16, 31, 0⟩
abbrev EVT.NOHOST_CNT : Fld := ⟨.evt, 17, 31, 0⟩
abbrev EVT.NOBUF_CNT : Fld := ⟨.evt, 18, 31, 0⟩
abbrev EVT.RELAY_CNT : Fld := ⟨.evt, 19, 31, 0⟩

/-! EVT SRC[i] -/
abbrev SRC.CAUSE : Fld := ⟨.src, 0, 31, 0⟩
abbrev SRC.EN : Fld := ⟨.src, 1, 31, 0⟩
abbrev SRC.CAP_EN : Fld := ⟨.src, 2, 31, 0⟩
abbrev SRC.CFG_PKT : Fld := ⟨.src, 3, 31, 31⟩
abbrev SRC.CFG_RELAY : Fld := ⟨.src, 3, 30, 30⟩
abbrev SRC.CFG_PIN : Fld := ⟨.src, 3, 29, 28⟩
abbrev SRC.CFG_HOLDOFF : Fld := ⟨.src, 3, 23, 8⟩
abbrev SRC.CFG_COUNT : Fld := ⟨.src, 3, 7, 0⟩
abbrev SRC.CAP_STS_V0 : Fld := ⟨.src, 4, 31, 31⟩
abbrev SRC.CAP_STS_V1 : Fld := ⟨.src, 4, 30, 30⟩
abbrev SRC.CAP_STS_REL : Fld := ⟨.src, 4, 29, 29⟩
abbrev SRC.CAP_STS_OVF : Fld := ⟨.src, 4, 15, 0⟩
abbrev SRC.PEND_RAISES : Fld := ⟨.src, 5, 15, 0⟩
abbrev SRC.CAP0_0_CAUSE : Fld := ⟨.src, 6, 31, 27⟩
abbrev SRC.CAP0_0_SEC : Fld := ⟨.src, 6, 25, 0⟩
abbrev SRC.CAP0_1_NS : Fld := ⟨.src, 7, 29, 0⟩
abbrev SRC.CAP0_2 : Fld := ⟨.src, 8, 31, 0⟩
abbrev SRC.CAP0_3 : Fld := ⟨.src, 9, 31, 0⟩
abbrev SRC.CAP0_4 : Fld := ⟨.src, 10, 31, 0⟩
abbrev SRC.CAP1_0_CAUSE : Fld := ⟨.src, 11, 31, 27⟩
abbrev SRC.CAP1_0_SEC : Fld := ⟨.src, 11, 25, 0⟩
abbrev SRC.CAP1_1_NS : Fld := ⟨.src, 12, 29, 0⟩
abbrev SRC.CAP1_2 : Fld := ⟨.src, 13, 31, 0⟩
abbrev SRC.CAP1_3 : Fld := ⟨.src, 14, 31, 0⟩
abbrev SRC.CAP1_4 : Fld := ⟨.src, 15, 31, 0⟩

/-! PMU -/
abbrev PMU.CTL_SNAP : Fld := ⟨.pmu, 0, 31, 31⟩
abbrev PMU.CTL_SNAP_MODE : Fld := ⟨.pmu, 0, 30, 30⟩

/-! PMU counter -/
abbrev PMUC.CFG_EN : Fld := ⟨.pmuC, 0, 31, 31⟩
abbrev PMUC.CFG_CHAIN : Fld := ⟨.pmuC, 0, 30, 30⟩
abbrev PMUC.CFG_WIN_MODE : Fld := ⟨.pmuC, 0, 29, 29⟩
abbrev PMUC.CFG_EVENT : Fld := ⟨.pmuC, 0, 23, 16⟩
abbrev PMUC.CFG_SHIFT : Fld := ⟨.pmuC, 0, 15, 12⟩
abbrev PMUC.ARG : Fld := ⟨.pmuC, 1, 31, 0⟩
abbrev PMUC.WIN_US : Fld := ⟨.pmuC, 2, 19, 0⟩
abbrev PMUC.THR_HI : Fld := ⟨.pmuC, 3, 31, 0⟩
abbrev PMUC.THR_LO : Fld := ⟨.pmuC, 4, 31, 0⟩
abbrev PMUC.VAL_LO : Fld := ⟨.pmuC, 5, 31, 0⟩
abbrev PMUC.VAL_HI_VAL : Fld := ⟨.pmuC, 6, 15, 0⟩
abbrev PMUC.PEAK : Fld := ⟨.pmuC, 7, 31, 0⟩

end Sys2Proof.Machine
end

