-- ==== Sys2Proof/Machine/RegTable.lean ====
section
/-!
DEFINITION. The field tables of the spec, one list per register space: bits, access code (R5), reset value and
reset classes (R8), listed encodings (R7). Each space cites its own rule.
-/

namespace Sys2Proof.Machine

/-- TLN[n] preset entry, R22 (02_tree_lanes.md). -/
def regsPreset : List RegDesc :=
  [⟨0, [⟨31, 31, .rw, 0, .cw, .any⟩, ⟨30, 30, .rw, 0, .cw, .any⟩, ⟨29, 26, .rw, 0, .cw, .any⟩, ⟨25, 23, .rw, 0, .cw, .any⟩, ⟨22, 16, .rw, 0, .cw, .any⟩, ⟨15, 12, .ro, 15, .cwb, .any⟩, ⟨11, 0, .ro, 0, .cw, .any⟩]⟩]

/-- TLN[n], R40 (02_tree_lanes.md). -/
def regsTln : List RegDesc :=
  [⟨0, [⟨9, 9, .rw, 1, .cwb, .any⟩, ⟨8, 8, .rw, 1, .cwb, .any⟩, ⟨7, 6, .rw, 1, .cwb, .range 0 1 1⟩, ⟨5, 5, .rw, 1, .cwb, .any⟩, ⟨4, 4, .rw, 0, .cwb, .any⟩, ⟨3, 3, .rw, 0, .cwb, .any⟩, ⟨1, 0, .rw, 0, .cwb, .range 0 1 1⟩]⟩,
   ⟨1, [⟨19, 16, .rw, 8, .cwb, .range 1 15 1⟩, ⟨15, 8, .rw, 64, .cwb, .any⟩, ⟨6, 4, .rw, 4, .cwb, .any⟩, ⟨3, 0, .rw, 6, .cwb, .any⟩]⟩,
   ⟨2, [⟨9, 9, .rw, 1, .cwb, .any⟩, ⟨8, 0, .rw, 0, .cwb, .any⟩]⟩,
   ⟨3, [⟨31, 0, .rw, 0, .cwb, .any⟩]⟩,
   ⟨4, [⟨15, 8, .rw, 20, .cwb, .any⟩, ⟨7, 0, .rw, 10, .cwb, .any⟩]⟩,
   ⟨5, [⟨7, 4, .rw, 3, .cwb, .range 1 15 1⟩, ⟨3, 0, .rw, 1, .cwb, .any⟩]⟩,
   ⟨6, [⟨10, 10, .ro, 0, .cwb, .any⟩, ⟨9, 9, .ro, 0, .cwb, .any⟩, ⟨8, 8, .ro, 0, .cwb, .any⟩, ⟨7, 7, .ro, 0, .cwb, .any⟩, ⟨6, 6, .ro, 0, .cwb, .any⟩, ⟨5, 5, .ro, 0, .cwb, .any⟩, ⟨4, 4, .ro, 0, .cwb, .any⟩, ⟨3, 3, .ro, 0, .cwb, .any⟩, ⟨2, 2, .ro, 0, .cwb, .any⟩, ⟨1, 0, .ro, 0, .cwb, .any⟩]⟩,
   ⟨8, [⟨31, 0, .rc, 0, .cwb, .any⟩]⟩,
   ⟨9, [⟨31, 0, .rc, 0, .cwb, .any⟩]⟩,
   ⟨10, [⟨31, 0, .rc, 0, .cwb, .any⟩]⟩,
   ⟨11, [⟨31, 0, .rc, 0, .cwb, .any⟩]⟩,
   ⟨12, [⟨31, 0, .rc, 0, .cwb, .any⟩]⟩,
   ⟨13, [⟨31, 0, .rc, 0, .cwb, .any⟩]⟩,
   ⟨14, [⟨31, 0, .rc, 0, .cwb, .any⟩]⟩,
   ⟨15, [⟨31, 0, .rc, 0, .cwb, .any⟩]⟩,
   ⟨16, [⟨31, 16, .rc, 0, .cwb, .any⟩, ⟨8, 8, .wo, 0, .cwb, .any⟩, ⟨5, 4, .rw, 0, .cwb, .any⟩, ⟨2, 0, .rw, 0, .cwb, .range 0 3 1⟩]⟩,
   ⟨17, [⟨1, 0, .rw, 0, .cwb, .range 0 2 1⟩]⟩]

/-- TFR[n], R70 (03_tree_framing.md). -/
def regsTfr : List RegDesc :=
  [⟨0, [⟨7, 4, .rw, 3, .cwb, .any⟩, ⟨3, 3, .rw, 1, .cwb, .any⟩, ⟨2, 2, .rw, 1, .cwb, .any⟩, ⟨1, 1, .rw, 0, .cwb, .any⟩, ⟨0, 0, .rw, 0, .cwb, .any⟩]⟩,
   ⟨1, [⟨31, 0, .rw, 0, .cwb, .any⟩]⟩,
   ⟨2, [⟨18, 0, .rw, 0, .cwb, .any⟩]⟩,
   ⟨3, [⟨31, 0, .ro, 0, .cwb, .any⟩]⟩,
   ⟨4, [⟨18, 0, .ro, 0, .cwb, .any⟩]⟩,
   ⟨5, [⟨27, 24, .rw, 8, .cwb, .range 1 15 1⟩, ⟨19, 0, .rw, 0, .cwb, .any⟩]⟩,
   ⟨6, [⟨21, 16, .rw, 16, .cwb, .range 2 63 1⟩, ⟨11, 8, .rw, 3, .cwb, .range 0 8 1⟩, ⟨7, 0, .rw, 8, .cwb, .any⟩]⟩,
   ⟨7, [⟨31, 28, .rw, 3, .cwb, .range 1 15 1⟩, ⟨27, 24, .rw, 3, .cwb, .range 1 15 1⟩, ⟨19, 16, .rw, 6, .cwb, .range 3 12 1⟩, ⟨15, 12, .rw, 1, .cwb, .range 1 9 1⟩, ⟨7, 0, .rw, 10, .cwb, .range 1 100 1⟩]⟩,
   ⟨8, [⟨3, 3, .ro, 0, .cwb, .any⟩, ⟨2, 2, .ro, 0, .cwb, .any⟩, ⟨1, 0, .ro, 0, .cwb, .any⟩]⟩,
   ⟨9, [⟨15, 15, .rw, 1, .cwb, .any⟩, ⟨11, 3, .rw, 0, .cwb, .any⟩, ⟨2, 0, .rw, 0, .cwb, .range 0 5 1⟩]⟩,
   ⟨10, [⟨31, 0, .rw, 0, .cwb, .any⟩]⟩,
   ⟨16, [⟨31, 0, .rc, 0, .cwb, .any⟩]⟩,
   ⟨17, [⟨31, 0, .rc, 0, .cwb, .any⟩]⟩,
   ⟨18, [⟨31, 0, .rc, 0, .cwb, .any⟩]⟩,
   ⟨19, [⟨31, 0, .rc, 0, .cwb, .any⟩]⟩,
   ⟨20, [⟨31, 0, .rc, 0, .cwb, .any⟩]⟩,
   ⟨21, [⟨31, 0, .rc, 0, .cwb, .any⟩]⟩,
   ⟨22, [⟨31, 0, .rc, 0, .cwb, .any⟩]⟩,
   ⟨23, [⟨31, 0, .rc, 0, .cwb, .any⟩]⟩,
   ⟨24, [⟨31, 0, .rc, 0, .cwb, .any⟩]⟩,
   ⟨25, [⟨31, 0, .rc, 0, .cwb, .any⟩]⟩,
   ⟨26, [⟨31, 0, .rc, 0, .cwb, .any⟩]⟩,
   ⟨27, [⟨31, 0, .rc, 0, .cwb, .any⟩]⟩,
   ⟨28, [⟨31, 0, .rc, 0, .cwb, .any⟩]⟩] ++
  [⟨29, [⟨31, 0, .rc, 0, .cwb, .any⟩]⟩,
   ⟨30, [⟨31, 0, .rc, 0, .cwb, .any⟩]⟩,
   ⟨31, [⟨31, 0, .rc, 0, .cwb, .any⟩]⟩]

/-- TFR[n] terminal status, R70 (03_tree_framing.md). -/
def regsTfrT : List RegDesc :=
  [⟨0, [⟨31, 31, .ro, 0, .cwb, .any⟩, ⟨23, 16, .ro, 0, .cwb, .any⟩, ⟨15, 12, .ro, 0, .cwb, .any⟩, ⟨11, 8, .ro, 0, .cwb, .any⟩]⟩,
   ⟨1, [⟨31, 0, .rc, 0, .cwb, .any⟩]⟩,
   ⟨2, [⟨31, 0, .rc, 0, .cwb, .any⟩]⟩,
   ⟨3, [⟨31, 0, .rc, 0, .cwb, .any⟩]⟩,
   ⟨4, [⟨31, 0, .rc, 0, .cwb, .any⟩]⟩,
   ⟨5, [⟨31, 0, .rc, 0, .cwb, .any⟩]⟩]

/-- TFR pool, R71 (03_tree_framing.md). -/
def regsPool : List RegDesc :=
  [⟨0, [⟨16, 16, .rw, 1, .cwb, .any⟩, ⟨15, 0, .rw, 65535, .cwb, .any⟩]⟩,
   ⟨1, [⟨11, 0, .rw, 250, .cwb, .range 64 4095 1⟩]⟩,
   ⟨2, [⟨31, 16, .ro, 0, .cwb, .any⟩, ⟨15, 0, .ro, 0, .cwb, .any⟩]⟩,
   ⟨3, [⟨11, 0, .rc, 0, .cwb, .any⟩]⟩,
   ⟨4, [⟨31, 0, .rc, 0, .cwb, .any⟩]⟩,
   ⟨5, [⟨31, 0, .rc, 0, .cwb, .any⟩]⟩,
   ⟨6, [⟨31, 0, .rc, 0, .cwb, .any⟩]⟩,
   ⟨7, [⟨31, 0, .rc, 0, .cwb, .any⟩]⟩,
   ⟨8, [⟨31, 0, .rc, 0, .cwb, .any⟩]⟩,
   ⟨9, [⟨31, 0, .rc, 0, .cwb, .any⟩]⟩]

/-- TFR pool DEC[j], R71 (03_tree_framing.md). -/
def regsDec : List RegDesc :=
  [⟨0, [⟨31, 0, .rc, 0, .cwb, .any⟩]⟩,
   ⟨1, [⟨31, 0, .rc, 0, .cwb, .any⟩]⟩]

/-- TFR pool ENC[k], R71 (03_tree_framing.md). -/
def regsEnc : List RegDesc :=
  [⟨0, [⟨31, 0, .rc, 0, .cwb, .any⟩]⟩,
   ⟨1, [⟨31, 0, .rc, 0, .cwb, .any⟩]⟩]

/-- ACT[n], R97 (04_activation.md). -/
def regsAct : List RegDesc :=
  [⟨0, [⟨10, 10, .rw, 1, .cwb, .any⟩, ⟨9, 9, .rw, 1, .cwb, .any⟩, ⟨8, 8, .rw, 1, .cwb, .any⟩, ⟨7, 7, .rw, 1, .cwb, .any⟩, ⟨6, 6, .rw, 1, .cwb, .any⟩, ⟨5, 4, .rw, 0, .cwb, .range 0 2 1⟩, ⟨1, 1, .rw, 1, .cwb, .any⟩, ⟨0, 0, .rw, 0, .cwb, .any⟩]⟩,
   ⟨1, [⟨31, 28, .rw, 4, .cwb, .range 1 15 1⟩, ⟨27, 25, .rw, 5, .cwb, .range 1 5 1⟩, ⟨24, 22, .rw, 1, .cwb, .any⟩, ⟨21, 18, .rw, 4, .cwb, .range 1 15 1⟩, ⟨17, 10, .rw, 20, .cwb, .range 1 255 1⟩, ⟨9, 0, .rw, 400, .cwb, .range 1 1023 1⟩]⟩,
   ⟨2, [⟨31, 16, .rw, 8000, .cwb, .range 8 65535 1⟩, ⟨11, 8, .rw, 4, .cwb, .range 1 15 1⟩]⟩,
   ⟨3, [⟨31, 28, .rw, 2, .cwb, .range 1 15 1⟩, ⟨27, 24, .rw, 2, .cwb, .range 1 15 1⟩, ⟨23, 20, .rw, 2, .cwb, .any⟩, ⟨19, 16, .rw, 1, .cwb, .range 1 15 1⟩, ⟨15, 8, .rw, 8, .cwb, .range 1 255 1⟩]⟩,
   ⟨4, [⟨31, 31, .w1s, 0, .cwb, .any⟩, ⟨30, 30, .ro, 0, .cwb, .any⟩, ⟨26, 24, .rw, 0, .cwb, .range 0 4 1⟩, ⟨8, 0, .rw, 0, .cwb, .any⟩]⟩,
   ⟨5, [⟨22, 16, .ro, 0, .cwb, .any⟩, ⟨15, 6, .ro, 0, .cwb, .any⟩, ⟨1, 1, .ro, 0, .cwb, .any⟩, ⟨0, 0, .ro, 0, .cwb, .any⟩]⟩,
   ⟨6, [⟨31, 30, .ro, 0, .cwb, .any⟩, ⟨29, 28, .ro, 0, .cwb, .any⟩, ⟨27, 24, .ro, 0, .cwb, .any⟩, ⟨23, 20, .ro, 0, .cwb, .any⟩, ⟨19, 10, .ro, 0, .cwb, .any⟩, ⟨8, 0, .ro, 0, .cwb, .any⟩]⟩,
   ⟨7, [⟨31, 0, .rw, 0, .cwb, .any⟩]⟩,
   ⟨8, [⟨18, 0, .rw, 0, .cwb, .any⟩]⟩,
   ⟨9, [⟨31, 0, .ro, 0, .cwb, .any⟩]⟩,
   ⟨10, [⟨29, 0, .ro, 0, .cwb, .any⟩]⟩,
   ⟨11, [⟨15, 0, .ro, 0, .cwb, .any⟩]⟩,
   ⟨12, [⟨15, 15, .rw, 1, .cwb, .any⟩, ⟨11, 3, .rw, 0, .cwb, .any⟩, ⟨2, 0, .rw, 0, .cwb, .range 0 4 1⟩]⟩,
   ⟨13, [⟨31, 0, .rw, 0, .cwb, .any⟩]⟩,
   ⟨14, [⟨8, 8, .rw, 1, .cwb, .any⟩, ⟨7, 2, .rw, 0, .cwb, .any⟩, ⟨1, 0, .rw, 0, .cwb, .any⟩]⟩,
   ⟨15, [⟨31, 0, .rw, 0, .cwb, .any⟩]⟩,
   ⟨16, [⟨15, 15, .rw, 1, .cwb, .any⟩, ⟨11, 3, .rw, 0, .cwb, .any⟩, ⟨2, 0, .rw, 0, .cwb, .range 0 3 1⟩]⟩,
   ⟨17, [⟨31, 0, .wo, 0, .cwb, .any⟩]⟩,
   ⟨18, [⟨21, 16, .ro, 0, .cwb, .any⟩, ⟨8, 0, .ro, 0, .cwb, .any⟩]⟩,
   ⟨24, [⟨31, 0, .rc, 0, .cwb, .any⟩]⟩,
   ⟨25, [⟨31, 0, .rc, 0, .cwb, .any⟩]⟩,
   ⟨26, [⟨31, 0, .rc, 0, .cwb, .any⟩]⟩,
   ⟨27, [⟨31, 0, .rc, 0, .cwb, .any⟩]⟩,
   ⟨28, [⟨31, 0, .rc, 0, .cwb, .any⟩]⟩] ++
  [⟨29, [⟨31, 0, .rc, 0, .cwb, .any⟩]⟩,
   ⟨30, [⟨31, 0, .rc, 0, .cwb, .any⟩]⟩,
   ⟨31, [⟨31, 0, .rc, 0, .cwb, .any⟩]⟩,
   ⟨32, [⟨31, 0, .rc, 0, .cwb, .any⟩]⟩,
   ⟨33, [⟨31, 0, .rc, 0, .cwb, .any⟩]⟩,
   ⟨34, [⟨31, 0, .rc, 0, .cwb, .any⟩]⟩,
   ⟨35, [⟨31, 0, .rc, 0, .cwb, .any⟩]⟩,
   ⟨36, [⟨31, 0, .rc, 0, .cwb, .any⟩]⟩]

/-- ACT[n] terminal record, R97 (04_activation.md). -/
def regsActT : List RegDesc :=
  [⟨0, [⟨31, 29, .ro, 0, .cwb, .any⟩, ⟨28, 28, .rw, 0, .cwb, .any⟩, ⟨27, 26, .rw, 0, .cwb, .range 0 2 1⟩, ⟨25, 22, .ro, 0, .cwb, .any⟩, ⟨21, 16, .ro, 0, .cwb, .any⟩, ⟨15, 12, .ro, 0, .cwb, .any⟩, ⟨11, 11, .ro, 0, .cwb, .any⟩, ⟨10, 10, .ro, 0, .cwb, .any⟩]⟩,
   ⟨1, [⟨31, 0, .rw, 0, .cwb, .any⟩]⟩,
   ⟨2, [⟨31, 0, .rw, 0, .cwb, .any⟩]⟩,
   ⟨3, [⟨25, 0, .ro, 0, .cwb, .any⟩]⟩,
   ⟨4, [⟨31, 0, .rc, 0, .cwb, .any⟩]⟩]

/-- ACT[n] brood entry, R97 (04_activation.md). -/
def regsBrood : List RegDesc :=
  [⟨0, [⟨31, 0, .ro, 0, .cwb, .any⟩]⟩,
   ⟨1, [⟨31, 0, .ro, 0, .cwb, .any⟩]⟩,
   ⟨2, [⟨31, 31, .ro, 0, .cwb, .any⟩, ⟨30, 29, .ro, 0, .cwb, .any⟩, ⟨28, 20, .ro, 0, .cwb, .any⟩, ⟨19, 16, .ro, 0, .cwb, .any⟩]⟩,
   ⟨3, [⟨19, 0, .ro, 0, .cwb, .any⟩]⟩]

/-- GRT[n], R119 (05_grant_engine.md). -/
def regsGrt : List RegDesc :=
  [⟨0, [⟨1, 1, .rw, 1, .cwb, .any⟩, ⟨0, 0, .rw, 0, .cwb, .any⟩]⟩,
   ⟨1, [⟨31, 31, .rw, 0, .cwb, .any⟩, ⟨16, 0, .rw, 0, .cwb, .range 0 97200 2⟩]⟩,
   ⟨2, [⟨5, 4, .rw, 3, .cwb, .any⟩, ⟨3, 2, .rw, 3, .cwb, .any⟩, ⟨1, 0, .rw, 3, .cwb, .any⟩]⟩,
   ⟨3, [⟨31, 31, .ro, 0, .cwb, .any⟩, ⟨30, 30, .ro, 0, .cwb, .any⟩, ⟨26, 16, .ro, 0, .cwb, .any⟩, ⟨10, 0, .ro, 0, .cwb, .any⟩]⟩,
   ⟨4, [⟨15, 15, .rw, 1, .cwb, .any⟩, ⟨14, 14, .rw, 0, .cwb, .any⟩, ⟨13, 12, .rw, 0, .cwb, .range 0 2 1⟩, ⟨9, 0, .rw, 0, .cwb, .any⟩]⟩,
   ⟨5, [⟨31, 0, .rw, 0, .cwb, .any⟩]⟩,
   ⟨6, [⟨15, 15, .rw, 1, .cwb, .any⟩, ⟨11, 1, .rw, 0, .cwb, .any⟩, ⟨0, 0, .rw, 0, .cwb, .any⟩]⟩,
   ⟨7, [⟨31, 0, .rw, 0, .cwb, .any⟩]⟩,
   ⟨8, [⟨15, 15, .rw, 1, .cwb, .any⟩, ⟨5, 4, .rw, 0, .cwb, .range 0 2 1⟩, ⟨3, 2, .rw, 0, .cwb, .any⟩, ⟨1, 0, .rw, 0, .cwb, .range 0 2 1⟩]⟩,
   ⟨9, [⟨31, 0, .rw, 0, .cwb, .any⟩]⟩,
   ⟨16, [⟨31, 0, .rc, 0, .cwb, .any⟩]⟩,
   ⟨17, [⟨31, 0, .rc, 0, .cwb, .any⟩]⟩,
   ⟨18, [⟨31, 0, .rc, 0, .cwb, .any⟩]⟩,
   ⟨19, [⟨31, 0, .rc, 0, .cwb, .any⟩]⟩,
   ⟨20, [⟨31, 0, .rc, 0, .cwb, .any⟩]⟩,
   ⟨21, [⟨31, 0, .rc, 0, .cwb, .any⟩]⟩,
   ⟨22, [⟨31, 0, .rc, 0, .cwb, .any⟩]⟩,
   ⟨23, [⟨31, 0, .rc, 0, .cwb, .any⟩]⟩,
   ⟨24, [⟨31, 0, .rc, 0, .cwb, .any⟩]⟩,
   ⟨25, [⟨31, 0, .rc, 0, .cwb, .any⟩]⟩,
   ⟨26, [⟨31, 0, .rc, 0, .cwb, .any⟩]⟩,
   ⟨27, [⟨31, 0, .rc, 0, .cwb, .any⟩]⟩,
   ⟨28, [⟨31, 0, .rc, 0, .cwb, .any⟩]⟩,
   ⟨29, [⟨31, 0, .rc, 0, .cwb, .any⟩]⟩] ++
  [⟨30, [⟨31, 0, .rc, 0, .cwb, .any⟩]⟩,
   ⟨31, [⟨31, 0, .rc, 0, .cwb, .any⟩]⟩,
   ⟨32, [⟨31, 0, .rc, 0, .cwb, .any⟩]⟩,
   ⟨33, [⟨31, 0, .rc, 0, .cwb, .any⟩]⟩,
   ⟨34, [⟨31, 0, .rc, 0, .cwb, .any⟩]⟩,
   ⟨35, [⟨31, 0, .rc, 0, .cwb, .any⟩]⟩,
   ⟨36, [⟨31, 0, .rc, 0, .cwb, .any⟩]⟩]

/-- GRT[n] comb cell, R100 (05_grant_engine.md). -/
def regsCell : List RegDesc :=
  [⟨0, [⟨31, 31, .rw, 0, .cwb, .any⟩, ⟨30, 30, .rw, 0, .cwb, .any⟩, ⟨29, 29, .rw, 0, .cwb, .any⟩, ⟨28, 28, .rw, 0, .cwb, .any⟩, ⟨27, 27, .rw, 0, .cwb, .any⟩, ⟨26, 25, .rw, 0, .cwb, .any⟩, ⟨24, 23, .rw, 0, .cwb, .any⟩, ⟨22, 14, .rw, 0, .cwb, .any⟩, ⟨13, 0, .rw, 0, .cwb, .any⟩]⟩,
   ⟨1, [⟨31, 15, .rw, 0, .cwb, .any⟩, ⟨14, 13, .rw, 0, .cwb, .any⟩, ⟨12, 11, .rw, 0, .cwb, .any⟩, ⟨10, 8, .rw, 0, .cwb, .any⟩]⟩,
   ⟨2, [⟨31, 28, .rw, 0, .cwb, .any⟩, ⟨27, 27, .rw, 0, .cwb, .any⟩, ⟨15, 0, .rw, 0, .cwb, .any⟩]⟩]

/-- GRT[n] allocation context, R119; words 2 to 7 R132 of 06_grant_programs.md (05_grant_engine.md). -/
def regsCtx : List RegDesc :=
  [⟨0, [⟨31, 31, .rw, 0, .cwb, .any⟩, ⟨29, 16, .rw, 0, .cwb, .any⟩, ⟨8, 0, .rw, 0, .cwb, .any⟩]⟩,
   ⟨1, [⟨23, 0, .rw, 16777215, .cwb, .any⟩]⟩,
   ⟨2, [⟨31, 0, .rw, 0, .cwb, .any⟩]⟩,
   ⟨3, [⟨31, 0, .rw, 0, .cwb, .any⟩]⟩,
   ⟨4, [⟨31, 24, .rw, 0, .cwb, .any⟩, ⟨23, 0, .rw, 0, .cwb, .any⟩]⟩,
   ⟨5, [⟨31, 0, .rw, 0, .cwb, .any⟩]⟩,
   ⟨6, [⟨31, 0, .rw, 0, .cwb, .any⟩]⟩,
   ⟨7, [⟨31, 0, .rw, 0, .cwb, .any⟩]⟩]

/-- GRT[n] burst profile, R119 (05_grant_engine.md). -/
def regsProf : List RegDesc :=
  [⟨0, [⟨31, 31, .rw, 0, .cwb, .any⟩, ⟨30, 30, .rw, 1, .cwb, .any⟩, ⟨29, 29, .rw, 1, .cwb, .any⟩, ⟨23, 16, .rw, 16, .cwb, .range 14 255 1⟩, ⟨11, 0, .rw, 2048, .cwb, .any⟩]⟩,
   ⟨1, [⟨31, 0, .rw, 0, .cwb, .any⟩]⟩,
   ⟨2, [⟨31, 0, .rw, 0, .cwb, .any⟩]⟩]

/-- GSQ[k], R149 (06_grant_programs.md). -/
def regsGsq : List RegDesc :=
  [⟨0, [⟨8, 8, .rw, 1, .cwb, .any⟩, ⟨7, 4, .rw, 4, .cwb, .range 1 15 1⟩, ⟨3, 0, .rw, 0, .cwb, .any⟩]⟩,
   ⟨1, [⟨14, 0, .rw, 250, .cwb, .range 0 15000 1⟩]⟩,
   ⟨2, [⟨23, 0, .rw, 160000, .cwb, .range 1024 16777215 1⟩]⟩,
   ⟨3, [⟨26, 16, .rw, 0, .cwb, .range 0 1024 1⟩, ⟨15, 0, .rw, 0, .cwb, .range 0 65535 4⟩]⟩,
   ⟨4, [⟨31, 31, .w1s, 0, .cwb, .any⟩, ⟨30, 30, .ro, 0, .cwb, .any⟩, ⟨1, 0, .rw, 0, .cwb, .any⟩]⟩,
   ⟨5, [⟨13, 0, .rw, 0, .cwb, .any⟩]⟩,
   ⟨6, [⟨29, 16, .rw, 0, .cwb, .any⟩, ⟨13, 0, .rw, 0, .cwb, .any⟩]⟩,
   ⟨8, [⟨13, 0, .rw, 0, .cwb, .any⟩]⟩,
   ⟨9, [⟨13, 0, .rw, 0, .cwb, .any⟩]⟩,
   ⟨10, [⟨13, 0, .rw, 0, .cwb, .any⟩]⟩,
   ⟨11, [⟨13, 0, .rw, 0, .cwb, .any⟩]⟩,
   ⟨12, [⟨29, 16, .rw, 0, .cwb, .any⟩, ⟨13, 0, .rw, 0, .cwb, .any⟩]⟩,
   ⟨13, [⟨29, 16, .rw, 0, .cwb, .any⟩, ⟨13, 0, .rw, 0, .cwb, .any⟩]⟩,
   ⟨14, [⟨29, 16, .rw, 0, .cwb, .any⟩, ⟨13, 0, .rw, 0, .cwb, .any⟩]⟩,
   ⟨15, [⟨29, 16, .rw, 0, .cwb, .any⟩, ⟨13, 0, .rw, 0, .cwb, .any⟩]⟩,
   ⟨16, [⟨31, 29, .ro, 0, .cwb, .any⟩, ⟨28, 25, .ro, 0, .cwb, .any⟩, ⟨24, 24, .ro, 0, .cwb, .any⟩, ⟨23, 20, .ro, 0, .cwb, .any⟩, ⟨13, 0, .ro, 0, .cwb, .any⟩]⟩,
   ⟨17, [⟨31, 29, .ro, 0, .cwb, .any⟩, ⟨28, 25, .ro, 0, .cwb, .any⟩, ⟨24, 24, .ro, 0, .cwb, .any⟩, ⟨23, 20, .ro, 0, .cwb, .any⟩, ⟨13, 0, .ro, 0, .cwb, .any⟩]⟩,
   ⟨18, [⟨31, 29, .ro, 0, .cwb, .any⟩, ⟨28, 25, .ro, 0, .cwb, .any⟩, ⟨24, 24, .ro, 0, .cwb, .any⟩, ⟨23, 20, .ro, 0, .cwb, .any⟩, ⟨13, 0, .ro, 0, .cwb, .any⟩]⟩,
   ⟨19, [⟨31, 29, .ro, 0, .cwb, .any⟩, ⟨28, 25, .ro, 0, .cwb, .any⟩, ⟨24, 24, .ro, 0, .cwb, .any⟩, ⟨23, 20, .ro, 0, .cwb, .any⟩, ⟨13, 0, .ro, 0, .cwb, .any⟩]⟩,
   ⟨20, [⟨31, 0, .rw, 0, .cwb, .any⟩]⟩,
   ⟨21, [⟨31, 0, .rw, 0, .cwb, .any⟩]⟩,
   ⟨22, [⟨31, 0, .rw, 0, .cwb, .any⟩]⟩,
   ⟨23, [⟨31, 0, .rw, 0, .cwb, .any⟩]⟩,
   ⟨24, [⟨31, 31, .rw, 1, .cwb, .any⟩, ⟨13, 0, .rw, 0, .cwb, .any⟩]⟩] ++
  [⟨25, [⟨31, 0, .rw, 0, .cwb, .any⟩]⟩,
   ⟨26, [⟨31, 31, .rw, 1, .cwb, .any⟩, ⟨15, 2, .rw, 0, .cwb, .any⟩]⟩,
   ⟨27, [⟨31, 0, .rw, 0, .cwb, .any⟩]⟩,
   ⟨28, [⟨31, 31, .rw, 1, .cwb, .any⟩, ⟨16, 14, .rw, 0, .cwb, .range 0 5 1⟩, ⟨13, 3, .rw, 0, .cwb, .any⟩, ⟨2, 0, .rw, 2, .cwb, .range 2 7 1⟩]⟩,
   ⟨29, [⟨31, 0, .rw, 0, .cwb, .any⟩]⟩,
   ⟨30, [⟨5, 4, .rw, 0, .cwb, .any⟩, ⟨3, 0, .rw, 0, .cwb, .any⟩]⟩,
   ⟨31, [⟨31, 0, .ro, 0, .cwb, .any⟩]⟩,
   ⟨32, [⟨31, 31, .rw, 0, .cwb, .any⟩, ⟨30, 30, .rw, 0, .cwb, .any⟩, ⟨29, 28, .rw, 0, .cwb, .range 0 2 1⟩, ⟨27, 24, .rw, 15, .cwb, .any⟩, ⟨15, 0, .rw, 1024, .cwb, .range 1 65535 1⟩]⟩,
   ⟨33, [⟨29, 16, .rw, 0, .cwb, .any⟩, ⟨13, 0, .rw, 0, .cwb, .any⟩]⟩,
   ⟨34, [⟨31, 31, .ro, 0, .cwb, .any⟩, ⟨12, 0, .ro, 0, .cwb, .any⟩]⟩,
   ⟨35, [⟨31, 31, .rw, 1, .cwb, .any⟩, ⟨12, 1, .rw, 0, .cwb, .any⟩, ⟨0, 0, .rw, 0, .cwb, .any⟩]⟩,
   ⟨36, [⟨31, 0, .ro, 0, .cwb, .any⟩]⟩,
   ⟨40, [⟨31, 0, .rc, 0, .cwb, .any⟩]⟩,
   ⟨41, [⟨31, 0, .rc, 0, .cwb, .any⟩]⟩,
   ⟨42, [⟨31, 0, .rc, 0, .cwb, .any⟩]⟩,
   ⟨43, [⟨31, 0, .rc, 0, .cwb, .any⟩]⟩,
   ⟨44, [⟨31, 0, .rc, 0, .cwb, .any⟩]⟩,
   ⟨45, [⟨31, 0, .rc, 0, .cwb, .any⟩]⟩,
   ⟨46, [⟨31, 0, .rc, 0, .cwb, .any⟩]⟩,
   ⟨47, [⟨31, 0, .rc, 0, .cwb, .any⟩]⟩,
   ⟨48, [⟨31, 0, .rc, 0, .cwb, .any⟩]⟩,
   ⟨49, [⟨31, 0, .rc, 0, .cwb, .any⟩]⟩,
   ⟨50, [⟨31, 0, .rc, 0, .cwb, .any⟩]⟩]

/-- CRL, R169 (07_constant_rate_lanes.md). -/
def regsCrl : List RegDesc :=
  [⟨0, [⟨11, 8, .rw, 10, .cwb, .any⟩, ⟨7, 4, .rw, 8, .cwb, .any⟩, ⟨3, 0, .rw, 14, .cwb, .any⟩]⟩,
   ⟨1, [⟨31, 31, .w1s, 0, .cwb, .any⟩, ⟨30, 30, .ro, 0, .cwb, .any⟩, ⟨29, 26, .ro, 0, .cwb, .any⟩, ⟨21, 21, .rw, 0, .cwb, .any⟩, ⟨20, 20, .rw, 0, .cwb, .any⟩, ⟨9, 4, .rw, 0, .cwb, .range 0 47 1⟩, ⟨3, 0, .rw, 0, .cwb, .any⟩]⟩,
   ⟨2, [⟨25, 21, .ro, 0, .cwb, .any⟩, ⟨20, 11, .ro, 0, .cwb, .any⟩, ⟨10, 1, .ro, 0, .cwb, .any⟩]⟩,
   ⟨4, [⟨15, 15, .rw, 1, .cwb, .any⟩, ⟨14, 14, .rw, 0, .cwb, .any⟩, ⟨13, 8, .rw, 0, .cwb, .range 0 47 1⟩, ⟨7, 4, .rw, 0, .cwb, .any⟩, ⟨3, 0, .rw, 0, .cwb, .range 0 13 1⟩]⟩,
   ⟨5, [⟨31, 0, .rw, 0, .cwb, .any⟩]⟩,
   ⟨6, [⟨10, 10, .rw, 1, .cwb, .any⟩, ⟨9, 2, .rw, 0, .cwb, .any⟩, ⟨1, 0, .rw, 0, .cwb, .any⟩]⟩,
   ⟨7, [⟨31, 0, .rw, 0, .cwb, .any⟩]⟩,
   ⟨8, [⟨31, 0, .rc, 0, .cwb, .any⟩]⟩]

/-- OHP[p], R170 (07_constant_rate_lanes.md). -/
def regsOhp : List RegDesc :=
  [⟨0, [⟨7, 2, .rw, 8, .cwb, .range 8 48 1⟩, ⟨0, 0, .rw, 0, .cwb, .any⟩]⟩,
   ⟨1, [⟨5, 5, .rw, 1, .cwb, .any⟩, ⟨4, 0, .rw, 0, .cwb, .any⟩]⟩,
   ⟨2, [⟨31, 31, .rw, 0, .cwb, .any⟩, ⟨30, 30, .rw, 0, .cwb, .any⟩, ⟨29, 24, .rw, 0, .cwb, .range 0 47 1⟩, ⟨23, 20, .rw, 0, .cwb, .any⟩, ⟨19, 14, .rw, 0, .cwb, .range 0 47 1⟩, ⟨13, 10, .rw, 0, .cwb, .any⟩]⟩,
   ⟨4, [⟨31, 0, .rc, 0, .cwb, .any⟩]⟩,
   ⟨5, [⟨31, 0, .rc, 0, .cwb, .any⟩]⟩]

/-- CRL lane, R169 (07_constant_rate_lanes.md). -/
def regsLane : List RegDesc :=
  [⟨0, [⟨31, 31, .ro, 0, .cwb, .any⟩, ⟨30, 30, .rw, 0, .cwb, .any⟩, ⟨29, 28, .rw, 0, .cwb, .any⟩, ⟨24, 16, .rw, 0, .cwb, .any⟩, ⟨15, 0, .rw, 0, .cwb, .any⟩]⟩,
   ⟨1, [⟨31, 20, .rw, 100, .cwb, .range 1 1000 1⟩, ⟨19, 0, .rw, 0, .cwb, .any⟩]⟩,
   ⟨2, [⟨31, 16, .rw, 0, .cwb, .any⟩, ⟨15, 0, .rw, 0, .cwb, .any⟩]⟩,
   ⟨3, [⟨31, 15, .rw, 0, .cwb, .range 0 131071 2⟩, ⟨14, 13, .rw, 0, .cwb, .any⟩, ⟨9, 0, .rw, 1000, .cwb, .range 0 1022 1⟩]⟩,
   ⟨4, [⟨31, 18, .rw, 0, .cwb, .any⟩, ⟨15, 8, .rw, 0, .cwb, .any⟩, ⟨4, 0, .rw, 0, .cwb, .any⟩]⟩,
   ⟨5, [⟨31, 28, .rw, 6, .cwb, .range 3 12 1⟩, ⟨27, 24, .rw, 1, .cwb, .range 1 9 1⟩, ⟨23, 20, .rw, 3, .cwb, .range 1 15 1⟩, ⟨19, 16, .rw, 3, .cwb, .range 1 15 1⟩, ⟨15, 8, .rw, 0, .cwb, .any⟩, ⟨7, 0, .rw, 0, .cwb, .any⟩]⟩,
   ⟨6, [⟨31, 16, .rw, 1024, .cwb, .any⟩, ⟨15, 0, .rw, 512, .cwb, .any⟩]⟩,
   ⟨7, [⟨31, 16, .rw, 2500, .cwb, .any⟩, ⟨15, 0, .rw, 7680, .cwb, .any⟩]⟩,
   ⟨8, [⟨31, 30, .ro, 0, .cwb, .any⟩, ⟨29, 29, .ro, 0, .cwb, .any⟩, ⟨28, 28, .ro, 0, .cwb, .any⟩, ⟨27, 20, .ro, 0, .cwb, .any⟩, ⟨19, 0, .ro, 0, .cwb, .any⟩]⟩,
   ⟨9, [⟨31, 0, .rc, 0, .cwb, .any⟩]⟩,
   ⟨10, [⟨31, 0, .rc, 0, .cwb, .any⟩]⟩,
   ⟨11, [⟨31, 0, .rc, 0, .cwb, .any⟩]⟩,
   ⟨12, [⟨31, 0, .rc, 0, .cwb, .any⟩]⟩,
   ⟨13, [⟨31, 0, .rc, 0, .cwb, .any⟩]⟩]

/-- CLS[k], R190 (08_classification.md). -/
def regsCls : List RegDesc :=
  [⟨0, [⟨2, 2, .rw, 0, .cwb, .any⟩, ⟨1, 1, .rw, 1, .cwb, .any⟩, ⟨0, 0, .rw, 1, .cwb, .any⟩]⟩,
   ⟨1, [⟨6, 0, .rw, 60, .cwb, .range 1 120 1⟩]⟩,
   ⟨2, [⟨3, 0, .rw, 2, .cwb, .range 2 15 1⟩]⟩,
   ⟨3, [⟨31, 0, .rw, 0, .cwb, .any⟩]⟩,
   ⟨4, [⟨31, 0, .rw, 0, .cwb, .any⟩]⟩,
   ⟨5, [⟨30, 30, .ro, 0, .cwb, .any⟩, ⟨20, 0, .ro, 0, .cwb, .any⟩]⟩,
   ⟨6, [⟨12, 0, .ro, 0, .cwb, .any⟩]⟩,
   ⟨7, [⟨2, 2, .rw, 1, .cwb, .any⟩, ⟨1, 0, .rw, 0, .cwb, .any⟩]⟩,
   ⟨8, [⟨31, 0, .rw, 0, .cwb, .any⟩]⟩,
   ⟨9, [⟨31, 31, .w1s, 0, .cwb, .any⟩, ⟨30, 30, .ro, 0, .cwb, .any⟩, ⟨29, 27, .ro, 0, .cwb, .any⟩, ⟨26, 24, .rw, 0, .cwb, .range 0 5 1⟩, ⟨19, 0, .rw, 0, .cwb, .any⟩]⟩,
   ⟨10, [⟨31, 31, .rw, 1, .cwb, .any⟩, ⟨30, 28, .rw, 0, .cwb, .any⟩, ⟨19, 18, .rw, 0, .cwb, .any⟩, ⟨17, 0, .rw, 0, .cwb, .any⟩]⟩,
   ⟨11, [⟨31, 0, .rw, 0, .cwb, .any⟩]⟩,
   ⟨16, [⟨31, 0, .rc, 0, .cwb, .any⟩]⟩,
   ⟨17, [⟨31, 0, .rc, 0, .cwb, .any⟩]⟩,
   ⟨18, [⟨31, 0, .rc, 0, .cwb, .any⟩]⟩,
   ⟨19, [⟨31, 0, .rc, 0, .cwb, .any⟩]⟩,
   ⟨20, [⟨31, 0, .rc, 0, .cwb, .any⟩]⟩,
   ⟨21, [⟨31, 0, .rc, 0, .cwb, .any⟩]⟩,
   ⟨22, [⟨31, 0, .rc, 0, .cwb, .any⟩]⟩,
   ⟨23, [⟨31, 0, .rc, 0, .cwb, .any⟩]⟩,
   ⟨24, [⟨31, 0, .rc, 0, .cwb, .any⟩]⟩,
   ⟨25, [⟨31, 0, .rc, 0, .cwb, .any⟩]⟩,
   ⟨26, [⟨31, 0, .rc, 0, .cwb, .any⟩]⟩,
   ⟨27, [⟨31, 0, .rc, 0, .cwb, .any⟩]⟩] ++
  [⟨28, [⟨31, 0, .rc, 0, .cwb, .any⟩]⟩,
   ⟨29, [⟨31, 0, .rc, 0, .cwb, .any⟩]⟩,
   ⟨30, [⟨31, 0, .rc, 0, .cwb, .any⟩]⟩,
   ⟨31, [⟨31, 0, .rc, 0, .cwb, .any⟩]⟩,
   ⟨32, [⟨31, 0, .rc, 0, .cwb, .any⟩]⟩,
   ⟨33, [⟨31, 0, .rc, 0, .cwb, .any⟩]⟩,
   ⟨34, [⟨31, 0, .rc, 0, .cwb, .any⟩]⟩]

/-- CLS[k] ACTION table, R185, R191 (08_classification.md). -/
def regsCAction : List RegDesc :=
  [⟨0, [⟨31, 31, .rw, 0, .cwb, .any⟩, ⟨30, 28, .rw, 0, .cwb, .range 0 5 1⟩, ⟨27, 27, .rw, 0, .cwb, .any⟩, ⟨26, 26, .rw, 0, .cwb, .any⟩, ⟨25, 24, .rw, 0, .cwb, .any⟩, ⟨23, 21, .rw, 0, .cwb, .any⟩, ⟨15, 0, .rw, 0, .cwb, .any⟩]⟩,
   ⟨1, [⟨11, 0, .rw, 0, .cwb, .any⟩]⟩,
   ⟨2, [⟨31, 0, .rw, 0, .cwb, .any⟩]⟩]

/-- CLS[k] PORT table, R185, R191 (08_classification.md). -/
def regsCPort : List RegDesc :=
  [⟨0, [⟨31, 31, .rw, 0, .cwb, .any⟩, ⟨30, 30, .rw, 0, .cwb, .any⟩, ⟨29, 29, .rw, 0, .cwb, .any⟩, ⟨11, 8, .rw, 0, .cwb, .any⟩, ⟨7, 0, .rw, 0, .cwb, .any⟩]⟩,
   ⟨1, [⟨17, 0, .rw, 0, .cwb, .any⟩]⟩]

/-- CLS[k] VID table, R185, R191 (08_classification.md). -/
def regsCVid : List RegDesc :=
  [⟨0, [⟨31, 31, .rw, 0, .cwb, .any⟩, ⟨7, 0, .rw, 0, .cwb, .any⟩]⟩]

/-- CLS[k] DOMAIN table, R185, R191 (08_classification.md). -/
def regsCDomain : List RegDesc :=
  [⟨0, [⟨31, 31, .rw, 0, .cwb, .any⟩, ⟨30, 30, .rw, 0, .cwb, .any⟩, ⟨13, 0, .rw, 0, .cwb, .any⟩]⟩,
   ⟨1, [⟨17, 0, .rw, 0, .cwb, .any⟩]⟩]

/-- CLS[k] GROUP table, R185, R191 (08_classification.md). -/
def regsCGroup : List RegDesc :=
  [⟨0, [⟨31, 31, .rw, 0, .cwb, .any⟩, ⟨25, 8, .rw, 0, .cwb, .any⟩, ⟨7, 0, .rw, 0, .cwb, .range 1 255 1⟩]⟩]

/-- CLS[k] MEMBER table, R185, R191 (08_classification.md). -/
def regsCMember : List RegDesc :=
  [⟨0, [⟨31, 31, .rw, 0, .cwb, .any⟩, ⟨21, 16, .rw, 0, .cwb, .any⟩, ⟨15, 0, .rw, 0, .cwb, .any⟩]⟩]

/-- CLS[k] METER table, R185, R191 (08_classification.md). -/
def regsCMeter : List RegDesc :=
  [⟨0, [⟨31, 31, .rw, 0, .cwb, .any⟩, ⟨19, 0, .rw, 0, .cwb, .any⟩]⟩,
   ⟨1, [⟨23, 0, .rw, 0, .cwb, .range 64 16777215 1⟩]⟩]

/-- CLS[k] LIMIT table, R185, R191 (08_classification.md). -/
def regsCLimit : List RegDesc :=
  [⟨0, [⟨20, 0, .rw, 0, .cwb, .any⟩]⟩,
   ⟨1, [⟨20, 0, .ro, 0, .cwb, .any⟩]⟩]

/-- CLS LPM, R190 (08_classification.md). -/
def regsLpm : List RegDesc :=
  [⟨0, [⟨31, 31, .w1s, 0, .cwb, .any⟩, ⟨30, 30, .ro, 0, .cwb, .any⟩, ⟨29, 28, .ro, 0, .cwb, .any⟩, ⟨27, 25, .ro, 0, .cwb, .any⟩, ⟨24, 24, .ro, 0, .cwb, .any⟩, ⟨19, 18, .rw, 0, .cwb, .any⟩, ⟨17, 0, .ro, 0, .cwb, .any⟩]⟩,
   ⟨1, [⟨2, 2, .rw, 1, .cwb, .any⟩, ⟨1, 0, .rw, 0, .cwb, .any⟩]⟩,
   ⟨2, [⟨31, 0, .rw, 0, .cwb, .any⟩]⟩]

/-- CLS LPM_DATA staging, R190 (08_classification.md). -/
def regsLpmD : List RegDesc :=
  [⟨0, [⟨31, 31, .rw, 0, .cwb, .any⟩, ⟨30, 24, .rw, 0, .cwb, .any⟩, ⟨23, 23, .rw, 0, .cwb, .any⟩, ⟨22, 16, .rw, 0, .cwb, .any⟩]⟩,
   ⟨1, [⟨17, 0, .rw, 0, .cwb, .any⟩]⟩,
   ⟨2, [⟨31, 0, .rw, 0, .cwb, .any⟩]⟩,
   ⟨3, [⟨31, 0, .rw, 0, .cwb, .any⟩]⟩]

/-- BPM, R211 (09_buffers.md). -/
def regsBpm : List RegDesc :=
  [⟨0, [⟨1, 1, .rw, 1, .cwb, .any⟩, ⟨0, 0, .w1s, 0, .c, .any⟩]⟩,
   ⟨1, [⟨10, 0, .rwl, 0, .c, .range 1 1024 1⟩]⟩,
   ⟨2, [⟨10, 0, .rwl, 0, .c, .range 1 1024 1⟩]⟩,
   ⟨3, [⟨10, 0, .rwl, 0, .c, .range 1 1024 1⟩]⟩,
   ⟨4, [⟨4, 0, .rwl, 0, .c, .range 1 16 1⟩]⟩,
   ⟨5, [⟨31, 31, .ro, 0, .cwb, .any⟩, ⟨30, 30, .ro, 0, .cwb, .any⟩, ⟨4, 0, .ro, 0, .cwb, .any⟩]⟩,
   ⟨8, [⟨26, 0, .ro, 0, .cwb, .any⟩]⟩,
   ⟨9, [⟨26, 0, .ro, 0, .cwb, .any⟩]⟩,
   ⟨10, [⟨26, 0, .ro, 0, .cwb, .any⟩]⟩,
   ⟨11, [⟨26, 0, .ro, 0, .cwb, .any⟩]⟩,
   ⟨12, [⟨31, 31, .rw, 1, .cwb, .any⟩, ⟨8, 4, .rw, 0, .cwb, .any⟩, ⟨3, 2, .rw, 0, .cwb, .any⟩, ⟨1, 0, .rw, 0, .cwb, .range 0 2 1⟩]⟩,
   ⟨13, [⟨31, 0, .rw, 0, .cwb, .any⟩]⟩,
   ⟨14, [⟨31, 0, .rw, 0, .cwb, .any⟩]⟩,
   ⟨15, [⟨31, 31, .ro, 0, .cwb, .any⟩, ⟨30, 30, .ro, 0, .cwb, .any⟩, ⟨29, 22, .ro, 0, .cwb, .any⟩, ⟨21, 17, .ro, 0, .cwb, .any⟩, ⟨16, 13, .ro, 0, .cwb, .any⟩]⟩,
   ⟨16, [⟨31, 0, .ro, 0, .cwb, .any⟩]⟩,
   ⟨17, [⟨14, 0, .ro, 0, .cwb, .any⟩]⟩,
   ⟨18, [⟨7, 0, .rw, 85, .cwb, .any⟩]⟩,
   ⟨19, [⟨7, 0, .rw, 85, .cwb, .any⟩]⟩,
   ⟨20, [⟨31, 31, .ro, 0, .cwb, .any⟩, ⟨7, 0, .ro, 0, .cwb, .any⟩]⟩,
   ⟨21, [⟨31, 31, .ro, 0, .cwb, .any⟩, ⟨7, 0, .ro, 0, .cwb, .any⟩]⟩,
   ⟨24, [⟨31, 0, .rc, 0, .cwb, .any⟩]⟩,
   ⟨25, [⟨31, 0, .rc, 0, .cwb, .any⟩]⟩,
   ⟨26, [⟨31, 0, .rc, 0, .cwb, .any⟩]⟩,
   ⟨27, [⟨31, 0, .rc, 0, .cwb, .any⟩]⟩] ++
  [⟨28, [⟨31, 0, .rc, 0, .cwb, .any⟩]⟩,
   ⟨29, [⟨31, 0, .rc, 0, .cwb, .any⟩]⟩,
   ⟨30, [⟨31, 0, .rc, 0, .cwb, .any⟩]⟩,
   ⟨31, [⟨31, 0, .rc, 0, .cwb, .any⟩]⟩,
   ⟨32, [⟨31, 0, .rc, 0, .cwb, .any⟩]⟩,
   ⟨33, [⟨31, 0, .rc, 0, .cwb, .any⟩]⟩,
   ⟨34, [⟨31, 0, .rc, 0, .cwb, .any⟩]⟩,
   ⟨35, [⟨31, 0, .rc, 0, .cwb, .any⟩]⟩,
   ⟨36, [⟨31, 0, .rc, 0, .cwb, .any⟩]⟩,
   ⟨37, [⟨31, 0, .rc, 0, .cwb, .any⟩]⟩,
   ⟨38, [⟨31, 0, .rc, 0, .cwb, .any⟩]⟩,
   ⟨39, [⟨31, 0, .rc, 0, .cwb, .any⟩]⟩,
   ⟨40, [⟨31, 0, .rc, 0, .cwb, .any⟩]⟩,
   ⟨41, [⟨31, 0, .rc, 0, .cwb, .any⟩]⟩,
   ⟨42, [⟨31, 0, .rc, 0, .cwb, .any⟩]⟩]

/-- BPM quota, R211 (09_buffers.md). -/
def regsQuota : List RegDesc :=
  [⟨0, [⟨26, 0, .rw, 0, .cwb, .any⟩]⟩,
   ⟨1, [⟨26, 0, .rw, 0, .cwb, .any⟩]⟩,
   ⟨2, [⟨26, 0, .ro, 0, .cwb, .any⟩]⟩]

/-- TMD, R235 (10_queues_shaping.md). -/
def regsTmd : List RegDesc :=
  [⟨0, [⟨7, 0, .rw, 10, .cwb, .range 1 255 1⟩]⟩,
   ⟨1, [⟨31, 0, .ro, 0, .cwb, .any⟩]⟩,
   ⟨2, [⟨15, 0, .ro, 0, .cwb, .any⟩]⟩,
   ⟨4, [⟨31, 31, .rw, 1, .cwb, .any⟩, ⟨30, 29, .rw, 0, .cwb, .any⟩, ⟨28, 23, .rw, 0, .cwb, .range 0 47 1⟩, ⟨22, 10, .rw, 0, .cwb, .any⟩, ⟨2, 0, .rw, 0, .cwb, .any⟩]⟩,
   ⟨5, [⟨31, 0, .rw, 0, .cwb, .any⟩]⟩,
   ⟨16, [⟨31, 0, .rc, 0, .cwb, .any⟩]⟩,
   ⟨17, [⟨31, 0, .rc, 0, .cwb, .any⟩]⟩,
   ⟨18, [⟨31, 0, .rc, 0, .cwb, .any⟩]⟩,
   ⟨19, [⟨31, 0, .rc, 0, .cwb, .any⟩]⟩,
   ⟨20, [⟨31, 0, .rc, 0, .cwb, .any⟩]⟩,
   ⟨21, [⟨31, 0, .rc, 0, .cwb, .any⟩]⟩,
   ⟨22, [⟨31, 0, .rc, 0, .cwb, .any⟩]⟩]

/-- TMU, R235 (10_queues_shaping.md). -/
def regsTmu : List RegDesc :=
  [⟨0, [⟨4, 0, .rw, 0, .cwb, .any⟩]⟩,
   ⟨10, [⟨31, 31, .rw, 1, .cwb, .any⟩, ⟨9, 9, .rw, 0, .cwb, .any⟩, ⟨8, 1, .rw, 0, .cwb, .any⟩, ⟨0, 0, .rw, 0, .cwb, .any⟩]⟩,
   ⟨11, [⟨31, 0, .rw, 0, .cwb, .any⟩]⟩,
   ⟨12, [⟨31, 31, .rw, 1, .cwb, .any⟩, ⟨30, 30, .rw, 0, .cwb, .any⟩, ⟨29, 25, .rw, 0, .cwb, .any⟩, ⟨24, 18, .rw, 0, .cwb, .range 0 71 1⟩, ⟨2, 0, .rw, 0, .cwb, .any⟩]⟩,
   ⟨13, [⟨31, 0, .rw, 0, .cwb, .any⟩]⟩,
   ⟨16, [⟨31, 0, .rc, 0, .cwb, .any⟩]⟩,
   ⟨17, [⟨31, 0, .rc, 0, .cwb, .any⟩]⟩,
   ⟨18, [⟨31, 0, .rc, 0, .cwb, .any⟩]⟩,
   ⟨19, [⟨31, 0, .rc, 0, .cwb, .any⟩]⟩,
   ⟨20, [⟨31, 0, .rc, 0, .cwb, .any⟩]⟩,
   ⟨21, [⟨31, 0, .rc, 0, .cwb, .any⟩]⟩,
   ⟨22, [⟨31, 0, .rc, 0, .cwb, .any⟩]⟩,
   ⟨23, [⟨31, 0, .rc, 0, .cwb, .any⟩]⟩,
   ⟨24, [⟨31, 0, .rc, 0, .cwb, .any⟩]⟩,
   ⟨25, [⟨31, 0, .rc, 0, .cwb, .any⟩]⟩,
   ⟨26, [⟨31, 0, .rc, 0, .cwb, .any⟩]⟩,
   ⟨27, [⟨31, 16, .rc, 0, .cwb, .any⟩, ⟨15, 0, .rc, 0, .cwb, .any⟩]⟩]

/-- TMU port, R235 (10_queues_shaping.md). -/
def regsTmuPort : List RegDesc :=
  [⟨1, [⟨31, 29, .rw, 7, .cwb, .any⟩, ⟨28, 26, .rw, 7, .cwb, .any⟩, ⟨0, 0, .rw, 1, .cwb, .any⟩]⟩,
   ⟨2, [⟨31, 31, .w1s, 0, .cwb, .any⟩, ⟨30, 30, .ro, 0, .cwb, .any⟩, ⟨29, 29, .ro, 0, .cwb, .any⟩, ⟨28, 28, .rw, 0, .cwb, .any⟩, ⟨24, 16, .rw, 1, .cwb, .range 1 256 1⟩, ⟨7, 0, .rw, 255, .cwb, .any⟩]⟩,
   ⟨3, [⟨29, 0, .rw, 0, .cwb, .range 0 999999999 1⟩]⟩,
   ⟨4, [⟨31, 0, .rw, 0, .cwb, .any⟩]⟩,
   ⟨5, [⟨15, 0, .rw, 0, .cwb, .any⟩]⟩,
   ⟨6, [⟨31, 0, .rw, 1000000, .cwb, .range 1000 1000000000 1⟩]⟩,
   ⟨7, [⟨31, 0, .rw, 0, .cwb, .any⟩]⟩,
   ⟨8, [⟨31, 31, .ro, 0, .cwb, .any⟩, ⟨30, 22, .ro, 0, .cwb, .any⟩, ⟨7, 0, .ro, 0, .cwb, .any⟩]⟩]

/-- TMD/TMU scheduling node, R236 (10_queues_shaping.md). -/
def regsNode : List RegDesc :=
  [⟨0, [⟨31, 31, .rw, 0, .cwb, .any⟩, ⟨30, 30, .rw, 0, .cwb, .any⟩, ⟨29, 29, .rw, 0, .cwb, .any⟩, ⟨28, 28, .rw, 0, .cwb, .any⟩, ⟨27, 22, .rw, 0, .cwb, .any⟩, ⟨21, 18, .rw, 0, .cwb, .any⟩, ⟨17, 9, .rw, 0, .cwb, .any⟩, ⟨8, 6, .rw, 0, .cwb, .any⟩]⟩,
   ⟨1, [⟨15, 0, .rw, 1, .cwb, .range 1 65535 1⟩]⟩,
   ⟨2, [⟨31, 0, .rw, 0, .cwb, .any⟩]⟩,
   ⟨3, [⟨23, 0, .rw, 20480, .cwb, .range 64 16777215 1⟩]⟩,
   ⟨4, [⟨31, 0, .ro, 0, .cwb, .any⟩]⟩,
   ⟨5, [⟨23, 0, .rw, 65536, .cwb, .any⟩]⟩,
   ⟨6, [⟨23, 0, .ro, 0, .cwb, .any⟩]⟩,
   ⟨7, [⟨31, 0, .rc, 0, .cwb, .any⟩]⟩]

/-- TMD/TMU class node, R236 (10_queues_shaping.md). -/
def regsNodeC : List RegDesc :=
  [⟨0, [⟨13, 0, .rw, 1522, .cwb, .range 64 16383 1⟩]⟩]

/-- TMU gate control list entry, R235 (10_queues_shaping.md). -/
def regsGcl : List RegDesc :=
  [⟨0, [⟨7, 0, .rw, 0, .cwb, .any⟩]⟩,
   ⟨1, [⟨31, 0, .rw, 0, .cwb, .range 8 4294967295 1⟩]⟩]

/-- CPH[d], R257 (11_cipher.md). -/
def regsCph : List RegDesc :=
  [⟨0, [⟨3, 3, .rw, 1, .c, .any⟩, ⟨2, 2, .w1s, 0, .c, .any⟩, ⟨1, 1, .rwl, 1, .c, .any⟩, ⟨0, 0, .rwl, 1, .c, .any⟩]⟩,
   ⟨1, [⟨31, 31, .ro, 0, .cwb, .any⟩, ⟨13, 0, .ro, 0, .cwb, .any⟩]⟩,
   ⟨2, [⟨31, 31, .rw, 1, .cwb, .any⟩, ⟨17, 12, .rw, 0, .cwb, .range 0 47 1⟩, ⟨11, 0, .rw, 0, .cwb, .any⟩]⟩,
   ⟨3, [⟨31, 0, .rw, 0, .cwb, .any⟩]⟩,
   ⟨4, [⟨31, 31, .rw, 1, .cwb, .any⟩, ⟨21, 16, .rw, 0, .cwb, .range 0 47 1⟩, ⟨15, 6, .rw, 0, .cwb, .range 0 512 1⟩, ⟨5, 4, .rw, 0, .cwb, .range 0 2 1⟩, ⟨1, 0, .rw, 0, .cwb, .any⟩]⟩,
   ⟨5, [⟨31, 0, .wo, 0, .cwb, .any⟩]⟩,
   ⟨6, [⟨31, 31, .rw, 1, .cwb, .any⟩, ⟨16, 4, .rw, 0, .cwb, .any⟩, ⟨3, 0, .rw, 0, .cwb, .range 0 9 1⟩]⟩,
   ⟨7, [⟨31, 0, .rw, 0, .cwb, .any⟩]⟩,
   ⟨8, [⟨31, 31, .rw, 1, .cwb, .any⟩, ⟨16, 4, .rw, 0, .cwb, .any⟩, ⟨3, 3, .rw, 0, .cwb, .any⟩, ⟨2, 0, .rw, 0, .cwb, .any⟩]⟩,
   ⟨9, [⟨31, 0, .wo, 0, .cwb, .any⟩]⟩,
   ⟨10, [⟨31, 31, .rw, 1, .cwb, .any⟩, ⟨14, 3, .rw, 0, .cwb, .any⟩, ⟨2, 0, .rw, 0, .cwb, .any⟩]⟩,
   ⟨11, [⟨31, 0, .wo, 0, .cwb, .any⟩]⟩,
   ⟨12, [⟨31, 31, .w1s, 0, .cwb, .any⟩, ⟨30, 30, .ro, 0, .cwb, .any⟩, ⟨29, 28, .rw, 0, .cwb, .any⟩, ⟨25, 20, .rw, 0, .cwb, .range 0 47 1⟩, ⟨12, 0, .rw, 0, .cwb, .any⟩]⟩,
   ⟨13, [⟨27, 0, .rw, 0, .cwb, .any⟩]⟩,
   ⟨16, [⟨31, 0, .rc, 0, .cwb, .any⟩]⟩,
   ⟨17, [⟨31, 0, .rc, 0, .cwb, .any⟩]⟩,
   ⟨18, [⟨31, 0, .rc, 0, .cwb, .any⟩]⟩,
   ⟨19, [⟨31, 0, .rc, 0, .cwb, .any⟩]⟩,
   ⟨20, [⟨31, 0, .rc, 0, .cwb, .any⟩]⟩,
   ⟨21, [⟨31, 0, .rc, 0, .cwb, .any⟩]⟩,
   ⟨22, [⟨31, 0, .rc, 0, .cwb, .any⟩]⟩,
   ⟨23, [⟨31, 0, .rc, 0, .cwb, .any⟩]⟩,
   ⟨24, [⟨31, 0, .rc, 0, .cwb, .any⟩]⟩,
   ⟨25, [⟨31, 0, .rc, 0, .cwb, .any⟩]⟩] ++
  [⟨26, [⟨31, 0, .rc, 0, .cwb, .any⟩]⟩,
   ⟨27, [⟨31, 0, .rc, 0, .cwb, .any⟩]⟩]

/-- CPH[d] Port-ID entry, R257 (11_cipher.md). -/
def regsCphPort : List RegDesc :=
  [⟨0, [⟨31, 31, .rw, 0, .cwb, .any⟩, ⟨30, 29, .rw, 0, .cwb, .any⟩, ⟨28, 28, .rw, 0, .cwb, .any⟩, ⟨27, 24, .rw, 0, .cwb, .any⟩, ⟨23, 23, .rw, 0, .cwb, .any⟩, ⟨22, 14, .rw, 0, .cwb, .any⟩, ⟨12, 0, .rw, 0, .cwb, .any⟩]⟩]

/-- CPH[d] flow, R258 (11_cipher.md). -/
def regsFlow : List RegDesc :=
  [⟨0, [⟨31, 31, .rw, 0, .cwb, .any⟩, ⟨30, 30, .rw, 0, .cwb, .any⟩, ⟨29, 29, .rw, 0, .cwb, .any⟩, ⟨28, 28, .rw, 0, .cwb, .any⟩, ⟨27, 27, .rw, 0, .cwb, .any⟩, ⟨26, 26, .ro, 0, .cw, .any⟩, ⟨25, 25, .ro, 0, .cw, .any⟩, ⟨24, 23, .ro, 0, .cw, .any⟩, ⟨22, 17, .rw, 0, .cwb, .range 0 47 1⟩, ⟨15, 0, .rw, 0, .cwb, .any⟩]⟩,
   ⟨1, [⟨31, 28, .rw, 0, .cwb, .any⟩, ⟨27, 24, .ro, 0, .cw, .any⟩, ⟨23, 12, .rw, 0, .cwb, .any⟩]⟩,
   ⟨2, [⟨31, 0, .ro, 0, .cw, .any⟩]⟩,
   ⟨3, [⟨31, 0, .ro, 0, .cw, .any⟩]⟩,
   ⟨4, [⟨15, 8, .ro, 0, .cw, .any⟩, ⟨7, 0, .ro, 0, .cw, .any⟩]⟩,
   ⟨5, [⟨31, 0, .rc, 0, .cwb, .any⟩]⟩,
   ⟨6, [⟨31, 0, .ro, 0, .cwb, .any⟩]⟩,
   ⟨7, [⟨31, 0, .ro, 0, .cwb, .any⟩]⟩,
   ⟨8, [⟨31, 0, .ro, 0, .cwb, .any⟩]⟩,
   ⟨9, [⟨31, 30, .ro, 0, .cwb, .any⟩, ⟨29, 29, .ro, 0, .cwb, .any⟩, ⟨28, 28, .ro, 0, .cwb, .any⟩, ⟨13, 0, .ro, 0, .cwb, .any⟩]⟩]

/-- NET[n], R283 (12_network_timing.md). -/
def regsNet : List RegDesc :=
  [⟨0, [⟨31, 31, .rw, 0, .cwb, .any⟩, ⟨30, 28, .rw, 0, .cwb, .range 1 4 1⟩, ⟨27, 26, .rw, 0, .cwb, .range 0 2 1⟩, ⟨25, 24, .rw, 0, .cwb, .any⟩, ⟨23, 23, .rw, 1, .cwb, .any⟩, ⟨22, 22, .rw, 1, .cwb, .any⟩, ⟨21, 21, .rw, 0, .cwb, .any⟩, ⟨20, 14, .rw, 10, .cwb, .range 1 127 1⟩, ⟨13, 0, .rw, 9600, .cwb, .range 64 16383 1⟩]⟩,
   ⟨1, [⟨11, 4, .rw, 16, .cwb, .range 1 255 1⟩, ⟨2, 0, .rw, 6, .cwb, .any⟩]⟩,
   ⟨2, [⟨31, 31, .rw, 1, .cwb, .any⟩, ⟨30, 15, .rw, 8192, .cwb, .any⟩, ⟨14, 0, .rw, 4096, .cwb, .any⟩]⟩,
   ⟨3, [⟨31, 31, .rw, 1, .cwb, .any⟩, ⟨30, 30, .rw, 0, .cwb, .any⟩, ⟨29, 29, .rw, 0, .cwb, .any⟩, ⟨23, 16, .rw, 24, .cwb, .any⟩, ⟨15, 0, .rw, 0, .cwb, .any⟩]⟩,
   ⟨4, [⟨31, 16, .rw, 0, .cwb, .any⟩, ⟨15, 0, .rw, 0, .cwb, .any⟩]⟩,
   ⟨5, [⟨31, 31, .ro, 0, .cwb, .any⟩, ⟨30, 30, .ro, 0, .cwb, .any⟩, ⟨29, 29, .ro, 0, .cwb, .any⟩, ⟨28, 28, .ro, 0, .cwb, .any⟩, ⟨27, 25, .ro, 0, .cwb, .any⟩, ⟨24, 24, .ro, 0, .cwb, .any⟩, ⟨23, 22, .ro, 0, .cwb, .any⟩, ⟨21, 21, .ro, 0, .cwb, .any⟩, ⟨20, 16, .ro, 0, .cwb, .any⟩, ⟨15, 15, .ro, 0, .cwb, .any⟩]⟩,
   ⟨6, [⟨3, 3, .ro, 0, .cwb, .any⟩, ⟨2, 2, .ro, 0, .cwb, .any⟩, ⟨1, 1, .ro, 0, .cwb, .any⟩, ⟨0, 0, .ro, 0, .cwb, .any⟩]⟩,
   ⟨7, [⟨31, 16, .rc, 0, .cwb, .any⟩, ⟨2, 0, .rw, 0, .cwb, .range 0 3 1⟩]⟩,
   ⟨8, [⟨6, 0, .ro, 0, .cwb, .any⟩]⟩,
   ⟨9, [⟨31, 0, .ro, 0, .cwb, .any⟩]⟩,
   ⟨16, [⟨31, 0, .rc, 0, .cwb, .any⟩]⟩,
   ⟨17, [⟨31, 0, .rc, 0, .cwb, .any⟩]⟩,
   ⟨18, [⟨31, 0, .rc, 0, .cwb, .any⟩]⟩,
   ⟨19, [⟨31, 0, .rc, 0, .cwb, .any⟩]⟩,
   ⟨20, [⟨31, 0, .rc, 0, .cwb, .any⟩]⟩,
   ⟨21, [⟨31, 0, .rc, 0, .cwb, .any⟩]⟩,
   ⟨22, [⟨31, 0, .rc, 0, .cwb, .any⟩]⟩,
   ⟨23, [⟨31, 0, .rc, 0, .cwb, .any⟩]⟩,
   ⟨24, [⟨31, 0, .rc, 0, .cwb, .any⟩]⟩,
   ⟨25, [⟨31, 0, .rc, 0, .cwb, .any⟩]⟩,
   ⟨26, [⟨31, 0, .rc, 0, .cwb, .any⟩]⟩,
   ⟨27, [⟨31, 0, .rc, 0, .cwb, .any⟩]⟩]

/-- TIM, R285 (12_network_timing.md). -/
def regsTim : List RegDesc :=
  [⟨0, [⟨31, 30, .rw, 0, .cwb, .any⟩, ⟨29, 28, .rw, 0, .cwb, .any⟩, ⟨27, 27, .rw, 1, .cwb, .any⟩, ⟨26, 26, .rw, 0, .cwb, .any⟩, ⟨25, 24, .rw, 0, .cwb, .range 0 2 1⟩, ⟨23, 16, .rw, 100, .cwb, .range 1 255 1⟩, ⟨15, 14, .rw, 2, .cwb, .any⟩]⟩,
   ⟨1, [⟨31, 24, .rw, 100, .cwb, .range 1 255 1⟩, ⟨23, 16, .rw, 10, .cwb, .range 1 100 1⟩, ⟨15, 0, .rw, 1000, .cwb, .any⟩]⟩,
   ⟨2, [⟨31, 0, .rw, 10000, .cwb, .any⟩]⟩,
   ⟨3, [⟨31, 30, .ro, 0, .cwb, .any⟩, ⟨29, 28, .ro, 0, .cwb, .any⟩, ⟨27, 27, .ro, 0, .cwb, .any⟩, ⟨26, 26, .ro, 0, .cwb, .any⟩, ⟨25, 25, .ro, 0, .cwb, .any⟩, ⟨24, 24, .ro, 0, .cwb, .any⟩, ⟨23, 23, .ro, 0, .cwb, .any⟩, ⟨15, 0, .ro, 0, .cwb, .any⟩]⟩,
   ⟨4, [⟨31, 0, .ro, 0, .cwb, .any⟩]⟩,
   ⟨5, [⟨15, 0, .ro, 0, .cwb, .any⟩]⟩,
   ⟨6, [⟨29, 0, .ro, 0, .cwb, .any⟩]⟩,
   ⟨7, [⟨15, 0, .ro, 0, .cwb, .any⟩]⟩,
   ⟨8, [⟨31, 0, .rw, 0, .cwb, .any⟩]⟩,
   ⟨9, [⟨31, 0, .rw, 0, .cwb, .any⟩]⟩,
   ⟨10, [⟨31, 31, .w1s, 0, .cwb, .any⟩, ⟨30, 30, .ro, 0, .cwb, .any⟩, ⟨29, 28, .rw, 0, .cwb, .range 0 2 1⟩]⟩,
   ⟨11, [⟨31, 0, .rw, 0, .cwb, .any⟩]⟩,
   ⟨12, [⟨15, 0, .rw, 0, .cwb, .any⟩]⟩,
   ⟨13, [⟨31, 0, .ro, 0, .cwb, .any⟩]⟩,
   ⟨14, [⟨31, 0, .ro, 0, .cwb, .any⟩]⟩,
   ⟨15, [⟨31, 31, .rw, 0, .cwb, .any⟩, ⟨30, 30, .rw, 0, .cwb, .any⟩, ⟨9, 5, .rw, 0, .cwb, .any⟩, ⟨4, 0, .rw, 0, .cwb, .any⟩]⟩,
   ⟨16, [⟨31, 0, .ro, 0, .cwb, .any⟩]⟩,
   ⟨17, [⟨31, 0, .ro, 0, .cwb, .any⟩]⟩,
   ⟨18, [⟨31, 0, .ro, 0, .cwb, .any⟩]⟩,
   ⟨24, [⟨31, 0, .rc, 0, .cwb, .any⟩]⟩,
   ⟨25, [⟨31, 0, .rc, 0, .cwb, .any⟩]⟩,
   ⟨26, [⟨31, 0, .rc, 0, .cwb, .any⟩]⟩,
   ⟨27, [⟨31, 0, .rc, 0, .cwb, .any⟩]⟩,
   ⟨28, [⟨31, 0, .rc, 0, .cwb, .any⟩]⟩] ++
  [⟨29, [⟨31, 0, .rc, 0, .cwb, .any⟩]⟩,
   ⟨30, [⟨31, 0, .rc, 0, .cwb, .any⟩]⟩]

/-- PAR, R318 (13_pair_system.md). -/
def regsPar : List RegDesc :=
  [⟨0, [⟨31, 31, .rw, 0, .c, .any⟩, ⟨30, 30, .rw, 0, .c, .any⟩, ⟨29, 28, .rw, 1, .c, .range 0 2 1⟩, ⟨27, 20, .rw, 128, .c, .range 1 255 1⟩, ⟨19, 14, .rw, 2, .c, .range 1 48 1⟩, ⟨11, 0, .rw, 600, .c, .any⟩]⟩,
   ⟨1, [⟨31, 24, .rw, 8, .c, .range 8 255 1⟩, ⟨23, 16, .rw, 60, .c, .range 10 255 1⟩, ⟨15, 0, .rw, 8000, .c, .range 1000 65535 1⟩]⟩,
   ⟨2, [⟨31, 31, .w1s, 0, .c, .any⟩, ⟨30, 30, .ro, 0, .c, .any⟩, ⟨29, 27, .ro, 0, .c, .any⟩, ⟨25, 24, .rw, 0, .c, .any⟩]⟩,
   ⟨3, [⟨31, 29, .ro, 0, .c, .any⟩, ⟨28, 26, .ro, 0, .c, .any⟩, ⟨25, 25, .ro, 0, .c, .any⟩, ⟨24, 24, .ro, 0, .c, .any⟩, ⟨23, 23, .ro, 0, .c, .any⟩, ⟨22, 22, .ro, 0, .c, .any⟩, ⟨21, 21, .ro, 0, .c, .any⟩, ⟨20, 20, .ro, 0, .c, .any⟩, ⟨19, 19, .ro, 0, .c, .any⟩, ⟨15, 0, .ro, 0, .c, .any⟩]⟩,
   ⟨4, [⟨31, 0, .ro, 0, .c, .any⟩]⟩,
   ⟨5, [⟨31, 24, .ro, 0, .c, .any⟩, ⟨23, 16, .ro, 0, .c, .any⟩]⟩,
   ⟨6, [⟨8, 0, .ro, 0, .c, .any⟩]⟩,
   ⟨7, [⟨8, 0, .rw, 511, .c, .any⟩]⟩,
   ⟨8, [⟨31, 31, .rw, 1, .c, .any⟩, ⟨5, 0, .rw, 0, .c, .range 0 47 1⟩]⟩,
   ⟨9, [⟨31, 31, .ro, 0, .c, .any⟩, ⟨25, 0, .ro, 0, .c, .any⟩]⟩,
   ⟨10, [⟨15, 0, .rw, 0, .c, .any⟩]⟩,
   ⟨11, [⟨25, 16, .ro, 0, .c, .any⟩, ⟨9, 0, .rw, 0, .c, .any⟩]⟩,
   ⟨16, [⟨31, 0, .rc, 0, .c, .any⟩]⟩,
   ⟨17, [⟨31, 0, .rc, 0, .c, .any⟩]⟩,
   ⟨18, [⟨31, 0, .rc, 0, .c, .any⟩]⟩,
   ⟨19, [⟨31, 0, .rc, 0, .c, .any⟩]⟩,
   ⟨20, [⟨31, 0, .rc, 0, .c, .any⟩]⟩,
   ⟨21, [⟨31, 0, .rc, 0, .c, .any⟩]⟩,
   ⟨22, [⟨31, 0, .rc, 0, .c, .any⟩]⟩,
   ⟨23, [⟨31, 0, .rc, 0, .c, .any⟩]⟩]

/-- SYS, R319 (13_pair_system.md). -/
def regsSys : List RegDesc :=
  [⟨0, [⟨31, 31, .rw, 0, .cwb, .any⟩, ⟨30, 30, .rw, 1, .cwb, .any⟩, ⟨29, 27, .rw, 7, .cwb, .any⟩, ⟨23, 12, .rw, 0, .cwb, .range 1 4094 1⟩, ⟨11, 8, .rw, 3, .cwb, .range 2 15 1⟩, ⟨7, 0, .rw, 10, .cwb, .range 1 255 1⟩]⟩,
   ⟨1, [⟨31, 31, .ro, 0, .cwb, .any⟩, ⟨25, 16, .ro, 0, .cwb, .any⟩]⟩,
   ⟨2, [⟨31, 0, .rw, 0, .cwb, .any⟩]⟩,
   ⟨3, [⟨15, 0, .rw, 1000, .cwb, .range 1 10000 1⟩]⟩,
   ⟨4, [⟨15, 0, .rw, 0, .cwb, .any⟩]⟩,
   ⟨5, [⟨31, 0, .rw, 0, .cwb, .any⟩]⟩,
   ⟨6, [⟨15, 0, .rw, 0, .cwb, .any⟩]⟩,
   ⟨7, [⟨31, 0, .rw, 0, .cwb, .any⟩]⟩,
   ⟨8, [⟨31, 31, .rw, 1, .cwb, .any⟩, ⟨1, 0, .rw, 0, .cwb, .any⟩]⟩,
   ⟨9, [⟨31, 0, .wo, 0, .cwb, .any⟩]⟩,
   ⟨10, [⟨31, 31, .rw, 1, .cwb, .any⟩, ⟨11, 2, .rw, 0, .cwb, .any⟩, ⟨1, 0, .rw, 0, .cwb, .range 0 2 1⟩]⟩,
   ⟨11, [⟨31, 0, .rw, 0, .cwb, .any⟩]⟩,
   ⟨16, [⟨31, 0, .rc, 0, .cwb, .any⟩]⟩,
   ⟨17, [⟨31, 0, .rc, 0, .cwb, .any⟩]⟩,
   ⟨18, [⟨31, 0, .rc, 0, .cwb, .any⟩]⟩,
   ⟨19, [⟨31, 0, .rc, 0, .cwb, .any⟩]⟩,
   ⟨20, [⟨31, 0, .rc, 0, .cwb, .any⟩]⟩,
   ⟨21, [⟨31, 0, .rc, 0, .cwb, .any⟩]⟩,
   ⟨22, [⟨31, 0, .rc, 0, .cwb, .any⟩]⟩,
   ⟨23, [⟨31, 0, .rc, 0, .cwb, .any⟩]⟩]

/-- SYS peer, R319 (13_pair_system.md). -/
def regsPeer : List RegDesc :=
  [⟨0, [⟨31, 31, .ro, 0, .cwb, .any⟩, ⟨30, 28, .ro, 0, .cwb, .any⟩, ⟨27, 18, .ro, 0, .cwb, .any⟩, ⟨17, 10, .ro, 0, .cwb, .any⟩, ⟨9, 9, .ro, 0, .cwb, .any⟩]⟩,
   ⟨1, [⟨31, 0, .ro, 0, .cwb, .any⟩]⟩,
   ⟨2, [⟨15, 0, .ro, 0, .cwb, .any⟩]⟩]

/-- RST, R340 (14_reset_clocks.md). -/
def regsRst : List RegDesc :=
  [⟨0, [⟨15, 8, .rw, 8, .c, .range 1 255 1⟩, ⟨7, 0, .rw, 10, .c, .range 1 255 1⟩]⟩,
   ⟨1, [⟨31, 31, .w1s, 0, .c, .any⟩, ⟨30, 30, .ro, 0, .c, .any⟩, ⟨29, 28, .ro, 0, .c, .any⟩, ⟨25, 24, .rw, 0, .c, .any⟩, ⟨7, 0, .rw, 0, .c, .range 0 225 1⟩]⟩,
   ⟨2, [⟨31, 29, .ro, 0, .c, .any⟩, ⟨28, 26, .ro, 0, .c, .any⟩, ⟨25, 25, .ro, 0, .c, .any⟩, ⟨24, 24, .ro, 0, .c, .any⟩, ⟨15, 8, .ro, 0, .c, .any⟩]⟩,
   ⟨4, [⟨31, 31, .rw, 1, .c, .any⟩, ⟨7, 0, .rw, 0, .c, .range 0 225 1⟩]⟩,
   ⟨5, [⟨31, 31, .ro, 0, .c, .any⟩, ⟨30, 30, .ro, 0, .c, .any⟩, ⟨29, 29, .ro, 0, .c, .any⟩, ⟨28, 26, .ro, 0, .c, .any⟩, ⟨15, 8, .ro, 0, .c, .any⟩]⟩,
   ⟨6, [⟨31, 31, .rw, 1, .c, .any⟩, ⟨9, 0, .rw, 0, .c, .any⟩]⟩,
   ⟨7, [⟨8, 6, .ro, 0, .c, .any⟩, ⟨5, 3, .ro, 0, .c, .any⟩, ⟨2, 1, .ro, 0, .c, .any⟩]⟩,
   ⟨8, [⟨31, 31, .rw, 0, .c, .any⟩, ⟨2, 0, .rw, 0, .c, .range 0 4 1⟩]⟩,
   ⟨16, [⟨31, 0, .rc, 0, .c, .any⟩]⟩,
   ⟨17, [⟨31, 0, .rc, 0, .c, .any⟩]⟩,
   ⟨18, [⟨31, 0, .rc, 0, .c, .any⟩]⟩,
   ⟨19, [⟨31, 0, .rc, 0, .c, .any⟩]⟩,
   ⟨20, [⟨31, 0, .rc, 0, .c, .any⟩]⟩]

/-- CLK, R340 (14_reset_clocks.md). -/
def regsClk : List RegDesc :=
  [⟨0, [⟨31, 31, .rw, 1, .c, .any⟩, ⟨7, 0, .rw, 0, .c, .range 0 225 1⟩]⟩,
   ⟨1, [⟨31, 31, .ro, 0, .c, .any⟩, ⟨30, 30, .ro, 0, .c, .any⟩, ⟨15, 0, .ro, 0, .c, .any⟩]⟩,
   ⟨2, [⟨31, 0, .rc, 0, .c, .any⟩]⟩]

/-- NVM, R363 (15_nvm_otp.md). -/
def regsNvm : List RegDesc :=
  [⟨0, [⟨1, 0, .rw, 0, .c, .range 0 2 1⟩]⟩,
   ⟨1, [⟨31, 29, .ro, 0, .cwb, .any⟩, ⟨28, 28, .ro, 0, .cwb, .any⟩, ⟨27, 27, .ro, 0, .cwb, .any⟩, ⟨23, 20, .ro, 0, .cwb, .any⟩, ⟨19, 16, .ro, 0, .cwb, .any⟩, ⟨8, 0, .ro, 0, .cwb, .any⟩]⟩,
   ⟨2, [⟨31, 0, .ro, 0, .cwb, .any⟩]⟩,
   ⟨3, [⟨31, 31, .w1s, 0, .cwb, .any⟩, ⟨30, 30, .ro, 0, .cwb, .any⟩, ⟨29, 27, .ro, 0, .cwb, .any⟩, ⟨26, 24, .rw, 0, .cwb, .range 0 4 1⟩, ⟨16, 16, .rw, 0, .cwb, .any⟩, ⟨8, 0, .rw, 0, .cwb, .range 1 256 1⟩]⟩,
   ⟨4, [⟨31, 0, .rw, 0, .cwb, .any⟩]⟩,
   ⟨5, [⟨31, 31, .rw, 1, .cwb, .any⟩, ⟨7, 0, .rw, 0, .cwb, .any⟩]⟩,
   ⟨6, [⟨31, 0, .rw, 0, .cwb, .any⟩]⟩,
   ⟨16, [⟨31, 0, .rc, 0, .cwb, .any⟩]⟩,
   ⟨17, [⟨31, 0, .rc, 0, .cwb, .any⟩]⟩,
   ⟨18, [⟨31, 0, .rc, 0, .cwb, .any⟩]⟩,
   ⟨19, [⟨31, 0, .rc, 0, .cwb, .any⟩]⟩]

/-- OTP, R363 (15_nvm_otp.md). -/
def regsOtp : List RegDesc :=
  [⟨0, [⟨31, 30, .ro, 0, .cwb, .any⟩, ⟨29, 29, .ro, 0, .cwb, .any⟩, ⟨28, 28, .ro, 0, .cwb, .any⟩, ⟨27, 24, .ro, 0, .cwb, .any⟩, ⟨23, 23, .ro, 0, .cwb, .any⟩, ⟨22, 20, .ro, 0, .cwb, .any⟩, ⟨19, 17, .ro, 0, .cwb, .any⟩, ⟨16, 16, .ro, 0, .cwb, .any⟩, ⟨8, 0, .ro, 0, .cwb, .any⟩]⟩,
   ⟨1, [⟨31, 0, .ro, 0, .cwb, .any⟩]⟩,
   ⟨2, [⟨31, 0, .ro, 0, .cwb, .any⟩]⟩,
   ⟨3, [⟨31, 31, .rw, 1, .cwb, .any⟩, ⟨8, 0, .rw, 0, .cwb, .any⟩]⟩,
   ⟨4, [⟨31, 0, .ro, 0, .cwb, .any⟩]⟩,
   ⟨5, [⟨31, 31, .w1s, 0, .cwb, .any⟩, ⟨30, 30, .ro, 0, .cwb, .any⟩, ⟨29, 27, .ro, 0, .cwb, .any⟩, ⟨26, 24, .rw, 0, .cwb, .range 0 4 1⟩, ⟨9, 0, .rw, 0, .cwb, .any⟩]⟩,
   ⟨6, [⟨31, 31, .rw, 1, .cwb, .any⟩, ⟨4, 0, .rw, 0, .cwb, .any⟩]⟩,
   ⟨7, [⟨31, 0, .wo, 0, .cwb, .any⟩]⟩]

/-- CMD, R390 (16_command_interface.md). -/
def regsCmd : List RegDesc :=
  [⟨0, [⟨31, 24, .rw, 10, .cwb, .range 1 255 1⟩, ⟨23, 16, .rw, 10, .cwb, .range 1 255 1⟩, ⟨15, 8, .rw, 10, .cwb, .range 1 255 1⟩, ⟨0, 0, .rw, 1, .cwb, .any⟩]⟩,
   ⟨1, [⟨31, 29, .ro, 0, .cwb, .any⟩, ⟨28, 28, .ro, 0, .cwb, .any⟩, ⟨27, 27, .ro, 0, .cwb, .any⟩, ⟨26, 24, .ro, 0, .cwb, .any⟩, ⟨7, 0, .ro, 0, .cwb, .any⟩]⟩,
   ⟨2, [⟨31, 31, .rw, 1, .cwb, .any⟩, ⟨23, 0, .rw, 0, .cwb, .range 0 16777215 4⟩]⟩,
   ⟨3, [⟨31, 0, .rw, 0, .cwb, .any⟩]⟩,
   ⟨4, [⟨31, 31, .w1c, 0, .cwb, .any⟩, ⟨30, 30, .w1c, 0, .cwb, .any⟩]⟩,
   ⟨128, [⟨31, 0, .rc, 0, .cwb, .any⟩]⟩,
   ⟨129, [⟨31, 0, .rc, 0, .cwb, .any⟩]⟩,
   ⟨130, [⟨31, 0, .rc, 0, .cwb, .any⟩]⟩,
   ⟨131, [⟨31, 0, .rc, 0, .cwb, .any⟩]⟩,
   ⟨132, [⟨31, 0, .rc, 0, .cwb, .any⟩]⟩,
   ⟨133, [⟨31, 0, .rc, 0, .cwb, .any⟩]⟩,
   ⟨134, [⟨31, 0, .rc, 0, .cwb, .any⟩]⟩,
   ⟨135, [⟨31, 0, .rc, 0, .cwb, .any⟩]⟩,
   ⟨138, [⟨31, 0, .rc, 0, .cwb, .any⟩]⟩,
   ⟨139, [⟨31, 0, .rc, 0, .cwb, .any⟩]⟩]

/-- CMD ring counters, R391 (16_command_interface.md). -/
def regsRingc : List RegDesc :=
  [⟨136, [⟨31, 0, .rc, 0, .cwb, .any⟩]⟩,
   ⟨137, [⟨31, 0, .rc, 0, .cwb, .any⟩]⟩]

/-- CMD session, R390 (16_command_interface.md). -/
def regsSess : List RegDesc :=
  [⟨0, [⟨31, 31, .rw, 0, .cwb, .any⟩, ⟨4, 4, .rw, 0, .cwb, .any⟩, ⟨3, 3, .rw, 0, .cwb, .any⟩, ⟨2, 2, .rw, 0, .cwb, .any⟩, ⟨1, 1, .rw, 0, .cwb, .any⟩]⟩,
   ⟨1, [⟨31, 12, .rw, 0, .cwb, .any⟩]⟩,
   ⟨2, [⟨31, 0, .rw, 0, .cwb, .any⟩]⟩,
   ⟨3, [⟨4, 0, .rw, 16, .cwb, .range 16 24 1⟩]⟩,
   ⟨4, [⟨23, 0, .rw, 0, .cwb, .range 0 16777215 64⟩]⟩,
   ⟨5, [⟨31, 31, .ro, 0, .cwb, .any⟩, ⟨23, 0, .ro, 0, .cwb, .any⟩]⟩,
   ⟨6, [⟨31, 0, .ro, 0, .cwb, .any⟩]⟩,
   ⟨7, [⟨31, 30, .ro, 0, .cwb, .any⟩, ⟨16, 0, .ro, 0, .cwb, .any⟩]⟩]

/-- EVT, R406 (17_events_counters.md). -/
def regsEvt : List RegDesc :=
  [⟨0, [⟨31, 31, .rw, 1, .cwb, .any⟩, ⟨9, 8, .rw, 0, .cwb, .any⟩, ⟨7, 0, .rw, 10, .cwb, .range 1 255 1⟩]⟩,
   ⟨1, [⟨1, 0, .ro, 0, .cwb, .any⟩]⟩,
   ⟨4, [⟨31, 0, .ro, 0, .cwb, .any⟩]⟩,
   ⟨5, [⟨31, 0, .ro, 0, .cwb, .any⟩]⟩,
   ⟨6, [⟨31, 0, .ro, 0, .cwb, .any⟩]⟩,
   ⟨7, [⟨31, 0, .ro, 0, .cwb, .any⟩]⟩,
   ⟨8, [⟨31, 0, .ro, 0, .cwb, .any⟩]⟩,
   ⟨9, [⟨31, 0, .ro, 0, .cwb, .any⟩]⟩,
   ⟨10, [⟨31, 0, .ro, 0, .cwb, .any⟩]⟩,
   ⟨11, [⟨31, 0, .ro, 0, .cwb, .any⟩]⟩,
   ⟨16, [⟨31, 0, .rc, 0, .cwb, .any⟩]⟩,
   ⟨17, [⟨31, 0, .rc, 0, .cwb, .any⟩]⟩,
   ⟨18, [⟨31, 0, .rc, 0, .cwb, .any⟩]⟩,
   ⟨19, [⟨31, 0, .rc, 0, .cwb, .any⟩]⟩]

/-- EVT SRC[i], R406 (17_events_counters.md). -/
def regsSrc : List RegDesc :=
  [⟨0, [⟨31, 0, .w1c, 0, .cwb, .any⟩]⟩,
   ⟨1, [⟨31, 0, .rw, 0, .cwb, .any⟩]⟩,
   ⟨2, [⟨31, 0, .rw, 4294967295, .cwb, .any⟩]⟩,
   ⟨3, [⟨31, 31, .rw, 1, .cwb, .any⟩, ⟨30, 30, .rw, 0, .cwb, .any⟩, ⟨29, 28, .rw, 0, .cwb, .any⟩, ⟨23, 8, .rw, 0, .cwb, .any⟩, ⟨7, 0, .rw, 0, .cwb, .any⟩]⟩,
   ⟨4, [⟨31, 31, .ro, 0, .cwb, .any⟩, ⟨30, 30, .ro, 0, .cwb, .any⟩, ⟨29, 29, .w1s, 0, .cwb, .any⟩, ⟨15, 0, .ro, 0, .cwb, .any⟩]⟩,
   ⟨5, [⟨15, 0, .ro, 0, .cwb, .any⟩]⟩,
   ⟨6, [⟨31, 27, .ro, 0, .cwb, .any⟩, ⟨25, 0, .ro, 0, .cwb, .any⟩]⟩,
   ⟨7, [⟨29, 0, .ro, 0, .cwb, .any⟩]⟩,
   ⟨8, [⟨31, 0, .ro, 0, .cwb, .any⟩]⟩,
   ⟨9, [⟨31, 0, .ro, 0, .cwb, .any⟩]⟩,
   ⟨10, [⟨31, 0, .ro, 0, .cwb, .any⟩]⟩,
   ⟨11, [⟨31, 27, .ro, 0, .cwb, .any⟩, ⟨25, 0, .ro, 0, .cwb, .any⟩]⟩,
   ⟨12, [⟨29, 0, .ro, 0, .cwb, .any⟩]⟩,
   ⟨13, [⟨31, 0, .ro, 0, .cwb, .any⟩]⟩,
   ⟨14, [⟨31, 0, .ro, 0, .cwb, .any⟩]⟩,
   ⟨15, [⟨31, 0, .ro, 0, .cwb, .any⟩]⟩]

/-- PMU, R407 (17_events_counters.md). -/
def regsPmu : List RegDesc :=
  [⟨0, [⟨31, 31, .w1s, 0, .cwb, .any⟩, ⟨30, 30, .rw, 0, .cwb, .any⟩]⟩]

/-- PMU counter, R407 (17_events_counters.md). -/
def regsPmuC : List RegDesc :=
  [⟨0, [⟨31, 31, .rw, 0, .cwb, .any⟩, ⟨30, 30, .rw, 0, .cwb, .any⟩, ⟨29, 29, .rw, 0, .cwb, .any⟩, ⟨23, 16, .rw, 0, .cwb, .range 0 10 1⟩, ⟨15, 12, .rw, 0, .cwb, .any⟩]⟩,
   ⟨1, [⟨31, 0, .rw, 0, .cwb, .any⟩]⟩,
   ⟨2, [⟨19, 0, .rw, 1000, .cwb, .range 1 1000000 1⟩]⟩,
   ⟨3, [⟨31, 0, .rw, 4294967295, .cwb, .any⟩]⟩,
   ⟨4, [⟨31, 0, .rw, 0, .cwb, .any⟩]⟩,
   ⟨5, [⟨31, 0, .rw, 0, .cwb, .any⟩]⟩,
   ⟨6, [⟨15, 0, .rw, 0, .cwb, .any⟩]⟩,
   ⟨7, [⟨31, 0, .rc, 0, .cwb, .any⟩]⟩]

/-- The registers of a space; a space that is plain RAM has none of its own field tables. -/
def regsOf : Sp → List RegDesc
  | .preset => regsPreset
  | .tln => regsTln
  | .tfr => regsTfr
  | .tfrT => regsTfrT
  | .pool => regsPool
  | .dec => regsDec
  | .enc => regsEnc
  | .act => regsAct
  | .actT => regsActT
  | .brood => regsBrood
  | .grt => regsGrt
  | .cell => regsCell
  | .ctx => regsCtx
  | .prof => regsProf
  | .gsq => regsGsq
  | .imem => []
  | .dmem => []
  | .crl => regsCrl
  | .ohp => regsOhp
  | .chan => []
  | .lane => regsLane
  | .hdr => []
  | .cls => regsCls
  | .emD => []
  | .cAction => regsCAction
  | .cPort => regsCPort
  | .cVid => regsCVid
  | .cDomain => regsCDomain
  | .cGroup => regsCGroup
  | .cMember => regsCMember
  | .cMeter => regsCMeter
  | .cLimit => regsCLimit
  | .lpm => regsLpm
  | .lpmD => regsLpmD
  | .bpm => regsBpm
  | .quota => regsQuota
  | .tmd => regsTmd
  | .tmu => regsTmu
  | .tmuPort => regsTmuPort
  | .node => regsNode
  | .nodeC => regsNodeC
  | .gcl => regsGcl
  | .cph => regsCph
  | .cphPort => regsCphPort
  | .flow => regsFlow
  | .net => regsNet
  | .tim => regsTim
  | .par => regsPar
  | .sys => regsSys
  | .peer => regsPeer
  | .rst => regsRst
  | .clk => regsClk
  | .nvm => regsNvm
  | .nvmBuf => []
  | .flash => []
  | .otp => regsOtp
  | .otpP => []
  | .otpFuse => []
  | .otpSh => []
  | .cmd => regsCmd
  | .ringc => regsRingc
  | .sess => regsSess
  | .evt => regsEvt
  | .src => regsSrc
  | .pmu => regsPmu
  | .pmuC => regsPmuC

end Sys2Proof.Machine
end

