-- ==== Sys2Proof/Machine/Store.lean ====
section
/-!
DEFINITION. The sparse stores. A store is a list of key and value pairs in one canonical form: keys strictly rising and
no entry equal to what an unlisted key reads as. A word an unlisted key reads as is the reset value of its fields
(R8); a table of structures reads as the given default.
-/

namespace Sys2Proof.Machine

/-! The generic association list. -/

/-- Read a key; an unlisted key reads as `d`. -/
def Assoc.get {κ α : Type} [DecidableEq κ] (d : κ → α) : List (κ × α) → κ → α
  | [], k => d k
  | (k', v) :: m, k => if k' = k then v else Assoc.get d m k

/-- Put an entry in front of the first entry whose key is larger. -/
def Assoc.insert {κ α : Type} (lt : κ → κ → Bool) (k : κ) (v : α) : List (κ × α) → List (κ × α)
  | [] => [(k, v)]
  | (k', v') :: m => if lt k k' then (k, v) :: (k', v') :: m else (k', v') :: Assoc.insert lt k v m

/-- Remove every entry of a key. -/
def Assoc.erase {κ α : Type} [DecidableEq κ] (k : κ) : List (κ × α) → List (κ × α)
  | [] => []
  | (k', v) :: m => if k' = k then Assoc.erase k m else (k', v) :: Assoc.erase k m

/-- Write a key. Writing what an unlisted key reads as removes the entry. -/
def Assoc.set {κ α : Type} [DecidableEq κ] [DecidableEq α] (lt : κ → κ → Bool) (d : κ → α)
    (m : List (κ × α)) (k : κ) (v : α) : List (κ × α) :=
  if v = d k then Assoc.erase k m else Assoc.insert lt k v (Assoc.erase k m)

/-- The keys strictly rise from a bound on. -/
def Assoc.risesFrom {κ α : Type} (lt : κ → κ → Bool) (b : κ) : List (κ × α) → Bool
  | [] => true
  | (k, _) :: m => lt b k && Assoc.risesFrom lt k m

/-- The keys strictly rise. -/
def Assoc.rises {κ α : Type} (lt : κ → κ → Bool) : List (κ × α) → Bool
  | [] => true
  | (k, _) :: m => Assoc.risesFrom lt k m

/-- The canonical form: keys strictly rising, no entry equal to what an unlisted key reads as. -/
def Assoc.wf {κ α : Type} [DecidableEq α] (lt : κ → κ → Bool) (d : κ → α) (m : List (κ × α)) : Bool :=
  Assoc.rises lt m && m.all (fun e => decide (e.2 ≠ d e.1))

/-! Words. -/

/-- The order of keys: space, instance, index, word. -/
def Key.lt (a b : Key) : Bool :=
  decide (a.sp.ctorIdx < b.sp.ctorIdx ∨
    (a.sp.ctorIdx = b.sp.ctorIdx ∧ (a.inst < b.inst ∨
      (a.inst = b.inst ∧ (a.idx < b.idx ∨ (a.idx = b.idx ∧ a.word < b.word))))))

/-- The register description of a word of a space. -/
def regDesc (sp : Sp) (w : Nat) : Option RegDesc := (regsOf sp).find? (fun r => r.word == w)

/-- The reset word of a list of fields (R8). -/
def fieldsReset (fs : List FieldDesc) : Nat := fs.foldl (fun a f => a + f.reset * 2 ^ f.lo) 0

/-- The fuse code the factory gives a pin (R422). -/
def factoryCode (p : Nat) : Nat :=
  if p < 192 then [2, 3, 1, 4].getD (p % 4) 0
  else if p < 224 then [1, 1, 2, 4].getD (p % 4) 0
  else if 233 ≤ p ∧ p ≤ 240 then 3
  else [3, 1, 4, 0, 0, 1, 2, 2, 3].getD (p - 224) (if p = 243 then 3 else 0)

/-- Pin p has its code in fuse word 36 + p / 10, bits 3 (p mod 10) + 2 to 3 (p mod 10) (R347). -/
def factoryPins (w : Nat) : Nat := (List.range 10).foldr (fun j a => factoryCode (10 * (w - 36) + j) + 8 * a) 0

/-- What a word reads as at reset: its fields' reset values; an erased flash word all ones; a fuse word its factory code; a
word of any other plain RAM 0 (log entry 4). -/
def Key.reset (k : Key) : Word :=
  match regDesc k.sp k.word with
  | some r => BitVec.ofNat 32 (fieldsReset r.fields)
  | none =>
    if k.sp = .flash then 0xFFFFFFFF
    else if k.sp = .otpFuse ∧ 36 ≤ k.idx ∧ k.idx ≤ 137 then BitVec.ofNat 32 (factoryPins k.idx)
    else 0

/-- A store of words. -/
abbrev Store := List (Key × Word)

def Store.get (m : Store) (k : Key) : Word := Assoc.get Key.reset m k
def Store.set (m : Store) (k : Key) (v : Word) : Store := Assoc.set Key.lt Key.reset m k v
def Store.wf (m : Store) : Bool := Assoc.wf Key.lt Key.reset m

/-! Tables of structures, keyed by a number. -/

abbrev Tbl (α : Type) := List (Nat × α)

def Tbl.lt (a b : Nat) : Bool := decide (a < b)
def Tbl.get {α : Type} (d : α) (t : Tbl α) (k : Nat) : α := Assoc.get (fun _ => d) t k
def Tbl.set {α : Type} [DecidableEq α] (d : α) (t : Tbl α) (k : Nat) (v : α) : Tbl α :=
  Assoc.set Tbl.lt (fun _ => d) t k v

/-! Bit fields of a word. -/

/-- Bits hi down to lo of a word, as a number. -/
def bitsOf (w : Word) (hi lo : Nat) : Nat := w.toNat / 2 ^ lo % 2 ^ (hi + 1 - lo)

/-- A word with bits hi down to lo replaced by the low bits of v. -/
def setBitsOf (w : Word) (hi lo v : Nat) : Word :=
  BitVec.ofNat 32 (w.toNat / 2 ^ (hi + 1) * 2 ^ (hi + 1) + v % 2 ^ (hi + 1 - lo) * 2 ^ lo + w.toNat % 2 ^ lo)

/-- A two's complement number of n bits. -/
def signed (n v : Nat) : Int := if v % 2 ^ n < 2 ^ (n - 1) then (v % 2 ^ n : Nat) else (v % 2 ^ n : Nat) - (2 ^ n : Nat)

/-- An integer as n bits of two's complement. -/
def unsigned (n : Nat) (v : Int) : Nat := (v % (2 ^ n : Nat)).toNat

end Sys2Proof.Machine
end

