-- ==== Sys2Proof/Machine/Blocks.lean ====
section
/-!
DEFINITION. The state of the blocks beside their registers: what the chapters name or imply and no register holds.
Every structure is plain data; its default is the state at reset (log entry 4 where the spec states no value).
-/

namespace Sys2Proof.Machine

/-! Reset, clock islands and pins (14_reset_clocks.md). -/

/-- One clock island as the reset controller sees it (R324 to R332). -/
structure Island where
  /-- released from reset: the wrapper is open (R324, R333) -/
  up : Bool := false
  clkGood : Bool := false
  pllLock : Bool := false
  held : Bool := false
  /-- times (ns) of the relapses of the last 10 s (R332) -/
  relapses : List Nat := []
  /-- its image records have been applied: pins are configured (R336, R356) -/
  configured : Bool := false
  /-- last 16 µs window against REFCLK, 0.1 ppm, two's complement; 0x8000 without REFCLK (R340) -/
  freqErr : Nat := 0x8000
  /-- in a block reset (R331), so that its release raises cause 3 and replays its run (R357) -/
  blockReset : Bool := false
  deriving DecidableEq, Repr

/-- The reset controller (R322 to R338). -/
structure RstCtl where
  /-- STS.LAST_CLASS (R340) -/
  lastClass : Nat := 0
  /-- phase 0 to 4 being released; 7 all released (R340) -/
  phase : Nat := 0
  /-- instant (ns) the STALL_MS of the phase in progress ends; none while suspended (R329) -/
  stallAt : Option Nat := none
  /-- this release is a power-on, so phase 0 waits for the fuse map and VDD_CORE (R329) -/
  powerOn : Bool := true
  /-- this release is cold (R342) -/
  cold : Bool := true
  /-- since when (ns) the release has waited for REFCLK (R328) -/
  refclkFrom : Option Nat := none
  /-- the fuse-map latch of the I/O ring holds codes (R336) -/
  fuseValid : Bool := false
  /-- the latched codes of pins whose code is not 0 (R335) -/
  fuse : Tbl Nat := []
  /-- overrides in force, pin to code + 1 (R338) -/
  overrides : Tbl Nat := []
  /-- sentinel feeds up (R309) -/
  feedA : Bool := false
  feedB : Bool := false
  /-- VDD_CORE up; it has once been within limits since power-on (R309, R420) -/
  coreGood : Bool := false
  coreEver : Bool := false
  /-- VDD_CORE outside its R419 band (check of R299) -/
  coreOutOfBand : Bool := false
  /-- VDD_IO18 within its band (R336) -/
  io18 : Bool := true
  /-- THERMTRIP_N driven low (R429) -/
  thermTrip : Bool := false
  /-- a die sensor at the warning, over the limit, under the limit; sensors ignored since a fault (R428) -/
  warnTemp : Bool := false
  overTemp : Bool := false
  underTemp : Bool := false
  badSensors : List Nat := []
  /-- the timing island has been LOCKED with FR_ALIGNED since the last cold or sentinel reset (R255) -/
  aligned : Bool := false
  /-- REFCLK present and within limits as the sentinel sees it (R328) -/
  refclk : Bool := true
  /-- a block reset that starts once the response of the access that asked for it has left (R331) -/
  blockDue : Option Nat := none
  deriving DecidableEq, Repr

/-! Events and performance counters (17_events_counters.md). -/

/-- What a source holds beside its registers (R395). -/
structure SrcX where
  /-- mask of enabled causes raised since the last delivery -/
  since : Nat := 0
  /-- end (ns) of the holdoff after the last delivery -/
  holdEnd : Option Nat := none
  deriving DecidableEq, Repr

/-- An event packet that waits for its buffer: its source, the mask of causes, its payload words (R397). -/
structure EventAsk where
  src : Nat
  mask : Nat
  pay : List Nat
  deriving DecidableEq, Repr

/-- The events block beside its registers, and its registers' store (R393 to R399). -/
structure EvState where
  /-- the words of the spaces src, evt and ringc -/
  mem : Store := []
  srcx : Tbl SrcX := []
  /-- raises latched while island 223 is in reset, one a cause: (source, bit, captures, PTP ns of the raise) (R394, R399) -/
  pending : List (Nat × Nat × List Nat × Option Nat) := []
  /-- event relays waiting, at most 256: the message body words (R315) -/
  relay : List (List Nat) := []
  /-- event packets formed and not yet granted a pool C buffer, oldest first (R202, R204, R396) -/
  asks : List EventAsk := []
  /-- end (ns) of the pulse of EVENT_N[p] in progress (R398) -/
  pulse : Tbl (Option Nat) := []
  deriving DecidableEq, Repr

/-- A performance counter (R400 to R404). -/
structure PmuVal where
  /-- the counter, 48 bits -/
  val : Nat := 0
  /-- staged VAL_HI (R401) -/
  stagedHi : Nat := 0
  /-- the read latch (R402) -/
  latch : Nat := 0
  /-- count of the window in progress (R403) -/
  window : Nat := 0
  /-- wraps not yet processed by PMU_WRAP (R401) -/
  wraps : Nat := 0
  deriving DecidableEq, Repr

/-! Command interface (16_command_interface.md). -/

inductive SessState where
  | closed | open | fault
  deriving DecidableEq, Repr

/-- A Baruc packet (R373). -/
structure Packet where
  kind : Nat := 0
  session : Nat := 0
  opcode : Nat := 0
  tag : Nat := 0
  phase : Bool := false
  detail : Nat := 0
  status : Nat := 0
  arg0 : Nat := 0
  arg1 : Nat := 0
  /-- payload bytes -/
  payload : List Byte := []
  deriving DecidableEq, Repr

/-- An armed capture (R379). -/
structure CaptureArm where
  point : Nat
  whereIdx : Nat
  portId : Nat
  left : Nat
  snap : Nat
  deriving DecidableEq, Repr

/-- An MBAKIN_SEND that waits for its reply (R376, R314). -/
structure MbakinWait where
  tag : Nat
  until_ : Nat
  type : Nat
  role : Nat
  body : List Byte
  dst : Option Nat
  redirected : Bool
  deriving DecidableEq, Repr

/-- A GO group that waits (R378): register, mask, the instants (ns) it times out and of its next read. -/
structure GoWait where
  ofs : Nat
  mask : Nat
  until_ : Nat
  next : Nat
  deriving DecidableEq, Repr

/-- A TABLE_LOAD in progress (R378): its TAG, none once its session has closed (R368); groups done; the first condition met
(status, DETAIL, index); the GO group that waits, none while it waits for the block of its next group; accesses of the
group (R377); the words of the groups left. -/
structure LoadRun where
  tag : Option Nat
  done : Nat
  note : Nat × Nat × Nat
  go : Option GoWait
  accesses : Nat
  rest : List Nat
  deriving DecidableEq, Repr

/-- One Baruc session (R369 to R372). -/
structure Session where
  state : SessState := .closed
  /-- inbound bytes waiting, oldest first -/
  fifo : List Byte := []
  /-- bytes taken out of the FIFO, modulo 2^32 -/
  consumed : Nat := 0
  /-- packets the device has written to the ring and HEAD has not passed: (offset, packet), oldest first -/
  ring : List (Nat × Packet) := []
  tail : Nat := 0
  phase : Bool := true
  /-- an MSI-X message has been sent since the last write of HEAD -/
  irqSent : Bool := false
  /-- MSI-X messages sent -/
  msi : Nat := 0
  /-- responses waiting for room, oldest first (R372) -/
  waiting : List Packet := []
  /-- when the head waiting response began to wait, or HEAD last changed -/
  waitSince : Nat := 0
  /-- cause 16 raised in the present full period (R372) -/
  fullRaised : Bool := false
  /-- time of the last inbound byte of a partial packet (R370) -/
  lastByte : Nat := 0
  capture : Option CaptureArm := none
  /-- an MBAKIN_SEND waits for its reply (R376): tag, deadline (ns), the type and role asked for, the body, the device it went
  to, whether it has been redirected -/
  mbakin : Option MbakinWait := none
  load : Option LoadRun := none
  deriving DecidableEq, Repr

/-- A register access from outside a packet: its source as D1 of R392 codes it, the offset, the value of a write, whether it
came through the indirect pair. -/
structure PortWait where
  src : Nat
  ofs : Nat
  w : Option Nat
  ind : Bool
  deriving DecidableEq, Repr

/-- Registers with a GO bit whose command is held behind a running one (R388). -/
structure GoShadow where
  running : Bool := false
  held : Option Nat := none
  deriving DecidableEq, Repr

/-- The command interface beside its registers. -/
structure Cmd where
  /-- STS.LINK code (R390) -/
  link : Nat := 0
  priv : Bool := false
  fails : Nat := 0
  /-- the live nonce and when it was issued (R381) -/
  nonce : Option (Nat × Nat) := none
  /-- end of the lockout (ns) and its length in units of LOCK_S (R381) -/
  lockoutEnd : Option Nat := none
  lockoutMul : Nat := 1
  /-- WOT fields already written, by key and low bit (R5) -/
  wotDone : List (Key × Nat) := []
  /-- accesses that wait for a register port a table load holds, oldest first (R377) -/
  portWait : List PortWait := []
  /-- data the last read returned -/
  readData : Nat := 0
  /-- source of the register access in progress, as D1 of R392 codes it; MMIO unless a session, a record or a Mbakin
  ACTION performs it -/
  source : Nat := 4
  /-- status (R375) and DETAIL of the access in progress -/
  verdict : Nat := 0
  detail : Nat := 0
  /-- PCIe MSI-X table and pending bits are per PCIe (R410); the table's 16 words -/
  msix : Tbl Nat := []
  deriving DecidableEq, Repr

/-! Buffer pools (09_buffers.md). -/

/-- A buffer descriptor (R199). -/
structure Desc where
  alloc : Bool := false
  pair : Bool := false
  count : Nat := 0
  owner : Nat := 0
  holders : Nat := 0
  gen : Nat := 0
  len : Nat := 0
  /-- index of the second buffer of a pair -/
  second : Nat := 0
  deriving DecidableEq, Repr

/-- An allocation request waiting for its pool's arbiter (R204). -/
structure AllocReq where
  req : Nat
  need : Nat
  len : Nat
  count : Nat
  holders : Nat
  deriving DecidableEq, Repr

/-- What the buffer manager answered a requester (R199 to R206). -/
inductive BufAnswer where
  | handle (h : Nat)
  | noBuffer
  | tooLong
  | range
  | doubleFree
  | stale
  | notHolder
  | shareRefused
  | ok
  | data (bytes : List Byte)
  | error
  deriving DecidableEq, Repr

/-- A request held while a PHY retrains, with the time it was made (R209). -/
structure HeldAccess where
  req : Nat
  handle : Nat
  ofs : Nat
  len : Nat
  data : Option (List Byte)
  ecc : Option (Nat × Bool)
  since : Nat
  /-- part of another command, which comes again: only its wait is kept -/
  inner : Bool := false
  deriving DecidableEq, Repr

structure Bpm where
  /-- the free lists are complete; ns at which their building began (R198) -/
  listed : Bool := false
  building : Option Nat := none
  /-- descriptors by pool × 2^26 + index -/
  descs : Tbl Desc := []
  /-- per pool: next index never handed out since the lists were built -/
  fresh : Tbl Nat := []
  /-- per pool: freed indices, oldest first -/
  freed : Tbl (List Nat) := []
  /-- request queues by pool: oldest first, at most 8 a requester; the requests past a requester's eighth, waiting at its
  crossing (R12, R204) -/
  queue : Tbl (List AllocReq) := []
  waiting : Tbl (List AllocReq) := []
  /-- requester that received the last grant, per pool (R204) -/
  last : Tbl Nat := []
  /-- the last answer each requester received -/
  answers : Tbl BufAnswer := []
  /-- the reclaim sweeps in progress, oldest first, each with its requesters (R207) -/
  reclaim : List (List Nat) := []
  /-- QUOTA_DATA word 0 waiting for word 1 (R203, R211) -/
  minStage : Nat := 0
  /-- HBM contents by byte address in the pools' layout: pool × 2^40 + index × size + offset -/
  bytes : Tbl Nat := []
  /-- stacks whose PHY is being retrained, and the requests held meanwhile (R209) -/
  retraining : List Nat := []
  /-- ns of the last uncorrectable error (R299) -/
  ueAt : Option Nat := none
  held : List HeldAccess := []
  deriving DecidableEq, Repr

/-! Tree lanes (02_tree_lanes.md). -/

/-- The kind of a window of a map: a granted burst, a quiet window, a ranging window (R28, R113, R114). -/
inductive WinKind where
  | burst | quiet | ranging
  deriving DecidableEq, Repr

/-- A preset selection as it crosses to the lane (R26), with the kind and the upstream frame of its window. -/
structure Selection where
  index : Nat := 0
  noPreset : Bool := false
  rate : Nat := 0
  /-- lane cycles from the upstream frame reference -/
  arrival : Nat := 0
  length : Nat := 0
  kind : WinKind := .burst
  frame : Nat := 0
  /-- its burst profile, 0 to 3, as the map names it; its place among the bursts of the map -/
  prof : Nat := 0
  pos : Nat := 0
  /-- FEC of that profile and the bits of its preamble and delimiter, as the map was emitted with them (R118) -/
  fec : Bool := false
  pre : Nat := 0
  /-- lane cycles from T0 to the upstream frame reference its arrival counts from (R54, R69) -/
  uro : Nat := 0
  deriving DecidableEq, Repr

/-- A window open in the lane, with the settings loaded for it (R24, R26) and what was seen in it. -/
structure Win where
  sel : Selection := {}
  /-- preset mode; otherwise acquisition mode (R24) -/
  preset : Bool := false
  peak : Nat := 0
  gain : Nat := 0
  phase : Nat := 0
  energy : Bool := false
  missed : Bool := false
  locked : Bool := false
  lockUi : Nat := 0
  /-- failed to lock, lost lock, cut by RX_EN: the rest of the burst is invalid (R30, R39) -/
  invalid : Bool := false
  /-- offset of the accepted delimiter, UI, two's complement of 8 bits (R55) -/
  delimiter : Option Nat := none
  /-- opened without a selection: no entry is named, so none is learned (R27) -/
  noEntry : Bool := false
  /-- its burst follows an overrun and is discarded (R57) -/
  overrun : Bool := false
  /-- the search of its window has been judged (R55) -/
  judged : Bool := false
  /-- settings of the window in progress: LEARN_EN, SD_LEAD and SD_LAG in ns (R39); DLM_CFG WIN, ERR_MAX and OFS_WARN
  (R69) -/
  learn : Bool := false
  lead : Nat := 0
  lag : Nat := 0
  dlmWin : Nat := 0
  dlmErr : Nat := 0
  dlmWarn : Nat := 0
  /-- RX_EQ.ED_THRESH as the window took it (R39) -/
  edThresh : Nat := 0
  /-- opened while the receiver was disabled (R40) -/
  off : Bool := false
  deriving DecidableEq, Repr

/-- A tree lane beside its registers and preset memory. -/
structure Lane where
  /-- selections presented at the crossing and not yet usable (R26) -/
  crossing : List Selection := []
  /-- at most 4 pending selections in arrival order (R27) -/
  pendingSel : List Selection := []
  /-- selections dropped or discarded, whose window opens without being counted again (R27) -/
  dropped : List Selection := []
  window : Option Win := none
  /-- consecutive bursts that failed or lost lock; that locked and kept it (R30) -/
  badRun : Nat := 0
  goodRun : Nat := 0
  /-- the next window's burst follows an overrun (R57) -/
  overrunNext : Bool := false
  /-- a window opened, and a window showed energy, in the upstream frame in progress (R29) -/
  frameWindow : Bool := false
  frameEnergy : Bool := false
  darkRun : Nat := 0
  /-- times (ns) of the rejected TREE_SD changes of the last 10 µs, and of the last one (R33) -/
  rejected : List Nat := []
  lastRejected : Nat := 0
  /-- TREE_SD read 0 outside the extended windows in this frame; consecutive stuck frames (R34) -/
  sdLow : Bool := true
  sdRun : Nat := 0
  /-- frame timebase (ns) of the last filtered TREE_SD change, and from which the time outside the extended windows runs: the
  later of the end of the last one and the start of the frame (R34) -/
  sdSince : Nat := 0
  sdFrom : Nat := 0
  /-- the last frame judged was a stuck one (R34, R92) -/
  sdStuck : Bool := false
  /-- start (ns) of the exit sequence in progress (R19) -/
  exitStart : Nat := 0
  /-- receive word boundary offset, 0 to 63 (R38) -/
  slip : Nat := 0
  /-- the strobe pulse last started: (start, width) in lane cycles after the close (R35) -/
  strobe : Option (Nat × Nat) := none
  /-- entries whose phase this unit has learned itself (R17, R36) -/
  learned : List Nat := []
  deriving DecidableEq, Repr

/-! Activation (04_activation.md). -/

/-- A downstream PLOAM message (R87, R135). `body` is the 40-byte body of a program's or the host's message. -/
inductive PloamKind where
  | assignOnuId | rangingTime | deactivate | disable | enable | enableAll | body
  deriving DecidableEq, Repr

structure Ploam where
  kind : PloamKind := .body
  /-- ONU-ID addressed; 0x3FF broadcast -/
  onu : Nat := 0
  vendor : Nat := 0
  vssn : Nat := 0
  eqd : Nat := 0
  body : List Byte := []
  /-- the message is one of ACT's own that moves records when it has been sent (R85, R86); the smoker's are not -/
  moves : Bool := false
  /-- its integrity field, computed when it is sent (R88) -/
  mic : Nat := 0
  deriving DecidableEq, Repr

/-- A peaking trial run of R81: candidates left (the first is under trial) and scores taken. -/
structure Trial where
  left : List Nat
  scores : List (Nat × Nat)
  deriving DecidableEq, Repr

/-- What a terminal record holds beside its words (R73 to R88, R67). -/
structure TermX where
  /-- the terminal's ranging result has been accepted (R80) -/
  hasEqd : Bool := false
  /-- its preset phase was learned by the last ranging burst (R81) -/
  phaseLearned : Bool := false
  /-- the last miss reached MISS_N: LOB is to be declared (R83, R96); the frame of the last LOB (R84) -/
  lobDue : Bool := false
  lobFrame : Option Nat := none
  /-- frames since the record entered LOST (R83) -/
  lostFrames : Nat := 0
  /-- consecutive bursts past OFS_WARN, and the frame of the last correction (R82) -/
  driftRun : Nat := 0
  lastCorrection : Option Nat := none
  /-- deactivation has begun and its message has not been sent (R77, R85) -/
  deactivating : Bool := false
  trial : Option Trial := none
  /-- the PLOAM integrity key, once committed (R88) -/
  key : Option Nat := none
  /-- the downstream frame a + RNG_TO of R78, once the Assign_ONU-ID has been sent -/
  rngEnd : Option Nat := none
  /-- RNG_CFG as the ranging in progress took it (R96) -/
  rngCfg : Nat := 0x4A505190
  /-- the open degraded-signal window: coded bits, errors, an uncorrectable codeword, start (ns) (R67) -/
  degOpen : Bool := false
  degBits : Nat := 0
  degErrs : Nat := 0
  degUncorr : Bool := false
  degStart : Nat := 0
  deriving DecidableEq, Repr

inductive SmkPhase where
  /-- messages of a round still to be sent, then SETTLE frames, then a judged frame -/
  | sending | settling | observing
  deriving DecidableEq, Repr

/-- The smoker in progress (R93). -/
structure Smoker where
  crit : Nat
  cands : List Nat
  /-- the half under test in this round -/
  half : List Nat
  lit : Bool
  round : Nat
  tries : Nat
  /-- the final check of one member (R93) -/
  checking : Bool
  phase : SmkPhase
  /-- SETTLE of the round in progress (R96), frames left to settle, consecutive frames that could not be judged -/
  q : Nat
  settle : Nat
  unjudged : Nat
  /-- candidates that a command takes out at the next round (R95) -/
  removed : List Nat
  deriving DecidableEq, Repr

structure Act where
  high : List Ploam := []
  /-- messages ACT holds because the high queue was full, oldest first (R87) -/
  holding : List Ploam := []
  normal : List Ploam := []
  /-- the newest messages of the normal queue, past its 256 places while messages of a frame that did not leave are back in it
  (R50, R52) -/
  normalHeld : List Ploam := []
  /-- sequence number of program and host messages (R135) -/
  seq : Nat := 0
  /-- smoker messages still to be sent (R87, R93) -/
  smkQueue : List Ploam := []
  /-- staged KEY_DATA words 0 to 2 (R97) -/
  keyStage : Tbl Nat := []
  smoker : Option Smoker := none
  /-- SMK_STS after an end: 0 idle, 2 isolated, 3 unresolved; the suspect (R97) -/
  smkEnd : Nat := 0
  smkSuspect : Nat := 0
  smkRound : Nat := 0
  smkTry : Nat := 0
  smkCrit : Nat := 0
  /-- a write of SMK_EN = 0 ends the smoker after the round (R95) -/
  smkStop : Bool := false
  /-- consecutive frames with stray light; frames of the last overruns (R92) -/
  strayRun : Nat := 0
  overruns : List Nat := []
  /-- frame of the last overrun (R92) -/
  lastOverrun : Option Nat := none
  /-- SD_ROGUE reported by the lane and not yet taken (R34) -/
  sdRogue : Bool := false
  todBusy : Bool := false
  /-- CTL and ROGUE_CFG as rogue control took them at the last frame start (R96) -/
  ctlWord : Nat := 0x7C0
  rogueWord : Nat := 0x22210800
  deriving DecidableEq, Repr

/-! Grant engine (05_grant_engine.md). -/

/-- An allocation structure of a BWmap (R113). -/
structure AllocStruct where
  allocId : Nat
  dbru : Bool
  ploamu : Bool
  /-- StartTime / 2; none for a FOLLOW cell's continuation value -/
  start : Option Nat
  /-- none for the value G.9804.2 prescribes for a window -/
  size : Option Nat
  profile : Nat
  kind : WinKind
  deriving DecidableEq, Repr

/-- A burst of the checker (R111): leading cell, cells, and what R110 and R109 give it. -/
structure Burst where
  cells : List Nat
  rank : Nat
  term : Nat
  kind : Nat
  start : Nat
  rate : Nat
  prof : Nat
  subst : Bool
  guard : Nat
  d : Nat
  /-- FEC of the profile, and the bits of its preamble and delimiter (R118) -/
  fec : Bool := false
  pre : Nat := 0
  deriving DecidableEq, Repr

/-- A map of the map ring: what was emitted for downstream frame `frame` (R99, R113, R114). -/
structure BwMap where
  frame : Nat
  structs : List AllocStruct
  bursts : List Burst
  /-- the allocation of each accepted burst in order: (Alloc-ID, DBRu) -/
  allocs : List (List (Nat × Bool))
  deriving DecidableEq, Repr

/-- A report waiting for a thread (R107). -/
structure Report where
  ctx : Nat
  term : Nat
  value : Nat
  frame : Nat
  seq : Nat
  deriving DecidableEq, Repr

/-- A message of the mirror stream (R115, R142): a delta, or the close marker of a frame. -/
inductive MirrorMsg where
  | delta (d : Delta)
  | marker (frame : Nat)
  deriving DecidableEq, Repr

structure Grt where
  /-- which of the two banks is open (R99) -/
  bank : Nat := 0
  /-- frame number of the open bank (R103) -/
  openFrame : Nat := 0
  /-- staged CELL_DATA words 1 and 2, ALLOC_DATA word 0 (R119) -/
  cell1 : Nat := 0
  cell2 : Nat := 0
  alloc0 : Nat := 0
  /-- maps of the last 12 frames, newest last -/
  ring : List BwMap := []
  /-- ONU-ID of the previous witness (R105) -/
  witLast : Option Nat := none
  reports : List Report := []
  /-- selections of R114 still to be presented, in order -/
  selections : List Selection := []
  /-- the snapshot of the last comb close: the tree's terminal records, presets, contexts and profiles (R108) -/
  snap : Store := []
  /-- the tree's delta queue (R291): what the active has sent the standby since its last close, that close's marker last -/
  out : List MirrorMsg := []
  /-- on a standby, deltas tagged with a close that has not come (R115) -/
  tagged : List Delta := []
  deriving DecidableEq, Repr

/-! Tree framing (03_tree_framing.md). -/

/-- A reassembly context (R60), with the Key Index, the frame and the INDEX of its first XGEM header (R240, R244). -/
structure Reasm where
  port : Nat
  handle : Nat
  bytes : Nat
  key : Nat := 0
  frame : Nat := 0
  index : Nat := 0
  /-- upstream frames without a fragment -/
  age : Nat
  deriving DecidableEq, Repr

/-- What leaves the downstream cipher for an SDU (R239, R243, R245): the Key Index of its XGEM header, its IV and status, its
bytes as they go out. -/
structure DsOut where
  keyIndex : Nat := 0
  iv : Nat := 0
  status : Nat := 0
  bytes : List Byte := []
  deriving DecidableEq, Repr

/-- A downstream container in the framing island (R153, R154): its lane and XGEM Port-ID, its header and client bytes in clear,
its length with the tag, and what left the cipher for it. -/
structure Container where
  lane : Nat
  port : Nat
  sdu : List Byte
  len : Nat
  out : DsOut := {}
  deriving DecidableEq, Repr

/-- What the framer has built for the next downstream frame (R44, R49). -/
structure Built where
  frame : Nat
  /-- the smoker messages among the PLOAM messages -/
  smoker : List Ploam
  map : Option BwMap
  /-- DS_EN = 0: an empty-header frame, not void (R53) -/
  emptyHeader : Bool
  void : Bool
  ploams : List Ploam
  /-- the containers that follow them, in ascending lane order (R154) -/
  containers : List Container := []
  /-- FEC_EN as the frame took it (R69) -/
  fec : Bool := true
  deriving DecidableEq, Repr

/-- The burst whose delimiter was accepted last (R55): its number, its place in its map, terminal, window and lock time; the
FEC of its profile (R58); the bits its granted length leaves (R57). -/
structure BurstRx where
  no : Nat
  pos : Nat
  term : Nat
  kind : WinKind
  frame : Nat
  lockUi : Nat
  fec : Bool
  left : Nat
  /-- a codeword of it has been taken -/
  begun : Bool := false
  deriving DecidableEq, Repr

/-- The treatment of a Port-ID (R239, R242): mode, flow, terminal of its key (512 for the tree's broadcast key), and the
terminal of its OMCI integrity key. -/
structure Treat where
  mode : Nat := 0
  flow : Nat := 0
  term : Nat := 0
  omci : Option Nat := none
  deriving DecidableEq, Repr

/-- An SDU that has left the downstream cipher for its place in frame `frame` (R239, R245). -/
structure XgemOut where
  frame : Nat
  ofs : Nat
  port : Nat
  out : DsOut
  deriving DecidableEq, Repr

/-- A complete upstream XGEM SDU handed to the upstream cipher (R60, R240, R244): Port-ID, buffer (0 for none), bytes; the Key
Index of its first header, the downstream frame whose map carried its allocation, its INDEX; whether it came unfragmented. -/
structure UpXgem where
  port : Nat
  handle : Nat
  bytes : Nat
  key : Nat := 0
  frame : Nat := 0
  index : Nat := 0
  whole : Bool := false
  deriving DecidableEq, Repr

/-- An SDU the framer has handed to the downstream cipher with its frame position (R16, R45): Port-ID, length, treatment,
downstream frame, byte offset of its first XGEM header in the FS frame, where its bytes end in that frame, and whether a
remainder of it leads the next frame. -/
structure Sdu where
  /-- VLAN operation and its tag control field still to be made (R185) -/
  edit : Nat × Nat := (0, 0)
  port : Nat
  len : Nat
  treat : Treat
  frame : Nat
  ofs : Nat
  stop : Nat
  cut : Bool
  /-- the dequeue it came with -/
  no : Nat := 0
  deriving DecidableEq, Repr

/-- What leads the next frame (R46): its payload bytes with the tag; whether it is the remainder of a fragmented frame; the
Port-ID, length and treatment of a whole frame, which the cipher has not had. -/
structure Lead where
  edit : Nat × Nat := (0, 0)
  bytes : Nat
  remainder : Bool
  port : Nat := 0
  len : Nat := 0
  treat : Treat := {}
  no : Nat := 0
  deriving DecidableEq, Repr

structure Framing where
  /-- downstream frame in progress (R43) -/
  frame : Nat := 0
  started : Bool := false
  /-- frames below this number have void maps (R281, R298) -/
  voidUntil : Nat := 0
  /-- the map that reached the framing island for the next frame (R49 step 2) -/
  mapIn : Option BwMap := none
  /-- what was built for the next frame; for the frame in progress -/
  built : Option Built := none
  cur : Option Built := none
  /-- codewords in the transmit FIFO, 0 to 6 (R51) -/
  fifo : Nat := 0
  /-- codewords of the frame in progress sent -/
  cwSent : Nat := 0
  /-- codewords of the frame in progress, and of the next frame, that the encoder has taken (R51) -/
  enc : Nat := 0
  encNext : Nat := 0
  /-- codeword 0 of the frame in progress has left: its PLOAM messages have been sent (R78, R85, R86) -/
  hdrSent : Bool := false
  /-- the transmitter stopped in the frame in progress: nothing more of it is sent (R19, R37) -/
  cut : Bool := false
  /-- idle fill for the rest of the frame (R52) -/
  substituting : Bool := false
  /-- ends, in bytes of the FS frame, of the XGEM frames given to the frame being filled; and to the frame in progress once
  the next one is being filled (R52) -/
  xgems : List Nat := []
  xgemsOld : List Nat := []
  /-- free bytes of the FS frame being filled (R44) -/
  space : Nat := 0
  /-- what leads the next frame (R46) -/
  carried : Option Lead := none
  /-- SDUs handed to the downstream cipher and not yet answered, oldest first (R16); what has left it for the frame in progress
  and the next one (R239, R245) -/
  sealing : List Sdu := []
  out : List XgemOut := []
  /-- constant-rate containers present for the next frame, in ascending lane order (R44, R154, R158) -/
  containers : List Container := []
  /-- windows of the maps sent, in order, not yet opened in the lane (R27, R114) -/
  due : List Selection := []
  /-- PON-ID structure in use, 51 bits, and whether a write waits for a frame start (R69) -/
  ponId : Nat := 0
  ponidPending : Bool := false
  reasm : List Reasm := []
  /-- the burst being received, bursts discarded after their header, and the number of the next burst -/
  burst : Option BurstRx := none
  dead : List Nat := []
  burstNo : Nat := 0
  /-- complete upstream XGEM frames handed to the upstream cipher, oldest first -/
  upstream : List UpXgem := []
  deriving DecidableEq, Repr

/-- A codeword waiting for or in a decoder (R62). -/
structure Cw where
  tree : Nat
  term : Nat
  bits : Nat
  first : Bool
  last : Bool
  kind : WinKind
  burst : Nat
  lockUi : Nat
  frame : Nat
  /-- place of its burst in the map of that frame (R114) -/
  pos : Nat
  /-- completion, in decoder cycles of 0.8 ns -/
  done : Nat
  deriving DecidableEq, Repr

structure Pool where
  /-- decoders written out of service while they held a codeword: they leave once it has finished (R65) -/
  leaving : List Nat := []
  /-- group queues 0 to 7, oldest first -/
  queue : Tbl (List Cw) := []
  /-- end of the occupancy of decoder j, in cycles -/
  busy : Tbl Nat := []
  /-- the codewords decoder j holds, oldest first, with the cycle their occupancy ends -/
  holding : Tbl (List (Cw × Nat)) := []
  /-- decoders in a known-vector check, with the cycle it ends -/
  check : Tbl (Option Nat) := []
  /-- decoders out of service; marked failed (R65) -/
  out : List Nat := []
  failed : List Nat := []
  deriving DecidableEq, Repr

/-- Encoder k: the tree of its group it serves next (R51). -/
structure Enc where
  next : Nat := 0
  deriving DecidableEq, Repr

/-! Grant sequencers (06_grant_programs.md). -/

inductive TState where
  | disabled | running | blocked | fault | parked
  deriving DecidableEq, Repr

/-- The wait of a blocked thread: POPR with its tree mask, POPA, WFE; rd; event mask. -/
inductive Wait where
  | popr (rd trees events : Nat)
  | popa (rd events : Nat)
  | wfe (rd events : Nat)
  deriving DecidableEq, Repr

structure Thread where
  /-- g1 to g15; g0 reads 0 (R122) -/
  regs : Tbl Nat := []
  st : Nat := 0
  pc : Nat := 0
  state : TState := .disabled
  fcode : Nat := 0
  /-- latched events, bits 0 to 3, 5 and 6 (R137) -/
  latch : Nat := 0
  wait : Option Wait := none
  /-- cluster cycle in which the blocked wait was issued (R147) -/
  waitFrom : Nat := 0
  /-- that wait is one the trace samples (R147) -/
  traced : Bool := false
  /-- cycles since the last POPR, POPA or WFE (R140) -/
  wdog : Nat := 0
  /-- frames of the automatic restarts of the last 8,000 frames (R141) -/
  restarts : List Nat := []
  /-- the fault fell in the cycle of a CLOSE: the restart waits for the next one (R141) -/
  limitReached : Bool := false
  /-- MBX holds a value no wait has returned (R149) -/
  mbxUnread : Bool := false
  /-- parked while an instruction was in flight, which still completes (R142) -/
  inFlight : Bool := false
  /-- AUTO_RST and RST_LIMIT as the last fault took them (R148) -/
  autoRst : Bool := true
  rstLimit : Nat := 4
  deriving DecidableEq, Repr

/-- An activation record as POPA returns it (R130). -/
structure ActRec where
  w0 : Nat
  w1 : Nat
  w2 : Nat
  deriving DecidableEq, Repr

structure Cluster where
  /-- the activation queue, at most 512; records that wait for room in it (R130) -/
  actq : List ActRec := []
  actHeld : List ActRec := []
  /-- pending hand-over: thread, entry, region word (R145) -/
  swap : Option (Nat × Nat × Nat) := none
  /-- trace entries, oldest first: (word 0, word 1) (R147) -/
  trace : List (Nat × Nat) := []
  traceFull : Bool := false
  /-- instructions issued by sampled threads since the last period sample -/
  traceCount : Nat := 0
  /-- cluster cycle, advanced by each instruction issued (log entry 3) -/
  cycle : Nat := 0
  /-- frame of the last CLOSE, EMIT and FSTART latched; trees whose map of the frame is in framing (R137) -/
  closeFrame : Option Nat := none
  emitMask : List Nat := []
  fstartFrame : Option Nat := none
  /-- next sequence number of a report -/
  rptSeq : Nat := 0
  /-- TICK_CFG.LEAD and MIRROR_CFG as the last CLOSE took them (R148), and the words of the mirrored region then (R142) -/
  tickLead : Nat := 250
  mirrorCfg : Nat := 0
  region : List Word := []
  /-- words with an uncorrectable memory error: instruction memory, data memory (R140) -/
  badCode : List Nat := []
  badData : List Nat := []
  deriving DecidableEq, Repr

/-! Queues, shapers and gates (10_queues_shaping.md). -/

/-- A queued frame: its handle, its length, the TMD class it was mapped to, and the PTP event message it is. -/
structure QFrame where
  /-- none for an IEEE 1914.3 packet, which no buffer holds -/
  handle : Option Nat
  len : Nat
  parent : Nat := 0
  /-- its XGEM Port-ID, for a frame of TMD -/
  port : Nat := 0
  /-- VLAN operation and its tag control field, made as the frame leaves (R185): 0 none, 1 push, 2 pop, 3 swap -/
  edit : Nat × Nat := (0, 0)
  /-- its bytes, for an IEEE 1914.3 packet -/
  content : List Byte := []
  /-- the IV of an SDU offered cut-through and stored (R232, R251) -/
  iv : Option Nat := none
  ptpMsg : Option PtpMsg := none
  deriving DecidableEq, Repr

/-- A node beside its words (R217, R219): tokens in 1/1,024 byte with the remainder and the time (ns) of the last refill,
start and finish tag, its own virtual time, whether it stands as eligible, and its queue. -/
structure NodeX where
  tok : Int := 0
  rem : Nat := 0
  refilled : Nat := 0
  stag : Nat := 0
  ftag : Nat := 0
  vtime : Nat := 0
  elig : Bool := false
  /-- held until the next frame start (R225) -/
  held : Bool := false
  /-- the head frame is fragmented and not all taken (R224) -/
  cut : Bool := false
  frames : List QFrame := []
  deriving DecidableEq, Repr

/-- A TMD tree (R223 to R226): last space offer (ns), the no-fragment frame offered, the frames committed whose last byte
has not been taken: (queue key, handle, charged length of a frame still at the head, number of the dequeue); and the number
of the next dequeue. -/
structure TmdTree where
  lastOffer : Nat := 0
  offered : Option Nat := none
  leaving : List (Nat × Option Nat × Nat × Nat) := []
  count : Nat := 0
  deriving DecidableEq, Repr

/-- A transmission in progress on a port (R227 to R232). -/
structure TxNow where
  cls : Nat
  handle : Option Nat
  /-- data bytes of this transmission, and of the frame still to come after a cut at a closing -/
  len : Nat
  after : Nat
  start : Nat
  stop : Nat
  /-- not the first fragment of its frame -/
  cont : Bool
  ct : Bool
  /-- it may be preempted, as its class was when it started (R234) -/
  pre : Bool := false
  /-- its bytes, where no buffer holds them; the IV of a cut-through SDU, and its end with a stomped FCS (R251) -/
  content : List Byte := []
  iv : Option Nat := none
  stomp : Bool := false
  /-- the originTimestamp written into it at the pin, 2^−16 ns (R278) -/
  origin : Option Nat := none
  deriving DecidableEq, Repr

/-- The remainder of a preempted or cut frame. -/
structure Rest where
  handle : Option Nat
  len : Nat
  ct : Bool
  content : List Byte := []
  iv : Option Nat := none
  stomp : Bool := false
  deriving DecidableEq, Repr

/-- A port of TMU (R227 to R231). -/
structure TmuPort where
  cur : Option TxNow := none
  /-- remainders by class -/
  rest : Tbl (Option Rest) := []
  /-- classes whose waiting frame has been counted for the closing to come (R229) -/
  holdSeen : List Nat := []
  /-- a list is operational: entries, cycle time, present entry, its end, and the cycle's end (PTP ns) -/
  listed : Bool := false
  operLen : Nat := 1
  cycle : Nat := 0
  entry : Nat := 0
  entryEnd : Nat := 0
  cycleEnd : Nat := 0
  /-- instant of the pending change (PTP ns), and the list it installs as it was at CHANGE: entries, cycle time, and the states
  and interval of each entry (R231, R234) -/
  changeAt : Nat := 0
  pendLen : Nat := 1
  pendCycle : Nat := 0
  pendList : List (Nat × Nat) := []
  /-- the last frame sent ended with a stomped FCS (R222, R251) -/
  stomped : Bool := false
  deriving DecidableEq, Repr

/-- The transmit timestamp FIFO of a port: entries of four words, and the word the next read returns (R278, R283). -/
structure Txts where
  entries : List (List Nat) := []
  word : Nat := 0
  deriving DecidableEq, Repr

/-- An SDU that was refused cut-through and stored, and whose tag check has not completed (R232, R252): its IV, port, group and
class, and the frame as it will be queued. -/
structure CtHeld where
  iv : Nat
  port : Nat
  group : Fin 8
  cls : Fin 8
  frame : QFrame
  deriving DecidableEq, Repr

structure Queues where
  nodes : Tbl NodeX := []
  trees : Tbl TmdTree := []
  ports : Tbl TmuPort := []
  /-- staged word 0 of TMD and TMU node writes (R236) -/
  stage : Tbl Nat := []
  /-- stored SDUs that wait for their tag check (R252) -/
  ctHeld : List CtHeld := []
  deriving DecidableEq, Repr

/-! Constant-rate lanes (07_constant_rate_lanes.md). -/

/-- A lane beside its words (R157 to R167). acc, est, r and paced are in 1/65,536 byte. -/
structure CrLane where
  /-- client bytes in the lane's FIFO, oldest first -/
  fifo : List Byte := []
  acc : Int := 0
  est : Int := 0
  /-- recovered bytes per frame, and what the pacing has released and the FIFO not given (R160) -/
  rate : Int := 0
  paced : Int := 0
  /-- bytes that have left the FIFO and that no packet has taken, and the PTP time (ns) at which the first byte of each packet
  among them left it (R160) -/
  out : List Byte := []
  outPt : List Nat := []
  /-- SEQ of the last container built: its frame number modulo 4,096 (R153, R161) -/
  seq : Nat := 0
  /-- CND of the last container (R160); the slip buffer: the last payload sent or accepted, with its CND (R161) -/
  cnd : Nat := 0
  slipPay : List Byte := []
  slipCnd : Nat := 0
  /-- BIP16 over the clear payload of the container before, if there is one (R153, R163) -/
  bip : Option Nat := none
  passRun : Nat := 0
  failRun : Nat := 0
  /-- a repeat has been written in this frame (R161) -/
  repeated : Bool := false
  /-- label of the last containers and how many carried it; whether a label is accepted (R162) -/
  lblLast : Nat := 0
  lblRun : Nat := 0
  lblAccepted : Bool := false
  /-- degraded-signal window and runs (R163) -/
  degOpen : Bool := false
  degBits : Nat := 0
  degErrs : Nat := 0
  degBad : Bool := false
  degStart : Nat := 0
  declRun : Nat := 0
  clrRun : Nat := 0
  /-- bytes filled since the last container (R163, R167) -/
  filled : Nat := 0
  /-- the frame the last container was built for (R158) -/
  building : Option Nat := none
  /-- OH values received, with the overhead period each goes out in (R165) -/
  ohRx : List (Nat × Nat) := []
  /-- accepted packets by their presentation time: PTP ns and payload (R167) -/
  packets : List (Nat × List Byte) := []
  /-- presentation time and bytes of the last packet written (R167) -/
  lastPt : Option (Nat × Nat) := none
  /-- presentation time of the last packet sent (R160) -/
  sentPt : Nat := 0
  deriving DecidableEq, Repr

/-- An overhead port (R164, R165): its period in progress, counted from the PTP epoch; whether it runs, and its DIV; the
words of its 32 slots going out; the words sampled for IN lanes, tree × 16 + lane, in the period in progress and in the one
before. -/
structure OhPort where
  period : Option Nat := none
  running : Bool := false
  div : Nat := 8
  out : List Nat := []
  cur : List (Nat × Nat) := []
  ended : List (Nat × Nat) := []
  deriving DecidableEq, Repr

structure OhPorts where
  ports : Tbl OhPort := []
  deriving DecidableEq, Repr

/-! Cipher (11_cipher.md). -/

/-- The tag check to come of an SDU offered cut-through (R251): flow, slot, IV, payload length, and what the check will find. -/
structure TagCheck where
  flow : Nat
  slot : Nat
  iv : Nat
  len : Nat
  ok : Bool
  deriving DecidableEq, Repr

/-- A cipher island beside its registers and tables (R239 to R255). -/
structure Cipher where
  /-- terminal keys by tree × 4,096 + terminal × 4 + key; flow keys by flow × 2 + slot; ring keys by entry -/
  tkey : Tbl (Option Nat) := []
  fkey : Tbl (Option Nat) := []
  ring : Tbl Nat := []
  /-- keys an image record loaded (R255), by the same numbers; and ring entries -/
  tImage : List Nat := []
  fImage : List Nat := []
  ringImage : List Nat := []
  /-- keys that hold their users after an uncorrectable memory error (R260) -/
  tBad : List Nat := []
  fBad : List Nat := []
  ringBad : List Nat := []
  /-- staged words of TKEY_DATA, FKEY_DATA and RING_DATA -/
  tStage : Tbl Nat := []
  fStage : Tbl Nat := []
  rStage : Tbl Nat := []
  /-- transmit slot of a terminal, by tree × 1,024 + terminal (R241) -/
  txSlot : Tbl Nat := []
  /-- slot keys whose warning has been raised, and flows whose empty ring has been reported (R248, R250) -/
  warned : List Nat := []
  emptySaid : List Nat := []
  /-- switches waiting for their tree's frame start: (flow, slot, automatic) (R249, R250) -/
  switching : List (Nat × Nat × Bool) := []
  /-- the slot that the last upstream Key Index of a flow named (R248) -/
  named : Tbl Nat := []
  /-- old slots to be cleared: (flow, slot, frame of the switch) (R250) -/
  expiring : List (Nat × Nat × Nat) := []
  highSfc : Nat := 0
  /-- the first frame enciphered again after a takeover without the partner link (R254) -/
  resumeFrame : Nat := 0
  /-- SDUs offered cut-through whose tag check has not completed, oldest first (R251) -/
  tagChecks : List TagCheck := []
  deriving DecidableEq, Repr

/-- An SDU that has left the upstream cipher for classification: tree, Port-ID, buffer (0 for none), length, and whether it
leaves cut-through, its tag check to come (R16, R251). -/
structure UpSdu where
  tree : Nat
  port : Nat
  handle : Nat
  len : Nat
  ct : Bool
  /-- its IV and status from the cipher (R245) -/
  iv : Nat := 0
  status : Nat := 0
  deriving DecidableEq, Repr

/-! Time (12_network_timing.md). -/

/-- The timing island beside its registers (R269 to R282). Lengths of time are in 2^−16 ns where so named. -/
structure Tim where
  /-- frames trapped for timing and not yet taken: port, bytes and receive timestamp (R173, R277) -/
  inbox : List (Nat × List Byte × Nat) := []
  /-- frame timebase minus PTP time, 2^−16 ns, and the remainder of its slew (R279) -/
  frErr : Int := 0
  frRem : Nat := 0
  /-- phase offset still to be slewed, 2^−16 ns (R273) -/
  slew : Int := 0
  slewRem : Nat := 0
  /-- all that has been slewed, 2^−16 ns; and the ns since power-on and that sum at the updates of the last 64 s in LOCKED, newest
  first, which give the mean correction of HOLDOVER (R269) -/
  slewed : Int := 0
  corr : List (Nat × Int) := []
  /-- the state shown last (R269) -/
  state : Nat := 0
  /-- the frequency correction of HOLDOVER, 2^−16 ppb (R269) -/
  holdFreq : Int := 0
  /-- remainder of the frequency correction -/
  freqRem : Int := 0
  /-- consecutive updates within 2 ns; above 20 ns (R269) -/
  lockRun : Nat := 0
  unlockRun : Nat := 0
  /-- SET_TIME armed: the seconds (R285) -/
  setTime : Option Nat := none
  /-- a decided realignment: D + 250 µs, ns since power-on; B is the first multiple of 125 µs of PTP time from then on (R281) -/
  realignAt : Option Nat := none
  /-- the sentinel's copy: PTP ns and the ns since power-on it was taken; none once lost (R269) -/
  copy : Option (Nat × Nat) := none
  /-- the last accepted PPS_IN edge (ns since power-on) and whether its message has not come (R271, R272) -/
  lastEdge : Option Nat := none
  awaitMsg : Bool := false
  /-- PTP time at that edge, 2^−16 ns; and its error against the second its message names, 1/16 ns, until an update takes it (R272) -/
  edgePtp : Int := 0
  ppsErr : Option Int := none
  /-- consecutive accepted edges with accepted messages -/
  ppsRun : Nat := 0
  /-- seconds of the last accepted message, and consecutive messages that agree (R272) -/
  todSec : Option Nat := none
  todRun : Nat := 0
  /-- a step fell since the last edge: an edge in that cycle is discarded (R273) -/
  steppedAt : Option Nat := none
  /-- SRC_PRI qualified without a break since (ns), while SRC_FB is used (R270) -/
  priSince : Option Nat := none
  /-- end (ns) of the PPS_OUT pulse in progress (R275) -/
  ppsOut : Option Nat := none
  /-- a source of the unit's own has qualified since the island's reset (R293) -/
  ownQual : Bool := false
  /-- LOCKED has been entered since FREERUN (R269) -/
  wasLocked : Bool := false
  /-- an ADJ_CMD held behind an armed set time (R388) -/
  adjHeld : Option Nat := none
  /-- PTP ports qualified (first lanes), what each has seen of its parent (1 Announce, 2 Sync), the parents (R276) -/
  ptpPorts : List Nat := []
  ptpSeen : Tbl Nat := []
  parent : Tbl Nat := []
  /-- the last Announce and the last Sync of a port's parent: ns since power-on and the announced interval in ns (R276) -/
  annAt : Tbl (Nat × Nat) := []
  syncAt : Tbl (Nat × Nat) := []
  /-- sequenceId of the next Delay_Req (R276) -/
  reqSeq : Nat := 0
  /-- the port the receiver uses -/
  ptpPort : Option Nat := none
  /-- REFCLK lost as the timing island sees it (R271) -/
  refclkLost : Bool := false
  deriving DecidableEq, Repr

/-! Classification (08_classification.md). -/

/-- An exact-match entry (R175). -/
structure EmEntry where
  /-- 0 empty, 1 MAC, 2 RoE flow, 3 IPv6 long prefix -/
  kind : Nat := 0
  fixed : Bool := false
  hit : Bool := false
  stamp : Nat := 0
  result : Nat := 0
  key : Nat := 0
  deriving DecidableEq, Repr

/-- A prefix of a trie (R178, R179): family, length, its leading bits, action, continuation (index, CLEN). -/
structure Pfx where
  v6 : Bool
  len : Nat
  bits : Nat
  action : Nat
  cont : Option (Nat × Nat)
  deriving DecidableEq, Repr

inductive LearnOp where
  | insert | refresh | move
  deriving DecidableEq, Repr

/-- A request in the learn queue (R182): what it does and the entry it writes. -/
structure LearnReq where
  op : LearnOp
  entry : EmEntry
  deriving DecidableEq, Repr

/-- An insert whose slot a chain of relocations frees (R177): moves still to make (from, to), the first under way; the
entry and the slot it takes; whether it is the exact-match command's. -/
structure EmJob where
  moves : List (Nat × Nat)
  entry : EmEntry
  slot : Nat
  command : Bool
  deriving DecidableEq, Repr

/-- The three words of an ACTION entry, as a slot fetched them (R172, R185, R189). -/
structure ActWords where
  w0 : Nat := 0
  w1 : Nat := 0
  w2 : Nat := 0
  deriving DecidableEq, Repr

/-- An upstream frame in classification: tree, Port-ID, handle (0 while it has no buffer), length, header, bytes; whether the
cipher offers it cut-through (R251). -/
structure UpFrame where
  ct : Bool := false
  iv : Nat := 0
  status : Nat := 0
  tree : Nat
  port : Nat
  handle : Nat
  len : Nat
  hdr : FrameHdr
  bytes : List Byte
  deriving DecidableEq, Repr

/-- An IPv6 frame waiting for its second slot (R179): the key, the /64 action, and the frame: a downstream frame's number
or the upstream frame. -/
structure Second where
  key : Nat
  action : ActWords
  frame : Nat ⊕ UpFrame
  deriving DecidableEq, Repr

/-- What a pipeline found for a downstream frame (R174, R183). -/
inductive ClsRes where
  /-- not classified yet; waiting for its second slot -/
  | pending | second
  /-- the pipeline's island is in reset: a miss that does not flood (R183) -/
  | absent
  | trapped | dropped
  /-- the action fetched, of a routed domain or an RoE flow -/
  | action (a : ActWords)
  /-- a MAC miss in a bridged domain with the FLOOD group of a VALID one; a hit: static with the action fetched, learned with
its stamp and destination -/
  | miss (flood : Option Nat)
  | fixedHit (a : ActWords)
  | learned (key stamp tree port : Nat)
  deriving DecidableEq, Repr

/-- A downstream frame on its way to the merge stage (R183). -/
structure DsFrame where
  no : Nat
  /-- first lane of the network port -/
  port : Nat
  hdr : FrameHdr
  bytes : List Byte
  res : Tbl ClsRes
  /-- its receive timestamp, 2^−16 ns from the PTP epoch (R277) -/
  stamp : Nat := 0
  deriving DecidableEq, Repr

/-- A pipeline beside its registers and tables. -/
structure Pipe where
  /-- entries by slot: half, bucket, slot (R175) -/
  em : Tbl EmEntry := []
  /-- inserts whose relocations are under way, oldest first (R177) -/
  jobs : List EmJob := []
  learnq : List LearnReq := []
  /-- bucket the sweep visits next (R184) -/
  sweep : Nat := 0
  /-- when the sweep visits it, in 2^−18 ns (R184) -/
  sweepDue : Nat := 0
  /-- lane the next frame takes (R172) -/
  lane : Nat := 0
  seconds : List Second := []
  /-- conditional clears on their way: (key, stamp) of MAC entries (R183) -/
  clears : List (Nat × Nat) := []
  /-- EM_CMD (R187, R388): the running operation and its SLOT, its result once known, a held command -/
  emOp : Option (Nat × Nat) := none
  emOut : Option (Nat × Option Nat) := none
  emHeld : Option (Nat × Nat) := none
  /-- the pipeline's copy of the tries (R178) -/
  trie : List Pfx := []
  /-- meters: tokens in 1/8,000 byte and the time (ns) of the last refill (R186) -/
  meters : Tbl (Nat × Nat) := []
  /-- staged words of the table at TBL_IDX (R191) -/
  stage : Tbl Nat := []
  deriving DecidableEq, Repr

/-- An LPM command as it was started (R180): operation and its four staged words. -/
structure LpmOp where
  op : Nat
  w0 : Nat
  w1 : Nat
  w2 : Nat
  w3 : Nat
  deriving DecidableEq, Repr

/-- The LPM loader of island 223: the prefixes of the four identical tries, the running and the held command. -/
structure Lpm where
  pfxs : List Pfx := []
  running : Option LpmOp := none
  held : Option Nat := none
  deriving DecidableEq, Repr

/-- The merge stage: downstream frames with their results, oldest first, and their count. -/
structure MergeSt where
  frames : List DsFrame := []
  next : Nat := 0
  deriving DecidableEq, Repr

/-! Network ports (12_network_timing.md). -/

/-- A port beside its registers, by first lane: the start (ns) of the attempt's limit, consecutive failures, the end (ns)
of the backoff, verify mPackets sent and when the last was (R264, R265, R268). -/
structure NetPort where
  attempt : Nat := 0
  fails : Nat := 0
  backoff : Nat := 0
  verifies : Nat := 0
  verifyAt : Nat := 0
  /-- DEG_SET and DEG_CLR of the FEC window in progress (R267, R282) -/
  degSet : Nat := 8192
  degClr : Nat := 4096
  /-- SIG_EN of that window (R282) -/
  sigEn : Bool := true
  deriving DecidableEq, Repr

/-! Protection pair (13_pair_system.md). -/

inductive SwPhase where
  /-- the active has sent SWITCH; the standby has sent ACK; bound to change at T0(k); no COMMIT in time; bound to light at
  T0(k + 1) (R301) -/
  | sent | acked | bound | lost | late
  deriving DecidableEq, Repr

/-- A planned switchover in progress: its frame, its phase, whether it answers a return request (R304). -/
structure Switch where
  k : Nat
  phase : SwPhase
  ret : Bool
  deriving DecidableEq, Repr

/-- A message sent to the partner (R301, R302, R304); RELEASED carries the device number, 0 without one (R316). -/
inductive PairMsg where
  | switch (k epoch : Nat) | ack | nak | commit | released (epoch dev : Nat) | returnReq | returnNak
  deriving DecidableEq, Repr

/-- A heartbeat sent (R292): PAIR_ID, device number, frame, role, epoch, pmode, score, SYNC, READY, LIVE, LINK_DOWN, timing
state, follows, PTP time of the frame start in 2^−16 ns, and of the last heartbeat accepted its frame and own time of receipt. -/
structure HbSent where
  pairId : Nat
  dev : Nat
  frame : Nat
  role : Nat
  epoch : Nat
  pmode : Nat
  score : Nat
  sync : Bool
  ready : Bool
  live : Bool
  linkDown : Bool
  timState : Nat
  follows : Bool
  time : Nat
  ack : Option (Nat × Nat)
  deriving DecidableEq, Repr

structure PairSt where
  /-- CTL.PAIR_EN and HOME as the unit took them when it left NONE (R317) -/
  member : Option (Bool × Bool) := none
  /-- control given up in TEST, which the unit keeps: every TREE_TXDIS is high (R302) -/
  dark : Bool := false
  /-- the active is sending its partner the bulk copy (R295, R307) -/
  bulk : Bool := false
  /-- the partner's last reported epoch; none since a sentinel or cold reset (R289) -/
  partnerEpoch : Option Nat := none
  partnerPmode : Nat := 0
  /-- consecutive heartbeats not accepted, accepted, and accepted with the partner in NONE (R292, R308) -/
  miss : Nat := 0
  okRun : Nat := 0
  noneRun : Nat := 0
  /-- one-way delay, in units of 0.8 ns (R293) -/
  delay : Int := 0
  /-- own heartbeats of the last frames, newest first; the last accepted one (frame, own PTP time in 2^−16 ns) -/
  sent : List HbSent := []
  lastRx : Option (Nat × Nat) := none
  following : Bool := false
  /-- consecutive evaluations with the score below YIELD_THR (R300) -/
  lowRun : Nat := 0
  /-- frames since the link was declared down; frames not seen since joining began; a frame seen since (R296, R305) -/
  downFrames : Nat := 0
  quiet : Nat := 0
  joinSeen : Bool := false
  /-- foreign light in the last frame judged (R305) -/
  foreign : Bool := false
  /-- shadow offsets, 1/64 lane cycle (R297) -/
  ofs : Tbl (Option Int) := []
  /-- the arrivals of each tree's last 16 bursts, newest first (R297) -/
  bursts : Tbl (List Int) := []
  sw : Option Switch := none
  /-- the role taken at the next frame start -/
  pendingRole : Option Nat := none
  /-- a ROLE_CMD operation held behind the one that runs (R388) -/
  roleHeld : Option Nat := none
  /-- since when (ns) the conditions of R304, of a formed pair (R290) have held -/
  retSince : Option Nat := none
  formedSince : Option Nat := none
  returnSent : Bool := false
  /-- downstream frame of the last heartbeat -/
  lastFrame : Nat := 0
  /-- the last scrub pass found an uncorrectable error; ns of the last transmitter PLL unlock (R299) -/
  scrubBad : Bool := false
  pllUnlock : Option Nat := none
  /-- mirrored smokers: criterion + 1 (R95) -/
  smokers : Tbl Nat := []
  /-- last message and last health report sent to the partner -/
  lastMsg : Option PairMsg := none
  lastReport : Option Nat := none
  /-- the image has been applied since the last reset (R290) -/
  imageApplied : Bool := false
  deriving DecidableEq, Repr

/-! Image, flash and OTP (15_nvm_otp.md). -/

/-- An entry of an image's directory (R349). -/
structure DirEntry where
  island : Nat
  ofs : Nat
  len : Nat
  records : Nat
  cmac : Nat
  deriving DecidableEq, Repr

/-- The on-die copy of a running image's header and directory (R354). -/
structure ImageCopy where
  arb : Nat
  imageId : Nat
  nonce : Nat
  dir : List DirEntry
  deriving DecidableEq, Repr

/-- A WAIT record or a GO group in progress (R350, R378): register, mask, value, the instant (ns) it times out and the
instant of its next read; what is left of the TABLE record. -/
structure WaitRun where
  ofs : Nat
  mask : Nat
  value : Nat
  until_ : Nat
  next : Nat
  rest : List Nat
  deriving DecidableEq, Repr

/-- A run being executed (R356, R357): its directory entry, the byte offset in the slot of the next record, whether it is a
replay asked for by a release, whether its writes follow the rules of a replay, the wait in progress. -/
structure RunNow where
  entry : DirEntry
  pos : Nat
  replay : Bool
  skips : Bool
  wait : Option WaitRun
  deriving DecidableEq, Repr

/-- The check in progress (R353, R354): the slots still to check, the first under check; the order of this start; whether the
BOOT command asked for it; the ARB value read at the start of the check; a read that failed. -/
structure CheckNow where
  slots : List Nat
  order : List Nat
  boot : Bool
  arb : Nat
  readFailed : Bool
  deriving DecidableEq, Repr

/-- An operation of NVM.CMD (R360): OP, SLOT, ADDR, LEN; when it took the flash, none while it waits behind a replay (R357);
the ARB value a check read at its start. -/
structure FlashOp where
  op : Nat
  slot : Nat
  addr : Nat
  len : Nat
  since : Option Nat
  arb : Nat
  deriving DecidableEq, Repr

/-- An operation of OTP.CMD in progress (R361): OP and item for its cause, the words still to program with their bits. -/
structure OtpOp where
  op : Nat
  item : Nat
  left : List (Nat × Nat)
  since : Nat
  deriving DecidableEq, Repr

/-- Island 225 beside its registers (R343 to R364, R436). -/
structure NvmSt where
  /-- STS.STATE (R363) -/
  state : Nat := 0
  /-- the OTP shadow is to be loaded; discovery is to run (R435) -/
  needShadow : Bool := true
  needDiscovery : Bool := true
  /-- the start is a cold or sentinel reset's: the run of island 224 is applied (R356) -/
  full : Bool := true
  /-- system device number taken at the last cold reset (R316, R362) -/
  devnum : Option Nat := none
  octal : Bool := false
  resA : Nat := 0
  resB : Nat := 0
  /-- running slot and its header and directory -/
  slot : Nat := 0
  image : Option ImageCopy := none
  check : Option CheckNow := none
  /-- order an interrupted start checks its slots in; runs it applied (R436) -/
  order : List Nat := []
  again : List Nat := []
  /-- runs still to apply; islands that wait for a replay; the run in progress -/
  todo : List DirEntry := []
  replays : List Nat := []
  run : Option RunNow := none
  flashOp : Option FlashOp := none
  flashHeld : Option FlashOp := none
  otpOp : Option OtpOp := none
  otpHeld : Option (Nat × Nat) := none
  deriving DecidableEq, Repr

/-! Mbakin (13_pair_system.md). -/

/-- A Mbakin message sent (R311). -/
structure MbakinSent where
  type : Nat
  dst : Option Nat
  redirected : Bool
  expRole : Nat
  expEpoch : Nat
  seq : Nat
  role : Nat
  epoch : Nat
  body : List Byte
  deriving DecidableEq, Repr

structure SysSt where
  /-- frames trapped for system messaging and not yet taken: port and bytes (R173) -/
  inbox : List (Nat × List Byte) := []
  seq : Nat := 0
  /-- the last accepted SEQ of each source and the port it came by: SEQ × 32 + port + 1 -/
  lastSeq : Tbl Nat := []
  /-- of each source, every SEQ accepted and the port it came by: SEQ × 32 + port (R313) -/
  taken : Tbl (List Nat) := []
  /-- the committed system key and the staged words -/
  key : Nat := 0
  stage : Tbl Nat := []
  /-- ns, plus 1, of the last HEARTBEAT of each peer; ns of the last one sent -/
  heard : Tbl Nat := []
  lastHb : Nat := 0
  /-- the last message sent, and the last response of an ACTION executed for another device -/
  last : Option MbakinSent := none
  actionReply : List Byte := []
  /-- ACTIONs accepted and not finished, oldest first: the source device and the Baruc packet (R312, R377) -/
  actions : List (Nat × List Byte) := []
  deriving DecidableEq, Repr

end Sys2Proof.Machine
end

