-- ==== Sys2Proof/Machine/State.lean ====
section
/-!
DEFINITION. The state of the device, its reasons to stop, and the state right after a cold reset.
-/

namespace Sys2Proof.Machine

/-- Every piece of state the spec gives the device, as plain data. -/
structure State where
  /-- the register and table words, except those of the events block -/
  mem : Store := []
  /-- the events block and the ring counters (R393 to R399) -/
  ev : EvState := {}
  /-- the sessions (R369) -/
  sess : Tbl Session := []
  /-- performance counters (R400) -/
  pmu : Tbl PmuVal := []
  /-- ns since power-on; never stepped (log entry 2) -/
  clk : Nat := 0
  /-- PTP time, ns since the epoch, and its fraction in 2^−16 ns (R269, R285) -/
  ptp : Nat := 0
  ptpFrac : Nat := 0
  /-- the model's own counter of free values drawn (log entry 5) -/
  freeCount : Nat := 0
  /-- islands 0 to 225 (R10) -/
  islands : Tbl Island := []
  /-- transfers answered by the wrapper of each island (R13, R334) -/
  wrapped : Tbl Nat := []
  rst : RstCtl := {}
  cmd : Cmd := {}
  /-- the buffer manager (R194 to R213) -/
  bpm : Bpm := {}
  /-- tree lanes (R18 to R41) -/
  lanes : Tbl Lane := []
  /-- tree framing (R42 to R72) -/
  framing : Tbl Framing := []
  /-- the decoder pool (R61 to R66) and the encoders (R51) -/
  pool : Pool := {}
  encoders : Tbl Enc := []
  /-- activation (R73 to R98); terminal state by tree × 512 + terminal -/
  act : Tbl Act := []
  terms : Tbl TermX := []
  /-- grant engine (R99 to R121) -/
  grt : Tbl Grt := []
  /-- grant sequencers (R122 to R151): clusters, and threads by cluster × 4 + thread -/
  clusters : Tbl Cluster := []
  threads : Tbl Thread := []
  /-- queues, schedulers, shapers and gates (R214 to R234) -/
  queues : Queues := {}
  /-- constant-rate lanes by (direction × 48 + tree) × 16 + lane, and the overhead ports (R152 to R170) -/
  crl : Tbl CrLane := []
  ohp : OhPorts := {}
  /-- cipher islands: 0 downstream, 1 upstream (R239 to R255) -/
  cipher : Tbl Cipher := []
  /-- upstream SDUs that have left the cipher for classification, oldest first (R16) -/
  upSdus : List UpSdu := []
  /-- transmit timestamp FIFOs (R278) -/
  txts : Tbl Txts := []
  /-- the timing island (R269 to R282) -/
  tim : Tim := {}
  /-- pipelines CP0 to CP3, the LPM loader and the merge stage (R172 to R193) -/
  cls : Tbl Pipe := []
  lpm : Lpm := {}
  merge : MergeSt := {}
  /-- network ports by first lane (R261 to R268) -/
  ports : Tbl NetPort := []
  /-- the protection pair and system messaging (R288 to R321) -/
  pair : PairSt := {}
  sys : SysSt := {}
  /-- flash, image and OTP (R343 to R364) -/
  nvm : NvmSt := {}
  /-- commands waiting, first in first out -/
  pending : List Instr := []
  deriving DecidableEq, Repr

/-- Why the device stops: never. Every error of the spec is an effect of the command that meets it. -/
inductive Fault where
  /-- raised by no meaning; the type is not empty so that the outcome type has its three outcomes. Safe. -/
  | never
  deriving DecidableEq, Repr

/-- Commands without a meaning. -/
inductive Refusal where
  /-- raised by the dispatch of a command that has no meaning yet. Safe. -/
  | notModelled (mnemonic : String)
  deriving DecidableEq, Repr

/-- The device as a cold reset leaves it (R8, R322), no feed up yet: every island in reset, every register at its reset
value, the flash erased, the fuses as the factory leaves them where the spec says how, the queue empty. -/
def State.reset : State := {}

end Sys2Proof.Machine
end

