-- ==== Sys2Proof/Machine/Ops.lean ====
section
/-!
DEFINITION. The named operations every meaning is written in: reading and writing words and fields, counters, time,
islands and their wrappers (R13, R334), and raising a cause (R394 to R399).
-/

namespace Sys2Proof.Machine

/-! Words and fields. -/

/-- The value of a word; the words of the events block lie in their own store. -/
def State.get (s : State) (k : Key) : Word :=
  if k.sp.isEvent then Store.get s.ev.mem k else Store.get s.mem k

/-- Set a word. -/
def State.set (s : State) (k : Key) (v : Word) : State :=
  if k.sp.isEvent then { s with ev := { s.ev with mem := Store.set s.ev.mem k v } }
  else { s with mem := Store.set s.mem k v }

/-- The key of a field in instance `i`, table entry `x`. -/
def Fld.key (f : Fld) (i x : Nat) : Key := ⟨f.sp, i, x, f.word⟩

/-- The same field `k` words on: the k-th of an array of registers. -/
def Fld.at (f : Fld) (k : Nat) : Fld := { f with word := f.word + k }

/-- Read a field of entry `x`. -/
def rdx (f : Fld) (i x : Nat) (s : State) : Nat := bitsOf (s.get (f.key i x)) f.hi f.lo

/-- Write a field of entry `x`. -/
def wrx (f : Fld) (i x v : Nat) (s : State) : State :=
  s.set (f.key i x) (setBitsOf (s.get (f.key i x)) f.hi f.lo v)

/-- Read a field of a register of instance `i`. -/
def rd (f : Fld) (i : Nat) (s : State) : Nat := rdx f i 0 s

/-- Write a field of a register of instance `i`. -/
def wr (f : Fld) (i v : Nat) (s : State) : State := wrx f i 0 v s

/-- A field of one bit that is set. -/
def on (f : Fld) (i : Nat) (s : State) : Bool := rd f i s == 1

/-- Write a whole word of a table. -/
def wrWord (sp : Sp) (i x w v : Nat) (s : State) : State := s.set ⟨sp, i, x, w⟩ (BitVec.ofNat 32 v)

/-- Read a whole word of a table. -/
def rdWord (sp : Sp) (i x w : Nat) (s : State) : Nat := (s.get ⟨sp, i, x, w⟩).toNat

/-- Apply `f` where the condition holds. -/
def onlyIf (c : Prop) [Decidable c] (f : State → State) (s : State) : State := if c then f s else s

/-- Apply a list of changes in order. -/
def allOf {α : Type} (l : List α) (f : α → State → State) (s : State) : State := l.foldl (fun s a => f a s) s

def b2n (b : Bool) : Nat := if b then 1 else 0

/-- The largest value of a field. -/
def Fld.max (f : Fld) : Nat := 2 ^ (f.hi + 1 - f.lo) - 1

/-! Performance counters: an occurrence is added to every enabled counter that selects it (R400). -/

/-- The counters whose EN is set. -/
def pmuEnabled (s : State) : List Nat :=
  (s.mem.filter (fun e => e.1.sp == .pmuC && e.1.word == 0 && bitsOf e.2 31 31 == 1)).map (fun e => e.1.inst)

/-- Add n to counter i: 48 bits, wrapping (R401); a windowed counter counts in its window (R403). -/
def pmuAddTo (i n : Nat) (s : State) : State :=
  let p := Tbl.get {} s.pmu i
  if rd PMUC.CFG_WIN_MODE i s = 1 then { s with pmu := Tbl.set {} s.pmu i { p with window := p.window + n } }
  else
    let v := p.val + n
    { s with pmu := Tbl.set {} s.pmu i { p with val := v % 2 ^ 48, wraps := p.wraps + v / 2 ^ 48 } }

/-- Count n occurrences of an event on every counter that selects it with an accepted ARG; a chained odd counter
counts wraps instead (R401). -/
def pmuCount (ev : Nat) (accepts : Nat → Bool) (n : Nat) (s : State) : State :=
  allOf (pmuEnabled s) (fun i => onlyIf (rd PMUC.CFG_EVENT i s = ev ∧ accepts (rd PMUC.ARG i s) = true ∧
    ¬(i % 2 = 1 ∧ rd PMUC.CFG_CHAIN i s = 1)) (pmuAddTo i n)) s

/-! Islands. -/

def State.island (s : State) (i : Nat) : Island := Tbl.get {} s.islands i
def State.setIsland (s : State) (i : Nat) (x : Island) : State := { s with islands := Tbl.set {} s.islands i x }

/-- The island is out of reset. -/
def State.up (s : State) (i : Nat) : Bool := (s.island i).up

/-- R336: the island has been released and its part of the image, if it has one, has been applied. -/
def State.configured (s : State) (i : Nat) : Bool :=
  s.up i && (match s.nvm.image with
    | some m => (s.island i).configured || m.dir.all fun e => e.island != i
    | none => false)

/-- A transfer into an island in reset is answered by its wrapper and counted; nothing else happens (R13, R334). -/
def wrapperAnswer (i : Nat) (s : State) : State :=
  { s with wrapped := Tbl.set 0 s.wrapped i (Tbl.get 0 s.wrapped i + 1) }

/-- The effect of a command on an island: its own effect while the island is out of reset. -/
def onIsland (i : Nat) (s : State) (f : State → State) : Host.Outcome State Fault Refusal :=
  if s.up i then .next (f s) else .next (wrapperAnswer i s)

def framingIsland (n : Nat) : Nat := 167 + n / 6
def clusterIsland (k : Nat) : Nat := 175 + k
def treeCluster (n : Nat) : Nat := n / 6

def State.fram (s : State) (n : Nat) : Framing := Tbl.get {} s.framing n
def State.setFram (s : State) (n : Nat) (x : Framing) : State := { s with framing := Tbl.set {} s.framing n x }

/-! Role (R288). -/

def role (s : State) : Nat := rd PAR.STS_ROLE 0 s
def roleActive (s : State) : Bool := role s == 2
def roleTest (s : State) : Bool := role s == 3
def roleStandby (s : State) : Bool := role s == 1
def roleNone (s : State) : Bool := role s == 0

/-! Time. -/

def ptpSec (s : State) : Nat := s.ptp / 1000000000
def ptpNs (s : State) : Nat := s.ptp % 1000000000

/-! Buffers: the eligibility of a request (R203). -/

def poolCount (p : Nat) (s : State) : Nat :=
  if p = 0 then rd BPM.POOL_S_CNT 0 s * 65536 else if p = 1 then rd BPM.POOL_M_CNT 0 s * 65536
  else if p = 2 then rd BPM.POOL_J_CNT 0 s * 65536 else rd BPM.POOL_C_CNT 0 s * 8192

/-- The buffers of pool p on the free lists so far: none before LOCK, then in ascending order pool by pool (R197, R198). -/
def listedOf (p : Nat) (s : State) : Nat :=
  if s.bpm.listed then poolCount p s
  else match s.bpm.building with
    | none => 0
    | some t =>
      let before := (List.range p).foldl (fun a q => a + poolCount q s) 0
      max (Tbl.get 0 s.bpm.fresh p) (min (poolCount p s) (Config.listedBy (s.clk - t) - before))

/-- Free buffers of a pool: those listed and never handed out since, and those returned (R198, R205). -/
def poolFree (p : Nat) (s : State) : Nat :=
  listedOf p s - Tbl.get 0 s.bpm.fresh p + (Tbl.get [] s.bpm.freed p).length

/-- USED of requester r in pool p (R203). -/
def usedBy (r p : Nat) (s : State) : Nat := rdx QUOTA.USED r p s

/-- What the other requesters' minima still reserve (R203). -/
def reservedFrom (r p : Nat) (s : State) : Nat :=
  (List.range 32).foldl (fun a x => if x = r then a else a + (rdx QUOTA.MIN x p s - usedBy x p s)) 0

/-- R203: requester r may be granted n buffers of pool p. -/
def eligible (r p n : Nat) (s : State) : Bool :=
  decide (usedBy r p s + n ≤ rdx QUOTA.MAX r p s) && decide (n + reservedFrom r p s ≤ poolFree p s)

/-! Sessions and rings (R369 to R372). -/

def State.session (s : State) (i : Nat) : Session := Tbl.get {} s.sess i
def State.setSession (s : State) (i : Nat) (x : Session) : State := { s with sess := Tbl.set {} s.sess i x }

/-- The lowest-numbered OPEN session whose enable is set (R369). -/
def openSession (enable : Fld) (s : State) : Option Nat :=
  (List.range 4).find? (fun i => (s.session i).state == .open && on enable i s)

def ringSize (i : Nat) (s : State) : Nat := 2 ^ rd SESS.RING_SIZE_LOG2 i s

/-- Bytes a packet takes in the ring: header and payload, on 64-byte boundaries (R371). -/
def Packet.bytes (p : Packet) : Nat := (16 + p.payload.length + 63) / 64 * 64

/-- Where a packet goes: the PAD bytes before it and its offset (R371). -/
def ringPlace (i : Nat) (p : Packet) (s : State) : Nat × Nat :=
  let t := (s.session i).tail
  if t + p.bytes ≤ ringSize i s then (0, t) else (ringSize i s - t, 0)

/-- There is room for a packet, and its PAD, between TAIL and HEAD; one 64-byte slot stays free so that an empty ring
differs from a full one (log entry 6). -/
def ringRoom (i : Nat) (p : Packet) (s : State) : Bool :=
  let used := ((s.session i).tail + ringSize i s - rd SESS.HEAD_HEAD i s) % ringSize i s
  decide (used + (ringPlace i p s).1 + p.bytes < ringSize i s)

/-- Write a packet at TAIL, a PAD packet first where it does not fit before the end, flip PHASE at a wrap, and send
the MSI-X message of R371. -/
def ringWrite (i : Nat) (p : Packet) (s : State) : State :=
  let x := s.session i
  let (pad, at_) := ringPlace i p s
  let ph := if pad = 0 then x.phase else !x.phase
  let pads := if pad = 0 then [] else
    [(x.tail, ({ kind := 3, session := i, phase := x.phase, payload := List.replicate (pad - 16) 0 } : Packet))]
  let next := at_ + p.bytes
  let wraps := decide (next = ringSize i s)
  let irq := on SESS.CTL_IRQ_EN i s && !x.irqSent
  s.setSession i { x with
    ring := x.ring ++ pads ++ [(at_, { p with session := i, phase := ph })]
    tail := if wraps then 0 else next
    phase := if wraps then !ph else ph
    irqSent := x.irqSent || irq
    msi := x.msi + b2n irq
    fullRaised := false }

/-! Counter registers: one RC field, saturating; each increment is an occurrence of PMU event 0x02 (R400). -/

/-- BAR0 offset of the base and stride of a block of whole-register counters (R411, R412). -/
def spBase : Sp → Nat × Nat
  | .tln => (0x100000, 0x100) | .tfr => (0x110000, 0x100) | .act => (0x120000, 0x100) | .grt => (0x130000, 0x100)
  | .pool => (0x140000, 0) | .dec => (0x140100, 0x10) | .enc => (0x140200, 0x10) | .gsq => (0x150000, 0x100)
  | .crl => (0x160000, 0) | .cls => (0x170000, 0x100) | .bpm => (0x180000, 0) | .tmd => (0x190000, 0)
  | .tmu => (0x191000, 0) | .tmuPort => (0x191000, 0) | .cph => (0x1A0000, 0x1000) | .net => (0x1B0000, 0x100)
  | .tim => (0x1C0000, 0) | .ohp => (0xF00000, 0x100) | .par => (0xF10000, 0) | .rst => (0xF11000, 0)
  | .clk => (0xF12000, 0) | .nvm => (0xF20000, 0) | .otp => (0xF21000, 0) | .cmd => (0x40000, 0)
  | .ringc => (0x40000, 0) | .sess => (0x40100, 0x40) | .lpm => (0x41000, 0) | .sys => (0x42000, 0)
  | .pmu => (0x44000, 0) | .pmuC => (0x44100, 0x20) | .evt => (0x48000, 0) | .src => (0x49000, 0x40)
  | _ => (0, 0)

/-- The BAR0 offset of a mapped register. -/
def regOffset (sp : Sp) (i w : Nat) : Nat := (spBase sp).1 + (spBase sp).2 * i + 4 * w

/-- Add n to a counter field, saturating, and count the occurrences. -/
def bumpBy (f : Fld) (i n : Nat) (s : State) : State :=
  s |> wr f i (min (rd f i s + n) f.max)
    |> onlyIf (f.hi = 31 ∧ f.lo = 0 ∧ n ≠ 0) (pmuCount 2 (fun a => a == regOffset f.sp i f.word) n)

/-- Count one occurrence in a counter register. -/
def bump (f : Fld) (i : Nat) (s : State) : State := bumpBy f i 1 s

/-- Count in a counter word of table entry x, saturating; table words are no counter registers of PMU event 0x02. -/
def bumpx (f : Fld) (i x : Nat) (s : State) : State := wrx f i x (min (rdx f i x s + 1) f.max) s

/-- Add n to a counter word of table entry x, saturating. -/
def bumpxBy (f : Fld) (i x n : Nat) (s : State) : State := wrx f i x (min (rdx f i x s + n) f.max) s

/-! Causes and events (R394 to R399). -/

/-- R399: the capture of a raise of `bit` with the details `d`; a fourth detail is the PTP time of a raise that has waited (R394). -/
def captureRaise (src bit : Nat) (d : List Nat) (s : State) : State :=
  let when_ := d.getD 3 s.ptp
  let put := fun (f : Fld) (s : State) => s
    |> wr f src (bit * 2 ^ 27 + when_ / 1000000000 % 2 ^ 26)
    |> wr (f.at 1) src (when_ % 1000000000)
    |> wr (f.at 2) src (d.getD 0 0)
    |> wr (f.at 3) src (d.getD 1 0)
    |> wr (f.at 4) src (d.getD 2 0)
  if rd SRC.CAP_STS_V0 src s = 0 then
    put ⟨.src, 6, 31, 0⟩ s |> wr SRC.CAP_STS_V0 src 1
  else
    put ⟨.src, 11, 31, 0⟩ s |> wr SRC.CAP_STS_V1 src 1
      |> wr SRC.CAP_STS_OVF src (min (rd SRC.CAP_STS_OVF src s + 1) 65535)

/-- The mask bit of a word is set. -/
def maskHas (w bit : Nat) : Bool := w / 2 ^ bit % 2 == 1

/-- A word with a mask bit set. -/
def maskSet (w bit : Nat) : Nat := if maskHas w bit then w else w + 2 ^ bit

/-- R394, R395, R399: set the cause, capture it, count it in RAISES where it is enabled. -/
def raiseCore (src bit : Nat) (d : List Nat) (s : State) : State :=
  let s := s |> wr SRC.CAUSE src (maskSet (rd SRC.CAUSE src s) bit)
    |> onlyIf (maskHas (rd SRC.CAP_EN src s) bit = true) (captureRaise src bit d)
    |> pmuCount 3 (fun a => a / 32 % 256 == src && a % 32 == bit) 1
  if maskHas (rd SRC.EN src s) bit then
    let x := Tbl.get {} s.ev.srcx src
    let s := wr SRC.PEND_RAISES src (min (rd SRC.PEND_RAISES src s + 1) 65535) s
    { s with ev := { s.ev with srcx := Tbl.set {} s.ev.srcx src { x with since := maskSet x.since bit } } }
  else s

/-- Rule 1 of R395 holds for a source, or rule 2 were an enabled raise to arrive now. -/
def deliverNow (src : Nat) (s : State) : Bool :=
  let count := rd SRC.CFG_COUNT src s
  on EVT.CTL_DLV_EN 0 s &&
    ((count != 0 && decide (count ≤ rd SRC.PEND_RAISES src s)) ||
     (match (Tbl.get {} s.ev.srcx src).holdEnd with
      | none => true
      | some t => decide (t ≤ s.clk)))

/-- Little-endian bytes of a word. -/
def wordBytes (w : Nat) : List Byte :=
  [BitVec.ofNat 8 w, BitVec.ofNat 8 (w / 256), BitVec.ofNat 8 (w / 65536), BitVec.ofNat 8 (w / 16777216)]

/-- A word sent high byte first. -/
def beBytes (w : Nat) : List Byte := (wordBytes w).reverse

def wordsBytes (l : List Nat) : List Byte := l.flatMap wordBytes

/-- R397: the payload of an event packet. -/
def eventPayload (src : Nat) (s : State) : List Nat :=
  [rd SRC.PEND_RAISES src s, rd SRC.CAUSE src s, ptpSec s % 2 ^ 32, ptpNs s, rdWord .src src 0 4 s] ++
  (List.range 10).map (fun j => rdWord .src src 0 (6 + j) s) ++
  [s.nvm.devnum.getD 0]

/-- R396, R397: the event packet of a source, to the host, asks for its pool C buffer; the wrapper of a buffer manager in reset
answers the request, and the packet is lost (R13). -/
def deliverPacket (src mask : Nat) (pay : List Nat) (s : State) : State :=
  if (openSession SESS.CTL_EVT_EN s).isNone then bump EVT.NOHOST_CNT 0 s
  else if !s.up 213 then s |> wrapperAnswer 213 |> bump EVT.NOBUF_CNT 0
  else { s with ev := { s.ev with asks := s.ev.asks ++ [⟨src, mask, pay⟩] } }

/-- R316, R396: the relay of a delivery to the Mbakin peers waits for its heartbeat, or is lost with cause 9. -/
def deliverRelay (nested : Nat → Nat → List Nat → State → State) (src mask : Nat) (pay : List Nat) (s : State) : State :=
  if s.ev.relay.length < 256 then
    bump EVT.RELAY_CNT 0 { s with ev := { s.ev with relay := s.ev.relay ++ [src :: mask :: pay] } }
  else nested 182 9 [] s

/-- R398: a pulse of event pin p begins. -/
def pulsePin (src p : Nat) (s : State) : State :=
  onlyIf (maskHas (rd SRC.CFG_PIN src s) p = true ∧ maskHas (rd EVT.CTL_PIN_PULSE 0 s) p = true)
    (fun s => { s with ev := { s.ev with
      pulse := Tbl.set none s.ev.pulse p (some (s.clk + rd EVT.CTL_PULSE_W 0 s * 1000)) } }) s

/-- R395: the source starts anew, and its hold-off begins. -/
def holdOff (src : Nat) (s : State) : State :=
  { s with ev := { s.ev with srcx := Tbl.set {} s.ev.srcx src { since := 0, holdEnd := some (s.clk + rd SRC.CFG_HOLDOFF src s * 10000) } } }

/-- R396 to R398: a delivery on every route of the source's CFG, a relay while Mbakin is on (R316). `nested` raises the
causes the delivery itself meets. -/
def deliver (nested : Nat → Nat → List Nat → State → State) (src : Nat) (s : State) : State :=
  let mask := (Tbl.get {} s.ev.srcx src).since
  let pay := eventPayload src s
  let relays := fun (s : State) => on SRC.CFG_RELAY src s && on SYS.CTL_EN 0 s && on SYS.CTL_RELAY_EN 0 s && s.nvm.devnum.isSome
  let s := bump EVT.DLV_CNT 0 s
  let s := if on SRC.CFG_PKT src s then deliverPacket src mask pay s else s
  let s := if relays s then deliverRelay nested src mask pay s else s
  s |> pulsePin src 0 |> pulsePin src 1 |> wr SRC.PEND_RAISES src 0 |> holdOff src

/-- A raise that finds island 223 out of reset; `fuel` bounds the causes a delivery itself raises (log entry 7). -/
def raiseAt : Nat → Nat → Nat → List Nat → State → State
  | 0, src, bit, d, s => raiseCore src bit d s
  | n + 1, src, bit, d, s =>
    let s := raiseCore src bit d s
    if maskHas (rd SRC.EN src s) bit && deliverNow src s then deliver (raiseAt n) src s else s

/-- R394: a raise; while island 223 is in reset it is kept in a latch of one bit per cause. -/
def raise (src bit : Nat) (d : List Nat) (s : State) : State :=
  if s.up 223 then raiseAt 2 src bit d s
  else if s.ev.pending.any (fun p => p.1 == src && p.2.1 == bit) then s
  else { s with ev := { s.ev with pending := s.ev.pending ++ [(src, bit, d, some s.ptp)] } }

/-! Free values. -/

/-- Draw a value the spec leaves open (log entry 5). -/
def drawFree (s : State) : Nat × State := (Config.freeNat s.freeCount, { s with freeCount := s.freeCount + 1 })

/-! Register accesses refused or unusual (R386, R392). -/

/-- A cause of source 183 on an access: the offset, the source of the access and the value. -/
def accessCause (bit ofs v : Nat) (s : State) : State := raise 183 bit [ofs, s.cmd.source, v] s

/-- The access in progress ends with a status and a DETAIL (R375). -/
def setVerdict (st det : Nat) (s : State) : State := { s with cmd := { s.cmd with verdict := st, detail := det } }

/-- A write of an unlisted encoding: the field keeps its value, ENC_CNT and cause 3 (R7, R386). -/
def encReject (ofs v : Nat) (s : State) : State := s |> bump CMD.ENC_CNT 0 |> accessCause 3 ofs v |> setVerdict 6 0

/-- A write its block refuses by a rule of its own chapter: cause 6 (R386). -/
def refuseWrite (ofs v : Nat) (s : State) : State := s |> accessCause 6 ofs v |> setVerdict 6 0

/-- The access in progress carries privilege: session 0 and MMIO while session 0 is privileged, and image records
(R382). -/
def privileged (s : State) : Bool := s.cmd.source == 5 || ((s.cmd.source == 0 || s.cmd.source == 4) && s.cmd.priv)

/-- An access to a guarded register: without privilege it is counted, raises cause 4 and does nothing (R382). -/
def guarded (ofs v : Nat) (f : State → State) (s : State) : State :=
  if privileged s then f s else s |> bump CMD.GUARD_CNT 0 |> accessCause 4 ofs v |> setVerdict 4 0

/-- A command its register refuses with an ERRCODE of its own (R375). -/
def refuseCode (code : Nat) (s : State) : State := setVerdict 6 code s

/-- A packet for session i enters its ring, or is lost where the ring is full: counted, and cause 16 at the first loss
since the ring last took one (R371, R372). Whether it entered. -/
def ringPut (i : Nat) (p : Packet) (s : State) : Bool × State :=
  if ringRoom i p s then (true, ringWrite i p s)
  else
    let first := !(s.session i).fullRaised
    let s := bump RINGC.RING_DROP_CNT 0 s
    (false, if first then raise 183 16 [i] (s.setSession i { s.session i with fullRaised := true }) else s)

end Sys2Proof.Machine
end

