-- ==== Sys2Proof/Machine/Clock.lean ====
section
/-!
DEFINITION. The passing of time. Commands take no time of their own; a command that stands for the end of a wait happens
at the instant the wait was armed for, so it first lets time pass to that instant (log entry 2).
-/

namespace Sys2Proof.Machine

/-- The frequency correction of time: the host's while SRC_USED is the host, in HOLDOVER the one held (R269, R270, R282). -/
def freqNow (s : State) : Int :=
  if rd TIM.STS_SRC_USED 0 s = 3 then signed 32 (rd TIM.ADJ_FREQ 0 s)
  else if rd TIM.STS_STATE 0 s = 3 then s.tim.holdFreq else 0

/-- What is left of an amount after at most `step` of it has been taken off. -/
def towardZero (x : Int) (step : Nat) : Int := if 0 ≤ x then x - min x step else x + min (-x) step

/-- What d ns do to the timing island beside its time: the slew in progress (R273), the frequency correction's remainder, and the
frame timebase's slew toward PTP time (R279). -/
def timAfter (d : Nat) (s : State) : Tim :=
  let m := s.tim
  let st := d * rd TIM.SLEW_CFG_PH_SLEW 0 s * 65536 + m.slewRem
  let slew := towardZero m.slew (st / 1000000)
  let ft := d * rd TIM.SLEW_CFG_FR_SLEW 0 s * 65536 + m.frRem
  let fr := if m.realignAt = none then towardZero m.frErr (ft / 10000000) else m.frErr
  { m with
    slew := slew, slewRem := st % 1000000, slewed := m.slewed + (m.slew - slew), freqRem := (d * freqNow s + m.freqRem) % 1000000000
    frErr := fr, frRem := ft % 10000000 }

/-- PTP time d ns from now, 2^−16 ns from its epoch: it runs at REFCLK's rate with its frequency correction and the slew in
progress (R269, R273). -/
def ptpAfter (d : Nat) (s : State) : Int :=
  (s.ptp : Int) * 65536 + s.ptpFrac + d * 65536 + (d * freqNow s + s.tim.freqRem) / 1000000000 + (s.tim.slew - (timAfter d s).slew)

/-- The frame timebase d ns from now (R279). -/
def frameAfter (d : Nat) (s : State) : Int := ptpAfter d s + (timAfter d s).frErr

/-- Let d ns pass. Island 223 runs one cycle every 2 ns (PMU event 0x01, R400). -/
def pass (d : Nat) (s : State) : State :=
  pmuCount 1 (fun _ => true) ((s.clk + d) / 2 - s.clk / 2)
    { s with
      clk := s.clk + d, ptp := (ptpAfter d s).toNat / 65536, ptpFrac := (ptpAfter d s).toNat % 65536, tim := timAfter d s }

/-- Let time pass until an instant (ns since power-on), if it is not past. -/
def passTo (t : Nat) (s : State) : State := if s.clk < t then pass (t - s.clk) s else s

/-- The ns until a time that runs close to the nominal rate reaches `t` (2^−16 ns): each round takes off what the rate's
difference from the nominal one left, at most a few parts in 1,000. -/
def nsUntil (f : Nat → Int) (t : Int) : Nat → Nat → Nat
  | 0, d => d
  | k + 1, d => nsUntil f t k ((d : Int) - (f d - t) / 65536).toNat

/-- Let time pass until PTP time is `t`. -/
def passToPtp (t : Nat) (s : State) : State :=
  if s.ptp < t then pass (nsUntil (fun d => ptpAfter d s) (t * 65536) 12 (t - s.ptp)) s else s

/-- The frame timebase, ns from the PTP epoch (R279). -/
def frameBase (s : State) : Nat := (((s.ptp : Int) * 65536 + s.ptpFrac + s.tim.frErr) / 65536).toNat

/-- Downstream frame k of every tree starts when the frame timebase reaches this (R279). -/
def frameT0 (k : Nat) : Nat := k * 125000

/-- Let time pass until the frame timebase is `t`. -/
def passToFrame (t : Nat) (s : State) : State :=
  if frameBase s < t then pass (nsUntil (fun d => frameAfter d s) (t * 65536) 12 (t - frameBase s)) s else s

end Sys2Proof.Machine
end

