-- ==== Sys2Proof/Machine/RegOps.lean ====
section
/-!
DEFINITION. A write of a whole register word: every field of its table takes the write by its access code (R5), its
listed encodings (R7) and the locks (R386). What a block does with the written word stands with the block.
-/

namespace Sys2Proof.Machine

/-- The encoding is listed (R7). -/
def Legal.holds : Legal → Nat → Bool
  | .any, _ => true
  | .range lo hi step, v => decide (lo ≤ v ∧ v ≤ hi ∧ (v - lo) % step = 0)

/-- The LOCK an RWL field stands under. -/
def lockFld (sp : Sp) : Option Fld :=
  match sp with
  | .bpm => some BPM.CTL_LOCK
  | .cph => some CPH.CTL_LOCK
  | _ => none

/-- The field is locked: LOCK is set, or this very write sets it (R386). -/
def lockedBy (sp : Sp) (i word v : Nat) (s : State) : Bool :=
  match lockFld sp with
  | none => false
  | some l => on l i s || (l.word == word && v / 2 ^ l.lo % 2 == 1)

/-- Locked fields are skipped without a count: a replay of an image run (R357). -/
def skipsLocks (s : State) : Bool := s.cmd.source == 5 && (match s.nvm.run with | some r => r.skips | none => false)

/-- One field of a written word. Image replays skip locked fields without counting them (R357). -/
def writeField (sp : Sp) (i x word ofs v : Nat) (f : FieldDesc) (s : State) : State :=
  let fld : Fld := ⟨sp, word, f.hi, f.lo⟩
  let nv := v / 2 ^ f.lo % 2 ^ (f.hi + 1 - f.lo)
  match f.acc with
  | .ro => s
  | .rc => s
  | .w1c => wrx fld i x (rdx fld i x s &&& (2 ^ (f.hi + 1 - f.lo) - 1 - nv)) s
  | .w1s => wrx fld i x (rdx fld i x s ||| nv) s
  | .rw => if f.legal.holds nv then wrx fld i x nv s else encReject ofs v s
  | .wo => if f.legal.holds nv then wrx fld i x nv s else encReject ofs v s
  | .rwl =>
    if lockedBy sp i word v s then
      s |> onlyIf (skipsLocks s = false) (fun s => s |> bump CMD.RWL_CNT 0 |> accessCause 1 ofs v) |> setVerdict 6 0
    else if f.legal.holds nv then wrx fld i x nv s else encReject ofs v s
  | .wot =>
    if s.cmd.wotDone.contains (⟨sp, i, x, word⟩, f.lo) then
      s |> onlyIf (skipsLocks s = false) (fun s => s |> bump CMD.WOT_CNT 0 |> accessCause 0 ofs v) |> setVerdict 6 0
    else if f.legal.holds nv then
      wrx fld i x nv { s with cmd := { s.cmd with wotDone := s.cmd.wotDone ++ [(⟨sp, i, x, word⟩, f.lo)] } }
    else encReject ofs v s
  | .rwh => s |> bump CMD.RWH_CNT 0 |> accessCause 2 ofs v |> setVerdict 6 0

/-- A software write of a word of a space, field by field. -/
def writeWord (sp : Sp) (i x word ofs v : Nat) (s : State) : State :=
  match regDesc sp word with
  | none => s
  | some r => allOf r.fields (writeField sp i x word ofs v) s

/-- A software write of a register. -/
def writeReg (sp : Sp) (i word v : Nat) (s : State) : State := writeWord sp i 0 word (regOffset sp i word) v s

/-- A software read of a register word: WO fields read 0, RC fields clear (R5). -/
def readWord (sp : Sp) (i x word : Nat) (s : State) : Nat × State :=
  match regDesc sp word with
  | none => (rdWord sp i x word s, s)
  | some r =>
    let v := r.fields.foldl (fun a f =>
      if f.acc = .wo then a else a + rdx ⟨sp, word, f.hi, f.lo⟩ i x s * 2 ^ f.lo) 0
    (v, allOf r.fields (fun f => onlyIf (f.acc = .rc) (wrx ⟨sp, word, f.hi, f.lo⟩ i x 0)) s)

/-- What an access returned is left for whoever made it. -/
def setRead (v : Nat) (s : State) : State := { s with cmd := { s.cmd with readData := v } }

/-- An index field that advances after an access while its AUTO_INC is 1, wrapping after the last of `n`. -/
def stepIndex (auto_ f : Fld) (i n : Nat) (s : State) : State :=
  onlyIf (on auto_ i s = true) (wr f i (if rd f i s + 1 = n then 0 else rd f i s + 1)) s

/-- R388: GO while a command is held behind a running one. -/
def goBusy (ofs v : Nat) (s : State) : State := s |> bump CMD.GO_BUSY_CNT 0 |> accessCause 7 ofs v

end Sys2Proof.Machine
end

