-- ==== Sys2Proof/Machine/Buffers.lean ====
section
/-!
DEFINITION. The buffer manager (09_buffers.md, R194 to R213): pools, descriptors, quotas, arbitration, access, and the
meanings of its commands.
-/

namespace Sys2Proof.Machine

def bufSize (p : Nat) : Nat := if p = 0 then 256 else if p = 1 then 2048 else if p = 2 then 10240 else 128

/-- R195: the pool of an allocation and the buffers it takes, by class (control or data) and length. -/
def poolOf (control : Bool) (len : Nat) : Nat × Nat :=
  if control && decide (len ≤ 128) then (3, 1)
  else if len ≤ 256 then (0, 1) else if len ≤ 2048 then (1, 1) else if len ≤ 10240 then (2, 1) else (2, 2)

/-! Handles (R196). -/

def handlePool (h : Nat) : Nat := h / 2 ^ 30 % 4
def handleIndex (h : Nat) : Nat := h / 16 % 2 ^ 26
def handleGen (h : Nat) : Nat := h % 16
def handleOf (p i g : Nat) : Nat := p * 2 ^ 30 + i * 16 + g % 16

def descKey (p i : Nat) : Nat := p * 2 ^ 26 + i
def descAt (p i : Nat) (s : State) : Desc := Tbl.get {} s.bpm.descs (descKey p i)
def setDesc (p i : Nat) (d : Desc) (s : State) : State :=
  { s with bpm := { s.bpm with descs := Tbl.set {} s.bpm.descs (descKey p i) d } }

def answer (r : Nat) (a : BufAnswer) (s : State) : State :=
  { s with bpm := { s.bpm with answers := Tbl.set .ok s.bpm.answers r a } }

def setUsed (r p n : Nat) (s : State) : State := wrx QUOTA.USED r p n s

/-- Pop the head of a free list: the buffers listed and never handed out in ascending order, then the freed ones (R198,
R205). -/
def popFree (p : Nat) (s : State) : Nat × State :=
  let f := Tbl.get 0 s.bpm.fresh p
  if f < listedOf p s then (f, { s with bpm := { s.bpm with fresh := Tbl.set 0 s.bpm.fresh p (f + 1) } })
  else match Tbl.get [] s.bpm.freed p with
    | [] => (0, s)
    | i :: rest => (i, { s with bpm := { s.bpm with freed := Tbl.set [] s.bpm.freed p rest } })

/-- Grant n buffers of pool p to requester r: the descriptor, the charge, ALLOC_CNT; the answer is the handle. -/
def grantBuffers (r p n len count holders : Nat) (s : State) : Nat × State :=
  let (i, s) := popFree p s
  let (j, s) := if n = 2 then popFree p s else (0, s)
  let g := (descAt p i s).gen
  let s := s |> setDesc p i { alloc := true, pair := n == 2, count := count, owner := r, holders := holders, gen := g,
                              len := len, second := j }
    |> setUsed r p (usedBy r p s + n) |> bump (BPM.ALLOC_CNT0.at p) 0
  (handleOf p i g, s)

/-- NO_BUFFER of pool p (R204). -/
def noBuffer (p : Nat) (s : State) : State := s |> bump (BPM.NOBUF_CNT0.at p) 0 |> raise 166 p []

/-! Checked operations (R199, R200). -/

/-- The check of a handle, in the order of R200: the refusal, or none. Before LOCK there is no split and no buffer of it
(R197). -/
def handleCheck (r h : Nat) (s : State) : Option BufAnswer :=
  let d := descAt (handlePool h) (handleIndex h) s
  if poolCount (handlePool h) s ≤ handleIndex h ∨ on BPM.CTL_LOCK 0 s = false then some .range
  else if d.gen ≠ handleGen h ∨ d.count = 0 then some .stale
  else if maskHas d.holders r = false then some .notHolder
  else none

/-- A refused operation: counted, raised with the handle, the operation and the requester, answered. -/
def bufRefuse (op r h : Nat) (a : BufAnswer) (s : State) : State :=
  let d := [h, Config.bufferOp op, r]
  match a with
  | .range => s |> bump BPM.RANGE_CNT 0 |> raise 166 6 d |> answer r .range
  | .stale =>
    if op = 2 then s |> bump BPM.DFREE_CNT 0 |> raise 166 4 d |> answer r .doubleFree
    else s |> bump BPM.STALE_ACC_CNT 0 |> raise 166 9 d |> answer r .stale
  | .notHolder => s |> bump BPM.NONHOLD_CNT 0 |> raise 166 5 d |> answer r .notHolder
  | a => s |> bump BPM.SHARE_REF_CNT 0 |> raise 166 7 d |> answer r a

/-- A buffer, or both of a pair, returns to the free list's tail; its generation advances, its charge ends. -/
def returnBuffer (p i : Nat) (s : State) : State :=
  let d := descAt p i s
  let n := if d.pair then 2 else 1
  let back := fun (i : Nat) (s : State) =>
    { s with bpm := { s.bpm with freed := Tbl.set [] s.bpm.freed p (Tbl.get [] s.bpm.freed p ++ [i]) } }
  let s := setDesc p i { d with alloc := false, pair := false, count := 0, holders := 0, gen := (d.gen + 1) % 16 } s
  let s := setUsed d.owner p (usedBy d.owner p s - n) s |> back i
  if d.pair then
    let d2 := descAt p d.second s
    s |> setDesc p d.second { d2 with gen := (d2.gen + 1) % 16 } |> back d.second
  else s

def bufShare (r h n dst : Nat) (s : State) : State :=
  match handleCheck r h s with
  | some a => bufRefuse 1 r h a s
  | none =>
    let p := handlePool h
    let i := handleIndex h
    let d := descAt p i s
    if 255 < d.count + n then bufRefuse 1 r h .shareRefused s
    else s |> setDesc p i { d with count := d.count + n, holders := maskSet d.holders dst } |> answer r .ok

def bufFree (r h : Nat) (s : State) : State :=
  match handleCheck r h s with
  | some a => bufRefuse 2 r h a s
  | none =>
    let p := handlePool h
    let i := handleIndex h
    let d := descAt p i s
    if d.count = 1 then s |> returnBuffer p i |> answer r .ok
    else s |> setDesc p i { d with count := d.count - 1 } |> answer r .ok

def bufTransfer (r h dst : Nat) (s : State) : State :=
  match handleCheck r h s with
  | some a => bufRefuse 3 r h a s
  | none =>
    let p := handlePool h
    let i := handleIndex h
    let d := descAt p i s
    let n := if d.pair then 2 else 1
    s |> setUsed d.owner p (usedBy d.owner p s - n)
      |> fun s => setUsed dst p (usedBy dst p s + n) s
      |> setDesc p i { d with owner := dst, holders := maskSet d.holders dst } |> answer r .ok

/-- A FREE sent by another block of the device; the wrapper answers while island 213 is in reset. -/
def freeHandle (r h : Nat) (s : State) : State := if s.up 213 then bufFree r h s else wrapperAnswer 213 s

/-! Requests (R204). -/

def bufQueue (p : Nat) (s : State) : List AllocReq := Tbl.get [] s.bpm.queue p
def setQueue (p : Nat) (q : List AllocReq) (s : State) : State :=
  { s with bpm := { s.bpm with queue := Tbl.set [] s.bpm.queue p q } }
def bufWaiting (p : Nat) (s : State) : List AllocReq := Tbl.get [] s.bpm.waiting p
def setWaiting (p : Nat) (q : List AllocReq) (s : State) : State :=
  { s with bpm := { s.bpm with waiting := Tbl.set [] s.bpm.waiting p q } }

/-- R204: a requester queues up to 8 requests a pool; its next one waits at its crossing (R12). -/
def queueAlloc (p : Nat) (q : AllocReq) (s : State) : State :=
  if (bufQueue p s).countP (·.req == q.req) < 8 then setQueue p (bufQueue p s ++ [q]) s
  else setWaiting p (bufWaiting p s ++ [q]) s

/-- The waiting requests for which room has come enter, oldest first. -/
def refillQueue (p : Nat) (s : State) : State :=
  allOf (bufWaiting p s) (queueAlloc p) (setWaiting p [] s)

/-- A refused length (R195). -/
def tooLong (r : Nat) (s : State) : State :=
  s |> bump BPM.TOOLONG_CNT 0 |> raise 166 8 [0, Config.bufferOp 0, r] |> answer r .tooLong

/-! Commands. -/

/-- ALLOC (R195, R199, R204): refused at once, or queued for its pool's arbiter. -/
def bufAlloc (r : Nat) (control : Bool) (len count holders : Nat) (s : State) : State :=
  if len = 0 ∨ 20480 < len then tooLong r s
  else if count = 0 ∨ 255 < count ∨ holders = 0 then bufRefuse 0 r 0 .shareRefused s
  else
    let (p, n) := poolOf control len
    queueAlloc p { req := r, need := n, len := len, count := count, holders := holders } s

def execAlloc (r : Fin 32) (control : Bool) (len : BitVec 15) (count : BitVec 8) (holders : Word) (s : State) :
    Host.Outcome State Fault Refusal :=
  onIsland 213 s (bufAlloc r control len.toNat count.toNat holders.toNat)

def execShare (r : Fin 32) (h : Word) (n : BitVec 8) (dst : Fin 32) (s : State) : Host.Outcome State Fault Refusal :=
  onIsland 213 s (bufShare r h.toNat n.toNat dst)

def execFree (r : Fin 32) (h : Word) (s : State) : Host.Outcome State Fault Refusal :=
  onIsland 213 s (bufFree r h.toNat)

def execTransfer (r : Fin 32) (h : Word) (dst : Fin 32) (s : State) : Host.Outcome State Fault Refusal :=
  onIsland 213 s (bufTransfer r h.toNat dst)

/-! Arbitration (R204). -/

/-- A sweep for requester r is in progress (R207). -/
def reclaiming (r : Nat) (s : State) : Bool := s.bpm.reclaim.any fun rs => rs.contains r

/-- The head of requester r's queue; a requester under reclaim is held back (R207). -/
def headOf (p r : Nat) (s : State) : Option AllocReq :=
  if reclaiming r s then none else (bufQueue p s).find? fun q => q.req == r

/-- Remove the head of requester r's queue. -/
def dropHead (r : Nat) : List AllocReq → List AllocReq
  | [] => []
  | q :: l => if q.req = r then l else q :: dropHead r l

/-- The requesters in round-robin order, starting after the last granted. -/
def roundRobin (last : Nat) : List Nat := (List.range 32).map fun i => (last + 1 + i) % 32

/-- The head of r is answered NO_BUFFER. -/
def refuseHead (p r : Nat) (s : State) : State :=
  s |> setQueue p (dropHead r (bufQueue p s)) |> noBuffer p |> answer r .noBuffer

/-- Grant the head of r where it is eligible now: whether it was granted. -/
def grantHead (p r : Nat) (s : State) : Bool × State :=
  match headOf p r s with
  | none => (false, s)
  | some q =>
    if eligible r p q.need s then
      let (h, s) := grantBuffers r p q.need q.len q.count q.holders (setQueue p (dropHead r (bufQueue p s)) s)
      (true, answer r (.handle h) { s with bpm := { s.bpm with last := Tbl.set 31 s.bpm.last p r } })
    else (false, s)

/-- The handle in requester r's last answer. -/
def handleAnswer (r : Nat) (s : State) : Option Nat :=
  match Tbl.get .ok s.bpm.answers r with
  | .handle h => some h
  | _ => none

/-- Walk the requesters while lanes are left; answers the lanes left. -/
def grantWalk (p : Nat) : List Nat → Nat → State → Nat × State
  | [], lanes, s => (lanes, s)
  | r :: rs, lanes, s =>
    if lanes = 0 then (0, s)
    else
      let g := grantHead p r s
      grantWalk p rs (if g.1 then lanes - 1 else lanes) g.2

/-- One arbiter cycle of pool p. -/
def arbiterCycle (p : Nat) (s : State) : State :=
  let heads := (roundRobin (Tbl.get 31 s.bpm.last p)).filter fun r => (headOf p r s).isSome
  let ok := heads.filter fun r => match headOf p r s with | some q => eligible r p q.need s | none => false
  let bad := heads.filter fun r => !ok.contains r
  let s := allOf bad (refuseHead p) s
  let before := fun r => (headOf p r s).map (fun q => q)
  let lanes := if p = 0 ∨ p = 1 then 4 else 1
  let g := grantWalk p ok lanes s
  let served := ok.filter fun r => decide ((bufQueue p g.2).countP (·.req == r) < (bufQueue p s).countP (·.req == r))
  let left := ok.filter fun r => !served.contains r
  let s2 := allOf left (fun r s => match before r with
    | some q => if eligible r p q.need s then s else refuseHead p r s
    | none => s) g.2
  refillQueue p (if g.1 = 0 ∨ left ≠ [] then s2 else (grantWalk p ok g.1 s2).2)

/-! Event packets (R396, R397): requester 18 asks in pool C like any other. -/

/-- The requests of requester 18 that wait in pool C. -/
def eventRequests (s : State) : Nat := (bufQueue 3 s ++ bufWaiting 3 s).countP (·.req == 18)

/-- The event packets that have no request in pool C yet make one. -/
def eventAsks (s : State) : State :=
  allOf (List.range (s.ev.asks.length - eventRequests s))
    (fun _ => queueAlloc 3 { req := 18, need := 1, len := 80, count := 1, holders := 2 ^ 18 }) s

/-- An event packet that has its buffer goes to the lowest-numbered session open for events (R369, R396). -/
def eventDeliver (e : EventAsk) (s : State) : State :=
  match openSession SESS.CTL_EVT_EN s with
  | none => bump EVT.NOHOST_CNT 0 s
  | some i => (ringPut i { kind := 2, opcode := 0x80, arg0 := e.src, arg1 := e.mask, payload := wordsBytes e.pay } s).2

/-- The oldest event packet's request has been answered: the packet is delivered and its buffer freed, or it is lost (R396). -/
def eventAnswer (s : State) : State :=
  match s.ev.asks with
  | [] => s
  | e :: rest =>
    let s := { s with ev := { s.ev with asks := rest } }
    match handleAnswer 18 s with
    | some h => s |> eventDeliver e |> bufFree 18 h
    | none => bump EVT.NOBUF_CNT 0 s

/-- One cycle of pool p's arbiter, with what its answer to the events block does. -/
def arbitrate (p : Nat) (s : State) : State :=
  let n := eventRequests s
  let s := arbiterCycle p s
  if eventRequests s < n then eventAnswer s else s

/-- BUFFER_ARBITRATION (R204): one cycle of the four arbiters. -/
def execBufferArbitration (s : State) : Host.Outcome State Fault Refusal :=
  onIsland 213 s fun s => s |> eventAsks |> allOf [0, 1, 2, 3] arbitrate

/-! Reclaim (R207). -/

/-- A sweep starts for the requesters of a reset island. -/
def reclaimStart (rs : List Nat) (s : State) : State :=
  if on BPM.CTL_RECLAIM_EN 0 s && rs != [] then
    { s with bpm := { s.bpm with reclaim := s.bpm.reclaim ++ [rs] } } |> raise 166 12 []
  else s

/-- The descriptors a sweep frees: allocated, and held or owned by a reclaimed requester. -/
def reclaimable (rs : List Nat) (s : State) : List Nat :=
  (s.bpm.descs.filter fun e => e.2.alloc && rs.any fun r => maskHas e.2.holders r || e.2.owner == r).map fun e => e.1

/-- One descriptor of a sweep: its buffer, or both of its pair, freed and counted. -/
def reclaimDesc (k : Nat) (s : State) : State :=
  let n := if (descAt (k / 2 ^ 26) (k % 2 ^ 26) s).pair then 2 else 1
  s |> returnBuffer (k / 2 ^ 26) (k % 2 ^ 26) |> bumpBy BPM.RECLAIM_CNT 0 n

/-- RECLAIM_DONE: what the oldest sweep freed, and its end. -/
def reclaimDone (s : State) : State :=
  match s.bpm.reclaim with
  | [] => s
  | rs :: rest =>
    let s := allOf (reclaimable rs s) reclaimDesc s
    { s with bpm := { s.bpm with reclaim := rest } } |> raise 166 13 []

def execReclaimDone (s : State) : Host.Outcome State Fault Refusal := onIsland 213 s reclaimDone

/-! Allocations made inside other commands (R202). -/

/-- The sweeps that hold requester r's requests back end, oldest first (R207, log entry 111). -/
def endSweeps (r : Nat) (s : State) : State :=
  allOf s.bpm.reclaim (fun _ s => if reclaiming r s then reclaimDone s else s) s

/-- Arbiter cycles of pool p until requester r has no request in its queue. -/
def arbitrateFor (p r : Nat) : Nat → State → State
  | 0, s => s
  | n + 1, s => if (bufQueue p s).any (·.req == r) then arbitrateFor p r n (arbitrate p s) else s

/-- A request is answered before the command that makes it goes on: at once where it is alone in its pool's queues, else in
its turn (R204, log entry 12). -/
def serve (p : Nat) (q : AllocReq) (s : State) : Option Nat × State :=
  if bufQueue p s = [] then
    if eligible q.req p q.need s then
      let (h, s) := grantBuffers q.req p q.need q.len q.count q.holders s
      (some h, answer q.req (.handle h) { s with bpm := { s.bpm with last := Tbl.set 31 s.bpm.last p q.req } })
    else (none, s |> noBuffer p |> answer q.req .noBuffer)
  else
    let s := queueAlloc p q s
    let s := arbitrateFor p q.req ((bufQueue p s).length + (bufWaiting p s).length) s
    (handleAnswer q.req s, s)

/-- An allocation made inside another command. While island 213 is in reset its wrapper answers (R208). -/
def allocNow (r : Nat) (control : Bool) (len count holders : Nat) (s : State) : Option Nat × State :=
  if !s.up 213 then (none, wrapperAnswer 213 s)
  else if len = 0 ∨ 20480 < len then (none, tooLong r s)
  else
    let x := poolOf control len
    serve x.1 { req := r, need := x.2, len := len, count := count, holders := holders } (endSweeps r s)

/-- A J pair for a fragmented frame (R195). -/
def allocPair (r : Nat) (s : State) : Option Nat × State :=
  if !s.up 213 then (none, wrapperAnswer 213 s)
  else serve 2 { req := r, need := 2, len := 20480, count := 1, holders := 2 ^ r } (endSweeps r s)

/-! Packets to the host that no session asked for (R369, R371, R372). -/

inductive HostAnswer where
  | noSession | noBuffer | full | sent
  deriving DecidableEq, Repr

/-- A received message goes to the lowest-numbered session open for its kind, through a control buffer of the requester for
the packet and its header (R195, R202), freed once it has entered the ring or is lost. -/
def hostPacket (enable : Fld) (req : Nat) (p : Packet) (s : State) : HostAnswer × State :=
  match openSession enable s with
  | none => (.noSession, s)
  | some i => match allocNow req true (16 + p.payload.length) 1 (2 ^ req) s with
    | (none, s) => (.noBuffer, s)
    | (some h, s) =>
      let x := ringPut i p s
      (if x.1 then .sent else .full, freeHandle req h x.2)

/-! Access (R206, R209). -/

/-- Where byte k of a buffer lies: in the second buffer of a pair past the first. -/
def byteKey (p i k : Nat) (s : State) : Nat :=
  let size := bufSize p
  if k < size then p * 2 ^ 40 + i * size + k else p * 2 ^ 40 + (descAt p i s).second * size + (k - size)

def putBytes (p i : Nat) : Nat → List Byte → State → State
  | _, [], s => s
  | k, b :: l, s =>
    putBytes p i (k + 1) l { s with bpm := { s.bpm with bytes := Tbl.set 0 s.bpm.bytes (byteKey p i k s) b.toNat } }

def getBytes (p i k n : Nat) (s : State) : List Byte :=
  (List.range n).map fun j => BitVec.ofNat 8 (Tbl.get 0 s.bpm.bytes (byteKey p i (k + j) s))

/-- An access the buffer manager refuses: counted, cause 9 with the handle and the requester. -/
def refuseAccess (r h : Nat) (s : State) : State :=
  s |> bump BPM.STALE_ACC_CNT 0 |> raise 166 9 [h, Config.bufferOp 4, r] |> answer r .error

/-- R206: the access may be made: the handle is current, the sender a holder or the owner, the bytes within the buffer. -/
def accessOk (r h ofs n : Nat) (s : State) : Bool :=
  let p := handlePool h
  let d := descAt p (handleIndex h) s
  let size := if d.pair then 2 * bufSize p else bufSize p
  decide (handleIndex h < poolCount p s) && d.alloc && d.gen == handleGen h && (maskHas d.holders r || d.owner == r) &&
    decide (ofs + n ≤ size)

/-- R209: the granule of byte k of a buffer; pools S, M and J lie in this order from granule 0 (log entry 111). Pool C lies on
the die. -/
def granuleAt (p i k : Nat) (s : State) : Option Nat :=
  let j := if k < bufSize p then i else (descAt p i s).second
  let o := k % bufSize p / 256
  if p = 0 then some j
  else if p = 1 then some (poolCount 0 s + 8 * j + o)
  else if p = 2 then some (poolCount 0 s + 8 * poolCount 1 s + 40 * j + o)
  else none

/-- The granules of n bytes of a buffer from byte ofs on. -/
def granulesOf (p i ofs n : Nat) (s : State) : List Nat :=
  if n = 0 then []
  else ((List.range ((ofs + n - 1) / 256 + 1 - ofs / 256)).map fun j => (ofs / 256 + j) * 256).filterMap fun k => granuleAt p i k s

/-- The stack and the pseudo-channel a granule lies in (R209). -/
def stackOf (g : Nat) : Nat := g % 2
def channelOf (g : Nat) : Nat := g / 2 % 32

/-- The stacks an access touches. -/
def stacksOf (h ofs n : Nat) (s : State) : List Nat :=
  [0, 1].filter fun st => (granulesOf (handlePool h) (handleIndex h) ofs n s).any fun g => stackOf g == st

/-- The first island in reset on an access's way to its stacks: a controller, then its PHY (R13). -/
def stackDown (h ofs n : Nat) (s : State) : Option Nat :=
  ((stacksOf h ofs n s).flatMap fun st => [214 + st, 216 + st]).find? fun i => !s.up i

/-- R206: a write of bytes: whether it was stored. -/
def writeBuf (r h ofs : Nat) (b : List Byte) (s : State) : Bool × State :=
  if !accessOk r h ofs b.length s then (false, refuseAccess r h s)
  else match stackDown h ofs b.length s with
    | some i => (false, s |> wrapperAnswer i |> answer r .error)
    | none => (true, putBytes (handlePool h) (handleIndex h) ofs b s)

/-- R206: a read of n bytes: the bytes, or an error response. -/
def readBuf (r h ofs n : Nat) (s : State) : Option (List Byte) × State :=
  if !accessOk r h ofs n s then (none, refuseAccess r h s)
  else match stackDown h ofs n s with
    | some i => (none, s |> wrapperAnswer i |> answer r .error)
    | none => (some (getBytes (handlePool h) (handleIndex h) ofs n s), s)

/-- R209: what ECC finds in granule g of a read: a corrected error is counted, an uncorrectable one is an error response. -/
def eccFound (r g : Nat) (uncorrectable : Bool) (b : List Byte) (s : State) : State :=
  let st := stackOf g
  if uncorrectable then
    { s with bpm := { s.bpm with ueAt := some s.clk } } |> bump (BPM.HBM_UE_CNT0.at st) 0 |> raise (167 + st) 1 [g] |> answer r .error
  else s |> bump (BPM.HBM_CE_CNT0.at st) 0 |> raise (167 + st) 0 [] |> answer r (.data b)

/-- R206, R209: a read of a whole stored frame by requester r, with what ECC found in a granule of it: the bytes, or an error
response. -/
def readStored (r h : Nat) (ecc : Option (Nat × Bool)) (s : State) : Option (List Byte) × State :=
  let n := (descAt (handlePool h) (handleIndex h) s).len
  let x := readBuf r h 0 n s
  match x.1, ecc with
  | some b, some (g, bad) =>
    if (granulesOf (handlePool h) (handleIndex h) 0 n s).contains g then (if bad then none else some b, eccFound r g bad b x.2) else x
  | _, _ => x

/-- BUFFER_ACCESS: a read of `len` bytes, or a write of `data`; `ecc` is what ECC found in a granule of a read. -/
def bufAccess (r h ofs len : Nat) (data : Option (List Byte)) (ecc : Option (Nat × Bool)) (s : State) : State :=
  match data with
  | some b => let x := writeBuf r h ofs b s; if x.1 then answer r .ok x.2 else x.2
  | none => match readBuf r h ofs len s with
    | (none, s) => s
    | (some b, s) => match ecc with
      | some (g, bad) =>
        if (granulesOf (handlePool h) (handleIndex h) ofs len s).contains g then eccFound r g bad b s else answer r (.data b) s
      | none => answer r (.data b) s

/-- The bytes an access covers. -/
def HeldAccess.bytes (a : HeldAccess) : Nat := match a.data with | some b => b.length | none => a.len

/-- The access touches a stack whose PHY retrains. -/
def mustWait (a : HeldAccess) (s : State) : Bool :=
  (stacksOf a.handle a.ofs a.bytes s).any fun st => s.bpm.retraining.contains st

/-- R209: while a PHY retrains its controller holds its requests by back-pressure. -/
def heldAccess (a : HeldAccess) (s : State) : State :=
  if mustWait a s then { s with bpm := { s.bpm with held := s.bpm.held ++ [a] } }
  else bufAccess a.req a.handle a.ofs a.len a.data a.ecc s

/-- A read of a stored frame that is part of another command touches a stack whose PHY retrains: the command waits, and how long
it has waited is kept (R209). -/
def holdRead (r h : Nat) (s : State) : Option State :=
  let a : HeldAccess := {
    req := r, handle := h, ofs := 0, len := (descAt (handlePool h) (handleIndex h) s).len, data := none, ecc := none, since := s.clk, inner := true }
  if mustWait a s then
    some (if s.bpm.held.any fun b => b.inner && b.req == r && b.handle == h then s
      else { s with bpm := { s.bpm with held := s.bpm.held ++ [a] } })
  else none

def execBufferAccess (r : Fin 32) (h : Word) (ofs len : BitVec 15) (data : Option (List Byte))
    (ecc : Option (Nat × Bool)) (s : State) : Host.Outcome State Fault Refusal :=
  onIsland 213 s (heldAccess {
    req := r, handle := h.toNat, ofs := ofs.toNat, len := len.toNat, data := data, ecc := ecc, since := s.clk })

/-! The split, the free lists and the quotas (R197, R198, R203). -/

def minSum (p : Nat) (s : State) : Nat := (List.range 32).foldl (fun a r => a + rdx QUOTA.MIN r p s) 0

/-- R197: a write of LOCK is refused. -/
def lockRefused (s : State) : Bool :=
  let c := fun p => poolCount p s
  (List.range 4).any (fun p => c p == 0 || decide (c p < minSum p s)) ||
  decide (51539607552 < 256 * c 0 + 2048 * c 1 + 10240 * c 2 + 8 * (c 0 + c 1 + c 2))

/-- POOL_LOCK (R197, R198, R210): LOCK is set and the building of the free lists starts; after LOCK the write is discarded with
the RWL cause. -/
def poolLock (s : State) : State :=
  if on BPM.CTL_LOCK 0 s then s |> bump CMD.RWL_CNT 0 |> accessCause 1 (regOffset .bpm 0 0) 1 |> setVerdict 6 0
  else if lockRefused s then s |> raise 166 11 [] |> setVerdict 6 0
  else { s with bpm := { s.bpm with building := some s.clk } } |> wr BPM.CTL_LOCK 0 1 |> wr BPM.STS_INIT_BUSY 0 1

def execPoolLock (s : State) : Host.Outcome State Fault Refusal := onIsland 213 s poolLock

/-- FREE_LIST_DONE (R198). -/
def execFreeListDone (s : State) : Host.Outcome State Fault Refusal :=
  onIsland 213 s fun s =>
    if on BPM.STS_INIT_BUSY 0 s then
      wr BPM.STS_INIT_BUSY 0 0 { s with bpm := { s.bpm with listed := true, building := none } }
    else s

/-- A write of QUOTA_DATA (R203, R211): word 0 is staged, word 1 commits both. -/
def quotaWrite (w : Nat) (s : State) : State :=
  let r := rd BPM.QUOTA_IDX_REQ 0 s
  let p := rd BPM.QUOTA_IDX_POOL 0 s
  let k := rd BPM.QUOTA_IDX_WORD 0 s
  let v := w % 2 ^ 27
  let s :=
    if k = 0 then { s with bpm := { s.bpm with minStage := v } }
    else if k = 1 then
      let m := s.bpm.minStage
      if v < m ∨ poolCount p s < minSum p s - rdx QUOTA.MIN r p s + m then s |> raise 166 10 [] |> setVerdict 6 0
      else s |> wrx QUOTA.MIN r p m |> wrx QUOTA.MAX r p v
    else s
  if on BPM.QUOTA_IDX_AUTO_INC 0 s then
    if k < 2 then wr BPM.QUOTA_IDX_WORD 0 (k + 1) s
    else s |> wr BPM.QUOTA_IDX_WORD 0 0 |> wr BPM.QUOTA_IDX_POOL 0 ((p + 1) % 4)
      |> onlyIf (p = 3) (wr BPM.QUOTA_IDX_REQ 0 ((r + 1) % 32))
  else s

/-- QUOTA_COMMIT. -/
def execQuotaCommit (w : Word) (s : State) : Host.Outcome State Fault Refusal := onIsland 213 s (quotaWrite w.toNat)

/-! The descriptor snapshot (R210). -/

/-- DESC_SNAPSHOT (R210): a write of DESC_HANDLE. -/
def descSnapshot (h : Nat) (s : State) : State :=
  let d := if handleIndex h < poolCount (handlePool h) s then descAt (handlePool h) (handleIndex h) s else {}
  s |> wr BPM.DESC_HANDLE 0 h
    |> wr BPM.DESC0_ALLOC 0 (b2n d.alloc) |> wr BPM.DESC0_PAIR 0 (b2n d.pair) |> wr BPM.DESC0_COUNT 0 d.count
    |> wr BPM.DESC0_OWNER 0 d.owner |> wr BPM.DESC0_GEN 0 d.gen |> wr BPM.DESC1 0 d.holders
    |> wr BPM.DESC2_LEN 0 d.len

def execDescSnapshot (h : Word) (s : State) : Host.Outcome State Fault Refusal := onIsland 213 s (descSnapshot h.toNat)

/-- HBM_PHY_TRAINED (R209, R329): the training of stack st completes, or fails. -/
def execHbmPhyTrained (st : Fin 2) (ok : Bool) (s : State) : Host.Outcome State Fault Refusal :=
  onIsland (214 + st) s fun s =>
    if ok then wr (BPM.HBM_STS0_READY.at st) 0 1 s else raise (167 + st) 3 [] s

/-- HBM_TEMP_SAMPLE (R209). -/
def execHbmTempSample (st : Fin 2) (t : BitVec 8) (s : State) : Host.Outcome State Fault Refusal :=
  onIsland (214 + st) s fun s =>
    s |> wr (BPM.HBM_STS0_TEMP.at st) 0 t.toNat
      |> onlyIf (rd (BPM.HBM_CFG0_TEMP_WARN.at st) 0 s ≤ t.toNat) (raise (167 + st) 2 [])

/-- HBM_PHY_TRAIN_LOSS (R209): the PHY retrains, its requests held. -/
def execHbmPhyTrainLoss (st : Fin 2) (s : State) : Host.Outcome State Fault Refusal :=
  onIsland (214 + st) s fun s =>
    let s := { s with bpm := { s.bpm with retraining := s.bpm.retraining.filter (· != st.val) ++ [st.val] } }
    s |> wr (BPM.HBM_STS0_READY.at st) 0 0 |> raise (167 + st) 3 []

/-- The end of stack st's retraining: the requests that no longer wait for a stack resume in order; a read that waited for st
past 1.2 µs raises cause 4 (R209). -/
def retrainDone (st : Nat) (s : State) : State :=
  if !s.bpm.retraining.contains st then s
  else
    let s := { s with bpm := { s.bpm with retraining := s.bpm.retraining.filter (· != st) } }
    let late := s.bpm.held.filter fun a =>
      a.data.isNone && (stacksOf a.handle a.ofs a.bytes s).contains st && decide (a.since + 1200 < s.clk)
    let go := s.bpm.held.filter fun a => !mustWait a s
    let s := { s with bpm := { s.bpm with held := s.bpm.held.filter fun a => mustWait a s } }
    s |> wr (BPM.HBM_STS0_READY.at st) 0 1 |> allOf late (fun _ => raise (167 + st) 4 [])
      |> allOf (go.filter fun a => !a.inner) (fun a => bufAccess a.req a.handle a.ofs a.len a.data a.ecc)

def execHbmRetrainDone (st : Fin 2) (s : State) : Host.Outcome State Fault Refusal :=
  onIsland (214 + st) s (retrainDone st)

end Sys2Proof.Machine
end

