-- ==== Sys2Proof/Machine/Parse.lean ====
section
/-!
DEFINITION. The parse of an Ethernet header (08_classification.md, R173).
-/

namespace Sys2Proof.Machine

def byteAt (b : List (BitVec 8)) (i : Nat) : Nat := (b.getD i 0).toNat

/-- The n bytes at i, most significant first; bytes past the frame's end read 0. -/
def bytesAt (b : List (BitVec 8)) (i n : Nat) : Nat := (List.range n).foldl (fun a j => a * 256 + byteAt b (i + j)) 0

/-- A number in n bytes, most significant first. -/
def bytesOf (n v : Nat) : List (BitVec 8) := (List.range n).map fun i => BitVec.ofNat 8 (v / 256 ^ (n - 1 - i))

/-- The TPIDs of a VLAN tag. -/
def isTpid (t : Nat) : Bool := t == 0x8100 || t == 0x88A8

/-- What an EtherType at offset o leads in. IPv6 extension headers are not walked. `pt` is the PTP time the orderInfo of an
IEEE 1914.3 frame names, whose form that standard gives. -/
def parseL3 (pt : Nat) (b : List (BitVec 8)) (o : Nat) : L3 :=
  let t := bytesAt b o 2
  let h := o + 2
  if t = 0x0800 then
    let dport := bytesAt b (h + byteAt b h % 16 * 4 + 2) 2
    .ipv4 (BitVec.ofNat 32 (bytesAt b (h + 16) 4)) (byteAt b (h + 9) == 17 && (dport == 319 || dport == 320))
  else if t = 0x86DD then .ipv6 (BitVec.ofNat 128 (bytesAt b (h + 24) 16))
  else if t = 0xFC3D then .roe (BitVec.ofNat 8 (byteAt b (h + 1))) ((b.drop (h + 8)).take (bytesAt b (h + 2) 2)) pt
  else if t = 0x88B5 then .mbakin
  else if t = 0x88F7 then .ptp
  else .other

/-- R173: addresses, up to two VLAN tags, then what follows them; an untagged frame uses VID 0. -/
def parseFrame (pt : Nat) (b : List (BitVec 8)) : FrameHdr :=
  let one := isTpid (bytesAt b 12 2)
  let two := one && isTpid (bytesAt b 16 2)
  { dst := BitVec.ofNat 48 (bytesAt b 0 6), src := BitVec.ofNat 48 (bytesAt b 6 6), tagged := one
    vid := if one then BitVec.ofNat 12 (bytesAt b 14 2) else 0
    l3 := parseL3 pt b (if two then 20 else if one then 16 else 12) }

end Sys2Proof.Machine
end

