-- ==== Sys2Proof/Machine/Capture.lean ====
section
/-!
DEFINITION. Captures and mirror copies to the host (R379): what a frame at a capture point puts into the rings.
-/

namespace Sys2Proof.Machine

/-- A frame at a capture point: where, its Port-ID (0 at ports), its bytes, its length, and the IV and status of a sealed
or tag-only SDU. -/
structure Seen where
  point : Nat
  place : Nat
  port : Nat
  bytes : List Byte
  len : Nat
  iv : Nat := 0
  status : Nat := 0

/-- The 8-word capture header. -/
def captureHeader (f : Seen) (cut : Bool) (s : State) : List Nat :=
  [f.point * 2 ^ 28 + f.place * 2 ^ 16 + f.port, b2n cut * 2 ^ 31 + f.len % 2 ^ 14, ptpSec s % 2 ^ 32, ptpNs s,
   f.iv / 2 ^ 64 % 2 ^ 32, f.iv / 2 ^ 32 % 2 ^ 32, f.iv % 2 ^ 32, f.status]

def framesNow (s : State) : Nat := frameBase s / 125000

/-- The packet of a copy. -/
def capturePacket (snap : Nat) (f : Seen) (s : State) : Packet :=
  let n := min snap f.bytes.length
  { kind := 3, opcode := 0x84, arg0 := f.point, arg1 := framesNow s % 2 ^ 32
    payload := wordsBytes (captureHeader f (decide (n < f.bytes.length)) s) ++ f.bytes.take n }

/-- A copy that has its buffer goes to the lowest-numbered session open for captures (R369); one that finds its ring full is
lost and counted (R379, R372). -/
def captureRing (snap : Nat) (f : Seen) (s : State) : State :=
  match openSession SESS.CTL_CAP_EN s with
  | none => s
  | some i =>
    let x := ringPut i (capturePacket snap f s) s
    if x.1 then x.2 else bump RINGC.CAP_DROP_CNT 0 x.2

/-- One copy: a buffer of requester 15 for its header and bytes, freed once the ring has them; without one it is lost and
counted (R379). -/
def captureCopy (snap : Nat) (f : Seen) (s : State) : State :=
  match openSession SESS.CTL_CAP_EN s with
  | none => s
  | some _ => match allocNow 15 false (min snap f.bytes.length + 32) 1 (2 ^ 15) s with
    | (none, s) => bump RINGC.CAP_DROP_CNT 0 s
    | (some h, s) => s |> captureRing snap f |> freeHandle 15 h

/-- CAPTURE_COPY (R379): the copy of every session, and of the ACTIONs (R312, log entry 98), whose armed capture the frame meets. -/
def captureAt (f : Seen) (s : State) : State :=
  allOf [0, 1, 2, 3, 6] (fun i s =>
    match (s.session i).capture with
    | some c =>
      if (i = 6 ∨ (s.session i).state = .open) ∧ c.point = f.point ∧ c.whereIdx = f.place ∧ (f.point < 2 ∨ c.portId = 0xFFFF ∨ c.portId = f.port) then
        let next := if c.left ≤ 1 then none else some { c with left := c.left - 1 }
        captureCopy c.snap f (s.setSession i { s.session i with capture := next })
      else s
    | none => s) s

/-- The stored frame a handle names, read by requester r: its bytes, or an error response (R206). -/
def readFrame (r h : Nat) (s : State) : Option (List Byte) × State :=
  readBuf r h 0 (descAt (handlePool h) (handleIndex h) s).len s

end Sys2Proof.Machine
end

