-- ==== Sys2Proof/Machine/SeqOps.lean ====
section
/-!
DEFINITION. Threads and clusters of the grant sequencers: their registers, event latches, starts, faults, parking and
hand-overs (06_grant_programs.md R122 to R149), as far as other blocks act on them.
-/

namespace Sys2Proof.Machine

def State.cluster (s : State) (k : Nat) : Cluster := Tbl.get {} s.clusters k
def State.setCluster (s : State) (k : Nat) (x : Cluster) : State := { s with clusters := Tbl.set {} s.clusters k x }
def State.thread (s : State) (k t : Nat) : Thread := Tbl.get {} s.threads (k * 4 + t)
def State.setThread (s : State) (k t : Nat) (x : Thread) : State :=
  { s with threads := Tbl.set {} s.threads (k * 4 + t) x }

def State.grant (s : State) (n : Nat) : Grt := Tbl.get {} s.grt n
def State.setGrant (s : State) (n : Nat) (x : Grt) : State := { s with grt := Tbl.set {} s.grt n x }

/-- The frame the open bank builds: the next downstream frame whose close has not come (R103). -/
def openFrame (n : Nat) (s : State) : Nat := max (s.grant n).openFrame ((s.fram n).frame + 1)

/-! The mirror stream as the active sends it (R115, R142, R291). The state of a cluster and of a cipher goes with a tree: the
cluster's first, the flow's. -/

/-- PAIR_EN and HOME, as a unit in a role took them when it left NONE (R317). -/
def pairEn (s : State) : Bool := match s.pair.member with | some m => m.1 | none => on PAR.CTL_PAIR_EN 0 s
def home (s : State) : Bool := match s.pair.member with | some m => m.2 | none => on PAR.CTL_HOME 0 s

/-- An active member of a pair whose partner link is up mirrors its state. -/
def mirrors (s : State) : Bool := roleActive s && pairEn s && on PAR.STS_LINK 0 s

/-- The message is an earlier delta of the same cell of the same bank. -/
def sameCell (d : Delta) (m : MirrorMsg) : Bool :=
  match d, m with
  | .cell f c _ _ _, .delta (.cell g e _ _ _) => f == g && c == e
  | _, _ => false

/-- A delta joins a queue; an earlier delta of the same cell is replaced in place (R291). -/
def joinQueue (d : Delta) (q : List MirrorMsg) : List MirrorMsg :=
  if q.any (sameCell d) then q.map fun m => if sameCell d m then .delta d else m else q ++ [.delta d]

/-- The queue of tree n since its last close. -/
def sinceClose (g : Grt) : List MirrorMsg := match g.out.getLast? with | some (.marker _) => [] | _ => g.out

/-- The active mirrors a change of tree n. -/
def mirrorOut (n : Nat) (d : Delta) (s : State) : State :=
  if mirrors s then s.setGrant n { s.grant n with out := joinQueue d (sinceClose (s.grant n)) } else s

/-- The active mirrors a word of a register or table. -/
def mirrorWord (n : Nat) (sp : Sp) (i x w : Nat) (s : State) : State :=
  mirrorOut n (.word sp i x w (s.get ⟨sp, i, x, w⟩)) s

/-- Words of a comb close's snapshot: the tree's terminal records, presets, profiles, and what hardware reads of its contexts
(R108, R115); and its brood entries, mirrored with the records (R295; DEDUCED, log entry 123). -/
def inSnapshot (n : Nat) (k : Key) : Bool :=
  k.inst == n && (k.sp == .actT || k.sp == .preset || k.sp == .prof || k.sp == .brood || (k.sp == .ctx && decide (k.word < 2)))

def snapshot (n : Nat) (s : State) : Store := s.mem.filter fun e => inSnapshot n e.1

/-- The words in which a snapshot differs from the one before it. -/
def snapChanges (old new : Store) : List (Key × Word) :=
  new.filter (fun e => Store.get old e.1 != e.2) ++
    (old.filter fun e => new.all fun x => decide (x.1 ≠ e.1)).map fun e => (e.1, e.1.reset)

/-- g0 reads 0 (R122). -/
def readG (k t r : Nat) (s : State) : Nat := if r = 0 then 0 else Tbl.get 0 (s.thread k t).regs r

/-- A write of g0 is discarded (R122). -/
def writeG (k t r v : Nat) (s : State) : State :=
  if r = 0 then s else
    let th := s.thread k t
    s.setThread k t { th with regs := Tbl.set 0 th.regs r (v % 2 ^ 32) }

def threadEnabled (k t : Nat) (s : State) : Bool := maskHas (rd GSQ.CTL_TEN k s) t

def thrEntry (k t : Nat) (s : State) : Nat := rd (GSQ.THR_ENTRY0_ENTRY.at t) k s
def thrStart (k t : Nat) (s : State) : Nat := rd (GSQ.THR_REGION0_START.at t) k s
def thrEnd (k t : Nat) (s : State) : Nat := rd (GSQ.THR_REGION0_END.at t) k s

/-! Trace (R147): an instruction is picked as it issues and recorded once its latency is known. -/

/-- An instruction of thread t issues at pc: whether it is a sample, and the count toward PERIOD. -/
def tracePick (k t pc : Nat) (s : State) : Bool × State :=
  if !(on GSQ.TRACE_CTL_EN k s && maskHas (rd GSQ.TRACE_CTL_THREADS k s) t) then (false, s)
  else
    let c := s.cluster k
    let mode := rd GSQ.TRACE_CTL_MODE k s
    let cnt := c.traceCount + 1
    let full := decide (rd GSQ.TRACE_CTL_PERIOD k s ≤ cnt)
    let addr := mode != 0 && (pc == rd GSQ.TRACE_ADDR_ADDR0 k s || pc == rd GSQ.TRACE_ADDR_ADDR1 k s)
    ((mode != 1 && full) || addr, s.setCluster k { c with traceCount := if full then 0 else cnt })

/-- The entry of a picked instruction: the buffer stops when full, or its oldest entry is overwritten. -/
def traceStore (k t pc lat time : Nat) (s : State) : State :=
  let c := s.cluster k
  let e := (t * 2 ^ 30 + pc * 2 ^ 16 + min lat 65535, time % 2 ^ 32)
  if on GSQ.TRACE_CTL_EN k s = false then s
  else if c.trace.length < 4096 then s.setCluster k { c with trace := c.trace ++ [e] }
  else if on GSQ.TRACE_CTL_RING k s then s.setCluster k { c with trace := c.trace.drop 1 ++ [e] }
  else bump GSQ.TRACE_DROP_CNT k s

/-- An instruction of thread t that issues at pc and lasts lat cycles. -/
def traceSample (k t pc lat time : Nat) (s : State) : State :=
  let r := tracePick k t pc s
  if r.1 then traceStore k t pc lat time r.2 else r.2

/-- A blocked wait that the trace picked ends after lat cycles. -/
def traceWait (k t lat : Nat) (s : State) : State :=
  let th := s.thread k t
  onlyIf (th.state = .blocked ∧ th.traced = true) (traceStore k t th.pc lat th.waitFrom) s

/-- The same where the thread stops with it: the rule states no latency, since the thread does not issue again (log entry
120). -/
def traceWaitStop (k t : Nat) (s : State) : State :=
  let th := s.thread k t
  if th.state = .blocked ∧ th.traced = true then
    let d := drawFree s
    traceWait k t (d.1 % 65536) d.2
  else s

/-- A picked instruction that faults (log entry 120). -/
def traceFault (k t : Nat) (s : State) : State :=
  let pc := (s.thread k t).pc
  let r := tracePick k t pc s
  if r.1 then
    let d := drawFree r.2
    traceStore k t pc (d.1 % 65536) (s.cluster k).cycle d.2
  else r.2

/-- R143, R145, R148: a thread starts at its entry with cleared registers, ST OK, the given latch and a cleared
watchdog; in standby it is parked (R142). A mailbox value that no wait has returned stays unread (R149). -/
def startThread (k t latch : Nat) (s : State) : State :=
  let th := s.thread k t
  let s := traceWait k t ((s.cluster k).cycle - th.waitFrom) s
  s.setThread k t { ({} : Thread) with
    pc := thrEntry k t s, state := if roleStandby s then .parked else .running, latch := latch,
    restarts := th.restarts, mbxUnread := th.mbxUnread }

/-- R137: an event is latched for every thread of the cluster. -/
def latchAll (k bit : Nat) (s : State) : State :=
  allOf [0, 1, 2, 3] (fun t s => s.setThread k t { s.thread k t with latch := maskSet (s.thread k t).latch bit }) s

/-- R140: the thread stops; the instruction has no effect; FAULT_CNT and cause 16 + t. The fault takes AUTO_RST and RST_LIMIT
(R148). -/
def faultThread (k t code : Nat) (s : State) : State :=
  let th := s.thread k t
  s.setThread k t { th with
      state := .fault, fcode := code, wait := none, inFlight := false
      autoRst := on GSQ.CTL_AUTO_RST k s, rstLimit := rd GSQ.CTL_RST_LIMIT k s }
    |> bump GSQ.FAULT_CNT k |> raise (128 + k) (16 + t) [t, th.pc, code]

/-- A thread is disabled: a blocked wait ends without consuming (R148). -/
def stopThread (k t : Nat) (s : State) : State :=
  let s := traceWaitStop k t s
  s.setThread k t { s.thread k t with state := .disabled, wait := none, inFlight := false }

/-- R142: an enabled thread is parked; the instruction it has in flight still completes. -/
def parkThread (k t : Nat) (s : State) : State :=
  let s := traceWaitStop k t s
  let th := s.thread k t
  s.setThread k t { th with state := .parked, wait := none, inFlight := th.state == .running }

/-- R141: at a CLOSE a faulted, enabled thread restarts at its entry, up to RST_LIMIT restarts in 8,000 frames, AUTO_RST and
RST_LIMIT as its fault took them (R148). Its event latch keeps what it holds (DESIGN CHOICE, log entry 107). -/
def autoRestart (k frame t : Nat) (s : State) : State :=
  let th := s.thread k t
  if th.state == .fault && threadEnabled k t s && th.autoRst && !th.limitReached then
    let recent := th.restarts.filter fun f => decide (frame < f + 8000)
    if recent.length < th.rstLimit then
      startThread k t th.latch (s.setThread k t { th with restarts := recent ++ [frame] })
        |> bump GSQ.AUTORST_CNT k |> raise (128 + k) 20 [t, th.pc, th.fcode]
    else
      s.setThread k t { th with limitReached := true } |> raise (128 + k) 21 [t, th.pc, th.fcode]
  else s

/-- THR_ENTRY and THR_REGION of a thread are mirrored as they are written (R142). -/
def mirrorRegion (k t : Nat) (s : State) : State :=
  s |> mirrorWord (6 * k) .gsq k 0 (8 + t) |> mirrorWord (6 * k) .gsq k 0 (12 + t)

/-- R145 step 4, R146: the pending hand-over installs the entry and the region and starts the thread, if it is enabled,
with CLOSE alone in its latch. -/
def handOver (k : Nat) (s : State) : State :=
  match (s.cluster k).swap with
  | none => s
  | some (t, entry, region) =>
    let s := s.setCluster k { s.cluster k with swap := none }
      |> wr (GSQ.THR_ENTRY0_ENTRY.at t) k entry
      |> wr ⟨.gsq, 12 + t, 31, 0⟩ k region
      |> wr GSQ.SWAP_GO k 0 |> mirrorRegion k t
    (if threadEnabled k t s then startThread k t 1 s else s)
      |> bump GSQ.SWAP_CNT k |> raise (128 + k) 22 []

/-- The words of the mirrored data region: LEN words from byte BASE, by the word of MIRROR_CFG. -/
def regionWords (k cfg : Nat) (s : State) : List Word :=
  (List.range (cfg / 2 ^ 16 % 2 ^ 11)).map fun i => s.get ⟨.dmem, k, cfg % 2 ^ 16 / 4 + i, 0⟩

/-- R142, R148: at each CLOSE the words of the region changed since the CLOSE before it are sent; all of them where MIRROR_CFG
has changed. -/
def mirrorData (k : Nat) (s : State) : State :=
  let cfg := rdWord .gsq k 0 3 s
  let c := s.cluster k
  let old := if cfg = c.mirrorCfg then c.region else []
  let now := regionWords k cfg s
  allOf (now.zipIdx.filter fun e => decide (old[e.2]? ≠ some e.1))
    (fun e => mirrorOut (6 * k) (.word .dmem k (cfg % 2 ^ 16 / 4 + e.2) 0 e.1))
    (s.setCluster k { c with mirrorCfg := cfg, region := now })

/-- R137, R141, R145: the cluster's CLOSE for a frame, once for the six trees of the group. -/
def clusterClose (k frame : Nat) (s : State) : State :=
  if (s.cluster k).closeFrame = some frame then s
  else
    let swapT := (s.cluster k).swap.map (fun x => x.1)
    s.setCluster k { s.cluster k with
      closeFrame := some frame, emitMask := [], tickLead := rd GSQ.TICK_CFG_LEAD k s }
      |> mirrorData k |> latchAll k 0
      |> allOf ([0, 1, 2, 3].filter fun t => swapT ≠ some t) (autoRestart k frame)
      |> handOver k

/-- R130: an activation record joins the cluster's queue, or waits at its crossing while the queue holds 512 entries (R12); on a
standby the queue stays empty (R142). A cluster in reset answers by its wrapper (R13). -/
def pushActRec (k : Nat) (r : ActRec) (s : State) : State :=
  if roleStandby s then s
  else if !s.up (clusterIsland k) then wrapperAnswer (clusterIsland k) s
  else
    let c := s.cluster k
    s.setCluster k (if c.actq.length < 512 then { c with actq := c.actq ++ [r] } else { c with actHeld := c.actHeld ++ [r] })

/-- The oldest record has left the queue, and a record that waited for room joins it (R130). -/
def popActRec (k : Nat) (s : State) : State :=
  let c := s.cluster k
  s.setCluster k { c with actq := c.actq.drop 1 ++ c.actHeld.take 1, actHeld := c.actHeld.drop 1 }

/-- R142: a unit that becomes standby parks every enabled thread; the instruction a running thread has in flight still
completes. -/
def parkThreads (s : State) : State :=
  allOf (List.range 8) (fun k => allOf [0, 1, 2, 3] fun t s => if threadEnabled k t s then parkThread k t s else s) s

/-- R146: on a unit that becomes standby the pending hand-over is whatever the mirror says. -/
def dropHandOvers (s : State) : State :=
  allOf (List.range 8) (fun k s =>
    if (s.cluster k).swap = none then s
    else s.setCluster k { s.cluster k with swap := none } |> wr GSQ.SWAP_GO k 0) s

/-- The indices of a table whose word w has its top bit set, in table order: the VALID entries. -/
def validIdx (sp : Sp) (inst w : Nat) (s : State) : List Nat :=
  (s.mem.filter fun e => e.1.sp == sp && e.1.inst == inst && e.1.word == w && bitsOf e.2 31 31 == 1).map fun e => e.1.idx

/-- R143: at takeover every enabled thread starts, and every mapped context gets a full credit. -/
def takeoverThreads (s : State) : State :=
  let s := allOf (List.range 8) (fun k => allOf [0, 1, 2, 3] fun t s =>
    if threadEnabled k t s then startThread k t 0 s else s) s
  allOf (List.range 48) (fun n s => allOf (validIdx .ctx n 0 s) (fun c s => s
    |> wrWord .ctx n c 2 (unsigned 32 (min (rdx CTX.BURST n c s * 256) (2 ^ 31 - 1)))
    |> wrWord .ctx n c 5 (openFrame n s % 2 ^ 32)) s) s

end Sys2Proof.Machine
end

