-- ==== Sys2Proof/Machine/Grant.lean ====
section
/-!
DEFINITION. The comb and the grant engine (05_grant_engine.md, R99 to R121): cells, fixed cells, the witness, the
checker, emission, reports, and the meanings of the grant engine's commands.
-/

namespace Sys2Proof.Machine

def grtSource (n : Nat) : Nat := 128 + treeCluster n

/-- The two banks of a tree's comb are two instances of the cell space (R99). -/
def openBank (n : Nat) (s : State) : Nat := 2 * n + (s.grant n).bank % 2
def frozenBank (n : Nat) (s : State) : Nat := 2 * n + ((s.grant n).bank + 1) % 2

/-! Burst profiles (R109, R110). -/

def profIdx (rate p : Nat) : Nat := rate * 4 + p
def longProfile (n rate : Nat) (s : State) : Nat :=
  if rate = 0 then rd GRT.PROF_SEL_LONG50 n s else if rate = 1 then rd GRT.PROF_SEL_LONG25 n s
  else rd GRT.PROF_SEL_LONG12 n s
def wordWidth (rate : Nat) : Nat := if rate = 0 then 64 else if rate = 1 then 32 else 16

/-- The largest GUARD of the tree's VALID profiles. -/
def maxGuard (n : Nat) (s : State) : Nat :=
  (List.range 12).foldl (fun g p => if rdx PROF.VALID n p s = 1 then max g (rdx PROF.GUARD n p s) else g) 0

/-- The bits of a profile's preamble and delimiter (R109). -/
def profileBits (n x : Nat) (s : State) : Nat := rdx PROF.PREAMBLE n x s + 8 * (if rdx PROF.DLM8 n x s = 1 then 8 else 4)

/-- R110: the duration of a grant burst with profile p at a rate; `words` is the sum of GRANTSIZE. -/
def burstDuration (n rate p words : Nat) (ploamu : Bool) (s : State) : Nat :=
  let x := profIdx rate p
  let f := 4 + (if ploamu then 48 else 0) + 4 * words + 4
  let c := if rdx PROF.FEC n x s = 1 then f + 336 * ((f + 1823) / 1824) else f
  let b := profileBits n x s + 8 * c
  (b + wordWidth rate - 1) / wordWidth rate

/-- R109: the rate's long profile is substituted. -/
def needsLong (n kind term : Nat) (s : State) : Bool :=
  kind != 0 || rdx PRESET.VALID n term s == 0 || decide (rd TLN.RX_EQ_MAX_AGE n s < rdx PRESET.AGE n term s) ||
  rdx ACTT.TRIAL n term s == 1 || rd TLN.CTL_PRESET_EN n s == 0

/-- R109, R21: the preamble and delimiter are long enough. -/
def profileFits (n rate p : Nat) (long : Bool) (s : State) : Bool :=
  let x := profIdx rate p
  let pre := if rate = 0 then (if long then 2048 else 256) else if rate = 1 then (if long then 1024 else 160)
    else (if long then 512 else 96)
  rdx PROF.VALID n x s == 1 && decide (pre ≤ rdx PROF.PREAMBLE n x s) && (rate != 0 || rdx PROF.DLM8 n x s == 1)

/-! Allocation contexts. -/

/-- The mapped context of an Alloc-ID (R107, R119). -/
def ctxOfAlloc (n alloc : Nat) (s : State) : Option Nat :=
  (validIdx .ctx n 0 s).find? fun c => rdx CTX.ALLOC_ID n c s == alloc

/-- The context an Alloc-ID was mapped to at the last comb close, which is what reports use (R118): its index and words. -/
def ctxAtClose (n alloc : Nat) (s : State) : Option (Nat × Word × Word) :=
  ((s.grant n).snap.find? fun e => e.1.sp == .ctx && e.1.word == 0 && bitsOf e.2 31 31 == 1 && bitsOf e.2 29 16 == alloc).map
    fun e => (e.1.idx, e.2, Store.get (s.grant n).snap ⟨.ctx, n, e.1.idx, 1⟩)

/-- The map of the map ring for downstream frame k, and a burst of it (R99, R114). -/
def ringMap (n k : Nat) (s : State) : Option BwMap := (s.grant n).ring.find? fun m => m.frame == k
def ringBurst (n : Nat) (g : GrantRef) (s : State) : Option Burst :=
  match ringMap n g.frame s with | some m => m.bursts[g.pos]? | none => none

/-- The Alloc-ID of the j-th allocation of a burst, by the map ring, where it carries a DBRu (R106). -/
def ringAlloc (n : Nat) (g : GrantRef) (j : Nat) (s : State) : Option Nat :=
  match ringMap n g.frame s with
  | some m => match (m.allocs.getD g.pos [])[j]? with
    | some (a, true) => some a
    | _ => none
  | none => none

/-- The lowest-numbered mapped context of a terminal (R105). -/
def ctxOfTerm (n term : Nat) (s : State) : Option Nat :=
  (validIdx .ctx n 0 s).find? fun c => rdx CTX.TERM n c s == term

/-! The checker (R111, R112). -/

/-- The burst a cell leads in bank instance b. -/
def leadBurst (n b c : Nat) (s : State) : Burst :=
  let kind := rdx CELL.KIND b c s
  let term := rdx CELL.TERM b c s
  let rate := if kind = 0 then rdx ACTT.RATE n term s else rdx CELL.RATE b c s
  let long := needsLong n kind term s
  let p := if long then longProfile n rate s else rdx CELL.PROFILE b c s
  { cells := [c], rank := if rdx CELL.FIXED b c s = 1 ∨ c = 1023 then 0 else 1, term := term, kind := kind,
    start := rdx CELL.STARTTIME b c s, rate := rate, prof := p, subst := long,
    guard := rdx PROF.GUARD n (profIdx rate p) s,
    d := if kind = 0 then burstDuration n rate p (rdx CELL.GRANTSIZE b c s) (rdx CELL.PLOAMU b c s == 1) s
         else rdx CELL.GRANTSIZE b c s
    fec := rdx PROF.FEC n (profIdx rate p) s == 1, pre := profileBits n (profIdx rate p) s }

/-- A FOLLOW cell joins a burst and its duration is computed again (R110, R111). -/
def joinBurst (n b c : Nat) (x : Burst) (s : State) : Burst :=
  let cells := x.cells ++ [c]
  let words := cells.foldl (fun a c => a + rdx CELL.GRANTSIZE b c s) 0
  { x with cells := cells,
           d := burstDuration n x.rate x.prof words (rdx CELL.PLOAMU b (x.cells.headD 0) s == 1) s }

/-- R111: group the cells into bursts, ascending; the second list holds the rejected FOLLOW cells. -/
def groupCells (n b : Nat) (s : State) : List Nat → List Burst × List (Nat × Nat) → List Burst × List (Nat × Nat)
  | [], acc => acc
  | c :: rest, (bs, rej) =>
    if rdx CELL.FOLLOW b c s = 1 then
      match bs.getLast? with
      | some x =>
        if x.rank = 1 ∧ x.term = rdx CELL.TERM b c s ∧ x.start = rdx CELL.STARTTIME b c s ∧ x.kind = 0 ∧
            rdx CELL.KIND b c s = 0 then
          groupCells n b s rest (bs.dropLast ++ [joinBurst n b c x s], rej)
        else groupCells n b s rest (bs, rej ++ [(c, 5)])
      | none => groupCells n b s rest (bs, rej ++ [(c, 5)])
    else groupCells n b s rest (bs ++ [leadBurst n b c s], rej)

/-- R112 codes 1 to 4 of a burst; 0 accepted. -/
def validateBurst (n b : Nat) (x : Burst) (s : State) : Nat :=
  let st := rdx ACTT.STATE n x.term s
  let badAlloc := x.kind = 0 ∧ x.cells.any (fun c =>
    match ctxOfAlloc n (rdx CELL.ALLOC_ID b c s) s with
    | none => true
    | some i => rdx CTX.TERM n i s != x.term) = true
  let badTerm := (x.kind = 0 ∧ (¬(st = 2 ∨ st = 3) ∨ rdx ACTT.SMK_DIS n x.term s = 1)) ∨ (x.kind = 2 ∧ st ≠ 1)
  if badAlloc then 1
  else if badTerm then 2
  else if profileFits n x.rate x.prof x.subst s = false then 3
  else if x.cells.any (fun c => rdx CELL.GRANTSIZE b c s == 0) = true ∨ 97200 < x.d then 4
  else 0

def burstBefore (x y : Burst) : Bool :=
  decide (x.start < y.start ∨ (x.start = y.start ∧ (x.rank < y.rank ∨
    (x.rank = y.rank ∧ x.cells.headD 0 < y.cells.headD 0))))

def insertBurst (x : Burst) : List Burst → List Burst
  | [] => [x]
  | y :: l => if burstBefore x y then x :: y :: l else y :: insertBurst x l

def sortBursts (l : List Burst) : List Burst := l.foldr insertBurst []

def burstGap (x y : Burst) : Nat := max x.guard y.guard

/-- R111: the walk over the sorted bursts; accepted bursts and rejected cells with their codes. -/
def walkBursts : Option Burst → List Burst → List Burst × List (Nat × Nat)
  | _, [] => ([], [])
  | prev, x :: rest =>
    let reject := fun (code : Nat) =>
      let r := walkBursts prev rest
      (r.1, x.cells.map (fun c => (c, code)) ++ r.2)
    let accept :=
      let r := walkBursts (some x) rest
      (x :: r.1, r.2)
    if x.rank = 0 then accept
    else if (match prev with | some p => decide (x.start < p.start + p.d + burstGap p x) | none => false) then reject 6
    else if 97200 < x.start + x.d + x.guard then reject 8
    else if (match rest.head? with | some y => decide (y.start < x.start + x.d + burstGap x y) | none => false) then
      reject 7
    else accept

/-- R111, R112: the whole check of the cells `cells` of bank instance b. A burst that fails validation is out of the walk, a
fixed cell's as well, as the algorithm of R111 has it (log entry 107). -/
def combCheck (n b : Nat) (cells : List Nat) (s : State) : List Burst × List Burst × List (Nat × Nat) :=
  let g := groupCells n b s cells ([], [])
  let bad := g.1.filter fun x => validateBurst n b x s != 0
  let good := g.1.filter fun x => validateBurst n b x s == 0
  let w := walkBursts none (sortBursts good)
  (g.1, w.1, g.2 ++ bad.flatMap (fun x => x.cells.map fun c => (c, validateBurst n b x s)) ++ w.2)

/-! Emission (R113, R114). -/

def windowKind (k : Nat) : WinKind := if k = 0 then .burst else if k = 1 then .quiet else .ranging

def structsOf (b : Nat) (x : Burst) (s : State) : List AllocStruct :=
  x.cells.map fun c =>
    { allocId := rdx CELL.ALLOC_ID b c s, dbru := rdx CELL.DBRU b c s == 1,
      ploamu := rdx CELL.PLOAMU b c s == 1 && rdx CELL.FOLLOW b c s == 0,
      start := if rdx CELL.FOLLOW b c s = 1 then none else some (x.start / 2),
      size := if x.kind = 0 then some (rdx CELL.GRANTSIZE b c s) else none,
      profile := x.prof, kind := windowKind x.kind }

/-- The selection of a burst, the pos-th of the map of a frame whose upstream reference is `uro` cycles after T0 (R54, R114). -/
def selectionOf (uro frame pos : Nat) (x : Burst) : Selection :=
  { index := x.term, noPreset := x.kind != 0, rate := x.rate, arrival := x.start, length := x.d,
    kind := windowKind x.kind, frame := frame, prof := x.prof, pos := pos, fec := x.fec, pre := x.pre, uro := uro }

def mapSelections (uro : Nat) (m : BwMap) : List Selection := m.bursts.zipIdx.map fun x => selectionOf uro m.frame x.2 x.1

/-! The witness (R105). -/

def witSlot (n : Nat) (s : State) : Nat := if on GRT.WIT_CFG_LONG_SLOT n s then 1024 else 512

/-- The witness footprint of a terminal at this close. -/
def witFootprint (n t : Nat) (s : State) : Nat :=
  let rate := rdx ACTT.RATE n t s
  let p := if needsLong n 0 t s then longProfile n rate s else 0
  burstDuration n rate p 1 false s + maxGuard n s

/-- The terminals with a listed record, in ascending ONU-ID. -/
def terminals (n : Nat) (s : State) : List Nat :=
  (s.mem.filter fun e => e.1.sp == .actT && e.1.inst == n && e.1.word == 0).map fun e => e.1.idx

def witCandidates (n : Nat) (s : State) : List Nat :=
  let c := (terminals n s).filter fun t => rdx ACTT.STATE n t s == 2 && rdx ACTT.SMK_DIS n t s == 0 &&
    (ctxOfTerm n t s).isSome
  match (s.grant n).witLast with
  | none => c
  | some l => c.filter (fun t => decide (l < t)) ++ c.filter (fun t => decide (t ≤ l))

/-- Place the witness of the next terminal that fits, passing over those that do not. -/
def witnessPlace (n b : Nat) : List Nat → State → State
  | [], s => s |> wrWord .cell b 1023 0 0 |> wr GRT.STS_WIT_LAST n 0 |> bump GRT.WIT_NONE_CNT n
      |> raise (grtSource n) 2 [n, 1023]
  | t :: rest, s =>
    if witSlot n s < witFootprint n t s then
      witnessPlace n b rest (s |> bump GRT.WIT_SKIP_CNT n |> raise (grtSource n) 13 [n, 1023])
    else
      let alloc := match ctxOfTerm n t s with | some c => rdx CTX.ALLOC_ID n c s | none => 0
      s.setGrant n { s.grant n with witLast := some t }
        |> wrWord .cell b 1023 0 (2 ^ 31 + 2 ^ 28 + t * 2 ^ 14 + alloc)
        |> wrWord .cell b 1023 1 (rd GRT.WIT_CFG_START n s * 2 ^ 15 + 3 * 2 ^ 11 + 7 * 2 ^ 8)
        |> wrWord .cell b 1023 2 1 |> wr GRT.STS_WIT_LAST n 1

/-! Comb close (R99, R108). -/

/-- The cells of a bank instance with VALID set, ascending. -/
def validCells (b : Nat) (s : State) : List Nat := validIdx .cell b 0 s

/-- The bank that reopens holds the fixed cells of the bank just frozen, and nothing else (R99, R104). -/
def reopenBank (old new : Nat) (s : State) : State :=
  let fixed := (validCells old s).filter fun c => rdx CELL.FIXED old c s == 1
  let s := { s with mem := s.mem.filter fun e => !(e.1.sp == .cell && e.1.inst == new) }
  allOf fixed (fun c s => s
    |> wrWord .cell new c 0 (rdWord .cell old c 0 s) |> wrWord .cell new c 1 (rdWord .cell old c 1 s)
    |> wrWord .cell new c 2 (rdWord .cell old c 2 s % 2 ^ 16)) s

/-- What the active sends with a close (R115, R116, R161, R254): the witness rotation as this close finds it, the changes of the
snapshot, the values of the bound lanes and the invocation counts of the flows of the tree, then the close marker. -/
def laneDeltas (n : Nat) (s : State) : List Delta :=
  (List.range 32).filterMap fun i =>
    let dir := i / 16 % 2
    let l := i % 16
    let v := Tbl.get {} s.crl ((dir * 48 + n) * 16 + l)
    if rdx LANE.BOUND (dir * 48 + n) l s = 1 then
      some (.lane (Fin.ofNat 2 dir) (Fin.ofNat 16 l) v.acc v.est v.rate v.seq)
    else none

def countDeltas (n : Nat) (s : State) : List Delta :=
  (s.mem.filter fun e => e.1.sp == .flow && e.1.word == 0 && bitsOf e.2 31 31 == 1 && bitsOf e.2 22 17 == n).flatMap fun e =>
    let d := e.1.inst
    let f := e.1.idx
    [.count (Fin.ofNat 2 d) (BitVec.ofNat 13 f) 0 (rdx FLOW.INV0_LO d f s + 2 ^ 32 * rdx FLOW.INV0_HI d f s),
     .count (Fin.ofNat 2 d) (BitVec.ofNat 13 f) 1 (rdx FLOW.INV1_LO d f s + 2 ^ 32 * rdx FLOW.INV1_HI d f s)]

def closeDeltas (n frame : Nat) (s : State) : List Delta :=
  .witness ((s.grant n).witLast.map (BitVec.ofNat 9)) ::
    (snapChanges (s.grant n).snap (snapshot n s)).map (fun e => .tagged frame e.1.sp e.1.idx e.1.word e.2) ++
    laneDeltas n s ++ countDeltas n s

/-- R108 step 1: the snapshot is taken; the active sends the close marker behind the tree's last delta (R115). -/
def takeSnapshot (n frame : Nat) (s : State) : State :=
  let g := s.grant n
  let out := if mirrors s then (closeDeltas n frame s).foldl (fun q d => joinQueue d q) (sinceClose g) ++ [.marker frame] else g.out
  s.setGrant n { g with snap := snapshot n s, out := out }

/-- Write the checker's results into the frozen bank, count and raise them (R109, R112). A substitution counts once a burst
(DESIGN CHOICE, log entry 107). -/
def recordCheck (n b : Nat) (bursts : List Burst) (rej : List (Nat × Nat)) (s : State) : State :=
  let s := allOf (bursts.filter (·.subst)) (fun x s =>
    allOf x.cells (fun c => wrx CELL.SUBST b c 1) s |> bump GRT.PROF_SUB_CNT n
      |> raise (grtSource n) 1 [n, x.cells.headD 0]) s
  allOf rej (fun r s => s |> wrx CELL.RESULT b r.1 r.2 |> bump (GRT.REJ_CNT1.at (r.2 - 1)) n
    |> raise (grtSource n) 0 [n, r.1]) s

/-- R108 steps 1 to 6: freeze, place the witness, check every VALID cell, emit the map and send it to the framing island; the
cluster's CLOSE and EMIT events (R137). With CTL.EN = 0 the map carries the witness alone (R113). -/
def combClose (n : Nat) (s : State) : State :=
  let k := treeCluster n
  let frame := openFrame n s
  let b := openBank n s
  let other := frozenBank n s
  let s := s |> bump GRT.CLOSE_CNT n |> takeSnapshot n frame |> witnessPlace n b (witCandidates n s)
  let r := combCheck n b (validCells b s) s
  let sent := if on GRT.CTL_EN n s then r.2.1 else r.2.1.filter fun x => x.cells == [1023]
  let m : BwMap :=
    { frame := frame, bursts := sent, structs := sent.flatMap fun x => structsOf b x s,
      allocs := sent.map fun x => x.cells.map fun c => (rdx CELL.ALLOC_ID b c s, rdx CELL.DBRU b c s == 1) }
  let s := recordCheck n b r.1 r.2.2 s
  let g := s.grant n
  let s := s.setGrant n { g with bank := (g.bank + 1) % 2, openFrame := frame + 1, ring := (g.ring ++ [m]).reverse.take 12 |>.reverse }
    |> reopenBank b other
    |> bumpBy GRT.EMIT_CNT n m.structs.length
    |> wr GRT.STS_LAST_EMIT n m.structs.length |> wr GRT.STS_LAST_REJ n r.2.2.length
    |> clusterClose k frame
  let s := if s.up (framingIsland n) then s.setFram n { s.fram n with mapIn := some m } else wrapperAnswer (framingIsland n) s
  let mask := n :: (s.cluster k).emitMask
  let s := s.setCluster k { s.cluster k with emitMask := mask }
  onlyIf ((List.range 6).all (fun i => mask.contains (6 * k + i)) = true) (latchAll k 1) s

/-- COMB_CLOSE (R108): the close of an active unit or one in test; a standby closes by the marker (R115). -/
def execCombClose (n : Fin 48) (s : State) : Host.Outcome State Fault Refusal :=
  onIsland (clusterIsland (treeCluster n)) s fun s => if roleActive s || roleTest s then combClose n s else s

/-! Stores to the comb (R101 to R104). -/

/-- R101: an odd STARTTIME keeps the next lower even value, counted. -/
def evenStart (n cell w1 : Nat) (s : State) : Nat × State :=
  if w1 / 2 ^ 15 % 2 = 1 then (w1 - 2 ^ 15, s |> bump GRT.ODD_ST_CNT n |> raise (grtSource n) 8 [n, cell]) else (w1, s)

/-- The active sends a committed store of the open bank, tagged with its frame (R115). -/
def mirrorCell (n cell : Nat) (s : State) : State :=
  let w := fun (j : Nat) => s.get ⟨.cell, openBank n s, cell, j⟩
  mirrorOut n (.cell (openFrame n s) (BitVec.ofNat 10 cell) (w 0) (w 1) (w 2)) s

/-- The fields of a store whose value is not listed (R101): KIND, the RATE of a window, STARTTIME past the frame. -/
def badKind (w0 : Nat) : Bool := w0 / 2 ^ 25 % 4 == 3
def badRate (w0 w1 : Nat) : Bool := w0 / 2 ^ 25 % 4 != 0 && w1 / 2 ^ 13 % 4 == 3
def badStart (w1 : Nat) : Bool := decide (97198 < w1 / 2 ^ 15 % 2 ^ 17)

/-- Words 0 and 1 of a cell as a store leaves them: an unlisted KIND, RATE of a window, or STARTTIME keeps the field's previous
value (R7, R101, log entry 107). -/
def keptWords (n cell w0 w1 : Nat) (s : State) : Nat × Nat :=
  let b := openBank n s
  let w0 := if badKind w0 then (setBitsOf (BitVec.ofNat 32 w0) 26 25 (rdx CELL.KIND b cell s)).toNat else w0 % 2 ^ 32
  let w1 := if badRate w0 w1 then (setBitsOf (BitVec.ofNat 32 w1) 14 13 (rdx CELL.RATE b cell s)).toNat else w1 % 2 ^ 32
  (w0, if badStart w1 then (setBitsOf (BitVec.ofNat 32 w1) 31 15 (rdx CELL.STARTTIME b cell s)).toNat else w1)

/-- Write a cell of the open bank: hardware fills FIXED, WRITER, RESULT and SUBST, and FOWN of a fixed cell; a field with an
unlisted value keeps its previous one with R7's cause (log entry 107). -/
def storeCell (n cell w0 w1 w2 fixed fown writer : Nat) (s : State) : State :=
  let b := openBank n s
  let (w1, s) := evenStart n cell w1 s
  let k := keptWords n cell w0 w1 s
  s |> onlyIf ((badKind w0 || badRate k.1 w1 || badStart w1) = true) (encReject (regOffset .grt n 5) w0)
    |> wrWord .cell b cell 0 k.1 |> wrx CELL.FIXED b cell fixed
    |> wrWord .cell b cell 1 (k.2 / 2 ^ 11 * 2 ^ 11)
    |> onlyIf (fixed = 1) (wrx CELL.FOWN b cell fown) |> wrx CELL.WRITER b cell writer
    |> wrWord .cell b cell 2 (w2 % 2 ^ 16) |> mirrorCell n cell

/-- R104: the reserved interval of a fixed cell, by the words of the cell. -/
def reservedInterval (n w0 w1 w2 : Nat) (s : State) : Nat × Nat :=
  let kind := w0 / 2 ^ 25 % 4
  let term := w0 / 2 ^ 14 % 512
  let rate := if kind = 0 then rdx ACTT.RATE n term s else w1 / 2 ^ 13 % 4
  let start := w1 / 2 ^ 16 * 2
  let d := if kind = 0 then burstDuration n rate (longProfile n rate s) (w2 % 2 ^ 16) (w0 / 2 ^ 27 % 2 == 1) s
    else w2 % 2 ^ 16
  (start, start + d + maxGuard n s)

def overlaps (a b : Nat × Nat) : Bool := decide (a.1 < b.2 ∧ b.1 < a.2)

/-- The reserved intervals of the fixed cells of the open bank, but for one cell. -/
def fixedIntervals (n except : Nat) (s : State) : List (Nat × Nat) :=
  let b := openBank n s
  ((validCells b s).filter fun c => rdx CELL.FIXED b c s == 1 && c != except).map fun c =>
    reservedInterval n (rdWord .cell b c 0 s) (rdWord .cell b c 1 s) (rdWord .cell b c 2 s) s

/-- R104: the placement keeps clear of the frame's end, the other fixed cells and the witness slot. -/
def placementFits (n cell w0 w1 w2 : Nat) (s : State) : Bool :=
  let i := reservedInterval n w0 w1 w2 s
  let g := maxGuard n s
  let ws := rd GRT.WIT_CFG_START n s
  decide (i.2 ≤ 97200) && !overlaps i (ws - g, ws + witSlot n s + g) && (fixedIntervals n cell s).all fun j => !overlaps i j

/-- The FOWN of the fixed cell that stands in a cell of the open bank, if one does. -/
def fixedOwner (n cell : Nat) (s : State) : Option Nat :=
  let b := openBank n s
  if rdx CELL.VALID b cell s = 1 ∧ rdx CELL.FIXED b cell s = 1 then some (rdx CELL.FOWN b cell s) else none

/-- R104: place a fixed cell of an owner, or with VALID = 0 remove the owner's own and nothing else (R131); the answer is
whether the placement was allowed. The interval is that of the words the cell will hold. Whether the owner may write the cell
at all is R102's, which the callers ask; a standby's open bank is the mirror stream's alone (R115). -/
def placeFixed (n cell w0 w1 w2 fown writer : Nat) (s : State) : Bool × State :=
  if roleStandby s then (true, s)
  else if w0 / 2 ^ 31 % 2 = 0 then
    (true, if fixedOwner n cell s = some fown then s |> wrWord .cell (openBank n s) cell 0 0 |> mirrorCell n cell else s)
  else if placementFits n cell (keptWords n cell w0 w1 s).1 (keptWords n cell w0 w1 s).2 w2 s then (true, storeCell n cell w0 w1 w2 1 fown writer s)
  else (false, raise (grtSource n) 9 [n, cell] s)

/-- R40-like index registers: WORD advances, then the entry. -/
def advanceWord (auto_ word entry : Fld) (i first words entries : Nat) (s : State) : State :=
  if on auto_ i s then
    if rd word i s + 1 < first + words then wr word i (rd word i s + 1) s
    else s |> wr word i first |> wr entry i ((rd entry i s + 1) % entries)
  else s

/-- R102: the FOWN a software write may give a fixed cell: 0b00 and 0b01; an image record's 0b01 alone. -/
def softwareOwns (fown : Nat) (s : State) : Bool := fown == 1 || (fown == 0 && s.cmd.source != 5)

/-- R102: a software write of a cell of the open bank. FOWN of a fixed cell is what word 1 says. An image record writes fixed
cells alone. A write of a VALID cell without FIXED where a fixed cell of FOWN 0b00 or 0b01 stands replaces it, and the fixed
cell ends in both banks; R104 names the write with VALID = 0 as the removal (DESIGN CHOICE, log entry 119). -/
def softwareCell (n cell w0 : Nat) (s : State) : State :=
  let g := s.grant n
  let ofs := regOffset .grt n 5
  let fown := g.cell1 / 2 ^ 11 % 4
  let fixed := decide (w0 / 2 ^ 30 % 2 = 1)
  if roleStandby s ∨ cell = 1023 ∨ fixedOwner n cell s = some 2 ∨ (fixed = true ∧ softwareOwns fown s = false) ∨
      (fixed = false ∧ s.cmd.source = 5) then
    refuseWrite ofs w0 s
  else if fixed then
    let r := placeFixed n cell w0 g.cell1 g.cell2 fown 4 s
    onlyIf (r.1 = false) (setVerdict 6 0) r.2
  else storeCell n cell w0 g.cell1 g.cell2 0 fown 4 s

/-- CELL_DATA_WRITE (R102, R119): words 1 and 2 are staged, word 0 commits; the frozen bank is read-only. -/
def cellDataWrite (n w : Nat) (s : State) : State :=
  let cell := rd GRT.CELL_IDX_CELL n s
  let word := rd GRT.CELL_IDX_WORD n s
  let s :=
    if on GRT.CELL_IDX_BANK n s then encReject (regOffset .grt n 5) w s
    else if word = 0 then softwareCell n cell w s
    else if word = 1 then s.setGrant n { s.grant n with cell1 := w }
    else s.setGrant n { s.grant n with cell2 := w }
  advanceWord GRT.CELL_IDX_AUTO_INC GRT.CELL_IDX_WORD GRT.CELL_IDX_CELL n 0 3 1024 s

def execCellDataWrite (n : Fin 48) (w : Word) (s : State) : Host.Outcome State Fault Refusal :=
  onIsland (clusterIsland (treeCluster n)) s (cellDataWrite n w.toNat)

/-- WIT_CFG_WRITE (R105, R118): refused while a fixed cell's reserved interval overlaps the new slot or its gap. A START that
is odd or past 97,200 − S is no listed encoding: that field keeps its value and LONG_SLOT is written (R7). The active mirrors it
(R294). -/
def witCfgWrite (n : Nat) (long : Bool) (given : Nat) (s : State) : State :=
  let size := if long then 1024 else 512
  let g := maxGuard n s
  let v := b2n long * 2 ^ 31 + given
  let bad := given % 2 = 1 ∨ 97200 < given + size
  let start := if bad then rd GRT.WIT_CFG_START n s else given
  let s := onlyIf bad (encReject (regOffset .grt n 1) v) s
  if (fixedIntervals n 1023 s).any (fun i => overlaps i (start - g, start + size + g)) then
    refuseWrite (regOffset .grt n 1) v s
  else s |> wr GRT.WIT_CFG_LONG_SLOT n (b2n long) |> wr GRT.WIT_CFG_START n start |> mirrorWord n .grt n 0 1

def execWitCfgWrite (n : Fin 48) (long : Bool) (start : BitVec 17) (s : State) : Host.Outcome State Fault Refusal :=
  onIsland (clusterIsland (treeCluster n)) s (witCfgWrite n long start.toNat)

/-- ALLOC_CONTEXT_COMMIT (R119): word 1 commits the word 0 staged last, whatever context it was written for, and 0 after reset;
an Alloc-ID mapped in another context is refused, but for a commit with VALID = 0, which maps none (DESIGN CHOICE, log entry
119). -/
def allocCommit (n w : Nat) (s : State) : State :=
  let c := rd GRT.ALLOC_IDX_CTX n s
  let w0 := (s.grant n).alloc0
  let s :=
    if w0 / 2 ^ 31 % 2 = 1 ∧ (validIdx .ctx n 0 s).any (fun x => x != c && rdx CTX.ALLOC_ID n x s == w0 / 2 ^ 16 % 2 ^ 14) = true then
      s |> raise (grtSource n) 11 [n, c] |> setVerdict 6 0
    else s |> wrWord .ctx n c 0 (w0 / 2 ^ 31 * 2 ^ 31 + w0 / 2 ^ 16 % 2 ^ 14 * 2 ^ 16 + w0 % 2 ^ 9) |> wrWord .ctx n c 1 (w % 2 ^ 24)
  advanceWord GRT.ALLOC_IDX_AUTO_INC GRT.ALLOC_IDX_WORD GRT.ALLOC_IDX_CTX n 0 2 2048 s

def execAllocContextCommit (n : Fin 48) (w : Word) (s : State) : Host.Outcome State Fault Refusal :=
  onIsland (clusterIsland (treeCluster n)) s (allocCommit n w.toNat)

/-! Reports (R106, R107). -/

/-- A DBRu that passed its check reaches the grant cluster. The context is that of the last comb close (R118). A report for an
unmapped Alloc-ID is captured with context 0; one that is clipped and finds the queue full counts as both (DESIGN CHOICE,
log entry 107). -/
def queueReport (n alloc value frame : Nat) (s : State) : State :=
  let k := treeCluster n
  if !s.up (clusterIsland k) then wrapperAnswer (clusterIsland k) s
  else
    let s := bump GRT.RPT_CNT n s
    if roleStandby s || !on GRT.CTL_RPT_EN n s then s
    else match ctxAtClose n alloc s with
      | none => s |> bump GRT.RPT_UNK_CNT n |> raise (grtSource n) 7 [n, 0]
      | some (c, w0, w1) =>
        let lim := bitsOf w1 23 0
        let s := onlyIf (lim < value) (fun s => s |> bump GRT.RPT_CLIP_CNT n |> raise (grtSource n) 6 [n, c]) s
        if 256 ≤ (s.grant n).reports.length then s |> bump GRT.RPTQ_DROP_CNT n |> raise (grtSource n) 5 [n, c]
        else
          let q := (s.cluster k).rptSeq
          let r : Report := { ctx := c, term := bitsOf w0 8 0, value := min value lim, frame := frame, seq := q }
          (s.setCluster k { s.cluster k with rptSeq := q + 1 }).setGrant n { s.grant n with reports := (s.grant n).reports ++ [r] }

/-- SELECTION_SEND (R114): the next selection of the map in force is presented to the lane. -/
def execSelectionSend (n : Fin 48) (s : State) : Host.Outcome State Fault Refusal :=
  onIsland (clusterIsland (treeCluster n)) s fun s =>
    match (s.grant n).selections with
    | [] => s
    | x :: rest =>
      let s := s.setGrant n { s.grant n with selections := rest }
      if s.up (48 + n) then
        { s with lanes := Tbl.set {} s.lanes n { Tbl.get {} s.lanes n with crossing := (Tbl.get ({} : Lane) s.lanes n).crossing ++ [x] } }
      else wrapperAnswer (48 + n) s

end Sys2Proof.Machine
end

