-- ==== Sys2Proof/Machine/Lanes.lean ====
section
/-!
DEFINITION. Tree lanes and optical module control (02_tree_lanes.md, R18 to R41): the lane's operations and the
meanings of its commands.
-/

namespace Sys2Proof.Machine

def State.lane (s : State) (n : Nat) : Lane := Tbl.get {} s.lanes n
def State.setLane (s : State) (n : Nat) (x : Lane) : State := { s with lanes := Tbl.set {} s.lanes n x }

def State.term (s : State) (n t : Nat) : TermX := Tbl.get {} s.terms (n * 512 + t)
def State.setTerm (s : State) (n t : Nat) (x : TermX) : State := { s with terms := Tbl.set {} s.terms (n * 512 + t) x }

/-- R37: a test mode takes the lane out of service: it carries no frame and no burst. -/
def testing (n : Nat) (s : State) : Bool := rd TLN.TEST_MODE n s != 0

/-- The transmitter stops in the frame in progress: what is left of it is not sent (R19, R37). -/
def cutFrame (n : Nat) (s : State) : State := s.setFram n { s.fram n with cut := true }

/-- The transmitter PLL of the tree is locked. -/
def txPllLocked (n : Nat) (s : State) : Bool := (s.island n).pllLock

/-- R32: the level of TREE_TXDIS[n]; true is high, laser disabled. While the framing island is in reset or not yet
configured the pin holds its fuse-map state, which is drive 1 (R31, R324, R336). Near-end loopback holds it high (R37). -/
def txdis (n : Nat) (s : State) : Bool :=
  let st := rd TLN.STS_TX_STATE n s
  let low := on TLN.CTL_LASER_EN n s && (st == 1 || st == 2) && (roleActive s || roleTest s) &&
    on TLN.STS_PRES n s && txPllLocked n s && rd TLN.FORCE_TXDIS_FORCE n s != 1 && !s.pair.dark
  let forced := rd TLN.FORCE_TXDIS_FORCE n s == 2 && roleTest s && !s.pair.dark
  !(s.configured (framingIsland n) && rd TLN.TEST_MODE n s != 3 && (low || forced))

/-- R19: the exit sequence starts where the transmit island runs; otherwise it waits for its release (R20). -/
def startExit (n : Nat) (s : State) : State :=
  if s.up n then
    wr TLN.STS_TX_STATE n 1 (s.setLane n { s.lane n with exitStart := s.clk })
  else s

/-- TX_MODE_RUN (R19): a write of RUN from IDLE. -/
def txModeRun (n : Nat) (s : State) : State :=
  if rd TLN.CTL_TX_MODE n s = 0 then s |> wr TLN.CTL_TX_MODE n 1 |> startExit n else s

def execTxModeRun (n : Fin 48) (s : State) : Host.Outcome State Fault Refusal := onIsland (framingIsland n) s (txModeRun n)

/-- TX_EXIT_COMPLETE (R19): step 4, 205.1 ns after the write. -/
def execTxExitComplete (n : Fin 48) (s : State) : Host.Outcome State Fault Refusal :=
  onIsland n s fun s =>
    if rd TLN.STS_TX_STATE n s = 1 then
      s |> passTo ((s.lane n).exitStart + 206) |> wr TLN.STS_TX_STATE n 2 |> raise (48 + n) 13 []
    else s

/-- TX_MODE_IDLE (R19, R39): electrical idle at the next lane word; the frame is cut. -/
def txModeIdle (n : Nat) (s : State) : State := s |> wr TLN.CTL_TX_MODE n 0 |> wr TLN.STS_TX_STATE n 0 |> cutFrame n

def execTxModeIdle (n : Fin 48) (s : State) : Host.Outcome State Fault Refusal := onIsland (framingIsland n) s (txModeIdle n)

/-- TXDIS_FORCE_WRITE (R32): 0b10 outside the test role is discarded with a cause on source 183; an unlisted code is
discarded by R7. -/
def txdisForceWrite (n v : Nat) (s : State) : State :=
  let ofs := regOffset .tln n 17
  if v = 3 then encReject ofs v s
  else if v = 2 ∧ roleTest s = false then refuseWrite ofs v s
  else wr TLN.FORCE_TXDIS_FORCE n v s

def execTxdisForceWrite (n : Fin 48) (v : BitVec 2) (s : State) : Host.Outcome State Fault Refusal :=
  onIsland (framingIsland n) s (guarded (regOffset .tln n 17) v.toNat (txdisForceWrite n v.toNat))

/-- The index advances after each access to the data register, wrapping (R40). -/
def presetAdvance (n : Nat) (s : State) : State :=
  onlyIf (on TLN.PRESET_IDX_AUTO_INC n s = true) (wr TLN.PRESET_IDX_IDX n ((rd TLN.PRESET_IDX_IDX n s + 1) % 512)) s

/-- A software write of a preset entry: the RO fields are kept, AGE becomes 0 (R22, R23). -/
def presetWrite (n x w : Nat) (s : State) : State :=
  let s := wrx ⟨.preset, 0, 31, 16⟩ n x (w / 2 ^ 16) s
  wrx PRESET.AGE n x 0 s

/-- PRESET_DATA_ACCESS (R22, R23): a read (none) or a write of the entry PRESET_IDX names. -/
def execPresetDataAccess (n : Fin 48) (w : Option Word) (s : State) : Host.Outcome State Fault Refusal :=
  onIsland (framingIsland n) s fun s =>
    let x := rd TLN.PRESET_IDX_IDX n s
    let s := match w with
      | some w => presetWrite n x w.toNat s
      | none => setRead (rdWord .preset n x 0 s) s
    presetAdvance n s

/-- R24: the window a selection opens, from the entry it names. -/
def startMode (n : Nat) (sel : Selection) (s : State) : Win :=
  let x := sel.index
  let valid := rdx PRESET.VALID n x s == 1 && !sel.noPreset
  if valid && decide (rdx PRESET.AGE n x s ≤ rd TLN.RX_EQ_MAX_AGE n s) && on TLN.CTL_PRESET_EN n s then
    { sel := sel, preset := true, peak := rdx PRESET.PEAK n x s, gain := rdx PRESET.GAIN n x s,
      phase := rdx PRESET.PHASE n x s }
  else if valid && !decide (rdx PRESET.AGE n x s ≤ rd TLN.RX_EQ_MAX_AGE n s) then
    { sel := sel, peak := rdx PRESET.PEAK n x s, gain := rdx PRESET.GAIN n x s }
  else { sel := sel, peak := rd TLN.RX_EQ_DEF_PEAK n s, gain := rd TLN.RX_EQ_DEF_GAIN n s }

/-! TREE_SD outside the windows (R34). -/

/-- A number of 0.8 ns samples, in ns, rounded up. -/
def sampleNs (k : Nat) : Nat := (k * 4 + 4) / 5

/-- The instant of a window's ARRIVAL on the frame timebase (R26, R54): a lane cycle is 125,000 / 97,200 ns. -/
def arrivalNs (d : Selection) : Nat := frameT0 d.frame + (d.uro + d.arrival) * 125000 / 97200

/-- Where the extended window that is open, or the first one to come, begins. -/
def maskStart (n : Nat) (s : State) : Option Nat :=
  match (s.lane n).window with
  | some w => some (arrivalNs w.sel - w.lead)
  | none => ((s.fram n).due.map fun d => arrivalNs d - sampleNs (rd TLN.SD_CFG_SD_LEAD n s)).min?

/-- TREE_SD has read 0 at some filtered sample outside the extended windows. -/
def noteSd (n : Nat) (s : State) : State :=
  let l := s.lane n
  let since := max l.sdFrom l.sdSince
  let free := match maskStart n s with | some t => decide (since < t) | none => true
  onlyIf (rd TLN.STS_SD n s = 0 ∧ since ≤ frameBase s ∧ free = true) (fun s => s.setLane n { l with sdLow := true }) s

/-- The filtered TREE_SD shows energy: the pin is in use and does not chatter (R28). -/
def pinEnergy (n : Nat) (s : State) : Bool := rd TLN.CTL_SD_USE n s == 1 && !on TLN.STS_CHATTER n s

/-- A window opens in the lane with the settings of R39 and R69; the framing island no longer waits for it. TREE_SD that
reads asserted is energy of the window. A lane under test opens none; while the receiver is disabled the window opens, but
nothing is received in it (R40; log entry 104). -/
def openWindow (n : Nat) (w : Win) (s : State) : State :=
  let s := noteSd n s
  let l := s.lane n
  let s := s.setFram n { s.fram n with due := (s.fram n).due.filter fun d => d != w.sel }
  if testing n s then s
  else
    let lit := pinEnergy n s && on TLN.STS_SD n s
    s.setLane n { l with
      window := some { w with
        overrun := l.overrunNext, energy := lit, learn := on TLN.CTL_LEARN_EN n s
        lead := sampleNs (rd TLN.SD_CFG_SD_LEAD n s), lag := sampleNs (rd TLN.SD_CFG_SD_LAG n s)
        edThresh := rd TLN.RX_EQ_ED_THRESH n s, off := !on TLN.CTL_RX_EN n s
        dlmWin := rd TFR.DLM_CFG_WIN n s, dlmErr := rd TFR.DLM_CFG_ERR_MAX n s, dlmWarn := rd TFR.DLM_CFG_OFS_WARN n s }
      overrunNext := false, frameWindow := true, frameEnergy := l.frameEnergy || lit }

/-- R26 steps 3 to 6: the oldest pending selection is loaded and leaves the 4 places. -/
def loadSelection (n : Nat) (s : State) : State :=
  match (s.lane n).pendingSel, (s.lane n).window with
  | sel :: rest, none =>
    openWindow n (startMode n sel s) (s.setLane n { s.lane n with pendingSel := rest })
  | _, _ => s

/-- PRESET_SELECTION (R27): the oldest selection at the crossing becomes usable `lead` ps before its ARRIVAL. -/
def execPresetSelection (n : Fin 48) (lead : Int) (s : State) : Host.Outcome State Fault Refusal :=
  onIsland (48 + n) s fun s =>
    match (s.lane n).crossing with
    | [] => s
    | sel :: rest =>
      let s := s.setLane n { s.lane n with crossing := rest }
      let l := s.lane n
      if testing n s then s
      else if 4 ≤ l.pendingSel.length ∨ lead < 0 then
        s.setLane n { l with dropped := l.dropped ++ [sel] }
          |> bump TLN.PRESET_DROP_CNT n |> raise (48 + n) 10 []
      else
        let s := s.setLane n { l with pendingSel := l.pendingSel ++ [sel] }
        if lead < 20000 then s |> bump TLN.LATE_CNT n |> raise (48 + n) 9 [] |> loadSelection n
        else s

/-- SELECTION_LOAD (R26): once the window before has closed, the oldest pending selection's settings are loaded. -/
def execSelectionLoad (n : Fin 48) (s : State) : Host.Outcome State Fault Refusal :=
  onIsland (48 + n) s (loadSelection n)

/-- R35: the strobe of a window close; `next` is the next window's ARRIVAL in cycles after the close, if one is known. -/
def strobePulse (n : Nat) (next : Option Nat) (s : State) : State :=
  if on TLN.CTL_STRB_EN n s then
    let d := rd TLN.STRB_CFG_DELAY n s
    let w := rd TLN.STRB_CFG_WIDTH n s
    if (match next with | some g => decide (g < d + w) | none => false) then
      s |> bump TLN.STRB_SUPP_CNT n |> raise (48 + n) 12 []
    else s.setLane n { s.lane n with strobe := some (d, w) }
  else s

/-- Whether the ranging burst of a terminal was learned (R81); a ranging window without a burst tells nothing. -/
def noteLearned (n : Nat) (w : Win) (v : Bool) (s : State) : State :=
  onlyIf (w.sel.kind = .ranging ∧ (w.locked = true ∨ w.invalid = true)) (fun s => s.setTerm n w.sel.index { s.term n w.sel.index with phaseLearned := v }) s

/-- R25: the learning write-back of a window that locked and kept lock, under the LEARN_EN it opened with (R39); `beaten`
says that a software write reached the entry in the same cycle and wins. The phase is then this
unit's own path's (R36). -/
def presetLearn (n : Nat) (w : Win) (phase : Nat) (beaten : Bool) (s : State) : State :=
  let x := w.sel.index
  if w.locked && !w.invalid && !w.noEntry && w.learn && rdx PRESET.HOLD n x s == 0 then
    if beaten then s |> bump TLN.COLLIDE_CNT n |> raise (48 + n) 11 [] |> noteLearned n w false
    else s |> wrx PRESET.PHASE n x phase |> wrx PRESET.LOCK_UI n x (min w.lockUi 4095) |> wrx PRESET.AGE n x 0
      |> onlyIf ((s.lane n).learned.contains x = false)
          (fun s => s.setLane n { s.lane n with learned := (s.lane n).learned ++ [x] })
      |> noteLearned n w true
  else noteLearned n w false s

/-- R28: the in-band detector, where it is in use, saw energy in a window: a CTLE output of at least the ED_THRESH the window
took (R39, log entry 104). -/
def inBandEnergy (n : Nat) (w : Win) (level : Nat) (s : State) : Bool := !pinEnergy n s && decide (w.edThresh ≤ level)

/-- R30: the burst locked and kept lock. A window with several responses shows each of them as a burst of its own. -/
def Win.kept (w : Win) : Bool := w.locked && !w.invalid

/-- R30: the runs after a burst that locked and kept lock. -/
def keepRun (w : Win) (l : Lane) : Lane := if w.kept then { l with goodRun := l.goodRun + 1, badRun := 0 } else l

/-- A window closes (R25, R28, R29, R30, R34, R35). -/
def windowClose (n : Nat) (seen : CloseSeen) (beaten : Bool) (next : Option Nat) (s : State) : State :=
  match (s.lane n).window with
  | none => s
  | some w =>
    let l := keepRun w (s.lane n)
    s.setLane n { l with
        window := none, frameEnergy := l.frameEnergy || inBandEnergy n w seen.level s, sdFrom := frameBase s + w.lag }
      |> presetLearn n w seen.phase.toNat beaten |> strobePulse n next

/-- WINDOW_CLOSE: what the lane saw, the same-cycle software write of R25, the cycles to the next window's ARRIVAL. -/
def execWindowClose (n : Fin 48) (seen : CloseSeen) (beaten : Bool) (next : Option Nat) (s : State) :
    Host.Outcome State Fault Refusal := onIsland (48 + n) s (windowClose n seen beaten next)

/-- LOCK_DECLARED (R21, R29): the CDR locks `ui` UI after the load; LOS clears, and the dark frames counted toward it are
forgotten (log entry 104). In a quiet or ranging window each lock is that of a new response (R75). -/
def execLockDeclared (n : Fin 48) (ui : BitVec 16) (s : State) : Host.Outcome State Fault Refusal :=
  onIsland (48 + n) s fun s =>
    match (s.lane n).window with
    | none => s
    | some w =>
      if (w.sel.kind = .burst ∧ (w.locked ∨ w.invalid)) ∨ on TLN.CTL_RX_EN n s = false ∨ w.off = true then s
      else
        let s := s.setLane n { keepRun w (s.lane n) with
          window := some { w with locked := true, invalid := false, lockUi := ui.toNat, energy := true }
          frameEnergy := true, darkRun := 0 }
        if on TLN.STS_LOS n s && on TLN.STS_PRES n s then s |> wr TLN.STS_LOS n 0 |> raise (48 + n) 1 [] else s

/-- LOL_DECLARE (R30): 16 consecutive bursts that failed or lost lock. -/
def execLolDeclare (n : Fin 48) (s : State) : Host.Outcome State Fault Refusal :=
  onIsland (48 + n) s fun s =>
    if 16 ≤ (s.lane n).badRun ∧ on TLN.STS_LOL n s = false then
      s |> wr TLN.STS_LOL n 1 |> raise (48 + n) 2 []
    else s

/-- LOL_CLEAR (R30): 16 consecutive bursts that locked and kept lock. -/
def execLolClear (n : Fin 48) (s : State) : Host.Outcome State Fault Refusal :=
  onIsland (48 + n) s fun s =>
    if 16 ≤ (s.lane n).goodRun ∧ on TLN.STS_LOL n s = true then
      s |> wr TLN.STS_LOL n 0 |> raise (48 + n) 3 []
    else s

/-- R29: LOS declared. -/
def losDeclare (n : Nat) (s : State) : State :=
  if on TLN.STS_LOS n s then s
  else s |> wr TLN.STS_LOS n 1 |> bump TLN.LOS_CNT n |> raise (48 + n) 0 []

/-- LOS_DECLARE (R29): 4 consecutive frames with a window and no energy. -/
def execLosDeclare (n : Fin 48) (s : State) : Host.Outcome State Fault Refusal :=
  onIsland (48 + n) s fun s => if 4 ≤ (s.lane n).darkRun then losDeclare n s else s

/-- MODULE_PRESENCE_CHANGE (R29, R31): the filtered TREE_PRES_N changes; absence holds LOS declared, so that LOS stands when
a module is inserted, until a burst locks. -/
def execModulePresenceChange (n : Fin 48) (present : Bool) (s : State) : Host.Outcome State Fault Refusal :=
  onIsland (framingIsland n) s fun s =>
    if on TLN.STS_PRES n s = present then s
    else if present then s |> wr TLN.STS_PRES n 1 |> wr TLN.STS_LOS n 1 |> raise (48 + n) 6 []
    else s |> wr TLN.STS_PRES n 0 |> raise (48 + n) 7 [] |> losDeclare n

/-- TREE_SD_CHANGE (R28, R33): the pin changes to `level` and holds it for `samples` samples; 4 equal samples pass the
filter, fewer are a glitch. -/
def execTreeSdChange (n : Fin 48) (level : Bool) (samples : Nat) (s : State) : Host.Outcome State Fault Refusal :=
  onIsland (framingIsland n) s fun s =>
    let l := s.lane n
    if samples < 4 then
      s.setLane n { l with rejected := (l.rejected.filter fun t => decide (s.clk ≤ t + 10000)) ++ [s.clk],
                           lastRejected := s.clk }
        |> bump TLN.GLITCH_CNT n
    else
      let s := noteSd n s
      let l := s.lane n
      let energy := level && pinEnergy n s
      let win := l.window.map fun w => if energy then { w with energy := true } else w
      s.setLane n { l with window := win, frameEnergy := l.frameEnergy || (energy && l.window.isSome), sdSince := frameBase s }
        |> wr TLN.STS_SD n (b2n level) |> noteSd n

/-- CHATTER_DECLARE (R33): more than 8 rejected changes within 10 µs. -/
def execChatterDeclare (n : Fin 48) (s : State) : Host.Outcome State Fault Refusal :=
  onIsland (framingIsland n) s fun s =>
    if 8 < ((s.lane n).rejected.filter fun t => decide (s.clk ≤ t + 10000)).length ∧ on TLN.STS_CHATTER n s = false then
      s |> wr TLN.STS_CHATTER n 1 |> raise (48 + n) 4 []
    else s

/-- CHATTER_CLEAR (R33): 1 ms without a rejected change. -/
def execChatterClear (n : Fin 48) (s : State) : Host.Outcome State Fault Refusal :=
  onIsland (framingIsland n) s fun s =>
    if on TLN.STS_CHATTER n s then s |> passTo ((s.lane n).lastRejected + 1000000) |> wr TLN.STS_CHATTER n 0 else s

/-- TEST_SLIP (R38): the receive word boundary moves one bit later; refused outside the check modes. -/
def testSlip (n : Nat) (s : State) : State :=
  if rd TLN.TEST_MODE n s < 2 then refuseWrite (regOffset .tln n 16) 256 s
  else s.setLane n { s.lane n with slip := ((s.lane n).slip + 1) % 64 }

def execTestSlip (n : Fin 48) (s : State) : Host.Outcome State Fault Refusal := onIsland (framingIsland n) s (testSlip n)

/-- A pattern checker has seen 64 error-free words in a check mode: its lock, with the cause (R37, R283, R287). -/
def patternGained (mode lock : Fld) (i src bit : Nat) (s : State) : State :=
  if 2 ≤ rd mode i s ∧ on lock i s = false then s |> wr lock i 1 |> raise src bit [] else s

/-- A run of words with errors while a checker is locked: its bit errors are counted, and at 4 words the lock is lost with the
cause. A shorter run keeps the lock (R37, R283, R287). -/
def patternErrors (errs lock : Fld) (i src bit : Nat) (e : PrbsErrors) (s : State) : State :=
  if on lock i s then
    s |> wr errs i (min (rd errs i s + e.bits.toNat) 65535) |> onlyIf (4 ≤ e.words) (fun s => s |> wr lock i 0 |> raise src bit [])
  else s

/-- The island of a pattern checker: a tree's receive lane or a network lane. -/
def prbsIsland : PrbsAt → Nat
  | .tree n => 48 + n
  | .lane n => 96 + n

/-- PRBS_LOCK_GAIN. -/
def prbsGain (at_ : PrbsAt) (s : State) : State :=
  match at_ with
  | .tree n => patternGained TLN.TEST_MODE TLN.STS_PRBS_LOCK n (48 + n) 14 s
  | .lane n => patternGained NET.LANE_TEST_MODE NET.LANE_STS_PRBS_LOCK n (96 + n) 3 s

def execPrbsLockGain (at_ : PrbsAt) (s : State) : Host.Outcome State Fault Refusal := onIsland (prbsIsland at_) s (prbsGain at_)

/-- PRBS_LOCK_LOSS. -/
def prbsLoss (at_ : PrbsAt) (e : PrbsErrors) (s : State) : State :=
  match at_ with
  | .tree n => patternErrors TLN.TEST_PRBS_ERR_CNT TLN.STS_PRBS_LOCK n (48 + n) 15 e s
  | .lane n => patternErrors NET.LANE_TEST_PRBS_ERR_CNT NET.LANE_STS_PRBS_LOCK n (96 + n) 4 e s

def execPrbsLockLoss (at_ : PrbsAt) (errs : PrbsErrors) (s : State) : Host.Outcome State Fault Refusal :=
  onIsland (prbsIsland at_) s (prbsLoss at_ errs)

end Sys2Proof.Machine
end

