-- ==== Sys2Proof/Machine/Activation.lean ====
section
/-!
DEFINITION. Terminal activation, ranging and rogue control (04_activation.md, R73 to R98): the records' operations and
the meanings of the activation commands.
-/

namespace Sys2Proof.Machine

def State.actOf (s : State) (n : Nat) : Act := Tbl.get {} s.act n
def State.setAct (s : State) (n : Nat) (x : Act) : State := { s with act := Tbl.set {} s.act n x }

/-- ACT's own work on a tree: while the framing island is out of reset, in ACTIVE and TEST; a unit that is joining runs none, and
a standby's activation runs from the mirror (R142, R288, log entry 8). -/
def onAct (n : Nat) (s : State) (f : State → State) : Host.Outcome State Fault Refusal :=
  onIsland (framingIsland n) s fun s => if roleActive s || roleTest s then f s else s

def termState (n t : Nat) (s : State) : Nat := rdx ACTT.STATE n t s

/-! Activation records (R74, R78, R130). -/

def recWord0 (kind n t : Nat) (s : State) : Nat :=
  kind * 2 ^ 29 + termState n t s * 2 ^ 26 + rdx ACTT.SMK_DIS n t s * 2 ^ 25 + rdx ACTT.TRIAL n t s * 2 ^ 24 +
    t * 2 ^ 14 + n % 6 * 2 ^ 11

/-- R74: an activation record of a state change. -/
def sendRecord (n t : Nat) (s : State) : State :=
  pushActRec (treeCluster n) { w0 := recWord0 0 n t s, w1 := 0, w2 := 0 } s

/-- R78: a ranging request for a brood entry, with the RNG_WIN its ranging took (R96). -/
def sendRequest (n e : Nat) (s : State) : State :=
  let t := rdx BROOD.ONU_ID n e s
  pushActRec (treeCluster n)
    { w0 := recWord0 1 n t s, w1 := rdx ACTT.RATE n t s * 2 ^ 30 + rdx BROOD.RTD_EST n e s,
      w2 := bitsOf (BitVec.ofNat 32 (s.term n t).rngCfg) 17 10 } s

/-- R96: the ranging of a terminal begins; it keeps the RNG_CFG of this moment, and its answer is due by frame k + RNG_TO (R78). -/
def rangingBegins (n t k : Nat) (s : State) : State :=
  s.setTerm n t { s.term n t with rngEnd := some (k + rd ACT.RNG_CFG_RNG_TO n s), rngCfg := rdWord .act n 0 1 s }

/-! PLOAM queues (R87). -/

/-- A message of ACT joins the high queue of 32; while that is full ACT holds it. -/
def queueHigh (n : Nat) (m : Ploam) (s : State) : State :=
  let a := s.actOf n
  if a.high.length < 32 ∧ a.holding = [] then s.setAct n { a with high := a.high ++ [m] }
  else s.setAct n { a with holding := a.holding ++ [m] }

/-- A message offered to the normal queue of 256; a full queue refuses it to its sender. -/
def queueNormal (n : Nat) (m : Ploam) (s : State) : Bool × State :=
  let a := s.actOf n
  if a.normal.length < 256 then (true, s.setAct n { a with normal := a.normal ++ [m] })
  else (false, s |> bump ACT.PLQ_FULL_CNT n |> raise n 25 [])

/-- R135: a 40-byte body of a program or the host; hardware writes the sequence number into byte 3. -/
def bodyMessage (n : Nat) (body : List Byte) (s : State) : Ploam :=
  { kind := .body, onu := (body.getD 0 0).toNat * 256 + (body.getD 1 0).toNat,
    body := body.set 3 (BitVec.ofNat 8 (s.actOf n).seq) }

/-- Queue a body on the normal queue; the sequence number advances where it was taken. -/
def queueBody (n : Nat) (body : List Byte) (s : State) : Bool × State :=
  let r := queueNormal n (bodyMessage n body s) s
  if r.1 then (true, r.2.setAct n { r.2.actOf n with seq := (s.actOf n).seq + 1 }) else r

/-! Preset entries written by ACT: a software write under R25 (R74, R81). -/

def actPreset (n t w : Nat) (s : State) : State :=
  if s.up (48 + n) then presetWrite n t w s else wrapperAnswer (48 + n) s

/-- Clear VALID of a terminal's preset entry. -/
def presetClear (n t : Nat) (s : State) : State := actPreset n t (rdWord .preset n t 0 s % 2 ^ 31) s

/-- Write VALID, PEAK and GAIN of an entry; HOLD and PHASE stay. -/
def presetPeak (n t valid peak : Nat) (s : State) : State :=
  let w := rdWord .preset n t 0 s
  actPreset n t (valid * 2 ^ 31 + w / 2 ^ 30 % 2 * 2 ^ 30 + peak * 2 ^ 26 + rd ACT.RNG_CFG_PRESET_GAIN n s * 2 ^ 23 +
    w / 2 ^ 16 % 2 ^ 7 * 2 ^ 16) s

/-! The brood. -/

def broodUsed (n : Nat) (s : State) : List Nat := (List.range 64).filter fun e => rdx BROOD.VALID n e s == 1

/-- The lowest free brood entry (log entry 9). -/
def broodFree (n : Nat) (s : State) : Option Nat := (List.range 64).find? fun e => rdx BROOD.VALID n e s == 0

def broodOf (n t : Nat) (s : State) : Option Nat :=
  (List.range 64).find? fun e => rdx BROOD.VALID n e s == 1 && rdx BROOD.ONU_ID n e s == t

/-- Clear a brood entry, if there is one. -/
def clearBrood (n : Nat) (e : Option Nat) (s : State) : State :=
  match e with
  | none => s
  | some e => s |> wrWord .brood n e 0 0 |> wrWord .brood n e 1 0 |> wrWord .brood n e 2 0 |> wrWord .brood n e 3 0

/-- Free the brood entry of a terminal. -/
def freeBrood (n t : Nat) (s : State) : State :=
  let s := wrx ACTT.BROOD n t 0 s
  clearBrood n (broodOf n t s) s

/-- Take brood entry e for terminal t. -/
def takeBrood (n t e vendor vssn phase rtd : Nat) (s : State) : State :=
  s |> wrWord .brood n e 0 vendor |> wrWord .brood n e 1 vssn
    |> wrWord .brood n e 2 (2 ^ 31 + phase * 2 ^ 29 + t * 2 ^ 20) |> wrWord .brood n e 3 (rtd % 2 ^ 20)
    |> wrx ACTT.BROOD n t e

/-! States (R73, R74). -/

/-- Enter a state. On FREE and DISABLED the preset VALID is cleared and the brood entry freed; a record that becomes
FREE starts afresh (log entry 10). -/
def enterState (n t st : Nat) (s : State) : State :=
  let s := wrx ACTT.STATE n t st s
  let s := if st = 0 ∨ st = 4 then
      (s |> presetClear n t |> freeBrood n t |> wrx ACTT.TRIAL n t 0).setTerm n t { s.term n t with trial := none }
    else s
  let s := if st = 0 then
      (s |> wrx ACTT.SMK_DIS n t 0 |> wrx ACTT.LOB_RUN n t 0).setTerm n t { ({} : TermX) with key := (s.term n t).key }
    else s
  sendRecord n t s

/-- R85: deactivation; the record enters FREE when the message has been sent. -/
def deactivate (n t : Nat) (s : State) : State :=
  if (s.term n t).deactivating then s
  else
    let s := queueHigh n { kind := .deactivate, onu := t, moves := true } s
    (s.setTerm n t { s.term n t with deactivating := true, key := none, trial := none, lobDue := false })
      |> wrx ACTT.TRIAL n t 0 |> presetClear n t |> freeBrood n t
      |> bump ACT.DEACT_CNT n |> raise n 22 [t]

/-! Ranging (R79, R80). -/

/-- Records that hold a measured EqD (R80). -/
def rangedRecords (n : Nat) (s : State) : List Nat :=
  (terminals n s).filter fun t =>
    termState n t s == 2 || termState n t s == 3 || (termState n t s == 1 && (s.term n t).hasEqd)

/-- R80: EqD is not negative and the spread with the other measured records is at most `most` µs; 10 µs are 497,664 UI. -/
def reachOk (n t : Nat) (eqd : Int) (most : Nat) (s : State) : Bool :=
  let others := ((rangedRecords n s).filter (· != t)).map fun x => (rdx ACTT.EQD n x s : Int)
  let lo := others.foldl min eqd
  let hi := others.foldl max eqd
  decide (0 ≤ eqd) && decide ((hi - lo) * 10 ≤ (most : Int) * 497664)

/-- R80: a refused ranging result. A correction that fails R80 (R82) is counted and raised alike (DESIGN CHOICE, log
entry 106). -/
def refuseReach (n t : Nat) (s : State) : State :=
  s |> bump ACT.REACH_REJ_CNT n |> raise n 17 [t] |> deactivate n t

/-- URO in ns, rounded up: a lane cycle is 125,000 / 97,200 ns. -/
def uroNs (n : Nat) (s : State) : Nat := (rd TFR.US_CFG_URO n s * 125000 + 97199) / 97200

/-! Peaking trials (R81). -/

/-- The candidates DEF_PEAK, +1, −1, +2, −2 that lie in 0 to 15, at most EQ_TRIES of them. -/
def peakCandidates (d tries : Nat) : List Nat :=
  (([0, 1, -1, 2, -2] : List Int).filterMap fun o =>
    let c := (d : Int) + o
    if 0 ≤ c ∧ c ≤ 15 then some c.toNat else none).take tries

/-- Between equal scores the candidate nearer DEF_PEAK wins, then the lower. -/
def betterScore (d : Nat) (x y : Nat × Nat) : Bool :=
  let far := fun (c : Nat) => ((c : Int) - d).natAbs
  decide (x.2 < y.2 ∨ (x.2 = y.2 ∧ (far x.1 < far y.1 ∨ (far x.1 = far y.1 ∧ x.1 < y.1))))

def bestScore (d : Nat) : List (Nat × Nat) → Nat
  | [] => d
  | x :: l => (l.foldl (fun b y => if betterScore d y b then y else b) x).1

/-- The candidate under trial is written, or the winner once all are scored. -/
def trialStep (n t : Nat) (s : State) : State :=
  match (s.term n t).trial with
  | none => s
  | some tr =>
    match tr.left with
    | c :: _ => presetPeak n t 1 c s
    | [] =>
      let w := bestScore (rd TLN.RX_EQ_DEF_PEAK n s) tr.scores
      (s.setTerm n t { s.term n t with trial := none }) |> presetPeak n t 1 w |> wrx ACTT.EQ_PEAK n t w
        |> wrx ACTT.TRIAL n t 0 |> raise n 18 [t] |> sendRecord n t

/-- A trial burst scored. -/
def trialScore (n t score : Nat) (s : State) : State :=
  match (s.term n t).trial with
  | none => s
  | some tr =>
    match tr.left with
    | [] => s
    | c :: rest =>
      trialStep n t (s.setTerm n t { s.term n t with trial := some { left := rest, scores := tr.scores ++ [(c, score)] } })

/-! Bursts cut short (R30, R37, R39). -/

/-- Framing takes no more codewords of the burst whose delimiter was accepted last. A trial burst none of whose codewords has
been taken is never accepted by its header (R81). -/
def dropBurst (n : Nat) (s : State) : State :=
  match (s.fram n).burst with
  | none => s
  | some b => s.setFram n { s.fram n with burst := none } |> onlyIf (b.kind = .burst ∧ b.begun = false) (trialScore n b.term 4095)

/-- R30: a burst that failed or lost lock; the framing block discards what is left of it. -/
def lockBad (n : Nat) (w : Win) (s : State) : State :=
  let l := s.lane n
  s.setLane n { l with window := some { w with invalid := true, energy := true }, frameEnergy := true,
                       badRun := l.badRun + 1, goodRun := 0 }
    |> bump TLN.LOL_CNT n |> onlyIf (w.delimiter.isSome = true) (dropBurst n)

/-- LOCK_FAIL (R30): no lock by the end of the preamble. The command says that there was a burst, also where its energy came
after the first 64 UI; in a quiet or ranging window it is a new response (R75, log entry 104). -/
def execLockFail (n : Fin 48) (s : State) : Host.Outcome State Fault Refusal :=
  onIsland (48 + n) s fun s =>
    match (s.lane n).window with
    | none => s
    | some w =>
      if (w.sel.kind = .burst ∧ (w.locked ∨ w.invalid)) ∨ on TLN.CTL_RX_EN n s = false ∨ w.off = true then s
      else lockBad n { w with locked := false } (s.setLane n (keepRun w (s.lane n)))

/-- LOCK_LOST (R30): after lock, the phase error exceeds ±0.35 UI for 32 UI. -/
def execLockLost (n : Fin 48) (s : State) : Host.Outcome State Fault Refusal :=
  onIsland (48 + n) s fun s =>
    match (s.lane n).window with
    | none => s
    | some w => if w.locked ∧ w.invalid = false then lockBad n w s else s

/-- TEST_MODE_WRITE (R37, R39): MODE and PATTERN; a mode other than off takes the lane out of service. An unlisted mode
is discarded (R7). A mode without the checker has no pattern lock: PRBS_LOCK reads 0 at once, and cause 15, which is that of a
loss by R37, is not raised (DESIGN CHOICE, log entry 116). -/
def testModeWrite (n mode pattern : Nat) (s : State) : State :=
  let s := wr TLN.TEST_PATTERN n pattern s
  if 3 < mode then encReject (regOffset .tln n 16) mode s
  else
    s |> wr TLN.TEST_MODE n mode
      |> onlyIf (mode < 2) (wr TLN.STS_PRBS_LOCK n 0)
      |> onlyIf (mode ≠ 0) (fun s => s.setLane n { s.lane n with window := none, pendingSel := [] } |> dropBurst n |> cutFrame n)

def execTestModeWrite (n : Fin 48) (mode : BitVec 3) (pattern : BitVec 2) (s : State) :
    Host.Outcome State Fault Refusal :=
  onIsland (framingIsland n) s (testModeWrite n mode.toNat pattern.toNat)

/-- Ranging_Time sent to a record in RANGING: OPERATING, brood entry freed, trials or the default preset (R81). -/
def rangingDone (n t : Nat) (s : State) : State :=
  let learned := b2n (s.term n t).phaseLearned
  let d := rd TLN.RX_EQ_DEF_PEAK n s
  let s := s |> freeBrood n t |> bump ACT.RNG_OK_CNT n |> raise n 15 [t]
  if on ACT.CTL_EQ_EN n s && on TLN.CTL_LEARN_EN n s && rdx PRESET.HOLD n t s == 0 then
    (s.setTerm n t { s.term n t with
      trial := some { left := peakCandidates d (rd ACT.RNG_CFG_EQ_TRIES n s), scores := [] } })
      |> wrx ACTT.TRIAL n t 1 |> enterState n t 2 |> trialStep n t
  else s |> presetPeak n t learned d |> wrx ACTT.EQ_PEAK n t d |> enterState n t 2

/-! Messages sent (R78, R81, R85, R86). -/

/-- What the sending of a message in downstream frame k brings about. -/
def ploamSent (n k : Nat) (m : Ploam) (s : State) : State :=
  let t := m.onu
  if !m.moves then s else
  match m.kind with
  | .assignOnuId =>
    match broodOf n t s with
    | some e => s |> wrx BROOD.PHASE n e 1 |> rangingBegins n t k
    | none => s
  | .rangingTime =>
    if termState n t s = 1 ∧ (s.term n t).deactivating = false then rangingDone n t s
    else if termState n t s = 2 then raise n 19 [t] s
    else s
  | .deactivate =>
    let s := s.setTerm n t { s.term n t with deactivating := false }
    if termState n t s = 0 ∨ termState n t s = 4 then s else enterState n t 0 s
  | .disable => if termState n t s = 0 then s else enterState n t 4 s
  | .enable => if termState n t s = 4 then enterState n t 0 s else s
  | .enableAll => allOf ((terminals n s).filter fun t => termState n t s == 4) (fun t => enterState n t 0) s
  | .body => s

/-! The smoker (R92 to R95). -/

def smokerRunning (n : Nat) (s : State) : Bool := (s.actOf n).smoker.isSome

def smokerMessage (n : Nat) (k : PloamKind) (t : Nat) (s : State) : Ploam :=
  { kind := k, onu := t, vendor := rdx ACTT.SN_VENDOR n t s, vssn := rdx ACTT.SN_VSSN n t s }

/-- The candidates: the records in RANGING, OPERATING and LOST, ascending. -/
def smokerCandidates (n : Nat) (s : State) : List Nat :=
  (terminals n s).filter fun t => decide (1 ≤ termState n t s ∧ termState n t s ≤ 3)

/-- SMK_DIS of some terminals changes. An activation record of each goes to the cluster, since the record's word carries
SMK_DIS (R130); R74 names only state changes (DESIGN CHOICE, log entry 106). -/
def setSmkDis (n v : Nat) (ts : List Nat) (s : State) : State :=
  allOf ts (fun t s => s |> wrx ACTT.SMK_DIS n t v |> sendRecord n t) s

def smokerSend (n : Nat) (ms : List Ploam) (s : State) : State :=
  s.setAct n { s.actOf n with smkQueue := (s.actOf n).smkQueue ++ ms }

/-- restore() -/
def smokerRestore (n : Nat) (s : State) : State :=
  smokerSend n ({ kind := .enableAll, onu := 0x3FF } ::
      ((terminals n s).filter fun t => termState n t s == 4).map fun t => smokerMessage n .disable t s) s
    |> setSmkDis n 0 ((terminals n s).filter fun t => rdx ACTT.SMK_DIS n t s == 1)

/-- A field of CTL or ROGUE_CFG as rogue control has taken it at the last frame start (R96). -/
def rogueFld (f : Fld) (n : Nat) (s : State) : Nat :=
  bitsOf (BitVec.ofNat 32 (if f.word = 0 then (s.actOf n).ctlWord else (s.actOf n).rogueWord)) f.hi f.lo

/-- The smoker ends ISOLATED (2) or UNRESOLVED (3). -/
def smokerEnd (n code suspect : Nat) (s : State) : State :=
  let a := s.actOf n
  s.setAct n { a with smoker := none, smkEnd := code, smkSuspect := suspect }
    |> mirrorOut n (.smoker none) |> bump ACT.SMK_CNT n |> (if code = 2 then raise n 28 [suspect] else raise n 29 [])

/-- The next round, the final check, or the end without candidates. -/
def smokerNext (n : Nat) (x : Smoker) (s : State) : State :=
  let c := x.cands.filter fun t => !x.removed.contains t
  let x := { x with cands := c, phase := .sending, q := rogueFld ACT.ROGUE_CFG_SETTLE n s, unjudged := 0 }
  let put := fun (x : Smoker) (s : State) => s.setAct n { s.actOf n with
    smoker := some x, smkRound := x.round, smkTry := x.tries, smkCrit := x.crit }
  match c with
  | [] => s |> put x |> smokerRestore n |> smokerEnd n 3 0
  | [t] =>
    let s := smokerRestore n s
    let s := smokerSend n [smokerMessage n .disable t s] s
    s |> setSmkDis n 1 [t] |> put { x with checking := true, half := [t] }
  | _ =>
    let h := c.take ((c.length + 1) / 2)
    let rest := c.drop ((c.length + 1) / 2)
    let x := { x with round := x.round + 1, half := h }
    if x.lit then
      smokerSend n (h.map fun t => smokerMessage n .disable t s) s |> setSmkDis n 1 h |> put x
    else
      smokerSend n (rest.map fun t => smokerMessage n .enable t s) s |> setSmkDis n 0 rest |> put x

/-- start() -/
def smokerStart (n crit : Nat) (s : State) : State :=
  smokerNext n { crit := crit, cands := smokerCandidates n s, half := [], lit := true, round := 0, tries := 0,
                 checking := false, phase := .sending, q := 1, settle := 0, unjudged := 0, removed := [] }
    (s.setAct n { s.actOf n with smkEnd := 0, smkSuspect := 0, smkStop := false } |> mirrorOut n (.smoker (some (Fin.ofNat 3 crit))))

/-- R95: the smoker that SMK_EN = 0 stops ends after its round with restore(), back to idle; nothing is counted. -/
def smokerQuit (n : Nat) (s : State) : State :=
  smokerRestore n (s.setAct n { s.actOf n with smoker := none, smkEnd := 0, smkStop := false } |> mirrorOut n (.smoker none))

/-- The judged frame of a round or of the final check. -/
def smokerJudge (n : Nat) (x : Smoker) (seen : Bool) (s : State) : State :=
  if (s.actOf n).smkStop then smokerQuit n s
  else if x.checking then
    if !seen then
      s |> allOf x.half (fun t s => if 1 ≤ termState n t s ∧ termState n t s ≤ 3 then enterState n t 4 s else s)
        |> smokerEnd n 2 (x.half.headD 0)
    else if x.tries < rogueFld ACT.ROGUE_CFG_RETRY n s then
      smokerNext n { x with tries := x.tries + 1, cands := smokerCandidates n s, lit := true, round := 0, checking := false } s
    else s |> smokerRestore n |> smokerEnd n 3 0
  else if seen then smokerNext n { x with cands := x.cands.filter (fun t => !x.half.contains t), lit := true } s
  else smokerNext n { x with cands := x.half, lit := false } s

/-- R95: a deactivate or disable command takes a candidate out at the next round. -/
def smokerRemove (n t : Nat) (s : State) : State :=
  match (s.actOf n).smoker with
  | none => s
  | some x => s.setAct n { s.actOf n with smoker := some { x with removed := x.removed ++ [t] } }

/-- The phase of the smoker after its last message has left in a header: SETTLE frames after that frame, then a judged
frame. -/
def smokerLastSent (n : Nat) (s : State) : State :=
  match (s.actOf n).smoker with
  | some x =>
    if x.phase = .sending ∧ (s.actOf n).smkQueue = [] ∧ ((s.fram n).built.all fun b => b.smoker.isEmpty) = true then
      s.setAct n { s.actOf n with smoker := some { x with phase := .settling, settle := x.q + 1 } }
    else s
  | none => s

/-- Rogue control takes CTL and ROGUE_CFG (R96); SMK_EN = 0 ends a running smoker after its round (R95). -/
def rogueLatch (n : Nat) (s : State) : State :=
  let a := s.actOf n
  let stop := decide (bitsOf (BitVec.ofNat 32 a.ctlWord) 6 6 = 1) && !on ACT.CTL_SMK_EN n s && a.smoker.isSome
  s.setAct n { a with
    ctlWord := rdWord .act n 0 0 s, rogueWord := rdWord .act n 0 3 s, smkStop := a.smkStop || stop }

/-- A downstream frame starts: the settling frames count down. -/
def smokerFrame (n : Nat) (s : State) : State :=
  match (s.actOf n).smoker with
  | some x =>
    if x.phase = .settling then
      s.setAct n { s.actOf n with smoker := some { x with
        settle := x.settle - 1, phase := if x.settle ≤ 1 then .observing else .settling } }
    else s
  | none => s

/-! Commands. -/

/-- The records with a serial number: those not FREE. -/
def snMatch (n vendor vssn : Nat) (s : State) : List Nat :=
  (terminals n s).filter fun t => termState n t s != 0 && rdx ACTT.SN_VENDOR n t s == vendor &&
    rdx ACTT.SN_VSSN n t s == vssn

/-- Rows 6 and 7 of R77: the record a serial number is admitted as. -/
def admitRecord (n vendor vssn : Nat) (s : State) : Option Nat :=
  match (terminals n s).find? fun t => termState n t s == 0 && rdx ACTT.LISTED n t s == 1 &&
      rdx ACTT.SN_VENDOR n t s == vendor && rdx ACTT.SN_VSSN n t s == vssn with
  | some t => some t
  | none =>
    if rd ACT.CTL_ADMIT n s = 2 then
      (List.range 512).find? fun t => termState n t s == 0 && rdx ACTT.LISTED n t s == 0
    else none

def refuseAdmission (n : Nat) (s : State) : State := s |> bump ACT.ADMIT_REJ_CNT n |> raise n 14 []

/-- The StartTime S of the window a response answers, by the map ring (R79, R114). -/
def windowStart (n : Nat) (g : GrantRef) (s : State) : Option Nat := (ringBurst n g s).map (·.start)

/-- The estimated round trip of a Serial_Number_ONU response (R77). -/
def roundTrip (n : Nat) (r : SerialResponse) (s : State) : Nat := r.preamble - (windowStart n r.grant s).getD 0 - r.random

/-- Admission of record t (R77). An unlisted record takes the rate of the quiet window that the terminal answered in. -/
def admitAs (n t e : Nat) (r : SerialResponse) (s : State) : State :=
  s |> onlyIf (rdx ACTT.LISTED n t s = 0) (wrx ACTT.RATE n t (((ringBurst n r.grant s).map (·.rate)).getD 0))
    |> wrx ACTT.SN_VENDOR n t r.vendor.toNat |> wrx ACTT.SN_VSSN n t r.vssn.toNat
    |> takeBrood n t e r.vendor.toNat r.vssn.toNat 0 (roundTrip n r s)
    |> enterState n t 1
    |> queueHigh n { kind := .assignOnuId, onu := t, vendor := r.vendor.toNat, vssn := r.vssn.toNat, moves := true }
    |> raise n 12 [t]

/-- Rows 4 to 7 of R77. -/
def admitTable (n : Nat) (r : SerialResponse) (s : State) : State :=
  if on ACT.CTL_ACT_EN n s = false ∨ rd ACT.CTL_ADMIT n s = 0 ∨ smokerRunning n s = true then refuseAdmission n s
  else match broodFree n s with
    | none => s |> bump ACT.BROOD_FULL_CNT n |> raise n 13 []
    | some e =>
      match admitRecord n r.vendor.toNat r.vssn.toNat s with
      | none => refuseAdmission n s
      | some t => admitAs n t e r s

/-- The first row of R77's table that applies, over the records `ms` that match. Row 1 raises cause 14 as every refusal that
ADMIT_REJ_CNT counts does (DESIGN CHOICE, log entry 106). -/
def serialRow (n : Nat) (r : SerialResponse) (ms : List Nat) (s : State) : State :=
  if ms.any fun t => termState n t s == 4 then refuseAdmission n s
  else match ms.find? fun t => termState n t s == 1 with
    | some t =>
      match broodOf n t s with
      | some e => s |> wrx BROOD.RTD_EST n e (roundTrip n r s) |> wrx BROOD.AGE n e 0
      | none => s
    | none =>
      match ms with
      | t :: _ => s |> raise n 26 [t] |> deactivate n t |> admitTable n r
      | [] => admitTable n r s

/-- SERIAL_NUMBER_ONU (R77). A response to no window of the map ring is none. -/
def serialNumberOnu (n : Nat) (r : SerialResponse) (s : State) : State :=
  let ms := snMatch n r.vendor.toNat r.vssn.toNat s
  if windowStart n r.grant s = none ∨ ms.any (fun t => (s.term n t).deactivating) = true then s
  else s |> bump ACT.SN_RX_CNT n |> serialRow n r ms

def execSerialNumberOnu (n : Fin 48) (r : SerialResponse) (s : State) : Host.Outcome State Fault Refusal :=
  onAct n s (serialNumberOnu n r)

/-- REGISTRATION (R79, R80; DIFF_MAX as the ranging took it, R96): `a` is A in UI of the terminal's rate; S is the StartTime of the ranging grant of the terminal that
the message answers, by the map ring (R114). The message carries EqD in UI at 49.7664 Gbit/s, as the record holds it (DESIGN CHOICE, log entry 106). -/
def registration (n t a : Nat) (g : GrantRef) (s : State) : State :=
  match broodOf n t s, windowStart n g s with
  | none, _ => s
  | _, none => s
  | some e, some start =>
    if termState n t s = 1 ∧ rdx BROOD.PHASE n e s = 1 ∧ (s.term n t).deactivating = false then
      let rtd : Int := (a * 2 ^ rdx ACTT.RATE n t s : Nat) - (64 * start : Nat)
      let eqd : Int := (64 * rd TFR.US_CFG_URO n s : Nat) - rtd
      if reachOk n t eqd (bitsOf (BitVec.ofNat 32 (s.term n t).rngCfg) 9 0) s then
        let s := s |> wrx ACTT.EQD n t eqd.toNat |> wrx BROOD.PHASE n e 2
        (s.setTerm n t { s.term n t with hasEqd := true })
          |> queueHigh n { kind := .rangingTime, onu := t, eqd := eqd.toNat, moves := true }
      else refuseReach n t s
    else s

def execRegistration (n : Fin 48) (t : BitVec 9) (a : Nat) (start : GrantRef) (s : State) :
    Host.Outcome State Fault Refusal :=
  onAct n s (registration n t.toNat a start)

/-- RANGING_TIMEOUT (R78): the upstream frame governed by the map of frame a + RNG_TO has ended without a
Registration. -/
def rangingTimeout (n t : Nat) (s : State) : State :=
  match broodOf n t s, (s.term n t).rngEnd with
  | some e, some k =>
    if termState n t s = 1 ∧ rdx BROOD.PHASE n e s = 1 ∧ (s.term n t).deactivating = false then
      let s := passToFrame (frameT0 (k + 1) + uroNs n s) s
      s |> bump ACT.RNG_FAIL_CNT n |> raise n 16 [t] |> deactivate n t
    else s
  | _, _ => s

def execRangingTimeout (n : Fin 48) (t : BitVec 9) (s : State) : Host.Outcome State Fault Refusal :=
  onAct n s (rangingTimeout n t.toNat)

/-- R83: a missed granted window of a terminal; not while it is DISABLED or SMK_DIS (R74). A run of MISS_N or more at a miss
declares LOB (R96). -/
def countMiss (n t : Nat) (s : State) : State :=
  if termState n t s = 2 then
    let run := min (rdx ACTT.LOB_RUN n t s + 1) 15
    (wrx ACTT.LOB_RUN n t run s).setTerm n t { s.term n t with lobDue := decide (rd ACT.LOB_CFG_MISS_N n s ≤ run) }
  else s

/-- LOB_DECLARE (R83): the last miss was at least the MISS_N-th in a row. -/
def lobDeclare (n t : Nat) (s : State) : State :=
  if termState n t s = 2 ∧ (s.term n t).lobDue = true ∧ (s.term n t).deactivating = false then
    (s.setTerm n t { s.term n t with lostFrames := 0, lobDue := false, lobFrame := some (s.fram n).frame })
      |> enterState n t 3 |> bump ACT.LOB_CNT n |> raise n 20 [t]
  else s

def execLobDeclare (n : Fin 48) (t : BitVec 9) (s : State) : Host.Outcome State Fault Refusal :=
  onAct n s (lobDeclare n t.toNat)

/-- LOB_HOLD_EXPIRY (R83): LOB_HOLD frames in LOST without a burst. -/
def lobHoldExpiry (n t : Nat) (s : State) : State :=
  if termState n t s = 3 ∧ rd ACT.LOB_CFG_LOB_HOLD n s ≤ (s.term n t).lostFrames then deactivate n t s else s

def execLobHoldExpiry (n : Fin 48) (t : BitVec 9) (s : State) : Host.Outcome State Fault Refusal :=
  onAct n s (lobHoldExpiry n t.toNat)

/-- R83: an accepted delimiter breaks the run of misses and returns a LOST record. -/
def burstAccepted (n t : Nat) (s : State) : State :=
  let s := (wrx ACTT.LOB_RUN n t 0 s).setTerm n t { s.term n t with lobDue := false }
  if termState n t s = 3 ∧ (s.term n t).deactivating = false then s |> enterState n t 2 |> raise n 21 [t] else s

/-- R82: the delimiter offset of an accepted burst, in UI of the terminal's rate; `warn` is the OFS_WARN its window took. -/
def driftStep (n t warn : Nat) (ofs : Int) (s : State) : State :=
  let x := s.term n t
  if on ACT.CTL_DRIFT_EN n s = false ∨ termState n t s ≠ 2 then s
  else
    let run := if warn < ofs.natAbs then x.driftRun + 1 else 0
    let k := (s.fram n).frame
    let s := s.setTerm n t { x with driftRun := run }
    if rd ACT.RNG_CFG_DRIFT_N n s ≤ run ∧ (match x.lastCorrection with | some f => decide (f + 8 ≤ k) | none => true) = true then
      let eqd : Int := (rdx ACTT.EQD n t s : Int) - ofs * (2 ^ rdx ACTT.RATE n t s : Nat)
      let s := s.setTerm n t { s.term n t with driftRun := 0, lastCorrection := some k }
      if reachOk n t eqd (rd ACT.RNG_CFG_DIFF_MAX n s) s then
        s |> wrx ACTT.EQD n t eqd.toNat |> queueHigh n { kind := .rangingTime, onu := t, eqd := eqd.toNat, moves := true }
      else refuseReach n t s
    else s

/-- DYING_GASP (R84): a LOB of the same terminal declared in the same frame is not counted (log entry 106). -/
def dyingGasp (n t : Nat) (s : State) : State :=
  if termState n t s = 0 ∨ termState n t s = 4 ∨ (s.term n t).deactivating = true then s
  else
    s |> onlyIf ((s.term n t).lobFrame = some (s.fram n).frame) (wr ACT.LOB_CNT n (rd ACT.LOB_CNT n s - 1))
      |> raise n 23 [t] |> deactivate n t

def execDyingGasp (n : Fin 48) (t : BitVec 9) (s : State) : Host.Outcome State Fault Refusal :=
  onAct n s (dyingGasp n t.toNat)

/-! Commands of software (R86). -/

/-- The write of TCMD leaves OP and TERM, and GO clears on completion: the command is complete once it has been refused, or
its message is in the high queue. R86 lets the record move later, when that message has been sent (DESIGN CHOICE, log entry
118). -/
def tcmdDone (n op t err : Nat) (s : State) : State :=
  s |> wr ACT.TCMD_OP n op |> wr ACT.TCMD_TERM n t |> wr ACT.TCMD_ERR n err |> wr ACT.TCMD_GO n 0

def tcmdRefuse (n op t : Nat) (s : State) : State :=
  s |> tcmdDone n op t 1 |> raise n 30 [t] |> refuseCode 0

def tcmdDeactivate (n t : Nat) (s : State) : State :=
  if termState n t s = 0 ∨ termState n t s = 4 then tcmdRefuse n 0 t s
  else s |> tcmdDone n 0 t 0 |> smokerRemove n t |> deactivate n t

def tcmdDisable (n t : Nat) (s : State) : State :=
  if termState n t s = 0 then tcmdRefuse n 1 t s
  else s |> tcmdDone n 1 t 0 |> smokerRemove n t
    |> queueHigh n { smokerMessage n .disable t s with moves := true }

def tcmdEnable (n t : Nat) (s : State) : State :=
  if termState n t s ≠ 4 ∨ smokerRunning n s = true then tcmdRefuse n 2 t s
  else s |> tcmdDone n 2 t 0 |> queueHigh n { smokerMessage n .enable t s with moves := true }

/-- Re-range: the brood entry asks for a ranging grant from this frame on, with the round trip its EqD implies
(log entry 11). -/
def tcmdReRange (n t : Nat) (s : State) : State :=
  match broodFree n s with
  | none => tcmdRefuse n 3 t s
  | some e =>
    if termState n t s ≠ 2 ∨ smokerRunning n s = true then tcmdRefuse n 3 t s
    else
      let s := s |> tcmdDone n 3 t 0
        |> takeBrood n t e (rdx ACTT.SN_VENDOR n t s) (rdx ACTT.SN_VSSN n t s) 1
             ((64 * rd TFR.US_CFG_URO n s - rdx ACTT.EQD n t s) / 64)
      (s.setTerm n t { s.term n t with hasEqd := false }) |> rangingBegins n t (s.fram n).frame |> enterState n t 1

def tcmdEnableAll (n t : Nat) (s : State) : State :=
  if smokerRunning n s then tcmdRefuse n 4 t s
  else s |> tcmdDone n 4 t 0 |> queueHigh n { kind := .enableAll, onu := 0x3FF, moves := true }

def execTcmdDeactivate (n : Fin 48) (t : BitVec 9) (s : State) : Host.Outcome State Fault Refusal :=
  onIsland (framingIsland n) s (tcmdDeactivate n t.toNat)
def execTcmdDisable (n : Fin 48) (t : BitVec 9) (s : State) : Host.Outcome State Fault Refusal :=
  onIsland (framingIsland n) s (tcmdDisable n t.toNat)
def execTcmdEnable (n : Fin 48) (t : BitVec 9) (s : State) : Host.Outcome State Fault Refusal :=
  onIsland (framingIsland n) s (tcmdEnable n t.toNat)
def execTcmdReRange (n : Fin 48) (t : BitVec 9) (s : State) : Host.Outcome State Fault Refusal :=
  onIsland (framingIsland n) s (tcmdReRange n t.toNat)
def execTcmdEnableAll (n : Fin 48) (t : BitVec 9) (s : State) : Host.Outcome State Fault Refusal :=
  onIsland (framingIsland n) s (tcmdEnableAll n t.toNat)

/-! Upstream PLOAM (R89) and keys (R88). -/

/-- PLOAM_UPSTREAM (R89): `c` is the integrity check; a response that fails it after an overlap is a collision (R76). ACT consumes three kinds itself (their effects are
SERIAL_NUMBER_ONU, REGISTRATION and DYING_GASP); every other message goes to the host as PLOAM_RX (R376). -/
def ploamUpstream (n t : Nat) (kind : UpKind) (c : PloamCheck) (body : List Byte) (s : State) : State :=
  if !c.ok then
    s |> bump ACT.MIC_ERR_CNT n |> bumpx ACTT.MIC_ERR n t |> raise n 24 [t] |> onlyIf (c.overlap = true) (bump ACT.SN_COLL_CNT n)
  else if kind = .other then
    let p : Packet := { kind := 2, opcode := 0x81, arg0 := n, arg1 := t, payload := (body ++ List.replicate 48 0).take 48 }
    match hostPacket SESS.CTL_PLU_EN (5 + treeCluster n) p s with
    | (.noSession, s) => s |> bump ACT.PLU_DROP_CNT n |> raise n 31 []
    | (_, s) => s
  else s

def execPloamUpstream (n : Fin 48) (t : BitVec 9) (kind : UpKind) (ok : PloamCheck) (body : List Byte) (s : State) :
    Host.Outcome State Fault Refusal :=
  onAct n s (ploamUpstream n t.toNat kind ok body)

/-- R40-like index registers whose first word is 0. -/
def advanceIndex (auto_ word entry : Fld) (i words entries : Nat) (s : State) : State :=
  advanceWord auto_ word entry i 0 words entries s

/-- A write of KEY_DATA (R88, R97): words 0 to 2 are staged; word 3 commits the key, which the active mirrors (R295). -/
def ploamKeyWrite (n w : Nat) (s : State) : State :=
  let t := rd ACT.KEY_IDX_TERM n s
  let k := rd ACT.KEY_IDX_WORD n s
  let a := s.actOf n
  let s :=
    if k = 3 then
      let key := Tbl.get 0 a.keyStage 0 * 2 ^ 96 + Tbl.get 0 a.keyStage 1 * 2 ^ 64 + Tbl.get 0 a.keyStage 2 * 2 ^ 32 + w
      s.setTerm n t { s.term n t with key := some key } |> mirrorOut n (.ploamKey (BitVec.ofNat 9 t) key)
    else s.setAct n { a with keyStage := Tbl.set 0 a.keyStage k w }
  advanceIndex ACT.KEY_IDX_AUTO_INC ACT.KEY_IDX_WORD ACT.KEY_IDX_TERM n 4 512 s

/-- PLOAM_KEY_COMMIT (R88): a guarded register. -/
def execPloamKeyCommit (n : Fin 48) (w : Word) (s : State) : Host.Outcome State Fault Refusal :=
  onIsland (framingIsland n) s (guarded (regOffset .act n 17) w.toNat (ploamKeyWrite n w.toNat))

/-! Time of day (R90). -/

/-- TOD_REQUEST: a write of TOD_N_HI. -/
def todRequest (n v : Nat) (s : State) : State :=
  (wr ACT.TOD_N_HI_N_HI n v s).setAct n { s.actOf n with todBusy := true }

def execTodRequest (n : Fin 48) (v : BitVec 19) (s : State) : Host.Outcome State Fault Refusal :=
  onIsland (framingIsland n) s (todRequest n v.toNat)

/-- TOD_DONE: T_N is N periods of 125 µs after the PTP epoch (R43, R279). -/
def execTodDone (n : Fin 48) (s : State) : Host.Outcome State Fault Refusal :=
  onIsland (framingIsland n) s fun s =>
    if (s.actOf n).todBusy then
      let t := ((frameT0 (rd ACT.TOD_N_HI_N_HI n s * 2 ^ 32 + rd ACT.TOD_N_LO n s) : Nat) - (s.tim.frErr + 32768) / 65536).toNat
      (s.setAct n { s.actOf n with todBusy := false })
        |> wr ACT.TOD_SEC n (t / 1000000000 % 2 ^ 32) |> wr ACT.TOD_NS_NS n (t % 1000000000)
        |> wr ACT.TOD_SEC_HI_SEC_HI n (t / 1000000000 / 2 ^ 32)
    else s

/-! Rogue control. -/

/-- The enable of a criterion: 0 stray light, 1 overrun, 2 SD stuck (R92). -/
def criterionEnabled (n crit : Nat) (s : State) : Bool :=
  rogueFld (if crit = 0 then ACT.CTL_STRAY_CRIT_EN else if crit = 1 then ACT.CTL_OVR_CRIT_EN else ACT.CTL_SD_CRIT_EN) n s == 1

/-- R92: energy in a gap that lasted at least STRAY_MIN lane cycles. -/
def strayLight (n light : Nat) (s : State) : Bool := light != 0 && decide (rogueFld ACT.ROGUE_CFG_STRAY_MIN n s ≤ light)

/-- The criterion is met by what the tree has shown. -/
def criterionMet (n crit : Nat) (s : State) : Bool :=
  let a := s.actOf n
  if crit = 0 then decide (rogueFld ACT.ROGUE_CFG_STRAY_N n s ≤ a.strayRun)
  else if crit = 1 then
    decide (rogueFld ACT.ROGUE_CFG_OVR_N n s ≤ (a.overruns.filter fun f => decide ((s.fram n).frame < f + 8)).length)
  else a.sdRogue

/-- ROGUE_CRITERION (R92): an enabled criterion that is met raises cause 27 and starts the smoker. -/
def rogueCriterion (n crit : Nat) (s : State) : State :=
  if criterionEnabled n crit s && criterionMet n crit s then
    let a := s.actOf n
    let s := s.setAct n { a with
      strayRun := if crit = 0 then 0 else a.strayRun,
      overruns := if crit = 1 then [] else a.overruns, sdRogue := if crit = 2 then false else a.sdRogue }
    let s := raise n 27 [] s
    if rogueFld ACT.CTL_SMK_EN n s == 1 && !smokerRunning n s then smokerStart n crit s else s
  else s

def execRogueCriterion (n : Fin 48) (crit : Fin 3) (s : State) : Host.Outcome State Fault Refusal :=
  onAct n s (rogueCriterion n crit)

/-- R92: whether the frame under observation can be judged for the smoker's criterion, and whether it showed it. Overruns are
the framer's own, and every frame can be judged for them; TREE_SD is the lane's, but for the stray-light test while it
chatters; `light` is the lane cycles of the longest energy in a gap. -/
def rogueSeen (n crit : Nat) (gap : GapSeen) (light : Nat) (s : State) : Bool × Bool :=
  if crit = 1 then (true, (s.actOf n).lastOverrun == some (s.fram n).frame)
  else if crit = 2 ∧ on TLN.STS_CHATTER n s = false then (decide (100 ≤ gap.total), (s.lane n).sdStuck)
  else (decide (100 ≤ gap.longest), strayLight n light s)

/-- SMOKER_OBSERVE (R92, R93): the time outside the extended windows of the frame under observation, and the lane cycles of
the longest energy in a gap there. -/
def smokerObserve (n : Nat) (gap : GapSeen) (light : Nat) (s : State) : State :=
  match (s.actOf n).smoker with
  | none => s
  | some x =>
    let (judged, seen) := rogueSeen n x.crit gap light s
    if x.phase ≠ .observing then s
    else if !judged then
      if 8 ≤ x.unjudged + 1 then (if (s.actOf n).smkStop then smokerQuit n s else s |> smokerRestore n |> smokerEnd n 3 0)
      else s.setAct n { s.actOf n with smoker := some { x with unjudged := x.unjudged + 1 } }
    else smokerJudge n x seen s

def execSmokerObserve (n : Fin 48) (judged : GapSeen) (seen : Nat) (s : State) : Host.Outcome State Fault Refusal :=
  onAct n s (smokerObserve n judged seen)

/-- SMOKER_STOP (R95): SMK_EN = 0; rogue control takes it at the next frame start (R96, rogueLatch). -/
def smokerStop (n : Nat) (s : State) : State := wr ACT.CTL_SMK_EN n 0 s

def execSmokerStop (n : Fin 48) (s : State) : Host.Outcome State Fault Refusal :=
  onIsland (framingIsland n) s (smokerStop n)

/-- SD_ROGUE (R34): two whole consecutive frames stuck; not while the pin chatters. -/
def sdRogueReport (n : Nat) (s : State) : State :=
  if 2 ≤ (s.lane n).sdRun ∧ on TLN.STS_CHATTER n s = false then
    (s.setLane n { s.lane n with sdRun := 0 }).setAct n { s.actOf n with sdRogue := true } |> raise (48 + n) 5 []
  else s

def execSdRogue (n : Fin 48) (s : State) : Host.Outcome State Fault Refusal :=
  onIsland (framingIsland n) s (sdRogueReport n)

end Sys2Proof.Machine
end

