-- ==== Sys2Proof/Machine/PairOps.lean ====
section
/-!
DEFINITION. What the blocks share of the protection pair (13_pair_system.md): the partner as it was last reported, the runs of
R290 and R304, READY (R295) and the shadow offsets (R297).
-/

namespace Sys2Proof.Machine

def State.setPair (s : State) (x : PairSt) : State := { s with pair := x }
def pairCause (bit : Nat) (d : List Nat) (s : State) : State := raise 181 bit d s

def linkIsUp (s : State) : Bool := on PAR.STS_LINK 0 s
def partnerRole (s : State) : Nat := rd PAR.STS_PARTNER_ROLE 0 s
def partnerReady (s : State) : Bool := on PAR.STS_PARTNER_READY 0 s
def score (s : State) : Nat := rd PAR.HEALTH_SCORE 0 s
def scoreOk (s : State) : Bool := decide (rd PAR.CTL_YIELD_THR 0 s ≤ score s)

/-! Conditions that must hold without a break (R290, R304), and READY (R295). -/

def formed (s : State) : Bool :=
  linkIsUp s && ((role s == 2 && partnerRole s == 1 && partnerReady s) ||
    (role s == 1 && on PAR.STS_READY 0 s && partnerRole s == 2))

def returnable (s : State) : Bool :=
  home s && role s == 1 && on PAR.STS_READY 0 s && linkIsUp s && rd PAR.CTL_PMODE 0 s == 0 &&
    s.pair.partnerPmode == 0 && partnerRole s != 3

def track (s : State) : State :=
  let hold := fun (c : Bool) (t : Option Nat) => if c then some (t.getD s.clk) else none
  s.setPair { s.pair with
    formedSince := hold (formed s) s.pair.formedSince, retSince := hold (returnable s) s.pair.retSince }

/-- Trees with a terminal in OPERATING. -/
def operatingTree (n : Nat) (s : State) : Bool := (terminals n s).any fun t => termState n t s == 2

def refreshReady (s : State) : State :=
  let ready := on PAR.STS_SYNC 0 s && scoreOk s &&
    (List.range 48).all fun n => !operatingTree n s || (Tbl.get none s.pair.ofs n).isSome
  track (wr PAR.STS_READY 0 (b2n ready) s)

/-! Shadow offsets (R297). -/

/-- The mean of a list of arrivals, 1/64 lane cycle, rounded down. -/
def meanOf (l : List Int) : Int := l.foldl (· + ·) 0 / l.length

/-- The offset of tree n is the mean over its last 16 bursts, newest first; outside ±194,400 lane cycles the tree has none. -/
def setOfs (n : Nat) (l : List Int) (s : State) : State :=
  let o := meanOf l
  if 194400 * 64 < o.natAbs then
    s.setPair { s.pair with ofs := Tbl.set none s.pair.ofs n none, bursts := Tbl.set [] s.pair.bursts n [] }
      |> pairCause 14 [] |> refreshReady
  else s.setPair { s.pair with ofs := Tbl.set none s.pair.ofs n (some o), bursts := Tbl.set [] s.pair.bursts n l } |> refreshReady

/-- A burst delineated on a standby, `m` after the arrival the mirrored map gives it, 1/64 lane cycle: one of the last 16 once the
offset is valid (R297). -/
def noteArrival (n : Nat) (m : Int) (s : State) : State :=
  match Tbl.get none s.pair.ofs n with
  | some _ => setOfs n ((m :: Tbl.get [] s.pair.bursts n).take 16) s
  | none => s

end Sys2Proof.Machine
end

