-- ==== Sys2Proof/Machine/Framing.lean ====
section
/-!
DEFINITION. Tree framing, forward error correction and the decoder pool (03_tree_framing.md, R42 to R72): the downstream
frame, delimiter search, the pool, codeword results, degraded signal, and the meanings of the framing commands.
-/

namespace Sys2Proof.Machine

/-! The downstream frame (R42 to R53). -/

/-- The map of a frame is void: no selections, counted, shown and raised (R50). -/
def mapVoid (n : Nat) (s : State) : State :=
  s |> bump TFR.MAP_VOID_CNT n |> wr TFR.STS_MAP_VOID n 1 |> raise n 0 []

/-- FS bytes of a frame (R42, R48). -/
def fsBytes (fec : Bool) : Nat := if fec then 656616 else 777576

/-- Bytes of the FS frame that its first c codewords hold: 1,824 data bytes a codeword, 2,160 without FEC; codeword 359 is the
one shortened (R42, R48). -/
def sentBytes (fec : Bool) (c : Nat) : Nat := min (c * (if fec then 1824 else 2160)) (fsBytes fec)

/-- Bytes an XGEM frame of a payload takes: the header and the padded payload (R45). -/
def xgemBytes (n : Nat) : Nat := 8 + (n + 3) / 4 * 4

/-- R154: the segments of an SDU of L bytes: the bytes of each, and whether it is the last. -/
def segments (len : Nat) : List (Nat × Bool) :=
  let n := (len + 16379) / 16380
  (List.range n).map fun i => (min 16380 (len - 16380 * i), i + 1 == n)

/-- R154: bytes of XGEM frames a container of L bytes takes. -/
def containerBytes (len : Nat) : Nat :=
  let n := (len + 16379) / 16380
  8 * n + 16380 * (n - 1) + (len - 16380 * (n - 1) + 3) / 4 * 4

/-- The bytes a frame's containers take. -/
def containersBytes (l : List Container) : Nat := l.foldl (fun a c => a + containerBytes c.len) 0

/-- The PLOAM messages a header takes, in the order of R87: the smoker's, the high queue's and the normal queue's; and
the queues they leave. -/
def takePloams (n : Nat) (s : State) : List Ploam × List Ploam × State :=
  let p := rd TFR.CTL_PLOAM_MAX n s + 1
  let a := s.actOf n
  let room := 32 - a.high.length
  let high := a.high ++ a.holding.take room
  let smk := a.smkQueue.take p
  let hi := high.take (p - smk.length)
  let no := a.normal.take (p - smk.length - hi.length)
  (smk, smk ++ hi ++ no, s.setAct n { a with
    smkQueue := a.smkQueue.drop p, high := high.drop (p - smk.length), holding := a.holding.drop room,
    normal := (a.normal.drop (p - smk.length - hi.length) ++ a.normalHeld).take 256
    normalHeld := (a.normal.drop (p - smk.length - hi.length) ++ a.normalHeld).drop 256 })

/-- R88: the integrity field of a message under its terminal's key, or the default key. -/
def withMic (n : Nat) (s : State) (m : Ploam) : Ploam :=
  let own : Nat := ((s.term n m.onu).key).getD Config.ploamDefaultKey
  let key := if m.onu < 512 ∧ m.kind ≠ .disable ∧ m.kind ≠ .enable ∧ m.kind ≠ .assignOnuId then own else Config.ploamDefaultKey
  let words := [m.kind.ctorIdx, m.onu, m.vendor, m.vssn, m.eqd] ++ m.body.map (·.toNat)
  { m with mic := Config.cmac key words }

/-- Messages that waited for this header and wait for the next (R44). -/
def countDeferred (n : Nat) (s : State) : State :=
  bumpBy TFR.PLOAM_DEFER_CNT n ((s.actOf n).high.length + (s.actOf n).normal.length + (s.actOf n).normalHeld.length) s

/-- The frame being filled: the next one once its header is built, else the one in progress while it is being sent; a frame
of DS_EN = 0 takes no payload (R44, R53). -/
def filling (n : Nat) (s : State) : Option Built :=
  let f := s.fram n
  let b := match f.built with
    | some b => some b
    | none => if f.substituting ∨ f.cut then none else f.cur
  b.filter fun b => !b.emptyHeader

/-- The remainder of a fragmented frame leads the frame (R46). -/
def countFragment (n : Nat) (c : Option Lead) : State → State := onlyIf (c.map (·.remainder) = some true) (bump TFR.FRAG_CNT n)

/-- Bytes of the XGEM frame that leads a frame. -/
def leadBytes (c : Option Lead) : Nat := match c with | some c => xgemBytes c.bytes | none => 0

/-- Where the frame that leads a frame ends, if there is one. -/
def leadEnd (carried : Option Lead) (used : Nat) : List Nat := if carried.isSome then [used] else []

/-- A whole frame that leads frame k goes to the cipher with its position there (R45, R46). -/
def leadSdu (c : Option Lead) (k used : Nat) : List Sdu :=
  match c with
  | some c => if c.remainder then [] else
    [{ edit := c.edit, port := c.port, len := c.len, treat := c.treat, frame := k, ofs := used - xgemBytes c.bytes, stop := used, cut := false, no := c.no }]
  | none => []

/-- The upstream frame reference of maps built from now on, in lane cycles from T0 (R54): URO, and on a standby whose offset is
valid the shadow reference URO + OFS (R297), OFS in 1/64 lane cycle, rounded down. -/
def frameReference (n : Nat) (s : State) : Nat :=
  let uro := rd TFR.US_CFG_URO n s
  match Tbl.get none s.pair.ofs n with
  | some o => if roleStandby s then (uro + o / 64).toNat else uro
  | none => uro

/-- The header of frame k is written: map, PLOAM messages, the bytes left for the payload (R44, R49 steps 2 and 3, R114). The
frame takes FEC_EN now, since its codewords are encoded from now on (R69; DESIGN CHOICE, log entry 117). -/
def writeHeader (n k : Nat) (m : BwMap) (s : State) : State :=
  let (smk, ms, s) := takePloams n s
  let ms := ms.map (withMic n s)
  let f := s.fram n
  let b : Built := { frame := k, smoker := smk, map := some m, emptyHeader := false, void := false,
                     ploams := ms, containers := f.containers, fec := on TFR.CTL_FEC_EN n s }
  let windows := mapSelections (frameReference n s) m
  let used := 4 + 8 * m.structs.length + 48 * ms.length + containersBytes f.containers + leadBytes f.carried
  let s := s.setFram n { f with
    built := some b, mapIn := none, due := f.due ++ windows, carried := none, containers := []
    sealing := f.sealing ++ leadSdu f.carried k used, xgems := leadEnd f.carried used, xgemsOld := f.xgems, space := fsBytes b.fec - used }
  let s := s.setGrant n { s.grant n with selections := (s.grant n).selections ++ windows }
  s |> bump TFR.FRAME_CNT n |> countFragment n f.carried

/-- A frame without a map in time (R50), or with DS_EN = 0 (R53): the PLOAM messages wait. -/
def buildEmpty (n k : Nat) (void : Bool) (s : State) : State :=
  let f := s.fram n
  let b : Built := { frame := k, smoker := [], map := none, emptyHeader := !void, void := void, ploams := []
                     containers := if void then f.containers else [], fec := on TFR.CTL_FEC_EN n s }
  let used := 4 + containersBytes f.containers + leadBytes f.carried
  s.setFram n { f with
    built := some b, mapIn := none, containers := [], carried := if void then none else f.carried
    sealing := if void then f.sealing ++ leadSdu f.carried k used else f.sealing
    xgems := if void then leadEnd f.carried used else [], xgemsOld := f.xgems
    space := if void then fsBytes b.fec - used else 0 }
    |> countFragment n (if void then f.carried else none)

/-- FS_HEADER_BUILD: the header of the next frame, once. FRAME_CNT counts frames with a header of their own, void ones among
them, and not those of DS_EN = 0, which are precomputed (DESIGN CHOICE, log entry 34). -/
def headerBuild (n : Nat) (s : State) : State :=
  let f := s.fram n
  let k := f.frame + 1
  if (match f.built with | some b => b.frame == k | none => false) then s
  else if on TFR.CTL_DS_EN n s = false then s |> buildEmpty n k false |> countDeferred n
  else match f.mapIn with
    | some m =>
      if m.frame = k ∧ f.voidUntil ≤ k then s |> writeHeader n k m |> countDeferred n
      else s |> mapVoid n |> buildEmpty n k true |> bump TFR.FRAME_CNT n |> countDeferred n
    | none => s |> mapVoid n |> buildEmpty n k true |> bump TFR.FRAME_CNT n |> countDeferred n

def execFsHeaderBuild (n : Fin 48) (s : State) : Host.Outcome State Fault Refusal :=
  onIsland (framingIsland n) s (headerBuild n)

/-- MAP_DEADLINE (R50): a frame whose map has not arrived is built with an empty, void map; by choice it is not void
(R53). -/
def mapDeadline (n : Nat) (s : State) : State :=
  let f := s.fram n
  let here := match f.mapIn with | some m => m.frame == f.frame + 1 | none => false
  if here then s else headerBuild n s

def execMapDeadline (n : Fin 48) (s : State) : Host.Outcome State Fault Refusal :=
  onIsland (framingIsland n) s (mapDeadline n)

/-- The ages that count frames: preset entries (R22), brood entries, LOST records, reassembly contexts (R60). -/
def ageFrame (n : Nat) (s : State) : State :=
  let entries := (s.mem.filter fun e => e.1.sp == .preset && e.1.inst == n).map fun e => e.1.idx
  let s := if s.up (48 + n) then allOf entries (fun x s => wrx PRESET.AGE n x (min (rdx PRESET.AGE n x s + 1) 15) s) s else s
  let s := allOf (broodUsed n s) (fun e s => wrx BROOD.AGE n e (min (rdx BROOD.AGE n e s + 1) 15) s) s
  let s := allOf (terminals n s) (fun t s =>
    if termState n t s = 3 then s.setTerm n t { s.term n t with lostFrames := (s.term n t).lostFrames + 1 } else s) s
  s.setFram n { s.fram n with reasm := (s.fram n).reasm.map fun c => { c with age := c.age + 1 } }

/-- R78: a ranging request for every brood entry whose Assign_ONU-ID has been sent. -/
def rangingRequests (n : Nat) (s : State) : State :=
  if roleStandby s then s
  else allOf ((broodUsed n s).filter fun e => rdx BROOD.PHASE n e s == 1) (sendRequest n) s

/-- R137: FSTART, once for the six trees of the group; a cluster in reset answers each by its wrapper (R13). -/
def clusterStart (k frame : Nat) (s : State) : State :=
  if !s.up (clusterIsland k) then wrapperAnswer (clusterIsland k) s
  else if (s.cluster k).fstartFrame == some frame then s
  else latchAll k 2 (s.setCluster k { s.cluster k with fstartFrame := some frame })

/-- The PLOAM messages of a frame that did not leave return to the front of their queues: they have not been sent (R50,
R52, R93). What no longer fits the 32 and 256 places of R87 waits behind the queue for the next header build. -/
def returnPloams (n : Nat) (b : Built) (s : State) : State :=
  let a := s.actOf n
  let back := b.ploams.drop b.smoker.length
  let high := back.filter (fun m => decide (m.kind ≠ .body)) ++ a.high
  let normal := back.filter (fun m => decide (m.kind = .body)) ++ a.normal ++ a.normalHeld
  s.setAct n { a with
    smkQueue := b.smoker ++ a.smkQueue
    high := high.take 32, holding := high.drop 32 ++ a.holding, normal := normal.take 256, normalHeld := normal.drop 256 }

/-- The map of a frame that did not leave governs nothing: its windows are forgotten (R50, R52). -/
def dropSelections (n k : Nat) (s : State) : State :=
  let s := s.setFram n { s.fram n with due := (s.fram n).due.filter fun d => d.frame != k }
  s.setGrant n { s.grant n with selections := (s.grant n).selections.filter fun d => d.frame != k }

/-- XGEM frames dequeued for a frame and not sent (R52). -/
def loseXgems (n x : Nat) (s : State) : State :=
  onlyIf (x ≠ 0) (fun s => s |> bumpBy TFR.DQ_LOST_CNT n x |> raise n 2 []) s

/-- A frame of which nothing left, since the transmitter did not run at its start or stopped before its first codeword
(R19; log entry 105). -/
def frameNotSent (n : Nat) (b : Built) (xgems : List Nat) (s : State) : State :=
  s |> returnPloams n b |> dropSelections n b.frame |> loseXgems n xgems.length

/-- Codeword 0 of the frame in progress leaves: its PLOAM messages have been sent (R78, R81, R85, R86, R93). -/
def headerLeaves (n : Nat) (s : State) : State :=
  let f := s.fram n
  match f.cur with
  | none => s
  | some b =>
    if f.hdrSent ∨ f.cut ∨ f.substituting then s
    else
      let s := s.setFram n { f with hdrSent := true }
      s |> allOf b.ploams (ploamSent n f.frame) |> onlyIf (b.smoker ≠ []) (smokerLastSent n)

/-- The frame in progress ends; one whose first codeword never left has not been sent. -/
def endFrame (n : Nat) (s : State) : State :=
  let f := s.fram n
  match f.cur with
  | some b => if f.hdrSent ∨ f.substituting then s else frameNotSent n b (if f.built.isSome then f.xgemsOld else f.xgems) s
  | none => s

/-- The framing island's part of the start of frame k (R19, R37, R43, R49, R53, R69): the transmitter carries the frame that
was built for it only where it runs by now; the codewords already encoded for it are in the FIFO. -/
def frameStartFraming (n k : Nat) (s : State) : State :=
  let s := endFrame n s
  let f := s.fram n
  let run := rd TLN.STS_TX_STATE n s == 2 && !testing n s
  let b := match f.built with
    | some b => if b.frame = k then some b else none
    | none => none
  let state := match b with
    | some b => if !run then 0 else if b.emptyHeader then 1 else 2
    | none => 0
  let pon := rd TFR.PONID_HI_PON_ID_HI n s * 2 ^ 32 + rd TFR.PONID_LO n s
  let s := match f.built with
    | some x => if run && b.isSome then s else frameNotSent n x f.xgems s
    | none => s
  let f := s.fram n
  let s := s.setFram n { f with
      frame := k, started := true, built := none, cur := if run then b else none, cwSent := 0, substituting := false
      out := f.out.filter fun x => decide (k ≤ x.frame)
      enc := f.encNext, encNext := 0, fifo := min f.fifo f.encNext, hdrSent := false, cut := false
      xgems := if run && b.isSome then f.xgems else [], xgemsOld := [], space := if run && b.isSome then f.space else 0
      ponId := if f.ponidPending then pon else f.ponId, ponidPending := false }
    |> wr TFR.STS_DS_STATE n state
    |> wr TFR.STS_MAP_VOID n (b2n (match b with | some b => b.void | none => false))
    |> ageFrame n |> rogueLatch n |> smokerFrame n
  s |> onlyIf (0 < (s.fram n).fifo) (headerLeaves n) |> rangingRequests n |> clusterStart (treeCluster n) k

/-! Encoders and underrun (R51, R52). -/

/-- Codewords that have been due at the pin since the frame started. -/
def codewordsDue (n : Nat) (s : State) : Nat :=
  let t := frameBase s - frameT0 (s.fram n).frame
  if t < 4 then 0 else min 360 ((t * 1000 - 3858) / 347222 + 1)

/-- The pin has taken the codewords due from the FIFO. -/
def drainFifo (n : Nat) (s : State) : State :=
  let f := s.fram n
  let x := min f.fifo (codewordsDue n s - f.cwSent)
  if f.substituting then s else s.setFram n { f with fifo := f.fifo - x, cwSent := f.cwSent + x }

/-- FEC as the frame in progress, and the next one, took it (R69). -/
def fecOf (b : Option Built) : Bool := match b with | some b => b.fec | none => true

/-- The next codeword of a tree holds bytes of an SDU that the downstream cipher has not answered (R16). -/
def codewordWaits (f : Framing) : Bool :=
  let now := decide (f.enc < 360)
  let c := if now then f.enc + 1 else f.encNext + 1
  f.sealing.any fun x => x.frame == (if now then f.frame else f.frame + 1) &&
    decide (x.ofs < sentBytes (fecOf (if now then f.cur else f.built)) c)

/-- A tree takes an encoder slot: TX_MODE RUN, fewer than 5 codewords in its FIFO, and a codeword to hand over: of the frame
in progress or of the next one once it is being built (R49, R51), complete from the cipher (R16). -/
def slotWanted (n : Nat) (s : State) : Bool :=
  let f := s.fram n
  rd TLN.CTL_TX_MODE n s == 1 && !testing n s && decide (f.fifo < 5) && (decide (f.enc < 360) || f.built.isSome) &&
    !codewordWaits f

/-- The encoder takes the next codeword of tree n. The bytes of the FS frame it holds that nothing has filled are idle XGEM
(R44). -/
def encodeNext (n : Nat) (s : State) : State :=
  let f := s.fram n
  let now := decide (f.enc < 360)
  let fec := fecOf (if now then f.cur else f.built)
  let done := if now then f.enc + 1 else f.encNext + 1
  let filling := !now || f.built.isNone
  s.setFram n { f with
    enc := if now then f.enc + 1 else f.enc, encNext := if now then f.encNext else f.encNext + 1
    space := if filling then min f.space (fsBytes fec - sentBytes fec done) else f.space }

/-- The codeword reaches the transmit FIFO, or the wrapper of a transmit island in reset (R13). -/
def fifoTakes (n : Nat) (s : State) : State :=
  if s.up n then (s.setFram n { s.fram n with fifo := (s.fram n).fifo + 1 }) |> onlyIf ((s.fram n).encNext = 0) (headerLeaves n)
  else wrapperAnswer n s

/-- The tree of group k that the next slot serves: the first in tree order, from the one after the last served, that
wants it. -/
def slotTree (k : Nat) (s : State) : Option Nat :=
  ((List.range 6).map fun i => ((Tbl.get {} s.encoders k).next + i) % 6).find? fun i => slotWanted (6 * k + i) s

/-- ENCODER_SLOT (R51): one codeword for the next running tree in tree order. -/
def encoderSlot (k : Nat) (s : State) : State :=
  let s := allOf (List.range 6) (fun i => drainFifo (6 * k + i)) s
  match slotTree k s with
  | none => s
  | some i =>
    { s with encoders := Tbl.set {} s.encoders k { next := (i + 1) % 6 } }
      |> bump ENC.ENC_CNT k |> encodeNext (6 * k + i) |> fifoTakes (6 * k + i)

/-- A codeword offered to an encoder in reset is lost: its wrapper answers (R13, R72). -/
def encoderLost (k : Nat) (s : State) : State :=
  s |> wrapperAnswer (199 + k) |> onlyIf ((slotTree k s).isSome = true) (raise (152 + k) 1 [])

def execEncoderSlot (k : Fin 8) (s : State) : Host.Outcome State Fault Refusal :=
  .next (if s.up (167 + k) then (if s.up (199 + k) then encoderSlot k s else encoderLost k s) else wrapperAnswer (199 + k) s)

/-- CODEWORD_UNDERRUN (R52): the next codeword falls due with the FIFO empty; idle fill for the rest of the frame. -/
def underrun (n : Nat) (s : State) : State :=
  let s := drainFifo n s
  let f := s.fram n
  match f.cur with
  | none => s
  | some b =>
    if b.emptyHeader ∨ f.substituting = true ∨ f.cut = true ∨ f.fifo ≠ 0 ∨ 360 ≤ f.cwSent ∨ rd TLN.CTL_TX_MODE n s ≠ 1 then s
    else
      let s := passToFrame (frameT0 f.frame + (3858 + 347222 * f.cwSent + 999) / 1000) s
      let first := f.cwSent == 0
      let sent := sentBytes b.fec f.cwSent
      let lost := ((if f.built.isSome then f.xgemsOld else f.xgems).filter fun e => decide (sent < e)).length
      let s := s.setFram n { f with
        substituting := true, cwSent := 360, enc := 360, cur := some { b with void := b.void || first }
        xgemsOld := [], xgems := if f.built.isSome then f.xgems else [], space := if f.built.isSome then f.space else 0 }
      let s := s |> bumpBy TFR.SUBST_CNT n (360 - f.cwSent) |> raise n 1 [] |> loseXgems n lost
        |> bump ENC.ENC_LATE (treeCluster n) |> raise (152 + treeCluster n) 0 []
      if first && !b.void then s |> mapVoid n |> dropSelections n f.frame |> returnPloams n b else s

def execCodewordUnderrun (n : Fin 48) (s : State) : Host.Outcome State Fault Refusal :=
  onIsland (framingIsland n) s (underrun n)

/-! Register writes with rules of their own (R48, R53, R69, R70). -/

/-- FEC_EN_WRITE (R48): FEC_EN = 0 only in test. -/
def fecEnWrite (n v : Nat) (s : State) : State :=
  if v = 0 ∧ roleTest s = false then refuseWrite (regOffset .tfr n 0) v s else wr TFR.CTL_FEC_EN n v s

def execFecEnWrite (n : Fin 48) (v : BitVec 1) (s : State) : Host.Outcome State Fault Refusal :=
  onIsland (framingIsland n) s (fecEnWrite n v.toNat)

/-- DS_EN_WRITE (R53): taken at the next header build. -/
def execDsEnWrite (n : Fin 48) (v : BitVec 1) (s : State) : Host.Outcome State Fault Refusal :=
  onIsland (framingIsland n) s (wr TFR.CTL_DS_EN n v.toNat)

/-- PONID_HI_WRITE (R69): both words are taken at the next frame start. -/
def ponidHiWrite (n v : Nat) (s : State) : State :=
  (wr TFR.PONID_HI_PON_ID_HI n v s).setFram n { s.fram n with ponidPending := true }

def execPonidHiWrite (n : Fin 48) (v : BitVec 19) (s : State) : Host.Outcome State Fault Refusal :=
  onIsland (framingIsland n) s (ponidHiWrite n v.toNat)

/-- SFC_LO_READ (R43, R70): the superframe counter is the frame number modulo 2^51. -/
def sfcLoRead (n : Nat) (s : State) : State :=
  let c := (s.fram n).frame % 2 ^ 51
  s |> wr TFR.SFC_LO n (c % 2 ^ 32) |> wr TFR.SFC_HI_SFC_HI n (c / 2 ^ 32) |> setRead (c % 2 ^ 32)

def execSfcLoRead (n : Fin 48) (s : State) : Host.Outcome State Fault Refusal :=
  onIsland (framingIsland n) s (sfcLoRead n)

/-! Windows (R27, R28, R55 to R57). -/

/-- A window granted to a terminal that is DISABLED or SMK_DIS never counts as missed (R74). -/
def missCounts (n t : Nat) (s : State) : Bool := termState n t s != 4 && rdx ACTT.SMK_DIS n t s == 0

/-- MISSING_SELECTION_WINDOW (R27): the next window of a sent map that the lane holds no selection for opens in
acquisition mode with the defaults. -/
def missingWindow (n : Nat) (s : State) : State :=
  let l := s.lane n
  match (s.fram n).due.find? fun d => !l.pendingSel.contains d, l.window with
  | some d, none =>
    let counted := testing n s || l.dropped.contains d || l.crossing.contains d
    let s := s.setLane n { l with dropped := l.dropped.filter (· != d) }
    let s := if counted then s else s |> bump TLN.PRESET_DROP_CNT n |> raise (48 + n) 10 []
    openWindow n { sel := d, peak := rd TLN.RX_EQ_DEF_PEAK n s, gain := rd TLN.RX_EQ_DEF_GAIN n s, noEntry := true } s
  | _, _ => s

/-- The same while the lane's island is in reset: its wrapper answers, and the window passes; one whose selection was dropped
before has been counted (R13, R27). -/
def windowPasses (n : Nat) (s : State) : State :=
  let s := wrapperAnswer (48 + n) s
  let l := s.lane n
  match (s.fram n).due with
  | d :: rest =>
    (s.setFram n { s.fram n with due := rest }).setLane n { l with dropped := l.dropped.filter (· != d) }
      |> onlyIf (testing n s = false ∧ l.dropped.contains d = false) (fun s => s |> bump TLN.PRESET_DROP_CNT n |> raise (48 + n) 10 [])
  | [] => s

def execMissingSelectionWindow (n : Fin 48) (s : State) : Host.Outcome State Fault Refusal :=
  onIsland (framingIsland n) s fun s => if s.up (48 + n) then missingWindow n s else windowPasses n s

/-- WINDOW_ENERGY_MISS (R28): a granted window without energy in its first 64 UI, while the receiver is enabled (R40). -/
def energyMiss (n : Nat) (s : State) : State :=
  let l := s.lane n
  match l.window with
  | none => s
  | some w =>
    if w.sel.kind ≠ .burst ∨ w.energy = true ∨ w.missed = true ∨ w.invalid = true ∨ w.off = true then s
    else
      let s := s.setLane n { l with window := some { w with missed := true } }
      if missCounts n w.sel.index s then bump TLN.MISS_CNT n s else s

def execWindowEnergyMiss (n : Fin 48) (s : State) : Host.Outcome State Fault Refusal :=
  onIsland (framingIsland n) s (energyMiss n)

def setWindow (n : Nat) (w : Win) (s : State) : State := s.setLane n { s.lane n with window := some w }

/-- Of two positions the better: fewer differing bits, then the earlier (R55). -/
def betterMatch (a b : Int × Nat) : Bool := decide (a.2 < b.2 ∨ (a.2 = b.2 ∧ a.1 < b.1))

/-- R55, R75: the position the search of a window takes: within WIN for a granted burst, at most ERR_MAX differing bits. -/
def bestMatch (w : Win) (seen : DelimiterSeen) : Option Int :=
  let hits := (seen.map fun p => (p.1.toInt, p.2)).filter fun p =>
    decide (p.2 ≤ w.dlmErr) && (w.sel.kind != .burst || decide (p.1.natAbs ≤ w.dlmWin))
  (hits.foldl (fun b p => match b with | none => some p | some x => if betterMatch p x then some p else some x) none).map (·.1)

/-- The burst a delimiter starts, as its window's grant has it: the FEC of its profile (R58), and the bits that its granted
length, preamble to last bit (R26), leaves after the preamble and the delimiter (R57), both as the map had the profile
(R118). -/
def burstOf (n : Nat) (w : Win) (s : State) : BurstRx :=
  { no := (s.fram n).burstNo, pos := w.sel.pos, term := w.sel.index, kind := w.sel.kind, frame := w.sel.frame, lockUi := w.lockUi,
    fec := w.sel.fec, left := 64 * w.sel.length / 2 ^ w.sel.rate - w.sel.pre }

/-- A response is still being received in the quiet or ranging window: the search resumes at its end (R75). -/
def responding (n : Nat) (w : Win) (s : State) : Bool :=
  w.sel.kind != .burst && w.delimiter.isSome && (s.fram n).burst.isSome

/-- DELIMITER_ACCEPT (R55): the positions where the pattern was found, UI from the window centre. A burst after an overrun
is discarded all the same (R57). -/
def delimiterAccept (n : Nat) (seen : DelimiterSeen) (s : State) : State :=
  match (s.lane n).window, (s.lane n).window.bind fun w => bestMatch w seen with
  | some w, some ofs =>
    let t := w.sel.index
    let granted := w.sel.kind == .burst
    if on TFR.CTL_US_EN n s = false ∨ w.invalid = true ∨ w.off = true ∨ (granted && w.judged) = true ∨ responding n w s = true then s
    else if w.overrun then s |> setWindow n { w with judged := true } |> dropBurst n |> onlyIf (granted = true) (trialScore n t 4095)
    else
      let s := s |> dropBurst n |> setWindow n { w with judged := true, delimiter := some (unsigned 8 ofs) }
      let s := s.setFram n { s.fram n with burst := some (burstOf n w s), burstNo := (s.fram n).burstNo + 1 }
      let s := bump TFR.BURST_CNT n s
      if granted then
        let s := wrx TFRT.DLM_OFS n t (unsigned 8 ofs) s
        if roleStandby s then noteArrival n (64 * ((w.sel.uro : Int) - rd TFR.US_CFG_URO n s) + ofs) s
        else s |> onlyIf (missCounts n t s = true) (burstAccepted n t) |> driftStep n t w.dlmWarn ofs
      else s
  | _, _ => s

def execDelimiterAccept (n : Fin 48) (seen : DelimiterSeen) (s : State) : Host.Outcome State Fault Refusal :=
  onIsland (framingIsland n) s (delimiterAccept n seen)

/-- DELIMITER_MISS (R55, R83): the search of a granted window ends without a match. A window after an overrun is counted all
the same; it only takes no part in the run that declares LOB (R83). -/
def delimiterMiss (n : Nat) (s : State) : State :=
  match (s.lane n).window with
  | none => s
  | some w =>
    let t := w.sel.index
    if on TFR.CTL_US_EN n s = false ∨ w.sel.kind ≠ .burst ∨ w.judged = true then s
    else
      let s := s |> setWindow n { w with judged := true } |> dropBurst n |> trialScore n t 4095
      if missCounts n t s = false then s
      else s |> bump TFR.DLM_MISS_CNT n |> bumpx TFRT.DLM_MISS n t |> raise n 3 [t]
        |> fun s => if roleStandby s ∨ w.overrun = true then s else countMiss n t s

def execDelimiterMiss (n : Fin 48) (s : State) : Host.Outcome State Fault Refusal :=
  onIsland (framingIsland n) s (delimiterMiss n)

/-- BURST_OVERRUN (R57): energy runs on into the next window, whose burst is discarded; rogue control is told. -/
def burstOverrun (n : Nat) (s : State) : State :=
  let l := s.lane n
  let s := match l.window with
    | some w => setWindow n { w with overrun := true } s
    | none => s.setLane n { l with overrunNext := true }
  let a := s.actOf n
  let k := (s.fram n).frame
  s.setAct n { a with overruns := (a.overruns.filter fun f => decide (k < f + 8)) ++ [k], lastOverrun := some k }
    |> bump TFR.OVERRUN_CNT n |> raise n 8 []

def execBurstOverrun (n : Fin 48) (s : State) : Host.Outcome State Fault Refusal :=
  onIsland (framingIsland n) s (burstOverrun n)

/-! The decoder pool (R61 to R66). -/

/-- Decoder cycles of 0.8 ns since power-on. -/
def decoderCycle (s : State) : Nat := s.clk * 5 / 4

/-- The instant (ns) a decoder cycle has come. -/
def cycleNs (c : Nat) : Nat := (c * 4 + 4) / 5

def setPool (p : Pool) (s : State) : State := { s with pool := p }

def decEnabled (j : Nat) (s : State) : Bool := maskHas (rd POOL.DP_CTL_DEC_EN 0 s) j
def inService (j : Nat) (s : State) : Bool := !s.pool.out.contains j && s.up (183 + j)
def serviceCount (s : State) : Nat := ((List.range 16).filter fun j => inService j s).length
def inCheck (j : Nat) (s : State) : Bool := (Tbl.get none s.pool.check j).isSome
def busyUntil (j : Nat) (s : State) : Nat := Tbl.get 0 s.pool.busy j

/-- Decoder j leaves service; fewer than 15 in service raise cause 18 (R64, R65). -/
def leaveService (j : Nat) (s : State) : State :=
  let s := setPool { s.pool with leaving := s.pool.leaving.filter (· != j) } s
  if s.pool.out.contains j then s
  else
    let s := setPool { s.pool with out := s.pool.out ++ [j] } s
    if serviceCount s < 15 then raise 136 18 [] s else s

/-- The older of two codewords: by completion cycle, then by tree number (R62). -/
def olderCw (a b : Cw) : Bool := decide (a.done < b.done ∨ (a.done = b.done ∧ a.tree < b.tree))

/-- A codeword enters a group queue behind every older one. -/
def insertCw (c : Cw) (l : List Cw) : List Cw := l.filter (fun x => !olderCw c x) ++ c :: l.filter (fun x => olderCw c x)

/-- The next codeword of a burst; no bits are taken beyond the granted length (R57). -/
def codewordOf (n bits : Nat) (first last : Bool) (b : BurstRx) (s : State) : Cw :=
  { tree := n, term := b.term, bits := min bits b.left, first := first, last := last, kind := b.kind,
    burst := b.no, lockUi := b.lockUi, frame := b.frame, pos := b.pos, done := decoderCycle s }

/-- The burst has given a codeword of these bits; its last codeword, or the granted end, ends it. -/
def takeBits (n bits : Nat) (last : Bool) (b : BurstRx) (s : State) : State :=
  s.setFram n { s.fram n with burst := if last || decide (b.left ≤ bits) then none else some { b with left := b.left - bits, begun := true } }

/-- CODEWORD_QUEUED (R61, R63): a codeword of the burst being received enters its group's queue. -/
def codewordQueued (n bits : Nat) (first last : Bool) (s : State) : State :=
  match (s.fram n).burst with
  | none => s
  | some b =>
    if on TFR.CTL_US_EN n s = false ∨ b.fec = false then s
    else
      let g := treeCluster n
      let c := codewordOf n bits first last b s
      setPool { s.pool with queue := Tbl.set [] s.pool.queue g (insertCw c (Tbl.get [] s.pool.queue g)) } s
        |> takeBits n bits last b

def execCodewordQueued (n : Fin 48) (bits : BitVec 15) (first last : Bool) (s : State) :
    Host.Outcome State Fault Refusal :=
  onIsland (framingIsland n) s (codewordQueued n bits.toNat first last)

/-- The oldest head of the eight group queues. -/
def oldestHead (s : State) : Option Cw :=
  ((List.range 8).filterMap fun g => (Tbl.get [] s.pool.queue g).head?).foldl
    (fun b c => match b with | none => some c | some x => if olderCw c x then some c else some x) none

def popHead (c : Cw) (s : State) : State :=
  let g := treeCluster c.tree
  setPool { s.pool with queue := Tbl.set [] s.pool.queue g ((Tbl.get [] s.pool.queue g).drop 1) } s

/-- The DP_HIST bin of a wait in cycles of 0.8 ns. -/
def waitBin (w : Nat) : Nat := if w < 135 then 0 else if w < 270 then 1 else if w < 405 then 2 else if w ≤ 575 then 3 else 4

/-- Decoder j takes codeword c. -/
def takeCodeword (j : Nat) (c : Cw) (s : State) : State :=
  let start := max (decoderCycle s + 4) (busyUntil j s)
  let wait := start - c.done
  let fin := start + (c.bits + 127) / 128
  let s := popHead c s
  let s := setPool { s.pool with
    busy := Tbl.set 0 s.pool.busy j fin,
    holding := Tbl.set [] s.pool.holding j (Tbl.get [] s.pool.holding j ++ [(c, fin)]) } s
  s |> wr POOL.DP_WAIT_MAX_WAIT_MAX 0 (max (rd POOL.DP_WAIT_MAX_WAIT_MAX 0 s) (min wait 4095))
    |> bump (POOL.DP_HIST0.at (waitBin wait)) 0
    |> onlyIf (waitBin wait = 4) (raise 136 16 [])

/-- A known-vector check starts: 135 cycles (R62, R65). -/
def startCheck (j : Nat) (s : State) : State :=
  setPool { s.pool with check := Tbl.set none s.pool.check j (some (max (decoderCycle s) (busyUntil j s) + 135)) } s

/-- The loop of R62 over the free decoders. -/
def dispatchLoop : List Nat → State → State
  | [], s => s
  | j :: js, s =>
    match oldestHead s with
    | some c => dispatchLoop js (takeCodeword j c s)
    | none =>
      if on POOL.DP_CTL_ST_EN 0 s && serviceCount s == 16 && (List.range 16).all (fun i => !inCheck i s) then startCheck j s
      else s

/-- DECODER_DISPATCH (R62, R65): the return checks that are due, then the rule of R62 in the present cycle. -/
def decoderDispatch (s : State) : State :=
  let now := decoderCycle s
  let back := (List.range 16).filter fun j => s.pool.out.contains j && s.up (183 + j) && decEnabled j s &&
    !s.pool.failed.contains j && !inCheck j s && decide (busyUntil j s ≤ now)
  let s := allOf back startCheck s
  dispatchLoop ((List.range 16).filter fun j => inService j s && decEnabled j s && !s.pool.leaving.contains j && !inCheck j s &&
    decide (busyUntil j s ≤ now + 4)) s

/-- DECODER_DISPATCH: each decoder stands in its own island (R71), so the pool goes on while one of them is in reset (R65). -/
def execDecoderDispatch (s : State) : Host.Outcome State Fault Refusal := .next (decoderDispatch s)

/-- KV_CHECK_DONE (R65). -/
def kvCheckDone (j : Nat) (pass : Bool) (s : State) : State :=
  match Tbl.get none s.pool.check j with
  | none => s
  | some e =>
    let s := passTo (cycleNs e) s
    let s := setPool { s.pool with check := Tbl.set none s.pool.check j none } s
    if pass then
      if decEnabled j s then setPool { s.pool with out := s.pool.out.filter (· != j) } s else leaveService j s
    else
      setPool { s.pool with failed := if s.pool.failed.contains j then s.pool.failed else s.pool.failed ++ [j] } s
        |> bump DEC.DEC_KV_FAIL j |> raise (136 + j) 0 [] |> leaveService j

def execKvCheckDone (j : Fin 16) (pass : Bool) (s : State) : Host.Outcome State Fault Refusal :=
  onIsland (183 + j) s (kvCheckDone j pass)

/-- DEC_EN_WRITE (R65): 0 takes an idle decoder out at once, a busy one after its codeword; 0 to 1 clears the failed
mark. -/
def decEnWrite (j : Nat) (v : Bool) (s : State) : State :=
  let m := rd POOL.DP_CTL_DEC_EN 0 s
  if v then
    if maskHas m j then s
    else
      wr POOL.DP_CTL_DEC_EN 0 (maskSet m j) (setPool { s.pool with failed := s.pool.failed.filter (· != j) } s)
  else
    let s := wr POOL.DP_CTL_DEC_EN 0 (if maskHas m j then m - 2 ^ j else m) s
    if inCheck j s then s
    else if busyUntil j s ≤ decoderCycle s ∧ Tbl.get [] s.pool.holding j = [] then leaveService j s
    else setPool { s.pool with leaving := if s.pool.leaving.contains j then s.pool.leaving else s.pool.leaving ++ [j] } s

def execDecEnWrite (j : Fin 16) (v : Bool) (s : State) : Host.Outcome State Fault Refusal :=
  onIsland 183 s (decEnWrite j v)

/-! Degraded signal (R67, R68). -/

/-- A window is judged: above and below move the run counts, inconclusive moves nothing. -/
def degJudge (n t : Nat) (s : State) : State :=
  let x := s.term n t
  let m := rd TFR.DEG_CFG_THR_MANT n s
  let e := rd TFR.DEG_CFG_THR_EXP n s
  let above := x.degUncorr || (x.degBits != 0 && decide (m * x.degBits ≤ x.degErrs * 10 ^ e))
  let below := decide (x.degErrs * 10 ^ (e + 1) < m * x.degBits) && decide (10 ^ e ≤ x.degBits * m)
  let s := s.setTerm n t { x with degOpen := false, degBits := 0, degErrs := 0, degUncorr := false }
  if above then s |> wrx TFRT.DECL_RUN n t (min (rdx TFRT.DECL_RUN n t s + 1) 15) |> wrx TFRT.CLR_RUN n t 0
  else if below then s |> wrx TFRT.CLR_RUN n t (min (rdx TFRT.CLR_RUN n t s + 1) 15) |> wrx TFRT.DECL_RUN n t 0
  else s

/-- The terminal's window has lasted MAX_WIN (R67). -/
def degOver (n t : Nat) (s : State) : Bool :=
  (s.term n t).degOpen && decide ((s.term n t).degStart + rd TFR.DEG_CFG_MAX_WIN n s * 100000000 ≤ s.clk)

/-- Coded bits and errors of a codeword join the terminal's window, which closes at 10 / BER_T bits; one that has lasted MAX_WIN
is judged before it takes any more. R67 does not say when a
window opens: it opens, and its MAX_WIN runs, with its first codeword (DESIGN CHOICE, log entry 117). -/
def degAdd (n t bits errs : Nat) (uncorr : Bool) (s : State) : State :=
  if on TFR.CTL_DEG_EN n s = false then s
  else
    let s := onlyIf (degOver n t s = true) (degJudge n t) s
    let x := s.term n t
    let s := s.setTerm n t { x with
      degOpen := true, degBits := x.degBits + bits, degErrs := x.degErrs + errs, degUncorr := x.degUncorr || uncorr,
      degStart := if x.degOpen then x.degStart else s.clk }
    if 10 ^ (rd TFR.DEG_CFG_THR_EXP n s + 1) ≤ (x.degBits + bits) * rd TFR.DEG_CFG_THR_MANT n s then degJudge n t s else s

/-- DEG_WINDOW_TIMEOUT (R67): the window has lasted MAX_WIN. -/
def degTimeout (n t : Nat) (s : State) : State :=
  let x := s.term n t
  if x.degOpen then
    s |> passTo (x.degStart + rd TFR.DEG_CFG_MAX_WIN n s * 100000000) |> degJudge n t
  else s

/-- DEG_DECLARE (R67): DECL_N consecutive windows above. -/
def degDeclare (n t : Nat) (s : State) : State :=
  if rdx TFRT.DEG n t s = 0 ∧ on TFR.CTL_DEG_EN n s = true ∧ rd TFR.DEG_CFG_DECL_N n s ≤ rdx TFRT.DECL_RUN n t s then
    s |> wrx TFRT.DEG n t 1 |> raise n 6 [t]
  else s

def execDegDeclare (n : Fin 48) (t : BitVec 9) (s : State) : Host.Outcome State Fault Refusal :=
  onIsland (framingIsland n) s (degDeclare n t.toNat)

/-- DEG_CLEAR (R67): CLR_N consecutive windows below. -/
def degClear (n t : Nat) (s : State) : State :=
  if rdx TFRT.DEG n t s = 1 ∧ rd TFR.DEG_CFG_CLR_N n s ≤ rdx TFRT.CLR_RUN n t s then
    s |> wrx TFRT.DEG n t 0 |> raise n 7 [t]
  else s

def execDegClear (n : Fin 48) (t : BitVec 9) (s : State) : Host.Outcome State Fault Refusal :=
  onIsland (framingIsland n) s (degClear n t.toNat)

/-- The keys of the tables of terminals that one tree's records stand under. -/
def treeTerms (n : Nat) (s : State) : List Nat :=
  (s.terms.filter fun e => e.1 / 512 == n).map fun e => e.1 % 512

/-- DEG_CFG_WRITE (R68): every open window of the tree closes as inconclusive. -/
def degCfgWrite (n w : Nat) (s : State) : State :=
  let s := allOf (treeTerms n s) (fun t s => s.setTerm n t { s.term n t with
    degOpen := false, degBits := 0, degErrs := 0, degUncorr := false }) s
  writeReg .tfr n 7 w s

def execDegCfgWrite (n : Fin 48) (w : Word) (s : State) : Host.Outcome State Fault Refusal :=
  onIsland (framingIsland n) s (degCfgWrite n w.toNat)

/-- The terminals of a tree whose DEG is set. -/
def degTerms (n : Nat) (s : State) : List Nat := validIdx .tfrT n 0 s

/-- DEG_EN_CLEAR (R68): every DEG of the tree clears, no cause. -/
def degEnClear (n : Nat) (s : State) : State :=
  wr TFR.CTL_DEG_EN n 0 (allOf (degTerms n s) (fun t => wrx TFRT.DEG n t 0) s)

def execDegEnClear (n : Fin 48) (s : State) : Host.Outcome State Fault Refusal :=
  onIsland (framingIsland n) s (degEnClear n)

/-! Reassembly (R60, R199). -/

def framingRequester (n : Nat) : Nat := 5 + treeCluster n
def pipelineRequester (n : Nat) : Nat := 1 + treeCluster n / 2

def contextOf (n port : Nat) (s : State) : Option Reasm := (s.fram n).reasm.find? fun c => c.port == port
def dropContext (n port : Nat) (s : State) : State :=
  s.setFram n { s.fram n with reasm := (s.fram n).reasm.filter fun c => c.port != port }

/-- A complete frame goes to the upstream cipher; the wrapper of a cipher island in reset answers, and the frame's pair is
freed (R13). -/
def frameComplete (n : Nat) (u : UpXgem) (s : State) : State :=
  if s.up 219 then s.setFram n { s.fram n with upstream := (s.fram n).upstream ++ [u] }
  else s |> wrapperAnswer 219 |> onlyIf (u.handle ≠ 0) (freeHandle (pipelineRequester n) u.handle)

/-- INDEX of an upstream SDU whose first XGEM header stands in an allocation of burst g of the map ring (R244): every allocation
of a burst has the STARTTIME of the burst (R111). -/
def usIndex (n : Nat) (g : GrantRef) (ofs : Nat) (s : State) : Nat :=
  (match ringBurst n g s with | some b => b.start | none => 0) * 2 ^ 20 + ofs

/-- A first fragment that finds no context or no buffer: counted once, its later fragments find no context. -/
def reasmFull (n : Nat) (s : State) : State := s |> bump TFR.REASM_FULL_CNT n |> raise n 10 []

/-- A context whose frame will not complete: its pair is freed. -/
def discardContext (n port : Nat) (s : State) : State :=
  match contextOf n port s with
  | none => s
  | some c => s |> dropContext n port |> freeHandle (framingRequester n) c.handle

/-- R199: the complete pair is shared with the pipeline, transferred to it, and the framing island's reference freed. -/
def passPair (n h : Nat) (s : State) : State :=
  if s.up 213 then
    let r := framingRequester n
    let q := pipelineRequester n
    s |> bufShare r h 1 q |> bufTransfer r h q |> bufFree r h
  else wrapperAnswer 213 s

/-- Port-IDs of upstream constant-rate lanes of the tree: their segments go straight to island 220 (R154, R156). Port-ID 0
in the words of a lane that is not bound names none (log entry 109). -/
def lanePort (n port : Nat) (s : State) : Bool :=
  (List.range 16).any fun l =>
    rdx LANE.PORT_ID (48 + n) l s == port && (port != 0 || rdx LANE.BOUND (48 + n) l s == 1)

/-- One XGEM frame or fragment of a burst. A first fragment on a port whose context is open ends that context, uncounted and
without a cause, and opens a new one (DESIGN CHOICE, log entry 105). The Key Index and the position of an SDU are those of its
first XGEM header (R244; log entry 121). -/
def reassemble (n : Nat) (g : GrantRef) (x : XgemSeen) (s : State) : State :=
  let port := x.port.toNat
  let index := usIndex n g x.ofs.toNat s
  if lanePort n port s then (if s.up 220 then s else wrapperAnswer 220 s)
  else if x.first && x.last then
    frameComplete n { port := port, handle := 0, bytes := x.bytes, key := x.key, frame := g.frame, index := index, whole := true } s
  else if x.first then
    let s := discardContext n port s
    if 256 ≤ (s.fram n).reasm.length then reasmFull n s
    else match allocPair (framingRequester n) s with
      | (none, s) => reasmFull n s
      | (some h, s) =>
        let c : Reasm := { port := port, handle := h, bytes := x.bytes, key := x.key, frame := g.frame, index := index, age := 0 }
        s.setFram n { s.fram n with reasm := (s.fram n).reasm ++ [c] }
  else match contextOf n port s with
    | none => s
    | some c =>
      let c : Reasm := { c with bytes := c.bytes + x.bytes, age := 0 }
      let s := dropContext n port s
      if x.last then s |> passPair n c.handle
        |> frameComplete n { port := port, handle := c.handle, bytes := c.bytes, key := c.key, frame := c.frame, index := c.index }
      else s.setFram n { s.fram n with reasm := (s.fram n).reasm ++ [c] }

/-- REASM_TIMEOUT (R60): REASM_TO upstream frames without a fragment. -/
def reasmTimeout (n port : Nat) (s : State) : State :=
  match contextOf n port s with
  | none => s
  | some c =>
    if rd TFR.US_CFG_REASM_TO n s ≤ c.age then
      s |> discardContext n port |> bump TFR.REASM_TO_CNT n |> raise n 9 []
    else s

def execReasmTimeout (n : Fin 48) (port : BitVec 16) (s : State) : Host.Outcome State Fault Refusal :=
  onIsland (framingIsland n) s (reasmTimeout n port.toNat)

/-! Codeword results (R56, R59, R66). -/

/-- An uncorrectable, discarded or lost codeword counts for the tree and the terminal. A lost first codeword leaves the
burst attributed to the granted terminal; a trial burst is then not accepted (R56, R66, R81). -/
def uncorrectable (c : Cw) (s : State) : State :=
  let n := c.tree
  s |> bump TFR.CW_UNCORR_CNT n
    |> onlyIf (c.kind ≠ .quiet) (bumpx TFRT.UNCORR_CNT n c.term)
    |> raise n 5 [c.term]
    |> onlyIf (c.kind ≠ .quiet) (degAdd n c.term c.bits 0 true)
    |> onlyIf (c.kind = .burst ∧ c.first = true) (trialScore n c.term 4095)

def killBurst (n no : Nat) (s : State) : State := s.setFram n { s.fram n with dead := (s.fram n).dead ++ [no] }

/-- A response lost to a collision (R76): its first codeword or its header does not pass. -/
def collision (c : Cw) (s : State) : State := s |> bump ACT.SN_COLL_CNT c.tree |> killBurst c.tree c.burst

/-- The FS burst header (R56, R76): the HEC and the ONU-ID of the granted terminal; a quiet window names no terminal. -/
def headerCheck (c : Cw) (hec : Bool) (onu : Nat) (overlap : Bool) (s : State) : State :=
  let n := c.tree
  if c.kind ≠ .burst ∧ overlap = true then collision c s
  else if hec = false ∨ (c.kind ≠ .quiet ∧ onu ≠ c.term) then
    s |> bump TFR.HDR_ERR_CNT n |> onlyIf (c.kind ≠ .quiet) (bumpx TFRT.HDR_ERR n c.term) |> raise n 4 [c.term]
      |> killBurst n c.burst
      |> onlyIf (c.kind = .burst) (trialScore n c.term 4095)
  else if c.kind = .burst then trialScore n c.term c.lockUi s
  else s

/-- A DBRu (R59); its Alloc-ID is that of the map ring's entry of the burst (R106). -/
def dbruCheck (n : Nat) (g : GrantRef) (d : DbruSeen) (s : State) : State :=
  if d.ok then
    match ringAlloc n g d.slot s with
    | some a => queueReport n a d.value.toNat g.frame s
    | none => s
  else s |> bump TFR.DBRU_CRC_CNT n |> raise n 11 []

/-- A decoded codeword in the framing island. One that bypassed the pool is not decoded: it is in no count of codewords or
corrected bits, and its errors are those of its BIP-32 (R58). -/
def codewordResult (c : Cw) (r : CwResult) (fec : Bool) (s : State) : State :=
  let n := c.tree
  let s := onlyIf (c.kind ≠ .quiet ∧ fec = true) (bumpx TFRT.CW_CNT n c.term) s
  if fec && !r.ok then
    s |> uncorrectable c |> onlyIf (c.first = true ∧ r.overlap = true ∧ c.kind ≠ .burst) (collision c)
  else
    let s := s |> onlyIf (c.kind ≠ .quiet ∧ fec = true) (bumpxBy TFRT.CORR_BITS n c.term r.corrected)
      |> onlyIf (c.kind ≠ .quiet) (degAdd n c.term c.bits (if fec then r.corrected else r.bip.getD 0) false)
    let s := match r.header with
      | some (hec, onu) => if c.first then headerCheck c hec onu.toNat r.overlap s else s
      | none => s
    let s := match r.bip with
      | some e => if e = 0 ∨ (s.fram n).dead.contains c.burst = true then s else bump TFR.BIP_ERR_CNT n s
      | none => s
    let s := if (s.fram n).dead.contains c.burst then s
      else s |> allOf r.dbrus (dbruCheck n ⟨c.frame, c.pos⟩) |> allOf r.xgems (reassemble n ⟨c.frame, c.pos⟩)
    if c.last then s.setFram n { s.fram n with dead := (s.fram n).dead.filter (· != c.burst) } else s

/-- The result of the oldest codeword decoder j holds, 64 cycles after its occupancy ended (R61). -/
def decoderResult (j : Nat) (r : CwResult) (s : State) : State :=
  match Tbl.get [] s.pool.holding j with
  | [] => s
  | (c, e) :: rest =>
    let s := passTo (cycleNs (e + 64)) s
    let s := bump DEC.DEC_CNT j (setPool { s.pool with holding := Tbl.set [] s.pool.holding j rest } s)
    let s := if rest = [] ∧ s.pool.leaving.contains j = true then leaveService j s else s
    if s.up (framingIsland c.tree) then codewordResult c r true s else wrapperAnswer (framingIsland c.tree) s

/-- The result of a burst whose profile has FEC off (R58). -/
def bypassResult (n bits : Nat) (first last : Bool) (r : CwResult) (s : State) : State :=
  match (s.fram n).burst with
  | none => s
  | some b =>
    if on TFR.CTL_US_EN n s = false ∨ b.fec = true then s
    else s |> takeBits n bits last b |> codewordResult (codewordOf n bits first last b s) r false

/-- CODEWORD_DECODED (R56 to R66). -/
def execCodewordDecoded (src : CwFrom) (r : CwResult) (s : State) : Host.Outcome State Fault Refusal :=
  match src with
  | .decoder j => onIsland (183 + j) s (decoderResult j r)
  | .bypass n bits first last => onIsland (framingIsland n) s (bypassResult n bits first last r)

/-- CODEWORD_AGE_DISCARD (R64): the oldest waiting codeword reaches MAX_AGE × 8 ns. -/
def ageDiscard (s : State) : State :=
  match oldestHead s with
  | none => s
  | some c =>
    let s := passTo (cycleNs (c.done + rd POOL.DP_CFG_MAX_AGE 0 s * 10)) s
    let s := s |> popHead c |> bump POOL.DP_HIST5 0 |> raise 136 17 []
    if s.up (framingIsland c.tree) then uncorrectable c s else wrapperAnswer (framingIsland c.tree) s

def execCodewordAgeDiscard (s : State) : Host.Outcome State Fault Refusal := .next (ageDiscard s)

end Sys2Proof.Machine
end

