-- ==== Sys2Proof/Machine/Cipher.lean ====
section
/-!
DEFINITION. The cipher engine and sealed flows (11_cipher.md, R239 to R260).
-/

namespace Sys2Proof.Machine

def State.cph (s : State) (d : Nat) : Cipher := Tbl.get {} s.cipher d
def State.setCph (s : State) (d : Nat) (x : Cipher) : State := { s with cipher := Tbl.set {} s.cipher d x }

/-- The source of an island: 169 downstream, 170 upstream (R260). -/
def cphSource (d : Nat) : Nat := 169 + d

/-- The PORT entry of a Port-ID: its instance (R239). -/
def portInst (d n : Nat) : Nat := d * 48 + n

/-- The PORT entry of a Port-ID is in use for it (R239). -/
def cphPortOk (d n port : Nat) (s : State) : Bool :=
  rdx CPHPORT.VALID (portInst d n) (port % 4096) s == 1 && rdx CPHPORT.PID_HI (portInst d n) (port % 4096) s == port / 4096

/-- The treatment of a Port-ID (R239, R242): MODE selects it, KIND of the flow does not (log entry 108). Terminal 512 is the
tree's broadcast key. -/
def portTreat (d n port : Nat) (s : State) : Treat :=
  let i := portInst d n
  let x := port % 4096
  if cphPortOk d n port s then {
    mode := rdx CPHPORT.MODE i x s, flow := rdx CPHPORT.FLOW i x s
    term := if rdx CPHPORT.BCAST i x s = 1 then 512 else rdx CPHPORT.TERM i x s
    omci := if rdx CPHPORT.OMCI i x s = 1 then some (rdx CPHPORT.TERM i x s) else none }
  else {}

/-- Downstream an SDU of a flow that is not VALID is treated as clear (R256). -/
def dsTreat (t : Treat) (s : State) : Treat := if 2 ≤ t.mode ∧ rdx FLOW.VALID 0 t.flow s = 0 then { t with mode := 0 } else t

/-- The treatment of a lane's containers: the lane's CIPHER (R153), under the PORT entry of its Port-ID, which is clear where the
entry is not in use (R239). -/
def laneTreat (d n port cipher : Nat) (s : State) : Treat :=
  if cphPortOk d n port s then { portTreat d n port s with mode := cipher } else {}

def portOmci (d n port : Nat) (s : State) : Bool := (portTreat d n port s).omci.isSome

def tkeyNo (n t k : Nat) : Nat := n * 4096 + t * 4 + k

/-! Invocation counts (R248). -/

def invCount (d f slot : Nat) (s : State) : Nat :=
  if slot = 0 then rdx FLOW.INV0_HI d f s * 2 ^ 32 + rdx FLOW.INV0_LO d f s
  else rdx FLOW.INV1_HI d f s * 2 ^ 32 + rdx FLOW.INV1_LO d f s

def setInv (d f slot v : Nat) (s : State) : State :=
  if slot = 0 then s |> wrx FLOW.INV0_LO d f v |> wrx FLOW.INV0_HI d f (v / 2 ^ 32)
  else s |> wrx FLOW.INV1_LO d f v |> wrx FLOW.INV1_HI d f (v / 2 ^ 32)

def slotValid (d f slot : Nat) (s : State) : Bool := maskHas (rdx FLOW.SLOT_V d f s) slot
def setSlotValid (d f slot : Nat) (b : Bool) (s : State) : State :=
  wrx ⟨.flow, 0, 23 + slot, 23 + slot⟩ d f (b2n b) s
def actSlot (d f : Nat) (s : State) : Nat := rdx FLOW.ACT_SLOT d f s

/-- A drop that the hold of R247, R248, R255 or R260 makes. -/
def holdDrop (d : Nat) : State → State := bump CPH.HOLD_DROP_CNT d

/-- ERR_CNT of a flow: tag failures, stomps and held drops (R258). -/
def flowErr (d f : Nat) (s : State) : State := wrx FLOW.ERR_CNT d f (min (rdx FLOW.ERR_CNT d f s + 1) (2 ^ 32 - 1)) s

/-- R260: an uncorrectable error in the slot's key holds the flow. -/
def slotBad (d f slot : Nat) (s : State) : Bool := (s.cph d).fBad.contains (f * 2 + slot)

/-- R248: the flow is held once the count of the slot that applies has reached 2^36. -/
def flowHoldAt (d f slot : Nat) (s : State) : State :=
  if rdx FLOW.HELD d f s = 0 ∧ 2 ^ 36 ≤ invCount d f slot s then s |> wrx FLOW.HELD d f 1 |> raise (cphSource d) 4 [f]
  else s

/-- R248: an upstream SDU whose Key Index names a slot below 2^36 ends the hold, as the switch of the terminal does. -/
def upstreamSwitch (f slot : Nat) (s : State) : State :=
  if rdx FLOW.HELD 1 f s = 1 ∧ invCount 1 f slot s < 2 ^ 36 ∧ slotBad 1 f slot s = false then wrx FLOW.HELD 1 f 0 s else s

/-- The slot in use, whose count applies: downstream the active one, upstream the one that the last Key Index of the flow named
(R248). -/
def countedSlot (d f : Nat) (s : State) : Nat := if d = 0 then actSlot d f s else Tbl.get 0 (s.cph d).named f

/-- FLOW_HOLD (R248). -/
def flowHold (d f : Nat) (s : State) : State := flowHoldAt d f (countedSlot d f s) s

def execFlowHold (d : Fin 2) (f : BitVec 13) (s : State) : Host.Outcome State Fault Refusal :=
  onIsland (218 + d) s (flowHold d f.toNat)

/-! Keys and rekeying (R249, R250). -/

/-- A key enters a slot: valid, with its count; an image record's key is marked (R255). The commit is mirrored (R254). -/
def setFlowKey (d f slot key count : Nat) (image : Bool) (s : State) : State :=
  let x := s.cph d
  let no := f * 2 + slot
  let s := s.setCph d { x with
    fkey := Tbl.set none x.fkey no (some key), warned := x.warned.filter (· != no), fBad := x.fBad.filter (· != no)
    fImage := if image then x.fImage.filter (· != no) ++ [no] else x.fImage.filter (· != no) }
  s |> setSlotValid d f slot true |> setInv d f slot count
    |> mirrorOut (rdx FLOW.TREE d f s) (.flowKey (Fin.ofNat 2 d) (BitVec.ofNat 13 f) (Fin.ofNat 2 slot) key)

/-- A slot is cleared. -/
def clearSlot (d f slot : Nat) (s : State) : State :=
  let x := s.cph d
  let no := f * 2 + slot
  let s := s.setCph d { x with fkey := Tbl.set none x.fkey no none, fImage := x.fImage.filter (· != no) }
  s |> setSlotValid d f slot false |> setInv d f slot 0 |> mirrorWord (rdx FLOW.TREE d f s) .flow d f 0

/-- A ring key with an uncorrectable error goes on holding its user (R260). -/
def carryBad (d e no : Nat) (s : State) : State :=
  let x := s.cph d
  if x.ringBad.contains e then s.setCph d { x with fBad := x.fBad ++ [no] } else s

/-- The next ring key goes to the slot that is not in use, with count 0; RING_POS advances (R250). -/
def loadRing (d f : Nat) (s : State) : State :=
  let e := (rdx FLOW.RING_BASE d f s + rdx FLOW.RING_POS d f s) % 4096
  let slot := 1 - countedSlot d f s
  s |> setFlowKey d f slot (Tbl.get 0 (s.cph d).ring e) 0 ((s.cph d).ringImage.contains e) |> carryBad d e (f * 2 + slot)
    |> wrx FLOW.RING_POS d f (rdx FLOW.RING_POS d f s + 1) |> mirrorWord (rdx FLOW.TREE d f s) .flow d f 1

/-- A switch to the slot that is not in use waits for the tree's frame start. -/
def pendSwitch (d f : Nat) (auto_ : Bool) (s : State) : State :=
  let x := s.cph d
  s.setCph d { x with switching := x.switching.filter (fun p => p.1 != f) ++ [(f, 1 - countedSlot d f s, auto_)] }

/-- AUTO_REKEY (R250): a flow with AUTO, or any flow while no host session is open. -/
def autoRekey (d f : Nat) (s : State) : State :=
  let hosts := (List.range 4).any fun i => (s.session i).state == .open
  if rdx FLOW.AUTO d f s = 0 ∧ hosts = true then s
  else if rdx FLOW.RING_LEN d f s ≤ rdx FLOW.RING_POS d f s then
    let x := s.cph d
    if x.emptySaid.contains f then s
    else s.setCph d { x with emptySaid := x.emptySaid ++ [f] } |> bump CPH.RING_EMPTY_CNT d |> raise (cphSource d) 9 [f]
  else s |> loadRing d f |> pendSwitch d f true |> bump CPH.AUTO_REKEY_CNT d |> raise (cphSource d) 8 [f]

/-- INVOCATION_WARNING (R248, R250): the count of the slot that applies has reached 2^35, once a key. -/
def invocationWarning (d f : Nat) (s : State) : State :=
  let x := s.cph d
  let slot := countedSlot d f s
  let no := f * 2 + slot
  if 2 ^ 35 ≤ invCount d f slot s ∧ x.warned.contains no = false then
    s.setCph d { x with warned := x.warned ++ [no] } |> raise (cphSource d) 3 [f] |> autoRekey d f
  else s

def execInvocationWarning (d : Fin 2) (f : BitVec 13) (s : State) : Host.Outcome State Fault Refusal :=
  onIsland (218 + d) s (invocationWarning d f.toNat)

/-- SLOT_SWITCH (R249, R250): the pending switches of the tree's flows take effect at its frame start; a switch to a slot
below 2^36 ends the hold (R248), unless the slot's key holds its users (R260). -/
def slotSwitch (n k : Nat) (s : State) : State :=
  allOf [0, 1] (fun d s =>
    if !s.up (218 + d) then s
    else allOf ((s.cph d).switching.filter fun p => rdx FLOW.TREE d p.1 s == n) (fun p s =>
      let f := p.1
      let slot := p.2.1
      let x := s.cph d
      let s := s.setCph d { x with
        switching := x.switching.filter fun q => q.1 != f
        expiring := if p.2.2 then x.expiring ++ [(f, 1 - slot, k)] else x.expiring }
      let s := s |> wrx FLOW.ACT_SLOT d f slot |> mirrorWord n .flow d f 0
      let s := onlyIf (invCount d f slot s < 2 ^ 36 ∧ slotBad d f slot s = false) (wrx FLOW.HELD d f 0) s
      if p.2.2 then s else s |> bump CPH.REKEY_CNT d |> raise (cphSource d) 7 [f]) s) s

/-- OLD_SLOT_EXPIRY (R250): 8,000 frames after an automatic switch the old slot is cleared. -/
def oldSlotExpiry (d f : Nat) (s : State) : State :=
  let x := s.cph d
  match x.expiring.find? fun e => e.1 == f with
  | none => s
  | some (_, slot, k) =>
    let s := passToFrame (frameT0 (k + 8000)) s
    let s := s.setCph d { s.cph d with expiring := (s.cph d).expiring.filter fun e => e != (f, slot, k) }
    if countedSlot d f s = slot then s else clearSlot d f slot s

def execOldSlotExpiry (d : Fin 2) (f : BitVec 13) (s : State) : Host.Outcome State Fault Refusal :=
  onIsland (218 + d) s (oldSlotExpiry d f.toNat)

/-- Four or eight staged words as a key, word 0 the most significant. -/
def stagedKey (t : Tbl Nat) (last w : Nat) : Nat := (List.range last).foldl (fun a i => a * 2 ^ 32 + Tbl.get 0 t i) 0 * 2 ^ 32 + w

/-- FLOW_KEY_COMMIT (R249, R255): a write of FKEY_DATA; word 7 commits. Every word for a valid slot in use is refused with
cause 11. -/
def fkeyWrite (d w : Nat) (s : State) : State :=
  let f := rd CPH.FKEY_IDX_FLOW d s
  let slot := rd CPH.FKEY_IDX_SLOT d s
  let word := rd CPH.FKEY_IDX_WORD d s
  let x := s.cph d
  let s :=
    if countedSlot d f s = slot ∧ slotValid d f slot s = true then s |> raise (cphSource d) 11 [f] |> setVerdict 6 0
    else if word ≠ 7 then s.setCph d { x with fStage := Tbl.set 0 x.fStage word w }
    else s |> setFlowKey d f slot (stagedKey x.fStage 7 w) (rd CPH.INV_START_START d s * 256) (s.cmd.source == 5)
      |> wr CPH.INV_START_START d 0
  onlyIf (on CPH.FKEY_IDX_AUTO_INC d s = true) (wr CPH.FKEY_IDX_WORD d (word + 1)) s

def fkeyData (d w : Nat) : State → State := guarded (regOffset .cph d 9) w (fkeyWrite d w)

def execFlowKeyCommit (d : Fin 2) (w : Word) (s : State) : Host.Outcome State Fault Refusal :=
  onIsland (218 + d) s (fkeyData d w.toNat)

/-- TERMINAL_KEY_COMMIT (R241, R256): a write of TKEY_DATA; word 3 commits. Every word for the transmit slot in use is refused
with cause 11. -/
def tkeyWrite (d w : Nat) (s : State) : State :=
  let n := rd CPH.TKEY_IDX_TREE d s
  let t := rd CPH.TKEY_IDX_TERM d s
  let k := rd CPH.TKEY_IDX_KEY d s
  let word := rd CPH.TKEY_IDX_WORD d s
  let no := tkeyNo n t k
  let x := s.cph d
  let s :=
    if d = 0 ∧ k < 2 ∧ Tbl.get 0 x.txSlot (n * 1024 + t) = k ∧ (Tbl.get none x.tkey no).isSome = true then
      s |> raise (cphSource d) 11 [n, t] |> setVerdict 6 0
    else if word ≠ 3 then s.setCph d { x with tStage := Tbl.set 0 x.tStage word w }
    else s.setCph d { x with
      tkey := Tbl.set none x.tkey no (some (stagedKey x.tStage 3 w)), tBad := x.tBad.filter (· != no)
      tImage := if s.cmd.source = 5 then x.tImage.filter (· != no) ++ [no] else x.tImage.filter (· != no) }
      |> mirrorOut n (.terminalKey (Fin.ofNat 2 d) no (stagedKey x.tStage 3 w))
  onlyIf (on CPH.TKEY_IDX_AUTO_INC d s = true) (wr CPH.TKEY_IDX_WORD d (word + 1)) s

def tkeyData (d w : Nat) : State → State := guarded (regOffset .cph d 5) w (tkeyWrite d w)

def execTerminalKeyCommit (d : Fin 2) (w : Word) (s : State) : Host.Outcome State Fault Refusal :=
  onIsland (218 + d) s (tkeyData d w.toNat)

/-- RING_KEY_COMMIT (R250): a write of RING_DATA; word 7 commits the entry. Ring keys belong to no tree: their deltas go with
tree 0's. -/
def ringWriteKey (d w : Nat) (s : State) : State :=
  let e := rd CPH.RING_IDX_ENTRY d s
  let word := rd CPH.RING_IDX_WORD d s
  let x := s.cph d
  let s :=
    if word ≠ 7 then s.setCph d { x with rStage := Tbl.set 0 x.rStage word w }
    else s.setCph d { x with
      ring := Tbl.set 0 x.ring e (stagedKey x.rStage 7 w), ringBad := x.ringBad.filter (· != e)
      ringImage := if s.cmd.source = 5 then x.ringImage.filter (· != e) ++ [e] else x.ringImage.filter (· != e) }
      |> mirrorOut 0 (.ringKey (Fin.ofNat 2 d) (BitVec.ofNat 12 e) (stagedKey x.rStage 7 w))
  advanceIndex CPH.RING_IDX_AUTO_INC CPH.RING_IDX_WORD CPH.RING_IDX_ENTRY d 8 4096 s

def ringKeyData (d w : Nat) : State → State := guarded (regOffset .cph d 11) w (ringWriteKey d w)

def execRingKeyCommit (d : Fin 2) (w : Word) (s : State) : Host.Outcome State Fault Refusal :=
  onIsland (218 + d) s (ringKeyData d w.toNat)

/-! REKEY (R241, R249, R257). -/

def rekeyDone (d op n tgt err : Nat) (s : State) : State :=
  s |> wr CPH.REKEY_OP d op |> wr CPH.REKEY_TREE d n |> wr CPH.REKEY_TARGET d tgt |> wr CPH.REKEY_GO d 0 |> wr CPH.REKEY_ERR d err

def rekeyRefuse (d op n tgt : Nat) (s : State) : State :=
  s |> rekeyDone d op n tgt 1 |> raise (cphSource d) 10 [tgt] |> setVerdict 6 0

/-- OP 0b00: the terminal's other slot, which must hold a key; not in island 219. -/
def rekeyTerminal (d n t : Nat) (s : State) : State :=
  let x := s.cph d
  let slot := 1 - Tbl.get 0 x.txSlot (n * 1024 + t)
  if d = 1 ∨ 512 < t ∨ (Tbl.get none x.tkey (tkeyNo n t slot)).isNone = true then rekeyRefuse d 0 n t s
  else s.setCph d { x with txSlot := Tbl.set 0 x.txSlot (n * 1024 + t) slot }
    |> mirrorOut n (.terminalSwitch (BitVec.ofNat 10 t) (Fin.ofNat 2 slot)) |> rekeyDone d 0 n t 0 |> bump CPH.REKEY_CNT d |> raise (cphSource d) 7 [n, t]

/-- OP 0b01: the flow's other slot at the next frame start of its tree; not in island 219. -/
def rekeyFlow (d n f : Nat) (s : State) : State :=
  if d = 1 ∨ slotValid d f (1 - actSlot d f s) s = false then rekeyRefuse d 1 n f s
  else s |> pendSwitch d f false |> rekeyDone d 1 n f 0

/-- OP 0b10: the next ring key into the inactive slot. -/
def rekeyLoad (d n f : Nat) (s : State) : State :=
  if rdx FLOW.RING_LEN d f s ≤ rdx FLOW.RING_POS d f s then rekeyRefuse d 2 n f s
  else s |> loadRing d f |> rekeyDone d 2 n f 0

/-- OP 0b11: the inactive slot is cleared in both islands (R249 step 4); the wrapper of the other one answers while it is in
reset (R13). -/
def rekeyClear (d n f : Nat) (s : State) : State :=
  let slot := 1 - countedSlot d f s
  s |> clearSlot d f slot |> (if s.up (219 - d) then clearSlot (1 - d) f slot else wrapperAnswer (219 - d)) |> rekeyDone d 3 n f 0

def rekeyGo (d op n tgt : Nat) (s : State) : State :=
  let w := 2 ^ 31 + op * 2 ^ 28 + n * 2 ^ 20 + tgt
  guarded (regOffset .cph d 12) w (fun s =>
    if op = 0 then rekeyTerminal d n tgt s else if op = 1 then rekeyFlow d n tgt s
    else if op = 2 then rekeyLoad d n tgt s else rekeyClear d n tgt s) s

/-- REKEY_TERMINAL_SWITCH. -/
def execRekeyTerminalSwitch (d : Fin 2) (n : Fin 48) (t : BitVec 10) (s : State) : Host.Outcome State Fault Refusal :=
  onIsland (218 + d) s (rekeyGo d 0 n t.toNat)
/-- REKEY_FLOW_SWITCH. -/
def execRekeyFlowSwitch (d : Fin 2) (f : BitVec 13) (s : State) : Host.Outcome State Fault Refusal :=
  onIsland (218 + d) s (rekeyGo d 1 0 f.toNat)
/-- REKEY_LOAD_RING. -/
def execRekeyLoadRing (d : Fin 2) (f : BitVec 13) (s : State) : Host.Outcome State Fault Refusal :=
  onIsland (218 + d) s (rekeyGo d 2 0 f.toNat)
/-- REKEY_CLEAR_SLOT. -/
def execRekeyClearSlot (d : Fin 2) (f : BitVec 13) (s : State) : Host.Outcome State Fault Refusal :=
  onIsland (218 + d) s (rekeyGo d 3 0 f.toNat)

/-! SDUs (R240 to R248, R251, R252, R254, R255). -/

/-- R244: the 96-bit IV. -/
def ivOf (sfc n dir index : Nat) : Nat := sfc % 2 ^ 51 * 2 ^ 45 + n * 2 ^ 39 + dir * 2 ^ 38 + index % 2 ^ 38

/-- R245: the status word of a flow's latest SDU, in the layout of FLOW_DATA word 9. -/
def statusWord (result ct slot len : Nat) : Nat := result * 2 ^ 30 + ct * 2 ^ 29 + slot * 2 ^ 28 + len % 2 ^ 14

def setStatus (d f iv st : Nat) (s : State) : State :=
  s |> wrWord .flow d f 6 (iv / 2 ^ 64 % 2 ^ 32) |> wrWord .flow d f 7 (iv / 2 ^ 32 % 2 ^ 32) |> wrWord .flow d f 8 (iv % 2 ^ 32)
    |> wrWord .flow d f 9 st

/-- The cold-start hold meets a key an image record loaded (R255). -/
def coldHeld (d : Nat) (image : Bool) (s : State) : Bool :=
  on CPH.STS_COLD_HOLD d s && on CPH.CTL_COLD_GATE d s && image

/-- What an invocation of a flow's slot meets: refused with a result code, or made. -/
inductive Invoked where
  | refused
  | made
  deriving DecidableEq

/-- The longest payload of a flow: of a packet, and of a constant-rate container (R246, R17). -/
def longestSdu (crl : Bool) : Nat := if crl then 625659 else 16000

/-- The status of a held SDU (R245). -/
def heldStatus (d f slot iv len : Nat) : State → State := setStatus d f iv (statusWord 3 0 slot len)

/-- R246 to R248, R255, R260: the checks of an SDU of a sealed or tag-only flow and, where they pass, one invocation. -/
def invoke (d f slot sfc iv len : Nat) (crl : Bool) (s : State) : Invoked × State :=
  let x := s.cph d
  let s := flowHoldAt d f slot s
  let s := if d = 1 then upstreamSwitch f slot s else s
  if !slotValid d f slot s then (.refused, s |> bump CPH.KEY_ERR_CNT d |> raise (cphSource d) 5 [f])
  else if slotBad d f slot s then (.refused, s |> holdDrop d |> flowErr d f |> heldStatus d f slot iv len)
  else if coldHeld d (x.fImage.contains (f * 2 + slot)) s then (.refused, s |> holdDrop d |> heldStatus d f slot iv len)
  else if longestSdu crl < len then
    (.refused, s |> bump CPH.LEN_REJ_CNT d |> raise (cphSource d) 2 [f] |> setStatus d f iv (statusWord 2 0 slot len))
  else if sfc < x.highSfc then (.refused, s |> holdDrop d |> raise (cphSource d) 4 [f] |> heldStatus d f slot iv len)
  else if 2 ^ 36 ≤ invCount d f slot s ∨ (d = 0 ∧ rdx FLOW.HELD d f s = 1) then
    (.refused, s |> holdDrop d |> flowErr d f |> heldStatus d f slot iv len)
  else (.made, (s.setCph d { x with highSfc := sfc }) |> setInv d f slot (invCount d f slot s + 1))

/-- The 8-byte flow block of R243. -/
def flowBlock (port len n ki : Nat) : List Byte :=
  let v := port % 65536 * 2 ^ 48 + len % 65536 * 2 ^ 32 + n * 2 ^ 26 + ki * 2 ^ 24
  (List.range 8).map fun i => BitVec.ofNat 8 (v / 256 ^ (7 - i))

/-- R243: what leaves the cipher for an SDU of a sealed (mode 2) or tag-only (mode 3) flow: the 16-byte header of a container
in clear, the payload, the tag. -/
def sealBytes (mode key iv : Nat) (crl : Bool) (block bytes : List Byte) : List Byte :=
  let hdr := if crl then bytes.take 16 else []
  let pay := if crl then bytes.drop 16 else bytes
  if mode = 2 then hdr ++ Config.gcmCiphertext key iv (block ++ hdr) pay ++ Config.gcmTag key iv (block ++ hdr) pay
  else hdr ++ pay ++ Config.gcmTag key iv (block ++ hdr ++ pay) []

/-- The four bytes of the OMCI integrity check of a message (R242), under the terminal's key (TKEY slot 2). -/
def omciMic (d n term : Nat) (msg : List Byte) (s : State) : List Byte :=
  beBytes (Config.omciMic (Tbl.get none (s.cph d).tkey (tkeyNo n term 2)) d msg).toNat

/-- R242: the check of an OMCI message is written into its last four bytes; a message that has not four stays as it is (DESIGN
CHOICE, log entry 121). -/
def withOmciMic (n : Nat) (t : Treat) (bytes : List Byte) (s : State) : List Byte :=
  match t.omci with
  | some term => if bytes.length < 4 then bytes
    else bytes.take (bytes.length - 4) ++ omciMic 0 n term (bytes.take (bytes.length - 4)) s
  | none => bytes

/-- R260: an uncorrectable error in an OMCI integrity key holds the Port-IDs that use it. -/
def omciBad (d n : Nat) (t : Treat) (s : State) : Bool :=
  match t.omci with
  | some term => (s.cph d).tBad.contains (tkeyNo n term 2)
  | none => false

/-- An SDU leaves the downstream cipher; a mirrored or captured copy carries its status (R245). -/
def dsLeaves (n port len : Nat) (o : DsOut) (s : State) : Option DsOut × State :=
  (some o, captureAt { point := 2, place := n, port := port, bytes := o.bytes, len := len, iv := o.iv, status := o.status } s)

/-- R239 to R248, R254, R260: the downstream treatment of an SDU of frame k; the answer is what leaves, if anything does. -/
def cipherDs (t : Treat) (k n port len ofs : Nat) (crl : Bool) (bytes : List Byte) (s : State) : Option DsOut × State :=
  let bytes := withOmciMic n t bytes s
  if omciBad 0 n t s then (none, holdDrop 0 s)
  else if t.mode = 0 then dsLeaves n port len { bytes := bytes } s
  else if k < (s.cph 0).resumeFrame then (none, bump CPH.TKO_DROP_CNT 0 s)
  else if t.mode = 1 then
    let slot := Tbl.get 0 (s.cph 0).txSlot (n * 1024 + t.term)
    let no := tkeyNo n t.term slot
    match Tbl.get none (s.cph 0).tkey no with
    | none => (none, s |> bump CPH.KEY_ERR_CNT 0 |> raise 169 5 [n, port])
    | some key =>
      if coldHeld 0 ((s.cph 0).tImage.contains no) s || (s.cph 0).tBad.contains no then (none, holdDrop 0 s)
      else s |> bump CPH.ENC_CNT 0 |> dsLeaves n port len { keyIndex := slot + 1, bytes := Config.xgemCipher key k ofs bytes }
  else
    let f := t.flow
    let slot := actSlot 0 f s
    let iv := ivOf k n 0 ofs
    match invoke 0 f slot k iv len crl s with
    | (.refused, s) => (none, s)
    | (.made, s) =>
      let st := statusWord 0 0 slot len
      let key := (Tbl.get none (s.cph 0).fkey (f * 2 + slot)).getD 0
      s |> setStatus 0 f iv st |> bump CPH.SEAL_CNT 0 |> dsLeaves n port (len + 16) {
        keyIndex := slot + 1, iv := iv, status := st
        bytes := sealBytes t.mode key iv crl (flowBlock port len n (slot + 1)) bytes }

/-- R246: a refused SDU does not leave; the framer fills its space, and that of its remainder, with idle XGEM. -/
def idleSdu (n : Nat) (x : Sdu) (s : State) : State :=
  let f := s.fram n
  s.setFram n { f with
    carried := if x.cut then none else f.carried
    xgems := if (filling n s).any (fun b => b.frame == x.frame) then f.xgems.filter (· != x.stop) else f.xgems
    xgemsOld := if (filling n s).any (fun b => b.frame == x.frame) then f.xgemsOld else f.xgemsOld.filter (· != x.stop) }

/-- The SDU at the head of those handed to the cipher leaves it. -/
def takeSdu (n : Nat) (s : State) : State := s.setFram n { s.fram n with sealing := (s.fram n).sealing.drop 1 }

/-- SDUs handed to the cipher that it will never answer: their space stays idle. -/
def loseSdus (n : Nat) (p : Sdu → Bool) (s : State) : State :=
  let gone := (s.fram n).sealing.filter p
  s.setFram n { s.fram n with sealing := (s.fram n).sealing.filter fun x => !p x } |> allOf gone (idleSdu n)

/-- An SDU that leaves the cipher goes to the framer with its Key Index and its status (R239, R245). -/
def framerGets (n : Nat) (x : Sdu) (o : DsOut) (s : State) : State :=
  s.setFram n { s.fram n with out := (s.fram n).out ++ [{ frame := x.frame, ofs := x.ofs, port := x.port, out := o }] }

/-- The frame of an SDU that is not fragmented has not been read yet (R16, R224): the cipher acts on it once it has. -/
def sduUnread (n : Nat) (x : Sdu) (s : State) : Bool :=
  !x.cut && (Tbl.get {} s.queues.trees n : TmdTree).leaving.any fun l => l.2.2.2 == x.no

/-- The bytes of a frame after a VLAN operation: 1 push, 2 pop the outer tag, 3 swap its VID and PCP, the DEI between them kept
(R185). -/
def vlanEdit (e : Nat × Nat) (b : List Byte) : List Byte :=
  let tci : List Byte := [BitVec.ofNat 8 (e.2 / 256), BitVec.ofNat 8 e.2]
  let keep := e.2 / 2 ^ 13 * 2 ^ 13 + bytesAt b 14 2 / 2 ^ 12 % 2 * 2 ^ 12 + e.2 % 2 ^ 12
  let tagged := isTpid (bytesAt b 12 2)
  match e.1 with
  | 1 => b.take 12 ++ [0x81, 0x00] ++ tci ++ b.drop 12
  | 2 => if tagged then b.take 12 ++ b.drop 16 else b
  | 3 => if tagged then b.take 14 ++ [BitVec.ofNat 8 (keep / 256), BitVec.ofNat 8 keep] ++ b.drop 16 else b
  | _ => b

/-- CIPHER_DS_SDU (R16, R45): the oldest SDU the framer of tree n has handed over, with the position it gave; `bytes` are its
bytes as stored, on which its action's VLAN operation is made (R185), read before it leaves the cipher (R16). In a cipher island
in reset it is lost (R13). -/
def execCipherDsSdu (n : Fin 48) (port : BitVec 16) (len : BitVec 14) (ofs : BitVec 20) (bytes : List Byte) (s : State) :
    Host.Outcome State Fault Refusal :=
  match (s.fram n).sealing with
  | [] => .next s
  | x :: _ =>
    if x.port ≠ port.toNat ∨ x.len ≠ len.toNat ∨ x.ofs ≠ ofs.toNat ∨ sduUnread n x s = true then .next s
    else if s.up 218 then
      match cipherDs x.treat x.frame n x.port x.len x.ofs false (vlanEdit x.edit bytes) (takeSdu n s) with
      | (some o, s) => .next (framerGets n x o s)
      | (none, s) => .next (idleSdu n x s)
    else .next (s |> takeSdu n |> idleSdu n x |> wrapperAnswer 218)

/-- A tag check fails (R251, R252). -/
def tagFailed (f : Nat) (s : State) : State :=
  s |> bump CPH.TAG_ERR_CNT 1 |> flowErr 1 f |> raise 170 0 [f]

def keyError (n port : Nat) (s : State) : State := s |> bump CPH.KEY_ERR_CNT 1 |> raise 170 5 [n, port]

/-- What the upstream cipher decides of an SDU: dropped; passed; offered cut-through before its tag check. Its IV, its status
(R245) and its bytes in clear, a container's header among them, with the tag where KEEP_TAG keeps it (R252). -/
structure UpOut where
  pass : Bool
  ct : Bool := false
  iv : Nat := 0
  status : Nat := 0
  bytes : List Byte := []
  deriving DecidableEq, Repr

def upDrop (s : State) : UpOut × State := ({ pass := false }, s)

/-- R240: the Key Index fits the treatment; that it names a slot with a valid key is asked of the key. -/
def keyIndexFits (mode ki : Nat) : Bool := (ki == 0) == (mode == 0) && ki != 3

/-- R242: the OMCI check of a message in clear. -/
def omciPasses (n : Nat) (t : Treat) (clear : List Byte) (s : State) : Bool :=
  match t.omci with
  | some term => decide (4 ≤ clear.length) && clear.drop (clear.length - 4) == omciMic 1 n term (clear.take (clear.length - 4)) s
  | none => true

/-- R242: a message that fails its check is discarded. -/
def omciCheck (n port : Nat) (t : Treat) (clear : List Byte) (s : State) : UpOut × State :=
  if omciBad 1 n t s then upDrop (holdDrop 1 s)
  else if omciPasses n t clear s then ({ pass := true, bytes := clear }, s)
  else s |> bump CPH.OMCI_MIC_ERR_CNT 1 |> raise 170 6 [n, port] |> upDrop

/-- R243: a sealed or tag-only SDU under its key: the payload in clear, and whether its tag passes. The 16-byte header of a
container stands in clear. -/
def openSdu (mode key iv : Nat) (block hdr pay tag : List Byte) : List Byte × Bool :=
  if mode = 2 then
    let clear := Config.gcmPlaintext key iv (block ++ hdr) pay
    (clear, tag.length == 16 && Config.gcmTag key iv (block ++ hdr) clear == tag)
  else (pay, tag.length == 16 && Config.gcmTag key iv (block ++ hdr ++ pay) [] == tag)

/-- The tag check of a flow's SDU completes (R251, R252). -/
def tagVerdict (f slot iv len ct : Nat) (ok : Bool) (s : State) : State :=
  if ok then s |> bump CPH.SEAL_CNT 1 |> setStatus 1 f iv (statusWord 0 ct slot len)
  else s |> tagFailed f |> setStatus 1 f iv (statusWord 1 ct slot len)

/-- R240 to R248, R251, R252: an SDU of a treatment under Key Index ki at the upstream cipher. `frame` is the downstream frame
whose map carried the allocation, `index` INDEX of R244, `whole` that it arrived in one burst unfragmented; `hdr` is the
header of a container (empty for a packet), `pay` and `tag` what follows, as received. -/
def cipherUs (t : Treat) (n port ki frame index : Nat) (crl whole : Bool) (hdr pay tag : List Byte) (s : State) : UpOut × State :=
  let slot := ki - 1
  let len := hdr.length + pay.length
  if !keyIndexFits t.mode ki then upDrop (keyError n port s)
  else if t.mode = 0 then omciCheck n port t (hdr ++ pay ++ tag) s
  else if t.mode = 1 then
    let no := tkeyNo n t.term slot
    match Tbl.get none (s.cph 1).tkey no with
    | none => upDrop (keyError n port s)
    | some key =>
      if coldHeld 1 ((s.cph 1).tImage.contains no) s || (s.cph 1).tBad.contains no then upDrop (holdDrop 1 s)
      else s |> bump CPH.ENC_CNT 1 |> omciCheck n port t (Config.xgemCipher key frame index (hdr ++ pay ++ tag))
  else
    let f := t.flow
    if rdx FLOW.VALID 1 f s = 0 ∨ slotValid 1 f slot s = false then upDrop (keyError n port s)
    else
      let s := s.setCph 1 { s.cph 1 with named := Tbl.set 0 (s.cph 1).named f slot }
      let iv := ivOf frame n 1 index
      match invoke 1 f slot frame iv len crl s with
      | (.refused, s) => upDrop s
      | (.made, s) =>
        let key := (Tbl.get none (s.cph 1).fkey (f * 2 + slot)).getD 0
        let (clear, ok) := openSdu t.mode key iv (flowBlock port len n ki) hdr pay tag
        let o : UpOut := {
          pass := true, iv := iv, status := statusWord (b2n !ok) 0 slot len
          bytes := hdr ++ clear ++ (if crl = false ∧ rdx FLOW.KEEP_TAG 1 f s = 1 then tag else []) }
        if whole && !crl && rdx FLOW.CT 1 f s == 1 then
          ({ o with ct := true }, s.setCph 1 { s.cph 1 with
            tagChecks := (s.cph 1).tagChecks ++ [{ flow := f, slot := slot, iv := iv, len := len, ok := ok }] })
        else (if ok then o else { pass := false }, tagVerdict f slot iv len 0 ok s)

/-- The 16-byte tag at the end of a packet SDU of a sealed or tag-only flow (R243). -/
def sduTag (mode : Nat) (bytes : List Byte) : List Byte := if 2 ≤ mode then bytes.drop (bytes.length - 16) else []

/-- The buffer of an upstream SDU, if it has one, is freed. -/
def freeSdu (n h : Nat) (s : State) : State := if h = 0 then s else freeHandle (pipelineRequester n) h s

/-- CIPHER_US_SDU: the oldest SDU the framing island of tree n has handed over, with its bytes as they were received. The Key
Index, the position and the length are those the framing island read (R240, R244): a command that names others acts on nothing. The
verdicts of the tag and of the OMCI check are computed, so the operands that name them change nothing (log entry 121). -/
def upstreamSdu (n ki frame index : Nat) (whole : Bool) (bytes : List Byte) (s : State) : State :=
  match (s.fram n).upstream with
  | [] => s
  | u :: rest =>
    let t := portTreat 1 n u.port s
    if u.key ≠ ki ∨ u.frame ≠ frame ∨ u.index ≠ index ∨ u.whole ≠ whole ∨ u.bytes ≠ bytes.length then s
    else
      let s := s.setFram n { s.fram n with upstream := rest }
      let tag := sduTag t.mode bytes
      match cipherUs t n u.port ki frame index false (whole && u.handle == 0) [] (bytes.take (bytes.length - tag.length)) tag s with
      | (o, s) =>
        if !o.pass then freeSdu n u.handle s
        else
          let s := captureAt { point := 3, place := n, port := u.port, bytes := o.bytes, len := o.bytes.length, iv := o.iv, status := o.status } s
          let i := 207 + treeCluster n / 2
          if s.up i then { s with upSdus := s.upSdus ++ [{
            tree := n, port := u.port, handle := u.handle, len := o.bytes.length, ct := o.ct, iv := o.iv, status := o.status }] }
          else s |> wrapperAnswer i |> freeSdu n u.handle

def execCipherUsSdu (n : Fin 48) (ki : Fin 4) (frame : BitVec 51) (index : BitVec 38) (whole _tagOk _micOk : Bool)
    (bytes : List Byte) (s : State) : Host.Outcome State Fault Refusal :=
  onIsland 219 s (upstreamSdu n ki frame.toNat index.toNat whole bytes)

/-! Tables (R242, R256, R258). -/

/-- FLOW_WRITE (R256): a write of FLOW_DATA. While VALID = 1, word 0 only takes a cleared VALID. -/
def flowDataWrite (d w : Nat) (s : State) : State :=
  let f := rd CPH.FLOW_IDX_FLOW d s
  let word := rd CPH.FLOW_IDX_WORD d s
  let ofs := regOffset .cph d 7
  let ro := rdWord .flow d f 0 s / 2 ^ 23 % 16 * 2 ^ 23
  let cfg := w / 2 ^ 27 * 2 ^ 27 + w / 2 ^ 17 % 64 * 2 ^ 17 + w % 2 ^ 16
  let old := rdWord .flow d f 0 s - ro
  let s :=
    if word = 0 then
      if rdx FLOW.VALID d f s = 1 then
        let s := if cfg % 2 ^ 31 = old % 2 ^ 31 then s else encReject ofs w s
        onlyIf (w / 2 ^ 31 % 2 = 0) (wrx FLOW.VALID d f 0) s
      else if 48 ≤ w / 2 ^ 17 % 64 then
        s |> wrWord .flow d f 0 (cfg - w / 2 ^ 17 % 64 * 2 ^ 17 + rdx FLOW.TREE d f s * 2 ^ 17 + ro) |> encReject ofs w
      else wrWord .flow d f 0 (cfg + ro) s
    else if word = 1 then
      s |> wrx FLOW.RING_LEN d f (w / 2 ^ 28) |> wrx FLOW.RING_BASE d f (w / 2 ^ 12)
        |> fun s => s.setCph d { s.cph d with emptySaid := (s.cph d).emptySaid.filter (· != f) }
    else s
  advanceIndex CPH.FLOW_IDX_AUTO_INC CPH.FLOW_IDX_WORD CPH.FLOW_IDX_FLOW d 10 8192 s

def execFlowWrite (d : Fin 2) (w : Word) (s : State) : Host.Outcome State Fault Refusal :=
  onIsland (218 + d) s (flowDataWrite d w.toNat)

/-- The PORT index advances, 4,095 to 0 of the next tree (R257). -/
def portAdvance (d : Nat) : State → State := advanceIndex CPH.PORT_IDX_AUTO_INC CPH.PORT_IDX_PID CPH.PORT_IDX_TREE d 4096 48

/-- CIPHER_PORT_WRITE (R242, R256): a write of PORT_DATA; OMCI with a sealed mode is refused under R7's cause. -/
def cipherPortWrite (d w : Nat) (s : State) : State :=
  let i := portInst d (rd CPH.PORT_IDX_TREE d s)
  let x := rd CPH.PORT_IDX_PID d s
  let s := if w / 2 ^ 28 % 2 = 1 ∧ 2 ≤ w / 2 ^ 29 % 4 then encReject (regOffset .cph d 3) w s
    else wrWord .cphPort i x 0 (w / 2 ^ 14 * 2 ^ 14 + w % 2 ^ 13) s
  portAdvance d s

def execCipherPortWrite (d : Fin 2) (w : Word) (s : State) : Host.Outcome State Fault Refusal :=
  onIsland (218 + d) s (cipherPortWrite d w.toNat)

/-! Resets, takeover and memory errors (R17, R254, R255, R260). -/

/-- R255: the hold of image keys begins where COLD_GATE is set; the timing island must lock and align since the reset. -/
def coldHoldBegin (d : Nat) (s : State) : State :=
  if on CPH.CTL_COLD_GATE d s then s |> wr CPH.STS_COLD_HOLD d 1 |> raise (cphSource d) 14 [] else s

/-- A write of CTL (R255): with COLD_GATE = 0 nothing is held, so the clear ends the hold; set again before the timing island has
locked and aligned, it begins anew. -/
def cphCtlWrite (d w : Nat) (s : State) : State :=
  let old := on CPH.CTL_COLD_GATE d s
  let s := writeReg .cph d 0 w s
  let now := on CPH.CTL_COLD_GATE d s
  if old && !now && on CPH.STS_COLD_HOLD d s then s |> wr CPH.STS_COLD_HOLD d 0 |> raise (cphSource d) 15 []
  else if !old && now && !s.rst.aligned then coldHoldBegin d s
  else s

/-- COLD_HOLD_END (R255): LOCKED with FR_ALIGNED. -/
def coldHoldEnd (s : State) : State :=
  if rd TIM.STS_STATE 0 s = 2 ∧ on TIM.STS_FR_ALIGNED 0 s = true then
    let s := { s with rst := { s.rst with aligned := true } }
    allOf [0, 1] (fun d s => if on CPH.STS_COLD_HOLD d s && s.up (218 + d) then
      s |> wr CPH.STS_COLD_HOLD d 0 |> raise (cphSource d) 15 [] else s) s
  else s

/-- The flows of an island with a valid slot. -/
def keyedFlows (d : Nat) (s : State) : List Nat :=
  (s.mem.filter fun e => e.1.sp == .flow && e.1.inst == d && e.1.word == 0 && bitsOf e.2 24 23 != 0).map fun e => e.1.idx

/-- R254: the first two downstream frames of a unit that becomes ACTIVE with the partner link down encipher nothing. -/
def cipherHold (s : State) : State := s.setCph 0 { s.cph 0 with resumeFrame := framesNow s + 3 }

/-- R17: at a takeover each counter resumes at the mirrored value plus 65,536; with the partner link down the first two
downstream frames encipher nothing (R254). -/
def cipherTakeover (linkDown : Bool) (s : State) : State :=
  let s := allOf [0, 1] (fun d s => allOf (keyedFlows d s) (fun f s => allOf [0, 1] (fun slot s =>
    onlyIf (slotValid d f slot s = true) (setInv d f slot (invCount d f slot s + 65536)) s) s) s) s
  if linkDown then cipherHold s else s

/-- R260: an uncorrectable error in a flow key holds the flow while its slot is in use. -/
def flowKeyError (d no : Nat) (s : State) : State :=
  let x := s.cph d
  s.setCph d { x with fBad := x.fBad ++ [no] } |> onlyIf (countedSlot d (no / 2) s = no % 2) (wrx FLOW.HELD d (no / 2) 1)
    |> raise (cphSource d) 13 []

/-- R260: an uncorrectable error in a terminal key holds the Port-IDs that use it. -/
def terminalKeyError (d no : Nat) (s : State) : State :=
  s.setCph d { s.cph d with tBad := (s.cph d).tBad ++ [no] } |> raise (cphSource d) 13 []

/-- R260: an uncorrectable error in a ring key holds the flow that loads it. -/
def ringKeyError (d e : Nat) (s : State) : State :=
  s.setCph d { s.cph d with ringBad := (s.cph d).ringBad ++ [e] } |> raise (cphSource d) 13 []

end Sys2Proof.Machine
end

