-- ==== Sys2Proof/Machine/Queue.lean ====
section
/-!
DEFINITION. Queues, schedulers, shapers and time gates (10_queues_shaping.md, R214 to R238): the nodes of TMD and TMU,
start-time fair queuing, shapers, the downstream dequeue, upstream transmission, gates and preemption.
-/

namespace Sys2Proof.Machine

/-- A scheduling node: its instance of the node space and its index (R214, R216). Instances: TMD queue, multicast queue,
class and terminal of tree n at n, 64 + n, 128 + n and 192 + n, its tree at 256 + n; TMU queue, class and port of port p
at 320 + p, 352 + p and 384 + p. -/
structure Node where
  inst : Nat
  idx : Nat
  deriving DecidableEq, Repr

def Node.key (d : Node) : Nat := d.inst * 8192 + d.idx
def Node.ofKey (k : Nat) : Node := ⟨k / 8192, k % 8192⟩

def tmdNode (level n idx : Nat) : Node := ⟨level * 64 + n, idx⟩
def tmuQueue (p i : Nat) : Node := ⟨320 + p, i⟩
def tmuClass (p c : Nat) : Node := ⟨352 + p, c⟩
def tmuPortNode (p : Nat) : Node := ⟨384 + p, 0⟩

def State.node (s : State) (d : Node) : NodeX := Tbl.get {} s.queues.nodes d.key
def State.setNode (s : State) (d : Node) (x : NodeX) : State :=
  { s with queues := { s.queues with nodes := Tbl.set {} s.queues.nodes d.key x } }
def State.tmdTree (s : State) (n : Nat) : TmdTree := Tbl.get {} s.queues.trees n
def State.setTmdTree (s : State) (n : Nat) (x : TmdTree) : State :=
  { s with queues := { s.queues with trees := Tbl.set {} s.queues.trees n x } }
def State.tmuPort (s : State) (p : Nat) : TmuPort := Tbl.get {} s.queues.ports p
def State.setTmuPort (s : State) (p : Nat) (x : TmuPort) : State :=
  { s with queues := { s.queues with ports := Tbl.set {} s.queues.ports p x } }

def nrd (f : Fld) (d : Node) (s : State) : Nat := rdx f d.inst d.idx s
def nwr (f : Fld) (d : Node) (v : Nat) (s : State) : State := wrx f d.inst d.idx v s

/-! Shapers (R219, R220). -/

/-- Tokens now, in 1/1,024 byte, with the remainder of the refill: d ns at RATE kbit/s are d × RATE × 16 / 125,000. -/
def tokensNow (d : Node) (s : State) : Int × Nat :=
  let x := s.node d
  let n := (s.clk - x.refilled) * nrd NODE.RATE d s * 16 + x.rem
  (min (x.tok + (n / 125000 : Nat)) ((nrd NODE.BURST d s * 1024 : Nat) : Int), n % 125000)

def refill (d : Node) (s : State) : State :=
  let t := tokensNow d s
  s.setNode d { s.node d with tok := t.1, rem := t.2, refilled := s.clk }

/-- RATE 0 is unshaped; otherwise the node is not in debt. -/
def tokensOk (d : Node) (s : State) : Bool := nrd NODE.RATE d s == 0 || decide (0 ≤ (tokensNow d s).1)

/-! Start-time fair queuing (R217). -/

/-- Tags compared modulo 2^32. -/
def tagMax (a b : Nat) : Nat := if (a + 2 ^ 32 - b) % 2 ^ 32 < 2 ^ 31 then a else b
def tagBefore (a b : Nat) : Bool := a != b && decide ((b + 2 ^ 32 - a) % 2 ^ 32 < 2 ^ 31)

/-- A child that becomes eligible takes S = max(V, F). -/
def becomeEligible (parent c : Node) (s : State) : State :=
  let x := s.node c
  if x.elig then s else s.setNode c { x with elig := true, stag := tagMax (s.node parent).vtime x.ftag }

/-- The selected child: the highest-numbered STRICT class where the parent honours STRICT, else the smallest tag, ties to
the lowest index. -/
def pickChild (classes : Bool) (l : List Node) (s : State) : Option Node :=
  let strict := if classes then l.filter fun c => nrd NODE.STRICT c s == 1 else []
  match strict with
  | c :: cs => some (cs.foldl (fun a b => if a.idx < b.idx then b else a) c)
  | [] => match l with
    | [] => none
    | c :: cs => some (cs.foldl (fun a b =>
        if tagBefore (s.node b).stag (s.node a).stag || ((s.node a).stag == (s.node b).stag && decide (b.idx < a.idx)) then b else a) c)

/-- The commit of a charged length through a child: refill, then the charge (R219, R220). -/
def commitChild (parent c : Node) (len : Nat) (s : State) : State :=
  let s := refill c s
  let x := s.node c
  let f := (x.stag + (len * 65536 + nrd NODE.WEIGHT c s - 1) / nrd NODE.WEIGHT c s) % 2 ^ 32
  let tok := if nrd NODE.RATE c s = 0 then x.tok else x.tok - (len * 1024 : Nat)
  let s := s.setNode parent { s.node parent with vtime := x.stag }
  s.setNode c { s.node c with ftag := f, stag := f, tok := tok }

/-- After a commit a child that is no longer eligible gives its tag up; it takes a new one when it is again. -/
def settleChild (still : Bool) (c : Node) (s : State) : State := s.setNode c { s.node c with elig := still }

/-! Frames in a queue. -/

/-- A frame joins the tail. -/
def pushFrame (d : Node) (f : QFrame) (charged : Nat) (s : State) : State :=
  let x := s.node d
  s.setNode d { x with frames := x.frames ++ [f] } |> nwr NODE.DEPTH d (nrd NODE.DEPTH d s + charged)

/-- The head frame leaves. -/
def popFrame (d : Node) (charged : Nat) (s : State) : State :=
  let x := s.node d
  s.setNode d { x with frames := x.frames.drop 1, cut := false } |> nwr NODE.DEPTH d (nrd NODE.DEPTH d s - charged)

/-- R221: the frame would carry DEPTH above QLIM. -/
def overLimit (d : Node) (charged : Nat) (s : State) : Bool := decide (nrd NODE.QLIM d s < nrd NODE.DEPTH d s + charged)

/-- The reference of a frame, if a buffer holds it, is freed. -/
def freeRef (r : Nat) (h : Option Nat) (s : State) : State := match h with | some h => freeHandle r h s | none => s

/-- Every frame of a queue is discarded and its reference freed; each is counted. -/
def drainQueue (r : Nat) (cnt : Fld) (d : Node) (s : State) : State :=
  let x := s.node d
  let s := s.setNode d { x with frames := [], cut := false, elig := false, held := false } |> nwr NODE.DEPTH d 0
  allOf x.frames (fun f s => s |> freeRef r f.handle |> bump cnt 0) s

/-! TMD (R214, R215, R221 to R226). -/

/-- A TMD queue is drained (R226, R234): with a head that is fragmented goes the remainder that was to lead the next frame; the
frame offered and not taken is offered no more. -/
def drainTmd (n : Nat) (cnt : Fld) (d : Node) (s : State) : State :=
  let x := s.tmdTree n
  let gone := fun (l : Nat × Option Nat × Nat × Nat) => l.1 == d.key && l.2.2.1 != 0
  let lost := fun (no : Nat) => x.leaving.any fun l => gone l && l.2.2.2 == no
  let s := s.setTmdTree n { x with
    leaving := x.leaving.filter fun l => !gone l, offered := if x.offered = some d.key then none else x.offered }
  let s := s.setFram n { s.fram n with carried := (s.fram n).carried.filter fun c => !lost c.no }
  s |> loseSdus n (fun y => y.cut && lost y.no) |> drainQueue 13 cnt d

def treeDead (n : Nat) (s : State) : Bool := maskHas (rd (TMD.DEAD0.at (n / 32)) 0 s) (n % 32)
def setTreeDead (n : Nat) (b : Bool) (s : State) : State :=
  wr ⟨.tmd, 1 + n / 32, n % 32, n % 32⟩ 0 (b2n b) s

/-- The queues of a tree that hold frames. -/
def busyQueues (n : Nat) (s : State) : List Node :=
  (s.queues.nodes.filter fun e => (e.1 / 8192 == n || e.1 / 8192 == 64 + n) && !e.2.frames.isEmpty).map fun e => Node.ofKey e.1

/-- The class a queue's head frame was mapped to. -/
def headClass (d : Node) (s : State) : Nat :=
  match (s.node d).frames with
  | f :: _ => f.parent
  | [] => 0

def dedup (l : List Nat) : List Nat := l.foldl (fun a x => if a.contains x then a else a ++ [x]) []

/-- R215: the queue of a (tree, Port-ID) and the class its frames are children of. -/
def queueFor (n port : Nat) (s : State) : Option (Node × Nat) :=
  let d := tmdNode 0 n (port % 4096)
  if nrd NODE.VALID d s = 0 ∨ nrd NODE.PID_HI d s ≠ port / 4096 then none
  else if nrd NODE.MCAST d s = 1 then
    let q := nrd NODE.MQ d s
    some (tmdNode 1 n q, 512 * 8 + q / 8)
  else some (d, nrd NODE.TERM d s * 8 + nrd NODE.CLASS d s)

/-- R215, R221, R226: a frame enters its queue, or is discarded and its reference freed. A frame without a byte, which no XGEM
frame carries (R45), is freed uncounted (DESIGN CHOICE, log entry 121). -/
def tmdPut (n port h len : Nat) (vlan : Nat × Nat) (s : State) : State :=
  if len = 0 then freeHandle 13 h s
  else if treeDead n s then s |> freeHandle 13 h |> bump TMD.DEAD_DROP_CNT 0
  else match queueFor n port s with
    | none => s |> freeHandle 13 h |> bump TMD.NOQ_CNT 0 |> raise 164 1 [n, port % 4096]
    | some (d, cls) =>
      let l := xgemBytes len
      if overLimit d l s then
        s |> freeHandle 13 h |> nwr NODE.DROP_CNT d (min (nrd NODE.DROP_CNT d s + 1) (2 ^ 32 - 1))
          |> bump TMD.TAIL_DROP_CNT 0 |> raise 164 0 [n, d.idx]
      else s |> pushFrame d { handle := some h, len := len, parent := cls, port := port, edit := vlan } l |> bump TMD.ENQ_CNT 0

def tmdEnqueue (n port h len : Nat) : State → State := tmdPut n port h len (0, 0)

/-- TMD_ENQUEUE. -/
def execTmdEnqueue (n : Fin 48) (port : BitVec 16) (h : Word) (len : BitVec 14) (s : State) :
    Host.Outcome State Fault Refusal :=
  onIsland 211 s (tmdEnqueue n port.toNat h.toNat len.toNat)

/-- The selection of R217 down the hierarchy: a node counts as backlogged while a queue below it can be served. -/
def tmdSelect (n : Nat) (s : State) : Option Node × State :=
  let qs := (busyQueues n s).filter fun d => tokensOk d s && !(s.node d).held && !(s.node d).cut
  let clsOf := fun d => tmdNode 2 n (headClass d s)
  let qs := qs.filter fun d => tokensOk (clsOf d) s && tokensOk (tmdNode 3 n ((clsOf d).idx / 8)) s
  let cs := (dedup (qs.map fun d => (clsOf d).idx)).map (tmdNode 2 n)
  let ts := (dedup (cs.map fun c => c.idx / 8)).map (tmdNode 3 n)
  let s := s |> allOf qs (fun d s => becomeEligible (clsOf d) d s)
    |> allOf cs (fun c s => becomeEligible (tmdNode 3 n (c.idx / 8)) c s) |> allOf ts (becomeEligible (tmdNode 4 n 0))
  match pickChild false ts s with
  | none => (none, s)
  | some t => match pickChild true (cs.filter fun c => c.idx / 8 == t.idx) s with
    | none => (none, s)
    | some c => (pickChild false (qs.filter fun d => clsOf d == c) s, s)

/-- A queue whose head frame may be taken: not in debt, not held, its head not fragmented (R217, R224, R225). -/
def queueReady (d : Node) (s : State) : Bool :=
  !(s.node d).frames.isEmpty && tokensOk d s && !(s.node d).held && !(s.node d).cut

/-- A class, or a terminal, of a tree has something below it that may be taken. -/
def classBacklog (n c : Nat) (s : State) : Bool := (busyQueues n s).any fun d => queueReady d s && headClass d s == c
def termBacklog (n t : Nat) (s : State) : Bool :=
  (busyQueues n s).any fun d => queueReady d s && headClass d s / 8 == t && tokensOk (tmdNode 2 n (headClass d s)) s

/-- The nodes of a tree that stand as eligible. -/
def eligNodes (n level : Nat) (s : State) : List Node :=
  (s.queues.nodes.filter fun e => e.1 / 8192 == level * 64 + n && e.2.elig).map fun e => Node.ofKey e.1

/-- R217: every node of a tree that is no longer eligible gives its tag up; it takes a new one when it is again. -/
def settleTree (n : Nat) (s : State) : State :=
  s |> allOf (eligNodes n 0 s ++ eligNodes n 1 s) (fun d s => settleChild (queueReady d s) d s)
    |> allOf (eligNodes n 2 s) (fun c s => settleChild (classBacklog n c.idx s && tokensOk c s) c s)
    |> allOf (eligNodes n 3 s) (fun t s => settleChild (termBacklog n t.idx s && tokensOk t s) t s)

/-- R217, R219, R223: the commit of the head frame of queue d. A fragmented frame stays at the head (R224). -/
def tmdCommit (n : Nat) (d : Node) (f : QFrame) (fragment : Bool) (s : State) : State :=
  let l := xgemBytes f.len
  let c := tmdNode 2 n f.parent
  let t := tmdNode 3 n (f.parent / 8)
  let x := s.tmdTree n
  let s := s |> commitChild c d l |> commitChild t c l |> commitChild (tmdNode 4 n 0) t l
  let s := if fragment then s.setNode d { s.node d with cut := true } else popFrame d l s
  let s := s.setTmdTree n { x with leaving := x.leaving ++ [(d.key, f.handle, if fragment then l else 0, x.count)], count := x.count + 1 }
  s |> settleTree n |> bump TMD.DEQ_CNT 0

/-- The XGEM frame of an SDU: its payload, with the 16-byte tag of a sealed or tag-only flow (R243). -/
def sealedLen (mode len : Nat) : Nat := if 2 ≤ mode then len + 16 else len

/-- The framer hands an SDU to the cipher with its position (R16, R45), the XGEM frame ending at `stop`; the wrapper of a
cipher island in reset answers, and the bytes stay idle (R13). -/
def handSdu (n : Nat) (x : Sdu) (s : State) : State :=
  if s.up 218 then s.setFram n { s.fram n with sealing := (s.fram n).sealing ++ [x], xgems := (s.fram n).xgems ++ [x.stop] }
  else s.setFram n { s.fram n with carried := if x.cut then none else (s.fram n).carried } |> wrapperAnswer 218

/-- A frame of its port is no-fragment (R225): the mark stands in the queue of its Port-ID, multicast or not (R215). -/
def noFragment (n port : Nat) (s : State) : Bool := nrd NODE.NOFRAG (tmdNode 0 n (port % 4096)) s == 1

/-- The framer takes the frame whole, takes its first fragment, lets it lead the next frame (R46), or will return it
(R47, R225). -/
def framerTakes (n : Nat) (b : Built) (d : Node) (f : QFrame) (s : State) : State :=
  let fr := s.fram n
  let treat := dsTreat (portTreat 0 n f.port s) s
  let no := (s.tmdTree n).count
  let p := sealedLen treat.mode f.len
  let l := xgemBytes p
  let total := fsBytes b.fec
  let x : Sdu := { edit := f.edit, port := f.port, len := f.len, treat := treat, frame := b.frame, ofs := total - fr.space
                   stop := total - fr.space + l, cut := false, no := no }
  if l ≤ fr.space then
    s.setFram n { fr with space := fr.space - l } |> handSdu n x |> tmdCommit n d f false
  else if noFragment n f.port s then s.setTmdTree n { s.tmdTree n with offered := some d.key }
  else if 72 ≤ fr.space then
    s.setFram n { fr with space := 0, carried := some { bytes := p - (fr.space - 8), remainder := true, no := no } }
      |> handSdu n { x with stop := total, cut := true } |> tmdCommit n d f true |> bump TFR.FRAG_CNT n
  else
    s.setFram n { fr with space := 0, carried := some { edit := f.edit, bytes := p, remainder := false, port := f.port, len := f.len, treat := treat, no := no } }
      |> tmdCommit n d f true

/-- TMD_DEQUEUE_OFFER (R223, R226): the framer offers the space left in the frame it is filling; without one, in IDLE or with
DS_EN = 0, it makes no offer. What leads the next frame comes before any new dequeue (R46). -/
def dequeueOffer (n : Nat) (s : State) : State :=
  match filling n s with
  | none => s
  | some b =>
    if rd TLN.CTL_TX_MODE n s ≠ 1 then s
    else
      let live := treeDead n s
      let s := s.setTmdTree n { s.tmdTree n with lastOffer := s.clk }
      let s := if live then s |> setTreeDead n false |> raise 164 3 [] else s
      if (s.fram n).carried ≠ none ∨ (s.tmdTree n).offered ≠ none then s
      else
        let (d, s) := tmdSelect n s
        match d with
        | none => s
        | some d => match (s.node d).frames with
          | f :: _ => framerTakes n b d f s
          | [] => s

def execTmdDequeueOffer (n : Fin 48) (s : State) : Host.Outcome State Fault Refusal :=
  onIsland 211 s fun s => if s.up (framingIsland n) then dequeueOffer n s else wrapperAnswer (framingIsland n) s

/-- The stored frame behind a reference, with what ECC finds in it, or nothing to read where there is none. -/
def readHeld (r : Nat) (h : Option Nat) (ecc : Option (Nat × Bool)) (s : State) : Option (List Byte) × State :=
  match h with
  | some h => readStored r h ecc s
  | none => (some [], s)

/-- The same read has to wait for a stack whose PHY retrains (R209). -/
def holdHeld (r : Nat) (h : Option Nat) (s : State) : Option State := h.bind fun h => holdRead r h s

/-- The frame the framer has taken leaves TMD (R224); a read error discards it (R222), and its place in the FS frame stays
idle. -/
def taken (n k : Nat) (h : Option Nat) (held no : Nat) (ecc : Option (Nat × Bool)) (s : State) : State :=
  let s := if held = 0 then s else popFrame (Node.ofKey k) held s
  let r := readHeld 13 h ecc s
  r.2 |> freeRef 13 h |> onlyIf (r.1.isNone = true) (fun s =>
    s |> bump TMD.RDERR_CNT 0 |> bump TFR.DQ_LOST_CNT n |> raise 164 4 [] |> loseSdus n (fun y => y.no == no))

/-- TMD_FRAME_TAKEN (R224, R222): the framer has taken the last byte of the oldest frame committed; what leads the next frame has
not been taken yet. Reading its buffer returns an error where the handle is stale or another's (R206), and where `ecc` says
that ECC found an uncorrectable error in a granule of it (R209). -/
def frameTaken (n : Nat) (ecc : Option (Nat × Bool)) (s : State) : State :=
  let x := s.tmdTree n
  match x.leaving with
  | [] => s
  | (k, h, held, no) :: rest =>
    if (s.fram n).carried.any (fun c => c.no == no) ∧ held ≠ 0 then s
    else match holdHeld 13 h s with
      | some s => s
      | none => taken n k h held no ecc (s.setTmdTree n { x with leaving := rest })

def execTmdFrameTaken (n : Fin 48) (ecc : Option (Nat × Bool)) (s : State) : Host.Outcome State Fault Refusal :=
  onIsland 211 s (frameTaken n ecc)

/-- NOFRAG_RETURN (R47, R225): nothing is charged; the queue is held until the tree's next frame start. -/
def nofragReturn (n : Nat) (s : State) : State :=
  let x := s.tmdTree n
  match x.offered with
  | none => s
  | some k =>
    let d := Node.ofKey k
    let s := s.setTmdTree n { x with offered := none }
    s.setNode d { s.node d with held := true, elig := false } |> settleTree n |> bump TMD.NOFRAG_RET_CNT 0 |> bump TFR.NOFRAG_WAIT_CNT n

def execNofragReturn (n : Fin 48) (s : State) : Host.Outcome State Fault Refusal := onIsland 211 s (nofragReturn n)

/-- A frame start ends the holds of its tree's queues (R225, R217). -/
def releaseHolds (n : Nat) (s : State) : State :=
  allOf (busyQueues n s) (fun d s =>
    if (s.node d).held then
      let s := s.setNode d { s.node d with held := false }
      if tokensOk d s then becomeEligible (tmdNode 2 n (headClass d s)) d s else s
    else s) s

/-- TREE_DEAD (R226): no space offer for FLUSH_TO. -/
def treeDies (n : Nat) (s : State) : State :=
  if treeDead n s then s
  else
    let s := passTo ((s.tmdTree n).lastOffer + rd TMD.CTL_FLUSH_TO 0 s * 100000) s
    s |> setTreeDead n true |> raise 164 2 [] |> allOf (busyQueues n s) (drainTmd n TMD.DEAD_DROP_CNT)
      |> settleTree n

def execTreeDead (n : Fin 48) (s : State) : Host.Outcome State Fault Refusal := onIsland 211 s (treeDies n)

/-! TMU: ports and gates (R216, R227 to R231). -/

/-- n is the first lane of a configured port (R262). -/
def isPort (p : Nat) (s : State) : Bool := on NET.PORT_CFG_EN p s
/-- The port's rate in Gbit/s (R261). -/
def portRate (p : Nat) (s : State) : Nat := 100 * 2 ^ (rd NET.PORT_CFG_SPEED p s - 1)
/-- W(n): the time of n bytes, in ps (R229). -/
def byteTime (p n : Nat) (s : State) : Nat := n * 8000 / portRate p s

/-- Classes of a port are preemptable only while preemption is active on it (R268). -/
def preemptable (p c : Nat) (s : State) : Bool := nrd NODE.NOFRAG (tmuClass p c) s == 1 && on NET.STS_PREEMPT_ACT p s

def operBank (p : Nat) (s : State) : Nat := rd TMUPORT.OPER_STS_OPER_BANK p s
/-- Gate control entries: two banks of 256 a port. -/
def gclStates (p bank e : Nat) (s : State) : Nat := rdx GCL.STATES (p * 2 + bank) e s
def gclInterval (p bank e : Nat) (s : State) : Nat := rdx GCL.INTERVAL (p * 2 + bank) e s

/-- The gates now: all open with EN = 0, ADMIN_STATES until the first list starts (R228, R235). -/
def gateStates (p : Nat) (s : State) : Nat :=
  if !on TMUPORT.GATE_CTL_EN p s then 255
  else if !(s.tmuPort p).listed then rd TMUPORT.GATE_CTL_ADMIN_STATES p s
  else gclStates p (operBank p s) (s.tmuPort p).entry s

/-- A gate list: its entries' states and intervals, their number, its cycle time. -/
structure GateList where
  ent : Nat → Nat × Nat
  len : Nat
  cycle : Nat

/-- The operational list of a port, and the one a pending change installs (R231, R234). -/
def operList (p : Nat) (s : State) : GateList :=
  let bank := operBank p s
  ⟨fun e => (gclStates p bank e s, gclInterval p bank e s), (s.tmuPort p).operLen, (s.tmuPort p).cycle⟩
def pendingList (p : Nat) (s : State) : GateList :=
  let x := s.tmuPort p
  ⟨fun e => x.pendList.getD e (0, 0), x.pendLen, x.pendCycle⟩

/-- The end of an entry that starts at `t` in a cycle that ends at `ce`: the last entry lasts to the cycle's end, and no
entry passes it (R228). -/
def entryStop (g : GateList) (e t ce : Nat) : Nat := if e + 1 = g.len then ce else min ce (t + (g.ent e).2)

/-- Walk the entries from one whose end is known to the first that closes class c. -/
def walkClosing (g : GateList) (c : Nat) : Nat → Nat → Nat → Nat → Option Nat
  | 0, _, _, _ => none
  | fuel + 1, e, stop, ce =>
    let wraps := decide (ce ≤ stop)
    let e' := if wraps then 0 else e + 1
    let ce' := if wraps then ce + g.cycle else ce
    if !maskHas (g.ent e').1 c then some stop else walkClosing g c fuel e' (entryStop g e' stop ce') ce'

/-- The first closing of class c in a list whose first cycle starts at `t`. -/
def firstClosing (g : GateList) (c t : Nat) : Option Nat :=
  if !maskHas (g.ent 0).1 c then some t else walkClosing g c 513 0 (entryStop g 0 t (t + g.cycle)) (t + g.cycle)

/-- The same walk while a change is pending at instant `chg`: the list ends there, and a cycle that would leave less than `ext`
before it is extended to it (R231). -/
def walkPending (g new : GateList) (c chg ext : Nat) : Nat → Nat → Nat → Nat → Option Nat
  | 0, _, _, _ => none
  | fuel + 1, e, stop, ce =>
    let wraps := decide (ce ≤ stop)
    if chg ≤ stop || (wraps && decide (chg < stop + ext)) then firstClosing new c chg
    else
      let e' := if wraps then 0 else e + 1
      let ce' := if wraps then ce + g.cycle else ce
      if !maskHas (g.ent e').1 c then some stop else walkPending g new c chg ext fuel e' (entryStop g e' stop ce') ce'

/-- The cycle start of the admin list at or after an instant (R231). -/
def adminBase (p : Nat) (s : State) : Nat :=
  (rd TMUPORT.ADMIN_BASE_SEC_HI_SEC_HI p s * 2 ^ 32 + rd TMUPORT.ADMIN_BASE_SEC p s) * 1000000000 + rd TMUPORT.ADMIN_BASE_NS_NS p s
def changeInstant (p : Nat) (s : State) : Nat :=
  let b := adminBase p s
  let c := rd TMUPORT.ADMIN_CYCLE p s
  if s.ptp ≤ b then b else b + (s.ptp - b + c - 1) / c * c

/-- T_c: the next closing of an open gate, PTP ns (R229), in the operational list and, past a pending change, in the new one. -/
def nextClosing (p c : Nat) (s : State) : Option Nat :=
  let x := s.tmuPort p
  if !on TMUPORT.GATE_CTL_EN p s then none
  else if on TMUPORT.GATE_CTL_PENDING p s then
    if x.listed then
      walkPending (operList p s) (pendingList p s) c x.changeAt (rd TMUPORT.CYCLE_EXT p s) 513 x.entry x.entryEnd x.cycleEnd
    else firstClosing (pendingList p s) c x.changeAt
  else if x.listed then walkClosing (operList p s) c 513 x.entry x.entryEnd x.cycleEnd
  else none

/-- The bytes beside n data bytes of a transmission: the preamble, and the mCRC of a fragment other than a whole frame (R229). -/
def txExtra (whole : Bool) : Nat := if whole then 8 else 12

/-- R229: how many bytes of a frame of class c, or of its remainder, may start now, after the cut at its closing: none if it may
not start. -/
def startBytes (p c len : Nat) (cont : Bool) (s : State) : Option Nat :=
  if !maskHas (gateStates p s) c then none
  else match nextClosing p c s with
    | none => some len
    | some t =>
      let room := (t - s.ptp) * 1000
      if byteTime p (len + txExtra (!cont)) s ≤ room then some len
      else if preemptable p c s && decide (128 ≤ len) && decide (byteTime p 76 s ≤ room) then
        some (min ((room * portRate p s / 8000 - 12) / 64) ((len - 64) / 64) * 64)
      else none

/-! TMU: enqueue (R216, R221, R227, R231, R233). -/

/-- A frame's way into TMU: source, class, and whether it comes from a tree or a lane (R216). -/
structure TmuWay where
  source : Nat
  cls : Nat
  fromTree : Bool

def tmuWay (p : Nat) (k : TmuKind) (s : State) : TmuWay :=
  match k with
  | .upstream g c => ⟨g, c, true⟩
  | .crl g => ⟨g, rd TMUPORT.PORT_CFG_CRL_CLASS p s, true⟩
  | .system => ⟨8, rd TMUPORT.PORT_CFG_SYS_CLASS p s, false⟩
  | .injection c => ⟨8, c, false⟩

/-- A frame TMU discards: its reference is freed and it is counted. -/
def tmuDrop (cnt : Fld) (h : Option Nat) (s : State) : State := s |> freeRef 14 h |> bump cnt 0

/-- The MAXLEN of a class (R227). -/
def classMaxlen (p c : Nat) (s : State) : Nat := rdx NODEC.MAXLEN p c s

/-- R216, R227: a frame for a network port meets its checks in order and enters its queue. -/
def tmuPut (p : Nat) (k : TmuKind) (q : QFrame) (s : State) : State :=
  let h := q.handle
  let len := q.len
  let w := tmuWay p k s
  let d := tmuQueue p (w.cls * 9 + w.source)
  if !isPort p s then tmuDrop TMU.NOQ_CNT h s
  else if w.fromTree && roleStandby s then tmuDrop TMU.STBY_DROP_CNT h s
  else if !on NET.STS_LINK p s then tmuDrop TMU.DOWN_DROP_CNT h s
  else if classMaxlen p w.cls s < len then s |> tmuDrop TMU.OVERSIZE_CNT h |> raise 165 1 [p, d.idx]
  else if nrd NODE.VALID d s = 0 then tmuDrop TMU.TAIL_DROP_CNT h s
  else if overLimit d (len + 20) s then
    s |> nwr NODE.DROP_CNT d (min (nrd NODE.DROP_CNT d s + 1) (2 ^ 32 - 1))
      |> tmuDrop TMU.TAIL_DROP_CNT h |> raise 165 0 [p, d.idx]
  else s |> pushFrame d q (len + 20) |> bump TMU.ENQ_CNT 0

def tmuEnqueue (p : Nat) (k : TmuKind) (h : Option Nat) (len : Nat) (m : Option PtpMsg) : State → State :=
  tmuPut p k { handle := h, len := len, ptpMsg := m }

/-- TMU_ENQUEUE. -/
def execTmuEnqueue (p : Fin 32) (k : TmuKind) (h : Word) (len : BitVec 14) (m : Option PtpMsg) (s : State) :
    Host.Outcome State Fault Refusal :=
  onIsland 212 s (tmuEnqueue p k (some h.toNat) len.toNat m)

/-! TMU: transmission (R217, R227, R229, R230). -/

def classQueues (p c : Nat) : List Node := (List.range 9).map fun g => tmuQueue p (c * 9 + g)
def restOf (p c : Nat) (s : State) : Option Rest := Tbl.get none (s.tmuPort p).rest c
def setRest (p c : Nat) (r : Option Rest) (s : State) : State :=
  s.setTmuPort p { s.tmuPort p with rest := Tbl.set none (s.tmuPort p).rest c r }

/-- The queue of class c whose head frame the class would send. -/
def classPick (p c : Nat) (s : State) : Option Node × State :=
  let qs := (classQueues p c).filter fun d => !(s.node d).frames.isEmpty && tokensOk d s
  let s := allOf qs (becomeEligible (tmuClass p c)) s
  (pickChild false qs s, s)

def headLen (d : Node) (s : State) : Nat := match (s.node d).frames with | f :: _ => f.len | [] => 0

/-- A queue of the class may send (R217). -/
def classReady (p c : Nat) (s : State) : Bool := (classQueues p c).any fun q => !(s.node q).frames.isEmpty && tokensOk q s

/-- R217: a node of a port that is no longer eligible gives its tag up. -/
def settlePort (p : Nat) (s : State) : State :=
  s |> allOf ((List.range 72).map (tmuQueue p)) (fun d s =>
      settleChild ((s.node d).elig && !(s.node d).frames.isEmpty && tokensOk d s) d s)
    |> allOf (List.range 8) (fun c s =>
      settleChild ((s.node (tmuClass p c)).elig && classReady p c s && tokensOk (tmuClass p c) s) (tmuClass p c) s)

/-- The classes that may start a frame now, with their queues (R217, R229); a class held by its gate is counted once for
the closing (R229). -/
def readyClasses (p : Nat) (s : State) : List (Node × Node) × State :=
  (List.range 8).foldl (fun (acc : List (Node × Node) × State) c =>
    let (d, s) := classPick p c acc.2
    match d with
    | none => (acc.1, s)
    | some d =>
      let x := s.tmuPort p
      if !tokensOk (tmuClass p c) s || (restOf p c s).isSome then (acc.1, s)
      else if startBytes p c (headLen d s) false s = none then
        let s := settleChild false (tmuClass p c) s
        if x.holdSeen.contains c then (acc.1, s)
        else (acc.1, bump TMU.GATE_HOLD_CNT 0 (s.setTmuPort p { x with holdSeen := x.holdSeen ++ [c] }))
      else (acc.1 ++ [(tmuClass p c, d)], becomeEligible (tmuPortNode p) (tmuClass p c) s)) ([], s)

/-- A transmission of n of a frame's bytes starts. -/
def startTx (p c : Nat) (r : Rest) (n : Nat) (cont : Bool) (s : State) : State :=
  s.setTmuPort p { s.tmuPort p with cur := some {
    cls := c, handle := r.handle, len := n, after := r.len - n, start := s.clk
    stop := s.clk + (byteTime p (n + txExtra (!cont && n == r.len)) s + 999) / 1000, cont := cont, ct := r.ct, pre := preemptable p c s
    content := r.content, iv := r.iv, stomp := r.stomp } }

/-- What is left of a frame in transmission after a cut that leaves n bytes. -/
def TxNow.left (x : TxNow) (n : Nat) : Rest :=
  { handle := x.handle, len := n, ct := x.ct, content := x.content, iv := x.iv, stomp := x.stomp }

/-- A timestamp at a port's pins: PTP time with the port's trim, 1/16 ns, in 2^−16 ns (R277). -/
def portStamp (trim : Int) (s : State) : Nat := ((s.ptp * 65536 + s.ptpFrac : Nat) + trim * 4096).toNat

/-- The transmit timestamp of port p now (R277). -/
def txStamp (p : Nat) (s : State) : Nat := portStamp (signed 16 (rd NET.LAT_CFG_TX_TRIM p s)) s

/-- The receive timestamp of a frame that arrives now; none is taken with TS_EN = 0 (R277, R283). -/
def rxStampNow (n : Nat) (s : State) : Nat :=
  if on NET.PTP_CFG_TS_EN n s then portStamp (signed 16 (rd NET.LAT_CFG_RX_TRIM n s)) s else 0

/-- The four words of a timestamp (R283). -/
def stampWords (type seq t : Nat) : List Nat :=
  let ns := t / 65536
  let sec := ns / 1000000000
  [type * 2 ^ 16 + seq, sec % 2 ^ 32, ns % 1000000000, sec / 2 ^ 32 % 2 ^ 16 * 2 ^ 16 + t % 65536]

/-- The TXTS FIFO of a port drops its oldest entry when it is full (R278). -/
def pushTxts (p : Nat) (m : PtpMsg) (s : State) : State :=
  let x := Tbl.get {} s.txts p
  let e := stampWords m.type.toNat m.seq.toNat (txStamp p s)
  if 64 ≤ x.entries.length then
    { s with txts := Tbl.set {} s.txts p { entries := x.entries.drop 1 ++ [e], word := 0 } }
      |> bump NET.TXTS_OVF_CNT p |> raise (96 + p) 18 []
  else { s with txts := Tbl.set {} s.txts p { x with entries := x.entries ++ [e] } }

/-- PTP_TX_TIMESTAMP (R278): the originTimestamp of a one-step message is written at the pin; every other event message goes to
the FIFO. -/
def txTimestamp (p : Nat) (m : Option PtpMsg) (s : State) : State :=
  match m with
  | some m =>
    if !on NET.PTP_CFG_TS_EN p s then s
    else if m.oneStep && on NET.PTP_CFG_ONESTEP_EN p s then
      s.setTmuPort p { s.tmuPort p with cur := (s.tmuPort p).cur.map fun x => { x with origin := some (txStamp p s) } }
    else pushTxts p m s
  | none => s

/-- Bytes v in place of those at i. -/
def bytesPut (b : List Byte) (i : Nat) (v : List Byte) : List Byte :=
  if i + v.length ≤ b.length then b.take i ++ v ++ b.drop (i + v.length) else b

/-- A frame with the originTimestamp t (2^−16 ns) in its PTP message, which starts at the EtherType's payload, or behind IPv4 and
UDP, whose checksum becomes 0 (R278). -/
def oneStepBytes (t : Nat) (b : List Byte) : List Byte :=
  let o := if isTpid (bytesAt b 12 2) then (if isTpid (bytesAt b 16 2) then 22 else 18) else 14
  let ts := bytesOf 6 (t / 65536 / 1000000000) ++ bytesOf 4 (t / 65536 % 1000000000)
  let udp := o + byteAt b o % 16 * 4
  if bytesAt b (o - 2) 2 = 0x0800 then bytesPut (bytesPut b (udp + 6) [0, 0]) (udp + 8 + 34) ts else bytesPut b (o + 34) ts

/-- The bytes of a frame as they left the port. -/
def TxNow.sent (x : TxNow) (b : List Byte) : List Byte := match x.origin with | some t => oneStepBytes t b | none => b

/-- The end of a whole frame with an FCS, right or stomped (R222, R251). -/
def txEnd (p : Nat) (stomp : Bool) (s : State) : State :=
  s.setTmuPort p { s.tmuPort p with stomped := stomp } |> bump TMU.TX_CNT 0 |> bump NET.TX_FRAME_CNT p

/-- A whole frame has been sent: its bytes may be captured, and its reference is freed; a read that returned an error response
stomps its end (R222). -/
def sentWhole (p : Nat) (x : TxNow) (ecc : Option (Nat × Bool)) (s : State) : State :=
  match x.handle with
  | none => s |> onlyIf (x.content ≠ []) (captureAt { point := 1, place := p, port := 0, bytes := x.sent x.content, len := x.len }) |> txEnd p x.stomp
  | some h =>
    match readStored 14 h ecc s with
    | (some b, s) => s |> captureAt { point := 1, place := p, port := 0, bytes := x.sent b, len := x.len } |> freeHandle 14 h |> txEnd p x.stomp
    | (none, s) => s |> freeHandle 14 h |> bump TMU.CFG_RDERR_CNT_RDERR_CNT 0 |> raise 165 6 [] |> txEnd p true

/-- The final byte of a cut-through frame is withheld until its tag check (R251). -/
def txWithheld (x : TxNow) (s : State) : Bool :=
  x.ct && x.after == 0 && (s.cph 1).tagChecks.any fun c => x.iv == some c.iv

/-- A transmission ends: the rest of a cut frame waits for its class; a whole frame is counted. -/
def finishTx (p : Nat) (ecc : Option (Nat × Bool)) (s : State) : State :=
  match (s.tmuPort p).cur with
  | none => s
  | some x =>
    let s := passTo x.stop s
    let s := s.setTmuPort p { s.tmuPort p with cur := none }
    if x.after ≠ 0 then setRest p x.cls (some (x.left x.after)) s else sentWhole p x ecc s

/-- The frame of class c and queue d leaves its queue and starts (R218: charged once, in full); one whose buffer cannot be read
is discarded (R206, R222), and one whose stack retrains waits (R209). -/
def sendFrame (p : Nat) (c d : Node) (ecc : Option (Nat × Bool)) (s : State) : State :=
  match (s.node d).frames with
  | [] => s
  | f :: _ =>
    match holdHeld 14 f.handle s with
    | some s => s
    | none =>
    let l := f.len + 20
    let n := (startBytes p c.idx f.len false s).getD f.len
    let s := s |> commitChild c d l |> commitChild (tmuPortNode p) c l |> popFrame d l
    let s := s |> settleChild (!(s.node d).frames.isEmpty && tokensOk d s) d
      |> settleChild (classReady p c.idx s && tokensOk c s) c
    let r := readHeld 14 f.handle ecc s
    let s := r.2
    if r.1.isNone then s |> tmuDrop TMU.CFG_RDERR_CNT_RDERR_CNT f.handle |> raise 165 6 []
    else s |> startTx p c.idx { handle := f.handle, len := f.len, ct := false, content := f.content, iv := f.iv } n false |> txTimestamp p f.ptpMsg

/-- The remainder of a frame resumes (R230), or goes first at its class's opening (R229). -/
def resumeRest (p : Nat) (s : State) : Option State :=
  (List.range 8).findSome? fun c =>
    match restOf p c s with
    | none => none
    | some r => match startBytes p c r.len true s with
      | none => none
      | some n => some (startTx p c r n true (setRest p c none s))

/-- The selection of R217 among the classes that may start a frame, and its start. -/
def sendPick (p : Nat) (ecc : Option (Nat × Bool)) (l : List (Node × Node)) (s : State) : State :=
  match pickChild true (l.map (·.1)) s with
  | none => s
  | some c => match l.find? fun x => x.1 == c with
    | some x => sendFrame p c x.2 ecc s
    | none => s

/-- The next transmission of an idle port: a remainder that can resume does so when no express frame is eligible (R230);
otherwise the tags decide among all (R217). -/
def nextTx (p : Nat) (ecc : Option (Nat × Bool)) (s : State) : State :=
  let (ready, s) := readyClasses p s
  let express := ready.filter fun x => !preemptable p x.1.idx s
  match resumeRest p s with
  | some t => if express.isEmpty then t else sendPick p ecc express s
  | none => sendPick p ecc ready s

/-- TMU_TX_DECISION (R227): at the end of the frame in transmission the next one is selected and started; `rd` says what ECC found
in the buffer of either (R222). A cut-through frame whose tag check has not completed does not end yet (R251). -/
def txDecision (p : Nat) (rd : TxRead) (s : State) : State :=
  if (s.tmuPort p).cur.any (fun x => txWithheld x s) then s
  else
    let s := finishTx p rd.cur s
    if !isPort p s || !on NET.STS_LINK p s then s else nextTx p rd.next s

def execTmuTxDecision (p : Fin 32) (rd : TxRead) (s : State) : Host.Outcome State Fault Refusal :=
  onIsland 212 s (txDecision p rd)

/-- PREEMPT_CUT (R228, R230): an express frame is ready; the preemptable frame is cut at the first allowed point. -/
def preemptCut (p : Nat) (s : State) : State :=
  match (s.tmuPort p).cur with
  | none => s
  | some x =>
    let (ready, s) := readyClasses p s
    let total := x.len + x.after
    let sent := (s.clk - x.start) * portRate p s / 8 - 8
    let cut := max 1 ((sent + 63) / 64) * 64
    if x.pre && ready.any (fun r => !preemptable p r.1.idx s) && decide (cut + 64 ≤ total) && decide (cut < x.len) then
      let s := passTo (x.start + (byteTime p (cut + 12) s + 999) / 1000) s
      s.setTmuPort p { s.tmuPort p with cur := none } |> setRest p x.cls (some (x.left (total - cut)))
        |> bump TMU.PREEMPT_CNT 0
    else s

def execPreemptCut (p : Fin 32) (s : State) : Host.Outcome State Fault Refusal := onIsland 212 s (preemptCut p)

/-! Gate lists (R228, R231). -/

/-- A class whose gate has opened becomes eligible with a new tag, and may be counted again at its next closing (R229). -/
def gatesMoved (p old : Nat) (s : State) : State :=
  let x := s.tmuPort p
  let now := gateStates p s
  let s := s.setTmuPort p { x with holdSeen := x.holdSeen.filter fun c => !(maskHas now c && !maskHas old c) }
  allOf (List.range 8) (fun c s =>
    let d := tmuClass p c
    if maskHas now c && !maskHas old c then
      let s := settleChild false d s
      if classReady p c s && tokensOk d s then becomeEligible (tmuPortNode p) d s else s
    else s) s

/-- The next entry of the operational list takes effect; before a pending change a cycle that would leave less than CYCLE_EXT is
extended to it (R231). -/
def gateNext (p : Nat) (s : State) : State :=
  let old := gateStates p s
  let x := s.tmuPort p
  let wraps := decide (x.cycleEnd ≤ x.entryEnd)
  if wraps && on TMUPORT.GATE_CTL_PENDING p s && decide (x.changeAt < x.entryEnd + rd TMUPORT.CYCLE_EXT p s) then
    s.setTmuPort p { x with entryEnd := max x.entryEnd x.changeAt, cycleEnd := max x.entryEnd x.changeAt }
  else
    let e := if wraps then 0 else x.entry + 1
    let ce := if wraps then x.cycleEnd + x.cycle else x.cycleEnd
    gatesMoved p old (s.setTmuPort p { x with entry := e, entryEnd := entryStop (operList p s) e x.entryEnd ce, cycleEnd := ce })

/-- GATE_EVENT (R228): the next entry of the operational list at its PTP time. -/
def gateEvent (p : Nat) (s : State) : State :=
  if (s.tmuPort p).listed then s |> passToPtp (s.tmuPort p).entryEnd |> gateNext p else s

def execGateEvent (p : Fin 32) (s : State) : Host.Outcome State Fault Refusal := onIsland 212 s (gateEvent p)

/-- GATE_CHANGE_REQUEST (R231, R234): a write of GATE_CTL with CHANGE = 1; the list and its cycle time are taken as they are
then. -/
def gateChange (p : Nat) (s : State) : State :=
  let bank := 1 - operBank p s
  let short := (List.range (rd TMUPORT.GATE_CTL_ADMIN_LEN p s)).any fun e => decide (gclInterval p bank e s < 8)
  if on TMUPORT.GATE_CTL_PENDING p s || short then
    s |> wr TMUPORT.GATE_CTL_CHANGE p 0 |> wr TMUPORT.GATE_CTL_ERR p 1 |> raise 165 4 []
  else
    let len := rd TMUPORT.GATE_CTL_ADMIN_LEN p s
    s.setTmuPort p { s.tmuPort p with
        changeAt := changeInstant p s, pendLen := len, pendCycle := rd TMUPORT.ADMIN_CYCLE p s
        pendList := (List.range len).map fun e => (gclStates p bank e s, gclInterval p bank e s) }
      |> wr TMUPORT.GATE_CTL_CHANGE p 1 |> wr TMUPORT.GATE_CTL_ERR p 0 |> wr TMUPORT.GATE_CTL_PENDING p 1

/-- A write of GATE_CTL: the fields, then CHANGE. -/
def gateCtlWrite (p w : Nat) (s : State) : State :=
  let old := gateStates p s
  let busy := rd TMUPORT.GATE_CTL_CHANGE p s
  let s := s |> writeWord .tmuPort p 0 2 (regOffset .tmu 0 2) w |> wr TMUPORT.GATE_CTL_CHANGE p busy |> gatesMoved p old
  if w / 2 ^ 31 % 2 = 1 then gateChange p s else s

def execGateChangeRequest (p : Fin 32) (w : Word) (s : State) : Host.Outcome State Fault Refusal :=
  onIsland 212 s (gateCtlWrite p w.toNat)

/-- The entries of a pending list stand in the bank that becomes operational as they were at CHANGE (R234). -/
def restoreList (p bank : Nat) (s : State) : State :=
  let l := (s.tmuPort p).pendList
  allOf (List.range l.length) (fun e s =>
    s |> wrx GCL.STATES (p * 2 + bank) e (l.getD e (0, 0)).1 |> wrx GCL.INTERVAL (p * 2 + bank) e (l.getD e (0, 0)).2) s

/-- GATE_LIST_CHANGE (R231): the admin bank becomes operational at the change instant. -/
def gateListChange (p : Nat) (s : State) : State :=
  if !on TMUPORT.GATE_CTL_PENDING p s then s
  else
    let old := gateStates p s
    let s := passToPtp (s.tmuPort p).changeAt s
    let bank := 1 - operBank p s
    let g := pendingList p s
    let t := (s.tmuPort p).changeAt
    let s := s |> restoreList p bank |> wr TMUPORT.OPER_STS_OPER_BANK p bank |> wr TMUPORT.OPER_STS_OPER_LEN p g.len
      |> wr TMUPORT.GATE_CTL_PENDING p 0 |> wr TMUPORT.GATE_CTL_CHANGE p 0
    let s := s.setTmuPort p { s.tmuPort p with
      listed := true, operLen := g.len, cycle := g.cycle, entry := 0, cycleEnd := t + g.cycle
      entryEnd := entryStop g 0 t (t + g.cycle) }
    s |> gatesMoved p old |> bump TMU.CFG_RDERR_CNT_CFG_CHANGE_CNT 0 |> raise 165 3 []

def execGateListChange (p : Fin 32) (s : State) : Host.Outcome State Fault Refusal := onIsland 212 s (gateListChange p)

/-- The entry of a port's list whose interval contains the present time, its end, and the end of its cycle. -/
def entryNow (p : Nat) (s : State) : Nat × Nat × Nat :=
  let x := s.tmuPort p
  let start := x.cycleEnd - x.cycle
  let off := if start ≤ s.ptp then (s.ptp - start) % x.cycle else (x.cycle - (start - s.ptp) % x.cycle) % x.cycle
  let c0 := s.ptp - off
  let g := operList p s
  let (e, stop) := (List.range (x.operLen - 1)).foldl (fun (a : Nat × Nat) i =>
    if a.1 = i ∧ a.2 ≤ s.ptp then (i + 1, entryStop g (i + 1) a.2 (c0 + x.cycle)) else a)
    (0, entryStop g 0 c0 (c0 + x.cycle))
  (e, stop, c0 + x.cycle)

/-- A list continues from the entry that contains the present time. -/
def gateJump (p : Nat) (s : State) : State :=
  let (e, stop, ce) := entryNow p s
  gatesMoved p (gateStates p s) (s.setTmuPort p { s.tmuPort p with entry := e, entryEnd := stop, cycleEnd := ce })

/-- The events of a list that a forward step passed, in list order: whole cycles of it leave the gates as they were, so those of
the last cycle and of what the step passed of the next are applied. -/
def gatePass (p : Nat) (s : State) : State :=
  let x := s.tmuPort p
  let k := (s.ptp - x.entryEnd) / max 1 x.cycle - 1
  let s := s.setTmuPort p { x with entryEnd := x.entryEnd + k * x.cycle, cycleEnd := x.cycleEnd + k * x.cycle }
  allOf (List.range 513) (fun _ s => if (s.tmuPort p).entryEnd ≤ s.ptp then gateNext p s else s) s

/-- R273: after a step a list continues from the entry whose interval contains the new time; a forward step applies the
events passed in list order. -/
def gateStep (s : State) : State :=
  allOf ((List.range 32).filter fun p => (s.tmuPort p).listed) (fun p s =>
    if (s.tmuPort p).entryEnd ≤ s.ptp then gatePass p s else gateJump p s) s

/-! Cut-through and link down (R231, R232). -/

/-- R232: TMU takes a cut-through offer. -/
def ctTaken (p : Nat) (g c : Fin 8) (len : Nat) (s : State) : Bool :=
  let empty := (classQueues p c).all fun q => (s.node q).frames.isEmpty
  isPort p s && on NET.STS_LINK p s && !roleStandby s && on TMUPORT.PORT_CFG_CT_EN p s && empty && (restOf p c s).isNone &&
    tokensOk (tmuQueue p (c * 9 + g)) s && tokensOk (tmuClass p c) s && (s.tmuPort p).cur.isNone &&
    decide (startBytes p c len false s = some len)

/-- A frame starts cut-through, charged like a stored one. -/
def ctSend (p : Nat) (g c : Fin 8) (len : Nat) (iv : Option Nat) (bytes : List Byte) (s : State) : State :=
  let d := tmuQueue p (c * 9 + g)
  let k := tmuClass p c
  s |> becomeEligible k d |> becomeEligible (tmuPortNode p) k |> commitChild k d (len + 20)
    |> commitChild (tmuPortNode p) k (len + 20) |> settleChild false d |> settleChild false k
    |> bump TMU.CT_CNT 0 |> startTx p c { handle := none, len := len, ct := true, content := bytes, iv := iv } len false

/-- A stored upstream SDU enters its queue, or waits for its tag check first (R252). -/
def storeSdu (p : Nat) (g c : Fin 8) (iv : Option Nat) (q : QFrame) (s : State) : State :=
  match iv with
  | some iv =>
    if (s.cph 1).tagChecks.any fun t => t.iv == iv then
      { s with queues := { s.queues with ctHeld := s.queues.ctHeld ++ [{ iv := iv, port := p, group := g, cls := c, frame := q }] } }
    else tmuPut p (.upstream g c) q s
  | none => tmuPut p (.upstream g c) q s

/-- CUT_THROUGH_OFFER (R232): the pipeline offers an upstream frame whose bytes are still arriving; `h` is the buffer it
is stored in otherwise. -/
def cutThroughOffer (p : Nat) (g c : Fin 8) (h len : Nat) (s : State) : State :=
  if ctTaken p g c len s then ctSend p g c len none [] s
  else s |> bump TMU.CT_STORE_CNT 0 |> tmuEnqueue p (.upstream g c) (some h) len none

def execCutThroughOffer (p : Fin 32) (g c : Fin 8) (h : Word) (len : BitVec 14) (s : State) :
    Host.Outcome State Fault Refusal :=
  onIsland 212 s (cutThroughOffer p g c h.toNat len.toNat)

/-- The end of a transmission of the SDU with this IV is stomped (R251). -/
def stompTx (iv : Nat) (x : TmuPort) : TmuPort :=
  { x with
    cur := x.cur.map fun t => if t.ct && t.iv == some iv then { t with stomp := true } else t
    rest := x.rest.map fun e => (e.1, e.2.map fun r => if r.ct && r.iv == some iv then { r with stomp := true } else r) }

def stompSdu (iv : Nat) (s : State) : State :=
  { s with queues := { s.queues with ports := s.queues.ports.map fun e => (e.1, stompTx iv e.2) } }

/-- The SDU with this IV leaves a port cut-through, or waits for its rest to. -/
def leavesCt (iv : Nat) (s : State) : Bool :=
  s.queues.ports.any fun e => e.2.cur.any (fun t => t.ct && t.iv == some iv) ||
    e.2.rest.any fun r => r.2.any fun t => t.ct && t.iv == some iv

/-- An upstream frame that waits for its second slot (R179), if the entry waits for one. -/
def Second.up (x : Second) : Option UpFrame := match x.frame with | .inl _ => none | .inr u => some u

/-- A stored SDU is discarded where it waits: before classification, for its second slot, for its tag check (R252). -/
def dropSdu (iv : Nat) (s : State) : State :=
  let gone := s.upSdus.filter fun u => u.iv == iv
  let held := s.queues.ctHeld.filter fun h => h.iv == iv
  let slots := s.cls.flatMap fun e => e.2.seconds.filterMap fun x => x.up.filter fun u => u.iv == iv
  { s with
    upSdus := s.upSdus.filter fun u => u.iv != iv
    cls := s.cls.map fun e => (e.1, { e.2 with seconds := e.2.seconds.filter fun x => !x.up.any fun u => u.iv == iv })
    queues := { s.queues with ctHeld := s.queues.ctHeld.filter fun h => h.iv != iv } }
    |> allOf gone (fun u => freeSdu u.tree u.handle) |> allOf slots (fun u => freeSdu u.tree u.handle)
    |> allOf held (fun h => freeRef 14 h.frame.handle)

/-- The stored SDUs whose check has passed enter their queues. -/
def passSdu (iv : Nat) (s : State) : State :=
  let held := s.queues.ctHeld.filter fun h => h.iv == iv
  { s with queues := { s.queues with ctHeld := s.queues.ctHeld.filter fun h => h.iv != iv } }
    |> allOf held (fun h => tmuPut h.port (.upstream h.group h.cls) h.frame)

/-- CT_TAG_CHECK (R251, R252): the oldest tag check of an SDU offered cut-through completes with what the cipher found. A failed
one stomps the end of a frame that leaves cut-through; a stored one is discarded, or enters its queue where it passed. -/
def ctTagCheck (s : State) : State :=
  let x := s.cph 1
  match x.tagChecks with
  | [] => s
  | t :: rest =>
    let ct := leavesCt t.iv s
    let s := s.setCph 1 { x with tagChecks := rest } |> tagVerdict t.flow t.slot t.iv t.len (b2n ct) t.ok
    if t.ok then passSdu t.iv s
    else if ct then s |> stompSdu t.iv |> bump CPH.CT_STOMP_CNT 1 |> raise 170 1 [t.flow]
    else dropSdu t.iv s

def execCtTagCheck (_ok : Bool) (s : State) : Host.Outcome State Fault Refusal := onIsland 219 s ctTagCheck

/-- R231: a port whose link goes down has its queues, what is in transmission and what waits of a cut frame, drained. -/
def tmuLinkDown (p : Nat) (s : State) : State :=
  if !s.up 212 then s
  else
    let x := s.tmuPort p
    let held := x.cur.toList.map (·.handle) ++ (List.range 8).flatMap fun c => (restOf p c s).toList.map (·.handle)
    let s := s.setTmuPort p { x with cur := none, rest := [], holdSeen := [] }
    s |> allOf ((List.range 72).map (tmuQueue p)) (drainQueue 14 TMU.DOWN_DROP_CNT)
      |> allOf held (tmuDrop TMU.DOWN_DROP_CNT) |> settlePort p |> raise 165 2 []

/-! Node words (R234, R236). -/

/-- The node a manager's NODE_IDX names: manager 0 TMD, 1 TMU. -/
def namedNode (m : Nat) (s : State) : Node :=
  if m = 0 then tmdNode (rd TMD.NODE_IDX_LEVEL 0 s) (rd TMD.NODE_IDX_TREE 0 s) (rd TMD.NODE_IDX_INDEX 0 s)
  else if rd TMU.NODE_IDX_LEVEL 0 s = 0 then tmuQueue (rd TMU.NODE_IDX_PORT 0 s) (rd TMU.NODE_IDX_INDEX 0 s)
  else tmuClass (rd TMU.NODE_IDX_PORT 0 s) (rd TMU.NODE_IDX_INDEX 0 s)

def isClassNode (d : Node) : Bool := (decide (128 ≤ d.inst ∧ d.inst < 192)) || decide (352 ≤ d.inst)
/-- The index exists at its level (R214, R216). -/
def nodeExists (d : Node) : Bool :=
  if d.inst < 64 then decide (d.idx < 4096) else if d.inst < 128 then decide (d.idx < 64)
  else if d.inst < 192 then decide (d.idx < 4104) else if d.inst < 256 then decide (d.idx < 513)
  else if d.inst < 352 then decide (d.idx < 72) else decide (d.idx < 8)

/-- The bits of word 0 that a level has (R236). -/
def levelWord (d : Node) (w : Nat) : Nat :=
  if d.inst < 64 then w / 2 ^ 31 * 2 ^ 31 + w % 2 ^ 30 / 2 ^ 6 * 2 ^ 6
  else if isClassNode d then (if d.inst < 192 then w / 2 ^ 30 * 2 ^ 30 else w / 2 ^ 29 * 2 ^ 29 + w % 2 ^ 14)
  else w / 2 ^ 31 * 2 ^ 31

/-- The offset of the manager's NODE_DATA. -/
def nodeOfs (m : Nat) : Nat := if m = 0 then regOffset .tmd 0 5 else regOffset .tmu 0 13

/-- R234: a refused node write. -/
def nodeRefuse (m : Nat) (d : Node) (w : Nat) (s : State) : State :=
  if m = 0 then s |> raise 164 5 [d.inst % 64, d.idx] |> setVerdict 6 0 else refuseWrite (nodeOfs m) w s

/-- The queues at or below a node (R234: VALID 1 to 0 drains at once). -/
def nodeQueues (d : Node) (s : State) : List Node :=
  if d.inst < 128 ∨ (320 ≤ d.inst ∧ d.inst < 352) then [d]
  else if d.inst < 192 then (busyQueues (d.inst - 128) s).filter fun q => headClass q s == d.idx
  else if d.inst < 256 then (busyQueues (d.inst - 192) s).filter fun q => headClass q s / 8 == d.idx
  else classQueues (d.inst - 352) d.idx

/-- Word 1 commits words 0 and 1, or the write is refused (R230, R234, R236). -/
def nodeCommit (m : Nat) (d : Node) (w1 : Nat) (s : State) : State :=
  let w0 := Tbl.get 0 s.queues.stage m
  let p := d.inst - 352
  let crl := decide (352 ≤ d.inst) && w0 / 2 ^ 29 % 2 == 1 &&
    (d.idx == rd TMUPORT.PORT_CFG_CRL_CLASS p s || d.idx == rd TMUPORT.PORT_CFG_SYS_CLASS p s)
  let badMax := decide (352 ≤ d.inst) && decide (w0 % 2 ^ 14 < 64)
  if !nodeExists d || decide (w1 % 65536 = 0) || (w0 / 2 ^ 30 % 2 == 1 && !isClassNode d) then nodeRefuse m d w1 s
  else if crl then s |> raise 165 5 [] |> setVerdict 6 0
  else
    let s := if nrd NODE.VALID d s = 1 ∧ w0 / 2 ^ 31 % 2 = 0 then
      s |> allOf (nodeQueues d s) (if m = 0 then drainTmd (d.inst % 64) TMD.TAIL_DROP_CNT else drainQueue 14 TMU.TAIL_DROP_CNT)
        |> (if m = 0 then settleTree (d.inst % 64) else settlePort (d.inst % 32)) else s
    let w := levelWord d w0
    s |> wrWord .node d.inst d.idx 0 (if 352 ≤ d.inst then w / 2 ^ 14 * 2 ^ 14 else w)
      |> wrWord .node d.inst d.idx 1 (w1 % 65536)
      |> onlyIf (352 ≤ d.inst ∧ badMax = false) (wrx NODEC.MAXLEN p d.idx (w0 % 2 ^ 14))
      |> onlyIf (badMax = true) (encReject (nodeOfs m) w0)

/-- R220: refill at the old rate, the new value, then the clip. -/
def shaperWrite (m : Nat) (d : Node) (word w : Nat) (s : State) : State :=
  if !nodeExists d || (word == 3 && decide (w % 2 ^ 24 < 64)) then nodeRefuse m d w s
  else s |> refill d |> wrWord .node d.inst d.idx word (if word = 2 then w else w % 2 ^ 24) |> refill d

/-- An access to NODE_DATA advances WORD, then INDEX (R235). -/
def nodeAdvance (m : Nat) (s : State) : State :=
  if m = 0 then advanceWord TMD.NODE_IDX_AUTO_INC TMD.NODE_IDX_WORD TMD.NODE_IDX_INDEX 0 0 8 8192 s
  else advanceWord TMU.NODE_IDX_AUTO_INC TMU.NODE_IDX_WORD TMU.NODE_IDX_INDEX 0 0 8 (if rd TMU.NODE_IDX_LEVEL 0 s = 0 then 72 else 8) s

/-- A write of NODE_DATA. -/
def nodeDataWrite (m w : Nat) (s : State) : State :=
  let d := namedNode m s
  let word := if m = 0 then rd TMD.NODE_IDX_WORD 0 s else rd TMU.NODE_IDX_WORD 0 s
  let s :=
    if word = 0 then { s with queues := { s.queues with stage := Tbl.set 0 s.queues.stage m w } }
    else if word = 1 then nodeCommit m d w s
    else if word = 2 ∨ word = 3 then shaperWrite m d word w s
    else if word = 5 ∧ (d.inst < 128 ∨ (320 ≤ d.inst ∧ d.inst < 352)) then nwr NODE.QLIM d w s
    else s
  nodeAdvance m s

/-- NODE_WRITE (R236). -/
def execNodeWrite (m : Fin 2) (w : Word) (s : State) : Host.Outcome State Fault Refusal :=
  onIsland (211 + m) s (nodeDataWrite m w.toNat)

/-- SHAPER_WRITE (R220): a write of word 2 or 3 of a node. -/
def execShaperWrite (m : Fin 2) (w : Word) (s : State) : Host.Outcome State Fault Refusal :=
  onIsland (211 + m) s (nodeDataWrite m w.toNat)

/-- A read of NODE_DATA: TOKENS in signed bytes; words 5 and 6 read 0 at levels other than queue; DROP_CNT clears. -/
def nodeDataRead (m : Nat) (s : State) : State :=
  let d := namedNode m s
  let word := if m = 0 then rd TMD.NODE_IDX_WORD 0 s else rd TMU.NODE_IDX_WORD 0 s
  let queue := decide (d.inst < 128 ∨ (320 ≤ d.inst ∧ d.inst < 352))
  let v := if word = 4 then unsigned 32 ((tokensNow d s).1 / 1024)
    else if (word = 5 ∨ word = 6) ∧ queue = false then 0
    else if word = 0 ∧ 352 ≤ d.inst then rdWord .node d.inst d.idx 0 s + rdx NODEC.MAXLEN (d.inst - 352) d.idx s
    else rdWord .node d.inst d.idx word s
  s |> onlyIf (word = 7) (wrWord .node d.inst d.idx 7 0) |> nodeAdvance m |> setRead v

/-- R230: a write of PORT_CFG that names a preemptable class as CRL_CLASS or SYS_CLASS is refused. -/
def tmuPortCfgWrite (p w : Nat) (s : State) : State :=
  let pre := fun c => nrd NODE.NOFRAG (tmuClass p c) s == 1
  if pre (w / 2 ^ 29 % 8) || pre (w / 2 ^ 26 % 8) then s |> raise 165 5 [] |> setVerdict 6 0
  else writeWord .tmuPort p 0 1 (regOffset .tmu 0 1) w s

/-- A write of GCL_DATA: the bank OPER_STS names is refused (R231). -/
def gclWrite (w : Nat) (s : State) : State :=
  let p := rd TMU.PORT_SEL_PORT 0 s
  let bank := rd TMU.GCL_IDX_BANK 0 s
  let s := if bank = operBank p s then refuseWrite (regOffset .tmu 0 11) w s
    else writeWord .gcl (p * 2 + bank) (rd TMU.GCL_IDX_ENTRY 0 s) (rd TMU.GCL_IDX_WORD 0 s) (regOffset .tmu 0 11) w s
  advanceWord TMU.GCL_IDX_AUTO_INC TMU.GCL_IDX_WORD TMU.GCL_IDX_ENTRY 0 0 2 256 s

/-- SHAPER_RECOVERY (R219, R217): the tokens of a node climb back to 0 and it takes a new start tag. Manager 0: levels
queue, multicast queue, class, terminal of tree t; manager 1: levels queue, class of port t. -/
def shaperRecovery (d parent : Node) (backlog : Bool) (s : State) : State :=
  let (tok, rem) := tokensNow d s
  let rate := nrd NODE.RATE d s * 16
  let wait := if tok < 0 ∧ rate ≠ 0 then ((-tok).toNat * 125000 - rem + rate - 1) / rate else 0
  let s := refill d (passTo (s.clk + wait) s)
  if backlog && tokensOk d s then becomeEligible parent d s else s

def execShaperRecovery (m : Fin 2) (level : Fin 4) (t : Fin 48) (idx : BitVec 13) (s : State) :
    Host.Outcome State Fault Refusal :=
  onIsland (211 + m) s fun s =>
    let i := idx.toNat
    if m = 0 then
      let d := tmdNode level t i
      if level.val < 2 then
        shaperRecovery d (tmdNode 2 t (headClass d s)) (!(s.node d).frames.isEmpty && !(s.node d).held && !(s.node d).cut) s
      else if level = 2 then shaperRecovery d (tmdNode 3 t (i / 8)) (classBacklog t i s) s
      else shaperRecovery d (tmdNode 4 t 0) (termBacklog t i s) s
    else if level = 0 then
      let d := tmuQueue t i
      shaperRecovery d (tmuClass t (i / 9)) (!(s.node d).frames.isEmpty) s
    else
      shaperRecovery (tmuClass t i) (tmuPortNode t) (classReady t i s) s

end Sys2Proof.Machine
end

