-- ==== Sys2Proof/Machine/Crl.lean ====
section
/-!
DEFINITION. Constant-rate lanes and overhead ports (07_constant_rate_lanes.md, R152 to R171): bindings, justification,
demapping, slips, labels, degraded signal, the overhead ports and the IEEE 1914.3 hand-off.
-/

namespace Sys2Proof.Machine

/-- A lane: its direction (0 downstream), tree and number. -/
structure LaneId where
  dir : Nat
  n : Nat
  l : Nat

def LaneId.inst (x : LaneId) : Nat := x.dir * 48 + x.n
def LaneId.no (x : LaneId) : Nat := x.inst * 16 + x.l
def State.crLane (s : State) (x : LaneId) : CrLane := Tbl.get {} s.crl x.no
def State.setCrLane (s : State) (x : LaneId) (v : CrLane) : State := { s with crl := Tbl.set {} s.crl x.no v }
def lrd (f : Fld) (x : LaneId) (s : State) : Nat := rdx f x.inst x.l s
def lwr (f : Fld) (x : LaneId) (v : Nat) (s : State) : State := wrx f x.inst x.l v s
def lbump (f : Fld) (x : LaneId) (s : State) : State := bumpx f x.inst x.l s

/-- A cause of the lane, with the tree, the direction and the lane captured (R171). -/
def laneCause (x : LaneId) (bit : Nat) : State → State := raise (171 + x.n / 6) bit [x.n, x.dir, x.l]

/-- FIFO fill, bytes. -/
def CrLane.fill (v : CrLane) : Nat := v.fifo.length

def laneBound (x : LaneId) (s : State) : Bool := lrd LANE.BOUND x s == 1
/-- NOM in 1/65,536 byte per frame. -/
def laneNom (x : LaneId) (s : State) : Nat := lrd LANE.CN_NOM x s * 65536 + lrd LANE.CN_FRAC x s
/-- R155: the largest and the smallest Cn. -/
def cnMax (x : LaneId) (s : State) : Nat := laneNom x s * (1000000 + lrd LANE.PPM x s) / 65536000000 + 2
def cnMin (x : LaneId) (s : State) : Nat := max 1 (laneNom x s * (1000000 - lrd LANE.PPM x s) / 65536000000 - 2)
/-- The bytes of a container beside its payload: header, and the tag of a sealed or tag-only lane (R153). -/
def containerOver (x : LaneId) (s : State) : Nat := 16 + (if 2 ≤ lrd LANE.CIPHER x s then 16 else 0)
/-! Bindings (R152, R155, R156). -/

/-- The bound lanes of a direction. -/
def boundLanes (dir : Nat) (s : State) : List LaneId :=
  (s.mem.filter fun e => e.1.sp == .lane && e.1.word == 0 && e.1.inst / 48 == dir && bitsOf e.2 31 31 == 1).map
    fun e => ⟨dir, e.1.inst % 48, e.1.idx⟩

/-- R17: the client rate a terminal's rate allows, bytes per frame. -/
def rateLimit (x : LaneId) (s : State) : Nat :=
  if x.dir = 0 then 625000 else 625000 / 2 ^ (rdx ACTT.RATE x.n (lrd LANE.TERM x s) s)

/-- A flow's share of its port's rate, in 1/65,536 kbit/s (R155), as numerator and denominator. -/
def flowRate (x : LaneId) (s : State) : Nat × Nat :=
  (laneNom x s * 64 * (lrd LANE.PKT_LEN x s + 50), max 1 (lrd LANE.PKT_LEN x s))

/-- The sum of two fractions, and of a list of them. -/
def fracAdd (a b : Nat × Nat) : Nat × Nat := (a.1 * b.2 + b.1 * a.2, a.2 * b.2)
def fracSum (l : List (Nat × Nat)) : Nat × Nat := l.foldl fracAdd (0, 1)

/-- The rate of the flows of a port, with lane x among them. -/
def portFlows (x : LaneId) (others : List LaneId) (s : State) : Nat × Nat :=
  fracSum (flowRate x s :: (others.filter fun y => lrd LANE.NPORT y s == lrd LANE.NPORT x s).map fun y => flowRate y s)

def sumOf (l : List LaneId) (f : LaneId → Nat) : Nat := l.foldl (fun a x => a + f x) 0

/-- The words of an upstream lane's fixed cell (R156). -/
def laneCell (x : LaneId) (s : State) : Nat × Nat × Nat :=
  (2 ^ 31 + 2 ^ 30 + lrd LANE.PROFILE x s * 2 ^ 23 + lrd LANE.TERM x s * 2 ^ 14 + lrd LANE.ALLOC_ID x s,
   lrd LANE.STARTTIME x s * 2 ^ 15, lrd LANE.GRANT x s)

/-- R155: ERRCODE 2 to 8 of a bind request, 0 where none applies. -/
def bindError (x : LaneId) (s : State) : Nat :=
  let others := boundLanes x.dir s
  let p := lrd LANE.NPORT x s
  let pkt := lrd LANE.PKT_LEN x s
  let ppm := lrd LANE.PPM x s
  let nom := laneNom x s
  let up := x.dir == 1
  if lrd LANE.CN_NOM x s = 0 ∨ ppm = 0 ∨ 1000 < ppm ∨ (up = true ∧ lrd LANE.STARTTIME x s % 2 = 1) ∨ pkt < 256 ∨ 8192 < pkt ∨
      pkt % 4 ≠ 0 ∨ isPort p s = false then 2
  else if rateLimit x s * 65536 < nom then 3
  else if 625000 * 65536 < sumOf (others.filter fun y => y.n == x.n) (fun y => laneNom y s) + nom then 4
  else if lrd LANE.PRIV x s = 1 ∧ 16 ≤ rd CRL.STS_PRIV_CNT 0 s then 5
  else if portRate p s * 900000 * 65536 * (portFlows x others s).2 < (portFlows x others s).1 then 6
  else if up && (match ctxOfAlloc x.n (lrd LANE.ALLOC_ID x s) s with
      | some c => rdx CTX.TERM x.n c s != lrd LANE.TERM x s
      | none => true) then 7
  else if up && decide (lrd LANE.GRANT x s * 4 < containerBytes (containerOver x s + cnMax x s)) then 8
  else 0

/-- BIND as the last request left it (R155). -/
def bindDone (op : Nat) (x : LaneId) (err : Nat) (s : State) : State :=
  s |> wr CRL.BIND_OP 0 op |> wr CRL.BIND_DIR 0 x.dir |> wr CRL.BIND_TREE 0 x.n |> wr CRL.BIND_LANE 0 x.l
    |> wr CRL.BIND_GO 0 0 |> wr CRL.BIND_ERR 0 (b2n (err != 0)) |> wr CRL.BIND_ERRCODE 0 err

def bindRefuse (op : Nat) (x : LaneId) (err : Nat) (s : State) : State :=
  s |> bindDone op x err |> laneCause x 0 |> setVerdict 6 err

def countBound (x : LaneId) (up : Bool) (s : State) : State :=
  let step := fun (f : Fld) (s : State) => wr f 0 (if up then rd f 0 s + 1 else rd f 0 s - 1) s
  s |> onlyIf (x.dir = 0) (step CRL.STS_BOUND_DN) |> onlyIf (x.dir ≠ 0) (step CRL.STS_BOUND_US) |> onlyIf (lrd LANE.PRIV x s = 1) (step CRL.STS_PRIV_CNT)

/-- R102, R168: the lane's CELL is free for it: no fixed cell stands there, or one of FOWN 0b10 that is no other bound lane's. -/
def cellFree (x : LaneId) (s : State) : Bool :=
  match fixedOwner x.n (lrd LANE.CELL x s) s with
  | none => true
  | some o => o == 2 && !(boundLanes 1 s).any fun y => y.n == x.n && y.l != x.l && lrd LANE.CELL y s == lrd LANE.CELL x s

/-- An upstream lane's fixed cell is placed (R104, R156); a cell that another owner holds is refused the same way (log entry
109). -/
def placeLane (x : LaneId) (s : State) : Bool × State :=
  let (w0, w1, w2) := laneCell x s
  if !s.up (clusterIsland (treeCluster x.n)) then (false, wrapperAnswer (clusterIsland (treeCluster x.n)) s)
  else if cellFree x s then placeFixed x.n (lrd LANE.CELL x s) w0 w1 w2 2 5 s
  else (false, s)

/-- R117: once island 175 + k runs again, the cells of its trees' bound lanes are placed anew. -/
def replaceCells (k : Nat) (s : State) : State :=
  if s.up 220 ∧ s.up (clusterIsland k) then
    allOf ((boundLanes 1 s).filter fun x => treeCluster x.n == k) (fun x s => (placeLane x s).2) s
  else s

/-- CRL_BIND (R155, R156). -/
def crlBind (x : LaneId) (s : State) : State :=
  if laneBound x s then bindRefuse 0 x 1 s
  else
    let e := bindError x s
    if e ≠ 0 then bindRefuse 0 x e s
    else
      let (placed, s) := if x.dir = 0 then (true, s) else placeLane x s
      if !placed then bindRefuse 0 x 9 s
      else s.setCrLane x {} |> lwr LANE.BOUND x 1 |> wrWord .lane x.inst x.l 8 (2 ^ 30) |> countBound x true |> bindDone 0 x 0

def execCrlBind (dir : Fin 2) (n : Fin 48) (l : Fin 16) (s : State) : Host.Outcome State Fault Refusal :=
  onIsland 220 s (crlBind ⟨dir, n, l⟩)

/-- CRL_UNBIND (R155, R156): the fixed cell is removed by a write with VALID = 0. -/
def crlUnbind (x : LaneId) (s : State) : State :=
  if !laneBound x s then bindRefuse 1 x 1 s
  else
    let s := if x.dir = 0 then s
      else if s.up (clusterIsland (treeCluster x.n)) then (placeFixed x.n (lrd LANE.CELL x s) 0 0 0 2 5 s).2
      else wrapperAnswer (clusterIsland (treeCluster x.n)) s
    (countBound x false s).setCrLane x {} |> lwr LANE.BOUND x 0 |> lwr LANE.STATE x 0 |> lwr LANE.DEG x 0 |> bindDone 1 x 0

def execCrlUnbind (dir : Fin 2) (n : Fin 48) (l : Fin 16) (s : State) : Host.Outcome State Fault Refusal :=
  onIsland 220 s (crlUnbind ⟨dir, n, l⟩)

/-! Degraded signal (R163, with the window rules of R67). -/

/-- A closed window is judged; DEG follows the runs at once. -/
def laneDegJudge (x : LaneId) (s : State) : State :=
  let v := s.crLane x
  let m := lrd LANE.THR_MANT x s
  let e := lrd LANE.THR_EXP x s
  let above := v.degBad || (v.degBits != 0 && decide (m * v.degBits ≤ v.degErrs * 10 ^ e))
  let below := decide (v.degErrs * 10 ^ (e + 1) < m * v.degBits) && decide (10 ^ e ≤ v.degBits * m)
  let v := { v with degOpen := false, degBits := 0, degErrs := 0, degBad := false }
  if above then
    let v := { v with declRun := v.declRun + 1, clrRun := 0 }
    s.setCrLane x v |> onlyIf (lrd LANE.DEG x s = 0 ∧ lrd LANE.DECL_N x s ≤ v.declRun) (fun s => s |> lwr LANE.DEG x 1 |> laneCause x 7)
  else if below then
    let v := { v with clrRun := v.clrRun + 1, declRun := 0 }
    s.setCrLane x v |> onlyIf (lrd LANE.DEG x s = 1 ∧ lrd LANE.CLR_N x s ≤ v.clrRun) (fun s => s |> lwr LANE.DEG x 0 |> laneCause x 8)
  else s.setCrLane x v

/-- The lane's window has lasted the tree's MAX_WIN (R67, R163). -/
def laneWinOver (x : LaneId) (s : State) : Bool :=
  (s.crLane x).degOpen && decide ((s.crLane x).degStart + rd TFR.DEG_CFG_MAX_WIN x.n s * 100000000 ≤ s.clk)

/-- Client bits and errors join the lane's window; it closes at 10 / BER_T bits or at the tree's MAX_WIN, and one that has lasted
so long is judged before it takes any more. -/
def laneDegAdd (x : LaneId) (bits errs : Nat) (bad : Bool) (s : State) : State :=
  let s := onlyIf (laneWinOver x s = true) (laneDegJudge x) s
  let v := s.crLane x
  let s := s.setCrLane x { v with
    degOpen := true, degBits := v.degBits + bits, degErrs := v.degErrs + errs, degBad := v.degBad || bad
    degStart := if v.degOpen then v.degStart else s.clk }
  let v := s.crLane x
  if 10 ^ (lrd LANE.THR_EXP x s + 1) ≤ v.degBits * lrd LANE.THR_MANT x s then laneDegJudge x s else s

/-- The lanes of a tree whose windows have lasted MAX_WIN are judged. -/
def laneWinClose (n : Nat) (s : State) : State :=
  allOf ((boundLanes 0 s ++ boundLanes 1 s).filter fun x => x.n == n && laneWinOver x s) laneDegJudge s

/-- DEG_WINDOW_TIMEOUT (R67, R163): a terminal's window, and those of the tree's lanes, have lasted MAX_WIN. -/
def execDegWindowTimeout (n : Fin 48) (t : BitVec 9) (s : State) : Host.Outcome State Fault Refusal :=
  onIsland (framingIsland n) s fun s => s |> degTimeout n t.toNat |> onlyIf (s.up 220 = true) (laneWinClose n)

/-! Downstream (R157, R158). -/

/-- An arithmetic shift right. -/
def sar (v : Int) (k : Nat) : Int := v / (2 ^ k : Nat)

/-- CRC-6, x^6 + x + 1, over the 26 bits above the field, most significant first, from zero (R153, log entry 109). -/
def jcrc (v : Nat) : Nat :=
  (List.range 26).foldl (fun r i =>
    let top := (r / 32 + v / 2 ^ (25 - i)) % 2
    r % 32 * 2 ^^^ (if top = 1 then 3 else 0)) 0

/-- Word 1 of a container: CN, CND and their JCRC (R153). -/
def jcWord (cn cnd : Nat) : Nat := (cn * 64 + cnd) * 64 + jcrc (cn * 64 + cnd)

/-- XOR of the 16-bit words of a payload, an odd last byte padded with 0x00 (R153). -/
def bip16 : List Byte → Nat
  | a :: b :: l => (a.toNat * 256 + b.toNat) ^^^ bip16 l
  | [a] => a.toNat * 256
  | [] => 0

/-- The 1 bits of a 16-bit word. -/
def ones16 (v : Nat) : Nat := ((List.range 16).filter fun i => v / 2 ^ i % 2 == 1).length

/-- The OH a downstream lane's container carries: the word sampled for it in the overhead period that ended last, 0xFFFF where
its channel was unmapped or disabled (R158, R165). -/
def inOverhead (x : LaneId) (s : State) : Nat :=
  match (List.range 8).findSome? fun p => (Tbl.get {} s.ohp.ports p).ended.find? fun e => e.1 == x.n * 16 + x.l with
  | some e => e.2
  | none => 0xFFFF

/-- The header of a downstream container for frame k (R153, R157, R162). -/
def containerHeader (x : LaneId) (k cn cnd : Nat) (rep : Bool) (s : State) : List Byte :=
  let label := if lrd LANE.PRIV x s = 1 then lrd LANE.LABEL_EXP x s else 0
  beBytes (2 ^ 28 + x.l * 2 ^ 24 + k % 4096 * 2 ^ 12 + b2n rep * 2 ^ 11 + label) ++ beBytes (jcWord cn cnd) ++
    beBytes (jcWord cn cnd) ++ beBytes (inOverhead x s * 2 ^ 16 + ((s.crLane x).bip.getD 0))

/-- The containers of a tree stand in ascending lane order (R154). -/
def insertContainer (c : Container) : List Container → List Container
  | [] => [c]
  | d :: l => if c.lane < d.lane then c :: d :: l else d :: insertContainer c l

/-- R158: a container left out of its frame marks the lane's window too (R163). -/
def leftOut (x : LaneId) (s : State) : State := s |> lbump LANE.DISC_CNT x |> laneCause x 6 |> laneDegAdd x 0 0 true

/-- A container of frame k with its payload goes into the frame after the cipher, whose mode is the lane's; one the cipher drops
is left out (R153, R154, R158, R254, R255). The payload is kept in the slip buffer (R157). -/
def sendContainer (x : LaneId) (pay : List Byte) (cnd : Nat) (rep : Bool) (ofs : Nat) (s : State) : State :=
  let k := (s.fram x.n).frame + 1
  let sdu := containerHeader x k pay.length cnd rep s ++ pay
  let port := lrd LANE.PORT_ID x s
  let treat := dsTreat (laneTreat 0 x.n port (lrd LANE.CIPHER x s) s) s
  let (out, s) := if s.up 218 then cipherDs treat k x.n port sdu.length ofs true sdu s else (none, wrapperAnswer 218 s)
  let s := lwr LANE.CN_LAST x pay.length s
  let s := s.setCrLane x { s.crLane x with seq := k % 4096, slipPay := pay, slipCnd := cnd, bip := some (bip16 pay) }
  match out with
  | none => leftOut x s
  | some out => if s.up (framingIsland x.n) then
    let f := s.fram x.n
    let c : Container := { lane := x.l, port := port, sdu := sdu, len := containerOver x s + pay.length, out := out }
    (s.setFram x.n { f with containers := insertContainer c f.containers }).setCrLane x { s.crLane x with building := some k }
  else wrapperAnswer (framingIsland x.n) s

/-- A slip is counted and raised (R161). -/
def slip (x : LaneId) (drop : Bool) (s : State) : State :=
  if drop then s |> lbump LANE.SLIP_DROP_CNT x |> laneCause x 4 else s |> lbump LANE.SLIP_REP_CNT x |> laneCause x 3

/-- CRL_BUILD (R157): justification at the build instant, once for a frame; `ofs` is the position the framer gives the container
(R244). The bytes sent and the bytes filled count in the lane's window, which a slip marks (R163). -/
def crlBuild (x : LaneId) (ofs : Nat) (s : State) : State :=
  let v := s.crLane x
  if v.building = some ((s.fram x.n).frame + 1) then s
  else
  let f := v.fill
  let ft := lrd LANE.FT x s * 64
  let win := lrd LANE.WIN x s * 64
  let e : Int := (f : Int) - ft
  let est := v.est + sar (e * 65536) (rd CRL.CTL_KI_SH 0 s)
  let rate := (laneNom x s : Int) + est + sar (e * 65536) (rd CRL.CTL_KP_SH 0 s)
  let acc := v.acc + rate
  let cn := (sar acc 16).toNat
  let acc := acc - sar acc 16 * 65536
  let cnd := (sar acc 10).toNat
  let errs := v.filled * 8
  let v := { v with est := est, acc := acc, filled := 0 }
  if lrd LANE.STATE x s = 1 then
    if ft ≤ f then
      s.setCrLane x { v with acc := 0, est := 0 } |> lwr LANE.STATE x 2 |> laneDegAdd x 0 errs false |> sendContainer x [] 0 false ofs
    else s.setCrLane x v |> laneDegAdd x 0 errs false |> sendContainer x [] 0 false ofs
  else if cnMax x s < cn ∨ (win : Int) < e then
    let pay := if f < 2 * cn then [] else (v.fifo.drop cn).take cn
    s.setCrLane x { v with fifo := v.fifo.drop (cn + pay.length) } |> slip x true
      |> laneDegAdd x (pay.length * 8) errs true |> sendContainer x pay cnd false ofs
  else if cn < cnMin x s ∨ f < cn ∨ e < -(win : Int) then
    s.setCrLane x v |> slip x false |> laneDegAdd x (v.slipPay.length * 8) errs true
      |> sendContainer x v.slipPay v.slipCnd true ofs
  else
    s.setCrLane x { v with fifo := v.fifo.drop cn } |> laneDegAdd x (cn * 8) errs false
      |> sendContainer x (v.fifo.take cn) cnd false ofs

def execCrlBuild (n : Fin 48) (l : Fin 16) (ofs : BitVec 20) (s : State) : Host.Outcome State Fault Refusal :=
  onIsland 220 s fun s => if laneBound ⟨0, n, l⟩ s then crlBuild ⟨0, n, l⟩ ofs.toNat s else s

/-- CRL_CONTAINER_DEADLINE (R158): the container of the next frame is not in the framing island by T0 − 2,000 ns. -/
def containerDeadline (x : LaneId) (s : State) : State :=
  let v := s.crLane x
  let f := s.fram x.n
  if v.building = some (f.frame + 1) ∧ f.built = none ∧ (f.containers.any fun c => c.lane == x.l) = true then
    s.setFram x.n { f with containers := f.containers.filter fun c => c.lane != x.l } |> leftOut x
  else s

def execCrlContainerDeadline (n : Fin 48) (l : Fin 16) (s : State) : Host.Outcome State Fault Refusal :=
  onIsland 220 s (containerDeadline ⟨0, n, l⟩)

/-! Upstream (R159 to R162). -/

/-- R160: the recovered rate, at each container accepted or repeated. -/
def recover (x : LaneId) (cn cnd : Nat) (s : State) : State :=
  let v := s.crLane x
  let m : Int := (cn : Int) * 65536 + ((cnd : Int) - v.cnd) * 1024
  s.setCrLane x { v with rate := v.rate + sar (m - v.rate) (rd CRL.CTL_RF_SH 0 s), cnd := cnd }

/-- The PTP times at which packets' first bytes leave the FIFO among the next m bytes of a frame, behind `old` bytes that left
it before: the bytes leave evenly over the frame (R160; DESIGN CHOICE, log entry 122). -/
def firstBytes (old m len t : Nat) : List Nat :=
  (List.range (m / max 1 len + 2)).filterMap fun i =>
    let j := (old + len - 1) / max 1 len * len + i * len
    if j < old + m then some (t + (j - old) * 125000 / m) else none

/-- R160: the bytes that the FIFO's output reads in a frame, once per frame. -/
def readOut (x : LaneId) (s : State) : State :=
  let v := s.crLane x
  let read := v.rate + sar (((v.fill : Int) - (lrd LANE.FT x s * 64 : Nat)) * 65536) (rd CRL.CTL_KP_SH 0 s)
  let paced := v.paced + read
  let m := min v.fill (sar paced 16).toNat
  s.setCrLane x { v with
    paced := paced - (m * 65536 : Nat), fifo := v.fifo.drop m, out := v.out ++ v.fifo.take m
    outPt := v.outPt ++ firstBytes v.out.length m (lrd LANE.PKT_LEN x s) s.ptp }

/-- R161: the slip buffer is written to the FIFO, once a frame. -/
def upRepeat (x : LaneId) (s : State) : State :=
  let v := s.crLane x
  s.setCrLane x { v with fifo := v.fifo ++ v.slipPay, repeated := true } |> recover x v.slipPay.length v.slipCnd
    |> slip x false |> laneDegAdd x 0 0 true

/-- A missing or discarded container (R159, R161). -/
def upFail (x : LaneId) (s : State) : State :=
  let v := s.crLane x
  let s := s.setCrLane x { v with failRun := v.failRun + 1, passRun := 0, repeated := false, bip := none }
  if lrd LANE.STATE x s = 2 then s |> upRepeat x |> readOut x else laneDegAdd x 0 0 true s

def upDiscard (x : LaneId) (s : State) : State := s |> lbump LANE.DISC_CNT x |> laneCause x 6 |> upFail x

/-- R161: the fill is below the window at a container's due time. -/
def lowFill (x : LaneId) (s : State) : State :=
  let v := s.crLane x
  if !v.repeated && decide (v.fill < (lrd LANE.FT x s - lrd LANE.WIN x s) * 64) then upRepeat x s else s

/-- The payload of a container in sync: written to the egress FIFO, or dropped over the window (R160, R161). -/
def upAccept (x : LaneId) (pay : List Byte) (cnd : Nat) (s : State) : State :=
  let v := s.crLane x
  (if (lrd LANE.FT x s + lrd LANE.WIN x s) * 64 < v.fill + pay.length then s |> slip x true |> laneDegAdd x 0 0 true
    else s.setCrLane x { v with fifo := v.fifo ++ pay, slipPay := pay, slipCnd := cnd } |> recover x pay.length cnd)
    |> lowFill x |> readOut x

/-- CN and CND of a copy of word 1 whose JCRC passes (R153). -/
def jcCopy (w : Nat) : Option (Nat × Nat) := if w = jcWord (w / 4096) (w / 64 % 64) then some (w / 4096, w / 64 % 64) else none

/-- R159 check 2: Cn and CND; none where neither copy passes. -/
def jcValue (body : Nat) (a b : Option (Nat × Nat)) : Option (Nat × Nat) :=
  match a, b with
  | some a, some b => if a ≠ b ∧ b.1 = body ∧ a.1 ≠ body then some b else some a
  | some a, none => some a
  | none, b => b

/-- The 1 bits of the difference of the received BIP16 and the one over the payload before; none without a payload before
(R163, log entry 109). -/
def bipErrors (w3 : Nat) (v : CrLane) : Nat :=
  match v.bip with
  | some b => ones16 ((w3 % 2 ^ 16) ^^^ b)
  | none => 0

/-- R165: the first overhead period that starts at least 1.0 µs from now. -/
def ohDue (s : State) : Nat := (s.ptp + 1000 + 124999) / 125000

/-- A label joins the run of equal labels (R162). -/
def noteLabel (lbl : Nat) (v : CrLane) : CrLane :=
  { v with lblLast := lbl, lblRun := if v.lblLast = lbl then v.lblRun + 1 else 1 }

/-- A container that reached the lane, in clear: its four header words and its payload (R153). -/
structure ClearContainer where
  w0 : Nat
  w1 : Nat
  w2 : Nat
  w3 : Nat
  pay : List Byte
  deriving DecidableEq, Repr

/-- The container in the bytes of an SDU in clear. -/
def clearContainer (b : List Byte) : ClearContainer :=
  { w0 := bytesAt b 0 4, w1 := bytesAt b 4 4, w2 := bytesAt b 8 4, w3 := bytesAt b 12 4, pay := b.drop 16 }

/-- The container passed R159: label, overhead, BIP errors, and its payload where the lane is in sync. -/
def containerPass (x : LaneId) (c : ClearContainer) (cnd : Nat) (s : State) : State :=
  let v := s.crLane x
  let cn := c.pay.length
  let s := s.setCrLane x { noteLabel (c.w0 % 256) v with
    passRun := v.passRun + 1, failRun := 0, repeated := false
    bip := some (bip16 c.pay)
    ohRx := (v.ohRx.filter fun o => decide (s.ptp / 125000 ≤ o.2)) ++ [(c.w3 / 2 ^ 16, ohDue s)] }
  let s := s |> lwr LANE.CN_LAST x cn |> laneDegAdd x (cn * 8) (bipErrors c.w3 v) false
  if lrd LANE.STATE x s = 2 then upAccept x c.pay cnd s
  else s.setCrLane x { s.crLane x with cnd := cnd }

/-- A container of CN = 0, sent before the far end is in sync: neither a slip nor an error (R153); its label counts like every
container's (R162, DEDUCED, log entry 122), and the fill is looked at and read as in every frame. -/
def containerEmpty (x : LaneId) (lbl : Nat) (s : State) : State :=
  let s := s.setCrLane x { noteLabel lbl (s.crLane x) with repeated := false, bip := some 0 }
  if lrd LANE.STATE x s = 2 then s |> lowFill x |> readOut x else s

/-- A container against checks 1 to 3 of R159 once it is in clear. -/
def containerCheck (x : LaneId) (c : ClearContainer) (s : State) : State :=
  let body := c.pay.length
  if c.w0 / 2 ^ 28 ≠ 1 ∨ c.w0 / 2 ^ 24 % 16 ≠ x.l then upDiscard x s
  else
    let (cn, cnd, s) := match jcValue body (jcCopy c.w1) (jcCopy c.w2) with
      | some (cn, cnd) => (cn, cnd, s)
      | none => (body, (s.crLane x).cnd, s |> lbump LANE.JC_ERR_CNT x |> laneCause x 5)
    if cn = 0 ∧ body = 0 then containerEmpty x (c.w0 % 256) s
    else if cn ≠ body ∨ cn < cnMin x s ∨ cnMax x s < cn then upDiscard x s
    else containerPass x c cnd s

/-- CRL_CONTAINER_RX (R156, R159, R240): a container with every segment in the lane's allocation passes the cipher, whose INDEX
has the STARTTIME of the lane's cell (R244), and the checks in order. -/
def containerRx (x : LaneId) (c : CrlContainer) (s : State) : State :=
  if !laneBound x s then bumpBy CRL.STRAY_CNT 0 c.segs s
  else if !c.whole then upDiscard x s
  else if !s.up 219 then s |> wrapperAnswer 219 |> upDiscard x
  else
    let port := lrd LANE.PORT_ID x s
    let index := lrd LANE.STARTTIME x s * 2 ^ 20 + c.ofs.toNat
    let hdr := beBytes c.w0.toNat ++ beBytes c.w1.toNat ++ beBytes c.w2.toNat ++ beBytes c.w3.toNat
    match cipherUs (laneTreat 1 x.n port (lrd LANE.CIPHER x s) s) x.n port c.keyIndex c.frame.toNat index true false hdr c.payload c.tag s with
    | (o, s) => if o.pass then containerCheck x (clearContainer o.bytes) s else upDiscard x s

def execCrlContainerRx (n : Fin 48) (l : Fin 16) (c : CrlContainer) (s : State) : Host.Outcome State Fault Refusal :=
  onIsland 220 s (containerRx ⟨1, n, l⟩ c)

/-- CRL_CONTAINER_MISSING (R159). -/
def containerMissing (x : LaneId) (s : State) : State := if laneBound x s then upFail x s else s

def execCrlContainerMissing (n : Fin 48) (l : Fin 16) (s : State) : Host.Outcome State Fault Refusal :=
  onIsland 220 s (containerMissing ⟨1, n, l⟩)

/-- CRL_SYNC_ENTER (R159): 3 consecutive passing containers; r starts at NOM. -/
def crlSyncEnter (x : LaneId) (s : State) : State :=
  if lrd LANE.STATE x s = 1 ∧ 3 ≤ (s.crLane x).passRun then
    s.setCrLane x { s.crLane x with rate := laneNom x s, paced := 0, out := [], outPt := [] } |> lwr LANE.STATE x 2 |> laneCause x 1
  else s

def execCrlSyncEnter (n : Fin 48) (l : Fin 16) (s : State) : Host.Outcome State Fault Refusal :=
  onIsland 220 s (crlSyncEnter ⟨1, n, l⟩)

/-- CRL_SYNC_LEAVE (R159): 8 consecutive missing or discarded containers. -/
def crlSyncLeave (x : LaneId) (s : State) : State :=
  if lrd LANE.STATE x s = 2 ∧ 8 ≤ (s.crLane x).failRun then s |> lwr LANE.STATE x 1 |> laneCause x 2 else s

def execCrlSyncLeave (n : Fin 48) (l : Fin 16) (s : State) : Host.Outcome State Fault Refusal :=
  onIsland 220 s (crlSyncLeave ⟨1, n, l⟩)

/-- R162: an accepted label against LABEL_EXP. -/
def judgeLabel (x : LaneId) (s : State) : State :=
  let v := lrd LANE.LBL_RX x s
  let s := onlyIf (v = 0) (laneCause x 10) s
  if v ≠ lrd LANE.LABEL_EXP x s then s |> lwr LANE.LBL_MISM x 1 |> laneCause x 9
  else if lrd LANE.LBL_MISM x s = 1 then s |> lwr LANE.LBL_MISM x 0 |> laneCause x 11
  else s

/-- LABEL_ACCEPT (R162): 3 consecutive containers of a privileged lane carry the same label. -/
def labelAccept (x : LaneId) (s : State) : State :=
  let v := s.crLane x
  if lrd LANE.PRIV x s = 1 ∧ 3 ≤ v.lblRun ∧ (v.lblAccepted = false ∨ v.lblLast ≠ lrd LANE.LBL_RX x s) then
    s.setCrLane x { v with lblAccepted := true } |> lwr LANE.LBL_RX x v.lblLast |> judgeLabel x
  else s

def execLabelAccept (n : Fin 48) (l : Fin 16) (s : State) : Host.Outcome State Fault Refusal :=
  onIsland 220 s (labelAccept ⟨1, n, l⟩)

/-! IEEE 1914.3 (R160, R166, R167). -/

/-- An egress frame without its FCS: the template's addresses, the VLAN tag where the TCI is not 0, EtherType 0xFC3D, the RoE
header and the payload (R166). -/
def roeFrame (x : LaneId) (pt : Nat) (pay : List Byte) (s : State) : List Byte :=
  let h := fun i => rdWord .hdr 0 (lrd LANE.HDR x s) i s
  let tci := h 3 % 2 ^ 16
  beBytes (h 0) ++ beBytes (h 1) ++ beBytes (h 2) ++ (if tci = 0 then [] else beBytes (Config.roeTpid % 2 ^ 16 * 2 ^ 16 + tci)) ++
    [0xFC, 0x3D, BitVec.ofNat 8 Config.roeSubType, BitVec.ofNat 8 (lrd LANE.FLOW_ID x s), BitVec.ofNat 8 (pay.length / 256),
      BitVec.ofNat 8 pay.length] ++ beBytes (Config.roeTimestamp pt % 2 ^ 32) ++ pay

/-- CRL_PACKET_EMIT (R160, R166): PKT_LEN paced bytes leave as a packet, whose presentation time is that at which its first byte
left the FIFO, plus PT_OFS. -/
def packetEmit (x : LaneId) (s : State) : State :=
  let v := s.crLane x
  let n := lrd LANE.PKT_LEN x s
  if lrd LANE.STATE x s = 2 ∧ n ≤ v.out.length then
    let pt := v.outPt.headD s.ptp + lrd LANE.PT_OFS x s * 100
    let bytes := roeFrame x pt (v.out.take n) s
    let s := s.setCrLane x { v with out := v.out.drop n, outPt := v.outPt.drop 1, sentPt := pt }
    if s.up 212 then
      tmuPut (lrd LANE.NPORT x s) (.crl ⟨x.n / 6 % 8, Nat.mod_lt _ (by decide)⟩)
        { handle := none, len := bytes.length + 4, content := bytes } s
    else wrapperAnswer 212 s
  else s

def execCrlPacketEmit (n : Fin 48) (l : Fin 16) (s : State) : Host.Outcome State Fault Refusal :=
  onIsland 220 s (packetEmit ⟨1, n, l⟩)

/-- A packet is written into the lane's FIFO; a gap in the presentation times larger than one packet's duration at NOM is
filled first (R167). -/
def packetWrite (x : LaneId) (pt : Nat) (pay : List Byte) (s : State) : State :=
  let v := s.crLane x
  let len := pay.length
  let nom := laneNom x s
  let (fill, gap) := match v.lastPt with
    | none => (0, false)
    | some (t, n) =>
      let k := 125000 * 65536
      if (n + len) * k < (pt - t) * nom then (((pt - t) * nom - n * k) / k, true) else (0, false)
  s.setCrLane x { v with
      fifo := v.fifo ++ List.replicate fill 0 ++ pay, filled := v.filled + fill, lastPt := some (pt, len) }
    |> onlyIf (gap = true) (laneCause x 14)

def packetDiscard (x : LaneId) (s : State) : State := s |> lbump LANE.PKT_ERR_CNT x |> laneCause x 12

/-- Whether a presentation time precedes the last one written. -/
def precedes (v : CrLane) (pt : Nat) : Bool := match v.lastPt with | some (t, _) => decide (pt < t) | none => false

/-- Accepted packets wait in the order of their presentation times. -/
def insertPacket (pt : Nat) (pay : List Byte) : List (Nat × List Byte) → List (Nat × List Byte)
  | [] => [(pt, pay)]
  | p :: l => if pt < p.1 then (pt, pay) :: p :: l else p :: insertPacket pt pay l

/-- ROE_PACKET_RX (R167): checks; a packet past its presentation time is written at once. -/
def packetRx (x : LaneId) (flow : Nat) (pay : List Byte) (pt : Nat) (s : State) : State :=
  let v := s.crLane x
  let len := pay.length
  if !laneBound x s || flow != lrd LANE.FLOW_ID x s || decide (len < 64) || decide (8192 < len) || len % 4 != 0 ||
      decide (pt + 1000000 < s.ptp) || decide (s.ptp + 1000000 < pt) || precedes v pt then packetDiscard x s
  else if pt < s.ptp then s |> packetWrite x pt pay |> laneCause x 13
  else s.setCrLane x { v with packets := insertPacket pt pay v.packets }

def execRoePacketRx (n : Fin 48) (l : Fin 16) (flow : BitVec 8) (pay : List Byte) (pt : Nat) (s : State) :
    Host.Outcome State Fault Refusal :=
  onIsland 220 s (packetRx ⟨0, n, l⟩ flow.toNat pay pt)

/-- ROE_PACKET_PRESENT (R167): the next accepted packet at its presentation time. -/
def packetPresent (x : LaneId) (s : State) : State :=
  match (s.crLane x).packets with
  | [] => s
  | (pt, pay) :: rest =>
    let s := passToPtp pt s
    s.setCrLane x { s.crLane x with packets := rest } |> packetWrite x pt pay

def execRoePacketPresent (n : Fin 48) (l : Fin 16) (s : State) : Host.Outcome State Fault Refusal :=
  onIsland 220 s (packetPresent ⟨0, n, l⟩)

/-! Overhead ports (R164, R165). -/

def channelWord (p c : Nat) (s : State) : Word := s.get ⟨.chan, p, c, 0⟩

/-- The OH values of the OUT lane of a channel that go out in period j (R165). -/
def outDue (p c j : Nat) (s : State) : List (Nat × Nat) :=
  let w := channelWord p c s
  if bitsOf w 30 30 = 0 then [] else (s.crLane ⟨1, bitsOf w 19 14, bitsOf w 13 10⟩).ohRx.filter fun o => o.2 == j

/-- The word a slot of period j sends: the later of two, 0xFFFF without one. -/
def outWord (p j : Nat) (s : State) (c : Nat) : Nat := match (outDue p c j s).getLast? with | some o => o.1 | none => 0xFFFF

/-- A channel's OUT side at the start of period j: idle and overrun values count. -/
def outCount (p j c : Nat) (s : State) : State :=
  if bitsOf (channelWord p c s) 30 30 = 0 then s
  else match outDue p c j s with
    | [] => s |> bump OHP.OH_IDLE_CNT p |> raise 179 (16 + p) [p, c]
    | [_] => s
    | _ :: l => s |> bumpBy OHP.OH_OVR_CNT p l.length |> raise 179 p [p, c]

/-- A bit of OHP_DI is the majority of its three samples (R164). -/
def majority (x : OhSamples) : Nat := ((x.early &&& x.mid) ||| (x.early &&& x.late) ||| (x.mid &&& x.late)).toNat

/-- The words the 32 slots of a period give to IN lanes under the channel map at its start (R165, R168). -/
def inWords (p : Nat) (samples : List OhSamples) (s : State) : List (Nat × Nat) :=
  (List.range 32).filterMap fun c =>
    let w := channelWord p c s
    if bitsOf w 31 31 = 0 then none
    else some (bitsOf w 29 24 * 16 + bitsOf w 23 20, match samples[c]? with | some x => majority x | none => 0xFFFF)

/-- R164: period j starts at the PTP epoch + j × 125 µs; the next one of a port. -/
def nextPeriod (p : Nat) (s : State) : Nat :=
  let first := (s.ptp + 124999) / 125000
  match (Tbl.get {} s.ohp.ports p).period with
  | none => first
  | some j => if s.ptp < j * 125000 then first else max (j + 1) (s.ptp / 125000)

/-- OHP_PERIOD (R164, R165, R168): a period starts under the DIV, EN and channel map of its start; `samples` are those taken in
its slots, which containers can carry once it has ended. -/
def ohpPeriod (p : Nat) (samples : List OhSamples) (s : State) : State :=
  let j := nextPeriod p s
  let s := passToPtp (j * 125000) s
  let was := Tbl.get {} s.ohp.ports p
  let en := on OHP.CTL_EN p s
  let now : OhPort := {
    period := some j, running := en, div := rd OHP.CTL_DIV p s, ended := was.cur
    out := if en then (List.range 32).map (outWord p j s) else []
    cur := if en then inWords p samples s else [] }
  let s := onlyIf (en = true) (allOf (List.range 32) (outCount p j)) s
  { s with ohp := { s.ohp with ports := Tbl.set {} s.ohp.ports p now } }

def execOhpPeriod (p : Fin 8) (samples : List OhSamples) (s : State) : Host.Outcome State Fault Refusal :=
  onIsland 221 s (ohpPeriod p samples)

/-- The levels of OHP_FS and OHP_DO of a port whose period runs: FS for the first bit, then the bits of the slots, most
significant first, then 1 (R164). A bit lasts DIV cycles of 200 MHz. -/
def ohpLevels (p : Nat) (s : State) : Option (Bool × Bool) :=
  let o := Tbl.get {} s.ohp.ports p
  match o.period with
  | some j =>
    if o.running && (on OHP.CTL_EN p s || decide (s.ptp < (j + 1) * 125000)) then
      let bit := (s.ptp - j * 125000) / (5 * o.div)
      some (bit == 0, decide (512 ≤ bit) || (o.out.getD (bit / 16) 0xFFFF) / 2 ^ (15 - bit % 16) % 2 == 1)
    else none
  | none => none

/-- OHP_CHANNEL_WRITE (R165): a write of CH_DATA; a lane that is IN elsewhere is refused. A tree above 47 leaves its field as it
was (R7). -/
def channelWrite (p w : Nat) (s : State) : State :=
  let c := rd OHP.CH_IDX_CH p s
  let old := channelWord p c s
  let badIn := decide (48 ≤ bitsOf w 29 24)
  let badOut := decide (48 ≤ bitsOf w 19 14)
  let s := if badIn || badOut then encReject (regOffset .ohp p 2) w s else s
  let w := w - (if badIn then bitsOf w 29 24 * 2 ^ 24 else 0) + (if badIn then bitsOf old 29 24 * 2 ^ 24 else 0) -
    (if badOut then bitsOf w 19 14 * 2 ^ 14 else 0) + (if badOut then bitsOf old 19 14 * 2 ^ 14 else 0)
  let inLane := w / 2 ^ 20 % 1024
  let taken := s.mem.any fun e => e.1.sp == .chan && !(e.1.inst == p && e.1.idx == c) && bitsOf e.2 31 31 == 1 &&
    bitsOf e.2 29 20 == inLane
  let s := if w / 2 ^ 31 % 2 = 1 ∧ taken = true then s |> raise 179 (8 + p) [p, c] |> setVerdict 6 0
    else wrWord .chan p c 0 (w / 2 ^ 10 * 2 ^ 10) s
  onlyIf (on OHP.CH_IDX_AUTO_INC p s = true) (wr OHP.CH_IDX_CH p (c + 1)) s

def execOhpChannelWrite (p : Fin 8) (w : Word) (s : State) : Host.Outcome State Fault Refusal :=
  onIsland 221 s (channelWrite p w.toNat)

/-! Lane words (R168 to R170). -/

/-- The lane LANE_IDX names. -/
def namedLane (s : State) : LaneId := ⟨rd CRL.LANE_IDX_DIR 0 s, rd CRL.LANE_IDX_TREE 0 s, rd CRL.LANE_IDX_LANE 0 s⟩

def laneAdvance (s : State) : State :=
  if !on CRL.LANE_IDX_AUTO_INC 0 s then s
  else if rd CRL.LANE_IDX_WORD 0 s < 13 then wr CRL.LANE_IDX_WORD 0 (rd CRL.LANE_IDX_WORD 0 s + 1) s
  else
    let l := rd CRL.LANE_IDX_LANE 0 s
    s |> wr CRL.LANE_IDX_WORD 0 0 |> wr CRL.LANE_IDX_LANE 0 (l + 1)
      |> onlyIf (l = 15) (fun s => wr CRL.LANE_IDX_TREE 0 ((rd CRL.LANE_IDX_TREE 0 s + 1) % 48) s)

/-- CRL_LANE_WRITE (R168): a write of LANE_DATA; words 0 to 4 of a bound lane are refused; word 5 closes the open window as
inconclusive and judges the accepted label at once. -/
def laneDataWrite (w : Nat) (s : State) : State :=
  let x := namedLane s
  let word := rd CRL.LANE_IDX_WORD 0 s
  let ofs := regOffset .crl 0 5
  let s :=
    if word < 5 ∧ laneBound x s = true then refuseWrite ofs w s
    else if word = 5 then
      let v := s.crLane x
      let s := s.setCrLane x { v with degOpen := false, degBits := 0, degErrs := 0, degBad := false }
      let s := writeWord .lane x.inst x.l 5 ofs w s
      onlyIf (x.dir = 1 ∧ lrd LANE.PRIV x s = 1 ∧ v.lblAccepted = true) (judgeLabel x) s
    else writeWord .lane x.inst x.l word ofs w s
  laneAdvance s

def execCrlLaneWrite (w : Word) (s : State) : Host.Outcome State Fault Refusal := onIsland 220 s (laneDataWrite w.toNat)

end Sys2Proof.Machine
end

