-- ==== Sys2Proof/Machine/Lookup.lean ====
section
/-!
DEFINITION. The lookup tables of a pipeline (08_classification.md, R175 to R181): the exact-match table with its hashes,
inserts and relocations, and the longest-prefix tries.
-/

namespace Sys2Proof.Machine

def State.pipe (s : State) (k : Nat) : Pipe := Tbl.get {} s.cls k
def State.setPipe (s : State) (k : Nat) (x : Pipe) : State := { s with cls := Tbl.set {} s.cls k x }

def pipeIsland (k : Nat) : Nat := 207 + k
def pipeCause (k bit : Nat) (d : List Nat) (s : State) : State := raise (160 + k) bit d s

/-! Hashes (R175): the reflected CRC-32 forms over the seed, the kind and the key, most significant byte first. -/

def crcStep (poly : Nat) : Nat → Nat → Nat
  | 0, c => c
  | n + 1, c => crcStep poly n (if c % 2 = 1 then c / 2 ^^^ poly else c / 2)

def crcBytes (poly : Nat) (l : List Nat) : Nat :=
  (l.foldl (fun c b => crcStep poly 8 (c ^^^ b)) (2 ^ 32 - 1)) ^^^ (2 ^ 32 - 1)

/-- The n bytes of a number, most significant first. -/
def bigBytes (n v : Nat) : List Nat := (List.range n).map fun i => v / 256 ^ (n - 1 - i) % 256

def emHash (poly seed kind key : Nat) : Nat := crcBytes poly (bigBytes 4 seed ++ kind :: bigBytes 11 key) % 2 ^ 17

/-- The first slot of bucket b of a half. -/
def bucketSlots (half b : Nat) : List Nat := (List.range 4).map fun i => half * 2 ^ 19 + b * 4 + i

/-- The bucket of a key in a half. -/
def bucketOf (k half kind key : Nat) (s : State) : List Nat :=
  if half = 0 then bucketSlots 0 (emHash 0x82F63B78 (rd CLS.HASH_SEED0 k s) kind key)
  else bucketSlots 1 (emHash 0xEDB88320 (rd CLS.HASH_SEED1 k s) kind key)

/-- The eight slots a key may lie in, half 0 first. -/
def keySlots (k kind key : Nat) (s : State) : List Nat := bucketOf k 0 kind key s ++ bucketOf k 1 kind key s

def emAt (k slot : Nat) (s : State) : EmEntry := Tbl.get {} (s.pipe k).em slot

/-- R176: the slots that hold a key, half 0 first. -/
def emHolders (k kind key : Nat) (s : State) : List Nat :=
  (keySlots k kind key s).filter fun i => (emAt k i s).kind == kind && (emAt k i s).key == key

def emFind (k kind key : Nat) (s : State) : Option Nat := (emHolders k kind key s).head?

/-! Writing entries, with EM_USED and the learned counts (R182, R184, R190). -/

def emPut (k slot : Nat) (e : EmEntry) (s : State) : State :=
  let old := emAt k slot s
  let s := s.setPipe k { s.pipe k with em := Tbl.set {} (s.pipe k).em slot e }
  wr CLS.STS_EM_USED k (rd CLS.STS_EM_USED k s + b2n (e.kind != 0) - b2n (old.kind != 0)) s

/-- R172: a slot takes the next of the four lanes. -/
def takeLane (k : Nat) (s : State) : State := s.setPipe k { s.pipe k with lane := ((s.pipe k).lane + 1) % 4 }

/-- A learned MAC entry. -/
def EmEntry.isLearned (e : EmEntry) : Bool := e.kind == 1 && !e.fixed
def EmEntry.tree (e : EmEntry) : Nat := e.result / 2 ^ 16 % 16
def EmEntry.port (e : EmEntry) : Nat := e.result % 2 ^ 16

def countUp (k : Nat) (e : EmEntry) (s : State) : State :=
  if e.isLearned then wrx CLIMIT.COUNT k e.tree (rdx CLIMIT.COUNT k e.tree s + 1) s else s
def countDown (k : Nat) (e : EmEntry) (s : State) : State :=
  if e.isLearned then wrx CLIMIT.COUNT k e.tree (rdx CLIMIT.COUNT k e.tree s - 1) s else s

/-- An entry is written over what a slot holds. -/
def emWrite (k slot : Nat) (e : EmEntry) (s : State) : State :=
  s |> countDown k (emAt k slot s) |> countUp k e |> emPut k slot e

/-- An entry is written over the slots that hold its key (two while it is relocated), HIT kept. -/
def emRewrite (k : Nat) (is : List Nat) (e : EmEntry) (s : State) : State :=
  match is with
  | [] => s
  | i :: l => allOf l (fun j s => emPut k j { e with hit := (emAt k j s).hit } s) (emWrite k i { e with hit := (emAt k i s).hit } s)

/-- A key leaves the table: every slot that holds it. -/
def emRemove (k kind key : Nat) (s : State) : State :=
  match emHolders k kind key s with
  | [] => s
  | i :: l => allOf (i :: l) (fun j => emPut k j {}) (countDown k (emAt k i s) s)

def setHit (k slot : Nat) (s : State) : State := emPut k slot { emAt k slot s with hit := true } s

/-- R175: the learn time now. -/
def stampNow (s : State) : Nat := s.ptp * 64 / 1000000000 % 32768

/-! Insert (R177). -/

/-- The slots of the other bucket of the entry in a slot. -/
def otherBucket (k slot : Nat) (s : State) : List Nat :=
  let e := emAt k slot s
  bucketOf k (if slot < 2 ^ 19 then 1 else 0) e.kind e.key s

/-- A slot that relocations under way read, write or free. -/
def relocating (k slot : Nat) (s : State) : Bool :=
  (s.pipe k).jobs.any fun j => j.slot == slot || j.moves.any fun m => m.1 == slot || m.2 == slot

/-- A slot an insert may take. -/
def emptySlot (k slot : Nat) (s : State) : Bool := (emAt k slot s).kind == 0 && !relocating k slot s

/-- Breadth-first search of a chain: paths of slots, each entry moving to the next slot, at most `reads` buckets read. -/
def chainSearch (k : Nat) (s : State) : Nat → List (List Nat) → Option (List Nat × Nat)
  | 0, _ => none
  | _ + 1, [] => none
  | reads + 1, p :: ps =>
    let b := otherBucket k (p.headD 0) s
    match b.find? fun i => emptySlot k i s with
    | some c => some (p, c)
    | none =>
      let more := (b.filter fun i => !(emAt k i s).fixed && !relocating k i s && !p.contains i).map fun i => i :: p
      chainSearch k s reads (if p.length < 8 then ps ++ more else ps)

/-- The moves of a path (last slot first) into the empty slot, the last move first. -/
def chainMoves : List Nat → Nat → List (Nat × Nat)
  | [], _ => []
  | a :: p, c => (a, c) :: chainMoves p a

/-- The non-static entry with the oldest STAMP; ties: half 0 first, lowest slot first (R177). -/
def oldestOf (k : Nat) (s : State) : Nat → List Nat → Nat
  | v, [] => v
  | v, i :: l =>
    let age := fun j => (stampNow s + 32768 - (emAt k j s).stamp) % 32768
    oldestOf k s (if age v < age i then i else v) l

/-- How an insert ended. -/
inductive EmEnd where
  | ok (slot : Nat) | full | evicted (slot : Nat) | started
  deriving DecidableEq, Repr

/-- A relocation writes its entry into its other slot (R177). -/
def moveWrite (k : Nat) (m : Nat × Nat) (s : State) : State := emPut k m.2 (emAt k m.1 s) s

/-- R177 insert: rewrite, an empty slot, a chain of relocations, eviction, or FULL. `tree` is the local tree captured. -/
def emInsert (k tree : Nat) (command : Bool) (e : EmEntry) (s : State) : EmEnd × State :=
  let slots := keySlots k e.kind e.key s
  match emFind k e.kind e.key s with
  | some i => (.ok i, emRewrite k (emHolders k e.kind e.key s) e s)
  | none =>
    match slots.find? fun i => emptySlot k i s with
    | some i => (.ok i, emWrite k i e s)
    | none =>
      let free := slots.filter fun i => !(emAt k i s).fixed
      match chainSearch k s 62 ((free.filter fun i => !relocating k i s).map fun i => [i]) with
      | some (p, c) =>
        let moves := chainMoves p c
        let slot := p.getLastD 0
        (.started, moveWrite k (moves.headD (0, 0))
          (s.setPipe k { s.pipe k with
            jobs := (s.pipe k).jobs ++ [{ moves := moves, entry := e, slot := slot, command := command }] }))
      | none =>
        match free with
        | [] => (.full, s |> bump CLS.EM_FULL_CNT k |> pipeCause k 2 [tree, e.kind])
        | v :: l =>
          let (v, s) := if rd CLS.CTL_EVICT k s = 0 then (oldestOf k s v l, s) else
            let (r, s) := drawFree s
            ((v :: l).getD (r % (l.length + 1)) v, s)
          (.evicted v, s |> emWrite k v e |> bump CLS.EVICT_CNT k |> pipeCause k 3 [tree, v])

/-- The final step of the oldest relocation under way: the old slot is cleared and its HIT carried; then the next move, or the
entry takes the freed slot (R177), over one of its key that came meanwhile. The result is the slot of a finished command. -/
def relocationClear (k : Nat) (s : State) : State :=
  match (s.pipe k).jobs with
  | [] => s
  | j :: others =>
    match j.moves with
    | [] => s
    | m :: rest =>
      let a := emAt k m.1 s
      let c := emAt k m.2 s
      let s := s |> onlyIf (c.kind ≠ 0) (emPut k m.2 { c with hit := c.hit || a.hit }) |> emPut k m.1 {}
      match rest with
      | n :: _ => moveWrite k n (s.setPipe k { s.pipe k with jobs := { j with moves := rest } :: others })
      | [] =>
        let here := emHolders k j.entry.kind j.entry.key s
        let s := if here = [] then emWrite k j.slot j.entry s else emRewrite k here j.entry s
        let slot := here.headD j.slot
        s.setPipe k { s.pipe k with jobs := others, emOut := if j.command then some (0, some slot) else (s.pipe k).emOut }

/-! Tries (R178, R179). -/

/-- The prefix covers an address of its family, of 32 or 64 bits. -/
def Pfx.covers (p : Pfx) (v6 : Bool) (addr : Nat) : Bool :=
  p.v6 == v6 && addr / 2 ^ ((if v6 then 64 else 32) - p.len) == p.bits

/-- The longest prefix of a pipeline's copy that covers an address. -/
def lpm (k : Nat) (v6 : Bool) (addr : Nat) (s : State) : Option Pfx :=
  (((s.pipe k).trie.filter fun p => p.covers v6 addr).foldl (fun (a : Option Pfx) p =>
    match a with
    | some q => if q.len < p.len then some p else a
    | none => some p) none)

end Sys2Proof.Machine
end

