-- ==== Sys2Proof/Machine/PmuOps.lean ====
section
/-!
DEFINITION. The windows of the performance monitor (17_events_counters.md, R403, R404), which a step of time also ends.
-/

namespace Sys2Proof.Machine

def State.pmuVal (s : State) (i : Nat) : PmuVal := Tbl.get {} s.pmu i
def State.setPmu (s : State) (i : Nat) (x : PmuVal) : State := { s with pmu := Tbl.set {} s.pmu i x }

/-- Length of a window, ns. -/
def windowNs (i : Nat) (s : State) : Nat := rd PMUC.WIN_US i s * 1000

/-- The counter counts in windows. -/
def windowed (i : Nat) (s : State) : Bool := on PMUC.CFG_EN i s && on PMUC.CFG_WIN_MODE i s

/-- Window j of counter i ends: VAL, PEAK and the thresholds; a THR_HI at its largest value raises nothing (R403). -/
def windowEnd (i j : Nat) (s : State) : State :=
  let n := (s.pmuVal i).window
  let v := n / 2 ^ rd PMUC.CFG_SHIFT i s
  let lo := rd PMUC.THR_LO i s
  s.setPmu i { s.pmuVal i with val := n % 2 ^ 48, window := 0 }
    |> wr PMUC.PEAK i (max (rd PMUC.PEAK i s) (min v 0xFFFFFFFF))
    |> onlyIf (rd PMUC.THR_HI i s < min v 0xFFFFFFFF ∨ (lo ≠ 0 ∧ v < lo)) (raise (188 + i / 16) (16 + i % 16) [i, v % 2 ^ 32, j % 2 ^ 32])

/-- A step of time ends every window in progress at the step (R404). -/
def windowsCut (s : State) : State :=
  allOf ((List.range 64).filter fun i => windowed i s) (fun i => windowEnd i (s.ptp / windowNs i s)) s

end Sys2Proof.Machine
end

