-- ==== Sys2Proof/Machine/Timing.lean ====
section
/-!
DEFINITION. The timing island (12_network_timing.md, R269 to R282, R285 to R287): sources, steps and slews, the frame
timebase, PPS and TOD, PTP, and the sentinel's copy of time.
-/

namespace Sys2Proof.Machine

def timCause (bit : Nat) (s : State) : State := raise 180 bit [] s
def State.setTim (s : State) (x : Tim) : State := { s with tim := x }

/-! Corrections (R273, R279, R281). -/

/-- ns of an amount in 2^−16 ns, rounded away from zero. -/
def absNs (x : Int) : Nat := (x.natAbs + 65535) / 65536

/-- R281 step 1: a realignment is decided at D; B lies 250 µs later at the earliest. -/
def decideRealign (s : State) : State :=
  s.setTim { s.tim with realignAt := some (s.clk + 250000) } |> bump TIM.REALIGN_CNT 0 |> timCause 11

/-- The frame timebase leaves PTP time (R279): unaligned, then slewed or realigned. -/
def frameUnaligned (s : State) : State :=
  if s.tim.frErr = 0 then s
  else
    let s := if on TIM.STS_FR_ALIGNED 0 s then s |> wr TIM.STS_FR_ALIGNED 0 0 |> timCause 12 else s
    if rd TIM.REALIGN_LIM 0 s < absNs s.tim.frErr ∧ on TIM.CTL_REALIGN_EN 0 s = true then decideRealign s else s

/-- TIME_STEP (R273): time changes by d (2^−16 ns) in one cycle; the frame timebase stays. -/
def timeStep (d : Int) (s : State) : State :=
  let s := windowsCut s
  let old := (s.ptp : Int) * 65536 + s.ptpFrac
  let new := max 0 (old + d)
  { s with
      ptp := new.toNat / 65536, ptpFrac := new.toNat % 65536
      tim := { s.tim with frErr := s.tim.frErr - (new - old), slew := 0, steppedAt := some s.clk } }
    |> bump TIM.STEP_CNT 0 |> timCause 10 |> gateStep |> frameUnaligned

/-- R273: an offset of at most STEP_LIM is slewed, a larger one stepped. -/
def correct (d : Int) (s : State) : State :=
  if absNs d ≤ rd TIM.SLEW_CFG_STEP_LIM 0 s then s.setTim { s.tim with slew := d } else timeStep d s

/-! Sources and states (R269, R270). -/

def setTimState (v : Nat) (s : State) : State := s.setTim { s.tim with state := v } |> wr TIM.STS_STATE 0 v |> timCause 0

def sourceOk (src : Nat) (s : State) : Bool :=
  match src with
  | 1 => on TIM.STS_PPS_OK 0 s && on TIM.STS_TOD_OK 0 s
  | 2 => on TIM.STS_PTP_OK 0 s
  | 3 => true
  | _ => false

/-- The source to use now: the fall-back in use stays until SRC_PRI is used again by SOURCE_RETURN. -/
def chosenSource (s : State) : Nat :=
  let pri := rd TIM.CTL_SRC_PRI 0 s
  let fb := rd TIM.CTL_SRC_FB 0 s
  let used := rd TIM.STS_SRC_USED 0 s
  if used = fb ∧ used ≠ pri ∧ used ≠ 0 ∧ sourceOk fb s = true then fb
  else if sourceOk pri s then pri else if sourceOk fb s then fb else 0

/-- The mean frequency correction over the updates of the last 64 s in LOCKED, 2^−16 ppb (R269): what was slewed between the
first and the last of them over the time between them; 0 with fewer than two. -/
def meanFreq (s : State) : Int :=
  match s.tim.corr, s.tim.corr.getLast? with
  | a :: _, some b => if b.1 < a.1 then (a.2 - b.2) * 1000000000 / (a.1 - b.1 : Nat) else 0
  | _, _ => 0

/-- An update in LOCKED joins them. -/
def noteCorrection (s : State) : State :=
  if rd TIM.STS_STATE 0 s = 2 then
    s.setTim { s.tim with corr := (s.clk, s.tim.slewed) :: s.tim.corr.filter fun c => decide (s.clk ≤ c.1 + 64000000000) }
  else s

/-- HOLDOVER begins (R269). -/
def enterHoldover (s : State) : State :=
  let st := rd TIM.STS_STATE 0 s
  s.setTim { s.tim with holdFreq := meanFreq s, slew := 0 } |> onlyIf (st = 2) (timCause 2) |> setTimState 3
    |> bump TIM.HOLDOVER_CNT 0 |> timCause 3

/-- SRC_PRI has lost qualification: the 16 s of R270 start anew. -/
def breakPri (s : State) : State :=
  if sourceOk (rd TIM.CTL_SRC_PRI 0 s) s then s else s.setTim { s.tim with priSince := none }

/-- The source in use is chosen again; the states that follow from it. -/
def chooseSource (s : State) : State :=
  let now := chosenSource s
  let used := rd TIM.STS_SRC_USED 0 s
  let st := rd TIM.STS_STATE 0 s
  let pri := rd TIM.CTL_SRC_PRI 0 s
  let since := if sourceOk pri s && now != pri then some (s.tim.priSince.getD s.clk) else none
  let s := s.setTim { s.tim with priSince := since, ownQual := s.tim.ownQual || sourceOk 1 s || sourceOk 2 s || now == 3 }
    |> wr TIM.STS_SRC_USED 0 now
  if now = 0 then
    if used = 0 ∨ s.tim.wasLocked = false ∨ st = 3 then s
    else enterHoldover s
  else if st = 0 ∨ st = 3 then s.setTim { s.tim with lockRun := 0, unlockRun := 0 } |> setTimState 1
  else s

/-- The path asymmetry of the port the PTP receiver uses (R274, log entry 113). -/
def asymmetry (s : State) : Int := match s.tim.ptpPort with | some n => signed 16 (rd NET.PTP_CFG_ASYM n s) | none => 0

/-- The error (1/16 ns) of time against source `src`, of what was measured: for PTP the path asymmetry is removed (R274); for PPS
it is that of the last edge against the second its message names (R272), the interpolator giving the sixteenths of the ns
(R271). -/
def refError (src : Nat) (err : Int) (s : State) : Option Int :=
  match src with
  | 1 => s.tim.ppsErr.map fun e => e + err % 16
  | 2 => some (err - asymmetry s)
  | _ => none

/-- REFERENCE_UPDATE: the error (1/16 ns) of the timing island's time against the reference, as it is measured. -/
def referenceUpdate (measured : Int) (s : State) : State :=
  let s := chooseSource s
  match refError (rd TIM.STS_SRC_USED 0 s) measured s with
  | none => s
  | some err =>
    let s := noteCorrection (s.setTim { s.tim with ppsErr := none })
    let (v, s) := if -2 ^ 31 ≤ err ∧ err < 2 ^ 31 then (unsigned 32 err, s) else drawFree s
    let m := s.tim
    s.setTim { m with
        lockRun := if err.natAbs ≤ 32 then m.lockRun + 1 else 0
        unlockRun := if 320 < err.natAbs then m.unlockRun + 1 else 0 }
      |> wr TIM.PH_ERR 0 v |> correct (-(err * 4096))

def execReferenceUpdate (err : Int) (s : State) : Host.Outcome State Fault Refusal := onIsland 222 s (referenceUpdate err)

/-- TIM_LOCKED (R269). -/
def timLocked (s : State) : State :=
  if rd TIM.STS_STATE 0 s = 1 ∧ 16 ≤ s.tim.lockRun then
    s.setTim { s.tim with wasLocked := true, unlockRun := 0 } |> setTimState 2 |> timCause 1 |> coldHoldEnd
  else s

def execTimLocked (s : State) : Host.Outcome State Fault Refusal := onIsland 222 s timLocked

/-- TIM_UNLOCK (R269). -/
def timUnlock (s : State) : State :=
  if rd TIM.STS_STATE 0 s = 2 ∧ 4 ≤ s.tim.unlockRun then
    s.setTim { s.tim with lockRun := 0 } |> setTimState 1 |> timCause 2
  else s

def execTimUnlock (s : State) : Host.Outcome State Fault Refusal := onIsland 222 s timUnlock

/-- SOURCE_LOSS (R270): a source loses qualification; the offset (1/16 ns) of time against the source used next. -/
def sourceLoss (src : Nat) (err : Int) (s : State) : State :=
  let used := rd TIM.STS_SRC_USED 0 s
  let s := match src with
    | 1 => s.setTim { s.tim with ppsRun := 0 } |> wr TIM.STS_PPS_OK 0 0 |> wr TIM.STS_TOD_OK 0 0
    | 2 => s.setTim { s.tim with ptpPorts := [], ptpSeen := [], ptpPort := none } |> wr TIM.STS_PTP_OK 0 0
    | _ => s
  let s := chooseSource s
  let now := rd TIM.STS_SRC_USED 0 s
  if now ≠ used ∧ now ≠ 0 ∧ now ≠ 3 then correct (-((err - (if now = 2 then asymmetry s else 0)) * 4096)) s else s

def execSourceLoss (src : Fin 4) (err : Int) (s : State) : Host.Outcome State Fault Refusal :=
  onIsland 222 s (sourceLoss src err)

/-- SOURCE_RETURN (R270): SRC_PRI has stayed qualified for 16 s; it is used again, by an offset. -/
def sourceReturn (err : Int) (s : State) : State :=
  match s.tim.priSince with
  | some t =>
    let pri := rd TIM.CTL_SRC_PRI 0 s
    if rd TIM.STS_SRC_USED 0 s ≠ pri ∧ sourceOk pri s = true then
      let s := passTo (t + 16000000000) s
      let s := s.setTim { s.tim with priSince := none } |> wr TIM.STS_SRC_USED 0 pri
      if pri = 3 then s else correct (-((err - (if pri = 2 then asymmetry s else 0)) * 4096)) s
    else s
  | none => s

def execSourceReturn (err : Int) (s : State) : Host.Outcome State Fault Refusal := onIsland 222 s (sourceReturn err)

/-- A write of CTL: a source change waits for the next reference update; with no source in use none comes, so it is made
at once (R282). Another SRC_PRI has its 16 s before it (R270). -/
def timCtlWrite (w : Nat) (s : State) : State :=
  let old := rd TIM.CTL_SRC_PRI 0 s
  let s := writeReg .tim 0 0 w s
  let s := if rd TIM.CTL_SRC_PRI 0 s = old then s else s.setTim { s.tim with priSince := none }
  if rd TIM.STS_SRC_USED 0 s = 0 ∨ rd TIM.STS_SRC_USED 0 s = 3 then chooseSource s else s

/-- The timing island's part of REFCLK_CHECK (R271). -/
def timRefclk (ok : Bool) (s : State) : State :=
  let lost := s.tim.refclkLost
  let s := s.setTim { s.tim with refclkLost := !ok } |> wr TIM.STS_REFCLK_OK 0 (b2n ok)
  if !ok && !lost then s |> bump TIM.REFCLK_LOSS_CNT 0 |> timCause 8
  else if ok && lost then timCause 9 s else s

/-! PPS and TOD (R271, R272, R275). -/

/-- PPS_EDGE: an edge of the polarity CTL.PPS_POL names, 0 rising (R271, R285); the other is none. -/
def ppsEdge (e : PpsSeen) (s : State) : State :=
  let m := s.tim
  if m.steppedAt = some s.clk ∨ e.rising = on TIM.CTL_PPS_POL 0 s then s
  else
    let off := match m.lastEdge with
      | some t => decide (t + 1000100000 < s.clk) || decide (s.clk + 100000 < t + 1000000000)
      | none => false
    if !e.held || off then s.setTim { m with ppsRun := 0 } |> bump TIM.PPS_REJ_CNT 0 |> timCause 4
    else s.setTim { m with
      lastEdge := some s.clk, edgePtp := (s.ptp : Int) * 65536 + s.ptpFrac, awaitMsg := true, ppsRun := if m.awaitMsg then 0 else m.ppsRun }

def execPpsEdge (e : PpsSeen) (s : State) : Host.Outcome State Fault Refusal := onIsland 222 s (ppsEdge e)

/-- PPS_LOST: 2.5 s without an accepted edge; the next edge is the first again. -/
def ppsLost (s : State) : State :=
  match s.tim.lastEdge with
  | none => s
  | some t =>
    let s := passTo (t + 2500000000) s
    s.setTim { s.tim with lastEdge := none, awaitMsg := false, ppsRun := 0 } |> wr TIM.STS_PPS_OK 0 0 |> timCause 5 |> breakPri

def execPpsLost (s : State) : Host.Outcome State Fault Refusal := onIsland 222 s ppsLost

/-- CRC-16, polynomial 0x1021, initial value 0xFFFF (R272). -/
def crc16Step : Nat → Nat → Nat
  | 0, c => c
  | n + 1, c => crc16Step n (if 32768 ≤ c then (c * 2 % 65536) ^^^ 0x1021 else c * 2)

def crc16 (l : List Nat) : Nat := l.foldl (fun c b => crc16Step 8 (c ^^^ (b * 256))) 0xFFFF

def bigNat (l : List Nat) : Nat := l.foldl (fun a b => a * 256 + b) 0

/-- R272: the message is not discarded: its form, CRC, validity bit, and time after its edge. -/
def todAccepted (b : List Nat) (s : State) : Bool :=
  b.length == 16 && b.take 3 == [0xA5, 0x5A, 0x01] && crc16 (b.take 14) == bigNat (b.drop 14) && b.getD 3 0 % 2 == 1 &&
  match s.tim.lastEdge with
  | some t => decide (t + 10000000 ≤ s.clk) && decide (s.clk ≤ t + 900000000)
  | none => false

/-- TOD_MESSAGE: the second it names is that of its edge, and once 3 messages agree the edge's error is known (R272). -/
def todMessage (b : List Nat) (s : State) : State :=
  let m := s.tim
  if !todAccepted b s then s.setTim { m with ppsRun := 0 } |> bump TIM.TOD_ERR_CNT 0 |> timCause 6
  else
    let sec := bigNat ((b.drop 4).take 6)
    let agree := match m.todSec with | some p => sec == p + 1 | none => true
    let run := if agree then m.todRun + 1 else 1
    s.setTim { m with
        todSec := some sec, todRun := run, awaitMsg := false
        ppsErr := if 3 ≤ run ∧ m.awaitMsg = true then some ((m.edgePtp - (sec : Int) * 65536000000000) / 4096) else m.ppsErr
        ppsRun := if m.awaitMsg then m.ppsRun + 1 else m.ppsRun }
      |> wr TIM.STS_UTC_OFS 0 (bigNat ((b.drop 10).take 2)) |> onlyIf (agree = false) (timCause 7)

def execTodMessage (bytes : List Byte) (s : State) : Host.Outcome State Fault Refusal :=
  onIsland 222 s (todMessage (bytes.map (·.toNat)))

/-- PPS_QUALIFIED (R272). -/
def ppsQualified (s : State) : State :=
  if 3 ≤ s.tim.ppsRun ∧ 3 ≤ s.tim.todRun then
    s |> wr TIM.STS_PPS_OK 0 1 |> wr TIM.STS_TOD_OK 0 1 |> chooseSource
  else s

def execPpsQualified (s : State) : Host.Outcome State Fault Refusal := onIsland 222 s ppsQualified

/-- The next whole second of PTP time, ns. -/
def nextSecond (s : State) : Nat := (s.ptp / 1000000000 + 1) * 1000000000

/-- PPS_OUT_PULSE (R275): the next rise of the pin. -/
def ppsOutPulse (s : State) : State :=
  match rd TIM.CTL_PPSO_MODE 0 s with
  | 1 =>
    let s := passToPtp (nextSecond s) s
    s.setTim { s.tim with ppsOut := some (s.clk + rd TIM.CTL_PPSO_W 0 s * 1000000) }
  | 2 =>
    let s := passToFrame (frameT0 (frameBase s / 125000 + 1)) s
    s.setTim { s.tim with ppsOut := some (s.clk + 1000) }
  | _ => s

def execPpsOutPulse (s : State) : Host.Outcome State Fault Refusal := onIsland 222 s ppsOutPulse

/-- PPS_OUT_FALL (R275). -/
def ppsOutFall (s : State) : State :=
  match s.tim.ppsOut with
  | none => s
  | some t => let s := passTo t s; s.setTim { s.tim with ppsOut := none }

def execPpsOutFall (s : State) : Host.Outcome State Fault Refusal := onIsland 222 s ppsOutFall

/-! ADJ_CMD (R285), a guarded register. -/

/-- A command that is refused: ERR and cause 17. -/
def adjRefused (s : State) : State := s |> wr TIM.ADJ_CMD_ERR 0 1 |> wr TIM.ADJ_CMD_GO 0 0 |> timCause 17 |> setVerdict 6 0

/-- The operation of a command that has started. -/
def adjOperate (op : Nat) (s : State) : State :=
  let allowed := rd TIM.STS_SRC_USED 0 s == 3 || rd TIM.STS_STATE 0 s == 0
  match op with
  | 0 => if allowed then s |> wr TIM.ADJ_CMD_ERR 0 0 |> wr TIM.ADJ_CMD_GO 0 0 |> correct (signed 32 (rd TIM.ADJ_OFS 0 s) * 65536)
         else adjRefused s
  | 1 => if allowed then
           s.setTim { s.tim with setTime := some (rd TIM.SET_SEC_HI_SEC_HI 0 s * 2 ^ 32 + rd TIM.SET_SEC 0 s) }
             |> wr TIM.ADJ_CMD_ERR 0 0 |> wr TIM.ADJ_CMD_GO 0 1
         else adjRefused s
  | _ => s |> wr TIM.ADJ_CMD_ERR 0 0 |> wr TIM.ADJ_CMD_GO 0 0 |> decideRealign

/-- A write of ADJ_CMD with GO = 1; while a set time is armed the command is held, and a further one discarded (R388). -/
def adjStart (op : Nat) (s : State) : State :=
  match s.tim.setTime, s.tim.adjHeld with
  | none, _ => s |> wr TIM.ADJ_CMD_OP 0 op |> adjOperate op
  | some _, none => s.setTim { s.tim with adjHeld := some op } |> wr TIM.ADJ_CMD_OP 0 op
  | some _, some _ => goBusy (regOffset .tim 0 10) (2 ^ 31 + op * 2 ^ 28) s

def adjCommand (op : Nat) (s : State) : Host.Outcome State Fault Refusal :=
  onIsland 222 s (guarded (regOffset .tim 0 10) (2 ^ 31 + op * 2 ^ 28) (adjStart op))

def execAdjOffset (s : State) : Host.Outcome State Fault Refusal := adjCommand 0 s
def execAdjSetTime (s : State) : Host.Outcome State Fault Refusal := adjCommand 1 s
def execAdjRealign (s : State) : Host.Outcome State Fault Refusal := adjCommand 2 s

/-- A write of ADJ_CMD through the register path. -/
def adjCmdWrite (w : Nat) (s : State) : State :=
  let op := w / 2 ^ 28 % 4
  if op = 3 then encReject (regOffset .tim 0 10) w s
  else if w / 2 ^ 31 % 2 = 1 then adjStart op s else wr TIM.ADJ_CMD_OP 0 op s

/-- A command held behind the one that has ended. -/
def adjResume (held : Option Nat) (s : State) : State :=
  match held with
  | some op => adjOperate op (s.setTim { s.tim with adjHeld := none })
  | none => s

/-- SET_TIME_APPLY: at the next whole second time becomes SET_SEC; a held command starts. -/
def setTimeApply (s : State) : State :=
  match s.tim.setTime with
  | none => s
  | some sec =>
    let s := passToPtp (nextSecond s) s
    let s := s.setTim { s.tim with setTime := none } |> wr TIM.ADJ_CMD_GO 0 0
      |> correct ((sec : Int) * 65536000000000 - ((s.ptp : Int) * 65536 + s.ptpFrac))
    adjResume s.tim.adjHeld s

def execSetTimeApply (s : State) : Host.Outcome State Fault Refusal := onIsland 222 s setTimeApply

/-- ADJ_FREQ_WRITE (R282): taken with the host source only. -/
def adjFreqWrite (w : Nat) (s : State) : State :=
  if rd TIM.STS_SRC_USED 0 s = 3 then wr TIM.ADJ_FREQ 0 w s else refuseWrite (regOffset .tim 0 8) w s

def execAdjFreqWrite (w : Word) (s : State) : Host.Outcome State Fault Refusal := onIsland 222 s (adjFreqWrite w.toNat)

/-! The frame timebase (R279, R281). -/

/-- R281 steps 3 and 4 for tree n: the new frame k; its map is void where the old frame was cut. -/
def realignTree (k : Nat) (cut : Bool) (n : Nat) (s : State) : State :=
  let f := s.fram n
  let had := f.mapIn.isSome || f.built.isSome
  let s := s.setFram n { f with
      frame := k - 1
      voidUntil := if cut then k + 1 else 0
      mapIn := if cut then none else f.mapIn.map fun m => { m with frame := k }
      built := f.built.map fun b => { b with frame := k, void := b.void || cut, map := if cut then none else b.map } }
    |> onlyIf (cut = true ∧ had = true ∧ s.up (framingIsland n) = true) (mapVoid n)
  s.setGrant n { s.grant n with openFrame := if had then k + 1 else k }

/-- REALIGN_CUT: at B, the first multiple of 125 µs of PTP time from D + 250 µs on, the first new frame starts and the frame
timebase is PTP time. -/
def realignCut (s : State) : State :=
  match s.tim.realignAt with
  | none => s
  | some t =>
    let s := passTo t s
    let b := (s.ptp + b2n (s.ptpFrac != 0) + 124999) / 125000 * 125000
    let s := passToPtp b s
    let cut := frameBase s % 125000 != 0
    let s := s.setTim { s.tim with realignAt := none, frErr := 0 }
      |> onlyIf (on TIM.STS_FR_ALIGNED 0 s = false) (fun s => s |> wr TIM.STS_FR_ALIGNED 0 1 |> timCause 13)
    allOf (List.range 48) (realignTree (b / 125000) cut) s |> coldHoldEnd

def execRealignCut (s : State) : Host.Outcome State Fault Refusal := onIsland 222 s realignCut

/-- The ns until a slewing frame timebase is PTP time (R279). -/
def alignNs (s : State) : Nat :=
  let rate := rd TIM.SLEW_CFG_FR_SLEW 0 s * 65536
  (s.tim.frErr.natAbs * 10000000 - s.tim.frRem + rate - 1) / rate

/-- FRAME_TIMEBASE_ALIGNED. -/
def frameAligned (s : State) : State :=
  if on TIM.STS_FR_ALIGNED 0 s = true ∨ s.tim.realignAt ≠ none then s
  else
    let s := if s.tim.frErr = 0 then s else pass (alignNs s) s
    if s.tim.frErr = 0 then s |> wr TIM.STS_FR_ALIGNED 0 1 |> timCause 13 |> coldHoldEnd else s

def execFrameTimebaseAligned (s : State) : Host.Outcome State Fault Refusal := onIsland 222 s frameAligned

/-! PTP (R276 to R278). -/

def ptpUses (n : Nat) (s : State) : Bool :=
  on TIM.PTPR_CFG_EN 0 s && (rd TIM.PTPR_CFG_PORT_PRI 0 s == n || rd TIM.PTPR_CFG_PORT_BK 0 s == n)

/-- The port in use and what it shows: PORT_PRI while it is qualified, else PORT_BK; none with EN = 0. -/
def ptpChoose (s : State) : State :=
  let pri := rd TIM.PTPR_CFG_PORT_PRI 0 s
  let bk := rd TIM.PTPR_CFG_PORT_BK 0 s
  let q := s.tim.ptpPorts
  let p := if !on TIM.PTPR_CFG_EN 0 s then none else if q.contains pri then some pri else if q.contains bk then some bk else none
  let s := s.setTim { s.tim with ptpPort := p } |> wr TIM.STS_PTP_OK 0 (b2n p.isSome) |> breakPri
  match p with
  | some n =>
    let id := Tbl.get 0 s.tim.parent n
    s |> wr TIM.PTPR_PARENT_HI 0 (id / 2 ^ 32) |> wr TIM.PTPR_PARENT_LO 0 id |> chooseSource
  | none => s

/-- A message of the chosen timeTransmitter; Announce and Sync qualify the port. -/
def ptpSeen (n bit : Nat) (s : State) : State :=
  let v := maskSet (Tbl.get 0 s.tim.ptpSeen n) bit
  let s := s.setTim { s.tim with ptpSeen := Tbl.set 0 s.tim.ptpSeen n v }
  if v = 3 ∧ !s.tim.ptpPorts.contains n then ptpChoose (s.setTim { s.tim with ptpPorts := s.tim.ptpPorts ++ [n] }) else s

/-- The interval a message announces, ns: 2^n s for its logMessageInterval n, byte 33 of its header (log entry 113). -/
def announced (m : PtpRx) : Nat :=
  let n := signed 8 (byteAt m.bytes 33)
  if 0 ≤ n then 1000000000 * 2 ^ n.toNat else 1000000000 / 2 ^ (-n).toNat

/-- The chosen timeTransmitter's Announce (sync = false) or Sync has come now. -/
def ptpArrived (n : Nat) (sync : Bool) (m : PtpRx) (s : State) : State :=
  let e := (s.clk, announced m)
  s.setTim (if sync then { s.tim with syncAt := Tbl.set (0, 0) s.tim.syncAt n e } else { s.tim with annAt := Tbl.set (0, 0) s.tim.annAt n e })

/-- Delay request-response (R276): a Delay_Req leaves for each Sync (DESIGN CHOICE, log entry 113), as the device's own traffic. -/
def delayReq (n : Nat) (s : State) : State :=
  let q := s.tim.reqSeq
  let s := s.setTim { s.tim with reqSeq := (q + 1) % 65536 }
  if s.up 212 then
    tmuPut n .system {
      handle := none, len := 64, content := Config.delayReq (rd TIM.PTPR_CFG_PROFILE 0 s) n q
      ptpMsg := some ⟨1, BitVec.ofNat 16 q, true⟩ } s
  else wrapperAnswer 212 s

/-- An Announce: the profile's BMCA may change the chosen timeTransmitter (cause 14). -/
def ptpAnnounce (n : Nat) (m : PtpRx) (s : State) : State :=
  let old := Tbl.get 0 s.tim.parent n
  let id := m.source.toNat
  if old = id then s |> wr TIM.STS_UTC_OFS 0 m.utc.toNat |> ptpArrived n false m |> ptpSeen n 0
  else if m.best then
    s.setTim { s.tim with
        parent := Tbl.set 0 s.tim.parent n id, ptpSeen := Tbl.set 0 s.tim.ptpSeen n 0
        ptpPorts := s.tim.ptpPorts.filter (· != n) }
      |> wr TIM.STS_UTC_OFS 0 m.utc.toNat |> onlyIf (old ≠ 0) (timCause 14) |> ptpArrived n false m |> ptpSeen n 0 |> ptpChoose
  else s

/-- The receive timestamp of the oldest frame of port n that waits, or of one that arrives now (R277). -/
def rxStamp (n : Nat) (s : State) : Nat :=
  match s.tim.inbox.find? fun f => f.1 == n with
  | some f => f.2.2
  | none => rxStampNow n s

/-- A message the receiver does not consume goes to the host with its timestamp, laid out as TXTS_DATA (R276, R376). Its
sequenceId stands at bytes 30 and 31 of its header (log entry 113). -/
def ptpToHost (n : Nat) (m : PtpRx) (stamp : Nat) (s : State) : State :=
  let ts := stampWords m.type.toNat (bytesAt m.bytes 30 2) stamp
  let p : Packet := { kind := 2, opcode := 0x83, arg0 := n, payload := wordsBytes ts ++ m.bytes }
  match hostPacket SESS.CTL_PLU_EN 17 p s with
  | (.noSession, s) => s |> bump TIM.PTP_DROP_CNT 0 |> timCause 16
  | (_, s) => s

/-- PTP_MESSAGE_RX: a message received on the port whose first lane is n; its frame no longer waits (R173). -/
def ptpMessageRx (n : Nat) (m : PtpRx) (stamp : Nat) (s : State) : State :=
  if on NET.PTP_CFG_RX_EN n s && ptpUses n s && rd NET.PTP_CFG_DOMAIN n s == m.domain.toNat then
    match m.type.toNat with
    | 11 => ptpAnnounce n m s
    | 0 => if Tbl.get 0 s.tim.parent n = m.source.toNat then s |> ptpArrived n true m |> ptpSeen n 1 |> delayReq n else s
    | 8 => s
    | 9 => if Tbl.get 0 s.tim.parent n = m.source.toNat then wr TIM.PTPR_MPD 0 m.mpd.toNat s else s
    | _ => ptpToHost n m stamp s
  else ptpToHost n m stamp s

def execPtpMessageRx (n : Fin 32) (m : PtpRx) (s : State) : Host.Outcome State Fault Refusal :=
  onIsland 222 s fun s =>
    ptpMessageRx n m (rxStamp n s) { s with tim := { s.tim with inbox := s.tim.inbox.eraseP fun f => f.1 == n.val } }

/-- When three announced intervals without Announce or Sync have passed (R276). -/
def ptpDeadline (n : Nat) (s : State) : Nat :=
  let a := Tbl.get (0, 0) s.tim.annAt n
  let b := Tbl.get (0, 0) s.tim.syncAt n
  min (a.1 + 3 * a.2) (b.1 + 3 * b.2)

/-- PTP_QUAL_LOSS (R276): three announced intervals without Announce or Sync. -/
def ptpQualLoss (n : Nat) (s : State) : State :=
  if s.tim.ptpPorts.contains n then
    let s := passTo (ptpDeadline n s) s
    s.setTim { s.tim with ptpPorts := s.tim.ptpPorts.filter (· != n), ptpSeen := Tbl.set 0 s.tim.ptpSeen n 0 }
      |> onlyIf (rd TIM.PTPR_CFG_PORT_PRI 0 s = n) (timCause 15) |> ptpChoose
  else s

def execPtpQualLoss (n : Fin 32) (s : State) : Host.Outcome State Fault Refusal := onIsland 222 s (ptpQualLoss n)

/-- A read of TXTS_DATA: the next of the oldest entry's four words; reading word 3 removes the entry (R283). -/
def txtsRead (p : Nat) (s : State) : Nat × State :=
  let x := Tbl.get {} s.txts p
  match x.entries with
  | [] => (0, s)
  | e :: rest =>
    let y : Txts := if x.word = 3 then { entries := rest, word := 0 } else { x with word := x.word + 1 }
    (e.getD x.word 0, { s with txts := Tbl.set {} s.txts p y })

/-- TXTS_READ. -/
def execTxtsRead (p : Fin 32) (s : State) : Host.Outcome State Fault Refusal :=
  onIsland (128 + p) s fun s => let r := txtsRead p s; setRead r.1 r.2

/-- A read of TIME_SEC latches the other TIME registers (R285). -/
def timeSecRead (s : State) : Nat × State :=
  (ptpSec s % 2 ^ 32, s |> wr TIM.TIME_SEC 0 (ptpSec s) |> wr TIM.TIME_SEC_HI_SEC_HI 0 (ptpSec s / 2 ^ 32)
    |> wr TIM.TIME_NS_NS 0 (ptpNs s) |> wr TIM.TIME_FRAC_FRAC 0 s.ptpFrac)

/-- What FR_ERR reads: signed ns, saturating. -/
def frErrRead (s : State) : Nat := unsigned 32 (max (-2147483648) (min 2147483647 (s.tim.frErr / 65536)))

/-! The sentinel's copy (R269). -/

/-- SENTINEL_TIME_COPY: while island 222 runs. -/
def sentinelCopy (s : State) : State := if s.up 222 then s.setTim { s.tim with copy := some (s.ptp, s.clk) } else s

def execSentinelTimeCopy (s : State) : Host.Outcome State Fault Refusal := onIsland 224 s sentinelCopy

/-- A write of PTPR_CFG: the port in use is chosen again. -/
def ptprCfgWrite (w : Nat) (s : State) : State := s |> writeReg .tim 0 15 w |> ptpChoose

/-- Island 222 is released: FREERUN from the carried time, which runs 0.1 % ahead, or from 0 s; the frame timebase has
kept running and meets the new time as after a step (R269, R282). -/
def timRelease (s : State) : State :=
  let t := match s.tim.copy with | some (p, c) => p + (s.clk - c) + (s.clk - c) / 1000 | none => 0
  let frame := match s.tim.copy with | some _ => frameBase s | none => t
  { s with
      ptp := t, ptpFrac := 0
      tim := { ({} : Tim) with copy := s.tim.copy, frErr := ((frame : Int) - t) * 65536, refclkLost := !s.rst.refclk } }
    |> onlyIf (s.tim.state ≠ 0) (timCause 0) |> wr TIM.STS_STATE 0 0 |> wr TIM.STS_FR_ALIGNED 0 1 |> wr TIM.STS_REFCLK_OK 0 (b2n s.rst.refclk) |> gateStep |> frameUnaligned

/-! Following the partner (R293). -/

/-- The partner's frame-start time as a reference: `err` in 2^−16 ns. -/
def followUpdate (err : Int) (s : State) : State :=
  let st := rd TIM.STS_STATE 0 s
  let s := if st = 0 ∨ st = 3 then setTimState 1 (s.setTim { s.tim with lockRun := 0, unlockRun := 0 }) else s
  let s := noteCorrection s
  let m := s.tim
  let (v, s) := if -2 ^ 31 ≤ err / 4096 ∧ err / 4096 < 2 ^ 31 then (unsigned 32 (err / 4096), s) else drawFree s
  s.setTim { m with
      lockRun := if err.natAbs ≤ 2 * 65536 then m.lockRun + 1 else 0
      unlockRun := if 20 * 65536 < err.natAbs then m.unlockRun + 1 else 0 }
    |> wr TIM.PH_ERR 0 v |> correct (-err)

/-- A follower whose link goes down enters HOLDOVER. -/
def followLost (s : State) : State :=
  let st := rd TIM.STS_STATE 0 s
  if rd TIM.STS_SRC_USED 0 s = 0 ∧ st ≠ 0 ∧ st ≠ 3 then enterHoldover s else s

end Sys2Proof.Machine
end

