-- ==== Sys2Proof/Machine/Pair.lean ====
section
/-!
DEFINITION. The protection pair (13_pair_system.md, R288 to R310, R318, R321): roles and epochs, heartbeats, mirroring,
the optical witness, health, switchovers and role commands.
-/

namespace Sys2Proof.Machine

/-- The next downstream frame of the frame timebase. -/
def nextFrame (s : State) : Nat := framesNow s + 1
def passToNextFrame (s : State) : State := passToFrame (frameT0 (nextFrame s)) s

/-! Role changes (R288, R289). -/

/-- A unit that becomes standby holds of rogue control and of hand-overs only what the mirror says (R95, R146). -/
def standbyState (s : State) : State :=
  allOf (List.range 48) (fun n s =>
    if (s.actOf n).smoker = none then s else s.setAct n { s.actOf n with smoker := none, smkQueue := [] })
    (dropHandOvers (s.setPair { s.pair with smokers := [] }))

/-- A new role: EPOCH, cause 0, and the runs that start with a role; what a role command waited for is over. Leaving TEST clears
every pin override (R338). A unit that leaves NONE takes PAIR_EN and HOME (R317). A standby parks its threads, waits for the bulk
copy, and measures every offset afresh (R142, R295, R297; log entry 123). -/
def setRole (new : Nat) (s : State) : State :=
  let old := role s
  let partner := if pairEn s then s.pair.partnerEpoch.getD 0 else 0
  let e := (max (rd PAR.EPOCH 0 s) partner + 1) % 2 ^ 32
  let s := if new = 3 then s else { s with rst := { s.rst with overrides := [] } }
  let s := s.setPair { s.pair with
      downFrames := 0, quiet := 0, joinSeen := false, foreign := false, sw := none, pendingRole := none, returnSent := false
      member := if new = 0 then none else some (pairEn s, home s), dark := false }
    |> wr PAR.STS_ROLE 0 new |> wr PAR.EPOCH 0 e |> wr PAR.STS_LIVE 0 0 |> wr PAR.ROLE_CMD_GO 0 0 |> pairCause 0 [old, new, e]
  (if new = 1 then s.setPair { s.pair with ofs := [], bursts := [] } |> wr PAR.STS_SYNC 0 0 |> parkThreads |> standbyState else s)
    |> refreshReady

/-- Lane cycles of a downstream frame. -/
def frameCycles : Nat := 97200

/-- R298: the reference of tree n after takeover, from the mirrored URO, and the new maps that are void. The windows of maps already
emitted keep the reference they have (R54). -/
def shadowReference (n : Nat) (s : State) : State :=
  let live := (terminals n s).filter fun t => decide (1 ≤ termState n t s ∧ termState n t s ≤ 3)
  let asym := signed 16 (rd PAR.ASYM_ASYM 0 s)
  let uro := rd TFR.US_CFG_URO n s
  let lost := fun s => s |> allOf live (deactivate n) |> pairCause 14 []
  match Tbl.get none s.pair.ofs n with
  | none => lost s
  | some o =>
    let u : Int := uro + (2 * o) / 64 + asym
    if 0 ≤ u ∧ u < 1048576 then
      let early := -(o / 64 + asym)
      let voids := if 0 < early then (early.toNat + frameCycles - 1) / frameCycles else 0
      s.setFram n { s.fram n with voidUntil := (s.fram n).frame + 1 + voids } |> wr TFR.US_CFG_URO n u.toNat
    else lost s

/-- A standby becomes ACTIVE: R301 step 7 (R143, R95, R254, R161, R298). -/
def takeOver (s : State) : State :=
  let down := !linkIsUp s
  let running := (List.range 48).filterMap fun n =>
    match Tbl.get 0 s.pair.smokers n with | 0 => none | c + 1 => some (n, c)
  s |> setRole 2 |> takeoverThreads |> cipherTakeover down
    |> allOf (List.range 48) shadowReference
    |> allOf running (fun x s => s |> smokerRestore x.1 |> smokerStart x.1 x.2)

/-- A role taken at a frame start. -/
def takeRole (new : Nat) (s : State) : State := if new = 2 ∧ roleStandby s = true then takeOver s else setRole new s

/-! Messages to the partner, and the operations of role commands (R301, R310). -/

/-- A message leaves on P0 through island 162; while that is in reset, its wrapper answers (R11, R13). -/
def sendPair (m : PairMsg) (s : State) : State :=
  if s.up 162 then s.setPair { s.pair with lastMsg := some m } else wrapperAnswer 162 s

/-- The device number; messages carry 0 where the device has none (R316). -/
def ownDev (s : State) : Nat := s.nvm.devnum.getD 0

/-- R301 step 1: k is the first frame with T0(k) ≥ W + 10,000 ns. -/
def startSwitchover (ret : Bool) (s : State) : State :=
  let k := (frameBase s + 10000 + 124999) / 125000
  s.setPair { s.pair with sw := some { k := k, phase := .sent, ret := ret } } |> sendPair (.switch k (rd PAR.EPOCH 0 s))

/-- The refusal of an operation, if any. -/
def roleRefused (op : Nat) (s : State) : Option Nat :=
  match op with
  | 0 =>
    if !pairEn s then some 4
    else if role s = 0 ∨ role s = 3 then some 2
    else if roleActive s && (!partnerReady s || !linkIsUp s) then some 1 else none
  | 1 => if pairEn s && (!linkIsUp s || partnerRole s == 2) then some 3 else none
  | 2 => if role s ≠ 3 then some 2 else none
  | _ => if !pairEn s then some 4 else if role s ≠ 1 then some 2 else none

/-- An operation that waits for a frame start: GO reads 1 until the role is taken. -/
def roleWaits (new : Nat) (s : State) : State := wr PAR.ROLE_CMD_GO 0 1 (s.setPair { s.pair with pendingRole := some new })

/-- The operation of a command that is not refused; one that waits for a frame start or a switchover leaves GO at 1. -/
def roleOperate (op : Nat) (s : State) : State :=
  match op with
  | 0 =>
    if roleActive s then s |> onlyIf (s.pair.sw.isNone = true) (startSwitchover false) |> wr PAR.ROLE_CMD_GO 0 1
    else if linkIsUp s then s else roleWaits 2 s
  | 1 => roleWaits 3 s
  | 2 => if pairEn s then setRole 0 s else roleWaits 2 s
  | _ => setRole 0 s

/-- A command starts: it is refused, or does its operation. -/
def roleRun (op : Nat) (s : State) : State :=
  match roleRefused op s with
  | some c => s |> wr PAR.ROLE_CMD_ERR 0 1 |> wr PAR.ROLE_CMD_ERRCODE 0 c |> pairCause 16 [] |> refuseCode c
  | none => s |> wr PAR.ROLE_CMD_ERR 0 0 |> wr PAR.ROLE_CMD_ERRCODE 0 0 |> roleOperate op

/-- A write of ROLE_CMD with GO = 1; while a command runs the write is held, and a further one discarded (R388). -/
def roleStart (op : Nat) (s : State) : State :=
  if !on PAR.ROLE_CMD_GO 0 s then roleRun op (wr PAR.ROLE_CMD_OP 0 op s)
  else match s.pair.roleHeld with
    | none => wr PAR.ROLE_CMD_OP 0 op (s.setPair { s.pair with roleHeld := some op })
    | some _ => goBusy (regOffset .par 0 2) (2 ^ 31 + op * 2 ^ 24) s

/-- A command held behind one that has completed starts (R388). -/
def roleNext (s : State) : State :=
  match s.pair.roleHeld with
  | some op => if on PAR.ROLE_CMD_GO 0 s then s else roleRun op (s.setPair { s.pair with roleHeld := none })
  | none => s

/-- GIVE_UP (R302): dark at once; RELEASED on a pair member; an ACTIVE unit goes to NONE, a TEST unit keeps its role. -/
def giveUp (s : State) : State :=
  let e := if roleActive s then (max (rd PAR.EPOCH 0 s) (if pairEn s then s.pair.partnerEpoch.getD 0 else 0) + 1) % 2 ^ 32
    else rd PAR.EPOCH 0 s
  let s := if pairEn s then s.setPair { s.pair with sw := none } |> sendPair (.released e (ownDev s)) |> raise 186 5 [] else s
  if roleActive s then setRole 0 s else if roleTest s then s.setPair { s.pair with dark := true } else s

/-- A switchover is complete (R301, R304). -/
def switched (ret : Bool) (s : State) : State :=
  s |> pairCause 7 [] |> onlyIf (ret = true) (fun s => s |> bump PAR.RETURN_CNT 0 |> pairCause 12 [])

/-! Heartbeats (R291, R292). -/

/-- PTP time, 2^−16 ns. -/
def fineTime (s : State) : Nat := s.ptp * 65536 + s.ptpFrac

/-- HEARTBEAT_SEND: at the start of downstream frame k, through island 162 (R11, R13). -/
def heartbeatSend (k : Nat) (s : State) : State :=
  if !pairEn s then s
  else if !s.up 162 then wrapperAnswer 162 s
  else
    let h : HbSent := {
      pairId := rd PAR.PAIR_PAIR_ID 0 s, dev := ownDev s, frame := k, role := role s, epoch := rd PAR.EPOCH 0 s, pmode := rd PAR.CTL_PMODE 0 s, score := score s
      sync := on PAR.STS_SYNC 0 s, ready := on PAR.STS_READY 0 s, live := on PAR.STS_LIVE 0 s, linkDown := !linkIsUp s
      timState := rd TIM.STS_STATE 0 s, follows := s.pair.following, time := fineTime s
      ack := s.pair.lastRx }
    s.setPair { s.pair with sent := (h :: s.pair.sent).take 8 }

/-- The pair's part of a downstream frame start, once a frame of the device: a role that waited for it, the heartbeat. -/
def pairFrameStart (k : Nat) (s : State) : State :=
  if k ≤ s.pair.lastFrame then s
  else
    let s := s.setPair { s.pair with lastFrame := k }
    let late := s.pair.sw.filter fun x => x.phase == .late
    let s := match s.pair.pendingRole with | some r => takeRole r s | none => s
    let s := match late with | some x => switched x.ret s | none => s
    s |> roleNext |> heartbeatSend k

/-- The link is declared down (R292): it counts, L and LIVE start afresh, a follower holds over. -/
def partnerLinkDown (s : State) : State :=
  if !linkIsUp s then s
  else
    let was := s.pair.following
    let s := s.setPair { s.pair with okRun := 0, downFrames := 0, joinSeen := false, following := false }
      |> wr PAR.STS_LINK 0 0 |> wr PAR.STS_LIVE 0 0 |> bump PAR.LINK_DOWN_CNT 0 |> pairCause 1 [] |> track
    if was && s.up 222 then followLost s else s

/-- PARTNER_LINK_DOWN: 3 consecutive heartbeats not accepted. -/
def execPartnerLinkDown (s : State) : Host.Outcome State Fault Refusal :=
  onIsland 224 s fun s => if 3 ≤ s.pair.miss then partnerLinkDown s else s

/-- PARTNER_LINK_UP: 8 consecutive accepted heartbeats. -/
def partnerLinkUp (s : State) : State :=
  if linkIsUp s = true ∨ s.pair.okRun < 8 then s
  else s |> wr PAR.STS_LINK 0 1 |> pairCause 2 [] |> track

def execPartnerLinkUp (s : State) : Host.Outcome State Fault Refusal := onIsland 224 s partnerLinkUp

/-- P0_LOCK_LOSS: P0 without block lock for 10 µs. -/
def execP0LockLoss (s : State) : Host.Outcome State Fault Refusal :=
  onIsland 224 s fun s => s |> wr PAR.STS_P0_UP 0 0 |> partnerLinkDown

/-- TREE_RESYNC (R295): mirrored state of a tree was lost; it is copied again. -/
def treeResync (s : State) : State :=
  s |> wr PAR.STS_SYNC 0 0 |> bump PAR.RESYNC_CNT 0 |> pairCause 11 [] |> refreshReady

/-- P1_LOSS, of P1 alone where P0 is up: bit n of `trees`: deltas of tree n were in flight on P1. -/
def p1Loss (trees : Nat) (s : State) : State :=
  let s := s |> onlyIf (on PAR.STS_P1_UP 0 s = true ∧ on PAR.STS_P0_UP 0 s = true) (pairCause 3 []) |> wr PAR.STS_P1_UP 0 0
  if roleStandby s then allOf ((List.range 48).filter (maskHas trees)) (fun _ => treeResync) s else s

def execP1Loss (trees : BitVec 48) (s : State) : Host.Outcome State Fault Refusal := onIsland 224 s (p1Loss trees.toNat)

/-- A heartbeat that is not accepted, or did not come (R292). -/
def heartbeatMissed (s : State) : State := s.setPair { s.pair with miss := s.pair.miss + 1, okRun := 0, noneRun := 0 }

def execHeartbeatMiss (s : State) : Host.Outcome State Fault Refusal :=
  onIsland 224 s fun s => if pairEn s then heartbeatMissed s else s

/-- R293: the partner is one this unit may follow. -/
def mayFollow (h : Heartbeat) (s : State) : Bool :=
  let r := h.role.toNat
  ((r == 1 || r == 2) && !h.follows) ||
  (r == 0 && role s == 0 && (h.home || (!home s && decide (h.dev.toNat < s.nvm.devnum.getD 0))))

/-- FOLLOW_PARTNER (R293): a delay of 0.8 ns is 262,144 / 5 of 2^−16 ns. -/
def followPartner (h : Heartbeat) (s : State) : State :=
  let free := rd TIM.STS_SRC_USED 0 s == 0 && (s.pair.following || !s.tim.ownQual)
  if linkIsUp s && s.up 222 && free && mayFollow h s then
    let s := if s.pair.following then s else pairCause 19 [] (s.setPair { s.pair with following := true })
    followUpdate (fineTime s - (h.txTime + s.pair.delay * 262144 / 5)) s
  else s.setPair { s.pair with following := s.pair.following && rd TIM.STS_SRC_USED 0 s == 0 && linkIsUp s }

/-- JOIN (R308): a unit in NONE joins once its image has been applied. -/
def join (h : Heartbeat) (s : State) : State :=
  if linkIsUp s = false ∨ (roleNone s && !s.pair.imageApplied) = true then s
  else match role s, h.role.toNat with
    | 0, 2 => setRole 1 s
    | 0, 0 =>
      if 8 ≤ s.pair.noneRun then
        let thr := rd PAR.CTL_YIELD_THR 0 s
        let mine := if home s then scoreOk s || decide (h.score.toNat < thr) else scoreOk s && decide (h.score.toNat < thr)
        if mine then setRole 2 s else s
      else s
    | 1, 0 => if 8 ≤ s.pair.noneRun then takeOver s else s
    | _, _ => s

/-- BOTH_ACTIVE (R307): the lower epoch, or the non-home unit, becomes STANDBY at the next frame start; `own`: this unit's epoch
before the heartbeat. -/
def bothActive (own : Nat) (h : Heartbeat) (s : State) : State :=
  if linkIsUp s && roleActive s && h.role.toNat == 2 then
    let yields := decide (own < h.epoch.toNat) || (own == h.epoch.toNat && !home s)
    pairCause 18 [] (if yields then s.setPair { s.pair with pendingRole := some 1 } else s)
  else s

/-- R301: a standby without COMMIT whose active reports STANDBY at T0(k) becomes ACTIVE at T0(k + 1). -/
def lostCommit (h : Heartbeat) (s : State) : State :=
  match s.pair.sw with
  | some x =>
    if x.phase = .lost ∧ roleStandby s = true ∧ h.frame = x.k ∧ h.role.toNat = 1 then
      s.setPair { s.pair with sw := some { x with phase := .late }, pendingRole := some 2 }
    else s
  | none => s

/-- The word is one the active mirrors: of a cluster its CTL, TICK_CFG, WDOG, MIRROR_CFG, THR_ENTRY and THR_REGION, the data
memory inside MIRROR_CFG, and no CREDIT or LAST of a context (R142); of the framing registers URO's word (R294). -/
def mirrored (sp : Sp) (i x w : Nat) (s : State) : Bool :=
  match sp with
  | .preset | .actT | .brood | .prof | .imem | .flow | .cphPort => true
  | .lane => decide (w < 9)
  | .grt => decide (w < 3)
  | .ctx => w != 2 && w != 5
  | .tfr => w == 5
  | .gsq => decide (w < 4) || (decide (8 ≤ w) && decide (w < 16))
  | .dmem =>
    let base := rd GSQ.MIRROR_CFG_BASE i s / 4
    decide (base ≤ x) && decide (x < base + rd GSQ.MIRROR_CFG_LEN i s)
  | _ => false

/-- The tree by whose queue a mirrored word leaves: a cluster's words by that of its first tree, a flow's by its own. -/
def mirrorTree (k : Key) (s : State) : Nat :=
  match k.sp with
  | .gsq | .imem | .dmem => 6 * k.inst
  | .flow => rdx FLOW.TREE k.inst k.idx s
  | .lane => k.inst % 48
  | _ => k.inst

/-- The bulk copy of tree n (R295): its mirrored words, a word not listed being at its reset value; the cells of the open bank; what
its cluster, its terminals, its flows and its lanes hold beside their words. -/
def bulkDeltas (n : Nat) (s : State) : List Delta :=
  let g := s.grant n
  let words := (s.mem.filter fun e => e.1.sp != .cphPort && mirrored e.1.sp e.1.inst e.1.idx e.1.word s && mirrorTree e.1 s == n).map
    fun e => Delta.word e.1.sp e.1.inst e.1.idx e.1.word e.2
  let b := openBank n s
  let cells := ((s.mem.filter fun e => e.1.sp == .cell && e.1.inst == b).map fun e => e.1.idx).eraseDups.map fun c =>
    Delta.cell (openFrame n s) (BitVec.ofNat 10 c) (s.get ⟨.cell, b, c, 0⟩) (s.get ⟨.cell, b, c, 1⟩) (s.get ⟨.cell, b, c, 2⟩)
  let swap := if n % 6 = 0 then (s.cluster (n / 6)).swap.toList.map fun x => Delta.swap (Fin.ofNat 4 x.1) x.2.1 x.2.2 else []
  let smoker := (s.actOf n).smoker.toList.map fun k => Delta.smoker (some (Fin.ofNat 3 k.crit))
  let ploam := (s.terms.filter fun e => e.1 / 512 == n).filterMap fun e => e.2.key.map fun k => Delta.ploamKey (BitVec.ofNat 9 e.1) k
  let keys := [0, 1].flatMap fun d =>
    ((s.cph d).tkey.filter fun e => e.1 / 4096 == n).filterMap (fun e => e.2.map fun k => Delta.terminalKey (Fin.ofNat 2 d) e.1 k) ++
    ((s.cph d).fkey.filter fun e => rdx FLOW.TREE d (e.1 / 2) s == n).filterMap (fun e => e.2.map fun k =>
      Delta.flowKey (Fin.ofNat 2 d) (BitVec.ofNat 13 (e.1 / 2)) (Fin.ofNat 2 e.1) k) ++
    (if n = 0 then (s.cph d).ring.map fun e => Delta.ringKey (Fin.ofNat 2 d) (BitVec.ofNat 12 e.1) e.2 else [])
  let slots := ((s.cph 0).txSlot.filter fun e => e.1 / 1024 == n).map fun e =>
    Delta.terminalSwitch (BitVec.ofNat 10 e.1) (Fin.ofNat 2 e.2)
  words ++ cells ++ swap ++ smoker ++ ploam ++ keys ++ slots ++ [.witness (g.witLast.map (BitVec.ofNat 9))] ++
    laneDeltas n s ++ countDeltas n s

/-- The active sends the bulk copy, and then the deltas (R295, R307). -/
def bulkCopy (n : Nat) (s : State) : State := s.setGrant n { s.grant n with out := (bulkDeltas n s).map .delta }

/-- The one-way delay by an accepted heartbeat, in 0.8 ns; it is measured while the link is up (R293). -/
def delayBy (h : Heartbeat) (s : State) : Int :=
  match h.ack.bind fun a => (s.pair.sent.find? fun x => x.frame == a.1).map fun x => (a.2, x.time) with
  | some (t2, t1) =>
    if linkIsUp s then (((fineTime s : Int) - t1) - ((h.txTime : Int) - t2)) * 5 / 524288 else s.pair.delay
  | none => s.pair.delay

/-- An accepted heartbeat: the partner's report, the delay of R293, the epoch of R289, and what follows from it. -/
def heartbeatAccepted (h : Heartbeat) (s : State) : State :=
  let own := rd PAR.EPOCH 0 s
  let copies := roleActive s && h.role.toNat == 1 && !h.sync
  let s := s |> onlyIf ((copies && !s.pair.bulk) = true) (allOf (List.range 48) bulkCopy)
  let s := s.setPair { s.pair with
      partnerEpoch := some h.epoch.toNat, partnerPmode := h.pmode.toNat, miss := 0, delay := delayBy h s
      okRun := if h.linkDown then 0 else s.pair.okRun + 1
      noneRun := if h.role.toNat = 0 ∧ h.frame = framesNow s then s.pair.noneRun + 1 else 0
      lastRx := some (h.frame, fineTime s), bulk := copies }
    |> onlyIf (on PAR.STS_P1_UP 0 s = true ∧ h.p1 = false ∧ h.p0 = true) (pairCause 3 [])
    |> wr PAR.STS_P0_UP 0 (b2n h.p0) |> wr PAR.STS_P1_UP 0 (b2n h.p1)
    |> wr PAR.STS_PARTNER_ROLE 0 h.role.toNat |> wr PAR.STS_PARTNER_READY 0 (b2n h.ready)
    |> wr PAR.HEALTH_PARTNER_SCORE 0 h.score.toNat |> wr PAR.PAIR_PARTNER_DEV 0 h.dev.toNat
    |> onlyIf ((h.role.toNat = 1 ∨ h.role.toNat = 2) ∧ rd PAR.EPOCH 0 s < h.epoch.toNat) (wr PAR.EPOCH 0 h.epoch.toNat)
    |> onlyIf (h.differs = true) (pairCause 15 [])
  (if h.linkDown then partnerLinkDown s else s)
    |> lostCommit h |> bothActive own h |> join h |> followPartner h |> track

/-- HEARTBEAT_RX; a message of any kind whose CRC fails is counted and discarded here (R291, log entry 123). -/
def heartbeatRx (h : Heartbeat) (s : State) : State :=
  if !pairEn s then s
  else if !h.crcOk then bump PAR.HB_ERR_CNT 0 s
  else if h.pairId.toNat ≠ rd PAR.PAIR_PAIR_ID 0 s then s |> pairCause 13 [h.dev.toNat] |> heartbeatMissed
  else if (role s = 1 ∨ role s = 2) ∧ h.frame ≠ framesNow s then heartbeatMissed s
  else heartbeatAccepted h s

def execHeartbeatRx (h : Heartbeat) (s : State) : Host.Outcome State Fault Refusal := onIsland 224 s (heartbeatRx h)

/-! Mirroring (R115, R142, R295). -/

/-- A mirrored word is written; TEN bits of a cluster's CTL start and stop its threads as a write there does (R142, R148). -/
def applyWord (sp : Sp) (i x w v : Nat) (s : State) : State :=
  let old := rd GSQ.CTL_TEN i s
  let s := wrWord sp i x w v s
  if sp = .gsq ∧ w = 0 then
    allOf [0, 1, 2, 3] (fun t s =>
      if maskHas old t = maskHas v t then s
      else if maskHas v t then startThread i t 0 s
      else stopThread i t s) s
  else s

/-- A word of the active's snapshot is written. A preset is a starting value: where this unit has learned the entry on its own
path, the phase, its lock time and its age stay (R36). -/
def writeSnap (n : Nat) (sp : Sp) (x w v : Nat) (s : State) : State :=
  if sp = .preset ∧ (s.lane n).learned.contains x = true then wrx ⟨.preset, 0, 31, 23⟩ n x (v / 2 ^ 23) s else wrWord sp n x w v s

/-- A word of the snapshot of a close that has come is written; one of a close to come waits for it (R115). -/
def applyTagged (n : Nat) (d : Delta) (s : State) : State :=
  match d with
  | .tagged frame sp x w v =>
    if inSnapshot n ⟨sp, n, x, w⟩ = false then s
    else if frame < openFrame n s then writeSnap n sp x w v.toNat s
    else s.setGrant n { s.grant n with tagged := (s.grant n).tagged ++ [d] }
  | _ => s

/-- The deltas tagged with the close of frame k, or with one before it, are applied. -/
def applyHeld (n k : Nat) (s : State) : State :=
  let due := fun (d : Delta) => match d with | .tagged f _ _ _ _ => decide (f ≤ k) | _ => true
  let l := (s.grant n).tagged
  allOf (l.filter due) (fun d s => match d with | .tagged _ sp x w v => writeSnap n sp x w v.toNat s | _ => s)
    (s.setGrant n { s.grant n with tagged := l.filter fun d => !due d })

/-- A delta of tree n is applied. The mirror stream is the writer of a cell (R100). -/
def applyDelta (n : Nat) (d : Delta) (s : State) : State :=
  match d with
  | .cell frame c w0 w1 w2 =>
    if frame = openFrame n s then
      let b := openBank n s
      s |> wrWord .cell b c.toNat 0 w0.toNat |> wrWord .cell b c.toNat 1 w1.toNat |> wrx CELL.WRITER b c.toNat 6
        |> wrWord .cell b c.toNat 2 (w2.toNat % 2 ^ 16)
    else s
  | .word sp i x w v => if mirrored sp i x w s then applyWord sp i x w v.toNat s else s
  | .tagged _ _ _ _ _ => applyTagged n d s
  | .swap t e r =>
    let k := treeCluster n
    s.setCluster k { s.cluster k with swap := some (t, e, r) } |> wr GSQ.SWAP_THREAD k t |> wr GSQ.SWAP_GO k 1
  | .witness l => s.setGrant n { s.grant n with witLast := l.map BitVec.toNat }
  | .smoker c => s.setPair { s.pair with smokers := Tbl.set 0 s.pair.smokers n (match c with | some x => x.val + 1 | none => 0) }
  | .ploamKey t key => s.setTerm n t.toNat { s.term n t.toNat with key := some key }
  | .terminalKey d no key => s.setCph d { s.cph d with tkey := Tbl.set none (s.cph d).tkey no (some key) }
  | .flowKey d f slot key =>
    s.setCph d { s.cph d with fkey := Tbl.set none (s.cph d).fkey (f.toNat * 2 + slot) (some key) }
      |> setSlotValid d f.toNat slot true
  | .terminalSwitch t slot =>
    s.setCph 0 { s.cph 0 with txSlot := Tbl.set 0 (s.cph 0).txSlot (n * 1024 + t.toNat) slot }
  | .ringKey d e key => s.setCph d { s.cph d with ring := Tbl.set 0 (s.cph d).ring e.toNat key }
  | .count d f slot v => setInv d f.toNat slot v s
  | .lane dir l acc est rate seq =>
    let x : LaneId := ⟨dir, n, l⟩
    s.setCrLane x { s.crLane x with acc := acc, est := est, rate := rate, seq := seq }

/-- MIRROR_DELTA: on the standby only; a message of the mirror stream that fails its CRC, a delta or a close marker, loses the
tree's state (R291, R295). -/
def mirrorDelta (n : Nat) (d : Delta) (crcOk : Bool) (s : State) : State :=
  if !roleStandby s then s
  else if crcOk then applyDelta n d s |> refreshReady
  else s |> bump PAR.HB_ERR_CNT 0 |> treeResync

def execMirrorDelta (n : Fin 48) (d : Delta) (crcOk : Bool) (s : State) : Host.Outcome State Fault Refusal :=
  onIsland (clusterIsland (treeCluster n)) s (mirrorDelta n d crcOk)

/-- MIRROR_CLOSE_MARKER (R115): the standby closes its comb on the state tagged with this close; a marker after T0 − 3,100 ns
leaves the map void. -/
def closeMarker (n : Nat) (s : State) : State :=
  if !roleStandby s then s
  else
    let k := openFrame n s
    let late := decide (frameT0 k < frameBase s + 3100)
    let s := s |> applyHeld n k |> combClose n
    if late then s.setFram n { s.fram n with mapIn := none } |> bump GRT.MIRROR_LATE_CNT n |> raise (grtSource n) 10 []
    else s

def execMirrorCloseMarker (n : Fin 48) (s : State) : Host.Outcome State Fault Refusal :=
  onIsland (clusterIsland (treeCluster n)) s (closeMarker n)

/-- BULK_COPY_DONE (R295): every tree of the standby is in sync. -/
def bulkCopyDone (s : State) : State := if roleStandby s then s |> wr PAR.STS_SYNC 0 1 |> refreshReady else s

def execBulkCopyDone (s : State) : Host.Outcome State Fault Refusal := onIsland 224 s bulkCopyDone

/-! The optical witness (R296, R297). -/

/-- The lane's counts over an upstream frame: windows without energy (R29), TREE_SD outside the windows (R34). Frames that pass
while the pin chatters are counted toward the 2 stuck frames too; only the report is suspended then (DESIGN CHOICE, log entry
116). -/
def laneFrameEnd (n : Nat) (gap : Bool) (s : State) : State :=
  let s := noteSd n s
  let l := s.lane n
  let dark := if l.frameWindow then (if l.frameEnergy then 0 else l.darkRun + 1) else l.darkRun
  let sd := if !gap then l.sdRun else if l.sdLow then 0 else l.sdRun + 1
  s.setLane n { l with
    darkRun := dark, frameWindow := false, frameEnergy := false, sdRun := sd
    sdLow := false, sdStuck := gap && !l.sdLow, sdFrom := max l.sdFrom (frameBase s) }
    |> noteSd n

/-- UPSTREAM_FRAME_JUDGE: what every tree showed; a tree not listed showed nothing and had a gap. A single unit keeps no witness
(R290). -/
def frameJudge (light : List TreeLight) (s : State) : State :=
  let at_ := fun (n : Nat) => light.find? fun x => x.tree.val == n
  let seen := (List.range 48).any fun n => on TLN.CTL_RX_EN n s && (at_ n).any (·.energy)
  let foreign := decide (rd PAR.CTL_FOREIGN_N 0 s ≤ (List.range 48).countP fun n => (at_ n).any (·.outside))
  let yields := foreign && !linkIsUp s && roleActive s && pairEn s
  let s := allOf (List.range 48) (fun n s =>
    let s := if s.up (48 + n) then laneFrameEnd n ((at_ n).all (·.gap)) s else s
    let stray := (at_ n).any fun x => strayLight n x.stray s
    if yields || !s.up (framingIsland n) then s
    else s.setAct n { s.actOf n with strayRun := if stray then (s.actOf n).strayRun + 1 else 0 }) s
  let p := s.pair
  if !pairEn s then s
  else s.setPair { p with
      downFrames := if linkIsUp s then p.downFrames else p.downFrames + 1
      quiet := if seen then 0 else p.quiet + 1, joinSeen := p.joinSeen || (seen && !linkIsUp s), foreign := foreign }
    |> wr PAR.STS_SILENT 0 (if seen then 0 else min (rd PAR.STS_SILENT 0 s + 1) 65535)
    |> onlyIf (seen = true) (wr PAR.STS_LIVE 0 1)

def execUpstreamFrameJudge (light : List TreeLight) (s : State) : Host.Outcome State Fault Refusal :=
  onIsland 224 s (frameJudge light)

/-- Arrivals that lie within 2 lane cycles of each other (R297). -/
def agree (l : List Int) : Bool := l.all fun a => l.all fun b => decide ((a - b).natAbs ≤ 128)

/-- OFS_VALID (R297): the search has found the witness bursts of consecutive frames, their arrivals against the mirrored map's in
1/64 lane cycle, newest first. Four that agree make the offset of tree n valid; until then no burst counts toward the mean (log entry
123). -/
def ofsValid (n : Nat) (found : List Int) (s : State) : State :=
  let l := found.take 4
  if !roleStandby s || (Tbl.get none s.pair.ofs n).isSome || l.length != 4 || !agree l then s else setOfs n l s

def execOfsValid (n : Fin 48) (found : List Int) (s : State) : Host.Outcome State Fault Refusal := onIsland 224 s (ofsValid n found)

/-- What OFS_DATA reads for the tree at OFS_IDX, and the advance of the index (R318). -/
def ofsRead (s : State) : Nat × State :=
  let n := rd PAR.OFS_IDX_TREE 0 s
  let v := match Tbl.get none s.pair.ofs n with | some o => 2 ^ 31 + unsigned 26 o | none => 0
  (v, onlyIf (on PAR.OFS_IDX_AUTO_INC 0 s = true) (wr PAR.OFS_IDX_TREE 0 ((n + 1) % 48)) s)

/-! Health (R299, R300). -/

def within (d : Nat) (t : Option Nat) (s : State) : Bool :=
  match t with | some t => decide (s.clk ≤ t + d) | none => false

/-- The faults of R299 present now; `enc`, `lane`: an encoder failed its last check, a lane its self-check. -/
def faultsNow (enc lane : Bool) (s : State) : List Bool :=
  let ports := (List.range 32).filter fun n => on NET.PORT_CFG_EN n s
  [s.pair.scrubBad,
   decide (16 - (s.pool.out ++ s.pool.failed).eraseDups.length < 15),
   enc,
   lane || within 1000000000 s.pair.pllUnlock s,
   within 1000000000 s.bpm.ueAt s,
   s.islands.any fun x => x.2.relapses.any fun t => decide (s.clk ≤ t + 10000000000),
   s.rst.overTemp,
   s.rst.coreOutOfBand,
   !ports.isEmpty && ports.all fun n => !on NET.STS_LINK n s]

def penalties : List Nat := [64, 128, 255, 64, 64, 128, 64, 255, 128]

def boolMask (l : List Bool) : Nat := l.foldr (fun b a => b2n b + 2 * a) 0

/-- HEALTH_EVAL: every 1 ms. Control is given up as the score reaches 0 (R302). -/
def healthEval (enc lane : Bool) (s : State) : State :=
  let f := faultsNow enc lane s
  let en := rd PAR.CHK_EN_EN 0 s
  let sum := (List.range 9).foldl (fun a i => if f.getD i false && maskHas en i then a + penalties.getD i 0 else a) 0
  let reaches := decide (255 ≤ sum) && score s != 0
  let s := s |> wr PAR.HFAULT_FAULT 0 (boolMask f) |> wr PAR.HEALTH_SCORE 0 (255 - sum)
  let low := !scoreOk s
  let s := s.setPair { s.pair with lowRun := if low then s.pair.lowRun + 1 else 0 } |> refreshReady
    |> onlyIf (low = true ∧ roleStandby s = true) (pairCause 17 [])
    |> onlyIf (roleActive s = true ∧ pairEn s = true ∧ linkIsUp s = true ∧ partnerReady s = false) (pairCause 10 [])
  if pairEn s && linkIsUp s && reaches then giveUp s else s

def execHealthEval (enc lane : Bool) (s : State) : Host.Outcome State Fault Refusal := onIsland 224 s (healthEval enc lane)

/-- HEALTH_REPORT (R299). -/
def execHealthReport (s : State) : Host.Outcome State Fault Refusal :=
  onIsland 224 s fun s =>
    if roleStandby s && pairEn s then s.setPair { s.pair with lastReport := some (rd PAR.HFAULT_FAULT 0 s) } else s

/-- MEMORY_SCRUB_PASS (R193, R260, R299): what the pass found. -/
def scrubOne (e : ScrubError) (s : State) : State :=
  match e with
  | .cluster k => s |> bump GSQ.ECC_CNT k |> raise (128 + k) 30 []
  | .program k data w =>
    let c := s.cluster k
    s.setCluster k (if data then { c with badData := c.badData ++ [w.toNat] } else { c with badCode := c.badCode ++ [w.toNat] })
  | .pipeline k => raise (160 + k) 9 [] s
  | .cipher d => raise (cphSource d) 12 [] s
  | .entry k slot =>
    let x := emAt k slot.toNat s
    s |> countDown k x |> emPut k slot.toNat {} |> raise (160 + k) 10 [x.tree, slot.toNat]
  | .flowKey d no => flowKeyError d no.toNat s
  | .terminalKey d no => terminalKeyError d no s
  | .ringKey d e => ringKeyError d e.toNat s
  | .other => s

/-- An uncorrectable error. -/
def uncorrectableError : ScrubError → Bool
  | .entry _ _ => true
  | .flowKey _ _ => true
  | .terminalKey _ _ => true
  | .program _ _ _ => true
  | .other => true
  | _ => false

def execMemoryScrubPass (l : List ScrubError) (s : State) : Host.Outcome State Fault Refusal :=
  onIsland 224 s fun s => allOf l scrubOne (s.setPair { s.pair with scrubBad := l.any uncorrectableError })

/-! Switchovers (R300 to R304). -/

/-- YIELD (R300). -/
def yield (s : State) : State :=
  if roleActive s && pairEn s && linkIsUp s && decide (2 ≤ s.pair.lowRun) && s.pair.sw.isNone then
    if partnerRole s = 1 ∧ partnerReady s = true then
      s |> startSwitchover false |> bump PAR.YIELD_CNT 0 |> pairCause 6 []
    else pairCause 10 [] s
  else s

def execYield (s : State) : Host.Outcome State Fault Refusal := onIsland 224 s yield

/-- SWITCH_RX: ACK where READY, else NAK. -/
def switchRx (k : Nat) (s : State) : State :=
  if !roleStandby s then s
  else if on PAR.STS_READY 0 s then
    s.setPair { s.pair with sw := some { k := k, phase := .acked, ret := s.pair.returnSent } } |> sendPair .ack
  else sendPair .nak s

def execSwitchRx (k : Nat) (s : State) : Host.Outcome State Fault Refusal := onIsland 224 s (switchRx k)

/-- The phase of a switchover in progress moves on. -/
def swPhase (old new : SwPhase) (f : State → State) (s : State) : State :=
  match s.pair.sw with
  | some x => if x.phase = old then f (s.setPair { s.pair with sw := some { x with phase := new } }) else s
  | none => s

/-- ACK_RX: COMMIT, and the active is bound to go dark. -/
def execAckRx (s : State) : Host.Outcome State Fault Refusal := onIsland 224 s (swPhase .sent .bound (sendPair .commit))

/-- A switchover ends without a change of role; so does the role command that waited for it. -/
def switchOff (s : State) : State := wr PAR.ROLE_CMD_GO 0 0 (s.setPair { s.pair with sw := none })

/-- NAK_RX: the switchover ends; a home unit's RETURN has been refused (R301, R304). -/
def nakRx (s : State) : State :=
  let s := s.setPair { s.pair with returnSent := false }
  match s.pair.sw with
  | some x => if x.phase = .sent then s |> switchOff |> roleNext else s
  | none => s

def execNakRx (s : State) : Host.Outcome State Fault Refusal := onIsland 224 s nakRx

/-- COMMIT_RX: the standby is bound to light. -/
def execCommitRx (s : State) : Host.Outcome State Fault Refusal := onIsland 224 s (swPhase .acked .bound id)

/-- SWITCHOVER_EXECUTE: T0(k). -/
def switchoverExecute (s : State) : State :=
  match s.pair.sw with
  | some x =>
    if x.phase = .bound then
      let s := passToFrame (frameT0 x.k) s
      let s := if roleActive s then setRole 1 s else if roleStandby s then takeOver s else s
      s |> switched x.ret |> roleNext
    else s
  | none => s

def execSwitchoverExecute (s : State) : Host.Outcome State Fault Refusal := onIsland 224 s switchoverExecute

/-- SWITCH_ABORT: no ACK by T0(k) − 4,000 ns. -/
def switchAbort (s : State) : State :=
  match s.pair.sw with
  | some x =>
    if x.phase = .sent then
      let s := passToFrame (frameT0 x.k - 4000) s
      s |> switchOff |> bump PAR.SWITCH_ABORT_CNT 0 |> pairCause 8 [] |> roleNext
    else s
  | none => s

def execSwitchAbort (s : State) : Host.Outcome State Fault Refusal := onIsland 224 s switchAbort

/-- COMMIT_TIMEOUT: no COMMIT by T0(k) − 2,000 ns. -/
def commitTimeout (s : State) : State :=
  match s.pair.sw with
  | some x => if x.phase = .acked then s |> passToFrame (frameT0 x.k - 2000) |> swPhase .acked .lost id else s
  | none => s

def execCommitTimeout (s : State) : Host.Outcome State Fault Refusal := onIsland 224 s commitTimeout

/-- RELEASED_RX (R302): the standby takes over at once. -/
def releasedRx (epoch : Nat) (s : State) : State :=
  let s := s.setPair { s.pair with partnerEpoch := some epoch }
  if roleStandby s then s |> takeOver |> bump PAR.TKO_CNT 0 |> pairCause 5 [] |> roleNext else s

def execReleasedRx (epoch : Word) (s : State) : Host.Outcome State Fault Refusal :=
  onIsland 224 s fun s => if pairEn s then releasedRx epoch.toNat s else s

/-- RETURN_SEND (R304): the conditions have held for RET_S and still hold. -/
def returnSend (s : State) : State :=
  match s.pair.retSince with
  | some t =>
    let s := passTo (t + rd PAR.TIMING_RET_S 0 s * 1000000000) s
    if returnable s then s.setPair { s.pair with returnSent := true, retSince := some s.clk } |> sendPair .returnReq else track s
  | none => s

def execReturnSend (s : State) : Host.Outcome State Fault Refusal := onIsland 224 s returnSend

/-- RETURN_RX (R303, R304), on a member of a pair: a planned switchover, or NAK; with a yield in progress the request is answered as done. -/
def returnRx (s : State) : State :=
  if roleActive s = false ∨ pairEn s = false then s
  else if s.pair.sw.isSome then s.setPair { s.pair with sw := s.pair.sw.map fun x => { x with ret := true } }
  else if rd PAR.CTL_PMODE 0 s = 0 then startSwitchover true s
  else sendPair .returnNak s

def execReturnRx (s : State) : Host.Outcome State Fault Refusal := onIsland 224 s returnRx

/-! Link down (R305). -/

inductive DownChange where
  | takeover | silentYield | foreignYield | lightUp | watch
  deriving DecidableEq, Repr

/-- The row of R305 whose condition is met; a unit in NONE begins to join once its image has been applied (R308). -/
def downChange (s : State) : Option DownChange :=
  let live := on PAR.STS_LIVE 0 s
  let silent := decide (rd PAR.TIMING_TKO_N 0 s ≤ rd PAR.STS_SILENT 0 s)
  let q := rd PAR.TIMING_QUIET_N 0 s
  let l := s.pair.downFrames
  match role s with
  | 1 => if (on PAR.STS_READY 0 s && live && silent) || (home s && !live && decide (q + 2 ≤ l)) then some .takeover else none
  | 2 =>
    if s.pair.foreign then some .foreignYield
    else if (live && silent) || (!home s && !live && decide (q ≤ l)) || score s == 0 then some .silentYield
    else none
  | 0 => if !s.pair.imageApplied then none
         else if s.pair.joinSeen then some .watch
         else if home s && decide (q + 2 ≤ s.pair.quiet) then some .lightUp else none
  | _ => none

/-- LINK_DOWN_ROLE_CHANGE: at the first frame start after the condition is met. -/
def linkDownRoleChange (s : State) : State :=
  if !pairEn s || linkIsUp s then s
  else match downChange s with
    | some .takeover => s |> passToNextFrame |> takeOver |> bump PAR.TKO_CNT 0 |> pairCause 4 [] |> roleNext
    | some .silentYield => s |> passToNextFrame |> setRole 1 |> bump PAR.YIELD_CNT 0 |> pairCause 6 [] |> roleNext
    | some .foreignYield => s |> passToNextFrame |> setRole 1 |> bump PAR.FOREIGN_CNT 0 |> pairCause 9 [] |> roleNext
    | some .lightUp => s |> passToNextFrame |> setRole 2 |> cipherHold
    | some .watch => s |> passToNextFrame |> setRole 1
    | none => s

def execLinkDownRoleChange (s : State) : Host.Outcome State Fault Refusal := onIsland 224 s linkDownRoleChange

/-- STARTUP_EXPIRY (R290). -/
def startupExpiry (s : State) : State :=
  match s.pair.formedSince with
  | some t =>
    if rd PAR.CTL_PMODE 0 s = 1 ∧ rd PAR.CTL_STARTUP_S 0 s ≠ 0 then
      s |> passTo (t + rd PAR.CTL_STARTUP_S 0 s * 1000000000) |> wr PAR.CTL_PMODE 0 0 |> track
    else s
  | none => s

def execStartupExpiry (s : State) : Host.Outcome State Fault Refusal := onIsland 224 s startupExpiry

/-! Role commands (R310), a guarded register. -/

def roleCommand (op : Nat) (s : State) : Host.Outcome State Fault Refusal :=
  onIsland 224 s (guarded (regOffset .par 0 2) (2 ^ 31 + op * 2 ^ 24) (roleStart op))

def execRoleSwitchOver (s : State) : Host.Outcome State Fault Refusal := roleCommand 0 s
def execRoleEnterTest (s : State) : Host.Outcome State Fault Refusal := roleCommand 1 s
def execRoleLeaveTest (s : State) : Host.Outcome State Fault Refusal := roleCommand 2 s
def execRoleRejoin (s : State) : Host.Outcome State Fault Refusal := roleCommand 3 s

/-- A write of ROLE_CMD through the register path. -/
def roleCmdWrite (w : Nat) (s : State) : State :=
  if w / 2 ^ 31 % 2 = 1 then roleStart (w / 2 ^ 24 % 4) s else wr PAR.ROLE_CMD_OP 0 (w / 2 ^ 24 % 4) s

/-- R290: the image of a single unit has been applied: NONE becomes ACTIVE, but not after a thermal trip (R289). -/
def singleActive (s : State) : State := if !pairEn s && roleNone s && !s.rst.thermTrip then setRole 2 s else s

end Sys2Proof.Machine
end

