-- ==== Sys2Proof/Machine/Frame.lean ====
section
/-!
DEFINITION. FRAME_START (R43, R49, R249, R292): the start of a downstream frame at the pin of a tree.
-/

namespace Sys2Proof.Machine

/-- The next frame of tree n: the one after the last started, or the frame in progress in the frame timebase. -/
def startingFrame (n : Nat) (s : State) : Nat := max ((s.fram n).frame + 1) (framesNow s)

def frameStart (n : Nat) (s : State) : State :=
  let k := startingFrame n s
  s |> passToFrame (frameT0 k) |> pairFrameStart k |> frameStartFraming n k |> slotSwitch n k
    |> onlyIf (s.up 211 = true) (releaseHolds n)

def execFrameStart (n : Fin 48) (s : State) : Host.Outcome State Fault Refusal := onIsland (framingIsland n) s (frameStart n)

end Sys2Proof.Machine
end

