-- ==== Sys2Proof/Machine/Network.lean ====
section
/-!
DEFINITION. Network ports (12_network_timing.md, R261 to R268, R282 to R284): configuration, bring-up, link loss, FEC
windows, preemption verification and received frames.
-/

namespace Sys2Proof.Machine

def State.netPort (s : State) (n : Nat) : NetPort := Tbl.get {} s.ports n
def State.setNetPort (s : State) (n : Nat) (x : NetPort) : State := { s with ports := Tbl.set {} s.ports n x }

def netIsland (n : Nat) : Nat := 96 + n
def netCause (n bit : Nat) (s : State) : State := raise (96 + n) bit [] s

/-- R261: the lanes of a port of a speed, lane rate and mode; none where no row names it. -/
def netLanes (speed rate mode : Nat) : Option Nat :=
  match speed, rate with
  | 1, 0 => some 1
  | 1, 1 => some 2
  | 1, 2 => some 4
  | 2, 0 => some 2
  | 2, 1 => some 4
  | 3, 0 => some 4
  | 3, 1 => if mode < 2 then some 8 else none
  | 4, 0 => some 8
  | _, _ => none

/-- The lanes of the port whose first lane is n, as it is configured. -/
def portWidth (n : Nat) (s : State) : Nat :=
  (netLanes (rd NET.PORT_CFG_SPEED n s) (rd NET.PORT_CFG_LANE_RATE n s) (rd NET.PORT_CFG_MODE n s)).getD 1

def portLanes (n : Nat) (s : State) : List Nat := (List.range (portWidth n s)).map (n + ·)

/-- The enabled port that owns a lane, by its first lane. -/
def portOfLane (l : Nat) (s : State) : Option Nat :=
  (List.range 32).find? fun n => on NET.PORT_CFG_EN n s && (portLanes n s).contains l

/-- R283: the instance of a lane inside another port: port-level registers read 0 and take no write. -/
def otherLane (n : Nat) (s : State) : Bool :=
  match portOfLane n s with
  | some p => p != n
  | none => false

/-! Attempts (R264, R265). -/

/-- A new attempt: auto-negotiation in KR and CR modes with AN_EN, else training or adaptation at once. -/
def startAttempt (n : Nat) (s : State) : State :=
  let s := allOf (portLanes n s) (fun l => wr NET.LANE_STS_TRAINED l 0) s
  if 2 ≤ rd NET.PORT_CFG_MODE n s ∧ on NET.PORT_CFG_AN_EN n s = true then wr NET.STS_LT_STATE n 1 s
  else s.setNetPort n { s.netPort n with attempt := s.clk } |> wr NET.STS_LT_STATE n 2

/-- R267, R282: FEC_CFG as the next FEC window takes it. -/
def latchFec (n : Nat) (s : State) : State :=
  s.setNetPort n { s.netPort n with
    degSet := rd NET.FEC_CFG_DEG_SET n s, degClr := rd NET.FEC_CFG_DEG_CLR n s, sigEn := on NET.FEC_CFG_SIG_EN n s }

/-- R267: the PCS signals degraded service to the partner. -/
def signalsDegraded (n : Nat) (s : State) : Bool := on NET.STS_FEC_DEG n s && (s.netPort n).sigEn

/-- R265: the backoff after the m-th consecutive failure, ms. -/
def backoffMs (n m : Nat) (s : State) : Nat :=
  rd NET.LT_CFG_BO_BASE n s * 2 ^ min (m - 1) (rd NET.LT_CFG_BO_MAXEXP n s)

/-- An attempt fails: cause 10 timed out, 11 signal loss or reset. -/
def attemptFails (n bit : Nat) (s : State) : State :=
  let m := (s.netPort n).fails + 1
  let s := allOf (portLanes n s) (fun l => wr NET.LANE_STS_TRAINED l 0) s
  s.setNetPort n { s.netPort n with fails := m, backoff := s.clk + backoffMs n m s * 1000000 }
    |> wr NET.STS_LT_STATE n 4 |> wr NET.STS_LT_FAILS n (min m 31) |> bump NET.LT_FAIL_CNT n |> netCause n bit

/-- R266: link down; TMU acts by R231. -/
def linkGoesDown (n : Nat) (s : State) : State :=
  s |> wr NET.STS_LINK n 0 |> wr NET.STS_PCS_ALIGNED n 0 |> wr NET.STS_PREEMPT_ACT n 0 |> wr NET.STS_VERIFY n 0
    |> bump NET.LINK_DOWN_CNT n |> netCause n 9 |> tmuLinkDown n

/-- LINK_DOWN: alignment or signal lost, or a local fault; a new attempt starts without backoff. -/
def linkDown (n : Nat) (localFault : Bool) (s : State) : State :=
  if on NET.STS_LINK n s then
    s |> wr NET.STS_LOCAL_FAULT n (b2n localFault) |> onlyIf (localFault = true) (netCause n 12)
      |> linkGoesDown n |> startAttempt n
  else s

def execLinkDown (n : Fin 32) (localFault : Bool) (s : State) : Host.Outcome State Fault Refusal :=
  onIsland (netIsland n) s (linkDown n localFault)

/-! PORT_CFG (R262, R282). -/

/-- A refused configuration: CFG_ERR and cause 19. -/
def cfgRefused (n : Nat) (s : State) : State := s |> wr NET.STS_CFG_ERR n 1 |> netCause n 19 |> setVerdict 6 0

/-- The port a lane belongs to: that of its first lane, or the lane's own. -/
def ownerPort (n : Nat) (s : State) : Nat := (portOfLane n s).getD n

/-- R262: the configuration a write would enable is a row of R261, aligned, and its lanes are free. -/
def cfgAllowed (n w : Nat) (s : State) : Bool :=
  match netLanes (w / 2 ^ 28 % 8) (w / 2 ^ 26 % 4) (w / 2 ^ 24 % 4) with
  | none => false
  | some k => n % k == 0 && (List.range k).all fun i => (portOfLane (n + i) s).isNone

/-- PORT_CFG_WRITE. -/
def portCfgWrite (n w : Nat) (s : State) : State :=
  let en := w / 2 ^ 31 % 2 == 1
  let old := rdWord .net n 0 0 s
  if otherLane n s then if en then cfgRefused (ownerPort n s) s else encReject (regOffset .net n 0) w s
  else if on NET.PORT_CFG_EN n s then
    if w % 2 ^ 31 ≠ old % 2 ^ 31 then cfgRefused n s
    else if en then wr NET.STS_CFG_ERR n 0 s
    else
      let s := s |> wr NET.STS_CFG_ERR n 0 |> onlyIf (on NET.STS_LINK n s = true) (linkGoesDown n)
      allOf (portLanes n s) (fun l => wr NET.LANE_STS_TRAINED l 0) s |> wr NET.PORT_CFG_EN n 0
        |> wr NET.STS_LT_STATE n 0
  else if en && !cfgAllowed n w s then cfgRefused n s
  else
    let s := s |> wr NET.STS_CFG_ERR n 0 |> writeReg .net n 0 w
    if en then startAttempt n s else s

def execPortCfgWrite (n : Fin 32) (w : Word) (s : State) : Host.Outcome State Fault Refusal :=
  onIsland (netIsland n) s (portCfgWrite n w.toNat)

/-! Bring-up commands. -/

/-- AN_COMPLETE: training starts on every lane, and with it the limit. -/
def anComplete (n : Nat) (s : State) : State :=
  if rd NET.STS_LT_STATE n s = 1 then
    s.setNetPort n { s.netPort n with attempt := s.clk } |> wr NET.STS_LT_STATE n 2
  else s

def execAnComplete (n : Fin 32) (s : State) : Host.Outcome State Fault Refusal := onIsland (netIsland n) s (anComplete n)

/-- R268: verification starts at link up. -/
def startVerify (n : Nat) (s : State) : State :=
  if on NET.PORT_CFG_PREEMPT_EN n s then
    s.setNetPort n { s.netPort n with verifies := 1, verifyAt := s.clk } |> wr NET.STS_VERIFY n 1
  else s

/-- A lane of the port is in a test mode: it has left the port's service (R283). -/
def laneAway (n : Nat) (s : State) : Bool := (portLanes n s).any fun l => rd NET.LANE_TEST_MODE l s != 0

/-- LINK_UP (R264): every lane trained and the PCS aligned for 1 ms, which the attempt reaches 1 ms after its start at the
earliest, and within its 500 ms. -/
def linkUp (n : Nat) (s : State) : State :=
  let t := (s.netPort n).attempt
  if rd NET.STS_LT_STATE n s = 2 ∧ s.clk ≤ t + 500000000 ∧ laneAway n s = false then
    let s := passTo (t + 1000000) s
    let s := allOf (portLanes n s) (fun l => wr NET.LANE_STS_TRAINED l 1) s
    s.setNetPort n { s.netPort n with fails := 0 }
      |> wr NET.STS_LINK n 1 |> wr NET.STS_PCS_ALIGNED n 1 |> wr NET.STS_LOCAL_FAULT n 0 |> wr NET.STS_REMOTE_FAULT n 0
      |> wr NET.STS_LT_STATE n 3 |> wr NET.STS_LT_FAILS n 0 |> latchFec n |> netCause n 8 |> startVerify n
  else s

def execLinkUp (n : Fin 32) (s : State) : Host.Outcome State Fault Refusal := onIsland (netIsland n) s (linkUp n)

/-- LT_TIMEOUT (R265): the 500 ms of the attempt end. -/
def ltTimeout (n : Nat) (s : State) : State :=
  if rd NET.STS_LT_STATE n s = 2 then s |> passTo ((s.netPort n).attempt + 500000000) |> attemptFails n 10 else s

def execLtTimeout (n : Fin 32) (s : State) : Host.Outcome State Fault Refusal := onIsland (netIsland n) s (ltTimeout n)

/-- LT_SIGNAL_LOSS (R265). -/
def ltSignalLoss (n : Nat) (s : State) : State := if rd NET.STS_LT_STATE n s = 2 then attemptFails n 11 s else s

def execLtSignalLoss (n : Fin 32) (s : State) : Host.Outcome State Fault Refusal :=
  onIsland (netIsland n) s (ltSignalLoss n)

/-- BACKOFF_END (R265). -/
def backoffEnd (n : Nat) (s : State) : State :=
  if rd NET.STS_LT_STATE n s = 4 then s |> passTo (s.netPort n).backoff |> startAttempt n else s

def execBackoffEnd (n : Fin 32) (s : State) : Host.Outcome State Fault Refusal := onIsland (netIsland n) s (backoffEnd n)

/-- REMOTE_FAULT (R266). -/
def remoteFault (n : Nat) (s : State) : State :=
  if on NET.STS_LINK n s then s |> wr NET.STS_REMOTE_FAULT n 1 |> netCause n 13 else s

def execRemoteFault (n : Fin 32) (s : State) : Host.Outcome State Fault Refusal := onIsland (netIsland n) s (remoteFault n)

/-- FEC_WINDOW (R267): 2^20 codewords: corrected, uncorrectable, symbols corrected; judged on the thresholds that stood when it
began (R282). -/
def fecWindow (n corr uncorr sym : Nat) (s : State) : State :=
  if on NET.PORT_CFG_EN n s then
    let deg := on NET.STS_FEC_DEG n s
    s |> bumpBy NET.FEC_CORR_CNT n corr |> bumpBy NET.FEC_UNCORR_CNT n uncorr |> bumpBy NET.FEC_SYM_CNT n sym
      |> onlyIf (deg = false ∧ (s.netPort n).degSet ≤ sym) (fun s => s |> wr NET.STS_FEC_DEG n 1 |> netCause n 14)
      |> onlyIf (deg = true ∧ sym < (s.netPort n).degClr) (fun s => s |> wr NET.STS_FEC_DEG n 0 |> netCause n 15)
      |> latchFec n
  else s

def execFecWindow (n : Fin 32) (corr uncorr : BitVec 21) (sym : BitVec 24) (s : State) : Host.Outcome State Fault Refusal :=
  onIsland (netIsland n) s (fecWindow n corr.toNat uncorr.toNat sym.toNat)

/-- VERIFY_RESPONSE (R268). -/
def verifyResponse (n : Nat) (s : State) : State :=
  if rd NET.STS_VERIFY n s = 1 then s |> wr NET.STS_VERIFY n 2 |> wr NET.STS_PREEMPT_ACT n 1 |> netCause n 16 else s

def execVerifyResponse (n : Fin 32) (s : State) : Host.Outcome State Fault Refusal :=
  onIsland (netIsland n) s (verifyResponse n)

/-- VERIFY_TIMEOUT (R268): another verify mPacket, at most three, or the verification fails. -/
def verifyTimeout (n : Nat) (s : State) : State :=
  if rd NET.STS_VERIFY n s = 1 then
    let s := passTo ((s.netPort n).verifyAt + rd NET.PORT_CFG_VERIFY_MS n s * 1000000) s
    let x := s.netPort n
    if x.verifies < 3 then s.setNetPort n { x with verifies := x.verifies + 1, verifyAt := s.clk }
    else s |> wr NET.STS_VERIFY n 3 |> bump NET.VERIFY_FAIL_CNT n |> netCause n 17
  else s

def execVerifyTimeout (n : Fin 32) (s : State) : Host.Outcome State Fault Refusal :=
  onIsland (netIsland n) s (verifyTimeout n)

/-- NET_LANE_SIGNAL_CHANGE (R287): what lane n's receiver now has. -/
def laneSignal (n : Nat) (sig cdr : Bool) (s : State) : State :=
  let s0 := on NET.LANE_STS_SIG n s
  let c0 := on NET.LANE_STS_CDR_LOCK n s
  s |> wr NET.LANE_STS_SIG n (b2n sig) |> wr NET.LANE_STS_CDR_LOCK n (b2n cdr)
    |> onlyIf (s0 = true ∧ sig = false) (netCause n 0) |> onlyIf (s0 = false ∧ sig = true) (netCause n 1)
    |> onlyIf (c0 = true ∧ cdr = false) (netCause n 2)

def execNetLaneSignalChange (n : Fin 32) (sig cdr : Bool) (s : State) : Host.Outcome State Fault Refusal :=
  onIsland (netIsland n) s (laneSignal n sig cdr)

/-- A write of LANE_TEST: a lane put into a test mode leaves its port's service (R283). -/
def laneTestWrite (n w : Nat) (s : State) : State :=
  let s := writeReg .net n 7 w s
  if rd NET.LANE_TEST_MODE n s = 0 then s
  else match portOfLane n s with
    | some p => if on NET.STS_LINK p s then linkDown p false s else if rd NET.STS_LT_STATE p s = 2 then attemptFails p 11 s else s
    | none => s

/-! Received frames (R263, R277, R379). -/

/-- The pipelines in reset. -/
def deadPipes (s : State) : List Nat := (List.range 4).filter fun k => !s.up (207 + k)

/-- A frame for the pipelines; the wrapper of one in reset answers at once (R13, R183). -/
def toPipelines (n : Nat) (hdr : FrameHdr) (bytes : List Byte) (s : State) : State :=
  let res := (deadPipes s).foldl (fun t k => Tbl.set .pending t k .absent) ([] : Tbl ClsRes)
  let f : DsFrame := {
    no := s.merge.next, port := n, hdr := hdr, bytes := bytes, res := res
    stamp := rxStampNow n s }
  { s with merge := { frames := s.merge.frames ++ [f], next := s.merge.next + 1 } } |> allOf (deadPipes s) fun k => wrapperAnswer (207 + k)

/-- NET_FRAME_RX: the MAC of the port whose first lane is n; `bytes` without the FCS, which adds 4 to its length; `pt`: the
PTP time an IEEE 1914.3 frame's orderInfo names (R173). -/
def netFrameRx (n pt : Nat) (bytes : List Byte) (fcsOk : Bool) (s : State) : State :=
  let hdr := parseFrame pt bytes
  let len := bytes.length + 4
  if !on NET.STS_LINK n s then s
  else if decide (rd NET.PORT_CFG_MAX_FRAME n s < len) || decide (len < 64) then bump NET.RX_OVERSIZE_CNT n s
  else if !fcsOk then bump NET.RX_FCS_ERR_CNT n s
  else
    let ptp := match hdr.l3 with | .ptp => true | .ipv4 _ u => u | _ => false
    s |> bump NET.RX_FRAME_CNT n |> onlyIf (ptp = true) (bump NET.PTP_RX_CNT n)
      |> captureAt { point := 0, place := n, port := 0, bytes := bytes, len := bytes.length }
      |> toPipelines n hdr bytes

def execNetFrameRx (n : Fin 32) (pt : Nat) (bytes : List Byte) (fcsOk : Bool) (s : State) :
    Host.Outcome State Fault Refusal :=
  onIsland (netIsland n) s (netFrameRx n pt bytes fcsOk)

/-- A block reset reaches lane island n (R265, R266): its port's attempt ends, or its link goes down. -/
def netLaneReset (n : Nat) (s : State) : State :=
  match portOfLane n s with
  | some p =>
    if rd NET.STS_LT_STATE p s = 1 ∨ rd NET.STS_LT_STATE p s = 2 then attemptFails p 11 s
    else if on NET.STS_LINK p s then linkDown p false s else s
  | none => s

end Sys2Proof.Machine
end

