-- ==== Sys2Proof/Machine/Otp.lean ====
section
/-!
DEFINITION. The one-time-programmable memory (15_nvm_otp.md, R343 to R347): the fuses, their shadow, the settings in use, the
keys.
-/

namespace Sys2Proof.Machine

/-! CRC-32 (R343): IEEE 802.3, reflected. -/

def crc32Step : Nat → Nat → Nat
  | 0, c => c
  | n + 1, c => crc32Step n (if c % 2 = 1 then c / 2 ^^^ 0xEDB88320 else c / 2)

/-- The CRC-32 of words in ascending order, each least significant byte first. -/
def crc32 (l : List Nat) : Nat :=
  (wordsBytes l).foldl (fun c b => crc32Step 8 (c ^^^ b.toNat)) 0xFFFFFFFF ^^^ 0xFFFFFFFF

/-! Words. -/

/-- A word of the fuses; a word of the shadow. -/
def fuseWord (w : Nat) (s : State) : Nat := rdWord .otpFuse 0 w 0 s
def shWord (w : Nat) (s : State) : Nat := rdWord .otpSh 0 w 0 s

def fuseWords (a n : Nat) (s : State) : List Nat := (List.range n).map fun i => fuseWord (a + i) s
def shWords (a n : Nat) (s : State) : List Nat := (List.range n).map fun i => shWord (a + i) s

/-- Program bits of a fuse word: a bit is only ever set (R343). -/
def programFuse (w bits : Nat) (s : State) : State := wrWord .otpFuse 0 w 0 (fuseWord w s ||| bits) s

/-- Programming that is cut short leaves the word in progress as programmed so far: which of its bits took is open (R361). -/
def otpCut (s : State) : State :=
  match s.nvm.otpOp with
  | some { left := (w, bits) :: _, .. } =>
    let (v, s) := drawFree s
    programFuse w (bits &&& v) { s with nvm := { s.nvm with otpOp := none } }
  | _ => s

/-- A word as SH_DATA shows it: keys, CRC words, reserved words and trims read 0 (R343). -/
def shShown (w : Nat) (s : State) : Nat :=
  if w ≤ 2 ∨ (28 ≤ w ∧ w ≤ 137) ∨ (256 ≤ w ∧ w ≤ 383) then shWord w s else 0

/-! Settings generations (R346). -/

def genValid (l : List Nat) : Bool := l.getD 0 0 / 65536 == 0x5E77 && l.getD 31 0 == crc32 (l.take 31)
def allZero (l : List Nat) : Bool := l.all (· == 0)

/-- Generation g of the shadow. -/
def genWords (g : Nat) (s : State) : List Nat := shWords (256 + 32 * g) 32 s

def genDamaged (g : Nat) (s : State) : Bool := !genValid (genWords g s) && !allZero (genWords g s)

/-- The generation in use: the highest valid one. -/
def genInUse (s : State) : Option Nat := [3, 2, 1, 0].find? fun g => genValid (genWords g s)

/-- The built-in defaults of words 1 to 6. -/
def defaultWord (w : Nat) : Nat :=
  [0, 20 * 2 ^ 11 + 25, 0, 1024, 1024, 1 + 8, 0x0612DC05].getD w 0

/-- Bits hi to lo of settings word w in use. -/
def setting (w hi lo : Nat) (s : State) : Nat :=
  (match genInUse s with | some g => shWord (256 + 32 * g + w) s | none => defaultWord w) / 2 ^ lo % 2 ^ (hi + 1 - lo)

/-- Where a new generation goes: the lowest above the one in use whose fuses are all 0; none: frozen. -/
def nextGen (s : State) : Option Nat :=
  let from_ := match genInUse s with | some g => g + 1 | none => 0
  [0, 1, 2, 3].find? fun g => decide (from_ ≤ g) && allZero (fuseWords (256 + 32 * g) 32 s)

/-! Keys (R344): 0 check, 1 seal, 2 privilege. -/

def keyWords (i : Nat) (s : State) : List Nat := shWords (4 + 8 * i) 8 s
def keyAbsent (i : Nat) (s : State) : Bool := allZero (keyWords i s)
def keyBad (i : Nat) (s : State) : Bool := !keyAbsent i s && shWord (138 + i) s != crc32 (keyWords i s)
def keyValid (i : Nat) (s : State) : Bool := !keyAbsent i s && !keyBad i s

/-- A key as a number, its first word highest. -/
def keyNumber (i : Nat) (s : State) : Nat := (keyWords i s).foldl (fun a w => a * 2 ^ 32 + w) 0

/-! ARB, identity, pins. -/

def bitCount : Nat → Nat → Nat
  | 0, _ => 0
  | n + 1, w => w % 2 + bitCount n (w / 2)

/-- R345: the set bits of words 28 to 35. -/
def arbValue (s : State) : Nat := (shWords 28 8 s).foldl (fun a w => a + bitCount 32 w) 0

def deviceId (s : State) : Nat := shWord 1 s * 2 ^ 32 + shWord 0 s

/-- R347: the code of pin p in the fuses. -/
def fuseCode (p : Nat) (s : State) : Nat := fuseWord (36 + p / 10) s / 2 ^ (3 * (p % 10)) % 8

/-- OTP.STS (R363), but for BUSY. -/
def otpStatus (s : State) : Nat :=
  let mask := fun (f : Nat → Bool) (n : Nat) => (List.range n).foldl (fun a i => a + b2n (f i) * 2 ^ i) 0
  (genInUse s).getD 0 * 2 ^ 30 + b2n (genInUse s).isSome * 2 ^ 29 + b2n (nextGen s).isNone * 2 ^ 28 +
  mask (genDamaged · s) 4 * 2 ^ 24 + shWord 2 s / 2 ^ 31 * 2 ^ 23 +
  mask (keyValid · s) 3 * 2 ^ 20 + mask (keyBad · s) 3 * 2 ^ 17 + arbValue s

end Sys2Proof.Machine
end

