-- ==== Sys2Proof/Machine/Session.lean ====
section
/-!
DEFINITION. The USB4 port and the ends of sessions (16_command_interface.md, R366 to R369, R434): what other chapters'
resets and holds do to them.
-/

namespace Sys2Proof.Machine

def State.setCmd (s : State) (x : Cmd) : State := { s with cmd := x }

/-- A cause of source 183 that captures the session (R392). -/
def sessCause (bit i : Nat) (s : State) : State := raise 183 bit [i] s

/-- Privilege ends (R382). -/
def dropPrivilege (s : State) : State := s.setCmd { s.cmd with priv := false }

/-- A session leaves OPEN or FAULT for CLOSED: what waits in it is discarded, its capture stops, and session 0 loses its
privilege (R368, R369, R382). A table load goes on without a response. -/
def closeSession (i : Nat) (s : State) : State :=
  let x := s.session i
  s.setSession i { x with
    state := .closed, fifo := [], waiting := [], capture := none, mbakin := none
    load := x.load.map fun l => { l with tag := none } }
    |> onlyIf (i = 0) dropPrivilege

/-- The inbound stream of a session has lost alignment (R369, R370, R374). -/
def faultSession (i bit : Nat) (s : State) : State :=
  s.setSession i { s.session i with state := .fault, fifo := [] }
    |> onlyIf (i = 0) dropPrivilege |> bump CMD.PKT_ERR_CNT 0 |> sessCause bit i

/-- The port is enabled: USB4_EN, forced on while the device is held (R355, R390). -/
def usb4Enabled (s : State) : Bool := on CMD.CTL_USB4_EN 0 s || s.nvm.state == 4

/-- Islands 164 to 166 are out of reset. -/
def usb4Islands (s : State) : Bool := s.up 164 && s.up 165 && s.up 166

/-- The identity the PCIe endpoint reports (R426). -/
structure PciIdentity where
  vendor : Nat
  device : Nat
  subVendor : Nat
  subsystem : Nat
  class_ : Nat
  revision : Nat
  deriving DecidableEq, Repr

/-- R3, R426: the Subsystem ID tells the variants apart. -/
def endpointIdentity : PciIdentity where
  vendor := 0x1F5B
  device := 0x4850
  subVendor := 0x1F5B
  subsystem := if Config.variantE then 0x0001 else 0x0000
  class_ := 0x028000
  revision := 0x01

/-- What the host finds at the far end of the tunnel: the endpoint, while the link is in CL0 (R367, R434). -/
def hostSees (s : State) : Option PciIdentity := if 2 ≤ s.cmd.link then some endpointIdentity else none

/-- R434: lane initialisation starts once the islands are released and the port is enabled. -/
def linkStart (s : State) : State :=
  if s.cmd.link = 0 ∧ usb4Enabled s = true ∧ usb4Islands s = true then s.setCmd { s.cmd with link := 1 } else s

/-- R368: the tunnel is lost; `down`: the link itself goes down, and starts again where the port stays enabled. -/
def tunnelLoss (down : Bool) (s : State) : State :=
  if s.cmd.link < 2 then s.setCmd { s.cmd with link := if down then 0 else s.cmd.link } |> onlyIf (down = true) linkStart
  else
    s |> allOf (List.range 4) (fun i s => if (s.session i).state = .closed then s else closeSession i s)
      |> (fun s => s.setCmd { s.cmd with priv := false, link := if down then 0 else s.cmd.link })
      |> bump CMD.LINK_DOWN_CNT 0 |> raise 183 18 [] |> onlyIf (down = true) linkStart

/-- TUNNEL_LOSS: the link goes down, or the host tears down the path or resets the endpoint (R368). -/
def execTunnelLoss (down : Bool) (s : State) : Host.Outcome State Fault Refusal := onIsland 223 s (tunnelLoss down)

/-- USB4_LINK_UP (R434): the link enters CL0 at Gen 4 or Gen 3. -/
def usb4LinkUp (gen4 : Bool) (s : State) : State :=
  if s.cmd.link = 1 then
    s.setCmd { s.cmd with link := if gen4 then 3 else 2 } |> raise 183 17 [] |> onlyIf (gen4 = false) (raise 183 19 [])
  else s

def execUsb4LinkUp (gen4 : Bool) (s : State) : Host.Outcome State Fault Refusal := onIsland 223 s (usb4LinkUp gen4)

/-- USB4_LINK_REFUSED (R366): the host offers Gen 2 only. -/
def usb4LinkRefused (s : State) : State :=
  if s.cmd.link = 1 then s.setCmd { s.cmd with link := 0 } |> raise 183 20 [] else s

def execUsb4LinkRefused (s : State) : Host.Outcome State Fault Refusal := onIsland 223 s usb4LinkRefused

/-- A write of CTL.USB4_EN (R389): 1 to 0 loses the tunnel, 0 to 1 starts the link. -/
def usb4EnWrite (v : Nat) (s : State) : State :=
  let s := wr CMD.CTL_USB4_EN 0 v s
  if usb4Enabled s then linkStart s else tunnelLoss true s

/-- USB4_EN_WRITE. -/
def execUsb4EnWrite (v : BitVec 1) (s : State) : Host.Outcome State Fault Refusal := onIsland 223 s (usb4EnWrite v.toNat)

end Sys2Proof.Machine
end

