-- ==== Sys2Proof/Machine/System.lean ====
section
/-!
DEFINITION. System messaging (13_pair_system.md, R311, R312, R315, R316): the Mbakin messages the device sends, and the
peers it loses. What a received message does stands in MbakinRx.
-/

namespace Sys2Proof.Machine

def State.setSys (s : State) (x : SysSt) : State := { s with sys := x }

def sysCause (bit : Nat) (d : List Nat) (s : State) : State := raise 182 bit d s

/-- Mbakin works: SYS.CTL.EN, and the device has a system device number (R316). -/
def mbakinOn (s : State) : Bool := on SYS.CTL_EN 0 s && s.nvm.devnum.isSome

/-- The ports a message leaves by (R311). -/
def sysPorts (s : State) : List Nat := (List.range 32).filter fun n => maskHas (rd SYS.PORTS 0 s) n

/-- The 32-byte header of R311. -/
def messageHeader (m : MbakinSent) (reply : Bool) (s : State) : List Byte :=
  bytesOf 1 (16 + m.type) ++ bytesOf 1 (b2n m.redirected + 2 * b2n reply) ++ bytesOf 2 (s.nvm.devnum.getD 0) ++
  bytesOf 2 (m.dst.getD 0xFFFF) ++ bytesOf 1 m.expRole ++ bytesOf 1 m.role ++ bytesOf 4 m.epoch ++ bytesOf 4 m.expEpoch ++
  bytesOf 2 (rd PAR.PAIR_PAIR_ID 0 s) ++ bytesOf 2 m.seq ++ bytesOf 4 (ptpSec s) ++ bytesOf 4 (ptpNs s) ++ bytesOf 4 m.body.length

/-- Where a message goes: the group, or a device (R311). -/
def messageDst (m : MbakinSent) (s : State) : Nat :=
  match m.dst with
  | none => rd SYS.GRP_MAC_HI_MAC_HI 0 s * 2 ^ 32 + rd SYS.GRP_MAC_LO 0 s
  | some d => rd SYS.BASE_MAC_HI_MAC_HI 0 s * 2 ^ 32 + rd SYS.BASE_MAC_LO 0 s + d

/-- The Ethernet frame of a message, its FCS apart: addresses, tag, EtherType, header, body, check value (R311, log entry 72). -/
def messageFrame (m : MbakinSent) (reply : Bool) (s : State) : List Byte :=
  let covered := messageHeader m reply s ++ m.body
  bytesOf 6 (messageDst m s) ++ bytesOf 6 Config.mbakinSource ++ bytesOf 2 0x8100 ++
  bytesOf 2 (rd SYS.CTL_PCP 0 s * 2 ^ 13 + rd SYS.CTL_VID 0 s) ++ bytesOf 2 0x88B5 ++ covered ++
  bytesOf 8 (Config.cmac s.sys.key (covered.map (·.toNat)) / 2 ^ 64)

/-- A message is built and sent on every port of PORTS, in one control buffer of requester 16 that TMU holds once a port
(R195, R202, R311); without a buffer it is lost. The line adds its FCS (log entry 61). -/
def mbakinSend (type : Nat) (dst : Option Nat) (redirected reply : Bool) (expRole expEpoch : Nat) (body : List Byte)
    (s : State) : State :=
  if !mbakinOn s then s
  else
    let m : MbakinSent := {
      type := type, dst := dst, redirected := redirected, expRole := expRole, expEpoch := expEpoch
      seq := s.sys.seq, role := role s, epoch := rd PAR.EPOCH 0 s, body := body }
    let len := 58 + body.length
    let ps := sysPorts s
    let s := s.setSys { s.sys with seq := (s.sys.seq + 1) % 65536, last := some m } |> bump SYS.TX_CNT 0
    if ps = [] then s
    else match allocNow 16 true len ps.length (2 ^ 14) s with
      | (none, s) => s
      | (some h, s) =>
        let x := writeBuf 16 h 0 (messageFrame m reply s) s
        if x.1 && x.2.up 212 then allOf ps (fun p => tmuEnqueue p .system (some h) (len + 4) none) x.2
        else allOf ps (fun _ => freeHandle 14 h) (if x.1 then wrapperAnswer 212 x.2 else x.2)

/-- The body of a HEARTBEAT (R312). -/
def heartbeatBody (s : State) : List Byte :=
  wordsBytes [score s, rd PAR.STS_SYNC 0 s, rd PAR.STS_READY 0 s, rd TIM.STS_STATE 0 s, rd TIM.STS_FR_ALIGNED 0 s,
    framesNow s % 2 ^ 32, framesNow s / 2 ^ 32]

/-- MBAKIN_HEARTBEAT_SEND: every HB_MS, to all. -/
def heartbeatAll (s : State) : State :=
  if !mbakinOn s then s
  else
    let s := passTo (s.sys.lastHb + rd SYS.CTL_HB_MS 0 s * 1000000) s
    mbakinSend 1 none false false 0xFF 0 (heartbeatBody s) (s.setSys { s.sys with lastHb := s.clk })

def execMbakinHeartbeatSend (s : State) : Host.Outcome State Fault Refusal := onIsland 223 s heartbeatAll

/-- An event relay leaves the relay queue (R312, R315). -/
def relaySend (s : State) : State :=
  match s.ev.relay with
  | [] => s
  | b :: rest =>
    if s.up 223 && mbakinOn s && on SYS.CTL_RELAY_EN 0 s then
      mbakinSend 2 none false false 0xFF 0 (wordsBytes b) { s with ev := { s.ev with relay := rest } }
    else s

/-- PEER_LOST: HB_MISS periods without a HEARTBEAT of device p. -/
def peerLost (p : Nat) (s : State) : State :=
  if rdx PEER.ALIVE 0 p s = 0 then s
  else
    s |> passTo (Tbl.get 0 s.sys.heard p - 1 + rd SYS.CTL_HB_MISS 0 s * rd SYS.CTL_HB_MS 0 s * 1000000)
      |> wrx PEER.ALIVE 0 p 0 |> bump SYS.PEER_LOST_CNT 0 |> sysCause 0 [p]

def execPeerLost (p : BitVec 10) (s : State) : Host.Outcome State Fault Refusal := onIsland 223 s (peerLost p.toNat)

/-- A write of SYS.CTL: EN = 1 without a device number raises cause 10 (R316). -/
def sysCtlWrite (w : Nat) (s : State) : State :=
  s |> writeReg .sys 0 0 w |> onlyIf (maskHas w 31 = true ∧ s.nvm.devnum = none) (sysCause 10 [])

/-- SYS_CTL_WRITE. -/
def execSysCtlWrite (w : Word) (s : State) : Host.Outcome State Fault Refusal := onIsland 223 s (sysCtlWrite w.toNat)

/-- A write of KEY_DATA (R317, R319): words 0 to 2 are staged, word 3 commits the key. -/
def sysKeyWrite (w : Nat) (s : State) : State :=
  let k := rd SYS.KEY_IDX_WORD 0 s
  let st := s.sys.stage
  let s :=
    if k = 3 then
      s.setSys { s.sys with key := Tbl.get 0 st 0 * 2 ^ 96 + Tbl.get 0 st 1 * 2 ^ 64 + Tbl.get 0 st 2 * 2 ^ 32 + w }
    else s.setSys { s.sys with stage := Tbl.set 0 st k w }
  stepIndex SYS.KEY_IDX_AUTO_INC SYS.KEY_IDX_WORD 0 4 s

/-- SYS_KEY_COMMIT: a guarded register. -/
def execSysKeyCommit (w : Word) (s : State) : Host.Outcome State Fault Refusal :=
  onIsland 223 s (guarded (regOffset .sys 0 9) w.toNat (sysKeyWrite w.toNat))

/-- ms since the last HEARTBEAT of a peer, saturating (R319). -/
def peerAge (p : Nat) (s : State) : Nat :=
  match Tbl.get 0 s.sys.heard p with
  | 0 => 0
  | t + 1 => min 65535 ((s.clk - t) / 1000000)

/-- A read of PEER_DATA. -/
def peerRead (s : State) : Nat × State :=
  let p := rd SYS.PEER_IDX_PEER 0 s
  let w := rd SYS.PEER_IDX_WORD 0 s
  (if w = 2 then peerAge p s else rdWord .peer 0 p w s,
   advanceIndex SYS.PEER_IDX_AUTO_INC SYS.PEER_IDX_WORD SYS.PEER_IDX_PEER 0 3 1024 s)

end Sys2Proof.Machine
end

