-- ==== Sys2Proof/Machine/Assert.lean ====
section
/-!
DEFINITION. What a reset does to the islands it covers (R8, R324): the words of each island by their reset classes, what the
island holds beside its registers, and the neighbours (R52, R65, R117, R144, R207, R208, R255, R265, R269, R389).
-/

namespace Sys2Proof.Machine

/-- The phase an island leaves reset in (R329). -/
def phaseOf (i : Nat) : Nat :=
  if i = 224 ∨ i = 160 ∨ i = 162 then 0
  else if i = 225 ∨ i = 223 ∨ i = 222 ∨ (164 ≤ i ∧ i ≤ 166) then 1
  else if 207 ≤ i ∧ i ≤ 221 then 2
  else if 167 ≤ i ∧ i ≤ 206 then 3
  else 4

/-- The islands the sentinel feeds supply (R11, R309). -/
def onSentinelFeeds (i : Nat) : Bool := i == 160 || i == 162 || i == 224

/-- The island that holds a word (R411, R412); none for the flash, the fuses and the shadow. -/
def homeOf (sp : Sp) (i w : Nat) : Option Nat :=
  match sp with
  | .preset => some (48 + i)
  | .tln | .tfr | .tfrT | .act | .actT | .brood => some (167 + i / 6)
  | .pool => some 183
  | .dec => some (183 + i)
  | .enc => some (199 + i)
  | .grt | .ctx | .prof => some (175 + i / 6)
  | .cell => some (175 + i / 12)
  | .gsq | .imem | .dmem => some (175 + i)
  | .crl | .lane | .hdr => some 220
  | .ohp | .chan => some 221
  | .cls | .emD | .cAction | .cPort | .cVid | .cDomain | .cGroup | .cMember | .cMeter | .cLimit => some (207 + i)
  | .lpm | .lpmD | .sys | .peer | .cmd | .ringc | .sess | .evt | .src | .pmu | .pmuC => some 223
  | .bpm => some (if w = 18 ∨ w = 20 then 214 else if w = 19 ∨ w = 21 then 215 else 213)
  | .quota => some 213
  | .tmd => some 211
  | .node | .nodeC => some (if i < 320 then 211 else 212)
  | .tmu | .tmuPort | .gcl => some 212
  | .cph | .flow => some (218 + i)
  | .cphPort => some (218 + i / 48)
  | .net => some (if w = 8 ∨ w = 9 then 128 + i else 96 + i)
  | .tim => some 222
  | .par | .rst | .clk => some 224
  | .nvm | .nvmBuf | .otp | .otpP => some 225
  | .flash | .otpFuse | .otpSh => none

/-- A field whose row lists class `f` is restored by a reset of class `r` (R8). -/
def restores : Cls → Cls → Bool
  | .c, _ => true
  | .cw, .c => false
  | .cw, _ => true
  | .cwb, .cwb => true
  | .cwb, _ => false

/-- A word after a reset of class `r`; a word of a plain RAM is cleared. -/
def resetWord (r : Cls) (k : Key) (w : Word) : Word :=
  match regDesc k.sp k.word with
  | some d => d.fields.foldl (fun w f => if restores r f.cls then setBitsOf w f.hi f.lo f.reset else w) w
  | none => k.reset

/-- The words of the islands `is` after a reset of class `r`. -/
def resetStore (r : Cls) (is : Nat → Bool) (m : Store) : Store :=
  m.filterMap fun e =>
    match homeOf e.1.sp e.1.inst e.1.word with
    | some i =>
      if is i then
        let w := resetWord r e.1 e.2
        if w = e.1.reset then none else some (e.1, w)
      else some e
    | none => some e

/-- The entries of a table whose key lies outside [a, b). -/
def outside {α : Type} (a b : Nat) (t : Tbl α) : Tbl α := t.filter fun e => decide (e.1 < a ∨ b ≤ e.1)

/-- The requesters of an island (R202). -/
def requestersOf (i : Nat) : List Nat :=
  if 207 ≤ i ∧ i ≤ 210 then [i - 206]
  else if 167 ≤ i ∧ i ≤ 174 then [i - 162]
  else if i = 211 then [13]
  else if i = 212 then [14]
  else if i = 213 then [0]
  else if i = 222 then [17]
  else if i = 223 then [15, 16, 18]
  else []

/-- A codeword lost in a decoder that enters reset: the island's wrapper answers it, and it counts as uncorrectable (R13,
R65, R72). -/
def loseCodeword (j : Nat) (c : Cw) (s : State) : State :=
  s |> wrapperAnswer (183 + j) |> raise (136 + j) 1 [] |> uncorrectable c

/-- A decoder that enters reset leaves service and loses its codewords. -/
def loseDecoder (j : Nat) (s : State) : State :=
  let lost := Tbl.get [] s.pool.holding j
  let s := setPool { s.pool with
    busy := Tbl.set 0 s.pool.busy j 0, holding := Tbl.set [] s.pool.holding j [], check := Tbl.set none s.pool.check j none } s
  s |> allOf lost (fun c => loseCodeword j c.1) |> leaveService j

/-- A downstream frame that pipeline k has not answered misses there (R183). -/
def loseResult (k : Nat) (f : DsFrame) : DsFrame :=
  match Tbl.get .pending f.res k with
  | .pending => { f with res := Tbl.set .pending f.res k .absent }
  | .second => { f with res := Tbl.set .pending f.res k .absent }
  | _ => f

/-- What a tree lane keeps while its receive island is reset: what the framing island and the transmitter hold of it (R27, R31,
R33, R34), and its preset memory (R23). -/
def pinSide (l : Lane) : Lane :=
  { dropped := l.dropped, learned := l.learned, exitStart := l.exitStart, rejected := l.rejected, lastRejected := l.lastRejected, sdLow := l.sdLow, sdRun := l.sdRun
    sdSince := l.sdSince, sdFrom := l.sdFrom, sdStuck := l.sdStuck }

/-- What a tree lane keeps while its framing island is reset. -/
def laneSide (l : Lane) : Lane :=
  { l with rejected := [], lastRejected := 0, sdLow := true, sdRun := 0, sdSince := 0, sdFrom := 0, sdStuck := false }

/-- The frames a queue keeps when the buffers are dropped: those without one, and a head that is leaving. -/
def keepFrames (x : NodeX) : List QFrame :=
  (if x.cut then x.frames.take 1 else []) ++ (if x.cut then x.frames.drop 1 else x.frames).filter fun f => f.handle.isNone

/-- The charge of a frame in its queue (R218). -/
def queuedCharge (d : Node) (f : QFrame) : Nat := if d.inst < 320 then xgemBytes f.len else f.len + 20

/-- A queue loses the frames whose buffers are gone. -/
def loseFrames (d : Node) (s : State) : State :=
  let x := s.node d
  let keep := keepFrames x
  s.setNode d { x with frames := keep, elig := x.elig && !keep.isEmpty }
    |> nwr NODE.DEPTH d ((keep.map (queuedCharge d)).foldl (· + ·) 0)

/-- A transmission, or the rest of a cut frame, goes on without its buffer. -/
def loseTx (x : TmuPort) : TmuPort :=
  { x with
    cur := x.cur.map fun t => { t with handle := none }
    rest := x.rest.map fun e => (e.1, e.2.map fun r => { r with handle := none }) }

/-- R208: the buffer manager drops every buffer, and the requesters discard what they held, without a FREE. -/
def dropHandles (s : State) : State :=
  let trees := (List.range 48).filter fun n => !(busyQueues n s).isEmpty
  let busy := (s.queues.nodes.filter fun e => !e.2.frames.isEmpty).map fun e => Node.ofKey e.1
  let s := { s with
    framing := s.framing.map fun e => (e.1, { e.2 with reasm := [], upstream := e.2.upstream.filter fun u => u.handle == 0 })
    upSdus := s.upSdus.filter fun u => u.handle == 0
    cls := s.cls.map fun e => (e.1, { e.2 with seconds := e.2.seconds.filter fun x => match x.frame with
      | .inl _ => true
      | .inr u => u.handle == 0 })
    queues := { s.queues with
      trees := s.queues.trees.map fun e => (e.1, { e.2 with leaving := e.2.leaving.map fun l => (l.1, none, l.2.2) })
      ctHeld := s.queues.ctHeld.filter fun h => h.frame.handle.isNone
      ports := s.queues.ports.map fun e => (e.1, loseTx e.2) } }
  s |> allOf busy loseFrames |> allOf trees settleTree
    |> allOf ((List.range 32).filter fun p => busy.any fun d => d.inst == 320 + p) settlePort

/-- A TMD in reset returns nothing: SDUs it was still to hand over stay idle, and nothing leads the next frame (R13, R234). -/
def tmdDown (s : State) : State :=
  allOf (List.range 48) (fun n s =>
    let read := fun (x : Sdu) => !sduUnread n x s
    s |> loseSdus n (fun x => !read x) |> fun s => s.setFram n { s.fram n with carried := none }) s

/-- A downstream cipher in reset answers nothing: the SDUs handed to it are lost (R13). -/
def dsCipherDown : State → State := allOf (List.range 48) fun n => loseSdus n fun _ => true

/-- An upstream cipher in reset: the SDUs handed to it are lost and their buffers freed; one that leaves cut-through while its
check is still to come ends stomped, and a stored one is discarded (R13, R251; log entry 121). -/
def usCipherDown (checks : List TagCheck) (s : State) : State :=
  s |> allOf checks (fun t s => s |> stompSdu t.iv |> dropSdu t.iv)
    |> allOf (List.range 48) (fun n s =>
      (s.setFram n { s.fram n with upstream := [] }) |> allOf (s.fram n).upstream fun u => freeSdu n u.handle)

/-- What waits in a cipher island is lost with it. -/
def cipherDown (i : Nat) (checks : List TagCheck) : State → State := if i = 218 then dsCipherDown else usCipherDown checks

/-- Without the requests of requester r. -/
def dropRequests (r : Nat) (t : Tbl (List AllocReq)) : Tbl (List AllocReq) := t.map fun e => (e.1, e.2.filter fun q => q.req != r)

/-- What island i holds beside its words, after a reset of class r. -/
def clearHidden (r : Cls) (i : Nat) (s : State) : State :=
  if i < 48 then s |> wr TLN.STS_TX_STATE i 0 |> cutFrame i
  else if i < 96 then s.setLane (i - 48) (pinSide (s.lane (i - 48)))
  else if i < 128 then s.setNetPort (i - 96) {}
  else if i < 160 then { s with txts := Tbl.set {} s.txts (i - 128) {} }
  else if i = 160 ∨ i = 162 then s |> wr PAR.STS_P0_UP 0 0 |> partnerLinkDown
  else if i = 161 ∨ i = 163 then wr PAR.STS_P1_UP 0 0 s
  else if i < 167 then tunnelLoss true s
  else if i < 175 then
    let a := 6 * (i - 167)
    { s with framing := outside a (a + 6) s.framing, act := outside a (a + 6) s.act
             terms := outside (a * 512) ((a + 6) * 512) s.terms
             lanes := s.lanes.map fun e => (e.1, if a ≤ e.1 ∧ e.1 < a + 6 then laneSide e.2 else e.2)
             pool := { s.pool with queue := Tbl.set [] s.pool.queue (i - 167) [] } }
  else if i < 183 then
    let k := i - 175
    { s with grt := outside (6 * k) (6 * k + 6) s.grt, clusters := outside k (k + 1) s.clusters
             threads := outside (4 * k) (4 * k + 4) s.threads }
  else if i < 199 then
    if r = .cwb then loseDecoder (i - 183) s else setPool {} s
  else if i < 207 then { s with encoders := outside (i - 199) (i - 198) s.encoders }
  else if i < 211 then
    let k := i - 207
    { s with
        cls := outside k (k + 1) s.cls
        upSdus := s.upSdus.filter fun u => u.tree / 12 != k
        merge := { s.merge with frames := s.merge.frames.map (loseResult k) } }
  else if i = 211 then
    let q := { s.queues with nodes := outside 0 (320 * 8192) s.queues.nodes, trees := [], stage := outside 0 1 s.queues.stage }
    { tmdDown s with queues := q }
  else if i = 212 then
    let kept := s.queues.nodes.filter fun e => decide (e.1 < 320 * 8192)
    { s with queues := { s.queues with nodes := kept, ports := [], ctHeld := [], stage := outside 1 2 s.queues.stage } }
  else if i = 213 then
    let lock := on BPM.CTL_LOCK 0 s
    { s with
        bpm := { ueAt := s.bpm.ueAt, retraining := s.bpm.retraining, building := if lock then some s.clk else none }, merge := {}
        ev := { s.ev with asks := [] } }
      |> bumpBy EVT.NOBUF_CNT 0 s.ev.asks.length
      |> onlyIf (lock = true) (wr BPM.STS_INIT_BUSY 0 1) |> dropHandles
  else if i = 216 ∨ i = 217 then wr (BPM.HBM_STS0_READY.at (i - 216)) 0 0 s
  else if i = 218 ∨ i = 219 then
    let x := s.cph (i - 218)
    (s.setCph (i - 218) (if r = .cwb then { x with tStage := [], fStage := [], rStage := [], tagChecks := [] } else {}))
      |> cipherDown i x.tagChecks
  else if i = 220 then { s with crl := [] }
  else if i = 221 then { s with ohp := {} }
  else if i = 223 then
    { s with
        sess := [], pmu := [], lpm := { pfxs := if r = .cwb then s.lpm.pfxs else [] }, sys := {}
        cmd := { link := s.cmd.link, wotDone := s.cmd.wotDone, source := s.cmd.source }
        ev := { s.ev with srcx := [], relay := [], pulse := [], asks := [] }
        bpm := { s.bpm with queue := dropRequests 18 s.bpm.queue, waiting := dropRequests 18 s.bpm.waiting } }
  else if i = 224 then { s with pair := {} }
  else s

/-- A lane island that stops takes its port's attempt or link with it (R265, R266). -/
def laneStops (i : Nat) (s : State) : State :=
  if 96 ≤ i ∧ i < 128 then netLaneReset (i - 96) s
  else if 128 ≤ i ∧ i < 160 then netLaneReset (i - 128) s
  else s

/-- R324: the islands `is` enter reset of class `r`. A block reset meets the neighbours of each island first. -/
def assertReset (r : Cls) (is : List Nat) (s : State) : State :=
  let s := if r = .cwb then allOf is (fun i s => s |> laneStops i |> (fun s =>
    if s.up 213 && i != 213 then reclaimStart (requestersOf i) s else s)) s else s
  let s := allOf is (fun i s => s.setIsland i { s.island i with up := false, configured := false }) s
  let s := { s with
    mem := resetStore r (fun i => is.contains i) s.mem
    ev := { s.ev with mem := resetStore r (fun i => is.contains i) s.ev.mem } }
  let s := allOf is (clearHidden r) s
  onlyIf (is.contains 223 = true) (fun s => wr CMD.CTL_USB4_EN 0 (1 - setting 5 1 1 s) s) s

end Sys2Proof.Machine
end

