-- ==== Sys2Proof/Machine/AddressMap.lean ====
section
/-!
DEFINITION. The address map of BAR0 (18_address_map.md, R410 to R417): which register an offset names, which island holds it,
and which registers are guarded (R383).
-/

namespace Sys2Proof.Machine

/-- A block of registers: space, base, instances, stride (R411, R412). -/
structure Block where
  sp : Sp
  base : Nat
  count : Nat
  stride : Nat
  deriving DecidableEq, Repr

/-- The blocks of R411 and R412. -/
def blocks : List Block :=
  [⟨.cmd, 0x40000, 1, 0x1000⟩, ⟨.ringc, 0x40000, 1, 0x1000⟩, ⟨.sess, 0x40100, 4, 0x40⟩, ⟨.lpm, 0x41000, 1, 0x1000⟩,
   ⟨.sys, 0x42000, 1, 0x1000⟩, ⟨.pmu, 0x44000, 1, 0x100⟩, ⟨.pmuC, 0x44100, 64, 0x20⟩, ⟨.evt, 0x48000, 1, 0x1000⟩,
   ⟨.src, 0x49000, 256, 0x40⟩, ⟨.tln, 0x100000, 48, 0x100⟩, ⟨.tfr, 0x110000, 48, 0x100⟩, ⟨.act, 0x120000, 48, 0x100⟩] ++
  [⟨.grt, 0x130000, 48, 0x100⟩, ⟨.pool, 0x140000, 1, 0x100⟩, ⟨.dec, 0x140100, 16, 0x10⟩, ⟨.enc, 0x140200, 8, 0x10⟩,
   ⟨.gsq, 0x150000, 8, 0x100⟩, ⟨.crl, 0x160000, 1, 0x100⟩, ⟨.cls, 0x170000, 4, 0x100⟩, ⟨.bpm, 0x180000, 1, 0x100⟩,
   ⟨.tmd, 0x190000, 1, 0x1000⟩, ⟨.tmu, 0x191000, 1, 0x1000⟩, ⟨.tmuPort, 0x191000, 1, 0x1000⟩, ⟨.cph, 0x1A0000, 2, 0x1000⟩] ++
  [⟨.net, 0x1B0000, 32, 0x100⟩, ⟨.tim, 0x1C0000, 1, 0x100⟩, ⟨.ohp, 0xF00000, 8, 0x100⟩, ⟨.par, 0xF10000, 1, 0x1000⟩,
   ⟨.rst, 0xF11000, 1, 0x1000⟩, ⟨.clk, 0xF12000, 1, 0x1000⟩, ⟨.nvm, 0xF20000, 1, 0x1000⟩, ⟨.otp, 0xF21000, 1, 0x1000⟩]

/-- The register of a block at an offset: instance and word. -/
def Block.at (b : Block) (ofs : Nat) : Option (Sp × Nat × Nat) :=
  if ofs < b.base then none
  else
    let i := (ofs - b.base) / b.stride
    let w := (ofs - b.base) % b.stride / 4
    if i < b.count ∧ (regDesc b.sp w).isSome then some (b.sp, i, w) else none

/-- The register an MMIO offset names (R413). -/
def mmioAt (ofs : Nat) : Option (Sp × Nat × Nat) :=
  if ofs % 4 = 0 then blocks.findSome? (Block.at · ofs) else none

/-- The register an offset names for a command, a record or the indirect pair: the pair itself is unmapped (R417). -/
def regAt (ofs : Nat) : Option (Sp × Nat × Nat) := if 0x40008 ≤ ofs ∧ ofs ≤ 0x40010 then none else mmioAt ofs

/-- The region that MMIO reaches only through the indirect pair (R385, R410). -/
def indirectOnly (ofs : Nat) : Bool := decide (0xF00000 ≤ ofs)

/-- The island in whose register range an offset falls (R414). -/
def rangeOf (ofs : Nat) : Option Nat :=
  match regAt ofs with
  | some (sp, i, w) => homeOf sp i w
  | none => none

/-- The guarded registers (R383). -/
def isGuarded (sp : Sp) (w : Nat) : Bool :=
  match sp with
  | .tln => TLN.FORCE_TXDIS_FORCE.word == w
  | .act => w == ACT.KEY_IDX_TERM.word || w == ACT.KEY_DATA.word
  | .cph =>
    [CPH.TKEY_IDX_TREE, CPH.TKEY_DATA, CPH.FKEY_IDX_FLOW, CPH.FKEY_DATA, CPH.RING_IDX_ENTRY, CPH.RING_DATA,
      CPH.REKEY_GO, CPH.INV_START_START].any fun f => f.word == w
  | .tim => w == TIM.ADJ_CMD_GO.word || w == TIM.SET_SEC.word || w == TIM.SET_SEC_HI_SEC_HI.word
  | .par => w == PAR.ROLE_CMD_GO.word
  | .sys => w == SYS.KEY_IDX_WORD.word || w == SYS.KEY_DATA.word
  | .rst => w == RST.CMD_GO.word || w == RST.PIN_OVR_OVR.word
  | .nvm => w == NVM.CMD_GO.word
  | .otp => w == OTP.CMD_GO.word || w == OTP.PDATA_IDX_WORD.word || w == OTP.PDATA.word
  | _ => false

/-- An access to an offset that names no register: counted, IND_STS.BAD_ADDR, cause 5, nothing else (R385, R413). -/
def unmapped (ofs v : Nat) (s : State) : State :=
  s |> bump CMD.BAD_ADDR_CNT 0 |> wr CMD.IND_STS_BAD_ADDR 0 1 |> accessCause 5 ofs v |> setVerdict 3 0

end Sys2Proof.Machine
end

