-- ==== Sys2Proof/Machine/Classify.lean ====
section
/-!
DEFINITION. Classification, learning and the merge stage (08_classification.md, R172 to R193): the meanings of rows
CLS_FRAME to TABLE_ENTRY_COMMIT.
-/

namespace Sys2Proof.Machine

/-! Meters (R186) and actions (R185). -/

/-- Tokens of a meter now, in 1/8,000 byte: CIR Mbit/s is CIR of these a ns. -/
def meterNow (k m : Nat) (s : State) : Nat :=
  let x := Tbl.get (0, 0) (s.pipe k).meters m
  min (x.1 + (s.clk - x.2) * rdx CMETER.CIR k m s) (rdx CMETER.CBS k m s * 8000)

def setMeter (k m tokens : Nat) (s : State) : State :=
  s.setPipe k { s.pipe k with meters := Tbl.set (0, 0) (s.pipe k).meters m (tokens, s.clk) }

/-- R172: the action fetch of a slot. -/
def fetchAct (k a : Nat) (s : State) : ActWords :=
  { w0 := rdWord .cAction k a 0 s, w1 := rdWord .cAction k a 1 s, w2 := rdWord .cAction k a 2 s }

def ActWords.field (w : ActWords) (f : Fld) : Nat :=
  (if f.word = 0 then w.w0 else if f.word = 1 then w.w1 else w.w2) / 2 ^ f.lo % 2 ^ (f.hi + 1 - f.lo)

/-- Meter a frame: whether it passes. A meter that is not VALID does not meter. -/
def meterPass (k : Nat) (a : ActWords) (len : Nat) (s : State) : Bool × State :=
  let m := a.field CACTION.METER
  if a.field CACTION.METER_EN = 0 ∨ rdx CMETER.VALID k m s = 0 then (true, s)
  else
    let t := meterNow k m s
    if len * 8000 ≤ t then (true, setMeter k m (t - len * 8000) s) else (false, bump CLS.METER_DROP_CNT k s)

/-- The length of a frame after the action's VLAN operation. -/
def vopLen (a : ActWords) (len : Nat) (tagged : Bool) : Nat :=
  match a.field CACTION.VOP with
  | 1 => len + 4
  | 2 => if tagged then len - 4 else len
  | _ => len

/-- The action's VLAN operation with the tag control field of push and swap (R185). -/
def vopEdit (a : ActWords) : Nat × Nat := (a.field CACTION.VOP, a.field CACTION.PCP * 2 ^ 13 + a.field CACTION.VID)

/-- A mirror or host-only copy that finds no session open for it (R185). -/
def mirrorDrop (k : Nat) (s : State) : State := s |> bump CLS.MIRROR_DROP_CNT k |> pipeCause k 11 []

/-- The mirror or host-only copy of an upstream frame, with the frame's cipher status (R185, R245, R379). -/
def hostCopy (k : Nat) (u : UpFrame) (s : State) : State :=
  match openSession SESS.CTL_CAP_EN s with
  | none => mirrorDrop k s
  | some _ => captureCopy 16352 {
      point := 4, place := u.tree, port := u.port, bytes := u.bytes, len := u.bytes.length, iv := u.iv, status := u.status } s

/-- The members of a group in the pipeline's own trees (R185). -/
def groupMembers (k g : Nat) (s : State) : List (Nat × Nat) :=
  if rdx CGROUP.VALID k g s = 0 then []
  else ((List.range (rdx CGROUP.COUNT k g s)).map fun i => (rdx CGROUP.FIRST k g s + i) % 2 ^ 18).filterMap fun m =>
    if rdx CMEMBER.VALID k m s = 1 ∧ rdx CMEMBER.TREE k m s / 12 = k then
      some (rdx CMEMBER.TREE k m s, rdx CMEMBER.PORT k m s)
    else none

def ActWords.tree (a : ActWords) : Nat := a.w2 / 2 ^ 16 % 64
def ActWords.port (a : ActWords) : Nat := a.w2 % 2 ^ 16

/-! Results of a downstream frame. -/

def setRes (k no : Nat) (r : ClsRes) (s : State) : State :=
  { s with merge := { s.merge with frames := s.merge.frames.map fun f =>
      if f.no = no then { f with res := Tbl.set .pending f.res k r } else f } }

/-- The continuation key (R175, R179). -/
def longKey (cidx clen low : Nat) : Nat := cidx * 2 ^ 70 + (clen - 65) * 2 ^ 64 + low / 2 ^ (128 - clen) * 2 ^ (128 - clen)

/-- A routed lookup (R174, R178, R179): the action, or a second slot with its key and the /64 action; none on a miss. -/
inductive Route where
  | miss | action (a : Nat) | second (key a : Nat)
  deriving DecidableEq, Repr

def route (k : Nat) (l : L3) (s : State) : Route :=
  match l with
  | .ipv4 d _ => match lpm k false d.toNat s with | some p => .action p.action | none => .miss
  | .ipv6 d =>
    match lpm k true (d.toNat / 2 ^ 64) s with
    | some p => match p.cont with
      | some (c, n) => .second (longKey c n (d.toNat % 2 ^ 64)) p.action
      | none => .action p.action
    | none => .miss
  | _ => .miss

def pushSecond (k : Nat) (x : Second) (s : State) : State :=
  s.setPipe k { s.pipe k with seconds := (s.pipe k).seconds ++ [x] }

/-- R173 orders 1 and 2. -/
def trapDown (h : FrameHdr) (s : State) : Bool :=
  match h.l3 with
  | .mbakin => h.tagged && h.vid.toNat == rd SYS.CTL_VID 0 s
  | .ptp => true
  | .ipv4 _ udp => udp
  | _ => false

/-- R174: the looked-up downstream frame. -/
def lookupDown (k : Nat) (f : DsFrame) (s : State) : State :=
  let v := f.hdr.vid.toNat
  if rdx CVID.VALID k v s = 0 then s |> bump CLS.VID_MISS_CNT k |> pipeCause k 12 [] |> setRes k f.no .dropped
  else
    let d := rdx CVID.DOMAIN k v s
    match f.hdr.l3 with
    | .roe flow _ _ =>
      match emFind k 2 (d * 256 + flow.toNat) s with
      | some i => s |> setHit k i |> setRes k f.no (.action (fetchAct k (emAt k i s).result s))
      | none => s |> bump CLS.ACT_DROP_CNT k |> setRes k f.no .dropped
    | l =>
      if rdx CDOMAIN.VALID k d s = 1 ∧ rdx CDOMAIN.ROUTED k d s = 1 then
        match route k l s with
        | .action a => setRes k f.no (.action (fetchAct k a s)) s
        | .second key a =>
          s |> pushSecond k { key := key, action := fetchAct k a s, frame := .inl f.no } |> setRes k f.no .second
        | .miss => setRes k f.no (.action (fetchAct k (rdx CDOMAIN.LPM_DEF k d s) s)) s
      else
        let key := d * 2 ^ 48 + f.hdr.dst.toNat
        match emFind k 1 key s with
        | none => setRes k f.no (.miss (if rdx CDOMAIN.VALID k d s = 1 then some (rdx CDOMAIN.FLOOD k d s) else none)) s
        | some i =>
          let e := emAt k i s
          if e.fixed then s |> setHit k i |> setRes k f.no (.fixedHit (fetchAct k e.result s))
          else setRes k f.no (.learned key e.stamp (12 * k + e.tree) e.port) s

def classifyDown (k : Nat) (s : State) : State :=
  match s.merge.frames.find? fun f => Tbl.get .pending f.res k == .pending with
  | none => s
  | some f =>
    let s := takeLane k s
    if trapDown f.hdr s then s |> bump CLS.TRAP_CNT k |> setRes k f.no .trapped
    else lookupDown k f s

/-! Upstream frames. -/

def freeUp (k : Nat) (u : UpFrame) (s : State) : State := if u.handle = 0 then s else freeHandle (1 + k) u.handle s

/-- R199, R206: the frame gets its buffer, held for TMU alone, or its pair is shared with TMU; a frame whose bytes cannot be
stored is discarded. -/
def bufferForTmu (k : Nat) (u : UpFrame) (len : Nat) (bytes : List Byte) (s : State) : Option Nat × State :=
  if u.handle = 0 then
    match allocNow (1 + k) false len 1 (2 ^ 14) s with
    | (none, s) => (none, s)
    | (some h, s) =>
      let x := writeBuf (1 + k) h 0 bytes s
      if x.1 then (some h, x.2) else (none, freeHandle 14 h x.2)
  else if s.up 213 then
    let x := writeBuf (1 + k) u.handle 0 (bytes.take 20480) s
    if x.1 then (some u.handle, x.2 |> bufShare (1 + k) u.handle 1 14 |> bufFree (1 + k) u.handle)
    else (none, bufFree (1 + k) u.handle x.2)
  else (none, wrapperAnswer 213 s)

/-- An upstream frame that TMU takes cut-through leaves with the CT bit in its status (R245). -/
def markCt (a : ActWords) (u : UpFrame) (s : State) : UpFrame :=
  if a.field CACTION.DEST = 1 ∧ s.up 212 = true ∧ u.ct = true ∧
      ctTaken (a.w2 % 32) (Fin.ofNat 8 (u.tree / 6)) (Fin.ofNat 8 (a.w2 / 256)) (vopLen a u.len u.hdr.tagged + 4) s = true then
    { u with status := u.status + 2 ^ 29 }
  else u

/-- An upstream frame toward a network port: a cut-through frame is offered first and needs no buffer where TMU takes it, any
other is stored, and one whose tag check is still to come waits for it (R16, R232, R252). The line adds 4 bytes of FCS to its length (log entry 61). -/
def toNetwork (k : Nat) (a : ActWords) (u : UpFrame) (s : State) : State :=
  let len := vopLen a u.len u.hdr.tagged
  let p := a.w2 % 32
  let g : Fin 8 := Fin.ofNat 8 (u.tree / 6)
  let c : Fin 8 := Fin.ofNat 8 (a.w2 / 256)
  if !s.up 212 then s |> freeUp k u |> wrapperAnswer 212
  else if u.ct && ctTaken p g c (len + 4) s then
    s |> ctSend p g c (len + 4) (some u.iv) (vlanEdit (vopEdit a) u.bytes) |> freeUp k u
  else
    let s := onlyIf (u.ct = true) (bump TMU.CT_STORE_CNT 0) s
    match bufferForTmu k u len (vlanEdit (vopEdit a) u.bytes) s with
    | (none, s) => s
    | (some h, s) => storeSdu p g c (if u.ct then some u.iv else none) { handle := some h, len := len + 4 } s

/-- The action of an upstream frame: it goes toward the network, to the host, or nowhere (R174, R185). -/
def actUp (k : Nat) (a : ActWords) (u : UpFrame) (s : State) : State :=
  if a.field CACTION.VALID = 0 then freeUp k u s
  else
    let (ok, s) := meterPass k a u.len s
    if !ok then freeUp k u s
    else
      let dest := a.field CACTION.DEST
      let s := if a.field CACTION.MIRROR = 1 ∨ dest = 4 then hostCopy k (markCt a u s) s else s
      if dest = 5 then s |> bump CLS.ACT_DROP_CNT k |> freeUp k u
      else if dest = 1 then toNetwork k a u s
      else freeUp k u s

/-- The index of a Port-ID's PORT entry. -/
def portEntry (tree port : Nat) : Nat := tree % 12 * 4096 + port % 4096

def portValid (k tree port : Nat) (s : State) : Bool :=
  rdx CPORT.VALID k (portEntry tree port) s == 1 && rdx CPORT.PID_HI k (portEntry tree port) s == port / 4096

/-- A request joins the learn queue; `cnt` counts it. -/
def learnQueue (k loc : Nat) (r : LearnReq) (cnt : State → State) (s : State) : State :=
  if 4096 ≤ (s.pipe k).learnq.length then s |> bump CLS.LEARN_DROP_CNT k |> pipeCause k 0 [loc, r.entry.kind]
  else
    let q := (s.pipe k).learnq ++ [r]
    s.setPipe k { s.pipe k with learnq := q } |> wr CLS.LQ_STS_LVL k q.length |> cnt

/-- R182; a source hit on a static entry sets its HIT whether the port learns or not (R184: any hit). -/
def learn (k : Nat) (u : UpFrame) (d : Nat) (s : State) : State :=
  if rd CLS.CTL_LEARN_EN k s = 0 ∨ rdx CPORT.LEARN k (portEntry u.tree u.port) s = 0 then
    match emFind k 1 (d * 2 ^ 48 + u.hdr.src.toNat) s with
    | some i => onlyIf ((emAt k i s).fixed = true) (setHit k i) s
    | none => s
  else
    let loc := u.tree % 12
    let key := d * 2 ^ 48 + u.hdr.src.toNat
    let now := stampNow s
    let e : EmEntry := { kind := 1, stamp := now, result := loc * 2 ^ 16 + u.port, key := key }
    match emFind k 1 key s with
    | none =>
      if rdx CLIMIT.COUNT k loc s < rdx CLIMIT.MAX k loc s then
        learnQueue k loc { op := .insert, entry := e } (bump CLS.LEARN_CNT k) s
      else s |> bump CLS.LEARN_LIMIT_CNT k |> pipeCause k 1 [loc, 1]
    | some i =>
      let x := emAt k i s
      if x.fixed then
        let a := fetchAct k x.result s
        let own := a.field CACTION.DEST == 0 && a.tree == u.tree && a.port == u.port
        s |> setHit k i |> onlyIf (own = false) (fun s => s |> bump CLS.SRC_VIOL_CNT k |> pipeCause k 6 [loc, i])
      else if x.result = e.result then
        s |> setHit k i |> onlyIf (rd CLS.LEARN_CFG_REFRESH k s ≤ (now + 32768 - x.stamp) % 32768)
          (learnQueue k loc { op := .refresh, entry := e } id)
      else learnQueue k loc { op := .move, entry := e } (bump CLS.MOVE_LOCAL_CNT k) s

/-- R174 upstream, with R173 order 3. -/
def classifyUp (k : Nat) (bytes : List Byte) (s : State) : State :=
  let hdr := parseFrame 0 bytes
  match s.upSdus.find? fun x => x.tree / 12 == k with
  | none => s
  | some x =>
    let u : UpFrame := { ct := x.ct, iv := x.iv, status := x.status, tree := x.tree, port := x.port, handle := x.handle, len := x.len, hdr := hdr, bytes := bytes }
    let s := takeLane k { s with upSdus := s.upSdus.erase x }
    let e := portEntry u.tree u.port
    if !portValid k u.tree u.port s then s |> bump CLS.PORT_MISS_CNT k |> pipeCause k 12 [] |> freeUp k u
    else if rdx CPORT.OMCI k e s = 1 then
      let s := bump CLS.TRAP_CNT k s
      let p : Packet := { kind := 2, opcode := 0x82, arg0 := u.tree * 2 ^ 16 + u.port, payload := bytes }
      (match hostPacket SESS.CTL_PLU_EN 15 p s with
       | (.noSession, s) => bump CLS.MIRROR_DROP_CNT k s
       | (_, s) => s) |> freeUp k u
    else
      let d := rdx CPORT.DOMAIN k e s
      let a := rdx CPORT.ACTION k e s
      let s := learn k u d s
      if rdx CDOMAIN.VALID k d s = 1 ∧ rdx CDOMAIN.ROUTED k d s = 1 then
        match route k hdr.l3 s with
        | .action a => actUp k (fetchAct k a s) u s
        | .second key a => pushSecond k { key := key, action := fetchAct k a s, frame := .inr u } s
        | .miss => actUp k (fetchAct k a s) u s
      else actUp k (fetchAct k a s) u s

/-- CLS_FRAME. -/
def execClsFrame (k : Fin 4) (f : ClsIn) (s : State) : Host.Outcome State Fault Refusal :=
  onIsland (pipeIsland k) s fun s =>
    match f with
    | .down => classifyDown k s
    | .up b => classifyUp k b s

/-- The second slot of a frame ends with the entry found, or with the action of its first slot. -/
def secondFound (k : Nat) (x : Second) (e : Option Nat) (s : State) : State :=
  let (a, s) := match e with
    | some i => (fetchAct k (emAt k i s).result s, setHit k i s)
    | none => (x.action, s)
  match x.frame with
  | .inl no => setRes k no (.action a) s
  | .inr u => actUp k a u s

/-- CLS_SECOND_SLOT (R172, R179): the oldest frame waiting for its second slot. -/
def secondSlot (k : Nat) (s : State) : State :=
  match (s.pipe k).seconds with
  | [] => s
  | x :: rest =>
    let s := s.setPipe k { s.pipe k with seconds := rest } |> bump CLS.CONT_CNT k
    secondFound k x (emFind k 3 x.key s) s

def execClsSecondSlot (k : Fin 4) (s : State) : Host.Outcome State Fault Refusal :=
  onIsland (pipeIsland k) s (secondSlot k)

/-! The maintenance port (R181, R182, R184). -/

/-- No exact-match command and no relocation needs the port (R181 orders 1 and 2). -/
def portFree (k : Nat) (s : State) : Bool := (s.pipe k).jobs.isEmpty && (s.pipe k).emOp.isNone

/-- Nor does a conditional clear (order 3): learning may go on. -/
def learnFree (k : Nat) (s : State) : Bool := portFree k s && (s.pipe k).clears.isEmpty

/-- Nor does learning (order 4): the sweep may go on. -/
def sweepFree (k : Nat) (s : State) : Bool := learnFree k s && (s.pipe k).learnq.isEmpty

/-- LEARN_APPLY: the oldest request of the learn queue. -/
def learnApply (k : Nat) (s : State) : State :=
  match (s.pipe k).learnq with
  | [] => s
  | r :: rest =>
    if !learnFree k s then s
    else
      let s := s.setPipe k { s.pipe k with learnq := rest } |> wr CLS.LQ_STS_LVL k rest.length
      match emFind k 1 r.entry.key s, r.op with
      | some i, .refresh =>
        let x := emAt k i s
        if !x.fixed && x.result == r.entry.result then emPut k i { x with stamp := r.entry.stamp } s else s
      | none, .refresh => s
      | some i, op =>
        let x := emAt k i s
        if x.fixed then s
        else s |> onlyIf (op = .insert ∧ x.result ≠ r.entry.result) (bump CLS.MOVE_LOCAL_CNT k)
          |> emWrite k i { r.entry with hit := x.hit }
      | none, _ => (emInsert k r.entry.tree false r.entry s).2

def execLearnApply (k : Fin 4) (s : State) : Host.Outcome State Fault Refusal :=
  onIsland (pipeIsland k) s (learnApply k)

/-- RELOCATION_CLEAR. -/
def execRelocationClear (k : Fin 4) (s : State) : Host.Outcome State Fault Refusal :=
  onIsland (pipeIsland k) s (relocationClear k)

/-- The refresh that the learn queue would apply next is of this key (R183). -/
def refreshNext (k key : Nat) (s : State) : Bool :=
  match (s.pipe k).learnq.head? with
  | some r => r.op == .refresh && r.entry.key == key
  | none => false

/-- The refresh at the head of the learn queue is applied. -/
def refreshFirst (k i : Nat) (s : State) : State :=
  match (s.pipe k).learnq with
  | r :: rest =>
    let x := emAt k i s
    s.setPipe k { s.pipe k with learnq := rest } |> wr CLS.LQ_STS_LVL k rest.length
      |> onlyIf (x.fixed = false ∧ x.result = r.entry.result) (emPut k i { x with stamp := r.entry.stamp })
  | [] => s

/-- CONDITIONAL_CLEAR (R183): the oldest clear on its way to the pipeline. A refresh of the same entry that waits beside it for the
port goes first, and the clear fails. -/
def conditionalClear (k : Nat) (s : State) : State :=
  match (s.pipe k).clears with
  | [] => s
  | (key, stamp) :: rest =>
    if !portFree k s then s
    else
    let s := s.setPipe k { s.pipe k with clears := rest }
    match emFind k 1 key s with
    | none => s
    | some i =>
      let e := emAt k i s
      if e.fixed then s
      else if refreshNext k key s then s |> refreshFirst k i |> bump CLS.MOVE_CLR_FAIL_CNT k
      else if e.stamp = stamp then s |> emRemove k 1 key |> bump CLS.MOVE_CNT k |> pipeCause k 4 [e.tree, i]
      else bump CLS.MOVE_CLR_FAIL_CNT k s

def execConditionalClear (k : Fin 4) (s : State) : Host.Outcome State Fault Refusal :=
  onIsland (pipeIsland k) s (conditionalClear k)

/-- One slot under the sweep; `hitNow`: a hit sets HIT in the same cycle (R184). -/
def ageSlot (k slot : Nat) (hitNow : Bool) (s : State) : State :=
  let e := emAt k slot s
  if e.kind = 0 ∨ e.fixed = true ∨ relocating k slot s = true then s
  else if e.hit then emPut k slot { e with hit := hitNow } s
  else if hitNow then s |> emPut k slot { e with hit := true } |> bump CLS.AGE_FAIL_CNT k
  else s |> countDown k e |> emPut k slot {} |> bump CLS.AGE_CNT k

/-- AGING_VISIT (R184): the sweep's next bucket when its visit is due, PERIOD seconds over all 262,144 buckets apart; bit i of
`hits`: a hit on slot i in the same cycle. Work of a higher priority comes first (R181). -/
def agingVisit (k hits : Nat) (s : State) : State :=
  if rd CLS.CTL_AGE_EN k s = 0 ∨ sweepFree k s = false then s
  else
    let s := passTo ((s.pipe k).sweepDue / 2 ^ 18) s
    let x := s.pipe k
    let due := max x.sweepDue (s.clk * 2 ^ 18) + rd CLS.AGE_CFG_PERIOD k s * 1000000000
    allOf (List.range 4) (fun i s => ageSlot k (x.sweep * 4 + i) (maskHas hits i) s)
      (s.setPipe k { x with sweep := (x.sweep + 1) % 2 ^ 18, sweepDue := due })

def execAgingVisit (k : Fin 4) (hits : BitVec 4) (s : State) : Host.Outcome State Fault Refusal :=
  onIsland (pipeIsland k) s (agingVisit k hits.toNat)

/-! The merge stage (R183). -/

/-- a is newer than b. -/
def stampNewer (a b : Nat) : Bool :=
  let d := (a + 32768 - b) % 32768
  decide (1 ≤ d ∧ d < 16384)

/-- What the pipelines deliver of a frame: copies for a tree's port with their length and VLAN operation, and mirror or
host-only copies. -/
inductive Copy where
  | toTree (tree port len : Nat) (edit : Nat × Nat)
  | toHost
  deriving DecidableEq, Repr

abbrev Copies := List Copy

/-- A copy for the host where a session takes it (R185). -/
def mirrorDown (k : Nat) (s : State) : Copies × State :=
  match openSession SESS.CTL_CAP_EN s with
  | none => ([], mirrorDrop k s)
  | some _ => ([.toHost], s)

/-- The action of pipeline k on a downstream frame. -/
def actDown (k : Nat) (a : ActWords) (f : DsFrame) (s : State) : Copies × State :=
  let len := f.bytes.length
  if a.field CACTION.VALID = 0 then ([], s)
  else
    let (ok, s) := meterPass k a len s
    if !ok then ([], s)
    else
      let dest := a.field CACTION.DEST
      let m := if a.field CACTION.MIRROR = 1 ∨ dest = 4 then mirrorDown k s else ([], s)
      let s := m.2
      let put := fun (t p : Nat) => Copy.toTree t p (vopLen a len f.hdr.tagged) (vopEdit a)
      match dest with
      | 0 => (m.1 ++ (if a.tree / 12 = k then [put a.tree a.port] else []), s)
      | 2 => (m.1 ++ (groupMembers k (a.w2 % 2 ^ 14) s).map fun x => put x.1 x.2, s)
      | 3 => match f.hdr.l3 with
        | .roe flow pay pt =>
          (m.1, if s.up 220 then packetRx ⟨0, a.tree, a.port % 16⟩ flow.toNat pay pt s else wrapperAnswer 220 s)
        | _ => (m.1, s)
      | 5 => (m.1, bump CLS.ACT_DROP_CNT k s)
      | _ => (m.1, s)

/-- The pipelines a learned hit of which wins: no other learned hit is newer. -/
def winners (l : List (Nat × Nat)) : List Nat :=
  (l.filter fun a => !l.any fun b => stampNewer b.2 a.2).map fun a => a.1

def pushClear (k key stamp : Nat) (s : State) : State :=
  s.setPipe k { s.pipe k with clears := (s.pipe k).clears ++ [(key, stamp)] }

/-- The MAC results of a bridged frame combined: its copies, the clears, the tie. -/
def mergeMac (f : DsFrame) (s : State) : Copies × State :=
  let res := fun k => Tbl.get .pending f.res k
  let ks := List.range 4
  let fixedHits := ks.filterMap fun k => match res k with | .fixedHit a => some (k, a) | _ => none
  let hits := ks.filterMap fun k => match res k with | .learned key st t p => some (k, key, st, t, p) | _ => none
  let len := f.bytes.length
  if fixedHits = [] ∧ hits = [] then
    (ks.flatMap fun k => match res k with
      | .miss (some g) => (groupMembers k g s).map fun m => Copy.toTree m.1 m.2 len (0, 0)
      | _ => [], s)
  else if fixedHits ≠ [] then
    let s := allOf hits (fun h s => pushClear h.1 h.2.1 h.2.2.1 s) s
    fixedHits.foldl (fun (c, s) h => let (c', s) := actDown h.1 h.2 f s; (c ++ c', s)) ([], s)
  else
    let w := winners (hits.map fun h => (h.1, h.2.2.1))
    let s := allOf (hits.filter fun h => !w.contains h.1) (fun h s => pushClear h.1 h.2.1 h.2.2.1 s) s
    let s := match w with
      | k :: _ :: _ => s |> bump CLS.MOVE_TIE_CNT k |> pipeCause k 5 [
          (hits.find? fun h => h.1 == k).elim 0 (fun h => h.2.2.2.1 % 12), 1]
      | _ => s
    ((hits.filter fun h => w.contains h.1).map fun h => Copy.toTree h.2.2.2.1 h.2.2.2.2 len (0, 0), s)

/-- The holder mask of the copies: TMD's bit, and for a host copy the command interface's (R199). -/
def copyHolders (c : Copies) : Nat :=
  (if c.any (· != .toHost) then 2 ^ 13 else 0) + (if c.contains .toHost then 2 ^ 15 else 0)

/-- A copy takes its way: into TMD, or to the host, which frees its reference once the ring has the frame. -/
def sendCopy (f : DsFrame) (h : Nat) (c : Copy) (s : State) : State :=
  match c with
  | .toTree t p len edit => if s.up 211 then tmdPut t p h len edit s else s |> wrapperAnswer 211 |> freeHandle 13 h
  | .toHost => s |> captureRing 16352 { point := 4, place := f.port, port := 0, bytes := f.bytes, len := f.bytes.length }
    |> freeHandle 15 h

/-- A reference freed by the holder of a copy. -/
def freeCopy (h : Nat) (c : Copy) (s : State) : State := freeHandle (if c = .toHost then 15 else 13) h s

/-- The buffer of a frame, allocated once with one reference a copy, and the copies' ways (R183, R199). A copy past the
largest count is a SHARE refused. -/
def deliverCopies (f : DsFrame) (c : Copies) (s : State) : State :=
  if c = [] then s
  else match allocNow 0 false f.bytes.length (min c.length 255) (copyHolders (c.take 255)) s with
    | (none, s) => allOf (c.filter (· == .toHost)) (fun _ => bump RINGC.CAP_DROP_CNT 0) s
    | (some h, s) =>
      let x := writeBuf 0 h 0 f.bytes s
      let s := allOf (c.drop 255) (fun _ s => bufRefuse 1 0 h .shareRefused s) x.2
      if x.1 then allOf (c.take 255) (sendCopy f h) s else allOf (c.take 255) (freeCopy h) s

/-- Every pipeline has answered for the frame; one in reset answers as a miss that does not flood. -/
def answered (f : DsFrame) (s : State) : Bool :=
  (List.range 4).all fun k => !s.up (pipeIsland k) ||
    (Tbl.get .pending f.res k != .pending && Tbl.get .pending f.res k != .second)

/-- R173 orders 1 and 2: a frame a pipeline has trapped is handed to system messaging, or to timing. -/
def handTrapped (f : DsFrame) (s : State) : State :=
  let taken := (List.range 4).any fun k => Tbl.get .pending f.res k == .trapped
  if !taken then s
  else if f.hdr.l3 = .mbakin then
    if s.up 223 then { s with sys := { s.sys with inbox := s.sys.inbox ++ [(f.port, f.bytes)] } } else wrapperAnswer 223 s
  else if s.up 222 then { s with tim := { s.tim with inbox := s.tim.inbox ++ [(f.port, f.bytes, f.stamp)] } } else wrapperAnswer 222 s

/-- MERGE: the oldest frame whose four results are there. -/
def mergeStage (s : State) : State :=
  match s.merge.frames.find? fun f => answered f s with
  | none => s
  | some f =>
    let s := { s with merge := { s.merge with frames := s.merge.frames.filter fun g => g.no != f.no } }
    let (c, s) := mergeMac f (handTrapped f s)
    let (c, s) := (List.range 4).foldl (fun (c, s) k =>
      match Tbl.get .pending f.res k with
      | .action a => let (c', s) := actDown k a f s; (c ++ c', s)
      | _ => (c, s)) (c, s)
    deliverCopies f c s

def execMerge (s : State) : Host.Outcome State Fault Refusal := onIsland 213 s mergeStage

/-! Exact-match commands (R187). -/

/-- The 128 bits of an entry (R175). -/
def EmEntry.bits (e : EmEntry) : Nat :=
  e.kind * 2 ^ 125 + b2n e.fixed * 2 ^ 124 + b2n e.hit * 2 ^ 123 + e.stamp * 2 ^ 108 + e.result * 2 ^ 88 + e.key

def entryOf (v : Nat) : EmEntry :=
  { kind := v / 2 ^ 125 % 8, fixed := v / 2 ^ 124 % 2 == 1, hit := v / 2 ^ 123 % 2 == 1, stamp := v / 2 ^ 108 % 32768,
    result := v / 2 ^ 88 % 2 ^ 20, key := v % 2 ^ 88 }

/-- The staged entry: word 0 is bits 127 to 96. -/
def stagedEntry (k : Nat) (s : State) : EmEntry :=
  entryOf ((List.range 4).foldl (fun a j => a * 2 ^ 32 + rdWord .emD k 0 j s) 0)

def stageEntry (k : Nat) (e : EmEntry) (s : State) : State :=
  allOf (List.range 4) (fun j => wrWord .emD k 0 j (e.bits / 2 ^ (32 * (3 - j)))) s

/-- A key within its range. -/
def keyOk (e : EmEntry) : Bool :=
  match e.kind with
  | 1 => decide (e.key < 2 ^ 56)
  | 2 => decide (e.key < 2 ^ 16)
  | 3 => e.key % 2 ^ 64 % 2 ^ (63 - e.key / 2 ^ 64 % 64) == 0
  | _ => false

/-- An entry a command accepts (R187). -/
def entryOk (e : EmEntry) : Bool :=
  keyOk e && (if e.isLearned then decide (e.tree < 12) else decide (e.result < 2 ^ 18))

/-- The learned entries of the pipeline, of one local tree or of all. -/
def learnedKeys (k : Nat) (tree : Option Nat) (s : State) : List Nat :=
  ((s.pipe k).em.filter fun x => x.2.isLearned && (tree == none || tree == some x.2.tree)).map fun x => x.2.key

def flushLearned (k : Nat) (tree : Option Nat) (s : State) : State :=
  allOf (learnedKeys k tree s) (emRemove k 1) s

/-- How an insertion ends: the code and the entry; none while it relocates. -/
def inserted (r : EmEnd) : Option (Nat × Option Nat) :=
  match r with
  | .ok i => some (0, some i)
  | .evicted i => some (3, some i)
  | .full => some (2, none)
  | .started => none

/-- A command on the entry found; NOT_FOUND without one. -/
def whenFound (e : Option Nat) (f : Nat → State → State) (s : State) : Option (Nat × Option Nat) × State :=
  match e with
  | some i => (some (0, some i), f i s)
  | none => (some (1, none), s)

/-- The operation on the maintenance port: its result and slot, or none while relocations run. -/
def emOperate (k op slot : Nat) (s : State) : Option (Nat × Option Nat) × State :=
  let e := stagedEntry k s
  match op with
  | 0 =>
    if !entryOk e then (some (4, none), s)
    else
      let r := emInsert k (if e.isLearned then e.tree else 0) true e s
      (inserted r.1, r.2)
  | 1 =>
    if !entryOk e then (some (4, none), s)
    else whenFound (emFind k e.kind e.key s) (fun _ => emRemove k e.kind e.key) s
  | 2 =>
    if !entryOk e then (some (4, none), s)
    else whenFound (emFind k e.kind e.key s) (fun i s => stageEntry k (emAt k i s) s) s
  | 3 => (some (0, some slot), stageEntry k (emAt k slot s) s)
  | 4 => (some (0, none), flushLearned k none s)
  | _ => if 11 < slot % 16 then (some (4, none), s) else (some (0, none), flushLearned k (some (slot % 16)) s)

/-- The running command uses the port at once, before the final steps of relocations (R181); one whose insert relocates ends
with them. -/
def emRun (k : Nat) (s : State) : State :=
  match (s.pipe k).emOp with
  | some (op, slot) =>
    if (s.pipe k).emOut = none ∧ ((s.pipe k).jobs.any fun j => j.command) = false then
      let (r, s) := emOperate k op slot s
      s.setPipe k { s.pipe k with emOut := r }
    else s
  | none => s

def emBegin (k op slot : Nat) (s : State) : State :=
  s.setPipe k { s.pipe k with emOp := some (op, slot), emOut := none }
    |> wr CLS.EM_CMD_GO k 1 |> wr CLS.STS_EM_BUSY k 1 |> emRun k

/-- A write of EM_CMD with GO = 1 (R187, R388). -/
def emStart (k op slot : Nat) (s : State) : State :=
  let ofs := regOffset .cls k 9
  let w := 2 ^ 31 + op * 2 ^ 24 + slot
  match (s.pipe k).emOp, (s.pipe k).emHeld with
  | none, _ => s |> wr CLS.EM_CMD_OP k op |> wr CLS.EM_CMD_SLOT k slot |> emBegin k op slot
  | some _, none =>
    s.setPipe k { s.pipe k with emHeld := some (op, slot) } |> wr CLS.EM_CMD_OP k op |> wr CLS.EM_CMD_SLOT k slot
  | some _, some _ => goBusy ofs w s

/-- EM_CMD_DONE: the running command completes with its result, and a held one starts. -/
def emDone (k : Nat) (s : State) : State :=
  let s := emRun k s
  match (s.pipe k).emOp, (s.pipe k).emOut with
  | some _, some (r, slot) =>
    let err := decide (r ≠ 0 ∧ r ≠ 3)
    let s := s.setPipe k { s.pipe k with emOp := none, emOut := none }
      |> wr CLS.EM_CMD_GO k 0 |> wr CLS.STS_EM_BUSY k 0 |> wr CLS.EM_CMD_RESULT k r |> wr CLS.EM_CMD_ERR k (b2n err)
      |> onlyIf (err = true) (pipeCause k 7 [])
    let s := match slot with | some i => wr CLS.EM_CMD_SLOT k i s | none => s
    match (s.pipe k).emHeld with
    | some (op, sl) => emBegin k op sl (s.setPipe k { s.pipe k with emHeld := none })
    | none => s
  | _, _ => s

def execEmInsert (k : Fin 4) (slot : BitVec 20) (s : State) : Host.Outcome State Fault Refusal :=
  onIsland (pipeIsland k) s (emStart k 0 slot.toNat)
def execEmDelete (k : Fin 4) (slot : BitVec 20) (s : State) : Host.Outcome State Fault Refusal :=
  onIsland (pipeIsland k) s (emStart k 1 slot.toNat)
def execEmSearch (k : Fin 4) (slot : BitVec 20) (s : State) : Host.Outcome State Fault Refusal :=
  onIsland (pipeIsland k) s (emStart k 2 slot.toNat)
def execEmReadSlot (k : Fin 4) (slot : BitVec 20) (s : State) : Host.Outcome State Fault Refusal :=
  onIsland (pipeIsland k) s (emStart k 3 slot.toNat)
def execEmFlushLearned (k : Fin 4) (slot : BitVec 20) (s : State) : Host.Outcome State Fault Refusal :=
  onIsland (pipeIsland k) s (emStart k 4 slot.toNat)
def execEmFlushTree (k : Fin 4) (slot : BitVec 20) (s : State) : Host.Outcome State Fault Refusal :=
  onIsland (pipeIsland k) s (emStart k 5 slot.toNat)
def execEmCmdDone (k : Fin 4) (s : State) : Host.Outcome State Fault Refusal := onIsland (pipeIsland k) s (emDone k)

/-- A write of EM_CMD through the register path; an unlisted OP leaves OP as it was (R7). -/
def emCmdWrite (k w : Nat) (s : State) : State :=
  let bad := decide (5 < w / 2 ^ 24 % 8)
  let op := if bad then rd CLS.EM_CMD_OP k s else w / 2 ^ 24 % 8
  let s := onlyIf (bad = true) (encReject (regOffset .cls k 9) w) s
  if w / 2 ^ 31 % 2 = 1 then emStart k op (w % 2 ^ 20) s
  else s |> wr CLS.EM_CMD_OP k op |> wr CLS.EM_CMD_SLOT k (w % 2 ^ 20)

/-- WORD advances after an access to EM_DATA, 3 wrapping to 0. -/
def emAdvance (k : Nat) (s : State) : State :=
  onlyIf (on CLS.EM_IDX_AUTO_INC k s) (wr CLS.EM_IDX_WORD k ((rd CLS.EM_IDX_WORD k s + 1) % 4)) s

def emDataWrite (k w : Nat) (s : State) : State := s |> wrWord .emD k 0 (rd CLS.EM_IDX_WORD k s) w |> emAdvance k
def emDataRead (k : Nat) (s : State) : Nat × State := (rdWord .emD k 0 (rd CLS.EM_IDX_WORD k s) s, emAdvance k s)

/-! The LPM loader (R178 to R180). -/

/-- RESULT, the change of a trie, the assigned index. -/
structure LpmEnd where
  result : Nat
  edit : List Pfx → List Pfx
  cidx : Option Nat := none

def samePfx (p q : Pfx) : Bool := p.v6 == q.v6 && p.len == q.len && p.bits == q.bits

/-- The lowest continuation index no prefix holds. -/
def freeCidx (l : List Pfx) : Nat :=
  let used := l.filterMap fun p => p.cont.map (·.1)
  ((List.range (used.length + 1)).find? fun i => !used.contains i).getD 0

/-- The prefix the staged words name; none is ARG. -/
def opPfx (o : LpmOp) : Option Pfx :=
  let v6 := o.w0 / 2 ^ 31 % 2 == 1
  let len := o.w0 / 2 ^ 24 % 128
  let cont := o.w0 / 2 ^ 23 % 2 == 1
  let clen := o.w0 / 2 ^ 16 % 128
  let width := if v6 then 64 else 32
  let addr := if v6 then o.w2 * 2 ^ 32 + o.w3 else o.w2
  -- CLEN has 7 bits: 128 is written as 0
  let clen := if clen = 0 then 128 else clen
  if width < len ∨ (cont = true ∧ (v6 = false ∨ len ≠ 64 ∨ clen < 65)) then none
  else some { v6 := v6, len := len, bits := addr / 2 ^ (width - len), action := o.w1 % 2 ^ 18,
              cont := if cont then some (0, clen) else none }

def lpmAct (o : LpmOp) (l : List Pfx) : LpmEnd :=
  match o.op with
  | 2 => { result := 0, edit := fun l => l.filter fun p => p.v6 }
  | 3 => { result := 0, edit := fun l => l.filter fun p => !p.v6 }
  | op =>
    match opPfx o with
    | none => { result := 3, edit := id }
    | some p =>
      let old := l.find? (samePfx p)
      if op = 1 then
        if old = none then { result := 1, edit := id } else { result := 0, edit := fun l => l.filter fun q => !samePfx p q }
      else if old = none ∧ (if p.v6 then 262144 else 524288) ≤ l.countP (fun q => q.v6 == p.v6) then
        { result := 2, edit := id }
      else
        let cidx := match old.bind (·.cont) with | some (c, _) => c | none => freeCidx l
        let q : Pfx := { p with cont := p.cont.map fun c => (cidx, c.2) }
        { result := 0, edit := fun l => (l.filter fun x => !samePfx p x) ++ [q], cidx := q.cont.map (·.1) }

def lpmBegin (op : Nat) (s : State) : State :=
  let o : LpmOp := { op := op, w0 := rdWord .lpmD 0 0 0 s, w1 := rdWord .lpmD 0 0 1 s, w2 := rdWord .lpmD 0 0 2 s, w3 := rdWord .lpmD 0 0 3 s }
  { s with lpm := { s.lpm with running := some o } } |> wr LPM.LPM_CMD_GO 0 1 |> wr LPM.LPM_CMD_BUSY 0 1

/-- A write of LPM_CMD with GO = 1 (R180, R388). -/
def lpmStart (op : Nat) (s : State) : State :=
  match s.lpm.running, s.lpm.held with
  | none, _ => s |> wr LPM.LPM_CMD_OP 0 op |> lpmBegin op
  | some _, none => { s with lpm := { s.lpm with held := some op } } |> wr LPM.LPM_CMD_OP 0 op
  | some _, some _ => goBusy (regOffset .lpm 0 0) (2 ^ 31 + op * 2 ^ 18) s

/-- LPM_CMD_DONE (R180): the change joins all four tries at once; a held command starts. -/
def lpmDone (s : State) : State :=
  match s.lpm.running with
  | none => s
  | some o =>
    let e := lpmAct o s.lpm.pfxs
    let s := { s with lpm := { s.lpm with running := none, pfxs := e.edit s.lpm.pfxs } }
    let s := allOf ((List.range 4).filter fun k => s.up (pipeIsland k))
      (fun k s => s.setPipe k { s.pipe k with trie := e.edit (s.pipe k).trie }) s
    let s := s |> wr LPM.LPM_CMD_GO 0 0 |> wr LPM.LPM_CMD_BUSY 0 0 |> wr LPM.LPM_CMD_RESULT 0 e.result
      |> wr LPM.LPM_CMD_ERR 0 (b2n (e.result != 0))
    let s := match e.cidx with | some c => wr LPM.LPM_CMD_CIDX 0 c s | none => s
    let s := if e.result = 2 then
        let (v, s) := drawFree s
        wr LPM.LPM_CMD_STAGE 0 (v % 7) s
      else s
    let s := s |> onlyIf (e.result ≠ 0) (pipeCause 0 16 []) |> pipeCause 0 17 []
    match s.lpm.held with
    | some op => lpmBegin op { s with lpm := { s.lpm with held := none } }
    | none => s

def execLpmAdd (s : State) : Host.Outcome State Fault Refusal := onIsland 223 s (lpmStart 0)
def execLpmDelete (s : State) : Host.Outcome State Fault Refusal := onIsland 223 s (lpmStart 1)
def execLpmFlushV4 (s : State) : Host.Outcome State Fault Refusal := onIsland 223 s (lpmStart 2)
def execLpmFlushV6 (s : State) : Host.Outcome State Fault Refusal := onIsland 223 s (lpmStart 3)
def execLpmCmdDone (s : State) : Host.Outcome State Fault Refusal := onIsland 223 s lpmDone

/-- A write of LPM_CMD through the register path. -/
def lpmCmdWrite (w : Nat) (s : State) : State :=
  let op := w / 2 ^ 18 % 4
  if w / 2 ^ 31 % 2 = 1 then lpmStart op s else wr LPM.LPM_CMD_OP 0 op s

def lpmAdvance (s : State) : State :=
  onlyIf (on LPM.LPM_IDX_AUTO_INC 0 s) (wr LPM.LPM_IDX_WORD 0 ((rd LPM.LPM_IDX_WORD 0 s + 1) % 4)) s

/-- Word 0 of LPM_DATA with a LEN above 64 or a CLEN of 1 to 64, which are not listed, replaced by what the fields hold (R7, R190). -/
def lpmListed (w : Nat) (s : State) : Nat :=
  let w := if 64 < bitsOf w 30 24 then w - bitsOf w 30 24 * 2 ^ 24 + rdx LPMD.LEN 0 0 s * 2 ^ 24 else w
  if bitsOf w 22 16 = 0 ∨ 64 < bitsOf w 22 16 then w else w - bitsOf w 22 16 * 2 ^ 16 + rdx LPMD.CLEN 0 0 s * 2 ^ 16

def lpmDataWrite (w : Nat) (s : State) : State :=
  let word := rd LPM.LPM_IDX_WORD 0 s
  let v := if word = 0 then lpmListed w s else w
  s |> writeWord .lpmD 0 0 word (regOffset .lpm 0 2) v |> onlyIf (v ≠ w) (encReject (regOffset .lpm 0 2) w) |> lpmAdvance
def lpmDataRead (s : State) : Nat × State := (rdWord .lpmD 0 0 (rd LPM.LPM_IDX_WORD 0 s) s, lpmAdvance s)

/-! Seeds and tables (R188, R191). -/

/-- HASH_SEED_WRITE (R188). -/
def hashSeedWrite (k i w : Nat) (s : State) : State :=
  if rd CLS.STS_EM_USED k s = 0 then wr (CLS.HASH_SEED0.at i) k w s else encReject (regOffset .cls k (3 + i)) w s

def execHashSeedWrite (k : Fin 4) (i : Fin 2) (w : Word) (s : State) : Host.Outcome State Fault Refusal :=
  onIsland (pipeIsland k) s (hashSeedWrite k i w.toNat)

/-- Space, words and entries of a table (R191). -/
def tableOf (t : Nat) : Sp × Nat × Nat :=
  match t with
  | 0 => (.cAction, 3, 262144)
  | 1 => (.cPort, 2, 49152)
  | 2 => (.cVid, 1, 4096)
  | 3 => (.cDomain, 2, 256)
  | 4 => (.cGroup, 1, 16384)
  | 5 => (.cMember, 1, 262144)
  | 6 => (.cMeter, 2, 65536)
  | _ => (.cLimit, 2, 12)

/-- R185: an action that names another pipeline's tree is refused; an entry that is cleared, VALID 0 and TARGET 0, names none
(DESIGN CHOICE, log entry 110). -/
def actionRefused (k t : Nat) (w : Nat → Nat) : Bool :=
  t == 0 && (w 0 / 2 ^ 28 % 8 == 0 || w 0 / 2 ^ 28 % 8 == 3) && (w 0 / 2 ^ 31 % 2 == 1 || w 2 != 0) && w 2 / 2 ^ 16 % 64 / 12 != k

/-- A write of TBL_DATA: a word before the last is staged, the last commits the entry, whose fields with unlisted values keep
what they held (R7, R191). -/
def tblWrite (k w : Nat) (s : State) : State :=
  let t := rd CLS.TBL_IDX_TABLE k s
  let j := rd CLS.TBL_IDX_WORD k s
  let x := rd CLS.TBL_IDX_ENTRY k s
  let (sp, words, entries) := tableOf t
  let ofs := regOffset .cls k 11
  let p := s.pipe k
  let word := fun i => if i = j then w else Tbl.get 0 p.stage i
  let s :=
    if words ≤ j ∨ entries ≤ x then s |> pipeCause k 8 [] |> setVerdict 6 0
    else if j + 1 < words then s.setPipe k { p with stage := Tbl.set 0 p.stage j w }
    else if actionRefused k t word then s |> pipeCause k 8 [] |> setVerdict 6 0
    else
      let tokens := meterNow k x s
      allOf (List.range words) (fun i => writeWord sp k x i ofs (word i)) (s.setPipe k { s.pipe k with stage := [] })
        |> fun s => onlyIf (t = 6) (setMeter k x (min tokens (rdx CMETER.CBS k x s * 8000))) s
  advanceIndex CLS.TBL_IDX_AUTO_INC CLS.TBL_IDX_WORD CLS.TBL_IDX_ENTRY k words entries s

/-- A read of TBL_DATA. -/
def tblRead (k : Nat) (s : State) : Nat × State :=
  let (sp, words, entries) := tableOf (rd CLS.TBL_IDX_TABLE k s)
  (rdWord sp k (rd CLS.TBL_IDX_ENTRY k s) (rd CLS.TBL_IDX_WORD k s) s,
   advanceIndex CLS.TBL_IDX_AUTO_INC CLS.TBL_IDX_WORD CLS.TBL_IDX_ENTRY k words entries s)

/-- TABLE_ENTRY_COMMIT. -/
def execTableEntryCommit (k : Fin 4) (w : Word) (s : State) : Host.Outcome State Fault Refusal :=
  onIsland (pipeIsland k) s (tblWrite k w.toNat)

end Sys2Proof.Machine
end

