-- ==== Sys2Proof/Machine/Events.lean ====
section
/-!
DEFINITION. The commands and registers of the event sources (17_events_counters.md, R394 to R399, R406).
-/

namespace Sys2Proof.Machine

/-- CAUSE_RAISE (R394): an island raises a cause; while island 223 is in reset the raise waits. -/
def execCauseRaise (src : BitVec 8) (bit : BitVec 5) (d0 d1 d2 : Word) (s : State) : Host.Outcome State Fault Refusal :=
  .next (raise src.toNat bit.toNat [d0.toNat, d1.toNat, d2.toNat] s)

/-- COUNT_DELIVERY (R395, rule 1): RAISES has reached COUNT. -/
def countDelivery (src : Nat) (s : State) : State :=
  let c := rd SRC.CFG_COUNT src s
  if on EVT.CTL_DLV_EN 0 s ∧ c ≠ 0 ∧ c ≤ rd SRC.PEND_RAISES src s then deliver (raiseAt 1) src s else s

def execCountDelivery (src : BitVec 8) (s : State) : Host.Outcome State Fault Refusal :=
  onIsland 223 s (countDelivery src.toNat)

/-- HOLDOFF_END (R395, rule 3). -/
def holdoffEnd (src : Nat) (s : State) : State :=
  match (Tbl.get {} s.ev.srcx src).holdEnd with
  | none => s
  | some t =>
    let s := passTo t s
    if on EVT.CTL_DLV_EN 0 s ∧ rd SRC.PEND_RAISES src s ≠ 0 then deliver (raiseAt 1) src s else s

def execHoldoffEnd (src : BitVec 8) (s : State) : Host.Outcome State Fault Refusal := onIsland 223 s (holdoffEnd src.toNat)

/-- A source with raises pending is judged by the rules in order, as if an enabled raise had arrived. -/
def judgeSource (src : Nat) (s : State) : State :=
  if rd SRC.PEND_RAISES src s ≠ 0 ∧ deliverNow src s = true then deliver (raiseAt 1) src s else s

/-- A write of DLV_EN: from 0 to 1 every source is judged (R395). -/
def dlvEnWrite (v : Nat) (s : State) : State :=
  let was := on EVT.CTL_DLV_EN 0 s
  s |> wr EVT.CTL_DLV_EN 0 v |> onlyIf (v % 2 = 1 ∧ was = false) (allOf (List.range 256) judgeSource)

/-- DLV_ENABLE. -/
def execDlvEnable (s : State) : Host.Outcome State Fault Refusal := onIsland 223 s (dlvEnWrite 1)

/-- A write of SRC.EN: each newly enabled cause that is set counts one enabled raise (R395). -/
def eventEnWrite (src w : Nat) (s : State) : State :=
  let old := rd SRC.EN src s
  let bits := (List.range 32).filter fun b => maskHas w b && !maskHas old b && maskHas (rd SRC.CAUSE src s) b
  let x := Tbl.get {} s.ev.srcx src
  let s := wr SRC.EN src w s
  if bits = [] then s
  else
    let s := wr SRC.PEND_RAISES src (min (rd SRC.PEND_RAISES src s + bits.length) 65535) s
    judgeSource src
      { s with ev := { s.ev with srcx := Tbl.set {} s.ev.srcx src { x with since := bits.foldl maskSet x.since } } }

/-- EVENT_EN_WRITE. -/
def execEventEnWrite (src : BitVec 8) (w : Word) (s : State) : Host.Outcome State Fault Refusal :=
  onIsland 223 s (eventEnWrite src.toNat w.toNat)

/-- CAUSE_W1C (R398): the pins follow the causes. -/
def execCauseW1c (src : BitVec 8) (w : Word) (s : State) : Host.Outcome State Fault Refusal :=
  onIsland 223 s (writeReg .src src.toNat 0 w.toNat)

/-- CAPTURE_RELEASE (R399). -/
def captureRelease (src : Nat) (s : State) : State :=
  s |> wr SRC.CAP_STS_V0 src 0 |> wr SRC.CAP_STS_V1 src 0 |> wr SRC.CAP_STS_OVF src 0

def execCaptureRelease (src : BitVec 8) (s : State) : Host.Outcome State Fault Refusal :=
  onIsland 223 s (captureRelease src.toNat)

/-- PIN_PULSE_END (R398). -/
def pinPulseEnd (p : Nat) (s : State) : State :=
  match Tbl.get none s.ev.pulse p with
  | none => s
  | some t =>
    let s := passTo t s
    { s with ev := { s.ev with pulse := Tbl.set none s.ev.pulse p none } }

def execPinPulseEnd (p : Fin 2) (s : State) : Host.Outcome State Fault Refusal := onIsland 223 s (pinPulseEnd p)

/-- A source has an enabled cause set. -/
def sourceActive (src : Nat) (s : State) : Bool := rd SRC.CAUSE src s &&& rd SRC.EN src s != 0

/-- EVENT_N[p] is driven low (R398), once island 223 is configured (R336). -/
def eventPin (p : Nat) (s : State) : Bool :=
  s.configured 223 &&
    (if maskHas (rd EVT.CTL_PIN_PULSE 0 s) p then
      match Tbl.get none s.ev.pulse p with | some t => decide (s.clk < t) | none => false
    else (List.range 256).any fun i => maskHas (rd SRC.CFG_PIN i s) p && sourceActive i s)

/-- SUMMARY[m] (R406). -/
def eventSummary (m : Nat) (s : State) : Nat :=
  (List.range 32).foldl (fun a b => a + b2n (sourceActive (32 * m + b) s) * 2 ^ b) 0

end Sys2Proof.Machine
end

