-- ==== Sys2Proof/Machine/Reset.lean ====
section
/-!
DEFINITION. Reset, clock islands and pin states (14_reset_clocks.md, R322 to R342), the feeds (R309, R419, R420) and the
thermal limits (R428, R429).
-/

namespace Sys2Proof.Machine

def State.setRst (s : State) (x : RstCtl) : State := { s with rst := x }

/-- A cause of source 185; while island 223 is in reset it waits for its release (R342, R394). -/
def rstCause (bit : Nat) (d : List Nat) (s : State) : State := raise 185 bit d s

/-- The causes that waited for island 223 are raised at its release, those of source 185 with LAST_CLASS; their captures hold the
time of the raise (R342, R394, R399). -/
def sendPending (s : State) : State :=
  let l := s.ev.pending
  let details := fun (e : Nat × Nat × List Nat × Option Nat) =>
    let d := if e.1 = 185 then e.2.2.1 ++ [s.rst.lastClass] else e.2.2.1
    match e.2.2.2 with | some t => [d.getD 0 0, d.getD 1 0, d.getD 2 0, t] | none => d
  allOf l (fun e => raiseAt 2 e.1 e.2.1 (details e))
    { s with ev := { s.ev with pending := [] } }

def powered (s : State) : Bool := s.rst.feedA || s.rst.feedB

/-- Every island number; the islands a warm reset covers (R329); the core islands (R309). -/
def allIslands : List Nat := List.range 226
def warmIslands : List Nat := allIslands.filter fun i => phaseOf i != 0
def coreIslands : List Nat := allIslands.filter fun i => !onSentinelFeeds i

/-! Phases (R329, R330). -/

def held (i : Nat) (s : State) : Bool := (s.island i).held

def phaseDone (s : State) : Bool :=
  let p := s.rst.phase
  allIslands.all (fun i => phaseOf i != p || i == 160 || i == 162 || s.up i || held i s) &&
  (p != 0 || !s.rst.powerOn || (s.rst.fuseValid && s.rst.coreGood)) &&
  (p != 1 || s.nvm.image.isSome)

/-- The instant STALL_MS ends for a phase that starts now; suspended without REFCLK. -/
def stallDeadline (s : State) : Option Nat :=
  if s.rst.refclk then some (s.clk + rd RST.CTL_STALL_MS 0 s * 1000000) else none

/-- The release waits for REFCLK from now on, as long as island 223 is in reset (R328). -/
def waitRefclk (s : State) : State :=
  if !s.rst.refclk && !s.up 223 && s.rst.refclkFrom.isNone then s.setRst { s.rst with refclkFrom := some s.clk } else s

/-- The phases that are complete give way to the next ones; `n` bounds how many. -/
def phaseAdvance : Nat → State → State
  | 0, s => s
  | n + 1, s =>
    if 4 < s.rst.phase ∨ phaseDone s = false then s
    else if s.rst.phase = 4 then
      s.setRst { s.rst with phase := 7, stallAt := none } |> rstCause (if s.rst.cold then 0 else 1) []
    else
      phaseAdvance n (waitRefclk (s.setRst { s.rst with phase := s.rst.phase + 1, stallAt := stallDeadline s }))

def nextPhase (s : State) : State := phaseAdvance 6 s

/-! Release (R324, R328, R329). -/

/-- A 16 µs window within ±200 ppm; the unit is 0.1 ppm (R328, R340). -/
def freqGood (f : Nat) : Bool := decide (-2000 ≤ signed 16 f ∧ signed 16 f ≤ 2000)

def mayRelease (i f : Nat) (s : State) : Bool :=
  !s.up i && !held i s && powered s && decide (phaseOf i ≤ s.rst.phase) &&
  (i == 224 || (s.rst.refclk && freqGood f)) && (onSentinelFeeds i || s.rst.coreGood)

/-- The running image has a run for the island, and it is not one still to be applied for the first time. -/
def replayable (i : Nat) (s : State) : Bool :=
  match s.nvm.image with
  | none => false
  | some m => i != 224 && m.dir.any (·.island == i) && !s.nvm.todo.any (·.island == i)

/-- What an island does as it leaves reset. The constant-rate cells of a grant island stand again once its records are replayed,
at once where it has none (R117); a pipeline's tries are the loader's again, as all four are the same (R180, R187). -/
def afterRelease (i : Nat) (s : State) : State :=
  if i < 48 then onlyIf (s.up (framingIsland i) = true ∧ rd TLN.CTL_TX_MODE i s = 1) (startExit i) s
  else if 164 ≤ i ∧ i ≤ 166 then linkStart s
  else if 207 ≤ i ∧ i ≤ 210 then s.setPipe (i - 207) { s.pipe (i - 207) with trie := s.lpm.pfxs }
  else if 175 ≤ i ∧ i ≤ 182 then (if replayable i s then s else replaceCells (i - 175) s)
  else if i = 218 ∨ i = 219 then
    if s.rst.aligned then s
    else if s.rst.phase = 7 then wr CPH.STS_COLD_HOLD (i - 218) (rd CPH.CTL_COLD_GATE (i - 218) s) s
    else coldHoldBegin (i - 218) s
  else if i = 222 then timRelease s
  else if i = 223 then
    match s.rst.refclkFrom with
    | some t => sendPending s |> rstCause 7 [(s.clk - t) / 1000000] |> (fun s => s.setRst { s.rst with refclkFrom := none })
    | none => sendPending s
  else s

/-- ISLAND_RELEASE (R329): island i leaves reset at its clock-good; `f` is its last window (R328). -/
def islandRelease (i f : Nat) (s : State) : State :=
  if mayRelease i f s then
    let x := s.island i
    let s := s.setIsland i { x with up := true, clkGood := true, pllLock := true, freqErr := f, blockReset := false }
    s |> afterRelease i |> onlyIf (x.blockReset = true) (rstCause 3 [i])
      |> (fun s => if replayable i s && !s.nvm.replays.contains i then
          { s with nvm := { s.nvm with replays := s.nvm.replays ++ [i] } } else s)
      |> nextPhase
  else s

def execIslandRelease (i : Fin 226) (f : BitVec 16) (s : State) : Host.Outcome State Fault Refusal :=
  .next (islandRelease i f.toNat s)

/-- PHASE_STALL (R329): no clock-good for STALL_MS; the island is held. -/
def phaseStall (i : Nat) (s : State) : State :=
  match s.rst.stallAt with
  | some t =>
    if phaseOf i = s.rst.phase ∧ s.up i = false ∧ held i s = false ∧ (s.island i).clkGood = false ∧ i ≠ 160 ∧ i ≠ 162 then
      let s := passTo t s
      s.setIsland i { s.island i with held := true } |> bump RST.HOLD_CNT 0 |> rstCause 5 [i] |> nextPhase
    else s
  | none => s

def execPhaseStall (i : Fin 226) (s : State) : Host.Outcome State Fault Refusal := onIsland 224 s (phaseStall i)

/-! Block resets and relapses (R331, R332, R436). -/

/-- A block reset ends what island 225 was doing; a start it interrupts begins again after its release (R436). -/
def nvmBlockReset (s : State) : State :=
  let s := otpCut s
  let x := s.nvm
  let requeue := match x.run with | some r => if r.replay && !x.replays.contains r.entry.island then [r.entry.island] else [] | none => []
  let x : NvmSt := { x with
    flashOp := none, flashHeld := none, otpOp := none, otpHeld := none, run := none
    replays := x.replays ++ requeue }
  if 3 ≤ x.state then { s with nvm := x }
  else
    let left : List Nat := x.todo.map (fun e => e.island) ++ (match s.nvm.run with | some r => [r.entry.island] | none => [])
    let done : List Nat := match x.image with | some m => (m.dir.map fun e => e.island).filter (fun i => !left.contains i) | none => []
    let order := match x.check with | some c => if c.boot then x.order else c.order | none => x.order
    { s with nvm := { x with
        state := 0, needDiscovery := true, check := none, todo := [], order := order
        again := x.again ++ done.filter (fun i => !x.again.contains i) } }

/-- An island enters a block reset: the apply of its own run stops, to be done again whole (R357). -/
def enterBlock (i : Nat) (s : State) : State :=
  let s := assertReset .cwb [i] s
  let s := match s.nvm.run with
    | some r =>
      if r.entry.island = i then { s with nvm := { s.nvm with run := none } } else s
    | none => s
  onlyIf (i = 225) nvmBlockReset s

/-- A block reset by command (R323, R331): one for an island already in reset merges, and a block reset counts once. -/
def blockCommand (i : Nat) (s : State) : State :=
  if (s.island i).blockReset then s
  else
    let s := s |> bump RST.BLOCK_CNT 0 |> onlyIf (s.up i = true) (enterBlock i) |> rstCause 2 [i]
    s.setIsland i { s.island i with blockReset := true }

/-- The relapse of an island whose clock-good drops (R332). -/
def relapse (i : Nat) (s : State) : State :=
  let l := ((s.island i).relapses.filter fun t => decide (s.clk < t + 10000000000)) ++ [s.clk]
  let s := s |> bump RST.RELAPSE_CNT 0 |> enterBlock i |> rstCause 4 [i]
  let s := s.setIsland i { s.island i with relapses := l }
  if rd RST.CTL_RELAPSE_LIMIT 0 s ≤ l.length then
    s.setIsland i { s.island i with held := true } |> rstCause 5 [i]
  else s

/-- The transmitter PLL of tree n loses lock (R20, R299). -/
def txPllLost (n : Nat) (s : State) : State :=
  { s with pair := { s.pair with pllUnlock := some s.clk } } |> raise (48 + n) 8 []

/-- Clock-good of island i drops: a PLL lock loss, or a window outside ±200 ppm (R328). -/
def clockGoodDrop (i : Nat) (pll : Bool) (f : Nat) (s : State) : State :=
  let x := s.island i
  if i = 224 ∨ (pll = false ∧ freqGood f = true) then s
  else
    s.setIsland i { x with clkGood := false, pllLock := x.pllLock && !pll, freqErr := f }
      |> onlyIf (pll = true ∧ x.pllLock = true) (bump CLK.LOCKLOSS_CNT 0)
      |> onlyIf (pll = true ∧ x.pllLock = true ∧ i < 48) (txPllLost i)
      |> onlyIf (x.up = true) (relapse i)

/-- CLOCK_GOOD_DROP. -/
def execClockGoodDrop (i : Fin 226) (pll : Bool) (f : BitVec 16) (s : State) : Host.Outcome State Fault Refusal :=
  .next (if powered s then clockGoodDrop i pll f.toNat s else s)

/-- TX_PLL_UNLOCK (R20): the transmitter PLL of tree n loses lock; TREE_TXDIS goes high and the island relapses. -/
def txPllUnlock (n : Nat) (s : State) : State :=
  if (s.island n).pllLock then clockGoodDrop n true (s.island n).freqErr s else s

def execTxPllUnlock (n : Fin 48) (s : State) : Host.Outcome State Fault Refusal := .next (txPllUnlock n s)

/-! Cold, warm and sentinel resets (R322, R323, R326, R327). -/

/-- A cold reset: everything returns to its reset value but the flash, the fuses, the shadow until it is reloaded, the feeds
and rails, and the fuse latch, which only a power-on clears (R8, R329, R336). -/
def coldReset (last : Nat) (on_ : Bool) (s : State) : State :=
  let s := otpCut s
  let r := s.rst
  { State.reset with
    mem := s.mem.filter fun e => e.1.sp == .flash || e.1.sp == .otpFuse || e.1.sp == .otpSh
    ev := { pending := if on_ then [] else s.ev.pending.filter fun e => e.1 == 187 }
    clk := s.clk, freeCount := s.freeCount, wrapped := s.wrapped, pending := s.pending
    rst := {
      lastClass := last, powerOn := on_, feedA := r.feedA, feedB := r.feedB, coreGood := r.coreGood
      coreEver := if on_ then r.coreGood else r.coreEver
      coreOutOfBand := r.coreOutOfBand, io18 := r.io18, refclk := r.refclk
      fuseValid := !on_ && r.fuseValid, fuse := if on_ then [] else r.fuse, thermTrip := !on_ && r.thermTrip } }

/-- The start of island 225 after a warm or sentinel reset: the shadow is kept, discovery runs again (R329, R354). -/
def nvmRestart (full : Bool) (s : State) : State :=
  let s := otpCut s
  { s with nvm := { needShadow := s.nvm.needShadow, full := full || s.nvm.needShadow, devnum := s.nvm.devnum } }

/-- The islands `is` lose their relapse history and their holds (R332). -/
def forgetRelapses (is : List Nat) (s : State) : State :=
  allOf is (fun i s => s.setIsland i { s.island i with relapses := [], held := false, blockReset := false }) s

/-- R322: a warm reset, after the give-up of R302. A standby waits for a new bulk copy (R289, R295). -/
def warmReset (last : Nat) (s : State) : State :=
  let s := s |> bump RST.WARM_CNT 0 |> giveUp |> assertReset .cw warmIslands |> forgetRelapses warmIslands |> nvmRestart false
  let s := { s with pair := { s.pair with imageApplied := false, dark := s.pair.dark && s.rst.thermTrip } }
    |> onlyIf (roleStandby s = true) (fun s => s |> wr PAR.STS_SYNC 0 0 |> refreshReady)
  let s := s.setRst { s.rst with
    lastClass := last, phase := min 1 s.rst.phase, cold := false, stallAt := stallDeadline s }
  waitRefclk s |> nextPhase

/-- What a sentinel reset leaves of the sentinel's own state. -/
def sentinelKept (r : RstCtl) (s : State) : State :=
  { s with
      tim := { s.tim with copy := none }
      ev := { s.ev with pending := s.ev.pending.filter fun e => decide (e.1 < 181) }
      rst := {
        lastClass := 5, powerOn := false, cold := false, coreGood := r.coreGood, coreEver := r.coreEver
        coreOutOfBand := r.coreOutOfBand, io18 := r.io18, refclk := r.refclk, fuseValid := r.fuseValid, fuse := r.fuse } }

/-- R309, R324: both sentinel feeds are lost. The isolation cells hold every core island; the sentinel island is reset and its
copy of the time lost (R269). -/
def sentinelReset (s : State) : State :=
  let r := s.rst
  let s := s |> assertReset .c [224, 160, 162] |> assertReset .cw coreIslands |> forgetRelapses allIslands |> nvmRestart true
  let s := allOf allIslands (fun i s => s.setIsland i { s.island i with clkGood := false, pllLock := false }) s
  s |> sentinelKept r |> rstCause 11 []

/-- Sentinel feed 0 is VSENT_A, 1 VSENT_B. -/
def feedUp (f : Nat) (s : State) : Bool := if f = 0 then s.rst.feedA else s.rst.feedB
def setFeed (f : Nat) (v : Bool) (s : State) : State :=
  s.setRst (if f = 0 then { s.rst with feedA := v } else { s.rst with feedB := v })

/-- POWER_ON (R322): the feeds that rise while both were below. -/
def powerOn (a b : Bool) (s : State) : State :=
  if powered s || !(a || b) then s
  else coldReset 0 true (s.setRst { s.rst with feedA := a, feedB := b })

def execPowerOn (a b : Bool) (s : State) : Host.Outcome State Fault Refusal := .next (powerOn a b s)

/-- SENTINEL_FEED_LOSS (R309). -/
def feedLoss (f : Nat) (s : State) : State :=
  if feedUp f s then
    let s := setFeed f false s
    if powered s then raise 186 (2 * f) [] s else sentinelReset s
  else s

def execSentinelFeedLoss (f : Fin 2) (s : State) : Host.Outcome State Fault Refusal := .next (feedLoss f s)

/-- SENTINEL_FEED_RETURN (R309, R322): after both were lost, the warm reset of the rest follows from phase 0. -/
def feedReturn (f : Nat) (s : State) : State :=
  if feedUp f s then s
  else
    let was := powered s
    let s := setFeed f true s |> raise 186 (2 * f + 1) []
    if was then s else bump RST.WARM_CNT 0 (s.setRst { s.rst with phase := 0, lastClass := 5 })

def execSentinelFeedReturn (f : Fin 2) (s : State) : Host.Outcome State Fault Refusal := .next (feedReturn f s)

/-- CORE_FEED_LOSS (R309): the core islands are isolated and unpowered; control is given up. -/
def coreLoss (s : State) : State :=
  if !s.rst.coreGood then s
  else
    let s := s.setRst { s.rst with coreGood := false }
    if !powered s then s
    else
      let s := s |> assertReset .cw coreIslands |> forgetRelapses coreIslands
      allOf coreIslands (fun i s => s.setIsland i { s.island i with clkGood := false, pllLock := false }) s
        |> raise 186 4 [] |> giveUp

def execCoreFeedLoss (s : State) : Host.Outcome State Fault Refusal := .next (coreLoss s)

/-- CORE_FEED_RETURN (R322, R420): the first since power-on ends phase 0; a later one is a warm reset. -/
def coreReturn (s : State) : State :=
  if s.rst.coreGood then s
  else
    let ever := s.rst.coreEver
    let s := s.setRst { s.rst with coreGood := true, coreEver := true }
    if !powered s then s else if ever then warmReset 4 s else nextPhase s

def execCoreFeedReturn (s : State) : Host.Outcome State Fault Refusal := .next (coreReturn s)

/-- CORE_FEED_RANGE_CHANGE (R419): the fault of check 7 of R299. -/
def execCoreFeedRangeChange (out : Bool) (s : State) : Host.Outcome State Fault Refusal :=
  .next (s.setRst { s.rst with coreOutOfBand := out })

/-- RESET_N_PULSE (R325 to R327): a low pulse of `width` ns; `taken`: 400 samples of the oscillator fit into it, which only
pulses of 2 to 10 µs leave open. -/
def resetNPulse (width : Nat) (taken : Bool) (s : State) : State :=
  let accept := decide (10000 ≤ width) || (decide (2000 ≤ width) && taken)
  if !powered s then pass width s
  else if accept then pass width (coldReset 1 false s)
  else pass width s |> onlyIf (100 ≤ width) (fun s => s |> bump RST.GLITCH_CNT 0 |> rstCause 6 [])

def execResetNPulse (width : Nat) (taken : Bool) (s : State) : Host.Outcome State Fault Refusal :=
  .next (resetNPulse width taken s)

/-! The REFCLK check (R271, R328). -/

/-- REFCLK_CHECK: a 10 µs check finds REFCLK within limits, or lost. -/
def refclkCheck (ok : Bool) (s : State) : State :=
  let was := s.rst.refclk
  let s := s.setRst { s.rst with refclk := ok }
  let s := if s.up 222 then timRefclk ok s else s
  if 4 < s.rst.phase ∨ was = ok then s
  else if ok then s.setRst { s.rst with stallAt := if s.rst.phase = 0 then none else stallDeadline s }
  else waitRefclk (s.setRst { s.rst with stallAt := none })

def execRefclkCheck (ok : Bool) (s : State) : Host.Outcome State Fault Refusal := .next (refclkCheck ok s)

/-! RST.CMD (R331, R332, R340). -/

def rstDone (err : Nat) (s : State) : State :=
  s |> wr RST.CMD_GO 0 0 |> wr RST.CMD_ERR 0 (if err = 0 then 0 else 1) |> wr RST.CMD_ERRCODE 0 err

def rstRefuse (err : Nat) (s : State) : State := s |> rstDone err |> rstCause 9 [] |> refuseCode err

/-- Islands whose block reset waits for the response (R331). -/
def blockWaits (i : Nat) : Bool := i == 223 || i == 164 || i == 165 || i == 166

def rstOperate (op i : Nat) (s : State) : State :=
  let s := s |> wr RST.CMD_OP 0 op
    |> (if 225 < i then encReject (regOffset .rst 0 1) (2 ^ 31 + op * 2 ^ 24 + i) else wr RST.CMD_ISLAND 0 i)
  if op = 0 then s |> rstDone 0 |> warmReset 3
  else if op = 3 then coldReset 2 false s
  else if 225 < i then rstRefuse 2 s
  else if op = 1 then
    if i = 224 then rstRefuse 1 s
    else if blockWaits i then s |> rstDone 0 |> (fun s => s.setRst { s.rst with blockDue := some i })
    else s |> rstDone 0 |> blockCommand i
  else if held i s then
    let s := rstDone 0 s
    s.setIsland i { s.island i with held := false, relapses := [] }
  else rstRefuse 3 s

/-- A block reset that waited for a response starts (R331). -/
def startDue (s : State) : State :=
  match s.rst.blockDue with
  | some i => blockCommand i (s.setRst { s.rst with blockDue := none })
  | none => s

/-- A write of RST.CMD: only GO starts OP. -/
def rstCmdWrite (w : Nat) (s : State) : State :=
  if maskHas w 31 then rstOperate (w / 2 ^ 24 % 4) (w % 256) s
  else if w % 256 ≤ 225 then s |> wr RST.CMD_OP 0 (w / 2 ^ 24 % 4) |> wr RST.CMD_ISLAND 0 (w % 256)
  else s |> wr RST.CMD_OP 0 (w / 2 ^ 24 % 4) |> encReject (regOffset .rst 0 1) w

/-- RST.CMD is guarded (R383). -/
def rstCommand (op i : Nat) (s : State) : Host.Outcome State Fault Refusal :=
  onIsland 224 s fun s => startDue (guarded (regOffset .rst 0 1) (2 ^ 31 + op * 2 ^ 24 + i) (rstOperate op i) s)

/-- RST_WARM. -/
def execRstWarm (s : State) : Host.Outcome State Fault Refusal := rstCommand 0 0 s
/-- RST_BLOCK. -/
def execRstBlock (i : BitVec 8) (s : State) : Host.Outcome State Fault Refusal := rstCommand 1 i.toNat s
/-- RST_RELEASE_HELD. -/
def execRstReleaseHeld (i : BitVec 8) (s : State) : Host.Outcome State Fault Refusal := rstCommand 2 i.toNat s
/-- RST_COLD. -/
def execRstCold (s : State) : Host.Outcome State Fault Refusal := rstCommand 3 0 s

/-! Pins (R335, R336, R338). -/

/-- The codes of the fuse map enter the I/O ring latch; an unlisted code of a pin is reported (R335);
the codes of the indexes that name no ball are read and ignored (R422). -/
def latchFuses (s : State) : State :=
  let codes := (List.range 1020).filterMap fun p => let c := fuseCode p s; if c = 0 then none else some (p, c)
  s.setRst { s.rst with fuseValid := true, fuse := codes }
    |> allOf (codes.filter fun e => decide (5 ≤ e.2 ∧ e.1 < 244)) (fun e => rstCause 12 [e.1]) |> nextPhase

/-- FUSE_MAP_LATCH (R329, R336). -/
def execFuseMapLatch (s : State) : Host.Outcome State Fault Refusal :=
  onIsland 224 s fun s => if s.rst.io18 && !s.rst.fuseValid then latchFuses s else s

/-- IO_RAIL_LOSS (R336). -/
def execIoRailLoss (s : State) : Host.Outcome State Fault Refusal :=
  .next (s.setRst { s.rst with io18 := false, fuseValid := false, fuse := [] })

/-- IO_RAIL_RETURN (R336): with a sentinel feed up, the fuse map is read again. -/
def execIoRailReturn (s : State) : Host.Outcome State Fault Refusal :=
  let s := s.setRst { s.rst with io18 := true }
  .next (if s.up 224 && !s.rst.fuseValid then latchFuses s else s)

/-- A write of PIN_OVR (R338). -/
def pinOvrWrite (w : Nat) (s : State) : State :=
  let pin := rd RST.PIN_IDX_PIN 0 s
  let code := w % 8
  if 4 < code then encReject (regOffset .rst 0 8) w s
  else if maskHas w 31 && !roleTest s then s |> rstCause 10 [pin] |> setVerdict 6 0
  else
    s.setRst { s.rst with overrides := Tbl.set 0 s.rst.overrides pin (if maskHas w 31 then code + 1 else 0) }
      |> wr RST.PIN_OVR_OVR_EN 0 (w / 2 ^ 31) |> wr RST.PIN_OVR_OVR 0 code

/-- PIN_OVERRIDE: a guarded register. -/
def execPinOverride (w : Word) (s : State) : Host.Outcome State Fault Refusal :=
  onIsland 224 s (guarded (regOffset .rst 0 8) w.toNat (pinOvrWrite w.toNat))

/-! Temperature (R427 to R429). -/

/-- The variant's junction limits, °C (R427). -/
def maxTemp : Int := if Config.variantE then 105 else 95
def minTemp : Int := if Config.variantE then -40 else 0

/-- The middle of a sorted list of readings. -/
def insertInt (x : Int) : List Int → List Int
  | [] => [x]
  | y :: l => if x ≤ y then x :: y :: l else y :: insertInt x l

/-- The hottest of a list of sensors, the first of equals. -/
def hottest : List (Nat × Int) → Option (Nat × Int)
  | [] => none
  | x :: l => match hottest l with | some y => if x.2 < y.2 then some y else some x | none => some x

def median (l : List Int) : Int := (l.foldr insertInt []).getD (l.length / 2) 0

/-- A raise for sensor `x.1` with its reading. -/
def thermal (bit : Nat) (x : Nat × Int) : State → State := raise 187 bit [x.1, unsigned 32 x.2]

/-- THERMAL_SAMPLE (R428): the readings of the die sensors in order, °C. A sensor more than 15 °C from the median of the
others is ignored from then on; a cause is raised when its condition begins to hold. -/
def thermalSample (t : List Int) (s : State) : State :=
  let all := t.zipIdx.map fun x => (x.2, x.1)
  let good := all.filter fun x => !s.rst.badSensors.contains x.1
  let faulty := good.filter fun x =>
    decide (15 < (x.2 - median ((good.filter fun y => y.1 != x.1).map (·.2))).natAbs) && decide (1 < good.length)
  let good := good.filter fun x => !faulty.any (·.1 == x.1)
  let top := hottest good
  let warn := top.filter fun x => decide (maxTemp - 5 ≤ x.2)
  let hot := top.filter fun x => decide (maxTemp < x.2)
  let under := good.find? fun x => decide (x.2 < minTemp)
  let back := s.rst.overTemp && good.all fun x => decide (x.2 ≤ maxTemp - 3)
  let was := s.rst
  let first := fun (bit : Nat) (old : Bool) (x : Option (Nat × Int)) (s : State) =>
    match x with | some v => if old then s else thermal bit v s | none => s
  s.setRst { s.rst with
      badSensors := s.rst.badSensors ++ faulty.map (·.1)
      warnTemp := warn.isSome, underTemp := under.isSome, overTemp := hot.isSome || (was.overTemp && !back) }
    |> allOf faulty (thermal 4)
    |> first 0 was.warnTemp warn |> first 1 was.overTemp hot |> first 3 was.underTemp under
    |> onlyIf (back = true) (fun s => match top with | some x => thermal 2 x s | none => s)

def execThermalSample (t : List Int) (s : State) : Host.Outcome State Fault Refusal := onIsland 224 s (thermalSample t)

/-- THERMAL_TRIP (R429): THERMTRIP_N goes low, control is given up; cause 5 waits for the first release of island 223. -/
def thermalTrip (s : State) : State :=
  if s.rst.thermTrip then s
  else
    let s := s.setRst { s.rst with thermTrip := true }
    giveUp { s with ev := { s.ev with pending := s.ev.pending ++ [(187, 5, [], none)] } }

def execThermalTrip (s : State) : Host.Outcome State Fault Refusal := .next (if powered s then thermalTrip s else s)

end Sys2Proof.Machine
end

