-- ==== Sys2Proof/Machine/Nvm.lean ====
section
/-!
DEFINITION. Flash, slot checks, and the commands of island 225 (15_nvm_otp.md, R343 to R364, R435, R436). Records stand in
Image.
-/

namespace Sys2Proof.Machine

def State.setNvm (s : State) (x : NvmSt) : State := { s with nvm := x }

/-- A cause of source 184 (R365). -/
def nvmCause (bit : Nat) (d : List Nat) (s : State) : State := raise 184 bit d s

/-! The flash (R348, R349). -/

/-- The flash word at a byte address. -/
def flashWord (a : Nat) (s : State) : Nat := rdWord .flash 0 (a / 4) 0 s

def slotBase (slot : Nat) (s : State) : Nat := (if slot = 0 then setting 3 31 16 s else setting 3 15 0 s) * 65536
def slotSize (s : State) : Nat := setting 4 15 0 s * 65536

/-- n words of a slot from byte `ofs` on. -/
def slotWords (slot ofs n : Nat) (s : State) : List Nat :=
  (List.range n).map fun j => flashWord (slotBase slot s + ofs + 4 * j) s

/-- Four words as a number, the first least significant. -/
def quad (l : List Nat) : Nat := l.getD 0 0 + l.getD 1 0 * 2 ^ 32 + l.getD 2 0 * 2 ^ 64 + l.getD 3 0 * 2 ^ 96

/-- The AES-256 CMAC of words under a key, its first byte least significant. -/
def cmacWords (key : Nat) (l : List Nat) : Nat := Config.cmac key ((wordsBytes l).map (·.toNat)) % 2 ^ 128

def headerWords (slot : Nat) (s : State) : List Nat := slotWords slot 0 16 s

/-- Runs the header announces (R349). -/
def dirCount (h : List Nat) : Nat := h.getD 3 0 / 65536

def dirWords (slot : Nat) (s : State) : List Nat := slotWords slot 64 (8 * dirCount (headerWords slot s)) s

/-- Entry i of the directory. -/
def dirEntry (l : List Nat) (i : Nat) : DirEntry :=
  let e := l.drop (8 * i)
  { island := e.getD 0 0 % 256, ofs := e.getD 1 0, len := e.getD 2 0, records := e.getD 3 0, cmac := quad (e.drop 4) }

def directory (slot : Nat) (s : State) : List DirEntry :=
  (List.range (dirCount (headerWords slot s))).map (dirEntry (dirWords slot s))

def imageCopy (slot : Nat) (s : State) : ImageCopy :=
  let h := headerWords slot s
  { arb := h.getD 1 0 / 65536, imageId := h.getD 2 0, nonce := h.getD 6 0 + h.getD 7 0 * 2 ^ 32, dir := directory slot s }

/-! Records (R350, R351, R378). -/

/-- The groups of a TABLE record are whole, their KINDs, counts and limits listed, their offsets mapped. -/
def groupsOk : Nat → List Nat → Bool
  | 0, _ => false
  | _, [] => true
  | fuel + 1, h :: l =>
    let ofs := h % 2 ^ 24
    match h / 2 ^ 28, l with
    | 0, _ :: d :: n :: rest =>
      decide (1 ≤ n ∧ n ≤ 4088 ∧ n ≤ rest.length) && (regAt ofs).isSome && (regAt (d % 2 ^ 24)).isSome &&
        groupsOk fuel (rest.drop n)
    | 1, _ :: _ :: t :: rest => decide (1 ≤ t ∧ t ≤ 1000000) && (regAt ofs).isSome && groupsOk fuel rest
    | _, _ => false

/-- One record of an island's run: its type, ADDR and payload (R351). -/
def recordOk (island : Nat) (keys : Bool) (type addr : Nat) (pay : List Nat) : Bool :=
  let inRange := fun (a : Nat) => rangeOf a == some island
  match type with
  | 1 => inRange addr && (List.range pay.length).all (fun j => inRange (addr + 4 * j))
  | 2 => inRange addr
  | 3 => inRange addr && pay.length == 2
  | 4 => inRange addr && pay.length == 3
  | 5 => inRange addr && keys && decide (4 ≤ pay.length)
  | 6 => groupsOk (pay.length + 1) pay
  | _ => false

/-- The records of a run end with END, none runs past it, and there are as many as its entry says (R351). -/
def runOk (island : Nat) (keys : Bool) : Nat → Nat → List Nat → Bool
  | _, 0, _ => false
  | 0, _, _ => false
  | fuel + 1, left + 1, h :: addr :: l =>
    let len := h % 2 ^ 24
    if h / 2 ^ 24 = 15 then len == 0 && l.isEmpty && left == 0
    else decide (len ≤ l.length) && recordOk island keys (h / 2 ^ 24) addr (l.take len) && runOk island keys fuel left (l.drop len)
  | _, _, _ => false

/-- The words of a run. -/
def runWords (slot : Nat) (e : DirEntry) (s : State) : List Nat := slotWords slot e.ofs (e.len / 4) s

/-! The check of a slot (R353). -/

/-- The rules of R349 on lengths, order and islands. -/
def layoutOk (imageLen size : Nat) (dir : List DirEntry) : Bool :=
  let n := dir.length
  let apart := fun (a b : DirEntry) => decide (a.ofs + a.len ≤ b.ofs ∨ b.ofs + b.len ≤ a.ofs) && a.island != b.island
  decide (1 ≤ n ∧ n ≤ 226 ∧ imageLen ≤ size) &&
  dir.all (fun e => decide (e.island ≤ 225 ∧ e.ofs % 4 = 0 ∧ e.len % 4 = 0 ∧ e.ofs + e.len ≤ imageLen ∧
    (64 + 32 * n ≤ e.ofs ∨ e.ofs + e.len ≤ 64))) &&
  (List.range n).all (fun i => (dir.drop (i + 1)).all fun b =>
    match dir[i]? with | some a => apart a b && decide (phaseOf a.island ≤ phaseOf b.island) | none => true)

/-- The result code of a slot, with the ARB value the check read at its start and whether a read failed. -/
def slotResult (slot arb : Nat) (readFailed : Bool) (s : State) : Nat :=
  let h := headerWords slot s
  let d := dirWords slot s
  let dir := directory slot s
  let key := keyNumber 0 s
  let target := h.getD 3 0 % 65536
  let devnum := if shWord 2 s / 2 ^ 31 = 1 then some (shWord 2 s % 1024) else none
  if readFailed then 9
  else if h.getD 0 0 ≠ 0x41554D4E ∨ h.getD 1 0 % 65536 ≠ 1 then 2
  else if keyValid 0 s = false then 3
  else if cmacWords key (h.take 12 ++ d) ≠ quad (h.drop 12) then 4
  else if layoutOk (h.getD 4 0) (slotSize s) dir = false then 5
  else if setting 5 0 0 s = 1 ∧ h.getD 1 0 / 65536 < arb then 6
  else if setting 5 2 2 s = 1 ∧ target ≠ 0xFFFF ∧ devnum ≠ some target then 7
  else if dir.all (fun e =>
      let w := runWords slot e s
      cmacWords key w == e.cmac && runOk e.island (setting 5 3 3 s == 1) (w.length + 1) e.records w) = false then 8
  else 1

def setResult (slot r : Nat) (s : State) : State :=
  s.setNvm (if slot = 0 then { s.nvm with resA := r } else { s.nvm with resB := r })

/-! NVM.CMD (R359, R360). -/

/-- Bytes [a, a + n) reach the running slot. -/
def reachesRunning (a n : Nat) (s : State) : Bool :=
  s.nvm.image.isSome && decide (a < slotBase s.nvm.slot s + slotSize s ∧ slotBase s.nvm.slot s < a + n)

/-- Why an operation is refused: its ERRCODE; 0 where it is not. -/
def flashRefusal (f : FlashOp) (s : State) : Nat :=
  if f.op ≤ 1 ∧ (f.addr % 4 ≠ 0 ∨ f.len = 0 ∨ 256 < f.len) then 1
  else if f.op = 1 ∧ 256 < f.addr % 256 + 4 * f.len then 1
  else if f.op = 1 ∧ reachesRunning f.addr (4 * f.len) s = true then 2
  else if f.op = 2 ∧ f.addr % 65536 ≠ 0 then 1
  else if f.op = 2 ∧ reachesRunning f.addr 65536 s = true then 2
  else if f.op = 4 ∧ s.nvm.state ≠ 4 then 3
  else 0

def nvmStatus (go err : Nat) (s : State) : State :=
  s |> wr NVM.CMD_GO 0 go |> wr NVM.CMD_ERR 0 (if err = 0 then 0 else 1) |> wr NVM.CMD_ERRCODE 0 err

/-- The check of the slots `order`, for a start or for BOOT (R354). -/
def checkBegin (order : List Nat) (boot : Bool) (s : State) : State :=
  s.setNvm { s.nvm with
    check := some { slots := order, order := order, boot := boot, arb := arbValue s, readFailed := false } }

/-- An operation starts, or is refused. -/
def flashBegin (f : FlashOp) (s : State) : State :=
  let f := { f with addr := rd NVM.ADDR 0 s }
  let e := flashRefusal f s
  if e = 0 then
    let f := { f with arb := arbValue s, since := if s.nvm.run.isNone ∧ s.nvm.replays = [] then some s.clk else none }
    let s := s.setNvm { s.nvm with flashOp := some f } |> nvmStatus 1 0
    if f.op = 4 then checkBegin [0, 1] true s else s
  else s |> nvmStatus 0 e |> nvmCause 8 [] |> refuseCode e

/-- The operation in progress ends; a held one starts (R388). -/
def flashEnd (err : Nat) (s : State) : State :=
  let held := s.nvm.flashHeld
  let s := s.setNvm { s.nvm with flashOp := none, flashHeld := none } |> nvmStatus 0 err
  match held with
  | some f => flashBegin f s
  | none => s

/-- A write of NVM.CMD with a listed OP; GO starts the operation. -/
def nvmOperate (go : Bool) (op slot len : Nat) (s : State) : State :=
  let s := s |> wr NVM.CMD_OP 0 op |> wr NVM.CMD_SLOT 0 slot |> wr NVM.CMD_LEN 0 len
  let f : FlashOp := { op := op, slot := slot, addr := 0, len := len, since := none, arb := 0 }
  if !go then s
  else match s.nvm.flashOp, s.nvm.flashHeld with
    | none, _ => flashBegin f s
    | some _, none => s.setNvm { s.nvm with flashHeld := some f }
    | some _, some _ => goBusy (regOffset .nvm 0 3) (2 ^ 31 + op * 2 ^ 24 + slot * 2 ^ 16 + len) s

def nvmCmdWrite (w : Nat) (s : State) : State :=
  let op := w / 2 ^ 24 % 8
  if 4 < op then encReject (regOffset .nvm 0 3) w s
  else if maskHas w 31 = false ∧ 256 < w % 512 then encReject (regOffset .nvm 0 3) w (nvmOperate false op (w / 2 ^ 16 % 2) (rd NVM.CMD_LEN 0 s) s)
  else nvmOperate (maskHas w 31) op (w / 2 ^ 16 % 2) (w % 512) s

/-- NVM.CMD is guarded (R383). -/
def nvmCommand (op slot len : Nat) (s : State) : Host.Outcome State Fault Refusal :=
  onIsland 225 s (guarded (regOffset .nvm 0 3) (2 ^ 31 + op * 2 ^ 24 + slot * 2 ^ 16 + len) (nvmOperate true op slot len))

/-- The address register is written, then the command. -/
def nvmAt (addr : Nat) (s : State) (f : State → Host.Outcome State Fault Refusal) : Host.Outcome State Fault Refusal :=
  f (if s.up 225 then wr NVM.ADDR 0 addr s else s)

/-- NVM_READ. -/
def execNvmRead (addr : Word) (len : BitVec 9) (s : State) : Host.Outcome State Fault Refusal :=
  nvmAt addr.toNat s (nvmCommand 0 0 len.toNat)
/-- NVM_PROGRAM. -/
def execNvmProgram (addr : Word) (len : BitVec 9) (s : State) : Host.Outcome State Fault Refusal :=
  nvmAt addr.toNat s (nvmCommand 1 0 len.toNat)
/-- NVM_ERASE. -/
def execNvmErase (addr : Word) (s : State) : Host.Outcome State Fault Refusal := nvmAt addr.toNat s (nvmCommand 2 0 0)
/-- NVM_CHECK. -/
def execNvmCheck (slot : Fin 2) (s : State) : Host.Outcome State Fault Refusal := nvmCommand 3 slot 0 s
/-- NVM_BOOT. -/
def execNvmBoot (s : State) : Host.Outcome State Fault Refusal := nvmCommand 4 0 0 s

/-- Flash cells program as NOR flash does: bits are only cleared; an erase sets every bit of its sector (log entry 4). -/
def flashProgram (addr : Nat) (l : List Nat) (s : State) : State :=
  allOf l.zipIdx (fun e s => wrWord .flash 0 (addr / 4 + e.2) 0 (flashWord (addr + 4 * e.2) s &&& e.1) s) s

def flashErase (addr : Nat) (s : State) : State :=
  { s with mem := s.mem.filter fun e => !(e.1.sp == .flash && decide (addr / 4 ≤ e.1.idx ∧ e.1.idx < addr / 4 + 16384)) }

/-- FLASH_OP_DONE: a read, program or erase of NVM.CMD ends. -/
def flashDone (s : State) : State :=
  match s.nvm.flashOp with
  | some { op := op, addr := a, len := n, since := some _, .. } =>
    if op = 0 then
      flashEnd 0 (allOf (List.range n) (fun j s => wrWord .nvmBuf 0 j 0 (flashWord (a + 4 * j) s) s) s)
    else if op = 1 then flashEnd 0 (flashProgram a ((List.range n).map fun j => rdWord .nvmBuf 0 j 0 s) s)
    else if op = 2 then flashEnd 0 (flashErase a s)
    else s
  | _ => s

def execFlashOpDone (s : State) : Host.Outcome State Fault Refusal := onIsland 225 s flashDone

/-- The buffer words (R360): BUF_DATA. -/
def bufWordRead (s : State) : Nat × State :=
  (rdWord .nvmBuf 0 (rd NVM.BUF_IDX_WORD 0 s) 0 s, stepIndex NVM.BUF_IDX_AUTO_INC NVM.BUF_IDX_WORD 0 256 s)
def bufWordWrite (w : Nat) (s : State) : State :=
  wrWord .nvmBuf 0 (rd NVM.BUF_IDX_WORD 0 s) 0 w s |> stepIndex NVM.BUF_IDX_AUTO_INC NVM.BUF_IDX_WORD 0 256

/-! The start (R435, R348, R354, R355). -/

/-- OTP_SHADOW_LOADED (R344, R435), with the causes of the load, and the reset value of USB4_EN (R390). -/
def shadowLoad (s : State) : State :=
  if s.nvm.needShadow then
    let s := allOf (List.range 512) (fun w s => wrWord .otpSh 0 w 0 (fuseWord w s) s) s
    let id := shWord 2 s
    s.setNvm { s.nvm with needShadow := false, devnum := if 2 ^ 31 ≤ id then some (id % 1024) else none }
      |> allOf (List.range 4) (fun g s => onlyIf (genDamaged g s = true) (nvmCause 12 [0, 0, g]) s)
      |> allOf (List.range 3) (fun k s => onlyIf (keyBad k s = true) (nvmCause 13 [0, 0, k]) s)
      |> onlyIf (nextGen s = none) (nvmCause 11 [])
      |> usb4EnWrite (1 - setting 5 1 1 s)
  else s

def execOtpShadowLoaded (s : State) : Host.Outcome State Fault Refusal := onIsland 225 s shadowLoad

/-- FLASH_DISCOVERY_DONE (R348): `good`, the header read in octal mode arrives right. The order of the check is R354's; an
interrupted start keeps its order (R436). -/
def discovery (good : Bool) (s : State) : State :=
  let x := s.nvm
  if x.needDiscovery && !x.needShadow then
    let order :=
      if x.order ≠ [] then x.order
      else if s.rst.cold = false ∧ rd NVM.CTL_NEXT_SLOT 0 s = 2 then [1, 0] else [0, 1]
    let wants := setting 1 31 24 s != 0
    let octal := wants && good && flashWord (slotBase (order.headD 0) s) s == 0x41554D4E
    let s := s.setNvm { x with needDiscovery := false, octal := octal, state := if x.state = 0 then 1 else x.state, order := [] }
      |> onlyIf (wants = true ∧ octal = false) (nvmCause 4 [])
    if x.state = 0 then s |> wr NVM.CTL_NEXT_SLOT 0 0 |> checkBegin order false else s
  else s

def execFlashDiscoveryDone (good : Bool) (s : State) : Host.Outcome State Fault Refusal := onIsland 225 s (discovery good)

/-- A slot has passed: it becomes the running slot and its runs are applied (R354, R356). -/
def slotPassed (slot : Nat) (s : State) : State :=
  let m := imageCopy slot s
  s.setNvm { s.nvm with check := none, slot := slot, image := some m, state := 2, todo := m.dir, replays := [] }
    |> onlyIf (usb4Enabled s = true ∧ on CMD.CTL_USB4_EN 0 s = false) (tunnelLoss true) |> nextPhase

/-- No slot has passed (R355). -/
def bothFailed (boot : Bool) (s : State) : State :=
  s.setNvm { s.nvm with check := none, state := 4 } |> nvmCause 3 [s.nvm.resA, s.nvm.resB]
    |> onlyIf (boot = false) (fun s => linkStart (rstCause 8 [] s))

/-- One slot of a start or of BOOT is judged. -/
def slotJudged (c : CheckNow) (s : State) : State :=
  match c.slots with
  | [] => s
  | slot :: rest =>
    let r := slotResult slot c.arb c.readFailed s
    let s := setResult slot r s
    if r = 1 then slotPassed slot s |> onlyIf (c.boot = true) (flashEnd 0)
    else
      let s := nvmCause 2 [slot, r] s
      match rest with
      | [] => bothFailed c.boot s |> onlyIf (c.boot = true) (flashEnd 0)
      | _ =>
        s.setNvm { s.nvm with check := some { c with slots := rest, arb := arbValue s, readFailed := false } }

/-- SLOT_CHECK_DONE: the slot under check, of a start or of BOOT, else of the CHECK command. -/
def slotCheckDone (s : State) : State :=
  match s.nvm.check, s.nvm.flashOp with
  | some c, _ => slotJudged c s
  | none, some { op := 3, slot := slot, since := some _, arb := arb, .. } =>
    let r := slotResult slot arb false s
    setResult slot r s |> onlyIf (r ≠ 1) (nvmCause 2 [slot, r]) |> flashEnd 0
  | none, _ => s

def execSlotCheckDone (s : State) : Host.Outcome State Fault Refusal := onIsland 225 s slotCheckDone

/-! OTP.CMD (R346, R347, R361). -/

def pdata (w : Nat) (s : State) : Nat := rdWord .otpP 0 w 0 s
def pdataWords (n : Nat) (s : State) : List Nat := (List.range n).map fun w => pdata w s

/-- The fields of settings words that have a range lie in it (R346). -/
def settingsOk (l : List Nat) : Bool :=
  let w1 := l.getD 1 0
  decide (l.getD 0 0 / 65536 = 0x5E77 ∧ 4 ≤ w1 / 2 ^ 11 % 32 ∧ 25 ≤ w1 % 256 ∧ w1 % 256 ≤ 200 ∧
    16 ≤ l.getD 4 0 % 65536 ∧ l.getD 4 0 % 65536 ≤ 4096)

/-- The lowest n unset bits of the ARB words from bit i on, as words with their bits. -/
def arbBits : Nat → Nat → Nat → State → List (Nat × Nat)
  | 0, _, _, _ => []
  | fuel + 1, i, n, s =>
    if n = 0 then []
    else if maskHas (shWord (28 + i / 32) s) (i % 32) then arbBits fuel (i + 1) n s
    else (28 + i / 32, 2 ^ (i % 32)) :: arbBits fuel (i + 1) (n - 1) s

/-- Bits of one word that follow one another are programmed together. -/
def joinBits : List (Nat × Nat) → List (Nat × Nat)
  | [] => []
  | (w, b) :: l =>
    match joinBits l with
    | (w', b') :: l' => if w = w' then (w, b + b') :: l' else (w, b) :: (w', b') :: l'
    | [] => [(w, b)]

/-- TREE_TXDIS pins (R347, R422). -/
def isTxdisPin (p : Nat) : Bool := decide (p < 192) && p % 4 == 0

/-- Why a command is refused, its item, and the words to program. The words of a refused command are not used. -/
def otpPlan (op arg : Nat) (s : State) : Nat × Nat × List (Nat × Nat) :=
  if op = 0 then
    match nextGen s with
    | none => (1, 0, [])
    | some g =>
      let l := pdataWords 31 s
      (if settingsOk l then 0 else 3, g, (l ++ [crc32 l]).zipIdx.map fun e => (256 + 32 * g + e.2, e.1))
  else if op = 1 then
    let l := pdataWords 8 s
    (if 2 < arg then 3 else if keyAbsent arg s = false then 2 else if allZero l then 3 else 0, arg,
      l.zipIdx.map (fun e => (4 + 8 * arg + e.2, e.1)) ++ [(138 + arg, crc32 l)])
  else if op = 2 then (if maskHas (shWord 2 s) 31 then 2 else 0, 0, [(2, 2 ^ 31 + pdata 0 s % 1024)])
  else if op = 3 then
    (if 256 < arg ∨ arg < arbValue s then 3
     else if (match s.nvm.image with | some m => m.arb | none => 0) < arg then 6 else 0, arg,
      joinBits (arbBits 257 0 (arg - arbValue s) s))
  else
    let old := fuseCode arg s
    let new := pdata 0 s % 8
    (if 1019 < arg then 3 else if isTxdisPin arg ∨ old &&& new ≠ old then 5 else 0, arg,
      [(36 + arg / 10, new * 2 ^ (3 * (arg % 10)))])

/-- The core feed is within limits and the junction inside the variant's range (R361). -/
def mayProgram (s : State) : Bool :=
  s.rst.coreGood && !s.rst.coreOutOfBand && !s.rst.overTemp && !s.rst.underTemp

def otpStatusWrite (go err : Nat) (s : State) : State :=
  s |> wr OTP.CMD_GO 0 go |> wr OTP.CMD_ERR 0 (if err = 0 then 0 else 1) |> wr OTP.CMD_ERRCODE 0 err

/-- PDATA is cleared after each command (R363). -/
def clearPdata (s : State) : State := allOf (List.range 32) (fun w => wrWord .otpP 0 w 0 0) s

/-- The end of a command: its causes, and the settings found frozen by a settings program (R346). -/
def otpFinish (op err item : Nat) (s : State) : State :=
  s.setNvm { s.nvm with otpOp := none } |> clearPdata |> otpStatusWrite 0 err
    |> (if err = 0 then nvmCause 9 [op, 0, item] else nvmCause 10 [op, err, item])

/-- A command starts, or is refused. -/
def otpBegin (op arg : Nat) (s : State) : State :=
  let (e, item, words) := otpPlan op arg s
  let e := if e = 0 ∧ mayProgram s = false then 7 else e
  if e ≠ 0 then s |> otpFinish op e item |> refuseCode e
  else if words = [] then otpFinish op 0 item s
  else s.setNvm { s.nvm with otpOp := some { op := op, item := item, left := words, since := s.clk } } |> otpStatusWrite 1 0

/-- After a command its held successor starts (R388). -/
def otpNext (s : State) : State :=
  match s.nvm.otpHeld with
  | some (op, arg) => otpBegin op arg (s.setNvm { s.nvm with otpHeld := none })
  | none => s

def otpOperate (go : Bool) (op arg : Nat) (s : State) : State :=
  let s := s |> wr OTP.CMD_OP 0 op |> wr OTP.CMD_ARG 0 arg
  if !go then s
  else match s.nvm.otpOp, s.nvm.otpHeld with
    | none, _ => otpBegin op arg s
    | some _, none => s.setNvm { s.nvm with otpHeld := some (op, arg) }
    | some _, some _ => goBusy (regOffset .otp 0 5) (2 ^ 31 + op * 2 ^ 24 + arg) s

def otpCmdWrite (w : Nat) (s : State) : State :=
  if 4 < w / 2 ^ 24 % 8 then encReject (regOffset .otp 0 5) w s
  else otpOperate (maskHas w 31) (w / 2 ^ 24 % 8) (w % 1024) s

def otpCommand (op arg : Nat) (s : State) : Host.Outcome State Fault Refusal :=
  onIsland 225 s (guarded (regOffset .otp 0 5) (2 ^ 31 + op * 2 ^ 24 + arg) (otpOperate true op arg))

/-- OTP_PROGRAM_SETTINGS. -/
def execOtpProgramSettings (s : State) : Host.Outcome State Fault Refusal := otpCommand 0 0 s
/-- OTP_PROGRAM_KEY. -/
def execOtpProgramKey (arg : BitVec 10) (s : State) : Host.Outcome State Fault Refusal := otpCommand 1 arg.toNat s
/-- OTP_PROGRAM_DEVNUM. -/
def execOtpProgramDevnum (s : State) : Host.Outcome State Fault Refusal := otpCommand 2 0 s
/-- OTP_ADVANCE_ARB. -/
def execOtpAdvanceArb (arg : BitVec 10) (s : State) : Host.Outcome State Fault Refusal := otpCommand 3 arg.toNat s
/-- OTP_PROGRAM_PIN. -/
def execOtpProgramPin (pin : BitVec 10) (s : State) : Host.Outcome State Fault Refusal := otpCommand 4 pin.toNat s

/-- The fuse word reaches the shadow at once for a key, DEVNUM or ARB (R344). -/
def shadowWord (op w : Nat) (s : State) : State := onlyIf (1 ≤ op ∧ op ≤ 3) (wrWord .otpSh 0 w 0 (fuseWord w s)) s

/-- OTP_WORD_PROGRAMMED: a word is programmed in 20 µs and verified. Which bits a failed word took is open. -/
def otpWord (ok : Bool) (s : State) : State :=
  match s.nvm.otpOp with
  | none => s
  | some x =>
    match x.left with
    | [] => s
    | (w, bits) :: rest =>
      let s := passTo (x.since + 20000) s
      if ok then
        let s := s |> programFuse w bits |> shadowWord x.op w
        if rest = [] then s |> otpFinish x.op 0 x.item |> onlyIf (x.op = 0 ∧ nextGen s = none) (nvmCause 11 []) |> otpNext
        else s.setNvm { s.nvm with otpOp := some { x with left := rest, since := s.clk } }
      else
        let (v, s) := drawFree s
        let s := s |> programFuse w (bits &&& v) |> shadowWord x.op w
        s |> otpFinish x.op 4 x.item |> onlyIf (x.op = 0 ∧ nextGen s = none) (nvmCause 11 []) |> otpNext

def execOtpWordProgrammed (ok : Bool) (s : State) : Host.Outcome State Fault Refusal := onIsland 225 s (otpWord ok)

/-- PDATA (guarded) and SH_DATA. -/
def pdataWrite (w : Nat) (s : State) : State :=
  wrWord .otpP 0 (rd OTP.PDATA_IDX_WORD 0 s) 0 w s |> stepIndex OTP.PDATA_IDX_AUTO_INC OTP.PDATA_IDX_WORD 0 32
def shRead (s : State) : Nat × State :=
  (shShown (rd OTP.SH_IDX_WORD 0 s) s, stepIndex OTP.SH_IDX_AUTO_INC OTP.SH_IDX_WORD 0 512 s)

end Sys2Proof.Machine
end

