-- ==== Sys2Proof/Machine/Pmu.lean ====
section
/-!
DEFINITION. The commands and registers of the performance monitor (17_events_counters.md, R400 to R404, R407).
-/

namespace Sys2Proof.Machine

/-- PMU_WRAP (R401): a wrap of counter i feeds its chained partner or raises its cause. -/
def pmuWrap (i : Nat) (s : State) : State :=
  let x := s.pmuVal i
  if x.wraps = 0 then s
  else
    let s := s.setPmu i { x with wraps := x.wraps - 1 }
    if i % 2 = 0 ∧ on PMUC.CFG_CHAIN (i + 1) s = true then onlyIf (on PMUC.CFG_EN (i + 1) s = true) (pmuAddTo (i + 1) 1) s
    else raise (188 + i / 16) (i % 16) [i] s

def execPmuWrap (i : Fin 64) (s : State) : Host.Outcome State Fault Refusal := onIsland 223 s (pmuWrap i)

/-- PMU_WINDOW_END (R403): time reaches the end of the window in progress. -/
def pmuWindowEnd (i : Nat) (s : State) : State :=
  if windowed i s then
    let j := s.ptp / windowNs i s
    s |> passToPtp ((j + 1) * windowNs i s) |> windowEnd i j
  else s

def execPmuWindowEnd (i : Fin 64) (s : State) : Host.Outcome State Fault Refusal := onIsland 223 s (pmuWindowEnd i)

/-- PMU_SNAP (R402): the latches of all counters are loaded. -/
def pmuSnap (s : State) : State :=
  allOf (List.range 64) (fun i s => s.setPmu i { s.pmuVal i with latch := (s.pmuVal i).val }) s

def execPmuSnap (s : State) : Host.Outcome State Fault Refusal := onIsland 223 s pmuSnap

/-- A write of CTL: SNAP loads the latches. -/
def pmuCtlWrite (w : Nat) (s : State) : State :=
  s |> wr PMU.CTL_SNAP_MODE 0 (w / 2 ^ 30) |> onlyIf (maskHas w 31 = true) pmuSnap

/-- VAL_LO_READ (R402): without SNAP_MODE the read loads the latch. -/
def valLoRead (i : Nat) (s : State) : Nat × State :=
  let s := if on PMU.CTL_SNAP_MODE 0 s then s else s.setPmu i { s.pmuVal i with latch := (s.pmuVal i).val }
  ((s.pmuVal i).latch % 2 ^ 32, s)

def execValLoRead (i : Fin 64) (s : State) : Host.Outcome State Fault Refusal :=
  onIsland 223 s fun s => let (v, s) := valLoRead i s; setRead v s

/-- VAL_HI reads the latch; its write is staged (R401). -/
def valHiRead (i : Nat) (s : State) : Nat := (s.pmuVal i).latch / 2 ^ 32
def valHiWrite (i w : Nat) (s : State) : State := s.setPmu i { s.pmuVal i with stagedHi := w % 65536 }

/-- PMU_VAL_WRITE (R401): a write of VAL_LO sets the counter with the staged VAL_HI. -/
def valLoWrite (i w : Nat) (s : State) : State :=
  let x := s.pmuVal i
  s.setPmu i { x with val := x.stagedHi * 2 ^ 32 + w % 2 ^ 32 }

def execPmuValWrite (i : Fin 64) (w : Word) (s : State) : Host.Outcome State Fault Refusal :=
  onIsland 223 s (valLoWrite i w.toNat)

/-- The offset names a counter register (event 0x02). -/
def isCounter (ofs : Nat) : Bool :=
  match regAt ofs with
  | some (sp, _, w) =>
    sp != .pmuC && (match regDesc sp w with
      | some { fields := [f], .. } => f.hi == 31 && f.lo == 0 && f.acc == .rc
      | _ => false)
  | none => false

/-- ARG lies in its event's range (R400). -/
def argOk (ev a : Nat) : Bool :=
  match ev with
  | 2 => decide (a < 2 ^ 24) && isCounter a
  | 3 => decide (a < 2 ^ 13)
  | 4 | 5 => decide (a < 2 ^ 16 ∧ a % 64 < 48)
  | 6 | 8 => decide (a < 32)
  | 7 | 9 => decide (a = a % 32 + a / 2 ^ 8 % 8 * 2 ^ 8 + a / 2 ^ 16 % 2 * 2 ^ 16)
  | 10 => decide (a < 16)
  | _ => a == 0

/-- A write of CFG (R400, R401): an unlisted EVENT refuses it; a CHAIN that may not be set is discarded. -/
def pmuCfgWrite (i w : Nat) (s : State) : State :=
  let ofs := regOffset .pmuC i 0
  let chain := maskHas w 30
  let win := maskHas w 29 || on PMUC.CFG_WIN_MODE (i - 1) s
  if 10 < w / 2 ^ 16 % 256 then refuseWrite ofs w s
  else
    let s := s |> wr PMUC.CFG_EN i (w / 2 ^ 31) |> wr PMUC.CFG_WIN_MODE i (w / 2 ^ 29) |> wr PMUC.CFG_EVENT i (w / 2 ^ 16)
      |> wr PMUC.CFG_SHIFT i (w / 2 ^ 12)
    if chain && (i % 2 == 0 || win) then encReject ofs w s else wr PMUC.CFG_CHAIN i (b2n chain) s

/-- A write of ARG, judged by the counter's event. -/
def pmuArgWrite (i w : Nat) (s : State) : State :=
  if argOk (rd PMUC.CFG_EVENT i s) w then wr PMUC.ARG i w s else refuseWrite (regOffset .pmuC i 1) w s

/-- PMU_CFG_WRITE: of CFG, or of ARG. -/
def execPmuCfgWrite (i : Fin 64) (arg : Bool) (w : Word) (s : State) : Host.Outcome State Fault Refusal :=
  onIsland 223 s fun s => if arg then pmuArgWrite i w.toNat s else pmuCfgWrite i w.toNat s

end Sys2Proof.Machine
end

