-- ==== Sys2Proof/Machine/Sequencer.lean ====
section
/-!
DEFINITION. The grant sequencers (06_grant_programs.md, R122 to R151): instruction words, the meaning of every
instruction, frame events, faults, hand-over, trace and the register commands. An instruction row names a cluster and a
thread: the thread issues the instruction at its PC when that word spells it (log entry 13).
-/

namespace Sys2Proof.Machine

/-! Instruction words (R125, R127). -/

def opcOf (w : Nat) : Nat := w / 2 ^ 26 % 2 ^ 6
def rdOf (w : Nat) : Nat := w / 2 ^ 22 % 16
def raOf (w : Nat) : Nat := w / 2 ^ 18 % 16
def rbOf (w : Nat) : Nat := w / 2 ^ 14 % 16
def immX (w : Nat) : Nat := w % 2 ^ 14
def imm18 (w : Nat) : Nat := w % 2 ^ 18

/-- The unused fields of the word's instruction are 0, and the opcode is listed (R125, R127). A CTXR or CTXW with X of 8 or more is
taken as a word that is not legal, so that it faults with FCODE 1 and answers no ARG (DESIGN CHOICE, log entry 33). -/
def legalWord (w : Nat) : Bool :=
  let o := opcOf w
  if (1 ≤ o ∧ o ≤ 0x0B) ∨ o = 0x1A then immX w == 0
  else if (0x10 ≤ o ∧ o ≤ 0x13) ∨ o = 0x17 ∨ o = 0x18 ∨ o = 0x19 then true
  else if o = 0x14 ∨ o = 0x15 then imm18 w / 32 == 0
  else if o = 0x16 then raOf w == 0
  else if 0x20 ≤ o ∧ o ≤ 0x23 then rbOf w == 0
  else if o = 0x24 ∨ o = 0x25 then raOf w == 0 && rbOf w == 0
  else if o = 0x26 ∨ o = 0x27 then w / 2 ^ 14 % 2 ^ 12 == 0
  else if o = 0x28 then rdOf w == 0 && rbOf w == 0 && immX w == 0
  else if o = 0x30 ∨ o = 0x33 ∨ o = 0x35 ∨ o = 0x36 ∨ o = 0x39 then immX w == 0
  else if o = 0x31 ∨ o = 0x32 then raOf w == 0 && immX w == 0
  else if o = 0x34 then rbOf w == 0 && immX w / 2 == 0
  else if o = 0x37 ∨ o = 0x38 then rbOf w == 0 && immX w / 8 == 0
  else if o = 0x3A then rbOf w == 0 && immX w == 0
  else if o = 0x3B then rdOf w == 0 && immX w == 0
  else if o = 0x3C then rdOf w == 0 && imm18 w / 256 == 0
  else if o = 0x3D then raOf w == 0 && rbOf w == 0 && immX w == 0
  else false

/-- The operands of a branch lie one field higher (format B). -/
def branchA (w : Nat) : Nat := rdOf w
def branchB (w : Nat) : Nat := raOf w

/-! Fetch and issue (R123, R124). -/

def imemWord (k a : Nat) (s : State) : Nat := rdWord .imem k a 0 s
def dmemWord (k a : Nat) (s : State) : Nat := rdWord .dmem k (a / 4) 0 s
/-- A store of a whole word also ends an error in it. -/
def dmemSet (k a v : Nat) (s : State) : State :=
  let c := s.cluster k
  (wrWord .dmem k (a / 4) 0 v s).setCluster k { c with badData := c.badData.filter (· != a / 4) }

/-- The thread may issue: it is enabled and runs, or it has been parked and its instruction in flight still completes (R142). -/
def canIssue (k t : Nat) (s : State) : Bool :=
  threadEnabled k t s && ((s.thread k t).state == .running || ((s.thread k t).state == .parked && (s.thread k t).inFlight))

/-- The word the thread fetches has no uncorrectable memory error (R140). -/
def goodFetch (k t : Nat) (s : State) : Bool := !(s.cluster k).badCode.contains (s.thread k t).pc

/-- The word of data memory at a byte address has none. -/
def goodData (k a : Nat) (s : State) : Bool := !(s.cluster k).badData.contains (a / 4)

/-- The PC lies in the thread's region. -/
def inRegion (k t : Nat) (s : State) : Bool :=
  let pc := (s.thread k t).pc
  decide (thrStart k t s ≤ pc ∧ pc ≤ thrEnd k t s)

/-- The instruction ends: the PC moves, its cycles pass (R123, R140). -/
def retire (k t pc cyc : Nat) (s : State) : State :=
  let th := s.thread k t
  let c := s.cluster k
  (s.setThread k t { th with pc := pc % 16384, wdog := th.wdog + cyc, inFlight := false }).setCluster k { c with cycle := c.cycle + cyc }
    |> traceSample k t th.pc cyc c.cycle

def retireNext (k t cyc : Nat) (s : State) : State := retire k t ((s.thread k t).pc + 1) cyc s

/-- Thread t issues the instruction at its PC, if its word is legal and spells opcode o. -/
def issue (k t o : Nat) (f : Nat → State → State) (s : State) : State :=
  if canIssue k t s && inRegion k t s && goodFetch k t s then
    let w := imemWord k (s.thread k t).pc s
    if legalWord w && opcOf w == o then f w s else s
  else s

/-- An issued instruction faults: the trace has it too (R147), its effect it has not (R140). -/
def issuedFault (k t code : Nat) (s : State) : State := s |> traceFault k t |> faultThread k t code

def onThread (k : Fin 8) (s : State) (f : State → State) : Host.Outcome State Fault Refusal :=
  onIsland (clusterIsland k) s f

/-! Arithmetic (R127). -/

/-- A sign-extended 18-bit immediate, modulo 2^32. -/
def simm18 (w : Nat) : Nat := unsigned 32 (signed 18 (imm18 w))

/-- rd takes a value of the operands; the instruction lasts `cyc` cycles. -/
def aluOp (k t o cyc : Nat) (f : Nat → Nat → Nat) : State → State :=
  issue k t o fun w s =>
    s |> writeG k t (rdOf w) (f (readG k t (raOf w) s) (readG k t (rbOf w) s)) |> retireNext k t cyc

def immOp (k t o : Nat) (f : Nat → Nat → Nat) : State → State :=
  issue k t o fun w s => s |> writeG k t (rdOf w) (f (readG k t (raOf w) s) w) |> retireNext k t 1

def gAdd (k t : Nat) : State → State := aluOp k t 0x01 1 fun a b => a + b
def gSub (k t : Nat) : State → State := aluOp k t 0x02 1 fun a b => a + (2 ^ 32 - b)
def gAnd (k t : Nat) : State → State := aluOp k t 0x03 1 fun a b => a &&& b
def gOr (k t : Nat) : State → State := aluOp k t 0x04 1 fun a b => a ||| b
def gXor (k t : Nat) : State → State := aluOp k t 0x05 1 fun a b => a ^^^ b
def gShl (k t : Nat) : State → State := aluOp k t 0x06 1 fun a b => a * 2 ^ (b % 32)
def gShr (k t : Nat) : State → State := aluOp k t 0x07 1 fun a b => a / 2 ^ (b % 32)
def gMinu (k t : Nat) : State → State := aluOp k t 0x08 1 min
def gMaxu (k t : Nat) : State → State := aluOp k t 0x09 1 max
def gSltu (k t : Nat) : State → State := aluOp k t 0x0A 1 fun a b => b2n (decide (a < b))
def gMul (k t : Nat) : State → State := aluOp k t 0x0B 3 fun a b => a * b
def gAddi (k t : Nat) : State → State := immOp k t 0x10 fun a w => a + simm18 w
def gAndi (k t : Nat) : State → State := immOp k t 0x11 fun a w => a &&& imm18 w
def gOri (k t : Nat) : State → State := immOp k t 0x12 fun a w => a ||| imm18 w
def gXori (k t : Nat) : State → State := immOp k t 0x13 fun a w => a ^^^ imm18 w
def gShli (k t : Nat) : State → State := immOp k t 0x14 fun a w => a * 2 ^ (imm18 w % 32)
def gShri (k t : Nat) : State → State := immOp k t 0x15 fun a w => a / 2 ^ (imm18 w % 32)
def gLui (k t : Nat) : State → State := immOp k t 0x16 fun _ w => imm18 w * 2 ^ 14
def gSltui (k t : Nat) : State → State := immOp k t 0x17 fun a w => b2n (decide (a < imm18 w))

def execAdd (k : Fin 8) (t : Fin 4) (s : State) : Host.Outcome State Fault Refusal := onThread k s (gAdd k t)
def execSub (k : Fin 8) (t : Fin 4) (s : State) : Host.Outcome State Fault Refusal := onThread k s (gSub k t)
def execAnd (k : Fin 8) (t : Fin 4) (s : State) : Host.Outcome State Fault Refusal := onThread k s (gAnd k t)
def execOr (k : Fin 8) (t : Fin 4) (s : State) : Host.Outcome State Fault Refusal := onThread k s (gOr k t)
def execXor (k : Fin 8) (t : Fin 4) (s : State) : Host.Outcome State Fault Refusal := onThread k s (gXor k t)
def execShl (k : Fin 8) (t : Fin 4) (s : State) : Host.Outcome State Fault Refusal := onThread k s (gShl k t)
def execShr (k : Fin 8) (t : Fin 4) (s : State) : Host.Outcome State Fault Refusal := onThread k s (gShr k t)
def execMinu (k : Fin 8) (t : Fin 4) (s : State) : Host.Outcome State Fault Refusal := onThread k s (gMinu k t)
def execMaxu (k : Fin 8) (t : Fin 4) (s : State) : Host.Outcome State Fault Refusal := onThread k s (gMaxu k t)
def execSltu (k : Fin 8) (t : Fin 4) (s : State) : Host.Outcome State Fault Refusal := onThread k s (gSltu k t)
def execMul (k : Fin 8) (t : Fin 4) (s : State) : Host.Outcome State Fault Refusal := onThread k s (gMul k t)
def execAddi (k : Fin 8) (t : Fin 4) (s : State) : Host.Outcome State Fault Refusal := onThread k s (gAddi k t)
def execAndi (k : Fin 8) (t : Fin 4) (s : State) : Host.Outcome State Fault Refusal := onThread k s (gAndi k t)
def execOri (k : Fin 8) (t : Fin 4) (s : State) : Host.Outcome State Fault Refusal := onThread k s (gOri k t)
def execXori (k : Fin 8) (t : Fin 4) (s : State) : Host.Outcome State Fault Refusal := onThread k s (gXori k t)
def execShli (k : Fin 8) (t : Fin 4) (s : State) : Host.Outcome State Fault Refusal := onThread k s (gShli k t)
def execShri (k : Fin 8) (t : Fin 4) (s : State) : Host.Outcome State Fault Refusal := onThread k s (gShri k t)
def execLui (k : Fin 8) (t : Fin 4) (s : State) : Host.Outcome State Fault Refusal := onThread k s (gLui k t)
def execSltui (k : Fin 8) (t : Fin 4) (s : State) : Host.Outcome State Fault Refusal := onThread k s (gSltui k t)

/-! Data memory (R122, R127, R140). -/

def badAddress (a : Nat) : Bool := a % 4 != 0 || decide (0x10000 ≤ a)

def loadAddress (k t w : Nat) (s : State) : Nat := (readG k t (raOf w) s + simm18 w) % 2 ^ 32

/-- LD, ST, AMADD: the access at address a, or the fault of FCODE 2. -/
def access (k t a : Nat) (f : State → State) (s : State) : State := if badAddress a then issuedFault k t 2 s else f s

/-- An access that reads the words at the addresses, or the fault of FCODE 6 (R140). -/
def readAccess (k t : Nat) (l : List Nat) (f : State → State) (s : State) : State :=
  if l.all fun a => goodData k a s then f s else issuedFault k t 6 s

def gLd (k t : Nat) : State → State :=
  issue k t 0x18 fun w s =>
    let a := loadAddress k t w s
    access k t a (readAccess k t [a] fun s => s |> writeG k t (rdOf w) (dmemWord k a s) |> retireNext k t 2) s

def gSt (k t : Nat) : State → State :=
  issue k t 0x19 fun w s =>
    let a := loadAddress k t w s
    access k t a (fun s => s |> dmemSet k a (readG k t (rdOf w) s) |> retireNext k t 1) s

def gAmadd (k t : Nat) : State → State :=
  issue k t 0x1A fun w s =>
    let a := readG k t (raOf w) s
    access k t a (readAccess k t [a] fun s =>
      let v := dmemWord k a s
      let b := readG k t (rbOf w) s
      s |> dmemSet k a (v + b) |> writeG k t (rdOf w) v |> retireNext k t 3) s

def execLd (k : Fin 8) (t : Fin 4) (s : State) : Host.Outcome State Fault Refusal := onThread k s (gLd k t)
def execSt (k : Fin 8) (t : Fin 4) (s : State) : Host.Outcome State Fault Refusal := onThread k s (gSt k t)
def execAmadd (k : Fin 8) (t : Fin 4) (s : State) : Host.Outcome State Fault Refusal := onThread k s (gAmadd k t)

/-! Branches and jumps (R127). -/

/-- The target of a branch at pc: pc + off, off signed, modulo 2^14. -/
def branchTarget (pc w : Nat) : Nat := unsigned 14 ((pc : Int) + signed 14 (immX w))

/-- 2 cycles taken, 1 not taken. -/
def branchIf (k t w : Nat) (c : Bool) (s : State) : State :=
  if c then retire k t (branchTarget (s.thread k t).pc w) 2 s else retireNext k t 1 s

def branchOp (k t o : Nat) (f : Nat → Nat → Bool) : State → State :=
  issue k t o fun w s => branchIf k t w (f (readG k t (branchA w) s) (readG k t (branchB w) s)) s

def gBeq (k t : Nat) : State → State := branchOp k t 0x20 fun a b => a == b
def gBne (k t : Nat) : State → State := branchOp k t 0x21 fun a b => a != b
def gBltu (k t : Nat) : State → State := branchOp k t 0x22 fun a b => decide (a < b)
def gBgeu (k t : Nat) : State → State := branchOp k t 0x23 fun a b => decide (b ≤ a)
def gBst (k t : Nat) : State → State :=
  issue k t 0x24 fun w s => branchIf k t w ((s.thread k t).st == branchA w) s
def gBstn (k t : Nat) : State → State :=
  issue k t 0x25 fun w s => branchIf k t w ((s.thread k t).st != branchA w) s
def gJmp (k t : Nat) : State → State := issue k t 0x26 fun w s => retire k t (immX w) 2 s
def gJal (k t : Nat) : State → State :=
  issue k t 0x27 fun w s => s |> writeG k t 15 ((s.thread k t).pc + 1) |> retire k t (immX w) 2
def gJr (k t : Nat) : State → State :=
  issue k t 0x28 fun w s => retire k t (readG k t (raOf w) s) 2 s

def execBeq (k : Fin 8) (t : Fin 4) (s : State) : Host.Outcome State Fault Refusal := onThread k s (gBeq k t)
def execBne (k : Fin 8) (t : Fin 4) (s : State) : Host.Outcome State Fault Refusal := onThread k s (gBne k t)
def execBltu (k : Fin 8) (t : Fin 4) (s : State) : Host.Outcome State Fault Refusal := onThread k s (gBltu k t)
def execBgeu (k : Fin 8) (t : Fin 4) (s : State) : Host.Outcome State Fault Refusal := onThread k s (gBgeu k t)
def execBst (k : Fin 8) (t : Fin 4) (s : State) : Host.Outcome State Fault Refusal := onThread k s (gBst k t)
def execBstn (k : Fin 8) (t : Fin 4) (s : State) : Host.Outcome State Fault Refusal := onThread k s (gBstn k t)
def execJmp (k : Fin 8) (t : Fin 4) (s : State) : Host.Outcome State Fault Refusal := onThread k s (gJmp k t)
def execJal (k : Fin 8) (t : Fin 4) (s : State) : Host.Outcome State Fault Refusal := onThread k s (gJal k t)
def execJr (k : Fin 8) (t : Fin 4) (s : State) : Host.Outcome State Fault Refusal := onThread k s (gJr k t)

/-- ILLEGAL_INSTRUCTION (R140): a fetch outside the region, of a word with an uncorrectable memory error, or of a word that is
not legal. -/
def illegalInstruction (k t : Nat) (s : State) : State :=
  if !canIssue k t s then s
  else if !inRegion k t s then faultThread k t 3 s
  else if !goodFetch k t s then faultThread k t 6 s
  else if !legalWord (imemWord k (s.thread k t).pc s) then issuedFault k t 1 s
  else s

def execIllegalInstruction (k : Fin 8) (t : Fin 4) (s : State) : Host.Outcome State Fault Refusal :=
  onThread k s (illegalInstruction k t)

/-! Status of a primitive (R126, R128). -/

def setSt (k t code : Nat) (s : State) : State := s.setThread k t { s.thread k t with st := code }

/-- ARG: nothing done but the count, the cause and the status. -/
def argError (k t cyc : Nat) (s : State) : State :=
  s |> setSt k t 9 |> bump GSQ.ARG_CNT k |> raise (128 + k) 27 [t, (s.thread k t).pc, 0] |> retireNext k t cyc

/-- Tree index, cell and context of a reference word. -/
def refTree (r : Nat) : Nat := r / 2 ^ 11 % 8
def refCell (r : Nat) : Nat := r % 2 ^ 10
def refCtx (r : Nat) : Nat := r % 2 ^ 11

/-! Waits (R129, R130, R138). -/

/-- The events of a mask that are there: the latch, and the level of the activation queue in bit 4. -/
def eventsFound (k t mask : Nat) (s : State) : Nat :=
  let lv := (s.thread k t).latch
  let all := if (s.cluster k).actq = [] then lv else maskSet lv 4
  all &&& (mask % 128)

/-- A wait returns the events found: rd, the mailbox in rd + 1, the latch cleared of them, ST EVENT. -/
def returnEvents (k t r ev : Nat) (s : State) : State :=
  let msg := maskHas ev 5
  let th := s.thread k t
  s.setThread k t { th with
      latch := th.latch &&& (127 - ev % 128), st := 2, mbxUnread := if msg then false else th.mbxUnread }
    |> writeG k t r ev |> writeG k t (r + 1) (if msg then rd (GSQ.MBX0.at t) k s else 0)

/-- The oldest report of the masked trees: (tree index, report). -/
def oldestReport (k trees : Nat) (s : State) : Option (Nat × Report) :=
  ((List.range 6).filterMap fun i =>
    if maskHas trees i then ((s.grant (6 * k + i)).reports.head?).map fun r => (i, r) else none).foldl
    (fun b x => match b with | none => some x | some y => if x.2.seq < y.2.seq then some x else some y) none

/-- POPR's words of a report (R129). -/
def reportWord (i : Nat) (r : Report) : Nat := r.frame % 512 * 2 ^ 23 + r.term * 2 ^ 14 + i * 2 ^ 11 + r.ctx

def returnReport (k t r : Nat) (x : Nat × Report) (s : State) : State :=
  let n := 6 * k + x.1
  s.setGrant n { s.grant n with reports := (s.grant n).reports.drop 1 }
    |> writeG k t r (reportWord x.1 x.2) |> writeG k t (r + 1) x.2.value |> setSt k t 0

def returnRecord (k t r : Nat) (x : ActRec) (s : State) : State :=
  popActRec k s
    |> writeG k t r x.w0 |> writeG k t (r + 1) x.w1 |> writeG k t (r + 2) x.w2 |> setSt k t 0

/-- A lower-numbered blocked thread that waits on the same report (R129). -/
def claimedBelow (k t tree : Nat) (s : State) : Bool :=
  (List.range t).any fun u => (s.thread k u).state == .blocked &&
    match (s.thread k u).wait with
    | some (.popr _ trees events) => maskHas trees tree && eventsFound k u events s == 0
    | _ => false

/-- What a wait returns now, if anything. -/
def waitResult (k t : Nat) (w : Wait) (s : State) : Option State :=
  match w with
  | .popr r trees events =>
    let ev := eventsFound k t events s
    if ev ≠ 0 then some (returnEvents k t r ev s)
    else match oldestReport k trees s with
      | some x => some (returnReport k t r x s)
      | none => none
  | .popa r events =>
    let ev := eventsFound k t events s
    if ev ≠ 0 then some (returnEvents k t r ev s)
    else match (s.cluster k).actq with
      | x :: _ => some (returnRecord k t r x s)
      | [] => none
  | .wfe r events =>
    let ev := eventsFound k t events s
    if ev ≠ 0 then some (returnEvents k t r ev s) else none

def clearWdog (k t : Nat) (s : State) : State := s.setThread k t { s.thread k t with wdog := 0 }

/-- A wait is issued: it returns, answers EMPTY with NOWAIT, or blocks; one in flight on a standby, which finds nothing, ends and
its thread stays parked (R142). -/
def issueWait (k t mask : Nat) (w : Wait) (s : State) : State :=
  match waitResult k t w s with
  | some s => s |> retireNext k t 3 |> clearWdog k t
  | none =>
    if maskHas mask 7 then s |> setSt k t 1 |> retireNext k t 3 |> clearWdog k t
    else
      let r := tracePick k t (s.thread k t).pc s
      let s := r.2
      (s.setThread k t { s.thread k t with
        state := .blocked, wait := some w, wdog := 0, waitFrom := (s.cluster k).cycle, traced := r.1 })
        |> onlyIf (roleStandby s = true) (parkThread k t)

def gPopr (k t : Nat) : State → State :=
  issue k t 0x30 fun w s =>
    let trees := readG k t (raOf w) s % 64
    let mask := readG k t (rbOf w) s
    if 15 < rdOf w + 1 ∨ (trees = 0 ∧ mask % 128 = 0) then s |> argError k t 3 |> clearWdog k t
    else issueWait k t mask (.popr (rdOf w) trees mask) s

def gPopa (k t : Nat) : State → State :=
  issue k t 0x31 fun w s =>
    let mask := readG k t (rbOf w) s
    if 15 < rdOf w + 2 then s |> argError k t 3 |> clearWdog k t
    else issueWait k t mask (.popa (rdOf w) mask) s

def gWfe (k t : Nat) : State → State :=
  issue k t 0x32 fun w s =>
    let mask := readG k t (rbOf w) s
    if 15 < rdOf w + 1 ∨ mask % 128 = 0 then s |> argError k t 3 |> clearWdog k t
    else issueWait k t mask (.wfe (rdOf w) mask) s

/-- THREAD_WAKE (R129, R130, R138): a blocked wait returns 2 cycles after what it waits for; a report goes to the
lowest-numbered thread that waits on it. -/
def threadWake (k t : Nat) (s : State) : State :=
  let th := s.thread k t
  match th.state, th.wait with
  | .blocked, some w =>
    let claimed := match w with
      | .popr _ trees events =>
        eventsFound k t events s == 0 &&
          (match oldestReport k trees s with | some x => claimedBelow k t x.1 s | none => false)
      | _ => false
    if claimed then s
    else match waitResult k t w s with
      | none => s
      | some s =>
        let c := s.cluster k
        let s := s |> traceWait k t (c.cycle + 2 - th.waitFrom)
        let c := s.cluster k
        (s.setThread k t { s.thread k t with
          state := if roleStandby s then .parked else .running, wait := none, pc := (th.pc + 1) % 16384, wdog := 2 }).setCluster
            k { c with cycle := c.cycle + 2 }
  | _, _ => s

def execPopr (k : Fin 8) (t : Fin 4) (s : State) : Host.Outcome State Fault Refusal := onThread k s (gPopr k t)
def execPopa (k : Fin 8) (t : Fin 4) (s : State) : Host.Outcome State Fault Refusal := onThread k s (gPopa k t)
def execWfe (k : Fin 8) (t : Fin 4) (s : State) : Host.Outcome State Fault Refusal := onThread k s (gWfe k t)
def execThreadWake (k : Fin 8) (t : Fin 4) (s : State) : Host.Outcome State Fault Refusal := onThread k s (threadWake k t)

/-! Cells (R102 to R104, R131). -/

/-- A store that is refused or lost: its count, its cause with the tree and the cell, its status. -/
def storeRefused (n cell : Nat) (cnt : Fld) (bit : Nat) (s : State) : State :=
  s |> bump cnt n |> raise (grtSource n) bit [n, cell]

/-- CWR: `race` 0 none, 1 another store of the same cycle wins, 2 a place-fixed of the same cycle wins. After a refusal rd is the
open bank's frame number too (DESIGN CHOICE: R131 gives rd only for a store that landed; log entry 120). -/
def gCwr (k t race : Nat) : State → State :=
  issue k t 0x33 fun w s =>
    let r := readG k t (raOf w) s
    let rb := rbOf w
    let w0 := readG k t rb s
    let n := 6 * k + refTree r
    let cell := refCell r
    if 5 < refTree r ∨ 15 < rb + 2 ∨ w0 / 2 ^ 30 % 2 = 1 then argError k t 3 s
    else
      let frame := openFrame n s % 2 ^ 32
      let fixed := (fixedOwner n cell s).isSome
      let (code, s) :=
        if roleStandby s then (5, storeRefused n cell GRT.FIXED_HIT_CNT 12 s)
        else if cell = 1023 then (4, storeRefused n cell GRT.FIXED_HIT_CNT 3 s)
        else if fixed ∨ race = 2 then (3, storeRefused n cell GRT.FIXED_HIT_CNT 3 s)
        else if race = 1 then (7, storeRefused n cell GRT.RACE_CNT 4 s)
        else (0, storeCell n cell w0 (readG k t (rb + 1) s) (readG k t (rb + 2) s) 0 0 t s)
      s |> writeG k t (rdOf w) frame |> setSt k t code |> retireNext k t 3

def gCrd (k t : Nat) : State → State :=
  issue k t 0x34 fun w s =>
    let r := readG k t (raOf w) s
    let n := 6 * k + refTree r
    let b := if immX w % 2 = 1 then frozenBank n s else openBank n s
    if 5 < refTree r ∨ 15 < rdOf w + 2 then argError k t 4 s
    else
      let word := fun j => rdWord .cell b (refCell r) j s
      s |> writeG k t (rdOf w) (word 0) |> writeG k t (rdOf w + 1) (word 1) |> writeG k t (rdOf w + 2) (word 2)
        |> setSt k t 0 |> retireNext k t 4

/-- PLF: `lost` says that a CRL binding writes the same cell in the same cycle and wins. One in flight that commits on a standby
places nothing and answers STANDBY as a store does (DESIGN CHOICE: R127 lists no STANDBY for PLF, R142 and R115 leave the bank to
the mirror); rd after a refusal is the open bank's frame number (DESIGN CHOICE; both log entry 120). -/
def gPlf (k t : Nat) (lost : Bool) : State → State :=
  issue k t 0x35 fun w s =>
    let r := readG k t (raOf w) s
    let rb := rbOf w
    let n := 6 * k + refTree r
    let cell := refCell r
    if 5 < refTree r ∨ 15 < rb + 2 then argError k t 16 s
    else
      let frame := openFrame n s % 2 ^ 32
      let other := (fixedOwner n cell s).any (· != 0)
      let (code, s) :=
        if roleStandby s then (5, s)
        else if lost ∨ other ∨ cell = 1023 then (6, s)
        else
          let p := placeFixed n cell (readG k t rb s) (readG k t (rb + 1) s) (readG k t (rb + 2) s) 0 t s
          (if p.1 then 0 else 8, p.2)
      s |> writeG k t (rdOf w) frame |> setSt k t code |> retireNext k t 16

/-- DUR: the burst footprint with GMAX, rounded up to an even number; STALE with the long profile. -/
def gDur (k t : Nat) : State → State :=
  issue k t 0x36 fun w s =>
    let tree := refTree (readG k t (raOf w) s)
    let n := 6 * k + tree
    let rb := rbOf w
    let w0 := readG k t rb s
    let w1 := readG k t (rb + 1) s
    let size := readG k t (rb + 2) s % 2 ^ 16
    let kind := w0 / 2 ^ 25 % 4
    let term := w0 / 2 ^ 14 % 512
    let rate := if kind = 0 then rdx ACTT.RATE n term s else w1 / 2 ^ 13 % 4
    let long := needsLong n kind term s
    let p := if long then longProfile n rate s else w0 / 2 ^ 23 % 4
    if 5 < tree ∨ 15 < rb + 2 ∨ kind = 3 ∨ rate = 3 ∨ rdx PROF.VALID n (profIdx rate p) s = 0 then argError k t 6 s
    else
      let d := if kind = 0 then burstDuration n rate p size (w0 / 2 ^ 27 % 2 == 1) s else size
      let f := d + maxGuard n s
      s |> writeG k t (rdOf w) (f + f % 2) |> setSt k t (if long then 13 else 0) |> retireNext k t 6

def execCwr (k : Fin 8) (t : Fin 4) (race : Fin 3) (s : State) : Host.Outcome State Fault Refusal :=
  onThread k s (gCwr k t race)
def execCrd (k : Fin 8) (t : Fin 4) (s : State) : Host.Outcome State Fault Refusal := onThread k s (gCrd k t)
def execPlf (k : Fin 8) (t : Fin 4) (lost : Bool) (s : State) : Host.Outcome State Fault Refusal :=
  onThread k s (gPlf k t lost)
def execDur (k : Fin 8) (t : Fin 4) (s : State) : Host.Outcome State Fault Refusal := onThread k s (gDur k t)

/-! Contexts and credit (R132, R133). -/

def gCtxr (k t : Nat) : State → State :=
  issue k t 0x37 fun w s =>
    let r := readG k t (raOf w) s
    let x := immX w
    let n := 6 * k + refTree r
    if 5 < refTree r ∨ 15 < rdOf w + 1 ∨ x = 7 then argError k t 4 s
    else
      let a := rdWord .ctx n (refCtx r) x s
      let b := rdWord .ctx n (refCtx r) (x + 1) s
      s |> writeG k t (rdOf w) a |> writeG k t (rdOf w + 1) b |> setSt k t 0 |> retireNext k t 4

/-- A program's write to a context that software writes in the same cycle is lost (R139). -/
def ctxRace (k : Nat) (s : State) : State := s |> bump GSQ.CTX_RACE_CNT k |> raise (128 + k) 29 []

/-- A write of a context word; words 3, 4, 6 and 7 are mirrored as they are written (R132, R142). -/
def ctxStore (n c x v : Nat) (s : State) : State :=
  s |> wrWord .ctx n c x v |> onlyIf (x = 3 ∨ x = 4 ∨ x = 6 ∨ x = 7) (mirrorWord n .ctx n c x)

/-- CTXW: `lost` says that a software CTX_DATA write reaches the same word in the same cycle. -/
def gCtxw (k t : Nat) (lost : Bool) : State → State :=
  issue k t 0x38 fun w s =>
    let r := readG k t (raOf w) s
    let x := immX w
    let n := 6 * k + refTree r
    if 5 < refTree r ∨ x < 2 then argError k t 2 s
    else
      let s := if lost then ctxRace k s else ctxStore n (refCtx r) x (readG k t (rdOf w) s) s
      s |> setSt k t 0 |> retireNext k t 2

/-- R133: what a credit update computes: the grant and the credit left. -/
def tokenUpdate (credit : Int) (rate burst last now req : Nat) : Nat × Int :=
  let e := min (unsigned 32 ((now : Int) - last)) 65535
  let c := min (credit + ((rate * e : Nat) : Int)) ((burst * 256 : Nat) : Int)
  let g := if c ≤ 0 then 0 else min req (min (c.toNat / 256) 65535)
  (g, c - ((256 * g : Nat) : Int))

/-- A signed value saturated to 32 bits. -/
def saturate32 (v : Int) : Nat := unsigned 32 (max (-2147483648) (min v 2147483647))

def gTbu (k t : Nat) (lost : Bool) : State → State :=
  issue k t 0x39 fun w s =>
    let r := readG k t (raOf w) s
    let req := readG k t (rbOf w) s
    let n := 6 * k + refTree r
    let c := refCtx r
    if 5 < refTree r then argError k t 8 s
    else
      let now := openFrame n s % 2 ^ 32
      let u := tokenUpdate (signed 32 (rdWord .ctx n c 2 s)) (rdx CTX.RATE n c s) (rdx CTX.BURST n c s)
        (rdx CTX.LAST n c s) now req
      let s := if lost then ctxRace k s else s |> wrWord .ctx n c 2 (saturate32 u.2) |> wrWord .ctx n c 5 now
      s |> writeG k t (rdOf w) u.1 |> setSt k t (if req ≠ 0 ∧ u.1 = 0 then 11 else 0) |> retireNext k t 8

def execCtxr (k : Fin 8) (t : Fin 4) (s : State) : Host.Outcome State Fault Refusal := onThread k s (gCtxr k t)
def execCtxw (k : Fin 8) (t : Fin 4) (lost : Bool) (s : State) : Host.Outcome State Fault Refusal :=
  onThread k s (gCtxw k t lost)
def execTbu (k : Fin 8) (t : Fin 4) (lost : Bool) (s : State) : Host.Outcome State Fault Refusal :=
  onThread k s (gTbu k t lost)

/-! Poll lists, PLOAM, program events, frames (R134 to R136). -/

/-- The steps of PLS, at most 8: entry found or 0, cursor, laps, wrapped, entries skipped. -/
def plsWalk (k base len : Nat) (s : State) : Nat → Nat → Nat → Bool → Nat × Nat × Nat × Bool × Bool × Nat
  | 0, cur, lap, wr => (0, cur, lap, wr, false, 8)
  | fuel + 1, cur, lap, wr =>
    let e := dmemWord k (base + 4 * cur) s
    let cur' := if cur + 1 = len then 0 else cur + 1
    let lap' := if cur + 1 = len then lap + 1 else lap
    let wr' := wr || cur + 1 == len
    if e / 2 ^ 31 = 0 then (e, cur', lap', wr', true, 7 - fuel) else plsWalk k base len s fuel cur' lap' wr'

def gPls (k t : Nat) : State → State :=
  issue k t 0x3A fun w s =>
    let a := readG k t (raOf w) s
    let base := dmemWord k a s
    let len := dmemWord k (a + 4) s
    let cur := dmemWord k (a + 8) s
    if a % 16 = 0 ∧ a + 16 ≤ 0x10000 ∧ [a, a + 4, a + 8, a + 12].all (fun x => goodData k x s) = false then issuedFault k t 6 s
    else if a % 16 ≠ 0 ∨ 0x10000 < a + 16 ∨ base % 4 ≠ 0 ∨ len = 0 ∨ len ≤ cur ∨ 0x10000 < base + 4 * len then argError k t 6 s
    else
      let r := plsWalk k base len s 8 cur (dmemWord k (a + 12) s) false
      let (e, cur', lap', wrapped, found, skipped) := r
      let visited := (List.range (if found then skipped + 1 else 8)).map fun i => base + 4 * ((cur + i) % len)
      readAccess k t visited (fun s => s |> dmemSet k (a + 8) cur' |> dmemSet k (a + 12) lap' |> writeG k t (rdOf w) e
        |> setSt k t (if found then (if wrapped then 12 else 0) else 1) |> retireNext k t (6 + skipped)) s

/-- The bytes of data memory from an aligned address, byte 0 of a word in bits 7 to 0 (log entry 14). -/
def dmemBytes (k a n : Nat) (s : State) : List Byte :=
  (List.range (n / 4)).flatMap fun i => wordBytes (dmemWord k (a + 4 * i) s)

def gEmp (k t : Nat) : State → State :=
  issue k t 0x3B fun w s =>
    let a := readG k t (raOf w) s
    let tree := readG k t (rbOf w) s % 8
    if a % 4 ≠ 0 ∨ 0x10000 < a + 40 ∨ 5 < tree then argError k t 12 s
    else readAccess k t ((List.range 10).map fun i => a + 4 * i) (fun s =>
      let n := 6 * k + tree
      let full := fun (s : State) => s |> bump GSQ.PLOAM_FULL_CNT k |> raise (128 + k) 26 [] |> setSt k t 10
      let s := if s.up (framingIsland n) then
          match queueBody n (dmemBytes k a 40 s) s with
          | (true, s) => setSt k t 0 s
          | (false, s) => full s
        else setSt k t 0 (wrapperAnswer (framingIsland n) s)
      retireNext k t 12 s) s

def gEvr (k t : Nat) : State → State :=
  issue k t 0x3C fun w s =>
    let i := imm18 w
    s |> raise (192 + 8 * k + i / 32 % 8) (i % 32) [t, (s.thread k t).pc, readG k t (raOf w) s] |> retireNext k t 2

/-- Cycles of 0.625 ns to the comb close of the open bank's frame, 4,000 ns before its T0 (R108). -/
def cyclesToClose (n : Nat) (s : State) : Nat := (frameT0 (openFrame n s) - 4000 - frameBase s) * 8 / 5

def gFrm (k t : Nat) : State → State :=
  issue k t 0x3D fun w s =>
    if 15 < rdOf w + 1 then issuedFault k t 4 s
    else
      let n := 6 * k
      s |> writeG k t (rdOf w) (openFrame n s % 2 ^ 32) |> writeG k t (rdOf w + 1) (cyclesToClose n s) |> retireNext k t 2

def execPls (k : Fin 8) (t : Fin 4) (s : State) : Host.Outcome State Fault Refusal := onThread k s (gPls k t)
def execEmp (k : Fin 8) (t : Fin 4) (s : State) : Host.Outcome State Fault Refusal := onThread k s (gEmp k t)
def execEvr (k : Fin 8) (t : Fin 4) (s : State) : Host.Outcome State Fault Refusal := onThread k s (gEvr k t)
def execFrm (k : Fin 8) (t : Fin 4) (s : State) : Host.Outcome State Fault Refusal := onThread k s (gFrm k t)

/-! Events, watchdog, threads (R137, R140, R148). -/

/-- TICK_EVENT (R137): LEAD 0 disables it. -/
def tickEvent (k : Nat) (s : State) : State := if (s.cluster k).tickLead = 0 then s else latchAll k 3 s

def execTickEvent (k : Fin 8) (s : State) : Host.Outcome State Fault Refusal := onIsland (clusterIsland k) s (tickEvent k)

/-- WATCHDOG_FAULT (R140): WDOG.CYCLES cycles without a wait. -/
def watchdogFault (k t : Nat) (s : State) : State :=
  if (s.thread k t).state = .running ∧ rd GSQ.WDOG_CYCLES k s ≤ (s.thread k t).wdog then
    s |> bump GSQ.WDOG_CNT k |> faultThread k t 5
  else s

def execWatchdogFault (k : Fin 8) (t : Fin 4) (s : State) : Host.Outcome State Fault Refusal :=
  onThread k s (watchdogFault k t)

/-- THREAD_ENABLE (R148). -/
def threadEnable (k t : Nat) (s : State) : State :=
  if threadEnabled k t s then s
  else
    s |> wr GSQ.CTL_TEN k (maskSet (rd GSQ.CTL_TEN k s) t) |> mirrorWord (6 * k) .gsq k 0 0 |> startThread k t 0

def execThreadEnable (k : Fin 8) (t : Fin 4) (s : State) : Host.Outcome State Fault Refusal :=
  onThread k s (threadEnable k t)

/-- THREAD_DISABLE (R148): a blocked wait ends without consuming. -/
def threadDisable (k t : Nat) (s : State) : State :=
  let m := rd GSQ.CTL_TEN k s
  if maskHas m t then
    s |> wr GSQ.CTL_TEN k (m - 2 ^ t) |> mirrorWord (6 * k) .gsq k 0 0 |> stopThread k t
  else s

def execThreadDisable (k : Fin 8) (t : Fin 4) (s : State) : Host.Outcome State Fault Refusal :=
  onThread k s (threadDisable k t)

/-- THR_REGION_WRITE (R148, R149): refused while the thread is enabled; START > END is no listed encoding. -/
def thrRegionWrite (k t w : Nat) (s : State) : State :=
  let ofs := regOffset .gsq k (12 + t)
  if threadEnabled k t s then refuseWrite ofs w s
  else if w / 2 ^ 16 % 2 ^ 14 < w % 2 ^ 14 then encReject ofs w s
  else s |> wr (GSQ.THR_REGION0_START.at t) k (w % 2 ^ 14) |> wr (GSQ.THR_REGION0_END.at t) k (w / 2 ^ 16 % 2 ^ 14) |> mirrorRegion k t

def execThrRegionWrite (k : Fin 8) (t : Fin 4) (w : Word) (s : State) : Host.Outcome State Fault Refusal :=
  onThread k s (thrRegionWrite k t w.toNat)

/-- HANDOVER_REQUEST (R145): a write of SWAP with GO = 1. -/
def handoverRequest (k t : Nat) (s : State) : State :=
  let e := rd GSQ.SWAP_ENTRY_ENTRY k s
  let a := rd GSQ.SWAP_REGION_START k s
  let b := rd GSQ.SWAP_REGION_END k s
  let bad := (s.cluster k).swap.isSome || decide (e < a ∨ b < e ∨ b < a)
  if bad then
    s |> wr GSQ.SWAP_ERR k 1 |> onlyIf ((s.cluster k).swap = none) (fun s => s |> wr GSQ.SWAP_THREAD k t |> wr GSQ.SWAP_GO k 0)
      |> raise (128 + k) 23 [] |> refuseCode 0
  else
    let s := s |> wr GSQ.SWAP_THREAD k t |> wr GSQ.SWAP_GO k 1 |> wr GSQ.SWAP_ERR k 0
    let region := rdWord .gsq k 0 6 s
    let s := s.setCluster k { s.cluster k with swap := some (t, e, region) } |> mirrorOut (6 * k) (.swap (Fin.ofNat 4 t) e region)
    s.setThread k t { s.thread k t with latch := maskSet (s.thread k t).latch 6 }

def execHandoverRequest (k : Fin 8) (t : Fin 4) (s : State) : Host.Outcome State Fault Refusal :=
  onThread k s (handoverRequest k t)

/-- MAILBOX_WRITE (R149). -/
def mailboxWrite (k t w : Nat) (s : State) : State :=
  let th := s.thread k t
  (wr (GSQ.MBX0.at t) k w s).setThread k t { th with latch := maskSet th.latch 5, mbxUnread := true }
    |> onlyIf (th.mbxUnread = true) (fun s => s |> bump GSQ.MBX_OVR_CNT k |> raise (128 + k) 28 [])

def execMailboxWrite (k : Fin 8) (t : Fin 4) (w : Word) (s : State) : Host.Outcome State Fault Refusal :=
  onThread k s (mailboxWrite k t w.toNat)

/-! Memories (R124, R139, R148, R149). -/

/-- An instruction memory address inside the region of an enabled thread (R124). -/
def imemHeld (k a : Nat) (s : State) : Bool :=
  [0, 1, 2, 3].any fun t => threadEnabled k t s && decide (thrStart k t s ≤ a ∧ a ≤ thrEnd k t s)

/-- Store an instruction word, or refuse it; whether it was stored. -/
def imemStore (k a w : Nat) (s : State) : Bool × State :=
  if roleStandby s || imemHeld k a s then (false, s |> bump GSQ.IMEM_REF_CNT k |> raise (128 + k) 24 [] |> refuseCode 0)
  else
    let c := s.cluster k
    (true, (wrWord .imem k a 0 w s).setCluster k { c with badCode := c.badCode.filter (· != a) } |> mirrorWord (6 * k) .imem k a 0)

def imemWrite (k w : Nat) (s : State) : State :=
  let a := rd GSQ.IMEM_IDX_ADDR k s
  (imemStore k a w s).2 |> onlyIf (on GSQ.IMEM_IDX_AUTO_INC k s = true) (wr GSQ.IMEM_IDX_ADDR k ((a + 1) % 16384))

def execImemWrite (k : Fin 8) (w : Word) (s : State) : Host.Outcome State Fault Refusal :=
  onIsland (clusterIsland k) s (imemWrite k w.toNat)

def dmemWrite (k w : Nat) (s : State) : State :=
  let a := rd GSQ.DMEM_IDX_ADDR k s
  s |> dmemSet k (4 * a) w
    |> onlyIf (on GSQ.DMEM_IDX_AUTO_INC k s = true) (wr GSQ.DMEM_IDX_ADDR k ((a + 1) % 16384))

def execDmemWrite (k : Fin 8) (w : Word) (s : State) : Host.Outcome State Fault Refusal :=
  onIsland (clusterIsland k) s (dmemWrite k w.toNat)

/-- The index of CTX_DATA after an access: word 7 is followed by word 2 of the next context. -/
def ctxAdvance (k : Nat) (s : State) : State :=
  advanceWord GSQ.CTX_IDX_AUTO_INC GSQ.CTX_IDX_WORD GSQ.CTX_IDX_CTX k 2 6 2048 s

def ctxDataWrite (k w : Nat) (s : State) : State :=
  let n := 6 * k + rd GSQ.CTX_IDX_TREE k s
  s |> ctxStore n (rd GSQ.CTX_IDX_CTX k s) (rd GSQ.CTX_IDX_WORD k s) w |> ctxAdvance k

def execCtxDataWrite (k : Fin 8) (w : Word) (s : State) : Host.Outcome State Fault Refusal :=
  onIsland (clusterIsland k) s (ctxDataWrite k w.toNat)

/-! Trace (R147, R148). -/

/-- TRACE_CTL_WRITE: EN from 0 to 1 empties the buffer. -/
def traceCtlWrite (k w : Nat) (s : State) : State :=
  let was := on GSQ.TRACE_CTL_EN k s
  let s := writeReg .gsq k 32 w s
  if !was && on GSQ.TRACE_CTL_EN k s then
    s.setCluster k { s.cluster k with trace := [], traceFull := false, traceCount := 0 }
  else s

def execTraceCtlWrite (k : Fin 8) (w : Word) (s : State) : Host.Outcome State Fault Refusal :=
  onIsland (clusterIsland k) s (traceCtlWrite k w.toNat)

/-- TRACE_FULL: the buffer holds 4,096 entries in stop mode. -/
def traceFullEvent (k : Nat) (s : State) : State :=
  let c := s.cluster k
  if on GSQ.TRACE_CTL_RING k s = false ∧ 4096 ≤ c.trace.length ∧ c.traceFull = false then
    s.setCluster k { c with traceFull := true } |> raise (128 + k) 25 []
  else s

def execTraceFull (k : Fin 8) (s : State) : Host.Outcome State Fault Refusal :=
  onIsland (clusterIsland k) s (traceFullEvent k)

end Sys2Proof.Machine
end

