-- ==== Sys2Proof/Machine/Windows.lean ====
section
/-!
DEFINITION. Rings and sessions as register writes change them (16_command_interface.md, R369 to R372, R389).
-/

namespace Sys2Proof.Machine

/-- The value a written word gives a field. -/
def fv (f : Fld) (w : Nat) : Nat := w / 2 ^ f.lo % 2 ^ (f.hi + 1 - f.lo)

/-- A written word with a field's bits replaced. -/
def putFld (f : Fld) (v w : Nat) : Nat := (setBitsOf (BitVec.ofNat 32 w) f.hi f.lo v).toNat

/-- A written word with a field's bits as the field has them. -/
def keepFld (f : Fld) (i w : Nat) (s : State) : Nat := putFld f (rd f i s) w

/-- Every field of the word takes its written value (R7). -/
def allListed (sp : Sp) (word w : Nat) : Bool :=
  match regDesc sp word with
  | some r => r.fields.all fun f => (f.acc != .rw) || f.legal.holds (w / 2 ^ f.lo % 2 ^ (f.hi + 1 - f.lo))
  | none => false

/-- A write of a register whose bit 31 is GO, of a command that completes at once: the fields, then the command. A field
that keeps its value leaves GO without effect. -/
def goWrite (sp : Sp) (i word w : Nat) (start : State → State) (s : State) : State :=
  let s := writeReg sp i word (w % 2 ^ 31) s
  if w / 2 ^ 31 % 2 = 1 ∧ allListed sp word w = true then start s else s

/-- Responses that waited enter the ring while they fit (R372). -/
def pumpWaiting (i : Nat) : Nat → State → State
  | 0, s => s
  | n + 1, s =>
    match (s.session i).waiting with
    | [] => s
    | p :: rest =>
      if ringRoom i p s then pumpWaiting i n (ringWrite i p (s.setSession i { s.session i with waiting := rest, waitSince := s.clk }))
      else s

/-- The header at the head of a FIFO announces a LEN no packet has (R374). -/
def badHeader (l : List Byte) : Bool :=
  let len := ((l.getD 4 0).toNat + 256 * (l.getD 5 0).toNat) % 2 ^ 15
  decide (16 ≤ l.length) && (len % 4 != 0 || decide (16384 < len))

/-- A session that runs no command and has no response waiting. -/
def Session.idle (x : Session) : Bool := x.state == .open && x.waiting.isEmpty && x.load.isNone && x.mbakin.isNone

/-- Parsing reaches the head of the FIFO once the packets ahead have been answered (R374). -/
def settle (i : Nat) (s : State) : State :=
  onlyIf ((s.session i).idle = true ∧ badHeader (s.session i).fifo = true) (faultSession i 14) s

/-- A response of session i: behind those that wait, or into the ring (R372). A session that is
CLOSED discards it (R368, R369). -/
def respond (i : Nat) (p : Packet) (s : State) : State :=
  let x := s.session i
  if x.state = .closed then s
  else if x.waiting = [] ∧ ringRoom i p s = true then settle i (ringWrite i p s)
  else s.setSession i { x with waiting := x.waiting ++ [p], waitSince := if x.waiting = [] then s.clk else x.waitSince }

/-- A write of HEAD: the packets it passes are released, and responses that waited follow (R371, R372, R389). -/
def headWrite (i w : Nat) (s : State) : State :=
  let old := rd SESS.HEAD_HEAD i s
  let s := writeReg .sess i 4 w s
  let new := rd SESS.HEAD_HEAD i s
  let n := ringSize i s
  let x := s.session i
  let passed := fun (o : Nat) => decide ((o + n - old % n) % n < (new + n - old % n) % n)
  let s := s.setSession i { x with
    ring := x.ring.filter fun e => !passed e.1
    irqSent := false
    waitSince := if new = old then x.waitSince else s.clk }
  settle i (pumpWaiting i x.waiting.length s)

/-- A write of SESS.CTL (R369): EN from 0 to 1 opens the session with an empty ring, or is refused; EN to 0 closes it. -/
def sessCtlWrite (i w : Nat) (s : State) : State :=
  let was := on SESS.CTL_EN i s
  let en := w / 2 ^ 31 % 2 == 1
  let size := rd SESS.RING_SIZE_LOG2 i s
  if en && !was then
    if size < 16 ∨ 24 < size ∨ rd SESS.HEAD_HEAD i s ≠ 0 then refuseWrite (regOffset .sess i 0) w s
    else (writeReg .sess i 0 w s).setSession i { state := .open, msi := (s.session i).msi, load := (s.session i).load } |> sessCause 11 i
  else
    let s := writeReg .sess i 0 w s
    if was && !en && (s.session i).state != .closed then s |> closeSession i |> sessCause 12 i else s

/-- A write of RING_LO, RING_HI or RING_SIZE: only while EN = 0 (R369). -/
def ringRegWrite (i word w : Nat) (s : State) : State :=
  if on SESS.CTL_EN i s then refuseWrite (regOffset .sess i word) w s else writeReg .sess i word w s

end Sys2Proof.Machine
end

