-- ==== Sys2Proof/Machine/Writes.lean ====
section
/-!
DEFINITION. What a software write of each register does: the write of its fields (RegOps.lean) and the block's own effect.
-/

namespace Sys2Proof.Machine

/-! Islands 167 to 174: TLN, TFR, ACT. -/

/-- TLN.CTL (R19, R39): TX_MODE moves the transmitter; RX_EN 1 to 0 cuts the burst in progress. -/
def tlnCtlWrite (n w : Nat) (s : State) : State :=
  let was := rd TLN.CTL_TX_MODE n s
  let rx := on TLN.CTL_RX_EN n s
  let mode := fv TLN.CTL_TX_MODE w
  let s := writeReg .tln n 0 (if mode < 2 then keepFld TLN.CTL_TX_MODE n w s else w) s
  let s := if mode = 1 ∧ was = 0 then txModeRun n s else if mode = 0 ∧ was = 1 then txModeIdle n s else s
  if rx && !on TLN.CTL_RX_EN n s then
    match (s.lane n).window with
    | some x => s.setLane n { s.lane n with window := some { x with invalid := true } } |> dropBurst n
    | none => s
  else s

/-- TLN.TEST: MODE and PATTERN, then SLIP, which is judged under the MODE written with it; R38 does not say which (DESIGN
CHOICE, log entry 116). -/
def tlnTestWrite (n w : Nat) (s : State) : State :=
  s |> testModeWrite n (fv TLN.TEST_MODE w) (fv TLN.TEST_PATTERN w) |> onlyIf (fv TLN.TEST_SLIP w = 1) (testSlip n)

def tlnWrite (n word w : Nat) (s : State) : State :=
  match word with
  | 0 => tlnCtlWrite n w s
  | 3 => s |> presetWrite n (rd TLN.PRESET_IDX_IDX n s) w |> presetAdvance n
  | 16 => tlnTestWrite n w s
  | 17 => txdisForceWrite n (fv TLN.FORCE_TXDIS_FORCE w) s
  | _ => writeReg .tln n word w s

/-- TFR.CTL: FEC_EN by R48, DEG_EN 1 to 0 by R68, US_EN 1 to 0 discards the burst in progress. -/
def tfrCtlWrite (n w : Nat) (s : State) : State :=
  let deg := on TFR.CTL_DEG_EN n s
  let us := on TFR.CTL_US_EN n s
  let s := s |> writeReg .tfr n 0 (keepFld TFR.CTL_FEC_EN n w s) |> fecEnWrite n (fv TFR.CTL_FEC_EN w)
    |> onlyIf (deg = true ∧ fv TFR.CTL_DEG_EN w = 0) (degEnClear n)
  onlyIf (us = true ∧ on TFR.CTL_US_EN n s = false) (dropBurst n) s

/-- US_CFG (R69): a new URO holds from the next upstream frame reference: of the windows still to come, those already selected,
and those whose reference has passed, keep the old one. The active mirrors it (R294). -/
def usCfgWrite (n w : Nat) (s : State) : State :=
  let s := writeReg .tfr n 5 w s
  let u := frameReference n s
  let l := s.lane n
  let kept := fun (d : Selection) => l.pendingSel.contains d || l.crossing.contains d || l.dropped.contains d ||
    decide (frameT0 d.frame + d.uro * 125000 / 97200 ≤ frameBase s)
  let move := fun (d : Selection) => if kept d then d else { d with uro := u }
  (s.setFram n { s.fram n with due := (s.fram n).due.map move }).setGrant n
    { s.grant n with selections := (s.grant n).selections.map move } |> mirrorWord n .tfr n 0 5

def tfrTermAdvance (n : Nat) : State → State := advanceIndex TFR.TERM_IDX_AUTO_INC TFR.TERM_IDX_WORD TFR.TERM_IDX_TERM n 6 512

def tfrWrite (n word w : Nat) (s : State) : State :=
  match word with
  | 0 => tfrCtlWrite n w s
  | 2 => ponidHiWrite n (fv TFR.PONID_HI_PON_ID_HI w) s
  | 5 => usCfgWrite n w s
  | 7 => degCfgWrite n w s
  | 10 => tfrTermAdvance n s
  | _ => writeReg .tfr n word w s

/-- TCMD with GO = 1 (R86). -/
def tcmdGo (n : Nat) (s : State) : State :=
  let t := rd ACT.TCMD_TERM n s
  match rd ACT.TCMD_OP n s with
  | 0 => tcmdDeactivate n t s
  | 1 => tcmdDisable n t s
  | 2 => tcmdEnable n t s
  | 3 => tcmdReRange n t s
  | _ => tcmdEnableAll n t s

def actTermAdvance (n : Nat) : State → State := advanceIndex ACT.TERM_IDX_AUTO_INC ACT.TERM_IDX_WORD ACT.TERM_IDX_TERM n 5 512

/-- TERM_DATA: words 0 to 2 in FREE records only (R96). -/
def actTermWrite (n w : Nat) (s : State) : State :=
  let t := rd ACT.TERM_IDX_TERM n s
  let word := rd ACT.TERM_IDX_WORD n s
  let ofs := regOffset .act n 13
  let s := if 2 < word then s else if termState n t s = 0 then writeWord .actT n t word ofs w s else encReject ofs w s
  actTermAdvance n s

def broodAdvance (n : Nat) : State → State := advanceIndex ACT.BROOD_IDX_AUTO_INC ACT.BROOD_IDX_WORD ACT.BROOD_IDX_ENTRY n 4 64

def actWrite (n word w : Nat) (s : State) : State :=
  match word with
  | 4 => goWrite .act n 4 w (tcmdGo n) s
  | 8 => todRequest n (fv ACT.TOD_N_HI_N_HI w) s
  | 13 => actTermWrite n w s
  | 15 => broodAdvance n s
  | 17 => ploamKeyWrite n w s
  | _ => writeReg .act n word w s

/-! Islands 175 to 206: GRT, GSQ, the pool. -/

/-- PROF_DATA: a PREAMBLE that is no multiple of the rate's word width keeps its field (R119). -/
def profAdvance (n : Nat) (s : State) : State :=
  if !on GRT.PROF_IDX_AUTO_INC n s then s
  else
    let k := rd GRT.PROF_IDX_WORD n s
    let e := profIdx (rd GRT.PROF_IDX_RATE n s) (rd GRT.PROF_IDX_PROF n s)
    if k < 2 then wr GRT.PROF_IDX_WORD n (k + 1) s
    else
      let e := (e + 1) % 12
      s |> wr GRT.PROF_IDX_WORD n 0 |> wr GRT.PROF_IDX_PROF n (e % 4) |> wr GRT.PROF_IDX_RATE n (e / 4)

def profWrite (n w : Nat) (s : State) : State :=
  let rate := rd GRT.PROF_IDX_RATE n s
  let x := profIdx rate (rd GRT.PROF_IDX_PROF n s)
  let k := rd GRT.PROF_IDX_WORD n s
  let ofs := regOffset .grt n 9
  let bad := k = 0 ∧ fv PROF.PREAMBLE w % wordWidth rate ≠ 0
  s |> writeWord .prof n x k ofs (if bad then putFld PROF.PREAMBLE (rdx PROF.PREAMBLE n x s) w else w)
    |> onlyIf bad (encReject ofs w) |> profAdvance n

def allocWrite (n w : Nat) (s : State) : State :=
  if rd GRT.ALLOC_IDX_WORD n s = 0 then
    s.setGrant n { s.grant n with alloc0 := w }
      |> advanceIndex GRT.ALLOC_IDX_AUTO_INC GRT.ALLOC_IDX_WORD GRT.ALLOC_IDX_CTX n 2 2048
  else allocCommit n w s

def grtWrite (n word w : Nat) (s : State) : State :=
  match word with
  | 1 => witCfgWrite n (fv GRT.WIT_CFG_LONG_SLOT w == 1) (fv GRT.WIT_CFG_START w) s
  | 5 => cellDataWrite n w s
  | 7 => allocWrite n w s
  | 9 => profWrite n w s
  | _ => writeReg .grt n word w s

/-- GSQ.CTL: each TEN bit that changes starts or stops its thread (R148). -/
def gsqCtlWrite (k w : Nat) (s : State) : State :=
  let s := s |> writeReg .gsq k 0 (keepFld GSQ.CTL_TEN k w s) |> mirrorWord (6 * k) .gsq k 0 0
  allOf [0, 1, 2, 3] (fun t => if maskHas w t then threadEnable k t else threadDisable k t) s

def mirrorCfgWrite (k w : Nat) (s : State) : State :=
  if 0x10000 < fv GSQ.MIRROR_CFG_BASE w + 4 * fv GSQ.MIRROR_CFG_LEN w then encReject (regOffset .gsq k 3) w s
  else s |> writeReg .gsq k 3 w |> mirrorWord (6 * k) .gsq k 0 3

def swapWrite (k w : Nat) (s : State) : State :=
  if w / 2 ^ 31 % 2 = 1 then handoverRequest k (w % 4) s else wr GSQ.SWAP_THREAD k (w % 4) s

def swapRegionWrite (k w : Nat) (s : State) : State :=
  if fv GSQ.SWAP_REGION_END w < fv GSQ.SWAP_REGION_START w then encReject (regOffset .gsq k 6) w s else writeReg .gsq k 6 w s

def gsqWrite (k word w : Nat) (s : State) : State :=
  match word with
  | 0 => gsqCtlWrite k w s
  | 3 => mirrorCfgWrite k w s
  | 4 => swapWrite k w s
  | 6 => swapRegionWrite k w s
  | 25 => imemWrite k w s
  | 27 => dmemWrite k w s
  | 29 => ctxDataWrite k w s
  | 32 => traceCtlWrite k w s
  | _ =>
    if 12 ≤ word ∧ word < 16 then thrRegionWrite k (word - 12) w s
    else if 20 ≤ word ∧ word < 24 then mailboxWrite k (word - 20) w s
    else s |> writeReg .gsq k word w
      |> onlyIf (word = 1 ∨ word = 2 ∨ (8 ≤ word ∧ word < 12)) (mirrorWord (6 * k) .gsq k 0 word)

/-- DP_CTL: each DEC_EN bit by R65. -/
def poolWrite (word w : Nat) (s : State) : State :=
  if word = 0 then
    allOf (List.range 16) (fun j => decEnWrite j (maskHas w j)) (writeReg .pool 0 0 (keepFld POOL.DP_CTL_DEC_EN 0 w s) s)
  else writeReg .pool 0 word w s

/-! Islands 207 to 221: CRL, OHP, CLS, LPM, BPM, TMD, TMU, CPH. -/

/-- BIND with GO = 1 (R155). -/
def bindGo (s : State) : State :=
  let x : LaneId := ⟨rd CRL.BIND_DIR 0 s, rd CRL.BIND_TREE 0 s, rd CRL.BIND_LANE 0 s⟩
  if rd CRL.BIND_OP 0 s = 0 then crlBind x s else crlUnbind x s

def hdrAdvance : State → State := advanceIndex CRL.HDR_IDX_AUTO_INC CRL.HDR_IDX_WORD CRL.HDR_IDX_HDR 0 4 256

def crlWrite (word w : Nat) (s : State) : State :=
  match word with
  | 1 => goWrite .crl 0 1 w bindGo s
  | 5 => laneDataWrite w s
  | 7 => s |> wrWord .hdr 0 (rd CRL.HDR_IDX_HDR 0 s) (rd CRL.HDR_IDX_WORD 0 s) w |> hdrAdvance
  | _ => writeReg .crl 0 word w s

def clsWrite (k word w : Nat) (s : State) : State :=
  match word with
  | 3 => hashSeedWrite k 0 w s
  | 4 => hashSeedWrite k 1 w s
  | 8 => emDataWrite k w s
  | 9 => emCmdWrite k w s
  | 11 => tblWrite k w s
  | _ => writeReg .cls k word w s

def lpmWrite (word w : Nat) (s : State) : State :=
  match word with
  | 0 => lpmCmdWrite w s
  | 2 => lpmDataWrite w s
  | _ => writeReg .lpm 0 word w s

def bpmWrite (word w : Nat) (s : State) : State :=
  match word with
  | 0 => s |> writeReg .bpm 0 0 (putFld BPM.CTL_LOCK 0 w) |> onlyIf (w % 2 = 1) poolLock
  | 13 => quotaWrite w s
  | 14 => descSnapshot w s
  | _ => writeReg .bpm 0 word w s

/-- CYCLE_EXT is at most ADMIN_CYCLE (R235). -/
def cycleExtWrite (p w : Nat) (s : State) : State :=
  if rd TMUPORT.ADMIN_CYCLE p s < w then encReject (regOffset .tmu 0 7) w s else writeWord .tmuPort p 0 7 (regOffset .tmu 0 7) w s

def tmuPortWrite (p word w : Nat) (s : State) : State :=
  match word with
  | 1 => tmuPortCfgWrite p w s
  | 2 => gateCtlWrite p w s
  | 7 => cycleExtWrite p w s
  | _ => writeWord .tmuPort p 0 word (regOffset .tmu 0 word) w s

/-- A write of TMU's NODE_IDX: at level class an INDEX above 7 is not listed (R235). -/
def tmuNodeIdxWrite (w : Nat) (s : State) : State :=
  let i := w / 2 ^ 18 % 128
  if w / 2 ^ 30 % 2 = 1 ∧ 7 < i ∧ i < 72 then
    s |> writeReg .tmu 0 12 (w - i * 2 ^ 18 + rd TMU.NODE_IDX_INDEX 0 s * 2 ^ 18) |> encReject (regOffset .tmu 0 12) w
  else writeReg .tmu 0 12 w s

def tmuWrite (word w : Nat) (s : State) : State :=
  match word with
  | 11 => gclWrite w s
  | 12 => tmuNodeIdxWrite w s
  | 13 => nodeDataWrite 1 w s
  | _ => writeReg .tmu 0 word w s

/-- REKEY with GO = 1 (R249). -/
def rekeyStart (d : Nat) (s : State) : State :=
  rekeyGo d (rd CPH.REKEY_OP d s) (rd CPH.REKEY_TREE d s) (rd CPH.REKEY_TARGET d s) s

def cphWrite (d word w : Nat) (s : State) : State :=
  match word with
  | 0 => cphCtlWrite d w s
  | 3 => cipherPortWrite d w s
  | 5 => tkeyWrite d w s
  | 7 => flowDataWrite d w s
  | 9 => fkeyWrite d w s
  | 11 => ringWriteKey d w s
  | 12 => goWrite .cph d 12 w (rekeyStart d) s
  | _ => writeReg .cph d word w s

/-! Islands 96 to 159 and 222 to 225: NET, TIM, PAR, SYS, RST, NVM, OTP, CMD, EVT, PMU. -/

/-- Inside another port the port-level registers take no write (R283). -/
def netWrite (n word w : Nat) (s : State) : State :=
  match word with
  | 0 => portCfgWrite n w s
  | 7 => laneTestWrite n w s
  | _ => if otherLane n s then encReject (regOffset .net n word) w s else writeReg .net n word w s

def timWrite (word w : Nat) (s : State) : State :=
  match word with
  | 0 => timCtlWrite w s
  | 8 => adjFreqWrite w s
  | 10 => adjCmdWrite w s
  | 15 => ptprCfgWrite w s
  | _ => writeReg .tim 0 word w s

def sysWrite (word w : Nat) (s : State) : State :=
  match word with
  | 0 => sysCtlWrite w s
  | 9 => sysKeyWrite w s
  | _ => writeReg .sys 0 word w s

def rstWrite (word w : Nat) (s : State) : State :=
  match word with
  | 1 => rstCmdWrite w s
  | 8 => pinOvrWrite w s
  | _ => writeReg .rst 0 word w s

def nvmWrite (word w : Nat) (s : State) : State :=
  match word with
  | 3 => nvmCmdWrite w s
  | 6 => bufWordWrite w s
  | _ => writeReg .nvm 0 word w s

def otpWrite (word w : Nat) (s : State) : State :=
  match word with
  | 5 => otpCmdWrite w s
  | 7 => pdataWrite w s
  | _ => writeReg .otp 0 word w s

/-- CMD.CTL: USB4_EN by R389. -/
def cmdCtlWrite (w : Nat) (s : State) : State :=
  let was := rd CMD.CTL_USB4_EN 0 s
  s |> writeReg .cmd 0 0 (keepFld CMD.CTL_USB4_EN 0 w s) |> onlyIf (was ≠ w % 2) (usb4EnWrite (w % 2))

def sessWrite (i word w : Nat) (s : State) : State :=
  match word with
  | 0 => sessCtlWrite i w s
  | 4 => headWrite i w s
  | _ => if word < 4 then ringRegWrite i word w s else s

/-- EVT.CTL: DLV_EN by R395. -/
def evtWrite (word w : Nat) (s : State) : State :=
  if word = 0 then s |> writeReg .evt 0 0 (keepFld EVT.CTL_DLV_EN 0 w s) |> dlvEnWrite (w / 2 ^ 31)
  else writeReg .evt 0 word w s

def srcWrite (i word w : Nat) (s : State) : State :=
  match word with
  | 1 => eventEnWrite i w s
  | 4 => onlyIf (fv SRC.CAP_STS_REL w = 1) (captureRelease i) s
  | _ => writeReg .src i word w s

def pmuCWrite (i word w : Nat) (s : State) : State :=
  match word with
  | 0 => pmuCfgWrite i w s
  | 1 => pmuArgWrite i w s
  | 5 => valLoWrite i w s
  | 6 => valHiWrite i w s
  | _ => writeReg .pmuC i word w s

/-- A write of a register by its block. -/
def blockWrite (sp : Sp) (i word w : Nat) (s : State) : State :=
  match sp with
  | .tln => tlnWrite i word w s
  | .tfr => tfrWrite i word w s
  | .act => actWrite i word w s
  | .grt => grtWrite i word w s
  | .gsq => gsqWrite i word w s
  | .pool => poolWrite word w s
  | .crl => crlWrite word w s
  | .ohp => if word = 2 then channelWrite i w s else writeReg .ohp i word w s
  | .cls => clsWrite i word w s
  | .lpm => lpmWrite word w s
  | .bpm => bpmWrite word w s
  | .tmd => if word = 5 then nodeDataWrite 0 w s else writeReg .tmd 0 word w s
  | .tmu => tmuWrite word w s
  | .tmuPort => tmuPortWrite i word w s
  | .cph => cphWrite i word w s
  | .net => netWrite i word w s
  | .tim => timWrite word w s
  | .par => if word = 2 then roleCmdWrite w s else track (writeReg .par 0 word w s)
  | .sys => sysWrite word w s
  | .rst => rstWrite word w s
  | .nvm => nvmWrite word w s
  | .otp => otpWrite word w s
  | .cmd => if word = 0 then cmdCtlWrite w s else writeReg .cmd 0 word w s
  | .sess => sessWrite i word w s
  | .evt => evtWrite word w s
  | .src => srcWrite i word w s
  | .pmu => if word = 0 then pmuCtlWrite w s else writeReg .pmu 0 word w s
  | .pmuC => pmuCWrite i word w s
  | _ => writeReg sp i word w s

end Sys2Proof.Machine
end

