-- ==== Sys2Proof/Machine/Reads.lean ====
section
/-!
DEFINITION. What a software read of each register returns: the stored fields (RegOps.lean), or the state of the block
where a status register or a data register shows it.
-/

namespace Sys2Proof.Machine

/-- A word with some fields replaced. -/
def patch (l : List (Fld × Nat)) (w : Nat) : Nat := l.foldl (fun w e => putFld e.1 e.2 w) w

/-- A register of which some fields show the block's state. -/
def statusRead (sp : Sp) (i word : Nat) (l : List (Fld × Nat)) (s : State) : Nat × State :=
  let r := readWord sp i 0 word s
  (patch l r.1, r.2)

/-- A read of a table word, and the advance of its index. -/
def tableRead (sp : Sp) (i x word : Nat) (advance : State → State) (s : State) : Nat × State :=
  let r := readWord sp i x word s
  (r.1, advance r.2)

/-- A mask of n bits. -/
def maskOf (n : Nat) (f : Nat → Bool) : Nat := (List.range n).foldl (fun a i => a + b2n (f i) * 2 ^ i) 0

/-! Islands 167 to 174. -/

def tlnRead (n word : Nat) (s : State) : Nat × State :=
  match word with
  | 3 => (rdWord .preset n (rd TLN.PRESET_IDX_IDX n s) 0 s, presetAdvance n s)
  | 6 => statusRead .tln n 6
      [(TLN.STS_TXDIS, b2n (txdis n s)), (TLN.STS_TX_PLL_LOCK, b2n (txPllLocked n s)),
       (TLN.STS_LOS, b2n (on TLN.STS_LOS n s || !on TLN.STS_PRES n s)),
       (TLN.STS_ED_INBAND, b2n (rd TLN.CTL_SD_USE n s == 0 || on TLN.STS_CHATTER n s))] s
  | _ => readWord .tln n 0 word s

def tfrRead (n word : Nat) (s : State) : Nat × State :=
  match word with
  | 3 => let s := sfcLoRead n s; (rd TFR.SFC_LO n s, s)
  | 8 => statusRead .tfr n 8 [(TFR.STS_DEG_ANY, b2n (degTerms n s != []))] s
  | 10 => tableRead .tfrT n (rd TFR.TERM_IDX_TERM n s) (rd TFR.TERM_IDX_WORD n s) (tfrTermAdvance n) s
  | _ => readWord .tfr n 0 word s

/-- The records of a tree in OPERATING. -/
def operCount (n : Nat) (s : State) : Nat := ((terminals n s).filter fun t => termState n t s == 2).length

/-- SMK_STS (R97): the smoker in progress, or how the last one ended. R97 does not say what CAND and SUSPECT read when no smoker
runs, nor what ROUND reads beyond 15: CAND reads 0, SUSPECT the last terminal suspected, and ROUND stays at 15 (DESIGN CHOICE, log
entry 118). -/
def smkStatus (n : Nat) (s : State) : List (Fld × Nat) :=
  let a := s.actOf n
  match a.smoker with
  | some x => [(ACT.SMK_STS_STATE, 1), (ACT.SMK_STS_CRIT, x.crit), (ACT.SMK_STS_ROUND, min x.round 15), (ACT.SMK_STS_TRY, x.tries),
      (ACT.SMK_STS_CAND, x.cands.length), (ACT.SMK_STS_SUSPECT, a.smkSuspect)]
  | none => [(ACT.SMK_STS_STATE, a.smkEnd), (ACT.SMK_STS_CRIT, a.smkCrit), (ACT.SMK_STS_ROUND, min a.smkRound 15),
      (ACT.SMK_STS_TRY, a.smkTry), (ACT.SMK_STS_CAND, 0), (ACT.SMK_STS_SUSPECT, a.smkSuspect)]

/-- A quiet window is open in the lane. -/
def quietOpen (n : Nat) (s : State) : Bool :=
  match (s.lane n).window with | some w => w.sel.kind == .quiet | none => false

def keyAdvance (n : Nat) : State → State := advanceIndex ACT.KEY_IDX_AUTO_INC ACT.KEY_IDX_WORD ACT.KEY_IDX_TERM n 4 512

def actRead (n word : Nat) (s : State) : Nat × State :=
  let a := s.actOf n
  match word with
  | 5 => statusRead .act n 5
      [(ACT.STS_BROOD_CNT, (broodUsed n s).length), (ACT.STS_OPER_CNT, operCount n s), (ACT.STS_TOD_BUSY, b2n a.todBusy),
       (ACT.STS_QW_OPEN, b2n (quietOpen n s))] s
  | 6 => statusRead .act n 6 (smkStatus n s) s
  | 13 => tableRead .actT n (rd ACT.TERM_IDX_TERM n s) (rd ACT.TERM_IDX_WORD n s) (actTermAdvance n) s
  | 15 => tableRead .brood n (rd ACT.BROOD_IDX_ENTRY n s) (rd ACT.BROOD_IDX_WORD n s) (broodAdvance n) s
  | 17 => (0, keyAdvance n s)
  | 18 => statusRead .act n 18 [(ACT.PLQ_STS_HI_LVL, a.high.length), (ACT.PLQ_STS_NORM_LVL, a.normal.length)] s
  | _ => readWord .act n 0 word s

/-! Islands 175 to 206. -/

def grtRead (n word : Nat) (s : State) : Nat × State :=
  match word with
  | 3 => statusRead .grt n 3 [(GRT.STS_MIRROR, b2n (roleStandby s))] s
  | 5 => tableRead .cell (if on GRT.CELL_IDX_BANK n s then frozenBank n s else openBank n s) (rd GRT.CELL_IDX_CELL n s)
      (rd GRT.CELL_IDX_WORD n s) (advanceWord GRT.CELL_IDX_AUTO_INC GRT.CELL_IDX_WORD GRT.CELL_IDX_CELL n 0 3 1024) s
  | 7 => tableRead .ctx n (rd GRT.ALLOC_IDX_CTX n s) (rd GRT.ALLOC_IDX_WORD n s)
      (advanceIndex GRT.ALLOC_IDX_AUTO_INC GRT.ALLOC_IDX_WORD GRT.ALLOC_IDX_CTX n 2 2048) s
  | 9 => tableRead .prof n (profIdx (rd GRT.PROF_IDX_RATE n s) (rd GRT.PROF_IDX_PROF n s)) (rd GRT.PROF_IDX_WORD n s)
      (profAdvance n) s
  | _ => readWord .grt n 0 word s

def stateCode : TState → Nat
  | .disabled => 0 | .running => 1 | .blocked => 2 | .fault => 3 | .parked => 4

/-- THR_STS[t] (R149). -/
def threadStatus (k t : Nat) (s : State) : Nat :=
  let th := s.thread k t
  let swap := match (s.cluster k).swap with | some (x, _) => x == t | none => false
  stateCode th.state * 2 ^ 29 + th.fcode * 2 ^ 25 + b2n swap * 2 ^ 24 + th.st * 2 ^ 20 + th.pc

/-- REG_DATA: the registers of a thread in fault or disabled (R149). -/
def regDataRead (k : Nat) (s : State) : Nat :=
  let t := rd GSQ.REG_IDX_THREAD k s
  if (s.thread k t).state = .fault ∨ (s.thread k t).state = .disabled then readG k t (rd GSQ.REG_IDX_REG k s) s else 0

def traceRead (k : Nat) (s : State) : Nat × State :=
  let e := (s.cluster k).trace.getD (rd GSQ.TRACE_IDX_ENTRY k s) (0, 0)
  (if rd GSQ.TRACE_IDX_WORD k s = 0 then e.1 else e.2,
   advanceIndex GSQ.TRACE_IDX_AUTO_INC GSQ.TRACE_IDX_WORD GSQ.TRACE_IDX_ENTRY k 2 4096 s)

def gsqRead (k word : Nat) (s : State) : Nat × State :=
  match word with
  | 25 => (rdWord .imem k (rd GSQ.IMEM_IDX_ADDR k s) 0 s, stepIndex GSQ.IMEM_IDX_AUTO_INC GSQ.IMEM_IDX_ADDR k 16384 s)
  | 27 => (rdWord .dmem k (rd GSQ.DMEM_IDX_ADDR k s) 0 s, stepIndex GSQ.DMEM_IDX_AUTO_INC GSQ.DMEM_IDX_ADDR k 16384 s)
  | 29 => (rdWord .ctx (6 * k + rd GSQ.CTX_IDX_TREE k s) (rd GSQ.CTX_IDX_CTX k s) (rd GSQ.CTX_IDX_WORD k s) s, ctxAdvance k s)
  | 31 => (regDataRead k s, s)
  | 34 => (b2n (s.cluster k).traceFull * 2 ^ 31 + min (s.cluster k).trace.length 4096, s)
  | 36 => traceRead k s
  | _ => if 16 ≤ word ∧ word < 20 then (threadStatus k (word - 16) s, s) else readWord .gsq k 0 word s

def poolRead (word : Nat) (s : State) : Nat × State :=
  if word = 2 then statusRead .pool 0 2
    [(POOL.DP_STS_DEC_TEST, maskOf 16 (inCheck · s)), (POOL.DP_STS_DEC_INSVC, maskOf 16 (inService · s))] s
  else readWord .pool 0 0 word s

/-! Islands 207 to 221. -/

def crlRead (word : Nat) (s : State) : Nat × State :=
  match word with
  | 5 => let x := namedLane s; tableRead .lane x.inst x.l (rd CRL.LANE_IDX_WORD 0 s) laneAdvance s
  | 7 => (rdWord .hdr 0 (rd CRL.HDR_IDX_HDR 0 s) (rd CRL.HDR_IDX_WORD 0 s) s, hdrAdvance s)
  | _ => readWord .crl 0 0 word s

def ohpRead (p word : Nat) (s : State) : Nat × State :=
  if word = 2 then ((channelWord p (rd OHP.CH_IDX_CH p s) s).toNat, stepIndex OHP.CH_IDX_AUTO_INC OHP.CH_IDX_CH p 32 s)
  else readWord .ohp p 0 word s

def clsRead (k word : Nat) (s : State) : Nat × State :=
  match word with
  | 8 => emDataRead k s
  | 11 => tblRead k s
  | _ => readWord .cls k 0 word s

/-- QUOTA_DATA (R211). -/
def quotaAdvance (s : State) : State :=
  if !on BPM.QUOTA_IDX_AUTO_INC 0 s then s
  else
    let k := rd BPM.QUOTA_IDX_WORD 0 s
    let p := rd BPM.QUOTA_IDX_POOL 0 s
    if k < 2 then wr BPM.QUOTA_IDX_WORD 0 (k + 1) s
    else s |> wr BPM.QUOTA_IDX_WORD 0 0 |> wr BPM.QUOTA_IDX_POOL 0 ((p + 1) % 4)
      |> onlyIf (p = 3) (wr BPM.QUOTA_IDX_REQ 0 ((rd BPM.QUOTA_IDX_REQ 0 s + 1) % 32))

def bpmRead (word : Nat) (s : State) : Nat × State :=
  match word with
  | 5 => statusRead .bpm 0 5
      [(BPM.STS_RECLAIM_BUSY, b2n (s.bpm.reclaim != [])), (BPM.STS_RECLAIM_REQ, (s.bpm.reclaim.headD []).headD 0)] s
  | 13 => tableRead .quota (rd BPM.QUOTA_IDX_REQ 0 s) (rd BPM.QUOTA_IDX_POOL 0 s) (rd BPM.QUOTA_IDX_WORD 0 s) quotaAdvance s
  | _ => if 8 ≤ word ∧ word < 12 then (poolFree (word - 8) s, s) else readWord .bpm 0 0 word s

/-- NODE_DATA of a manager. -/
def nodeRead (m : Nat) (s : State) : Nat × State := let s := nodeDataRead m s; (s.cmd.readData, s)

def gclRead (s : State) : Nat × State :=
  tableRead .gcl (rd TMU.PORT_SEL_PORT 0 s * 2 + rd TMU.GCL_IDX_BANK 0 s) (rd TMU.GCL_IDX_ENTRY 0 s) (rd TMU.GCL_IDX_WORD 0 s)
    (advanceIndex TMU.GCL_IDX_AUTO_INC TMU.GCL_IDX_WORD TMU.GCL_IDX_ENTRY 0 2 256) s

def tmuRead (word : Nat) (s : State) : Nat × State :=
  match word with
  | 11 => gclRead s
  | 13 => nodeRead 1 s
  | _ => readWord .tmu 0 0 word s

def tmuPortRead (p word : Nat) (s : State) : Nat × State :=
  if word = 8 then statusRead .tmuPort p 8 [(TMUPORT.OPER_STS_STATES, gateStates p s), (TMUPORT.OPER_STS_OPER_LEN, (s.tmuPort p).operLen)] s else readWord .tmuPort p 0 word s

/-- Flows that are held (R248). -/
def heldFlows (d : Nat) (s : State) : Nat :=
  (s.mem.filter fun e => e.1.sp == .flow && e.1.inst == d && e.1.word == 0 && bitsOf e.2 26 26 == 1).length

def cphRead (d word : Nat) (s : State) : Nat × State :=
  match word with
  | 1 => statusRead .cph d 1 [(CPH.STS_HELD, heldFlows d s)] s
  | 3 => tableRead .cphPort (portInst d (rd CPH.PORT_IDX_TREE d s)) (rd CPH.PORT_IDX_PID d s) 0 (portAdvance d) s
  | 5 => (0, stepIndex CPH.TKEY_IDX_AUTO_INC CPH.TKEY_IDX_WORD d 4 s)
  | 7 => tableRead .flow d (rd CPH.FLOW_IDX_FLOW d s) (rd CPH.FLOW_IDX_WORD d s)
      (advanceIndex CPH.FLOW_IDX_AUTO_INC CPH.FLOW_IDX_WORD CPH.FLOW_IDX_FLOW d 10 8192) s
  | 9 => (0, stepIndex CPH.FKEY_IDX_AUTO_INC CPH.FKEY_IDX_WORD d 8 s)
  | 11 => (0, advanceIndex CPH.RING_IDX_AUTO_INC CPH.RING_IDX_WORD CPH.RING_IDX_ENTRY d 8 4096 s)
  | _ => readWord .cph d 0 word s

/-! Islands 96 to 159 and 222 to 225. -/

/-- Inside another port the port-level registers read 0 (R283). -/
def netRead (n word : Nat) (s : State) : Nat × State :=
  if otherLane n s && word != 6 && word != 7 then (0, s)
  else match word with
  | 8 => ((Tbl.get {} s.txts n).entries.length, s)
  | 9 => txtsRead n s
  | _ => readWord .net n 0 word s

def timRead (word : Nat) (s : State) : Nat × State :=
  match word with
  | 4 => timeSecRead s
  | 14 => (frErrRead s, s)
  | _ => readWord .tim 0 0 word s

def sysRead (word : Nat) (s : State) : Nat × State :=
  match word with
  | 1 => statusRead .sys 0 1 [(SYS.ID_DEVNUM_V, b2n s.nvm.devnum.isSome), (SYS.ID_DEVNUM, s.nvm.devnum.getD 0)] s
  | 9 => (0, stepIndex SYS.KEY_IDX_AUTO_INC SYS.KEY_IDX_WORD 0 4 s)
  | 11 => peerRead s
  | _ => readWord .sys 0 0 word s

/-- RST.STS (R340). -/
def rstStatus (s : State) : Nat :=
  let x := s.rst
  x.lastClass * 2 ^ 29 + x.phase * 2 ^ 26 + b2n (s.nvm.state == 4) * 2 ^ 25 + b2n (decide (x.phase < 5) && !x.refclk) * 2 ^ 24 +
  ((List.range 226).filter fun i => (s.island i).held).length * 2 ^ 8

/-- ISL_DATA (R340). -/
def islandStatus (i : Nat) (s : State) : Nat :=
  let x := s.island i
  let recent := x.relapses.filter fun t => decide (s.clk < t + 10000000000)
  b2n (!x.up) * 2 ^ 31 + b2n x.clkGood * 2 ^ 30 + b2n x.held * 2 ^ 29 + phaseOf i * 2 ^ 26 + min recent.length 255 * 2 ^ 8

/-- CLK.DATA (R340). -/
def clockStatus (i : Nat) (s : State) : Nat :=
  let x := s.island i
  b2n x.pllLock * 2 ^ 31 + b2n x.clkGood * 2 ^ 30 + (if s.rst.refclk then x.freqErr else 0x8000)

/-- The island a pin belongs to (R422). -/
def pinIsland (p : Nat) : Nat :=
  if p < 192 then (if p % 4 = 2 then 48 + p / 4 else framingIsland (p / 4)) else if p < 224 then 221 else if p < 227 then 222 else if p < 229 then 223
  else if p < 242 then 225 else 164

/-- The state an output has once configured, as a code of R335; inputs keep their pulls, and the pins of an overhead port that
does not run their fuse-map levels (R169). A level the spec does not tie to the state is free (log entry 5). -/
def pinDriven (p : Nat) (s : State) : Option Nat × State :=
  let level := fun (b : Bool) => some (if b then 2 else 1)
  let (v, s') := drawFree s
  if p < 192 then (if p % 4 = 2 then level false else none, s)
  else if p < 224 then
    match ohpLevels ((p - 192) / 4) s with
    | none => (none, s)
    | some (fs, do_) =>
      if p % 4 = 0 then (some (1 + v % 2), s') else if p % 4 = 3 then (none, s) else (level (if p % 4 = 1 then fs else do_), s)
  else if p = 225 then (level s.tim.ppsOut.isSome, s)
  else if p = 227 ∨ p = 228 then (some (if eventPin (p - 227) s then 1 else 0), s)
  else if 229 ≤ p ∧ p < 232 ∨ p = 242 then (some (1 + v % 2), s')
  else if 232 ≤ p ∧ p < 241 then (some (v % 5), s')
  else (none, s)

/-- PIN_DATA: FUSE, CUR, SRC (R335, R336, R338, R340). -/
def pinStatus (p : Nat) (s : State) : Nat × State :=
  let fuse := fuseCode p s
  let latched := Tbl.get 0 s.rst.fuse p
  let map := if s.rst.fuseValid ∧ latched < 5 then latched else 0
  let ov := Tbl.get 0 s.rst.overrides p
  let conf := s.configured (pinIsland p) && decide (p < 244)
  let out := fun (cur src : Nat) => fuse * 2 ^ 6 + cur * 2 ^ 3 + src * 2
  if p < 192 ∧ p % 4 = 0 then (out (if conf then (if txdis (p / 4) s then 2 else 1) else map) (b2n conf), s)
  else if ov ≠ 0 then (out (ov - 1) 2, s)
  else if conf then
    let (cur, s) := pinDriven p s
    (out (cur.getD map) 1, s)
  else (out map 0, s)

def rstRead (word : Nat) (s : State) : Nat × State :=
  match word with
  | 2 => (rstStatus s, s)
  | 5 => (islandStatus (rd RST.ISL_IDX_ISLAND 0 s) s, stepIndex RST.ISL_IDX_AUTO_INC RST.ISL_IDX_ISLAND 0 226 s)
  | 7 =>
    let (v, s) := pinStatus (rd RST.PIN_IDX_PIN 0 s) s
    (v, stepIndex RST.PIN_IDX_AUTO_INC RST.PIN_IDX_PIN 0 1024 s)
  | 8 =>
    let ov := Tbl.get 0 s.rst.overrides (rd RST.PIN_IDX_PIN 0 s)
    (if ov = 0 then 0 else 2 ^ 31 + (ov - 1), s)
  | _ => readWord .rst 0 0 word s

def clkRead (word : Nat) (s : State) : Nat × State :=
  if word = 1 then (clockStatus (rd CLK.IDX_ISLAND 0 s) s, stepIndex CLK.IDX_AUTO_INC CLK.IDX_ISLAND 0 226 s)
  else readWord .clk 0 0 word s

/-- NVM.STS (R363). -/
def nvmStatusWord (s : State) : Nat :=
  let x := s.nvm
  x.state * 2 ^ 29 + x.slot * 2 ^ 28 + b2n x.octal * 2 ^ 27 + x.resA * 2 ^ 20 + x.resB * 2 ^ 16 +
  (match x.image with | some m => m.arb | none => 0)

def nvmRead (word : Nat) (s : State) : Nat × State :=
  match word with
  | 1 => (nvmStatusWord s, s)
  | 2 => (match s.nvm.image with | some m => m.imageId | none => 0, s)
  | 6 => bufWordRead s
  | _ => readWord .nvm 0 0 word s

def otpRead (word : Nat) (s : State) : Nat × State :=
  match word with
  | 0 => (otpStatus s + b2n s.nvm.otpOp.isSome * 2 ^ 16, s)
  | 1 => (deviceId s % 2 ^ 32, s)
  | 2 => (deviceId s / 2 ^ 32, s)
  | 4 => shRead s
  | 7 => (0, stepIndex OTP.PDATA_IDX_AUTO_INC OTP.PDATA_IDX_WORD 0 32 s)
  | _ => readWord .otp 0 0 word s

def sessCode : SessState → Nat
  | .closed => 0 | .open => 1 | .fault => 2

/-- A challenge lockout is in force (R381). -/
def lockedOut (s : State) : Bool := match s.cmd.lockoutEnd with | some t => decide (s.clk < t) | none => false

/-- CMD.STS (R390). -/
def cmdStatus (s : State) : Nat :=
  s.cmd.link * 2 ^ 29 + b2n s.cmd.priv * 2 ^ 28 + b2n (lockedOut s) * 2 ^ 27 + min s.cmd.fails 7 * 2 ^ 24 +
  (List.range 4).foldl (fun a i => a + sessCode (s.session i).state * 4 ^ i) 0

def sessRead (i word : Nat) (s : State) : Nat × State :=
  let x := s.session i
  match word with
  | 5 => (b2n x.phase * 2 ^ 31 + x.tail, s)
  | 6 => (x.consumed, s)
  | 7 => (sessCode x.state * 2 ^ 30 + x.fifo.length, s)
  | _ => readWord .sess i 0 word s

def evtRead (word : Nat) (s : State) : Nat × State :=
  if word = 1 then (b2n (eventPin 0 s) + 2 * b2n (eventPin 1 s), s)
  else if 4 ≤ word ∧ word < 12 then (eventSummary (word - 4) s, s)
  else readWord .evt 0 0 word s

def pmuCRead (i word : Nat) (s : State) : Nat × State :=
  match word with
  | 5 => valLoRead i s
  | 6 => (valHiRead i s, s)
  | _ => readWord .pmuC i 0 word s

/-- A read of a register by its block. -/
def blockRead (sp : Sp) (i word : Nat) (s : State) : Nat × State :=
  match sp with
  | .tln => tlnRead i word s
  | .tfr => tfrRead i word s
  | .act => actRead i word s
  | .grt => grtRead i word s
  | .gsq => gsqRead i word s
  | .pool => poolRead word s
  | .crl => crlRead word s
  | .ohp => ohpRead i word s
  | .cls => clsRead i word s
  | .lpm => if word = 2 then lpmDataRead s else readWord .lpm 0 0 word s
  | .bpm => bpmRead word s
  | .tmd => if word = 5 then nodeRead 0 s else readWord .tmd 0 0 word s
  | .tmu => tmuRead word s
  | .tmuPort => tmuPortRead i word s
  | .cph => cphRead i word s
  | .net => netRead i word s
  | .tim => timRead word s
  | .par => if word = 9 then ofsRead s else readWord .par 0 0 word s
  | .sys => sysRead word s
  | .rst => rstRead word s
  | .clk => clkRead word s
  | .nvm => nvmRead word s
  | .otp => otpRead word s
  | .cmd => if word = 1 then (cmdStatus s, s) else readWord .cmd 0 0 word s
  | .sess => sessRead i word s
  | .evt => evtRead word s
  | .pmuC => pmuCRead i word s
  | _ => readWord sp i 0 word s

end Sys2Proof.Machine
end

