-- ==== Sys2Proof/Machine/Access.lean ====
section
/-!
DEFINITION. Register accesses (16_command_interface.md, R382 to R388; 18_address_map.md, R413 to R417): the way from an
offset to a block, the answer of an island in reset, guarded registers, MMIO and the indirect pair.
-/

namespace Sys2Proof.Machine

/-- The instance an access reaches: the port block of TMU acts on the port PORT_SEL names (R235). -/
def instOf (sp : Sp) (i : Nat) (s : State) : Nat := if sp = .tmuPort then rd TMU.PORT_SEL_PORT 0 s else i

/-- The island of a mapped register is in reset: its wrapper answers (R334). -/
def downIsland (sp : Sp) (i w : Nat) (s : State) : Option Nat :=
  match homeOf sp i w with
  | some j => if s.up j then none else some j
  | none => none

/-- A write of a register by its offset; the verdict tells how it ended (R375). -/
def regWrite (ofs v : Nat) (s : State) : State :=
  let s := setVerdict 0 0 s
  match regAt ofs with
  | none => unmapped ofs v s
  | some (sp, i, w) =>
    match downIsland sp i w s with
    | some j => s |> wrapperAnswer j |> setVerdict 5 0
    | none =>
      let f := blockWrite sp (instOf sp i s) w v
      if isGuarded sp w then guarded ofs v f s else f s

/-- A read of a register by its offset; 0 where it is refused. -/
def regRead (ofs : Nat) (s : State) : Nat × State :=
  let s := setVerdict 0 0 s
  match regAt ofs with
  | none => (0, unmapped ofs 0 s)
  | some (sp, i, w) =>
    match downIsland sp i w s with
    | some j => (0, s |> wrapperAnswer j |> setVerdict 5 0)
    | none =>
      if isGuarded sp w && !privileged s then (0, guarded ofs 0 id s) else blockRead sp (instOf sp i s) w s

/-- The source of the accesses of an operation (R392). -/
def asSource (src : Nat) (f : State → State) (s : State) : State :=
  let was := s.cmd.source
  let s := f (s.setCmd { s.cmd with source := src })
  s.setCmd { s.cmd with source := was }

/-- The last access was answered by a wrapper: cause 21 (R375, R385). -/
def answerError (ofs v : Nat) (s : State) : State := onlyIf (s.cmd.verdict = 5) (accessCause 21 ofs v) s

/-- A write by a command or a record. -/
def busWrite (ofs v : Nat) (s : State) : State := s |> regWrite ofs v |> answerError ofs v

/-- A read by a command or a record. -/
def busRead (ofs : Nat) (s : State) : Nat × State :=
  let r := regRead ofs s
  (r.1, answerError ofs 0 r.2)

/-! MMIO (R385, R410, R415 to R417). -/

/-- The tunnel stands: the host can reach BAR0 (R366, R368). -/
def tunnelUp (s : State) : Bool := decide (2 ≤ s.cmd.link)

/-- IND_STS after an MMIO access that was answered with an error. -/
def indStatus (s : State) : State := onlyIf (s.cmd.verdict = 5) (wr CMD.IND_STS_ACC_ERR 0 1) s

/-- IND_ADDR after an IND_DATA access (R417). -/
def indAdvance (s : State) : State :=
  onlyIf (on CMD.IND_ADDR_AUTO_INC 0 s = true)
    (wr CMD.IND_ADDR_OFFSET 0 ((rd CMD.IND_ADDR_OFFSET 0 s + 4) % 2 ^ 24)) s

/-- A read (none) or a write of the register at `ofs` through IND_DATA; an error response raises cause 22 (R385). -/
def indAt (ofs : Nat) (w : Option Nat) (s : State) : Nat × State :=
  let (v, s) := match w with
    | some v => (0, regWrite ofs v s)
    | none => regRead ofs s
  (v, s |> onlyIf (s.cmd.verdict = 5) (accessCause 22 ofs (w.getD 0)) |> indStatus)

/-- A read of the MSI-X table: the vectors' mask bits are set at reset, as PCIe has them; a word is kept with 1 added
(log entry 15). -/
def msixRead (k : Nat) (s : State) : Nat :=
  match Tbl.get 0 s.cmd.msix k with
  | 0 => if k % 4 = 3 then 1 else 0
  | v + 1 => v

/-- A direct MMIO access to an offset that names no register. -/
def mmioUnmapped (ofs v : Nat) (s : State) : State := unmapped ofs v s

/-- A direct MMIO read of one word other than IND_DATA (R385, R410, R415, R416). -/
def mmioRead (ofs : Nat) (s : State) : Nat × State :=
  if ofs < 0x40000 then (0, s)
  else if 0x50000 ≤ ofs ∧ ofs < 0x50040 ∧ ofs % 4 = 0 then (msixRead ((ofs - 0x50000) / 4) s, s)
  else if ofs = 0x50800 ∨ ofs = 0x50804 then let r := drawFree s; (r.1 % 2 ^ 32, r.2)
  else if ofs = 0x40008 ∨ ofs = 0x40010 then readWord .cmd 0 0 ((ofs - 0x40000) / 4) s
  else if indirectOnly ofs then (0, mmioUnmapped ofs 0 s)
  else let r := busRead ofs s; (r.1, indStatus r.2)

/-- A direct MMIO write of one whole word other than IND_DATA. A command window takes it by R370. -/
def mmioWrite (ofs v : Nat) (s : State) : State :=
  if 0x50000 ≤ ofs ∧ ofs < 0x50040 ∧ ofs % 4 = 0 then
    s.setCmd { s.cmd with msix := Tbl.set 0 s.cmd.msix ((ofs - 0x50000) / 4) (v + 1) }
  else if ofs = 0x50800 ∨ ofs = 0x50804 then s
  else if ofs = 0x40008 ∨ ofs = 0x40010 then writeReg .cmd 0 ((ofs - 0x40000) / 4) v s
  else if indirectOnly ofs then mmioUnmapped ofs v s
  else s |> busWrite ofs v |> indStatus

/-! Register ports held by table loads (R377). -/

/-- The block an offset lies in. -/
def blockOf (ofs : Nat) : Option (Sp × Nat) :=
  (regAt ofs).map fun r => (if r.1 = .tmuPort then .tmu else if r.1 = .ringc then .cmd else r.1, r.2.1)

/-- The block whose port the table load of session i holds: while its GO group waits, for at most 4,096 accesses. -/
def holdOf (i : Nat) (s : State) : Option (Sp × Nat) :=
  match (s.session i).load with
  | some { go := some g, accesses := n, .. } => if n < 4096 then blockOf g.ofs else none
  | _ => none

/-- Another session's command, or an ACTION, holds the block of an offset. -/
def portHeld (src ofs : Nat) (s : State) : Bool :=
  [0, 1, 2, 3, 6].any fun i => i != src && (holdOf i s).isSome && holdOf i s == blockOf ofs

/-- An access from outside a packet. -/
def doAccess (a : PortWait) (s : State) : Nat × State :=
  if a.ind then indAt a.ofs a.w s
  else if a.src = 4 then (match a.w with
    | some v => (0, mmioWrite a.ofs v s)
    | none => mmioRead a.ofs s)
  else
    let was := s.cmd.source
    let s := s.setCmd { s.cmd with source := a.src }
    let (v, s) := match a.w with
      | some v => (0, busWrite a.ofs v s)
      | none => busRead a.ofs s
    (v, s.setCmd { s.cmd with source := was })

/-- An access takes its turn behind those of its source that wait, and waits while its block is held. -/
def portAccess (a : PortWait) (s : State) : State :=
  if s.cmd.portWait.any (fun b => b.src == a.src) || portHeld a.src a.ofs s then
    s.setCmd { s.cmd with portWait := s.cmd.portWait ++ [a] }
  else
    let r := doAccess a s
    startDue (setRead r.1 r.2)

/-- Ports may have become free: the accesses that waited run, in order. -/
def drainPorts (s : State) : State := allOf s.cmd.portWait portAccess (s.setCmd { s.cmd with portWait := [] })

/-- IND_DATA_ACCESS: a read (none) or a write through the indirect pair. -/
def indDataAccess (w : Option Nat) (s : State) : State :=
  if !tunnelUp s then s
  else s |> portAccess { src := 4, ofs := rd CMD.IND_ADDR_OFFSET 0 s, w := w, ind := true } |> indAdvance

def execIndDataAccess (w : Option Word) (s : State) : Host.Outcome State Fault Refusal :=
  onIsland 223 s (indDataAccess (w.map (·.toNat)))

/-! Words of a table load (R378) and waits on a register (R350). -/

/-- A write to offsets that advance by `step`. -/
def writeWords (ofs step : Nat) : List Nat → State → State
  | [], s => s
  | v :: l, s => writeWords (ofs + step) step l (busWrite ofs v s)

/-- The condition of a wait holds on a value read. -/
def waitHolds (mask value v : Nat) : Bool := v &&& mask == value

/-- The groups of a table load in an image record: what of them is done at once, and the wait that stops them. -/
def tableGroups : Nat → List Nat → State → Option WaitRun × State
  | 0, _, s => (none, s)
  | fuel + 1, h :: v :: d :: n :: rest, s =>
    let ofs := h % 2 ^ 24
    let s := busWrite ofs v s
    if h / 2 ^ 28 = 0 then tableGroups fuel (rest.drop n) (writeWords (d % 2 ^ 24) 0 (rest.take n) s)
    else
      let (x, s) := busRead ofs s
      if waitHolds d 0 x then tableGroups fuel rest s
      else (some { ofs := ofs, mask := d, value := 0, until_ := s.clk + n * 1000, next := s.clk + 100, rest := rest }, s)
  | _, _, s => (none, s)

end Sys2Proof.Machine
end

