-- ==== Sys2Proof/Machine/Image.lean ====
section
/-!
DEFINITION. Applying and replaying the runs of the running image (15_nvm_otp.md, R350 to R352, R356, R357, R436), and the time
limits of the flash (R348).
-/

namespace Sys2Proof.Machine

def setRun (r : Option RunNow) (s : State) : State := s.setNvm { s.nvm with run := r }

/-- Record accesses carry the rights of a privileged session (R350). -/
def asRecord (f : State → State) (s : State) : State := startDue (asSource 5 f s)

/-- The flash is free for a run: no command holds it (R357). -/
def flashFree (s : State) : Bool :=
  match s.nvm.flashOp with
  | some f => f.since.isNone || decide (3 < f.op)
  | none => true

/-- The flash is free again: a command that waited behind runs takes it (R357). -/
def flashYield (s : State) : State :=
  match s.nvm.flashOp with
  | some f =>
    if s.nvm.run.isNone ∧ s.nvm.replays = [] ∧ f.since = none then
      s.setNvm { s.nvm with flashOp := some { f with since := some s.clk } }
    else s
  | none => s

/-- Every run has been applied: the start counts, the cause of its slot is raised, and a single unit becomes ACTIVE (R354,
R358, R290); a member of a pair begins to join (R305, R308). -/
def applyDone (s : State) : State :=
  if s.nvm.state = 2 ∧ s.nvm.todo = [] ∧ s.nvm.run = none then
    s.setNvm { s.nvm with state := 3, again := [] } |> bump NVM.BOOT_CNT 0 |> nvmCause s.nvm.slot []
      |> (fun s => s.setPair { s.pair with imageApplied := true, quiet := 0, joinSeen := false }) |> singleActive
  else s

/-- The runs a start passes over: of held islands, and of island 224 at a warm reset (R356). -/
def passedOver (e : DirEntry) (s : State) : Bool := held e.island s || (e.island == 224 && !s.nvm.full)

def skipRuns : List DirEntry → State → List DirEntry
  | [], _ => []
  | e :: l, s => if passedOver e s then skipRuns l s else e :: l

/-- The lowest-numbered island that waits for a replay and is released (R357). -/
def nextReplay (s : State) : Option Nat := (List.range 226).find? fun i => s.nvm.replays.contains i && s.up i

def runEntry (i : Nat) (s : State) : Option DirEntry :=
  match s.nvm.image with
  | some m => m.dir.find? fun e => e.island == i
  | none => none

def beginRun (e : DirEntry) (replay skips : Bool) : State → State :=
  setRun (some { entry := e, pos := e.ofs, replay := replay, skips := skips, wait := none })

/-- RUN_APPLY (R356, R357): a replay first, else the next run of the start, once its island is released. -/
def runApply (s : State) : State :=
  if s.nvm.run.isSome || !flashFree s || s.nvm.image.isNone then s
  else match nextReplay s with
    | some i =>
      let s := s.setNvm { s.nvm with replays := s.nvm.replays.filter (· != i) }
      match runEntry i s with
      | some e => beginRun e true true s
      | none => s
    | none =>
      let s := s.setNvm { s.nvm with todo := skipRuns s.nvm.todo s }
      match s.nvm.todo with
      | [] => applyDone s
      | e :: rest =>
        if s.up e.island then beginRun e false (s.nvm.again.contains e.island) (s.setNvm { s.nvm with todo := rest }) else s

def execRunApply (s : State) : Host.Outcome State Fault Refusal := onIsland 225 s runApply

/-- A run ends: commands that waited take the flash, and a start whose last run it was is done. -/
def runOver (s : State) : State :=
  let s := setRun none s
  s |> (fun s => s.setNvm { s.nvm with todo := skipRuns s.nvm.todo s }) |> applyDone |> flashYield

/-- A run fails at apply: its island is held, in reset (R356). -/
def runFail (e : DirEntry) (s : State) : State :=
  let s := s |> setRun none |> bump NVM.RUN_FAIL_CNT 0 |> onlyIf (s.up e.island = true ∧ e.island ≠ 224) (enterBlock e.island)
    |> nvmCause 5 [e.island]
  s.setIsland e.island { s.island e.island with held := true } |> runOver |> nextPhase

/-- The record at the run's position: type, ADDR, payload; none where it breaks R351. -/
def recordHere (r : RunNow) (s : State) : Option (Nat × Nat × List Nat) :=
  let e := r.entry
  match slotWords s.nvm.slot r.pos 2 s with
  | [h, addr] =>
    let n := h % 2 ^ 24
    if e.ofs + e.len < r.pos + 8 + 4 * n then none
    else
      let pay := slotWords s.nvm.slot (r.pos + 8) n s
      if h / 2 ^ 24 = 15 then (if n = 0 then some (15, addr, []) else none)
      else if recordOk e.island (setting 5 3 3 s == 1) (h / 2 ^ 24) addr pay then some (h / 2 ^ 24, addr, pay) else none
  | _ => none

/-- A record command: acts where the run in progress waits for nothing and its next record is of type `type`; a record that
breaks R351 fails the run. -/
def atRecord (type : Nat) (f : RunNow → Nat → List Nat → State → State) (s : State) : State :=
  match s.nvm.run with
  | some r =>
    if r.wait.isSome then s
    else match recordHere r s with
      | none => runFail r.entry s
      | some (t, addr, pay) =>
        if t = type then f r addr pay (setRun (some { r with pos := r.pos + 8 + 4 * pay.length }) s) else s
  | none => s

/-- RECORD_WRITE: words to consecutive offsets. -/
def execRecordWrite (s : State) : Host.Outcome State Fault Refusal :=
  onIsland 225 s (atRecord 1 fun _ addr pay => asRecord (writeWords addr 4 pay))

/-- RECORD_STREAM: every word to one offset. -/
def execRecordStream (s : State) : Host.Outcome State Fault Refusal :=
  onIsland 225 s (atRecord 2 fun _ addr pay => asRecord (writeWords addr 0 pay))

/-- The register becomes (old AND NOT mask) OR (value AND mask) (R350). -/
def modified (old mask value : Nat) : Nat := (old &&& (2 ^ 32 - 1 - mask)) ||| (value &&& mask)

/-- RECORD_MODIFY. -/
def execRecordModify (s : State) : Host.Outcome State Fault Refusal :=
  onIsland 225 s (atRecord 3 fun _ addr pay => asRecord fun s =>
    let (old, s) := busRead addr s
    busWrite addr (modified old (pay.getD 0 0) (pay.getD 1 0)) s)

/-- The run waits, or goes on. -/
def setWait (w : Option WaitRun) (s : State) : State :=
  match s.nvm.run with
  | some r => setRun (some { r with wait := w }) s
  | none => s

/-- The groups left of a TABLE record. -/
def restOfTable (l : List Nat) (s : State) : State :=
  let was := s.cmd.source
  let (w, s) := tableGroups (l.length + 1) l (s.setCmd { s.cmd with source := 5 })
  s.setCmd { s.cmd with source := was } |> setWait w |> startDue

/-- RECORD_TABLE (R378). -/
def execRecordTable (s : State) : Host.Outcome State Fault Refusal :=
  onIsland 225 s (atRecord 6 fun _ _ pay => restOfTable pay)

/-- A record's read of the register it waits for. -/
def waitRead (w : WaitRun) (s : State) : Bool × State :=
  let was := s.cmd.source
  let (v, s) := busRead w.ofs (s.setCmd { s.cmd with source := 5 })
  (waitHolds w.mask w.value v, s.setCmd { s.cmd with source := was })

/-- RECORD_WAIT: the first read, when the record starts (R350). -/
def recordWait (addr : Nat) (pay : List Nat) (s : State) : State :=
  let w : WaitRun := { ofs := addr, mask := pay.getD 0 0, value := pay.getD 1 0, until_ := s.clk + pay.getD 2 0 * 1000
                       next := s.clk + 100, rest := [] }
  let (ok, s) := waitRead w s
  if ok then s else setWait (some w) s

def execRecordWait (s : State) : Host.Outcome State Fault Refusal := onIsland 225 s (atRecord 4 fun _ => recordWait)

/-- The next read of a waiting record, 100 ns after the last; no read falls past its end. -/
def runPoll (s : State) : State :=
  match s.nvm.run with
  | some { wait := some w, .. } =>
    if w.until_ < w.next then s
    else
      let (ok, s) := waitRead w (passTo w.next s)
      if ok then s |> setWait none |> restOfTable w.rest else setWait (some { w with next := s.clk + 100 }) s
  | _ => s

/-- A waiting record's TIMEOUT: cause 6, and the run continues. A condition that holds by then ends the wait. -/
def runTimeout (s : State) : State :=
  match s.nvm.run with
  | some { wait := some w, entry := e, .. } =>
    let (ok, s) := waitRead w (passTo w.until_ s)
    s |> onlyIf (ok = false) (nvmCause 6 [e.island]) |> setWait none |> restOfTable w.rest
  | _ => s

/-- RECORD_KEY (R352): the IV is SEAL_NONCE and the record's offset in the slot, the AAD its two header words; a tag failure
fails the run. -/
def recordKey (r : RunNow) (addr : Nat) (pay : List Nat) (s : State) : State :=
  let nonce := match s.nvm.image with | some m => m.nonce | none => 0
  let plain := if keyValid 1 s then
      Config.gcmOpen (keyNumber 1 s) (nonce * 2 ^ 32 + r.pos) (slotWords s.nvm.slot r.pos 2 s) (quad pay) (pay.drop 4)
    else none
  match plain with
  | some l => asRecord (writeWords addr 0 ((l ++ List.replicate pay.length 0).take (pay.length - 4))) s
  | none => runFail r.entry s

def execRecordKey (s : State) : Host.Outcome State Fault Refusal := onIsland 225 s (atRecord 5 recordKey)

/-- RECORD_END (R356, R357): the run's CMAC is confirmed and its island opens to traffic; a replay counts, and one of a grant
island is followed by the constant-rate cells (R117). -/
def recordEnd (r : RunNow) (s : State) : State :=
  let e := r.entry
  let w := runWords s.nvm.slot e s
  if cmacWords (keyNumber 0 s) w = e.cmac ∧ runOk e.island (setting 5 3 3 s == 1) (w.length + 1) e.records w = true then
    s.setIsland e.island { s.island e.island with configured := true }
      |> onlyIf (r.replay = true) (fun s => s |> bump NVM.REPLAY_CNT 0 |> nvmCause 7 [e.island])
      |> onlyIf (r.replay = true ∧ 175 ≤ e.island ∧ e.island ≤ 182) (replaceCells (e.island - 175))
      |> runOver
  else runFail e s

def execRecordEnd (s : State) : Host.Outcome State Fault Refusal :=
  onIsland 225 s (atRecord 15 fun r _ _ => recordEnd r)

/-- FLASH_TIMEOUT (R348): the operation that holds the flash, the check in progress or the run in progress does not finish;
5 ms for a read or a program, 2 s for an erase. -/
def flashTimeout (s : State) : State :=
  let count := fun (s : State) => s |> bump NVM.FLASH_TO_CNT 0 |> nvmCause 8 []
  match s.nvm.flashOp with
  | some { op := op, slot := slot, since := some t, .. } =>
    if op = 4 then (match s.nvm.check with
      | some c => s.setNvm { s.nvm with check := some { c with readFailed := true } } |> count
      | none => s)
    else
      s |> passTo (t + if op = 2 then 2000000000 else 5000000) |> count
        |> onlyIf (op = 3) (fun s => s |> setResult slot 9 |> nvmCause 2 [slot, 9]) |> flashEnd 4
  | _ =>
    match s.nvm.check, s.nvm.run with
    | some c, _ => s.setNvm { s.nvm with check := some { c with readFailed := true } } |> count
    | none, some r => s |> count |> runFail r.entry
    | none, none => s

def execFlashTimeout (s : State) : Host.Outcome State Fault Refusal := onIsland 225 s flashTimeout

end Sys2Proof.Machine
end

