-- ==== Sys2Proof/Machine/Command.lean ====
section
/-!
DEFINITION. Sessions and Baruc commands (16_command_interface.md, R368 to R382): the inbound windows, the packets at the heads
of their FIFOs, and what each opcode does. Source 6 is the Mbakin ACTION in progress, which runs as a session of its own.
-/

namespace Sys2Proof.Machine

/-! Inbound packets (R370, R373, R374). -/

/-- A packet as it arrives. -/
structure Inbound where
  ver : Nat
  kind : Nat
  opcode : Nat
  tag : Nat
  len : Nat
  arg0 : Nat
  arg1 : Nat
  payload : List Byte
  deriving DecidableEq, Repr

/-- Bytes as little-endian words. -/
def leWords : List Byte → List Nat
  | a :: b :: c :: d :: l => (a.toNat + 256 * b.toNat + 65536 * c.toNat + 16777216 * d.toNat) :: leWords l
  | _ => []

/-- The whole packet at the head of a byte stream. -/
def inboundOf (l : List Byte) : Option Inbound :=
  match leWords (l.take 16) with
  | [w0, w1, a0, a1] =>
    let len := w1 % 2 ^ 15
    if len % 4 ≠ 0 ∨ 16384 < len ∨ l.length < 16 + len then none
    else some {
      ver := w0 / 2 ^ 28, kind := w0 / 2 ^ 26 % 4, opcode := w0 / 2 ^ 16 % 256, tag := w0 % 2 ^ 16, len := len
      arg0 := a0, arg1 := a1, payload := (l.drop 16).take len }
  | _ => none

/-- The opcodes R376 lists as inbound; the exchange of R381 is session 0's. -/
def opcodeListed (i : Nat) (p : Inbound) : Bool :=
  p.ver == 1 && p.kind == 0 &&
    ([0x01, 0x02, 0x03, 0x04, 0x05, 0x06, 0x10, 0x11, 0x12, 0x13, 0x20, 0x21, 0x22, 0x30].contains p.opcode ||
      ([0x40, 0x41, 0x42].contains p.opcode && i == 0))

def words (p : Inbound) : List Nat := leWords p.payload

/-- What a command answers: STATUS, DETAIL, ARG0, payload. -/
structure Reply where
  status : Nat := 0
  detail : Nat := 0
  arg0 : Nat := 0
  payload : List Byte := []
  deriving DecidableEq, Repr

def failed (status index : Nat) : Reply := { status := status, arg0 := index }

/-- The status a check of the command itself left. -/
def verdictReply (index : Nat) (s : State) : Reply := { status := s.cmd.verdict, detail := s.cmd.detail, arg0 := index }

/-- The island of a command's target is in reset: its wrapper answers, cause 21 (R334, R375). -/
def islandErr (j : Nat) (s : State) : Option Reply × State :=
  (some (failed 5 0), s |> wrapperAnswer j |> setVerdict 5 0 |> answerError 0 0)

/-! Accesses of one command (R375). -/

/-- The accesses so far: the first condition met (status, DETAIL, index), what was read, newest first, whether a status has
stopped the command. -/
structure BusRun where
  state : State
  note : Nat × Nat × Nat := (0, 0, 0)
  out : List Nat := []
  stopped : Bool := false

/-- One access: offset, the value of a write, its index. -/
structure BusOp where
  ofs : Nat
  w : Option Nat
  idx : Nat

def BusRun.access (b : BusRun) (o : BusOp) : BusRun :=
  if b.stopped then b
  else
    let (v, s) := match o.w with
      | some w => (0, busWrite o.ofs w b.state)
      | none => busRead o.ofs b.state
    let st := s.cmd.verdict
    let stop := decide (st = 3 ∨ st = 5)
    { state := s
      note := if st ≠ 0 ∧ b.note.1 = 0 then (st, s.cmd.detail, o.idx) else b.note
      out := if o.w.isNone && !stop then v :: b.out else b.out
      stopped := stop }

def busRun (l : List BusOp) (s : State) : BusRun := l.foldl BusRun.access { state := s }

/-- The reply of a command made of accesses. -/
def noted (note : Nat × Nat × Nat) (arg0 : Nat) (payload : List Byte) : Reply :=
  { status := note.1, detail := if note.1 = 6 then note.2.1 else 0, arg0 := if note.1 = 0 then arg0 else note.2.2
    payload := payload }

/-! Table loads (R377, R378). -/

/-- The groups of a load from the one at its front on, until one waits or the load ends; whether it has ended. -/
def loadGroups (i : Nat) : Nat → LoadRun → State → LoadRun × Bool × State
  | 0, r, s => (r, true, s)
  | fuel + 1, r, s =>
    let note := fun (n : Nat × Nat × Nat) => if r.note.1 = 0 then n else r.note
    let bad : LoadRun × Bool × State := ({ r with note := note (2, 0, r.done) }, true, s)
    match r.rest with
    | [] => (r, true, s)
    | h :: v :: d :: n :: l =>
      let ofs := h % 2 ^ 24
      if ¬(h / 2 ^ 28 = 0 ∧ 1 ≤ n ∧ n ≤ 4088 ∧ n ≤ l.length) ∧ ¬(h / 2 ^ 28 = 1 ∧ 1 ≤ n ∧ n ≤ 1000000) then bad
      else if portHeld i ofs s then ({ r with go := none }, false, s)
      else if h / 2 ^ 28 = 0 then
        let b := busRun (⟨ofs, some v, r.done⟩ :: (l.take n).map fun x => ⟨d % 2 ^ 24, some x, r.done⟩) s
        let r := { r with note := note b.note }
        if b.stopped then (r, true, b.state)
        else loadGroups i fuel { r with done := r.done + 1, rest := l.drop n } b.state
      else
        let b := busRun [⟨ofs, some v, r.done⟩, ⟨ofs, none, r.done⟩] s
        let r := { r with note := note b.note }
        if b.stopped then (r, true, b.state)
        else if waitHolds d 0 (b.out.headD 0) then loadGroups i fuel { r with done := r.done + 1, rest := l } b.state
        else
          let g : GoWait := { ofs := ofs, mask := d, until_ := s.clk + n * 1000, next := s.clk + 100 }
          ({ r with go := some g, accesses := 2, rest := l }, false, b.state)
    | _ => bad

def loadReply (r : LoadRun) : Reply := noted r.note r.done []

/-! Responses (R370, R372, R373). -/

/-- A response as it stands in a packet. -/
def responsePacket (i opcode tag consumed : Nat) (r : Reply) : Packet :=
  { kind := 1, session := i, opcode := opcode, tag := tag, detail := r.detail, status := r.status, arg0 := r.arg0 % 2 ^ 32
    arg1 := consumed, payload := r.payload }

/-- The bytes of a packet (R373). -/
def packetBytes (p : Packet) : List Byte :=
  wordsBytes [2 ^ 28 + p.kind * 2 ^ 26 + p.session * 2 ^ 24 + p.opcode * 2 ^ 16 + p.tag,
    b2n p.phase * 2 ^ 31 + p.detail * 2 ^ 24 + p.status * 2 ^ 16 + p.payload.length, p.arg0, p.arg1] ++ p.payload

/-- A response of a session; a block reset it asked for follows it (R331). -/
def sendAnswer (i opcode tag : Nat) (r : Reply) (s : State) : State :=
  startDue (respond i (responsePacket i opcode tag (s.session i).consumed r) s)

/-- An ACTION ends: its response goes back in an ACTION_REPLY (R312), cut to its status where it exceeds a body. -/
def actionEnd (opcode tag : Nat) (r : Reply) (s : State) : State :=
  match s.sys.actions with
  | [] => startDue s
  | (src, _) :: rest =>
    let r := if 1400 < 16 + r.payload.length then failed 8 0 else r
    let body := packetBytes (responsePacket 0 opcode tag 0 r)
    s.setSys { s.sys with actions := rest, actionReply := body } |> mbakinSend 6 (some src) false true 0xFF 0 body |> startDue

/-- A command of session i, or of the ACTION, ends. -/
def finish (i opcode tag : Nat) (r : Reply) (s : State) : State :=
  if i = 6 then actionEnd opcode tag r s else sendAnswer i opcode tag r s

/-- A load has advanced: it waits, or it ends with its response, which a session closed meanwhile discards. -/
def loadAfter (i : Nat) (x : LoadRun × Bool × State) : State :=
  let s := x.2.2
  if x.2.1 then
    let s := s.setSession i { s.session i with load := none }
    match x.1.tag with
    | some t => finish i 0x10 t (loadReply x.1) s
    | none => startDue s
  else s.setSession i { s.session i with load := some x.1 }

/-! What the opcodes do (R376). `none`: the command waits and answers later. -/

def opEcho (_ : Nat) (p : Inbound) (s : State) : Option Reply × State :=
  (some { arg0 := p.arg0, payload := p.payload }, s)

/-- The offsets of a REG command: FIXED repeats one. -/
def regOffsets (arg0 n : Nat) : List Nat :=
  (List.range n).map fun j => (arg0 + if arg0 / 2 ^ 31 % 2 = 1 then 0 else 4 * j) % 2 ^ 24

def opRegRead (_ : Nat) (p : Inbound) (s : State) : Option Reply × State :=
  if p.len ≠ 0 ∨ p.arg1 = 0 ∨ 4096 < p.arg1 then (some (failed 2 0), s)
  else
    let b := busRun ((regOffsets p.arg0 p.arg1).zipIdx.map fun e => ⟨e.1, none, e.2⟩) s
    (some (noted b.note 0 (wordsBytes b.out.reverse)), b.state)

def opRegWrite (_ : Nat) (p : Inbound) (s : State) : Option Reply × State :=
  if p.len < 4 then (some (failed 2 0), s)
  else
    let l := words p
    let b := busRun (((regOffsets p.arg0 l.length).zip l).zipIdx.map fun e => ⟨e.1.1, some e.1.2, e.2⟩) s
    (some (noted b.note 0 []), b.state)

def opRegModify (_ : Nat) (p : Inbound) (s : State) : Option Reply × State :=
  match words p with
  | [mask, value] =>
    let ofs := p.arg0 % 2 ^ 24
    let b := busRun [⟨ofs, none, 0⟩] s
    if b.stopped then (some (noted b.note 0 []), b.state)
    else
      let old := b.out.headD 0
      let b := b.access ⟨ofs, some (modified old mask value), 1⟩
      (some (noted b.note 0 (wordBytes old)), b.state)
  | _ => (some (failed 2 0), s)

def opIdxRead (_ : Nat) (p : Inbound) (s : State) : Option Reply × State :=
  match words p with
  | [idx, n] =>
    if n = 0 ∨ 4096 < n then (some (failed 2 1), s)
    else
      let b := busRun (⟨p.arg0 % 2 ^ 24, some idx, 0⟩ :: (List.range n).map fun j => ⟨p.arg1 % 2 ^ 24, none, j⟩) s
      (some (noted b.note 0 (wordsBytes b.out.reverse)), b.state)
  | _ => (some (failed 2 0), s)

def opIdxWrite (_ : Nat) (p : Inbound) (s : State) : Option Reply × State :=
  match words p with
  | idx :: l =>
    let b := busRun (⟨p.arg0 % 2 ^ 24, some idx, 0⟩ :: l.zipIdx.map fun e => ⟨p.arg1 % 2 ^ 24, some e.1, e.2 + 1⟩) s
    (some (noted b.note 0 []), b.state)
  | [] => (some (failed 2 0), s)

def opTableLoad (i : Nat) (p : Inbound) (s : State) : Option Reply × State :=
  let l := words p
  if l = [] then (some (failed 2 0), s)
  else
    let x := loadGroups i (l.length + 1) { tag := some p.tag, done := 0, note := (0, 0, 0), go := none, accesses := 0, rest := l } s
    if x.2.1 then (some (loadReply x.1), x.2.2)
    else (none, x.2.2.setSession i { x.2.2.session i with load := some x.1 })

/-- The first word of a program's range that is refused (R124, R148, R376). -/
def progRefused (k first n : Nat) (s : State) : Option Nat :=
  (List.range n).find? fun j => roleStandby s || decide (0x3FFF < first + j) || imemHeld k (first + j) s

def opProgLoad (_ : Nat) (p : Inbound) (s : State) : Option Reply × State :=
  let k := p.arg0 % 8
  let first := p.arg1 % 2 ^ 14
  let l := words p
  if l = [] then (some (failed 2 0), s)
  else
    match (if s.up (clusterIsland k) then progRefused k first l.length s else none) with
    | some j => (some (failed 6 j), s)
    | none =>
      let b := busRun (⟨regOffset .gsq k 24, some (2 ^ 31 + first), 0⟩ ::
        l.zipIdx.map fun e => ⟨regOffset .gsq k 25, some e.1, e.2⟩) s
      (some (noted b.note l.length []), b.state)

/-- A byte of the flash. -/
def flashByte (a : Nat) (s : State) : Byte := BitVec.ofNat 8 (flashWord a s / 2 ^ (8 * (a % 4)))

def opFlashRead (_ : Nat) (p : Inbound) (s : State) : Option Reply × State :=
  if p.len ≠ 0 ∨ p.arg1 < 4 ∨ 16384 < p.arg1 ∨ p.arg1 % 4 ≠ 0 then (some (failed 2 0), s)
  else if s.up 225 = false then islandErr 225 s
  else (some { payload := (List.range p.arg1).map fun j => flashByte (p.arg0 + j) s }, s)

/-- A refusal of R360 by an in-band write, first met at word `idx`: its ERRCODE, cause 8. -/
def flashRefused (code idx : Nat) (x : (Nat × Nat × Nat) × State) : (Nat × Nat × Nat) × State :=
  (if x.1.1 = 0 then (6, code, idx) else x.1, nvmCause 8 [] x.2)

/-- The sectors a range's bytes reach the first byte of (R376). -/
def sectorsOf (a n : Nat) : List Nat :=
  let first := (a + 65535) / 65536
  let last := (a + n + 65535) / 65536
  (List.range (last - first)).map fun j => (first + j) * 65536

/-- The pages of a range: address and words. -/
def pagesOf (a : Nat) (l : List Nat) : List (Nat × List Nat) :=
  (List.range ((l.length + 63) / 64)).map fun j => (a + 256 * j, (l.drop (64 * j)).take 64)

def opFlashWrite (_ : Nat) (p : Inbound) (s : State) : Option Reply × State :=
  let a := p.arg0
  let l := words p
  if a % 256 ≠ 0 then (some (failed 2 0), s)
  else if s.up 225 = false then islandErr 225 s
  else if privileged s = false then
    let s := guarded (regOffset .nvm 0 3) 0 id s
    (some (failed 4 0), s)
  else
    let erase := fun (x : (Nat × Nat × Nat) × State) (b : Nat) =>
      if reachesRunning b 65536 x.2 then flashRefused 2 ((b - a) / 4) x else (x.1, flashErase b x.2)
    let x := if p.arg1 % 2 = 1 then (sectorsOf a p.len).foldl erase ((0, 0, 0), s) else ((0, 0, 0), s)
    let page := fun (x : (Nat × Nat × Nat) × State) (e : Nat × List Nat) =>
      if reachesRunning e.1 (4 * e.2.length) x.2 then flashRefused 2 ((e.1 - a) / 4) x else (x.1, flashProgram e.1 e.2 x.2)
    let x := (pagesOf a l).foldl page x
    (some (noted x.1 p.len []), x.2)

def opPloamSend (_ : Nat) (p : Inbound) (s : State) : Option Reply × State :=
  let n := p.arg0 % 64
  if p.len ≠ 40 ∨ 47 < n then (some (failed 2 0), s)
  else if s.up (framingIsland n) = false then islandErr (framingIsland n) s
  else
    let r := queueBody n p.payload s
    (some (if r.1 then {} else failed 9 0), r.2)

/-- The frame of an INJECT in a buffer of requester 15, given to `put` (R380). -/
def injectInto (island holder : Nat) (payload : List Byte) (full : State → Bool) (put : Nat → State → State) (s : State) :
    Option Reply × State :=
  if s.up island = false then islandErr island s
  else if s.up 213 = false then islandErr 213 s
  else match allocNow 15 false payload.length 1 (2 ^ holder) s with
    | (none, s) => (some (failed 7 0), s)
    | (some h, s) =>
      let x := writeBuf 15 h 0 payload s
      if x.1 then (some (if full x.2 then failed 9 0 else {}), put h x.2) else (some (failed 7 0), freeHandle holder h x.2)

def opInject (_ : Nat) (p : Inbound) (s : State) : Option Reply × State :=
  let toTree := p.arg0 / 2 ^ 31 % 2 == 1
  let n := p.arg0 / 2 ^ 16 % 64
  let port := p.arg0 % 2 ^ 16
  let lane := p.arg0 % 32
  let cls := p.arg0 / 2 ^ 8 % 8
  let omci := toTree && portOmci 0 n port s
  if p.len = 0 ∨ (toTree = true ∧ 47 < n) then (some (failed 2 0), s)
  else if !omci && !privileged s then (some (failed 4 0), guarded 0 0 id s)
  else if (omci = true ∧ 2000 < p.len) ∨ (toTree = false ∧ rd NET.PORT_CFG_MAX_FRAME lane s < p.len + 4) then
    (some (failed 8 0), s)
  else if toTree then
    injectInto 211 13 p.payload
      (fun s => match queueFor n port s with
        | some (d, _) => overLimit d (xgemBytes p.len) s
        | none => false)
      (fun h => tmdEnqueue n port h p.len) s
  else
    let q := tmuQueue lane (cls * 9 + 8)
    injectInto 212 14 p.payload (fun s => isPort lane s && nrd NODE.VALID q s == 1 && overLimit q (p.len + 4 + 20) s)
      (fun h => tmuEnqueue lane (.injection ⟨cls % 8, Nat.mod_lt _ (by decide)⟩) (some h) (p.len + 4) none) s

def opCapture (i : Nat) (p : Inbound) (s : State) : Option Reply × State :=
  let point := p.arg0 / 2 ^ 28
  let place := p.arg0 / 2 ^ 16 % 64
  let snap := (words p).headD 16352
  if (p.len ≠ 0 ∧ p.len ≠ 4) ∨ 3 < point ∨ 65535 < p.arg1 ∨ snap < 64 ∨ 16352 < snap ∨ (point < 2 ∧ 31 < place) ∨
      (2 ≤ point ∧ 47 < place) then (some (failed 2 0), s)
  else
    let arm : Option CaptureArm :=
      if p.arg1 = 0 then none
      else some { point := point, whereIdx := place, portId := p.arg0 % 2 ^ 16, left := p.arg1, snap := snap }
    (some {}, s.setSession i { s.session i with capture := arm })

def opMbakinSend (i : Nat) (p : Inbound) (s : State) : Option Reply × State :=
  let dev := p.arg0 % 2 ^ 16
  let type := p.arg0 / 2 ^ 16 % 16
  let role := p.arg1 / 2 ^ 24
  let dst := if dev = 0xFFFF then none else some dev
  if (1023 < dev ∧ dev ≠ 0xFFFF) ∨ (type ≠ 3 ∧ type ≠ 5) ∨ p.arg1 % 2 ^ 24 ≠ 0 ∨ (type = 3 ∧ p.len ≠ 0) ∨
      (type = 5 ∧ p.len < 16) then (some (failed 2 0), s)
  else if 1400 < p.len then (some (failed 8 0), s)
  else
    let w : MbakinWait := {
      tag := p.tag, until_ := s.clk + 100000000, type := type, role := role, body := p.payload, dst := dst, redirected := false }
    let s := mbakinSend type dst false false role 0 p.payload s
    (none, s.setSession i { s.session i with mbakin := some w })

/-! Privilege (R381, R382). -/

/-- The words the proof is computed over: the nonce and DEVICE_ID, least significant first. -/
def proofWords (nonce id : Nat) : List Nat :=
  [nonce % 2 ^ 32, nonce / 2 ^ 32 % 2 ^ 32, nonce / 2 ^ 64 % 2 ^ 32, nonce / 2 ^ 96 % 2 ^ 32, id % 2 ^ 32, id / 2 ^ 32]

def opPrivChallenge (_ : Nat) (p : Inbound) (s : State) : Option Reply × State :=
  if p.len ≠ 0 then (some (failed 2 0), s)
  else if lockedOut s then (some (failed 12 0), s)
  else
    let (n, s) := drawFree s
    let n := n % 2 ^ 128
    (some { payload := wordsBytes (proofWords n (deviceId s)) }, s.setCmd { s.cmd with nonce := some (n, s.clk) })

/-- The proof matches a nonce that lives, under a PRIV_KEY that is there and whole. -/
def proofHolds (check : Nat) (s : State) : Bool :=
  match s.cmd.nonce with
  | some (n, t) =>
    decide (s.clk < t + 1000000000) && keyValid 2 s && cmacWords (keyNumber 2 s) (proofWords n (deviceId s)) == check
  | none => false

/-- A proof has failed: counted, cause 9; from the third failure in a row a lockout, doubled by each further failure. -/
def proofFailed (s : State) : State :=
  let fails := s.cmd.fails + 1
  let s := s.setCmd { s.cmd with fails := fails } |> bump CMD.AUTH_FAIL_CNT 0 |> sessCause 9 0
  if fails < 3 then s
  else
    let mul := min (2 ^ (fails - 3)) 16
    s.setCmd { s.cmd with lockoutEnd := some (s.clk + mul * rd CMD.CTL_LOCK_S 0 s * 1000000000), lockoutMul := mul }
      |> sessCause 10 0

def opPrivProve (_ : Nat) (p : Inbound) (s : State) : Option Reply × State :=
  if p.len ≠ 16 then (some (failed 2 0), s)
  else
    let ok := proofHolds (quad (words p)) s
    let s := s.setCmd { s.cmd with nonce := none }
    if ok then (some {}, sessCause 8 0 (s.setCmd { s.cmd with priv := true, fails := 0 }))
    else (some (failed 11 0), proofFailed s)

def opPrivDrop (_ : Nat) (p : Inbound) (s : State) : Option Reply × State :=
  if p.len ≠ 0 then (some (failed 2 0), s) else (some {}, dropPrivilege s)

/-! Taking packets out of a FIFO (R370, R374, R377). -/

/-- The offsets a command accesses. -/
def touches (p : Inbound) : List Nat :=
  match p.opcode with
  | 0x02 => regOffsets p.arg0 (min p.arg1 4096)
  | 0x03 => regOffsets p.arg0 (p.len / 4)
  | 0x04 => [p.arg0 % 2 ^ 24]
  | 0x05 => [p.arg0 % 2 ^ 24, p.arg1 % 2 ^ 24]
  | 0x06 => [p.arg0 % 2 ^ 24, p.arg1 % 2 ^ 24]
  | 0x11 => [regOffset .gsq (p.arg0 % 8) 24]
  | _ => []

/-- The command a session can take next: a whole packet at its head, its blocks not held by another's load. -/
def nextPacket (i : Nat) (s : State) : Option Inbound :=
  let x := s.session i
  if x.idle then
    match inboundOf x.fifo with
    | some p => if opcodeListed i p && (touches p).any (fun a => portHeld i a s) then none else some p
    | none => none
  else none

/-- The packet leaves the FIFO. -/
def consume (i n : Nat) (s : State) : State :=
  let x := s.session i
  s.setSession i { x with fifo := x.fifo.drop n, consumed := (x.consumed + n) % 2 ^ 32 }

/-- A command runs with its source, and answers. -/
def runAs (i : Nat) (p : Inbound) (f : Nat → Inbound → State → Option Reply × State) (s : State) : State :=
  let was := s.cmd.source
  let (r, s) := f i p (s.setCmd { s.cmd with source := i })
  let s := s.setCmd { s.cmd with source := was }
  match r with
  | some r => finish i p.opcode p.tag r s
  | none => s

/-- A packet row: the session takes the packet at the head of its FIFO where it spells the opcode (log entry 13). -/
def atPacket (i op : Nat) (f : Nat → Inbound → State → Option Reply × State) (s : State) : State :=
  match nextPacket i s with
  | some p => if opcodeListed i p && p.opcode == op then runAs i p f (consume i (16 + p.len) s) else s
  | none => s

/-- UNLISTED_OPCODE (R374). -/
def unlistedOpcode (i : Nat) (s : State) : State :=
  match nextPacket i s with
  | some p => if opcodeListed i p then s else sendAnswer i p.opcode p.tag (failed 1 0) (consume i (16 + p.len) s)
  | none => s

def execUnlistedOpcode (i : Fin 4) (s : State) : Host.Outcome State Fault Refusal := onIsland 223 s (unlistedOpcode i)

/-- ECHO: any payload. -/
def execEcho (i : Fin 4) (s : State) : Host.Outcome State Fault Refusal := onIsland 223 s (atPacket i 0x01 opEcho)
/-- REG_READ. -/
def execRegRead (i : Fin 4) (s : State) : Host.Outcome State Fault Refusal := onIsland 223 s (atPacket i 0x02 opRegRead)
/-- REG_WRITE. -/
def execRegWrite (i : Fin 4) (s : State) : Host.Outcome State Fault Refusal := onIsland 223 s (atPacket i 0x03 opRegWrite)
/-- REG_MODIFY. -/
def execRegModify (i : Fin 4) (s : State) : Host.Outcome State Fault Refusal := onIsland 223 s (atPacket i 0x04 opRegModify)
/-- IDX_READ. -/
def execIdxRead (i : Fin 4) (s : State) : Host.Outcome State Fault Refusal := onIsland 223 s (atPacket i 0x05 opIdxRead)
/-- IDX_WRITE. -/
def execIdxWrite (i : Fin 4) (s : State) : Host.Outcome State Fault Refusal := onIsland 223 s (atPacket i 0x06 opIdxWrite)
/-- TABLE_LOAD. -/
def execTableLoad (i : Fin 4) (s : State) : Host.Outcome State Fault Refusal := onIsland 223 s (atPacket i 0x10 opTableLoad)
/-- PROG_LOAD. -/
def execProgLoad (i : Fin 4) (s : State) : Host.Outcome State Fault Refusal := onIsland 223 s (atPacket i 0x11 opProgLoad)
/-- FLASH_READ. -/
def execFlashRead (i : Fin 4) (s : State) : Host.Outcome State Fault Refusal := onIsland 223 s (atPacket i 0x12 opFlashRead)
/-- FLASH_WRITE. -/
def execFlashWrite (i : Fin 4) (s : State) : Host.Outcome State Fault Refusal := onIsland 223 s (atPacket i 0x13 opFlashWrite)
/-- PLOAM_SEND. -/
def execPloamSend (i : Fin 4) (s : State) : Host.Outcome State Fault Refusal := onIsland 223 s (atPacket i 0x20 opPloamSend)
/-- INJECT. -/
def execInject (i : Fin 4) (s : State) : Host.Outcome State Fault Refusal := onIsland 223 s (atPacket i 0x21 opInject)
/-- CAPTURE. -/
def execCapture (i : Fin 4) (s : State) : Host.Outcome State Fault Refusal := onIsland 223 s (atPacket i 0x22 opCapture)
/-- MBAKIN_SEND. -/
def execMbakinSend (i : Fin 4) (s : State) : Host.Outcome State Fault Refusal := onIsland 223 s (atPacket i 0x30 opMbakinSend)
/-- PRIV_CHALLENGE: on session 0. -/
def execPrivChallenge (s : State) : Host.Outcome State Fault Refusal := onIsland 223 s (atPacket 0 0x40 opPrivChallenge)
/-- PRIV_PROVE: on session 0. -/
def execPrivProve (s : State) : Host.Outcome State Fault Refusal := onIsland 223 s (atPacket 0 0x41 opPrivProve)
/-- PRIV_DROP: on session 0. -/
def execPrivDrop (s : State) : Host.Outcome State Fault Refusal := onIsland 223 s (atPacket 0 0x42 opPrivDrop)

/-- A session whose MBAKIN_SEND waits gets its answer (R314, R376). -/
def mbakinAnswer (i : Nat) (r : Reply) (s : State) : State :=
  match (s.session i).mbakin with
  | some w => finish i 0x30 w.tag r (s.setSession i { s.session i with mbakin := none })
  | none => s

/-- MBAKIN_REPLY_TIMEOUT: 100 ms after the message. -/
def replyTimeout (i : Nat) (s : State) : State :=
  match (s.session i).mbakin with
  | some w => mbakinAnswer i (failed 10 0) (passTo w.until_ s)
  | none => s

/-- LOCKOUT_EXPIRY. -/
def lockoutExpiry (s : State) : State :=
  match s.cmd.lockoutEnd with
  | some t => let s := passTo t s; s.setCmd { s.cmd with lockoutEnd := none }
  | none => s

def execLockoutExpiry (s : State) : Host.Outcome State Fault Refusal := onIsland 223 s lockoutExpiry

/-! ACTIONs of other devices (R312, R377). -/

/-- What an ACTION's packet does: as from a session without privilege, which has no ring of its own (R312, log entry 98). -/
def actionOp : Nat → Option (Nat → Inbound → State → Option Reply × State)
  | 0x01 => some opEcho
  | 0x02 => some opRegRead
  | 0x03 => some opRegWrite
  | 0x04 => some opRegModify
  | 0x05 => some opIdxRead
  | 0x06 => some opIdxWrite
  | 0x10 => some opTableLoad
  | 0x11 => some opProgLoad
  | 0x12 => some opFlashRead
  | 0x13 => some opFlashWrite
  | 0x20 => some opPloamSend
  | 0x21 => some opInject
  | 0x22 => some opCapture
  | 0x30 => some opMbakinSend
  | _ => none

/-- The oldest ACTION runs, unless one is running or its block is held. -/
def actionStep (s : State) : State :=
  match s.sys.actions with
  | [] => s
  | (_, body) :: _ =>
    if (s.session 6).load.isSome || (s.session 6).mbakin.isSome then s
    else match inboundOf body with
      | none => actionEnd (((leWords body).headD 0) / 2 ^ 16 % 256) ((leWords body).headD 0 % 2 ^ 16) (failed 2 0) s
      | some p =>
        match (if p.ver = 1 ∧ p.kind = 0 then actionOp p.opcode else none) with
        | none => actionEnd p.opcode p.tag (failed 1 0) s
        | some f => if (touches p).any (fun a => portHeld 6 a s) then s else runAs 6 p f s

/-- The ACTIONs run in order, until one stays in progress or has to wait. -/
def actionNext (s : State) : State := allOf s.sys.actions (fun _ => actionStep) s

/-! Waiting GO groups (R378): WAIT_POLL and WAIT_TIMEOUT serve the run in progress, the sessions' loads, and an ACTION's. -/

/-- The read of a waiting group's register. -/
def goRead (i : Nat) (g : GoWait) (r : LoadRun) (s : State) : LoadRun × BusRun × State :=
  let was := s.cmd.source
  let b := busRun [⟨g.ofs, none, r.done⟩] (s.setCmd { s.cmd with source := i })
  ({ r with note := if r.note.1 = 0 then b.note else r.note, accesses := r.accesses + 1 }, b,
    b.state.setCmd { b.state.cmd with source := was })

/-- The groups left, and what that frees. -/
def loadOn (i : Nat) (r : LoadRun) (s : State) : State :=
  let was := s.cmd.source
  let x := loadGroups i (r.rest.length + 1) { r with go := none } (s.setCmd { s.cmd with source := i })
  let s := x.2.2.setCmd { x.2.2.cmd with source := was }
  loadAfter i (x.1, x.2.1, s) |> drainPorts |> actionNext

/-- A waiting group has been read at its instant: it ends, stops the load, times out, or waits on. -/
def loadRead (i : Nat) (last : Bool) (g : GoWait) (r : LoadRun) (s : State) : State :=
  let (r, b, s) := goRead i g r s
  if b.stopped then loadAfter i (r, true, s) |> drainPorts |> actionNext
  else if waitHolds g.mask 0 (b.out.headD 0) then loadOn i { r with done := r.done + 1 } s
  else if last then
    loadAfter i ({ r with note := if r.note.1 = 0 then (10, 0, r.done) else r.note }, true, s) |> drainPorts |> actionNext
  else s.setSession i { s.session i with load := some { r with go := some { g with next := s.clk + 100 } } }

def loadPoll (i : Nat) (s : State) : State :=
  match (s.session i).load with
  | some r =>
    match r.go with
    | some g => if g.until_ < g.next then s else loadRead i false g r (passTo g.next s)
    | none => loadOn i r s
  | none => s

def loadTimeout (i : Nat) (s : State) : State :=
  match (s.session i).load with
  | some r =>
    match r.go with
    | some g => loadRead i true g r (passTo g.until_ s)
    | none => s
  | none => s

/-- The source a wait belongs to: a session, or the ACTION in progress. -/
def waiter (i : Fin 5) : Nat := if i = 4 then 6 else i

def execMbakinReplyTimeout (i : Fin 5) (s : State) : Host.Outcome State Fault Refusal := onIsland 223 s fun s => s |> replyTimeout (waiter i) |> onlyIf (i = 4) actionNext

/-- WAIT_POLL: of the run in progress (none), or of a load. -/
def execWaitPoll (who : Option (Fin 5)) (s : State) : Host.Outcome State Fault Refusal :=
  match who with
  | none => onIsland 225 s runPoll
  | some i => onIsland 223 s (loadPoll (waiter i))

/-- WAIT_TIMEOUT. -/
def execWaitTimeout (who : Option (Fin 5)) (s : State) : Host.Outcome State Fault Refusal :=
  match who with
  | none => onIsland 225 s runTimeout
  | some i => onIsland 223 s (loadTimeout (waiter i))

/-! Sessions and windows (R369, R370, R372). -/

/-- SESSION_OPEN: a write of SESS.CTL with EN = 1. -/
def execSessionOpen (i : Fin 4) (w : Word) (s : State) : Host.Outcome State Fault Refusal :=
  onIsland 223 s (sessCtlWrite i (w.toNat % 2 ^ 31 + 2 ^ 31))

/-- SESSION_CLOSE: a write of SESS.CTL with EN = 0. -/
def execSessionClose (i : Fin 4) (w : Word) (s : State) : Host.Outcome State Fault Refusal :=
  onIsland 223 s (sessCtlWrite i (w.toNat % 2 ^ 31))

/-- WINDOW_WRITE: the bytes of a posted write enter the FIFO of an OPEN session; one that does not fit faults it. -/
def windowWrite (i : Nat) (l : List Byte) (s : State) : State :=
  let x := s.session i
  if !tunnelUp s || x.state != .open || l.isEmpty then s
  else if 65536 < x.fifo.length + l.length then faultSession i 14 s
  else settle i (s.setSession i { x with fifo := x.fifo ++ l, lastByte := s.clk })

def execWindowWrite (i : Fin 4) (l : List Byte) (s : State) : Host.Outcome State Fault Refusal := onIsland 223 s (windowWrite i l)

/-- PACKET_TIMEOUT: the packet at the head of an idle session's FIFO has not arrived whole. -/
def packetTimeout (i : Nat) (s : State) : State :=
  let x := s.session i
  if x.idle = true ∧ x.fifo ≠ [] ∧ inboundOf x.fifo = none then
    faultSession i 15 (passTo (x.lastByte + rd CMD.CTL_PKT_TO 0 s * 1000000) s)
  else s

def execPacketTimeout (i : Fin 4) (s : State) : Host.Outcome State Fault Refusal := onIsland 223 s (packetTimeout i)

/-- HEAD_WRITE. -/
def execHeadWrite (i : Fin 4) (w : Word) (s : State) : Host.Outcome State Fault Refusal := onIsland 223 s (headWrite i w.toNat)

/-- HOST_SILENT: a response has waited for HOST_TO, in 10 ms, with HEAD unchanged. -/
def hostSilent (i : Nat) (s : State) : State :=
  let x := s.session i
  if x.state = .open ∧ x.waiting ≠ [] then
    s |> passTo (x.waitSince + rd CMD.CTL_HOST_TO 0 s * 10000000) |> closeSession i |> sessCause 13 i |> startDue
  else s

def execHostSilent (i : Fin 4) (s : State) : Host.Outcome State Fault Refusal := onIsland 223 s (hostSilent i)

/-! MMIO and single accesses (R385, R410, R415). -/

/-- The enabled bytes of a word. -/
def enabledBytes (be w : Nat) : List Byte := ((wordBytes w).zipIdx.filter fun e => maskHas be e.2).map (·.1)

/-- The offset lies in the MSI-X table or its pending bits (R410). -/
def msixStructure (ofs : Nat) : Bool := decide ((0x50000 ≤ ofs ∧ ofs < 0x50040) ∨ (0x50800 ≤ ofs ∧ ofs < 0x50808))

/-- MMIO_ACCESS: a read (none), or a write with its byte enables, of the word at an offset of BAR0. -/
def mmioAccess (ofs : Nat) (w : Option Nat) (be : Nat) (s : State) : State :=
  if !tunnelUp s then s
  else match w with
    | some v =>
      if ofs < 0x40000 then windowWrite (ofs / 0x10000) (enabledBytes be v) s
      else if be ≠ 15 ∧ msixStructure ofs = false then mmioUnmapped ofs v s
      else if be ≠ 15 then s
      else if ofs = 0x4000C then indDataAccess (some v) s
      else portAccess { src := 4, ofs := ofs, w := some v, ind := false } s
    | none =>
      if ofs = 0x4000C then indDataAccess none s else portAccess { src := 4, ofs := ofs, w := none, ind := false } s

def execMmioAccess (ofs : BitVec 24) (w : Option Word) (be : BitVec 4) (s : State) : Host.Outcome State Fault Refusal :=
  onIsland 223 s (mmioAccess ofs.toNat (w.map (·.toNat)) be.toNat)

/-- One access of a register by a session's command (0 to 3), or over MMIO (4). -/
def oneAccess (src ofs : Nat) (w : Option Nat) (s : State) : State :=
  if src = 4 then mmioAccess ofs w 15 s else portAccess { src := src, ofs := ofs, w := w, ind := false } s

/-- REGISTER_WRITE (R5, R7, R386). -/
def execRegisterWrite (src : Fin 5) (ofs : BitVec 24) (w : Word) (s : State) : Host.Outcome State Fault Refusal :=
  onIsland 223 s (oneAccess src ofs.toNat (some w.toNat))

/-- RC_COUNTER_READ (R5): the value is returned and the counter cleared. -/
def execRcCounterRead (src : Fin 5) (ofs : BitVec 24) (s : State) : Host.Outcome State Fault Refusal :=
  onIsland 223 s (oneAccess src ofs.toNat none)

end Sys2Proof.Machine
end

