-- ==== Sys2Proof/Machine/MbakinRx.lean ====
section
/-!
DEFINITION. MBAKIN_RX (13_pair_system.md, R313 to R316): the checks of a received Mbakin message and what it does.
-/

namespace Sys2Proof.Machine

/-- The sending time, ns from the PTP epoch: the seconds above bit 31 are the device's own (R313). -/
def sendingTime (m : MbakinMsg) (s : State) : Nat :=
  (ptpSec s / 2 ^ 32 * 2 ^ 32 + m.sec.toNat) * 1000000000 + m.ns.toNat

def apart (a b : Nat) : Nat := if a ≤ b then b - a else a - b

/-- SEQ is newer, modulo 65,536, than the last accepted of its source. -/
def newerSeq (m : MbakinMsg) (s : State) : Bool :=
  match Tbl.get 0 s.sys.lastSeq m.src.toNat with
  | 0 => true
  | t + 1 => let d := (m.seq.toNat + 65536 - t / 32) % 65536; decide (0 < d ∧ d < 32768)

/-- A message of its SEQ has been accepted by another port. -/
def isCopy (m : MbakinMsg) (s : State) : Bool :=
  (Tbl.get [] s.sys.taken m.src.toNat).any fun t => t / 32 == m.seq.toNat && t % 32 != m.port.val

def mbakinDrop (s : State) : State := s |> bump SYS.DROP_CNT 0 |> sysCause 2 []

/-- A HEARTBEAT's entry of the peer table (R315). -/
def peerHeard (m : MbakinMsg) (s : State) : State :=
  let p := m.src.toNat
  let fresh := decide (rdx PEER.ALIVE 0 p s = 0)
  let t := sendingTime m s
  let inPhase := decide (m.frame * 125000 ≤ t ∧ t < (m.frame + 1) * 125000) && m.frAligned
  let s := s.setSys { s.sys with heard := Tbl.set 0 s.sys.heard p (s.clk + 1) }
    |> wrx PEER.ALIVE 0 p 1 |> wrx PEER.ROLE 0 p (m.role.toNat % 8) |> wrx PEER.PAIR_ID 0 p m.pairId.toNat
    |> wrx PEER.SCORE 0 p m.score.toNat |> wrx PEER.EPOCH 0 p m.epoch.toNat |> wrx PEER.FR_OK 0 p (b2n inPhase)
  s |> onlyIf (fresh = true) (sysCause 1 [p])
    |> onlyIf (inPhase = false) (fun s => s |> bump SYS.PHASE_ERR_CNT 0 |> sysCause 8 [p])

/-- The lowest-numbered session, or else the ACTION in progress (R312), that waits for a reply of this device to a message of type `type`. -/
def waitingFor (type : Nat) (m : MbakinMsg) (s : State) : Option Nat :=
  [0, 1, 2, 3, 6].find? fun i =>
    match (s.session i).mbakin with
    | some w => w.type == type && (w.dst == none || w.dst == some m.src.toNat)
    | none => false

/-- The reply body, in whole words. -/
def replyBody (m : MbakinMsg) : List Byte :=
  let l := m.body.take m.bodyLen.toNat
  l ++ List.replicate ((4 - l.length % 4) % 4) 0

def replyTo (type : Nat) (m : MbakinMsg) (s : State) : State :=
  match waitingFor type m s with
  | some i => mbakinAnswer i { arg0 := m.type.toNat, payload := replyBody m } s
  | none => s

/-- An alive peer with the same PAIR_ID that holds the role asked for (R314). -/
def redirectTarget (m : MbakinMsg) (role : Nat) (s : State) : Option Nat :=
  (List.range 1024).find? fun p =>
    rdx PEER.ALIVE 0 p s == 1 && rdx PEER.PAIR_ID 0 p s == m.pairId.toNat && rdx PEER.ROLE 0 p s == role

/-- ROLE_MISMATCH for an ACTION relayed for the host: sent once more to the device that holds the role, or failed (R314). -/
def mismatchFor (i : Nat) (w : MbakinWait) (m : MbakinMsg) (s : State) : State :=
  let s := sysCause 6 [m.src.toNat] s
  match (if w.redirected then none else redirectTarget m w.role s) with
  | some p =>
    let s := s.setSession i { s.session i with mbakin := some { w with dst := some p, redirected := true } }
    mbakinSend 5 (some p) true false w.role (rdx PEER.EPOCH 0 p s) w.body s |> bump SYS.REDIRECT_CNT 0
  | none => s |> sysCause 7 [m.src.toNat] |> mbakinAnswer i (failed 13 0)

def roleMismatch (m : MbakinMsg) (s : State) : State :=
  match waitingFor 5 m s with
  | some i =>
    match (s.session i).mbakin with
    | some w => mismatchFor i w m s
    | none => s
  | none => replyTo 3 m s

/-- ROLE, EPOCH, PMODE, HOME (R312). -/
def roleBody (s : State) : List Byte :=
  wordsBytes [role s, rd PAR.EPOCH 0 s, rd PAR.CTL_PMODE 0 s, rd PAR.CTL_HOME 0 s]

/-- What an accepted message asks for. -/
def mbakinAct (m : MbakinMsg) (s : State) : State :=
  let src := m.src.toNat
  match m.type.toNat with
  | 1 => peerHeard m s
  | 3 => mbakinSend 4 (some src) false true 0xFF 0 (roleBody s) s
  | 4 => replyTo 3 m s |> actionNext
  | 5 => actionNext (s.setSys { s.sys with actions := s.sys.actions ++ [(src, m.body.take m.bodyLen.toNat)] })
  | 6 => replyTo 5 m s |> actionNext
  | 7 => roleMismatch m s |> actionNext
  | _ => s

/-- The message is named for another role or epoch (R314). -/
def wrongRole (m : MbakinMsg) (s : State) : Bool :=
  m.expRole.toNat != 0xFF &&
    !(role s == m.expRole.toNat && (m.expEpoch.toNat == 0 || m.expEpoch.toNat == rd PAR.EPOCH 0 s))

/-- A message that has passed R313. -/
def mbakinAccept (m : MbakinMsg) (s : State) : State :=
  let src := m.src.toNat
  let t := m.seq.toNat * 32 + m.port
  let s := s.setSys { s.sys with
      lastSeq := Tbl.set 0 s.sys.lastSeq src (t + 1)
      taken := Tbl.set [] s.sys.taken src (t :: (Tbl.get [] s.sys.taken src).filter fun x => x / 32 != m.seq.toNat) } |> bump SYS.RX_CNT 0
  if wrongRole m s then
    if m.type = 1 then s
    else
      s |> mbakinSend 7 (some src) false true 0xFF 0 (wordsBytes [role s, rd PAR.EPOCH 0 s]) |> bump SYS.MISMATCH_TX_CNT 0
        |> sysCause 5 [src]
  else mbakinAct m s

/-- The checks of R313 in their order. -/
def mbakinRx (m : MbakinMsg) (s : State) : State :=
  if s.nvm.devnum = none then bump SYS.DROP_CNT 0 s
  else if on SYS.CTL_EN 0 s = false then s
  else if m.ver ≠ 1 ∨ m.type = 0 ∨ 7 < m.type.toNat ∨ 1400 < m.bodyLen.toNat ∨ m.body.length < m.bodyLen.toNat then mbakinDrop s
  else if m.dst ≠ none ∧ m.dst.map (·.toNat) ≠ s.nvm.devnum then mbakinDrop s
  else if m.macOk = false then s |> bump SYS.MAC_ERR_CNT 0 |> sysCause 3 [] |> mbakinDrop
  else if rd SYS.TOL_TIME_TOL 0 s * 1000000 < apart (sendingTime m s) s.ptp then mbakinDrop s
  else if newerSeq m s = false then (if isCopy m s then sysCause 2 [] s else mbakinDrop s)
  else if some m.src.toNat = s.nvm.devnum then s |> bump SYS.DROP_CNT 0 |> sysCause 4 [m.src.toNat]
  else mbakinAccept m s

/-- MBAKIN_RX: the oldest frame of its port handed to system messaging, if one waits (R173). -/
def execMbakinRx (m : MbakinMsg) (s : State) : Host.Outcome State Fault Refusal :=
  onIsland 223 s fun s => mbakinRx m { s with sys := { s.sys with inbox := s.sys.inbox.eraseP fun f => f.1 == m.port } }

end Sys2Proof.Machine
end

