-- ==== Sys2Proof/Machine/Dispatch.lean ====
section
/-!
DEFINITION. What each command does: one arm per constructor, one meaning per arm.
-/

namespace Sys2Proof.Machine

def exec (i : Instr) (s : State) : Host.Outcome State Fault Refusal :=
  match i with
  | .txModeRun n => Sys2Proof.Machine.execTxModeRun n s
  | .txExitComplete n => Sys2Proof.Machine.execTxExitComplete n s
  | .txModeIdle n => Sys2Proof.Machine.execTxModeIdle n s
  | .txPllUnlock n => Sys2Proof.Machine.execTxPllUnlock n s
  | .txdisForceWrite n v => Sys2Proof.Machine.execTxdisForceWrite n v s
  | .presetDataAccess n w => Sys2Proof.Machine.execPresetDataAccess n w s
  | .selectionSend n => Sys2Proof.Machine.execSelectionSend n s
  | .presetSelection n lead => Sys2Proof.Machine.execPresetSelection n lead s
  | .selectionLoad n => Sys2Proof.Machine.execSelectionLoad n s
  | .missingSelectionWindow n => Sys2Proof.Machine.execMissingSelectionWindow n s
  | .windowClose n phase beaten next => Sys2Proof.Machine.execWindowClose n phase beaten next s
  | .windowEnergyMiss n => Sys2Proof.Machine.execWindowEnergyMiss n s
  | .lockDeclared n ui => Sys2Proof.Machine.execLockDeclared n ui s
  | .lockFail n => Sys2Proof.Machine.execLockFail n s
  | .lockLost n => Sys2Proof.Machine.execLockLost n s
  | .lolDeclare n => Sys2Proof.Machine.execLolDeclare n s
  | .lolClear n => Sys2Proof.Machine.execLolClear n s
  | .losDeclare n => Sys2Proof.Machine.execLosDeclare n s
  | .modulePresenceChange n present => Sys2Proof.Machine.execModulePresenceChange n present s
  | .treeSdChange n level samples => Sys2Proof.Machine.execTreeSdChange n level samples s
  | .chatterDeclare n => Sys2Proof.Machine.execChatterDeclare n s
  | .chatterClear n => Sys2Proof.Machine.execChatterClear n s
  | .sdRogue n => Sys2Proof.Machine.execSdRogue n s
  | .testModeWrite n mode pattern => Sys2Proof.Machine.execTestModeWrite n mode pattern s
  | .testSlip n => Sys2Proof.Machine.execTestSlip n s
  | .prbsLockGain n => Sys2Proof.Machine.execPrbsLockGain n s
  | .prbsLockLoss n errs => Sys2Proof.Machine.execPrbsLockLoss n errs s
  | .fsHeaderBuild n => Sys2Proof.Machine.execFsHeaderBuild n s
  | .mapDeadline n => Sys2Proof.Machine.execMapDeadline n s
  | .frameStart n => Sys2Proof.Machine.execFrameStart n s
  | .encoderSlot k => Sys2Proof.Machine.execEncoderSlot k s
  | .codewordUnderrun n => Sys2Proof.Machine.execCodewordUnderrun n s
  | .fecEnWrite n v => Sys2Proof.Machine.execFecEnWrite n v s
  | .dsEnWrite n v => Sys2Proof.Machine.execDsEnWrite n v s
  | .ponidHiWrite n v => Sys2Proof.Machine.execPonidHiWrite n v s
  | .sfcLoRead n => Sys2Proof.Machine.execSfcLoRead n s
  | .delimiterAccept n ofs => Sys2Proof.Machine.execDelimiterAccept n ofs s
  | .delimiterMiss n => Sys2Proof.Machine.execDelimiterMiss n s
  | .burstOverrun n => Sys2Proof.Machine.execBurstOverrun n s
  | .codewordQueued n bits first last => Sys2Proof.Machine.execCodewordQueued n bits first last s
  | .decoderDispatch => Sys2Proof.Machine.execDecoderDispatch s
  | .kvCheckDone j pass => Sys2Proof.Machine.execKvCheckDone j pass s
  | .codewordDecoded src r => Sys2Proof.Machine.execCodewordDecoded src r s
  | .codewordAgeDiscard => Sys2Proof.Machine.execCodewordAgeDiscard s
  | .decEnWrite j v => Sys2Proof.Machine.execDecEnWrite j v s
  | .reasmTimeout n port => Sys2Proof.Machine.execReasmTimeout n port s
  | .degWindowTimeout n t => Sys2Proof.Machine.execDegWindowTimeout n t s
  | .degDeclare n t => Sys2Proof.Machine.execDegDeclare n t s
  | .degClear n t => Sys2Proof.Machine.execDegClear n t s
  | .degCfgWrite n w => Sys2Proof.Machine.execDegCfgWrite n w s
  | .degEnClear n => Sys2Proof.Machine.execDegEnClear n s
  | .serialNumberOnu n r => Sys2Proof.Machine.execSerialNumberOnu n r s
  | .registration n t a start => Sys2Proof.Machine.execRegistration n t a start s
  | .rangingTimeout n t => Sys2Proof.Machine.execRangingTimeout n t s
  | .lobDeclare n t => Sys2Proof.Machine.execLobDeclare n t s
  | .lobHoldExpiry n t => Sys2Proof.Machine.execLobHoldExpiry n t s
  | .dyingGasp n t => Sys2Proof.Machine.execDyingGasp n t s
  | .tcmdDeactivate n t => Sys2Proof.Machine.execTcmdDeactivate n t s
  | .tcmdDisable n t => Sys2Proof.Machine.execTcmdDisable n t s
  | .tcmdEnable n t => Sys2Proof.Machine.execTcmdEnable n t s
  | .tcmdReRange n t => Sys2Proof.Machine.execTcmdReRange n t s
  | .tcmdEnableAll n t => Sys2Proof.Machine.execTcmdEnableAll n t s
  | .ploamUpstream n t kind ok body => Sys2Proof.Machine.execPloamUpstream n t kind ok body s
  | .ploamKeyCommit n w => Sys2Proof.Machine.execPloamKeyCommit n w s
  | .todRequest n v => Sys2Proof.Machine.execTodRequest n v s
  | .todDone n => Sys2Proof.Machine.execTodDone n s
  | .rogueCriterion n crit => Sys2Proof.Machine.execRogueCriterion n crit s
  | .smokerObserve n judged seen => Sys2Proof.Machine.execSmokerObserve n judged seen s
  | .smokerStop n => Sys2Proof.Machine.execSmokerStop n s
  | .combClose n => Sys2Proof.Machine.execCombClose n s
  | .cellDataWrite n w => Sys2Proof.Machine.execCellDataWrite n w s
  | .witCfgWrite n long start => Sys2Proof.Machine.execWitCfgWrite n long start s
  | .allocContextCommit n w => Sys2Proof.Machine.execAllocContextCommit n w s
  | .mirrorDelta n d crcOk => Sys2Proof.Machine.execMirrorDelta n d crcOk s
  | .mirrorCloseMarker n => Sys2Proof.Machine.execMirrorCloseMarker n s
  | .add k t => Sys2Proof.Machine.execAdd k t s
  | .sub k t => Sys2Proof.Machine.execSub k t s
  | .and k t => Sys2Proof.Machine.execAnd k t s
  | .or k t => Sys2Proof.Machine.execOr k t s
  | .xor k t => Sys2Proof.Machine.execXor k t s
  | .shl k t => Sys2Proof.Machine.execShl k t s
  | .shr k t => Sys2Proof.Machine.execShr k t s
  | .minu k t => Sys2Proof.Machine.execMinu k t s
  | .maxu k t => Sys2Proof.Machine.execMaxu k t s
  | .sltu k t => Sys2Proof.Machine.execSltu k t s
  | .mul k t => Sys2Proof.Machine.execMul k t s
  | .addi k t => Sys2Proof.Machine.execAddi k t s
  | .andi k t => Sys2Proof.Machine.execAndi k t s
  | .ori k t => Sys2Proof.Machine.execOri k t s
  | .xori k t => Sys2Proof.Machine.execXori k t s
  | .shli k t => Sys2Proof.Machine.execShli k t s
  | .shri k t => Sys2Proof.Machine.execShri k t s
  | .lui k t => Sys2Proof.Machine.execLui k t s
  | .sltui k t => Sys2Proof.Machine.execSltui k t s
  | .ld k t => Sys2Proof.Machine.execLd k t s
  | .st k t => Sys2Proof.Machine.execSt k t s
  | .amadd k t => Sys2Proof.Machine.execAmadd k t s
  | .beq k t => Sys2Proof.Machine.execBeq k t s
  | .bne k t => Sys2Proof.Machine.execBne k t s
  | .bltu k t => Sys2Proof.Machine.execBltu k t s
  | .bgeu k t => Sys2Proof.Machine.execBgeu k t s
  | .bst k t => Sys2Proof.Machine.execBst k t s
  | .bstn k t => Sys2Proof.Machine.execBstn k t s
  | .jmp k t => Sys2Proof.Machine.execJmp k t s
  | .jal k t => Sys2Proof.Machine.execJal k t s
  | .jr k t => Sys2Proof.Machine.execJr k t s
  | .illegalInstruction k t => Sys2Proof.Machine.execIllegalInstruction k t s
  | .popr k t => Sys2Proof.Machine.execPopr k t s
  | .popa k t => Sys2Proof.Machine.execPopa k t s
  | .wfe k t => Sys2Proof.Machine.execWfe k t s
  | .threadWake k t => Sys2Proof.Machine.execThreadWake k t s
  | .cwr k t race => Sys2Proof.Machine.execCwr k t race s
  | .crd k t => Sys2Proof.Machine.execCrd k t s
  | .plf k t lost => Sys2Proof.Machine.execPlf k t lost s
  | .dur k t => Sys2Proof.Machine.execDur k t s
  | .ctxr k t => Sys2Proof.Machine.execCtxr k t s
  | .ctxw k t lost => Sys2Proof.Machine.execCtxw k t lost s
  | .tbu k t lost => Sys2Proof.Machine.execTbu k t lost s
  | .pls k t => Sys2Proof.Machine.execPls k t s
  | .emp k t => Sys2Proof.Machine.execEmp k t s
  | .evr k t => Sys2Proof.Machine.execEvr k t s
  | .frm k t => Sys2Proof.Machine.execFrm k t s
  | .tickEvent k => Sys2Proof.Machine.execTickEvent k s
  | .watchdogFault k t => Sys2Proof.Machine.execWatchdogFault k t s
  | .threadEnable k t => Sys2Proof.Machine.execThreadEnable k t s
  | .threadDisable k t => Sys2Proof.Machine.execThreadDisable k t s
  | .thrRegionWrite k t w => Sys2Proof.Machine.execThrRegionWrite k t w s
  | .handoverRequest k t => Sys2Proof.Machine.execHandoverRequest k t s
  | .mailboxWrite k t w => Sys2Proof.Machine.execMailboxWrite k t w s
  | .imemWrite k w => Sys2Proof.Machine.execImemWrite k w s
  | .dmemWrite k w => Sys2Proof.Machine.execDmemWrite k w s
  | .ctxDataWrite k w => Sys2Proof.Machine.execCtxDataWrite k w s
  | .traceCtlWrite k w => Sys2Proof.Machine.execTraceCtlWrite k w s
  | .traceFull k => Sys2Proof.Machine.execTraceFull k s
  | .crlBind dir n l => Sys2Proof.Machine.execCrlBind dir n l s
  | .crlUnbind dir n l => Sys2Proof.Machine.execCrlUnbind dir n l s
  | .crlBuild n l ofs => Sys2Proof.Machine.execCrlBuild n l ofs s
  | .crlContainerDeadline n l => Sys2Proof.Machine.execCrlContainerDeadline n l s
  | .crlContainerRx n l c => Sys2Proof.Machine.execCrlContainerRx n l c s
  | .crlContainerMissing n l => Sys2Proof.Machine.execCrlContainerMissing n l s
  | .crlSyncEnter n l => Sys2Proof.Machine.execCrlSyncEnter n l s
  | .crlSyncLeave n l => Sys2Proof.Machine.execCrlSyncLeave n l s
  | .labelAccept n l => Sys2Proof.Machine.execLabelAccept n l s
  | .crlPacketEmit n l => Sys2Proof.Machine.execCrlPacketEmit n l s
  | .roePacketRx n l flow len pt => Sys2Proof.Machine.execRoePacketRx n l flow len pt s
  | .roePacketPresent n l => Sys2Proof.Machine.execRoePacketPresent n l s
  | .ohpPeriod p words => Sys2Proof.Machine.execOhpPeriod p words s
  | .ohpChannelWrite p w => Sys2Proof.Machine.execOhpChannelWrite p w s
  | .crlLaneWrite w => Sys2Proof.Machine.execCrlLaneWrite w s
  | .clsFrame k f => Sys2Proof.Machine.execClsFrame k f s
  | .clsSecondSlot k => Sys2Proof.Machine.execClsSecondSlot k s
  | .learnApply k => Sys2Proof.Machine.execLearnApply k s
  | .relocationClear k => Sys2Proof.Machine.execRelocationClear k s
  | .merge => Sys2Proof.Machine.execMerge s
  | .conditionalClear k => Sys2Proof.Machine.execConditionalClear k s
  | .agingVisit k hits => Sys2Proof.Machine.execAgingVisit k hits s
  | .emInsert k slot => Sys2Proof.Machine.execEmInsert k slot s
  | .emDelete k slot => Sys2Proof.Machine.execEmDelete k slot s
  | .emSearch k slot => Sys2Proof.Machine.execEmSearch k slot s
  | .emReadSlot k slot => Sys2Proof.Machine.execEmReadSlot k slot s
  | .emFlushLearned k slot => Sys2Proof.Machine.execEmFlushLearned k slot s
  | .emFlushTree k slot => Sys2Proof.Machine.execEmFlushTree k slot s
  | .emCmdDone k => Sys2Proof.Machine.execEmCmdDone k s
  | .lpmAdd => Sys2Proof.Machine.execLpmAdd s
  | .lpmDelete => Sys2Proof.Machine.execLpmDelete s
  | .lpmFlushV4 => Sys2Proof.Machine.execLpmFlushV4 s
  | .lpmFlushV6 => Sys2Proof.Machine.execLpmFlushV6 s
  | .lpmCmdDone => Sys2Proof.Machine.execLpmCmdDone s
  | .hashSeedWrite k no w => Sys2Proof.Machine.execHashSeedWrite k no w s
  | .tableEntryCommit k w => Sys2Proof.Machine.execTableEntryCommit k w s
  | .alloc r control len count holders => Sys2Proof.Machine.execAlloc r control len count holders s
  | .share r h n dst => Sys2Proof.Machine.execShare r h n dst s
  | .free r h => Sys2Proof.Machine.execFree r h s
  | .transfer r h dst => Sys2Proof.Machine.execTransfer r h dst s
  | .bufferArbitration => Sys2Proof.Machine.execBufferArbitration s
  | .bufferAccess r h ofs len data ecc => Sys2Proof.Machine.execBufferAccess r h ofs len data ecc s
  | .poolLock => Sys2Proof.Machine.execPoolLock s
  | .freeListDone => Sys2Proof.Machine.execFreeListDone s
  | .quotaCommit w => Sys2Proof.Machine.execQuotaCommit w s
  | .reclaimDone => Sys2Proof.Machine.execReclaimDone s
  | .descSnapshot h => Sys2Proof.Machine.execDescSnapshot h s
  | .hbmTempSample st t => Sys2Proof.Machine.execHbmTempSample st t s
  | .hbmPhyTrainLoss st => Sys2Proof.Machine.execHbmPhyTrainLoss st s
  | .hbmRetrainDone st => Sys2Proof.Machine.execHbmRetrainDone st s
  | .tmdEnqueue n port h len => Sys2Proof.Machine.execTmdEnqueue n port h len s
  | .tmdDequeueOffer n => Sys2Proof.Machine.execTmdDequeueOffer n s
  | .tmdFrameTaken n err => Sys2Proof.Machine.execTmdFrameTaken n err s
  | .nofragReturn n => Sys2Proof.Machine.execNofragReturn n s
  | .treeDead n => Sys2Proof.Machine.execTreeDead n s
  | .tmuEnqueue p k h len m => Sys2Proof.Machine.execTmuEnqueue p k h len m s
  | .tmuTxDecision p err => Sys2Proof.Machine.execTmuTxDecision p err s
  | .gateEvent p => Sys2Proof.Machine.execGateEvent p s
  | .preemptCut p => Sys2Proof.Machine.execPreemptCut p s
  | .gateChangeRequest p w => Sys2Proof.Machine.execGateChangeRequest p w s
  | .gateListChange p => Sys2Proof.Machine.execGateListChange p s
  | .cutThroughOffer p g c h len => Sys2Proof.Machine.execCutThroughOffer p g c h len s
  | .nodeWrite m w => Sys2Proof.Machine.execNodeWrite m w s
  | .shaperWrite m w => Sys2Proof.Machine.execShaperWrite m w s
  | .cipherDsSdu n port len ofs bytes => Sys2Proof.Machine.execCipherDsSdu n port len ofs bytes s
  | .cipherUsSdu n ki frame index whole tagOk micOk bytes => Sys2Proof.Machine.execCipherUsSdu n ki frame index whole tagOk micOk bytes s
  | .ctTagCheck ok => Sys2Proof.Machine.execCtTagCheck ok s
  | .invocationWarning d f => Sys2Proof.Machine.execInvocationWarning d f s
  | .flowHold d f => Sys2Proof.Machine.execFlowHold d f s
  | .flowKeyCommit d w => Sys2Proof.Machine.execFlowKeyCommit d w s
  | .terminalKeyCommit d w => Sys2Proof.Machine.execTerminalKeyCommit d w s
  | .ringKeyCommit d w => Sys2Proof.Machine.execRingKeyCommit d w s
  | .rekeyTerminalSwitch d n t => Sys2Proof.Machine.execRekeyTerminalSwitch d n t s
  | .rekeyFlowSwitch d f => Sys2Proof.Machine.execRekeyFlowSwitch d f s
  | .rekeyLoadRing d f => Sys2Proof.Machine.execRekeyLoadRing d f s
  | .rekeyClearSlot d f => Sys2Proof.Machine.execRekeyClearSlot d f s
  | .oldSlotExpiry d f => Sys2Proof.Machine.execOldSlotExpiry d f s
  | .flowWrite d w => Sys2Proof.Machine.execFlowWrite d w s
  | .cipherPortWrite d w => Sys2Proof.Machine.execCipherPortWrite d w s
  | .portCfgWrite n w => Sys2Proof.Machine.execPortCfgWrite n w s
  | .anComplete n => Sys2Proof.Machine.execAnComplete n s
  | .linkUp n => Sys2Proof.Machine.execLinkUp n s
  | .ltTimeout n => Sys2Proof.Machine.execLtTimeout n s
  | .ltSignalLoss n => Sys2Proof.Machine.execLtSignalLoss n s
  | .backoffEnd n => Sys2Proof.Machine.execBackoffEnd n s
  | .linkDown n localFault => Sys2Proof.Machine.execLinkDown n localFault s
  | .remoteFault n => Sys2Proof.Machine.execRemoteFault n s
  | .fecWindow n corr uncorr sym => Sys2Proof.Machine.execFecWindow n corr uncorr sym s
  | .verifyResponse n => Sys2Proof.Machine.execVerifyResponse n s
  | .verifyTimeout n => Sys2Proof.Machine.execVerifyTimeout n s
  | .netFrameRx n hdr bytes fcsOk => Sys2Proof.Machine.execNetFrameRx n hdr bytes fcsOk s
  | .referenceUpdate err => Sys2Proof.Machine.execReferenceUpdate err s
  | .timLocked => Sys2Proof.Machine.execTimLocked s
  | .timUnlock => Sys2Proof.Machine.execTimUnlock s
  | .sourceLoss src err => Sys2Proof.Machine.execSourceLoss src err s
  | .sourceReturn err => Sys2Proof.Machine.execSourceReturn err s
  | .refclkCheck ok => Sys2Proof.Machine.execRefclkCheck ok s
  | .ppsEdge held => Sys2Proof.Machine.execPpsEdge held s
  | .ppsLost => Sys2Proof.Machine.execPpsLost s
  | .todMessage bytes => Sys2Proof.Machine.execTodMessage bytes s
  | .ppsQualified => Sys2Proof.Machine.execPpsQualified s
  | .adjOffset => Sys2Proof.Machine.execAdjOffset s
  | .adjSetTime => Sys2Proof.Machine.execAdjSetTime s
  | .setTimeApply => Sys2Proof.Machine.execSetTimeApply s
  | .adjRealign => Sys2Proof.Machine.execAdjRealign s
  | .realignCut => Sys2Proof.Machine.execRealignCut s
  | .frameTimebaseAligned => Sys2Proof.Machine.execFrameTimebaseAligned s
  | .adjFreqWrite w => Sys2Proof.Machine.execAdjFreqWrite w s
  | .ppsOutPulse => Sys2Proof.Machine.execPpsOutPulse s
  | .ptpMessageRx n m => Sys2Proof.Machine.execPtpMessageRx n m s
  | .ptpQualLoss n => Sys2Proof.Machine.execPtpQualLoss n s
  | .txtsRead p => Sys2Proof.Machine.execTxtsRead p s
  | .sentinelTimeCopy => Sys2Proof.Machine.execSentinelTimeCopy s
  | .heartbeatRx h => Sys2Proof.Machine.execHeartbeatRx h s
  | .heartbeatMiss => Sys2Proof.Machine.execHeartbeatMiss s
  | .partnerLinkDown => Sys2Proof.Machine.execPartnerLinkDown s
  | .partnerLinkUp => Sys2Proof.Machine.execPartnerLinkUp s
  | .p0LockLoss => Sys2Proof.Machine.execP0LockLoss s
  | .p1Loss trees => Sys2Proof.Machine.execP1Loss trees s
  | .bulkCopyDone => Sys2Proof.Machine.execBulkCopyDone s
  | .upstreamFrameJudge light => Sys2Proof.Machine.execUpstreamFrameJudge light s
  | .ofsValid n ofs => Sys2Proof.Machine.execOfsValid n ofs s
  | .healthEval enc lane => Sys2Proof.Machine.execHealthEval enc lane s
  | .healthReport => Sys2Proof.Machine.execHealthReport s
  | .yield => Sys2Proof.Machine.execYield s
  | .switchRx k => Sys2Proof.Machine.execSwitchRx k s
  | .ackRx => Sys2Proof.Machine.execAckRx s
  | .nakRx => Sys2Proof.Machine.execNakRx s
  | .commitRx => Sys2Proof.Machine.execCommitRx s
  | .switchoverExecute => Sys2Proof.Machine.execSwitchoverExecute s
  | .switchAbort => Sys2Proof.Machine.execSwitchAbort s
  | .commitTimeout => Sys2Proof.Machine.execCommitTimeout s
  | .releasedRx epoch => Sys2Proof.Machine.execReleasedRx epoch s
  | .returnSend => Sys2Proof.Machine.execReturnSend s
  | .returnRx => Sys2Proof.Machine.execReturnRx s
  | .linkDownRoleChange => Sys2Proof.Machine.execLinkDownRoleChange s
  | .startupExpiry => Sys2Proof.Machine.execStartupExpiry s
  | .sentinelFeedLoss f => Sys2Proof.Machine.execSentinelFeedLoss f s
  | .sentinelFeedReturn f => Sys2Proof.Machine.execSentinelFeedReturn f s
  | .coreFeedLoss => Sys2Proof.Machine.execCoreFeedLoss s
  | .coreFeedReturn => Sys2Proof.Machine.execCoreFeedReturn s
  | .roleSwitchOver => Sys2Proof.Machine.execRoleSwitchOver s
  | .roleEnterTest => Sys2Proof.Machine.execRoleEnterTest s
  | .roleLeaveTest => Sys2Proof.Machine.execRoleLeaveTest s
  | .roleRejoin => Sys2Proof.Machine.execRoleRejoin s
  | .mbakinHeartbeatSend => Sys2Proof.Machine.execMbakinHeartbeatSend s
  | .mbakinRx m => Sys2Proof.Machine.execMbakinRx m s
  | .peerLost p => Sys2Proof.Machine.execPeerLost p s
  | .sysCtlWrite w => Sys2Proof.Machine.execSysCtlWrite w s
  | .sysKeyCommit w => Sys2Proof.Machine.execSysKeyCommit w s
  | .powerOn a b => Sys2Proof.Machine.execPowerOn a b s
  | .fuseMapLatch => Sys2Proof.Machine.execFuseMapLatch s
  | .resetNPulse width taken => Sys2Proof.Machine.execResetNPulse width taken s
  | .rstWarm => Sys2Proof.Machine.execRstWarm s
  | .rstBlock no => Sys2Proof.Machine.execRstBlock no s
  | .rstReleaseHeld no => Sys2Proof.Machine.execRstReleaseHeld no s
  | .rstCold => Sys2Proof.Machine.execRstCold s
  | .islandRelease no f => Sys2Proof.Machine.execIslandRelease no f s
  | .phaseStall no => Sys2Proof.Machine.execPhaseStall no s
  | .clockGoodDrop no pll f => Sys2Proof.Machine.execClockGoodDrop no pll f s
  | .ioRailLoss => Sys2Proof.Machine.execIoRailLoss s
  | .ioRailReturn => Sys2Proof.Machine.execIoRailReturn s
  | .pinOverride w => Sys2Proof.Machine.execPinOverride w s
  | .thermalSample t => Sys2Proof.Machine.execThermalSample t s
  | .thermalTrip => Sys2Proof.Machine.execThermalTrip s
  | .otpShadowLoaded => Sys2Proof.Machine.execOtpShadowLoaded s
  | .flashDiscoveryDone good => Sys2Proof.Machine.execFlashDiscoveryDone good s
  | .slotCheckDone => Sys2Proof.Machine.execSlotCheckDone s
  | .runApply => Sys2Proof.Machine.execRunApply s
  | .recordWrite => Sys2Proof.Machine.execRecordWrite s
  | .recordStream => Sys2Proof.Machine.execRecordStream s
  | .recordModify => Sys2Proof.Machine.execRecordModify s
  | .recordWait => Sys2Proof.Machine.execRecordWait s
  | .waitPoll who => Sys2Proof.Machine.execWaitPoll who s
  | .waitTimeout who => Sys2Proof.Machine.execWaitTimeout who s
  | .recordKey => Sys2Proof.Machine.execRecordKey s
  | .recordTable => Sys2Proof.Machine.execRecordTable s
  | .recordEnd => Sys2Proof.Machine.execRecordEnd s
  | .nvmRead addr len => Sys2Proof.Machine.execNvmRead addr len s
  | .nvmProgram addr len => Sys2Proof.Machine.execNvmProgram addr len s
  | .nvmErase addr => Sys2Proof.Machine.execNvmErase addr s
  | .nvmCheck slot => Sys2Proof.Machine.execNvmCheck slot s
  | .nvmBoot => Sys2Proof.Machine.execNvmBoot s
  | .flashOpDone => Sys2Proof.Machine.execFlashOpDone s
  | .flashTimeout => Sys2Proof.Machine.execFlashTimeout s
  | .otpProgramSettings => Sys2Proof.Machine.execOtpProgramSettings s
  | .otpProgramKey arg => Sys2Proof.Machine.execOtpProgramKey arg s
  | .otpProgramDevnum => Sys2Proof.Machine.execOtpProgramDevnum s
  | .otpAdvanceArb arg => Sys2Proof.Machine.execOtpAdvanceArb arg s
  | .otpProgramPin pin => Sys2Proof.Machine.execOtpProgramPin pin s
  | .otpWordProgrammed ok => Sys2Proof.Machine.execOtpWordProgrammed ok s
  | .usb4LinkUp gen4 => Sys2Proof.Machine.execUsb4LinkUp gen4 s
  | .usb4LinkRefused => Sys2Proof.Machine.execUsb4LinkRefused s
  | .usb4EnWrite v => Sys2Proof.Machine.execUsb4EnWrite v s
  | .tunnelLoss down => Sys2Proof.Machine.execTunnelLoss down s
  | .sessionOpen no w => Sys2Proof.Machine.execSessionOpen no w s
  | .sessionClose no w => Sys2Proof.Machine.execSessionClose no w s
  | .windowWrite no l => Sys2Proof.Machine.execWindowWrite no l s
  | .packetTimeout no => Sys2Proof.Machine.execPacketTimeout no s
  | .headWrite no w => Sys2Proof.Machine.execHeadWrite no w s
  | .hostSilent no => Sys2Proof.Machine.execHostSilent no s
  | .unlistedOpcode no => Sys2Proof.Machine.execUnlistedOpcode no s
  | .echo no => Sys2Proof.Machine.execEcho no s
  | .regRead no => Sys2Proof.Machine.execRegRead no s
  | .regWrite no => Sys2Proof.Machine.execRegWrite no s
  | .regModify no => Sys2Proof.Machine.execRegModify no s
  | .idxRead no => Sys2Proof.Machine.execIdxRead no s
  | .idxWrite no => Sys2Proof.Machine.execIdxWrite no s
  | .tableLoad no => Sys2Proof.Machine.execTableLoad no s
  | .progLoad no => Sys2Proof.Machine.execProgLoad no s
  | .flashRead no => Sys2Proof.Machine.execFlashRead no s
  | .flashWrite no => Sys2Proof.Machine.execFlashWrite no s
  | .ploamSend no => Sys2Proof.Machine.execPloamSend no s
  | .inject no => Sys2Proof.Machine.execInject no s
  | .capture no => Sys2Proof.Machine.execCapture no s
  | .mbakinSend no => Sys2Proof.Machine.execMbakinSend no s
  | .mbakinReplyTimeout no => Sys2Proof.Machine.execMbakinReplyTimeout no s
  | .privChallenge => Sys2Proof.Machine.execPrivChallenge s
  | .privProve => Sys2Proof.Machine.execPrivProve s
  | .privDrop => Sys2Proof.Machine.execPrivDrop s
  | .lockoutExpiry => Sys2Proof.Machine.execLockoutExpiry s
  | .mmioAccess ofs w be => Sys2Proof.Machine.execMmioAccess ofs w be s
  | .indDataAccess w => Sys2Proof.Machine.execIndDataAccess w s
  | .registerWrite src ofs w => Sys2Proof.Machine.execRegisterWrite src ofs w s
  | .rcCounterRead src ofs => Sys2Proof.Machine.execRcCounterRead src ofs s
  | .causeRaise src bit d0 d1 d2 => Sys2Proof.Machine.execCauseRaise src bit d0 d1 d2 s
  | .countDelivery src => Sys2Proof.Machine.execCountDelivery src s
  | .holdoffEnd src => Sys2Proof.Machine.execHoldoffEnd src s
  | .dlvEnable => Sys2Proof.Machine.execDlvEnable s
  | .eventEnWrite src w => Sys2Proof.Machine.execEventEnWrite src w s
  | .causeW1c src w => Sys2Proof.Machine.execCauseW1c src w s
  | .captureRelease src => Sys2Proof.Machine.execCaptureRelease src s
  | .pinPulseEnd p => Sys2Proof.Machine.execPinPulseEnd p s
  | .pmuWrap no => Sys2Proof.Machine.execPmuWrap no s
  | .pmuWindowEnd no => Sys2Proof.Machine.execPmuWindowEnd no s
  | .pmuSnap => Sys2Proof.Machine.execPmuSnap s
  | .valLoRead no => Sys2Proof.Machine.execValLoRead no s
  | .pmuValWrite no w => Sys2Proof.Machine.execPmuValWrite no w s
  | .pmuCfgWrite no arg w => Sys2Proof.Machine.execPmuCfgWrite no arg w s
  | .shaperRecovery m level t idx => Sys2Proof.Machine.execShaperRecovery m level t idx s
  | .memoryScrubPass l => Sys2Proof.Machine.execMemoryScrubPass l s
  | .netLaneSignalChange n sig cdr => Sys2Proof.Machine.execNetLaneSignalChange n sig cdr s
  | .coreFeedRangeChange out => Sys2Proof.Machine.execCoreFeedRangeChange out s
  | .ppsOutFall => Sys2Proof.Machine.execPpsOutFall s
  | .hbmPhyTrained st ok => Sys2Proof.Machine.execHbmPhyTrained st ok s

end Sys2Proof.Machine
end

