-- ==== Sys2Proof/Machine/Step.lean ====
section
/-!
DEFINITION. A step: the command at the front of the queue, or a tick while none waits.
-/

namespace Sys2Proof.Machine

/-- A step on an empty queue: 1 ns passes, and an event relay that waits is sent (DESIGN CHOICE, log entry 2). -/
def idle (s : State) : State := relaySend (pass 1 s)

/-- The command at the front of the queue acts on the rest. -/
def step (s : State) : Host.Outcome State Fault Refusal :=
  match s.pending with
  | [] => .next (idle s)
  | i :: rest => exec i { s with pending := rest }

/-- The command a word spells, in front of the queue. -/
def State.withFetchWord (s : State) (nbits w : Nat) : State :=
  match decodeTableWord nbits w with
  | some i => { s with pending := i :: s.pending }
  | none => s

end Sys2Proof.Machine
end

