-- ==== Sys2Proof/Safety.lean ====
section
/-!
DEFINITION. What a sound state is and what a command may touch, in the terms statements use.
-/

namespace Sys2Proof.Machine

/-- The register and table words are held in their canonical form: keys strictly rising, no word listed at its reset value. -/
def State.canonical (s : State) : Bool := Store.wf s.mem && Store.wf s.ev.mem

/-- The parts of the state, one a field. -/
inductive Part where
  | mem | ev | sess | pmu | clk | ptp | ptpFrac | freeCount | islands | wrapped | rst | cmd | bpm | lanes | framing
  | pool | encoders | act | terms | grt | clusters | threads | queues | crl | ohp | cipher | upSdus | txts | tim
  | cls | lpm | merge | ports | pair | sys | nvm | pending
  deriving DecidableEq, Repr

/-- A part reads the same in two states. -/
def Part.same : Part → State → State → Prop
  | .mem, s, t => t.mem = s.mem
  | .ev, s, t => t.ev = s.ev
  | .sess, s, t => t.sess = s.sess
  | .pmu, s, t => t.pmu = s.pmu
  | .clk, s, t => t.clk = s.clk
  | .ptp, s, t => t.ptp = s.ptp
  | .ptpFrac, s, t => t.ptpFrac = s.ptpFrac
  | .freeCount, s, t => t.freeCount = s.freeCount
  | .islands, s, t => t.islands = s.islands
  | .wrapped, s, t => t.wrapped = s.wrapped
  | .rst, s, t => t.rst = s.rst
  | .cmd, s, t => t.cmd = s.cmd
  | .bpm, s, t => t.bpm = s.bpm
  | .lanes, s, t => t.lanes = s.lanes
  | .framing, s, t => t.framing = s.framing
  | .pool, s, t => t.pool = s.pool
  | .encoders, s, t => t.encoders = s.encoders
  | .act, s, t => t.act = s.act
  | .terms, s, t => t.terms = s.terms
  | .grt, s, t => t.grt = s.grt
  | .clusters, s, t => t.clusters = s.clusters
  | .threads, s, t => t.threads = s.threads
  | .queues, s, t => t.queues = s.queues
  | .crl, s, t => t.crl = s.crl
  | .ohp, s, t => t.ohp = s.ohp
  | .cipher, s, t => t.cipher = s.cipher
  | .upSdus, s, t => t.upSdus = s.upSdus
  | .txts, s, t => t.txts = s.txts
  | .tim, s, t => t.tim = s.tim
  | .cls, s, t => t.cls = s.cls
  | .lpm, s, t => t.lpm = s.lpm
  | .merge, s, t => t.merge = s.merge
  | .ports, s, t => t.ports = s.ports
  | .pair, s, t => t.pair = s.pair
  | .sys, s, t => t.sys = s.sys
  | .nvm, s, t => t.nvm = s.nvm
  | .pending, s, t => t.pending = s.pending

/-- A set of parts as a mask. -/
def partMask (l : List Part) : Nat := l.foldl (fun a p => a ||| 2 ^ p.ctorIdx) 0

/-- Nothing has changed but parts of the set. -/
def Keeps (m : Nat) (s t : State) : Prop := ∀ p : Part, m.testBit p.ctorIdx = false → p.same s t

/-- A set of register and table spaces as a mask, above the parts'. -/
def spMask (l : List Sp) : Nat := l.foldl (fun a p => a ||| 2 ^ (64 + p.ctorIdx)) 0

/-- No word has changed but words of the spaces named. -/
def OnlySpaces (l : List Sp) (s t : State) : Prop := ∀ k : Key, k.sp ∉ l → t.get k = s.get k

/-- What every command does whatever else it does: only the parts and the register spaces of the set change, the words stay
canonical, time does not run back, and no free value is drawn twice. -/
structure Evolves (m : Nat) (s t : State) : Prop where
  keeps : Keeps m s t
  canonical : s.canonical = true → t.canonical = true
  clk : s.clk ≤ t.clk
  fresh : s.freeCount ≤ t.freeCount
  words : ∀ k : Key, m.testBit (64 + k.sp.ctorIdx) = false → t.get k = s.get k

/-- Two fields of tables share no bit. -/
def Fld.apart (f : Fld) (i x : Nat) (g : Fld) (j y : Nat) : Prop :=
  f.sp ≠ g.sp ∨ i ≠ j ∨ x ≠ y ∨ f.word ≠ g.word ∨ f.hi < g.lo ∨ g.hi < f.lo

/-- Every field of every register and table reads as before but those of the list (a field, its instance, its table
entry); the events block, which every raise of a cause writes, apart. -/
def OnlyFields (l : List (Fld × Nat × Nat)) (s t : State) : Prop :=
  ∀ (g : Fld) (j y : Nat), g.sp.isEvent = false → g.hi < 32 → (∀ e ∈ l, e.1.apart e.2.1 e.2.2 g j y) →
    rdx g j y t = rdx g j y s

/-- Only the parts and the fields named have changed. -/
def Touches (ps : List Part) (fs : List (Fld × Nat × Nat)) (s t : State) : Prop :=
  Keeps (partMask ps) s t ∧ OnlyFields fs s t

/-- The spaces of the events block, which a raise of a cause writes. -/
def eventSpaces : List Sp := [.src, .evt, .ringc]

/-- Only the parts and the register spaces named, and the events block's where it is named as a part, have changed. -/
def Within (ps : List Part) (sps : List Sp) (s t : State) : Prop :=
  Keeps (partMask ps) s t ∧ OnlySpaces (eventSpaces ++ sps) s t

/-- Every word is at its reset value, but those of the spaces named, which are as before (R8). -/
def ClearedBut (l : List Sp) (s t : State) : Prop := ∀ k : Key, t.get k = if k.sp ∈ l then s.get k else k.reset

/-- What a raise of a cause may change: the events block, the performance counters, and the answers of the buffer manager's
wrapper to the request of an event packet. -/
def signals : List Part := [.ev, .pmu, .wrapped]

/-- The cause is raised: its CAUSE bit is set, or it is latched while island 223 is in reset (R394). -/
@[irreducible] def Raised (src bit : Nat) (t : State) : Prop :=
  if t.up 223 then maskHas (rd SRC.CAUSE src t) bit = true else t.ev.pending.any (fun p => p.1 == src && p.2.1 == bit) = true

/-- A counter counts one occurrence and stays at its largest value (R5). -/
def Counted (f : Fld) (i : Nat) (s t : State) : Prop := rd f i t = min (rd f i s + 1) f.max

/-! Baruc packets (R370 to R376). -/

/-- Session i takes packet p, of opcode o, from the head of its FIFO, and what follows it there is no bad header. -/
abbrev Takes (i o : Nat) (p : Inbound) (s : State) : Prop :=
  s.up 223 = true ∧ nextPacket i s = some p ∧ opcodeListed i p = true ∧ p.opcode = o ∧ s.rst.blockDue = none ∧
  badHeader ((s.session i).fifo.drop (16 + p.len)) = false

/-- The response x stands in the ring of session i, whatever its PHASE, or waits for room. -/
def Responded (i : Nat) (x : Packet) (t : State) : Prop :=
  x ∈ (t.session i).waiting ∨ ∃ e ∈ (t.session i).ring, { e.2 with phase := false } = { x with phase := false }

/-- Session i has taken p out of its FIFO and answered r. -/
def Answered (i : Nat) (p : Inbound) (r : Reply) (s t : State) : Prop :=
  Responded i (responsePacket i p.opcode p.tag (((s.session i).consumed + 16 + p.len) % 2 ^ 32) r) t ∧
  (t.session i).fifo = (s.session i).fifo.drop (16 + p.len) ∧
  (t.session i).consumed = ((s.session i).consumed + 16 + p.len) % 2 ^ 32

/-- A register access of source src at an offset runs at once: nothing of its own waits before it, no table load holds its
block (R377). -/
abbrev Runs (src ofs : Nat) (s : State) : Prop :=
  s.up 223 = true ∧ s.rst.blockDue = none ∧ s.cmd.portWait = [] ∧ portHeld src ofs s = false

/-! Accesses and packets in general: the registers and words a command reaches are those its operands name. -/

/-- The state in which an access of source src runs: no verdict yet (R375, R392). -/
def accessing (src : Nat) (s : State) : State := { s with cmd := { s.cmd with source := src, verdict := 0, detail := 0 } }

/-- The access of `was` has left u: what it returned is kept for its maker, the source is as before, and a block reset that waited for
it starts (R331). -/
def accessed (was : State) (v : Nat) (u : State) : State :=
  startDue (setRead v { u with cmd := { u.cmd with source := was.cmd.source } })

/-- The state in which session i's packet p runs: out of its FIFO, its accesses with the session's rights (R370, R382). -/
def runningPacket (i : Nat) (p : Inbound) (s : State) : State :=
  let u := consume i (16 + p.len) s
  { u with cmd := { u.cmd with source := i } }

/-- Packet p of session i has left u and is answered r (R372, R373). -/
def packetAnswered (i : Nat) (p : Inbound) (r : Reply) (was u : State) : State :=
  sendAnswer i p.opcode p.tag r { u with cmd := { u.cmd with source := was.cmd.source } }

/-- Packet p makes the accesses l in order and is answered with their first condition, arg0 and what pay makes of the words read
(R375, R376). -/
def answeredRun (i : Nat) (p : Inbound) (l : List BusOp) (arg0 : Nat) (pay : List Nat → List Byte) (s : State) : State :=
  let b := busRun l (runningPacket i p s)
  packetAnswered i p (noted b.note arg0 (pay b.out.reverse)) s b.state

/-- The packet waits: its load or message stands in session i, which answers later (R376, R378). -/
def packetWaits (i : Nat) (x : Session → Session) (was u : State) : State :=
  let u := { u with cmd := { u.cmd with source := was.cmd.source } }
  u.setSession i (x (u.session i))

/-- The run in progress has taken its record of this payload (R350). -/
def recordTaken (r : RunNow) (pay : List Nat) (s : State) : State :=
  setRun (some { r with pos := r.pos + 8 + 4 * pay.length }) s

/-! Commands and what they may change. -/

/-- The island a command acts on: its wrapper answers while the island is in reset (R13, R334). None: events of the reset
controller, of the feeds and of the pins, the raise of a cause, commands that choose between two islands or among several, and an
SDU on its way to the downstream cipher, which is lost with the answer. -/
def homeIsland : Instr → Option Nat
  | .txModeRun n | .txModeIdle n | .txdisForceWrite n _ | .presetDataAccess n _ | .missingSelectionWindow n
  | .windowEnergyMiss n | .modulePresenceChange n _ | .treeSdChange n _ _ | .chatterDeclare n | .chatterClear n
  | .sdRogue n | .testModeWrite n _ _ | .testSlip n | .fsHeaderBuild n | .mapDeadline n | .frameStart n
  | .codewordUnderrun n | .fecEnWrite n _ | .dsEnWrite n _ | .ponidHiWrite n _ | .sfcLoRead n | .delimiterAccept n _
  | .delimiterMiss n | .burstOverrun n | .codewordQueued n _ _ _ | .reasmTimeout n _ | .degWindowTimeout n _
  | .degDeclare n _ | .degClear n _ | .degCfgWrite n _ | .degEnClear n | .serialNumberOnu n _ | .registration n _ _ _
  | .rangingTimeout n _ | .lobDeclare n _ | .lobHoldExpiry n _ | .dyingGasp n _ | .tcmdDeactivate n _
  | .tcmdDisable n _ | .tcmdEnable n _ | .tcmdReRange n _ | .tcmdEnableAll n _ | .ploamUpstream n _ _ _ _
  | .ploamKeyCommit n _ | .todRequest n _ | .todDone n | .rogueCriterion n _ | .smokerObserve n _ _ | .smokerStop n
    => some (framingIsland n)
  | .txExitComplete n => some n
  | .txPllUnlock _ | .codewordDecoded _ _ | .refclkCheck _ | .sentinelFeedLoss _ | .sentinelFeedReturn _
  | .coreFeedLoss | .coreFeedReturn | .powerOn _ _ | .resetNPulse _ _ | .islandRelease _ _ | .clockGoodDrop _ _ _
  | .ioRailLoss | .ioRailReturn | .thermalTrip | .waitPoll _ | .waitTimeout _ | .causeRaise _ _ _ _ _
  | .coreFeedRangeChange _ | .encoderSlot _ | .cipherDsSdu _ _ _ _ _ | .decoderDispatch | .codewordAgeDiscard => none
  | .selectionSend n | .combClose n | .cellDataWrite n _ | .witCfgWrite n _ _ | .allocContextCommit n _
  | .mirrorDelta n _ _ | .mirrorCloseMarker n => some (clusterIsland (treeCluster n))
  | .presetSelection n _ | .selectionLoad n | .windowClose n _ _ _ | .lockDeclared n _ | .lockFail n | .lockLost n
  | .lolDeclare n | .lolClear n | .losDeclare n => some (48 + n)
  | .prbsLockGain a | .prbsLockLoss a _ => some (prbsIsland a)
  | .decEnWrite _ _ => some 183
  | .kvCheckDone j _ => some (183 + j)
  | .add k _ | .sub k _ | .and k _ | .or k _ | .xor k _ | .shl k _ | .shr k _ | .minu k _ | .maxu k _ | .sltu k _
  | .mul k _ | .addi k _ | .andi k _ | .ori k _ | .xori k _ | .shli k _ | .shri k _ | .lui k _ | .sltui k _ | .ld k _
  | .st k _ | .amadd k _ | .beq k _ | .bne k _ | .bltu k _ | .bgeu k _ | .bst k _ | .bstn k _ | .jmp k _ | .jal k _
  | .jr k _ | .illegalInstruction k _ | .popr k _ | .popa k _ | .wfe k _ | .threadWake k _ | .cwr k _ _ | .crd k _
  | .plf k _ _ | .dur k _ | .ctxr k _ | .ctxw k _ _ | .tbu k _ _ | .pls k _ | .emp k _ | .evr k _ | .frm k _
  | .tickEvent k | .watchdogFault k _ | .threadEnable k _ | .threadDisable k _ | .thrRegionWrite k _ _
  | .handoverRequest k _ | .mailboxWrite k _ _ | .imemWrite k _ | .dmemWrite k _ | .ctxDataWrite k _
  | .traceCtlWrite k _ | .traceFull k => some (clusterIsland k)
  | .crlBind _ _ _ | .crlUnbind _ _ _ | .crlBuild _ _ _ | .crlContainerDeadline _ _ | .crlContainerRx _ _ _
  | .crlContainerMissing _ _ | .crlSyncEnter _ _ | .crlSyncLeave _ _ | .labelAccept _ _ | .crlPacketEmit _ _
  | .roePacketRx _ _ _ _ _ | .roePacketPresent _ _ | .crlLaneWrite _ => some 220
  | .ohpPeriod _ _ | .ohpChannelWrite _ _ => some 221
  | .clsFrame k _ | .clsSecondSlot k | .learnApply k | .relocationClear k | .conditionalClear k | .agingVisit k _
  | .emInsert k _ | .emDelete k _ | .emSearch k _ | .emReadSlot k _ | .emFlushLearned k _ | .emFlushTree k _
  | .emCmdDone k | .hashSeedWrite k _ _ | .tableEntryCommit k _ => some (pipeIsland k)
  | .merge | .alloc _ _ _ _ _ | .share _ _ _ _ | .free _ _ | .transfer _ _ _ | .bufferArbitration
  | .bufferAccess _ _ _ _ _ _ | .poolLock | .freeListDone | .quotaCommit _ | .reclaimDone | .descSnapshot _ => some 213
  | .lpmAdd | .lpmDelete | .lpmFlushV4 | .lpmFlushV6 | .lpmCmdDone | .mbakinHeartbeatSend | .mbakinRx _ | .peerLost _
  | .sysCtlWrite _ | .sysKeyCommit _ | .usb4LinkUp _ | .usb4LinkRefused | .usb4EnWrite _ | .tunnelLoss _
  | .sessionOpen _ _ | .sessionClose _ _ | .windowWrite _ _ | .packetTimeout _ | .headWrite _ _ | .hostSilent _
  | .unlistedOpcode _ | .echo _ | .regRead _ | .regWrite _ | .regModify _ | .idxRead _ | .idxWrite _ | .tableLoad _
  | .progLoad _ | .flashRead _ | .flashWrite _ | .ploamSend _ | .inject _ | .capture _ | .mbakinSend _
  | .mbakinReplyTimeout _ | .privChallenge | .privProve | .privDrop | .lockoutExpiry | .mmioAccess _ _ _
  | .indDataAccess _ | .registerWrite _ _ _ | .rcCounterRead _ _ | .countDelivery _ | .holdoffEnd _ | .dlvEnable
  | .eventEnWrite _ _ | .causeW1c _ _ | .captureRelease _ | .pinPulseEnd _ | .pmuWrap _ | .pmuWindowEnd _ | .pmuSnap
  | .valLoRead _ | .pmuValWrite _ _ | .pmuCfgWrite _ _ _ => some 223
  | .hbmTempSample st _ | .hbmPhyTrainLoss st | .hbmRetrainDone st | .hbmPhyTrained st _ => some (214 + st)
  | .tmdEnqueue _ _ _ _ | .tmdDequeueOffer _ | .tmdFrameTaken _ _ | .nofragReturn _ | .treeDead _ => some 211
  | .tmuEnqueue _ _ _ _ _ | .tmuTxDecision _ _ | .gateEvent _ | .preemptCut _ | .gateChangeRequest _ _
  | .gateListChange _ | .cutThroughOffer _ _ _ _ _ => some 212
  | .nodeWrite m _ | .shaperWrite m _ | .shaperRecovery m _ _ _ => some (211 + m)
  | .cipherUsSdu _ _ _ _ _ _ _ _ | .ctTagCheck _ => some 219
  | .invocationWarning d _ | .flowHold d _ | .flowKeyCommit d _ | .terminalKeyCommit d _ | .ringKeyCommit d _
  | .rekeyTerminalSwitch d _ _ | .rekeyFlowSwitch d _ | .rekeyLoadRing d _ | .rekeyClearSlot d _ | .oldSlotExpiry d _
  | .flowWrite d _ | .cipherPortWrite d _ => some (218 + d)
  | .portCfgWrite n _ | .anComplete n | .linkUp n | .ltTimeout n | .ltSignalLoss n | .backoffEnd n | .linkDown n _
  | .remoteFault n | .fecWindow n _ _ _ | .verifyResponse n | .verifyTimeout n | .netFrameRx n _ _ _
  | .netLaneSignalChange n _ _ => some (netIsland n)
  | .referenceUpdate _ | .timLocked | .timUnlock | .sourceLoss _ _ | .sourceReturn _ | .ppsEdge _ | .ppsLost
  | .todMessage _ | .ppsQualified | .adjOffset | .adjSetTime | .setTimeApply | .adjRealign | .realignCut
  | .frameTimebaseAligned | .adjFreqWrite _ | .ppsOutPulse | .ptpMessageRx _ _ | .ptpQualLoss _ | .ppsOutFall => some 222
  | .txtsRead p => some (128 + p)
  | .sentinelTimeCopy | .heartbeatRx _ | .heartbeatMiss | .partnerLinkDown | .partnerLinkUp | .p0LockLoss | .p1Loss _
  | .bulkCopyDone | .upstreamFrameJudge _ | .ofsValid _ _ | .healthEval _ _ | .healthReport | .yield | .switchRx _
  | .ackRx | .nakRx | .commitRx | .switchoverExecute | .switchAbort | .commitTimeout | .releasedRx _ | .returnSend
  | .returnRx | .linkDownRoleChange | .startupExpiry | .roleSwitchOver | .roleEnterTest | .roleLeaveTest | .roleRejoin
  | .fuseMapLatch | .rstWarm | .rstBlock _ | .rstReleaseHeld _ | .rstCold | .phaseStall _ | .pinOverride _
  | .thermalSample _ | .memoryScrubPass _ => some 224
  | .otpShadowLoaded | .flashDiscoveryDone _ | .slotCheckDone | .runApply | .recordWrite | .recordStream
  | .recordModify | .recordWait | .recordKey | .recordTable | .recordEnd | .nvmRead _ _ | .nvmProgram _ _ | .nvmErase _
  | .nvmCheck _ | .nvmBoot | .flashOpDone | .flashTimeout | .otpProgramSettings | .otpProgramKey _ | .otpProgramDevnum
  | .otpAdvanceArb _ | .otpProgramPin _ | .otpWordProgrammed _ => some 225

/-- Commands that may change anything: resets, the loss of a feed or clock, a register access of any kind, a packet, a record. -/
def wideCommand : Instr → Bool
  | .txPllUnlock _ | .sentinelFeedLoss _ | .coreFeedLoss | .coreFeedReturn | .mbakinRx _ | .powerOn _ _
  | .resetNPulse _ _ | .rstWarm | .rstBlock _ | .rstReleaseHeld _ | .rstCold | .clockGoodDrop _ _ _ | .recordWrite
  | .recordStream | .recordModify | .recordWait | .waitPoll _ | .waitTimeout _ | .recordKey | .recordTable
  | .recordEnd | .flashTimeout | .hostSilent _ | .unlistedOpcode _ | .echo _ | .regRead _ | .regWrite _
  | .regModify _ | .idxRead _ | .idxWrite _ | .tableLoad _ | .progLoad _ | .flashRead _ | .flashWrite _
  | .ploamSend _ | .inject _ | .capture _ | .mbakinSend _ | .mbakinReplyTimeout _ | .privChallenge | .privProve
  | .privDrop | .mmioAccess _ _ _ | .indDataAccess _ | .registerWrite _ _ _ | .rcCounterRead _ _ => true
  | _ => false

/-- Commands that write a table word whose table an operand, or a held delta of the pair, names. -/
def tableCommand : Instr → Bool
  | .mirrorDelta _ _ _ | .mirrorCloseMarker _ | .tableEntryCommit _ _ | .nodeWrite _ _ | .shaperWrite _ _ => true
  | _ => false

/-- The parts that the passing of time changes. -/
def clocks : List Part := [.clk, .ptp, .ptpFrac, .tim]

/-- The parts, and the register and table spaces apart from the events block, that a command which is not wide may change,
whatever its operands and the state. -/
def reachOf : Instr → List Part × List Sp
  | .txModeRun _ => ([.mem, .wrapped, .lanes], [.tln])
  | .txExitComplete _ => (signals ++ clocks ++ [.mem], [.tln])
  | .txModeIdle _ => ([.mem, .wrapped, .framing], [.tln])
  | .txdisForceWrite _ _ => (signals ++ [.mem, .cmd], [.tln, .cmd])
  | .presetDataAccess _ _ => ([.mem, .wrapped, .cmd], [.preset, .tln])
  | .selectionSend _ => ([.wrapped, .lanes, .grt], [])
  | .presetSelection _ _ | .missingSelectionWindow _ => (signals ++ [.mem, .lanes, .framing], [.tln])
  | .selectionLoad _ => ([.wrapped, .lanes, .framing], [])
  | .windowClose _ _ _ _ => (signals ++ [.mem, .lanes, .terms], [.preset, .tln])
  | .windowEnergyMiss _ => ([.mem, .pmu, .wrapped, .lanes], [.tln])
  | .lockFail _ | .lockLost _ => (signals ++ [.mem, .lanes, .framing, .terms, .clusters], [.preset, .tln, .actT])
  | .treeSdChange _ _ _ => ([.mem, .pmu, .wrapped, .lanes], [.tln])
  | .lockDeclared _ _ => (signals ++ [.mem, .lanes], [.tln])
  | .lolDeclare _ | .lolClear _ | .losDeclare _ | .modulePresenceChange _ _ | .chatterDeclare _
    => (signals ++ [.mem], [.tln])
  | .prbsLockGain _ | .prbsLockLoss _ _ => (signals ++ [.mem], [.tln, .net])
  | .chatterClear _ => (clocks ++ [.mem, .pmu, .wrapped], [.tln])
  | .sdRogue _ => (signals ++ [.lanes, .act], [])
  | .testModeWrite _ _ _ => (signals ++ [.mem, .cmd, .lanes, .framing, .terms, .clusters], [.preset, .tln, .actT, .cmd])
  | .testSlip _ => (signals ++ [.cmd, .lanes], [])
  | .fsHeaderBuild _ | .mapDeadline _ => (signals ++ [.mem, .framing, .act, .grt], [.tfr])
  | .frameStart _
    => (signals ++ clocks ++ [.mem, .freeCount, .rst, .cmd, .framing, .act, .terms, .grt, .clusters, .threads,
      .queues, .cipher, .pair], [.preset, .tfr, .act, .actT, .brood, .ctx, .gsq, .cph, .flow, .par])
  | .encoderSlot _
    => (signals ++ [.mem, .framing, .encoders, .act, .terms, .clusters], [.preset, .enc, .act, .actT, .brood])
  | .codewordUnderrun _ => (signals ++ clocks ++ [.mem, .framing, .act, .grt], [.tfr, .enc])
  | .fecEnWrite _ _ => (signals ++ [.mem, .cmd], [.tfr])
  | .dsEnWrite _ _ => ([.mem, .wrapped], [.tfr])
  | .ponidHiWrite _ _ => ([.mem, .wrapped, .framing], [.tfr])
  | .sfcLoRead _ => ([.mem, .wrapped, .cmd], [.tfr])
  | .delimiterAccept _ _
    => (signals ++ [.mem, .lanes, .framing, .act, .terms, .clusters, .pair], [.preset, .tfr, .tfrT, .act, .actT,
      .brood, .par])
  | .delimiterMiss _ => (signals ++ [.mem, .lanes, .framing, .terms, .clusters], [.preset, .tfr, .tfrT, .actT])
  | .burstOverrun _ => (signals ++ [.mem, .lanes, .act], [.tfr])
  | .codewordQueued _ _ _ _ => ([.wrapped, .framing, .pool], [])
  | .decoderDispatch | .decEnWrite _ _ => (signals ++ [.mem, .pool], [.pool])
  | .kvCheckDone _ _ => (signals ++ clocks ++ [.mem, .pool], [.dec])
  | .codewordDecoded _ _
    => (signals ++ clocks ++ [.mem, .sess, .bpm, .framing, .pool, .terms, .grt, .clusters], [.preset, .tfr, .tfrT,
      .dec, .act, .actT, .grt, .bpm, .quota])
  | .codewordAgeDiscard => (signals ++ clocks ++ [.mem, .pool, .terms, .clusters], [.preset, .tfr, .tfrT, .pool, .actT])
  | .reasmTimeout _ _ => (signals ++ [.mem, .bpm, .framing], [.tfr, .bpm, .quota])
  | .degWindowTimeout _ _ => (signals ++ clocks ++ [.mem, .terms, .crl], [.tfrT, .lane])
  | .degDeclare _ _ | .degClear _ _ => (signals ++ [.mem], [.tfrT])
  | .degCfgWrite _ _ => (signals ++ [.mem, .cmd, .terms], [.tfr, .cmd])
  | .degEnClear _ => ([.mem, .wrapped], [.tfr, .tfrT])
  | .serialNumberOnu _ _ => (signals ++ [.mem, .act, .terms, .clusters], [.preset, .act, .actT, .brood])
  | .smokerObserve _ _ _ => (signals ++ [.mem, .act, .terms, .grt, .clusters], [.preset, .act, .actT, .brood])
  | .registration _ _ _ _ | .lobHoldExpiry _ _ | .dyingGasp _ _
    => (signals ++ [.mem, .act, .terms], [.preset, .act, .actT, .brood])
  | .rangingTimeout _ _ => (signals ++ clocks ++ [.mem, .act, .terms], [.preset, .act, .actT, .brood])
  | .lobDeclare _ _ => (signals ++ [.mem, .terms, .clusters], [.preset, .act, .actT, .brood])
  | .tcmdDeactivate _ _ => (signals ++ [.mem, .cmd, .act, .terms], [.preset, .act, .actT, .brood])
  | .tcmdDisable _ _ | .tcmdEnable _ _ | .tcmdEnableAll _ _ => (signals ++ [.mem, .cmd, .act], [.act])
  | .tcmdReRange _ _ => (signals ++ [.mem, .cmd, .terms, .clusters], [.preset, .act, .actT, .brood])
  | .ploamUpstream _ _ _ _ _ => (signals ++ [.mem, .sess, .bpm], [.act, .actT, .bpm, .quota])
  | .ploamKeyCommit _ _ => (signals ++ [.mem, .cmd, .act, .terms, .grt], [.act, .cmd])
  | .todRequest _ _ | .todDone _ => ([.mem, .wrapped, .act], [.act])
  | .smokerStop _ => ([.mem, .wrapped], [.act])
  | .rogueCriterion _ _ => (signals ++ [.mem, .act, .grt, .clusters], [.act, .actT])
  | .combClose _ => (signals ++ [.mem, .framing, .grt, .clusters, .threads], [.grt, .cell, .gsq])
  | .mirrorCloseMarker _ => (signals ++ [.mem, .framing, .grt, .clusters, .threads], [])
  | .cellDataWrite _ _ => (signals ++ [.mem, .cmd, .grt], [.grt, .cell, .cmd])
  | .witCfgWrite _ _ _ => (signals ++ [.mem, .cmd, .grt], [.grt, .cmd])
  | .allocContextCommit _ _ => (signals ++ [.mem, .cmd], [.grt, .ctx])
  | .mirrorDelta _ _ _ => (signals ++ [.mem, .freeCount, .terms, .grt, .clusters, .threads, .crl, .cipher, .pair], [])
  | .add _ _ | .sub _ _ | .and _ _ | .or _ _ | .xor _ _ | .shl _ _ | .shr _ _ | .minu _ _ | .maxu _ _ | .sltu _ _
  | .mul _ _ | .addi _ _ | .andi _ _ | .ori _ _ | .xori _ _ | .shli _ _ | .shri _ _ | .lui _ _ | .sltui _ _ | .beq _ _
  | .bne _ _ | .bltu _ _ | .bgeu _ _ | .bst _ _ | .bstn _ _ | .jmp _ _ | .jal _ _ | .jr _ _
    => ([.mem, .pmu, .wrapped, .clusters, .threads], [.gsq])
  | .ld _ _ => (signals ++ [.mem, .freeCount, .clusters, .threads], [.gsq])
  | .crd _ _ | .dur _ _ | .ctxr _ _ | .evr _ _ => (signals ++ [.mem, .clusters, .threads], [.gsq])
  | .frm _ _ => (signals ++ [.mem, .freeCount, .clusters, .threads], [.gsq])
  | .st _ _ | .amadd _ _ | .pls _ _ => (signals ++ [.mem, .freeCount, .clusters, .threads], [.gsq, .dmem])
  | .illegalInstruction _ _ => (signals ++ [.mem, .freeCount, .clusters, .threads], [.gsq])
  | .watchdogFault _ _ | .mailboxWrite _ _ _ => (signals ++ [.mem, .threads], [.gsq])
  | .popr _ _ | .popa _ _ | .wfe _ _ => (signals ++ [.mem, .freeCount, .grt, .clusters, .threads], [.gsq])
  | .threadWake _ _ => ([.mem, .pmu, .wrapped, .grt, .clusters, .threads], [.gsq])
  | .cwr _ _ _ | .plf _ _ _ => (signals ++ [.mem, .cmd, .grt, .clusters, .threads], [.grt, .cell, .gsq, .cmd])
  | .ctxw _ _ _ => (signals ++ [.mem, .grt, .clusters, .threads], [.ctx, .gsq])
  | .tbu _ _ _ => (signals ++ [.mem, .clusters, .threads], [.ctx, .gsq])
  | .emp _ _ => (signals ++ [.mem, .freeCount, .act, .clusters, .threads], [.act, .gsq])
  | .tickEvent _ => ([.wrapped, .threads], [])
  | .threadEnable _ _ => ([.mem, .pmu, .wrapped, .grt, .clusters, .threads], [.gsq])
  | .threadDisable _ _ => ([.mem, .pmu, .freeCount, .wrapped, .grt, .clusters, .threads], [.gsq])
  | .thrRegionWrite _ _ _ => (signals ++ [.mem, .cmd, .grt], [.gsq, .cmd])
  | .handoverRequest _ _ => (signals ++ [.mem, .cmd, .grt, .clusters, .threads], [.gsq])
  | .imemWrite _ _ => (signals ++ [.mem, .cmd, .grt, .clusters], [.gsq, .imem])
  | .dmemWrite _ _ => ([.mem, .wrapped, .clusters], [.gsq, .dmem])
  | .ctxDataWrite _ _ => ([.mem, .wrapped, .grt], [.ctx, .gsq])
  | .traceCtlWrite _ _ => (signals ++ [.mem, .cmd, .clusters], [.gsq, .cmd])
  | .traceFull _ => (signals ++ [.clusters], [])
  | .crlBind _ _ _ | .crlUnbind _ _ _ => (signals ++ [.mem, .cmd, .grt, .crl], [.grt, .cell, .crl, .lane, .cmd])
  | .crlBuild _ _ _ => (signals ++ [.mem, .sess, .bpm, .framing, .crl, .cipher], [.lane, .bpm, .quota, .cph, .flow])
  | .crlContainerDeadline _ _ => (signals ++ [.mem, .framing, .crl], [.lane])
  | .crlContainerRx _ _ _ => (signals ++ [.mem, .crl, .cipher], [.crl, .lane, .cph, .flow])
  | .crlContainerMissing _ _ | .crlSyncEnter _ _ | .labelAccept _ _ | .roePacketRx _ _ _ _ _
    => (signals ++ [.mem, .crl], [.lane])
  | .crlSyncLeave _ _ => (signals ++ [.mem], [.lane])
  | .crlPacketEmit _ _ => (signals ++ [.mem, .bpm, .queues, .crl], [.bpm, .quota, .tmu, .node])
  | .roePacketPresent _ _ => (signals ++ clocks ++ [.crl], [])
  | .ohpPeriod _ _ => (signals ++ clocks ++ [.mem, .ohp], [.ohp])
  | .ohpChannelWrite _ _ => (signals ++ [.mem, .cmd], [.ohp, .chan, .cmd])
  | .crlLaneWrite _ => (signals ++ [.mem, .cmd, .crl], [.crl, .lane, .cmd])
  | .clsFrame _ _ => (signals ++ [.mem, .sess, .bpm, .queues, .upSdus, .cls, .merge], [.cls, .bpm, .quota, .tmu, .node])
  | .clsSecondSlot _ => (signals ++ [.mem, .sess, .bpm, .queues, .cls, .merge], [.cls, .bpm, .quota, .tmu, .node])
  | .learnApply _ => (signals ++ [.mem, .freeCount, .cls], [.cls, .cLimit])
  | .relocationClear _ => ([.mem, .wrapped, .cls], [.cls, .cLimit])
  | .merge
    => (signals ++ [.mem, .sess, .bpm, .queues, .crl, .tim, .cls, .merge, .sys], [.lane, .cls, .bpm, .quota, .tmd,
      .node])
  | .conditionalClear _ => (signals ++ [.mem, .cls], [.cls, .cLimit])
  | .agingVisit _ _ => (clocks ++ [.mem, .pmu, .wrapped, .cls], [.cls, .cLimit])
  | .emInsert _ _ | .emDelete _ _ | .emSearch _ _ | .emReadSlot _ _ | .emFlushLearned _ _ | .emFlushTree _ _
    => (signals ++ [.mem, .freeCount, .cls], [.cls, .emD, .cLimit, .cmd])
  | .emCmdDone _ => (signals ++ [.mem, .freeCount, .cls], [.cls, .emD, .cLimit])
  | .lpmAdd | .lpmDelete | .lpmFlushV4 | .lpmFlushV6 => (signals ++ [.mem, .lpm], [.lpm, .cmd])
  | .lpmCmdDone => (signals ++ [.mem, .freeCount, .cls, .lpm], [.lpm])
  | .hashSeedWrite _ _ _ => (signals ++ [.mem, .cmd], [.cls, .cmd])
  | .tableEntryCommit _ _ => (signals ++ [.mem, .cmd, .cls], [])
  | .alloc _ _ _ _ _ | .share _ _ _ _ | .bufferAccess _ _ _ _ _ _ | .hbmPhyTrainLoss _ | .hbmRetrainDone _
    => (signals ++ [.mem, .bpm], [.bpm])
  | .free _ _ | .transfer _ _ _ => (signals ++ [.mem, .bpm], [.bpm, .quota])
  | .bufferArbitration => (signals ++ [.mem, .sess, .bpm], [.bpm, .quota])
  | .reclaimDone => (signals ++ [.mem, .bpm], [.bpm, .quota])
  | .poolLock => (signals ++ [.mem, .cmd, .bpm], [.bpm, .cmd])
  | .freeListDone => ([.mem, .wrapped, .bpm], [.bpm])
  | .quotaCommit _ => (signals ++ [.mem, .cmd, .bpm], [.bpm, .quota])
  | .descSnapshot _ => ([.mem, .wrapped], [.bpm])
  | .hbmTempSample _ _ | .hbmPhyTrained _ _ => (signals ++ [.mem], [.bpm])
  | .tmdEnqueue _ _ _ _ => (signals ++ [.mem, .bpm, .queues], [.bpm, .quota, .tmd, .node])
  | .tmdDequeueOffer _ => (signals ++ [.mem, .framing, .queues], [.tfr, .tmd, .node])
  | .tmdFrameTaken _ _ => (signals ++ [.mem, .bpm, .framing, .queues], [.tfr, .bpm, .quota, .tmd, .node])
  | .nofragReturn _ => ([.mem, .pmu, .wrapped, .queues], [.tfr, .tmd])
  | .treeDead _ => (signals ++ clocks ++ [.mem, .bpm, .framing, .queues], [.bpm, .quota, .tmd, .node])
  | .tmuEnqueue _ _ _ _ _ | .cutThroughOffer _ _ _ _ _
    => (signals ++ [.mem, .bpm, .queues], [.bpm, .quota, .tmu, .node])
  | .tmuTxDecision _ _ => (signals ++ clocks ++ [.mem, .sess, .bpm, .queues, .txts], [.bpm, .quota, .tmu, .node, .net])
  | .gateEvent _ | .shaperRecovery _ _ _ _ => (clocks ++ [.pmu, .wrapped, .queues], [])
  | .preemptCut _ => (clocks ++ [.mem, .pmu, .wrapped, .queues], [.tmu])
  | .gateChangeRequest _ _ => (signals ++ [.mem, .cmd, .queues], [.tmuPort, .cmd])
  | .gateListChange _ => (signals ++ clocks ++ [.mem, .queues], [.tmu, .tmuPort, .gcl])
  | .nodeWrite _ _ | .shaperWrite _ _ => (signals ++ [.mem, .cmd, .bpm, .framing, .queues], [])
  | .cipherDsSdu _ _ _ _ _ => (signals ++ [.mem, .sess, .bpm, .framing, .cipher], [.bpm, .quota, .cph, .flow])
  | .ctTagCheck _
    => (signals ++ [.mem, .bpm, .queues, .cipher, .upSdus, .cls], [.bpm, .quota, .tmu, .node, .cph, .flow])
  | .invocationWarning _ _ => (signals ++ [.mem, .grt, .cipher], [.cph, .flow])
  | .cipherUsSdu _ _ _ _ _ _ _ _
    => (signals ++ [.mem, .sess, .bpm, .framing, .cipher, .upSdus], [.bpm, .quota, .cph, .flow])
  | .flowHold _ _ => (signals ++ [.mem], [.flow])
  | .flowKeyCommit _ _ | .rekeyTerminalSwitch _ _ _ | .rekeyFlowSwitch _ _ | .rekeyLoadRing _ _ | .rekeyClearSlot _ _
    => (signals ++ [.mem, .cmd, .grt, .cipher], [.cph, .flow, .cmd])
  | .flowWrite _ _ => (signals ++ [.mem, .cmd, .cipher], [.cph, .flow, .cmd])
  | .terminalKeyCommit _ _ | .ringKeyCommit _ _ => (signals ++ [.mem, .cmd, .grt, .cipher], [.cph, .cmd])
  | .oldSlotExpiry _ _ => (clocks ++ [.mem, .pmu, .wrapped, .grt, .cipher], [.flow])
  | .cipherPortWrite _ _ => (signals ++ [.mem, .cmd], [.cph, .cphPort, .cmd])
  | .portCfgWrite _ _ => (signals ++ [.mem, .cmd, .bpm, .queues, .ports], [.bpm, .quota, .tmu, .node, .net, .cmd])
  | .anComplete _ => ([.mem, .wrapped, .ports], [.net])
  | .linkUp _ => (signals ++ clocks ++ [.mem, .ports], [.net])
  | .ltSignalLoss _ => (signals ++ [.mem, .ports], [.net])
  | .ltTimeout _ | .verifyTimeout _ => (signals ++ clocks ++ [.mem, .ports], [.net])
  | .backoffEnd _ => (clocks ++ [.mem, .pmu, .wrapped, .ports], [.net])
  | .linkDown _ _ => (signals ++ [.mem, .bpm, .queues, .ports], [.bpm, .quota, .tmu, .node, .net])
  | .remoteFault _ => (signals ++ [.mem], [.net])
  | .fecWindow _ _ _ _ => (signals ++ [.mem, .ports], [.net])
  | .verifyResponse _ | .netLaneSignalChange _ _ _ => (signals ++ [.mem], [.net])
  | .netFrameRx _ _ _ _ => (signals ++ [.mem, .sess, .bpm, .merge], [.bpm, .quota, .net])
  | .referenceUpdate _ => (signals ++ [.mem, .ptp, .ptpFrac, .freeCount, .queues, .tim], [.tim, .pmuC])
  | .timLocked => (signals ++ [.mem, .rst, .tim], [.cph, .tim])
  | .timUnlock | .ppsEdge _ | .todMessage _ | .ppsQualified => (signals ++ [.mem, .tim], [.tim])
  | .ptpQualLoss _ => (signals ++ clocks ++ [.mem], [.tim])
  | .sourceLoss _ _ => (signals ++ [.mem, .ptp, .ptpFrac, .queues, .tim], [.tim, .pmuC])
  | .sourceReturn _ => (signals ++ clocks ++ [.mem, .queues], [.tim, .pmuC])
  | .refclkCheck _ => (signals ++ [.mem, .rst, .tim], [.tim])
  | .ppsLost => (signals ++ clocks ++ [.mem], [.tim])
  | .adjOffset | .adjSetTime | .adjRealign
    => (signals ++ [.mem, .ptp, .ptpFrac, .cmd, .queues, .tim], [.tim, .cmd, .pmuC])
  | .setTimeApply => (signals ++ clocks ++ [.mem, .cmd, .queues], [.tim, .pmuC])
  | .realignCut => (signals ++ clocks ++ [.mem, .rst, .framing, .grt], [.tfr, .cph, .tim])
  | .frameTimebaseAligned => (signals ++ clocks ++ [.mem, .rst], [.cph, .tim])
  | .adjFreqWrite _ => (signals ++ [.mem, .cmd], [.tim])
  | .ppsOutPulse | .ppsOutFall => (clocks ++ [.pmu, .wrapped], [])
  | .ptpMessageRx _ _ => (signals ++ [.mem, .sess, .bpm, .queues, .tim], [.bpm, .quota, .tmu, .node, .tim])
  | .txtsRead _ => ([.wrapped, .cmd, .txts], [])
  | .sentinelTimeCopy => ([.wrapped, .tim], [])
  | .heartbeatRx _
    => (signals ++ [.mem, .ptp, .ptpFrac, .freeCount, .rst, .framing, .act, .terms, .grt, .clusters, .threads,
      .queues, .cipher, .tim, .pair], [.preset, .tfr, .act, .actT, .brood, .ctx, .gsq, .flow, .tim, .par, .pmuC])
  | .heartbeatMiss | .healthReport | .switchRx _ | .ackRx => ([.wrapped, .pair], [])
  | .nakRx => (signals ++ [.mem, .freeCount, .rst, .cmd, .act, .clusters, .threads, .pair], [.gsq, .par])
  | .commitRx | .returnRx => ([.wrapped, .pair], [])
  | .partnerLinkDown | .p0LockLoss => (signals ++ [.mem, .tim, .pair], [.tim, .par])
  | .partnerLinkUp | .p1Loss _ | .ofsValid _ _ | .yield => (signals ++ [.mem, .pair], [.par])
  | .bulkCopyDone => ([.mem, .wrapped, .pair], [.par])
  | .upstreamFrameJudge _ => ([.mem, .wrapped, .lanes, .act, .pair], [.par])
  | .healthEval _ _ => (signals ++ [.mem, .freeCount, .rst, .act, .clusters, .threads, .pair], [.gsq, .par])
  | .switchoverExecute | .linkDownRoleChange
    => (signals ++ clocks ++ [.mem, .freeCount, .rst, .cmd, .framing, .act, .terms, .grt, .clusters, .threads,
      .cipher, .pair], [.preset, .tfr, .act, .actT, .brood, .ctx, .gsq, .flow, .par])
  | .switchAbort
    => (signals ++ clocks ++ [.mem, .freeCount, .rst, .cmd, .act, .clusters, .threads, .pair], [.gsq, .par])
  | .commitTimeout | .returnSend => (clocks ++ [.pmu, .wrapped, .pair], [])
  | .releasedRx _
    => (signals ++ [.mem, .freeCount, .rst, .cmd, .framing, .act, .terms, .grt, .clusters, .threads, .cipher, .pair],
      [.preset, .tfr, .act, .actT, .brood, .ctx, .gsq, .flow, .par])
  | .startupExpiry => (clocks ++ [.mem, .pmu, .wrapped, .pair], [.par])
  | .sentinelFeedReturn _ => (signals ++ [.mem, .rst], [.rst])
  | .roleSwitchOver | .roleEnterTest | .roleLeaveTest | .roleRejoin
    => (signals ++ [.mem, .freeCount, .rst, .cmd, .act, .clusters, .threads, .pair], [.gsq, .par, .cmd])
  | .mbakinHeartbeatSend => (signals ++ clocks ++ [.mem, .sess, .bpm, .queues, .sys], [.bpm, .quota, .tmu, .node, .sys])
  | .peerLost _ => (signals ++ clocks ++ [.mem], [.sys, .peer])
  | .sysCtlWrite _ => (signals ++ [.mem, .cmd], [.sys, .cmd])
  | .sysKeyCommit _ => (signals ++ [.mem, .cmd, .sys], [.sys, .cmd])
  | .fuseMapLatch | .thermalSample _ => (signals ++ [.rst], [])
  | .islandRelease _ _
    => (signals ++ [.mem, .ptp, .ptpFrac, .islands, .rst, .cmd, .lanes, .grt, .queues, .tim, .cls, .nvm], [.tln, .grt,
      .cell, .cph, .tim, .cmd])
  | .phaseStall _ => (signals ++ clocks ++ [.mem, .islands, .rst], [.rst])
  | .ioRailLoss | .coreFeedRangeChange _ => ([.rst], [])
  | .ioRailReturn => (signals ++ [.rst], [])
  | .pinOverride _ => (signals ++ [.mem, .rst, .cmd], [.rst, .cmd])
  | .thermalTrip => (signals ++ [.mem, .freeCount, .rst, .act, .clusters, .threads, .pair], [.gsq, .par])
  | .otpShadowLoaded => (signals ++ [.mem, .sess, .cmd, .nvm], [.otpSh, .cmd])
  | .flashDiscoveryDone _ => (signals ++ [.mem, .nvm], [.nvm])
  | .slotCheckDone => (signals ++ [.mem, .sess, .rst, .cmd, .nvm], [.nvm, .cmd])
  | .runApply => (signals ++ [.mem, .freeCount, .rst, .act, .clusters, .threads, .pair, .nvm], [.gsq, .par, .nvm])
  | .nvmRead _ _ | .nvmProgram _ _ | .nvmErase _ | .nvmCheck _ | .nvmBoot
    => (signals ++ [.mem, .cmd, .nvm], [.nvm, .cmd])
  | .flashOpDone => (signals ++ [.mem, .cmd, .nvm], [.nvm, .nvmBuf, .flash])
  | .otpProgramSettings | .otpProgramKey _ | .otpProgramDevnum | .otpAdvanceArb _ | .otpProgramPin _
    => (signals ++ [.mem, .cmd, .nvm], [.otp, .otpP, .cmd])
  | .otpWordProgrammed _ => (signals ++ clocks ++ [.mem, .freeCount, .cmd, .nvm], [.otp, .otpP, .otpFuse, .otpSh])
  | .usb4LinkUp _ | .usb4LinkRefused => (signals ++ [.cmd], [])
  | .usb4EnWrite _ | .tunnelLoss _ | .windowWrite _ _ => (signals ++ [.mem, .sess, .cmd], [.cmd])
  | .causeW1c _ _ => (signals ++ [.mem, .cmd], [.cmd])
  | .sessionOpen _ _ | .sessionClose _ _ | .headWrite _ _ => (signals ++ [.mem, .sess, .cmd], [.cmd, .sess])
  | .packetTimeout _ => (signals ++ clocks ++ [.mem, .sess, .cmd], [.cmd])
  | .lockoutExpiry => (clocks ++ [.pmu, .wrapped, .cmd], [])
  | .causeRaise _ _ _ _ _ | .countDelivery _ | .dlvEnable | .eventEnWrite _ _ | .pmuWrap _ => (signals, [])
  | .holdoffEnd _ => (signals ++ clocks, [])
  | .captureRelease _ => ([.ev, .wrapped], [])
  | .pinPulseEnd _ => (signals ++ clocks, [])
  | .pmuWindowEnd _ => (signals ++ clocks ++ [.mem], [.pmuC])
  | .pmuSnap | .pmuValWrite _ _ => ([.pmu, .wrapped], [])
  | .valLoRead _ => ([.pmu, .wrapped, .cmd], [])
  | .pmuCfgWrite _ _ _ => (signals ++ [.mem, .cmd], [.cmd, .pmuC])
  | .memoryScrubPass _ => (signals ++ [.mem, .clusters, .cipher, .cls, .pair], [.gsq, .cls, .cLimit, .flow])
  | .txPllUnlock _ | .sentinelFeedLoss _ | .coreFeedLoss | .coreFeedReturn | .mbakinRx _ | .powerOn _ _
  | .resetNPulse _ _ | .rstWarm | .rstBlock _ | .rstReleaseHeld _ | .rstCold | .clockGoodDrop _ _ _ | .recordWrite
  | .recordStream | .recordModify | .recordWait | .waitPoll _ | .waitTimeout _ | .recordKey | .recordTable | .recordEnd
  | .flashTimeout | .hostSilent _ | .unlistedOpcode _ | .echo _ | .regRead _ | .regWrite _ | .regModify _ | .idxRead _
  | .idxWrite _ | .tableLoad _ | .progLoad _ | .flashRead _ | .flashWrite _ | .ploamSend _ | .inject _ | .capture _
  | .mbakinSend _ | .mbakinReplyTimeout _ | .privChallenge | .privProve | .privDrop | .mmioAccess _ _ _
  | .indDataAccess _ | .registerWrite _ _ _ | .rcCounterRead _ _ => ([], [])

/-- What follows the addresses and tags is an IEEE 1914.3 header (R173, R174). -/
def isRoe : L3 → Bool
  | .roe _ _ _ => true
  | _ => false

/-! Threads of the grant sequencers (R122 to R140). -/

/-- Thread h of cluster k issues the word w, which is legal and spells opcode o (R123 to R125). -/
abbrev Issues (k h o w : Nat) (s : State) : Prop :=
  s.up (clusterIsland k) = true ∧ canIssue k h s = true ∧ inRegion k h s = true ∧ goodFetch k h s = true ∧
  imemWord k (s.thread k h).pc s = w ∧ legalWord w = true ∧ opcOf w = o

/-- Register r holds v, g0 still 0, and every other register of the thread is as before (R122). -/
def Sets (k h r v : Nat) (s t : State) : Prop :=
  readG k h r t = (if r = 0 then 0 else v % 2 ^ 32) ∧ ∀ x, x ≠ r → readG k h x t = readG k h x s

/-- The thread's next PC is pc, its instruction lasted cyc cycles, and no other thread has changed (R122, R123). -/
def Retired (k h pc cyc : Nat) (s t : State) : Prop :=
  (t.thread k h).pc = pc % 16384 ∧ (t.cluster k).cycle = (s.cluster k).cycle + cyc ∧
  ∀ y, y ≠ k * 4 + h → Tbl.get {} t.threads y = Tbl.get {} s.threads y

/-- What an instruction that works on its thread's registers alone leaves unchanged; a trace may drop a sample (R147). -/
def ThreadOnly (k : Nat) (s t : State) : Prop :=
  Touches [.mem, .pmu, .threads, .clusters] [(GSQ.TRACE_DROP_CNT, k, 0)] s t

/-- An arithmetic instruction: its destination takes v (R127). -/
def Computed (k h w v cyc : Nat) (s t : State) : Prop :=
  Sets k h (rdOf w) v s t ∧ Retired k h ((s.thread k h).pc + 1) cyc s t ∧ ThreadOnly k s t

/-- A branch or jump to pc (R127). -/
def Jumped (k h pc cyc : Nat) (s t : State) : Prop :=
  (∀ x, readG k h x t = readG k h x s) ∧ Retired k h pc cyc s t ∧ ThreadOnly k s t

/-- A primitive whose arguments are refused: counted, with cause 27 and status ARG, and no register written (R128). -/
def ArgRefused (k h cyc : Nat) (s t : State) : Prop :=
  (t.thread k h).st = 9 ∧ (∀ x, readG k h x t = readG k h x s) ∧ Counted GSQ.ARG_CNT k s t ∧ Raised (128 + k) 27 t ∧
  Retired k h ((s.thread k h).pc + 1) cyc s t ∧
  Touches (.mem :: .threads :: .clusters :: signals) [(GSQ.ARG_CNT, k, 0), (GSQ.TRACE_DROP_CNT, k, 0)] s t

/-- The thread has stopped with the code, its PC on the instruction (R140). -/
def Stopped (k h code : Nat) (s t : State) : Prop :=
  (t.thread k h).state = .fault ∧ (t.thread k h).fcode = code ∧ (t.thread k h).pc = (s.thread k h).pc ∧
  (∀ x, readG k h x t = readG k h x s) ∧ Counted GSQ.FAULT_CNT k s t ∧ Raised (128 + k) (16 + h) t ∧
  Touches (.mem :: .freeCount :: .threads :: .clusters :: signals) [(GSQ.FAULT_CNT, k, 0), (GSQ.TRACE_DROP_CNT, k, 0)] s t

end Sys2Proof.Machine
end

