-- ==== Sys2Proof/Certificates/Slice0/Obligations.lean ====
section
/-!
DEFINITION. The statements for the provers.
-/

section

open Sys2Proof Sys2Proof.Machine

/-- The command at the front of the queue is what a step runs, on the rest of the queue; with an empty queue 1 ns passes (log
entry 2: the model's choice), PTP time advances by it where no correction is in progress, and nothing else changes while no
event relay waits. -/
def Obligations.StepRunsFront : Prop :=
  (∀ (c : Instr) (l : List Instr) (s : State),
    step { s with pending := c :: l } = exec c { s with pending := l }) ∧
  (∀ (s : State), s.pending = [] → ∃ t, step s = .next t ∧ t.pending = [] ∧ t.clk = s.clk + 1 ∧
    (s.ev.relay = [] → Touches (.pmu :: clocks) [] s t) ∧
    (s.ev.relay = [] → freqNow s = 0 → s.tim.slew = 0 → 0 ≤ s.tim.freqRem → s.tim.freqRem < 1000000000 →
      s.ptpFrac < 65536 → t.ptp = s.ptp + 1 ∧ t.ptpFrac = s.ptpFrac))

/-- R8, R322: what reset leaves. Every register and table word at its reset value, every island in reset, the role undefined, no
privilege, no session, no command waiting. The values of words to which the spec gives no reset value (log entry 4) are not
in this statement but through the reset value of their key. -/
def Obligations.ResetState : Prop :=
  (∀ k : Key, State.reset.get k = k.reset) ∧ (∀ i, State.reset.up i = false) ∧
  role State.reset = 0 ∧ privileged State.reset = false ∧ State.reset.pending = [] ∧
  (∀ i, (State.reset.session i).state = .closed) ∧ State.reset.ev.pending = [] ∧
  rd SYS.CTL_HB_MISS 0 State.reset = 3 ∧ rd SYS.CTL_HB_MS 0 State.reset = 10 ∧
  (∀ (n : Fin 48) (x : Fin 512), rdx PRESET.AGE n x State.reset = 15)

/-- The register and table words stay in their canonical form: keys strictly rising, no word listed at its reset value. -/
def Obligations.CanonicalKept : Prop :=
  (∀ (s t : State), step s = .next t → s.canonical = true → t.canonical = true)

/-- No command touches the queue; time does not run back; no free value (log entry 5) is drawn twice. -/
def Obligations.QueueAndTime : Prop :=
  (∀ (c : Instr) (s t : State), exec c s = .next t →
    t.pending = s.pending ∧ s.clk ≤ t.clk ∧ s.freeCount ≤ t.freeCount)

/-- What each command may change, whatever its operands and the state: the parts and the register and table spaces that `reachOf`
names for it and nothing else. A command of `wideCommand` (a reset, the loss of a feed or clock, a register access, a packet, a
record) may change any; one of `tableCommand` any table word, but only the parts named. -/
def Obligations.EveryCommandsFrame : Prop :=
  (∀ (c : Instr) (s t : State), exec c s = .next t → wideCommand c = false →
    (∀ p : Part, p ∉ (reachOf c).1 → p.same s t) ∧
    (tableCommand c = false → ∀ k : Key, k.sp ∉ eventSpaces ++ (reachOf c).2 → t.get k = s.get k))

/-- R13, R334: every command is answered by a next state, whatever its operands and the state; a command on an island in reset is
answered by the island's wrapper and has no other effect. -/
def Obligations.EveryCommandAnswers : Prop :=
  (∀ (c : Instr) (s : State), ∃ t, exec c s = .next t) ∧
  (∀ (c : Instr) (j : Nat) (s : State), homeIsland c = some j → s.up j = false →
    exec c s = .next (wrapperAnswer j s))

/-- The register and table words are in their canonical form at reset. -/
def Obligations.CanonicalAtReset : Prop :=
  State.reset.canonical = true

/-- R19, R22, R23, R32, R39, R40: the transmitter's commands, and the preset table. From IDLE a write of RUN sets TX_MODE
and starts the exit sequence where the transmit island is up; the end of the sequence, 205.1 ns later (206 ns of the model's
clock, log entry 2), sets TX_STATE and raises cause 13; a write of IDLE idles the output at once and cuts the frame; FORCE takes a
listed value, 0b10 only in the test role. A write of PRESET_DATA replaces the fields above AGE and clears AGE; a read returns the word; either
advances the index, wrapping at 512, where AUTO_INC is 1. -/
def Obligations.LaneTransmit : Prop :=
  (∀ (n : Fin 48) (s : State), s.up (framingIsland n) = true → rd TLN.CTL_TX_MODE n s = 0 → s.up n = true →
    ∃ t, exec (.txModeRun n) s = .next t ∧ rd TLN.CTL_TX_MODE n t = 1 ∧ rd TLN.STS_TX_STATE n t = 1 ∧
      (t.lane n).exitStart = s.clk ∧
      Touches [.mem, .lanes] [(TLN.CTL_TX_MODE, n, 0), (TLN.STS_TX_STATE, n, 0)] s t) ∧
  (∀ (n : Fin 48) (s : State), s.up n = true → rd TLN.STS_TX_STATE n s = 1 →
    ∃ t, exec (.txExitComplete n) s = .next t ∧ rd TLN.STS_TX_STATE n t = 2 ∧ Raised (48 + n) 13 t ∧
      t.clk = max s.clk ((s.lane n).exitStart + 206) ∧
      Touches (.mem :: .clk :: .ptp :: .ptpFrac :: .tim :: signals) [(TLN.STS_TX_STATE, n, 0)] s t) ∧
  (∀ (n : Fin 48) (s : State), s.up (framingIsland n) = true →
    ∃ t, exec (.txModeIdle n) s = .next t ∧ rd TLN.CTL_TX_MODE n t = 0 ∧ rd TLN.STS_TX_STATE n t = 0 ∧
      (t.fram n).cut = true ∧ Touches [.mem, .framing] [(TLN.CTL_TX_MODE, n, 0), (TLN.STS_TX_STATE, n, 0)] s t) ∧
  (∀ (n : Fin 48) (v : BitVec 2) (s : State), s.up (framingIsland n) = true → privileged s = true → v ≠ 3 →
    (v = 2 → roleTest s = true) →
    ∃ t, exec (.txdisForceWrite n v) s = .next t ∧ rd TLN.FORCE_TXDIS_FORCE n t = v.toNat ∧
      Touches [.mem] [(TLN.FORCE_TXDIS_FORCE, n, 0)] s t) ∧
  (∀ (n : Fin 48) (w : Word) (s : State), s.up (framingIsland n) = true →
    ∃ t, exec (.presetDataAccess n (some w)) s = .next t ∧
      rdx ⟨.preset, 0, 31, 16⟩ n (rd TLN.PRESET_IDX_IDX n s) t = w.toNat / 2 ^ 16 ∧
      rdx PRESET.AGE n (rd TLN.PRESET_IDX_IDX n s) t = 0 ∧
      rd TLN.PRESET_IDX_IDX n t =
        (if on TLN.PRESET_IDX_AUTO_INC n s then (rd TLN.PRESET_IDX_IDX n s + 1) % 512 else rd TLN.PRESET_IDX_IDX n s) ∧
      Touches [.mem] [(⟨.preset, 0, 31, 16⟩, n, rd TLN.PRESET_IDX_IDX n s), (PRESET.AGE, n, rd TLN.PRESET_IDX_IDX n s),
        (TLN.PRESET_IDX_IDX, n, 0)] s t) ∧
  (∀ (n : Fin 48) (s : State), s.up (framingIsland n) = true →
    ∃ t, exec (.presetDataAccess n none) s = .next t ∧
      t.cmd.readData = rdWord .preset n (rd TLN.PRESET_IDX_IDX n s) 0 s ∧
      rd TLN.PRESET_IDX_IDX n t =
        (if on TLN.PRESET_IDX_AUTO_INC n s then (rd TLN.PRESET_IDX_IDX n s + 1) % 512 else rd TLN.PRESET_IDX_IDX n s) ∧
      Touches [.mem, .cmd] [(TLN.PRESET_IDX_IDX, n, 0)] s t)

/-- R21, R24 to R27, R29, R30, R35: selections, windows, lock and light. A usable selection joins the 4 pending ones in order, or is
dropped and counted when they are full; one that is loaded opens the window in the start mode of its entry, with the settings of
R39 and R69 and the energy TREE_SD shows by then; a window that locked and kept lock learns its phase and lock time into the entry
when it closes, a software write of the same cycle wins and is counted with cause 11. A lock marks the window and clears LOS with
cause 1 where a module is present; a burst that fails or loses lock is marked invalid and counted, and framing drops it; 16 bad or
good bursts declare or clear LOL with causes 2 and 3; LOS is declared with cause 0. -/
def Obligations.LaneWindows : Prop :=
  (∀ (n : Fin 48) (lead : Int) (sel : Selection) (rest : List Selection) (s : State), s.up (48 + n) = true →
    (s.lane n).crossing = sel :: rest → (s.lane n).pendingSel.length < 4 → 20000 ≤ lead → testing n s = false →
    ∃ t, exec (.presetSelection n lead) s = .next t ∧ (t.lane n).crossing = rest ∧
      (t.lane n).pendingSel = (s.lane n).pendingSel ++ [sel] ∧ Touches [.lanes] [] s t) ∧
  (∀ (n : Fin 48) (lead : Int) (sel : Selection) (rest : List Selection) (s : State), s.up (48 + n) = true →
    (s.lane n).crossing = sel :: rest → 4 ≤ (s.lane n).pendingSel.length → testing n s = false →
    ∃ t, exec (.presetSelection n lead) s = .next t ∧ (t.lane n).crossing = rest ∧
      (t.lane n).pendingSel = (s.lane n).pendingSel ∧ (t.lane n).dropped = (s.lane n).dropped ++ [sel] ∧
      Counted TLN.PRESET_DROP_CNT n s t ∧ Raised (48 + n) 10 t ∧
      Touches (.mem :: .lanes :: signals) [(TLN.PRESET_DROP_CNT, n, 0)] s t) ∧
  (∀ (n : Fin 48) (sel : Selection) (rest : List Selection) (s : State), s.up (48 + n) = true →
    (s.lane n).pendingSel = sel :: rest → (s.lane n).window = none → testing n s = false →
    ∃ t, exec (.selectionLoad n) s = .next t ∧ (t.lane n).pendingSel = rest ∧
      (t.lane n).window = some { startMode n sel s with
        edThresh := rd TLN.RX_EQ_ED_THRESH n s, off := !on TLN.CTL_RX_EN n s
        overrun := (s.lane n).overrunNext, energy := pinEnergy n s && on TLN.STS_SD n s, learn := on TLN.CTL_LEARN_EN n s
        lead := sampleNs (rd TLN.SD_CFG_SD_LEAD n s), lag := sampleNs (rd TLN.SD_CFG_SD_LAG n s)
        dlmWin := rd TFR.DLM_CFG_WIN n s, dlmErr := rd TFR.DLM_CFG_ERR_MAX n s, dlmWarn := rd TFR.DLM_CFG_OFS_WARN n s } ∧
      (t.fram n).due = (s.fram n).due.filter (· != sel) ∧
      Touches [.lanes, .framing] [] s t) ∧
  (∀ (n : Fin 48) (seen : CloseSeen) (next : Option Nat) (w : Win) (s : State), s.up (48 + n) = true →
    (s.lane n).window = some w → w.locked = true → w.invalid = false → w.noEntry = false →
    w.learn = true → rdx PRESET.HOLD n w.sel.index s = 0 → on TLN.CTL_STRB_EN n s = false →
    ∃ t, exec (.windowClose n seen false next) s = .next t ∧ (t.lane n).window = none ∧
      (t.lane n).goodRun = (s.lane n).goodRun + 1 ∧ (t.lane n).badRun = 0 ∧
      rdx PRESET.PHASE n w.sel.index t = seen.phase.toNat ∧ rdx PRESET.LOCK_UI n w.sel.index t = min w.lockUi 4095 ∧
      rdx PRESET.AGE n w.sel.index t = 0 ∧ (w.sel.kind = .ranging → (t.term n w.sel.index).phaseLearned = true) ∧
      Touches [.mem, .lanes, .terms] [(PRESET.PHASE, n, w.sel.index), (PRESET.LOCK_UI, n, w.sel.index),
        (PRESET.AGE, n, w.sel.index)] s t) ∧
  (∀ (n : Fin 48) (seen : CloseSeen) (next : Option Nat) (w : Win) (s : State), s.up (48 + n) = true →
    (s.lane n).window = some w → w.locked = true → w.invalid = false → w.noEntry = false →
    w.learn = true → rdx PRESET.HOLD n w.sel.index s = 0 → on TLN.CTL_STRB_EN n s = false →
    ∃ t, exec (.windowClose n seen true next) s = .next t ∧ (t.lane n).window = none ∧ Counted TLN.COLLIDE_CNT n s t ∧
      Raised (48 + n) 11 t ∧ Touches (.mem :: .lanes :: .terms :: signals) [(TLN.COLLIDE_CNT, n, 0)] s t) ∧
  (∀ (n : Fin 48) (ui : BitVec 16) (w : Win) (s : State), s.up (48 + n) = true → (s.lane n).window = some w →
    (w.sel.kind ≠ .quiet → w.locked = false ∧ w.invalid = false) → on TLN.CTL_RX_EN n s = true →
    ∃ t, exec (.lockDeclared n ui) s = .next t ∧
      (t.lane n).window = some { w with locked := true, invalid := false, lockUi := ui.toNat, energy := true } ∧
      (t.lane n).frameEnergy = true ∧ (t.lane n).darkRun = 0 ∧
      on TLN.STS_LOS n t = (on TLN.STS_LOS n s && !on TLN.STS_PRES n s) ∧
      (on TLN.STS_LOS n s = true → on TLN.STS_PRES n s = true → Raised (48 + n) 1 t) ∧
      Touches (.mem :: .lanes :: signals) [(TLN.STS_LOS, n, 0)] s t) ∧
  (∀ (n : Fin 48) (w : Win) (s : State), s.up (48 + n) = true → (s.lane n).window = some w →
    w.locked = false → w.invalid = false → w.off = false → on TLN.CTL_RX_EN n s = true → w.delimiter = none →
    ∃ t, exec (.lockFail n) s = .next t ∧ (t.lane n).window = some { w with invalid := true, energy := true } ∧
      (t.lane n).badRun = (if w.kept then 0 else (s.lane n).badRun) + 1 ∧ (t.lane n).goodRun = 0 ∧ Counted TLN.LOL_CNT n s t ∧
      Touches [.mem, .lanes, .pmu, .framing] [(TLN.LOL_CNT, n, 0)] s t) ∧
  (∀ (n : Fin 48) (w : Win) (s : State), s.up (48 + n) = true → (s.lane n).window = some w →
    w.locked = true → w.invalid = false →
    ∃ t, exec (.lockLost n) s = .next t ∧ (t.lane n).window = some { w with invalid := true, energy := true } ∧
      (t.lane n).badRun = (s.lane n).badRun + 1 ∧ (t.lane n).goodRun = 0 ∧ Counted TLN.LOL_CNT n s t ∧
      (w.delimiter.isSome = true → (t.fram n).burst = none) ∧
      Touches [.mem, .lanes, .pmu, .framing] [(TLN.LOL_CNT, n, 0)] s t) ∧
  (∀ (n : Fin 48) (s : State), s.up (48 + n) = true → 16 ≤ (s.lane n).badRun → on TLN.STS_LOL n s = false →
    ∃ t, exec (.lolDeclare n) s = .next t ∧ on TLN.STS_LOL n t = true ∧ Raised (48 + n) 2 t ∧
      Touches (.mem :: signals) [(TLN.STS_LOL, n, 0)] s t) ∧
  (∀ (n : Fin 48) (s : State), s.up (48 + n) = true → 16 ≤ (s.lane n).goodRun → on TLN.STS_LOL n s = true →
    ∃ t, exec (.lolClear n) s = .next t ∧ on TLN.STS_LOL n t = false ∧ Raised (48 + n) 3 t ∧
      Touches (.mem :: signals) [(TLN.STS_LOL, n, 0)] s t) ∧
  (∀ (n : Fin 48) (s : State), s.up (48 + n) = true → 4 ≤ (s.lane n).darkRun → on TLN.STS_LOS n s = false →
    ∃ t, exec (.losDeclare n) s = .next t ∧ on TLN.STS_LOS n t = true ∧ Counted TLN.LOS_CNT n s t ∧ Raised (48 + n) 0 t ∧
      Touches (.mem :: signals) [(TLN.STS_LOS, n, 0), (TLN.LOS_CNT, n, 0)] s t)

/-- R29, R31, R33, R37, R38: the module's pins, and the pattern tests. Insertion and removal of the module, with causes 6 and 7 and
LOS standing after both; a change of TREE_SD held for 4 samples is accepted, a shorter one is rejected and counted; 9 rejections
in 10 µs declare chattering with cause 4, and 1 ms without one clears it. A listed test MODE is taken with PATTERN and a mode
other than off closes the window, drops the burst and cuts the frame; a slip moves the receive word boundary one bit in the check
modes; lock is gained with cause 14; words with errors are counted while locked, and 4 of them lose lock with cause 15; a network
lane's checker does the same with causes 3 and 4 of its source (R283, R287). -/
def Obligations.LaneModule : Prop :=
  (∀ (n : Fin 48) (s : State), s.up (framingIsland n) = true → on TLN.STS_PRES n s = false →
    ∃ t, exec (.modulePresenceChange n true) s = .next t ∧ on TLN.STS_PRES n t = true ∧ on TLN.STS_LOS n t = true ∧
      Raised (48 + n) 6 t ∧ Touches (.mem :: signals) [(TLN.STS_PRES, n, 0), (TLN.STS_LOS, n, 0)] s t) ∧
  (∀ (n : Fin 48) (s : State), s.up (framingIsland n) = true → on TLN.STS_PRES n s = true → on TLN.STS_LOS n s = false →
    ∃ t, exec (.modulePresenceChange n false) s = .next t ∧ on TLN.STS_PRES n t = false ∧ on TLN.STS_LOS n t = true ∧
      Counted TLN.LOS_CNT n s t ∧ Raised (48 + n) 7 t ∧ Raised (48 + n) 0 t ∧
      Touches (.mem :: signals) [(TLN.STS_PRES, n, 0), (TLN.STS_LOS, n, 0), (TLN.LOS_CNT, n, 0)] s t) ∧
  (∀ (n : Fin 48) (level : Bool) (k : Nat) (s : State), s.up (framingIsland n) = true → 4 ≤ k →
    ∃ t, exec (.treeSdChange n level k) s = .next t ∧ on TLN.STS_SD n t = level ∧
      (t.lane n).rejected = (s.lane n).rejected ∧ Touches [.mem, .lanes] [(TLN.STS_SD, n, 0)] s t) ∧
  (∀ (n : Fin 48) (level : Bool) (k : Nat) (s : State), s.up (framingIsland n) = true → k < 4 →
    ∃ t, exec (.treeSdChange n level k) s = .next t ∧ Counted TLN.GLITCH_CNT n s t ∧ (t.lane n).lastRejected = s.clk ∧
      Touches [.mem, .lanes, .pmu] [(TLN.GLITCH_CNT, n, 0)] s t) ∧
  (∀ (n : Fin 48) (s : State), s.up (framingIsland n) = true → on TLN.STS_CHATTER n s = false →
    8 < ((s.lane n).rejected.filter fun t => decide (s.clk ≤ t + 10000)).length →
    ∃ t, exec (.chatterDeclare n) s = .next t ∧ on TLN.STS_CHATTER n t = true ∧ Raised (48 + n) 4 t ∧
      Touches (.mem :: signals) [(TLN.STS_CHATTER, n, 0)] s t) ∧
  (∀ (n : Fin 48) (s : State), s.up (framingIsland n) = true → on TLN.STS_CHATTER n s = true →
    ∃ t, exec (.chatterClear n) s = .next t ∧ on TLN.STS_CHATTER n t = false ∧
      t.clk = max s.clk ((s.lane n).lastRejected + 1000000) ∧
      Touches [.mem, .clk, .ptp, .ptpFrac, .tim, .pmu] [(TLN.STS_CHATTER, n, 0)] s t) ∧
  (∀ (n : Fin 48) (mode : BitVec 3) (pattern : BitVec 2) (s : State), s.up (framingIsland n) = true → mode.toNat ≤ 3 →
    ∃ t, exec (.testModeWrite n mode pattern) s = .next t ∧ rd TLN.TEST_MODE n t = mode.toNat ∧
      rd TLN.TEST_PATTERN n t = pattern.toNat ∧
      (mode.toNat ≠ 0 → (t.lane n).window = none ∧ (t.lane n).pendingSel = [] ∧ (t.fram n).burst = none ∧ (t.fram n).cut = true) ∧
      Touches [.mem, .lanes, .framing] [(TLN.TEST_MODE, n, 0), (TLN.TEST_PATTERN, n, 0), (TLN.STS_PRBS_LOCK, n, 0)] s t) ∧
  (∀ (n : Fin 48) (s : State), s.up (framingIsland n) = true → 2 ≤ rd TLN.TEST_MODE n s →
    ∃ t, exec (.testSlip n) s = .next t ∧ (t.lane n).slip = ((s.lane n).slip + 1) % 64 ∧ Touches [.lanes] [] s t) ∧
  (∀ (n : Fin 48) (s : State), s.up (48 + n) = true → 2 ≤ rd TLN.TEST_MODE n s → on TLN.STS_PRBS_LOCK n s = false →
    ∃ t, exec (.prbsLockGain (.tree n)) s = .next t ∧ on TLN.STS_PRBS_LOCK n t = true ∧ Raised (48 + n) 14 t ∧
      Touches (.mem :: signals) [(TLN.STS_PRBS_LOCK, n, 0)] s t) ∧
  (∀ (n : Fin 48) (errs : PrbsErrors) (s : State), s.up (48 + n) = true → on TLN.STS_PRBS_LOCK n s = true → 4 ≤ errs.words →
    ∃ t, exec (.prbsLockLoss (.tree n) errs) s = .next t ∧ on TLN.STS_PRBS_LOCK n t = false ∧
      rd TLN.TEST_PRBS_ERR_CNT n t = min (rd TLN.TEST_PRBS_ERR_CNT n s + errs.bits.toNat) 65535 ∧ Raised (48 + n) 15 t ∧
      Touches (.mem :: signals) [(TLN.STS_PRBS_LOCK, n, 0), (TLN.TEST_PRBS_ERR_CNT, n, 0)] s t) ∧
  (∀ (n : Fin 48) (errs : PrbsErrors) (s : State), s.up (48 + n) = true → on TLN.STS_PRBS_LOCK n s = true → errs.words < 4 →
    ∃ t, exec (.prbsLockLoss (.tree n) errs) s = .next t ∧ on TLN.STS_PRBS_LOCK n t = true ∧
      rd TLN.TEST_PRBS_ERR_CNT n t = min (rd TLN.TEST_PRBS_ERR_CNT n s + errs.bits.toNat) 65535 ∧
      Touches [.mem] [(TLN.TEST_PRBS_ERR_CNT, n, 0)] s t) ∧
  (∀ (n : Fin 32) (s : State), s.up (96 + n) = true → 2 ≤ rd NET.LANE_TEST_MODE n s → on NET.LANE_STS_PRBS_LOCK n s = false →
    ∃ t, exec (.prbsLockGain (.lane n)) s = .next t ∧ on NET.LANE_STS_PRBS_LOCK n t = true ∧ Raised (96 + n) 3 t ∧
      Touches (.mem :: signals) [(NET.LANE_STS_PRBS_LOCK, n, 0)] s t) ∧
  (∀ (n : Fin 32) (errs : PrbsErrors) (s : State), s.up (96 + n) = true → on NET.LANE_STS_PRBS_LOCK n s = true →
    4 ≤ errs.words →
    ∃ t, exec (.prbsLockLoss (.lane n) errs) s = .next t ∧ on NET.LANE_STS_PRBS_LOCK n t = false ∧
      rd NET.LANE_TEST_PRBS_ERR_CNT n t = min (rd NET.LANE_TEST_PRBS_ERR_CNT n s + errs.bits.toNat) 65535 ∧
      Raised (96 + n) 4 t ∧
      Touches (.mem :: signals) [(NET.LANE_STS_PRBS_LOCK, n, 0), (NET.LANE_TEST_PRBS_ERR_CNT, n, 0)] s t)

/-- R44, R49, R50, R52, R114: the downstream frame. A header build with the frame's map in hand builds the frame with
it, hands its windows to the lane and to the grant engine and empties the map's place; at the deadline without a map the
frame is built void, counted and raised; a codeword due with the transmit FIFO empty makes the rest of the frame idle
fill, counts its codewords and raises cause 1 of the framing source and cause 0 of the encoder's; an encoder slot gives
its codeword to the next running tree in tree order, and one that meets its encoder in reset is lost, answered by the wrapper, with
cause 1 of the encoder. -/
def Obligations.DownstreamFrame : Prop :=
  (∀ (n : Fin 48) (m : BwMap) (s : State), s.up (framingIsland n) = true → (s.fram n).built = none →
    on TFR.CTL_DS_EN n s = true → (s.fram n).mapIn = some m → m.frame = (s.fram n).frame + 1 →
    (s.fram n).voidUntil ≤ (s.fram n).frame + 1 →
    ∃ t, exec (.fsHeaderBuild n) s = .next t ∧ (t.fram n).mapIn = none ∧
      (t.fram n).built.map (fun (b : Built) => (b.frame, b.map, b.emptyHeader, b.void)) =
        some ((s.fram n).frame + 1, some m, false, false) ∧
      (t.fram n).due = (s.fram n).due ++ mapSelections (frameReference n s) m ∧ Counted TFR.FRAME_CNT n s t ∧
      (t.grant n).selections = (s.grant n).selections ++ mapSelections (frameReference n s) m) ∧
  (∀ (n : Fin 48) (s : State), s.up (framingIsland n) = true → (s.fram n).built = none →
    on TFR.CTL_DS_EN n s = true → (s.fram n).mapIn = none →
    ∃ t, exec (.mapDeadline n) s = .next t ∧
      (t.fram n).built.map (fun (b : Built) => (b.frame, b.map, b.emptyHeader, b.void)) =
        some ((s.fram n).frame + 1, none, false, true) ∧
      Counted TFR.MAP_VOID_CNT n s t ∧ Counted TFR.FRAME_CNT n s t ∧ on TFR.STS_MAP_VOID n t = true ∧ Raised n 0 t ∧
      Touches (.mem :: .framing :: signals) [(TFR.MAP_VOID_CNT, n, 0), (TFR.STS_MAP_VOID, n, 0), (TFR.FRAME_CNT, n, 0),
        (TFR.FRAG_CNT, n, 0), (TFR.PLOAM_DEFER_CNT, n, 0)] s t) ∧
  (∀ (n : Fin 48) (b : Built) (s : State), s.up (framingIsland n) = true → ((drainFifo n s).fram n).cur = some b →
    b.emptyHeader = false → ((drainFifo n s).fram n).substituting = false → ((drainFifo n s).fram n).fifo = 0 →
    ((drainFifo n s).fram n).cut = false →
    ((drainFifo n s).fram n).cwSent < 360 → rd TLN.CTL_TX_MODE n s = 1 → 0 < ((drainFifo n s).fram n).cwSent →
    ∃ t, exec (.codewordUnderrun n) s = .next t ∧ (t.fram n).substituting = true ∧ (t.fram n).cwSent = 360 ∧
      rd TFR.SUBST_CNT n t =
        min (rd TFR.SUBST_CNT n s + (360 - ((drainFifo n s).fram n).cwSent)) TFR.SUBST_CNT.max ∧
      Raised n 1 t ∧ Raised (152 + treeCluster n) 0 t) ∧
  (∀ (k : Fin 8) (i : Nat) (s : State), s.up (199 + k) = true → s.up (167 + k) = true →
    slotTree k (allOf (List.range 6) (fun i => drainFifo (6 * k + i)) s) = some i → s.up (6 * k + i) = true →
    ∃ t, exec (.encoderSlot k) s = .next t ∧ (Tbl.get {} t.encoders k).next = (i + 1) % 6 ∧
      (t.fram (6 * k + i)).fifo =
        ((allOf (List.range 6) (fun i => drainFifo (6 * k + i)) s).fram (6 * k + i)).fifo + 1 ∧
      Counted ENC.ENC_CNT k s t ∧
      ((s.fram (6 * k + i)).hdrSent = true → Touches [.mem, .pmu, .framing, .encoders] [(ENC.ENC_CNT, k, 0)] s t)) ∧
  (∀ (k : Fin 8) (i : Nat) (s : State), s.up (199 + k) = false → s.up (167 + k) = true → slotTree k s = some i →
    ∃ t, exec (.encoderSlot k) s = .next t ∧ Tbl.get 0 t.wrapped (199 + k) = Tbl.get 0 s.wrapped (199 + k) + 1 ∧
      Raised (152 + k) 1 t ∧ Touches (.wrapped :: signals) [] s t)

/-- R43, R48, R53, R69, R70: writes and reads of the framer's registers with rules of their own. FEC_EN = 1 is taken in any
role and 0 in the test role only, elsewhere refused with cause 6 of source 183; DS_EN is taken; PONID_HI makes the PON-ID
wait for the frame start; a read of SFC_LO gives the low word of the superframe counter, the frame number modulo 2^51, and
latches the high word. -/
def Obligations.FramerRegisters : Prop :=
  (∀ (n : Fin 48) (v : BitVec 1) (s : State), s.up (framingIsland n) = true → (v = 0 → roleTest s = true) →
    ∃ t, exec (.fecEnWrite n v) s = .next t ∧ rd TFR.CTL_FEC_EN n t = v.toNat ∧
      Touches [.mem] [(TFR.CTL_FEC_EN, n, 0)] s t) ∧
  (∀ (n : Fin 48) (s : State), s.up (framingIsland n) = true → roleTest s = false →
    ∃ t, exec (.fecEnWrite n 0) s = .next t ∧ Raised 183 6 t ∧ Touches (.cmd :: signals) [] s t) ∧
  (∀ (n : Fin 48) (v : BitVec 1) (s : State), s.up (framingIsland n) = true →
    ∃ t, exec (.dsEnWrite n v) s = .next t ∧ rd TFR.CTL_DS_EN n t = v.toNat ∧
      Touches [.mem] [(TFR.CTL_DS_EN, n, 0)] s t) ∧
  (∀ (n : Fin 48) (v : BitVec 19) (s : State), s.up (framingIsland n) = true →
    ∃ t, exec (.ponidHiWrite n v) s = .next t ∧ rd TFR.PONID_HI_PON_ID_HI n t = v.toNat ∧
      (t.fram n).ponidPending = true ∧ (t.fram n).ponId = (s.fram n).ponId ∧
      Touches [.mem, .framing] [(TFR.PONID_HI_PON_ID_HI, n, 0)] s t) ∧
  (∀ (n : Fin 48) (s : State), s.up (framingIsland n) = true →
    ∃ t, exec (.sfcLoRead n) s = .next t ∧ t.cmd.readData = (s.fram n).frame % 2 ^ 51 % 2 ^ 32 ∧
      rd TFR.SFC_HI_SFC_HI n t = (s.fram n).frame % 2 ^ 51 / 2 ^ 32 ∧
      Touches [.mem, .cmd] [(TFR.SFC_LO, n, 0), (TFR.SFC_HI_SFC_HI, n, 0)] s t)

/-- R27, R28, R55, R57: upstream windows. A mapped window without its selection opens in acquisition mode with the default
settings, counted with cause 10; a granted window without energy is counted as missed once; a delimiter accepted in an open
window starts its burst and its offset is stored; a granted window whose search ends without a match is judged and raises
cause 3; energy that runs on marks the open window as overrun, counted with cause 8. -/
def Obligations.UpstreamWindows : Prop :=
  (∀ (n : Fin 48) (d : Selection) (s : State), s.up (framingIsland n) = true → s.up (48 + n) = true →
    ((s.fram n).due.find? fun d => !(s.lane n).pendingSel.contains d) = some d → (s.lane n).window = none →
    testing n s = false → (s.lane n).dropped.contains d = false → (s.lane n).crossing.contains d = false →
    ∃ t, exec (.missingSelectionWindow n) s = .next t ∧
      (t.lane n).window.map (fun (w : Win) => (w.sel, w.preset, w.peak, w.gain, w.noEntry, w.overrun)) =
        some (d, false, rd TLN.RX_EQ_DEF_PEAK n s, rd TLN.RX_EQ_DEF_GAIN n s, true, (s.lane n).overrunNext) ∧
      (t.fram n).due = (s.fram n).due.filter (· != d) ∧
      Counted TLN.PRESET_DROP_CNT n s t ∧ Raised (48 + n) 10 t ∧
      Touches (.mem :: .lanes :: .framing :: signals) [(TLN.PRESET_DROP_CNT, n, 0)] s t) ∧
  (∀ (n : Fin 48) (w : Win) (s : State), s.up (framingIsland n) = true → (s.lane n).window = some w →
    w.sel.kind = .burst → w.energy = false → w.missed = false → missCounts n w.sel.index s = true →
    ∃ t, exec (.windowEnergyMiss n) s = .next t ∧ (t.lane n).window = some { w with missed := true } ∧
      Counted TLN.MISS_CNT n s t ∧ Touches [.mem, .pmu, .lanes] [(TLN.MISS_CNT, n, 0)] s t) ∧
  (∀ (n : Fin 48) (seen : DelimiterSeen) (ofs : Int) (w : Win) (s : State), s.up (framingIsland n) = true →
    (s.lane n).window = some w → on TFR.CTL_US_EN n s = true → w.invalid = false → w.sel.kind = .burst → w.judged = false →
    w.overrun = false → bestMatch w seen = some ofs →
    ∃ t, exec (.delimiterAccept n seen) s = .next t ∧ rdx TFRT.DLM_OFS n w.sel.index t = unsigned 8 ofs ∧
      (t.lane n).window = some { w with judged := true, delimiter := some (unsigned 8 ofs) } ∧
      (t.fram n).burst = some (burstOf n w s) ∧ (t.fram n).burstNo = (s.fram n).burstNo + 1 ∧
      Counted TFR.BURST_CNT n s t ∧
      (roleStandby s = true →
        Touches [.mem, .pmu, .lanes, .framing] [(TFR.BURST_CNT, n, 0), (TFRT.DLM_OFS, n, w.sel.index)] s t)) ∧
  (∀ (n : Fin 48) (w : Win) (s : State), s.up (framingIsland n) = true → (s.lane n).window = some w →
    on TFR.CTL_US_EN n s = true → w.sel.kind = .burst → w.judged = false → w.overrun = false →
    (s.term n w.sel.index).trial = none → missCounts n w.sel.index s = true →
    ∃ t, exec (.delimiterMiss n) s = .next t ∧ (t.lane n).window = some { w with judged := true } ∧
      Counted TFR.DLM_MISS_CNT n s t ∧ Raised n 3 t ∧
      rdx TFRT.DLM_MISS n w.sel.index t = min (rdx TFRT.DLM_MISS n w.sel.index s + 1) TFRT.DLM_MISS.max ∧
      (t.fram n).burst = none ∧
      Touches (.mem :: .lanes :: .framing :: .terms :: signals) [(TFR.DLM_MISS_CNT, n, 0), (TFRT.DLM_MISS, n, w.sel.index),
        (ACTT.LOB_RUN, n, w.sel.index)] s t) ∧
  (∀ (n : Fin 48) (w : Win) (s : State), s.up (framingIsland n) = true → (s.lane n).window = some w →
    ∃ t, exec (.burstOverrun n) s = .next t ∧ (t.lane n).window = some { w with overrun := true } ∧
      (t.actOf n).overruns = ((s.actOf n).overruns.filter fun f => decide ((s.fram n).frame < f + 8)) ++ [(s.fram n).frame] ∧
      Counted TFR.OVERRUN_CNT n s t ∧ Raised n 8 t ∧
      Touches (.mem :: .lanes :: .act :: signals) [(TFR.OVERRUN_CNT, n, 0)] s t)

/-- R61 to R66: the decoder pool. A completed codeword of a burst with FEC joins its group's queue in order of completion and
tree, the burst's granted bits running out with it; a free decoder takes the oldest
waiting codeword; the result of a codeword leaves its decoder and is counted; the oldest codeword past MAX_AGE is discarded
with cause 17; a failed check marks its decoder failed and takes it out of service, a passed one returns it; DEC_EN 0 takes an
idle decoder out, DEC_EN 1 clears its failed mark. -/
def Obligations.DecoderPool : Prop :=
  (∀ (n : Fin 48) (bits : BitVec 15) (first last : Bool) (b : BurstRx) (s : State), s.up (framingIsland n) = true →
    (s.fram n).burst = some b → on TFR.CTL_US_EN n s = true → b.fec = true →
    ∃ t, exec (.codewordQueued n bits first last) s = .next t ∧
      Tbl.get [] t.pool.queue (treeCluster n) =
        insertCw { tree := n, term := b.term, bits := min bits.toNat b.left, first := first, last := last, kind := b.kind,
                   burst := b.no, lockUi := b.lockUi, frame := b.frame, pos := b.pos, done := decoderCycle s }
          (Tbl.get [] s.pool.queue (treeCluster n)) ∧
      (t.fram n).burst = (if last = true ∨ b.left ≤ bits.toNat then none else some { b with left := b.left - bits.toNat }) ∧
      Touches [.pool, .framing] [] s t) ∧
  (∀ (c : Cw) (s : State), s.up 183 = true → oldestHead s = some c → on POOL.DP_CTL_ST_EN 0 s = false →
    ((List.range 16).filter fun j => inService j s && decEnabled j s && !s.pool.leaving.contains j && !inCheck j s &&
      decide (busyUntil j s ≤ decoderCycle s + 4)) = [0] →
    ((List.range 16).filter fun j => s.pool.out.contains j && s.up (183 + j) && decEnabled j s &&
      !s.pool.failed.contains j && !inCheck j s && decide (busyUntil j s ≤ decoderCycle s)) = [] →
    ∃ t, exec .decoderDispatch s = .next t ∧
      Tbl.get [] t.pool.queue (treeCluster c.tree) = (Tbl.get [] s.pool.queue (treeCluster c.tree)).drop 1 ∧
      Tbl.get 0 t.pool.busy 0 = max (decoderCycle s + 4) (busyUntil 0 s) + (c.bits + 127) / 128 ∧
      Keeps (partMask (.mem :: .pool :: signals)) s t) ∧
  (∀ (j : Fin 16) (e : Nat) (s : State), s.up (183 + j) = true → Tbl.get none s.pool.check j = some e →
    s.pool.out.contains j = true → s.pool.failed.contains j = false →
    ∃ t, exec (.kvCheckDone j false) s = .next t ∧ t.pool.failed = s.pool.failed ++ [j.val] ∧
      Tbl.get none t.pool.check j = none ∧ Counted DEC.DEC_KV_FAIL j s t ∧ Raised (136 + j) 0 t ∧
      Touches (.mem :: .clk :: .ptp :: .ptpFrac :: .tim :: .pool :: signals) [(DEC.DEC_KV_FAIL, j, 0)] s t) ∧
  (∀ (j : Fin 16) (e : Nat) (s : State), s.up (183 + j) = true → Tbl.get none s.pool.check j = some e →
    decEnabled j s = true →
    ∃ t, exec (.kvCheckDone j true) s = .next t ∧ t.pool.out = s.pool.out.filter (· != j.val) ∧
      t.pool.failed = s.pool.failed ∧ t.clk = max s.clk (cycleNs e) ∧
      Touches [.pmu, .clk, .ptp, .ptpFrac, .tim, .pool] [] s t) ∧
  (∀ (j : Fin 16) (r : CwResult) (c : Cw) (e : Nat) (rest : List (Cw × Nat)) (s : State), s.up (183 + j) = true →
    Tbl.get [] s.pool.holding j = (c, e) :: rest → decEnabled j s = true → s.up (framingIsland c.tree) = true →
    ∃ t, exec (.codewordDecoded (.decoder j) r) s = .next t ∧ Tbl.get [] t.pool.holding j = rest ∧
      Counted DEC.DEC_CNT j s t ∧ t.clk = max s.clk (cycleNs (e + 64)) ∧
      (r.ok = false → Raised c.tree 5 t ∧ Counted TFR.CW_UNCORR_CNT c.tree s t)) ∧
  (∀ (c : Cw) (s : State), s.up 183 = true → oldestHead s = some c → s.up (framingIsland c.tree) = true →
    ∃ t, exec .codewordAgeDiscard s = .next t ∧
      Tbl.get [] t.pool.queue (treeCluster c.tree) = (Tbl.get [] s.pool.queue (treeCluster c.tree)).drop 1 ∧
      t.clk = max s.clk (cycleNs (c.done + rd POOL.DP_CFG_MAX_AGE 0 s * 10)) ∧ Counted POOL.DP_HIST5 0 s t ∧
      Counted TFR.CW_UNCORR_CNT c.tree s t ∧ Raised 136 17 t ∧ Raised c.tree 5 t) ∧
  (∀ (j : Fin 16) (s : State), s.up 183 = true → decEnabled j s = false →
    ∃ t, exec (.decEnWrite j true) s = .next t ∧ decEnabled j t = true ∧
      t.pool.failed = s.pool.failed.filter (· != j.val) ∧ Touches [.mem, .pool] [(POOL.DP_CTL_DEC_EN, 0, 0)] s t) ∧
  (∀ (j : Fin 16) (s : State), s.up 183 = true → decEnabled j s = true → busyUntil j s ≤ decoderCycle s →
    inCheck j s = false → s.pool.out.contains j.val = false → Tbl.get [] s.pool.holding j = [] →
    ∃ t, exec (.decEnWrite j false) s = .next t ∧ rd POOL.DP_CTL_DEC_EN 0 t = rd POOL.DP_CTL_DEC_EN 0 s - 2 ^ j.val ∧
      t.pool.out = s.pool.out ++ [j.val] ∧
      Touches (.mem :: .pool :: signals) [(POOL.DP_CTL_DEC_EN, 0, 0)] s t)

/-- R60, R67, R68: degraded signal and reassembly timeouts. A window that has lasted MAX_WIN is judged and closes; DECL_N
windows above declare DEG with cause 6 and CLR_N below clear it with cause 7; a write of DEG_CFG closes every open window of
the tree without judging it; DEG_EN 0 clears every DEG of the tree; a context without a fragment for REASM_TO frames is
discarded, counted and raised as cause 9. -/
def Obligations.DegradedSignal : Prop :=
  (∀ (n : Fin 48) (k : BitVec 9) (s : State), s.up (framingIsland n) = true → (s.term n k.toNat).degOpen = true →
    ∃ t, exec (.degWindowTimeout n k) s = .next t ∧ (t.term n k.toNat).degOpen = false ∧
      t.clk = max s.clk ((s.term n k.toNat).degStart + rd TFR.DEG_CFG_MAX_WIN n s * 100000000) ∧
      Touches [.mem, .pmu, .clk, .ptp, .ptpFrac, .tim, .terms]
        [(TFRT.DECL_RUN, n, k.toNat), (TFRT.CLR_RUN, n, k.toNat)] s t) ∧
  (∀ (n : Fin 48) (k : BitVec 9) (s : State), s.up (framingIsland n) = true → rdx TFRT.DEG n k.toNat s = 0 →
    on TFR.CTL_DEG_EN n s = true → rd TFR.DEG_CFG_DECL_N n s ≤ rdx TFRT.DECL_RUN n k.toNat s →
    ∃ t, exec (.degDeclare n k) s = .next t ∧ rdx TFRT.DEG n k.toNat t = 1 ∧ Raised n 6 t ∧
      Touches (.mem :: signals) [(TFRT.DEG, n, k.toNat)] s t) ∧
  (∀ (n : Fin 48) (k : BitVec 9) (s : State), s.up (framingIsland n) = true → rdx TFRT.DEG n k.toNat s = 1 →
    rd TFR.DEG_CFG_CLR_N n s ≤ rdx TFRT.CLR_RUN n k.toNat s →
    ∃ t, exec (.degClear n k) s = .next t ∧ rdx TFRT.DEG n k.toNat t = 0 ∧ Raised n 7 t ∧
      Touches (.mem :: signals) [(TFRT.DEG, n, k.toNat)] s t) ∧
  (∀ (n : Fin 48) (w : Word) (k : Nat) (s : State), s.up (framingIsland n) = true → k < 512 →
    (s.term n k).degOpen = true →
    ∃ t, exec (.degCfgWrite n w) s = .next t ∧ (t.term n k).degOpen = false ∧ (t.term n k).degBits = 0 ∧
      (∀ x, rdx TFRT.DECL_RUN n x t = rdx TFRT.DECL_RUN n x s) ∧ (∀ x, rdx TFRT.DEG n x t = rdx TFRT.DEG n x s)) ∧
  (∀ (n : Fin 48) (k : Nat) (s : State), s.up (framingIsland n) = true → k ∈ degTerms n s →
    ∃ t, exec (.degEnClear n) s = .next t ∧ rdx TFRT.DEG n k t = 0 ∧ rd TFR.CTL_DEG_EN n t = 0 ∧
      Within [.mem] [.tfr, .tfrT] s t) ∧
  (∀ (n : Fin 48) (p : BitVec 16) (c : Reasm) (s : State), s.up (framingIsland n) = true →
    contextOf n p.toNat s = some c → rd TFR.US_CFG_REASM_TO n s ≤ c.age →
    ∃ t, exec (.reasmTimeout n p) s = .next t ∧ contextOf n p.toNat t = none ∧ Counted TFR.REASM_TO_CNT n s t ∧
      Raised n 9 t)

/-- R74, R77 to R80, R83 to R85: the life of a terminal on a unit that is ACTIVE or in the test role. An admitted serial number takes its
record to RANGING with a brood entry, an Assign_ONU-ID in the high queue and cause 12; a Registration within reach writes the
equalization delay and queues Ranging_Time; a round without one fails, and LOST that lasts or a Dying_Gasp ends, in
deactivation, with causes 16, 22 and 23; missed windows make an OPERATING record LOST with cause 20. -/
def Obligations.TerminalLife : Prop :=
  (∀ (n : Fin 48) (r : SerialResponse) (o e : Nat) (s : State), s.up (framingIsland n) = true → (roleActive s || roleTest s) = true →
    snMatch n r.vendor.toNat r.vssn.toNat s = [] → on ACT.CTL_ACT_EN n s = true → rd ACT.CTL_ADMIT n s ≠ 0 →
    smokerRunning n s = false → broodFree n s = some e → admitRecord n r.vendor.toNat r.vssn.toNat s = some o →
    windowStart n r.grant s ≠ none → (s.actOf n).high.length < 32 → (s.actOf n).holding = [] → o < 512 →
    ∃ t, exec (.serialNumberOnu n r) s = .next t ∧ rdx ACTT.STATE n o t = 1 ∧ rdx ACTT.SN_VENDOR n o t = r.vendor.toNat ∧
      rdx ACTT.SN_VSSN n o t = r.vssn.toNat ∧ rdx BROOD.VALID n e t = 1 ∧
      (t.actOf n).high = (s.actOf n).high ++
        [{ kind := .assignOnuId, onu := o, vendor := r.vendor.toNat, vssn := r.vssn.toNat, moves := true }] ∧
      Counted ACT.SN_RX_CNT n s t ∧ Raised n 12 t) ∧
  (∀ (n : Fin 48) (o : BitVec 9) (a : Nat) (g : GrantRef) (st e : Nat) (s : State), s.up (framingIsland n) = true →
    (roleActive s || roleTest s) = true → windowStart n g s = some st → broodOf n o.toNat s = some e → termState n o.toNat s = 1 → rdx BROOD.PHASE n e s = 1 →
    (s.term n o.toNat).deactivating = false →
    reachOk n o.toNat ((64 * rd TFR.US_CFG_URO n s : Nat) -
      (((a * 2 ^ rdx ACTT.RATE n o.toNat s : Nat) : Int) - (64 * st : Nat)))
      ((s.term n o.toNat).rngCfg % 2 ^ 10) s = true →
    ∃ t, exec (.registration n o a g) s = .next t ∧ rdx BROOD.PHASE n e t = 2 ∧ (t.term n o.toNat).hasEqd = true ∧
      rdx ACTT.EQD n o.toNat t = (((64 * rd TFR.US_CFG_URO n s : Nat) : Int) -
        (((a * 2 ^ rdx ACTT.RATE n o.toNat s : Nat) : Int) - (64 * st : Nat))).toNat % 2 ^ (ACTT.EQD.hi - ACTT.EQD.lo + 1)) ∧
  (∀ (n : Fin 48) (o : BitVec 9) (e k : Nat) (s : State), s.up (framingIsland n) = true → (roleActive s || roleTest s) = true →
    broodOf n o.toNat s = some e → (s.term n o.toNat).rngEnd = some k → termState n o.toNat s = 1 →
    rdx BROOD.PHASE n e s = 1 → (s.term n o.toNat).deactivating = false →
    ∃ t, exec (.rangingTimeout n o) s = .next t ∧ (t.term n o.toNat).deactivating = true ∧
      (t.term n o.toNat).key = none ∧ Counted ACT.RNG_FAIL_CNT n s t ∧ Counted ACT.DEACT_CNT n s t ∧ Raised n 16 t ∧
      Raised n 22 t ∧ t.clk = (passToFrame (frameT0 (k + 1) + uroNs n s) s).clk) ∧
  (∀ (n : Fin 48) (o : BitVec 9) (s : State), s.up (framingIsland n) = true → (roleActive s || roleTest s) = true →
    termState n o.toNat s = 2 → (s.term n o.toNat).lobDue = true →
    (s.term n o.toNat).deactivating = false →
    ∃ t, exec (.lobDeclare n o) s = .next t ∧ termState n o.toNat t = 3 ∧ (t.term n o.toNat).lostFrames = 0 ∧
      Counted ACT.LOB_CNT n s t ∧ Raised n 20 t) ∧
  (∀ (n : Fin 48) (o : BitVec 9) (s : State), s.up (framingIsland n) = true → (roleActive s || roleTest s) = true →
    termState n o.toNat s = 3 → rd ACT.LOB_CFG_LOB_HOLD n s ≤ (s.term n o.toNat).lostFrames →
    (s.term n o.toNat).deactivating = false →
    ∃ t, exec (.lobHoldExpiry n o) s = .next t ∧ (t.term n o.toNat).deactivating = true ∧
      (t.term n o.toNat).key = none ∧ Counted ACT.DEACT_CNT n s t ∧ Raised n 22 t) ∧
  (∀ (n : Fin 48) (o : BitVec 9) (s : State), s.up (framingIsland n) = true → (roleActive s || roleTest s) = true →
    termState n o.toNat s ≠ 0 → termState n o.toNat s ≠ 4 → (s.term n o.toNat).deactivating = false →
    ∃ t, exec (.dyingGasp n o) s = .next t ∧ (t.term n o.toNat).deactivating = true ∧
      (t.term n o.toNat).key = none ∧ Counted ACT.DEACT_CNT n s t ∧ Raised n 23 t ∧ Raised n 22 t)

/-- R86: the commands of software on a terminal. A command that applies leaves OP and TERM in TCMD with GO and ERR clear and
queues its message; a re-range takes the record back to RANGING with a brood entry; one whose precondition fails sets ERR and
raises cause 30. -/
def Obligations.TerminalCommands : Prop :=
  (∀ (n : Fin 48) (o : BitVec 9) (s : State), s.up (framingIsland n) = true → termState n o.toNat s ≠ 0 →
    termState n o.toNat s ≠ 4 → (s.term n o.toNat).deactivating = false →
    ∃ t, exec (.tcmdDeactivate n o) s = .next t ∧ rd ACT.TCMD_OP n t = 0 ∧ rd ACT.TCMD_TERM n t = o.toNat ∧
      rd ACT.TCMD_ERR n t = 0 ∧ rd ACT.TCMD_GO n t = 0 ∧ (t.term n o.toNat).deactivating = true ∧
      Counted ACT.DEACT_CNT n s t ∧ Raised n 22 t) ∧
  (∀ (n : Fin 48) (o : BitVec 9) (s : State), s.up (framingIsland n) = true → termState n o.toNat s ≠ 0 →
    (s.actOf n).smoker = none → (s.actOf n).high.length < 32 → (s.actOf n).holding = [] →
    ∃ t, exec (.tcmdDisable n o) s = .next t ∧ rd ACT.TCMD_OP n t = 1 ∧ rd ACT.TCMD_TERM n t = o.toNat ∧
      rd ACT.TCMD_ERR n t = 0 ∧ rd ACT.TCMD_GO n t = 0 ∧
      (t.actOf n).high = (s.actOf n).high ++ [{ smokerMessage n .disable o.toNat s with moves := true }] ∧
      Touches [.mem, .act] [(ACT.TCMD_OP, n, 0), (ACT.TCMD_TERM, n, 0), (ACT.TCMD_ERR, n, 0), (ACT.TCMD_GO, n, 0)] s t) ∧
  (∀ (n : Fin 48) (o : BitVec 9) (s : State), s.up (framingIsland n) = true → termState n o.toNat s = 4 →
    (s.actOf n).smoker = none → (s.actOf n).high.length < 32 → (s.actOf n).holding = [] →
    ∃ t, exec (.tcmdEnable n o) s = .next t ∧ rd ACT.TCMD_OP n t = 2 ∧ rd ACT.TCMD_TERM n t = o.toNat ∧
      rd ACT.TCMD_ERR n t = 0 ∧ rd ACT.TCMD_GO n t = 0 ∧
      (t.actOf n).high = (s.actOf n).high ++ [{ smokerMessage n .enable o.toNat s with moves := true }] ∧
      Touches [.mem, .act] [(ACT.TCMD_OP, n, 0), (ACT.TCMD_TERM, n, 0), (ACT.TCMD_ERR, n, 0), (ACT.TCMD_GO, n, 0)] s t) ∧
  (∀ (n : Fin 48) (o : BitVec 9) (s : State), s.up (framingIsland n) = true → termState n o.toNat s ≠ 4 →
    ∃ t, exec (.tcmdEnable n o) s = .next t ∧ rd ACT.TCMD_OP n t = 2 ∧ rd ACT.TCMD_ERR n t = 1 ∧ rd ACT.TCMD_GO n t = 0 ∧
      Raised n 30 t ∧ (t.actOf n) = (s.actOf n) ∧
      Touches (.mem :: .cmd :: signals) [(ACT.TCMD_OP, n, 0), (ACT.TCMD_TERM, n, 0), (ACT.TCMD_ERR, n, 0),
        (ACT.TCMD_GO, n, 0)] s t) ∧
  (∀ (n : Fin 48) (o : BitVec 9) (e : Nat) (s : State), s.up (framingIsland n) = true → broodFree n s = some e →
    termState n o.toNat s = 2 → (s.actOf n).smoker = none →
    ∃ t, exec (.tcmdReRange n o) s = .next t ∧ rd ACT.TCMD_OP n t = 3 ∧ rd ACT.TCMD_TERM n t = o.toNat ∧
      rd ACT.TCMD_ERR n t = 0 ∧ rd ACT.TCMD_GO n t = 0 ∧ termState n o.toNat t = 1 ∧ rdx BROOD.VALID n e t = 1 ∧
      rdx BROOD.PHASE n e t = 1 ∧ (t.term n o.toNat).hasEqd = false ∧
      (t.term n o.toNat).rngEnd = some ((s.fram n).frame + rd ACT.RNG_CFG_RNG_TO n s)) ∧
  (∀ (n : Fin 48) (o : BitVec 9) (s : State), s.up (framingIsland n) = true → (s.actOf n).smoker = none →
    (s.actOf n).high.length < 32 → (s.actOf n).holding = [] →
    ∃ t, exec (.tcmdEnableAll n o) s = .next t ∧ rd ACT.TCMD_OP n t = 4 ∧ rd ACT.TCMD_ERR n t = 0 ∧
      rd ACT.TCMD_GO n t = 0 ∧
      (t.actOf n).high = (s.actOf n).high ++ [{ kind := .enableAll, onu := 0x3FF, moves := true }] ∧
      Touches [.mem, .act] [(ACT.TCMD_OP, n, 0), (ACT.TCMD_TERM, n, 0), (ACT.TCMD_ERR, n, 0), (ACT.TCMD_GO, n, 0)] s t)

/-- R34, R88 to R90, R92 to R96: messages, keys, time of day and rogue control. An upstream PLOAM whose check fails is counted
with cause 24, after an overlap as a collision too; one that passes is the host's, in the lowest session open for it, or is what
the three commands of ACT's own kinds act on; the fourth word of KEY_DATA commits a terminal's key; a request for the time of day is answered with T_N; an
enabled criterion that is met raises cause 27; a frame that could not be judged is counted against the smoker, and one that has
been stopped ends after its round, uncounted; a write of SMK_EN 0 is taken at the next frame start (FrameStart states it); a tree
stuck lit raises cause 5 of its lane. -/
def Obligations.PloamAndRogue : Prop :=
  (∀ (n : Fin 48) (o : BitVec 9) (k : UpKind) (v : Bool) (body : List Byte) (s : State), s.up (framingIsland n) = true →
    (roleActive s || roleTest s) = true →
    ∃ t, exec (.ploamUpstream n o k { ok := false, overlap := v } body) s = .next t ∧ Counted ACT.MIC_ERR_CNT n s t ∧
      (v = true → Counted ACT.SN_COLL_CNT n s t) ∧
      rdx ACTT.MIC_ERR n o.toNat t = min (rdx ACTT.MIC_ERR n o.toNat s + 1) ACTT.MIC_ERR.max ∧ Raised n 24 t ∧
      Touches (.mem :: signals) ((if v then [(ACT.SN_COLL_CNT, n.val, 0)] else []) ++
        [(ACT.MIC_ERR_CNT, n.val, 0), (ACTT.MIC_ERR, n.val, o.toNat)]) s t) ∧
  (∀ (n : Fin 48) (o : BitVec 9) (v : Bool) (body : List Byte) (s : State), s.up (framingIsland n) = true →
    (roleActive s || roleTest s) = true → openSession SESS.CTL_PLU_EN s = none →
    ∃ t, exec (.ploamUpstream n o .other { ok := true, overlap := v } body) s = .next t ∧ Counted ACT.PLU_DROP_CNT n s t ∧ Raised n 31 t ∧
      Touches (.mem :: signals) [(ACT.PLU_DROP_CNT, n, 0)] s t) ∧
  (∀ (n : Fin 48) (w : Word) (s : State), s.up (framingIsland n) = true → privileged s = true →
    rd ACT.KEY_IDX_WORD n s = 3 →
    ∃ t, exec (.ploamKeyCommit n w) s = .next t ∧
      (t.term n (rd ACT.KEY_IDX_TERM n s)).key = some (Tbl.get 0 (s.actOf n).keyStage 0 * 2 ^ 96 +
        Tbl.get 0 (s.actOf n).keyStage 1 * 2 ^ 64 + Tbl.get 0 (s.actOf n).keyStage 2 * 2 ^ 32 + w.toNat)) ∧
  (∀ (n : Fin 48) (w : Word) (s : State), s.up (framingIsland n) = true → privileged s = false →
    ∃ t, exec (.ploamKeyCommit n w) s = .next t ∧ t.terms = s.terms ∧ t.act = s.act ∧ Counted CMD.GUARD_CNT 0 s t ∧
      Raised 183 4 t ∧ Touches (.mem :: .cmd :: signals) [(CMD.GUARD_CNT, 0, 0)] s t) ∧
  (∀ (n : Fin 48) (v : BitVec 19) (s : State), s.up (framingIsland n) = true →
    ∃ t, exec (.todRequest n v) s = .next t ∧ rd ACT.TOD_N_HI_N_HI n t = v.toNat ∧ (t.actOf n).todBusy = true ∧
      Touches [.mem, .act] [(ACT.TOD_N_HI_N_HI, n, 0)] s t) ∧
  (∀ (n : Fin 48) (x : Nat) (s : State), s.up (framingIsland n) = true → (s.actOf n).todBusy = true →
    x = ((frameT0 (rd ACT.TOD_N_HI_N_HI n s * 2 ^ 32 + rd ACT.TOD_N_LO n s) : Nat) -
      (s.tim.frErr + 32768) / 65536).toNat →
    ∃ t, exec (.todDone n) s = .next t ∧ (t.actOf n).todBusy = false ∧
      rd ACT.TOD_SEC n t = x / 1000000000 % 2 ^ 32 ∧ rd ACT.TOD_NS_NS n t = x % 1000000000 ∧
      Touches [.mem, .act] [(ACT.TOD_SEC, n, 0), (ACT.TOD_NS_NS, n, 0), (ACT.TOD_SEC_HI_SEC_HI, n, 0)] s t) ∧
  (∀ (n : Fin 48) (c : Fin 3) (s : State), s.up (framingIsland n) = true → (roleActive s || roleTest s) = true →
    criterionEnabled n c s = true → criterionMet n c s = true → rogueFld ACT.CTL_SMK_EN n s = 0 →
    ∃ t, exec (.rogueCriterion n c) s = .next t ∧ Raised n 27 t ∧ (t.actOf n).smoker = (s.actOf n).smoker ∧
      Touches (.act :: signals) [] s t) ∧
  (∀ (n : Fin 48) (x : Smoker) (gap : GapSeen) (seen : Nat) (s : State), s.up (framingIsland n) = true →
    (roleActive s || roleTest s) = true → (s.actOf n).smoker = some x → x.phase = .observing → x.crit ≠ 1 → x.unjudged + 1 < 8 →
    gap.longest < 100 → gap.total < 100 →
    ∃ t, exec (.smokerObserve n gap seen) s = .next t ∧
      (t.actOf n).smoker = some { x with unjudged := x.unjudged + 1 } ∧ Touches [.act] [] s t) ∧
  (∀ (n : Fin 48) (x : Smoker) (gap : GapSeen) (seen : Nat) (s : State), s.up (framingIsland n) = true →
    (roleActive s || roleTest s) = true → (s.actOf n).smoker = some x → x.phase = .observing → (s.actOf n).smkStop = true →
    100 ≤ gap.longest → gap.longest ≤ gap.total →
    ∃ t, exec (.smokerObserve n gap seen) s = .next t ∧ (t.actOf n).smoker = none ∧ (t.actOf n).smkStop = false ∧
      rd ACT.SMK_CNT n t = rd ACT.SMK_CNT n s) ∧
  (∀ (n : Fin 48) (s : State), s.up (framingIsland n) = true →
    ∃ t, exec (.smokerStop n) s = .next t ∧ rd ACT.CTL_SMK_EN n t = 0 ∧ Touches [.mem] [(ACT.CTL_SMK_EN, n, 0)] s t) ∧
  (∀ (n : Fin 48) (s : State), s.up (framingIsland n) = true → 2 ≤ (s.lane n).sdRun → on TLN.STS_CHATTER n s = false →
    ∃ t, exec (.sdRogue n) s = .next t ∧ (t.actOf n).sdRogue = true ∧ (t.lane n).sdRun = 0 ∧ Raised (48 + n) 5 t ∧
      Touches (.lanes :: .act :: signals) [] s t) ∧
  (∀ (n : Fin 48) (o : BitVec 9) (k : UpKind) (v : Bool) (body : List Byte) (s : State), s.up (framingIsland n) = true →
    k ≠ .other →
    ∃ t, exec (.ploamUpstream n o k { ok := true, overlap := v } body) s = .next t ∧ t = s) ∧
  (∀ (n : Fin 48) (o : BitVec 9) (v : Bool) (body : List Byte) (i r : Nat) (p : Packet) (s : State),
    s.up (framingIsland n) = true → (roleActive s || roleTest s) = true → openSession SESS.CTL_PLU_EN s = some i →
    r = 5 + treeCluster n → (allocNow r true 64 1 (2 ^ r) s).1.isSome = true →
    p = { kind := 2, opcode := 0x81, arg0 := n, arg1 := o.toNat, session := i,
          payload := (body ++ List.replicate 48 0).take 48 } → ringRoom i p s = true →
    ∃ t, exec (.ploamUpstream n o .other { ok := true, overlap := v } body) s = .next t ∧ Responded i p t ∧
      Keeps (partMask [.mem, .ev, .sess, .pmu, .freeCount, .wrapped, .bpm]) s t)

/-- R99, R101, R102, R105, R108, R114, R119: the comb. The close of an active unit freezes the open bank, opens the other for
the next frame and sends the map to the framing island; a software write of word 0 of a cell commits it with the staged words; an
even START inside the frame, clear of fixed cells, is taken for the witness slot; word 1 of an allocation context commits its
word 0, refused with cause 11 where the Alloc-ID is mapped elsewhere; selections leave for the lane in order. -/
def Obligations.GrantEngine : Prop :=
  (∀ (n : Fin 48) (s : State), s.up (clusterIsland (treeCluster n)) = true → s.up (framingIsland n) = true →
    roleActive s = true →
    ∃ t, exec (.combClose n) s = .next t ∧ Counted GRT.CLOSE_CNT n s t ∧ (t.grant n).bank = ((s.grant n).bank + 1) % 2 ∧
      (t.grant n).openFrame = openFrame n s + 1 ∧
      (t.fram n).mapIn.map (fun (m : BwMap) => m.frame) = some (openFrame n s)) ∧
  (∀ (n : Fin 48) (w : Word) (c : Nat) (s : State), s.up (clusterIsland (treeCluster n)) = true →
    roleStandby s = false → on GRT.CELL_IDX_BANK n s = false → rd GRT.CELL_IDX_WORD n s = 0 →
    rd GRT.CELL_IDX_CELL n s = c → c ≠ 1023 → rdx CELL.FIXED (openBank n s) c s = 0 →
    w.toNat / 2 ^ 30 % 2 = 0 → w.toNat / 2 ^ 25 % 4 = 0 → (s.grant n).cell1 / 2 ^ 15 % 2 = 0 →
    (s.grant n).cell1 / 2 ^ 15 % 2 ^ 17 ≤ 97198 →
    ∃ t, exec (.cellDataWrite n w) s = .next t ∧ rdx CELL.VALID (openBank n s) c t = w.toNat / 2 ^ 31 ∧
      rdx CELL.FIXED (openBank n s) c t = 0 ∧ rdx CELL.TERM (openBank n s) c t = w.toNat / 2 ^ 14 % 2 ^ 9 ∧
      rdx CELL.ALLOC_ID (openBank n s) c t = w.toNat % 2 ^ 14 ∧ rdx CELL.WRITER (openBank n s) c t = 4 ∧
      rdx CELL.STARTTIME (openBank n s) c t = (s.grant n).cell1 / 2 ^ 15 % 2 ^ 17 ∧
      rdx CELL.GRANTSIZE (openBank n s) c t = (s.grant n).cell2 % 2 ^ 16 ∧ Within [.mem, .grt] [.cell, .grt] s t) ∧
  (∀ (n : Fin 48) (w : Word) (s : State), s.up (clusterIsland (treeCluster n)) = true →
    on GRT.CELL_IDX_BANK n s = false → rd GRT.CELL_IDX_WORD n s = 1 →
    ∃ t, exec (.cellDataWrite n w) s = .next t ∧ (t.grant n).cell1 = w.toNat ∧
      Touches [.mem, .grt] [(GRT.CELL_IDX_WORD, n, 0), (GRT.CELL_IDX_CELL, n, 0)] s t) ∧
  (∀ (n : Fin 48) (long : Bool) (v : BitVec 17) (s : State), s.up (clusterIsland (treeCluster n)) = true →
    v.toNat % 2 = 0 → v.toNat + (if long then 1024 else 512) ≤ 97200 →
    (fixedIntervals n 1023 s).any (fun i => overlaps i (v.toNat - maxGuard n s,
      v.toNat + (if long then 1024 else 512) + maxGuard n s)) = false →
    ∃ t, exec (.witCfgWrite n long v) s = .next t ∧ rd GRT.WIT_CFG_START n t = v.toNat ∧
      on GRT.WIT_CFG_LONG_SLOT n t = long ∧
      Touches [.mem] [(GRT.WIT_CFG_LONG_SLOT, n, 0), (GRT.WIT_CFG_START, n, 0)] s t) ∧
  (∀ (n : Fin 48) (long : Bool) (v : BitVec 17) (s : State), s.up (clusterIsland (treeCluster n)) = true →
    v.toNat % 2 = 1 →
    ∃ t, exec (.witCfgWrite n long v) s = .next t ∧ Counted CMD.ENC_CNT 0 s t ∧ Raised 183 3 t ∧
      rd GRT.WIT_CFG_START n t = rd GRT.WIT_CFG_START n s ∧
      Touches (.mem :: .cmd :: signals) [(CMD.ENC_CNT, 0, 0), (GRT.WIT_CFG_LONG_SLOT, n, 0)] s t) ∧
  (∀ (n : Fin 48) (w : Word) (c : Nat) (s : State), s.up (clusterIsland (treeCluster n)) = true →
    rd GRT.ALLOC_IDX_CTX n s = c → (s.grant n).alloc0 / 2 ^ 31 = 1 →
    (validIdx .ctx n 0 s).any (fun x => x != c && rdx CTX.ALLOC_ID n x s == (s.grant n).alloc0 / 2 ^ 16 % 2 ^ 14) = false →
    ∃ t, exec (.allocContextCommit n w) s = .next t ∧ rdx CTX.VALID n c t = 1 ∧
      rdx CTX.ALLOC_ID n c t = (s.grant n).alloc0 / 2 ^ 16 % 2 ^ 14 ∧ rdx CTX.TERM n c t = (s.grant n).alloc0 % 2 ^ 9 ∧
      rdx CTX.MAX_RPT n c t = w.toNat % 2 ^ 24 ∧ Within [.mem] [.ctx, .grt] s t) ∧
  (∀ (n : Fin 48) (w : Word) (c : Nat) (s : State), s.up (clusterIsland (treeCluster n)) = true →
    rd GRT.ALLOC_IDX_CTX n s = c → (s.grant n).alloc0 / 2 ^ 31 = 1 →
    (validIdx .ctx n 0 s).any (fun x => x != c && rdx CTX.ALLOC_ID n x s == (s.grant n).alloc0 / 2 ^ 16 % 2 ^ 14) = true →
    ∃ t, exec (.allocContextCommit n w) s = .next t ∧ Raised (grtSource n) 11 t ∧
      Touches (.mem :: .cmd :: signals) [(GRT.ALLOC_IDX_WORD, n, 0), (GRT.ALLOC_IDX_CTX, n, 0)] s t) ∧
  (∀ (n : Fin 48) (x : Selection) (rest : List Selection) (s : State), s.up (clusterIsland (treeCluster n)) = true →
    s.up (48 + n) = true → (s.grant n).selections = x :: rest →
    ∃ t, exec (.selectionSend n) s = .next t ∧ (t.grant n).selections = rest ∧
      (t.lane n).crossing = (s.lane n).crossing ++ [x] ∧ Touches [.grt, .lanes] [] s t)

/-- R122, R123, R125, R127: the arithmetic instructions. Each writes its result modulo 2^32 to rd, leaves every other register
and thread as it was and moves the PC by one word, in one cycle, a multiplication in three. -/
def Obligations.SequencerArithmetic : Prop :=
  (∀ (k : Fin 8) (h : Fin 4) (w : Nat) (s : State), Issues k h 0x01 w s →
    ∃ t, exec (.add k h) s = .next t ∧
      Computed k h w (readG k h (raOf w) s + readG k h (rbOf w) s) 1 s t) ∧
  (∀ (k : Fin 8) (h : Fin 4) (w : Nat) (s : State), Issues k h 0x02 w s →
    ∃ t, exec (.sub k h) s = .next t ∧
      Computed k h w (readG k h (raOf w) s + (2 ^ 32 - readG k h (rbOf w) s)) 1 s t) ∧
  (∀ (k : Fin 8) (h : Fin 4) (w : Nat) (s : State), Issues k h 0x03 w s →
    ∃ t, exec (.and k h) s = .next t ∧
      Computed k h w (readG k h (raOf w) s &&& readG k h (rbOf w) s) 1 s t) ∧
  (∀ (k : Fin 8) (h : Fin 4) (w : Nat) (s : State), Issues k h 0x04 w s →
    ∃ t, exec (.or k h) s = .next t ∧
      Computed k h w (readG k h (raOf w) s ||| readG k h (rbOf w) s) 1 s t) ∧
  (∀ (k : Fin 8) (h : Fin 4) (w : Nat) (s : State), Issues k h 0x05 w s →
    ∃ t, exec (.xor k h) s = .next t ∧
      Computed k h w (readG k h (raOf w) s ^^^ readG k h (rbOf w) s) 1 s t) ∧
  (∀ (k : Fin 8) (h : Fin 4) (w : Nat) (s : State), Issues k h 0x06 w s →
    ∃ t, exec (.shl k h) s = .next t ∧
      Computed k h w (readG k h (raOf w) s * 2 ^ (readG k h (rbOf w) s % 32)) 1 s t) ∧
  (∀ (k : Fin 8) (h : Fin 4) (w : Nat) (s : State), Issues k h 0x07 w s →
    ∃ t, exec (.shr k h) s = .next t ∧
      Computed k h w (readG k h (raOf w) s / 2 ^ (readG k h (rbOf w) s % 32)) 1 s t) ∧
  (∀ (k : Fin 8) (h : Fin 4) (w : Nat) (s : State), Issues k h 0x08 w s →
    ∃ t, exec (.minu k h) s = .next t ∧
      Computed k h w (min (readG k h (raOf w) s) (readG k h (rbOf w) s)) 1 s t) ∧
  (∀ (k : Fin 8) (h : Fin 4) (w : Nat) (s : State), Issues k h 0x09 w s →
    ∃ t, exec (.maxu k h) s = .next t ∧
      Computed k h w (max (readG k h (raOf w) s) (readG k h (rbOf w) s)) 1 s t) ∧
  (∀ (k : Fin 8) (h : Fin 4) (w : Nat) (s : State), Issues k h 0x0A w s →
    ∃ t, exec (.sltu k h) s = .next t ∧
      Computed k h w (if readG k h (raOf w) s < readG k h (rbOf w) s then 1 else 0) 1 s t) ∧
  (∀ (k : Fin 8) (h : Fin 4) (w : Nat) (s : State), Issues k h 0x0B w s →
    ∃ t, exec (.mul k h) s = .next t ∧
      Computed k h w (readG k h (raOf w) s * readG k h (rbOf w) s) 3 s t) ∧
  (∀ (k : Fin 8) (h : Fin 4) (w : Nat) (s : State), Issues k h 0x10 w s →
    ∃ t, exec (.addi k h) s = .next t ∧ Computed k h w (readG k h (raOf w) s + simm18 w) 1 s t) ∧
  (∀ (k : Fin 8) (h : Fin 4) (w : Nat) (s : State), Issues k h 0x11 w s →
    ∃ t, exec (.andi k h) s = .next t ∧ Computed k h w (readG k h (raOf w) s &&& imm18 w) 1 s t) ∧
  (∀ (k : Fin 8) (h : Fin 4) (w : Nat) (s : State), Issues k h 0x12 w s →
    ∃ t, exec (.ori k h) s = .next t ∧ Computed k h w (readG k h (raOf w) s ||| imm18 w) 1 s t) ∧
  (∀ (k : Fin 8) (h : Fin 4) (w : Nat) (s : State), Issues k h 0x13 w s →
    ∃ t, exec (.xori k h) s = .next t ∧ Computed k h w (readG k h (raOf w) s ^^^ imm18 w) 1 s t) ∧
  (∀ (k : Fin 8) (h : Fin 4) (w : Nat) (s : State), Issues k h 0x14 w s →
    ∃ t, exec (.shli k h) s = .next t ∧ Computed k h w (readG k h (raOf w) s * 2 ^ (imm18 w % 32)) 1 s t) ∧
  (∀ (k : Fin 8) (h : Fin 4) (w : Nat) (s : State), Issues k h 0x15 w s →
    ∃ t, exec (.shri k h) s = .next t ∧ Computed k h w (readG k h (raOf w) s / 2 ^ (imm18 w % 32)) 1 s t) ∧
  (∀ (k : Fin 8) (h : Fin 4) (w : Nat) (s : State), Issues k h 0x16 w s →
    ∃ t, exec (.lui k h) s = .next t ∧ Computed k h w (imm18 w * 2 ^ 14) 1 s t) ∧
  (∀ (k : Fin 8) (h : Fin 4) (w : Nat) (s : State), Issues k h 0x17 w s →
    ∃ t, exec (.sltui k h) s = .next t ∧ Computed k h w (if readG k h (raOf w) s < imm18 w then 1 else 0) 1 s t)

/-- R123, R127, R140: branches, jumps and illegal words. A branch goes to its target in two cycles or past itself in one;
JMP, JAL and JR go to their target, JAL with the return address in g15; a fetch outside the region, of a word with an
uncorrectable memory error, or of a word that is no instruction stops the thread with code 3, 6 or 1. -/
def Obligations.SequencerBranches : Prop :=
  (∀ (k : Fin 8) (h : Fin 4) (w : Nat) (s : State), Issues k h 0x20 w s →
    ∃ t, exec (.beq k h) s = .next t ∧
      (readG k h (branchA w) s = readG k h (branchB w) s →
        Jumped k h (branchTarget (s.thread k h).pc w) 2 s t) ∧
      (¬ (readG k h (branchA w) s = readG k h (branchB w) s) → Jumped k h ((s.thread k h).pc + 1) 1 s t)) ∧
  (∀ (k : Fin 8) (h : Fin 4) (w : Nat) (s : State), Issues k h 0x21 w s →
    ∃ t, exec (.bne k h) s = .next t ∧
      (readG k h (branchA w) s ≠ readG k h (branchB w) s →
        Jumped k h (branchTarget (s.thread k h).pc w) 2 s t) ∧
      (¬ (readG k h (branchA w) s ≠ readG k h (branchB w) s) → Jumped k h ((s.thread k h).pc + 1) 1 s t)) ∧
  (∀ (k : Fin 8) (h : Fin 4) (w : Nat) (s : State), Issues k h 0x22 w s →
    ∃ t, exec (.bltu k h) s = .next t ∧
      (readG k h (branchA w) s < readG k h (branchB w) s →
        Jumped k h (branchTarget (s.thread k h).pc w) 2 s t) ∧
      (¬ (readG k h (branchA w) s < readG k h (branchB w) s) → Jumped k h ((s.thread k h).pc + 1) 1 s t)) ∧
  (∀ (k : Fin 8) (h : Fin 4) (w : Nat) (s : State), Issues k h 0x23 w s →
    ∃ t, exec (.bgeu k h) s = .next t ∧
      (readG k h (branchB w) s ≤ readG k h (branchA w) s →
        Jumped k h (branchTarget (s.thread k h).pc w) 2 s t) ∧
      (¬ (readG k h (branchB w) s ≤ readG k h (branchA w) s) → Jumped k h ((s.thread k h).pc + 1) 1 s t)) ∧
  (∀ (k : Fin 8) (h : Fin 4) (w : Nat) (s : State), Issues k h 0x24 w s →
    ∃ t, exec (.bst k h) s = .next t ∧
      ((s.thread k h).st = branchA w →
        Jumped k h (branchTarget (s.thread k h).pc w) 2 s t) ∧
      (¬ ((s.thread k h).st = branchA w) → Jumped k h ((s.thread k h).pc + 1) 1 s t)) ∧
  (∀ (k : Fin 8) (h : Fin 4) (w : Nat) (s : State), Issues k h 0x25 w s →
    ∃ t, exec (.bstn k h) s = .next t ∧
      ((s.thread k h).st ≠ branchA w →
        Jumped k h (branchTarget (s.thread k h).pc w) 2 s t) ∧
      (¬ ((s.thread k h).st ≠ branchA w) → Jumped k h ((s.thread k h).pc + 1) 1 s t)) ∧
  (∀ (k : Fin 8) (h : Fin 4) (w : Nat) (s : State), Issues k h 0x26 w s →
    ∃ t, exec (.jmp k h) s = .next t ∧ Jumped k h (immX w) 2 s t) ∧
  (∀ (k : Fin 8) (h : Fin 4) (w : Nat) (s : State), Issues k h 0x27 w s →
    ∃ t, exec (.jal k h) s = .next t ∧ Sets k h 15 ((s.thread k h).pc + 1) s t ∧ Retired k h (immX w) 2 s t ∧
      ThreadOnly k s t) ∧
  (∀ (k : Fin 8) (h : Fin 4) (w : Nat) (s : State), Issues k h 0x28 w s →
    ∃ t, exec (.jr k h) s = .next t ∧ Jumped k h (readG k h (raOf w) s) 2 s t) ∧
  (∀ (k : Fin 8) (h : Fin 4) (s : State), s.up (clusterIsland k) = true → canIssue k h s = true → inRegion k h s = true →
    goodFetch k h s = true → legalWord (imemWord k (s.thread k h).pc s) = false →
    ∃ t, exec (.illegalInstruction k h) s = .next t ∧ Stopped k h 1 s t) ∧
  (∀ (k : Fin 8) (h : Fin 4) (s : State), s.up (clusterIsland k) = true → canIssue k h s = true → inRegion k h s = false →
    ∃ t, exec (.illegalInstruction k h) s = .next t ∧ Stopped k h 3 s t) ∧
  (∀ (k : Fin 8) (h : Fin 4) (s : State), s.up (clusterIsland k) = true → canIssue k h s = true → inRegion k h s = true →
    goodFetch k h s = false →
    ∃ t, exec (.illegalInstruction k h) s = .next t ∧ Stopped k h 6 s t)

/-- R122, R127, R140: LD, ST and AMADD. A word address inside data memory is loaded, stored, or read and added to, in
2, 1 and 3 cycles; any other stops the thread with code 2, and a read of a word with an uncorrectable memory error with code 6. -/
def Obligations.SequencerMemory : Prop :=
  (∀ (k : Fin 8) (h : Fin 4) (w : Nat) (a : Nat) (s : State), Issues k h 0x18 w s → loadAddress k h w s = a → badAddress a = false →
    goodData k a s = true →
    ∃ t, exec (.ld k h) s = .next t ∧ Computed k h w (dmemWord k a s) 2 s t) ∧
  (∀ (k : Fin 8) (h : Fin 4) (w : Nat) (a : Nat) (s : State), Issues k h 0x19 w s → loadAddress k h w s = a → badAddress a = false →
    ∃ t, exec (.st k h) s = .next t ∧ dmemWord k a t = readG k h (rdOf w) s % 2 ^ 32 ∧ (∀ x, readG k h x t = readG k h x s) ∧
      Retired k h ((s.thread k h).pc + 1) 1 s t ∧
      Touches [.mem, .pmu, .threads, .clusters] [(⟨.dmem, 0, 31, 0⟩, k, a / 4), (GSQ.TRACE_DROP_CNT, k, 0)] s t) ∧
  (∀ (k : Fin 8) (h : Fin 4) (w : Nat) (a : Nat) (s : State), Issues k h 0x1A w s → readG k h (raOf w) s = a → badAddress a = false →
    goodData k a s = true →
    ∃ t, exec (.amadd k h) s = .next t ∧ dmemWord k a t = (dmemWord k a s + readG k h (rbOf w) s) % 2 ^ 32 ∧
      Sets k h (rdOf w) (dmemWord k a s) s t ∧ Retired k h ((s.thread k h).pc + 1) 3 s t ∧
      Touches [.mem, .pmu, .threads, .clusters] [(⟨.dmem, 0, 31, 0⟩, k, a / 4), (GSQ.TRACE_DROP_CNT, k, 0)] s t) ∧
  (∀ (k : Fin 8) (h : Fin 4) (w : Nat) (s : State), Issues k h 0x18 w s → badAddress (loadAddress k h w s) = true →
    ∃ t, exec (.ld k h) s = .next t ∧ Stopped k h 2 s t) ∧
  (∀ (k : Fin 8) (h : Fin 4) (w : Nat) (s : State), Issues k h 0x19 w s → badAddress (loadAddress k h w s) = true →
    ∃ t, exec (.st k h) s = .next t ∧ Stopped k h 2 s t) ∧
  (∀ (k : Fin 8) (h : Fin 4) (w : Nat) (s : State), Issues k h 0x1A w s → badAddress (readG k h (raOf w) s) = true →
    ∃ t, exec (.amadd k h) s = .next t ∧ Stopped k h 2 s t) ∧
  (∀ (k : Fin 8) (h : Fin 4) (w : Nat) (a : Nat) (s : State), Issues k h 0x18 w s → loadAddress k h w s = a → badAddress a = false →
    goodData k a s = false →
    ∃ t, exec (.ld k h) s = .next t ∧ Stopped k h 6 s t)

/-- R126, R129, R130, R137, R138, R140: the waits. Events found return at once, ending in status 2 (EVENT); else POPR
returns the oldest report of its trees and POPA the oldest activation record, whose place one that waits takes; with NOWAIT nothing there is status 1 (EMPTY), and
without it the thread blocks; a blocked wait returns when what it waits for is there,
and on a standby its thread is parked. Every wait clears the watchdog. -/
def Obligations.SequencerWaits : Prop :=
  (∀ (k : Fin 8) (h : Fin 4) (w : Nat) (s : State), Issues k h 0x30 w s → rdOf w < 15 →
    eventsFound k h (readG k h (rbOf w) s) s ≠ 0 →
    ∃ t, exec (.popr k h) s = .next t ∧
      readG k h (rdOf w) t = (if rdOf w = 0 then 0 else eventsFound k h (readG k h (rbOf w) s) s) ∧
      (t.thread k h).st = 2 ∧ (t.thread k h).wdog = 0 ∧ (t.thread k h).pc = ((s.thread k h).pc + 1) % 16384 ∧
      t.grt = s.grt) ∧
  (∀ (k : Fin 8) (h : Fin 4) (w : Nat) (x : Nat × Report) (s : State), Issues k h 0x30 w s → rdOf w < 15 →
    eventsFound k h (readG k h (rbOf w) s) s = 0 → oldestReport k (readG k h (raOf w) s % 64) s = some x →
    (readG k h (raOf w) s % 64 ≠ 0 ∨ readG k h (rbOf w) s % 128 ≠ 0) →
    ∃ t, exec (.popr k h) s = .next t ∧
      readG k h (rdOf w) t = (if rdOf w = 0 then 0 else reportWord x.1 x.2 % 2 ^ 32) ∧
      readG k h (rdOf w + 1) t = x.2.value % 2 ^ 32 ∧ (t.thread k h).st = 0 ∧ (t.thread k h).wdog = 0 ∧
      (t.thread k h).pc = ((s.thread k h).pc + 1) % 16384 ∧
      (t.grant (6 * k + x.1)).reports = (s.grant (6 * k + x.1)).reports.drop 1) ∧
  (∀ (k : Fin 8) (h : Fin 4) (w : Nat) (s : State), Issues k h 0x30 w s → rdOf w < 15 →
    eventsFound k h (readG k h (rbOf w) s) s = 0 → oldestReport k (readG k h (raOf w) s % 64) s = none →
    readG k h (raOf w) s % 64 ≠ 0 → maskHas (readG k h (rbOf w) s) 7 = true →
    ∃ t, exec (.popr k h) s = .next t ∧ (∀ x, readG k h x t = readG k h x s) ∧ (t.thread k h).st = 1 ∧
      (t.thread k h).wdog = 0 ∧ (t.thread k h).pc = ((s.thread k h).pc + 1) % 16384 ∧ ThreadOnly k s t) ∧
  (∀ (k : Fin 8) (h : Fin 4) (w : Nat) (s : State), Issues k h 0x30 w s → rdOf w < 15 →
    eventsFound k h (readG k h (rbOf w) s) s = 0 → oldestReport k (readG k h (raOf w) s % 64) s = none →
    readG k h (raOf w) s % 64 ≠ 0 → maskHas (readG k h (rbOf w) s) 7 = false → roleStandby s = false →
    ∃ t, exec (.popr k h) s = .next t ∧ (t.thread k h).state = .blocked ∧
      (t.thread k h).wait = some (.popr (rdOf w) (readG k h (raOf w) s % 64) (readG k h (rbOf w) s)) ∧
      (t.thread k h).pc = (s.thread k h).pc ∧ (t.thread k h).wdog = 0 ∧ (∀ x, readG k h x t = readG k h x s) ∧
      Touches [.threads, .clusters] [] s t) ∧
  (∀ (k : Fin 8) (h : Fin 4) (w : Nat) (s : State), Issues k h 0x30 w s → rdOf w = 15 →
    ∃ t, exec (.popr k h) s = .next t ∧ (t.thread k h).st = 9 ∧ Counted GSQ.ARG_CNT k s t ∧ Raised (128 + k) 27 t ∧
      (∀ x, readG k h x t = readG k h x s) ∧ (t.thread k h).pc = ((s.thread k h).pc + 1) % 16384) ∧
  (∀ (k : Fin 8) (h : Fin 4) (w : Nat) (x : ActRec) (rest : List ActRec) (s : State), Issues k h 0x31 w s → rdOf w < 14 →
    eventsFound k h (readG k h (rbOf w) s) s = 0 → (s.cluster k).actq = x :: rest →
    ∃ t, exec (.popa k h) s = .next t ∧ readG k h (rdOf w) t = (if rdOf w = 0 then 0 else x.w0 % 2 ^ 32) ∧
      readG k h (rdOf w + 1) t = x.w1 % 2 ^ 32 ∧ readG k h (rdOf w + 2) t = x.w2 % 2 ^ 32 ∧
      (t.cluster k).actq = rest ++ (s.cluster k).actHeld.take 1 ∧ (t.cluster k).actHeld = (s.cluster k).actHeld.drop 1 ∧
      (t.thread k h).st = 0 ∧ (t.thread k h).wdog = 0 ∧ (t.thread k h).pc = ((s.thread k h).pc + 1) % 16384) ∧
  (∀ (k : Fin 8) (h : Fin 4) (w : Nat) (s : State), Issues k h 0x32 w s → rdOf w < 15 →
    eventsFound k h (readG k h (rbOf w) s) s ≠ 0 →
    ∃ t, exec (.wfe k h) s = .next t ∧
      readG k h (rdOf w) t = (if rdOf w = 0 then 0 else eventsFound k h (readG k h (rbOf w) s) s) ∧
      (t.thread k h).latch = (s.thread k h).latch &&& (127 - eventsFound k h (readG k h (rbOf w) s) s) ∧
      (t.thread k h).st = 2 ∧ (t.thread k h).wdog = 0 ∧ (t.thread k h).pc = ((s.thread k h).pc + 1) % 16384 ∧
      ThreadOnly k s t) ∧
  (∀ (k : Fin 8) (h : Fin 4) (r m : Nat) (s : State), s.up (clusterIsland k) = true → (s.thread k h).state = .blocked →
    (s.thread k h).wait = some (.wfe r m) → eventsFound k h m s ≠ 0 → roleStandby s = false →
    ∃ t, exec (.threadWake k h) s = .next t ∧ (t.thread k h).state = .running ∧ (t.thread k h).wait = none ∧
      readG k h r t = (if r = 0 then 0 else eventsFound k h m s) ∧ (t.thread k h).st = 2 ∧
      (t.thread k h).pc = ((s.thread k h).pc + 1) % 16384 ∧ (t.thread k h).wdog = 2 ∧ ThreadOnly k s t) ∧
  (∀ (k : Fin 8) (h : Fin 4) (r m : Nat) (s : State), s.up (clusterIsland k) = true → (s.thread k h).state = .blocked →
    (s.thread k h).wait = some (.wfe r m) → eventsFound k h m s ≠ 0 → roleStandby s = true →
    ∃ t, exec (.threadWake k h) s = .next t ∧ (t.thread k h).state = .parked ∧ (t.thread k h).wait = none ∧
      (t.thread k h).pc = ((s.thread k h).pc + 1) % 16384) ∧
  (∀ (k : Fin 8) (h : Fin 4) (w : Nat) (s : State), Issues k h 0x30 w s → rdOf w < 15 →
    eventsFound k h (readG k h (rbOf w) s) s = 0 → oldestReport k (readG k h (raOf w) s % 64) s = none →
    readG k h (raOf w) s % 64 ≠ 0 → maskHas (readG k h (rbOf w) s) 7 = false → roleStandby s = true →
    ∃ t, exec (.popr k h) s = .next t ∧ (t.thread k h).state = .parked ∧ (t.thread k h).wait = none)

/-- R102 to R104, R109, R110, R126, R128, R131: the comb instructions. CWR writes a cell of the open bank and answers the
frame it builds; it is refused on a standby with status 5, on the witness cell with status 4, on a fixed cell or against a place-fixed
of the same cycle with status 3, and lost to another store of the same cycle with status 7. CRD reads a cell. PLF places a fixed cell
of its own or removes one, is refused with status 8 and cause 9 where the placement does not fit, and with status 6 where another
owner's cell stands, on the witness cell, or against a binding of the same cycle. DUR answers a burst's footprint, with the rate's
long profile status 13. Arguments out of range are refused with status 9. What a refusal leaves in
rd, and that a PLF on a standby places nothing and answers status 5, are the model's choices (log entry 120). -/
def Obligations.SequencerCells : Prop :=
  (∀ (k : Fin 8) (h : Fin 4) (w : Nat) (n c : Nat) (s : State), Issues k h 0x33 w s →
    refTree (readG k h (raOf w) s) ≤ 5 → rbOf w + 2 ≤ 15 → readG k h (rbOf w) s / 2 ^ 30 % 2 = 0 → roleStandby s = false →
    6 * k + refTree (readG k h (raOf w) s) = n → refCell (readG k h (raOf w) s) = c → c ≠ 1023 → fixedOwner n c s = none →
    ∃ t, exec (.cwr k h 0) s = .next t ∧ rdx CELL.TERM (openBank n s) c t = readG k h (rbOf w) s / 2 ^ 14 % 2 ^ 9 ∧
      rdx CELL.VALID (openBank n s) c t = readG k h (rbOf w) s / 2 ^ 31 % 2 ∧
      rdx CELL.ALLOC_ID (openBank n s) c t = readG k h (rbOf w) s % 2 ^ 14 ∧
      rdx CELL.GRANTSIZE (openBank n s) c t = readG k h (rbOf w + 2) s % 2 ^ 16 ∧
      rdx CELL.FIXED (openBank n s) c t = 0 ∧ rdx CELL.WRITER (openBank n s) c t = h ∧
      Sets k h (rdOf w) (openFrame n s % 2 ^ 32) s t ∧ (t.thread k h).st = 0 ∧
      Retired k h ((s.thread k h).pc + 1) 3 s t) ∧
  (∀ (k : Fin 8) (h : Fin 4) (w : Nat) (q : Fin 3) (n c : Nat) (s : State), Issues k h 0x33 w s →
    refTree (readG k h (raOf w) s) ≤ 5 → rbOf w + 2 ≤ 15 → readG k h (rbOf w) s / 2 ^ 30 % 2 = 0 → roleStandby s = false →
    6 * k + refTree (readG k h (raOf w) s) = n → refCell (readG k h (raOf w) s) = c → c ≠ 1023 →
    (fixedOwner n c s ≠ none ∨ q = 2) →
    ∃ t, exec (.cwr k h q) s = .next t ∧ (t.thread k h).st = 3 ∧ Counted GRT.FIXED_HIT_CNT n s t ∧ Raised (grtSource n) 3 t ∧
      Sets k h (rdOf w) (openFrame n s % 2 ^ 32) s t ∧ Retired k h ((s.thread k h).pc + 1) 3 s t ∧
      Touches (.mem :: .threads :: .clusters :: signals) [(GRT.FIXED_HIT_CNT, n, 0), (GSQ.TRACE_DROP_CNT, k, 0)] s t) ∧
  (∀ (k : Fin 8) (h : Fin 4) (w : Nat) (q : Fin 3) (n c : Nat) (s : State), Issues k h 0x33 w s →
    refTree (readG k h (raOf w) s) ≤ 5 → rbOf w + 2 ≤ 15 → readG k h (rbOf w) s / 2 ^ 30 % 2 = 0 →
    6 * k + refTree (readG k h (raOf w) s) = n → refCell (readG k h (raOf w) s) = c → (roleStandby s = true ∨ c = 1023) →
    ∃ t, exec (.cwr k h q) s = .next t ∧ (t.thread k h).st = (if roleStandby s = true then 5 else 4) ∧
      Counted GRT.FIXED_HIT_CNT n s t ∧ Raised (grtSource n) (if roleStandby s = true then 12 else 3) t ∧
      Sets k h (rdOf w) (openFrame n s % 2 ^ 32) s t ∧ Retired k h ((s.thread k h).pc + 1) 3 s t ∧
      Touches (.mem :: .threads :: .clusters :: signals) [(GRT.FIXED_HIT_CNT, n, 0), (GSQ.TRACE_DROP_CNT, k, 0)] s t) ∧
  (∀ (k : Fin 8) (h : Fin 4) (w : Nat) (n c : Nat) (s : State), Issues k h 0x33 w s →
    refTree (readG k h (raOf w) s) ≤ 5 → rbOf w + 2 ≤ 15 → readG k h (rbOf w) s / 2 ^ 30 % 2 = 0 → roleStandby s = false →
    6 * k + refTree (readG k h (raOf w) s) = n → refCell (readG k h (raOf w) s) = c → c ≠ 1023 → fixedOwner n c s = none →
    ∃ t, exec (.cwr k h 1) s = .next t ∧ (t.thread k h).st = 7 ∧ Counted GRT.RACE_CNT n s t ∧ Raised (grtSource n) 4 t ∧
      Sets k h (rdOf w) (openFrame n s % 2 ^ 32) s t ∧ Retired k h ((s.thread k h).pc + 1) 3 s t ∧
      Touches (.mem :: .threads :: .clusters :: signals) [(GRT.RACE_CNT, n, 0), (GSQ.TRACE_DROP_CNT, k, 0)] s t) ∧
  (∀ (k : Fin 8) (h : Fin 4) (w : Nat) (q : Fin 3) (s : State), Issues k h 0x33 w s →
    (5 < refTree (readG k h (raOf w) s) ∨ 15 < rbOf w + 2 ∨ readG k h (rbOf w) s / 2 ^ 30 % 2 = 1) →
    ∃ t, exec (.cwr k h q) s = .next t ∧ ArgRefused k h 3 s t) ∧
  (∀ (k : Fin 8) (h : Fin 4) (w : Nat) (n c b : Nat) (s : State), Issues k h 0x34 w s → refTree (readG k h (raOf w) s) ≤ 5 →
    rdOf w + 2 ≤ 15 → 6 * k + refTree (readG k h (raOf w) s) = n → refCell (readG k h (raOf w) s) = c →
    (if immX w % 2 = 1 then frozenBank n s else openBank n s) = b →
    ∃ t, exec (.crd k h) s = .next t ∧ readG k h (rdOf w) t = (if rdOf w = 0 then 0 else rdWord .cell b c 0 s) ∧
      readG k h (rdOf w + 1) t = rdWord .cell b c 1 s ∧ readG k h (rdOf w + 2) t = rdWord .cell b c 2 s ∧
      (∀ x, x ≠ rdOf w → x ≠ rdOf w + 1 → x ≠ rdOf w + 2 → readG k h x t = readG k h x s) ∧
      (t.thread k h).st = 0 ∧ Retired k h ((s.thread k h).pc + 1) 4 s t ∧ ThreadOnly k s t) ∧
  (∀ (k : Fin 8) (h : Fin 4) (w : Nat) (s : State), Issues k h 0x34 w s →
    (5 < refTree (readG k h (raOf w) s) ∨ 15 < rdOf w + 2) →
    ∃ t, exec (.crd k h) s = .next t ∧ ArgRefused k h 4 s t) ∧
  (∀ (k : Fin 8) (h : Fin 4) (w : Nat) (n c : Nat) (s : State), Issues k h 0x35 w s →
    refTree (readG k h (raOf w) s) ≤ 5 → rbOf w + 2 ≤ 15 → 6 * k + refTree (readG k h (raOf w) s) = n →
    refCell (readG k h (raOf w) s) = c → c ≠ 1023 → (fixedOwner n c s).any (· != 0) = false → roleStandby s = false →
    readG k h (rbOf w) s / 2 ^ 31 % 2 = 0 →
    ∃ t, exec (.plf k h false) s = .next t ∧ fixedOwner n c t = none ∧ (t.thread k h).st = 0 ∧
      (fixedOwner n c s = none → rdWord .cell (openBank n s) c 0 t = rdWord .cell (openBank n s) c 0 s) ∧
      Sets k h (rdOf w) (openFrame n s % 2 ^ 32) s t ∧ Retired k h ((s.thread k h).pc + 1) 16 s t ∧
      Touches [.mem, .pmu, .threads, .clusters, .grt] [(⟨.cell, 0, 31, 0⟩, openBank n s, c), (GSQ.TRACE_DROP_CNT, k, 0)] s t) ∧
  (∀ (k : Fin 8) (h : Fin 4) (w : Nat) (n c : Nat) (s : State), Issues k h 0x35 w s →
    refTree (readG k h (raOf w) s) ≤ 5 → rbOf w + 2 ≤ 15 → 6 * k + refTree (readG k h (raOf w) s) = n →
    refCell (readG k h (raOf w) s) = c → c ≠ 1023 → (fixedOwner n c s).any (· != 0) = false → roleStandby s = false →
    readG k h (rbOf w) s / 2 ^ 31 % 2 = 1 →
    placementFits n c (readG k h (rbOf w) s) (readG k h (rbOf w + 1) s) (readG k h (rbOf w + 2) s) s = true →
    ∃ t, exec (.plf k h false) s = .next t ∧ fixedOwner n c t = some 0 ∧ rdx CELL.WRITER (openBank n s) c t = h ∧
      rdx CELL.TERM (openBank n s) c t = readG k h (rbOf w) s / 2 ^ 14 % 2 ^ 9 ∧
      rdx CELL.GRANTSIZE (openBank n s) c t = readG k h (rbOf w + 2) s % 2 ^ 16 ∧ (t.thread k h).st = 0 ∧
      Sets k h (rdOf w) (openFrame n s % 2 ^ 32) s t ∧ Retired k h ((s.thread k h).pc + 1) 16 s t) ∧
  (∀ (k : Fin 8) (h : Fin 4) (w : Nat) (n c : Nat) (s : State), Issues k h 0x35 w s →
    refTree (readG k h (raOf w) s) ≤ 5 → rbOf w + 2 ≤ 15 → 6 * k + refTree (readG k h (raOf w) s) = n →
    refCell (readG k h (raOf w) s) = c → c ≠ 1023 → (fixedOwner n c s).any (· != 0) = false → roleStandby s = false →
    readG k h (rbOf w) s / 2 ^ 31 % 2 = 1 →
    placementFits n c (readG k h (rbOf w) s) (readG k h (rbOf w + 1) s) (readG k h (rbOf w + 2) s) s = false →
    ∃ t, exec (.plf k h false) s = .next t ∧ (t.thread k h).st = 8 ∧ Raised (grtSource n) 9 t ∧
      Sets k h (rdOf w) (openFrame n s % 2 ^ 32) s t ∧ Retired k h ((s.thread k h).pc + 1) 16 s t ∧
      Touches (.mem :: .threads :: .clusters :: signals) [(GSQ.TRACE_DROP_CNT, k, 0)] s t) ∧
  (∀ (k : Fin 8) (h : Fin 4) (w : Nat) (lost : Bool) (n c : Nat) (s : State), Issues k h 0x35 w s →
    refTree (readG k h (raOf w) s) ≤ 5 → rbOf w + 2 ≤ 15 → 6 * k + refTree (readG k h (raOf w) s) = n →
    refCell (readG k h (raOf w) s) = c → (lost = true ∨ c = 1023 ∨ (fixedOwner n c s).any (· != 0) = true) → roleStandby s = false →
    ∃ t, exec (.plf k h lost) s = .next t ∧ (t.thread k h).st = 6 ∧ Sets k h (rdOf w) (openFrame n s % 2 ^ 32) s t ∧
      Retired k h ((s.thread k h).pc + 1) 16 s t ∧ ThreadOnly k s t) ∧
  (∀ (k : Fin 8) (h : Fin 4) (w : Nat) (lost : Bool) (s : State), Issues k h 0x35 w s →
    (5 < refTree (readG k h (raOf w) s) ∨ 15 < rbOf w + 2) →
    ∃ t, exec (.plf k h lost) s = .next t ∧ ArgRefused k h 16 s t) ∧
  (∀ (k : Fin 8) (h : Fin 4) (w : Nat) (n o r p : Nat) (s : State), Issues k h 0x36 w s → refTree (readG k h (raOf w) s) ≤ 5 →
    rbOf w + 2 ≤ 15 → 6 * k + refTree (readG k h (raOf w) s) = n → readG k h (rbOf w) s / 2 ^ 25 % 4 = 0 →
    readG k h (rbOf w) s / 2 ^ 14 % 512 = o → rdx ACTT.RATE n o s = r → r ≠ 3 →
    (if needsLong n 0 o s then longProfile n r s else readG k h (rbOf w) s / 2 ^ 23 % 4) = p →
    rdx PROF.VALID n (profIdx r p) s = 1 →
    ∃ t, exec (.dur k h) s = .next t ∧ (t.thread k h).st = (if needsLong n 0 o s then 13 else 0) ∧
      Sets k h (rdOf w) ((burstDuration n r p (readG k h (rbOf w + 2) s % 2 ^ 16)
        (readG k h (rbOf w) s / 2 ^ 27 % 2 == 1) s + maxGuard n s + 1) / 2 * 2) s t ∧
      Retired k h ((s.thread k h).pc + 1) 6 s t ∧ ThreadOnly k s t) ∧
  (∀ (k : Fin 8) (h : Fin 4) (w : Nat) (n r : Nat) (s : State), Issues k h 0x36 w s → refTree (readG k h (raOf w) s) ≤ 5 →
    rbOf w + 2 ≤ 15 → 6 * k + refTree (readG k h (raOf w) s) = n →
    (readG k h (rbOf w) s / 2 ^ 25 % 4 = 1 ∨ readG k h (rbOf w) s / 2 ^ 25 % 4 = 2) →
    readG k h (rbOf w + 1) s / 2 ^ 13 % 4 = r → r ≠ 3 → rdx PROF.VALID n (profIdx r (longProfile n r s)) s = 1 →
    ∃ t, exec (.dur k h) s = .next t ∧ (t.thread k h).st = 13 ∧
      Sets k h (rdOf w) ((readG k h (rbOf w + 2) s % 2 ^ 16 + maxGuard n s + 1) / 2 * 2) s t ∧
      Retired k h ((s.thread k h).pc + 1) 6 s t ∧ ThreadOnly k s t) ∧
  (∀ (k : Fin 8) (h : Fin 4) (w : Nat) (s : State), Issues k h 0x36 w s →
    (5 < refTree (readG k h (raOf w) s) ∨ 15 < rbOf w + 2 ∨ readG k h (rbOf w) s / 2 ^ 25 % 4 = 3) →
    ∃ t, exec (.dur k h) s = .next t ∧ ArgRefused k h 6 s t) ∧
  (∀ (k : Fin 8) (h : Fin 4) (w : Nat) (lost : Bool) (s : State), Issues k h 0x35 w s →
    refTree (readG k h (raOf w) s) ≤ 5 → rbOf w + 2 ≤ 15 → roleStandby s = true →
    ∃ t, exec (.plf k h lost) s = .next t ∧ (t.thread k h).st = 5 ∧ Retired k h ((s.thread k h).pc + 1) 16 s t ∧ ThreadOnly k s t)

/-- R127, R132 to R136, R139: contexts, lists and messages. CTXR reads two words of a context and CTXW writes one, a
write lost to software's counted with cause 29; TBU grants from the credit its rate has earned; PLS answers the entry under its
cursor and moves it; EMP queues a PLOAM body with status 0; EVR raises a program event; FRM answers the frame and the time left. -/
def Obligations.SequencerContexts : Prop :=
  (∀ (k : Fin 8) (h : Fin 4) (w : Nat) (n c : Nat) (s : State), Issues k h 0x37 w s → refTree (readG k h (raOf w) s) ≤ 5 →
    rdOf w < 15 → immX w ≠ 7 → 6 * k + refTree (readG k h (raOf w) s) = n → refCtx (readG k h (raOf w) s) = c →
    ∃ t, exec (.ctxr k h) s = .next t ∧ readG k h (rdOf w) t = (if rdOf w = 0 then 0 else rdWord .ctx n c (immX w) s) ∧
      readG k h (rdOf w + 1) t = rdWord .ctx n c (immX w + 1) s ∧ (t.thread k h).st = 0 ∧
      Retired k h ((s.thread k h).pc + 1) 4 s t ∧ ThreadOnly k s t) ∧
  (∀ (k : Fin 8) (h : Fin 4) (w : Nat) (n c : Nat) (s : State), Issues k h 0x38 w s → refTree (readG k h (raOf w) s) ≤ 5 →
    2 ≤ immX w → 6 * k + refTree (readG k h (raOf w) s) = n → refCtx (readG k h (raOf w) s) = c →
    ∃ t, exec (.ctxw k h false) s = .next t ∧ rdWord .ctx n c (immX w) t = readG k h (rdOf w) s % 2 ^ 32 ∧
      (t.thread k h).st = 0 ∧ (∀ x, readG k h x t = readG k h x s) ∧ Retired k h ((s.thread k h).pc + 1) 2 s t ∧
      Touches [.mem, .pmu, .threads, .clusters, .grt] [(⟨.ctx, immX w, 31, 0⟩, n, c), (GSQ.TRACE_DROP_CNT, k, 0)] s t) ∧
  (∀ (k : Fin 8) (h : Fin 4) (w : Nat) (s : State), Issues k h 0x38 w s → refTree (readG k h (raOf w) s) ≤ 5 → 2 ≤ immX w →
    ∃ t, exec (.ctxw k h true) s = .next t ∧ Counted GSQ.CTX_RACE_CNT k s t ∧ Raised (128 + k) 29 t ∧
      (t.thread k h).st = 0 ∧ Retired k h ((s.thread k h).pc + 1) 2 s t ∧
      Touches (.mem :: .threads :: .clusters :: signals) [(GSQ.CTX_RACE_CNT, k, 0), (GSQ.TRACE_DROP_CNT, k, 0)] s t) ∧
  (∀ (k : Fin 8) (h : Fin 4) (w : Nat) (n c : Nat) (s : State), Issues k h 0x39 w s → refTree (readG k h (raOf w) s) ≤ 5 →
    6 * k + refTree (readG k h (raOf w) s) = n → refCtx (readG k h (raOf w) s) = c →
    ∃ t, exec (.tbu k h false) s = .next t ∧
      Sets k h (rdOf w) (tokenUpdate (signed 32 (rdWord .ctx n c 2 s)) (rdx CTX.RATE n c s) (rdx CTX.BURST n c s)
        (rdx CTX.LAST n c s) (openFrame n s % 2 ^ 32) (readG k h (rbOf w) s)).1 s t ∧
      rdx CTX.LAST n c t = openFrame n s % 2 ^ 32 ∧
      rdWord .ctx n c 2 t = saturate32 (tokenUpdate (signed 32 (rdWord .ctx n c 2 s)) (rdx CTX.RATE n c s)
        (rdx CTX.BURST n c s) (rdx CTX.LAST n c s) (openFrame n s % 2 ^ 32) (readG k h (rbOf w) s)).2 % 2 ^ 32 ∧
      Retired k h ((s.thread k h).pc + 1) 8 s t ∧
      Touches [.mem, .pmu, .threads, .clusters] [(CTX.CREDIT, n, c), (CTX.LAST, n, c), (GSQ.TRACE_DROP_CNT, k, 0)] s t) ∧
  (∀ (k : Fin 8) (h : Fin 4) (w : Nat) (a base len cur e : Nat) (s : State), Issues k h 0x3A w s → readG k h (raOf w) s = a →
    dmemWord k a s = base → dmemWord k (a + 4) s = len → dmemWord k (a + 8) s = cur → a % 16 = 0 → a + 16 ≤ 0x10000 →
    base % 4 = 0 → base + 4 * len ≤ 0x10000 → cur + 1 < len → dmemWord k (base + 4 * cur) s = e → e < 2 ^ 31 →
    [a, a + 4, a + 8, a + 12, base + 4 * cur].all (fun x => goodData k x s) = true →
    ∃ t, exec (.pls k h) s = .next t ∧ Sets k h (rdOf w) e s t ∧ dmemWord k (a + 8) t = cur + 1 ∧
      dmemWord k (a + 12) t = dmemWord k (a + 12) s ∧ (t.thread k h).st = 0 ∧ Retired k h ((s.thread k h).pc + 1) 6 s t) ∧
  (∀ (k : Fin 8) (h : Fin 4) (w : Nat) (a n : Nat) (s : State), Issues k h 0x3B w s → readG k h (raOf w) s = a → a % 4 = 0 →
    a + 40 ≤ 0x10000 → (List.range 10).all (fun i => goodData k (a + 4 * i) s) = true → readG k h (rbOf w) s % 8 ≤ 5 → 6 * k + readG k h (rbOf w) s % 8 = n → s.up (framingIsland n) = true →
    (s.actOf n).normal.length < 256 →
    ∃ t, exec (.emp k h) s = .next t ∧ (t.actOf n).normal = (s.actOf n).normal ++ [bodyMessage n (dmemBytes k a 40 s) s] ∧
      (t.actOf n).seq = (s.actOf n).seq + 1 ∧ (t.thread k h).st = 0 ∧ Retired k h ((s.thread k h).pc + 1) 12 s t ∧
      Touches [.mem, .pmu, .threads, .clusters, .act] [(GSQ.TRACE_DROP_CNT, k, 0)] s t) ∧
  (∀ (k : Fin 8) (h : Fin 4) (w : Nat) (s : State), Issues k h 0x3C w s →
    ∃ t, exec (.evr k h) s = .next t ∧ Raised (192 + 8 * k + imm18 w / 32 % 8) (imm18 w % 32) t ∧
      (∀ x, readG k h x t = readG k h x s) ∧ Retired k h ((s.thread k h).pc + 1) 2 s t ∧
      Touches (.mem :: .threads :: .clusters :: signals) [(GSQ.TRACE_DROP_CNT, k, 0)] s t) ∧
  (∀ (k : Fin 8) (h : Fin 4) (w : Nat) (s : State), Issues k h 0x3D w s → rdOf w < 15 →
    ∃ t, exec (.frm k h) s = .next t ∧
      readG k h (rdOf w) t = (if rdOf w = 0 then 0 else openFrame (6 * k) s % 2 ^ 32) ∧
      readG k h (rdOf w + 1) t = cyclesToClose (6 * k) s % 2 ^ 32 ∧ Retired k h ((s.thread k h).pc + 1) 2 s t ∧
      ThreadOnly k s t) ∧
  (∀ (k : Fin 8) (h : Fin 4) (w : Nat) (s : State), Issues k h 0x3D w s → rdOf w = 15 →
    ∃ t, exec (.frm k h) s = .next t ∧ Stopped k h 4 s t)

/-- R137, R140, R145, R148, R149: the threads of a cluster. A tick is latched for every thread where LEAD is not 0; a
thread that has run WDOG.CYCLES cycles without a wait stops with code 5, counted; an enabled thread starts at its entry with
cleared registers and a disabled one stops; the region of a disabled thread is taken, that of an enabled one is refused; a
hand-over that holds its entry is pending with its event; a mailbox write stores the value and latches its event. -/
def Obligations.SequencerThreads : Prop :=
  (∀ (k : Fin 8) (h : Fin 4) (s : State), s.up (clusterIsland k) = true → (s.cluster k).tickLead ≠ 0 →
    ∃ t, exec (.tickEvent k) s = .next t ∧ (t.thread k h).latch = maskSet (s.thread k h).latch 3 ∧ Touches [.threads] [] s t) ∧
  (∀ (k : Fin 8) (h : Fin 4) (s : State), s.up (clusterIsland k) = true → (s.thread k h).state = .running →
    rd GSQ.WDOG_CYCLES k s ≤ (s.thread k h).wdog →
    ∃ t, exec (.watchdogFault k h) s = .next t ∧ (t.thread k h).state = .fault ∧ (t.thread k h).fcode = 5 ∧
      Counted GSQ.WDOG_CNT k s t ∧ Counted GSQ.FAULT_CNT k s t ∧ Raised (128 + k) (16 + h) t ∧
      Touches (.mem :: .threads :: signals) [(GSQ.WDOG_CNT, k, 0), (GSQ.FAULT_CNT, k, 0)] s t) ∧
  (∀ (k : Fin 8) (h : Fin 4) (s : State), s.up (clusterIsland k) = true → threadEnabled k h s = false → roleStandby s = false →
    ∃ t, exec (.threadEnable k h) s = .next t ∧ threadEnabled k h t = true ∧ (t.thread k h).state = .running ∧
      (t.thread k h).pc = thrEntry k h s ∧ (t.thread k h).st = 0 ∧ (t.thread k h).latch = 0 ∧ (t.thread k h).wdog = 0 ∧
      (∀ x, readG k h x t = 0) ∧ Touches [.mem, .threads, .grt] [(GSQ.CTL_TEN, k, 0)] s t) ∧
  (∀ (k : Fin 8) (h : Fin 4) (s : State), s.up (clusterIsland k) = true → threadEnabled k h s = true →
    ∃ t, exec (.threadDisable k h) s = .next t ∧ rd GSQ.CTL_TEN k t = rd GSQ.CTL_TEN k s - 2 ^ h.val ∧
      (t.thread k h).state = .disabled ∧ (t.thread k h).wait = none ∧
      Touches [.mem, .freeCount, .pmu, .threads, .clusters, .grt] [(GSQ.CTL_TEN, k, 0), (GSQ.TRACE_DROP_CNT, k, 0)] s t) ∧
  (∀ (k : Fin 8) (h : Fin 4) (w : Word) (s : State), s.up (clusterIsland k) = true → threadEnabled k h s = false →
    w.toNat % 2 ^ 14 ≤ w.toNat / 2 ^ 16 % 2 ^ 14 →
    ∃ t, exec (.thrRegionWrite k h w) s = .next t ∧ thrStart k h t = w.toNat % 2 ^ 14 ∧
      thrEnd k h t = w.toNat / 2 ^ 16 % 2 ^ 14 ∧
      Touches [.mem, .grt] [(GSQ.THR_REGION0_START.at h, k, 0), (GSQ.THR_REGION0_END.at h, k, 0)] s t) ∧
  (∀ (k : Fin 8) (h : Fin 4) (w : Word) (s : State), s.up (clusterIsland k) = true → threadEnabled k h s = true →
    ∃ t, exec (.thrRegionWrite k h w) s = .next t ∧ Raised 183 6 t ∧ Touches (.cmd :: signals) [] s t) ∧
  (∀ (k : Fin 8) (h : Fin 4) (s : State), s.up (clusterIsland k) = true → (s.cluster k).swap = none →
    rd GSQ.SWAP_REGION_START k s ≤ rd GSQ.SWAP_ENTRY_ENTRY k s → rd GSQ.SWAP_ENTRY_ENTRY k s ≤ rd GSQ.SWAP_REGION_END k s →
    ∃ t, exec (.handoverRequest k h) s = .next t ∧
      (t.cluster k).swap = some (h.val, rd GSQ.SWAP_ENTRY_ENTRY k s, rdWord .gsq k 0 6 s) ∧
      (t.thread k h).latch = maskSet (s.thread k h).latch 6 ∧ rd GSQ.SWAP_GO k t = 1 ∧ rd GSQ.SWAP_ERR k t = 0 ∧
      rd GSQ.SWAP_THREAD k t = h ∧
      Touches [.mem, .threads, .clusters, .grt] [(GSQ.SWAP_THREAD, k, 0), (GSQ.SWAP_GO, k, 0), (GSQ.SWAP_ERR, k, 0)] s t) ∧
  (∀ (k : Fin 8) (h : Fin 4) (s : State), s.up (clusterIsland k) = true → (s.cluster k).swap ≠ none →
    ∃ t, exec (.handoverRequest k h) s = .next t ∧ (t.cluster k).swap = (s.cluster k).swap ∧ rd GSQ.SWAP_ERR k t = 1 ∧
      Raised (128 + k) 23 t ∧ Touches (.mem :: .cmd :: signals) [(GSQ.SWAP_ERR, k, 0)] s t) ∧
  (∀ (k : Fin 8) (h : Fin 4) (w : Word) (s : State), s.up (clusterIsland k) = true → (s.thread k h).mbxUnread = false →
    ∃ t, exec (.mailboxWrite k h w) s = .next t ∧ rd (GSQ.MBX0.at h) k t = w.toNat ∧ (t.thread k h).mbxUnread = true ∧
      (t.thread k h).latch = maskSet (s.thread k h).latch 5 ∧ Touches [.mem, .threads] [(GSQ.MBX0.at h, k, 0)] s t)

/-- R124, R139, R147 to R149: the cluster's memories and trace. A word of instruction memory outside every enabled
thread's region is stored on a unit that is not standby, and refused with cause 24 inside one; data memory and context words
are stored; TRACE_CTL.EN from 0 to 1 empties the trace; a full trace that does not wrap raises cause 25. -/
def Obligations.SequencerStores : Prop :=
  (∀ (k : Fin 8) (w : Word) (s : State), s.up (clusterIsland k) = true → roleStandby s = false →
    imemHeld k (rd GSQ.IMEM_IDX_ADDR k s) s = false →
    ∃ t, exec (.imemWrite k w) s = .next t ∧ imemWord k (rd GSQ.IMEM_IDX_ADDR k s) t = w.toNat ∧
      Touches [.mem, .clusters, .grt] [(⟨.imem, 0, 31, 0⟩, k, rd GSQ.IMEM_IDX_ADDR k s), (GSQ.IMEM_IDX_ADDR, k, 0)] s t) ∧
  (∀ (k : Fin 8) (w : Word) (s : State), s.up (clusterIsland k) = true → imemHeld k (rd GSQ.IMEM_IDX_ADDR k s) s = true →
    ∃ t, exec (.imemWrite k w) s = .next t ∧ Counted GSQ.IMEM_REF_CNT k s t ∧ Raised (128 + k) 24 t ∧
      Touches (.mem :: .cmd :: signals) [(GSQ.IMEM_REF_CNT, k, 0), (GSQ.IMEM_IDX_ADDR, k, 0)] s t) ∧
  (∀ (k : Fin 8) (w : Word) (s : State), s.up (clusterIsland k) = true →
    ∃ t, exec (.dmemWrite k w) s = .next t ∧ dmemWord k (4 * rd GSQ.DMEM_IDX_ADDR k s) t = w.toNat ∧
      Touches [.mem, .clusters] [(⟨.dmem, 0, 31, 0⟩, k, rd GSQ.DMEM_IDX_ADDR k s), (GSQ.DMEM_IDX_ADDR, k, 0)] s t) ∧
  (∀ (k : Fin 8) (w : Word) (n : Nat) (s : State), s.up (clusterIsland k) = true → 6 * k + rd GSQ.CTX_IDX_TREE k s = n →
    ∃ t, exec (.ctxDataWrite k w) s = .next t ∧
      rdWord .ctx n (rd GSQ.CTX_IDX_CTX k s) (rd GSQ.CTX_IDX_WORD k s) t = w.toNat ∧
      Touches [.mem, .grt] [(⟨.ctx, rd GSQ.CTX_IDX_WORD k s, 31, 0⟩, n, rd GSQ.CTX_IDX_CTX k s), (GSQ.CTX_IDX_WORD, k, 0),
        (GSQ.CTX_IDX_CTX, k, 0)] s t) ∧
  (∀ (k : Fin 8) (w : Word) (s : State), s.up (clusterIsland k) = true → on GSQ.TRACE_CTL_EN k s = false →
    on GSQ.TRACE_CTL_EN k (writeReg .gsq k 32 w.toNat s) = true →
    ∃ t, exec (.traceCtlWrite k w) s = .next t ∧ (t.cluster k).trace = [] ∧ (t.cluster k).traceFull = false ∧
      on GSQ.TRACE_CTL_EN k t = true) ∧
  (∀ (k : Fin 8) (s : State), s.up (clusterIsland k) = true → on GSQ.TRACE_CTL_RING k s = false →
    4096 ≤ (s.cluster k).trace.length → (s.cluster k).traceFull = false →
    ∃ t, exec (.traceFull k) s = .next t ∧ (t.cluster k).traceFull = true ∧ Raised (128 + k) 25 t ∧
      Touches (.clusters :: signals) [] s t)

/-- R102, R104, R152, R155, R156, R168: bindings. A request without an error binds the lane, which starts to wait with a fresh
state, BIND showing its request and no error; an upstream lane's fixed cell is placed with owner 0b10, and where the cell is another
owner's (the model's choice, log entry 109) or the placement does not fit the request is refused with code 9; a request with an error
of R155 is refused with its code and a bound lane's with code 1, each with cause 0; an unbind frees the lane and removes its cell; the
lane words above the configuration are written, and words 0 to 4 of a bound lane refused. -/
def Obligations.LaneBinding : Prop :=
  (∀ (n : Fin 48) (l : Fin 16) (s : State), s.up 220 = true → laneBound ⟨0, n, l⟩ s = false →
    bindError ⟨0, n, l⟩ s = 0 →
    ∃ t, exec (.crlBind 0 n l) s = .next t ∧ lrd LANE.BOUND ⟨0, n, l⟩ t = 1 ∧ lrd LANE.STATE ⟨0, n, l⟩ t = 1 ∧
      t.crLane ⟨0, n, l⟩ = {} ∧ rd CRL.BIND_OP 0 t = 0 ∧ rd CRL.BIND_DIR 0 t = 0 ∧ rd CRL.BIND_TREE 0 t = n ∧
      rd CRL.BIND_LANE 0 t = l ∧ rd CRL.BIND_GO 0 t = 0 ∧ rd CRL.BIND_ERR 0 t = 0 ∧ rd CRL.BIND_ERRCODE 0 t = 0 ∧
      rd CRL.STS_BOUND_DN 0 t = (rd CRL.STS_BOUND_DN 0 s + 1) % 2 ^ 10 ∧ Within [.mem, .crl] [.lane, .crl] s t) ∧
  (∀ (n : Fin 48) (l : Fin 16) (w : Nat × Nat × Nat) (s : State), s.up 220 = true →
    s.up (clusterIsland (treeCluster n)) = true → laneBound ⟨1, n, l⟩ s = false → bindError ⟨1, n, l⟩ s = 0 →
    laneCell ⟨1, n, l⟩ s = w → cellFree ⟨1, n, l⟩ s = true →
    placementFits n (lrd LANE.CELL ⟨1, n, l⟩ s) w.1 w.2.1 w.2.2 s = true →
    ∃ t, exec (.crlBind 1 n l) s = .next t ∧ lrd LANE.BOUND ⟨1, n, l⟩ t = 1 ∧ lrd LANE.STATE ⟨1, n, l⟩ t = 1 ∧
      t.crLane ⟨1, n, l⟩ = {} ∧ rd CRL.BIND_ERR 0 t = 0 ∧ rd CRL.BIND_ERRCODE 0 t = 0 ∧
      (roleStandby s = false → fixedOwner n (lrd LANE.CELL ⟨1, n, l⟩ s) t = some 2)) ∧
  (∀ (n : Fin 48) (l : Fin 16) (w : Nat × Nat × Nat) (s : State), s.up 220 = true →
    s.up (clusterIsland (treeCluster n)) = true → laneBound ⟨1, n, l⟩ s = false → bindError ⟨1, n, l⟩ s = 0 →
    laneCell ⟨1, n, l⟩ s = w → (cellFree ⟨1, n, l⟩ s = false ∨
      placementFits n (lrd LANE.CELL ⟨1, n, l⟩ s) w.1 w.2.1 w.2.2 s = false) →
    ∃ t, exec (.crlBind 1 n l) s = .next t ∧ rd CRL.BIND_ERR 0 t = 1 ∧ rd CRL.BIND_ERRCODE 0 t = 9 ∧
      lrd LANE.BOUND ⟨1, n, l⟩ t = 0 ∧ Raised (171 + n / 6) 0 t) ∧
  (∀ (d : Fin 2) (n : Fin 48) (l : Fin 16) (e : Nat) (s : State), s.up 220 = true → laneBound ⟨d, n, l⟩ s = false →
    bindError ⟨d, n, l⟩ s = e → e ≠ 0 →
    ∃ t, exec (.crlBind d n l) s = .next t ∧ rd CRL.BIND_ERR 0 t = 1 ∧ rd CRL.BIND_ERRCODE 0 t = e ∧ rd CRL.BIND_GO 0 t = 0 ∧
      lrd LANE.BOUND ⟨d, n, l⟩ t = 0 ∧ Raised (171 + n / 6) 0 t ∧
      Touches (.mem :: .cmd :: signals) [(CRL.BIND_OP, 0, 0), (CRL.BIND_DIR, 0, 0), (CRL.BIND_TREE, 0, 0),
        (CRL.BIND_LANE, 0, 0), (CRL.BIND_GO, 0, 0), (CRL.BIND_ERR, 0, 0), (CRL.BIND_ERRCODE, 0, 0)] s t) ∧
  (∀ (d : Fin 2) (n : Fin 48) (l : Fin 16) (s : State), s.up 220 = true → laneBound ⟨d, n, l⟩ s = true →
    ∃ t, exec (.crlBind d n l) s = .next t ∧ rd CRL.BIND_ERR 0 t = 1 ∧ rd CRL.BIND_ERRCODE 0 t = 1 ∧ rd CRL.BIND_GO 0 t = 0 ∧
      lrd LANE.BOUND ⟨d, n, l⟩ t = 1 ∧ Raised (171 + n / 6) 0 t ∧
      Touches (.mem :: .cmd :: signals) [(CRL.BIND_OP, 0, 0), (CRL.BIND_DIR, 0, 0), (CRL.BIND_TREE, 0, 0),
        (CRL.BIND_LANE, 0, 0), (CRL.BIND_GO, 0, 0), (CRL.BIND_ERR, 0, 0), (CRL.BIND_ERRCODE, 0, 0)] s t) ∧
  (∀ (n : Fin 48) (l : Fin 16) (s : State), s.up 220 = true → laneBound ⟨0, n, l⟩ s = true →
    ∃ t, exec (.crlUnbind 0 n l) s = .next t ∧ lrd LANE.BOUND ⟨0, n, l⟩ t = 0 ∧ lrd LANE.STATE ⟨0, n, l⟩ t = 0 ∧
      lrd LANE.DEG ⟨0, n, l⟩ t = 0 ∧ t.crLane ⟨0, n, l⟩ = {} ∧ rd CRL.BIND_OP 0 t = 1 ∧ rd CRL.BIND_ERR 0 t = 0 ∧
      Within [.mem, .crl] [.lane, .crl] s t) ∧
  (∀ (n : Fin 48) (l : Fin 16) (s : State), s.up 220 = true → s.up (clusterIsland (treeCluster n)) = true →
    laneBound ⟨1, n, l⟩ s = true → fixedOwner n (lrd LANE.CELL ⟨1, n, l⟩ s) s = some 2 →
    ∃ t, exec (.crlUnbind 1 n l) s = .next t ∧ lrd LANE.BOUND ⟨1, n, l⟩ t = 0 ∧ lrd LANE.STATE ⟨1, n, l⟩ t = 0 ∧
      lrd LANE.DEG ⟨1, n, l⟩ t = 0 ∧ t.crLane ⟨1, n, l⟩ = {} ∧ rd CRL.BIND_OP 0 t = 1 ∧ rd CRL.BIND_ERR 0 t = 0 ∧
      (roleStandby s = false → fixedOwner n (lrd LANE.CELL ⟨1, n, l⟩ s) t = none) ∧ Within [.mem, .crl, .grt] [.lane, .crl, .cell] s t) ∧
  (∀ (d : Fin 2) (n : Fin 48) (l : Fin 16) (s : State), s.up 220 = true → laneBound ⟨d, n, l⟩ s = false →
    ∃ t, exec (.crlUnbind d n l) s = .next t ∧ rd CRL.BIND_ERR 0 t = 1 ∧ rd CRL.BIND_ERRCODE 0 t = 1 ∧
      Raised (171 + n / 6) 0 t ∧
      Touches (.mem :: .cmd :: signals) [(CRL.BIND_OP, 0, 0), (CRL.BIND_DIR, 0, 0), (CRL.BIND_TREE, 0, 0),
        (CRL.BIND_LANE, 0, 0), (CRL.BIND_GO, 0, 0), (CRL.BIND_ERR, 0, 0), (CRL.BIND_ERRCODE, 0, 0)] s t) ∧
  (∀ (w : Word) (s : State), s.up 220 = true → laneBound (namedLane s) s = true → rd CRL.LANE_IDX_WORD 0 s < 5 →
    ∃ t, exec (.crlLaneWrite w) s = .next t ∧ Raised 183 6 t ∧
      Touches (.mem :: .cmd :: signals) [(CRL.LANE_IDX_WORD, 0, 0), (CRL.LANE_IDX_LANE, 0, 0),
        (CRL.LANE_IDX_TREE, 0, 0)] s t) ∧
  (∀ (w : Word) (s : State), s.up 220 = true → rd CRL.LANE_IDX_WORD 0 s = 6 → on CRL.LANE_IDX_AUTO_INC 0 s = false →
    ∃ t, exec (.crlLaneWrite w) s = .next t ∧ lrd LANE.FT (namedLane s) t = w.toNat / 2 ^ 16 ∧
      lrd LANE.WIN (namedLane s) t = w.toNat % 2 ^ 16 ∧
      Touches [.mem] [(LANE.FT, (namedLane s).inst, (namedLane s).l), (LANE.WIN, (namedLane s).inst, (namedLane s).l)] s t)

/-- R153, R154, R157, R158, R163, R166, R167: downstream lanes. A lane that waits sends a container without payload; one in sync
sends Cn bytes of its FIFO behind the header of R153, Cn the whole part of its accumulated rate, where no slip is due; each container
stands with the others of its tree in lane order; one not ready in time is left out, counted with cause 6; a packet is discarded with
cause 12 where a check fails, is written at once with cause 13 where it is late, and waits for its presentation time otherwise. -/
def Obligations.LaneDownstream : Prop :=
  (∀ (n : Fin 48) (l : Fin 16) (ofs : BitVec 20) (s : State), s.up 220 = true → s.up (framingIsland n) = true →
    s.up 218 = true → (laneTreat 0 n (lrd LANE.PORT_ID ⟨0, n, l⟩ s) 0 s).omci = none →
    laneBound ⟨0, n, l⟩ s = true → lrd LANE.CIPHER ⟨0, n, l⟩ s = 0 → lrd LANE.STATE ⟨0, n, l⟩ s = 1 →
    (s.crLane ⟨0, n, l⟩).building ≠ some ((s.fram n).frame + 1) →
    (s.crLane ⟨0, n, l⟩).fill < lrd LANE.FT ⟨0, n, l⟩ s * 64 →
    ∃ t, exec (.crlBuild n l ofs) s = .next t ∧ lrd LANE.STATE ⟨0, n, l⟩ t = 1 ∧ lrd LANE.CN_LAST ⟨0, n, l⟩ t = 0 ∧
      (t.crLane ⟨0, n, l⟩).fifo = (s.crLane ⟨0, n, l⟩).fifo ∧
      (t.crLane ⟨0, n, l⟩).building = some ((s.fram n).frame + 1) ∧
      (t.fram n).containers = insertContainer {
        lane := l, port := lrd LANE.PORT_ID ⟨0, n, l⟩ s, len := 16, sdu := containerHeader ⟨0, n, l⟩ ((s.fram n).frame + 1) 0 0 false s,
        out := { bytes := containerHeader ⟨0, n, l⟩ ((s.fram n).frame + 1) 0 0 false s } } (s.fram n).containers) ∧
  (∀ (n : Fin 48) (l : Fin 16) (ofs : BitVec 20) (e est rate acc : Int) (cn cnd : Nat) (s : State), s.up 220 = true →
    s.up (framingIsland n) = true → s.up 218 = true → (laneTreat 0 n (lrd LANE.PORT_ID ⟨0, n, l⟩ s) 0 s).omci = none →
    laneBound ⟨0, n, l⟩ s = true → lrd LANE.CIPHER ⟨0, n, l⟩ s = 0 →
    lrd LANE.STATE ⟨0, n, l⟩ s = 2 → (s.crLane ⟨0, n, l⟩).building ≠ some ((s.fram n).frame + 1) →
    e = ((s.crLane ⟨0, n, l⟩).fill : Int) - (lrd LANE.FT ⟨0, n, l⟩ s * 64 : Nat) →
    est = (s.crLane ⟨0, n, l⟩).est + sar (e * 65536) (rd CRL.CTL_KI_SH 0 s) →
    rate = (laneNom ⟨0, n, l⟩ s : Int) + est + sar (e * 65536) (rd CRL.CTL_KP_SH 0 s) →
    acc = (s.crLane ⟨0, n, l⟩).acc + rate → cn = (sar acc 16).toNat → cnd = (sar (acc - sar acc 16 * 65536) 10).toNat →
    cnMin ⟨0, n, l⟩ s ≤ cn → cn ≤ cnMax ⟨0, n, l⟩ s →
    cn ≤ (s.crLane ⟨0, n, l⟩).fill → e ≤ (lrd LANE.WIN ⟨0, n, l⟩ s * 64 : Nat) →
    -((lrd LANE.WIN ⟨0, n, l⟩ s * 64 : Nat) : Int) ≤ e →
    ∃ t, exec (.crlBuild n l ofs) s = .next t ∧ (t.crLane ⟨0, n, l⟩).fifo = (s.crLane ⟨0, n, l⟩).fifo.drop cn ∧
      (t.crLane ⟨0, n, l⟩).est = est ∧ (t.crLane ⟨0, n, l⟩).acc = acc - sar acc 16 * 65536 ∧
      lrd LANE.CN_LAST ⟨0, n, l⟩ t = cn % 2 ^ 20 ∧
      (t.crLane ⟨0, n, l⟩).building = some ((s.fram n).frame + 1) ∧
      (t.fram n).containers = insertContainer {
        lane := l, port := lrd LANE.PORT_ID ⟨0, n, l⟩ s, len := 16 + cn, sdu := containerHeader ⟨0, n, l⟩ ((s.fram n).frame + 1) cn cnd false s ++ (s.crLane ⟨0, n, l⟩).fifo.take cn,
        out := { bytes := containerHeader ⟨0, n, l⟩ ((s.fram n).frame + 1) cn cnd false s ++ (s.crLane ⟨0, n, l⟩).fifo.take cn } }
        (s.fram n).containers) ∧
  (∀ (n : Fin 48) (l : Fin 16) (s : State), s.up 220 = true → (s.fram n).built = none →
    (s.crLane ⟨0, n, l⟩).building = some ((s.fram n).frame + 1) →
    ((s.fram n).containers.any fun c => c.lane == l.val) = true →
    ∃ t, exec (.crlContainerDeadline n l) s = .next t ∧
      (t.fram n).containers = (s.fram n).containers.filter (fun c => c.lane != l.val) ∧
      lrd LANE.DISC_CNT ⟨0, n, l⟩ t = min (lrd LANE.DISC_CNT ⟨0, n, l⟩ s + 1) LANE.DISC_CNT.max ∧
      Raised (171 + n / 6) 6 t ∧
      Touches (.mem :: .framing :: .crl :: signals) [(LANE.DISC_CNT, (⟨0, n, l⟩ : LaneId).inst, l),
        (LANE.DEG, (⟨0, n, l⟩ : LaneId).inst, l)] s t) ∧
  (∀ (n : Fin 48) (l : Fin 16) (flow : BitVec 8) (pay : List Byte) (pt : Nat) (s : State), s.up 220 = true →
    (laneBound ⟨0, n, l⟩ s = false ∨ flow.toNat ≠ lrd LANE.FLOW_ID ⟨0, n, l⟩ s ∨ pay.length < 64 ∨ 8192 < pay.length ∨
      pay.length % 4 ≠ 0 ∨ pt + 1000000 < s.ptp ∨ s.ptp + 1000000 < pt ∨ precedes (s.crLane ⟨0, n, l⟩) pt = true) →
    ∃ t, exec (.roePacketRx n l flow pay pt) s = .next t ∧
      lrd LANE.PKT_ERR_CNT ⟨0, n, l⟩ t = min (lrd LANE.PKT_ERR_CNT ⟨0, n, l⟩ s + 1) LANE.PKT_ERR_CNT.max ∧
      Raised (171 + n / 6) 12 t ∧
      Touches (.mem :: signals) [(LANE.PKT_ERR_CNT, (⟨0, n, l⟩ : LaneId).inst, l)] s t) ∧
  (∀ (n : Fin 48) (l : Fin 16) (flow : BitVec 8) (pay : List Byte) (pt : Nat) (s : State), s.up 220 = true →
    laneBound ⟨0, n, l⟩ s = true → flow.toNat = lrd LANE.FLOW_ID ⟨0, n, l⟩ s → 64 ≤ pay.length → pay.length ≤ 8192 →
    pay.length % 4 = 0 → s.ptp ≤ pt → pt ≤ s.ptp + 1000000 → precedes (s.crLane ⟨0, n, l⟩) pt = false →
    ∃ t, exec (.roePacketRx n l flow pay pt) s = .next t ∧
      (t.crLane ⟨0, n, l⟩).packets = insertPacket pt pay (s.crLane ⟨0, n, l⟩).packets ∧ Touches [.crl] [] s t) ∧
  (∀ (n : Fin 48) (l : Fin 16) (flow : BitVec 8) (pay : List Byte) (pt : Nat) (s : State), s.up 220 = true →
    laneBound ⟨0, n, l⟩ s = true → flow.toNat = lrd LANE.FLOW_ID ⟨0, n, l⟩ s → 64 ≤ pay.length → pay.length ≤ 8192 →
    pay.length % 4 = 0 → pt < s.ptp → s.ptp ≤ pt + 1000000 → (s.crLane ⟨0, n, l⟩).lastPt = none →
    ∃ t, exec (.roePacketRx n l flow pay pt) s = .next t ∧
      (t.crLane ⟨0, n, l⟩).fifo = (s.crLane ⟨0, n, l⟩).fifo ++ pay ∧ (t.crLane ⟨0, n, l⟩).lastPt = some (pt, pay.length) ∧
      Raised (171 + n / 6) 13 t ∧ Touches (.crl :: signals) [] s t) ∧
  (∀ (n : Fin 48) (l : Fin 16) (pt : Nat) (pay : List Byte) (rest : List (Nat × List Byte)) (s : State), s.up 220 = true →
    (s.crLane ⟨0, n, l⟩).packets = (pt, pay) :: rest → (s.crLane ⟨0, n, l⟩).lastPt = none →
    ∃ t, exec (.roePacketPresent n l) s = .next t ∧ (t.crLane ⟨0, n, l⟩).packets = rest ∧
      (t.crLane ⟨0, n, l⟩).fifo = (s.crLane ⟨0, n, l⟩).fifo ++ pay ∧ (t.crLane ⟨0, n, l⟩).lastPt = some (pt, pay.length) ∧
      Touches [.clk, .ptp, .ptpFrac, .tim, .pmu, .crl] [] s t)

/-- R156, R159 to R166: upstream lanes and overhead ports. The segments of a container of no bound lane are counted astray; one that
fails a check is discarded with cause 6 and adds to the failed run, as a missing one does, which in sync repeats the slip buffer with
cause 3; three passing ones enter sync with cause 1 and eight failed ones leave it with cause 2; one that passes in sync, inside the
window, enters the FIFO; a new label is accepted; a paced packet leaves; a period of an enabled port sends the values due in it and
samples the words of its IN lanes; a channel word is written, and refused with its cause where its lane is IN elsewhere. -/
def Obligations.LaneUpstream : Prop :=
  (∀ (n : Fin 48) (l : Fin 16) (c : CrlContainer) (s : State), s.up 220 = true → laneBound ⟨1, n, l⟩ s = false →
    ∃ t, exec (.crlContainerRx n l c) s = .next t ∧
      rd CRL.STRAY_CNT 0 t = min (rd CRL.STRAY_CNT 0 s + c.segs) CRL.STRAY_CNT.max ∧
      Touches [.mem, .pmu] [(CRL.STRAY_CNT, 0, 0)] s t) ∧
  (∀ (n : Fin 48) (l : Fin 16) (c : CrlContainer) (s : State), s.up 220 = true → laneBound ⟨1, n, l⟩ s = true →
    lrd LANE.CIPHER ⟨1, n, l⟩ s = 0 → (c.whole = false ∨ c.w0.toNat / 2 ^ 28 ≠ 1 ∨ c.w0.toNat / 2 ^ 24 % 16 ≠ l.val) →
    lrd LANE.STATE ⟨1, n, l⟩ s = 1 →
    ∃ t, exec (.crlContainerRx n l c) s = .next t ∧
      lrd LANE.DISC_CNT ⟨1, n, l⟩ t = min (lrd LANE.DISC_CNT ⟨1, n, l⟩ s + 1) LANE.DISC_CNT.max ∧
      (t.crLane ⟨1, n, l⟩).failRun = (s.crLane ⟨1, n, l⟩).failRun + 1 ∧ (t.crLane ⟨1, n, l⟩).passRun = 0 ∧
      Raised (171 + n / 6) 6 t) ∧
  (∀ (n : Fin 48) (l : Fin 16) (c : CrlContainer) (cn cnd : Nat) (s : State), s.up 220 = true →
    s.up 219 = true → c.keyIndex = 0 → (laneTreat 1 n (lrd LANE.PORT_ID ⟨1, n, l⟩ s) 0 s).omci = none →
    laneBound ⟨1, n, l⟩ s = true → lrd LANE.CIPHER ⟨1, n, l⟩ s = 0 → c.whole = true → c.w0.toNat / 2 ^ 28 = 1 →
    c.w0.toNat / 2 ^ 24 % 16 = l.val → lrd LANE.STATE ⟨1, n, l⟩ s = 1 →
    jcValue c.payload.length (jcCopy c.w1.toNat) (jcCopy c.w2.toNat) = some (cn, cnd) → c.payload.length = cn →
    cnMin ⟨1, n, l⟩ s ≤ cn → cn ≤ cnMax ⟨1, n, l⟩ s →
    ∃ t, exec (.crlContainerRx n l c) s = .next t ∧
      (t.crLane ⟨1, n, l⟩).passRun = (s.crLane ⟨1, n, l⟩).passRun + 1 ∧ (t.crLane ⟨1, n, l⟩).failRun = 0 ∧
      (t.crLane ⟨1, n, l⟩).lblLast = c.w0.toNat % 256 ∧ lrd LANE.CN_LAST ⟨1, n, l⟩ t = cn ∧
      (t.crLane ⟨1, n, l⟩).cnd = cnd ∧ (t.crLane ⟨1, n, l⟩).bip = some (bip16 c.payload) ∧
      (t.crLane ⟨1, n, l⟩).ohRx = ((s.crLane ⟨1, n, l⟩).ohRx.filter fun o => decide (s.ptp / 125000 ≤ o.2)) ++
        [(c.w3.toNat / 2 ^ 16, ohDue s)]) ∧
  (∀ (n : Fin 48) (l : Fin 16) (c : CrlContainer) (cn cnd : Nat) (s : State), s.up 220 = true →
    s.up 219 = true → c.keyIndex = 0 → (laneTreat 1 n (lrd LANE.PORT_ID ⟨1, n, l⟩ s) 0 s).omci = none →
    laneBound ⟨1, n, l⟩ s = true → lrd LANE.CIPHER ⟨1, n, l⟩ s = 0 → c.whole = true → c.w0.toNat / 2 ^ 28 = 1 →
    c.w0.toNat / 2 ^ 24 % 16 = l.val → lrd LANE.STATE ⟨1, n, l⟩ s = 2 →
    jcValue c.payload.length (jcCopy c.w1.toNat) (jcCopy c.w2.toNat) = some (cn, cnd) → c.payload.length = cn →
    cnMin ⟨1, n, l⟩ s ≤ cn → cn ≤ cnMax ⟨1, n, l⟩ s →
    (s.crLane ⟨1, n, l⟩).fill + cn ≤ (lrd LANE.FT ⟨1, n, l⟩ s + lrd LANE.WIN ⟨1, n, l⟩ s) * 64 →
    (lrd LANE.FT ⟨1, n, l⟩ s - lrd LANE.WIN ⟨1, n, l⟩ s) * 64 ≤ (s.crLane ⟨1, n, l⟩).fill + cn →
    ∃ t, exec (.crlContainerRx n l c) s = .next t ∧
      (t.crLane ⟨1, n, l⟩).fifo = (s.crLane ⟨1, n, l⟩).fifo ++ c.payload ∧
      (t.crLane ⟨1, n, l⟩).slipPay = c.payload ∧ (t.crLane ⟨1, n, l⟩).passRun = (s.crLane ⟨1, n, l⟩).passRun + 1) ∧
  (∀ (n : Fin 48) (l : Fin 16) (s : State), s.up 220 = true → laneBound ⟨1, n, l⟩ s = true →
    lrd LANE.STATE ⟨1, n, l⟩ s = 1 →
    ∃ t, exec (.crlContainerMissing n l) s = .next t ∧
      (t.crLane ⟨1, n, l⟩).failRun = (s.crLane ⟨1, n, l⟩).failRun + 1 ∧ (t.crLane ⟨1, n, l⟩).passRun = 0) ∧
  (∀ (n : Fin 48) (l : Fin 16) (s : State), s.up 220 = true → laneBound ⟨1, n, l⟩ s = true →
    lrd LANE.STATE ⟨1, n, l⟩ s = 2 →
    ∃ t, exec (.crlContainerMissing n l) s = .next t ∧
      (t.crLane ⟨1, n, l⟩).failRun = (s.crLane ⟨1, n, l⟩).failRun + 1 ∧
      (t.crLane ⟨1, n, l⟩).fifo = (s.crLane ⟨1, n, l⟩).fifo ++ (s.crLane ⟨1, n, l⟩).slipPay ∧
      lrd LANE.SLIP_REP_CNT ⟨1, n, l⟩ t = min (lrd LANE.SLIP_REP_CNT ⟨1, n, l⟩ s + 1) LANE.SLIP_REP_CNT.max ∧
      Raised (171 + n / 6) 3 t) ∧
  (∀ (n : Fin 48) (l : Fin 16) (s : State), s.up 220 = true → lrd LANE.STATE ⟨1, n, l⟩ s = 1 →
    3 ≤ (s.crLane ⟨1, n, l⟩).passRun →
    ∃ t, exec (.crlSyncEnter n l) s = .next t ∧ lrd LANE.STATE ⟨1, n, l⟩ t = 2 ∧
      (t.crLane ⟨1, n, l⟩).rate = laneNom ⟨1, n, l⟩ s ∧ Raised (171 + n / 6) 1 t ∧
      Touches (.mem :: .crl :: signals) [(LANE.STATE, (⟨1, n, l⟩ : LaneId).inst, l)] s t) ∧
  (∀ (n : Fin 48) (l : Fin 16) (s : State), s.up 220 = true → lrd LANE.STATE ⟨1, n, l⟩ s = 2 →
    8 ≤ (s.crLane ⟨1, n, l⟩).failRun →
    ∃ t, exec (.crlSyncLeave n l) s = .next t ∧ lrd LANE.STATE ⟨1, n, l⟩ t = 1 ∧ Raised (171 + n / 6) 2 t ∧
      Touches (.mem :: signals) [(LANE.STATE, (⟨1, n, l⟩ : LaneId).inst, l)] s t) ∧
  (∀ (n : Fin 48) (l : Fin 16) (s : State), s.up 220 = true → lrd LANE.PRIV ⟨1, n, l⟩ s = 1 →
    3 ≤ (s.crLane ⟨1, n, l⟩).lblRun → (s.crLane ⟨1, n, l⟩).lblAccepted = false →
    (s.crLane ⟨1, n, l⟩).lblLast < 256 → (s.crLane ⟨1, n, l⟩).lblLast ≠ lrd LANE.LABEL_EXP ⟨1, n, l⟩ s →
    ∃ t, exec (.labelAccept n l) s = .next t ∧ lrd LANE.LBL_RX ⟨1, n, l⟩ t = (s.crLane ⟨1, n, l⟩).lblLast ∧
      lrd LANE.LBL_MISM ⟨1, n, l⟩ t = 1 ∧ (t.crLane ⟨1, n, l⟩).lblAccepted = true ∧ Raised (171 + n / 6) 9 t ∧
      ((s.crLane ⟨1, n, l⟩).lblLast = 0 → Raised (171 + n / 6) 10 t) ∧
      Touches (.mem :: .crl :: signals) [(LANE.LBL_RX, (⟨1, n, l⟩ : LaneId).inst, l),
        (LANE.LBL_MISM, (⟨1, n, l⟩ : LaneId).inst, l)] s t) ∧
  (∀ (n : Fin 48) (l : Fin 16) (k : Nat) (s : State), s.up 220 = true →
    lrd LANE.STATE ⟨1, n, l⟩ s = 2 → lrd LANE.PKT_LEN ⟨1, n, l⟩ s = k → k ≤ (s.crLane ⟨1, n, l⟩).out.length →
    ∃ t, exec (.crlPacketEmit n l) s = .next t ∧ (t.crLane ⟨1, n, l⟩).out = (s.crLane ⟨1, n, l⟩).out.drop k ∧
      (t.crLane ⟨1, n, l⟩).outPt = (s.crLane ⟨1, n, l⟩).outPt.drop 1 ∧ (t.crLane ⟨1, n, l⟩).fifo = (s.crLane ⟨1, n, l⟩).fifo ∧
      (t.crLane ⟨1, n, l⟩).paced = (s.crLane ⟨1, n, l⟩).paced ∧
      (t.crLane ⟨1, n, l⟩).sentPt = (s.crLane ⟨1, n, l⟩).outPt.headD s.ptp + lrd LANE.PT_OFS ⟨1, n, l⟩ s * 100) ∧
  (∀ (p : Fin 8) (x : List OhSamples) (j : Nat) (s : State), s.up 221 = true → on OHP.CTL_EN p s = true → nextPeriod p s = j →
    ∃ t, exec (.ohpPeriod p x) s = .next t ∧
      Tbl.get {} t.ohp.ports p = {
        period := some j, running := true, div := rd OHP.CTL_DIV p s, ended := (Tbl.get {} s.ohp.ports p).cur, out := (List.range 32).map (outWord p j s), cur := inWords p x s } ∧
      t.clk = s.clk + (j * 125000 - s.ptp)) ∧
  (∀ (p : Fin 8) (x : List OhSamples) (s : State), s.up 221 = true → on OHP.CTL_EN p s = false →
    ∃ t, exec (.ohpPeriod p x) s = .next t ∧
      Tbl.get {} t.ohp.ports p = {
        period := some (nextPeriod p s), running := false, div := rd OHP.CTL_DIV p s, ended := (Tbl.get {} s.ohp.ports p).cur, out := [], cur := [] } ∧
      Touches (.pmu :: .ohp :: clocks) [] s t) ∧
  (∀ (p : Fin 8) (w : Word) (s : State), s.up 221 = true → bitsOf w 29 24 < 48 → bitsOf w 19 14 < 48 →
    (s.mem.any fun e => e.1.sp == .chan && !(e.1.inst == p && e.1.idx == rd OHP.CH_IDX_CH p s) && bitsOf e.2 31 31 == 1 &&
      bitsOf e.2 29 20 == w.toNat / 2 ^ 20 % 1024) = false →
    ∃ t, exec (.ohpChannelWrite p w) s = .next t ∧
      rdWord .chan p (rd OHP.CH_IDX_CH p s) 0 t = w.toNat / 2 ^ 10 * 2 ^ 10 ∧
      Touches [.mem] [(⟨.chan, 0, 31, 0⟩, p, rd OHP.CH_IDX_CH p s), (OHP.CH_IDX_CH, p, 0)] s t) ∧
  (∀ (p : Fin 8) (w : Word) (s : State), s.up 221 = true → bitsOf w 29 24 < 48 → bitsOf w 19 14 < 48 →
    w.toNat / 2 ^ 31 = 1 →
    (s.mem.any fun e => e.1.sp == .chan && !(e.1.inst == p && e.1.idx == rd OHP.CH_IDX_CH p s) && bitsOf e.2 31 31 == 1 &&
      bitsOf e.2 29 20 == w.toNat / 2 ^ 20 % 1024) = true →
    ∃ t, exec (.ohpChannelWrite p w) s = .next t ∧ Raised 179 (8 + p) t ∧
      Touches (.mem :: .cmd :: signals) [(OHP.CH_IDX_CH, p, 0)] s t) ∧
  (∀ (p : Fin 8) (w : Word) (s : State), s.up 221 = true → (48 ≤ bitsOf w 29 24 ∨ 48 ≤ bitsOf w 19 14) →
    ∃ t, exec (.ohpChannelWrite p w) s = .next t ∧ Counted CMD.ENC_CNT 0 s t ∧ Raised 183 3 t)

/-- R172 to R174, R179, R181 to R186: frames. A downstream frame that matches a trap is counted; one whose VID has no entry is
dropped with cause 12; a bridged one answers its static or learned hit, or a miss; a routed one the action of its longest prefix, of
its domain's default, or a second slot; an IEEE 1914.3 one the action of its flow. An upstream frame of no Port-ID is dropped, and an
address not known is queued to be learned. A second slot takes the entry's action or its first slot's. The merge stage delivers the
newest learned hit, the static hit, the routed action or the flood, and hands a trapped frame over. A clear removes the entry it names
only where its stamp has not changed; the sweep clears HIT, then removes. -/
def Obligations.Classification : Prop :=
  (∀ (k : Fin 4) (s : State), s.up (pipeIsland k) = true →
    s.merge.frames.find? (fun f => Tbl.get .pending f.res k == .pending) = none →
    ∃ t, exec (.clsFrame k .down) s = .next t ∧ t = s) ∧
  (∀ (k : Fin 4) (f : DsFrame) (s : State), s.up (pipeIsland k) = true →
    s.merge.frames.find? (fun f => Tbl.get .pending f.res k == .pending) = some f → trapDown f.hdr s = true →
    ∃ t, exec (.clsFrame k .down) s = .next t ∧ t.merge = (setRes k f.no .trapped s).merge ∧ Counted CLS.TRAP_CNT k s t ∧
      Touches [.mem, .pmu, .merge, .cls] [(CLS.TRAP_CNT, k, 0)] s t) ∧
  (∀ (k : Fin 4) (f : DsFrame) (s : State), s.up (pipeIsland k) = true →
    s.merge.frames.find? (fun f => Tbl.get .pending f.res k == .pending) = some f → trapDown f.hdr s = false →
    rdx CVID.VALID k f.hdr.vid.toNat s = 0 →
    ∃ t, exec (.clsFrame k .down) s = .next t ∧ t.merge = (setRes k f.no .dropped s).merge ∧ Counted CLS.VID_MISS_CNT k s t ∧
      Raised (160 + k) 12 t ∧ Touches (.mem :: .merge :: .cls :: signals) [(CLS.VID_MISS_CNT, k, 0)] s t) ∧
  (∀ (k : Fin 4) (f : DsFrame) (d : Nat) (s : State), s.up (pipeIsland k) = true →
    s.merge.frames.find? (fun f => Tbl.get .pending f.res k == .pending) = some f → trapDown f.hdr s = false →
    rdx CVID.VALID k f.hdr.vid.toNat s = 1 → d = rdx CVID.DOMAIN k f.hdr.vid.toNat s → isRoe f.hdr.l3 = false →
    (rdx CDOMAIN.VALID k d s = 0 ∨ rdx CDOMAIN.ROUTED k d s = 0) → emFind k 1 (d * 2 ^ 48 + f.hdr.dst.toNat) s = none →
    ∃ t, exec (.clsFrame k .down) s = .next t ∧
      t = setRes k f.no (.miss (if rdx CDOMAIN.VALID k d s = 1 then some (rdx CDOMAIN.FLOOD k d s) else none)) (takeLane k s)) ∧
  (∀ (k : Fin 4) (f : DsFrame) (d i : Nat) (s : State), s.up (pipeIsland k) = true →
    s.merge.frames.find? (fun f => Tbl.get .pending f.res k == .pending) = some f → trapDown f.hdr s = false →
    rdx CVID.VALID k f.hdr.vid.toNat s = 1 → d = rdx CVID.DOMAIN k f.hdr.vid.toNat s → isRoe f.hdr.l3 = false →
    (rdx CDOMAIN.VALID k d s = 0 ∨ rdx CDOMAIN.ROUTED k d s = 0) → emFind k 1 (d * 2 ^ 48 + f.hdr.dst.toNat) s = some i →
    (emAt k i s).fixed = false →
    ∃ t, exec (.clsFrame k .down) s = .next t ∧
      t = setRes k f.no (.learned (d * 2 ^ 48 + f.hdr.dst.toNat) (emAt k i s).stamp (12 * k + (emAt k i s).tree)
        (emAt k i s).port) (takeLane k s)) ∧
  (∀ (k : Fin 4) (f : DsFrame) (d i : Nat) (s : State), s.up (pipeIsland k) = true →
    s.merge.frames.find? (fun f => Tbl.get .pending f.res k == .pending) = some f → trapDown f.hdr s = false →
    rdx CVID.VALID k f.hdr.vid.toNat s = 1 → d = rdx CVID.DOMAIN k f.hdr.vid.toNat s → isRoe f.hdr.l3 = false →
    (rdx CDOMAIN.VALID k d s = 0 ∨ rdx CDOMAIN.ROUTED k d s = 0) → emFind k 1 (d * 2 ^ 48 + f.hdr.dst.toNat) s = some i →
    (emAt k i s).fixed = true →
    ∃ t, exec (.clsFrame k .down) s = .next t ∧ emAt k i t = { emAt k i s with hit := true } ∧
      t.merge = (setRes k f.no (.fixedHit (fetchAct k (emAt k i s).result s)) s).merge) ∧
  (∀ (k : Fin 4) (f : DsFrame) (d : Nat) (s : State), s.up (pipeIsland k) = true →
    s.merge.frames.find? (fun f => Tbl.get .pending f.res k == .pending) = some f → trapDown f.hdr s = false →
    rdx CVID.VALID k f.hdr.vid.toNat s = 1 → d = rdx CVID.DOMAIN k f.hdr.vid.toNat s → isRoe f.hdr.l3 = false →
    rdx CDOMAIN.VALID k d s = 1 → rdx CDOMAIN.ROUTED k d s = 1 →
    ∃ t, exec (.clsFrame k .down) s = .next t ∧ t.merge = (setRes k f.no (match route k f.hdr.l3 s with
        | .action a => .action (fetchAct k a s)
        | .second _ _ => .second
        | .miss => .action (fetchAct k (rdx CDOMAIN.LPM_DEF k d s) s)) s).merge ∧
      (t.pipe k).seconds = (s.pipe k).seconds ++ (match route k f.hdr.l3 s with
        | .second key a => [{ key := key, action := fetchAct k a s, frame := .inl f.no }]
        | _ => []) ∧ Touches [.merge, .cls] [] s t) ∧
  (∀ (k : Fin 4) (f : DsFrame) (d i : Nat) (flow : BitVec 8) (pay : List Byte) (pt : Nat) (s : State), s.up (pipeIsland k) = true →
    s.merge.frames.find? (fun f => Tbl.get .pending f.res k == .pending) = some f → trapDown f.hdr s = false →
    rdx CVID.VALID k f.hdr.vid.toNat s = 1 → d = rdx CVID.DOMAIN k f.hdr.vid.toNat s → f.hdr.l3 = .roe flow pay pt →
    emFind k 2 (d * 256 + flow.toNat) s = some i →
    ∃ t, exec (.clsFrame k .down) s = .next t ∧ emAt k i t = { emAt k i s with hit := true } ∧
      t.merge = (setRes k f.no (.action (fetchAct k (emAt k i s).result s)) s).merge) ∧
  (∀ (k : Fin 4) (f : DsFrame) (d : Nat) (flow : BitVec 8) (pay : List Byte) (pt : Nat) (s : State), s.up (pipeIsland k) = true →
    s.merge.frames.find? (fun f => Tbl.get .pending f.res k == .pending) = some f → trapDown f.hdr s = false →
    rdx CVID.VALID k f.hdr.vid.toNat s = 1 → d = rdx CVID.DOMAIN k f.hdr.vid.toNat s → f.hdr.l3 = .roe flow pay pt →
    emFind k 2 (d * 256 + flow.toNat) s = none →
    ∃ t, exec (.clsFrame k .down) s = .next t ∧ t.merge = (setRes k f.no .dropped s).merge ∧ Counted CLS.ACT_DROP_CNT k s t ∧
      Touches [.mem, .pmu, .merge, .cls] [(CLS.ACT_DROP_CNT, k, 0)] s t) ∧
  (∀ (k : Fin 4) (b : List Byte) (x : UpSdu) (s : State), s.up (pipeIsland k) = true →
    s.upSdus.find? (fun x => x.tree / 12 == k.val) = some x → portValid k x.tree x.port s = false → x.handle = 0 →
    ∃ t, exec (.clsFrame k (.up b)) s = .next t ∧ t.upSdus = s.upSdus.erase x ∧
      Counted CLS.PORT_MISS_CNT k s t ∧ Raised (160 + k) 12 t ∧
      Touches (.mem :: .upSdus :: .cls :: signals) [(CLS.PORT_MISS_CNT, k, 0)] s t) ∧
  (∀ (k : Fin 4) (b : List Byte) (x : UpSdu) (p key : Nat) (s : State), s.up (pipeIsland k) = true →
    s.upSdus.find? (fun x => x.tree / 12 == k.val) = some x → portValid k x.tree x.port s = true → portEntry x.tree x.port = p →
    rdx CPORT.OMCI k p s = 0 → on CLS.CTL_LEARN_EN k s = true → rdx CPORT.LEARN k p s = 1 →
    rdx CPORT.DOMAIN k p s * 2 ^ 48 + (parseFrame 0 b).src.toNat = key → emFind k 1 key s = none →
    rdx CLIMIT.COUNT k (x.tree % 12) s < rdx CLIMIT.MAX k (x.tree % 12) s → (s.pipe k).learnq.length < 4096 →
    ∃ t, exec (.clsFrame k (.up b)) s = .next t ∧ t.upSdus = s.upSdus.erase x ∧ Counted CLS.LEARN_CNT k s t ∧
      (t.pipe k).learnq = (s.pipe k).learnq ++ [{ op := .insert, entry := {
        kind := 1, stamp := stampNow s, result := x.tree % 12 * 2 ^ 16 + x.port, key := key } }]) ∧
  (∀ (k : Fin 4) (x : Second) (rest : List Second) (no : Nat) (s : State), s.up (pipeIsland k) = true →
    (s.pipe k).seconds = x :: rest → emFind k 3 x.key s = none → x.frame = .inl no →
    ∃ t, exec (.clsSecondSlot k) s = .next t ∧ (t.pipe k).seconds = rest ∧
      t.merge = (setRes k no (.action x.action) s).merge ∧ Counted CLS.CONT_CNT k s t ∧
      Touches [.mem, .pmu, .merge, .cls] [(CLS.CONT_CNT, k, 0)] s t) ∧
  (∀ (k : Fin 4) (x : Second) (rest : List Second) (no i : Nat) (s : State), s.up (pipeIsland k) = true →
    (s.pipe k).seconds = x :: rest → emFind k 3 x.key s = some i → x.frame = .inl no →
    ∃ t, exec (.clsSecondSlot k) s = .next t ∧ (t.pipe k).seconds = rest ∧
      t.merge = (setRes k no (.action (fetchAct k (emAt k i s).result s)) s).merge ∧
      emAt k i t = { emAt k i s with hit := true } ∧ Counted CLS.CONT_CNT k s t) ∧
  (∀ (k : Fin 4) (x : Second) (rest : List Second) (u : UpFrame) (s : State), s.up (pipeIsland k) = true →
    (s.pipe k).seconds = x :: rest → x.frame = .inr u →
    ∃ t, exec (.clsSecondSlot k) s = .next t ∧ (t.pipe k).seconds = rest ∧ Counted CLS.CONT_CNT k s t) ∧
  (∀ (s : State), s.up 213 = true → s.merge.frames.find? (fun f => answered f s) = none →
    ∃ t, exec .merge s = .next t ∧ t = s) ∧
  (∀ (f : DsFrame) (s : State), s.up 213 = true → s.merge.frames.find? (fun f => answered f s) = some f →
    (∀ k, k < 4 → Tbl.get .pending f.res k = .trapped) →
    ∃ t, exec .merge s = .next t ∧
      t = handTrapped f { s with merge := { s.merge with frames := s.merge.frames.filter fun g => g.no != f.no } }) ∧
  (∀ (f : DsFrame) (key a b m n p q : Nat) (s : State), s.up 213 = true →
    s.merge.frames.find? (fun f => answered f s) = some f →
    Tbl.get .pending f.res 0 = .learned key a m p → Tbl.get .pending f.res 1 = .learned key b n q →
    Tbl.get .pending f.res 2 = .dropped → Tbl.get .pending f.res 3 = .dropped → stampNewer a b = true → stampNewer b a = false →
    ∃ t, exec .merge s = .next t ∧ (t.pipe 1).clears = (s.pipe 1).clears ++ [(key, b)] ∧ (t.pipe 0).clears = (s.pipe 0).clears ∧
      t = deliverCopies f [.toTree m p f.bytes.length (0, 0)]
        (pushClear 1 key b { s with merge := { s.merge with frames := s.merge.frames.filter fun g => g.no != f.no } })) ∧
  (∀ (f : DsFrame) (g : Nat) (s : State), s.up 213 = true → s.merge.frames.find? (fun f => answered f s) = some f →
    Tbl.get .pending f.res 0 = .miss (some g) → Tbl.get .pending f.res 1 = .dropped → Tbl.get .pending f.res 2 = .dropped →
    Tbl.get .pending f.res 3 = .dropped →
    ∃ t, exec .merge s = .next t ∧
      t = deliverCopies f ((groupMembers 0 g s).map fun x => .toTree x.1 x.2 f.bytes.length (0, 0))
        { s with merge := { s.merge with frames := s.merge.frames.filter fun g => g.no != f.no } }) ∧
  (∀ (f : DsFrame) (a : ActWords) (x : Copies × State) (s : State), s.up 213 = true →
    s.merge.frames.find? (fun f => answered f s) = some f →
    (Tbl.get .pending f.res 0 = .fixedHit a ∨ Tbl.get .pending f.res 0 = .action a) → Tbl.get .pending f.res 1 = .dropped →
    Tbl.get .pending f.res 2 = .dropped → Tbl.get .pending f.res 3 = .dropped →
    actDown 0 a f { s with merge := { s.merge with frames := s.merge.frames.filter fun g => g.no != f.no } } = x →
    ∃ t, exec .merge s = .next t ∧ t = deliverCopies f x.1 x.2) ∧
  (∀ (k : Fin 4) (key stamp : Nat) (rest : List (Nat × Nat)) (i : Nat) (s : State), s.up (pipeIsland k) = true →
    portFree k s = true → (s.pipe k).clears = (key, stamp) :: rest → emFind k 1 key s = some i → (emAt k i s).fixed = false →
    (emAt k i s).stamp = stamp →
    ∃ t, exec (.conditionalClear k) s = .next t ∧ (t.pipe k).clears = rest ∧ emFind k 1 key t = none ∧
      Counted CLS.MOVE_CNT k s t ∧ Raised (160 + k) 4 t) ∧
  (∀ (k : Fin 4) (key stamp : Nat) (rest : List (Nat × Nat)) (i : Nat) (s : State), s.up (pipeIsland k) = true →
    portFree k s = true → (s.pipe k).clears = (key, stamp) :: rest → emFind k 1 key s = some i → (emAt k i s).fixed = false →
    (emAt k i s).stamp ≠ stamp →
    ∃ t, exec (.conditionalClear k) s = .next t ∧ t.pipe k = { s.pipe k with clears := rest } ∧
      Counted CLS.MOVE_CLR_FAIL_CNT k s t ∧ Touches [.mem, .pmu, .cls] [(CLS.MOVE_CLR_FAIL_CNT, k, 0)] s t) ∧
  (∀ (k : Fin 4) (h : BitVec 4) (i : Fin 4) (b : Nat) (s : State), s.up (pipeIsland k) = true → rd CLS.CTL_AGE_EN k s = 1 →
    sweepFree k s = true → (s.pipe k).sweep = b → (emAt k (b * 4 + i) s).kind ≠ 0 → (emAt k (b * 4 + i) s).fixed = false →
    ((emAt k (b * 4 + i) s).hit = true ∨ maskHas h.toNat i = true) →
    ∃ t, exec (.agingVisit k h) s = .next t ∧
      emAt k (b * 4 + i) t = { emAt k (b * 4 + i) s with hit := maskHas h.toNat i } ∧ (t.pipe k).sweep = (b + 1) % 2 ^ 18 ∧
      t.clk = max s.clk ((s.pipe k).sweepDue / 2 ^ 18)) ∧
  (∀ (k : Fin 4) (h : BitVec 4) (i : Fin 4) (b : Nat) (s : State), s.up (pipeIsland k) = true → rd CLS.CTL_AGE_EN k s = 1 →
    sweepFree k s = true → (s.pipe k).sweep = b → (emAt k (b * 4 + i) s).kind ≠ 0 → (emAt k (b * 4 + i) s).fixed = false →
    (emAt k (b * 4 + i) s).hit = false → maskHas h.toNat i = false →
    ∃ t, exec (.agingVisit k h) s = .next t ∧ emAt k (b * 4 + i) t = {} ∧ (t.pipe k).sweep = (b + 1) % 2 ^ 18 ∧
      ((∀ j : Fin 4, j ≠ i → (emAt k (b * 4 + j) s).kind = 0) → Counted CLS.AGE_CNT k s t)) ∧
  (∀ (k : Fin 4) (w : Word) (x : Nat) (s : State), s.up (pipeIsland k) = true → rd CLS.TBL_IDX_TABLE k s = 2 →
    rd CLS.TBL_IDX_WORD k s = 0 → x = rd CLS.TBL_IDX_ENTRY k s → x < 4096 → on CLS.TBL_IDX_AUTO_INC k s = false →
    ∃ t, exec (.tableEntryCommit k w) s = .next t ∧ rdx CVID.VALID k x t = w.toNat / 2 ^ 31 ∧
      rdx CVID.DOMAIN k x t = w.toNat % 2 ^ 8 ∧
      Touches [.mem, .cls] [(CVID.VALID, k, x), (CVID.DOMAIN, k, x)] s t) ∧
  (∀ (k : Fin 4) (w : Word) (j : Nat) (s : State), s.up (pipeIsland k) = true → rd CLS.TBL_IDX_TABLE k s = 0 →
    rd CLS.TBL_IDX_WORD k s = j → j < 2 → rd CLS.TBL_IDX_ENTRY k s < 262144 → on CLS.TBL_IDX_AUTO_INC k s = false →
    ∃ t, exec (.tableEntryCommit k w) s = .next t ∧ Tbl.get 0 (t.pipe k).stage j = w.toNat ∧ Touches [.cls] [] s t) ∧
  (∀ (k : Fin 4) (w : Word) (s : State), s.up (pipeIsland k) = true → rd CLS.TBL_IDX_TABLE k s = 2 →
    4096 ≤ rd CLS.TBL_IDX_ENTRY k s → on CLS.TBL_IDX_AUTO_INC k s = false →
    ∃ t, exec (.tableEntryCommit k w) s = .next t ∧ Raised (160 + k) 8 t ∧ t.cmd.verdict = 6 ∧
      Touches (.cmd :: signals) [] s t)

/-- R176, R177, R180 to R182, R184, R187, R388: tables. An idle command starts at once: a bad entry ends with ARG, a new one takes
its first empty slot, one that is there is rewritten with its HIT kept; a delete empties the slots of its key; a search and a slot read
stage the entry; a flush removes learned entries and none of another kind; a second command is held and a third counted; done takes
the result and raises cause 7 on an error. A learn request takes an empty slot, or its entry's new stamp or place, where the port is
free; a relocation's last step carries HIT and its entry takes the freed slot; a trie change joins every pipeline's copy when its
command is done. -/
def Obligations.LookupTables : Prop :=
  (∀ (k : Fin 4) (x : BitVec 20) (s : State), s.up (pipeIsland k) = true → (s.pipe k).emOp = none →
    ((s.pipe k).jobs.any fun j => j.command) = false → entryOk (stagedEntry k s) = false →
    (∃ t, exec (.emInsert k x) s = .next t ∧ (t.pipe k).emOut = some (4, none) ∧ (t.pipe k).em = (s.pipe k).em ∧
      rd CLS.EM_CMD_GO k t = 1 ∧ rd CLS.EM_CMD_OP k t = 0) ∧
    (∃ t, exec (.emDelete k x) s = .next t ∧ (t.pipe k).emOut = some (4, none) ∧ (t.pipe k).em = (s.pipe k).em) ∧
    (∃ t, exec (.emSearch k x) s = .next t ∧ (t.pipe k).emOut = some (4, none) ∧ (t.pipe k).em = (s.pipe k).em)) ∧
  (∀ (k : Fin 4) (x : BitVec 20) (i : Nat) (s : State), s.up (pipeIsland k) = true → (s.pipe k).emOp = none →
    ((s.pipe k).jobs.any fun j => j.command) = false → entryOk (stagedEntry k s) = true →
    emFind k (stagedEntry k s).kind (stagedEntry k s).key s = none →
    (keySlots k (stagedEntry k s).kind (stagedEntry k s).key s).find? (fun i => emptySlot k i s) = some i →
    ∃ t, exec (.emInsert k x) s = .next t ∧ emAt k i t = stagedEntry k s ∧ (t.pipe k).emOut = some (0, some i) ∧
      rd CLS.STS_EM_USED k t = (rd CLS.STS_EM_USED k s + 1) % 2 ^ 21 ∧ rd CLS.EM_CMD_GO k t = 1) ∧
  (∀ (k : Fin 4) (x : BitVec 20) (i : Nat) (s : State), s.up (pipeIsland k) = true → (s.pipe k).emOp = none →
    ((s.pipe k).jobs.any fun j => j.command) = false → entryOk (stagedEntry k s) = true →
    emFind k (stagedEntry k s).kind (stagedEntry k s).key s = some i →
    ∃ t, exec (.emInsert k x) s = .next t ∧ emAt k i t = { stagedEntry k s with hit := (emAt k i s).hit } ∧
      (t.pipe k).emOut = some (0, some i)) ∧
  (∀ (k : Fin 4) (x : BitVec 20) (s : State), s.up (pipeIsland k) = true → (s.pipe k).emOp ≠ none → (s.pipe k).emHeld = none →
    ∃ t, exec (.emInsert k x) s = .next t ∧ t.pipe k = { s.pipe k with emHeld := some (0, x.toNat) } ∧
      rd CLS.EM_CMD_OP k t = 0 ∧ rd CLS.EM_CMD_SLOT k t = x.toNat ∧
      Touches [.mem, .cls] [(CLS.EM_CMD_OP, k, 0), (CLS.EM_CMD_SLOT, k, 0)] s t) ∧
  (∀ (k : Fin 4) (x : BitVec 20) (s : State), s.up (pipeIsland k) = true → (s.pipe k).emOp ≠ none → (s.pipe k).emHeld ≠ none →
    ∃ t, exec (.emSearch k x) s = .next t ∧ Counted CMD.GO_BUSY_CNT 0 s t ∧ Raised 183 7 t ∧
      Touches (.mem :: signals) [(CMD.GO_BUSY_CNT, 0, 0)] s t) ∧
  (∀ (k : Fin 4) (x : BitVec 20) (i : Nat) (s : State), s.up (pipeIsland k) = true → (s.pipe k).emOp = none →
    ((s.pipe k).jobs.any fun j => j.command) = false → entryOk (stagedEntry k s) = true →
    emFind k (stagedEntry k s).kind (stagedEntry k s).key s = some i →
    ∃ t, exec (.emDelete k x) s = .next t ∧ emFind k (stagedEntry k s).kind (stagedEntry k s).key t = none ∧
      (t.pipe k).emOut = some (0, some i)) ∧
  (∀ (k : Fin 4) (x : BitVec 20) (i : Nat) (s : State), s.up (pipeIsland k) = true → (s.pipe k).emOp = none →
    ((s.pipe k).jobs.any fun j => j.command) = false → entryOk (stagedEntry k s) = true →
    emFind k (stagedEntry k s).kind (stagedEntry k s).key s = some i →
    ∃ t, exec (.emSearch k x) s = .next t ∧ (t.pipe k).em = (s.pipe k).em ∧ (t.pipe k).emOut = some (0, some i) ∧
      (∀ j, j < 4 → rdWord .emD k 0 j t = (emAt k i s).bits / 2 ^ (32 * (3 - j)) % 2 ^ 32)) ∧
  (∀ (k : Fin 4) (x : BitVec 20) (s : State), s.up (pipeIsland k) = true → (s.pipe k).emOp = none →
    ((s.pipe k).jobs.any fun j => j.command) = false → entryOk (stagedEntry k s) = true →
    emFind k (stagedEntry k s).kind (stagedEntry k s).key s = none →
    (∃ t, exec (.emSearch k x) s = .next t ∧ (t.pipe k).em = (s.pipe k).em ∧ (t.pipe k).emOut = some (1, none)) ∧
    (∃ t, exec (.emDelete k x) s = .next t ∧ (t.pipe k).em = (s.pipe k).em ∧ (t.pipe k).emOut = some (1, none))) ∧
  (∀ (k : Fin 4) (x : BitVec 20) (s : State), s.up (pipeIsland k) = true → (s.pipe k).emOp = none →
    ((s.pipe k).jobs.any fun j => j.command) = false →
    ∃ t, exec (.emReadSlot k x) s = .next t ∧ (t.pipe k).em = (s.pipe k).em ∧ (t.pipe k).emOut = some (0, some x.toNat) ∧
      (∀ j, j < 4 → rdWord .emD k 0 j t = (emAt k x.toNat s).bits / 2 ^ (32 * (3 - j)) % 2 ^ 32)) ∧
  (∀ (k : Fin 4) (x : BitVec 20) (i : Nat) (e : EmEntry) (s : State), s.up (pipeIsland k) = true → (s.pipe k).emOp = none →
    ((s.pipe k).jobs.any fun j => j.command) = false → (i, e) ∈ (s.pipe k).em → e.isLearned = true →
    ∃ t, exec (.emFlushLearned k x) s = .next t ∧ emFind k 1 e.key t = none ∧ (t.pipe k).emOut = some (0, none)) ∧
  (∀ (k : Fin 4) (x : BitVec 20) (i : Nat) (s : State), s.up (pipeIsland k) = true → (s.pipe k).emOp = none →
    ((s.pipe k).jobs.any fun j => j.command) = false → (emAt k i s).kind ≠ 1 →
    ∃ t, exec (.emFlushLearned k x) s = .next t ∧ emAt k i t = emAt k i s ∧ (t.pipe k).emOut = some (0, none)) ∧
  (∀ (k : Fin 4) (x : BitVec 20) (s : State), s.up (pipeIsland k) = true → (s.pipe k).emOp = none →
    ((s.pipe k).jobs.any fun j => j.command) = false → 11 < x.toNat % 16 →
    ∃ t, exec (.emFlushTree k x) s = .next t ∧ (t.pipe k).em = (s.pipe k).em ∧ (t.pipe k).emOut = some (4, none)) ∧
  (∀ (k : Fin 4) (x : BitVec 20) (i : Nat) (e : EmEntry) (s : State), s.up (pipeIsland k) = true → (s.pipe k).emOp = none →
    ((s.pipe k).jobs.any fun j => j.command) = false → x.toNat % 16 ≤ 11 → (i, e) ∈ (s.pipe k).em → e.isLearned = true →
    e.tree = x.toNat % 16 →
    ∃ t, exec (.emFlushTree k x) s = .next t ∧ emFind k 1 e.key t = none ∧ (t.pipe k).emOut = some (0, none)) ∧
  (∀ (k : Fin 4) (x : BitVec 20) (s : State), s.up (pipeIsland k) = true → (s.pipe k).emOp = none →
    ((s.pipe k).jobs.any fun j => j.command) = false → x.toNat % 16 ≤ 11 →
    ((s.pipe k).em.all fun e => !e.2.isLearned || e.2.tree != x.toNat % 16) = true →
    ∃ t, exec (.emFlushTree k x) s = .next t ∧ (t.pipe k).em = (s.pipe k).em ∧ (t.pipe k).emOut = some (0, none)) ∧
  (∀ (k : Fin 4) (o : Nat × Nat) (r : Nat) (x : Option Nat) (s : State), s.up (pipeIsland k) = true → (s.pipe k).emOp = some o →
    (s.pipe k).emOut = some (r, x) → (s.pipe k).emHeld = none → r < 8 →
    ∃ t, exec (.emCmdDone k) s = .next t ∧ (t.pipe k).emOp = none ∧ rd CLS.EM_CMD_GO k t = 0 ∧ rd CLS.STS_EM_BUSY k t = 0 ∧
      rd CLS.EM_CMD_RESULT k t = r ∧ rd CLS.EM_CMD_ERR k t = (if r = 0 ∨ r = 3 then 0 else 1) ∧
      (r ≠ 0 → r ≠ 3 → Raised (160 + k) 7 t)) ∧
  (∀ (k : Fin 4) (r : LearnReq) (rest : List LearnReq) (i : Nat) (s : State), s.up (pipeIsland k) = true →
    (s.pipe k).learnq = r :: rest → learnFree k s = true → r.op ≠ .refresh → r.entry.kind = 1 →
    emFind k 1 r.entry.key s = none → (keySlots k 1 r.entry.key s).find? (fun i => emptySlot k i s) = some i →
    ∃ t, exec (.learnApply k) s = .next t ∧ (t.pipe k).learnq = rest ∧ emAt k i t = r.entry ∧
      rd CLS.LQ_STS_LVL k t = rest.length % 2 ^ 13) ∧
  (∀ (k : Fin 4) (r : LearnReq) (rest : List LearnReq) (i : Nat) (s : State), s.up (pipeIsland k) = true →
    (s.pipe k).learnq = r :: rest → learnFree k s = true → emFind k 1 r.entry.key s = some i → (emAt k i s).fixed = false →
    (r.op = .refresh → (emAt k i s).result = r.entry.result) →
    ∃ t, exec (.learnApply k) s = .next t ∧ (t.pipe k).learnq = rest ∧
      emAt k i t = (if r.op = .refresh then { emAt k i s with stamp := r.entry.stamp }
        else { r.entry with hit := (emAt k i s).hit })) ∧
  (∀ (k : Fin 4) (s : State), s.up (pipeIsland k) = true → learnFree k s = false →
    ∃ t, exec (.learnApply k) s = .next t ∧ t = s) ∧
  (∀ (k : Fin 4) (a c : Nat) (e : EmEntry) (others : List EmJob) (s : State), s.up (pipeIsland k) = true →
    (s.pipe k).jobs = { moves := [(a, c)], entry := e, slot := a, command := false } :: others → a ≠ c →
    (emAt k c s).kind ≠ 0 → e.kind ≠ 0 → emHolders k e.kind e.key s = [] →
    ∃ t, exec (.relocationClear k) s = .next t ∧ (t.pipe k).jobs = others ∧ emAt k a t = e ∧
      emAt k c t = { emAt k c s with hit := (emAt k c s).hit || (emAt k a s).hit }) ∧
  (∀ (s : State), s.up 223 = true → s.lpm.running = none →
    ∃ t, exec .lpmAdd s = .next t ∧ (t.lpm.running.map fun (o : LpmOp) => (o.op, o.w0, o.w1, o.w2, o.w3)) =
        some (0, rdWord .lpmD 0 0 0 s, rdWord .lpmD 0 0 1 s, rdWord .lpmD 0 0 2 s, rdWord .lpmD 0 0 3 s) ∧
      rd LPM.LPM_CMD_GO 0 t = 1 ∧ rd LPM.LPM_CMD_BUSY 0 t = 1 ∧
      rd LPM.LPM_CMD_OP 0 t = 0 ∧ Touches [.mem, .lpm] [(LPM.LPM_CMD_OP, 0, 0), (LPM.LPM_CMD_GO, 0, 0), (LPM.LPM_CMD_BUSY, 0, 0)] s t) ∧
  (∀ (s : State), s.up 223 = true → s.lpm.running = none →
    ∃ t, exec .lpmDelete s = .next t ∧ t.lpm.running.map LpmOp.op = some 1 ∧ t.lpm.pfxs = s.lpm.pfxs ∧ rd LPM.LPM_CMD_BUSY 0 t = 1) ∧
  (∀ (s : State), s.up 223 = true → s.lpm.running = none →
    ∃ t, exec .lpmFlushV4 s = .next t ∧ t.lpm.running.map LpmOp.op = some 2 ∧ t.lpm.pfxs = s.lpm.pfxs ∧ rd LPM.LPM_CMD_BUSY 0 t = 1) ∧
  (∀ (s : State), s.up 223 = true → s.lpm.running ≠ none → s.lpm.held = none →
    ∃ t, exec .lpmFlushV6 s = .next t ∧ t.lpm.held = some 3 ∧ t.lpm.running = s.lpm.running ∧ rd LPM.LPM_CMD_OP 0 t = 3) ∧
  (∀ (s : State), s.up 223 = true → s.lpm.running = none →
    ∃ t, exec .lpmFlushV6 s = .next t ∧ t.lpm.running.map LpmOp.op = some 3 ∧ t.lpm.pfxs = s.lpm.pfxs ∧ rd LPM.LPM_CMD_BUSY 0 t = 1) ∧
  (∀ (k : Fin 4) (o : LpmOp) (s : State), s.up 223 = true → s.up (pipeIsland k) = true → s.lpm.running = some o →
    (o.op = 2 ∨ o.op = 3) → s.lpm.held = none →
    ∃ t, exec .lpmCmdDone s = .next t ∧ t.lpm.running = none ∧ t.lpm.pfxs = s.lpm.pfxs.filter (fun p => p.v6 == (o.op == 2)) ∧
      (t.pipe k).trie = (s.pipe k).trie.filter (fun p => p.v6 == (o.op == 2)) ∧ rd LPM.LPM_CMD_BUSY 0 t = 0 ∧
      rd LPM.LPM_CMD_GO 0 t = 0 ∧ rd LPM.LPM_CMD_RESULT 0 t = 0 ∧ rd LPM.LPM_CMD_ERR 0 t = 0 ∧ Raised 160 17 t) ∧
  (∀ (o : LpmOp) (p : Pfx) (s : State), s.up 223 = true → s.lpm.running = some o → o.op = 0 → s.lpm.held = none →
    opPfx o = some p → p.cont = none → s.lpm.pfxs.find? (samePfx p) = none →
    s.lpm.pfxs.countP (fun q => q.v6 == p.v6) < (if p.v6 then 262144 else 524288) →
    ∃ t, exec .lpmCmdDone s = .next t ∧ t.lpm.running = none ∧ t.lpm.pfxs = s.lpm.pfxs ++ [p] ∧ rd LPM.LPM_CMD_RESULT 0 t = 0 ∧
      rd LPM.LPM_CMD_ERR 0 t = 0 ∧ Raised 160 17 t) ∧
  (∀ (o : LpmOp) (p q : Pfx) (s : State), s.up 223 = true → s.lpm.running = some o → o.op = 1 → s.lpm.held = none →
    opPfx o = some p → s.lpm.pfxs.find? (samePfx p) = some q →
    ∃ t, exec .lpmCmdDone s = .next t ∧ t.lpm.running = none ∧ t.lpm.pfxs = s.lpm.pfxs.filter (fun x => !samePfx p x) ∧
      rd LPM.LPM_CMD_RESULT 0 t = 0 ∧ rd LPM.LPM_CMD_ERR 0 t = 0 ∧ Raised 160 17 t)

/-- R188: HASH_SEED0 and HASH_SEED1 are written while EM_USED = 0; a write at any other time is discarded under R7's cause, cause
3 of source 183, and counted in ENC_CNT. -/
def Obligations.HashSeedWrites : Prop :=
  (∀ (k : Fin 4) (i : Fin 2) (w : Word) (s : State), s.up (pipeIsland k) = true → rd CLS.STS_EM_USED k s = 0 →
    ∃ t, exec (.hashSeedWrite k i w) s = .next t ∧ rd (CLS.HASH_SEED0.at i) k t = w.toNat ∧
      Touches [.mem] [(CLS.HASH_SEED0.at i, k, 0)] s t) ∧
  (∀ (k : Fin 4) (i : Fin 2) (w : Word) (s : State), s.up (pipeIsland k) = true → rd CLS.STS_EM_USED k s ≠ 0 →
    ∃ t, exec (.hashSeedWrite k i w) s = .next t ∧ Counted CMD.ENC_CNT 0 s t ∧ Raised 183 3 t ∧
      Touches (.mem :: .cmd :: signals) [(CMD.ENC_CNT, 0, 0)] s t)

/-- R195, R199, R200, R203 to R205: buffers. A request joins its pool's queue, or waits behind its requester's 8, or is refused
at once where its length or its numbers are; a pool's arbiter grants the request that stands alone where it is eligible, with the
descriptor and the charge, and answers it NO_BUFFER where it is not; a holder shares, transfers and frees a buffer, the last copy
returning it to its pool with the next generation and its charge ended; an operation by another is refused and counted. -/
def Obligations.BufferOperations : Prop :=
  (∀ (r : Fin 32) (ctl : Bool) (len : BitVec 15) (n : BitVec 8) (m : Word) (s : State), s.up 213 = true →
    len.toNat ≠ 0 → len.toNat ≤ 20480 → n.toNat ≠ 0 → m.toNat ≠ 0 →
    (bufQueue (poolOf ctl len.toNat).1 s).countP (·.req == r.val) < 8 →
    ∃ t, exec (.alloc r ctl len n m) s = .next t ∧
      bufQueue (poolOf ctl len.toNat).1 t = bufQueue (poolOf ctl len.toNat).1 s ++
        [{ req := r, need := (poolOf ctl len.toNat).2, len := len.toNat, count := n.toNat, holders := m.toNat }] ∧
      Touches [.bpm] [] s t) ∧
  (∀ (r : Fin 32) (ctl : Bool) (len : BitVec 15) (n : BitVec 8) (m : Word) (s : State), s.up 213 = true →
    len.toNat ≠ 0 → len.toNat ≤ 20480 → n.toNat ≠ 0 → m.toNat ≠ 0 →
    8 ≤ (bufQueue (poolOf ctl len.toNat).1 s).countP (·.req == r.val) →
    ∃ t, exec (.alloc r ctl len n m) s = .next t ∧
      bufQueue (poolOf ctl len.toNat).1 t = bufQueue (poolOf ctl len.toNat).1 s ∧
      bufWaiting (poolOf ctl len.toNat).1 t = bufWaiting (poolOf ctl len.toNat).1 s ++
        [{ req := r, need := (poolOf ctl len.toNat).2, len := len.toNat, count := n.toNat, holders := m.toNat }] ∧
      Touches [.bpm] [] s t) ∧
  (∀ (r : Fin 32) (ctl : Bool) (len : BitVec 15) (n : BitVec 8) (m : Word) (s : State), s.up 213 = true →
    (len.toNat = 0 ∨ 20480 < len.toNat) →
    ∃ t, exec (.alloc r ctl len n m) s = .next t ∧ Counted BPM.TOOLONG_CNT 0 s t ∧ Raised 166 8 t ∧
      Tbl.get .ok t.bpm.answers r = .tooLong ∧ Touches (.mem :: .bpm :: signals) [(BPM.TOOLONG_CNT, 0, 0)] s t) ∧
  (∀ (r : Fin 32) (ctl : Bool) (len : BitVec 15) (n : BitVec 8) (m : Word) (s : State), s.up 213 = true →
    len.toNat ≠ 0 → len.toNat ≤ 20480 → (n.toNat = 0 ∨ m.toNat = 0) →
    ∃ t, exec (.alloc r ctl len n m) s = .next t ∧ Counted BPM.SHARE_REF_CNT 0 s t ∧ Raised 166 7 t ∧
      Tbl.get .ok t.bpm.answers r = .shareRefused ∧ Touches (.mem :: .bpm :: signals) [(BPM.SHARE_REF_CNT, 0, 0)] s t) ∧
  (∀ (r : Fin 32) (h : Word) (n : BitVec 8) (d : Fin 32) (s : State), s.up 213 = true →
    handleCheck r h.toNat s = none → (descAt (handlePool h.toNat) (handleIndex h.toNat) s).count + n.toNat ≤ 255 →
    ∃ t, exec (.share r h n d) s = .next t ∧
      (descAt (handlePool h.toNat) (handleIndex h.toNat) t).count =
        (descAt (handlePool h.toNat) (handleIndex h.toNat) s).count + n.toNat ∧
      (descAt (handlePool h.toNat) (handleIndex h.toNat) t).holders =
        maskSet (descAt (handlePool h.toNat) (handleIndex h.toNat) s).holders d ∧
      Tbl.get .ok t.bpm.answers r = .ok ∧ Touches [.bpm] [] s t) ∧
  (∀ (r : Fin 32) (h : Word) (n : BitVec 8) (d : Fin 32) (s : State), s.up 213 = true →
    handleCheck r h.toNat s = none → 255 < (descAt (handlePool h.toNat) (handleIndex h.toNat) s).count + n.toNat →
    ∃ t, exec (.share r h n d) s = .next t ∧ t.bpm.descs = s.bpm.descs ∧ Counted BPM.SHARE_REF_CNT 0 s t ∧ Raised 166 7 t ∧
      Tbl.get .ok t.bpm.answers r = .shareRefused) ∧
  (∀ (r : Fin 32) (h : Word) (p i : Nat) (s : State), s.up 213 = true → handleCheck r h.toNat s = none →
    handlePool h.toNat = p → handleIndex h.toNat = i → (descAt p i s).count = 1 → (descAt p i s).pair = false →
    ∃ t, exec (.free r h) s = .next t ∧ (descAt p i t).alloc = false ∧ (descAt p i t).count = 0 ∧
      (descAt p i t).gen = ((descAt p i s).gen + 1) % 16 ∧
      Tbl.get [] t.bpm.freed p = Tbl.get [] s.bpm.freed p ++ [i] ∧
      usedBy (descAt p i s).owner p t = usedBy (descAt p i s).owner p s - 1 ∧ Tbl.get .ok t.bpm.answers r = .ok ∧
      Touches [.mem, .bpm] [(QUOTA.USED, (descAt p i s).owner, p)] s t) ∧
  (∀ (r : Fin 32) (h : Word) (p i : Nat) (s : State), s.up 213 = true → handleCheck r h.toNat s = none →
    handlePool h.toNat = p → handleIndex h.toNat = i → (descAt p i s).count ≠ 1 →
    ∃ t, exec (.free r h) s = .next t ∧ (descAt p i t) = { descAt p i s with count := (descAt p i s).count - 1 } ∧
      t.bpm.freed = s.bpm.freed ∧ Tbl.get .ok t.bpm.answers r = .ok ∧ Touches [.bpm] [] s t) ∧
  (∀ (r : Fin 32) (h : Word) (s : State), s.up 213 = true → handleCheck r h.toNat s = some .notHolder →
    ∃ t, exec (.free r h) s = .next t ∧ t.bpm.descs = s.bpm.descs ∧ t.bpm.freed = s.bpm.freed ∧
      Counted BPM.NONHOLD_CNT 0 s t ∧ Raised 166 5 t ∧ Tbl.get .ok t.bpm.answers r = .notHolder ∧
      Touches (.mem :: .bpm :: signals) [(BPM.NONHOLD_CNT, 0, 0)] s t) ∧
  (∀ (r : Fin 32) (h : Word) (d : Fin 32) (p i : Nat) (s : State), s.up 213 = true → handleCheck r h.toNat s = none →
    handlePool h.toNat = p → handleIndex h.toNat = i →
    ∃ t, exec (.transfer r h d) s = .next t ∧ (descAt p i t).owner = d ∧ (descAt p i t).count = (descAt p i s).count ∧
      (descAt p i t).holders = maskSet (descAt p i s).holders d ∧ Tbl.get .ok t.bpm.answers r = .ok ∧
      Touches [.mem, .bpm] [(QUOTA.USED, (descAt p i s).owner, p), (QUOTA.USED, d, p)] s t) ∧
  (∀ (s : State), s.up 213 = true → s.ev.asks = [] → (∀ p, p < 4 → bufQueue p s = [] ∧ bufWaiting p s = []) →
    ∃ t, exec .bufferArbitration s = .next t ∧ (∀ p, p < 4 → bufQueue p t = [] ∧ bufWaiting p t = []) ∧
      t.bpm.descs = s.bpm.descs ∧ Touches [.bpm] [] s t) ∧
  (∀ (p : Fin 4) (r : Fin 32) (q : AllocReq) (s : State), s.up 213 = true → s.ev.asks = [] → bufQueue p s = [q] → q.req = r →
    (∀ j, j < 4 → (j ≠ p → bufQueue j s = []) ∧ bufWaiting j s = []) → s.bpm.reclaim = [] → eligible r p q.need s = true →
    usedBy r p s + q.need < 2 ^ 27 →
    ∃ t, exec .bufferArbitration s = .next t ∧ bufQueue p t = [] ∧ Tbl.get 31 t.bpm.last p = r ∧
      Tbl.get .ok t.bpm.answers r = .handle (handleOf p (popFree p s).1 (descAt p (popFree p s).1 s).gen) ∧
      (descAt p (popFree p s).1 t).alloc = true ∧ (descAt p (popFree p s).1 t).owner = r ∧
      (descAt p (popFree p s).1 t).count = q.count ∧ (descAt p (popFree p s).1 t).holders = q.holders ∧
      usedBy r p t = usedBy r p s + q.need) ∧
  (∀ (p : Fin 4) (r : Fin 32) (q : AllocReq) (s : State), s.up 213 = true → s.ev.asks = [] → bufQueue p s = [q] → q.req = r →
    (∀ j, j < 4 → (j ≠ p → bufQueue j s = []) ∧ bufWaiting j s = []) → s.bpm.reclaim = [] → eligible r p q.need s = false →
    ∃ t, exec .bufferArbitration s = .next t ∧ bufQueue p t = [] ∧ Tbl.get .ok t.bpm.answers r = .noBuffer ∧
      Counted (BPM.NOBUF_CNT0.at p) 0 s t ∧ Raised 166 p t ∧ t.bpm.descs = s.bpm.descs)

/-- R197, R198, R203, R206, R207, R209, R210: the pools. A consistent split is locked and its free lists are built; a write of LOCK
after that is refused with the RWL cause; a listed quota is committed; a read or a write within a current buffer of its holder is
answered, its bytes read or stored, any other is refused with cause 9; the oldest sweep ends with cause 13, its buffers freed; a
snapshot shows a descriptor; a sample of an HBM stack is shown; a stack whose PHY retrains holds its requests until it is ready
again. -/
def Obligations.BufferPools : Prop :=
  (∀ (s : State), s.up 213 = true → on BPM.CTL_LOCK 0 s = false → lockRefused s = false →
    ∃ t, exec .poolLock s = .next t ∧ on BPM.CTL_LOCK 0 t = true ∧ on BPM.STS_INIT_BUSY 0 t = true ∧
      t.bpm.building = some s.clk ∧ Touches [.mem, .bpm] [(BPM.CTL_LOCK, 0, 0), (BPM.STS_INIT_BUSY, 0, 0)] s t) ∧
  (∀ (s : State), s.up 213 = true → on BPM.CTL_LOCK 0 s = true →
    ∃ t, exec .poolLock s = .next t ∧ Counted CMD.RWL_CNT 0 s t ∧ Raised 183 1 t ∧
      Touches (.mem :: .cmd :: signals) [(CMD.RWL_CNT, 0, 0)] s t) ∧
  (∀ (s : State), s.up 213 = true → on BPM.STS_INIT_BUSY 0 s = true →
    ∃ t, exec .freeListDone s = .next t ∧ t.bpm.listed = true ∧ on BPM.STS_INIT_BUSY 0 t = false ∧
      Touches [.mem, .bpm] [(BPM.STS_INIT_BUSY, 0, 0)] s t) ∧
  (∀ (w : Word) (s : State), s.up 213 = true → rd BPM.QUOTA_IDX_WORD 0 s = 1 → s.bpm.minStage ≤ w.toNat →
    w.toNat < 2 ^ 27 → s.bpm.minStage ≤ rdx QUOTA.MIN (rd BPM.QUOTA_IDX_REQ 0 s) (rd BPM.QUOTA_IDX_POOL 0 s) s +
      (poolCount (rd BPM.QUOTA_IDX_POOL 0 s) s - minSum (rd BPM.QUOTA_IDX_POOL 0 s) s) →
    minSum (rd BPM.QUOTA_IDX_POOL 0 s) s ≤ poolCount (rd BPM.QUOTA_IDX_POOL 0 s) s →
    ∃ t, exec (.quotaCommit w) s = .next t ∧
      rdx QUOTA.MIN (rd BPM.QUOTA_IDX_REQ 0 s) (rd BPM.QUOTA_IDX_POOL 0 s) t = s.bpm.minStage ∧
      rdx QUOTA.MAX (rd BPM.QUOTA_IDX_REQ 0 s) (rd BPM.QUOTA_IDX_POOL 0 s) t = w.toNat ∧
      Touches [.mem] [(QUOTA.MIN, rd BPM.QUOTA_IDX_REQ 0 s, rd BPM.QUOTA_IDX_POOL 0 s),
        (QUOTA.MAX, rd BPM.QUOTA_IDX_REQ 0 s, rd BPM.QUOTA_IDX_POOL 0 s), (BPM.QUOTA_IDX_WORD, 0, 0)] s t) ∧
  (∀ (r : Fin 32) (h : Word) (ofs len : BitVec 15) (p i : Nat) (d : Desc) (s : State), s.up 213 = true →
    s.bpm.retraining = [] → s.up 214 = true → s.up 215 = true → s.up 216 = true → s.up 217 = true →
    handlePool h.toNat = p → handleIndex h.toNat = i → descAt p i s = d →
    i < poolCount p s → d.alloc = true → d.pair = false → d.gen = handleGen h.toNat → maskHas d.holders r = true →
    ofs.toNat + len.toNat ≤ bufSize p →
    ∃ t, exec (.bufferAccess r h ofs len none none) s = .next t ∧
      Tbl.get .ok t.bpm.answers r = .data (getBytes p i ofs.toNat len.toNat s) ∧ Touches [.bpm] [] s t) ∧
  (∀ (r : Fin 32) (h : Word) (ofs len : BitVec 15) (b : List Byte) (p i : Nat) (d : Desc) (s : State), s.up 213 = true →
    s.bpm.retraining = [] → s.up 214 = true → s.up 215 = true → s.up 216 = true → s.up 217 = true →
    handlePool h.toNat = p → handleIndex h.toNat = i → descAt p i s = d →
    i < poolCount p s → d.alloc = true → d.pair = false → d.gen = handleGen h.toNat → maskHas d.holders r = true →
    ofs.toNat + b.length ≤ bufSize p →
    ∃ t, exec (.bufferAccess r h ofs len (some b) none) s = .next t ∧ getBytes p i ofs.toNat b.length t = b ∧
      Tbl.get .ok t.bpm.answers r = .ok ∧ Touches [.bpm] [] s t) ∧
  (∀ (r : Fin 32) (h : Word) (ofs len : BitVec 15) (s : State), s.up 213 = true → s.bpm.retraining = [] →
    (descAt (handlePool h.toNat) (handleIndex h.toNat) s).gen ≠ handleGen h.toNat →
    ∃ t, exec (.bufferAccess r h ofs len none none) s = .next t ∧ Tbl.get .ok t.bpm.answers r = .error ∧
      Counted BPM.STALE_ACC_CNT 0 s t ∧ Raised 166 9 t ∧
      Touches (.mem :: .bpm :: signals) [(BPM.STALE_ACC_CNT, 0, 0)] s t) ∧
  (∀ (rs : List Nat) (rest : List (List Nat)) (s : State), s.up 213 = true → s.bpm.reclaim = rs :: rest →
    ∃ t, exec .reclaimDone s = .next t ∧ t.bpm.reclaim = rest ∧ Raised 166 13 t ∧
      (∀ k ∈ reclaimable rs s, (descAt (k / 2 ^ 26) (k % 2 ^ 26) t).alloc = false)) ∧
  (∀ (h : Word) (d : Desc) (s : State), s.up 213 = true → handleIndex h.toNat < poolCount (handlePool h.toNat) s →
    descAt (handlePool h.toNat) (handleIndex h.toNat) s = d →
    ∃ t, exec (.descSnapshot h) s = .next t ∧ rd BPM.DESC_HANDLE 0 t = h.toNat ∧ on BPM.DESC0_ALLOC 0 t = d.alloc ∧
      rd BPM.DESC0_COUNT 0 t = d.count % 256 ∧ rd BPM.DESC0_OWNER 0 t = d.owner % 32 ∧ Within [.mem] [.bpm] s t) ∧
  (∀ (k : Fin 2) (c : BitVec 8) (s : State), s.up (214 + k) = true → c.toNat < rd (BPM.HBM_CFG0_TEMP_WARN.at k) 0 s →
    ∃ t, exec (.hbmTempSample k c) s = .next t ∧ rd (BPM.HBM_STS0_TEMP.at k) 0 t = c.toNat ∧
      Touches [.mem] [(BPM.HBM_STS0_TEMP.at k, 0, 0)] s t) ∧
  (∀ (k : Fin 2) (c : BitVec 8) (s : State), s.up (214 + k) = true → rd (BPM.HBM_CFG0_TEMP_WARN.at k) 0 s ≤ c.toNat →
    ∃ t, exec (.hbmTempSample k c) s = .next t ∧ rd (BPM.HBM_STS0_TEMP.at k) 0 t = c.toNat ∧ Raised (167 + k) 2 t ∧
      Touches (.mem :: signals) [(BPM.HBM_STS0_TEMP.at k, 0, 0)] s t) ∧
  (∀ (k : Fin 2) (s : State), s.up (214 + k) = true →
    ∃ t, exec (.hbmPhyTrainLoss k) s = .next t ∧ k.val ∈ t.bpm.retraining ∧ rd (BPM.HBM_STS0_READY.at k) 0 t = 0 ∧
      Raised (167 + k) 3 t ∧ Touches (.mem :: .bpm :: signals) [(BPM.HBM_STS0_READY.at k, 0, 0)] s t) ∧
  (∀ (r : Fin 32) (h : Word) (ofs len : BitVec 15) (g : Option (Nat × Bool)) (a : HeldAccess) (s : State), s.up 213 = true →
    a = { req := r, handle := h.toNat, ofs := ofs.toNat, len := len.toNat, data := none, ecc := g, since := s.clk } →
    mustWait a s = true →
    ∃ t, exec (.bufferAccess r h ofs len none g) s = .next t ∧ t.bpm.held = s.bpm.held ++ [a] ∧ Touches [.bpm] [] s t) ∧
  (∀ (k : Fin 2) (s : State), s.up (214 + k) = true → k.val ∈ s.bpm.retraining → s.bpm.held = [] →
    ∃ t, exec (.hbmRetrainDone k) s = .next t ∧ k.val ∉ t.bpm.retraining ∧ rd (BPM.HBM_STS0_READY.at k) 0 t = 1 ∧
      Touches [.mem, .bpm] [(BPM.HBM_STS0_READY.at k, 0, 0)] s t) ∧
  (∀ (k : Fin 2) (ok : Bool) (s : State), s.up (214 + k) = true → ok = true →
    ∃ t, exec (.hbmPhyTrained k ok) s = .next t ∧ rd (BPM.HBM_STS0_READY.at k) 0 t = 1 ∧
      Touches [.mem] [(BPM.HBM_STS0_READY.at k, 0, 0)] s t) ∧
  (∀ (k : Fin 2) (s : State), s.up (214 + k) = true →
    ∃ t, exec (.hbmPhyTrained k false) s = .next t ∧ Raised (167 + k) 3 t ∧ Touches signals [] s t)

/-- R46, R47, R215, R217, R221 to R226: the tree manager. A frame joins the queue of its Port-ID; one above QLIM, of no queue or of
a dead tree is discarded, its reference freed and counted; an offer revives a dead tree and commits the selected queue's head: one
that fits leaves for the cipher with its charged length taken from DEPTH, one that does not leaves its first fragment or leads the
next frame, a no-fragment one is offered only; a no-fragment frame returned holds its queue; the frame taken is freed once what
leads the next frame has left too, and counted as lost where reading it fails or finds an uncorrectable error, and waits while a
stack it touches retrains; a frame without a byte is freed (log entry 121: the model's choice); a tree without an offer for FLUSH_TO dies and its queues are emptied. -/
def Obligations.TreeManager : Prop :=
  (∀ (n : Fin 48) (port : BitVec 16) (h : Word) (len : BitVec 14) (d : Node) (c : Nat) (s : State), s.up 211 = true →
    len ≠ 0 → treeDead n s = false → queueFor n port.toNat s = some (d, c) →
    nrd NODE.DEPTH d s + xgemBytes len.toNat ≤ nrd NODE.QLIM d s →
    ∃ t, exec (.tmdEnqueue n port h len) s = .next t ∧
      (t.node d).frames = (s.node d).frames ++ [{ handle := some h.toNat, len := len.toNat, parent := c, port := port.toNat }] ∧
      nrd NODE.DEPTH d t = nrd NODE.DEPTH d s + xgemBytes len.toNat ∧ Counted TMD.ENQ_CNT 0 s t ∧
      Touches [.mem, .pmu, .queues] [(NODE.DEPTH, d.inst, d.idx), (TMD.ENQ_CNT, 0, 0)] s t) ∧
  (∀ (n : Fin 48) (port : BitVec 16) (h : Word) (len : BitVec 14) (d : Node) (c : Nat) (s : State), s.up 211 = true →
    len ≠ 0 → treeDead n s = false → queueFor n port.toNat s = some (d, c) →
    nrd NODE.QLIM d s < nrd NODE.DEPTH d s + xgemBytes len.toNat →
    ∃ t, exec (.tmdEnqueue n port h len) s = .next t ∧ t.queues = s.queues ∧ Counted TMD.TAIL_DROP_CNT 0 s t ∧
      nrd NODE.DROP_CNT d t = min (nrd NODE.DROP_CNT d s + 1) (2 ^ 32 - 1) ∧ Raised 164 0 t) ∧
  (∀ (n : Fin 48) (port : BitVec 16) (h : Word) (len : BitVec 14) (s : State), s.up 211 = true →
    len ≠ 0 → treeDead n s = false → queueFor n port.toNat s = none →
    ∃ t, exec (.tmdEnqueue n port h len) s = .next t ∧ t.queues = s.queues ∧ Counted TMD.NOQ_CNT 0 s t ∧ Raised 164 1 t) ∧
  (∀ (n : Fin 48) (port : BitVec 16) (h : Word) (len : BitVec 14) (s : State), s.up 211 = true → len ≠ 0 → treeDead n s = true →
    ∃ t, exec (.tmdEnqueue n port h len) s = .next t ∧ t.queues = s.queues ∧ Counted TMD.DEAD_DROP_CNT 0 s t) ∧
  (∀ (n : Fin 48) (b : Built) (s : State), s.up 211 = true → s.up (framingIsland n) = true → treeDead n s = true →
    filling n s = some b → rd TLN.CTL_TX_MODE n s = 1 →
    ∃ t, exec (.tmdDequeueOffer n) s = .next t ∧ treeDead n t = false ∧ (t.tmdTree n).lastOffer = s.clk ∧ Raised 164 3 t) ∧
  (∀ (n : Fin 48) (b : Built) (d : Node) (f : QFrame) (rest : List QFrame) (m : Treat) (l : Nat) (s : State), s.up 211 = true →
    s.up (framingIsland n) = true → s.up 218 = true → treeDead n s = false → filling n s = some b → rd TLN.CTL_TX_MODE n s = 1 →
    (s.fram n).carried = none → (s.tmdTree n).offered = none →
    (tmdSelect n (s.setTmdTree n { s.tmdTree n with lastOffer := s.clk })).1 = some d → (s.node d).frames = f :: rest →
    dsTreat (portTreat 0 n f.port s) s = m → xgemBytes (sealedLen m.mode f.len) = l → l ≤ (s.fram n).space →
    ∃ t, exec (.tmdDequeueOffer n) s = .next t ∧ (t.node d).frames = rest ∧
      nrd NODE.DEPTH d t = nrd NODE.DEPTH d s - xgemBytes f.len ∧
      (t.tmdTree n).leaving = (s.tmdTree n).leaving ++ [(d.key, f.handle, 0, (s.tmdTree n).count)] ∧
      (t.tmdTree n).count = (s.tmdTree n).count + 1 ∧
      (t.fram n).space = (s.fram n).space - l ∧
      (t.fram n).sealing = (s.fram n).sealing ++ [{
        edit := f.edit, port := f.port, len := f.len, treat := m, frame := b.frame, cut := false, no := (s.tmdTree n).count
        ofs := fsBytes b.fec - (s.fram n).space, stop := fsBytes b.fec - (s.fram n).space + l }] ∧
      Counted TMD.DEQ_CNT 0 s t ∧
      Touches [.mem, .pmu, .queues, .framing] [(NODE.DEPTH, d.inst, d.idx), (TMD.DEQ_CNT, 0, 0)] s t) ∧
  (∀ (n : Fin 48) (b : Built) (d : Node) (f : QFrame) (rest : List QFrame) (p : Nat) (s : State), s.up 211 = true →
    s.up (framingIsland n) = true → s.up 218 = true → treeDead n s = false → filling n s = some b → rd TLN.CTL_TX_MODE n s = 1 →
    (s.fram n).carried = none → (s.tmdTree n).offered = none →
    (tmdSelect n (s.setTmdTree n { s.tmdTree n with lastOffer := s.clk })).1 = some d → (s.node d).frames = f :: rest →
    sealedLen (dsTreat (portTreat 0 n f.port s) s).mode f.len = p → (s.fram n).space < xgemBytes p → 72 ≤ (s.fram n).space →
    noFragment n f.port s = false →
    ∃ t, exec (.tmdDequeueOffer n) s = .next t ∧ (t.node d).frames = f :: rest ∧ (t.node d).cut = true ∧
      (t.tmdTree n).leaving = (s.tmdTree n).leaving ++ [(d.key, f.handle, xgemBytes f.len, (s.tmdTree n).count)] ∧ (t.fram n).space = 0 ∧
      (t.fram n).carried = some { bytes := p - ((s.fram n).space - 8), remainder := true, no := (s.tmdTree n).count } ∧
      Counted TFR.FRAG_CNT n s t ∧ Counted TMD.DEQ_CNT 0 s t ∧
      Touches [.mem, .pmu, .queues, .framing] [(TFR.FRAG_CNT, n, 0), (TMD.DEQ_CNT, 0, 0)] s t) ∧
  (∀ (n : Fin 48) (b : Built) (d : Node) (f : QFrame) (rest : List QFrame) (s : State), s.up 211 = true →
    s.up (framingIsland n) = true → treeDead n s = false → filling n s = some b → rd TLN.CTL_TX_MODE n s = 1 →
    (s.fram n).carried = none → (s.tmdTree n).offered = none →
    (tmdSelect n (s.setTmdTree n { s.tmdTree n with lastOffer := s.clk })).1 = some d → (s.node d).frames = f :: rest →
    (s.fram n).space < xgemBytes (sealedLen (dsTreat (portTreat 0 n f.port s) s).mode f.len) → noFragment n f.port s = true →
    ∃ t, exec (.tmdDequeueOffer n) s = .next t ∧ (t.tmdTree n).offered = some d.key ∧ (t.node d).frames = f :: rest ∧
      Touches [.queues] [] s t) ∧
  (∀ (n : Fin 48) (k h no : Nat) (rest : List (Nat × Option Nat × Nat × Nat)) (d : Desc) (s : State), s.up 211 = true →
    (s.tmdTree n).leaving = (k, some h, 0, no) :: rest → descAt (handlePool h) (handleIndex h) s = d →
    accessOk 13 h 0 d.len s = true → stackDown h 0 d.len s = none → s.bpm.retraining = [] →
    ∃ t, exec (.tmdFrameTaken n none) s = .next t ∧ (t.tmdTree n).leaving = rest ∧
      t = freeHandle 13 h (s.setTmdTree n { s.tmdTree n with leaving := rest })) ∧
  (∀ (n : Fin 48) (k held no : Nat) (h : Option Nat) (rest : List (Nat × Option Nat × Nat × Nat)) (e : Option (Nat × Bool))
    (s : State), s.up 211 = true → (s.tmdTree n).leaving = (k, h, held, no) :: rest → held ≠ 0 →
    (s.fram n).carried.any (fun c => c.no == no) = false → s.bpm.retraining = [] →
    ∃ t, exec (.tmdFrameTaken n e) s = .next t ∧ (t.tmdTree n).leaving = rest ∧
      (t.node (Node.ofKey k)).frames = (s.node (Node.ofKey k)).frames.drop 1 ∧ (t.node (Node.ofKey k)).cut = false) ∧
  (∀ (n : Fin 48) (k h g no : Nat) (rest : List (Nat × Option Nat × Nat × Nat)) (s : State), s.up 211 = true →
    (s.tmdTree n).leaving = (k, some h, 0, no) :: rest →
    g ∈ granulesOf (handlePool h) (handleIndex h) 0 (descAt (handlePool h) (handleIndex h) s).len s → s.bpm.retraining = [] →
    ∃ t, exec (.tmdFrameTaken n (some (g, true))) s = .next t ∧ (t.tmdTree n).leaving = rest ∧ Counted TMD.RDERR_CNT 0 s t ∧
      Counted TFR.DQ_LOST_CNT n s t ∧ Raised 164 4 t) ∧
  (∀ (n : Fin 48) (h : Nat) (k no : Nat) (rest : List (Nat × Option Nat × Nat × Nat)) (d : Desc) (e : Option (Nat × Bool))
    (s : State), s.up 211 = true → (s.tmdTree n).leaving = (k, some h, 0, no) :: rest →
    descAt (handlePool h) (handleIndex h) s = d → d.gen ≠ handleGen h → s.bpm.retraining = [] →
    ∃ t, exec (.tmdFrameTaken n e) s = .next t ∧ (t.tmdTree n).leaving = rest ∧ Counted TMD.RDERR_CNT 0 s t ∧
      Counted TFR.DQ_LOST_CNT n s t ∧ Raised 164 4 t) ∧
  (∀ (n : Fin 48) (k : Nat) (s : State), s.up 211 = true → (s.tmdTree n).offered = some k →
    ∃ t, exec (.nofragReturn n) s = .next t ∧ (t.tmdTree n).offered = none ∧ (t.node (Node.ofKey k)).held = true ∧
      (t.node (Node.ofKey k)).frames = (s.node (Node.ofKey k)).frames ∧ Counted TMD.NOFRAG_RET_CNT 0 s t ∧
      Counted TFR.NOFRAG_WAIT_CNT n s t ∧
      Touches [.mem, .pmu, .queues] [(TMD.NOFRAG_RET_CNT, 0, 0), (TFR.NOFRAG_WAIT_CNT, n, 0)] s t) ∧
  (∀ (n : Fin 48) (s : State), s.up 211 = true → treeDead n s = false →
    ∃ t, exec (.treeDead n) s = .next t ∧ treeDead n t = true ∧
      t.clk = max s.clk ((s.tmdTree n).lastOffer + rd TMD.CTL_FLUSH_TO 0 s * 100000) ∧ busyQueues n t = [] ∧ Raised 164 2 t) ∧
  (∀ (n : Fin 48) (k held no : Nat) (h : Option Nat) (rest : List (Nat × Option Nat × Nat × Nat)) (e : Option (Nat × Bool))
    (s : State), s.up 211 = true → (s.tmdTree n).leaving = (k, h, held, no) :: rest → held ≠ 0 →
    (s.fram n).carried.any (fun c => c.no == no) = true →
    ∃ t, exec (.tmdFrameTaken n e) s = .next t ∧ t = s) ∧
  (∀ (n : Fin 48) (k h no : Nat) (rest : List (Nat × Option Nat × Nat × Nat)) (e : Option (Nat × Bool)) (s : State),
    s.up 211 = true → (s.tmdTree n).leaving = (k, some h, 0, no) :: rest → holdRead 13 h s ≠ none →
    ∃ t, exec (.tmdFrameTaken n e) s = .next t ∧ holdRead 13 h s = some t ∧ t.queues = s.queues ∧ Touches [.bpm] [] s t) ∧
  (∀ (n : Fin 48) (port : BitVec 16) (h : Word) (s : State), s.up 211 = true →
    ∃ t, exec (.tmdEnqueue n port h 0) s = .next t ∧ t = freeHandle 13 h.toNat s)

/-- R216, R221, R222, R227, R229 to R232: the port manager. A frame for no port, over a link that is down, above the class's
largest length or above QLIM is discarded and counted, its reference freed; otherwise it joins its queue with 20 bytes more charged.
A port that may send starts the selected frame, or discards one whose buffer cannot be read; a read error of a frame that has
started ends it with a stomped FCS; a cut-through frame does not end before its tag check; an express frame cuts a preemptable one; a
frame offered while bytes arrive is sent through only where nothing waits. -/
def Obligations.PortManager : Prop :=
  (∀ (p : Fin 32) (k : TmuKind) (h : Word) (len : BitVec 14) (m : Option PtpMsg) (s : State), s.up 212 = true →
    isPort p s = false →
    ∃ t, exec (.tmuEnqueue p k h len m) s = .next t ∧ t.queues = s.queues ∧ Counted TMU.NOQ_CNT 0 s t) ∧
  (∀ (p : Fin 32) (k : TmuKind) (h : Word) (len : BitVec 14) (m : Option PtpMsg) (s : State), s.up 212 = true →
    isPort p s = true → role s ≠ 1 → on NET.STS_LINK p s = false →
    ∃ t, exec (.tmuEnqueue p k h len m) s = .next t ∧ t.queues = s.queues ∧ Counted TMU.DOWN_DROP_CNT 0 s t) ∧
  (∀ (p : Fin 32) (g c : Fin 8) (h : Word) (len : BitVec 14) (m : Option PtpMsg) (s : State), s.up 212 = true →
    isPort p s = true → role s ≠ 1 → on NET.STS_LINK p s = true → classMaxlen p c s < len.toNat →
    ∃ t, exec (.tmuEnqueue p (.upstream g c) h len m) s = .next t ∧ t.queues = s.queues ∧
      Counted TMU.OVERSIZE_CNT 0 s t ∧ Raised 165 1 t) ∧
  (∀ (p : Fin 32) (g c : Fin 8) (d : Node) (h : Word) (len : BitVec 14) (m : Option PtpMsg) (s : State), s.up 212 = true →
    isPort p s = true → role s ≠ 1 → on NET.STS_LINK p s = true → len.toNat ≤ classMaxlen p c s →
    d = tmuQueue p (c * 9 + g) → nrd NODE.VALID d s = 1 → nrd NODE.DEPTH d s + len.toNat + 20 ≤ nrd NODE.QLIM d s →
    ∃ t, exec (.tmuEnqueue p (.upstream g c) h len m) s = .next t ∧
      (t.node d).frames = (s.node d).frames ++ [{ handle := some h.toNat, len := len.toNat, ptpMsg := m }] ∧
      nrd NODE.DEPTH d t = nrd NODE.DEPTH d s + len.toNat + 20 ∧ Counted TMU.ENQ_CNT 0 s t ∧
      Touches [.mem, .pmu, .queues] [(NODE.DEPTH, d.inst, d.idx), (TMU.ENQ_CNT, 0, 0)] s t) ∧
  (∀ (p : Fin 32) (g c : Fin 8) (d : Node) (h : Word) (len : BitVec 14) (m : Option PtpMsg) (s : State), s.up 212 = true →
    isPort p s = true → role s ≠ 1 → on NET.STS_LINK p s = true → len.toNat ≤ classMaxlen p c s →
    d = tmuQueue p (c * 9 + g) → nrd NODE.VALID d s = 1 → nrd NODE.QLIM d s < nrd NODE.DEPTH d s + len.toNat + 20 →
    ∃ t, exec (.tmuEnqueue p (.upstream g c) h len m) s = .next t ∧ t.queues = s.queues ∧ Counted TMU.TAIL_DROP_CNT 0 s t ∧
      nrd NODE.DROP_CNT d t = min (nrd NODE.DROP_CNT d s + 1) (2 ^ 32 - 1) ∧ Raised 165 0 t) ∧
  (∀ (p : Fin 32) (x : TxNow) (h : Nat) (s : State), s.up 212 = true → isPort p s = false →
    (s.tmuPort p).cur = some x → x.after = 0 → x.handle = some h → x.ct = false →
    ∃ t, exec (.tmuTxDecision p {}) s = .next t ∧ (t.tmuPort p).cur = none ∧ t.clk = max s.clk x.stop ∧
      Counted TMU.TX_CNT 0 s t ∧ Counted NET.TX_FRAME_CNT p s t) ∧
  (∀ (p : Fin 32) (c d : Node) (f : QFrame) (rest : List QFrame) (e : TxRead) (s : State), s.up 212 = true →
    isPort p s = true → on NET.STS_LINK p s = true → on TMUPORT.GATE_CTL_EN p s = false → (s.tmuPort p).cur = none →
    (∀ x, x < 8 → restOf p x s = none) → (readyClasses p s).1 = [(c, d)] → (s.node d).frames = f :: rest →
    (readHeld 14 f.handle e.next s).1.isSome = true → holdHeld 14 f.handle s = none →
    ∃ t, exec (.tmuTxDecision p e) s = .next t ∧ (t.node d).frames = rest ∧
      nrd NODE.DEPTH d t = nrd NODE.DEPTH d s - (f.len + 20) ∧
      (t.tmuPort p).cur.map (fun x => { x with origin := none }) = some {
        cls := c.idx, handle := f.handle, len := f.len, after := 0, start := s.clk, cont := false, ct := false
        stop := s.clk + (byteTime p (f.len + 8) s + 999) / 1000, pre := preemptable p c.idx s
        content := f.content, iv := f.iv }) ∧
  (∀ (p : Fin 32) (c d : Node) (f : QFrame) (rest : List QFrame) (e : TxRead) (s : State), s.up 212 = true →
    isPort p s = true → on NET.STS_LINK p s = true → (s.tmuPort p).cur = none →
    (∀ x, x < 8 → restOf p x s = none) → (readyClasses p s).1 = [(c, d)] → (s.node d).frames = f :: rest →
    (readHeld 14 f.handle e.next s).1 = none → holdHeld 14 f.handle s = none →
    ∃ t, exec (.tmuTxDecision p e) s = .next t ∧ (t.node d).frames = rest ∧ (t.tmuPort p).cur = none ∧
      nrd NODE.DEPTH d t = nrd NODE.DEPTH d s - (f.len + 20) ∧
      Counted TMU.CFG_RDERR_CNT_RDERR_CNT 0 s t ∧ Raised 165 6 t) ∧
  (∀ (p : Fin 32) (s : State), s.up 212 = true → (s.tmuPort p).cur = none →
    ∃ t, exec (.preemptCut p) s = .next t ∧ t = s) ∧
  (∀ (p : Fin 32) (x : TxNow) (cut : Nat) (s : State), s.up 212 = true → (s.tmuPort p).cur = some x →
    x.pre = true →
    (readyClasses p s).1.any (fun r => !preemptable p r.1.idx (readyClasses p s).2) = true →
    cut = max 1 (((s.clk - x.start) * portRate p s / 8 - 8 + 63) / 64) * 64 → cut + 64 ≤ x.len + x.after → cut < x.len →
    ∃ t, exec (.preemptCut p) s = .next t ∧ (t.tmuPort p).cur = none ∧
      t.clk = max s.clk (x.start + (byteTime p (cut + 12) s + 999) / 1000) ∧
      restOf p x.cls t = some (x.left (x.len + x.after - cut)) ∧ Counted TMU.PREEMPT_CNT 0 s t) ∧
  (∀ (p : Fin 32) (g c : Fin 8) (h : Word) (len : BitVec 14) (d : Node) (s : State), s.up 212 = true → isPort p s = true →
    on TMUPORT.PORT_CFG_CT_EN p s = false → role s ≠ 1 → on NET.STS_LINK p s = true → len.toNat ≤ classMaxlen p c s →
    d = tmuQueue p (c * 9 + g) → nrd NODE.VALID d s = 1 → nrd NODE.DEPTH d s + len.toNat + 20 ≤ nrd NODE.QLIM d s →
    ∃ t, exec (.cutThroughOffer p g c h len) s = .next t ∧ Counted TMU.CT_STORE_CNT 0 s t ∧ Counted TMU.ENQ_CNT 0 s t ∧
      (t.node d).frames = (s.node d).frames ++ [{ handle := some h.toNat, len := len.toNat }]) ∧
  (∀ (p : Fin 32) (g c : Fin 8) (h : Word) (len : BitVec 14) (s : State), s.up 212 = true → isPort p s = true →
    on TMUPORT.PORT_CFG_CT_EN p s = true → role s ≠ 1 → on NET.STS_LINK p s = true →
    (classQueues p c).all (fun q => (s.node q).frames.isEmpty) = true → restOf p c s = none →
    tokensOk (tmuQueue p (c * 9 + g)) s = true → tokensOk (tmuClass p c) s = true → (s.tmuPort p).cur = none →
    startBytes p c len.toNat false s = some len.toNat →
    ∃ t, exec (.cutThroughOffer p g c h len) s = .next t ∧ Counted TMU.CT_CNT 0 s t ∧
      (t.tmuPort p).cur = some {
        cls := c, handle := none, len := len.toNat, after := 0, start := s.clk
        stop := s.clk + (byteTime p (len.toNat + 8) s + 999) / 1000, cont := false, ct := true
        pre := preemptable p c s } ∧
      Touches [.mem, .pmu, .queues] [(TMU.CT_CNT, 0, 0)] s t) ∧
  (∀ (p : Fin 32) (x : TxNow) (h g : Nat) (nx : Option (Nat × Bool)) (s : State), s.up 212 = true → isPort p s = false →
    (s.tmuPort p).cur = some x → x.after = 0 → x.handle = some h → x.ct = false →
    g ∈ granulesOf (handlePool h) (handleIndex h) 0 (descAt (handlePool h) (handleIndex h) s).len s →
    ∃ t, exec (.tmuTxDecision p { cur := some (g, true), next := nx }) s = .next t ∧ (t.tmuPort p).cur = none ∧
      (t.tmuPort p).stomped = true ∧ Counted TMU.CFG_RDERR_CNT_RDERR_CNT 0 s t ∧ Raised 165 6 t ∧ Counted TMU.TX_CNT 0 s t) ∧
  (∀ (p : Fin 32) (x : TxNow) (e : TxRead) (s : State), s.up 212 = true → (s.tmuPort p).cur = some x → txWithheld x s = true →
    ∃ t, exec (.tmuTxDecision p e) s = .next t ∧ t = s)

/-- R219, R220, R228, R230, R231, R234, R236: gates and node words. Without a list a gate event changes nothing, with one the next
entry takes effect at the present one's end; a change of a pending list or of one with an interval below 8 ns sets ERR and raises
cause 4, another becomes pending, and at its instant the other bank is operational from its first entry; a weight of 0 or an index
that does not exist is refused, a node commit writes words 0 and 1, a write of a rate or burst first refills and then clips; a shaper that recovers waits for its debt. -/
def Obligations.GatesAndNodes : Prop :=
  (∀ (p : Fin 32) (s : State), s.up 212 = true → (s.tmuPort p).listed = false →
    ∃ t, exec (.gateEvent p) s = .next t ∧ t = s) ∧
  (∀ (p : Fin 32) (s : State), s.up 212 = true → (s.tmuPort p).listed = true →
    (s.tmuPort p).entryEnd < (s.tmuPort p).cycleEnd → s.ptp ≤ (s.tmuPort p).entryEnd →
    ∃ t, exec (.gateEvent p) s = .next t ∧ (t.tmuPort p).entry = (s.tmuPort p).entry + 1 ∧
      (t.tmuPort p).cycleEnd = (s.tmuPort p).cycleEnd ∧
      (t.tmuPort p).entryEnd = entryStop (operList p s) ((s.tmuPort p).entry + 1) (s.tmuPort p).entryEnd
        (s.tmuPort p).cycleEnd) ∧
  (∀ (p : Fin 32) (w : Word) (s : State), s.up 212 = true → on TMUPORT.GATE_CTL_PENDING p s = true → w.msb = true →
    ∃ t, exec (.gateChangeRequest p w) s = .next t ∧ rd TMUPORT.GATE_CTL_ERR p t = 1 ∧ rd TMUPORT.GATE_CTL_CHANGE p t = 0 ∧
      rd TMUPORT.GATE_CTL_PENDING p t = 1 ∧ Raised 165 4 t) ∧
  (∀ (p : Fin 32) (w : Word) (s : State), s.up 212 = true → on TMUPORT.GATE_CTL_PENDING p s = false → w.msb = true →
    (∀ e, e < 256 → 8 ≤ gclInterval p (1 - operBank p s) e s ∨ w.toNat / 2 ^ 16 % 2 ^ 9 ≤ e) →
    1 ≤ w.toNat / 2 ^ 16 % 2 ^ 9 → w.toNat / 2 ^ 16 % 2 ^ 9 ≤ 256 →
    ∃ t, exec (.gateChangeRequest p w) s = .next t ∧ rd TMUPORT.GATE_CTL_ERR p t = 0 ∧ rd TMUPORT.GATE_CTL_CHANGE p t = 1 ∧
      rd TMUPORT.GATE_CTL_PENDING p t = 1 ∧ rd TMUPORT.GATE_CTL_ADMIN_LEN p t = w.toNat / 2 ^ 16 % 2 ^ 9 ∧
      rd TMUPORT.GATE_CTL_EN p t = w.toNat / 2 ^ 28 % 2 ∧ (t.tmuPort p).changeAt = changeInstant p s ∧
      (t.tmuPort p).pendLen = w.toNat / 2 ^ 16 % 2 ^ 9 ∧ (t.tmuPort p).pendCycle = rd TMUPORT.ADMIN_CYCLE p s) ∧
  (∀ (p : Fin 32) (s : State), s.up 212 = true → on TMUPORT.GATE_CTL_PENDING p s = true →
    ∃ t, exec (.gateListChange p) s = .next t ∧ operBank p t = 1 - operBank p s ∧
      rd TMUPORT.OPER_STS_OPER_LEN p t = (s.tmuPort p).pendLen % 512 ∧ rd TMUPORT.GATE_CTL_PENDING p t = 0 ∧
      rd TMUPORT.GATE_CTL_CHANGE p t = 0 ∧ (t.tmuPort p).listed = true ∧ (t.tmuPort p).entry = 0 ∧
      (t.tmuPort p).cycle = (s.tmuPort p).pendCycle ∧
      (t.tmuPort p).cycleEnd = (s.tmuPort p).changeAt + (s.tmuPort p).pendCycle ∧
      Counted TMU.CFG_RDERR_CNT_CFG_CHANGE_CNT 0 s t ∧ Raised 165 3 t) ∧
  (∀ (w : Word) (s : State), s.up 211 = true → rd TMD.NODE_IDX_WORD 0 s = 1 → w.toNat % 65536 = 0 →
    ∃ t, exec (.nodeWrite 0 w) s = .next t ∧ rdWord .node (namedNode 0 s).inst (namedNode 0 s).idx 0 t =
        rdWord .node (namedNode 0 s).inst (namedNode 0 s).idx 0 s ∧
      rdWord .node (namedNode 0 s).inst (namedNode 0 s).idx 1 t = rdWord .node (namedNode 0 s).inst (namedNode 0 s).idx 1 s ∧
      t.cmd.verdict = 6 ∧ Raised 164 5 t) ∧
  (∀ (w : Word) (s : State), s.up 211 = true → rd TMD.NODE_IDX_WORD 0 s = 1 → rd TMD.NODE_IDX_LEVEL 0 s = 0 →
    rd TMD.NODE_IDX_TREE 0 s < 48 → rd TMD.NODE_IDX_INDEX 0 s < 4096 → on TMD.NODE_IDX_AUTO_INC 0 s = false →
    w.toNat % 65536 ≠ 0 → Tbl.get 0 s.queues.stage 0 / 2 ^ 30 = 2 →
    ∃ t, exec (.nodeWrite 0 w) s = .next t ∧ nrd NODE.WEIGHT (namedNode 0 s) t = w.toNat % 65536 ∧
      nrd NODE.VALID (namedNode 0 s) t = 1 ∧
      nrd NODE.TERM (namedNode 0 s) t = Tbl.get 0 s.queues.stage 0 / 2 ^ 9 % 2 ^ 9 ∧
      nrd NODE.CLASS (namedNode 0 s) t = Tbl.get 0 s.queues.stage 0 / 2 ^ 6 % 2 ^ 3) ∧
  (∀ (m : Fin 2) (w : Word) (d : Node) (v : Nat) (s : State), s.up (211 + m) = true → namedNode m s = d → nodeExists d = true →
    (if m = 0 then rd TMD.NODE_IDX_WORD 0 s else rd TMU.NODE_IDX_WORD 0 s) = 1 →
    (if m = 0 then on TMD.NODE_IDX_AUTO_INC 0 s else on TMU.NODE_IDX_AUTO_INC 0 s) = false →
    w.toNat % 65536 ≠ 0 → Tbl.get 0 s.queues.stage m = v → v / 2 ^ 29 = 4 → 64 ≤ v % 2 ^ 14 →
    ∃ t, exec (.nodeWrite m w) s = .next t ∧ nrd NODE.WEIGHT d t = w.toNat % 65536 ∧ nrd NODE.VALID d t = 1 ∧
      (352 ≤ d.inst → rdx NODEC.MAXLEN (d.inst - 352) d.idx t = v % 2 ^ 14) ∧
      Touches [.mem] [(⟨.node, 0, 31, 0⟩, d.inst, d.idx), (⟨.node, 1, 31, 0⟩, d.inst, d.idx),
        (NODEC.MAXLEN, d.inst - 352, d.idx)] s t) ∧
  (∀ (m : Fin 2) (w : Word) (d : Node) (s : State), s.up (211 + m) = true → namedNode m s = d → nodeExists d = true →
    (if m = 0 then rd TMD.NODE_IDX_WORD 0 s else rd TMU.NODE_IDX_WORD 0 s) = 2 →
    (if m = 0 then on TMD.NODE_IDX_AUTO_INC 0 s else on TMU.NODE_IDX_AUTO_INC 0 s) = false →
    ∃ t, exec (.shaperWrite m w) s = .next t ∧ nrd NODE.RATE d t = w.toNat ∧
      (t.node d).tok = (tokensNow d s).1 ∧ (t.node d).refilled = s.clk ∧
      Touches [.mem, .queues] [(NODE.RATE, d.inst, d.idx)] s t) ∧
  (∀ (m : Fin 2) (w : Word) (d : Node) (s : State), s.up (211 + m) = true → namedNode m s = d → nodeExists d = true →
    (if m = 0 then rd TMD.NODE_IDX_WORD 0 s else rd TMU.NODE_IDX_WORD 0 s) = 3 →
    (if m = 0 then on TMD.NODE_IDX_AUTO_INC 0 s else on TMU.NODE_IDX_AUTO_INC 0 s) = false → 64 ≤ w.toNat % 2 ^ 24 →
    ∃ t, exec (.shaperWrite m w) s = .next t ∧ nrd NODE.BURST d t = w.toNat % 2 ^ 24 ∧
      (t.node d).tok = min (tokensNow d s).1 ((w.toNat % 2 ^ 24 * 1024 : Nat) : Int) ∧ (t.node d).refilled = s.clk) ∧
  (∀ (m : Fin 2) (level : Fin 4) (n : Fin 48) (idx : BitVec 13) (d : Node) (w r : Nat) (s : State), s.up (211 + m) = true →
    d = (if m = 0 then tmdNode level n idx.toNat else if level = 0 then tmuQueue n idx.toNat else tmuClass n idx.toNat) →
    (s.node d).refilled = s.clk → (s.node d).rem = 0 → (s.node d).tok = -(w : Int) → nrd NODE.RATE d s = r → r ≠ 0 →
    ∃ t, exec (.shaperRecovery m level n idx) s = .next t ∧ t.clk = s.clk + (w * 125000 + 16 * r - 1) / (16 * r) ∧
      0 ≤ (t.node d).tok ∧ (t.node d).refilled = t.clk)

/-- R233: while the role is standby, a frame from a tree or a CRL lane is discarded at enqueue and counted; source-8 traffic, the
system's and the injected, joins its queue as on the active. -/
def Obligations.StandbyDiscards : Prop :=
  (∀ (p : Fin 32) (g c : Fin 8) (h : Word) (len : BitVec 14) (m : Option PtpMsg) (s : State), s.up 212 = true →
    isPort p s = true → role s = 1 →
    ∃ t, exec (.tmuEnqueue p (.upstream g c) h len m) s = .next t ∧ t.queues = s.queues ∧ Counted TMU.STBY_DROP_CNT 0 s t) ∧
  (∀ (p : Fin 32) (g : Fin 8) (h : Word) (len : BitVec 14) (m : Option PtpMsg) (s : State), s.up 212 = true →
    isPort p s = true → role s = 1 →
    ∃ t, exec (.tmuEnqueue p (.crl g) h len m) s = .next t ∧ t.queues = s.queues ∧ Counted TMU.STBY_DROP_CNT 0 s t) ∧
  (∀ (p : Fin 32) (d : Node) (h : Word) (len : BitVec 14) (m : Option PtpMsg) (s : State), s.up 212 = true →
    isPort p s = true → on NET.STS_LINK p s = true → len.toNat ≤ classMaxlen p (rd TMUPORT.PORT_CFG_SYS_CLASS p s) s →
    d = tmuQueue p (rd TMUPORT.PORT_CFG_SYS_CLASS p s * 9 + 8) → nrd NODE.VALID d s = 1 →
    nrd NODE.DEPTH d s + len.toNat + 20 ≤ nrd NODE.QLIM d s →
    ∃ t, exec (.tmuEnqueue p .system h len m) s = .next t ∧
      (t.node d).frames = (s.node d).frames ++ [{ handle := some h.toNat, len := len.toNat, ptpMsg := m }] ∧
      nrd NODE.DEPTH d t = nrd NODE.DEPTH d s + len.toNat + 20 ∧ Counted TMU.ENQ_CNT 0 s t ∧
      Touches [.mem, .pmu, .queues] [(NODE.DEPTH, d.inst, d.idx), (TMU.ENQ_CNT, 0, 0)] s t) ∧
  (∀ (p : Fin 32) (c : Fin 8) (d : Node) (h : Word) (len : BitVec 14) (m : Option PtpMsg) (s : State), s.up 212 = true →
    isPort p s = true → on NET.STS_LINK p s = true → len.toNat ≤ classMaxlen p c s →
    d = tmuQueue p (c * 9 + 8) → nrd NODE.VALID d s = 1 → nrd NODE.DEPTH d s + len.toNat + 20 ≤ nrd NODE.QLIM d s →
    ∃ t, exec (.tmuEnqueue p (.injection c) h len m) s = .next t ∧
      (t.node d).frames = (s.node d).frames ++ [{ handle := some h.toNat, len := len.toNat, ptpMsg := m }] ∧
      nrd NODE.DEPTH d t = nrd NODE.DEPTH d s + len.toNat + 20 ∧ Counted TMU.ENQ_CNT 0 s t ∧
      Touches [.mem, .pmu, .queues] [(NODE.DEPTH, d.inst, d.idx), (TMU.ENQ_CNT, 0, 0)] s t)

/-- R241, R249, R250, R256, R382: key slots. The last word of a key commits it with the words staged before, but never into the slot
in use, which raises cause 11; without privilege a key write only counts and raises cause 4 of source 183. A terminal switch needs
a key in the other slot, a flow switch waits for a frame start, a ring load takes the next ring key, a clear empties the inactive
slot, and an old slot is cleared 8,000 frames after an automatic switch. -/
def Obligations.CipherKeys : Prop :=
  (∀ (d : Fin 2) (w : Word) (f k : Nat) (s : State), s.up (218 + d) = true → privileged s = true →
    rd CPH.FKEY_IDX_WORD d s = 7 → on CPH.FKEY_IDX_AUTO_INC d s = false → rd CPH.FKEY_IDX_FLOW d s = f →
    rd CPH.FKEY_IDX_SLOT d s = k → (countedSlot d f s ≠ k ∨ slotValid d f k s = false) →
    ∃ t, exec (.flowKeyCommit d w) s = .next t ∧
      Tbl.get none (t.cph d).fkey (f * 2 + k) = some (stagedKey (s.cph d).fStage 7 w.toNat) ∧ slotValid d f k t = true ∧
      invCount d f k t = rd CPH.INV_START_START d s * 256 ∧ rd CPH.INV_START_START d t = 0 ∧
      slotValid d f (1 - k) t = slotValid d f (1 - k) s ∧ invCount d f (1 - k) t = invCount d f (1 - k) s ∧
      actSlot d f t = actSlot d f s ∧
      Touches [.mem, .cipher, .grt] [(⟨.flow, 0, 24, 23⟩, d, f), (FLOW.INV0_LO, d, f), (FLOW.INV0_HI, d, f),
        (FLOW.INV1_LO, d, f), (FLOW.INV1_HI, d, f), (CPH.INV_START_START, d, 0)] s t) ∧
  (∀ (d : Fin 2) (w : Word) (f : Nat) (s : State), s.up (218 + d) = true → privileged s = true →
    on CPH.FKEY_IDX_AUTO_INC d s = false → rd CPH.FKEY_IDX_FLOW d s = f →
    countedSlot d f s = rd CPH.FKEY_IDX_SLOT d s → slotValid d f (countedSlot d f s) s = true →
    ∃ t, exec (.flowKeyCommit d w) s = .next t ∧ Raised (169 + d) 11 t ∧ t.cmd.verdict = 6 ∧
      Touches (.cmd :: signals) [] s t) ∧
  (∀ (d : Fin 2) (w : Word) (s : State), s.up (218 + d) = true → privileged s = false →
    ∃ t, exec (.flowKeyCommit d w) s = .next t ∧ Counted CMD.GUARD_CNT 0 s t ∧ Raised 183 4 t ∧ t.cmd.verdict = 4 ∧
      Touches (.mem :: .cmd :: signals) [(CMD.GUARD_CNT, 0, 0)] s t) ∧
  (∀ (d : Fin 2) (w : Word) (n m k : Nat) (s : State), s.up (218 + d) = true → privileged s = true →
    rd CPH.TKEY_IDX_WORD d s = 3 → on CPH.TKEY_IDX_AUTO_INC d s = false → rd CPH.TKEY_IDX_TREE d s = n →
    rd CPH.TKEY_IDX_TERM d s = m → rd CPH.TKEY_IDX_KEY d s = k →
    (d = 1 ∨ 2 ≤ k ∨ Tbl.get 0 (s.cph d).txSlot (n * 1024 + m) ≠ k ∨ Tbl.get none (s.cph d).tkey (tkeyNo n m k) = none) →
    ∃ t, exec (.terminalKeyCommit d w) s = .next t ∧
      Tbl.get none (t.cph d).tkey (tkeyNo n m k) = some (stagedKey (s.cph d).tStage 3 w.toNat) ∧
      (t.cph d).txSlot = (s.cph d).txSlot ∧ (t.cph d).fkey = (s.cph d).fkey ∧ Touches [.cipher, .grt] [] s t) ∧
  (∀ (w : Word) (n m k : Nat) (s : State), s.up 218 = true → privileged s = true →
    rd CPH.TKEY_IDX_WORD 0 s = 3 → on CPH.TKEY_IDX_AUTO_INC 0 s = false → rd CPH.TKEY_IDX_TREE 0 s = n →
    rd CPH.TKEY_IDX_TERM 0 s = m → rd CPH.TKEY_IDX_KEY 0 s = k → k < 2 → Tbl.get 0 (s.cph 0).txSlot (n * 1024 + m) = k →
    Tbl.get none (s.cph 0).tkey (tkeyNo n m k) ≠ none →
    ∃ t, exec (.terminalKeyCommit 0 w) s = .next t ∧ Raised 169 11 t ∧ t.cmd.verdict = 6 ∧
      Touches (.cmd :: signals) [] s t) ∧
  (∀ (d : Fin 2) (w : Word) (s : State), s.up (218 + d) = true → privileged s = true → rd CPH.RING_IDX_WORD d s = 7 →
    on CPH.RING_IDX_AUTO_INC d s = false →
    ∃ t, exec (.ringKeyCommit d w) s = .next t ∧
      Tbl.get 0 (t.cph d).ring (rd CPH.RING_IDX_ENTRY d s) = stagedKey (s.cph d).rStage 7 w.toNat ∧ Touches [.cipher, .grt] [] s t) ∧
  (∀ (n : Fin 48) (m : BitVec 10) (k : Nat) (s : State), s.up 218 = true → privileged s = true → m.toNat ≤ 512 →
    Tbl.get 0 (s.cph 0).txSlot (n * 1024 + m.toNat) = k → Tbl.get none (s.cph 0).tkey (tkeyNo n m.toNat (1 - k)) ≠ none →
    ∃ t, exec (.rekeyTerminalSwitch 0 n m) s = .next t ∧
      t.cph 0 = { s.cph 0 with txSlot := Tbl.set 0 (s.cph 0).txSlot (n * 1024 + m.toNat) (1 - k) } ∧ rd CPH.REKEY_ERR 0 t = 0 ∧
      rd CPH.REKEY_GO 0 t = 0 ∧ Counted CPH.REKEY_CNT 0 s t ∧ Raised 169 7 t) ∧
  (∀ (n : Fin 48) (m : BitVec 10) (s : State), s.up 219 = true → privileged s = true →
    ∃ t, exec (.rekeyTerminalSwitch 1 n m) s = .next t ∧ t.cipher = s.cipher ∧ rd CPH.REKEY_ERR 1 t = 1 ∧ Raised 170 10 t) ∧
  (∀ (f : BitVec 13) (s : State), s.up 218 = true → privileged s = true →
    slotValid 0 f.toNat (1 - actSlot 0 f.toNat s) s = true →
    ∃ t, exec (.rekeyFlowSwitch 0 f) s = .next t ∧ (f.toNat, 1 - actSlot 0 f.toNat s, false) ∈ (t.cph 0).switching ∧
      actSlot 0 f.toNat t = actSlot 0 f.toNat s ∧ rd CPH.REKEY_ERR 0 t = 0 ∧ rd CPH.REKEY_OP 0 t = 1 ∧
      rd CPH.REKEY_TARGET 0 t = f.toNat) ∧
  (∀ (d : Fin 2) (f : BitVec 13) (k : Nat) (s : State), s.up (218 + d) = true → privileged s = true →
    1 - countedSlot d f.toNat s = k → rdx FLOW.RING_POS d f.toNat s < rdx FLOW.RING_LEN d f.toNat s →
    ∃ t, exec (.rekeyLoadRing d f) s = .next t ∧
      Tbl.get none (t.cph d).fkey (f.toNat * 2 + k) =
        some (Tbl.get 0 (s.cph d).ring ((rdx FLOW.RING_BASE d f.toNat s + rdx FLOW.RING_POS d f.toNat s) % 4096)) ∧
      slotValid d f.toNat k t = true ∧ invCount d f.toNat k t = 0 ∧
      rdx FLOW.RING_POS d f.toNat t = rdx FLOW.RING_POS d f.toNat s + 1 ∧ rd CPH.REKEY_ERR d t = 0) ∧
  (∀ (d : Fin 2) (f : BitVec 13) (s : State), s.up (218 + d) = true → privileged s = true →
    rdx FLOW.RING_LEN d f.toNat s ≤ rdx FLOW.RING_POS d f.toNat s →
    ∃ t, exec (.rekeyLoadRing d f) s = .next t ∧ t.cipher = s.cipher ∧ rd CPH.REKEY_ERR d t = 1 ∧ Raised (169 + d) 10 t) ∧
  (∀ (d : Fin 2) (f : BitVec 13) (k : Nat) (s : State), s.up 218 = true → s.up 219 = true → privileged s = true →
    1 - countedSlot d f.toNat s = k →
    ∃ t, exec (.rekeyClearSlot d f) s = .next t ∧ slotValid 0 f.toNat k t = false ∧ slotValid 1 f.toNat k t = false ∧
      Tbl.get none (t.cph 0).fkey (f.toNat * 2 + k) = none ∧ Tbl.get none (t.cph 1).fkey (f.toNat * 2 + k) = none ∧
      invCount 0 f.toNat k t = 0 ∧ invCount 1 f.toNat k t = 0 ∧
      slotValid d f.toNat (1 - k) t = slotValid d f.toNat (1 - k) s ∧ rd CPH.REKEY_ERR d t = 0) ∧
  (∀ (d : Fin 2) (f : BitVec 13) (s : State), s.up (218 + d) = true → (s.cph d).expiring = [] →
    ∃ t, exec (.oldSlotExpiry d f) s = .next t ∧ t = s) ∧
  (∀ (d : Fin 2) (f : BitVec 13) (slot k : Nat) (s : State), s.up (218 + d) = true →
    (s.cph d).expiring = [(f.toNat, slot, k)] → slot ≤ 1 → countedSlot d f.toNat s ≠ slot →
    ∃ t, exec (.oldSlotExpiry d f) s = .next t ∧ slotValid d f.toNat slot t = false ∧ invCount d f.toNat slot t = 0 ∧
      Tbl.get none (t.cph d).fkey (f.toNat * 2 + slot) = none ∧ (t.cph d).expiring = [] ∧
      t.clk = (passToFrame (frameT0 (k + 8000)) s).clk ∧
      slotValid d f.toNat (1 - slot) t = slotValid d f.toNat (1 - slot) s)

/-- R16, R45, R240, R244 to R252, R256: SDUs. The oldest SDU the framer handed to the cipher leaves it: a clear one with nothing
counted, one under a terminal's key counted where the key exists, with cause 5 where it does not; a sealed one advances its slot's
count by one and records its IV and status; 2^35 invocations warn once, and take the next ring key, 2^36 hold the flow; an upstream
SDU whose Key Index does not suit its port is dropped, another leaves for its pipeline, without its tag, or with a tag check to come
where its flow is cut-through; a failed tag is counted, a cut-through one's frame stomped or dropped; flow and port words are
written as they may be. An SDU on its way to a cipher in reset is lost with the wrapper's answer. -/
def Obligations.SduCipher : Prop :=
  (∀ (n : Fin 48) (port : BitVec 16) (len : BitVec 14) (ofs : BitVec 20) (bytes : List Byte) (x : Sdu) (rest : List Sdu) (s : State),
    s.up 218 = true → (s.fram n).sealing = x :: rest → x.port = port.toNat → x.len = len.toNat → x.ofs = ofs.toNat → sduUnread n x s = false →
    x.treat.mode = 0 → (s.cph 0).tBad = [] → (∀ i, i < 4 → (s.session i).capture = none) →
    ∃ t, exec (.cipherDsSdu n port len ofs bytes) s = .next t ∧ (t.fram n).sealing = rest ∧
      (t.fram n).out = (s.fram n).out ++ [{
        frame := x.frame, ofs := x.ofs, port := x.port, out := { bytes := withOmciMic n x.treat (vlanEdit x.edit bytes) s } }] ∧
      Touches [.framing] [] s t) ∧
  (∀ (n : Fin 48) (port : BitVec 16) (len : BitVec 14) (ofs : BitVec 20) (bytes : List Byte) (x : Sdu) (rest : List Sdu) (s : State),
    s.up 218 = true → (s.fram n).sealing = x :: rest → x.port = port.toNat → x.len = len.toNat → x.ofs = ofs.toNat → sduUnread n x s = false →
    x.treat.mode = 1 → (s.cph 0).tBad = [] → (s.cph 0).resumeFrame ≤ x.frame →
    Tbl.get none (s.cph 0).tkey (tkeyNo n x.treat.term (Tbl.get 0 (s.cph 0).txSlot (n * 1024 + x.treat.term))) = none →
    ∃ t, exec (.cipherDsSdu n port len ofs bytes) s = .next t ∧ (t.fram n).sealing = rest ∧ (t.fram n).out = (s.fram n).out ∧
      (t.fram n).carried = (if x.cut then none else (s.fram n).carried) ∧ Counted CPH.KEY_ERR_CNT 0 s t ∧ Raised 169 5 t ∧
      Touches (.mem :: .framing :: signals) [(CPH.KEY_ERR_CNT, 0, 0)] s t) ∧
  (∀ (n : Fin 48) (port : BitVec 16) (len : BitVec 14) (ofs : BitVec 20) (bytes : List Byte) (x : Sdu) (rest : List Sdu) (k v : Nat) (s : State),
    s.up 218 = true → (s.fram n).sealing = x :: rest → x.port = port.toNat → x.len = len.toNat → x.ofs = ofs.toNat → sduUnread n x s = false →
    x.treat.mode = 1 → (s.cph 0).resumeFrame ≤ x.frame → on CPH.STS_COLD_HOLD 0 s = false → (s.cph 0).tBad = [] →
    Tbl.get 0 (s.cph 0).txSlot (n * 1024 + x.treat.term) = k → Tbl.get none (s.cph 0).tkey (tkeyNo n x.treat.term k) = some v →
    (∀ i, i < 4 → (s.session i).capture = none) →
    ∃ t, exec (.cipherDsSdu n port len ofs bytes) s = .next t ∧ (t.fram n).sealing = rest ∧ Counted CPH.ENC_CNT 0 s t ∧
      (t.fram n).out = (s.fram n).out ++ [{ frame := x.frame, ofs := x.ofs, port := x.port, out := {
        keyIndex := k + 1, bytes := Config.xgemCipher v x.frame x.ofs (withOmciMic n x.treat (vlanEdit x.edit bytes) s) } }] ∧
      Touches [.mem, .pmu, .framing] [(CPH.ENC_CNT, 0, 0)] s t) ∧
  (∀ (n : Fin 48) (port : BitVec 16) (len : BitVec 14) (ofs : BitVec 20) (bytes : List Byte) (x : Sdu) (rest : List Sdu) (f k : Nat)
    (s : State), s.up 218 = true → (s.fram n).sealing = x :: rest → x.port = port.toNat → x.len = len.toNat → x.ofs = ofs.toNat → sduUnread n x s = false →
    2 ≤ x.treat.mode → (s.cph 0).tBad = [] → (s.cph 0).resumeFrame ≤ x.frame → x.treat.flow = f → actSlot 0 f s = k →
    slotValid 0 f k s = true → on CPH.STS_COLD_HOLD 0 s = false → (s.cph 0).fBad = [] → len.toNat ≤ 16000 →
    (s.cph 0).highSfc ≤ x.frame → rdx FLOW.HELD 0 f s = 0 → invCount 0 f k s < 2 ^ 36 →
    (∀ i, i < 4 → (s.session i).capture = none) →
    ∃ t, exec (.cipherDsSdu n port len ofs bytes) s = .next t ∧ (t.fram n).sealing = rest ∧
      invCount 0 f k t = invCount 0 f k s + 1 ∧ (t.cph 0).highSfc = x.frame ∧
      rdWord .flow 0 f 8 t = ivOf x.frame n 0 ofs.toNat % 2 ^ 32 ∧
      rdx FLOW.SLOT 0 f t = k ∧ rdx FLOW.LEN 0 f t = len.toNat ∧ rdx FLOW.RESULT 0 f t = 0 ∧
      (t.fram n).out = (s.fram n).out ++ [{ frame := x.frame, ofs := x.ofs, port := x.port, out := {
        keyIndex := k + 1, iv := ivOf x.frame n 0 ofs.toNat, status := statusWord 0 0 k len.toNat
        bytes := sealBytes x.treat.mode ((Tbl.get none (s.cph 0).fkey (f * 2 + k)).getD 0) (ivOf x.frame n 0 ofs.toNat) false
          (flowBlock port.toNat len.toNat n (k + 1)) (withOmciMic n x.treat (vlanEdit x.edit bytes) s) } }] ∧
      Counted CPH.SEAL_CNT 0 s t) ∧
  (∀ (n : Fin 48) (port : BitVec 16) (len : BitVec 14) (ofs : BitVec 20) (bytes : List Byte) (x : Sdu) (rest : List Sdu) (f : Nat)
    (s : State), s.up 218 = true → (s.fram n).sealing = x :: rest → x.port = port.toNat → x.len = len.toNat → x.ofs = ofs.toNat → sduUnread n x s = false →
    2 ≤ x.treat.mode → (s.cph 0).tBad = [] → (s.cph 0).resumeFrame ≤ x.frame → x.treat.flow = f →
    slotValid 0 f (actSlot 0 f s) s = false → invCount 0 f (actSlot 0 f s) s < 2 ^ 36 →
    ∃ t, exec (.cipherDsSdu n port len ofs bytes) s = .next t ∧ (t.fram n).sealing = rest ∧ (t.fram n).out = (s.fram n).out ∧
      (t.fram n).carried = (if x.cut then none else (s.fram n).carried) ∧ Counted CPH.KEY_ERR_CNT 0 s t ∧ Raised 169 5 t ∧
      Touches (.mem :: .framing :: signals) [(CPH.KEY_ERR_CNT, 0, 0)] s t) ∧
  (∀ (d : Fin 2) (f : BitVec 13) (k : Nat) (s : State), s.up (218 + d) = true → countedSlot d f.toNat s = k →
    2 ^ 35 ≤ invCount d f.toNat k s → (s.cph d).warned = [] → rdx FLOW.RING_LEN d f.toNat s ≤ rdx FLOW.RING_POS d f.toNat s →
    (s.cph d).emptySaid = [] → rdx FLOW.AUTO d f.toNat s = 1 →
    ∃ t, exec (.invocationWarning d f) s = .next t ∧ (t.cph d).warned = [f.toNat * 2 + k] ∧
      Raised (169 + d) 3 t ∧ Counted CPH.RING_EMPTY_CNT d s t ∧ Raised (169 + d) 9 t) ∧
  (∀ (d : Fin 2) (f : BitVec 13) (k : Nat) (s : State), s.up (218 + d) = true → countedSlot d f.toNat s = k →
    2 ^ 35 ≤ invCount d f.toNat k s → (s.cph d).warned = [] → rdx FLOW.RING_POS d f.toNat s < rdx FLOW.RING_LEN d f.toNat s →
    rdx FLOW.AUTO d f.toNat s = 1 →
    ∃ t, exec (.invocationWarning d f) s = .next t ∧ (f.toNat, 1 - k, true) ∈ (t.cph d).switching ∧
      slotValid d f.toNat (1 - k) t = true ∧
      Raised (169 + d) 3 t ∧ Counted CPH.AUTO_REKEY_CNT d s t ∧ Raised (169 + d) 8 t) ∧
  (∀ (d : Fin 2) (f : BitVec 13) (s : State), s.up (218 + d) = true →
    invCount d f.toNat (countedSlot d f.toNat s) s < 2 ^ 35 →
    ∃ t, exec (.invocationWarning d f) s = .next t ∧ t = s) ∧
  (∀ (d : Fin 2) (f : BitVec 13) (s : State), s.up (218 + d) = true → rdx FLOW.HELD d f.toNat s = 0 →
    2 ^ 36 ≤ invCount d f.toNat (countedSlot d f.toNat s) s →
    ∃ t, exec (.flowHold d f) s = .next t ∧ rdx FLOW.HELD d f.toNat t = 1 ∧ Raised (169 + d) 4 t ∧
      Touches (.mem :: signals) [(FLOW.HELD, d, f.toNat)] s t) ∧
  (∀ (d : Fin 2) (f : BitVec 13) (s : State), s.up (218 + d) = true →
    invCount d f.toNat (countedSlot d f.toNat s) s < 2 ^ 36 → ∃ t, exec (.flowHold d f) s = .next t ∧ t = s) ∧
  (∀ (n : Fin 48) (ki : Fin 4) (frame : BitVec 51) (index : BitVec 38) (whole tagOk micOk : Bool) (bytes : List Byte) (u : UpXgem)
    (rest : List UpXgem) (s : State),
    s.up 219 = true → (s.fram n).upstream = u :: rest → u.key = ki.val → u.frame = frame.toNat → u.index = index.toNat →
    u.whole = whole → u.bytes = bytes.length →
    keyIndexFits (portTreat 1 n u.port s).mode ki.val = false →
    ∃ t, exec (.cipherUsSdu n ki frame index whole tagOk micOk bytes) s = .next t ∧ (t.fram n).upstream = rest ∧
      t.upSdus = s.upSdus ∧ Counted CPH.KEY_ERR_CNT 1 s t ∧ Raised 170 5 t) ∧
  (∀ (n : Fin 48) (ki : Fin 4) (frame : BitVec 51) (index : BitVec 38) (whole tagOk micOk : Bool) (bytes : List Byte) (u : UpXgem)
    (rest : List UpXgem) (s : State),
    s.up 219 = true → s.up (207 + treeCluster n / 2) = true → (s.fram n).upstream = u :: rest → u.key = ki.val → u.frame = frame.toNat → u.index = index.toNat →
    u.whole = whole → u.bytes = bytes.length →
    (portTreat 1 n u.port s).mode = 0 → ki = 0 → (s.cph 1).tBad = [] → omciPasses n (portTreat 1 n u.port s) bytes s = true →
    (∀ i, i < 4 → (s.session i).capture = none) →
    ∃ t, exec (.cipherUsSdu n ki frame index whole tagOk micOk bytes) s = .next t ∧ (t.fram n).upstream = rest ∧
      t.upSdus = s.upSdus ++ [{ tree := n, port := u.port, handle := u.handle, len := bytes.length, ct := false }] ∧
      Touches [.framing, .upSdus] [] s t) ∧
  (∀ (n : Fin 48) (ki : Fin 4) (frame : BitVec 51) (index : BitVec 38) (whole tagOk micOk : Bool) (bytes : List Byte) (u : UpXgem)
    (rest : List UpXgem) (v : Nat) (s : State),
    s.up 219 = true → s.up (207 + treeCluster n / 2) = true → (s.fram n).upstream = u :: rest → u.key = ki.val → u.frame = frame.toNat → u.index = index.toNat →
    u.whole = whole → u.bytes = bytes.length →
    (portTreat 1 n u.port s).mode = 1 → ki ≠ 0 → ki ≠ 3 →
    Tbl.get none (s.cph 1).tkey (tkeyNo n (portTreat 1 n u.port s).term (ki.val - 1)) = some v →
    on CPH.STS_COLD_HOLD 1 s = false → (s.cph 1).tBad = [] →
    omciPasses n (portTreat 1 n u.port s) (Config.xgemCipher v frame.toNat index.toNat bytes) s = true →
    (∀ i, i < 4 → (s.session i).capture = none) →
    ∃ t, exec (.cipherUsSdu n ki frame index whole tagOk micOk bytes) s = .next t ∧ (t.fram n).upstream = rest ∧
      t.upSdus = s.upSdus ++ [{
        tree := n, port := u.port, handle := u.handle, len := (Config.xgemCipher v frame.toNat index.toNat bytes).length
        ct := false }] ∧
      Counted CPH.ENC_CNT 1 s t ∧ Touches [.mem, .pmu, .framing, .upSdus] [(CPH.ENC_CNT, 1, 0)] s t) ∧
  (∀ (n : Fin 48) (ki : Fin 4) (frame : BitVec 51) (index : BitVec 38) (whole tagOk micOk : Bool) (bytes : List Byte) (u : UpXgem)
    (rest : List UpXgem) (m f k : Nat) (v : List Byte × Bool) (s : State),
    s.up 219 = true → s.up (207 + treeCluster n / 2) = true → (s.fram n).upstream = u :: rest → u.key = ki.val → u.frame = frame.toNat → u.index = index.toNat →
    u.whole = whole → u.bytes = bytes.length →
    (portTreat 1 n u.port s).mode = m → 2 ≤ m → (portTreat 1 n u.port s).flow = f → ki.val = k + 1 → k < 2 →
    rdx FLOW.VALID 1 f s = 1 → slotValid 1 f k s = true → on CPH.STS_COLD_HOLD 1 s = false → (s.cph 1).fBad = [] →
    16 ≤ bytes.length → bytes.length ≤ 16016 → (s.cph 1).highSfc ≤ frame.toNat → rdx FLOW.HELD 1 f s = 0 →
    invCount 1 f k s < 2 ^ 36 →
    (whole = false ∨ u.handle ≠ 0 ∨ rdx FLOW.CT 1 f s = 0) →
    v = openSdu m ((Tbl.get none (s.cph 1).fkey (f * 2 + k)).getD 0) (ivOf frame.toNat n 1 index.toNat)
      (flowBlock u.port (bytes.length - 16) n ki) [] (bytes.take (bytes.length - 16)) (bytes.drop (bytes.length - 16)) →
    (∀ i, i < 4 → (s.session i).capture = none) →
    ∃ t, exec (.cipherUsSdu n ki frame index whole tagOk micOk bytes) s = .next t ∧ (t.fram n).upstream = rest ∧
      invCount 1 f k t = invCount 1 f k s + 1 ∧ (t.cph 1).highSfc = frame.toNat ∧
      (v.2 = true → rdx FLOW.RESULT 1 f t = 0 ∧ Counted CPH.SEAL_CNT 1 s t ∧
        t.upSdus = s.upSdus ++ [{
          tree := n, port := u.port, handle := u.handle, ct := false
          len := (v.1 ++ (if rdx FLOW.KEEP_TAG 1 f s = 1 then bytes.drop (bytes.length - 16) else [])).length
          iv := ivOf frame.toNat n 1 index.toNat, status := statusWord 0 0 k (bytes.length - 16) }]) ∧
      (v.2 = false → rdx FLOW.RESULT 1 f t = 1 ∧ Counted CPH.TAG_ERR_CNT 1 s t ∧ Raised 170 0 t ∧ t.upSdus = s.upSdus)) ∧
  (∀ (n : Fin 48) (ki : Fin 4) (frame : BitVec 51) (index : BitVec 38) (whole tagOk micOk : Bool) (bytes : List Byte) (u : UpXgem)
    (rest : List UpXgem) (m f k : Nat) (v : List Byte × Bool) (s : State),
    s.up 219 = true → s.up (207 + treeCluster n / 2) = true → (s.fram n).upstream = u :: rest → u.key = ki.val → u.frame = frame.toNat → u.index = index.toNat →
    u.whole = whole → u.bytes = bytes.length →
    (portTreat 1 n u.port s).mode = m → 2 ≤ m → (portTreat 1 n u.port s).flow = f → ki.val = k + 1 → k < 2 →
    rdx FLOW.VALID 1 f s = 1 → slotValid 1 f k s = true → on CPH.STS_COLD_HOLD 1 s = false → (s.cph 1).fBad = [] →
    16 ≤ bytes.length → bytes.length ≤ 16016 → (s.cph 1).highSfc ≤ frame.toNat → rdx FLOW.HELD 1 f s = 0 →
    invCount 1 f k s < 2 ^ 36 →
    whole = true → u.handle = 0 → rdx FLOW.CT 1 f s = 1 →
    v = openSdu m ((Tbl.get none (s.cph 1).fkey (f * 2 + k)).getD 0) (ivOf frame.toNat n 1 index.toNat)
      (flowBlock u.port (bytes.length - 16) n ki) [] (bytes.take (bytes.length - 16)) (bytes.drop (bytes.length - 16)) →
    (∀ i, i < 4 → (s.session i).capture = none) →
    ∃ t, exec (.cipherUsSdu n ki frame index whole tagOk micOk bytes) s = .next t ∧ (t.fram n).upstream = rest ∧
      (t.cph 1).tagChecks = (s.cph 1).tagChecks ++ [{
        flow := f, slot := k, iv := ivOf frame.toNat n 1 index.toNat, len := bytes.length - 16, ok := v.2 }] ∧
      t.upSdus = s.upSdus ++ [{
        tree := n, port := u.port, handle := 0, ct := true
        len := (v.1 ++ (if rdx FLOW.KEEP_TAG 1 f s = 1 then bytes.drop (bytes.length - 16) else [])).length
        iv := ivOf frame.toNat n 1 index.toNat, status := statusWord (if v.2 then 0 else 1) 0 k (bytes.length - 16) }]) ∧
  (∀ (ok : Bool) (c : TagCheck) (rest : List TagCheck) (s : State), s.up 219 = true → (s.cph 1).tagChecks = c :: rest →
    c.slot < 2 → c.ok = true →
    ∃ t, exec (.ctTagCheck ok) s = .next t ∧ t.cph 1 = { s.cph 1 with tagChecks := rest } ∧ Counted CPH.SEAL_CNT 1 s t ∧
      rdWord .flow 1 c.flow 8 t = c.iv % 2 ^ 32 ∧ rdx FLOW.RESULT 1 c.flow t = 0 ∧
      rdx FLOW.CT_W9 1 c.flow t = (if leavesCt c.iv s then 1 else 0) ∧ rdx FLOW.SLOT 1 c.flow t = c.slot ∧
      rdx FLOW.LEN 1 c.flow t = c.len % 2 ^ 14) ∧
  (∀ (ok : Bool) (c : TagCheck) (rest : List TagCheck) (s : State), s.up 219 = true → (s.cph 1).tagChecks = c :: rest →
    c.slot < 2 → c.ok = false → leavesCt c.iv s = true →
    ∃ t, exec (.ctTagCheck ok) s = .next t ∧ t.cph 1 = { s.cph 1 with tagChecks := rest } ∧
      t.queues.ports = s.queues.ports.map (fun e => (e.1, stompTx c.iv e.2)) ∧
      Counted CPH.CT_STOMP_CNT 1 s t ∧ Counted CPH.TAG_ERR_CNT 1 s t ∧ Raised 170 0 t ∧ Raised 170 1 t ∧
      rdx FLOW.RESULT 1 c.flow t = 1 ∧ rdx FLOW.ERR_CNT 1 c.flow t = min (rdx FLOW.ERR_CNT 1 c.flow s + 1) (2 ^ 32 - 1)) ∧
  (∀ (ok : Bool) (c : TagCheck) (rest : List TagCheck) (s : State), s.up 219 = true → (s.cph 1).tagChecks = c :: rest →
    c.slot < 2 → c.ok = false → leavesCt c.iv s = false →
    ∃ t, exec (.ctTagCheck ok) s = .next t ∧ t.cph 1 = { s.cph 1 with tagChecks := rest } ∧
      t.upSdus = s.upSdus.filter (fun u => u.iv != c.iv) ∧ Counted CPH.TAG_ERR_CNT 1 s t ∧ Raised 170 0 t ∧
      rdx FLOW.RESULT 1 c.flow t = 1 ∧ rdx FLOW.ERR_CNT 1 c.flow t = min (rdx FLOW.ERR_CNT 1 c.flow s + 1) (2 ^ 32 - 1)) ∧
  (∀ (d : Fin 2) (w : Word) (s : State), s.up (218 + d) = true → rd CPH.FLOW_IDX_WORD d s = 0 →
    on CPH.FLOW_IDX_AUTO_INC d s = false → rdx FLOW.VALID d (rd CPH.FLOW_IDX_FLOW d s) s = 0 →
    w.toNat / 2 ^ 17 % 2 ^ 6 < 48 →
    ∃ t, exec (.flowWrite d w) s = .next t ∧ rdx FLOW.VALID d (rd CPH.FLOW_IDX_FLOW d s) t = w.toNat / 2 ^ 31 ∧
      rdx FLOW.TREE d (rd CPH.FLOW_IDX_FLOW d s) t = w.toNat / 2 ^ 17 % 2 ^ 6 ∧
      rdx FLOW.PORT_ID d (rd CPH.FLOW_IDX_FLOW d s) t = w.toNat % 2 ^ 16 ∧
      rdx FLOW.HELD d (rd CPH.FLOW_IDX_FLOW d s) t = rdx FLOW.HELD d (rd CPH.FLOW_IDX_FLOW d s) s ∧
      rdx FLOW.ACT_SLOT d (rd CPH.FLOW_IDX_FLOW d s) t = rdx FLOW.ACT_SLOT d (rd CPH.FLOW_IDX_FLOW d s) s ∧
      rdx FLOW.SLOT_V d (rd CPH.FLOW_IDX_FLOW d s) t = rdx FLOW.SLOT_V d (rd CPH.FLOW_IDX_FLOW d s) s) ∧
  (∀ (d : Fin 2) (w : Word) (s : State), s.up (218 + d) = true → rd CPH.FLOW_IDX_WORD d s = 0 →
    on CPH.FLOW_IDX_AUTO_INC d s = false → rdx FLOW.VALID d (rd CPH.FLOW_IDX_FLOW d s) s = 0 →
    48 ≤ w.toNat / 2 ^ 17 % 2 ^ 6 →
    ∃ t, exec (.flowWrite d w) s = .next t ∧ rdx FLOW.VALID d (rd CPH.FLOW_IDX_FLOW d s) t = w.toNat / 2 ^ 31 ∧
      rdx FLOW.TREE d (rd CPH.FLOW_IDX_FLOW d s) t = rdx FLOW.TREE d (rd CPH.FLOW_IDX_FLOW d s) s ∧
      Counted CMD.ENC_CNT 0 s t ∧ Raised 183 3 t) ∧
  (∀ (d : Fin 2) (w : Word) (s : State), s.up (218 + d) = true → rd CPH.FLOW_IDX_WORD d s = 0 →
    on CPH.FLOW_IDX_AUTO_INC d s = false → rdx FLOW.VALID d (rd CPH.FLOW_IDX_FLOW d s) s = 1 → w.msb = true →
    w.toNat / 2 ^ 30 % 2 ≠ rdx FLOW.KIND d (rd CPH.FLOW_IDX_FLOW d s) s →
    ∃ t, exec (.flowWrite d w) s = .next t ∧ Counted CMD.ENC_CNT 0 s t ∧ Raised 183 3 t ∧
      Touches (.mem :: .cmd :: signals) [(CMD.ENC_CNT, 0, 0)] s t) ∧
  (∀ (d : Fin 2) (w : Word) (i : Nat) (s : State), s.up (218 + d) = true → on CPH.PORT_IDX_AUTO_INC d s = false →
    i = portInst d (rd CPH.PORT_IDX_TREE d s) → w.toNat / 2 ^ 28 % 2 = 0 →
    ∃ t, exec (.cipherPortWrite d w) s = .next t ∧ rdx CPHPORT.MODE i (rd CPH.PORT_IDX_PID d s) t = w.toNat / 2 ^ 29 % 2 ^ 2 ∧
      rdx CPHPORT.VALID i (rd CPH.PORT_IDX_PID d s) t = w.toNat / 2 ^ 31 ∧
      rdx CPHPORT.TERM i (rd CPH.PORT_IDX_PID d s) t = w.toNat / 2 ^ 14 % 2 ^ 9 ∧
      rdx CPHPORT.FLOW i (rd CPH.PORT_IDX_PID d s) t = w.toNat % 2 ^ 13 ∧
      Touches [.mem] [(⟨.cphPort, 0, 31, 0⟩, i, rd CPH.PORT_IDX_PID d s)] s t) ∧
  (∀ (n : Fin 48) (port : BitVec 16) (len : BitVec 14) (ofs : BitVec 20) (bytes : List Byte) (x : Sdu) (rest : List Sdu) (s : State),
    s.up 218 = false → (s.fram n).sealing = x :: rest → x.port = port.toNat → x.len = len.toNat → x.ofs = ofs.toNat →
    sduUnread n x s = false →
    ∃ t, exec (.cipherDsSdu n port len ofs bytes) s = .next t ∧ (t.fram n).sealing = rest ∧
      (t.fram n).carried = (if x.cut then none else (s.fram n).carried) ∧
      Tbl.get 0 t.wrapped 218 = Tbl.get 0 s.wrapped 218 + 1 ∧ Touches [.framing, .wrapped] [] s t)

/-- R261 to R268, R277, R283, R287: network ports. A legal configuration is written and starts an attempt, one that no row names or
an enabled port's change is refused with cause 19; training begins after auto-negotiation; an attempt ends in a link, 1 ms to 500 ms from its start and with no lane in a test, or fails with
a backoff that doubles; a link lost raises cause 9 and tries again; verification is answered, repeated twice or failed; a window
of many symbols degrades the port; a frame is counted and reaches the pipelines, or is counted by its error alone. -/
def Obligations.NetworkPorts : Prop :=
  (∀ (n : Fin 32) (w : Word) (s : State), s.up (netIsland n) = true → otherLane n s = false → on NET.PORT_CFG_EN n s = false →
    w.msb = true → cfgAllowed n w.toNat s = true → 64 ≤ w.toNat % 2 ^ 14 →
    w.toNat % 2 ^ 14 ≤ 9600 →
    ∃ t, exec (.portCfgWrite n w) s = .next t ∧ on NET.PORT_CFG_EN n t = true ∧
      rd NET.PORT_CFG_SPEED n t = w.toNat / 2 ^ 28 % 2 ^ 3 ∧ rd NET.PORT_CFG_MAX_FRAME n t = w.toNat % 2 ^ 14 ∧
      rd NET.STS_LT_STATE n t = (if 2 ≤ rd NET.PORT_CFG_MODE n t ∧ on NET.PORT_CFG_AN_EN n t = true then 1 else 2) ∧
      rd NET.STS_CFG_ERR n t = 0 ∧ (rd NET.STS_LT_STATE n t = 2 → (t.netPort n).attempt = s.clk)) ∧
  (∀ (n : Fin 32) (w : Word) (s : State), s.up (netIsland n) = true → otherLane n s = false → on NET.PORT_CFG_EN n s = false →
    w.msb = true → cfgAllowed n w.toNat s = false →
    ∃ t, exec (.portCfgWrite n w) s = .next t ∧ rd NET.STS_CFG_ERR n t = 1 ∧ Raised (96 + n) 19 t ∧ t.cmd.verdict = 6 ∧
      Touches (.mem :: .cmd :: signals) [(NET.STS_CFG_ERR, n, 0)] s t) ∧
  (∀ (n : Fin 32) (w : Word) (s : State), s.up (netIsland n) = true → otherLane n s = false → on NET.PORT_CFG_EN n s = true →
    w.toNat % 2 ^ 31 ≠ rdWord .net n 0 0 s % 2 ^ 31 →
    ∃ t, exec (.portCfgWrite n w) s = .next t ∧ rd NET.STS_CFG_ERR n t = 1 ∧ Raised (96 + n) 19 t ∧ t.cmd.verdict = 6 ∧
      Touches (.mem :: .cmd :: signals) [(NET.STS_CFG_ERR, n, 0)] s t) ∧
  (∀ (n : Fin 32) (s : State), s.up (netIsland n) = true → rd NET.STS_LT_STATE n s = 1 →
    ∃ t, exec (.anComplete n) s = .next t ∧ rd NET.STS_LT_STATE n t = 2 ∧ (t.netPort n).attempt = s.clk ∧
      Touches [.mem, .ports] [(NET.STS_LT_STATE, n, 0)] s t) ∧
  (∀ (n : Fin 32) (s : State), s.up (netIsland n) = true → rd NET.STS_LT_STATE n s ≠ 1 →
    ∃ t, exec (.anComplete n) s = .next t ∧ t = s) ∧
  (∀ (n : Fin 32) (s : State), s.up (netIsland n) = true → rd NET.STS_LT_STATE n s = 2 →
    s.clk ≤ (s.netPort n).attempt + 500000000 → laneAway n s = false →
    ∃ t, exec (.linkUp n) s = .next t ∧ t.clk = max s.clk ((s.netPort n).attempt + 1000000) ∧ on NET.STS_LINK n t = true ∧ rd NET.STS_LT_STATE n t = 3 ∧ rd NET.STS_LT_FAILS n t = 0 ∧
      (t.netPort n).fails = 0 ∧ rd NET.LANE_STS_TRAINED n t = 1 ∧
      rd NET.STS_VERIFY n t = (if on NET.PORT_CFG_PREEMPT_EN n s then 1 else rd NET.STS_VERIFY n s) ∧ Raised (96 + n) 8 t) ∧
  (∀ (n : Fin 32) (m : Nat) (s : State), s.up (netIsland n) = true → rd NET.STS_LT_STATE n s = 2 → m = (s.netPort n).fails + 1 →
    ∃ t, exec (.ltTimeout n) s = .next t ∧ t.clk = max s.clk ((s.netPort n).attempt + 500000000) ∧
      rd NET.STS_LT_STATE n t = 4 ∧ rd NET.STS_LT_FAILS n t = min m 31 ∧
      (t.netPort n).backoff = t.clk + rd NET.LT_CFG_BO_BASE n s * 2 ^ min (m - 1) (rd NET.LT_CFG_BO_MAXEXP n s) * 1000000 ∧
      Counted NET.LT_FAIL_CNT n s t ∧ Raised (96 + n) 10 t) ∧
  (∀ (n : Fin 32) (s : State), s.up (netIsland n) = true → rd NET.STS_LT_STATE n s = 2 →
    ∃ t, exec (.ltSignalLoss n) s = .next t ∧ rd NET.STS_LT_STATE n t = 4 ∧ (t.netPort n).fails = (s.netPort n).fails + 1 ∧
      Counted NET.LT_FAIL_CNT n s t ∧ Raised (96 + n) 11 t ∧ t.clk = s.clk) ∧
  (∀ (n : Fin 32) (s : State), s.up (netIsland n) = true → rd NET.STS_LT_STATE n s = 4 →
    ∃ t, exec (.backoffEnd n) s = .next t ∧ t.clk = max s.clk (s.netPort n).backoff ∧
      rd NET.STS_LT_STATE n t = (if 2 ≤ rd NET.PORT_CFG_MODE n s ∧ on NET.PORT_CFG_AN_EN n s = true then 1 else 2) ∧
      (rd NET.STS_LT_STATE n t = 2 → (t.netPort n).attempt = t.clk) ∧ rd NET.LANE_STS_TRAINED n t = 0) ∧
  (∀ (n : Fin 32) (lf : Bool) (s : State), s.up (netIsland n) = true → on NET.STS_LINK n s = true →
    ∃ t, exec (.linkDown n lf) s = .next t ∧ on NET.STS_LINK n t = false ∧ on NET.STS_PREEMPT_ACT n t = false ∧
      rd NET.STS_VERIFY n t = 0 ∧ rd NET.STS_LOCAL_FAULT n t = (if lf then 1 else 0) ∧
      rd NET.STS_LT_STATE n t = (if 2 ≤ rd NET.PORT_CFG_MODE n s ∧ on NET.PORT_CFG_AN_EN n s = true then 1 else 2) ∧
      Counted NET.LINK_DOWN_CNT n s t ∧ Raised (96 + n) 9 t ∧ (lf = true → Raised (96 + n) 12 t)) ∧
  (∀ (n : Fin 32) (s : State), s.up (netIsland n) = true → on NET.STS_LINK n s = true →
    ∃ t, exec (.remoteFault n) s = .next t ∧ rd NET.STS_REMOTE_FAULT n t = 1 ∧ on NET.STS_LINK n t = true ∧
      Raised (96 + n) 13 t ∧ Touches (.mem :: signals) [(NET.STS_REMOTE_FAULT, n, 0)] s t) ∧
  (∀ (n : Fin 32) (corr uncorr : BitVec 21) (sym : BitVec 24) (s : State), s.up (netIsland n) = true →
    on NET.PORT_CFG_EN n s = true → on NET.STS_FEC_DEG n s = false → (s.netPort n).degSet ≤ sym.toNat →
    ∃ t, exec (.fecWindow n corr uncorr sym) s = .next t ∧ rd NET.STS_FEC_DEG n t = 1 ∧
      rd NET.FEC_CORR_CNT n t = min (rd NET.FEC_CORR_CNT n s + corr.toNat) NET.FEC_CORR_CNT.max ∧
      rd NET.FEC_UNCORR_CNT n t = min (rd NET.FEC_UNCORR_CNT n s + uncorr.toNat) NET.FEC_UNCORR_CNT.max ∧
      rd NET.FEC_SYM_CNT n t = min (rd NET.FEC_SYM_CNT n s + sym.toNat) NET.FEC_SYM_CNT.max ∧ Raised (96 + n) 14 t ∧
      (t.netPort n).degSet = rd NET.FEC_CFG_DEG_SET n s ∧ (t.netPort n).degClr = rd NET.FEC_CFG_DEG_CLR n s ∧
      (t.netPort n).sigEn = on NET.FEC_CFG_SIG_EN n s ∧
      Touches (.mem :: .ports :: signals) [(NET.FEC_CORR_CNT, n, 0), (NET.FEC_UNCORR_CNT, n, 0), (NET.FEC_SYM_CNT, n, 0),
        (NET.STS_FEC_DEG, n, 0)] s t) ∧
  (∀ (n : Fin 32) (corr uncorr : BitVec 21) (sym : BitVec 24) (s : State), s.up (netIsland n) = true →
    on NET.PORT_CFG_EN n s = true → on NET.STS_FEC_DEG n s = true → sym.toNat < (s.netPort n).degClr →
    ∃ t, exec (.fecWindow n corr uncorr sym) s = .next t ∧ rd NET.STS_FEC_DEG n t = 0 ∧ Raised (96 + n) 15 t) ∧
  (∀ (n : Fin 32) (s : State), s.up (netIsland n) = true → rd NET.STS_VERIFY n s = 1 →
    ∃ t, exec (.verifyResponse n) s = .next t ∧ rd NET.STS_VERIFY n t = 2 ∧ on NET.STS_PREEMPT_ACT n t = true ∧
      Raised (96 + n) 16 t ∧ Touches (.mem :: signals) [(NET.STS_VERIFY, n, 0), (NET.STS_PREEMPT_ACT, n, 0)] s t) ∧
  (∀ (n : Fin 32) (s : State), s.up (netIsland n) = true → rd NET.STS_VERIFY n s = 1 → (s.netPort n).verifies < 3 →
    ∃ t, exec (.verifyTimeout n) s = .next t ∧
      t.clk = max s.clk ((s.netPort n).verifyAt + rd NET.PORT_CFG_VERIFY_MS n s * 1000000) ∧
      (t.netPort n).verifies = (s.netPort n).verifies + 1 ∧ (t.netPort n).verifyAt = t.clk ∧ rd NET.STS_VERIFY n t = 1) ∧
  (∀ (n : Fin 32) (s : State), s.up (netIsland n) = true → rd NET.STS_VERIFY n s = 1 → 3 ≤ (s.netPort n).verifies →
    ∃ t, exec (.verifyTimeout n) s = .next t ∧ rd NET.STS_VERIFY n t = 3 ∧ Counted NET.VERIFY_FAIL_CNT n s t ∧
      Raised (96 + n) 17 t) ∧
  (∀ (n : Fin 32) (sig cdr : Bool) (s : State), s.up (netIsland n) = true →
    ∃ t, exec (.netLaneSignalChange n sig cdr) s = .next t ∧ rd NET.LANE_STS_SIG n t = (if sig then 1 else 0) ∧
      rd NET.LANE_STS_CDR_LOCK n t = (if cdr then 1 else 0) ∧
      (on NET.LANE_STS_SIG n s = true → sig = false → Raised (96 + n) 0 t) ∧
      (on NET.LANE_STS_SIG n s = false → sig = true → Raised (96 + n) 1 t) ∧
      (on NET.LANE_STS_CDR_LOCK n s = true → cdr = false → Raised (96 + n) 2 t) ∧
      Touches (.mem :: signals) [(NET.LANE_STS_SIG, n, 0), (NET.LANE_STS_CDR_LOCK, n, 0)] s t) ∧
  (∀ (n : Fin 32) (pt : Nat) (b : List Byte) (ok : Bool) (s : State), s.up (netIsland n) = true → on NET.STS_LINK n s = true →
    b.length < 60 →
    ∃ t, exec (.netFrameRx n pt b ok) s = .next t ∧ Counted NET.RX_OVERSIZE_CNT n s t ∧
      Touches [.mem, .pmu] [(NET.RX_OVERSIZE_CNT, n, 0)] s t) ∧
  (∀ (n : Fin 32) (pt : Nat) (b : List Byte) (s : State), s.up (netIsland n) = true → on NET.STS_LINK n s = true →
    60 ≤ b.length → b.length + 4 ≤ rd NET.PORT_CFG_MAX_FRAME n s →
    ∃ t, exec (.netFrameRx n pt b false) s = .next t ∧ Counted NET.RX_FCS_ERR_CNT n s t ∧
      Touches [.mem, .pmu] [(NET.RX_FCS_ERR_CNT, n, 0)] s t) ∧
  (∀ (n : Fin 32) (pt : Nat) (b : List Byte) (s : State), s.up (netIsland n) = true → on NET.STS_LINK n s = true →
    60 ≤ b.length → b.length + 4 ≤ rd NET.PORT_CFG_MAX_FRAME n s → (∀ k, k < 4 → s.up (207 + k) = true) →
    (∀ i, i < 4 → (s.session i).capture = none) →
    ∃ t, exec (.netFrameRx n pt b true) s = .next t ∧ Counted NET.RX_FRAME_CNT n s t ∧
      t.merge.frames = s.merge.frames ++ [{
        no := s.merge.next, port := n, hdr := parseFrame pt b, bytes := b, res := []
        stamp := if on NET.PTP_CFG_TS_EN n s then portStamp (signed 16 (rd NET.LAT_CFG_RX_TRIM n s)) s else 0 }] ∧
      t.merge.next = s.merge.next + 1 ∧
      ((parseFrame pt b).l3 = .ptp → Counted NET.PTP_RX_CNT n s t) ∧
      Touches [.mem, .pmu, .merge] [(NET.RX_FRAME_CNT, n, 0), (NET.PTP_RX_CNT, n, 0)] s t) ∧
  (∀ (n : Fin 32) (s : State), s.up (netIsland n) = true →
    (s.netPort n).attempt + 500000000 < s.clk ∨ laneAway n s = true →
    ∃ t, exec (.linkUp n) s = .next t ∧ t = s)

/-- R269, R270, R273, R279, R281, R282, R285, R286: time. An error within the step limit is slewed, a larger one is one step with
cause 10; 16 updates within 2 ns lock, 4 beyond 20 ns unlock; a device whose last source goes holds over; the host's commands
need privilege and the host source or FREERUN; an armed time is set at the next second; a realignment cuts at the first
multiple of 125 µs from 250 µs after it is decided on, and afterwards the frame timebase is PTP time. -/
def Obligations.TimeKeeping : Prop :=
  (∀ (m err : Int) (src : Nat) (s : State), s.up 222 = true → rd TIM.CTL_SRC_PRI 0 s = src → rd TIM.STS_SRC_USED 0 s = src →
    (src = 1 ∨ src = 2) → sourceOk src s = true → (rd TIM.STS_STATE 0 s = 1 ∨ rd TIM.STS_STATE 0 s = 2) →
    refError src m s = some err → err.natAbs ≤ 32 → 2 ≤ rd TIM.SLEW_CFG_STEP_LIM 0 s →
    ∃ t, exec (.referenceUpdate m) s = .next t ∧ t.tim.slew = -(err * 4096) ∧ t.tim.lockRun = s.tim.lockRun + 1 ∧
      t.tim.unlockRun = 0 ∧ rd TIM.PH_ERR 0 t = unsigned 32 err ∧
      Touches [.mem, .tim] [(TIM.PH_ERR, 0, 0), (TIM.STS_SRC_USED, 0, 0)] s t) ∧
  (∀ (m err : Int) (src : Nat) (s : State), s.up 222 = true → rd TIM.CTL_SRC_PRI 0 s = src → rd TIM.STS_SRC_USED 0 s = src →
    (src = 1 ∨ src = 2) → sourceOk src s = true → (rd TIM.STS_STATE 0 s = 1 ∨ rd TIM.STS_STATE 0 s = 2) →
    refError src m s = some err →
    rd TIM.SLEW_CFG_STEP_LIM 0 s < absNs (err * 4096) → 320 < err.natAbs → err * 4096 ≤ (s.ptp : Int) * 65536 →
    ∃ t, exec (.referenceUpdate m) s = .next t ∧
      (t.ptp : Int) * 65536 + t.ptpFrac = (s.ptp : Int) * 65536 + s.ptpFrac - err * 4096 ∧
      t.tim.frErr = s.tim.frErr + err * 4096 ∧ t.tim.slew = 0 ∧ t.tim.lockRun = 0 ∧
      t.tim.unlockRun = s.tim.unlockRun + 1 ∧ Counted TIM.STEP_CNT 0 s t ∧ Raised 180 10 t) ∧
  (∀ (s : State), s.up 222 = true → rd TIM.STS_STATE 0 s = 1 → 16 ≤ s.tim.lockRun →
    ∃ t, exec .timLocked s = .next t ∧ rd TIM.STS_STATE 0 t = 2 ∧ t.tim.wasLocked = true ∧ Raised 180 0 t ∧ Raised 180 1 t) ∧
  (∀ (s : State), s.up 222 = true → s.tim.lockRun < 16 → ∃ t, exec .timLocked s = .next t ∧ t = s) ∧
  (∀ (s : State), s.up 222 = true → rd TIM.STS_STATE 0 s = 2 → 4 ≤ s.tim.unlockRun →
    ∃ t, exec .timUnlock s = .next t ∧ rd TIM.STS_STATE 0 t = 1 ∧ t.tim = { s.tim with lockRun := 0, state := 1 } ∧ Raised 180 0 t ∧
      Raised 180 2 t ∧ Touches (.mem :: .tim :: signals) [(TIM.STS_STATE, 0, 0)] s t) ∧
  (∀ (src : Fin 4) (err : Int) (s : State), s.up 222 = true → rd TIM.CTL_SRC_PRI 0 s = src → rd TIM.CTL_SRC_FB 0 s = 0 →
    (src = 1 ∨ src = 2) → rd TIM.STS_SRC_USED 0 s = src → rd TIM.STS_STATE 0 s = 2 → s.tim.wasLocked = true →
    ∃ t, exec (.sourceLoss src err) s = .next t ∧ rd TIM.STS_STATE 0 t = 3 ∧ rd TIM.STS_SRC_USED 0 t = 0 ∧
      (src = 1 → rd TIM.STS_PPS_OK 0 t = 0 ∧ rd TIM.STS_TOD_OK 0 t = 0) ∧ (src = 2 → rd TIM.STS_PTP_OK 0 t = 0) ∧ Counted TIM.HOLDOVER_CNT 0 s t ∧ Raised 180 2 t ∧
      Raised 180 3 t ∧ t.ptp = s.ptp) ∧
  (∀ (src fb : Fin 4) (err : Int) (s : State), s.up 222 = true → rd TIM.CTL_SRC_PRI 0 s = src → rd TIM.CTL_SRC_FB 0 s = fb →
    (src = 1 ∧ fb = 2 ∨ src = 2 ∧ fb = 1) → rd TIM.STS_SRC_USED 0 s = src → rd TIM.STS_STATE 0 s = 2 → sourceOk fb s = true →
    absNs ((err - if fb = 2 then asymmetry s else 0) * 4096) ≤ rd TIM.SLEW_CFG_STEP_LIM 0 s →
    ∃ t, exec (.sourceLoss src err) s = .next t ∧ rd TIM.STS_STATE 0 t = 2 ∧ rd TIM.STS_SRC_USED 0 t = fb ∧
      t.tim.slew = -((err - if fb = 2 then asymmetry s else 0) * 4096) ∧ t.ptp = s.ptp) ∧
  (∀ (err : Int) (since p : Nat) (s : State), s.up 222 = true → s.tim.priSince = some since → rd TIM.CTL_SRC_PRI 0 s = p →
    (p = 1 ∨ p = 2) → rd TIM.STS_SRC_USED 0 s ≠ p → sourceOk p s = true →
    absNs ((err - if p = 2 then asymmetry s else 0) * 4096) ≤ rd TIM.SLEW_CFG_STEP_LIM 0 s →
    ∃ t, exec (.sourceReturn err) s = .next t ∧ t.clk = max s.clk (since + 16000000000) ∧ rd TIM.STS_SRC_USED 0 t = p ∧
      t.tim.slew = -((err - if p = 2 then asymmetry s else 0) * 4096) ∧ t.tim.priSince = none) ∧
  (∀ (s : State), s.up 222 = true → privileged s = true → s.tim.setTime = none →
    (rd TIM.STS_SRC_USED 0 s = 3 ∨ rd TIM.STS_STATE 0 s = 0) →
    absNs (signed 32 (rd TIM.ADJ_OFS 0 s) * 65536) ≤ rd TIM.SLEW_CFG_STEP_LIM 0 s →
    ∃ t, exec .adjOffset s = .next t ∧ t.tim.slew = signed 32 (rd TIM.ADJ_OFS 0 s) * 65536 ∧ rd TIM.ADJ_CMD_ERR 0 t = 0 ∧
      rd TIM.ADJ_CMD_GO 0 t = 0 ∧ rd TIM.ADJ_CMD_OP 0 t = 0 ∧ t.ptp = s.ptp) ∧
  (∀ (s : State), s.up 222 = true → privileged s = true → s.tim.setTime = none → rd TIM.STS_SRC_USED 0 s ≠ 3 →
    rd TIM.STS_STATE 0 s ≠ 0 →
    ∃ t, exec .adjOffset s = .next t ∧ rd TIM.ADJ_CMD_ERR 0 t = 1 ∧ rd TIM.ADJ_CMD_GO 0 t = 0 ∧ Raised 180 17 t ∧
      t.tim = s.tim ∧ t.ptp = s.ptp ∧ t.cmd.verdict = 6) ∧
  (∀ (s : State), s.up 222 = true → privileged s = false →
    ∃ t, exec .adjOffset s = .next t ∧ Counted CMD.GUARD_CNT 0 s t ∧ Raised 183 4 t ∧ t.cmd.verdict = 4 ∧
      Touches (.mem :: .cmd :: signals) [(CMD.GUARD_CNT, 0, 0)] s t) ∧
  (∀ (s : State), s.up 222 = true → privileged s = true → s.tim.setTime = none →
    (rd TIM.STS_SRC_USED 0 s = 3 ∨ rd TIM.STS_STATE 0 s = 0) →
    ∃ t, exec .adjSetTime s = .next t ∧
      t.tim = { s.tim with setTime := some (rd TIM.SET_SEC_HI_SEC_HI 0 s * 2 ^ 32 + rd TIM.SET_SEC 0 s) } ∧
      rd TIM.ADJ_CMD_GO 0 t = 1 ∧ rd TIM.ADJ_CMD_OP 0 t = 1 ∧
      Touches [.mem, .tim] [(TIM.ADJ_CMD_OP, 0, 0), (TIM.ADJ_CMD_ERR, 0, 0), (TIM.ADJ_CMD_GO, 0, 0)] s t) ∧
  (∀ (s : State), s.up 222 = true → privileged s = true → s.tim.setTime = none →
    ∃ t, exec .adjRealign s = .next t ∧
      t.tim = { s.tim with realignAt := some (s.clk + 250000) } ∧
      Counted TIM.REALIGN_CNT 0 s t ∧ Raised 180 11 t) ∧
  (∀ (s : State), s.up 222 = true → privileged s = true → s.tim.setTime ≠ none → s.tim.adjHeld = none →
    ∃ t, exec .adjRealign s = .next t ∧ t.tim = { s.tim with adjHeld := some 2 } ∧ rd TIM.ADJ_CMD_OP 0 t = 2 ∧
      Touches [.mem, .tim] [(TIM.ADJ_CMD_OP, 0, 0)] s t) ∧
  (∀ (sec : Nat) (s : State), s.up 222 = true → s.tim.setTime = some sec → s.tim.adjHeld = none →
    ∃ t, exec .setTimeApply s = .next t ∧ t.clk = (passToPtp (nextSecond s) s).clk ∧ t.tim.setTime = none ∧
      rd TIM.ADJ_CMD_GO 0 t = 0 ∧ (t.ptp : Int) * 65536 + t.ptpFrac + t.tim.slew = (sec : Int) * 65536000000000) ∧
  (∀ (w : Word) (s : State), s.up 222 = true → rd TIM.STS_SRC_USED 0 s = 3 →
    ∃ t, exec (.adjFreqWrite w) s = .next t ∧ rd TIM.ADJ_FREQ 0 t = w.toNat ∧ Touches [.mem] [(TIM.ADJ_FREQ, 0, 0)] s t) ∧
  (∀ (w : Word) (s : State), s.up 222 = true → rd TIM.STS_SRC_USED 0 s ≠ 3 →
    ∃ t, exec (.adjFreqWrite w) s = .next t ∧ Raised 183 6 t ∧ t.cmd.verdict = 6 ∧ Touches (.cmd :: signals) [] s t) ∧
  (∀ (d b : Nat) (s : State), s.up 222 = true → s.tim.realignAt = some d →
    b = ((passTo d s).ptp + (if (passTo d s).ptpFrac = 0 then 0 else 1) + 124999) / 125000 * 125000 →
    ∃ t, exec .realignCut s = .next t ∧ t.tim.realignAt = none ∧ t.tim.frErr = 0 ∧ on TIM.STS_FR_ALIGNED 0 t = true ∧
      (∀ n, n < 48 → (t.fram n).frame = b / 125000 - 1) ∧ t.clk = (passToPtp b (passTo d s)).clk) ∧
  (∀ (s : State), s.up 222 = true → on TIM.STS_FR_ALIGNED 0 s = false → s.tim.realignAt = none → s.tim.frErr = 0 →
    ∃ t, exec .frameTimebaseAligned s = .next t ∧ on TIM.STS_FR_ALIGNED 0 t = true ∧ Raised 180 13 t ∧ t.ptp = s.ptp) ∧
  (∀ (s : State), s.up 222 = true → on TIM.STS_FR_ALIGNED 0 s = true →
    ∃ t, exec .frameTimebaseAligned s = .next t ∧ t = s) ∧
  (∀ (s : State), s.up 224 = true → s.up 222 = true →
    ∃ t, exec .sentinelTimeCopy s = .next t ∧ t = { s with tim := { s.tim with copy := some (s.ptp, s.clk) } }) ∧
  (∀ (s : State), s.up 224 = true → s.up 222 = false → ∃ t, exec .sentinelTimeCopy s = .next t ∧ t = s)

/-- R270 to R272, R275, R276, R278, R283: PPS, time of day and PTP. A bad edge or message is counted with its cause and breaks the
run, an edge of the other polarity is none; three good pairs qualify the input; 2.5 s without an edge lose it; the output pin rises at the next whole second and falls
after its width; an Announce of the parent gives the UTC offset, a message for nobody is counted; the FIFO reads an entry's
four words in turn and drops it with the last. -/
def Obligations.TimingInputs : Prop :=
  (∀ (e : PpsSeen) (s : State), s.up 222 = true → s.tim.steppedAt ≠ some s.clk → e.rising = !on TIM.CTL_PPS_POL 0 s →
    e.held = false →
    ∃ t, exec (.ppsEdge e) s = .next t ∧ t.tim = { s.tim with ppsRun := 0 } ∧ Counted TIM.PPS_REJ_CNT 0 s t ∧ Raised 180 4 t) ∧
  (∀ (e : Nat) (x : PpsSeen) (s : State), s.up 222 = true → s.tim.steppedAt ≠ some s.clk → s.tim.lastEdge = some e →
    x.rising = (!on TIM.CTL_PPS_POL 0 s) → (e + 1000100000 < s.clk ∨ s.clk + 100000 < e + 1000000000) →
    ∃ t, exec (.ppsEdge x) s = .next t ∧ t.tim = { s.tim with ppsRun := 0 } ∧ Counted TIM.PPS_REJ_CNT 0 s t ∧ Raised 180 4 t) ∧
  (∀ (e : Nat) (x : PpsSeen) (s : State), s.up 222 = true → s.tim.steppedAt ≠ some s.clk → s.tim.lastEdge = some e →
    s.tim.awaitMsg = false → x.rising = (!on TIM.CTL_PPS_POL 0 s) → x.held = true →
    s.clk ≤ e + 1000100000 → e + 1000000000 ≤ s.clk + 100000 →
    ∃ t, exec (.ppsEdge x) s = .next t ∧ t = { s with tim := { s.tim with
      lastEdge := some s.clk, edgePtp := (s.ptp : Int) * 65536 + s.ptpFrac, awaitMsg := true } }) ∧
  (∀ (e : Nat) (s : State), s.up 222 = true → s.tim.lastEdge = some e →
    ∃ t, exec .ppsLost s = .next t ∧ t.clk = max s.clk (e + 2500000000) ∧ t.tim.lastEdge = none ∧ t.tim.ppsRun = 0 ∧
      rd TIM.STS_PPS_OK 0 t = 0 ∧ Raised 180 5 t) ∧
  (∀ (s : State), s.up 222 = true → s.tim.lastEdge = none → ∃ t, exec .ppsLost s = .next t ∧ t = s) ∧
  (∀ (b : List Byte) (s : State), s.up 222 = true → todAccepted (b.map (·.toNat)) s = false →
    ∃ t, exec (.todMessage b) s = .next t ∧ t.tim = { s.tim with ppsRun := 0 } ∧ Counted TIM.TOD_ERR_CNT 0 s t ∧ Raised 180 6 t) ∧
  (∀ (b : List Byte) (s : State), s.up 222 = true → todAccepted (b.map (·.toNat)) s = true → s.tim.awaitMsg = true →
    s.tim.todSec = some (bigNat (((b.map (·.toNat)).drop 4).take 6) - 1) → 1 ≤ bigNat (((b.map (·.toNat)).drop 4).take 6) →
    ∃ t, exec (.todMessage b) s = .next t ∧ t.tim = { s.tim with
        todSec := some (bigNat (((b.map (·.toNat)).drop 4).take 6)), todRun := s.tim.todRun + 1, awaitMsg := false,
        ppsErr := if 3 ≤ s.tim.todRun + 1 then
          some ((s.tim.edgePtp - (bigNat (((b.map (·.toNat)).drop 4).take 6) : Nat) * 65536000000000) / 4096) else s.tim.ppsErr
        ppsRun := s.tim.ppsRun + 1 } ∧
      rd TIM.STS_UTC_OFS 0 t = bigNat (((b.map (·.toNat)).drop 10).take 2) ∧
      Touches [.mem, .tim] [(TIM.STS_UTC_OFS, 0, 0)] s t) ∧
  (∀ (s : State), s.up 222 = true → 3 ≤ s.tim.ppsRun → 3 ≤ s.tim.todRun →
    ∃ t, exec .ppsQualified s = .next t ∧ rd TIM.STS_PPS_OK 0 t = 1 ∧ rd TIM.STS_TOD_OK 0 t = 1) ∧
  (∀ (s : State), s.up 222 = true → s.tim.ppsRun < 3 → ∃ t, exec .ppsQualified s = .next t ∧ t = s) ∧
  (∀ (s : State), s.up 222 = true → rd TIM.CTL_PPSO_MODE 0 s = 1 →
    ∃ t, exec .ppsOutPulse s = .next t ∧ t.clk = (passToPtp (nextSecond s) s).clk ∧
      t.tim.ppsOut = some (t.clk + rd TIM.CTL_PPSO_W 0 s * 1000000)) ∧
  (∀ (s : State), s.up 222 = true → rd TIM.CTL_PPSO_MODE 0 s = 2 →
    ∃ t, exec .ppsOutPulse s = .next t ∧ t.clk = (passToFrame (frameT0 (frameBase s / 125000 + 1)) s).clk ∧
      t.tim.ppsOut = some (t.clk + 1000)) ∧
  (∀ (s : State), s.up 222 = true → rd TIM.CTL_PPSO_MODE 0 s = 0 → ∃ t, exec .ppsOutPulse s = .next t ∧ t = s) ∧
  (∀ (e : Nat) (s : State), s.up 222 = true → s.tim.ppsOut = some e →
    ∃ t, exec .ppsOutFall s = .next t ∧ t.clk = max s.clk e ∧ t.tim.ppsOut = none) ∧
  (∀ (n : Fin 32) (m : PtpRx) (s : State), s.up 222 = true → on NET.PTP_CFG_RX_EN n s = true → ptpUses n s = true →
    rd NET.PTP_CFG_DOMAIN n s = m.domain.toNat → m.type = 11 → Tbl.get 0 s.tim.parent n = m.source.toNat →
    Tbl.get 0 s.tim.ptpSeen n = 0 →
    ∃ t, exec (.ptpMessageRx n m) s = .next t ∧ rd TIM.STS_UTC_OFS 0 t = m.utc.toNat ∧ Tbl.get 0 t.tim.ptpSeen n = 1 ∧
      t.tim.parent = s.tim.parent ∧ Touches [.mem, .tim] [(TIM.STS_UTC_OFS, 0, 0)] s t) ∧
  (∀ (n : Fin 32) (m : PtpRx) (s : State), s.up 222 = true → on NET.PTP_CFG_RX_EN n s = true → ptpUses n s = true →
    rd NET.PTP_CFG_DOMAIN n s = m.domain.toNat → m.type = 9 → Tbl.get 0 s.tim.parent n = m.source.toNat →
    ∃ t, exec (.ptpMessageRx n m) s = .next t ∧ rd TIM.PTPR_MPD 0 t = m.mpd.toNat ∧
      Touches [.mem, .tim] [(TIM.PTPR_MPD, 0, 0)] s t) ∧
  (∀ (n : Fin 32) (m : PtpRx) (s : State), s.up 222 = true → on NET.PTP_CFG_RX_EN n s = false →
    openSession SESS.CTL_PLU_EN s = none →
    ∃ t, exec (.ptpMessageRx n m) s = .next t ∧ Counted TIM.PTP_DROP_CNT 0 s t ∧ Raised 180 16 t ∧
      t.tim = { s.tim with inbox := s.tim.inbox.eraseP fun f => f.1 == n.val } ∧
      Touches (.mem :: .tim :: signals) [(TIM.PTP_DROP_CNT, 0, 0)] s t) ∧
  (∀ (n : Fin 32) (s : State), s.up 222 = true → s.tim.ptpPorts = [n.val] → rd TIM.PTPR_CFG_PORT_PRI 0 s = n →
    ∃ t, exec (.ptpQualLoss n) s = .next t ∧ t.clk = max s.clk (ptpDeadline n s) ∧ t.tim.ptpPorts = [] ∧ t.tim.ptpPort = none ∧ rd TIM.STS_PTP_OK 0 t = 0 ∧
      Raised 180 15 t) ∧
  (∀ (n : Fin 32) (s : State), s.up 222 = true → s.tim.ptpPorts.contains n.val = false →
    ∃ t, exec (.ptpQualLoss n) s = .next t ∧ t = s) ∧
  (∀ (p : Fin 32) (e : List Nat) (rest : List (List Nat)) (s : State), s.up (128 + p) = true →
    (Tbl.get {} s.txts p).entries = e :: rest → (Tbl.get {} s.txts p).word = 3 →
    ∃ t, exec (.txtsRead p) s = .next t ∧ t.cmd.readData = e.getD 3 0 ∧ (Tbl.get {} t.txts p).entries = rest ∧
      (Tbl.get {} t.txts p).word = 0 ∧ Touches [.cmd, .txts] [] s t) ∧
  (∀ (p : Fin 32) (e : List Nat) (rest : List (List Nat)) (s : State), s.up (128 + p) = true →
    (Tbl.get {} s.txts p).entries = e :: rest → (Tbl.get {} s.txts p).word < 3 →
    ∃ t, exec (.txtsRead p) s = .next t ∧ t.cmd.readData = e.getD (Tbl.get {} s.txts p).word 0 ∧
      (Tbl.get {} t.txts p).entries = e :: rest ∧ (Tbl.get {} t.txts p).word = (Tbl.get {} s.txts p).word + 1 ∧
      Touches [.cmd, .txts] [] s t) ∧
  (∀ (x : PpsSeen) (s : State), s.up 222 = true → x.rising = on TIM.CTL_PPS_POL 0 s →
    ∃ t, exec (.ppsEdge x) s = .next t ∧ t = s)

/-- R115, R291, R292, R295 to R299, R302: the partner. A heartbeat that fails its CRC is only counted, one of another pair raises cause 13, an
accepted one gives the partner's role, score and epoch; 3 missed take the link down, 8 accepted bring it up; a delta changes the
standby's tables, a broken one loses the tree's state; the close marker closes the standby's comb on the deltas tagged with
it, its map void where it comes late; light seen restarts the count of silence; four witness bursts that agree within two cycles
make their mean the offset, which beyond two frames is not valid (log entry 123: the model's choice of what counts toward the mean); the score
is 255 less the penalties of the faults enabled, and an active unit gives control up as it reaches 0. -/
def Obligations.PartnerLink : Prop :=
  (∀ (h : Heartbeat) (s : State), s.up 224 = true → pairEn s = true → h.crcOk = false →
    ∃ t, exec (.heartbeatRx h) s = .next t ∧ Counted PAR.HB_ERR_CNT 0 s t ∧ Touches [.mem, .pmu] [(PAR.HB_ERR_CNT, 0, 0)] s t) ∧
  (∀ (h : Heartbeat) (s : State), s.up 224 = true → pairEn s = true → h.crcOk = true →
    h.pairId.toNat ≠ rd PAR.PAIR_PAIR_ID 0 s →
    ∃ t, exec (.heartbeatRx h) s = .next t ∧ t.pair.miss = s.pair.miss + 1 ∧ t.pair.okRun = 0 ∧ Raised 181 13 t ∧
      Touches (.pair :: signals) [] s t) ∧
  (∀ (h : Heartbeat) (s : State), s.up 224 = true → pairEn s = true → h.crcOk = true →
    h.pairId.toNat = rd PAR.PAIR_PAIR_ID 0 s → role s = 0 → h.role = 1 → h.linkDown = false → linkIsUp s = false →
    h.differs = false → s.pair.sw = none →
    ∃ t, exec (.heartbeatRx h) s = .next t ∧ t.pair.miss = 0 ∧ t.pair.okRun = s.pair.okRun + 1 ∧ t.pair.noneRun = 0 ∧
      t.pair.partnerEpoch = some h.epoch.toNat ∧ rd PAR.STS_PARTNER_ROLE 0 t = 1 ∧
      rd PAR.STS_PARTNER_READY 0 t = (if h.ready then 1 else 0) ∧ rd PAR.HEALTH_PARTNER_SCORE 0 t = h.score.toNat ∧
      rd PAR.PAIR_PARTNER_DEV 0 t = h.dev.toNat ∧ rd PAR.EPOCH 0 t = max (rd PAR.EPOCH 0 s) h.epoch.toNat ∧ role t = 0) ∧
  (∀ (s : State), s.up 224 = true → pairEn s = true →
    ∃ t, exec .heartbeatMiss s = .next t ∧
      t = { s with pair := { s.pair with miss := s.pair.miss + 1, okRun := 0, noneRun := 0 } }) ∧
  (∀ (s : State), s.up 224 = true → 3 ≤ s.pair.miss → linkIsUp s = true →
    ∃ t, exec .partnerLinkDown s = .next t ∧ linkIsUp t = false ∧ rd PAR.STS_LIVE 0 t = 0 ∧ t.pair.downFrames = 0 ∧
      t.pair.okRun = 0 ∧ t.pair.following = false ∧ Counted PAR.LINK_DOWN_CNT 0 s t ∧ Raised 181 1 t ∧ role t = role s) ∧
  (∀ (s : State), s.up 224 = true → s.pair.miss < 3 → ∃ t, exec .partnerLinkDown s = .next t ∧ t = s) ∧
  (∀ (s : State), s.up 224 = true → linkIsUp s = false → 8 ≤ s.pair.okRun →
    ∃ t, exec .partnerLinkUp s = .next t ∧ linkIsUp t = true ∧ Raised 181 2 t ∧
      Touches (.mem :: .pair :: signals) [(PAR.STS_LINK, 0, 0)] s t) ∧
  (∀ (s : State), s.up 224 = true → linkIsUp s = true →
    ∃ t, exec .p0LockLoss s = .next t ∧ rd PAR.STS_P0_UP 0 t = 0 ∧ linkIsUp t = false ∧ Counted PAR.LINK_DOWN_CNT 0 s t ∧
      Raised 181 1 t) ∧
  (∀ (m : BitVec 48) (s : State), s.up 224 = true → on PAR.STS_P1_UP 0 s = true → on PAR.STS_P0_UP 0 s = true →
    role s ≠ 1 →
    ∃ t, exec (.p1Loss m) s = .next t ∧ rd PAR.STS_P1_UP 0 t = 0 ∧ Raised 181 3 t ∧ linkIsUp t = linkIsUp s ∧
      Touches (.mem :: signals) [(PAR.STS_P1_UP, 0, 0)] s t) ∧
  (∀ (m : BitVec 48) (n : Fin 48) (s : State), s.up 224 = true → role s = 1 → m.toNat = 2 ^ n.val →
    ∃ t, exec (.p1Loss m) s = .next t ∧ rd PAR.STS_P1_UP 0 t = 0 ∧ rd PAR.STS_SYNC 0 t = 0 ∧ rd PAR.STS_READY 0 t = 0 ∧
      Counted PAR.RESYNC_CNT 0 s t ∧ Raised 181 11 t) ∧
  (∀ (n : Fin 48) (c : Fin 3) (s : State), s.up (clusterIsland (treeCluster n)) = true → role s = 1 →
    ∃ t, exec (.mirrorDelta n (.smoker (some c)) true) s = .next t ∧
      t.pair.smokers = Tbl.set 0 s.pair.smokers n (c + 1) ∧ role t = 1) ∧
  (∀ (n : Fin 48) (sp : Sp) (i x w : Nat) (v : Word) (s : State), s.up (clusterIsland (treeCluster n)) = true → role s = 1 →
    mirrored sp i x w s = true →
    ∃ t, exec (.mirrorDelta n (.word sp i x w v) true) s = .next t ∧ rdWord sp i x w t = v.toNat) ∧
  (∀ (n : Fin 48) (c : BitVec 10) (w0 w1 w2 : Word) (b : Nat) (s : State), s.up (clusterIsland (treeCluster n)) = true →
    role s = 1 → openBank n s = b →
    ∃ t, exec (.mirrorDelta n (.cell (openFrame n s) c w0 w1 w2) true) s = .next t ∧ rdWord .cell b c.toNat 0 t = w0.toNat ∧
      rdx CELL.WRITER b c.toNat t = 6 ∧ rdx CELL.STARTTIME b c.toNat t = w1.toNat / 2 ^ 15 ∧
      rdx CELL.GRANTSIZE b c.toNat t = w2.toNat % 2 ^ 16) ∧
  (∀ (n : Fin 48) (d : Delta) (s : State), s.up (clusterIsland (treeCluster n)) = true → role s = 1 →
    ∃ t, exec (.mirrorDelta n d false) s = .next t ∧ rd PAR.STS_SYNC 0 t = 0 ∧ Counted PAR.HB_ERR_CNT 0 s t ∧
      Counted PAR.RESYNC_CNT 0 s t ∧ Raised 181 11 t) ∧
  (∀ (n : Fin 48) (d : Delta) (ok : Bool) (s : State), s.up (clusterIsland (treeCluster n)) = true → role s ≠ 1 →
    ∃ t, exec (.mirrorDelta n d ok) s = .next t ∧ t = s) ∧
  (∀ (n : Fin 48) (s : State), s.up (clusterIsland (treeCluster n)) = true → role s ≠ 1 →
    ∃ t, exec (.mirrorCloseMarker n) s = .next t ∧ t = s) ∧
  (∀ (n : Fin 48) (s : State), s.up (clusterIsland (treeCluster n)) = true → role s = 1 →
    (s.grant n).tagged.all (fun d => match d with | .tagged _ sp x w _ => inSnapshot n ⟨sp, n, x, w⟩ | _ => false) = true →
    frameT0 (openFrame n s) < frameBase s + 3100 →
    ∃ t, exec (.mirrorCloseMarker n) s = .next t ∧ (t.fram n).mapIn = none ∧ Counted GRT.MIRROR_LATE_CNT n s t ∧
      Raised (grtSource n) 10 t) ∧
  (∀ (n : Fin 48) (k : Nat) (s : State), s.up (clusterIsland (treeCluster n)) = true → s.up (framingIsland n) = true →
    role s = 1 → openFrame n s = k → frameBase s + 3100 ≤ frameT0 k →
    (s.grant n).tagged.all (fun d => match d with | .tagged _ sp x w _ => inSnapshot n ⟨sp, n, x, w⟩ | _ => false) = true →
    ∃ t, exec (.mirrorCloseMarker n) s = .next t ∧ Counted GRT.CLOSE_CNT n s t ∧
      (t.grant n).bank = ((s.grant n).bank + 1) % 2 ∧ (t.grant n).openFrame = k + 1 ∧
      (t.grant n).tagged = (s.grant n).tagged.filter (fun d => match d with | .tagged f _ _ _ _ => decide (k < f) | _ => false) ∧
      (t.fram n).mapIn.map (fun (m : BwMap) => m.frame) = some k) ∧
  (∀ (s : State), s.up 224 = true → role s = 1 →
    ∃ t, exec .bulkCopyDone s = .next t ∧ rd PAR.STS_SYNC 0 t = 1 ∧
      Touches [.mem, .pair] [(PAR.STS_SYNC, 0, 0), (PAR.STS_READY, 0, 0)] s t) ∧
  (∀ (light : List TreeLight) (s : State), s.up 224 = true → pairEn s = true → light = [] →
    ∃ t, exec (.upstreamFrameJudge light) s = .next t ∧ rd PAR.STS_SILENT 0 t = min (rd PAR.STS_SILENT 0 s + 1) 65535 ∧
      t.pair.quiet = s.pair.quiet + 1 ∧ rd PAR.STS_LIVE 0 t = rd PAR.STS_LIVE 0 s ∧
      t.pair.downFrames = (if linkIsUp s then s.pair.downFrames else s.pair.downFrames + 1)) ∧
  (∀ (x : TreeLight) (s : State), s.up 224 = true → pairEn s = true → x.energy = true → on TLN.CTL_RX_EN x.tree s = true →
    ∃ t, exec (.upstreamFrameJudge [x]) s = .next t ∧ rd PAR.STS_SILENT 0 t = 0 ∧ rd PAR.STS_LIVE 0 t = 1 ∧
      t.pair.quiet = 0 ∧ (linkIsUp s = false → t.pair.joinSeen = true)) ∧
  (∀ (light : List TreeLight) (s : State), s.up 224 = true → pairEn s = false →
    ∃ t, exec (.upstreamFrameJudge light) s = .next t ∧ t.pair = s.pair ∧ t.mem = s.mem) ∧
  (∀ (n : Fin 48) (a b c d : Int) (l : List Int) (s : State), s.up 224 = true → role s = 1 → Tbl.get none s.pair.ofs n = none →
    agree [a, b, c, d] = true → ((a + b + c + d) / 4).natAbs ≤ 194400 * 64 →
    ∃ t, exec (.ofsValid n (a :: b :: c :: d :: l)) s = .next t ∧
      t.pair.ofs = Tbl.set none s.pair.ofs n (some ((a + b + c + d) / 4)) ∧
      t.pair.bursts = Tbl.set [] s.pair.bursts n [a, b, c, d]) ∧
  (∀ (n : Fin 48) (a b c d : Int) (l : List Int) (s : State), s.up 224 = true → role s = 1 → Tbl.get none s.pair.ofs n = none →
    agree [a, b, c, d] = true → 194400 * 64 < ((a + b + c + d) / 4).natAbs →
    ∃ t, exec (.ofsValid n (a :: b :: c :: d :: l)) s = .next t ∧ Tbl.get none t.pair.ofs n = none ∧ Raised 181 14 t) ∧
  (∀ (enc lane : Bool) (s : State), s.up 224 = true → (pairEn s = false ∨ linkIsUp s = false) →
    ∃ t, exec (.healthEval enc lane) s = .next t ∧ rd PAR.HFAULT_FAULT 0 t = boolMask (faultsNow enc lane s) ∧
      rd PAR.HEALTH_SCORE 0 t = 255 - (List.range 9).foldl (fun a i =>
        if (faultsNow enc lane s).getD i false && maskHas (rd PAR.CHK_EN_EN 0 s) i then a + penalties.getD i 0 else a) 0 ∧
      t.pair.lowRun = (if rd PAR.HEALTH_SCORE 0 t < rd PAR.CTL_YIELD_THR 0 s then s.pair.lowRun + 1 else 0)) ∧
  (∀ (enc lane : Bool) (s : State), s.up 224 = true → pairEn s = true → linkIsUp s = true → role s = 2 →
    s.up 162 = true → rd PAR.HEALTH_SCORE 0 s ≠ 0 →
    255 ≤ (List.range 9).foldl (fun a i =>
      if (faultsNow enc lane s).getD i false && maskHas (rd PAR.CHK_EN_EN 0 s) i then a + penalties.getD i 0 else a) 0 →
    ∃ t, exec (.healthEval enc lane) s = .next t ∧ role t = 0 ∧ rd PAR.HEALTH_SCORE 0 t = 0 ∧
      t.pair.lastMsg = some (.released ((max (rd PAR.EPOCH 0 s) (s.pair.partnerEpoch.getD 0) + 1) % 2 ^ 32) (s.nvm.devnum.getD 0)) ∧
      Raised 181 0 t ∧ Raised 186 5 t) ∧
  (∀ (s : State), s.up 224 = true → role s = 1 → pairEn s = true →
    ∃ t, exec .healthReport s = .next t ∧ t = { s with pair := { s.pair with lastReport := some (rd PAR.HFAULT_FAULT 0 s) } }) ∧
  (∀ (k : Fin 4) (slot : BitVec 20) (s : State), s.up 224 = true →
    ∃ t, exec (.memoryScrubPass [.entry k slot]) s = .next t ∧ t.pair.scrubBad = true ∧ emAt k slot.toNat t = {} ∧
      Raised (160 + k) 10 t) ∧
  (∀ (k : Fin 8) (s : State), s.up 224 = true →
    ∃ t, exec (.memoryScrubPass [.cluster k]) s = .next t ∧ t.pair.scrubBad = false ∧ Counted GSQ.ECC_CNT k s t ∧
      Raised (128 + k) 30 t) ∧
  (∀ (n : Fin 48) (l : List Int) (s : State), s.up 224 = true →
    (role s ≠ 1 ∨ Tbl.get none s.pair.ofs n ≠ none ∨ l.length < 4 ∨ agree (l.take 4) = false) →
    ∃ t, exec (.ofsValid n l) s = .next t ∧ t = s)

/-- R288 to R290, R300 to R305, R310: role changes. Each is one more than the highest epoch known. A switchover is asked for, answered,
committed and executed at its frame, or ends where an answer is missing; a yield needs a ready standby; RELEASED makes a standby
ACTIVE at once; with the link down a frame's silence decides; a role command is guarded and refused with its code,
and one that waits for a frame start or a switchover leaves GO at 1, a further one being held meanwhile. -/
def Obligations.RoleChanges : Prop :=
  (∀ (s : State), s.up 224 = true → role s = 2 → pairEn s = true → linkIsUp s = true → 2 ≤ s.pair.lowRun → s.pair.sw = none →
    s.up 162 = true → partnerRole s = 1 → partnerReady s = true →
    ∃ t, exec .yield s = .next t ∧
      t.pair.sw = some { k := (frameBase s + 10000 + 124999) / 125000, phase := .sent, ret := false } ∧
      t.pair.lastMsg = some (.switch ((frameBase s + 10000 + 124999) / 125000) (rd PAR.EPOCH 0 s)) ∧
      Counted PAR.YIELD_CNT 0 s t ∧ Raised 181 6 t ∧ role t = 2) ∧
  (∀ (s : State), s.up 224 = true → role s = 2 → pairEn s = true → linkIsUp s = true → 2 ≤ s.pair.lowRun → s.pair.sw = none →
    partnerReady s = false →
    ∃ t, exec .yield s = .next t ∧ t.pair = s.pair ∧ Raised 181 10 t ∧ Touches signals [] s t) ∧
  (∀ (k : Nat) (s : State), s.up 224 = true → s.up 162 = true → role s = 1 → on PAR.STS_READY 0 s = true →
    ∃ t, exec (.switchRx k) s = .next t ∧ t = { s with pair := { s.pair with
      sw := some { k := k, phase := .acked, ret := s.pair.returnSent }, lastMsg := some .ack } }) ∧
  (∀ (k : Nat) (s : State), s.up 224 = true → s.up 162 = true → role s = 1 → on PAR.STS_READY 0 s = false →
    ∃ t, exec (.switchRx k) s = .next t ∧ t = { s with pair := { s.pair with lastMsg := some .nak } }) ∧
  (∀ (x : Switch) (s : State), s.up 224 = true → s.up 162 = true → s.pair.sw = some x → x.phase = .sent →
    ∃ t, exec .ackRx s = .next t ∧
      t = { s with pair := { s.pair with sw := some { x with phase := .bound }, lastMsg := some .commit } }) ∧
  (∀ (x : Switch) (s : State), s.up 224 = true → s.pair.sw = some x → x.phase = .sent →
    s.pair.roleHeld = none →
    ∃ t, exec .nakRx s = .next t ∧ t.pair = { s.pair with sw := none, returnSent := false } ∧ rd PAR.ROLE_CMD_GO 0 t = 0 ∧
      Touches [.mem, .pair] [(PAR.ROLE_CMD_GO, 0, 0)] s t) ∧
  (∀ (x : Switch) (s : State), s.up 224 = true → s.pair.sw = some x → x.phase = .acked →
    ∃ t, exec .commitRx s = .next t ∧ t = { s with pair := { s.pair with sw := some { x with phase := .bound } } }) ∧
  (∀ (x : Switch) (s : State), s.up 224 = true → s.pair.sw = some x → x.phase = .acked →
    ∃ t, exec .commitTimeout s = .next t ∧ t.pair.sw = some { x with phase := .lost } ∧
      t.clk = (passToFrame (frameT0 x.k - 2000) s).clk ∧ role t = role s) ∧
  (∀ (x : Switch) (s : State), s.up 224 = true → s.pair.sw = some x → x.phase = .sent →
    s.pair.roleHeld = none →
    ∃ t, exec .switchAbort s = .next t ∧ t.pair.sw = none ∧ t.clk = (passToFrame (frameT0 x.k - 4000) s).clk ∧
      rd PAR.ROLE_CMD_GO 0 t = 0 ∧
      Counted PAR.SWITCH_ABORT_CNT 0 s t ∧ Raised 181 8 t ∧ role t = role s) ∧
  (∀ (x : Switch) (s : State), s.up 224 = true → s.pair.sw = some x → x.phase = .bound → role s = 2 → pairEn s = true →
    s.pair.roleHeld = none →
    ∃ t, exec .switchoverExecute s = .next t ∧ role t = 1 ∧ t.clk = (passToFrame (frameT0 x.k) s).clk ∧
      rd PAR.EPOCH 0 t = (max (rd PAR.EPOCH 0 s) (s.pair.partnerEpoch.getD 0) + 1) % 2 ^ 32 ∧ t.pair.sw = none ∧
      rd PAR.STS_SYNC 0 t = 0 ∧ Raised 181 0 t ∧ Raised 181 7 t ∧ (x.ret = true → Raised 181 12 t)) ∧
  (∀ (x : Switch) (s : State), s.up 224 = true → s.pair.sw = some x → x.phase = .bound → role s = 1 → pairEn s = true →
    s.pair.roleHeld = none →
    ∃ t, exec .switchoverExecute s = .next t ∧ role t = 2 ∧
      rd PAR.EPOCH 0 t = (max (rd PAR.EPOCH 0 s) (s.pair.partnerEpoch.getD 0) + 1) % 2 ^ 32 ∧
      Raised 181 7 t ∧ (x.ret = true → Raised 181 12 t ∧ Counted PAR.RETURN_CNT 0 s t)) ∧
  (∀ (e : Word) (s : State), s.up 224 = true → role s = 1 → pairEn s = true → s.pair.roleHeld = none →
    ∃ t, exec (.releasedRx e) s = .next t ∧ role t = 2 ∧
      rd PAR.EPOCH 0 t = (max (rd PAR.EPOCH 0 s) e.toNat + 1) % 2 ^ 32 ∧ Counted PAR.TKO_CNT 0 s t ∧ Raised 181 5 t) ∧
  (∀ (e : Word) (s : State), s.up 224 = true → role s ≠ 1 → pairEn s = true →
    ∃ t, exec (.releasedRx e) s = .next t ∧ t = { s with pair := { s.pair with partnerEpoch := some e.toNat } }) ∧
  (∀ (since : Nat) (s : State), s.up 224 = true → s.pair.retSince = some since → returnable s = true → s.up 162 = true →
    ∃ t, exec .returnSend s = .next t ∧ t.clk = max s.clk (since + rd PAR.TIMING_RET_S 0 s * 1000000000) ∧
      t.pair.returnSent = true ∧ t.pair.lastMsg = some .returnReq ∧ t.pair.retSince = some t.clk) ∧
  (∀ (s : State), s.up 224 = true → s.up 162 = true → role s = 2 → pairEn s = true → s.pair.sw = none → rd PAR.CTL_PMODE 0 s = 0 →
    ∃ t, exec .returnRx s = .next t ∧
      t.pair.sw = some { k := (frameBase s + 10000 + 124999) / 125000, phase := .sent, ret := true } ∧ Touches [.pair] [] s t) ∧
  (∀ (s : State), s.up 224 = true → s.up 162 = true → role s = 2 → pairEn s = true → s.pair.sw = none → rd PAR.CTL_PMODE 0 s ≠ 0 →
    ∃ t, exec .returnRx s = .next t ∧ t = { s with pair := { s.pair with lastMsg := some .returnNak } }) ∧
  (∀ (x : Switch) (s : State), s.up 224 = true → role s = 2 → pairEn s = true → s.pair.sw = some x →
    ∃ t, exec .returnRx s = .next t ∧ t = { s with pair := { s.pair with sw := some { x with ret := true } } }) ∧
  (∀ (s : State), s.up 224 = true → pairEn s = true → linkIsUp s = false → role s = 1 → on PAR.STS_READY 0 s = true →
    on PAR.STS_LIVE 0 s = true → rd PAR.TIMING_TKO_N 0 s ≤ rd PAR.STS_SILENT 0 s → s.pair.roleHeld = none →
    ∃ t, exec .linkDownRoleChange s = .next t ∧ role t = 2 ∧ Counted PAR.TKO_CNT 0 s t ∧ Raised 181 4 t) ∧
  (∀ (s : State), s.up 224 = true → pairEn s = true → linkIsUp s = false → role s = 2 → s.pair.foreign = true →
    s.pair.roleHeld = none →
    ∃ t, exec .linkDownRoleChange s = .next t ∧ role t = 1 ∧ Counted PAR.FOREIGN_CNT 0 s t ∧ Raised 181 9 t) ∧
  (∀ (s : State), s.up 224 = true → role s = 1 → on PAR.STS_LIVE 0 s = true →
    rd PAR.STS_SILENT 0 s < rd PAR.TIMING_TKO_N 0 s → ∃ t, exec .linkDownRoleChange s = .next t ∧ t = s) ∧
  (∀ (since : Nat) (s : State), s.up 224 = true → s.pair.formedSince = some since → rd PAR.CTL_PMODE 0 s = 1 →
    rd PAR.CTL_STARTUP_S 0 s ≠ 0 →
    ∃ t, exec .startupExpiry s = .next t ∧ rd PAR.CTL_PMODE 0 t = 0 ∧
      t.clk = max s.clk (since + rd PAR.CTL_STARTUP_S 0 s * 1000000000)) ∧
  (∀ (s : State), s.up 224 = true → privileged s = false →
    ∃ t, exec .roleSwitchOver s = .next t ∧ Counted CMD.GUARD_CNT 0 s t ∧ Raised 183 4 t ∧ t.cmd.verdict = 4 ∧ role t = role s ∧
      Touches (.mem :: .cmd :: signals) [(CMD.GUARD_CNT, 0, 0)] s t) ∧
  (∀ (s : State), s.up 224 = true → privileged s = true → pairEn s = true → role s = 2 → linkIsUp s = true → partnerReady s = true →
    s.pair.sw = none → on PAR.ROLE_CMD_GO 0 s = false →
    ∃ t, exec .roleSwitchOver s = .next t ∧
      t.pair.sw = some { k := (frameBase s + 10000 + 124999) / 125000, phase := .sent, ret := false } ∧
      rd PAR.ROLE_CMD_ERR 0 t = 0 ∧ rd PAR.ROLE_CMD_ERRCODE 0 t = 0 ∧ rd PAR.ROLE_CMD_GO 0 t = 1) ∧
  (∀ (s : State), s.up 224 = true → privileged s = true → pairEn s = false → on PAR.ROLE_CMD_GO 0 s = false →
    ∃ t, exec .roleSwitchOver s = .next t ∧ t.pair = s.pair ∧ rd PAR.ROLE_CMD_ERR 0 t = 1 ∧ rd PAR.ROLE_CMD_ERRCODE 0 t = 4 ∧
      Raised 181 16 t ∧ t.cmd.verdict = 6 ∧ t.cmd.detail = 4) ∧
  (∀ (s : State), s.up 224 = true → privileged s = true → pairEn s = true → role s = 1 → linkIsUp s = false →
    on PAR.ROLE_CMD_GO 0 s = false →
    ∃ t, exec .roleSwitchOver s = .next t ∧ t.pair = { s.pair with pendingRole := some 2 } ∧ rd PAR.ROLE_CMD_ERR 0 t = 0 ∧
      rd PAR.ROLE_CMD_GO 0 t = 1 ∧ role t = 1) ∧
  (∀ (s : State), s.up 224 = true → privileged s = true → (pairEn s && (!linkIsUp s || partnerRole s == 2)) = false →
    on PAR.ROLE_CMD_GO 0 s = false →
    ∃ t, exec .roleEnterTest s = .next t ∧ t.pair = { s.pair with pendingRole := some 3 } ∧ rd PAR.ROLE_CMD_ERR 0 t = 0 ∧
      rd PAR.ROLE_CMD_GO 0 t = 1 ∧
      rd PAR.ROLE_CMD_OP 0 t = 1 ∧ role t = role s) ∧
  (∀ (s : State), s.up 224 = true → privileged s = true → pairEn s = true → role s = 3 → on PAR.ROLE_CMD_GO 0 s = false →
    ∃ t, exec .roleLeaveTest s = .next t ∧ role t = 0 ∧ t.rst.overrides = [] ∧
      rd PAR.EPOCH 0 t = (max (rd PAR.EPOCH 0 s) (s.pair.partnerEpoch.getD 0) + 1) % 2 ^ 32 ∧ Raised 181 0 t ∧
      rd PAR.ROLE_CMD_ERR 0 t = 0) ∧
  (∀ (s : State), s.up 224 = true → privileged s = true → pairEn s = false → role s = 3 → on PAR.ROLE_CMD_GO 0 s = false →
    ∃ t, exec .roleLeaveTest s = .next t ∧ t.pair = { s.pair with pendingRole := some 2 } ∧ role t = 3 ∧
      rd PAR.ROLE_CMD_GO 0 t = 1 ∧ rd PAR.ROLE_CMD_ERR 0 t = 0) ∧
  (∀ (s : State), s.up 224 = true → privileged s = true → role s ≠ 3 → on PAR.ROLE_CMD_GO 0 s = false →
    ∃ t, exec .roleLeaveTest s = .next t ∧ role t = role s ∧ rd PAR.ROLE_CMD_ERR 0 t = 1 ∧ rd PAR.ROLE_CMD_ERRCODE 0 t = 2 ∧
      Raised 181 16 t) ∧
  (∀ (s : State), s.up 224 = true → privileged s = true → pairEn s = true → role s = 1 → on PAR.ROLE_CMD_GO 0 s = false →
    ∃ t, exec .roleRejoin s = .next t ∧ role t = 0 ∧
      rd PAR.EPOCH 0 t = (max (rd PAR.EPOCH 0 s) (s.pair.partnerEpoch.getD 0) + 1) % 2 ^ 32 ∧ Raised 181 0 t) ∧
  (∀ (s : State), s.up 224 = true → pairEn s = false → ∃ t, exec .returnRx s = .next t ∧ t = s) ∧
  (∀ (s : State), s.up 224 = true → privileged s = true → on PAR.ROLE_CMD_GO 0 s = true → s.pair.roleHeld = none →
    ∃ t, exec .roleRejoin s = .next t ∧ t.pair = { s.pair with roleHeld := some 3 } ∧ rd PAR.ROLE_CMD_GO 0 t = 1 ∧
      role t = role s ∧ Touches [.mem, .pair] [(PAR.ROLE_CMD_OP, 0, 0)] s t)

/-- R316, R394 to R399: causes and deliveries. A raise sets its bit, captures its details where CAP_EN selects it, and counts where it is
enabled; while island 223 is in reset it waits in a latch, one a cause. COUNT raises, or the end of a holdoff with a raise pending,
make a delivery, which clears RAISES and starts the holdoff; enabling a set cause counts it; a written 1 clears a cause. A packet asks for its buffer and goes to the
host's ring with the grant, or counts where no session takes it or no buffer is granted; a relay waits for its heartbeat. -/
def Obligations.Events : Prop :=
  (∀ (src : BitVec 8) (bit : BitVec 5) (d0 d1 d2 : Word) (s : State), s.up 223 = false →
    s.ev.pending.any (fun p => p.1 == src.toNat && p.2.1 == bit.toNat) = false →
    ∃ t, exec (.causeRaise src bit d0 d1 d2) s = .next t ∧ t = { s with ev := { s.ev with
      pending := s.ev.pending ++ [(src.toNat, bit.toNat, [d0.toNat, d1.toNat, d2.toNat], some s.ptp)] } }) ∧
  (∀ (src : BitVec 8) (bit : BitVec 5) (d0 d1 d2 : Word) (s : State), s.up 223 = false →
    s.ev.pending.any (fun p => p.1 == src.toNat && p.2.1 == bit.toNat) = true →
    ∃ t, exec (.causeRaise src bit d0 d1 d2) s = .next t ∧ t = s) ∧
  (∀ (src : BitVec 8) (bit : BitVec 5) (d0 d1 d2 : Word) (s : State), s.up 223 = true →
    maskHas (rd SRC.EN src.toNat s) bit.toNat = false → maskHas (rd SRC.CAP_EN src.toNat s) bit.toNat = false →
    ∃ t, exec (.causeRaise src bit d0 d1 d2) s = .next t ∧
      rd SRC.CAUSE src.toNat t = maskSet (rd SRC.CAUSE src.toNat s) bit.toNat ∧
      rd SRC.PEND_RAISES src.toNat t = rd SRC.PEND_RAISES src.toNat s ∧ t.ev.srcx = s.ev.srcx ∧ Touches [.ev, .pmu] [] s t) ∧
  (∀ (src : BitVec 8) (bit : BitVec 5) (d0 d1 d2 : Word) (s : State), s.up 223 = true →
    maskHas (rd SRC.EN src.toNat s) bit.toNat = false → maskHas (rd SRC.CAP_EN src.toNat s) bit.toNat = true →
    rd SRC.CAP_STS_V0 src.toNat s = 0 →
    ∃ t, exec (.causeRaise src bit d0 d1 d2) s = .next t ∧ rd SRC.CAP_STS_V0 src.toNat t = 1 ∧
      rd SRC.CAP0_0_CAUSE src.toNat t = bit.toNat ∧ rd SRC.CAP0_0_SEC src.toNat t = ptpSec s % 2 ^ 26 ∧
      rd SRC.CAP0_1_NS src.toNat t = ptpNs s ∧ rd SRC.CAP0_2 src.toNat t = d0.toNat ∧ rd SRC.CAP0_3 src.toNat t = d1.toNat ∧
      rd SRC.CAP0_4 src.toNat t = d2.toNat ∧ rd SRC.CAP_STS_OVF src.toNat t = rd SRC.CAP_STS_OVF src.toNat s) ∧
  (∀ (src : BitVec 8) (bit : BitVec 5) (d0 d1 d2 : Word) (s : State), s.up 223 = true →
    maskHas (rd SRC.EN src.toNat s) bit.toNat = false → maskHas (rd SRC.CAP_EN src.toNat s) bit.toNat = true →
    rd SRC.CAP_STS_V0 src.toNat s = 1 →
    ∃ t, exec (.causeRaise src bit d0 d1 d2) s = .next t ∧ rd SRC.CAP_STS_V1 src.toNat t = 1 ∧
      rd SRC.CAP1_0_CAUSE src.toNat t = bit.toNat ∧ rd SRC.CAP1_2 src.toNat t = d0.toNat ∧
      rd SRC.CAP0_2 src.toNat t = rd SRC.CAP0_2 src.toNat s ∧
      rd SRC.CAP_STS_OVF src.toNat t = min (rd SRC.CAP_STS_OVF src.toNat s + 1) 65535) ∧
  (∀ (src : BitVec 8) (bit : BitVec 5) (d0 d1 d2 : Word) (s : State), s.up 223 = true →
    maskHas (rd SRC.EN src.toNat s) bit.toNat = true → on EVT.CTL_DLV_EN 0 s = false →
    ∃ t, exec (.causeRaise src bit d0 d1 d2) s = .next t ∧
      rd SRC.PEND_RAISES src.toNat t = min (rd SRC.PEND_RAISES src.toNat s + 1) 65535 ∧
      (Tbl.get {} t.ev.srcx src.toNat).since = maskSet (Tbl.get {} s.ev.srcx src.toNat).since bit.toNat ∧
      t.sess = s.sess ∧ Raised src.toNat bit.toNat t) ∧
  (∀ (src : BitVec 8) (s : State), s.up 223 = true → on EVT.CTL_DLV_EN 0 s = true → rd SRC.CFG_COUNT src.toNat s ≠ 0 →
    rd SRC.CFG_COUNT src.toNat s ≤ rd SRC.PEND_RAISES src.toNat s → on SRC.CFG_PKT src.toNat s = false →
    on SRC.CFG_RELAY src.toNat s = false →
    ∃ t, exec (.countDelivery src) s = .next t ∧ rd SRC.PEND_RAISES src.toNat t = 0 ∧ Counted EVT.DLV_CNT 0 s t ∧
      (Tbl.get {} t.ev.srcx src.toNat).since = 0 ∧
      (Tbl.get {} t.ev.srcx src.toNat).holdEnd = some (s.clk + rd SRC.CFG_HOLDOFF src.toNat s * 10000) ∧ t.sess = s.sess) ∧
  (∀ (src : BitVec 8) (s : State), s.up 223 = true →
    (on EVT.CTL_DLV_EN 0 s = false ∨ rd SRC.CFG_COUNT src.toNat s = 0 ∨
      rd SRC.PEND_RAISES src.toNat s < rd SRC.CFG_COUNT src.toNat s) →
    ∃ t, exec (.countDelivery src) s = .next t ∧ t = s) ∧
  (∀ (src : BitVec 8) (s : State), s.up 223 = true → on EVT.CTL_DLV_EN 0 s = true → rd SRC.CFG_COUNT src.toNat s ≠ 0 →
    rd SRC.CFG_COUNT src.toNat s ≤ rd SRC.PEND_RAISES src.toNat s → on SRC.CFG_PKT src.toNat s = true →
    openSession SESS.CTL_EVT_EN s = none → s.ev.relay.length < 256 →
    ∃ t, exec (.countDelivery src) s = .next t ∧ Counted EVT.NOHOST_CNT 0 s t ∧ t.sess = s.sess) ∧
  (∀ (src : BitVec 8) (i : Nat) (s : State), s.up 223 = true → on EVT.CTL_DLV_EN 0 s = true → rd SRC.CFG_COUNT src.toNat s ≠ 0 →
    rd SRC.CFG_COUNT src.toNat s ≤ rd SRC.PEND_RAISES src.toNat s → on SRC.CFG_PKT src.toNat s = true →
    openSession SESS.CTL_EVT_EN s = some i → s.up 213 = true → s.ev.relay.length < 256 →
    ∃ t, exec (.countDelivery src) s = .next t ∧ t.sess = s.sess ∧ t.bpm = s.bpm ∧ Counted EVT.DLV_CNT 0 s t ∧
      t.ev.asks = s.ev.asks ++ [⟨src.toNat, (Tbl.get {} s.ev.srcx src.toNat).since, eventPayload src.toNat s⟩] ∧
      rd SRC.PEND_RAISES src.toNat t = 0) ∧
  (∀ (src : BitVec 8) (i : Nat) (s : State), s.up 223 = true → on EVT.CTL_DLV_EN 0 s = true → rd SRC.CFG_COUNT src.toNat s ≠ 0 →
    rd SRC.CFG_COUNT src.toNat s ≤ rd SRC.PEND_RAISES src.toNat s → on SRC.CFG_PKT src.toNat s = true →
    openSession SESS.CTL_EVT_EN s = some i → s.up 213 = false → s.ev.relay.length < 256 →
    ∃ t, exec (.countDelivery src) s = .next t ∧ Counted EVT.NOBUF_CNT 0 s t ∧ t.sess = s.sess ∧
      t.ev.asks = s.ev.asks ∧ rd SRC.PEND_RAISES src.toNat t = 0) ∧
  (∀ (src : BitVec 8) (s : State), s.up 223 = true → on EVT.CTL_DLV_EN 0 s = true → rd SRC.CFG_COUNT src.toNat s ≠ 0 →
    rd SRC.CFG_COUNT src.toNat s ≤ rd SRC.PEND_RAISES src.toNat s → on SRC.CFG_PKT src.toNat s = false →
    on SRC.CFG_RELAY src.toNat s = true → mbakinOn s = true → on SYS.CTL_RELAY_EN 0 s = true → s.ev.relay.length < 256 →
    ∃ t, exec (.countDelivery src) s = .next t ∧ Counted EVT.RELAY_CNT 0 s t ∧ t.sess = s.sess ∧
      t.ev.relay = s.ev.relay ++ [src.toNat :: (Tbl.get {} s.ev.srcx src.toNat).since :: eventPayload src.toNat s] ∧
      rd SRC.PEND_RAISES src.toNat t = 0) ∧
  (∀ (src : BitVec 8) (e : Nat) (s : State), s.up 223 = true → on EVT.CTL_DLV_EN 0 s = true →
    (Tbl.get {} s.ev.srcx src.toNat).holdEnd = some e → rd SRC.PEND_RAISES src.toNat s ≠ 0 →
    on SRC.CFG_PKT src.toNat s = false → on SRC.CFG_RELAY src.toNat s = false →
    ∃ t, exec (.holdoffEnd src) s = .next t ∧ t.clk = max s.clk e ∧ rd SRC.PEND_RAISES src.toNat t = 0 ∧
      Counted EVT.DLV_CNT 0 s t) ∧
  (∀ (src : BitVec 8) (s : State), s.up 223 = true → (Tbl.get {} s.ev.srcx src.toNat).holdEnd = none →
    ∃ t, exec (.holdoffEnd src) s = .next t ∧ t = s) ∧
  (∀ (s : State), s.up 223 = true → on EVT.CTL_DLV_EN 0 s = false → (∀ x, x < 256 → rd SRC.PEND_RAISES x s = 0) →
    ∃ t, exec .dlvEnable s = .next t ∧ on EVT.CTL_DLV_EN 0 t = true ∧ t.sess = s.sess ∧ rd EVT.DLV_CNT 0 t = rd EVT.DLV_CNT 0 s) ∧
  (∀ (y : BitVec 8) (s : State), s.up 223 = true → on EVT.CTL_DLV_EN 0 s = false →
    (∀ x, x < 256 → x = y.toNat ∨ rd SRC.PEND_RAISES x s = 0) →
    rd SRC.PEND_RAISES y.toNat s ≠ 0 → on SRC.CFG_PKT y.toNat s = false → on SRC.CFG_RELAY y.toNat s = false →
    (Tbl.get {} s.ev.srcx y.toNat).holdEnd = none →
    ∃ t, exec .dlvEnable s = .next t ∧ on EVT.CTL_DLV_EN 0 t = true ∧ rd SRC.PEND_RAISES y.toNat t = 0 ∧
      Counted EVT.DLV_CNT 0 s t) ∧
  (∀ (src : BitVec 8) (w : Word) (s : State), s.up 223 = true → rd SRC.CAUSE src.toNat s &&& w.toNat = 0 →
    ∃ t, exec (.eventEnWrite src w) s = .next t ∧ rd SRC.EN src.toNat t = w.toNat ∧
      rd SRC.PEND_RAISES src.toNat t = rd SRC.PEND_RAISES src.toNat s ∧ Touches [.ev] [] s t) ∧
  (∀ (src : BitVec 8) (w : Word) (s : State), s.up 223 = true → on EVT.CTL_DLV_EN 0 s = false →
    ∃ t, exec (.eventEnWrite src w) s = .next t ∧ rd SRC.EN src.toNat t = w.toNat ∧
      rd SRC.PEND_RAISES src.toNat t = min (rd SRC.PEND_RAISES src.toNat s + ((List.range 32).filter fun b =>
        maskHas w.toNat b && !maskHas (rd SRC.EN src.toNat s) b && maskHas (rd SRC.CAUSE src.toNat s) b).length) 65535 ∧
      t.sess = s.sess ∧ Touches [.ev] [] s t) ∧
  (∀ (src : BitVec 8) (w : Word) (s : State), s.up 223 = true →
    ∃ t, exec (.causeW1c src w) s = .next t ∧ rd SRC.CAUSE src.toNat t = rd SRC.CAUSE src.toNat s &&& (2 ^ 32 - 1 - w.toNat) ∧
      rd SRC.EN src.toNat t = rd SRC.EN src.toNat s ∧ Touches [.ev] [] s t) ∧
  (∀ (src : BitVec 8) (s : State), s.up 223 = true →
    ∃ t, exec (.captureRelease src) s = .next t ∧ rd SRC.CAP_STS_V0 src.toNat t = 0 ∧ rd SRC.CAP_STS_V1 src.toNat t = 0 ∧
      rd SRC.CAP_STS_OVF src.toNat t = 0 ∧ rd SRC.CAUSE src.toNat t = rd SRC.CAUSE src.toNat s ∧ Touches [.ev] [] s t) ∧
  (∀ (p : Fin 2) (e : Nat) (s : State), s.up 223 = true → Tbl.get none s.ev.pulse p = some e →
    ∃ t, exec (.pinPulseEnd p) s = .next t ∧ t.clk = max s.clk e ∧ Tbl.get none t.ev.pulse p = none) ∧
  (∀ (e : EventAsk) (i : Nat) (s : State), s.up 213 = true → s.up 223 = true → s.ev.asks = [e] → s.bpm.reclaim = [] →
    (∀ p, p < 4 → bufQueue p s = [] ∧ bufWaiting p s = []) → eligible 18 3 1 s = true → openSession SESS.CTL_EVT_EN s = some i →
    ringRoom i { kind := 2, opcode := 0x80, arg0 := e.src, arg1 := e.mask, payload := wordsBytes e.pay } s = true →
    ∃ t, exec .bufferArbitration s = .next t ∧ t.ev.asks = [] ∧
      (t.session i).ring.any (fun x => x.2.opcode == 0x80 && x.2.arg0 == e.src && x.2.arg1 == e.mask &&
        x.2.payload == wordsBytes e.pay) = true) ∧
  (∀ (e : EventAsk) (s : State), s.up 213 = true → s.up 223 = true → s.ev.asks = [e] → s.bpm.reclaim = [] →
    (∀ p, p < 4 → bufQueue p s = [] ∧ bufWaiting p s = []) → eligible 18 3 1 s = false →
    ∃ t, exec .bufferArbitration s = .next t ∧ t.ev.asks = [] ∧ Counted EVT.NOBUF_CNT 0 s t ∧ t.sess = s.sess)

/-- R400, R401, R403, R404: performance counters. A write sets the staged value; a wrap feeds the chained counter or raises its cause; a window's end moves its count to VAL and PEAK; an
unlisted event is refused. -/
def Obligations.PerformanceCounters : Prop :=
  (∀ (i : Fin 64) (w : Word) (s : State), s.up 223 = true →
    ∃ t, exec (.pmuValWrite i w) s = .next t ∧
      t.pmuVal i = { s.pmuVal i with val := (s.pmuVal i).stagedHi * 2 ^ 32 + w.toNat } ∧ Touches [.pmu] [] s t) ∧
  (∀ (i : Fin 64) (s : State), s.up 223 = true → (s.pmuVal i).wraps ≠ 0 → i.val % 2 = 1 → pmuEnabled s = [] →
    ∃ t, exec (.pmuWrap i) s = .next t ∧ (t.pmuVal i).wraps = (s.pmuVal i).wraps - 1 ∧ Raised (188 + i / 16) (i % 16) t) ∧
  (∀ (i : Fin 64) (s : State), s.up 223 = true → (s.pmuVal i).wraps = 0 → ∃ t, exec (.pmuWrap i) s = .next t ∧ t = s) ∧
  (∀ (i : Fin 64) (s : State), s.up 223 = true → (s.pmuVal i).wraps = 1 → i.val % 2 = 0 → on PMUC.CFG_CHAIN (i + 1) s = true →
    on PMUC.CFG_EN (i + 1) s = true → rd PMUC.CFG_WIN_MODE (i + 1) s = 0 →
    ∃ t, exec (.pmuWrap i) s = .next t ∧ (t.pmuVal i).wraps = 0 ∧
      (t.pmuVal (i + 1)).val = ((s.pmuVal (i + 1)).val + 1) % 2 ^ 48 ∧ Touches [.pmu] [] s t) ∧
  (∀ (i : Fin 64) (s : State), s.up 223 = true → windowed i s = true →
    (∀ x, x < 64 → rd PMUC.CFG_EVENT x s = 0) →
    ∃ t, exec (.pmuWindowEnd i) s = .next t ∧ (t.pmuVal i).window = 0 ∧ (t.pmuVal i).val = (s.pmuVal i).window % 2 ^ 48 ∧
      rd PMUC.PEAK i t = max (rd PMUC.PEAK i s) (min ((s.pmuVal i).window / 2 ^ rd PMUC.CFG_SHIFT i s) 0xFFFFFFFF) ∧
      t.clk = (passToPtp ((s.ptp / windowNs i s + 1) * windowNs i s) s).clk ∧
      (rd PMUC.THR_HI i s < min ((s.pmuVal i).window / 2 ^ rd PMUC.CFG_SHIFT i s) 0xFFFFFFFF → Raised (188 + i / 16) (16 + i % 16) t)) ∧
  (∀ (i : Fin 64) (s : State), s.up 223 = true → windowed i s = false → ∃ t, exec (.pmuWindowEnd i) s = .next t ∧ t = s) ∧
  (∀ (i : Fin 64) (w : Word) (s : State), s.up 223 = true → w.toNat / 2 ^ 16 % 2 ^ 8 ≤ 10 → w.toNat / 2 ^ 30 % 2 = 0 →
    ∃ t, exec (.pmuCfgWrite i false w) s = .next t ∧ rd PMUC.CFG_EN i t = w.toNat / 2 ^ 31 ∧ rd PMUC.CFG_CHAIN i t = 0 ∧
      rd PMUC.CFG_WIN_MODE i t = w.toNat / 2 ^ 29 % 2 ∧ rd PMUC.CFG_EVENT i t = w.toNat / 2 ^ 16 % 2 ^ 8 ∧
      rd PMUC.CFG_SHIFT i t = w.toNat / 2 ^ 12 % 2 ^ 4 ∧
      Touches [.mem] [(PMUC.CFG_EN, i, 0), (PMUC.CFG_CHAIN, i, 0), (PMUC.CFG_WIN_MODE, i, 0), (PMUC.CFG_EVENT, i, 0),
        (PMUC.CFG_SHIFT, i, 0)] s t) ∧
  (∀ (i : Fin 64) (w : Word) (s : State), s.up 223 = true → 10 < w.toNat / 2 ^ 16 % 2 ^ 8 →
    ∃ t, exec (.pmuCfgWrite i false w) s = .next t ∧ Raised 183 6 t ∧ t.cmd.verdict = 6 ∧ Touches (.cmd :: signals) [] s t) ∧
  (∀ (i : Fin 64) (w : Word) (s : State), s.up 223 = true → argOk (rd PMUC.CFG_EVENT i s) w.toNat = true →
    ∃ t, exec (.pmuCfgWrite i true w) s = .next t ∧ rd PMUC.ARG i t = w.toNat ∧ Touches [.mem] [(PMUC.ARG, i, 0)] s t)

/-- R402: VAL_LO and VAL_HI read the latch. Without SNAP_MODE a read of VAL_LO loads the latch; with it reads leave the latch, and a
write of SNAP loads all 64 latches. A read of VAL_HI is a register access at word 6 of the counter's registers (R397). -/
def Obligations.CounterLatches : Prop :=
  (∀ (i : Fin 64) (s : State), s.up 223 = true →
    ∃ t, exec .pmuSnap s = .next t ∧ (t.pmuVal i).latch = (s.pmuVal i).val ∧ (t.pmuVal i).val = (s.pmuVal i).val ∧
      Touches [.pmu] [] s t) ∧
  (∀ (i : Fin 64) (s : State), s.up 223 = true → on PMU.CTL_SNAP_MODE 0 s = false →
    ∃ t, exec (.valLoRead i) s = .next t ∧ t.cmd.readData = (s.pmuVal i).val % 2 ^ 32 ∧
      (t.pmuVal i).latch = (s.pmuVal i).val ∧ Touches [.pmu, .cmd] [] s t) ∧
  (∀ (i : Fin 64) (s : State), s.up 223 = true → on PMU.CTL_SNAP_MODE 0 s = true →
    ∃ t, exec (.valLoRead i) s = .next t ∧ t.cmd.readData = (s.pmuVal i).latch % 2 ^ 32 ∧ Touches [.cmd] [] s t) ∧
  (∀ (i : Fin 64) (src : Fin 5) (ofs : BitVec 24) (s : State), ofs.toNat = 0x44118 + 0x20 * i → Runs src ofs.toNat s →
    ∃ t, exec (.rcCounterRead src ofs) s = .next t ∧
      t.cmd.readData = (s.pmuVal i).latch / 2 ^ 32 ∧ t.pmu = s.pmu)

/-- R311 to R316, R319: Mbakin. A device without a number counts a received message and drops it, one with EN = 0 discards it; a
malformed one, one for another device, one out of the time window or not newer is dropped with cause 2, one with a wrong tag counts
and raises cause 3 as well, one with the device's own number raises cause 4; an accepted HEARTBEAT fills its peer's entry and says
whether its frame phase agrees; one for another role is answered ROLE_MISMATCH; a peer silent too long is not ALIVE; a message
sent takes the next SEQ; EN without a number raises cause 10; the fourth key word, with privilege, commits the key. -/
def Obligations.SystemMessages : Prop :=
  (∀ (m : MbakinMsg) (s : State), s.up 223 = true → s.nvm.devnum = none →
    ∃ t, exec (.mbakinRx m) s = .next t ∧ Counted SYS.DROP_CNT 0 s t ∧
      t.sys = { s.sys with inbox := s.sys.inbox.eraseP fun f => f.1 == m.port } ∧ Touches [.mem, .pmu, .sys] [(SYS.DROP_CNT, 0, 0)] s t) ∧
  (∀ (m : MbakinMsg) (s : State), s.up 223 = true → s.nvm.devnum ≠ none → on SYS.CTL_EN 0 s = false →
    ∃ t, exec (.mbakinRx m) s = .next t ∧
      t = { s with sys := { s.sys with inbox := s.sys.inbox.eraseP fun f => f.1 == m.port } }) ∧
  (∀ (m : MbakinMsg) (s : State), s.up 223 = true → s.nvm.devnum ≠ none → on SYS.CTL_EN 0 s = true →
    (m.ver ≠ 1 ∨ m.type = 0 ∨ 7 < m.type.toNat ∨ 1400 < m.bodyLen.toNat ∨ m.body.length < m.bodyLen.toNat ∨
      (m.dst ≠ none ∧ m.dst.map (·.toNat) ≠ s.nvm.devnum)) →
    ∃ t, exec (.mbakinRx m) s = .next t ∧ Counted SYS.DROP_CNT 0 s t ∧ Raised 182 2 t ∧
      Touches (.mem :: .sys :: signals) [(SYS.DROP_CNT, 0, 0)] s t) ∧
  (∀ (m : MbakinMsg) (s : State), s.up 223 = true → s.nvm.devnum ≠ none → on SYS.CTL_EN 0 s = true → m.ver = 1 →
    m.type ≠ 0 → m.type.toNat ≤ 7 → m.bodyLen.toNat ≤ 1400 → m.bodyLen.toNat ≤ m.body.length →
    (m.dst = none ∨ m.dst.map (·.toNat) = s.nvm.devnum) → m.macOk = false →
    ∃ t, exec (.mbakinRx m) s = .next t ∧ Counted SYS.DROP_CNT 0 s t ∧ Counted SYS.MAC_ERR_CNT 0 s t ∧ Raised 182 2 t ∧
      Raised 182 3 t ∧ Touches (.mem :: .sys :: signals) [(SYS.DROP_CNT, 0, 0), (SYS.MAC_ERR_CNT, 0, 0)] s t) ∧
  (∀ (m : MbakinMsg) (s : State), s.up 223 = true → s.nvm.devnum ≠ none → on SYS.CTL_EN 0 s = true → m.ver = 1 →
    m.type ≠ 0 → m.type.toNat ≤ 7 → m.bodyLen.toNat ≤ 1400 → m.bodyLen.toNat ≤ m.body.length →
    (m.dst = none ∨ m.dst.map (·.toNat) = s.nvm.devnum) → m.macOk = true →
    (s.ptp + rd SYS.TOL_TIME_TOL 0 s * 1000000 < sendingTime m s ∨
      sendingTime m s + rd SYS.TOL_TIME_TOL 0 s * 1000000 < s.ptp) →
    ∃ t, exec (.mbakinRx m) s = .next t ∧ Counted SYS.DROP_CNT 0 s t ∧ Raised 182 2 t ∧
      Touches (.mem :: .sys :: signals) [(SYS.DROP_CNT, 0, 0)] s t) ∧
  (∀ (m : MbakinMsg) (s : State), s.up 223 = true → s.nvm.devnum ≠ none → on SYS.CTL_EN 0 s = true → m.ver = 1 →
    m.type ≠ 0 → m.type.toNat ≤ 7 → m.bodyLen.toNat ≤ 1400 → m.bodyLen.toNat ≤ m.body.length →
    (m.dst = none ∨ m.dst.map (·.toNat) = s.nvm.devnum) → m.macOk = true → sendingTime m s = s.ptp → newerSeq m s = false →
    ∃ t, exec (.mbakinRx m) s = .next t ∧ Raised 182 2 t ∧ (isCopy m s = false → Counted SYS.DROP_CNT 0 s t) ∧
      (isCopy m s = true → rd SYS.DROP_CNT 0 t = rd SYS.DROP_CNT 0 s) ∧
      Touches (.mem :: .sys :: signals) [(SYS.DROP_CNT, 0, 0)] s t) ∧
  (∀ (m : MbakinMsg) (s : State), s.up 223 = true → s.nvm.devnum = some m.src.toNat → on SYS.CTL_EN 0 s = true → m.ver = 1 →
    m.type ≠ 0 → m.type.toNat ≤ 7 → m.bodyLen.toNat ≤ 1400 → m.bodyLen.toNat ≤ m.body.length → m.dst = none →
    m.macOk = true → sendingTime m s = s.ptp → newerSeq m s = true →
    ∃ t, exec (.mbakinRx m) s = .next t ∧ Counted SYS.DROP_CNT 0 s t ∧ Raised 182 4 t ∧
      Touches (.mem :: .sys :: signals) [(SYS.DROP_CNT, 0, 0)] s t) ∧
  (∀ (m : MbakinMsg) (s : State), s.up 223 = true → s.nvm.devnum ≠ none → s.nvm.devnum ≠ some m.src.toNat →
    on SYS.CTL_EN 0 s = true → m.ver = 1 → m.type = 1 → m.bodyLen.toNat ≤ 1400 → m.bodyLen.toNat ≤ m.body.length →
    m.dst = none → m.macOk = true → sendingTime m s = s.ptp → newerSeq m s = true → m.expRole = 0xFF →
    rdx PEER.ALIVE 0 m.src.toNat s = 1 →
    ∃ t, exec (.mbakinRx m) s = .next t ∧ Counted SYS.RX_CNT 0 s t ∧ rdx PEER.ALIVE 0 m.src.toNat t = 1 ∧
      rdx PEER.ROLE 0 m.src.toNat t = m.role.toNat % 8 ∧ rdx PEER.PAIR_ID 0 m.src.toNat t = m.pairId.toNat ∧
      rdx PEER.SCORE 0 m.src.toNat t = m.score.toNat ∧ rdx PEER.EPOCH 0 m.src.toNat t = m.epoch.toNat ∧
      (rdx PEER.FR_OK 0 m.src.toNat t = 1 ↔ m.frAligned = true ∧ m.frame = sendingTime m s / 125000) ∧
      Tbl.get 0 t.sys.lastSeq m.src.toNat = m.seq.toNat * 32 + m.port + 1 ∧
      Tbl.get 0 t.sys.heard m.src.toNat = s.clk + 1 ∧
      (rdx PEER.FR_OK 0 m.src.toNat t = 0 → Counted SYS.PHASE_ERR_CNT 0 s t ∧ Raised 182 8 t) ∧
      Touches (.mem :: .sys :: signals) [(SYS.RX_CNT, 0, 0), (SYS.PHASE_ERR_CNT, 0, 0), (PEER.ALIVE, 0, m.src.toNat),
        (PEER.ROLE, 0, m.src.toNat), (PEER.PAIR_ID, 0, m.src.toNat), (PEER.SCORE, 0, m.src.toNat),
        (PEER.EPOCH, 0, m.src.toNat), (PEER.FR_OK, 0, m.src.toNat)] s t) ∧
  (∀ (m : MbakinMsg) (s : State), s.up 223 = true → s.nvm.devnum ≠ none → s.nvm.devnum ≠ some m.src.toNat →
    on SYS.CTL_EN 0 s = true → m.ver = 1 → m.type = 3 → m.bodyLen.toNat ≤ 1400 → m.bodyLen.toNat ≤ m.body.length →
    m.dst = none → m.macOk = true → sendingTime m s = s.ptp → newerSeq m s = true → wrongRole m s = true →
    rd SYS.PORTS 0 s = 0 →
    ∃ t, exec (.mbakinRx m) s = .next t ∧ Counted SYS.RX_CNT 0 s t ∧ Counted SYS.TX_CNT 0 s t ∧
      Counted SYS.MISMATCH_TX_CNT 0 s t ∧ Raised 182 5 t ∧
      t.sys.last.map (fun x => (x.type, x.dst, x.body)) =
        some (7, some m.src.toNat, wordsBytes [role s, rd PAR.EPOCH 0 s])) ∧
  (∀ (m : MbakinMsg) (s : State), s.up 223 = true → s.nvm.devnum ≠ none → s.nvm.devnum ≠ some m.src.toNat →
    on SYS.CTL_EN 0 s = true → m.ver = 1 → m.type = 3 → m.bodyLen.toNat ≤ 1400 → m.bodyLen.toNat ≤ m.body.length →
    m.dst = none → m.macOk = true → sendingTime m s = s.ptp → newerSeq m s = true → wrongRole m s = false →
    rd SYS.PORTS 0 s = 0 →
    ∃ t, exec (.mbakinRx m) s = .next t ∧ Counted SYS.RX_CNT 0 s t ∧ Counted SYS.TX_CNT 0 s t ∧
      t.sys.last.map (fun x => (x.type, x.dst, x.body)) =
        some (4, some m.src.toNat, wordsBytes [role s, rd PAR.EPOCH 0 s, rd PAR.CTL_PMODE 0 s, rd PAR.CTL_HOME 0 s])) ∧
  (∀ (s : State), s.up 223 = true → (on SYS.CTL_EN 0 s = false ∨ s.nvm.devnum = none) →
    ∃ t, exec .mbakinHeartbeatSend s = .next t ∧ t = s) ∧
  (∀ (s : State), s.up 223 = true → on SYS.CTL_EN 0 s = true → s.nvm.devnum ≠ none → rd SYS.PORTS 0 s = 0 →
    ∃ t, exec .mbakinHeartbeatSend s = .next t ∧ t.clk = max s.clk (s.sys.lastHb + rd SYS.CTL_HB_MS 0 s * 1000000) ∧
      t.sys.lastHb = t.clk ∧ t.sys.seq = (s.sys.seq + 1) % 65536 ∧ Counted SYS.TX_CNT 0 s t ∧
      t.sys.last.map (fun x => (x.type, x.dst, x.seq, x.role)) = some (1, none, s.sys.seq, role s) ∧
      Touches [.mem, .pmu, .clk, .ptp, .ptpFrac, .tim, .sys] [(SYS.TX_CNT, 0, 0)] s t) ∧
  (∀ (p : BitVec 10) (s : State), s.up 223 = true → rdx PEER.ALIVE 0 p.toNat s = 1 →
    ∃ t, exec (.peerLost p) s = .next t ∧ rdx PEER.ALIVE 0 p.toNat t = 0 ∧ Counted SYS.PEER_LOST_CNT 0 s t ∧ Raised 182 0 t ∧
      t.clk = max s.clk (Tbl.get 0 s.sys.heard p.toNat - 1 + rd SYS.CTL_HB_MISS 0 s * rd SYS.CTL_HB_MS 0 s * 1000000) ∧
      Touches (.mem :: .clk :: .ptp :: .ptpFrac :: .tim :: signals) [(PEER.ALIVE, 0, p.toNat), (SYS.PEER_LOST_CNT, 0, 0)] s t) ∧
  (∀ (w : Word) (s : State), s.up 223 = true → maskHas w.toNat 31 = true → s.nvm.devnum = none →
    ∃ t, exec (.sysCtlWrite w) s = .next t ∧ on SYS.CTL_EN 0 t = true ∧ Raised 182 10 t) ∧
  (∀ (w : Word) (s : State), s.up 223 = true → s.nvm.devnum ≠ none → 2 ≤ w.toNat / 2 ^ 8 % 2 ^ 4 → w.toNat % 2 ^ 8 ≠ 0 →
    w.toNat / 2 ^ 12 % 2 ^ 12 < 4095 →
    ∃ t, exec (.sysCtlWrite w) s = .next t ∧ rd SYS.CTL_EN 0 t = w.toNat / 2 ^ 31 ∧
      rd SYS.CTL_RELAY_EN 0 t = w.toNat / 2 ^ 30 % 2 ∧ rd SYS.CTL_PCP 0 t = w.toNat / 2 ^ 27 % 2 ^ 3 ∧
      rd SYS.CTL_VID 0 t = w.toNat / 2 ^ 12 % 2 ^ 12 ∧ rd SYS.CTL_HB_MISS 0 t = w.toNat / 2 ^ 8 % 2 ^ 4 ∧
      rd SYS.CTL_HB_MS 0 t = w.toNat % 2 ^ 8 ∧ t.ev = s.ev) ∧
  (∀ (w : Word) (s : State), s.up 223 = true → privileged s = true → rd SYS.KEY_IDX_WORD 0 s = 3 →
    ∃ t, exec (.sysKeyCommit w) s = .next t ∧
      t.sys.key = Tbl.get 0 s.sys.stage 0 * 2 ^ 96 + Tbl.get 0 s.sys.stage 1 * 2 ^ 64 + Tbl.get 0 s.sys.stage 2 * 2 ^ 32 +
        w.toNat ∧ t.sys = { s.sys with key := t.sys.key } ∧ Touches [.mem, .sys] [(SYS.KEY_IDX_WORD, 0, 0)] s t) ∧
  (∀ (w : Word) (s : State), s.up 223 = true → privileged s = true → rd SYS.KEY_IDX_WORD 0 s ≠ 3 →
    on SYS.KEY_IDX_AUTO_INC 0 s = true →
    ∃ t, exec (.sysKeyCommit w) s = .next t ∧ t.sys.key = s.sys.key ∧
      Tbl.get 0 t.sys.stage (rd SYS.KEY_IDX_WORD 0 s) = w.toNat ∧ rd SYS.KEY_IDX_WORD 0 t = rd SYS.KEY_IDX_WORD 0 s + 1) ∧
  (∀ (w : Word) (s : State), s.up 223 = true → privileged s = false →
    ∃ t, exec (.sysKeyCommit w) s = .next t ∧ t.sys = s.sys ∧ Counted CMD.GUARD_CNT 0 s t ∧ Raised 183 4 t ∧
      Touches (.cmd :: .mem :: signals) [(CMD.GUARD_CNT, 0, 0)] s t)

/-- R3, R366, R368, R389, R426, R434: the USB4 port. The link comes up from lane initialisation at Gen 4 or, with a cause more, Gen 3; a host
that offers Gen 2 is refused; the loss of the tunnel closes every session, ends privilege, counts and raises cause 18; USB4_EN
written 0 takes the link down, 1 with the port's islands released starts it. With the link up the host finds
the endpoint of R426, whose Subsystem ID tells the variants apart. -/
def Obligations.PortLink : Prop :=
  (∀ (g : Bool) (s : State), s.up 223 = true → s.cmd.link = 1 →
    ∃ t, exec (.usb4LinkUp g) s = .next t ∧ t.cmd = { s.cmd with link := if g then 3 else 2 } ∧ Raised 183 17 t ∧
      (g = false → Raised 183 19 t) ∧
      hostSees t = some {
        vendor := 0x1F5B, device := 0x4850, subVendor := 0x1F5B
        subsystem := if Config.variantE then 1 else 0, class_ := 0x028000, revision := 1 } ∧
      Touches (.cmd :: signals) [] s t) ∧
  (∀ (g : Bool) (s : State), s.up 223 = true → s.cmd.link ≠ 1 → ∃ t, exec (.usb4LinkUp g) s = .next t ∧ t = s) ∧
  (∀ (s : State), s.up 223 = true → s.cmd.link = 1 →
    ∃ t, exec .usb4LinkRefused s = .next t ∧ t.cmd = { s.cmd with link := 0 } ∧ Raised 183 20 t ∧ hostSees t = none ∧
      Touches (.cmd :: signals) [] s t) ∧
  (∀ (down : Bool) (i : Fin 4) (s : State), s.up 223 = true → 2 ≤ s.cmd.link →
    ∃ t, exec (.tunnelLoss down) s = .next t ∧ (t.session i).state = .closed ∧
      ((s.session i).state ≠ .closed → (t.session i).waiting = [] ∧ (t.session i).fifo = []) ∧ t.cmd.priv = false ∧
      t.cmd.link = (if down then (if usb4Enabled s && usb4Islands s then 1 else 0) else s.cmd.link) ∧
      Counted CMD.LINK_DOWN_CNT 0 s t ∧ Raised 183 18 t) ∧
  (∀ (s : State), s.up 223 = true → s.cmd.link < 2 → ∃ t, exec (.tunnelLoss false) s = .next t ∧ t = s) ∧
  (∀ (s : State), s.up 223 = true → s.cmd.link = 0 → usb4Islands s = true →
    ∃ t, exec (.usb4EnWrite 1) s = .next t ∧ rd CMD.CTL_USB4_EN 0 t = 1 ∧ t.cmd = { s.cmd with link := 1 } ∧
      Touches [.mem, .cmd] [(CMD.CTL_USB4_EN, 0, 0)] s t) ∧
  (∀ (s : State), s.up 223 = true → s.nvm.state ≠ 4 →
    ∃ t, exec (.usb4EnWrite 0) s = .next t ∧ rd CMD.CTL_USB4_EN 0 t = 0 ∧ t.cmd.link = 0 ∧
      (2 ≤ s.cmd.link → t.cmd.priv = false ∧ Counted CMD.LINK_DOWN_CNT 0 s t ∧ Raised 183 18 t ∧
        (t.session 0).state = .closed))

/-- R43, R49, R52, R95, R96, R279: the start of a downstream frame. It takes the number after the last one started, or the frame timebase's, and
the frame built for that number, and none where none was built for it; RUN sends it as a frame, or one with an empty header; where the
transmitter does not run it is not sent and what was dequeued for it is lost. Rogue control takes CTL and ROGUE_CFG, and SMK_EN = 0 ends
a smoker that runs. -/
def Obligations.FrameStart : Prop :=
  (∀ (n : Fin 48) (s : State), s.up (framingIsland n) = true → s.pair.pendingRole = none → (s.fram n).built = none →
    ∃ t, exec (.frameStart n) s = .next t ∧ (t.fram n).frame = startingFrame n s ∧ (t.fram n).started = true ∧
      (t.fram n).cur = none ∧ (t.fram n).cwSent = 0 ∧ rd TFR.STS_DS_STATE n t = 0 ∧
      t.clk = (passToFrame (frameT0 (startingFrame n s)) s).clk ∧
      (t.actOf n).ctlWord = rdWord .act n 0 0 s ∧ (t.actOf n).rogueWord = rdWord .act n 0 3 s ∧
      (t.actOf n).smkStop = ((s.actOf n).smkStop || (bitsOf (BitVec.ofNat 32 (s.actOf n).ctlWord) 6 6 == 1 &&
        !on ACT.CTL_SMK_EN n s && (s.actOf n).smoker.isSome))) ∧
  (∀ (n : Fin 48) (b : Built) (s : State), s.up (framingIsland n) = true → s.pair.pendingRole = none →
    (s.fram n).built = some b → b.frame = startingFrame n s → rd TLN.STS_TX_STATE n s = 2 → testing n s = false →
    ∃ t, exec (.frameStart n) s = .next t ∧ (t.fram n).frame = b.frame ∧ (t.fram n).started = true ∧
      (t.fram n).cur = some b ∧ (t.fram n).built = none ∧ (t.fram n).substituting = false ∧
      rd TFR.STS_DS_STATE n t = (if b.emptyHeader then 1 else 2) ∧ rd TFR.STS_MAP_VOID n t = (if b.void then 1 else 0)) ∧
  (∀ (n : Fin 48) (b : Built) (s : State), s.up (framingIsland n) = true → s.pair.pendingRole = none →
    (s.fram n).built = some b → b.frame = startingFrame n s → (rd TLN.STS_TX_STATE n s ≠ 2 ∨ testing n s = true) →
    (s.fram n).cur = none →
    ∃ t, exec (.frameStart n) s = .next t ∧ (t.fram n).frame = b.frame ∧ (t.fram n).cur = none ∧ (t.fram n).built = none ∧
      rd TFR.STS_DS_STATE n t = 0 ∧
      rd TFR.DQ_LOST_CNT n t = min (rd TFR.DQ_LOST_CNT n s + (s.fram n).xgems.length) (2 ^ 32 - 1) ∧
      ((s.fram n).xgems ≠ [] → Raised n 2 t))

/-- R8, R309, R322, R325 to R328, R419, R420: resets and feeds. POWER_ON, a RESET_N pulse of 10 µs or more and RST.CMD OP 0b11 are
cold resets: every island is in reset, every word but the flash, the fuses and their shadow at its reset value. A shorter pulse is
counted and raises cause 6, one below 100 ns does nothing. A warm reset counts, leaves the sentinel's islands running and goes back to
phase 1; both want privilege. A feed lost beside the other raises its cause, both lost reset every island; the core feed lost resets the
core islands and gives up control. -/
def Obligations.ResetsAndFeeds : Prop :=
  (∀ (a b : Bool) (i : Fin 226) (s : State), powered s = false → (a || b) = true →
    ∃ t, exec (.powerOn a b) s = .next t ∧ ClearedBut [.flash, .otpFuse, .otpSh] s t ∧ t.up i = false ∧
      (t.island i).held = false ∧ t.rst.feedA = a ∧ t.rst.feedB = b ∧ t.rst.phase = 0 ∧ t.rst.lastClass = 0 ∧
      t.rst.cold = true ∧ t.ptp = 0 ∧ t.cmd = {} ∧ t.sess = [] ∧ t.rst.fuseValid = false) ∧
  (∀ (a b : Bool) (s : State), (powered s = true ∨ (a || b) = false) → ∃ t, exec (.powerOn a b) s = .next t ∧ t = s) ∧
  (∀ (w : Nat) (k : Bool) (i : Fin 226) (s : State), powered s = true → 10000 ≤ w →
    ∃ t, exec (.resetNPulse w k) s = .next t ∧ ClearedBut [.flash, .otpFuse, .otpSh] s t ∧ t.up i = false ∧
      t.rst.lastClass = 1 ∧ t.rst.phase = 0 ∧ t.rst.cold = true ∧ t.rst.feedA = s.rst.feedA ∧ t.rst.feedB = s.rst.feedB ∧
      t.rst.fuseValid = s.rst.fuseValid ∧ t.rst.fuse = s.rst.fuse ∧ t.clk = s.clk + w) ∧
  (∀ (w : Nat) (k : Bool) (s : State), powered s = true → 100 ≤ w → w < 2000 →
    ∃ t, exec (.resetNPulse w k) s = .next t ∧ t.clk = s.clk + w ∧ Counted RST.GLITCH_CNT 0 s t ∧ Raised 185 6 t ∧
      t.islands = s.islands ∧ Touches (.clk :: .ptp :: .ptpFrac :: .tim :: .mem :: signals) [(RST.GLITCH_CNT, 0, 0)] s t) ∧
  (∀ (w : Nat) (k : Bool) (s : State), w < 100 →
    ∃ t, exec (.resetNPulse w k) s = .next t ∧ t.clk = s.clk + w ∧ Touches [.clk, .ptp, .ptpFrac, .tim, .pmu] [] s t) ∧
  (∀ (i : Fin 226) (s : State), s.up 224 = true → privileged s = true → s.rst.phase ≠ 0 → s.rst.blockDue = none →
    ∃ t, exec .rstWarm s = .next t ∧ Counted RST.WARM_CNT 0 s t ∧ t.rst.phase = 1 ∧ t.rst.lastClass = 3 ∧ t.rst.cold = false ∧
      t.up i = (s.up i && phaseOf i == 0) ∧ t.clk = s.clk) ∧
  (∀ (s : State), s.up 224 = true → privileged s = false → s.rst.blockDue = none →
    ∃ t, exec .rstWarm s = .next t ∧ Counted CMD.GUARD_CNT 0 s t ∧ Raised 183 4 t ∧ t.islands = s.islands ∧
      Touches (.cmd :: .mem :: signals) [(CMD.GUARD_CNT, 0, 0)] s t) ∧
  (∀ (i : Fin 226) (s : State), s.up 224 = true → privileged s = true →
    ∃ t, exec .rstCold s = .next t ∧ ClearedBut [.flash, .otpFuse, .otpSh] s t ∧ t.up i = false ∧ t.rst.lastClass = 2 ∧
      t.rst.phase = 0 ∧ t.rst.cold = true) ∧
  (∀ (f : Fin 2) (s : State), s.rst.feedA = true → s.rst.feedB = true →
    ∃ t, exec (.sentinelFeedLoss f) s = .next t ∧ feedUp f t = false ∧ feedUp (1 - f) t = true ∧ Raised 186 (2 * f) t ∧
      t.islands = s.islands ∧ Touches (.rst :: signals) [] s t) ∧
  (∀ (i : Fin 226) (s : State), s.rst.feedA = true → s.rst.feedB = false →
    ∃ t, exec (.sentinelFeedLoss 0) s = .next t ∧ powered t = false ∧ t.up i = false ∧ (t.island i).held = false ∧
      t.rst.lastClass = 5 ∧ t.tim.copy = none) ∧
  (∀ (f : Fin 2) (s : State), feedUp f s = false → feedUp (1 - f) s = true →
    ∃ t, exec (.sentinelFeedReturn f) s = .next t ∧ feedUp f t = true ∧ Raised 186 (2 * f + 1) t ∧
      Touches (.rst :: signals) [] s t) ∧
  (∀ (f : Fin 2) (s : State), powered s = false →
    ∃ t, exec (.sentinelFeedReturn f) s = .next t ∧ feedUp f t = true ∧ Raised 186 (2 * f + 1) t ∧ t.rst.phase = 0 ∧
      t.rst.lastClass = 5 ∧ Counted RST.WARM_CNT 0 s t) ∧
  (∀ (i : Fin 226) (s : State), powered s = true → s.rst.coreGood = true →
    ∃ t, exec .coreFeedLoss s = .next t ∧ t.rst.coreGood = false ∧ t.up i = (s.up i && onSentinelFeeds i) ∧
      Raised 186 4 t ∧ roleActive t = false) ∧
  (∀ (s : State), powered s = true → s.rst.coreGood = false → s.rst.coreEver = true → s.rst.phase ≠ 0 →
    ∃ t, exec .coreFeedReturn s = .next t ∧ t.rst.coreGood = true ∧ t.rst.lastClass = 4 ∧ t.rst.phase = 1 ∧
      Counted RST.WARM_CNT 0 s t) ∧
  (∀ (s : State), s.rst.coreGood = true → ∃ t, exec .coreFeedReturn s = .next t ∧ t = s) ∧
  (∀ (out : Bool) (s : State),
    ∃ t, exec (.coreFeedRangeChange out) s = .next t ∧ t = { s with rst := { s.rst with coreOutOfBand := out } }) ∧
  (∀ (ok : Bool) (s : State), s.up 222 = false → s.rst.refclk = true → s.rst.phase ≤ 4 → ok = false →
    ∃ t, exec (.refclkCheck ok) s = .next t ∧ t.rst.refclk = false ∧ t.rst.stallAt = none ∧
      (s.up 223 = false → t.rst.refclkFrom = some (s.rst.refclkFrom.getD s.clk)) ∧ Touches [.rst] [] s t) ∧
  (∀ (ok : Bool) (s : State), s.up 222 = false → s.rst.refclk = false → 1 ≤ s.rst.phase → s.rst.phase ≤ 4 → ok = true →
    ∃ t, exec (.refclkCheck ok) s = .next t ∧ t = { s with rst := { s.rst with
      refclk := true, stallAt := some (s.clk + rd RST.CTL_STALL_MS 0 s * 1000000) } })

/-- R20, R328, R329, R331, R332, R335, R336, R338, R428, R429: islands and pins. An island of the phase in progress is released at its
clock-good and no other changes; one without clock-good for STALL_MS is held, counted and raises cause 5; one whose clock-good drops
re-enters reset, counts as a relapse and is held at the limit; a block reset is a command with refusals of its own, as is the release
of a held island. The fuse codes enter the latch and leave it with the rail; an override wants TEST and privilege. The thermal
limits raise their causes, and the trip gives up control. -/
def Obligations.IslandsAndPins : Prop :=
  (∀ (i j : Fin 226) (f : BitVec 16) (s : State), mayRelease i f.toNat s = true →
    ∃ t, exec (.islandRelease i f) s = .next t ∧ t.up i = true ∧ (t.island i).clkGood = true ∧ (t.island i).pllLock = true ∧
      (t.island i).freqErr = f.toNat ∧ (j ≠ i → t.up j = s.up j) ∧ ((s.island i).blockReset = true → Raised 185 3 t)) ∧
  (∀ (i : Fin 226) (f : BitVec 16) (s : State), mayRelease i f.toNat s = false →
    ∃ t, exec (.islandRelease i f) s = .next t ∧ t = s) ∧
  (∀ (i : Fin 226) (e : Nat) (s : State), s.up 224 = true → s.rst.stallAt = some e → phaseOf i = s.rst.phase →
    s.up i = false → held i s = false → (s.island i).clkGood = false → i.val ≠ 160 → i.val ≠ 162 →
    ∃ t, exec (.phaseStall i) s = .next t ∧ held i t = true ∧ t.up i = false ∧ Counted RST.HOLD_CNT 0 s t ∧ Raised 185 5 t ∧
      t.clk = max s.clk e) ∧
  (∀ (i : Fin 226) (s : State), s.up 224 = true → s.rst.stallAt = none → ∃ t, exec (.phaseStall i) s = .next t ∧ t = s) ∧
  (∀ (i j : Fin 226) (pll : Bool) (f : BitVec 16) (s : State), powered s = true → i.val ≠ 224 → s.up i = true →
    (pll = true ∨ freqGood f.toNat = false) →
    ∃ t, exec (.clockGoodDrop i pll f) s = .next t ∧ t.up i = false ∧ (t.island i).clkGood = false ∧
      (pll = true → (t.island i).pllLock = false) ∧ (j ≠ i → t.up j = s.up j) ∧ Counted RST.RELAPSE_CNT 0 s t ∧ Raised 185 4 t ∧
      (rd RST.CTL_RELAPSE_LIMIT 0 s ≤ 1 → held i t = true ∧ Raised 185 5 t)) ∧
  (∀ (i : Fin 226) (pll : Bool) (f : BitVec 16) (s : State),
    (powered s = false ∨ i.val = 224 ∨ (pll = false ∧ freqGood f.toNat = true)) →
    ∃ t, exec (.clockGoodDrop i pll f) s = .next t ∧ t = s) ∧
  (∀ (n : Fin 48) (s : State), (s.island n).pllLock = true → s.up n = true →
    ∃ t, exec (.txPllUnlock n) s = .next t ∧ t.up n = false ∧ (t.island n).pllLock = false ∧ Raised (48 + n) 8 t ∧
      Raised 185 4 t ∧ Counted CLK.LOCKLOSS_CNT 0 s t ∧ t.pair.pllUnlock = some s.clk) ∧
  (∀ (n : Fin 48) (s : State), (s.island n).pllLock = false → ∃ t, exec (.txPllUnlock n) s = .next t ∧ t = s) ∧
  (∀ (i : BitVec 8) (j : Fin 226) (s : State), s.up 224 = true → privileged s = true → s.rst.blockDue = none → i.toNat < 226 →
    i.toNat ≠ 224 → blockWaits i.toNat = false → s.up i.toNat = true →
    ∃ t, exec (.rstBlock i) s = .next t ∧ t.up i.toNat = false ∧ (t.island i.toNat).blockReset = true ∧
      (j.val ≠ i.toNat → t.up j = s.up j) ∧ Counted RST.BLOCK_CNT 0 s t ∧ Raised 185 2 t ∧ rd RST.CMD_ERR 0 t = 0) ∧
  (∀ (i : BitVec 8) (s : State), s.up 224 = true → privileged s = true → s.up i.toNat = true → blockWaits i.toNat = true →
    ∃ t, exec (.rstBlock i) s = .next t ∧ t.up i.toNat = false ∧ (t.island i.toNat).blockReset = true ∧
      Counted RST.BLOCK_CNT 0 s t ∧ Raised 185 2 t) ∧
  (∀ (i : BitVec 8) (s : State), s.up 224 = true → privileged s = true → s.rst.blockDue = none → 224 = i.toNat ∨ 225 < i.toNat →
    ∃ t, exec (.rstBlock i) s = .next t ∧ t.islands = s.islands ∧ rd RST.CMD_ERR 0 t = 1 ∧
      rd RST.CMD_ERRCODE 0 t = (if 225 < i.toNat then 2 else 1) ∧ Raised 185 9 t) ∧
  (∀ (i : BitVec 8) (s : State), s.up 224 = true → privileged s = true → s.rst.blockDue = none → i.toNat < 226 →
    ∃ t, exec (.rstReleaseHeld i) s = .next t ∧ held i.toNat t = false ∧
      (held i.toNat s = true → t.islands = Tbl.set {} s.islands i.toNat { s.island i.toNat with held := false, relapses := [] } ∧
        rd RST.CMD_ERR 0 t = 0 ∧ t.ev = s.ev) ∧
      (held i.toNat s = false → t.islands = s.islands ∧ rd RST.CMD_ERRCODE 0 t = 3 ∧ Raised 185 9 t)) ∧
  (∀ (s : State), s.up 224 = true → s.rst.io18 = true → s.rst.fuseValid = false → 4 < s.rst.phase →
    (∀ p, p < 1020 → fuseCode p s < 5) →
    ∃ t, exec .fuseMapLatch s = .next t ∧ t.rst.fuseValid = true ∧ (∀ p, p < 1020 → Tbl.get 0 t.rst.fuse p = fuseCode p s) ∧
      Touches [.rst] [] s t) ∧
  (∀ (s : State), s.up 224 = true → (s.rst.io18 = false ∨ s.rst.fuseValid = true) →
    ∃ t, exec .fuseMapLatch s = .next t ∧ t = s) ∧
  (∀ (s : State), ∃ t, exec .ioRailLoss s = .next t ∧
    t = { s with rst := { s.rst with io18 := false, fuseValid := false, fuse := [] } }) ∧
  (∀ (s : State), (s.up 224 = false ∨ s.rst.fuseValid = true) →
    ∃ t, exec .ioRailReturn s = .next t ∧ t = { s with rst := { s.rst with io18 := true } }) ∧
  (∀ (s : State), s.up 224 = true → s.rst.fuseValid = false → 4 < s.rst.phase → (∀ p, p < 1020 → fuseCode p s < 5) →
    ∃ t, exec .ioRailReturn s = .next t ∧ t.rst.io18 = true ∧ t.rst.fuseValid = true ∧
      ∀ p, p < 1020 → Tbl.get 0 t.rst.fuse p = fuseCode p s) ∧
  (∀ (w : Word) (s : State), s.up 224 = true → privileged s = true → roleTest s = true → w.toNat % 8 ≤ 4 →
    ∃ t, exec (.pinOverride w) s = .next t ∧
      Tbl.get 0 t.rst.overrides (rd RST.PIN_IDX_PIN 0 s) = (if maskHas w.toNat 31 then w.toNat % 8 + 1 else 0) ∧ t.ev = s.ev ∧
      Touches [.mem, .rst] [(RST.PIN_OVR_OVR_EN, 0, 0), (RST.PIN_OVR_OVR, 0, 0)] s t) ∧
  (∀ (w : Word) (s : State), s.up 224 = true → privileged s = true → roleTest s = false → w.toNat % 8 ≤ 4 →
    maskHas w.toNat 31 = true →
    ∃ t, exec (.pinOverride w) s = .next t ∧ t.rst = s.rst ∧ Raised 185 10 t ∧ Touches (.cmd :: signals) [] s t) ∧
  (∀ (l : List Int) (s : State), s.up 224 = true → l = [20, 21] → s.rst.badSensors = [] → s.rst.overTemp = false →
    ∃ t, exec (.thermalSample l) s = .next t ∧ t = { s with rst := { s.rst with warnTemp := false, underTemp := false } }) ∧
  (∀ (l : List Int) (s : State), s.up 224 = true → l = [108, 109] → s.rst.badSensors = [] → s.rst.overTemp = false →
    s.rst.warnTemp = false →
    ∃ t, exec (.thermalSample l) s = .next t ∧ t.rst.overTemp = true ∧ t.rst.warnTemp = true ∧ Raised 187 0 t ∧ Raised 187 1 t ∧
      Touches (.rst :: signals) [] s t) ∧
  (∀ (s : State), powered s = true → s.rst.thermTrip = false →
    ∃ t, exec .thermalTrip s = .next t ∧ t.rst.thermTrip = true ∧ roleActive t = false ∧
      t.ev.pending.any (fun e => e.1 == 187 && e.2.1 == 5) = true) ∧
  (∀ (s : State), (powered s = false ∨ s.rst.thermTrip = true) → ∃ t, exec .thermalTrip s = .next t ∧ t = s)

/-- R316, R344, R348, R350 to R358, R378, R390, R435: the start from the image. The shadow takes the fuses and gives the device number;
discovery sets the order of the check; a slot that passes becomes the running one and its runs are to be applied, one that fails raises
cause 2, the last one the device's hold; a run starts once its island is released, and after the last the start is done. A record,
whatever register and words it names, writes, streams, modifies, waits for, decrypts or loads what its words say, and one that breaks
R351 fails its run; END opens the island where the run's tag holds, else the
run fails and its island is held. -/
def Obligations.ImageStart : Prop :=
  (∀ (w : Fin 512) (s : State), s.up 225 = true → s.nvm.needShadow = true →
    ∃ t, exec .otpShadowLoaded s = .next t ∧ shWord w t = fuseWord w s ∧ fuseWord w t = fuseWord w s ∧
      t.nvm.needShadow = false ∧
      t.nvm.devnum = (if 2 ^ 31 ≤ fuseWord 2 s then some (fuseWord 2 s % 1024) else none) ∧
      rd CMD.CTL_USB4_EN 0 t = 1 - setting 5 1 1 t ∧ (nextGen t = none → Raised 184 11 t)) ∧
  (∀ (s : State), s.up 225 = true → s.nvm.needShadow = false → ∃ t, exec .otpShadowLoaded s = .next t ∧ t = s) ∧
  (∀ (good : Bool) (s : State), s.up 225 = true → s.nvm.needShadow = false → s.nvm.needDiscovery = true → s.nvm.state = 0 →
    s.nvm.order = [] →
    ∃ t, exec (.flashDiscoveryDone good) s = .next t ∧ t.nvm.state = 1 ∧ t.nvm.needDiscovery = false ∧
      rd NVM.CTL_NEXT_SLOT 0 t = 0 ∧ (good = false → t.nvm.octal = false) ∧
      t.nvm.check.map (fun c => (c.slots, c.boot, c.arb, c.readFailed)) =
        some (if s.rst.cold = false ∧ rd NVM.CTL_NEXT_SLOT 0 s = 2 then [1, 0] else [0, 1], false, arbValue s, false) ∧
      t.nvm.image = s.nvm.image) ∧
  (∀ (slot : Nat) (rest : List Nat) (c : CheckNow) (s : State), s.up 225 = true → s.nvm.check = some c →
    c.slots = slot :: rest → c.boot = false → slot < 2 →
    ∃ t, exec .slotCheckDone s = .next t ∧
      (if slot = 0 then t.nvm.resA else t.nvm.resB) = slotResult slot c.arb c.readFailed s ∧
      (slotResult slot c.arb c.readFailed s = 1 → t.nvm.check = none ∧ t.nvm.state = 2 ∧ t.nvm.slot = slot ∧
        t.nvm.image = some (imageCopy slot s) ∧ t.nvm.todo = directory slot s) ∧
      (slotResult slot c.arb c.readFailed s ≠ 1 → Raised 184 2 t ∧ t.nvm.image = s.nvm.image ∧
        (rest = [] → t.nvm.check = none ∧ t.nvm.state = 4 ∧ Raised 184 3 t ∧ Raised 185 8 t) ∧
        (rest ≠ [] → t.nvm.check = some { c with slots := rest, arb := arbValue s, readFailed := false }))) ∧
  (∀ (slot : Fin 2) (len arb e : Nat) (s : State), s.up 225 = true → s.nvm.check = none → s.nvm.flashHeld = none →
    s.nvm.flashOp = some { op := 3, slot := slot, addr := 0, len := len, since := some e, arb := arb } →
    ∃ t, exec .slotCheckDone s = .next t ∧
      (if slot = 0 then t.nvm.resA else t.nvm.resB) = slotResult slot arb false s ∧ t.nvm.flashOp = none ∧
      rd NVM.CMD_GO 0 t = 0 ∧ rd NVM.CMD_ERR 0 t = 0 ∧ (slotResult slot arb false s ≠ 1 → Raised 184 2 t)) ∧
  (∀ (s : State), s.up 225 = true → s.nvm.check = none → s.nvm.flashOp = none → ∃ t, exec .slotCheckDone s = .next t ∧ t = s) ∧
  (∀ (e : DirEntry) (rest : List DirEntry) (m : ImageCopy) (s : State), s.up 225 = true → s.nvm.run = none → s.nvm.flashOp = none →
    s.nvm.image = some m → nextReplay s = none → s.nvm.todo = e :: rest → passedOver e s = false →
    ∃ t, exec .runApply s = .next t ∧ (s.up e.island = false → t = s) ∧
      (s.up e.island = true → t = { s with nvm := { s.nvm with
        todo := rest, run := some { entry := e, pos := e.ofs, replay := false, skips := s.nvm.again.contains e.island, wait := none } } })) ∧
  (∀ (m : ImageCopy) (s : State), s.up 225 = true → s.nvm.run = none → s.nvm.flashOp = none → s.nvm.image = some m →
    nextReplay s = none → s.nvm.todo = [] → s.nvm.state = 2 →
    ∃ t, exec .runApply s = .next t ∧ t.nvm.state = 3 ∧ Counted NVM.BOOT_CNT 0 s t ∧ Raised 184 s.nvm.slot t ∧
      t.pair.imageApplied = true) ∧
  (∀ (r : RunNow) (a b : Nat) (s : State), s.up 225 = true → s.up 223 = true → s.nvm.run = some r → r.wait = none →
    s.rst.blockDue = none → recordHere r s = some (1, 0x42010, [a, b]) → a < 2 ^ 16 → b < 2 ^ 32 →
    ∃ t, exec .recordWrite s = .next t ∧ rd SYS.GRP_MAC_HI_MAC_HI 0 t = a ∧ rd SYS.GRP_MAC_LO 0 t = b ∧
      t.nvm = { s.nvm with run := some { r with pos := r.pos + 16 } } ∧
      Touches [.mem, .nvm, .cmd] [(SYS.GRP_MAC_HI_MAC_HI, 0, 0), (SYS.GRP_MAC_LO, 0, 0)] s t) ∧
  (∀ (r : RunNow) (a b : Nat) (s : State), s.up 225 = true → s.up 223 = true → s.nvm.run = some r → r.wait = none →
    s.rst.blockDue = none → recordHere r s = some (2, 0x42024, [a, b]) → a < 2 ^ 32 → b < 2 ^ 32 →
    on SYS.KEY_IDX_AUTO_INC 0 s = true → rd SYS.KEY_IDX_WORD 0 s = 0 →
    ∃ t, exec .recordStream s = .next t ∧ Tbl.get 0 t.sys.stage 0 = a ∧ Tbl.get 0 t.sys.stage 1 = b ∧
      rd SYS.KEY_IDX_WORD 0 t = 2 ∧ t.nvm = { s.nvm with run := some { r with pos := r.pos + 16 } } ∧
      Touches [.mem, .nvm, .cmd, .sys] [(SYS.KEY_IDX_WORD, 0, 0)] s t) ∧
  (∀ (r : RunNow) (m v : Nat) (s : State), s.up 225 = true → s.up 223 = true → s.nvm.run = some r → r.wait = none →
    s.rst.blockDue = none → recordHere r s = some (3, 0x42008, [m, v]) →
    ∃ t, exec .recordModify s = .next t ∧
      (∀ j, j < 32 → maskHas (rd SYS.PORTS 0 t) j = (if maskHas m j then maskHas v j else maskHas (rd SYS.PORTS 0 s) j)) ∧
      t.nvm = { s.nvm with run := some { r with pos := r.pos + 16 } } ∧ Touches [.mem, .nvm, .cmd] [(SYS.PORTS, 0, 0)] s t) ∧
  (∀ (r : RunNow) (m v n : Nat) (s : State), s.up 225 = true → s.up 223 = true → s.nvm.run = some r → r.wait = none →
    recordHere r s = some (4, 0x42008, [m, v, n]) →
    ∃ t, exec .recordWait s = .next t ∧
      t.nvm = { s.nvm with run := some { r with
        pos := r.pos + 20, wait := if rd SYS.PORTS 0 s &&& m = v then none else some { ofs := 0x42008, mask := m, value := v, until_ := s.clk + n * 1000, next := s.clk + 100, rest := [] } } } ∧
      Touches [.nvm, .cmd] [] s t) ∧
  (∀ (r : RunNow) (m v u x : Nat) (s : State), s.up 225 = true → s.up 223 = true → x ≤ u → s.rst.blockDue = none →
    s.nvm.run = some { r with wait := some { ofs := 0x42008, mask := m, value := v, until_ := u, next := x, rest := [] } } →
    ∃ t, exec (.waitPoll none) s = .next t ∧ t.clk = max s.clk x ∧
      t.nvm = { s.nvm with run := some { r with
        wait := if rd SYS.PORTS 0 s &&& m = v then none else some { ofs := 0x42008, mask := m, value := v, until_ := u, next := t.clk + 100, rest := [] } } } ∧
      Touches [.nvm, .cmd, .clk, .ptp, .ptpFrac, .tim, .pmu] [] s t) ∧
  (∀ (r : RunNow) (m v u x : Nat) (s : State), s.up 225 = true → s.up 223 = true → s.rst.blockDue = none →
    s.nvm.run = some { r with wait := some { ofs := 0x42008, mask := m, value := v, until_ := u, next := x, rest := [] } } →
    rd SYS.PORTS 0 s &&& m ≠ v →
    ∃ t, exec (.waitTimeout none) s = .next t ∧ t.clk = max s.clk u ∧ t.nvm = { s.nvm with run := some { r with wait := none } } ∧
      Raised 184 6 t) ∧
  (∀ (r : RunNow) (pay : List Nat) (s : State), s.up 225 = true → s.up 223 = true → s.nvm.run = some r → r.wait = none →
    s.rst.blockDue = none → s.nvm.replays = [] → recordHere r s = some (5, 0x42008, pay) → pay.length = 5 →
    ∃ t, exec .recordKey s = .next t ∧
      (∀ l, keyValid 1 s = true →
        Config.gcmOpen (keyNumber 1 s) (match s.nvm.image with | some m => m.nonce * 2 ^ 32 + r.pos | none => r.pos)
          (slotWords s.nvm.slot r.pos 2 s) (quad pay) (pay.drop 4) = some l →
        rd SYS.PORTS 0 t = l.getD 0 0 % 2 ^ 32 ∧ t.nvm = { s.nvm with run := some { r with pos := r.pos + 28 } }) ∧
      (keyValid 1 s = false → rd SYS.PORTS 0 t = (if r.entry.island = 223 then 0 else rd SYS.PORTS 0 s) ∧
        Counted NVM.RUN_FAIL_CNT 0 s t ∧ Raised 184 5 t ∧ held r.entry.island t = true ∧ t.nvm.run = none)) ∧
  (∀ (r : RunNow) (a : Nat) (s : State), s.up 225 = true → s.up 223 = true → s.nvm.run = some r → r.wait = none →
    s.rst.blockDue = none → recordHere r s = some (6, 0, [0x42020, 2, 0x42024, 1, a]) → a < 2 ^ 32 →
    ∃ t, exec .recordTable s = .next t ∧ Tbl.get 0 t.sys.stage 2 = a ∧ rd SYS.KEY_IDX_WORD 0 t = 2 ∧
      on SYS.KEY_IDX_AUTO_INC 0 t = false ∧ t.nvm = { s.nvm with run := some { r with pos := r.pos + 28 } }) ∧
  (∀ (r : RunNow) (s : State), s.up 225 = true → s.nvm.run = some r → r.wait = none → r.replay = false → r.entry.island ≠ 225 →
    recordHere r s = some (15, 0, []) → s.nvm.state ≠ 2 →
    ∃ t, exec .recordEnd s = .next t ∧ t.nvm.run = none ∧
      (cmacWords (keyNumber 0 s) (runWords s.nvm.slot r.entry s) = r.entry.cmac →
        runOk r.entry.island (setting 5 3 3 s == 1) (r.entry.len / 4 + 1) r.entry.records (runWords s.nvm.slot r.entry s) = true →
        (t.island r.entry.island).configured = true ∧ t.up r.entry.island = s.up r.entry.island ∧ t.ev = s.ev) ∧
      (cmacWords (keyNumber 0 s) (runWords s.nvm.slot r.entry s) ≠ r.entry.cmac →
        held r.entry.island t = true ∧ Counted NVM.RUN_FAIL_CNT 0 s t ∧ Raised 184 5 t ∧
        (r.entry.island ≠ 224 → t.up r.entry.island = false))) ∧
  (∀ (good : Bool) (s : State), s.up 225 = true → (s.nvm.needDiscovery = false ∨ s.nvm.needShadow = true) →
    ∃ t, exec (.flashDiscoveryDone good) s = .next t ∧ t = s) ∧
  (∀ (good : Bool) (l : List Nat) (s : State), s.up 225 = true → s.nvm.needShadow = false → s.nvm.needDiscovery = true →
    s.nvm.state = 0 → s.nvm.order = l → l ≠ [] →
    ∃ t, exec (.flashDiscoveryDone good) s = .next t ∧ t.nvm.state = 1 ∧ t.nvm.needDiscovery = false ∧ t.nvm.order = [] ∧
      rd NVM.CTL_NEXT_SLOT 0 t = 0 ∧
      t.nvm.check.map (fun c => (c.slots, c.boot, c.arb, c.readFailed)) = some (l, false, arbValue s, false)) ∧
  (∀ (good : Bool) (s : State), s.up 225 = true → s.nvm.needShadow = false → s.nvm.needDiscovery = true → s.nvm.state ≠ 0 →
    ∃ t, exec (.flashDiscoveryDone good) s = .next t ∧ t.nvm.needDiscovery = false ∧ t.nvm.order = [] ∧ t.nvm.state = s.nvm.state ∧
      t.nvm.check = s.nvm.check ∧ (good = false → t.nvm.octal = false) ∧ Touches (.nvm :: signals) [] s t) ∧
  (∀ (slot : Nat) (rest : List Nat) (c : CheckNow) (s : State), s.up 225 = true → s.nvm.check = some c →
    c.slots = slot :: rest → c.boot = true → slot < 2 →
    ∃ t, exec .slotCheckDone s = .next t ∧
      (if slot = 0 then t.nvm.resA else t.nvm.resB) = slotResult slot c.arb c.readFailed s ∧
      (slotResult slot c.arb c.readFailed s = 1 → t.nvm.check = none ∧ t.nvm.state = 2 ∧ t.nvm.slot = slot ∧
        t.nvm.image = some (imageCopy slot s) ∧ (s.nvm.flashHeld = none → t.nvm.flashOp = none ∧ rd NVM.CMD_GO 0 t = 0)) ∧
      (slotResult slot c.arb c.readFailed s ≠ 1 → Raised 184 2 t ∧ t.nvm.image = s.nvm.image ∧
        (rest = [] → t.nvm.check = none ∧ t.nvm.state = 4 ∧ Raised 184 3 t ∧
          (s.nvm.flashHeld = none → t.nvm.flashOp = none ∧ rd NVM.CMD_GO 0 t = 0)) ∧
        (rest ≠ [] → t.nvm.check = some { c with slots := rest, arb := arbValue s, readFailed := false }))) ∧
  (∀ (s : State), s.up 225 = true → (s.nvm.run ≠ none ∨ flashFree s = false ∨ s.nvm.image = none) →
    ∃ t, exec .runApply s = .next t ∧ t = s) ∧
  (∀ (i : Nat) (e : DirEntry) (m : ImageCopy) (s : State), s.up 225 = true → s.nvm.run = none → flashFree s = true →
    s.nvm.image = some m → nextReplay s = some i → runEntry i s = some e →
    ∃ t, exec .runApply s = .next t ∧ t = { s with nvm := { s.nvm with
      replays := s.nvm.replays.filter (· != i)
      run := some { entry := e, pos := e.ofs, replay := true, skips := true, wait := none } } }) ∧
  (∀ (i : Nat) (m : ImageCopy) (s : State), s.up 225 = true → s.nvm.run = none → flashFree s = true →
    s.nvm.image = some m → nextReplay s = some i → runEntry i s = none →
    ∃ t, exec .runApply s = .next t ∧ t = { s with nvm := { s.nvm with replays := s.nvm.replays.filter (· != i) } }) ∧
  (∀ (e : DirEntry) (rest : List DirEntry) (m : ImageCopy) (s : State), s.up 225 = true → s.nvm.run = none → flashFree s = true →
    s.nvm.image = some m → nextReplay s = none → skipRuns s.nvm.todo s = e :: rest →
    ∃ t, exec .runApply s = .next t ∧
      (s.up e.island = false → t = { s with nvm := { s.nvm with todo := e :: rest } }) ∧
      (s.up e.island = true → t = { s with nvm := { s.nvm with
        todo := rest, run := some { entry := e, pos := e.ofs, replay := false, skips := s.nvm.again.contains e.island, wait := none } } })) ∧
  (∀ (m : ImageCopy) (s : State), s.up 225 = true → s.nvm.run = none → flashFree s = true → s.nvm.image = some m →
    nextReplay s = none → skipRuns s.nvm.todo s = [] →
    ∃ t, exec .runApply s = .next t ∧
      (s.nvm.state = 2 → t.nvm.state = 3 ∧ Counted NVM.BOOT_CNT 0 s t ∧ Raised 184 s.nvm.slot t ∧ t.pair.imageApplied = true) ∧
      (s.nvm.state ≠ 2 → t = { s with nvm := { s.nvm with todo := [] } })) ∧
  (∀ (r : RunNow) (ofs : Nat) (pay : List Nat) (s : State), s.up 225 = true → s.nvm.run = some r → r.wait = none →
    recordHere r s = some (1, ofs, pay) →
    ∃ t, exec .recordWrite s = .next t ∧ t = asRecord (writeWords ofs 4 pay) (recordTaken r pay s)) ∧
  (∀ (r : RunNow) (ofs : Nat) (pay : List Nat) (s : State), s.up 225 = true → s.nvm.run = some r → r.wait = none →
    recordHere r s = some (2, ofs, pay) →
    ∃ t, exec .recordStream s = .next t ∧ t = asRecord (writeWords ofs 0 pay) (recordTaken r pay s)) ∧
  (∀ (r : RunNow) (ofs m v : Nat) (s : State), s.up 225 = true → s.nvm.run = some r → r.wait = none →
    recordHere r s = some (3, ofs, [m, v]) →
    ∃ t, exec .recordModify s = .next t ∧
      t = asRecord (fun u => busWrite ofs (modified (busRead ofs u).1 m v) (busRead ofs u).2) (recordTaken r [m, v] s)) ∧
  (∀ (r : RunNow) (ofs m v n : Nat) (w : WaitRun) (s : State), s.up 225 = true → s.nvm.run = some r → r.wait = none →
    recordHere r s = some (4, ofs, [m, v, n]) →
    w = { ofs := ofs, mask := m, value := v, until_ := s.clk + n * 1000, next := s.clk + 100, rest := [] } →
    ∃ t, exec .recordWait s = .next t ∧
      t = (if (waitRead w (recordTaken r [m, v, n] s)).1 then (waitRead w (recordTaken r [m, v, n] s)).2
        else setWait (some w) (waitRead w (recordTaken r [m, v, n] s)).2)) ∧
  (∀ (r : RunNow) (ofs : Nat) (pay : List Nat) (s : State), s.up 225 = true → s.nvm.run = some r → r.wait = none →
    recordHere r s = some (5, ofs, pay) →
    ∃ t, exec .recordKey s = .next t ∧
      (keyValid 1 s = false → t = runFail r.entry (recordTaken r pay s)) ∧
      (∀ l, keyValid 1 s = true →
        Config.gcmOpen (keyNumber 1 s) (match s.nvm.image with | some m => m.nonce * 2 ^ 32 + r.pos | none => r.pos)
          (slotWords s.nvm.slot r.pos 2 s) (quad pay) (pay.drop 4) = some l → l.length = pay.length - 4 →
        t = asRecord (writeWords ofs 0 l) (recordTaken r pay s)) ∧
      (keyValid 1 s = true →
        Config.gcmOpen (keyNumber 1 s) (match s.nvm.image with | some m => m.nonce * 2 ^ 32 + r.pos | none => r.pos)
          (slotWords s.nvm.slot r.pos 2 s) (quad pay) (pay.drop 4) = none → t = runFail r.entry (recordTaken r pay s))) ∧
  (∀ (r : RunNow) (ofs : Nat) (pay : List Nat) (s : State), s.up 225 = true → s.nvm.run = some r → r.wait = none →
    recordHere r s = some (6, ofs, pay) →
    ∃ t, exec .recordTable s = .next t ∧ t = restOfTable pay (recordTaken r pay s)) ∧
  (∀ (r : RunNow) (ofs : Nat) (s : State), s.up 225 = true → s.nvm.run = some r → r.wait = none →
    recordHere r s = some (15, ofs, []) → cmacWords (keyNumber 0 s) (runWords s.nvm.slot r.entry s) = r.entry.cmac →
    runOk r.entry.island (setting 5 3 3 s == 1) ((runWords s.nvm.slot r.entry s).length + 1) r.entry.records
      (runWords s.nvm.slot r.entry s) = true →
    ∃ t, exec .recordEnd s = .next t ∧ t.nvm.run = none ∧ (t.island r.entry.island).configured = true ∧
      (r.replay = true → Counted NVM.REPLAY_CNT 0 s t ∧ Raised 184 7 t)) ∧
  (∀ (c : Instr) (r : RunNow) (s : State), c ∈ ([.recordWrite, .recordStream, .recordModify, .recordWait, .recordKey, .recordTable, .recordEnd] : List Instr) → s.up 225 = true →
    s.nvm.run = some r → r.wait = none → recordHere r s = none → exec c s = .next (runFail r.entry s)) ∧
  (∀ (c : Instr) (s : State), c ∈ ([.recordWrite, .recordStream, .recordModify, .recordWait, .recordKey, .recordTable, .recordEnd] : List Instr) → s.up 225 = true →
    (s.nvm.run = none ∨ ∃ r, s.nvm.run = some r ∧ r.wait ≠ none) → exec c s = .next s)

/-- R348, R357, R359, R360, R388: the commands of the flash. A command with privilege takes the flash, or is refused with its code and
cause 8; a second one waits; a read fills the buffer, a program clears bits of the words it names, an erase sets a sector; an
operation that overruns its limit ends with code 4, counted. -/
def Obligations.FlashCommands : Prop :=
  (∀ (addr : Word) (len : BitVec 9) (s : State), s.up 225 = true → privileged s = true → s.nvm.flashOp = none → s.nvm.run = none →
    s.nvm.replays = [] → addr.toNat % 4 = 0 → 1 ≤ len.toNat → len.toNat ≤ 256 →
    ∃ t, exec (.nvmRead addr len) s = .next t ∧ t.nvm = { s.nvm with flashOp := some { op := 0, slot := 0, addr := addr.toNat, len := len.toNat, since := some s.clk, arb := arbValue s } } ∧
      rd NVM.CMD_GO 0 t = 1 ∧ rd NVM.CMD_ERR 0 t = 0 ∧ rd NVM.ADDR 0 t = addr.toNat ∧
      Touches [.mem, .nvm] [(NVM.ADDR, 0, 0), (NVM.CMD_GO, 0, 0), (NVM.CMD_ERR, 0, 0), (NVM.CMD_ERRCODE, 0, 0), (NVM.CMD_OP, 0, 0),
        (NVM.CMD_SLOT, 0, 0), (NVM.CMD_LEN, 0, 0)] s t) ∧
  (∀ (addr : Word) (len : BitVec 9) (s : State), s.up 225 = true → privileged s = true → s.nvm.flashOp = none →
    (addr.toNat % 4 ≠ 0 ∨ len.toNat = 0 ∨ 256 < len.toNat) →
    ∃ t, exec (.nvmRead addr len) s = .next t ∧ t.nvm = s.nvm ∧ rd NVM.CMD_GO 0 t = 0 ∧ rd NVM.CMD_ERR 0 t = 1 ∧
      rd NVM.CMD_ERRCODE 0 t = 1 ∧ Raised 184 8 t) ∧
  (∀ (addr : Word) (len : BitVec 9) (f : FlashOp) (s : State), s.up 225 = true → privileged s = true → s.nvm.flashOp = some f →
    s.nvm.flashHeld = none →
    ∃ t, exec (.nvmRead addr len) s = .next t ∧ t.nvm.flashOp = some f ∧
      t.nvm.flashHeld.map (fun g => (g.op, g.len)) = some (0, len.toNat)) ∧
  (∀ (addr : Word) (len : BitVec 9) (s : State), s.up 225 = true → privileged s = true → s.nvm.flashOp = none → s.nvm.run = none →
    s.nvm.replays = [] → s.nvm.image = none → addr.toNat % 4 = 0 → 1 ≤ len.toNat → addr.toNat % 256 + 4 * len.toNat ≤ 256 →
    ∃ t, exec (.nvmProgram addr len) s = .next t ∧ t.nvm = { s.nvm with flashOp := some { op := 1, slot := 0, addr := addr.toNat, len := len.toNat, since := some s.clk, arb := arbValue s } } ∧
      rd NVM.CMD_GO 0 t = 1 ∧ rd NVM.CMD_ERR 0 t = 0) ∧
  (∀ (addr : Word) (len : BitVec 9) (m : ImageCopy) (s : State), s.up 225 = true → privileged s = true → s.nvm.flashOp = none →
    s.nvm.image = some m → addr.toNat % 4 = 0 → 1 ≤ len.toNat → addr.toNat % 256 + 4 * len.toNat ≤ 256 →
    slotBase s.nvm.slot s ≤ addr.toNat → addr.toNat < slotBase s.nvm.slot s + slotSize s →
    ∃ t, exec (.nvmProgram addr len) s = .next t ∧ t.nvm = s.nvm ∧ rd NVM.CMD_ERR 0 t = 1 ∧ rd NVM.CMD_ERRCODE 0 t = 2 ∧
      Raised 184 8 t) ∧
  (∀ (addr : Word) (s : State), s.up 225 = true → privileged s = true → s.nvm.flashOp = none → s.nvm.run = none →
    s.nvm.replays = [] → s.nvm.image = none → addr.toNat % 65536 = 0 →
    ∃ t, exec (.nvmErase addr) s = .next t ∧ t.nvm.flashOp.map (fun f => (f.op, f.addr, f.since)) = some (2, addr.toNat, some s.clk) ∧
      rd NVM.CMD_GO 0 t = 1 ∧ rd NVM.CMD_ERR 0 t = 0) ∧
  (∀ (addr : Word) (s : State), s.up 225 = true → privileged s = false →
    ∃ t, exec (.nvmErase addr) s = .next t ∧ t.nvm = s.nvm ∧ Counted CMD.GUARD_CNT 0 s t ∧ Raised 183 4 t ∧
      Touches (.cmd :: .mem :: signals) [(CMD.GUARD_CNT, 0, 0), (NVM.ADDR, 0, 0)] s t) ∧
  (∀ (slot : Fin 2) (s : State), s.up 225 = true → privileged s = true → s.nvm.flashOp = none → s.nvm.run = none →
    s.nvm.replays = [] →
    ∃ t, exec (.nvmCheck slot) s = .next t ∧ rd NVM.CMD_GO 0 t = 1 ∧
      t.nvm.flashOp.map (fun f => (f.op, f.slot, f.since, f.arb)) = some (3, slot.val, some s.clk, arbValue s)) ∧
  (∀ (s : State), s.up 225 = true → privileged s = true → s.nvm.flashOp = none → s.nvm.state = 4 →
    ∃ t, exec .nvmBoot s = .next t ∧ rd NVM.CMD_GO 0 t = 1 ∧ t.nvm.flashOp.map (·.op) = some 4 ∧
      t.nvm.check = some { slots := [0, 1], order := [0, 1], boot := true, arb := arbValue s, readFailed := false }) ∧
  (∀ (s : State), s.up 225 = true → privileged s = true → s.nvm.flashOp = none → s.nvm.state ≠ 4 →
    ∃ t, exec .nvmBoot s = .next t ∧ t.nvm = s.nvm ∧ rd NVM.CMD_ERR 0 t = 1 ∧ rd NVM.CMD_ERRCODE 0 t = 3 ∧ Raised 184 8 t) ∧
  (∀ (a n j e sl arb : Nat) (s : State), s.up 225 = true → s.nvm.flashHeld = none → a % 4 = 0 →
    s.nvm.flashOp = some { op := 0, slot := sl, addr := a, len := n, since := some e, arb := arb } → j < n →
    ∃ t, exec .flashOpDone s = .next t ∧ rdWord .nvmBuf 0 j 0 t = flashWord (a + 4 * j) s ∧ t.nvm = { s.nvm with flashOp := none } ∧
      rd NVM.CMD_GO 0 t = 0 ∧ rd NVM.CMD_ERR 0 t = 0 ∧ (∀ x, flashWord x t = flashWord x s)) ∧
  (∀ (a n j e sl arb : Nat) (s : State), s.up 225 = true → s.nvm.flashHeld = none → a % 4 = 0 →
    s.nvm.flashOp = some { op := 1, slot := sl, addr := a, len := n, since := some e, arb := arb } → j < n →
    ∃ t, exec .flashOpDone s = .next t ∧ flashWord (a + 4 * j) t = flashWord (a + 4 * j) s &&& rdWord .nvmBuf 0 j 0 s ∧
      (∀ x, x < a ∨ a + 4 * n ≤ x → flashWord x t = flashWord x s) ∧ t.nvm = { s.nvm with flashOp := none } ∧
      rd NVM.CMD_GO 0 t = 0 ∧ rd NVM.CMD_ERR 0 t = 0) ∧
  (∀ (a x e sl n arb : Nat) (s : State), s.up 225 = true → s.nvm.flashHeld = none → a % 65536 = 0 →
    s.nvm.flashOp = some { op := 2, slot := sl, addr := a, len := n, since := some e, arb := arb } → a ≤ x → x < a + 65536 →
    ∃ t, exec .flashOpDone s = .next t ∧ flashWord x t = 0xFFFFFFFF ∧
      (∀ y, y < a ∨ a + 65536 ≤ y → flashWord y t = flashWord y s) ∧ t.nvm = { s.nvm with flashOp := none } ∧
      rd NVM.CMD_GO 0 t = 0 ∧ rd NVM.CMD_ERR 0 t = 0) ∧
  (∀ (op a e sl n arb : Nat) (s : State), s.up 225 = true → s.nvm.flashHeld = none → op < 3 →
    s.nvm.flashOp = some { op := op, slot := sl, addr := a, len := n, since := some e, arb := arb } →
    ∃ t, exec .flashTimeout s = .next t ∧ t.nvm = { s.nvm with flashOp := none } ∧ rd NVM.CMD_GO 0 t = 0 ∧
      rd NVM.CMD_ERR 0 t = 1 ∧ rd NVM.CMD_ERRCODE 0 t = 4 ∧ Counted NVM.FLASH_TO_CNT 0 s t ∧ Raised 184 8 t ∧
      t.clk = max s.clk (e + (if op = 2 then 2000000000 else 5000000)) ∧ (∀ x, flashWord x t = flashWord x s))

/-- R343 to R347, R361: the one-time-programmable memory. A command with privilege, its item free and its data in order starts to
program its words, or is refused with its code and cause 10; a word programmed only sets bits of its fuses, and of the shadow for a
key, the device number and the count; a word that fails to verify ends the command with code 4. -/
def Obligations.OtpCommands : Prop :=
  (∀ (g : Nat) (s : State), s.up 225 = true → privileged s = true → s.nvm.otpOp = none → nextGen s = some g → mayProgram s = true →
    settingsOk (pdataWords 31 s) = true →
    ∃ t, exec .otpProgramSettings s = .next t ∧ rd OTP.CMD_GO 0 t = 1 ∧ t.ev = s.ev ∧
      t.nvm = { s.nvm with otpOp := some { op := 0, item := g, left := (pdataWords 31 s ++ [crc32 (pdataWords 31 s)]).zipIdx.map (fun e => (256 + 32 * g + e.2, e.1)), since := s.clk } }) ∧
  (∀ (s : State), s.up 225 = true → privileged s = true → s.nvm.otpOp = none → nextGen s = none →
    ∃ t, exec .otpProgramSettings s = .next t ∧ rd OTP.CMD_GO 0 t = 0 ∧ rd OTP.CMD_ERR 0 t = 1 ∧ rd OTP.CMD_ERRCODE 0 t = 1 ∧
      Raised 184 10 t ∧ t.nvm = s.nvm ∧ ∀ w, fuseWord w t = fuseWord w s) ∧
  (∀ (arg : BitVec 10) (s : State), s.up 225 = true → privileged s = true → s.nvm.otpOp = none → arg.toNat ≤ 2 →
    keyAbsent arg.toNat s = true → allZero (pdataWords 8 s) = false → mayProgram s = true →
    ∃ t, exec (.otpProgramKey arg) s = .next t ∧ rd OTP.CMD_GO 0 t = 1 ∧ t.ev = s.ev ∧
      t.nvm = { s.nvm with otpOp := some { op := 1, item := arg.toNat, left := (pdataWords 8 s).zipIdx.map (fun e => (4 + 8 * arg.toNat + e.2, e.1)) ++ [(138 + arg.toNat, crc32 (pdataWords 8 s))], since := s.clk } }) ∧
  (∀ (arg : BitVec 10) (s : State), s.up 225 = true → privileged s = true → s.nvm.otpOp = none →
    (2 < arg.toNat ∨ keyAbsent arg.toNat s = false) →
    ∃ t, exec (.otpProgramKey arg) s = .next t ∧ rd OTP.CMD_ERRCODE 0 t = (if 2 < arg.toNat then 3 else 2) ∧ Raised 184 10 t ∧
      t.nvm = s.nvm ∧ ∀ w, fuseWord w t = fuseWord w s) ∧
  (∀ (s : State), s.up 225 = true → privileged s = true → s.nvm.otpOp = none → maskHas (shWord 2 s) 31 = false → mayProgram s = true →
    ∃ t, exec .otpProgramDevnum s = .next t ∧ rd OTP.CMD_GO 0 t = 1 ∧ t.ev = s.ev ∧
      t.nvm = { s.nvm with otpOp := some { op := 2, item := 0, left := [(2, 2 ^ 31 + pdata 0 s % 1024)], since := s.clk } }) ∧
  (∀ (s : State), s.up 225 = true → privileged s = true → s.nvm.otpOp = none → maskHas (shWord 2 s) 31 = false →
    mayProgram s = false →
    ∃ t, exec .otpProgramDevnum s = .next t ∧ rd OTP.CMD_GO 0 t = 0 ∧ rd OTP.CMD_ERRCODE 0 t = 7 ∧ Raised 184 10 t ∧
      t.nvm = s.nvm) ∧
  (∀ (arg : BitVec 10) (s : State), s.up 225 = true → privileged s = true → s.nvm.otpOp = none → arg.toNat = arbValue s →
    arg.toNat ≤ 256 → mayProgram s = true → arg.toNat = 0 →
    ∃ t, exec (.otpAdvanceArb arg) s = .next t ∧ rd OTP.CMD_GO 0 t = 0 ∧ rd OTP.CMD_ERR 0 t = 0 ∧ Raised 184 9 t ∧ t.nvm = s.nvm ∧
      ∀ w, fuseWord w t = fuseWord w s) ∧
  (∀ (arg : BitVec 10) (m : ImageCopy) (s : State), s.up 225 = true → privileged s = true → s.nvm.otpOp = none → arbValue s = 0 →
    arg.toNat = 1 → s.nvm.image = some m → 1 ≤ m.arb → mayProgram s = true →
    ∃ t, exec (.otpAdvanceArb arg) s = .next t ∧ rd OTP.CMD_GO 0 t = 1 ∧
      t.nvm = { s.nvm with otpOp := some { op := 3, item := 1, left := [(28, 1)], since := s.clk } }) ∧
  (∀ (arg : BitVec 10) (s : State), s.up 225 = true → privileged s = true → s.nvm.otpOp = none → arbValue s < arg.toNat →
    arg.toNat ≤ 256 → s.nvm.image = none →
    ∃ t, exec (.otpAdvanceArb arg) s = .next t ∧ rd OTP.CMD_ERRCODE 0 t = 6 ∧ Raised 184 10 t ∧ t.nvm = s.nvm) ∧
  (∀ (pin : BitVec 10) (s : State), s.up 225 = true → privileged s = true → s.nvm.otpOp = none → pin.toNat ≤ 1019 →
    isTxdisPin pin.toNat = false → fuseCode pin.toNat s &&& (pdata 0 s % 8) = fuseCode pin.toNat s → mayProgram s = true →
    ∃ t, exec (.otpProgramPin pin) s = .next t ∧ rd OTP.CMD_GO 0 t = 1 ∧
      t.nvm = { s.nvm with otpOp := some { op := 4, item := pin.toNat, left := [(36 + pin.toNat / 10, pdata 0 s % 8 * 2 ^ (3 * (pin.toNat % 10)))], since := s.clk } }) ∧
  (∀ (pin : BitVec 10) (s : State), s.up 225 = true → privileged s = true → s.nvm.otpOp = none → isTxdisPin pin.toNat = true →
    ∃ t, exec (.otpProgramPin pin) s = .next t ∧ rd OTP.CMD_ERRCODE 0 t = 5 ∧ Raised 184 10 t ∧ t.nvm = s.nvm) ∧
  (∀ (op item w bits e : Nat) (x : Nat × Nat) (l : List (Nat × Nat)) (s : State), s.up 225 = true → bits < 2 ^ 32 →
    s.nvm.otpOp = some { op := op, item := item, left := (w, bits) :: x :: l, since := e } →
    ∃ t, exec (.otpWordProgrammed true) s = .next t ∧ t.clk = max s.clk (e + 20000) ∧ fuseWord w t = fuseWord w s ||| bits ∧
      (∀ y, y ≠ w → fuseWord y t = fuseWord y s) ∧ shWord w t = (if 1 ≤ op ∧ op ≤ 3 then fuseWord w t else shWord w s) ∧
      t.nvm = { s.nvm with otpOp := some { op := op, item := item, left := x :: l, since := t.clk } } ∧ t.ev = s.ev) ∧
  (∀ (op item w bits e : Nat) (s : State), s.up 225 = true → bits < 2 ^ 32 → s.nvm.otpHeld = none →
    s.nvm.otpOp = some { op := op, item := item, left := [(w, bits)], since := e } →
    ∃ t, exec (.otpWordProgrammed true) s = .next t ∧ t.clk = max s.clk (e + 20000) ∧ fuseWord w t = fuseWord w s ||| bits ∧
      (∀ y, y ≠ w → fuseWord y t = fuseWord y s) ∧ shWord w t = (if 1 ≤ op ∧ op ≤ 3 then fuseWord w t else shWord w s) ∧
      t.nvm = { s.nvm with otpOp := none } ∧ rd OTP.CMD_GO 0 t = 0 ∧ rd OTP.CMD_ERR 0 t = 0 ∧ pdata 0 t = 0 ∧ Raised 184 9 t ∧
      (op = 0 → nextGen t = none → Raised 184 11 t)) ∧
  (∀ (op item w bits e : Nat) (l : List (Nat × Nat)) (s : State), s.up 225 = true → bits < 2 ^ 32 → s.nvm.otpHeld = none →
    s.nvm.otpOp = some { op := op, item := item, left := (w, bits) :: l, since := e } →
    ∃ t, exec (.otpWordProgrammed false) s = .next t ∧
      fuseWord w t = fuseWord w s ||| (bits &&& Config.freeNat s.freeCount) ∧ t.freeCount = s.freeCount + 1 ∧
      (∀ y, y ≠ w → fuseWord y t = fuseWord y s) ∧ t.nvm = { s.nvm with otpOp := none } ∧ rd OTP.CMD_ERR 0 t = 1 ∧
      rd OTP.CMD_ERRCODE 0 t = 4 ∧ Raised 184 10 t)

/-- R368 to R374: sessions. EN from 0 to 1 opens a session whose ring is set up, else the write is refused; EN to 0 closes it, discards
what waits in it and, for session 0, ends privilege. Bytes of a window enter the FIFO of an OPEN session; one that overflows it, announces
a LEN no packet has or leaves a packet unfinished for PKT_TO puts the session in FAULT. HEAD frees the ring up to it; a response
that has waited HOST_TO closes the session; an opcode not listed is answered BAD_OPCODE. -/
def Obligations.Sessions : Prop :=
  (∀ (i : Fin 4) (w : Word) (s : State), s.up 223 = true → on SESS.CTL_EN i s = false → 16 ≤ rd SESS.RING_SIZE_LOG2 i s →
    rd SESS.RING_SIZE_LOG2 i s ≤ 24 → rd SESS.HEAD_HEAD i s = 0 →
    ∃ t, exec (.sessionOpen i w) s = .next t ∧ (t.session i).state = .open ∧ (t.session i).fifo = [] ∧
      (t.session i).consumed = 0 ∧ (t.session i).waiting = [] ∧ on SESS.CTL_EN i t = true ∧ Raised 183 11 t) ∧
  (∀ (i : Fin 4) (w : Word) (s : State), s.up 223 = true → on SESS.CTL_EN i s = false →
    (rd SESS.RING_SIZE_LOG2 i s < 16 ∨ 24 < rd SESS.RING_SIZE_LOG2 i s ∨ rd SESS.HEAD_HEAD i s ≠ 0) →
    ∃ t, exec (.sessionOpen i w) s = .next t ∧ on SESS.CTL_EN i t = false ∧ (t.session i).state = (s.session i).state ∧
      Raised 183 6 t ∧ Touches (.cmd :: signals) [] s t) ∧
  (∀ (i : Fin 4) (w : Word) (s : State), s.up 223 = true → on SESS.CTL_EN i s = true → (s.session i).state ≠ .closed →
    ∃ t, exec (.sessionClose i w) s = .next t ∧ (t.session i).state = .closed ∧ (t.session i).fifo = [] ∧
      (t.session i).waiting = [] ∧ (t.session i).capture = none ∧ on SESS.CTL_EN i t = false ∧ Raised 183 12 t ∧
      (i = 0 → t.cmd.priv = false)) ∧
  (∀ (i : Fin 4) (l : List Byte) (s : State), s.up 223 = true → tunnelUp s = true → (s.session i).state = .open → l ≠ [] →
    (s.session i).fifo.length + l.length ≤ 65536 → badHeader ((s.session i).fifo ++ l) = false →
    ∃ t, exec (.windowWrite i l) s = .next t ∧ (t.session i).fifo = (s.session i).fifo ++ l ∧ (t.session i).lastByte = s.clk ∧
      Touches [.sess] [] s t) ∧
  (∀ (i : Fin 4) (l : List Byte) (s : State), s.up 223 = true → tunnelUp s = true → (s.session i).state = .open → l ≠ [] →
    (65536 < (s.session i).fifo.length + l.length ∨
      ((s.session i).idle = true ∧ badHeader ((s.session i).fifo ++ l) = true)) →
    ∃ t, exec (.windowWrite i l) s = .next t ∧ (t.session i).state = .fault ∧ (t.session i).fifo = [] ∧
      Counted CMD.PKT_ERR_CNT 0 s t ∧ Raised 183 14 t ∧ (i = 0 → t.cmd.priv = false)) ∧
  (∀ (i : Fin 4) (l : List Byte) (s : State), s.up 223 = true → (tunnelUp s = false ∨ (s.session i).state ≠ .open) →
    ∃ t, exec (.windowWrite i l) s = .next t ∧ t = s) ∧
  (∀ (i : Fin 4) (s : State), s.up 223 = true → (s.session i).idle = true → (s.session i).fifo ≠ [] →
    inboundOf (s.session i).fifo = none →
    ∃ t, exec (.packetTimeout i) s = .next t ∧ (t.session i).state = .fault ∧ (t.session i).fifo = [] ∧
      t.clk = max s.clk ((s.session i).lastByte + rd CMD.CTL_PKT_TO 0 s * 1000000) ∧ Counted CMD.PKT_ERR_CNT 0 s t ∧
      Raised 183 15 t) ∧
  (∀ (i : Fin 4) (s : State), s.up 223 = true → ((s.session i).idle = false ∨ (s.session i).fifo = []) →
    ∃ t, exec (.packetTimeout i) s = .next t ∧ t = s) ∧
  (∀ (i : Fin 4) (w : Word) (s : State), s.up 223 = true → w.toNat % 64 = 0 → w.toNat < 2 ^ 24 → (s.session i).waiting = [] →
    badHeader (s.session i).fifo = false →
    ∃ t, exec (.headWrite i w) s = .next t ∧ rd SESS.HEAD_HEAD i t = w.toNat ∧ (t.session i).irqSent = false ∧
      (t.session i).ring = (s.session i).ring.filter (fun e =>
        decide ((w.toNat + ringSize i s - rd SESS.HEAD_HEAD i s % ringSize i s) % ringSize i s ≤
          (e.1 + ringSize i s - rd SESS.HEAD_HEAD i s % ringSize i s) % ringSize i s)) ∧
      Touches [.mem, .sess] [(SESS.HEAD_HEAD, i, 0)] s t) ∧
  (∀ (i : Fin 4) (s : State), s.up 223 = true → (s.session i).state = .open → (s.session i).waiting ≠ [] → s.rst.blockDue = none →
    ∃ t, exec (.hostSilent i) s = .next t ∧ (t.session i).state = .closed ∧ (t.session i).waiting = [] ∧ Raised 183 13 t ∧
      t.clk = max s.clk ((s.session i).waitSince + rd CMD.CTL_HOST_TO 0 s * 10000000)) ∧
  (∀ (i : Fin 4) (s : State), s.up 223 = true → (s.session i).waiting = [] → ∃ t, exec (.hostSilent i) s = .next t ∧ t = s) ∧
  (∀ (i : Fin 4) (p : Inbound) (s : State), s.up 223 = true → nextPacket i s = some p → opcodeListed i p = false →
    s.rst.blockDue = none → badHeader ((s.session i).fifo.drop (16 + p.len)) = false →
    ∃ t, exec (.unlistedOpcode i) s = .next t ∧ Answered i p { status := 1 } s t ∧ Touches [.sess] [] s t)

/-- R373 to R382: the packets of the sessions. ECHO returns what it got; the register opcodes read and write registers in order and
answer with the words read; a table load writes its groups and waits where a GO group's register is busy; a program, flash, PLOAM,
injected frame, capture or message goes where its opcode says; a challenge is answered with a nonce and the DEVICE_ID, a proof
that holds gives privilege, one that fails counts. A length or range no packet has is answered BAD_LEN. Each
opcode does so whatever registers, words and targets its operands name. -/
def Obligations.Packets : Prop :=
  (∀ (i : Fin 4) (p : Inbound) (s : State), Takes i 1 p s →
    ∃ t, exec (.echo i) s = .next t ∧ Answered i p { arg0 := p.arg0, payload := p.payload } s t ∧ Touches [.sess] [] s t) ∧
  (∀ (i : Fin 4) (p : Inbound) (s : State), nextPacket i s = some p → p.opcode ≠ 1 → ∃ t, exec (.echo i) s = .next t ∧
    (t.session i).fifo = (s.session i).fifo ∧ t.mem = s.mem) ∧
  (∀ (i : Fin 4) (p : Inbound) (s : State), Takes i 2 p s → p.len = 0 → p.arg0 = 0x42010 → p.arg1 = 2 →
    ∃ t, exec (.regRead i) s = .next t ∧
      Answered i p { payload := wordsBytes [rd SYS.GRP_MAC_HI_MAC_HI 0 s, rd SYS.GRP_MAC_LO 0 s] } s t ∧
      Touches [.sess, .cmd] [] s t) ∧
  (∀ (i : Fin 4) (p : Inbound) (s : State), Takes i 2 p s → (p.len ≠ 0 ∨ p.arg1 = 0 ∨ 4096 < p.arg1) →
    ∃ t, exec (.regRead i) s = .next t ∧ Answered i p { status := 2 } s t ∧ Touches [.sess] [] s t) ∧
  (∀ (i : Fin 4) (a b : Nat) (p : Inbound) (s : State), Takes i 3 p s → p.arg0 = 0x42010 → p.len = 8 → leWords p.payload = [a, b] →
    a < 2 ^ 16 → b < 2 ^ 32 →
    ∃ t, exec (.regWrite i) s = .next t ∧ Answered i p {} s t ∧ rd SYS.GRP_MAC_HI_MAC_HI 0 t = a ∧ rd SYS.GRP_MAC_LO 0 t = b ∧
      Touches [.sess, .cmd, .mem] [(SYS.GRP_MAC_HI_MAC_HI, 0, 0), (SYS.GRP_MAC_LO, 0, 0)] s t) ∧
  (∀ (i : Fin 4) (p : Inbound) (s : State), Takes i 3 p s → p.len < 4 →
    ∃ t, exec (.regWrite i) s = .next t ∧ Answered i p { status := 2 } s t ∧ Touches [.sess] [] s t) ∧
  (∀ (i : Fin 4) (m v : Nat) (p : Inbound) (s : State), Takes i 4 p s → p.arg0 = 0x42008 → leWords p.payload = [m, v] →
    ∃ t, exec (.regModify i) s = .next t ∧ Answered i p { payload := wordBytes (rd SYS.PORTS 0 s) } s t ∧
      (∀ j, j < 32 → maskHas (rd SYS.PORTS 0 t) j = (if maskHas m j then maskHas v j else maskHas (rd SYS.PORTS 0 s) j)) ∧
      Touches [.sess, .cmd, .mem] [(SYS.PORTS, 0, 0)] s t) ∧
  (∀ (i : Fin 4) (p : Inbound) (s : State), Takes i 5 p s → p.arg0 = 0x42028 → p.arg1 = 0x4202C → leWords p.payload = [21, 1] →
    ∃ t, exec (.idxRead i) s = .next t ∧ Answered i p { payload := wordBytes (rdx PEER.EPOCH 0 5 s) } s t ∧
      rd SYS.PEER_IDX_PEER 0 t = 5 ∧ rd SYS.PEER_IDX_WORD 0 t = 1 ∧
      Touches [.sess, .cmd, .mem] [(SYS.PEER_IDX_AUTO_INC, 0, 0), (SYS.PEER_IDX_PEER, 0, 0), (SYS.PEER_IDX_WORD, 0, 0)] s t) ∧
  (∀ (a b : Nat) (p : Inbound) (s : State), Takes 0 6 p s → s.cmd.priv = true → p.arg0 = 0x42020 → p.arg1 = 0x42024 →
    leWords p.payload = [0x80000001, a, b] →
    ∃ t, exec (.idxWrite 0) s = .next t ∧ Answered 0 p {} s t ∧ Tbl.get 0 t.sys.stage 1 = a ∧ Tbl.get 0 t.sys.stage 2 = b ∧
      rd SYS.KEY_IDX_WORD 0 t = 3) ∧
  (∀ (i : Fin 4) (a b : Nat) (p : Inbound) (s : State), Takes i 0x10 p s → leWords p.payload = [0x42010, a, 0x42014, 1, b] →
    portHeld i 0x42010 s = false → a < 2 ^ 16 → b < 2 ^ 32 →
    ∃ t, exec (.tableLoad i) s = .next t ∧ Answered i p { arg0 := 1 } s t ∧ rd SYS.GRP_MAC_HI_MAC_HI 0 t = a ∧
      rd SYS.GRP_MAC_LO 0 t = b ∧ (t.session i).load = none ∧
      Touches [.sess, .cmd, .mem] [(SYS.GRP_MAC_HI_MAC_HI, 0, 0), (SYS.GRP_MAC_LO, 0, 0)] s t) ∧
  (∀ (i : Fin 4) (p : Inbound) (s : State), Takes i 0x10 p s → leWords p.payload = [0x10042008, 3, 1, 50] →
    portHeld i 0x42008 s = false →
    ∃ t, exec (.tableLoad i) s = .next t ∧ rd SYS.PORTS 0 t = 3 ∧ (t.session i).waiting = [] ∧ (t.session i).ring = (s.session i).ring ∧
      (t.session i).load = some { tag := some p.tag, done := 0, note := (0, 0, 0), go := some { ofs := 0x42008, mask := 1, until_ := s.clk + 50000, next := s.clk + 100 }, accesses := 2, rest := [] }) ∧
  (∀ (i : Fin 5) (r : LoadRun) (g : GoWait) (s : State), i.val < 4 → s.up 223 = true → (s.session i).load = some { r with go := some g } →
    r.note = (0, 0, 0) → g.ofs = 0x42008 → g.next ≤ g.until_ → rd SYS.PORTS 0 s &&& g.mask ≠ 0 →
    ∃ t, exec (.waitPoll (some i)) s = .next t ∧ t.clk = max s.clk g.next ∧
      (t.session i).load = some { r with go := some { g with next := t.clk + 100 }, accesses := r.accesses + 1 } ∧
      Touches [.sess, .cmd, .clk, .ptp, .ptpFrac, .tim, .pmu] [] s t) ∧
  (∀ (i : Fin 5) (tag : Nat) (g : GoWait) (s : State), i.val < 4 → s.up 223 = true → (s.session i).state = .open → s.rst.blockDue = none →
    s.cmd.portWait = [] → s.sys.actions = [] → badHeader (s.session i).fifo = false →
    (s.session i).load = some { tag := some tag, done := 2, note := (0, 0, 0), go := some g, accesses := 2, rest := [] } →
    g.ofs = 0x42008 → rd SYS.PORTS 0 s &&& g.mask ≠ 0 →
    ∃ t, exec (.waitTimeout (some i)) s = .next t ∧ t.clk = max s.clk g.until_ ∧ (t.session i).load = none ∧
      Responded i (responsePacket i 0x10 tag (s.session i).consumed { status := 10, arg0 := 2 }) t) ∧
  (∀ (i : Fin 4) (k : Fin 8) (w : Nat) (p : Inbound) (s : State), Takes i 0x11 p s → p.arg0 = k → p.arg1 < 2 ^ 14 →
    leWords p.payload = [w] → w < 2 ^ 32 → s.up (clusterIsland k) = true → roleStandby s = false → imemHeld k p.arg1 s = false →
    ∃ t, exec (.progLoad i) s = .next t ∧ Answered i p { arg0 := 1 } s t ∧ imemWord k p.arg1 t = w ∧
      (∀ a, a ≠ p.arg1 → imemWord k a t = imemWord k a s)) ∧
  (∀ (i : Fin 4) (p : Inbound) (s : State), Takes i 0x12 p s → p.len = 0 → 4 ≤ p.arg1 → p.arg1 ≤ 16384 → p.arg1 % 4 = 0 →
    s.up 225 = true →
    ∃ t, exec (.flashRead i) s = .next t ∧
      Answered i p { payload := (List.range p.arg1).map (fun j => flashByte (p.arg0 + j) s) } s t ∧ Touches [.sess] [] s t) ∧
  (∀ (w : Nat) (p : Inbound) (s : State), Takes 0 0x13 p s → s.cmd.priv = true → s.up 225 = true → s.nvm.image = none →
    p.arg0 % 65536 = 0 → p.arg1 = 1 → p.len = 4 → leWords p.payload = [w] → w < 2 ^ 32 →
    ∃ t, exec (.flashWrite 0) s = .next t ∧ Answered 0 p { arg0 := 4 } s t ∧ flashWord p.arg0 t = w ∧
      flashWord (p.arg0 + 4) t = 0xFFFFFFFF ∧ (∀ x, x < p.arg0 ∨ p.arg0 + 65536 ≤ x → flashWord x t = flashWord x s)) ∧
  (∀ (i : Fin 4) (p : Inbound) (s : State), Takes i 0x13 p s → i ≠ 0 → s.up 225 = true → p.arg0 % 256 = 0 →
    ∃ t, exec (.flashWrite i) s = .next t ∧ Answered i p { status := 4 } s t ∧ (∀ x, flashWord x t = flashWord x s) ∧
      Counted CMD.GUARD_CNT 0 s t ∧ Raised 183 4 t) ∧
  (∀ (i : Fin 4) (n : Fin 48) (p : Inbound) (s : State), Takes i 0x20 p s → p.arg0 = n → p.len = 40 →
    s.up (framingIsland n) = true → (s.actOf n).normal.length < 256 →
    ∃ t, exec (.ploamSend i) s = .next t ∧ Answered i p {} s t ∧
      (t.actOf n).normal = (s.actOf n).normal ++ [bodyMessage n p.payload s] ∧ (t.actOf n).seq = (s.actOf n).seq + 1 ∧
      Touches [.sess, .cmd, .act] [] s t) ∧
  (∀ (i : Fin 4) (n : Fin 48) (p : Inbound) (s : State), Takes i 0x20 p s → p.arg0 = n → p.len ≠ 40 →
    ∃ t, exec (.ploamSend i) s = .next t ∧ Answered i p { status := 2 } s t ∧ Touches [.sess] [] s t) ∧
  (∀ (c : Fin 8) (d : Node) (p : Inbound) (s : State), Takes 0 0x21 p s → s.cmd.priv = true → p.arg0 = c * 256 → p.len = 8 →
    s.up 212 = true → s.up 213 = true → isPort 0 s = true → on NET.STS_LINK 0 s = true → 12 ≤ rd NET.PORT_CFG_MAX_FRAME 0 s →
    12 ≤ classMaxlen 0 c s → s.up 214 = true → s.up 215 = true → s.up 216 = true → s.up 217 = true → bufQueue 0 s = [] → s.bpm.reclaim = [] →
    eligible 15 0 1 s = true → d = tmuQueue 0 (c * 9 + 8) → nrd NODE.VALID d s = 1 →
    nrd NODE.DEPTH d s + 32 ≤ nrd NODE.QLIM d s →
    ∃ t, exec (.inject 0) s = .next t ∧ Answered 0 p {} s t ∧ (t.node d).frames.length = (s.node d).frames.length + 1 ∧
      Counted TMU.ENQ_CNT 0 s t) ∧
  (∀ (i : Fin 4) (p : Inbound) (s : State), Takes i 0x21 p s → i ≠ 0 → p.len ≠ 0 → p.arg0 < 2 ^ 31 →
    ∃ t, exec (.inject i) s = .next t ∧ Answered i p { status := 4 } s t ∧ t.queues = s.queues ∧ Counted CMD.GUARD_CNT 0 s t) ∧
  (∀ (i : Fin 4) (p : Inbound) (s : State), Takes i 0x22 p s → p.arg0 = 0x10030000 → 1 ≤ p.arg1 → p.arg1 ≤ 65535 → p.len = 4 →
    leWords p.payload = [100] →
    ∃ t, exec (.capture i) s = .next t ∧ Answered i p {} s t ∧
      (t.session i).capture = some { point := 1, whereIdx := 3, portId := 0, left := p.arg1, snap := 100 } ∧
      Touches [.sess] [] s t) ∧
  (∀ (i : Fin 4) (p : Inbound) (s : State), Takes i 0x22 p s → p.arg0 = 0x10030000 → p.arg1 = 0 → p.len = 0 →
    ∃ t, exec (.capture i) s = .next t ∧ Answered i p {} s t ∧ (t.session i).capture = none ∧ Touches [.sess] [] s t) ∧
  (∀ (i : Fin 4) (p : Inbound) (s : State), Takes i 0x30 p s → p.arg0 = 0x3FFFF → p.arg1 = 0x02000000 → p.len = 0 →
    mbakinOn s = true → rd SYS.PORTS 0 s = 0 →
    ∃ t, exec (.mbakinSend i) s = .next t ∧ Counted SYS.TX_CNT 0 s t ∧ (t.session i).waiting = [] ∧
      (t.session i).fifo = (s.session i).fifo.drop 16 ∧ t.sys.last.map (fun x => (x.type, x.dst)) = some (3, none) ∧
      (t.session i).mbakin = some { tag := p.tag, until_ := s.clk + 100000000, type := 3, role := 2, body := p.payload, dst := none, redirected := false }) ∧
  (∀ (i : Fin 4) (p : Inbound) (s : State), Takes i 0x30 p s → p.arg0 / 2 ^ 16 % 16 ≠ 3 → p.arg0 / 2 ^ 16 % 16 ≠ 5 →
    ∃ t, exec (.mbakinSend i) s = .next t ∧ Answered i p { status := 2 } s t ∧ Touches [.sess] [] s t) ∧
  (∀ (i : Fin 4) (w : MbakinWait) (s : State), s.up 223 = true → (s.session i).state = .open → (s.session i).mbakin = some w →
    s.rst.blockDue = none →
    ∃ t, exec (.mbakinReplyTimeout (i.castLT (by omega))) s = .next t ∧ t.clk = max s.clk w.until_ ∧ (t.session i).mbakin = none ∧
      Responded i (responsePacket i 0x30 w.tag (s.session i).consumed { status := 10 }) t) ∧
  (∀ (p : Inbound) (s : State), Takes 0 0x40 p s → p.len = 0 → lockedOut s = false →
    ∃ t, exec .privChallenge s = .next t ∧ t.freeCount = s.freeCount + 1 ∧
      t.cmd.nonce = some (Config.freeNat s.freeCount % 2 ^ 128, s.clk) ∧
      Answered 0 p { payload := wordsBytes (proofWords (Config.freeNat s.freeCount % 2 ^ 128) (deviceId s)) } s t ∧
      Touches [.sess, .cmd, .freeCount] [] s t) ∧
  (∀ (p : Inbound) (s : State), Takes 0 0x40 p s → p.len = 0 → lockedOut s = true →
    ∃ t, exec .privChallenge s = .next t ∧ t.cmd.nonce = s.cmd.nonce ∧ Answered 0 p { status := 12 } s t) ∧
  (∀ (p : Inbound) (s : State), Takes 0 0x41 p s → p.len = 16 →
    ∃ t, exec .privProve s = .next t ∧ t.cmd.nonce = none ∧
      (proofHolds (quad (leWords p.payload)) s = true → t.cmd.priv = true ∧ t.cmd.fails = 0 ∧ Raised 183 8 t ∧ Answered 0 p {} s t) ∧
      (proofHolds (quad (leWords p.payload)) s = false → t.cmd.priv = s.cmd.priv ∧ t.cmd.fails = s.cmd.fails + 1 ∧
        Counted CMD.AUTH_FAIL_CNT 0 s t ∧ Raised 183 9 t ∧ Answered 0 p { status := 11 } s t ∧
        (2 ≤ s.cmd.fails → Raised 183 10 t ∧ t.cmd.lockoutEnd =
          some (s.clk + min (2 ^ (s.cmd.fails - 2)) 16 * rd CMD.CTL_LOCK_S 0 s * 1000000000)))) ∧
  (∀ (p : Inbound) (s : State), Takes 0 0x42 p s → p.len = 0 →
    ∃ t, exec .privDrop s = .next t ∧ t.cmd = { s.cmd with priv := false } ∧ Answered 0 p {} s t ∧ Touches [.sess, .cmd] [] s t) ∧
  (∀ (e : Nat) (s : State), s.up 223 = true → s.cmd.lockoutEnd = some e →
    ∃ t, exec .lockoutExpiry s = .next t ∧ t.clk = max s.clk e ∧ t.cmd = { s.cmd with lockoutEnd := none } ∧ lockedOut t = false) ∧
  (∀ (i : Fin 4) (p : Inbound) (s : State), Takes i 2 p s → p.len = 0 → 1 ≤ p.arg1 → p.arg1 ≤ 4096 →
    ∃ t, exec (.regRead i) s = .next t ∧
      t = answeredRun i p ((regOffsets p.arg0 p.arg1).zipIdx.map fun e => ⟨e.1, none, e.2⟩) 0 wordsBytes s) ∧
  (∀ (i : Fin 4) (p : Inbound) (s : State), Takes i 3 p s → 4 ≤ p.len →
    ∃ t, exec (.regWrite i) s = .next t ∧
      t = answeredRun i p (((regOffsets p.arg0 (words p).length).zip (words p)).zipIdx.map fun e => ⟨e.1.1, some e.1.2, e.2⟩) 0
        (fun _ => []) s) ∧
  (∀ (i : Fin 4) (m v : Nat) (b : BusRun) (p : Inbound) (s : State), Takes i 4 p s → words p = [m, v] →
    b = busRun [⟨p.arg0 % 2 ^ 24, none, 0⟩] (runningPacket i p s) →
    ∃ t, exec (.regModify i) s = .next t ∧
      (b.stopped = true → t = packetAnswered i p (noted b.note 0 []) s b.state) ∧
      (b.stopped = false → t = packetAnswered i p
        (noted (b.access ⟨p.arg0 % 2 ^ 24, some (modified (b.out.headD 0) m v), 1⟩).note 0 (wordBytes (b.out.headD 0))) s
        (b.access ⟨p.arg0 % 2 ^ 24, some (modified (b.out.headD 0) m v), 1⟩).state)) ∧
  (∀ (i : Fin 4) (p : Inbound) (s : State), Takes i 4 p s → (words p).length ≠ 2 →
    ∃ t, exec (.regModify i) s = .next t ∧ Answered i p { status := 2 } s t ∧ Touches [.sess] [] s t) ∧
  (∀ (i : Fin 4) (x n : Nat) (p : Inbound) (s : State), Takes i 5 p s → words p = [x, n] → 1 ≤ n → n ≤ 4096 →
    ∃ t, exec (.idxRead i) s = .next t ∧
      t = answeredRun i p (⟨p.arg0 % 2 ^ 24, some x, 0⟩ :: (List.range n).map fun j => ⟨p.arg1 % 2 ^ 24, none, j⟩) 0 wordsBytes s) ∧
  (∀ (i : Fin 4) (x : Nat) (l : List Nat) (p : Inbound) (s : State), Takes i 6 p s → words p = x :: l →
    ∃ t, exec (.idxWrite i) s = .next t ∧
      t = answeredRun i p (⟨p.arg0 % 2 ^ 24, some x, 0⟩ :: l.zipIdx.map fun e => ⟨p.arg1 % 2 ^ 24, some e.1, e.2 + 1⟩) 0
        (fun _ => []) s) ∧
  (∀ (i : Fin 4) (x : LoadRun × Bool × State) (p : Inbound) (s : State), Takes i 0x10 p s → words p ≠ [] →
    x = loadGroups i ((words p).length + 1)
      { tag := some p.tag, done := 0, note := (0, 0, 0), go := none, accesses := 0, rest := words p } (runningPacket i p s) →
    ∃ t, exec (.tableLoad i) s = .next t ∧
      (x.2.1 = true → t = packetAnswered i p (loadReply x.1) s x.2.2) ∧
      (x.2.1 = false → t = packetWaits i (fun y => { y with load := some x.1 }) s x.2.2)) ∧
  (∀ (i : Fin 4) (r : LoadRun) (g : GoWait) (s : State), s.up 223 = true → (s.session i).load = some r → r.go = some g →
    ∃ t, exec (.waitPoll (some (i.castLT (by omega)))) s = .next t ∧
      (g.until_ < g.next → t = s) ∧ (g.next ≤ g.until_ → t = loadRead i false g r (passTo g.next s))) ∧
  (∀ (i : Fin 4) (r : LoadRun) (s : State), s.up 223 = true → (s.session i).load = some r → r.go = none →
    ∃ t, exec (.waitPoll (some (i.castLT (by omega)))) s = .next t ∧ t = loadOn i r s) ∧
  (∀ (i : Fin 4) (r : LoadRun) (g : GoWait) (s : State), s.up 223 = true → (s.session i).load = some r → r.go = some g →
    ∃ t, exec (.waitTimeout (some (i.castLT (by omega)))) s = .next t ∧ t = loadRead i true g r (passTo g.until_ s)) ∧
  (∀ (r : RunNow) (w : WaitRun) (u : Bool × State) (s : State), s.up 225 = true → s.nvm.run = some r → r.wait = some w →
    w.next ≤ w.until_ → u = waitRead w (passTo w.next s) →
    ∃ t, exec (.waitPoll none) s = .next t ∧
      (u.1 = true → t = restOfTable w.rest (setWait none u.2)) ∧
      (u.1 = false → t = setWait (some { w with next := u.2.clk + 100 }) u.2)) ∧
  (∀ (r : RunNow) (w : WaitRun) (u : Bool × State) (s : State), s.up 225 = true → s.nvm.run = some r → r.wait = some w →
    u = waitRead w (passTo w.until_ s) →
    ∃ t, exec (.waitTimeout none) s = .next t ∧
      (u.1 = true → t = restOfTable w.rest (setWait none u.2)) ∧
      (u.1 = false → t = restOfTable w.rest (setWait none (nvmCause 6 [r.entry.island] u.2)))) ∧
  (∀ (i : Fin 4) (k : Fin 8) (p : Inbound) (s : State), Takes i 0x11 p s → p.arg0 % 8 = k → words p ≠ [] →
    (s.up (clusterIsland k) = true → progRefused k (p.arg1 % 2 ^ 14) (words p).length (runningPacket i p s) = none) →
    ∃ t, exec (.progLoad i) s = .next t ∧
      t = answeredRun i p (⟨regOffset .gsq k 24, some (2 ^ 31 + p.arg1 % 2 ^ 14), 0⟩ ::
        (words p).zipIdx.map fun e => ⟨regOffset .gsq k 25, some e.1, e.2⟩) (words p).length (fun _ => []) s) ∧
  (∀ (i : Fin 4) (k : Fin 8) (j : Nat) (p : Inbound) (s : State), Takes i 0x11 p s → p.arg0 % 8 = k → words p ≠ [] →
    s.up (clusterIsland k) = true → progRefused k (p.arg1 % 2 ^ 14) (words p).length (runningPacket i p s) = some j →
    ∃ t, exec (.progLoad i) s = .next t ∧ Answered i p { status := 6, arg0 := j } s t ∧ Touches [.sess] [] s t) ∧
  (∀ (i : Fin 4) (p : Inbound) (s : State), Takes i 0x12 p s → (p.len ≠ 0 ∨ p.arg1 < 4 ∨ 16384 < p.arg1 ∨ p.arg1 % 4 ≠ 0) →
    ∃ t, exec (.flashRead i) s = .next t ∧ Answered i p { status := 2 } s t ∧ Touches [.sess] [] s t) ∧
  (∀ (i : Fin 4) (p : Inbound) (s : State), Takes i 0x13 p s → p.arg0 % 256 ≠ 0 →
    ∃ t, exec (.flashWrite i) s = .next t ∧ Answered i p { status := 2 } s t ∧ Touches [.sess] [] s t) ∧
  (∀ (p : Inbound) (s : State), Takes 0 0x13 p s → s.cmd.priv = true → s.up 225 = true → s.nvm.image = none → p.arg0 % 256 = 0 →
    ∃ t, exec (.flashWrite 0) s = .next t ∧ Answered 0 p { arg0 := p.len } s t ∧ Within [.sess, .mem] [.flash] s t ∧
      (p.arg1 % 2 = 0 → ∀ j, j < (words p).length → p.arg0 + 4 * (words p).length ≤ 2 ^ 32 →
        flashWord (p.arg0 + 4 * j) t = flashWord (p.arg0 + 4 * j) s &&& (words p).getD j 0)) ∧
  (∀ (i : Fin 4) (n : Fin 48) (p : Inbound) (s : State), Takes i 0x20 p s → p.arg0 % 64 = n → p.len = 40 →
    s.up (framingIsland n) = true → (s.actOf n).normal.length < 256 →
    ∃ t, exec (.ploamSend i) s = .next t ∧ Answered i p {} s t ∧
      (t.actOf n).normal = (s.actOf n).normal ++ [bodyMessage n p.payload s] ∧ (t.actOf n).seq = (s.actOf n).seq + 1 ∧
      Touches [.sess, .cmd, .act] [] s t) ∧
  (∀ (i : Fin 4) (p : Inbound) (s : State), Takes i 0x20 p s → (p.len ≠ 40 ∨ 47 < p.arg0 % 64) →
    ∃ t, exec (.ploamSend i) s = .next t ∧ Answered i p { status := 2 } s t ∧ Touches [.sess] [] s t) ∧
  (∀ (i : Fin 4) (n : Fin 48) (p : Inbound) (s : State), Takes i 0x20 p s → p.arg0 % 64 = n → p.len = 40 →
    s.up (framingIsland n) = true → 256 ≤ (s.actOf n).normal.length →
    ∃ t, exec (.ploamSend i) s = .next t ∧ Answered i p { status := 9 } s t ∧ Counted ACT.PLQ_FULL_CNT n s t ∧ Raised n 25 t) ∧
  (∀ (i : Fin 4) (n : Fin 48) (port : Nat) (r : Reply) (u : State) (p : Inbound) (s : State), Takes i 0x21 p s →
    p.arg0 / 2 ^ 31 % 2 = 1 → p.arg0 / 2 ^ 16 % 64 = n → p.arg0 % 2 ^ 16 = port → p.len ≠ 0 →
    (portOmci 0 n port s = true ∧ p.len ≤ 2000 ∨ portOmci 0 n port s = false ∧ privileged (accessing i s) = true) →
    injectInto 211 13 p.payload
      (fun x => match queueFor n port x with | some (d, _) => overLimit d (xgemBytes p.len) x | none => false)
      (fun h => tmdEnqueue n port h p.len) (runningPacket i p s) = (some r, u) →
    ∃ t, exec (.inject i) s = .next t ∧ t = packetAnswered i p r s u) ∧
  (∀ (lane : Fin 32) (c : Fin 8) (q : Node) (r : Reply) (u : State) (p : Inbound) (s : State), Takes 0 0x21 p s → s.cmd.priv = true →
    p.arg0 / 2 ^ 31 % 2 = 0 → p.arg0 % 32 = lane → p.arg0 / 2 ^ 8 % 8 = c → p.len ≠ 0 → p.len + 4 ≤ rd NET.PORT_CFG_MAX_FRAME lane s →
    q = tmuQueue lane (c * 9 + 8) →
    injectInto 212 14 p.payload (fun x => isPort lane x && nrd NODE.VALID q x == 1 && overLimit q (p.len + 4 + 20) x)
      (fun h => tmuEnqueue lane (.injection c) (some h) (p.len + 4) none) (runningPacket 0 p s) = (some r, u) →
    ∃ t, exec (.inject 0) s = .next t ∧ t = packetAnswered 0 p r s u) ∧
  (∀ (i : Fin 4) (pt wh snap : Nat) (p : Inbound) (s : State), Takes i 0x22 p s → p.arg0 / 2 ^ 28 = pt → pt ≤ 3 →
    p.arg0 / 2 ^ 16 % 64 = wh → wh < (if pt < 2 then 32 else 48) → 1 ≤ p.arg1 → p.arg1 ≤ 65535 → (p.len = 0 ∨ p.len = 4) →
    (words p).headD 16352 = snap → 64 ≤ snap → snap ≤ 16352 →
    ∃ t, exec (.capture i) s = .next t ∧ Answered i p {} s t ∧
      (t.session i).capture = some { point := pt, whereIdx := wh, portId := p.arg0 % 2 ^ 16, left := p.arg1, snap := snap } ∧
      Touches [.sess] [] s t) ∧
  (∀ (i : Fin 4) (p : Inbound) (s : State), Takes i 0x22 p s → (3 < p.arg0 / 2 ^ 28 ∨ 65535 < p.arg1) →
    ∃ t, exec (.capture i) s = .next t ∧ Answered i p { status := 2 } s t ∧ Touches [.sess] [] s t) ∧
  (∀ (i : Fin 4) (dev type : Nat) (w : MbakinWait) (p : Inbound) (s : State), Takes i 0x30 p s → p.arg0 % 2 ^ 16 = dev →
    (dev ≤ 1023 ∨ dev = 0xFFFF) → p.arg0 / 2 ^ 16 % 16 = type → (type = 3 ∧ p.len = 0 ∨ type = 5 ∧ 16 ≤ p.len ∧ p.len ≤ 1400) →
    p.arg1 % 2 ^ 24 = 0 →
    w = { tag := p.tag, until_ := s.clk + 100000000, type := type, role := p.arg1 / 2 ^ 24, body := p.payload,
          dst := (if dev = 0xFFFF then none else some dev), redirected := false } →
    ∃ t, exec (.mbakinSend i) s = .next t ∧
      t = packetWaits i (fun y => { y with mbakin := some w }) s
        (mbakinSend type w.dst false false w.role 0 p.payload (runningPacket i p s))) ∧
  (∀ (i : Fin 4) (p : Inbound) (s : State), Takes i 0x30 p s → p.arg0 % 2 ^ 16 ≤ 1023 → p.arg0 / 2 ^ 16 % 16 = 5 →
    p.arg1 % 2 ^ 24 = 0 → 1400 < p.len →
    ∃ t, exec (.mbakinSend i) s = .next t ∧ Answered i p { status := 8 } s t ∧ Touches [.sess] [] s t) ∧
  (∀ (w : MbakinWait) (s : State), s.up 223 = true → (s.session 6).mbakin = some w →
    ∃ t, exec (.mbakinReplyTimeout 4) s = .next t ∧ t = actionNext (finish 6 0x30 w.tag { status := 10 }
      ((passTo w.until_ s).setSession 6 { (passTo w.until_ s).session 6 with mbakin := none }))) ∧
  (∀ (i : Fin 5) (s : State), s.up 223 = true → (s.session (waiter i)).mbakin = none → s.sys.actions = [] →
    ∃ t, exec (.mbakinReplyTimeout i) s = .next t ∧ t = s) ∧
  (∀ (p : Inbound) (s : State), Takes 0 0x40 p s → p.len ≠ 0 →
    ∃ t, exec .privChallenge s = .next t ∧ Answered 0 p { status := 2 } s t ∧ Touches [.sess] [] s t) ∧
  (∀ (p : Inbound) (s : State), Takes 0 0x41 p s → p.len ≠ 16 →
    ∃ t, exec .privProve s = .next t ∧ Answered 0 p { status := 2 } s t ∧ Touches [.sess] [] s t) ∧
  (∀ (p : Inbound) (s : State), Takes 0 0x42 p s → p.len ≠ 0 →
    ∃ t, exec .privDrop s = .next t ∧ Answered 0 p { status := 2 } s t ∧ Touches [.sess] [] s t) ∧
  (∀ (s : State), s.up 223 = true → s.cmd.lockoutEnd = none → ∃ t, exec .lockoutExpiry s = .next t ∧ t = s)

/-- R5 to R7, R334, R382 to R386, R413, R415 to R417: register accesses. Over MMIO, through the indirect pair or by a session, a read
returns a register's word, a write gives its fields their values, at every offset that names a register, as its block does it; an RC counter clears as it is read; a locked field, an encoding not
listed and a guarded register without privilege keep their values, counted and with a cause; an offset that names no register does
nothing but count; an island in reset answers through its wrapper; an access waits while a table load holds its block. -/
def Obligations.RegisterAccesses : Prop :=
  (∀ (be : BitVec 4) (s : State), Runs 4 0x42008 s → tunnelUp s = true →
    ∃ t, exec (.mmioAccess 0x42008 none be) s = .next t ∧ t.cmd.readData = rd SYS.PORTS 0 s ∧ Touches [.cmd] [] s t) ∧
  (∀ (w : Word) (s : State), Runs 4 0x42008 s → tunnelUp s = true →
    ∃ t, exec (.mmioAccess 0x42008 (some w) 15) s = .next t ∧ rd SYS.PORTS 0 t = w.toNat ∧
      Touches [.cmd, .mem] [(SYS.PORTS, 0, 0)] s t) ∧
  (∀ (ofs : BitVec 24) (w : Word) (be : BitVec 4) (s : State), s.up 223 = true → tunnelUp s = true → be ≠ 15 → 0x50808 ≤ ofs.toNat →
    ∃ t, exec (.mmioAccess ofs (some w) be) s = .next t ∧ Counted CMD.BAD_ADDR_CNT 0 s t ∧ Raised 183 5 t ∧
      Touches (.cmd :: .mem :: signals) [(CMD.BAD_ADDR_CNT, 0, 0), (CMD.IND_STS_BAD_ADDR, 0, 0)] s t) ∧
  (∀ (ofs : BitVec 24) (w : Option Word) (be : BitVec 4) (s : State), s.up 223 = true → tunnelUp s = false →
    ∃ t, exec (.mmioAccess ofs w be) s = .next t ∧ t = s) ∧
  (∀ (w : Word) (s : State), Runs 4 0x42008 s → tunnelUp s = true → rd CMD.IND_ADDR_OFFSET 0 s = 0x42008 →
    ∃ t, exec (.indDataAccess (some w)) s = .next t ∧ rd SYS.PORTS 0 t = w.toNat ∧
      rd CMD.IND_ADDR_OFFSET 0 t = (if on CMD.IND_ADDR_AUTO_INC 0 s then 0x4200C else 0x42008) ∧
      Touches [.cmd, .mem] [(SYS.PORTS, 0, 0), (CMD.IND_ADDR_OFFSET, 0, 0)] s t) ∧
  (∀ (s : State), Runs 4 0x42008 s → tunnelUp s = true → rd CMD.IND_ADDR_OFFSET 0 s = 0x42008 →
    ∃ t, exec (.indDataAccess none) s = .next t ∧ t.cmd.readData = rd SYS.PORTS 0 s ∧
      rd CMD.IND_ADDR_OFFSET 0 t = (if on CMD.IND_ADDR_AUTO_INC 0 s then 0x4200C else 0x42008) ∧
      Touches [.cmd, .mem] [(CMD.IND_ADDR_OFFSET, 0, 0)] s t) ∧
  (∀ (src : Fin 5) (w : Word) (s : State), Runs src 0x42008 s → tunnelUp s = true →
    ∃ t, exec (.registerWrite src 0x42008 w) s = .next t ∧ rd SYS.PORTS 0 t = w.toNat ∧
      Touches [.cmd, .mem] [(SYS.PORTS, 0, 0)] s t) ∧
  (∀ (src : Fin 5) (w : Word) (s : State), Runs src 0x42040 s → tunnelUp s = true →
    ∃ t, exec (.registerWrite src 0x42040 w) s = .next t ∧ Touches [.cmd] [] s t) ∧
  (∀ (src : Fin 5) (s : State), Runs src 0x42040 s → tunnelUp s = true →
    ∃ t, exec (.rcCounterRead src 0x42040) s = .next t ∧ t.cmd.readData = rd SYS.TX_CNT 0 s ∧ rd SYS.TX_CNT 0 t = 0 ∧
      Touches [.cmd, .mem] [(SYS.TX_CNT, 0, 0)] s t) ∧
  (∀ (src : Fin 5) (w : Word) (s : State), Runs src 0x180004 s → tunnelUp s = true → s.up 213 = true → on BPM.CTL_LOCK 0 s = true →
    ∃ t, exec (.registerWrite src 0x180004 w) s = .next t ∧ rd BPM.POOL_S_CNT 0 t = rd BPM.POOL_S_CNT 0 s ∧
      Counted CMD.RWL_CNT 0 s t ∧ Raised 183 1 t ∧ Touches (.cmd :: .mem :: signals) [(CMD.RWL_CNT, 0, 0)] s t) ∧
  (∀ (src : Fin 5) (w : Word) (s : State), Runs src 0x180004 s → tunnelUp s = true → s.up 213 = true → on BPM.CTL_LOCK 0 s = false →
    ∃ t, exec (.registerWrite src 0x180004 w) s = .next t ∧
      (1 ≤ w.toNat % 2048 → w.toNat % 2048 ≤ 1024 → rd BPM.POOL_S_CNT 0 t = w.toNat % 2048 ∧ t.ev = s.ev) ∧
      (w.toNat % 2048 = 0 ∨ 1024 < w.toNat % 2048 → rd BPM.POOL_S_CNT 0 t = rd BPM.POOL_S_CNT 0 s ∧ Counted CMD.ENC_CNT 0 s t ∧
        Raised 183 3 t) ∧ Touches (.cmd :: .mem :: signals) [(BPM.POOL_S_CNT, 0, 0), (CMD.ENC_CNT, 0, 0)] s t) ∧
  (∀ (src : Fin 5) (ofs : BitVec 24) (w : Word) (s : State), Runs src ofs.toNat s → src ≠ 4 → regAt ofs.toNat = none →
    ∃ t, exec (.registerWrite src ofs w) s = .next t ∧ Counted CMD.BAD_ADDR_CNT 0 s t ∧ rd CMD.IND_STS_BAD_ADDR 0 t = 1 ∧
      Raised 183 5 t ∧ Touches (.cmd :: .mem :: signals) [(CMD.BAD_ADDR_CNT, 0, 0), (CMD.IND_STS_BAD_ADDR, 0, 0)] s t) ∧
  (∀ (src : Fin 5) (ofs : BitVec 24) (w : Word) (sp : Sp) (i k j : Nat) (s : State), Runs src ofs.toNat s → src ≠ 4 →
    regAt ofs.toNat = some (sp, i, k) → homeOf sp i k = some j → s.up j = false →
    ∃ t, exec (.registerWrite src ofs w) s = .next t ∧ Raised 183 21 t ∧ Tbl.get 0 t.wrapped j = Tbl.get 0 s.wrapped j + 1 ∧
      Touches (.cmd :: .wrapped :: signals) [] s t) ∧
  (∀ (src : Fin 5) (ofs : BitVec 24) (w : Word) (sp : Sp) (i k : Nat) (s : State), Runs src ofs.toNat s → src ≠ 4 →
    (src ≠ 0 ∨ s.cmd.priv = false) → regAt ofs.toNat = some (sp, i, k) → isGuarded sp k = true →
    (∀ j, homeOf sp i k = some j → s.up j = true) →
    ∃ t, exec (.registerWrite src ofs w) s = .next t ∧ Counted CMD.GUARD_CNT 0 s t ∧ Raised 183 4 t ∧
      Touches (.cmd :: .mem :: signals) [(CMD.GUARD_CNT, 0, 0)] s t) ∧
  (∀ (src : Fin 5) (ofs : BitVec 24) (w : Word) (s : State), s.up 223 = true → src ≠ 4 → portHeld src ofs.toNat s = true →
    ∃ t, exec (.registerWrite src ofs w) s = .next t ∧ t = { s with cmd := { s.cmd with
      portWait := s.cmd.portWait ++ [{ src := src, ofs := ofs.toNat, w := some w.toNat, ind := false }] } }) ∧
  (∀ (src : Fin 5) (ofs : BitVec 24) (w : Word) (sp : Sp) (i k : Nat) (s : State), Runs src ofs.toNat s → src ≠ 4 →
    regAt ofs.toNat = some (sp, i, k) → downIsland sp i k s = none →
    (isGuarded sp k = false ∨ privileged (accessing src s) = true) →
    ∃ t, exec (.registerWrite src ofs w) s = .next t ∧
      t = accessed s 0 (answerError ofs.toNat w.toNat (blockWrite sp (instOf sp i s) k w.toNat (accessing src s)))) ∧
  (∀ (src : Fin 5) (ofs : BitVec 24) (sp : Sp) (i k : Nat) (s : State), Runs src ofs.toNat s → src ≠ 4 →
    regAt ofs.toNat = some (sp, i, k) → downIsland sp i k s = none →
    (isGuarded sp k = false ∨ privileged (accessing src s) = true) →
    ∃ t, exec (.rcCounterRead src ofs) s = .next t ∧
      t = accessed s (blockRead sp (instOf sp i s) k (accessing src s)).1
        (answerError ofs.toNat 0 (blockRead sp (instOf sp i s) k (accessing src s)).2)) ∧
  (∀ (ofs : BitVec 24) (w : Word) (sp : Sp) (i k : Nat) (s : State), Runs 4 ofs.toNat s → tunnelUp s = true →
    0x40000 ≤ ofs.toNat → ofs ≠ 0x40008 → ofs ≠ 0x4000C → ofs ≠ 0x40010 → ¬(0x50000 ≤ ofs.toNat ∧ ofs.toNat < 0x50808) →
    indirectOnly ofs.toNat = false → regAt ofs.toNat = some (sp, i, k) → downIsland sp i k s = none →
    (isGuarded sp k = false ∨ privileged s = true) →
    ∃ t, exec (.mmioAccess ofs (some w) 15) s = .next t ∧
      t = startDue (setRead 0 (indStatus (answerError ofs.toNat w.toNat
        (blockWrite sp (instOf sp i s) k w.toNat (setVerdict 0 0 s)))))) ∧
  (∀ (ofs : BitVec 24) (be : BitVec 4) (sp : Sp) (i k : Nat) (s : State), Runs 4 ofs.toNat s → tunnelUp s = true →
    0x40000 ≤ ofs.toNat → ofs ≠ 0x40008 → ofs ≠ 0x4000C → ofs ≠ 0x40010 → ¬(0x50000 ≤ ofs.toNat ∧ ofs.toNat < 0x50808) →
    indirectOnly ofs.toNat = false → regAt ofs.toNat = some (sp, i, k) → downIsland sp i k s = none →
    (isGuarded sp k = false ∨ privileged s = true) →
    ∃ t, exec (.mmioAccess ofs none be) s = .next t ∧
      t = startDue (setRead (blockRead sp (instOf sp i s) k (setVerdict 0 0 s)).1
        (indStatus (answerError ofs.toNat 0 (blockRead sp (instOf sp i s) k (setVerdict 0 0 s)).2)))) ∧
  (∀ (ofs : BitVec 24) (w : Word) (be : BitVec 4) (s : State), s.up 223 = true → tunnelUp s = true → ofs.toNat < 0x40000 →
    (s.session (ofs.toNat / 0x10000)).state = .open → be ≠ 0 →
    (s.session (ofs.toNat / 0x10000)).fifo.length + (enabledBytes be.toNat w.toNat).length ≤ 65536 →
    ((s.session (ofs.toNat / 0x10000)).idle = false ∨
      badHeader ((s.session (ofs.toNat / 0x10000)).fifo ++ enabledBytes be.toNat w.toNat) = false) →
    ∃ t, exec (.mmioAccess ofs (some w) be) s = .next t ∧
      (t.session (ofs.toNat / 0x10000)).fifo = (s.session (ofs.toNat / 0x10000)).fifo ++ enabledBytes be.toNat w.toNat ∧
      (t.session (ofs.toNat / 0x10000)).lastByte = s.clk ∧ Touches [.sess] [] s t) ∧
  (∀ (k : Fin 16) (ofs : BitVec 24) (w : Word) (s : State), Runs 4 ofs.toNat s → tunnelUp s = true → ofs.toNat = 0x50000 + 4 * k →
    ∃ t, exec (.mmioAccess ofs (some w) 15) s = .next t ∧ msixRead k t = w.toNat ∧ Touches [.cmd] [] s t) ∧
  (∀ (w : Word) (ofs : Nat) (sp : Sp) (i k : Nat) (s : State), Runs 4 ofs s → tunnelUp s = true → rd CMD.IND_ADDR_OFFSET 0 s = ofs →
    regAt ofs = some (sp, i, k) → downIsland sp i k s = none → (isGuarded sp k = false ∨ privileged s = true) →
    (blockWrite sp (instOf sp i s) k w.toNat (setVerdict 0 0 s)).cmd.verdict ≠ 5 →
    ∃ t, exec (.indDataAccess (some w)) s = .next t ∧
      t = indAdvance (startDue (setRead 0 (blockWrite sp (instOf sp i s) k w.toNat (setVerdict 0 0 s))))) ∧
  (∀ (ofs : Nat) (sp : Sp) (i k : Nat) (s : State), Runs 4 ofs s → tunnelUp s = true → rd CMD.IND_ADDR_OFFSET 0 s = ofs →
    regAt ofs = some (sp, i, k) → downIsland sp i k s = none → (isGuarded sp k = false ∨ privileged s = true) →
    (blockRead sp (instOf sp i s) k (setVerdict 0 0 s)).2.cmd.verdict ≠ 5 →
    ∃ t, exec (.indDataAccess none) s = .next t ∧
      t = indAdvance (startDue (setRead (blockRead sp (instOf sp i s) k (setVerdict 0 0 s)).1
        (blockRead sp (instOf sp i s) k (setVerdict 0 0 s)).2))) ∧
  (∀ (w : Option Word) (s : State), s.up 223 = true → tunnelUp s = false → ∃ t, exec (.indDataAccess w) s = .next t ∧ t = s)

end
end

