-- ==== Sys2Proof/Laws/Store.lean ====
section
/-!
SUPPORT. The sparse stores: reading what was written, and the canonical form under a write.
-/

set_option linter.unusedSectionVars false

namespace Sys2Proof.Machine

section
variable {κ α : Type} [DecidableEq κ] [DecidableEq α] (d : κ → α) (lt : κ → κ → Bool)

theorem Assoc.get_erase_self (k : κ) (m : List (κ × α)) : Assoc.get d (Assoc.erase k m) k = d k := by
  induction m with
  | nil => rfl
  | cons e m ih =>
    by_cases h : e.1 = k
    · simp [Assoc.erase, h, ih]
    · simp [Assoc.erase, Assoc.get, h, ih]

theorem Assoc.get_erase_other {k k' : κ} (h : k' ≠ k) (m : List (κ × α)) :
    Assoc.get d (Assoc.erase k m) k' = Assoc.get d m k' := by
  induction m with
  | nil => rfl
  | cons e m ih =>
    by_cases he : e.1 = k
    · have : ¬ e.1 = k' := fun x => h (x.symm.trans he)
      simp [Assoc.erase, Assoc.get, he, ih]
      intro x; exact absurd x.symm h
    · simp [Assoc.erase, Assoc.get, he, ih]

theorem Assoc.get_insert_other {k k' : κ} (h : k' ≠ k) (v : α) (m : List (κ × α)) :
    Assoc.get d (Assoc.insert lt k v m) k' = Assoc.get d m k' := by
  induction m with
  | nil => simp [Assoc.insert, Assoc.get, Ne.symm h]
  | cons e m ih =>
    by_cases hl : lt k e.1
    · simp [Assoc.insert, Assoc.get, hl, Ne.symm h]
    · simp [Assoc.insert, Assoc.get, hl, ih]

theorem Assoc.get_insert_self {k : κ} (v : α) (m : List (κ × α)) (h : ∀ e ∈ m, e.1 ≠ k) :
    Assoc.get d (Assoc.insert lt k v m) k = v := by
  induction m with
  | nil => simp [Assoc.insert, Assoc.get]
  | cons e m ih =>
    have h1 := h e (by simp)
    have ih := ih (fun x hx => h x (by simp [hx]))
    by_cases hl : lt k e.1
    · simp [Assoc.insert, Assoc.get, hl]
    · simp [Assoc.insert, Assoc.get, hl, h1, ih]

theorem Assoc.not_mem_erase (k : κ) (m : List (κ × α)) : ∀ e ∈ Assoc.erase k m, e.1 ≠ k := by
  induction m with
  | nil => simp [Assoc.erase]
  | cons e m ih =>
    intro x hx
    by_cases he : e.1 = k
    · simp [Assoc.erase, he] at hx; exact ih x hx
    · simp [Assoc.erase, he] at hx
      rcases hx with rfl | hx
      · exact he
      · exact ih x hx

/-- A key that was written reads as the value written. -/
theorem Assoc.get_set_self (m : List (κ × α)) (k : κ) (v : α) : Assoc.get d (Assoc.set lt d m k v) k = v := by
  unfold Assoc.set
  split
  · next h => rw [Assoc.get_erase_self, h]
  · exact Assoc.get_insert_self d lt v _ (Assoc.not_mem_erase k m)

/-- Every other key reads as before. -/
theorem Assoc.get_set_other (m : List (κ × α)) {k k' : κ} (h : k' ≠ k) (v : α) :
    Assoc.get d (Assoc.set lt d m k v) k' = Assoc.get d m k' := by
  unfold Assoc.set
  split
  · exact Assoc.get_erase_other d h m
  · rw [Assoc.get_insert_other d lt h, Assoc.get_erase_other d h]

/-- Dropping entries of other keys. -/
theorem Assoc.get_filter (p : κ × α → Bool) (m : List (κ × α)) (k : κ) (hp : ∀ e : κ × α, e.1 = k → p e = true) :
    Assoc.get d (m.filter p) k = Assoc.get d m k := by
  induction m with
  | nil => rfl
  | cons e m ih =>
    by_cases he : e.1 = k
    · simp [List.filter, hp e he, Assoc.get, he]
    · by_cases hq : p e = true <;> simp [List.filter, hq, Assoc.get, he, ih]

/-! The canonical form. -/

theorem Assoc.erase_erase (k : κ) (m : List (κ × α)) : Assoc.erase k (Assoc.erase k m) = Assoc.erase k m := by
  induction m with
  | nil => rfl
  | cons e m ih => by_cases h : e.1 = k <;> simp [Assoc.erase, h, ih]

theorem Assoc.erase_insert (k : κ) (v : α) (m : List (κ × α)) : Assoc.erase k (Assoc.insert lt k v m) = Assoc.erase k m := by
  induction m with
  | nil => simp [Assoc.insert, Assoc.erase]
  | cons e m ih =>
    unfold Assoc.insert
    split <;> by_cases he : e.1 = k <;> simp [Assoc.erase, he, ih]

theorem Assoc.set_set (m : List (κ × α)) (k : κ) (v w : α) :
    Assoc.set lt d (Assoc.set lt d m k v) k w = Assoc.set lt d m k w := by
  unfold Assoc.set
  by_cases h : v = d k <;> simp [h, Assoc.erase_erase, Assoc.erase_insert]

theorem Assoc.risesFrom_mono (trans : ∀ a b c, lt a b = true → lt b c = true → lt a c = true) {a b : κ}
    (h : lt a b = true) (m : List (κ × α)) (r : Assoc.risesFrom lt b m = true) : Assoc.risesFrom lt a m = true := by
  cases m with
  | nil => rfl
  | cons e m =>
    simp [Assoc.risesFrom] at r ⊢
    exact ⟨trans _ _ _ h r.1, r.2⟩

theorem Assoc.risesFrom_erase (trans : ∀ a b c, lt a b = true → lt b c = true → lt a c = true) (k : κ)
    (m : List (κ × α)) : ∀ b, Assoc.risesFrom lt b m = true → Assoc.risesFrom lt b (Assoc.erase k m) = true := by
  induction m with
  | nil => intro b h; exact h
  | cons e m ih =>
    intro b h
    simp [Assoc.risesFrom] at h
    by_cases he : e.1 = k
    · simp [Assoc.erase, he]
      exact ih b (Assoc.risesFrom_mono lt trans h.1 m h.2)
    · simp [Assoc.erase, he, Assoc.risesFrom, h.1, ih e.1 h.2]

theorem Assoc.rises_erase (trans : ∀ a b c, lt a b = true → lt b c = true → lt a c = true) (k : κ) (m : List (κ × α))
    (h : Assoc.rises lt m = true) : Assoc.rises lt (Assoc.erase k m) = true := by
  induction m with
  | nil => exact h
  | cons e m ih =>
    simp [Assoc.rises] at h
    by_cases he : e.1 = k
    · simp [Assoc.erase, he]
      refine ih ?_
      cases m with
      | nil => rfl
      | cons e' m => simp [Assoc.risesFrom] at h; simp [Assoc.rises, h.2]
    · simp [Assoc.erase, he, Assoc.rises]
      exact Assoc.risesFrom_erase lt trans k m e.1 h

theorem Assoc.risesFrom_insert (tri : ∀ a b, a ≠ b → lt a b = false → lt b a = true) (k : κ) (v : α)
    (m : List (κ × α)) (hm : ∀ e ∈ m, e.1 ≠ k) :
    ∀ b, lt b k = true → Assoc.risesFrom lt b m = true → Assoc.risesFrom lt b (Assoc.insert lt k v m) = true := by
  induction m with
  | nil => intro b h _; simp [Assoc.insert, Assoc.risesFrom, h]
  | cons e m ih =>
    intro b hb h
    simp [Assoc.risesFrom] at h
    by_cases hl : lt k e.1
    · simp [Assoc.insert, hl, Assoc.risesFrom, hb, h.2]
    · have he : lt e.1 k = true := tri k e.1 (fun x => hm e (by simp) x.symm) (by simpa using hl)
      simp [Assoc.insert, hl, Assoc.risesFrom, h.1, ih (fun x hx => hm x (by simp [hx])) e.1 he h.2]

theorem Assoc.rises_insert (tri : ∀ a b, a ≠ b → lt a b = false → lt b a = true) (k : κ) (v : α)
    (m : List (κ × α)) (hm : ∀ e ∈ m, e.1 ≠ k) (h : Assoc.rises lt m = true) :
    Assoc.rises lt (Assoc.insert lt k v m) = true := by
  cases m with
  | nil => simp [Assoc.insert, Assoc.rises, Assoc.risesFrom]
  | cons e m =>
    simp [Assoc.rises] at h
    by_cases hl : lt k e.1
    · simp [Assoc.insert, hl, Assoc.rises, Assoc.risesFrom, h]
    · have he : lt e.1 k = true := tri k e.1 (fun x => hm e (by simp) x.symm) (by simpa using hl)
      simp [Assoc.insert, hl, Assoc.rises]
      exact Assoc.risesFrom_insert lt tri k v m (fun x hx => hm x (by simp [hx])) e.1 he h

theorem Assoc.mem_erase {k : κ} {m : List (κ × α)} {e : κ × α} (h : e ∈ Assoc.erase k m) : e ∈ m := by
  induction m with
  | nil => exact h
  | cons x m ih =>
    by_cases hx : x.1 = k
    · simp [Assoc.erase, hx] at h; exact List.mem_cons_of_mem _ (ih h)
    · simp [Assoc.erase, hx] at h
      rcases h with rfl | h
      · exact List.mem_cons_self
      · exact List.mem_cons_of_mem _ (ih h)

theorem Assoc.mem_insert {k : κ} {v : α} {m : List (κ × α)} {e : κ × α} (h : e ∈ Assoc.insert lt k v m) :
    e = (k, v) ∨ e ∈ m := by
  induction m with
  | nil => simp [Assoc.insert] at h; exact .inl h
  | cons x m ih =>
    by_cases hl : lt k x.1
    · simp [Assoc.insert, hl] at h; simpa using h
    · simp [Assoc.insert, hl] at h
      rcases h with rfl | h
      · exact .inr List.mem_cons_self
      · rcases ih h with h | h
        · exact .inl h
        · exact .inr (List.mem_cons_of_mem _ h)

/-- A write keeps the canonical form. -/
theorem Assoc.wf_set (trans : ∀ a b c, lt a b = true → lt b c = true → lt a c = true)
    (tri : ∀ a b, a ≠ b → lt a b = false → lt b a = true) (m : List (κ × α)) (k : κ) (v : α)
    (h : Assoc.wf lt d m = true) : Assoc.wf lt d (Assoc.set lt d m k v) = true := by
  simp only [Assoc.wf, Bool.and_eq_true, List.all_eq_true, decide_eq_true_eq] at h ⊢
  unfold Assoc.set
  split
  · exact ⟨Assoc.rises_erase lt trans k m h.1, fun e he => h.2 e (Assoc.mem_erase he)⟩
  · next hv =>
    refine ⟨Assoc.rises_insert lt tri k v _ (Assoc.not_mem_erase k m) (Assoc.rises_erase lt trans k m h.1), fun e he => ?_⟩
    rcases Assoc.mem_insert lt he with rfl | he
    · exact hv
    · exact h.2 e (Assoc.mem_erase he)

theorem Assoc.risesFrom_filter (trans : ∀ a b c, lt a b = true → lt b c = true → lt a c = true) (p : κ × α → Bool)
    (m : List (κ × α)) : ∀ b, Assoc.risesFrom lt b m = true → Assoc.risesFrom lt b (m.filter p) = true := by
  induction m with
  | nil => intro b h; exact h
  | cons e m ih =>
    intro b h
    simp [Assoc.risesFrom] at h
    by_cases hp : p e
    · simp [hp, Assoc.risesFrom, h.1, ih e.1 h.2]
    · simp [hp]; exact ih b (Assoc.risesFrom_mono lt trans h.1 m h.2)

theorem Assoc.rises_filter (trans : ∀ a b c, lt a b = true → lt b c = true → lt a c = true) (p : κ × α → Bool)
    (m : List (κ × α)) (h : Assoc.rises lt m = true) : Assoc.rises lt (m.filter p) = true := by
  induction m with
  | nil => rfl
  | cons e m ih =>
    simp [Assoc.rises] at h
    by_cases hp : p e
    · simp [hp, Assoc.rises]; exact Assoc.risesFrom_filter lt trans p m e.1 h
    · simp [hp]
      refine ih ?_
      cases m with
      | nil => rfl
      | cons e' m => simp [Assoc.risesFrom] at h; simp [Assoc.rises, h.2]

/-- A filter keeps the canonical form. -/
theorem Assoc.wf_filter (trans : ∀ a b c, lt a b = true → lt b c = true → lt a c = true) (p : κ × α → Bool)
    (m : List (κ × α)) (h : Assoc.wf lt d m = true) : Assoc.wf lt d (m.filter p) = true := by
  simp only [Assoc.wf, Bool.and_eq_true, List.all_eq_true, decide_eq_true_eq] at h ⊢
  exact ⟨Assoc.rises_filter lt trans p m h.1, fun e he => h.2 e (List.mem_filter.mp he).1⟩

theorem Assoc.risesFrom_filterMap (trans : ∀ a b c, lt a b = true → lt b c = true → lt a c = true)
    (f : κ × α → Option (κ × α)) (hf : ∀ e e', f e = some e' → e'.1 = e.1) (m : List (κ × α)) :
    ∀ b, Assoc.risesFrom lt b m = true → Assoc.risesFrom lt b (m.filterMap f) = true := by
  induction m with
  | nil => intro b h; exact h
  | cons e m ih =>
    intro b h
    simp [Assoc.risesFrom] at h
    cases hp : f e with
    | none => simp [hp]; exact ih b (Assoc.risesFrom_mono lt trans h.1 m h.2)
    | some e' => simp [hp, Assoc.risesFrom, hf e e' hp, h.1, ih e.1 h.2]

theorem Assoc.rises_filterMap (trans : ∀ a b c, lt a b = true → lt b c = true → lt a c = true)
    (f : κ × α → Option (κ × α)) (hf : ∀ e e', f e = some e' → e'.1 = e.1) (m : List (κ × α))
    (h : Assoc.rises lt m = true) : Assoc.rises lt (m.filterMap f) = true := by
  induction m with
  | nil => rfl
  | cons e m ih =>
    simp [Assoc.rises] at h
    cases hp : f e with
    | some e' => simp [hp, Assoc.rises, hf e e' hp]; exact Assoc.risesFrom_filterMap lt trans f hf m e.1 h
    | none =>
      simp [hp]
      refine ih ?_
      cases m with
      | nil => rfl
      | cons e' m => simp [Assoc.risesFrom] at h; simp [Assoc.rises, h.2]

/-- A change of the values that drops every value an unlisted key reads as keeps the canonical form. -/
theorem Assoc.wf_filterMap (trans : ∀ a b c, lt a b = true → lt b c = true → lt a c = true)
    (f : κ × α → Option (κ × α)) (hf : ∀ e e', f e = some e' → e'.1 = e.1)
    (m : List (κ × α)) (hd : ∀ e e', e ∈ m → f e = some e' → e'.2 ≠ d e'.1) (h : Assoc.wf lt d m = true) :
    Assoc.wf lt d (m.filterMap f) = true := by
  simp only [Assoc.wf, Bool.and_eq_true, List.all_eq_true, decide_eq_true_eq] at h ⊢
  refine ⟨Assoc.rises_filterMap lt trans f hf m h.1, fun e he => ?_⟩
  obtain ⟨e0, h0, h1⟩ := List.mem_filterMap.mp he
  exact hd e0 e h0 h1
end

/-! Words. -/

theorem Key.ext_of {a b : Key} (h1 : a.sp = b.sp) (h2 : a.inst = b.inst) (h3 : a.idx = b.idx) (h4 : a.word = b.word) : a = b := by
  cases a; cases b; simp_all

theorem Key.lt_trans (a b c : Key) : Key.lt a b = true → Key.lt b c = true → Key.lt a c = true := by
  simp only [Key.lt, decide_eq_true_eq]; omega

theorem Sp.ctorIdx_injective {a b : Sp} (h : a.ctorIdx = b.ctorIdx) : a = b := by
  rw [← Sp.ofNat_ctorIdx a, ← Sp.ofNat_ctorIdx b, h]

theorem Key.lt_tri (a b : Key) (h : a ≠ b) (hl : Key.lt a b = false) : Key.lt b a = true := by
  simp only [Key.lt, decide_eq_true_eq, decide_eq_false_iff_not] at hl ⊢
  by_cases h1 : a.sp.ctorIdx = b.sp.ctorIdx
  · by_cases h2 : a.inst = b.inst
    · by_cases h3 : a.idx = b.idx
      · by_cases h4 : a.word = b.word
        · exact absurd (Key.ext_of (Sp.ctorIdx_injective h1) h2 h3 h4) h
        · omega
      · omega
    · omega
  · omega

theorem Store.get_set_self (m : Store) (k : Key) (v : Word) : Store.get (Store.set m k v) k = v :=
  Assoc.get_set_self _ _ m k v

theorem Store.get_set_other (m : Store) {k k' : Key} (h : k' ≠ k) (v : Word) :
    Store.get (Store.set m k v) k' = Store.get m k' :=
  Assoc.get_set_other _ _ m h v

/-- Every write of a word keeps the canonical form of a store. -/
theorem Store.wf_set (m : Store) (k : Key) (v : Word) (h : Store.wf m = true) : Store.wf (Store.set m k v) = true :=
  Assoc.wf_set _ _ Key.lt_trans Key.lt_tri m k v h

theorem Store.wf_filter (p : Key × Word → Bool) (m : Store) (h : Store.wf m = true) : Store.wf (List.filter p m) = true :=
  Assoc.wf_filter _ _ Key.lt_trans p m h

/-- The words of islands that enter reset keep the canonical form. -/
theorem Store.wf_resetStore (r : Cls) (is : Nat → Bool) (m : Store) (h : Store.wf m = true) :
    Store.wf (resetStore r is m) = true := by
  have h' := h
  simp only [Store.wf, Assoc.wf, Bool.and_eq_true, List.all_eq_true, decide_eq_true_eq] at h'
  refine Assoc.wf_filterMap _ _ Key.lt_trans _ (fun e e' he => ?_) m (fun e e' hm he => ?_) h
  · dsimp only at he
    repeat' split at he
    all_goals first | contradiction | (cases he; rfl)
  · dsimp only at he
    repeat' split at he
    all_goals first
      | contradiction
      | (cases he; assumption)
      | (cases he; exact h'.2 e hm)

theorem Tbl.get_set_self {α : Type} [DecidableEq α] (d : α) (t : Tbl α) (k : Nat) (v : α) : Tbl.get d (Tbl.set d t k v) k = v :=
  Assoc.get_set_self _ _ t k v

theorem Tbl.set_set {α : Type} [DecidableEq α] (d : α) (t : Tbl α) (k : Nat) (v w : α) :
    Tbl.set d (Tbl.set d t k v) k w = Tbl.set d t k w := Assoc.set_set _ _ _ _ _ _

theorem Tbl.get_set_other {α : Type} [DecidableEq α] (d : α) (t : Tbl α) {k k' : Nat} (h : k' ≠ k) (v : α) :
    Tbl.get d (Tbl.set d t k v) k' = Tbl.get d t k' :=
  Assoc.get_set_other _ _ t h v

end Sys2Proof.Machine
end

