-- ==== Sys2Proof/Laws/Evolves.lean ====
section
/-!
SUPPORT. The relation every command keeps to (Safety.lean), through the ways meanings are put together.
-/

namespace Sys2Proof.Machine

theorem Evolves.refl {m : Nat} (s : State) : Evolves m s s :=
  ⟨fun p _ => by cases p <;> rfl, id, Nat.le_refl _, Nat.le_refl _, fun _ _ => rfl⟩

theorem Part.same_trans (p : Part) {s t u : State} (h : p.same s t) (k : p.same t u) : p.same s u := by
  cases p <;> exact k.trans h

theorem Keeps.mono {m m' : Nat} {s t : State} (hm : m' ||| m = m) (h : Keeps m' s t) : Keeps m s t := fun p hp =>
  h p (by rw [← hm, Nat.testBit_or, Bool.or_eq_false_iff] at hp; exact hp.1)

theorem Mask.left {m m' i : Nat} (hm : m' ||| m = m) (h : m.testBit i = false) : m'.testBit i = false := by
  rw [← hm, Nat.testBit_or, Bool.or_eq_false_iff] at h
  exact h.1

theorem Mask.both {a b m : Nat} (ha : a ||| m = m) (hb : b ||| m = m) : (a ||| b) ||| m = m := by rw [Nat.or_assoc, hb, ha]

theorem Mask.orl {a b m : Nat} (h : (a ||| b) ||| m = m) : a ||| m = m := by
  apply Nat.eq_of_testBit_eq
  intro j
  have := congrArg (fun x => x.testBit j) h
  simp only [Nat.testBit_or] at this ⊢
  revert this
  cases a.testBit j <;> cases b.testBit j <;> cases m.testBit j <;> simp

theorem Mask.orr {a b m : Nat} (h : (a ||| b) ||| m = m) : b ||| m = m := Mask.orl (b := a) (by rwa [Nat.or_comm b])

theorem Mask.sub {a b m : Nat} (h : b ||| m = m) (k : a ||| b = b) : a ||| m = m := by rw [← h, ← Nat.or_assoc, k]

/-- A command after what has been done. -/
theorem Evolves.step {m m' : Nat} {s t u : State} (h : Evolves m' t u) (k : Evolves m s t) (hm : m' ||| m = m := by decide) :
    Evolves m s u :=
  ⟨fun p hp => p.same_trans (k.keeps p hp) (h.keeps.mono hm p hp), fun c => h.canonical (k.canonical c),
   Nat.le_trans k.clk h.clk, Nat.le_trans k.fresh h.fresh,
   fun x hx => (h.words x (Mask.left hm hx)).trans (k.words x hx)⟩

theorem Evolves.trans {m : Nat} {s t u : State} (k : Evolves m s t) (h : Evolves m t u) : Evolves m s u :=
  Evolves.step h k (Nat.or_self m)

theorem Evolves.mono {m m' : Nat} {s t : State} (hm : m' ||| m = m) (h : Evolves m' s t) : Evolves m s t :=
  Evolves.step h (Evolves.refl s) hm

theorem Evolves.ofId {m : Nat} {s t : State} (h : Evolves m s t) : Evolves m s (id t) := h

theorem Evolves.getD {m : Nat} {s t : State} {o : Option State} (ho : ∀ x, o = some x → Evolves m s x) (h : Evolves m s t) :
    Evolves m s (o.getD t) := by
  cases o
  · exact h
  · exact ho _ rfl

theorem Evolves.ite {m : Nat} {s a b : State} {c : Prop} [Decidable c] (ha : Evolves m s a) (hb : Evolves m s b) :
    Evolves m s (if c then a else b) := by split <;> assumption

theorem Evolves.onlyIf {m : Nat} {s t : State} {c : Prop} [Decidable c] {f : State → State}
    (hf : ∀ x, Evolves m x (f x)) (h : Evolves m s t) : Evolves m s (onlyIf c f t) := by
  unfold Machine.onlyIf
  split
  · exact h.trans (hf t)
  · exact h

theorem Evolves.allOf {m : Nat} {s t : State} {α : Type} {l : List α} {f : α → State → State}
    (hf : ∀ a x, Evolves m x (f a x)) (h : Evolves m s t) : Evolves m s (allOf l f t) := by
  unfold Machine.allOf
  induction l generalizing t with
  | nil => exact h
  | cons a l ih => exact ih (h.trans (hf a t))

theorem Evolves.foldl {m : Nat} {s : State} {α β : Type} {l : List α} {f : β × State → α → β × State} {x : β × State}
    (hf : ∀ a x, Evolves m x.2 (f x a).2) (h : Evolves m s x.2) : Evolves m s (l.foldl f x).2 := by
  induction l generalizing x with
  | nil => exact h
  | cons a l ih => exact ih (h.trans (hf a x))

theorem Evolves.ofPair {m : Nat} {s t : State} {α : Type} {e : α × State} {x : α} (h : e = (x, t)) (k : Evolves m s e.2) :
    Evolves m s t := by subst h; exact k

theorem Evolves.ofTriple {m : Nat} {s t : State} {α β : Type} {e : α × β × State} {x : α} {y : β} (h : e = (x, y, t))
    (k : Evolves m s e.2.2) : Evolves m s t := by subst h; exact k

theorem Evolves.ofQuad {m : Nat} {s t : State} {α β γ : Type} {e : α × β × γ × State} {x : α} {y : β} {z : γ}
    (h : e = (x, y, z, t)) (k : Evolves m s e.2.2.2) : Evolves m s t := by subst h; exact k

/-- A change of any fields at once. -/
theorem Evolves.fields {m : Nat} {s t u : State} (k : ∀ p : Part, m.testBit p.ctorIdx = false → p.same t u) (h : Evolves m s t) (hm : u.mem = t.mem := by rfl)
    (he : u.ev.mem = t.ev.mem := by rfl) (hc : t.clk ≤ u.clk := by exact Nat.le_refl _)
    (hf : t.freeCount ≤ u.freeCount := by exact Nat.le_refl _) : Evolves m s u :=
  h.trans ⟨k, fun c => by simpa [State.canonical, hm, he] using c, hc, hf, fun x _ => by simp [State.get, hm, he]⟩

/-! One field. -/

theorem Evolves.upd_sess {m : Nat} {s t : State} {v} (h : Evolves m s t) (hm : 4 ||| m = m := by decide) :
    Evolves m s { t with sess := v } :=
  Evolves.step (m' := 4) (t := t) ⟨fun p hp => by cases p <;> first | rfl | exact absurd hp (by decide), id, Nat.le_refl _, Nat.le_refl _, fun _ _ => rfl⟩ h hm
theorem Evolves.upd_pmu {m : Nat} {s t : State} {v} (h : Evolves m s t) (hm : 8 ||| m = m := by decide) :
    Evolves m s { t with pmu := v } :=
  Evolves.step (m' := 8) (t := t) ⟨fun p hp => by cases p <;> first | rfl | exact absurd hp (by decide), id, Nat.le_refl _, Nat.le_refl _, fun _ _ => rfl⟩ h hm
theorem Evolves.upd_ptp {m : Nat} {s t : State} {v} (h : Evolves m s t) (hm : 32 ||| m = m := by decide) :
    Evolves m s { t with ptp := v } :=
  Evolves.step (m' := 32) (t := t) ⟨fun p hp => by cases p <;> first | rfl | exact absurd hp (by decide), id, Nat.le_refl _, Nat.le_refl _, fun _ _ => rfl⟩ h hm
theorem Evolves.upd_ptpFrac {m : Nat} {s t : State} {v} (h : Evolves m s t) (hm : 64 ||| m = m := by decide) :
    Evolves m s { t with ptpFrac := v } :=
  Evolves.step (m' := 64) (t := t) ⟨fun p hp => by cases p <;> first | rfl | exact absurd hp (by decide), id, Nat.le_refl _, Nat.le_refl _, fun _ _ => rfl⟩ h hm
theorem Evolves.upd_islands {m : Nat} {s t : State} {v} (h : Evolves m s t) (hm : 256 ||| m = m := by decide) :
    Evolves m s { t with islands := v } :=
  Evolves.step (m' := 256) (t := t) ⟨fun p hp => by cases p <;> first | rfl | exact absurd hp (by decide), id, Nat.le_refl _, Nat.le_refl _, fun _ _ => rfl⟩ h hm
theorem Evolves.upd_wrapped {m : Nat} {s t : State} {v} (h : Evolves m s t) (hm : 512 ||| m = m := by decide) :
    Evolves m s { t with wrapped := v } :=
  Evolves.step (m' := 512) (t := t) ⟨fun p hp => by cases p <;> first | rfl | exact absurd hp (by decide), id, Nat.le_refl _, Nat.le_refl _, fun _ _ => rfl⟩ h hm
theorem Evolves.upd_rst {m : Nat} {s t : State} {v} (h : Evolves m s t) (hm : 1024 ||| m = m := by decide) :
    Evolves m s { t with rst := v } :=
  Evolves.step (m' := 1024) (t := t) ⟨fun p hp => by cases p <;> first | rfl | exact absurd hp (by decide), id, Nat.le_refl _, Nat.le_refl _, fun _ _ => rfl⟩ h hm
theorem Evolves.upd_cmd {m : Nat} {s t : State} {v} (h : Evolves m s t) (hm : 2048 ||| m = m := by decide) :
    Evolves m s { t with cmd := v } :=
  Evolves.step (m' := 2048) (t := t) ⟨fun p hp => by cases p <;> first | rfl | exact absurd hp (by decide), id, Nat.le_refl _, Nat.le_refl _, fun _ _ => rfl⟩ h hm
theorem Evolves.upd_bpm {m : Nat} {s t : State} {v} (h : Evolves m s t) (hm : 4096 ||| m = m := by decide) :
    Evolves m s { t with bpm := v } :=
  Evolves.step (m' := 4096) (t := t) ⟨fun p hp => by cases p <;> first | rfl | exact absurd hp (by decide), id, Nat.le_refl _, Nat.le_refl _, fun _ _ => rfl⟩ h hm
theorem Evolves.upd_lanes {m : Nat} {s t : State} {v} (h : Evolves m s t) (hm : 8192 ||| m = m := by decide) :
    Evolves m s { t with lanes := v } :=
  Evolves.step (m' := 8192) (t := t) ⟨fun p hp => by cases p <;> first | rfl | exact absurd hp (by decide), id, Nat.le_refl _, Nat.le_refl _, fun _ _ => rfl⟩ h hm
theorem Evolves.upd_framing {m : Nat} {s t : State} {v} (h : Evolves m s t) (hm : 16384 ||| m = m := by decide) :
    Evolves m s { t with framing := v } :=
  Evolves.step (m' := 16384) (t := t) ⟨fun p hp => by cases p <;> first | rfl | exact absurd hp (by decide), id, Nat.le_refl _, Nat.le_refl _, fun _ _ => rfl⟩ h hm
theorem Evolves.upd_pool {m : Nat} {s t : State} {v} (h : Evolves m s t) (hm : 32768 ||| m = m := by decide) :
    Evolves m s { t with pool := v } :=
  Evolves.step (m' := 32768) (t := t) ⟨fun p hp => by cases p <;> first | rfl | exact absurd hp (by decide), id, Nat.le_refl _, Nat.le_refl _, fun _ _ => rfl⟩ h hm
theorem Evolves.upd_encoders {m : Nat} {s t : State} {v} (h : Evolves m s t) (hm : 65536 ||| m = m := by decide) :
    Evolves m s { t with encoders := v } :=
  Evolves.step (m' := 65536) (t := t) ⟨fun p hp => by cases p <;> first | rfl | exact absurd hp (by decide), id, Nat.le_refl _, Nat.le_refl _, fun _ _ => rfl⟩ h hm
theorem Evolves.upd_act {m : Nat} {s t : State} {v} (h : Evolves m s t) (hm : 131072 ||| m = m := by decide) :
    Evolves m s { t with act := v } :=
  Evolves.step (m' := 131072) (t := t) ⟨fun p hp => by cases p <;> first | rfl | exact absurd hp (by decide), id, Nat.le_refl _, Nat.le_refl _, fun _ _ => rfl⟩ h hm
theorem Evolves.upd_terms {m : Nat} {s t : State} {v} (h : Evolves m s t) (hm : 262144 ||| m = m := by decide) :
    Evolves m s { t with terms := v } :=
  Evolves.step (m' := 262144) (t := t) ⟨fun p hp => by cases p <;> first | rfl | exact absurd hp (by decide), id, Nat.le_refl _, Nat.le_refl _, fun _ _ => rfl⟩ h hm
theorem Evolves.upd_grt {m : Nat} {s t : State} {v} (h : Evolves m s t) (hm : 524288 ||| m = m := by decide) :
    Evolves m s { t with grt := v } :=
  Evolves.step (m' := 524288) (t := t) ⟨fun p hp => by cases p <;> first | rfl | exact absurd hp (by decide), id, Nat.le_refl _, Nat.le_refl _, fun _ _ => rfl⟩ h hm
theorem Evolves.upd_clusters {m : Nat} {s t : State} {v} (h : Evolves m s t) (hm : 1048576 ||| m = m := by decide) :
    Evolves m s { t with clusters := v } :=
  Evolves.step (m' := 1048576) (t := t) ⟨fun p hp => by cases p <;> first | rfl | exact absurd hp (by decide), id, Nat.le_refl _, Nat.le_refl _, fun _ _ => rfl⟩ h hm
theorem Evolves.upd_threads {m : Nat} {s t : State} {v} (h : Evolves m s t) (hm : 2097152 ||| m = m := by decide) :
    Evolves m s { t with threads := v } :=
  Evolves.step (m' := 2097152) (t := t) ⟨fun p hp => by cases p <;> first | rfl | exact absurd hp (by decide), id, Nat.le_refl _, Nat.le_refl _, fun _ _ => rfl⟩ h hm
theorem Evolves.upd_queues {m : Nat} {s t : State} {v} (h : Evolves m s t) (hm : 4194304 ||| m = m := by decide) :
    Evolves m s { t with queues := v } :=
  Evolves.step (m' := 4194304) (t := t) ⟨fun p hp => by cases p <;> first | rfl | exact absurd hp (by decide), id, Nat.le_refl _, Nat.le_refl _, fun _ _ => rfl⟩ h hm
theorem Evolves.upd_crl {m : Nat} {s t : State} {v} (h : Evolves m s t) (hm : 8388608 ||| m = m := by decide) :
    Evolves m s { t with crl := v } :=
  Evolves.step (m' := 8388608) (t := t) ⟨fun p hp => by cases p <;> first | rfl | exact absurd hp (by decide), id, Nat.le_refl _, Nat.le_refl _, fun _ _ => rfl⟩ h hm
theorem Evolves.upd_ohp {m : Nat} {s t : State} {v} (h : Evolves m s t) (hm : 16777216 ||| m = m := by decide) :
    Evolves m s { t with ohp := v } :=
  Evolves.step (m' := 16777216) (t := t) ⟨fun p hp => by cases p <;> first | rfl | exact absurd hp (by decide), id, Nat.le_refl _, Nat.le_refl _, fun _ _ => rfl⟩ h hm
theorem Evolves.upd_cipher {m : Nat} {s t : State} {v} (h : Evolves m s t) (hm : 33554432 ||| m = m := by decide) :
    Evolves m s { t with cipher := v } :=
  Evolves.step (m' := 33554432) (t := t) ⟨fun p hp => by cases p <;> first | rfl | exact absurd hp (by decide), id, Nat.le_refl _, Nat.le_refl _, fun _ _ => rfl⟩ h hm
theorem Evolves.upd_upSdus {m : Nat} {s t : State} {v} (h : Evolves m s t) (hm : 67108864 ||| m = m := by decide) :
    Evolves m s { t with upSdus := v } :=
  Evolves.step (m' := 67108864) (t := t) ⟨fun p hp => by cases p <;> first | rfl | exact absurd hp (by decide), id, Nat.le_refl _, Nat.le_refl _, fun _ _ => rfl⟩ h hm
theorem Evolves.upd_txts {m : Nat} {s t : State} {v} (h : Evolves m s t) (hm : 134217728 ||| m = m := by decide) :
    Evolves m s { t with txts := v } :=
  Evolves.step (m' := 134217728) (t := t) ⟨fun p hp => by cases p <;> first | rfl | exact absurd hp (by decide), id, Nat.le_refl _, Nat.le_refl _, fun _ _ => rfl⟩ h hm
theorem Evolves.upd_tim {m : Nat} {s t : State} {v} (h : Evolves m s t) (hm : 268435456 ||| m = m := by decide) :
    Evolves m s { t with tim := v } :=
  Evolves.step (m' := 268435456) (t := t) ⟨fun p hp => by cases p <;> first | rfl | exact absurd hp (by decide), id, Nat.le_refl _, Nat.le_refl _, fun _ _ => rfl⟩ h hm
theorem Evolves.upd_cls {m : Nat} {s t : State} {v} (h : Evolves m s t) (hm : 536870912 ||| m = m := by decide) :
    Evolves m s { t with cls := v } :=
  Evolves.step (m' := 536870912) (t := t) ⟨fun p hp => by cases p <;> first | rfl | exact absurd hp (by decide), id, Nat.le_refl _, Nat.le_refl _, fun _ _ => rfl⟩ h hm
theorem Evolves.upd_lpm {m : Nat} {s t : State} {v} (h : Evolves m s t) (hm : 1073741824 ||| m = m := by decide) :
    Evolves m s { t with lpm := v } :=
  Evolves.step (m' := 1073741824) (t := t) ⟨fun p hp => by cases p <;> first | rfl | exact absurd hp (by decide), id, Nat.le_refl _, Nat.le_refl _, fun _ _ => rfl⟩ h hm
theorem Evolves.upd_merge {m : Nat} {s t : State} {v} (h : Evolves m s t) (hm : 2147483648 ||| m = m := by decide) :
    Evolves m s { t with merge := v } :=
  Evolves.step (m' := 2147483648) (t := t) ⟨fun p hp => by cases p <;> first | rfl | exact absurd hp (by decide), id, Nat.le_refl _, Nat.le_refl _, fun _ _ => rfl⟩ h hm
theorem Evolves.upd_ports {m : Nat} {s t : State} {v} (h : Evolves m s t) (hm : 4294967296 ||| m = m := by decide) :
    Evolves m s { t with ports := v } :=
  Evolves.step (m' := 4294967296) (t := t) ⟨fun p hp => by cases p <;> first | rfl | exact absurd hp (by decide), id, Nat.le_refl _, Nat.le_refl _, fun _ _ => rfl⟩ h hm
theorem Evolves.upd_pair {m : Nat} {s t : State} {v} (h : Evolves m s t) (hm : 8589934592 ||| m = m := by decide) :
    Evolves m s { t with pair := v } :=
  Evolves.step (m' := 8589934592) (t := t) ⟨fun p hp => by cases p <;> first | rfl | exact absurd hp (by decide), id, Nat.le_refl _, Nat.le_refl _, fun _ _ => rfl⟩ h hm
theorem Evolves.upd_sys {m : Nat} {s t : State} {v} (h : Evolves m s t) (hm : 17179869184 ||| m = m := by decide) :
    Evolves m s { t with sys := v } :=
  Evolves.step (m' := 17179869184) (t := t) ⟨fun p hp => by cases p <;> first | rfl | exact absurd hp (by decide), id, Nat.le_refl _, Nat.le_refl _, fun _ _ => rfl⟩ h hm
theorem Evolves.upd_nvm {m : Nat} {s t : State} {v} (h : Evolves m s t) (hm : 34359738368 ||| m = m := by decide) :
    Evolves m s { t with nvm := v } :=
  Evolves.step (m' := 34359738368) (t := t) ⟨fun p hp => by cases p <;> first | rfl | exact absurd hp (by decide), id, Nat.le_refl _, Nat.le_refl _, fun _ _ => rfl⟩ h hm
theorem Evolves.upd_pending {m : Nat} {s t : State} {v} (h : Evolves m s t) (hm : 68719476736 ||| m = m := by decide) :
    Evolves m s { t with pending := v } :=
  Evolves.step (m' := 68719476736) (t := t) ⟨fun p hp => by cases p <;> first | rfl | exact absurd hp (by decide), id, Nat.le_refl _, Nat.le_refl _, fun _ _ => rfl⟩ h hm

/-! Several fields at once. -/

theorem Evolves.upd_ev_bpm_merge {m : Nat} {s t : State} {v1 v2} {v0 : EvState} (h : Evolves m s t) (hv : v0.mem = t.ev.mem := by rfl)
    (hm : 2147487746 ||| m = m := by decide) :
    Evolves m s { t with ev := v0, bpm := v1, merge := v2 } :=
  Evolves.step (m' := 2147487746) (t := t) ⟨fun p hp => by cases p <;> first | rfl | exact absurd hp (by decide), fun c => by simpa [State.canonical, hv] using c,
    Nat.le_refl _, Nat.le_refl _, fun x _ => by simp [State.get, hv]⟩ h hm

theorem Evolves.upd_ev_rst_tim {m : Nat} {s t : State} {v1 v2} {v0 : EvState} (h : Evolves m s t) (hv : v0.mem = t.ev.mem := by rfl)
    (hm : 268436482 ||| m = m := by decide) :
    Evolves m s { t with ev := v0, rst := v1, tim := v2 } :=
  Evolves.step (m' := 268436482) (t := t) ⟨fun p hp => by cases p <;> first | rfl | exact absurd hp (by decide), fun c => by simpa [State.canonical, hv] using c,
    Nat.le_refl _, Nat.le_refl _, fun x _ => by simp [State.get, hv]⟩ h hm

theorem Evolves.upd_ev_sess_pmu_cmd_bpm_lpm_sys {m : Nat} {s t : State} {v1 v2 v3 v4 v5 v6} {v0 : EvState} (h : Evolves m s t) (hv : v0.mem = t.ev.mem := by rfl)
    (hm : 18253617166 ||| m = m := by decide) :
    Evolves m s { t with ev := v0, sess := v1, pmu := v2, cmd := v3, bpm := v4, lpm := v5, sys := v6 } :=
  Evolves.step (m' := 18253617166) (t := t) ⟨fun p hp => by cases p <;> first | rfl | exact absurd hp (by decide), fun c => by simpa [State.canonical, hv] using c,
    Nat.le_refl _, Nat.le_refl _, fun x _ => by simp [State.get, hv]⟩ h hm

theorem Evolves.upd_framing_queues_upSdus_cls {m : Nat} {s t : State} {v0 v1 v2 v3} (h : Evolves m s t)
    (hm : 608190464 ||| m = m := by decide) :
    Evolves m s { t with framing := v0, queues := v1, upSdus := v2, cls := v3 } :=
  Evolves.step (m' := 608190464) (t := t) ⟨fun p hp => by cases p <;> first | rfl | exact absurd hp (by decide), id,
    Nat.le_refl _, Nat.le_refl _, fun x _ => by simp [State.get]⟩ h hm

theorem Evolves.upd_grt_clusters_threads {m : Nat} {s t : State} {v0 v1 v2} (h : Evolves m s t)
    (hm : 3670016 ||| m = m := by decide) :
    Evolves m s { t with grt := v0, clusters := v1, threads := v2 } :=
  Evolves.step (m' := 3670016) (t := t) ⟨fun p hp => by cases p <;> first | rfl | exact absurd hp (by decide), id,
    Nat.le_refl _, Nat.le_refl _, fun x _ => by simp [State.get]⟩ h hm

theorem Evolves.upd_lanes_framing_pool_act_terms {m : Nat} {s t : State} {v0 v1 v2 v3 v4} (h : Evolves m s t)
    (hm : 450560 ||| m = m := by decide) :
    Evolves m s { t with lanes := v0, framing := v1, pool := v2, act := v3, terms := v4 } :=
  Evolves.step (m' := 450560) (t := t) ⟨fun p hp => by cases p <;> first | rfl | exact absurd hp (by decide), id,
    Nat.le_refl _, Nat.le_refl _, fun x _ => by simp [State.get]⟩ h hm

theorem Evolves.upd_ptp_ptpFrac_tim {m : Nat} {s t : State} {v0 v1 v2} (h : Evolves m s t)
    (hm : 268435552 ||| m = m := by decide) :
    Evolves m s { t with ptp := v0, ptpFrac := v1, tim := v2 } :=
  Evolves.step (m' := 268435552) (t := t) ⟨fun p hp => by cases p <;> first | rfl | exact absurd hp (by decide), id,
    Nat.le_refl _, Nat.le_refl _, fun x _ => by simp [State.get]⟩ h hm

theorem Evolves.upd_queues_upSdus_cls {m : Nat} {s t : State} {v0 v1 v2} (h : Evolves m s t)
    (hm : 608174080 ||| m = m := by decide) :
    Evolves m s { t with queues := v0, upSdus := v1, cls := v2 } :=
  Evolves.step (m' := 608174080) (t := t) ⟨fun p hp => by cases p <;> first | rfl | exact absurd hp (by decide), id,
    Nat.le_refl _, Nat.le_refl _, fun x _ => by simp [State.get]⟩ h hm

theorem Evolves.upd_upSdus_cls_merge {m : Nat} {s t : State} {v0 v1 v2} (h : Evolves m s t)
    (hm : 2751463424 ||| m = m := by decide) :
    Evolves m s { t with upSdus := v0, cls := v1, merge := v2 } :=
  Evolves.step (m' := 2751463424) (t := t) ⟨fun p hp => by cases p <;> first | rfl | exact absurd hp (by decide), id,
    Nat.le_refl _, Nat.le_refl _, fun x _ => by simp [State.get]⟩ h hm

/-- A change of the events block that leaves its words alone. -/
theorem Evolves.upd_ev {m : Nat} {s t : State} {v : EvState} (h : Evolves m s t)
    (hv : v.mem = t.ev.mem := by rfl) (hm : 2 ||| m = m := by decide) :
    Evolves m s { t with ev := v } :=
  Evolves.step (m' := 2) (t := t) ⟨fun p hp => by cases p <;> first | rfl | exact absurd hp (by decide),
    fun c => by simpa [State.canonical, hv] using c, Nat.le_refl _, Nat.le_refl _, fun x _ => by simp [State.get, hv]⟩ h hm

/-- A free value is drawn. -/
theorem ev_drawFree (s : State) : Evolves 128 s (drawFree s).2 :=
  ⟨fun p hp => by cases p <;> first | rfl | exact absurd hp (by decide), id, Nat.le_refl _, Nat.le_succ _, fun _ _ => rfl⟩

/-! Words. -/

/-- The part and the space a write of a word touches. -/
def wordMask (sp : Sp) : Nat := (bif sp.isEvent then 2 else 1) ||| 2 ^ (64 + sp.ctorIdx)

theorem wordMask_at (f : Fld) (k : Nat) : wordMask (f.at k).sp = wordMask f.sp := rfl

/-- Every space. -/
def spacesAll : Nat := 1361129467683753853835051685653363294208

theorem spacesAll_bit (sp : Sp) : spacesAll.testBit (64 + sp.ctorIdx) = true := by cases sp <;> decide

theorem Words.all_bit {m : Nat} (h : spacesAll ||| m = m) (sp : Sp) : m.testBit (64 + sp.ctorIdx) = true := by
  rw [← h, Nat.testBit_or, spacesAll_bit, Bool.true_or]

theorem wordMask_all (sp : Sp) : wordMask sp ||| 1361129467683753853835051685653363294211 = 1361129467683753853835051685653363294211 := by cases sp <;> decide

theorem State.get_set_of_ne (s : State) {k k' : Key} (h : k' ≠ k) (v : Word) : (s.set k v).get k' = s.get k' := by
  unfold State.set State.get
  by_cases h1 : k.sp.isEvent = true <;> by_cases h2 : k'.sp.isEvent = true <;>
    simp [h1, h2, Store.get_set_other _ h]

theorem ev_set_word (s : State) (k : Key) (v : Word) : Evolves (wordMask k.sp) s (s.set k v) := by
  refine ⟨fun p hp => ?_, fun c => ?_, ?_, ?_, fun x hx => State.get_set_of_ne s (fun e => ?_) v⟩
  · unfold State.set
    cases e : k.sp.isEvent
    · have : (wordMask k.sp).testBit 0 = true := by simp [wordMask, e]
      cases p <;> first | rfl | exact absurd (hp.symm.trans this) (by decide)
    · have : (wordMask k.sp).testBit 1 = true := by
        simp only [wordMask, e, cond_true, Nat.testBit_or]
        rfl
      cases p <;> first | rfl | exact absurd (hp.symm.trans this) (by decide)
  · unfold State.set
    simp only [State.canonical, Bool.and_eq_true] at c ⊢
    split
    · exact ⟨c.1, Store.wf_set _ _ _ c.2⟩
    · exact ⟨Store.wf_set _ _ _ c.1, c.2⟩
  · unfold State.set
    split <;> exact Nat.le_refl _
  · unfold State.set
    split <;> exact Nat.le_refl _
  · subst e
    have : (wordMask x.sp).testBit (64 + x.sp.ctorIdx) = true := by
      simp only [wordMask, Nat.testBit_or, Nat.testBit_two_pow_self, Bool.or_true]
    exact absurd (hx.symm.trans this) (by decide)

theorem ev_State_set (s : State) (k : Key) (v : Word) : Evolves 1361129467683753853835051685653363294211 s (s.set k v) :=
  (ev_set_word s k v).mono (wordMask_all k.sp)

theorem Evolves.set {m : Nat} {s t : State} {k : Key} {v : Word} (h : Evolves m s t)
    (hm : wordMask k.sp ||| m = m := by decide) :
    Evolves m s (t.set k v) := Evolves.step (ev_set_word t k v) h hm

theorem Evolves.wrx {m : Nat} {s t : State} {f : Fld} {i x v : Nat} (h : Evolves m s t)
    (hm : wordMask f.sp ||| m = m := by decide) :
    Evolves m s (wrx f i x v t) := Evolves.set h hm

theorem Evolves.wr {m : Nat} {s t : State} {f : Fld} {i v : Nat} (h : Evolves m s t)
    (hm : wordMask f.sp ||| m = m := by decide) :
    Evolves m s (wr f i v t) := Evolves.set h hm

theorem Evolves.wrWord {m : Nat} {s t : State} {sp : Sp} {i x w v : Nat} (h : Evolves m s t)
    (hm : wordMask sp ||| m = m := by decide) : Evolves m s (wrWord sp i x w v t) := Evolves.set h hm

theorem Evolves.bumpx {m : Nat} {s t : State} {f : Fld} {i x : Nat} (h : Evolves m s t)
    (hm : wordMask f.sp ||| m = m := by decide) :
    Evolves m s (bumpx f i x t) := Evolves.set h hm

theorem Evolves.bumpxBy {m : Nat} {s t : State} {f : Fld} {i x n : Nat} (h : Evolves m s t)
    (hm : wordMask f.sp ||| m = m := by decide) : Evolves m s (bumpxBy f i x n t) := Evolves.set h hm

theorem ev_pmuAddTo (i n : Nat) (s : State) : Evolves 8 s (pmuAddTo i n s) := by
  unfold pmuAddTo
  dsimp only
  split <;> exact Evolves.upd_pmu (Evolves.refl s)

theorem ev_pmuCount (ev : Nat) (accepts : Nat → Bool) (n : Nat) (s : State) : Evolves 8 s (pmuCount ev accepts n s) :=
  Evolves.allOf (fun _ _ => Evolves.onlyIf (fun x => ev_pmuAddTo _ n x) (Evolves.refl _)) (Evolves.refl s)

theorem Evolves.bumpBy {m : Nat} {s t : State} {f : Fld} {i n : Nat} (h : Evolves m s t)
    (hm : (wordMask f.sp ||| 8) ||| m = m := by decide) : Evolves m s (bumpBy f i n t) := by
  have h1 : wordMask f.sp ||| m = m := by rw [← hm, ← Nat.or_assoc, ← Nat.or_assoc, Nat.or_self]
  have h2 : 8 ||| m = m := by
    rw [← hm]
    apply Nat.eq_of_testBit_eq
    intro j
    simp only [Nat.testBit_or]
    cases (wordMask f.sp).testBit j <;> cases (8 : Nat).testBit j <;> simp
  exact Evolves.onlyIf (fun x => Evolves.step (ev_pmuCount 2 _ n x) (Evolves.refl x) h2) (Evolves.wr h h1)

theorem Evolves.bump {m : Nat} {s t : State} {f : Fld} {i : Nat} (h : Evolves m s t)
    (hm : (wordMask f.sp ||| 8) ||| m = m := by decide) : Evolves m s (bump f i t) := Evolves.bumpBy h hm

/-- The same for a field of a space not known. -/
theorem ev_wrx (f : Fld) (i x v : Nat) (s : State) : Evolves 1361129467683753853835051685653363294211 s (wrx f i x v s) := ev_State_set _ _ _
theorem ev_wr (f : Fld) (i v : Nat) (s : State) : Evolves 1361129467683753853835051685653363294211 s (wr f i v s) := ev_State_set _ _ _
theorem ev_wrWord (sp : Sp) (i x w v : Nat) (s : State) : Evolves 1361129467683753853835051685653363294211 s (wrWord sp i x w v s) := ev_State_set _ _ _
theorem ev_bumpx (f : Fld) (i x : Nat) (s : State) : Evolves 1361129467683753853835051685653363294211 s (bumpx f i x s) := ev_State_set _ _ _
theorem ev_bumpxBy (f : Fld) (i x n : Nat) (s : State) : Evolves 1361129467683753853835051685653363294211 s (bumpxBy f i x n s) := ev_State_set _ _ _
theorem ev_bumpBy (f : Fld) (i n : Nat) (s : State) : Evolves 1361129467683753853835051685653363294219 s (bumpBy f i n s) :=
  Evolves.onlyIf (fun x => Evolves.step (ev_pmuCount 2 _ n x) (Evolves.refl x))
    ((ev_wr f i _ s).mono rfl)
theorem ev_bump (f : Fld) (i : Nat) (s : State) : Evolves 1361129467683753853835051685653363294219 s (bump f i s) := ev_bumpBy f i 1 s

/-! Outcomes. -/

/-- Every next state of an outcome. -/
def OutEvolves (m : Nat) (s : State) (o : Host.Outcome State Fault Refusal) : Prop := ∀ t, o = .next t → Evolves m s t

theorem OutEvolves.next {m : Nat} {s t : State} (h : Evolves m s t) : OutEvolves m s (.next t) := by
  intro u hu; cases hu; exact h

theorem OutEvolves.ite {m : Nat} {s : State} {c : Prop} [Decidable c] {a b : Host.Outcome State Fault Refusal}
    (ha : OutEvolves m s a) (hb : OutEvolves m s b) : OutEvolves m s (if c then a else b) := by split <;> assumption

theorem OutEvolves.step {m m' : Nat} {s t : State} {o : Host.Outcome State Fault Refusal} (h : OutEvolves m' t o)
    (k : Evolves m s t) (hm : m' ||| m = m := by decide) : OutEvolves m s o := fun u hu => Evolves.step (h u hu) k hm

theorem ev_wrapperAnswer (i : Nat) (s : State) : Evolves 512 s (wrapperAnswer i s) :=
  Evolves.upd_wrapped (Evolves.refl s)

theorem OutEvolves.onIsland {m i : Nat} {s t : State} {f : State → State} (hf : ∀ x, Evolves m x (f x))
    (h : Evolves m s t) (hm : 512 ||| m = m := by decide) : OutEvolves m s (onIsland i t f) := by
  unfold Machine.onIsland
  exact OutEvolves.ite (OutEvolves.next (h.trans (hf t)))
    (OutEvolves.next (Evolves.step (ev_wrapperAnswer i t) h hm))

end Sys2Proof.Machine
end

