-- ==== Sys2Proof/Laws/EvOps.lean ====
section
/-!
SUPPORT. What the operations of Machine/Ops.lean may touch (Safety.lean, Evolves).
-/

namespace Sys2Proof.Machine

set_option Elab.async false
set_option linter.all false

theorem ev_State_setIsland (s : State) (i : Nat) (x : Island) : Evolves 256 s (State.setIsland s i x) := by
  unfold State.setIsland
  with_reducible repeat'
    first
    | apply Evolves.refl | dsimp only | decide | rfl | intro _ | apply Evolves.upd_islands

theorem ev_State_setFram (s : State) (n : Nat) (x : Framing) : Evolves 16384 s (State.setFram s n x) := by
  unfold State.setFram
  with_reducible repeat'
    first
    | apply Evolves.refl | dsimp only | decide | rfl | intro _ | apply Evolves.upd_framing

theorem ev_State_setSession (s : State) (i : Nat) (x : Session) : Evolves 4 s (State.setSession s i x) := by
  unfold State.setSession
  with_reducible repeat'
    first
    | apply Evolves.refl | dsimp only | decide | rfl | intro _ | apply Evolves.upd_sess

theorem ev_ringWrite (i : Nat) (p : Packet) (s : State) : Evolves 4 s (ringWrite i p s) := by
  unfold ringWrite
  with_reducible repeat'
    first
    | apply Evolves.refl | apply Evolves.step (ev_State_setSession ..) | apply Evolves.ite | apply Evolves.ofPair ‹_›
    | apply Evolves.ofTriple ‹_› | split | dsimp only | decide | rfl | intro _

theorem ev_captureRaise (src : Nat) (bit : Nat) (d : List Nat) (s : State) :
    Evolves 170141183460469231731687303715884105730 s (captureRaise src bit d s) := by
  unfold captureRaise
  with_reducible repeat'
    first
    | apply Evolves.refl | apply Evolves.wr | (simp only [wordMask_at]; decide) | apply Evolves.ite | split | dsimp only
    | decide | rfl | intro _

theorem ev_raiseCore (src : Nat) (bit : Nat) (d : List Nat) (s : State) :
    Evolves 170141183460469231731687303715884105738 s (raiseCore src bit d s) := by
  unfold raiseCore
  with_reducible repeat'
    first
    | apply Evolves.refl | apply Evolves.step (ev_pmuCount ..) | apply Evolves.step (ev_captureRaise ..)
    | apply Evolves.wr | apply Evolves.onlyIf | apply Evolves.ite | split | dsimp only | decide | rfl | intro _
    | apply Evolves.upd_ev

theorem ev_deliverPacket (src : Nat) (mask : Nat) (pay : List Nat) (s : State) :
    Evolves 85070591730234615865843651857942053386 s (deliverPacket src mask pay s) := by
  unfold deliverPacket
  with_reducible repeat'
    first
    | apply Evolves.refl | apply Evolves.step (ev_wrapperAnswer ..) | apply Evolves.bump | apply Evolves.ite | split
    | dsimp only | decide | rfl | intro _ | apply Evolves.upd_ev

theorem ev_deliverRelay (nested : Nat → Nat → List Nat → State → State)
    (hn : ∀ a b d x, Evolves 255211775190703847597530955573826159114 x (nested a b d x)) (src mask : Nat) (pay : List Nat) (s : State) :
    Evolves 255211775190703847597530955573826159114 s (deliverRelay nested src mask pay s) := by
  unfold deliverRelay
  with_reducible repeat'
    first
    | apply Evolves.refl | apply Evolves.step (hn ..) | apply Evolves.bump | apply Evolves.wr
    | apply Evolves.step (ev_ringWrite ..) | apply Evolves.step (ev_State_setSession ..) | apply Evolves.onlyIf
    | apply Evolves.ite | split | dsimp only | decide | rfl | intro _ | apply Evolves.upd_ev

theorem ev_pulsePin (src : Nat) (p : Nat) (s : State) : Evolves 2 s (pulsePin src p s) := by
  unfold pulsePin
  with_reducible repeat'
    first
    | apply Evolves.refl | apply Evolves.onlyIf | dsimp only | decide | rfl | intro _ | apply Evolves.upd_ev

theorem ev_holdOff (src : Nat) (s : State) : Evolves 2 s (holdOff src s) := by
  unfold holdOff
  with_reducible repeat'
    first
    | apply Evolves.refl | dsimp only | decide | rfl | intro _ | apply Evolves.upd_ev

theorem ev_deliver (nested : Nat → Nat → List Nat → State → State)
    (hn : ∀ a b d x, Evolves 255211775190703847597530955573826159114 x (nested a b d x)) (src : Nat) (s : State) :
    Evolves 255211775190703847597530955573826159114 s (deliver nested src s) := by
  unfold deliver
  with_reducible repeat'
    first
    | apply Evolves.refl | apply Evolves.step (hn ..) | apply Evolves.step (ev_deliverPacket ..)
    | apply Evolves.step (ev_deliverRelay _ hn ..) | apply Evolves.step (ev_pulsePin ..)
    | apply Evolves.step (ev_holdOff ..) | apply Evolves.bump | apply Evolves.wr
    | apply Evolves.step (ev_ringWrite ..) | apply Evolves.step (ev_State_setSession ..) | apply Evolves.onlyIf
    | apply Evolves.ite | split | dsimp only | decide | rfl | intro _ | apply Evolves.upd_ev

theorem ev_raiseAt (n src bit : Nat) (d : List Nat) (s : State) : Evolves 255211775190703847597530955573826159114 s (raiseAt n src bit d s) := by
  induction n generalizing src bit d s with
  | zero =>
    unfold raiseAt
    exact (ev_raiseCore src bit d s).mono rfl
  | succ n ih =>
    unfold raiseAt
    with_reducible repeat'
      first
      | apply Evolves.refl | apply Evolves.ite | apply Evolves.step (ev_raiseCore ..)
      | apply Evolves.step (ev_deliver _ (fun a b d x => ih a b d x) ..) | dsimp only | decide | rfl | intro _

theorem ev_raise (src : Nat) (bit : Nat) (d : List Nat) (s : State) :
    Evolves 255211775190703847597530955573826159114 s (raise src bit d s) := by
  unfold raise
  with_reducible repeat'
    first
    | apply Evolves.refl | apply Evolves.step (ev_raiseAt ..) | apply Evolves.ite | split | dsimp only | decide | rfl
    | intro _ | apply Evolves.upd_ev

theorem ev_accessCause (bit : Nat) (ofs : Nat) (v : Nat) (s : State) :
    Evolves 255211775190703847597530955573826159114 s (accessCause bit ofs v s) := by
  unfold accessCause
  with_reducible repeat'
    first
    | apply Evolves.refl | apply Evolves.step (ev_raise ..) | dsimp only | decide | rfl | intro _

theorem ev_setVerdict (st : Nat) (det : Nat) (s : State) : Evolves 2048 s (setVerdict st det s) := by
  unfold setVerdict
  with_reducible repeat'
    first
    | apply Evolves.refl | dsimp only | decide | rfl | intro _ | apply Evolves.upd_cmd

theorem ev_encReject (ofs : Nat) (v : Nat) (s : State) :
    Evolves 265845599156983174580761412056068917771 s (encReject ofs v s) := by
  unfold encReject
  with_reducible repeat'
    first
    | apply Evolves.refl | apply Evolves.step (ev_setVerdict ..) | apply Evolves.step (ev_accessCause ..)
    | apply Evolves.bump | dsimp only | decide | rfl | intro _

theorem ev_refuseWrite (ofs : Nat) (v : Nat) (s : State) :
    Evolves 255211775190703847597530955573826161162 s (refuseWrite ofs v s) := by
  unfold refuseWrite
  with_reducible repeat'
    first
    | apply Evolves.refl | apply Evolves.step (ev_setVerdict ..) | apply Evolves.step (ev_accessCause ..) | dsimp only
    | decide | rfl | intro _

theorem Evolves.guarded {m : Nat} {s t : State} {ofs v : Nat} {f : State → State} (hf : ∀ x, Evolves m x (f x))
    (h : Evolves m s t) (hm : 265845599156983174580761412056068917771 ||| m = m := by decide) : Evolves m s (guarded ofs v f t) := by
  unfold Machine.guarded
  with_reducible refine .ite (h.trans (hf t)) (Evolves.step (m' := 265845599156983174580761412056068917771) (t := t) ?_ h hm)
  with_reducible repeat'
    first
    | apply Evolves.refl | apply Evolves.step (ev_setVerdict ..) | apply Evolves.step (ev_accessCause ..)
    | apply Evolves.bump | decide

theorem ev_refuseCode (code : Nat) (s : State) : Evolves 2048 s (refuseCode code s) := by
  unfold refuseCode
  with_reducible repeat'
    first
    | apply Evolves.refl | apply Evolves.step (ev_setVerdict ..) | dsimp only | decide | rfl | intro _

theorem ev_ringPut (i : Nat) (p : Packet) (s : State) :
    Evolves 276479423123262501563991868538311672334 s (ringPut i p s).2 := by
  unfold ringPut
  with_reducible repeat'
    first
    | apply Evolves.refl | apply Evolves.step (ev_ringWrite ..) | apply Evolves.step (ev_raise ..)
    | apply Evolves.step (ev_State_setSession ..) | apply Evolves.bump | apply Evolves.ite | split | dsimp only | decide
    | rfl | intro _

end Sys2Proof.Machine
end

