-- ==== Sys2Proof/Laws/EvClock.lean ====
section
/-!
SUPPORT. What the operations of Machine/Clock.lean may touch (Safety.lean, Evolves).
-/

namespace Sys2Proof.Machine

set_option Elab.async false
set_option linter.all false

theorem ev_pass (d : Nat) (s : State) : Evolves 268435576 s (pass d s) := by
  unfold pass
  refine (ev_pmuCount 1 _ _ _).step (m := 268435576) (.fields (t := s) ?_ (.refl s) (hc := Nat.le_add_right _ _))
  exact fun p hp => by cases p <;> first | rfl | exact absurd hp (by decide)

theorem ev_passTo (t : Nat) (s : State) : Evolves 268435576 s (passTo t s) := by
  unfold passTo
  with_reducible repeat'
    first
    | apply Evolves.refl | apply Evolves.step (ev_pass ..) | apply Evolves.ite | split | dsimp only | decide | rfl
    | intro _

theorem ev_passToPtp (t : Nat) (s : State) : Evolves 268435576 s (passToPtp t s) := by
  unfold passToPtp
  with_reducible repeat'
    first
    | apply Evolves.refl | apply Evolves.step (ev_pass ..) | apply Evolves.ite | split | dsimp only | decide | rfl
    | intro _

theorem ev_passToFrame (t : Nat) (s : State) : Evolves 268435576 s (passToFrame t s) := by
  unfold passToFrame
  with_reducible repeat'
    first
    | apply Evolves.refl | apply Evolves.step (ev_pass ..) | apply Evolves.ite | split | dsimp only | decide | rfl
    | intro _

end Sys2Proof.Machine
end

