-- ==== Sys2Proof/Laws/EvRegOps.lean ====
section
/-!
SUPPORT. What the operations of Machine/RegOps.lean may touch (Safety.lean, Evolves).
-/

namespace Sys2Proof.Machine

set_option Elab.async false
set_option linter.all false

theorem ev_writeField (sp : Sp) (i : Nat) (x : Nat) (word : Nat) (ofs : Nat) (v : Nat) (f : FieldDesc) (s : State) :
    Evolves 1361129467683753853835051685653363296779 s (writeField sp i x word ofs v f s) := by
  unfold writeField
  with_reducible repeat'
    first
    | apply Evolves.refl | apply Evolves.step (ev_encReject ..) | apply Evolves.step (ev_setVerdict ..)
    | apply Evolves.step (ev_accessCause ..) | apply Evolves.bump | apply Evolves.step (ev_wrx ..)
    | apply Evolves.onlyIf | apply Evolves.ite | apply Evolves.ofPair ‹_› | apply Evolves.ofTriple ‹_› | split
    | dsimp only | decide | rfl | intro _ | apply Evolves.upd_cmd

theorem ev_writeField_mask (sp : Sp) (i x word ofs v : Nat) (f : FieldDesc) (s : State) (m : Nat)
    (h1 : wordMask sp ||| m = m) (h2 : ∀ k, k ||| 265845599156983174580761412056068917771 = 265845599156983174580761412056068917771 → k ||| m = m) : Evolves m s (writeField sp i x word ofs v f s) := by
  have hb : (wordMask Sp.cmd ||| 8) ||| m = m := h2 _ (by decide)
  have wh : ∀ a b w lo hi v, Evolves m a b → Evolves m a (wrx ⟨sp, w, lo, hi⟩ i x v b) := fun a b w lo hi v k => Evolves.wrx k h1
  have b1 : ∀ a b, Evolves m a b → Evolves m a (bump CMD.RWL_CNT 0 b) := fun a b k => Evolves.bump k hb
  have b2 : ∀ a b, Evolves m a b → Evolves m a (bump CMD.WOT_CNT 0 b) := fun a b k => Evolves.bump k hb
  have b3 : ∀ a b, Evolves m a b → Evolves m a (bump CMD.RWH_CNT 0 b) := fun a b k => Evolves.bump k hb
  have hc : 2048 ||| m = m := h2 _ (by decide)
  have he : 265845599156983174580761412056068917771 ||| m = m := h2 _ (by decide)
  have ha : 255211775190703847597530955573826159114 ||| m = m := h2 _ (by decide)
  have k1 : ∀ a b c d, Evolves m a b → Evolves m a (setVerdict c d b) := fun a b c d k => Evolves.step (ev_setVerdict ..) k hc
  have k2 : ∀ a b c d, Evolves m a b → Evolves m a (encReject c d b) := fun a b c d k => Evolves.step (ev_encReject ..) k he
  have k3 : ∀ a b c d e, Evolves m a b → Evolves m a (accessCause c d e b) := fun a b c d e k => Evolves.step (ev_accessCause ..) k ha
  have kc : ∀ a b v, Evolves m a b → Evolves m a { b with cmd := v } := fun a b v k => Evolves.upd_cmd k hc
  unfold writeField
  with_reducible repeat'
    first
    | apply Evolves.refl | apply wh
    | apply k1 | apply k2 | apply k3
    | apply b1 | apply b2 | apply b3 | apply Evolves.onlyIf | apply Evolves.ite | split
    | dsimp only | intro _ | apply kc

theorem ev_writeField_of (sp : Sp) (i x word ofs v : Nat) (f : FieldDesc) (s : State) :
    Evolves (wordMask sp ||| 265845599156983174580761412056068917771) s (writeField sp i x word ofs v f s) :=
  ev_writeField_mask sp i x word ofs v f s _ (Mask.orl (Nat.or_self _)) (fun _ hk => Mask.sub (Mask.orr (Nat.or_self _)) hk)

theorem ev_writeWord (sp : Sp) (i : Nat) (x : Nat) (word : Nat) (ofs : Nat) (v : Nat) (s : State) :
    Evolves 1361129467683753853835051685653363296779 s (writeWord sp i x word ofs v s) := by
  unfold writeWord
  with_reducible repeat'
    first
    | apply Evolves.refl | apply Evolves.step (ev_writeField ..) | apply Evolves.allOf | apply Evolves.ofPair ‹_›
    | apply Evolves.ofTriple ‹_› | split | dsimp only | decide | rfl | intro _

theorem Evolves.writeWord {m : Nat} {s t : State} {sp : Sp} {i x word ofs v : Nat} (h : Evolves m s t)
    (hm : (wordMask sp ||| 265845599156983174580761412056068917771) ||| m = m := by decide) : Evolves m s (writeWord sp i x word ofs v t) := by
  unfold Machine.writeWord
  split
  · exact h
  · exact .allOf (fun _ _ => (ev_writeField_of ..).mono hm) h

theorem ev_writeReg (sp : Sp) (i : Nat) (word : Nat) (v : Nat) (s : State) :
    Evolves 1361129467683753853835051685653363296779 s (writeReg sp i word v s) := by
  unfold writeReg
  with_reducible repeat'
    first
    | apply Evolves.refl | apply Evolves.step (ev_writeWord ..) | dsimp only | decide | rfl | intro _

theorem Evolves.writeReg {m : Nat} {s t : State} {sp : Sp} {i word v : Nat} (h : Evolves m s t)
    (hm : (wordMask sp ||| 265845599156983174580761412056068917771) ||| m = m := by decide) : Evolves m s (writeReg sp i word v t) := Evolves.writeWord h hm

theorem ev_readWord (sp : Sp) (i : Nat) (x : Nat) (word : Nat) (s : State) :
    Evolves 1361129467683753853835051685653363294211 s (readWord sp i x word s).2 := by
  unfold readWord
  with_reducible repeat'
    first
    | apply Evolves.refl | apply Evolves.step (ev_wrx ..) | apply Evolves.onlyIf | apply Evolves.allOf
    | apply Evolves.foldl | apply Evolves.ite | apply Evolves.ofPair ‹_› | apply Evolves.ofTriple ‹_› | split
    | dsimp only | decide | rfl | intro _

theorem Evolves.readWord {m : Nat} {s t : State} {sp : Sp} {i x word : Nat} (h : Evolves m s t)
    (hm : wordMask sp ||| m = m := by decide) : Evolves m s (readWord sp i x word t).2 := by
  unfold Machine.readWord
  split
  · exact h
  · exact .allOf (fun _ _ => .onlyIf (fun x => .wrx (.refl x) hm) (.refl _)) h

theorem ev_setRead (v : Nat) (s : State) : Evolves 2048 s (setRead v s) := by
  unfold setRead
  with_reducible repeat'
    first
    | apply Evolves.refl | dsimp only | decide | rfl | intro _ | apply Evolves.upd_cmd

theorem ev_stepIndex (auto_ : Fld) (f : Fld) (i : Nat) (n : Nat) (s : State) :
    Evolves 1361129467683753853835051685653363294211 s (stepIndex auto_ f i n s) := by
  unfold stepIndex
  with_reducible repeat'
    first
    | apply Evolves.refl | apply Evolves.step (ev_wr ..) | apply Evolves.onlyIf | apply Evolves.ite | split | dsimp only
    | decide | rfl | intro _

theorem Evolves.stepIndex {m : Nat} {s t : State} {auto_ f : Fld} {i n : Nat} (h : Evolves m s t)
    (hm : wordMask f.sp ||| m = m := by decide) : Evolves m s (stepIndex auto_ f i n t) :=
  Evolves.onlyIf (fun x => Evolves.wr (.refl x) hm) h

theorem ev_goBusy (ofs : Nat) (v : Nat) (s : State) :
    Evolves 265845599156983174580761412056068915723 s (goBusy ofs v s) := by
  unfold goBusy
  with_reducible repeat'
    first
    | apply Evolves.refl | apply Evolves.step (ev_accessCause ..) | apply Evolves.bump | dsimp only | decide | rfl
    | intro _

end Sys2Proof.Machine
end

