-- ==== Sys2Proof/Laws/EvBuffers.lean ====
section
/-!
SUPPORT. What the operations of Machine/Buffers.lean may touch (Safety.lean, Evolves).
-/

namespace Sys2Proof.Machine

set_option Elab.async false
set_option linter.all false

theorem ev_setDesc (p : Nat) (i : Nat) (d : Desc) (s : State) : Evolves 4096 s (setDesc p i d s) := by
  unfold setDesc
  with_reducible repeat'
    first
    | apply Evolves.refl | dsimp only | decide | rfl | intro _ | apply Evolves.upd_bpm

theorem ev_answer (r : Nat) (a : BufAnswer) (s : State) : Evolves 4096 s (answer r a s) := by
  unfold answer
  with_reducible repeat'
    first
    | apply Evolves.refl | dsimp only | decide | rfl | intro _ | apply Evolves.upd_bpm

theorem ev_setUsed (r : Nat) (p : Nat) (n : Nat) (s : State) :
    Evolves 633825300114114700748351602689 s (setUsed r p n s) := by
  unfold setUsed
  with_reducible repeat'
    first
    | apply Evolves.refl | apply Evolves.wrx | dsimp only | decide | rfl | intro _

theorem ev_popFree (p : Nat) (s : State) : Evolves 4096 s (popFree p s).2 := by
  unfold popFree
  with_reducible repeat'
    first
    | apply Evolves.refl | apply Evolves.ite | apply Evolves.ofPair ‹_› | apply Evolves.ofTriple ‹_› | split
    | dsimp only | decide | rfl | intro _ | apply Evolves.upd_bpm

theorem ev_grantBuffers (r : Nat) (p : Nat) (n : Nat) (len : Nat) (count : Nat) (holders : Nat) (s : State) :
    Evolves 950737950171172051122527408137 s (grantBuffers r p n len count holders s).2 := by
  unfold grantBuffers
  with_reducible repeat'
    first
    | apply Evolves.refl | apply Evolves.step (ev_popFree ..) | apply Evolves.step (ev_setUsed ..)
    | apply Evolves.step (ev_setDesc ..) | apply Evolves.bump | (simp only [wordMask_at]; decide) | apply Evolves.ite
    | apply Evolves.ofPair ‹_› | apply Evolves.ofTriple ‹_› | split | dsimp only | decide | rfl | intro _

theorem ev_noBuffer (p : Nat) (s : State) : Evolves 255211775507616497654588305948001960459 s (noBuffer p s) := by
  unfold noBuffer
  with_reducible repeat'
    first
    | apply Evolves.refl | apply Evolves.step (ev_raise ..) | apply Evolves.bump | (simp only [wordMask_at]; decide)
    | dsimp only | decide | rfl | intro _

theorem ev_bufRefuse (op : Nat) (r : Nat) (h : Nat) (a : BufAnswer) (s : State) :
    Evolves 255211775507616497654588305948001964555 s (bufRefuse op r h a s) := by
  unfold bufRefuse
  with_reducible repeat'
    first
    | apply Evolves.refl | apply Evolves.step (ev_answer ..) | apply Evolves.step (ev_raise ..) | apply Evolves.bump
    | apply Evolves.ite | apply Evolves.ofPair ‹_› | apply Evolves.ofTriple ‹_› | split | dsimp only | decide | rfl
    | intro _

theorem ev_returnBuffer (p : Nat) (i : Nat) (s : State) :
    Evolves 633825300114114700748351606785 s (returnBuffer p i s) := by
  unfold returnBuffer
  with_reducible repeat'
    first
    | apply Evolves.refl | apply Evolves.step (ev_setDesc ..) | apply Evolves.step (ev_setUsed ..) | apply Evolves.ite
    | split | dsimp only | decide | rfl | intro _ | apply Evolves.upd_bpm

theorem ev_bufShare (r : Nat) (h : Nat) (n : Nat) (dst : Nat) (s : State) :
    Evolves 255211775507616497654588305948001964555 s (bufShare r h n dst s) := by
  unfold bufShare
  with_reducible repeat'
    first
    | apply Evolves.refl | apply Evolves.step (ev_bufRefuse ..) | apply Evolves.step (ev_answer ..)
    | apply Evolves.step (ev_setDesc ..) | apply Evolves.ite | apply Evolves.ofPair ‹_› | apply Evolves.ofTriple ‹_›
    | split | dsimp only | decide | rfl | intro _

theorem ev_bufFree (r : Nat) (h : Nat) (s : State) :
    Evolves 255211776141441797768703006696353567243 s (bufFree r h s) := by
  unfold bufFree
  with_reducible repeat'
    first
    | apply Evolves.refl | apply Evolves.step (ev_bufRefuse ..) | apply Evolves.step (ev_answer ..)
    | apply Evolves.step (ev_returnBuffer ..) | apply Evolves.step (ev_setDesc ..) | apply Evolves.ite
    | apply Evolves.ofPair ‹_› | apply Evolves.ofTriple ‹_› | split | dsimp only | decide | rfl | intro _

theorem ev_bufTransfer (r : Nat) (h : Nat) (dst : Nat) (s : State) :
    Evolves 255211776141441797768703006696353567243 s (bufTransfer r h dst s) := by
  unfold bufTransfer
  with_reducible repeat'
    first
    | apply Evolves.refl | apply Evolves.step (ev_bufRefuse ..) | apply Evolves.step (ev_answer ..)
    | apply Evolves.step (ev_setDesc ..) | apply Evolves.step (ev_setUsed ..) | apply Evolves.ite
    | apply Evolves.ofPair ‹_› | apply Evolves.ofTriple ‹_› | split | dsimp only | decide | rfl | intro _

theorem ev_freeHandle (r : Nat) (h : Nat) (s : State) :
    Evolves 255211776141441797768703006696353567243 s (freeHandle r h s) := by
  unfold freeHandle
  with_reducible repeat'
    first
    | apply Evolves.refl | apply Evolves.step (ev_bufFree ..) | apply Evolves.step (ev_wrapperAnswer ..)
    | apply Evolves.ite | split | dsimp only | decide | rfl | intro _

theorem ev_setQueue (p : Nat) (q : List AllocReq) (s : State) : Evolves 4096 s (setQueue p q s) := by
  unfold setQueue
  with_reducible repeat'
    first
    | apply Evolves.refl | dsimp only | decide | rfl | intro _ | apply Evolves.upd_bpm

theorem ev_setWaiting (p : Nat) (q : List AllocReq) (s : State) : Evolves 4096 s (setWaiting p q s) := by
  unfold setWaiting
  with_reducible repeat'
    first
    | apply Evolves.refl | dsimp only | decide | rfl | intro _ | apply Evolves.upd_bpm

theorem ev_queueAlloc (p : Nat) (q : AllocReq) (s : State) : Evolves 4096 s (queueAlloc p q s) := by
  unfold queueAlloc
  with_reducible repeat'
    first
    | apply Evolves.refl | apply Evolves.step (ev_setQueue ..) | apply Evolves.step (ev_setWaiting ..)
    | apply Evolves.ite | split | dsimp only | decide | rfl | intro _

theorem ev_refillQueue (p : Nat) (s : State) : Evolves 4096 s (refillQueue p s) := by
  unfold refillQueue
  with_reducible repeat'
    first
    | apply Evolves.refl | apply Evolves.step (ev_queueAlloc ..) | apply Evolves.step (ev_setWaiting ..)
    | apply Evolves.allOf | dsimp only | decide | rfl | intro _

theorem ev_tooLong (r : Nat) (s : State) : Evolves 255211775507616497654588305948001964555 s (tooLong r s) := by
  unfold tooLong
  with_reducible repeat'
    first
    | apply Evolves.refl | apply Evolves.step (ev_answer ..) | apply Evolves.step (ev_raise ..) | apply Evolves.bump
    | dsimp only | decide | rfl | intro _

theorem ev_bufAlloc (r : Nat) (control : Bool) (len : Nat) (count : Nat) (holders : Nat) (s : State) :
    Evolves 255211775507616497654588305948001964555 s (bufAlloc r control len count holders s) := by
  unfold bufAlloc
  with_reducible repeat'
    first
    | apply Evolves.refl | apply Evolves.step (ev_tooLong ..) | apply Evolves.step (ev_bufRefuse ..)
    | apply Evolves.step (ev_queueAlloc ..) | apply Evolves.ite | apply Evolves.ofPair ‹_› | apply Evolves.ofTriple ‹_›
    | split | dsimp only | decide | rfl | intro _

theorem ev_execAlloc (r : Fin 32) (control : Bool) (len : BitVec 15) (count : BitVec 8) (holders : Word) (s : State) :
    OutEvolves 255211775507616497654588305948001964555 s (execAlloc r control len count holders s) := by
  unfold execAlloc
  with_reducible repeat'
    first
    | apply Evolves.refl | apply OutEvolves.onIsland | apply Evolves.step (ev_bufAlloc ..) | dsimp only | decide | rfl
    | intro _

theorem ev_execShare (r : Fin 32) (h : Word) (n : BitVec 8) (dst : Fin 32) (s : State) :
    OutEvolves 255211775507616497654588305948001964555 s (execShare r h n dst s) := by
  unfold execShare
  with_reducible repeat'
    first
    | apply Evolves.refl | apply OutEvolves.onIsland | apply Evolves.step (ev_bufShare ..) | dsimp only | decide | rfl
    | intro _

theorem ev_execFree (r : Fin 32) (h : Word) (s : State) :
    OutEvolves 255211776141441797768703006696353567243 s (execFree r h s) := by
  unfold execFree
  with_reducible repeat'
    first
    | apply Evolves.refl | apply OutEvolves.onIsland | apply Evolves.step (ev_bufFree ..) | dsimp only | decide | rfl
    | intro _

theorem ev_execTransfer (r : Fin 32) (h : Word) (dst : Fin 32) (s : State) :
    OutEvolves 255211776141441797768703006696353567243 s (execTransfer r h dst s) := by
  unfold execTransfer
  with_reducible repeat'
    first
    | apply Evolves.refl | apply OutEvolves.onIsland | apply Evolves.step (ev_bufTransfer ..) | dsimp only | decide
    | rfl | intro _

theorem ev_refuseHead (p : Nat) (r : Nat) (s : State) :
    Evolves 255211775507616497654588305948001964555 s (refuseHead p r s) := by
  unfold refuseHead
  with_reducible repeat'
    first
    | apply Evolves.refl | apply Evolves.step (ev_answer ..) | apply Evolves.step (ev_noBuffer ..)
    | apply Evolves.step (ev_setQueue ..) | dsimp only | decide | rfl | intro _

theorem ev_grantHead (p : Nat) (r : Nat) (s : State) :
    Evolves 950737950171172051122527408137 s (grantHead p r s).2 := by
  unfold grantHead
  with_reducible repeat'
    first
    | apply Evolves.refl | apply Evolves.step (ev_grantBuffers ..) | apply Evolves.step (ev_setQueue ..)
    | apply Evolves.step (ev_answer ..) | apply Evolves.ite | apply Evolves.ofPair ‹_› | apply Evolves.ofTriple ‹_›
    | split | dsimp only | decide | rfl | intro _ | apply Evolves.upd_bpm

theorem ev_grantWalk (p : Nat) (l : List Nat) (lanes : Nat) (s : State) :
    Evolves 950737950171172051122527408137 s (grantWalk p l lanes s).2 := by
  induction l generalizing lanes s with
  | nil =>
    unfold grantWalk
    with_reducible repeat'
      first
      | apply Evolves.refl | apply Evolves.step (ev_grantHead ..) | apply Evolves.ite | apply Evolves.ofPair ‹_›
      | apply Evolves.ofTriple ‹_› | split | dsimp only | decide | rfl | intro _
  | cons r l ih =>
    unfold grantWalk
    with_reducible repeat'
      first
      | apply Evolves.step (ih ..) | apply Evolves.refl | apply Evolves.step (ev_grantHead ..) | apply Evolves.ite
      | apply Evolves.ofPair ‹_› | apply Evolves.ofTriple ‹_› | split | dsimp only | decide | rfl | intro _

theorem ev_arbiterCycle (p : Nat) (s : State) :
    Evolves 255211776141441797768703006696353567243 s (arbiterCycle p s) := by
  unfold arbiterCycle
  with_reducible repeat'
    first
    | apply Evolves.refl | apply Evolves.step (ev_refuseHead ..) | apply Evolves.step (ev_grantWalk ..)
    | apply Evolves.step (ev_refillQueue ..) | apply Evolves.allOf | apply Evolves.ite | apply Evolves.ofPair ‹_›
    | apply Evolves.ofTriple ‹_› | split | dsimp only | decide | rfl | intro _

theorem ev_eventAsks (s : State) : Evolves 4096 s (eventAsks s) := by
  unfold eventAsks
  with_reducible repeat'
    first
    | apply Evolves.refl | apply Evolves.step (ev_queueAlloc ..) | apply Evolves.allOf | dsimp only | decide | rfl
    | intro _

theorem ev_eventDeliver (e : EventAsk) (s : State) :
    Evolves 276479423123262501563991868538311672334 s (eventDeliver e s) := by
  unfold eventDeliver
  with_reducible repeat'
    first
    | apply Evolves.refl | apply Evolves.step (ev_ringPut ..) | apply Evolves.bump | apply Evolves.ofPair ‹_›
    | apply Evolves.ofTriple ‹_› | split | dsimp only | decide | rfl | intro _

theorem ev_eventAnswer (s : State) : Evolves 276479424074000451735163919660839080463 s (eventAnswer s) := by
  unfold eventAnswer
  with_reducible repeat'
    first
    | apply Evolves.refl | apply Evolves.step (ev_bufFree ..) | apply Evolves.step (ev_eventDeliver ..)
    | apply Evolves.bump | apply Evolves.ofPair ‹_› | apply Evolves.ofTriple ‹_› | split | dsimp only | decide | rfl
    | intro _ | apply Evolves.upd_ev

theorem ev_arbitrate (p : Nat) (s : State) : Evolves 276479424074000451735163919660839080463 s (arbitrate p s) := by
  unfold arbitrate
  with_reducible repeat'
    first
    | apply Evolves.refl | apply Evolves.step (ev_arbiterCycle ..) | apply Evolves.step (ev_eventAnswer ..)
    | apply Evolves.ite | split | dsimp only | decide | rfl | intro _

theorem ev_execBufferArbitration (s : State) :
    OutEvolves 276479424074000451735163919660839080463 s (execBufferArbitration s) := by
  unfold execBufferArbitration
  with_reducible repeat'
    first
    | apply Evolves.refl | apply OutEvolves.onIsland | apply Evolves.step (ev_arbitrate ..)
    | apply Evolves.step (ev_eventAsks ..) | apply Evolves.allOf | dsimp only | decide | rfl | intro _

theorem ev_reclaimStart (rs : List Nat) (s : State) :
    Evolves 255211775190703847597530955573826163210 s (reclaimStart rs s) := by
  unfold reclaimStart
  with_reducible repeat'
    first
    | apply Evolves.refl | apply Evolves.step (ev_raise ..) | apply Evolves.ite | split | dsimp only | decide | rfl
    | intro _ | apply Evolves.upd_bpm

theorem ev_reclaimDesc (k : Nat) (s : State) : Evolves 950737950171172051122527408137 s (reclaimDesc k s) := by
  unfold reclaimDesc
  with_reducible repeat'
    first
    | apply Evolves.refl | apply Evolves.step (ev_returnBuffer ..) | apply Evolves.bumpBy | apply Evolves.ite | split
    | dsimp only | decide | rfl | intro _

theorem ev_reclaimDone (s : State) : Evolves 255211776141441797768703006696353567243 s (reclaimDone s) := by
  unfold reclaimDone
  with_reducible repeat'
    first
    | apply Evolves.refl | apply Evolves.step (ev_reclaimDesc ..) | apply Evolves.step (ev_raise ..)
    | apply Evolves.allOf | apply Evolves.ofPair ‹_› | apply Evolves.ofTriple ‹_› | split | dsimp only | decide | rfl
    | intro _ | apply Evolves.upd_bpm

theorem ev_execReclaimDone (s : State) : OutEvolves 255211776141441797768703006696353567243 s (execReclaimDone s) := by
  unfold execReclaimDone
  with_reducible repeat'
    first
    | apply Evolves.refl | apply OutEvolves.onIsland | apply Evolves.step (ev_reclaimDone ..) | dsimp only | decide
    | rfl | intro _

theorem ev_endSweeps (r : Nat) (s : State) : Evolves 255211776141441797768703006696353567243 s (endSweeps r s) := by
  unfold endSweeps
  with_reducible repeat'
    first
    | apply Evolves.refl | apply Evolves.step (ev_reclaimDone ..) | apply Evolves.allOf | apply Evolves.ite | split
    | dsimp only | decide | rfl | intro _

theorem ev_arbitrateFor (p r n : Nat) (s : State) : Evolves 276479424074000451735163919660839080463 s (arbitrateFor p r n s) := by
  induction n generalizing s with
  | zero => exact .refl s
  | succ n ih =>
    unfold arbitrateFor
    split
    · exact (Evolves.step (ev_arbitrate p s) (.refl s)).trans (ih _)
    · exact .refl s

theorem ev_serve (p : Nat) (q : AllocReq) (s : State) :
    Evolves 276479424074000451735163919660839080463 s (serve p q s).2 := by
  unfold serve
  with_reducible repeat'
    first
    | apply Evolves.refl | apply Evolves.step (ev_grantBuffers ..) | apply Evolves.step (ev_answer ..)
    | apply Evolves.step (ev_noBuffer ..) | apply Evolves.step (ev_queueAlloc ..)
    | apply Evolves.step (ev_arbitrateFor ..) | apply Evolves.ite | apply Evolves.ofPair ‹_›
    | apply Evolves.ofTriple ‹_› | split | dsimp only | decide | rfl | intro _ | apply Evolves.upd_bpm

theorem ev_allocNow (r : Nat) (control : Bool) (len : Nat) (count : Nat) (holders : Nat) (s : State) :
    Evolves 276479424074000451735163919660839080463 s (allocNow r control len count holders s).2 := by
  unfold allocNow
  with_reducible repeat'
    first
    | apply Evolves.refl | apply Evolves.step (ev_wrapperAnswer ..) | apply Evolves.step (ev_tooLong ..)
    | apply Evolves.step (ev_serve ..) | apply Evolves.step (ev_endSweeps ..) | apply Evolves.ite | split | dsimp only
    | decide | rfl | intro _

theorem ev_allocPair (r : Nat) (s : State) : Evolves 276479424074000451735163919660839080463 s (allocPair r s).2 := by
  unfold allocPair
  with_reducible repeat'
    first
    | apply Evolves.refl | apply Evolves.step (ev_wrapperAnswer ..) | apply Evolves.step (ev_serve ..)
    | apply Evolves.step (ev_endSweeps ..) | apply Evolves.ite | split | dsimp only | decide | rfl | intro _

theorem ev_hostPacket (enable : Fld) (req : Nat) (p : Packet) (s : State) :
    Evolves 276479424074000451735163919660839080463 s (hostPacket enable req p s).2 := by
  unfold hostPacket
  with_reducible repeat'
    first
    | apply Evolves.refl | apply Evolves.step (ev_allocNow ..) | apply Evolves.step (ev_ringPut ..)
    | apply Evolves.step (ev_freeHandle ..) | apply Evolves.ite | apply Evolves.ofPair ‹_› | apply Evolves.ofTriple ‹_›
    | split | dsimp only | decide | rfl | intro _

theorem ev_putBytes (p i k : Nat) (l : List Byte) (s : State) :
    Evolves 4096 s (putBytes p i k l s) := by
  induction l generalizing k s with
  | nil =>
    unfold putBytes
    with_reducible repeat'
      first
      | apply Evolves.refl | dsimp only | decide | rfl | intro _ | apply Evolves.upd_bpm
  | cons b l ih =>
    unfold putBytes
    with_reducible repeat'
      first
      | apply Evolves.step (ih ..) | apply Evolves.refl | dsimp only | decide | rfl | intro _ | apply Evolves.upd_bpm

theorem ev_refuseAccess (r : Nat) (h : Nat) (s : State) :
    Evolves 255211775507616497654588305948001964555 s (refuseAccess r h s) := by
  unfold refuseAccess
  with_reducible repeat'
    first
    | apply Evolves.refl | apply Evolves.step (ev_answer ..) | apply Evolves.step (ev_raise ..) | apply Evolves.bump
    | dsimp only | decide | rfl | intro _

theorem ev_writeBuf (r : Nat) (h : Nat) (ofs : Nat) (b : List Byte) (s : State) :
    Evolves 255211775507616497654588305948001964555 s (writeBuf r h ofs b s).2 := by
  unfold writeBuf
  with_reducible repeat'
    first
    | apply Evolves.refl | apply Evolves.step (ev_refuseAccess ..) | apply Evolves.step (ev_answer ..)
    | apply Evolves.step (ev_wrapperAnswer ..) | apply Evolves.step (ev_putBytes ..) | apply Evolves.ite
    | apply Evolves.ofPair ‹_› | apply Evolves.ofTriple ‹_› | split | dsimp only | decide | rfl | intro _

theorem ev_readBuf (r : Nat) (h : Nat) (ofs : Nat) (n : Nat) (s : State) :
    Evolves 255211775507616497654588305948001964555 s (readBuf r h ofs n s).2 := by
  unfold readBuf
  with_reducible repeat'
    first
    | apply Evolves.refl | apply Evolves.step (ev_refuseAccess ..) | apply Evolves.step (ev_answer ..)
    | apply Evolves.step (ev_wrapperAnswer ..) | apply Evolves.ite | apply Evolves.ofPair ‹_›
    | apply Evolves.ofTriple ‹_› | split | dsimp only | decide | rfl | intro _

theorem ev_eccFound (r : Nat) (g : Nat) (uncorrectable : Bool) (b : List Byte) (s : State) :
    Evolves 255211775507616497654588305948001964555 s (eccFound r g uncorrectable b s) := by
  unfold eccFound
  with_reducible repeat'
    first
    | apply Evolves.refl | apply Evolves.step (ev_answer ..) | apply Evolves.step (ev_raise ..) | apply Evolves.bump
    | (simp only [wordMask_at]; decide) | apply Evolves.ite | split | dsimp only | decide | rfl | intro _
    | apply Evolves.upd_bpm

theorem ev_readStored (r : Nat) (h : Nat) (ecc : Option (Nat × Bool)) (s : State) :
    Evolves 255211775507616497654588305948001964555 s (readStored r h ecc s).2 := by
  unfold readStored
  with_reducible repeat'
    first
    | apply Evolves.refl | apply Evolves.step (ev_readBuf ..) | apply Evolves.step (ev_eccFound ..) | apply Evolves.ite
    | apply Evolves.ofPair ‹_› | apply Evolves.ofTriple ‹_› | split | dsimp only | decide | rfl | intro _

theorem ev_bufAccess (r : Nat) (h : Nat) (ofs : Nat) (len : Nat) (data : Option (List Byte)) (ecc : Option (Nat × Bool)) (s : State) :
    Evolves 255211775507616497654588305948001964555 s (bufAccess r h ofs len data ecc s) := by
  unfold bufAccess
  with_reducible repeat'
    first
    | apply Evolves.refl | apply Evolves.step (ev_writeBuf ..) | apply Evolves.step (ev_answer ..)
    | apply Evolves.step (ev_readBuf ..) | apply Evolves.step (ev_eccFound ..) | apply Evolves.ite
    | apply Evolves.ofPair ‹_› | apply Evolves.ofTriple ‹_› | split | dsimp only | decide | rfl | intro _

theorem ev_heldAccess (a : HeldAccess) (s : State) :
    Evolves 255211775507616497654588305948001964555 s (heldAccess a s) := by
  unfold heldAccess
  with_reducible repeat'
    first
    | apply Evolves.refl | apply Evolves.step (ev_bufAccess ..) | apply Evolves.ite | split | dsimp only | decide | rfl
    | intro _ | apply Evolves.upd_bpm

theorem ev_holdRead {r h : Nat} {s s' : State} (e : holdRead r h s = some s') : Evolves 4096 s s' := by
  unfold holdRead at e
  dsimp only at e
  split at e
  · cases e
    split
    · exact .refl s
    · exact .upd_bpm (.refl s)
  · cases e

theorem ev_execBufferAccess (r : Fin 32) (h : Word) (ofs : BitVec 15) (len : BitVec 15) (data : Option (List Byte)) (ecc : Option (Nat × Bool)) (s : State) :
    OutEvolves 255211775507616497654588305948001964555 s (execBufferAccess r h ofs len data ecc s) := by
  unfold execBufferAccess
  with_reducible repeat'
    first
    | apply Evolves.refl | apply OutEvolves.onIsland | apply Evolves.step (ev_heldAccess ..) | dsimp only | decide | rfl
    | intro _

theorem ev_poolLock (s : State) : Evolves 265845599473895824637818762430244723211 s (poolLock s) := by
  unfold poolLock
  with_reducible repeat'
    first
    | apply Evolves.refl | apply Evolves.step (ev_setVerdict ..) | apply Evolves.step (ev_accessCause ..)
    | apply Evolves.step (ev_raise ..) | apply Evolves.bump | apply Evolves.wr | apply Evolves.ite | split | dsimp only
    | decide | rfl | intro _ | apply Evolves.upd_bpm

theorem ev_execPoolLock (s : State) : OutEvolves 265845599473895824637818762430244723211 s (execPoolLock s) := by
  unfold execPoolLock
  with_reducible repeat'
    first
    | apply Evolves.refl | apply OutEvolves.onIsland | apply Evolves.step (ev_poolLock ..) | dsimp only | decide | rfl
    | intro _

theorem ev_execFreeListDone (s : State) : OutEvolves 316912650057057350374175805953 s (execFreeListDone s) := by
  unfold execFreeListDone
  with_reducible repeat'
    first
    | apply Evolves.refl | apply OutEvolves.onIsland | apply Evolves.wr | apply Evolves.ite | split | dsimp only
    | decide | rfl | intro _ | apply Evolves.upd_bpm

theorem ev_quotaWrite (w : Nat) (s : State) : Evolves 255211776141441797768703006696353569291 s (quotaWrite w s) := by
  unfold quotaWrite
  with_reducible repeat'
    first
    | apply Evolves.refl | apply Evolves.step (ev_setVerdict ..) | apply Evolves.step (ev_raise ..) | apply Evolves.wrx
    | apply Evolves.wr | apply Evolves.onlyIf | apply Evolves.ite | split | dsimp only | decide | rfl | intro _
    | apply Evolves.upd_bpm

theorem ev_execQuotaCommit (w : Word) (s : State) :
    OutEvolves 255211776141441797768703006696353569291 s (execQuotaCommit w s) := by
  unfold execQuotaCommit
  with_reducible repeat'
    first
    | apply Evolves.refl | apply OutEvolves.onIsland | apply Evolves.step (ev_quotaWrite ..) | dsimp only | decide | rfl
    | intro _

theorem ev_descSnapshot (h : Nat) (s : State) : Evolves 316912650057057350374175801345 s (descSnapshot h s) := by
  unfold descSnapshot
  with_reducible repeat'
    first
    | apply Evolves.refl | apply Evolves.wr | apply Evolves.ite | split | dsimp only | decide | rfl | intro _

theorem ev_execDescSnapshot (h : Word) (s : State) :
    OutEvolves 316912650057057350374175801857 s (execDescSnapshot h s) := by
  unfold execDescSnapshot
  with_reducible repeat'
    first
    | apply Evolves.refl | apply OutEvolves.onIsland | apply Evolves.step (ev_descSnapshot ..) | dsimp only | decide
    | rfl | intro _

theorem ev_execHbmPhyTrained (st : Fin 2) (ok : Bool) (s : State) :
    OutEvolves 255211775507616497654588305948001960459 s (execHbmPhyTrained st ok s) := by
  unfold execHbmPhyTrained
  with_reducible repeat'
    first
    | apply Evolves.refl | apply OutEvolves.onIsland | apply Evolves.step (ev_raise ..) | apply Evolves.wr
    | (simp only [wordMask_at]; decide) | apply Evolves.ite | split | dsimp only | decide | rfl | intro _

theorem ev_execHbmTempSample (st : Fin 2) (t : BitVec 8) (s : State) :
    OutEvolves 255211775507616497654588305948001960459 s (execHbmTempSample st t s) := by
  unfold execHbmTempSample
  with_reducible repeat'
    first
    | apply Evolves.refl | apply OutEvolves.onIsland | apply Evolves.step (ev_raise ..) | apply Evolves.wr
    | apply Evolves.onlyIf | (simp only [wordMask_at]; decide) | dsimp only | decide | rfl | intro _

theorem ev_execHbmPhyTrainLoss (st : Fin 2) (s : State) :
    OutEvolves 255211775507616497654588305948001964555 s (execHbmPhyTrainLoss st s) := by
  unfold execHbmPhyTrainLoss
  with_reducible repeat'
    first
    | apply Evolves.refl | apply OutEvolves.onIsland | apply Evolves.step (ev_raise ..) | apply Evolves.wr
    | (simp only [wordMask_at]; decide) | dsimp only | decide | rfl | intro _ | apply Evolves.upd_bpm

theorem ev_retrainDone (st : Nat) (s : State) :
    Evolves 255211775507616497654588305948001964555 s (retrainDone st s) := by
  unfold retrainDone
  with_reducible repeat'
    first
    | apply Evolves.refl | apply Evolves.step (ev_bufAccess ..) | apply Evolves.step (ev_raise ..) | apply Evolves.wr
    | apply Evolves.allOf | (simp only [wordMask_at]; decide) | apply Evolves.ite | split | dsimp only | decide | rfl
    | intro _ | apply Evolves.upd_bpm

theorem ev_execHbmRetrainDone (st : Fin 2) (s : State) :
    OutEvolves 255211775507616497654588305948001964555 s (execHbmRetrainDone st s) := by
  unfold execHbmRetrainDone
  with_reducible repeat'
    first
    | apply Evolves.refl | apply OutEvolves.onIsland | apply Evolves.step (ev_retrainDone ..) | dsimp only | decide
    | rfl | intro _

end Sys2Proof.Machine
end

