-- ==== Sys2Proof/Laws/EvCapture.lean ====
section
/-!
SUPPORT. What the operations of Machine/Capture.lean may touch (Safety.lean, Evolves).
-/

namespace Sys2Proof.Machine

set_option Elab.async false
set_option linter.all false

theorem ev_captureRing (snap : Nat) (f : Seen) (s : State) :
    Evolves 276479423123262501563991868538311672334 s (captureRing snap f s) := by
  unfold captureRing
  with_reducible repeat'
    first
    | apply Evolves.refl | apply Evolves.step (ev_ringPut ..) | apply Evolves.bump | apply Evolves.ite
    | apply Evolves.ofPair ‹_› | apply Evolves.ofTriple ‹_› | split | dsimp only | decide | rfl | intro _

theorem ev_captureCopy (snap : Nat) (f : Seen) (s : State) :
    Evolves 276479424074000451735163919660839080463 s (captureCopy snap f s) := by
  unfold captureCopy
  with_reducible repeat'
    first
    | apply Evolves.refl | apply Evolves.step (ev_allocNow ..) | apply Evolves.step (ev_freeHandle ..)
    | apply Evolves.step (ev_captureRing ..) | apply Evolves.bump | apply Evolves.ofPair ‹_›
    | apply Evolves.ofTriple ‹_› | split | dsimp only | decide | rfl | intro _

theorem ev_captureAt (f : Seen) (s : State) : Evolves 276479424074000451735163919660839080463 s (captureAt f s) := by
  unfold captureAt
  with_reducible repeat'
    first
    | apply Evolves.refl | apply Evolves.step (ev_captureCopy ..) | apply Evolves.step (ev_State_setSession ..)
    | apply Evolves.allOf | apply Evolves.ite | apply Evolves.ofPair ‹_› | apply Evolves.ofTriple ‹_› | split
    | dsimp only | decide | rfl | intro _

theorem ev_readFrame (r : Nat) (h : Nat) (s : State) :
    Evolves 255211775507616497654588305948001964555 s (readFrame r h s).2 := by
  unfold readFrame
  with_reducible repeat'
    first
    | apply Evolves.refl | apply Evolves.step (ev_readBuf ..) | dsimp only | decide | rfl | intro _

end Sys2Proof.Machine
end

