-- ==== Sys2Proof/Laws/EvSeqOps.lean ====
section
/-!
SUPPORT. What the operations of Machine/SeqOps.lean may touch (Safety.lean, Evolves).
-/

namespace Sys2Proof.Machine

set_option Elab.async false
set_option linter.all false

theorem ev_State_setCluster (s : State) (k : Nat) (x : Cluster) : Evolves 1048576 s (State.setCluster s k x) := by
  unfold State.setCluster
  with_reducible repeat'
    first
    | apply Evolves.refl | dsimp only | decide | rfl | intro _ | apply Evolves.upd_clusters

theorem ev_State_setThread (s : State) (k : Nat) (t : Nat) (x : Thread) :
    Evolves 2097152 s (State.setThread s k t x) := by
  unfold State.setThread
  with_reducible repeat'
    first
    | apply Evolves.refl | dsimp only | decide | rfl | intro _ | apply Evolves.upd_threads

theorem ev_State_setGrant (s : State) (n : Nat) (x : Grt) : Evolves 524288 s (State.setGrant s n x) := by
  unfold State.setGrant
  with_reducible repeat'
    first
    | apply Evolves.refl | dsimp only | decide | rfl | intro _ | apply Evolves.upd_grt

theorem ev_mirrorOut (n : Nat) (d : Delta) (s : State) : Evolves 524288 s (mirrorOut n d s) := by
  unfold mirrorOut
  with_reducible repeat'
    first
    | apply Evolves.refl | apply Evolves.step (ev_State_setGrant ..) | apply Evolves.ite | split | dsimp only | decide
    | rfl | intro _

theorem ev_mirrorWord (n : Nat) (sp : Sp) (i : Nat) (x : Nat) (w : Nat) (s : State) :
    Evolves 524288 s (mirrorWord n sp i x w s) := by
  unfold mirrorWord
  with_reducible repeat'
    first
    | apply Evolves.refl | apply Evolves.step (ev_mirrorOut ..) | dsimp only | decide | rfl | intro _

theorem ev_writeG (k : Nat) (t : Nat) (r : Nat) (v : Nat) (s : State) : Evolves 2097152 s (writeG k t r v s) := by
  unfold writeG
  with_reducible repeat'
    first
    | apply Evolves.refl | apply Evolves.step (ev_State_setThread ..) | apply Evolves.ite | split | dsimp only | decide
    | rfl | intro _

theorem ev_tracePick (k : Nat) (t : Nat) (pc : Nat) (s : State) : Evolves 1048576 s (tracePick k t pc s).2 := by
  unfold tracePick
  with_reducible repeat'
    first
    | apply Evolves.refl | apply Evolves.step (ev_State_setCluster ..) | apply Evolves.ite | split | dsimp only | decide
    | rfl | intro _

theorem ev_traceStore (k : Nat) (t : Nat) (pc : Nat) (lat : Nat) (time : Nat) (s : State) :
    Evolves 302231454903657294725129 s (traceStore k t pc lat time s) := by
  unfold traceStore
  with_reducible repeat'
    first
    | apply Evolves.refl | apply Evolves.step (ev_State_setCluster ..) | apply Evolves.bump | apply Evolves.ite | split
    | dsimp only | decide | rfl | intro _

theorem ev_traceSample (k : Nat) (t : Nat) (pc : Nat) (lat : Nat) (time : Nat) (s : State) :
    Evolves 302231454903657294725129 s (traceSample k t pc lat time s) := by
  unfold traceSample
  with_reducible repeat'
    first
    | apply Evolves.refl | apply Evolves.step (ev_tracePick ..) | apply Evolves.step (ev_traceStore ..)
    | apply Evolves.ite | split | dsimp only | decide | rfl | intro _

theorem ev_traceWait (k : Nat) (t : Nat) (lat : Nat) (s : State) :
    Evolves 302231454903657294725129 s (traceWait k t lat s) := by
  unfold traceWait
  with_reducible repeat'
    first
    | apply Evolves.refl | apply Evolves.step (ev_traceStore ..) | apply Evolves.onlyIf | dsimp only | decide | rfl
    | intro _

theorem ev_traceWaitStop (k : Nat) (t : Nat) (s : State) :
    Evolves 302231454903657294725257 s (traceWaitStop k t s) := by
  unfold traceWaitStop
  with_reducible repeat'
    first
    | apply Evolves.refl | apply Evolves.step (ev_drawFree ..) | apply Evolves.step (ev_traceWait ..)
    | apply Evolves.ite | split | dsimp only | decide | rfl | intro _

theorem ev_traceFault (k : Nat) (t : Nat) (s : State) : Evolves 302231454903657294725257 s (traceFault k t s) := by
  unfold traceFault
  with_reducible repeat'
    first
    | apply Evolves.refl | apply Evolves.step (ev_tracePick ..) | apply Evolves.step (ev_drawFree ..)
    | apply Evolves.step (ev_traceStore ..) | apply Evolves.ite | split | dsimp only | decide | rfl | intro _

theorem ev_startThread (k : Nat) (t : Nat) (latch : Nat) (s : State) :
    Evolves 302231454903657296822281 s (startThread k t latch s) := by
  unfold startThread
  with_reducible repeat'
    first
    | apply Evolves.refl | apply Evolves.step (ev_traceWait ..) | apply Evolves.step (ev_State_setThread ..)
    | apply Evolves.ite | split | dsimp only | decide | rfl | intro _

theorem ev_latchAll (k : Nat) (bit : Nat) (s : State) : Evolves 2097152 s (latchAll k bit s) := by
  unfold latchAll
  with_reducible repeat'
    first
    | apply Evolves.refl | apply Evolves.step (ev_State_setThread ..) | apply Evolves.allOf | dsimp only | decide | rfl
    | intro _

theorem ev_faultThread (k : Nat) (t : Nat) (code : Nat) (s : State) :
    Evolves 255211775190704149828985859231121932811 s (faultThread k t code s) := by
  unfold faultThread
  with_reducible repeat'
    first
    | apply Evolves.refl | apply Evolves.step (ev_raise ..) | apply Evolves.step (ev_State_setThread ..)
    | apply Evolves.bump | dsimp only | decide | rfl | intro _

theorem ev_stopThread (k : Nat) (t : Nat) (s : State) : Evolves 302231454903657296822409 s (stopThread k t s) := by
  unfold stopThread
  with_reducible repeat'
    first
    | apply Evolves.refl | apply Evolves.step (ev_traceWaitStop ..) | apply Evolves.step (ev_State_setThread ..)
    | dsimp only | decide | rfl | intro _

theorem ev_parkThread (k : Nat) (t : Nat) (s : State) : Evolves 302231454903657296822409 s (parkThread k t s) := by
  unfold parkThread
  with_reducible repeat'
    first
    | apply Evolves.refl | apply Evolves.step (ev_traceWaitStop ..) | apply Evolves.step (ev_State_setThread ..)
    | dsimp only | decide | rfl | intro _

theorem ev_autoRestart (k : Nat) (frame : Nat) (t : Nat) (s : State) :
    Evolves 255211775190704149828985859231122981387 s (autoRestart k frame t s) := by
  unfold autoRestart
  with_reducible repeat'
    first
    | apply Evolves.refl | apply Evolves.step (ev_raise ..) | apply Evolves.step (ev_startThread ..)
    | apply Evolves.step (ev_State_setThread ..) | apply Evolves.bump | apply Evolves.ite | split | dsimp only | decide
    | rfl | intro _

theorem ev_mirrorRegion (k : Nat) (t : Nat) (s : State) : Evolves 524288 s (mirrorRegion k t s) := by
  unfold mirrorRegion
  with_reducible repeat'
    first
    | apply Evolves.refl | apply Evolves.step (ev_mirrorWord ..) | dsimp only | decide | rfl | intro _

theorem ev_handOver (k : Nat) (s : State) : Evolves 255211775190704149828985859231123505675 s (handOver k s) := by
  unfold handOver
  with_reducible repeat'
    first
    | apply Evolves.refl | apply Evolves.step (ev_mirrorRegion ..) | apply Evolves.step (ev_State_setCluster ..)
    | apply Evolves.step (ev_raise ..) | apply Evolves.step (ev_startThread ..) | apply Evolves.wr | apply Evolves.bump
    | (simp only [wordMask_at]; decide) | apply Evolves.ite | apply Evolves.ofPair ‹_› | apply Evolves.ofTriple ‹_›
    | split | dsimp only | decide | rfl | intro _

theorem ev_mirrorData (k : Nat) (s : State) : Evolves 1572864 s (mirrorData k s) := by
  unfold mirrorData
  with_reducible repeat'
    first
    | apply Evolves.refl | apply Evolves.step (ev_mirrorOut ..) | apply Evolves.step (ev_State_setCluster ..)
    | apply Evolves.allOf | apply Evolves.ite | split | dsimp only | decide | rfl | intro _

theorem ev_clusterClose (k : Nat) (frame : Nat) (s : State) :
    Evolves 255211775190704149828985859231123505675 s (clusterClose k frame s) := by
  unfold clusterClose
  with_reducible repeat'
    first
    | apply Evolves.refl | apply Evolves.step (ev_handOver ..) | apply Evolves.step (ev_autoRestart ..)
    | apply Evolves.step (ev_latchAll ..) | apply Evolves.step (ev_mirrorData ..)
    | apply Evolves.step (ev_State_setCluster ..) | apply Evolves.allOf | apply Evolves.ite | split | dsimp only
    | decide | rfl | intro _

theorem ev_pushActRec (k : Nat) (r : ActRec) (s : State) : Evolves 1049088 s (pushActRec k r s) := by
  unfold pushActRec
  with_reducible repeat'
    first
    | apply Evolves.refl | apply Evolves.step (ev_wrapperAnswer ..) | apply Evolves.step (ev_State_setCluster ..)
    | apply Evolves.ite | split | dsimp only | decide | rfl | intro _

theorem ev_popActRec (k : Nat) (s : State) : Evolves 1048576 s (popActRec k s) := by
  unfold popActRec
  with_reducible repeat'
    first
    | apply Evolves.refl | apply Evolves.step (ev_State_setCluster ..) | dsimp only | decide | rfl | intro _

theorem ev_parkThreads (s : State) : Evolves 302231454903657296822409 s (parkThreads s) := by
  unfold parkThreads
  with_reducible repeat'
    first
    | apply Evolves.refl | apply Evolves.step (ev_parkThread ..) | apply Evolves.allOf | apply Evolves.ite | split
    | dsimp only | decide | rfl | intro _

theorem ev_dropHandOvers (s : State) : Evolves 302231454903657294725121 s (dropHandOvers s) := by
  unfold dropHandOvers
  with_reducible repeat'
    first
    | apply Evolves.refl | apply Evolves.step (ev_State_setCluster ..) | apply Evolves.wr | apply Evolves.allOf
    | apply Evolves.ite | split | dsimp only | decide | rfl | intro _

theorem ev_takeoverThreads (s : State) : Evolves 377789318629571620241417 s (takeoverThreads s) := by
  unfold takeoverThreads
  with_reducible repeat'
    first
    | apply Evolves.refl | apply Evolves.step (ev_startThread ..) | apply Evolves.wrWord | apply Evolves.allOf
    | apply Evolves.ite | split | dsimp only | decide | rfl | intro _

end Sys2Proof.Machine
end

