-- ==== Sys2Proof/Laws/EvGrant.lean ====
section
/-!
SUPPORT. What the operations of Machine/Grant.lean may touch (Safety.lean, Evolves).
-/

namespace Sys2Proof.Machine

set_option Elab.async false
set_option linter.all false

/-- Words of one space are dropped. -/
theorem Evolves.upd_memFilter {m : Nat} {s t : State} {p : Key × Word → Bool} {sp : Sp}
    (hp : ∀ e : Key × Word, e.1.sp ≠ sp → p e = true) (h : Evolves m s t)
    (hm : (1 ||| 2 ^ (64 + sp.ctorIdx)) ||| m = m := by decide) : Evolves m s { t with mem := t.mem.filter p } :=
  Evolves.step (m' := 1 ||| 2 ^ (64 + sp.ctorIdx)) (t := t) ⟨fun q hq => by
    have h0 : (1 ||| 2 ^ (64 + sp.ctorIdx)).testBit 0 = true := by simp
    cases q <;> first | rfl | exact absurd (hq.symm.trans h0) (by decide),
    fun c => by
      simp only [State.canonical, Bool.and_eq_true] at c ⊢
      exact ⟨Store.wf_filter _ _ c.1, c.2⟩,
    Nat.le_refl _, Nat.le_refl _, fun k hk => by
      have hs : k.sp ≠ sp := fun e => by
        subst e
        have : (1 ||| 2 ^ (64 + k.sp.ctorIdx)).testBit (64 + k.sp.ctorIdx) = true := by
          simp only [Nat.testBit_or, Nat.testBit_two_pow_self, Bool.or_true]
        exact absurd (hk.symm.trans this) (by decide)
      simp only [State.get]
      split
      · rfl
      · exact Assoc.get_filter _ _ _ _ fun e he => hp e (he ▸ hs)⟩ h hm

theorem ev_witnessPlace (n b : Nat) (l : List Nat) (s : State) :
    Evolves 255211775190703904265928750009569247755 s (witnessPlace n b l s) := by
  induction l generalizing s with
  | nil =>
    unfold witnessPlace
    with_reducible repeat'
      first
      | apply Evolves.refl | apply Evolves.step (ev_raise ..) | apply Evolves.step (ev_State_setGrant ..)
      | apply Evolves.wr | apply Evolves.wrWord | apply Evolves.bump | apply Evolves.ite | apply Evolves.ofPair ‹_›
      | apply Evolves.ofTriple ‹_› | split | dsimp only | decide | rfl | intro _
  | cons t l ih =>
    unfold witnessPlace
    with_reducible repeat'
      first
      | apply Evolves.step (ih ..) | apply Evolves.refl | apply Evolves.step (ev_raise ..)
      | apply Evolves.step (ev_State_setGrant ..) | apply Evolves.wr | apply Evolves.wrWord | apply Evolves.bump
      | apply Evolves.ite | apply Evolves.ofPair ‹_› | apply Evolves.ofTriple ‹_› | split | dsimp only | decide | rfl
      | intro _

theorem ev_reopenBank (old : Nat) (new : Nat) (s : State) :
    Evolves 37778931862957161709569 s (reopenBank old new s) := by
  unfold reopenBank
  with_reducible repeat'
    first
    | apply Evolves.refl | apply Evolves.wrWord | apply Evolves.allOf | dsimp only | decide | rfl | intro _
    | apply Evolves.upd_memFilter (sp := .cell) (fun e he => by simp [he])

theorem ev_takeSnapshot (n : Nat) (frame : Nat) (s : State) : Evolves 524288 s (takeSnapshot n frame s) := by
  unfold takeSnapshot
  with_reducible repeat'
    first
    | apply Evolves.refl | apply Evolves.step (ev_State_setGrant ..) | apply Evolves.foldl | apply Evolves.ite | split
    | dsimp only | decide | rfl | intro _

theorem ev_recordCheck (n : Nat) (b : Nat) (bursts : List Burst) (rej : List (Nat × Nat)) (s : State) :
    Evolves 255211775190703904265928750009568723467 s (recordCheck n b bursts rej s) := by
  unfold recordCheck
  with_reducible repeat'
    first
    | apply Evolves.refl | apply Evolves.step (ev_raise ..) | apply Evolves.bump | apply Evolves.wrx
    | apply Evolves.allOf | (simp only [wordMask_at]; decide) | dsimp only | decide | rfl | intro _

theorem ev_combClose (n : Nat) (s : State) : Evolves 255211775190704206497383653666866086411 s (combClose n s) := by
  unfold combClose
  with_reducible repeat'
    first
    | apply Evolves.refl | apply Evolves.step (ev_witnessPlace ..) | apply Evolves.step (ev_takeSnapshot ..)
    | apply Evolves.step (ev_recordCheck ..) | apply Evolves.step (ev_clusterClose ..)
    | apply Evolves.step (ev_reopenBank ..) | apply Evolves.step (ev_State_setGrant ..)
    | apply Evolves.step (ev_State_setFram ..) | apply Evolves.step (ev_wrapperAnswer ..)
    | apply Evolves.step (ev_State_setCluster ..) | apply Evolves.step (ev_latchAll ..) | apply Evolves.bump
    | apply Evolves.wr | apply Evolves.bumpBy | apply Evolves.onlyIf | apply Evolves.ite | split | dsimp only | decide
    | rfl | intro _

theorem ev_execCombClose (n : Fin 48) (s : State) :
    OutEvolves 255211775190704206497383653666866086411 s (execCombClose n s) := by
  unfold execCombClose
  with_reducible repeat'
    first
    | apply Evolves.refl | apply OutEvolves.onIsland | apply Evolves.step (ev_combClose ..) | apply Evolves.ite | split
    | dsimp only | decide | rfl | intro _

theorem ev_evenStart (n : Nat) (cell : Nat) (w1 : Nat) (s : State) :
    Evolves 255211775190703866486996887052407013899 s (evenStart n cell w1 s).2 := by
  unfold evenStart
  with_reducible repeat'
    first
    | apply Evolves.refl | apply Evolves.step (ev_raise ..) | apply Evolves.bump | apply Evolves.ite | split
    | dsimp only | decide | rfl | intro _

theorem ev_mirrorCell (n : Nat) (cell : Nat) (s : State) : Evolves 524288 s (mirrorCell n cell s) := by
  unfold mirrorCell
  with_reducible repeat'
    first
    | apply Evolves.refl | apply Evolves.step (ev_mirrorOut ..) | dsimp only | decide | rfl | intro _

theorem ev_storeCell (n : Nat) (cell : Nat) (w0 : Nat) (w1 : Nat) (w2 : Nat) (fixed : Nat) (fown : Nat) (writer : Nat) (s : State) :
    Evolves 265845599156983231249159206491812006411 s (storeCell n cell w0 w1 w2 fixed fown writer s) := by
  unfold storeCell
  with_reducible repeat'
    first
    | apply Evolves.refl | apply Evolves.step (ev_evenStart ..) | apply Evolves.step (ev_mirrorCell ..)
    | apply Evolves.step (ev_encReject ..) | apply Evolves.wrWord | apply Evolves.wrx | apply Evolves.onlyIf
    | apply Evolves.ofPair ‹_› | apply Evolves.ofTriple ‹_› | split | dsimp only | decide | rfl | intro _

theorem ev_placeFixed (n : Nat) (cell : Nat) (w0 : Nat) (w1 : Nat) (w2 : Nat) (fown : Nat) (writer : Nat) (s : State) :
    Evolves 265845599156983231249159206491812006411 s (placeFixed n cell w0 w1 w2 fown writer s).2 := by
  unfold placeFixed
  with_reducible repeat'
    first
    | apply Evolves.refl | apply Evolves.step (ev_mirrorCell ..) | apply Evolves.step (ev_storeCell ..)
    | apply Evolves.step (ev_raise ..) | apply Evolves.wrWord | apply Evolves.ite | split | dsimp only | decide | rfl
    | intro _

theorem Evolves.advanceWord {m : Nat} {s t : State} {auto_ word entry : Fld} {i first words entries : Nat} (h : Evolves m s t)
    (hm : wordMask word.sp ||| m = m := by decide) (hn : wordMask entry.sp ||| m = m := by decide) :
    Evolves m s (advanceWord auto_ word entry i first words entries t) := by
  unfold Machine.advanceWord
  refine .ite (.ite (.wr h hm) (.wr (.wr h hm) hn)) h

theorem ev_softwareCell (n : Nat) (cell : Nat) (w0 : Nat) (s : State) :
    Evolves 265845599156983231249159206491812006411 s (softwareCell n cell w0 s) := by
  unfold softwareCell
  with_reducible repeat'
    first
    | apply Evolves.refl | apply Evolves.step (ev_refuseWrite ..) | apply Evolves.step (ev_placeFixed ..)
    | apply Evolves.step (ev_setVerdict ..) | apply Evolves.step (ev_storeCell ..) | apply Evolves.onlyIf
    | apply Evolves.ite | split | dsimp only | decide | rfl | intro _

theorem ev_cellDataWrite (n : Nat) (w : Nat) (s : State) :
    Evolves 265845599156983231249159206491812006411 s (cellDataWrite n w s) := by
  unfold cellDataWrite
  with_reducible repeat'
    first
    | apply Evolves.refl | apply Evolves.step (ev_encReject ..) | apply Evolves.step (ev_softwareCell ..)
    | apply Evolves.step (ev_State_setGrant ..) | apply Evolves.advanceWord | apply Evolves.ite | split | dsimp only
    | decide | rfl | intro _

theorem ev_execCellDataWrite (n : Fin 48) (w : Word) (s : State) :
    OutEvolves 265845599156983231249159206491812006411 s (execCellDataWrite n w s) := by
  unfold execCellDataWrite
  with_reducible repeat'
    first
    | apply Evolves.refl | apply OutEvolves.onIsland | apply Evolves.step (ev_cellDataWrite ..) | dsimp only | decide
    | rfl | intro _

theorem ev_witCfgWrite (n : Nat) (long : Bool) (given : Nat) (s : State) :
    Evolves 265845599156983193470227343534650296843 s (witCfgWrite n long given s) := by
  unfold witCfgWrite
  with_reducible repeat'
    first
    | apply Evolves.refl | apply Evolves.step (ev_encReject ..) | apply Evolves.step (ev_refuseWrite ..)
    | apply Evolves.step (ev_mirrorWord ..) | apply Evolves.wr | apply Evolves.onlyIf | apply Evolves.ite | split
    | dsimp only | decide | rfl | intro _

theorem ev_execWitCfgWrite (n : Fin 48) (long : Bool) (start : BitVec 17) (s : State) :
    OutEvolves 265845599156983193470227343534650296843 s (execWitCfgWrite n long start s) := by
  unfold execWitCfgWrite
  with_reducible repeat'
    first
    | apply Evolves.refl | apply OutEvolves.onIsland | apply Evolves.step (ev_witCfgWrite ..) | dsimp only | decide
    | rfl | intro _

theorem ev_allocCommit (n : Nat) (w : Nat) (s : State) :
    Evolves 255211775190703942044860612966730435083 s (allocCommit n w s) := by
  unfold allocCommit
  with_reducible repeat'
    first
    | apply Evolves.refl | apply Evolves.step (ev_setVerdict ..) | apply Evolves.step (ev_raise ..)
    | apply Evolves.wrWord | apply Evolves.advanceWord | apply Evolves.ite | split | dsimp only | decide | rfl | intro _

theorem ev_execAllocContextCommit (n : Fin 48) (w : Word) (s : State) :
    OutEvolves 255211775190703942044860612966730435083 s (execAllocContextCommit n w s) := by
  unfold execAllocContextCommit
  with_reducible repeat'
    first
    | apply Evolves.refl | apply OutEvolves.onIsland | apply Evolves.step (ev_allocCommit ..) | dsimp only | decide
    | rfl | intro _

theorem ev_queueReport (n : Nat) (alloc : Nat) (value : Nat) (frame : Nat) (s : State) :
    Evolves 255211775190703866486996887052408586763 s (queueReport n alloc value frame s) := by
  unfold queueReport
  with_reducible repeat'
    first
    | apply Evolves.refl | apply Evolves.step (ev_wrapperAnswer ..) | apply Evolves.step (ev_raise ..)
    | apply Evolves.step (ev_State_setGrant ..) | apply Evolves.step (ev_State_setCluster ..) | apply Evolves.bump
    | apply Evolves.onlyIf | apply Evolves.ite | apply Evolves.ofPair ‹_› | apply Evolves.ofTriple ‹_› | split
    | dsimp only | decide | rfl | intro _

theorem ev_execSelectionSend (n : Fin 48) (s : State) : OutEvolves 532992 s (execSelectionSend n s) := by
  unfold execSelectionSend
  with_reducible repeat'
    first
    | apply Evolves.refl | apply OutEvolves.onIsland | apply Evolves.step (ev_State_setGrant ..)
    | apply Evolves.step (ev_wrapperAnswer ..) | apply Evolves.ite | apply Evolves.ofPair ‹_›
    | apply Evolves.ofTriple ‹_› | split | dsimp only | decide | rfl | intro _ | apply Evolves.upd_lanes

end Sys2Proof.Machine
end

