-- ==== Sys2Proof/Laws/EvLanes.lean ====
section
/-!
SUPPORT. What the operations of Machine/Lanes.lean may touch (Safety.lean, Evolves).
-/

namespace Sys2Proof.Machine

set_option Elab.async false
set_option linter.all false

theorem ev_State_setLane (s : State) (n : Nat) (x : Lane) : Evolves 8192 s (State.setLane s n x) := by
  unfold State.setLane
  with_reducible repeat'
    first
    | apply Evolves.refl | dsimp only | decide | rfl | intro _ | apply Evolves.upd_lanes

theorem ev_State_setTerm (s : State) (n : Nat) (t : Nat) (x : TermX) : Evolves 262144 s (State.setTerm s n t x) := by
  unfold State.setTerm
  with_reducible repeat'
    first
    | apply Evolves.refl | dsimp only | decide | rfl | intro _ | apply Evolves.upd_terms

theorem ev_cutFrame (n : Nat) (s : State) : Evolves 16384 s (cutFrame n s) := by
  unfold cutFrame
  with_reducible repeat'
    first
    | apply Evolves.refl | apply Evolves.step (ev_State_setFram ..) | dsimp only | decide | rfl | intro _

theorem ev_startExit (n : Nat) (s : State) : Evolves 36893488147419111425 s (startExit n s) := by
  unfold startExit
  with_reducible repeat'
    first
    | apply Evolves.refl | apply Evolves.step (ev_State_setLane ..) | apply Evolves.wr | apply Evolves.ite | split
    | dsimp only | decide | rfl | intro _

theorem ev_txModeRun (n : Nat) (s : State) : Evolves 36893488147419111425 s (txModeRun n s) := by
  unfold txModeRun
  with_reducible repeat'
    first
    | apply Evolves.refl | apply Evolves.step (ev_startExit ..) | apply Evolves.wr | apply Evolves.ite | split
    | dsimp only | decide | rfl | intro _

theorem ev_execTxModeRun (n : Fin 48) (s : State) : OutEvolves 36893488147419111937 s (execTxModeRun n s) := by
  unfold execTxModeRun
  with_reducible repeat'
    first
    | apply Evolves.refl | apply OutEvolves.onIsland | apply Evolves.step (ev_txModeRun ..) | dsimp only | decide | rfl
    | intro _

theorem ev_execTxExitComplete (n : Fin 48) (s : State) :
    OutEvolves 255211775190703847634424443721513697915 s (execTxExitComplete n s) := by
  unfold execTxExitComplete
  with_reducible repeat'
    first
    | apply Evolves.refl | apply OutEvolves.onIsland | apply Evolves.step (ev_raise ..)
    | apply Evolves.step (ev_passTo ..) | apply Evolves.wr | apply Evolves.ite | split | dsimp only | decide | rfl
    | intro _

theorem ev_txModeIdle (n : Nat) (s : State) : Evolves 36893488147419119617 s (txModeIdle n s) := by
  unfold txModeIdle
  with_reducible repeat'
    first
    | apply Evolves.refl | apply Evolves.step (ev_cutFrame ..) | apply Evolves.wr | dsimp only | decide | rfl | intro _

theorem ev_execTxModeIdle (n : Fin 48) (s : State) : OutEvolves 36893488147419120129 s (execTxModeIdle n s) := by
  unfold execTxModeIdle
  with_reducible repeat'
    first
    | apply Evolves.refl | apply OutEvolves.onIsland | apply Evolves.step (ev_txModeIdle ..) | dsimp only | decide | rfl
    | intro _

theorem ev_txdisForceWrite (n : Nat) (v : Nat) (s : State) :
    Evolves 265845599156983174617654900203488021003 s (txdisForceWrite n v s) := by
  unfold txdisForceWrite
  with_reducible repeat'
    first
    | apply Evolves.refl | apply Evolves.step (ev_encReject ..) | apply Evolves.step (ev_refuseWrite ..)
    | apply Evolves.wr | apply Evolves.ite | split | dsimp only | decide | rfl | intro _

theorem ev_execTxdisForceWrite (n : Fin 48) (v : BitVec 2) (s : State) :
    OutEvolves 265845599156983174617654900203488021003 s (execTxdisForceWrite n v s) := by
  unfold execTxdisForceWrite
  with_reducible repeat'
    first
    | apply Evolves.refl | apply OutEvolves.onIsland | apply Evolves.guarded
    | apply Evolves.step (ev_txdisForceWrite ..) | dsimp only | decide | rfl | intro _

theorem ev_presetAdvance (n : Nat) (s : State) : Evolves 36893488147419103233 s (presetAdvance n s) := by
  unfold presetAdvance
  with_reducible repeat'
    first
    | apply Evolves.refl | apply Evolves.wr | apply Evolves.onlyIf | dsimp only | decide | rfl | intro _

theorem ev_presetWrite (n : Nat) (x : Nat) (w : Nat) (s : State) :
    Evolves 18446744073709551617 s (presetWrite n x w s) := by
  unfold presetWrite
  with_reducible repeat'
    first
    | apply Evolves.refl | apply Evolves.wrx | dsimp only | decide | rfl | intro _

theorem ev_execPresetDataAccess (n : Fin 48) (w : Option Word) (s : State) :
    OutEvolves 55340232221128657409 s (execPresetDataAccess n w s) := by
  unfold execPresetDataAccess
  with_reducible repeat'
    first
    | apply Evolves.refl | apply OutEvolves.onIsland | apply Evolves.step (ev_presetWrite ..)
    | apply Evolves.step (ev_setRead ..) | apply Evolves.step (ev_presetAdvance ..) | apply Evolves.ofPair ‹_›
    | apply Evolves.ofTriple ‹_› | split | dsimp only | decide | rfl | intro _

theorem ev_noteSd (n : Nat) (s : State) : Evolves 8192 s (noteSd n s) := by
  unfold noteSd
  with_reducible repeat'
    first
    | apply Evolves.refl | apply Evolves.step (ev_State_setLane ..) | apply Evolves.onlyIf | apply Evolves.ofPair ‹_›
    | apply Evolves.ofTriple ‹_› | split | dsimp only | decide | rfl | intro _

theorem ev_openWindow (n : Nat) (w : Win) (s : State) : Evolves 24576 s (openWindow n w s) := by
  unfold openWindow
  with_reducible repeat'
    first
    | apply Evolves.refl | apply Evolves.step (ev_noteSd ..) | apply Evolves.step (ev_State_setFram ..)
    | apply Evolves.step (ev_State_setLane ..) | apply Evolves.ite | split | dsimp only | decide | rfl | intro _

theorem ev_loadSelection (n : Nat) (s : State) : Evolves 24576 s (loadSelection n s) := by
  unfold loadSelection
  with_reducible repeat'
    first
    | apply Evolves.refl | apply Evolves.step (ev_openWindow ..) | apply Evolves.step (ev_State_setLane ..)
    | apply Evolves.ofPair ‹_› | apply Evolves.ofTriple ‹_› | split | dsimp only | decide | rfl | intro _

theorem ev_execPresetSelection (n : Fin 48) (lead : Int) (s : State) :
    OutEvolves 255211775190703847634424443721245286923 s (execPresetSelection n lead s) := by
  unfold execPresetSelection
  with_reducible repeat'
    first
    | apply Evolves.refl | apply OutEvolves.onIsland | apply Evolves.step (ev_State_setLane ..)
    | apply Evolves.step (ev_raise ..) | apply Evolves.step (ev_loadSelection ..) | apply Evolves.bump
    | apply Evolves.ite | apply Evolves.ofPair ‹_› | apply Evolves.ofTriple ‹_› | split | dsimp only | decide | rfl
    | intro _

theorem ev_execSelectionLoad (n : Fin 48) (s : State) : OutEvolves 25088 s (execSelectionLoad n s) := by
  unfold execSelectionLoad
  with_reducible repeat'
    first
    | apply Evolves.refl | apply OutEvolves.onIsland | apply Evolves.step (ev_loadSelection ..) | dsimp only | decide
    | rfl | intro _

theorem ev_strobePulse (n : Nat) (next : Option Nat) (s : State) :
    Evolves 255211775190703847634424443721245270539 s (strobePulse n next s) := by
  unfold strobePulse
  with_reducible repeat'
    first
    | apply Evolves.refl | apply Evolves.step (ev_raise ..) | apply Evolves.step (ev_State_setLane ..)
    | apply Evolves.bump | apply Evolves.ite | apply Evolves.ofPair ‹_› | apply Evolves.ofTriple ‹_› | split
    | dsimp only | decide | rfl | intro _

theorem ev_noteLearned (n : Nat) (w : Win) (v : Bool) (s : State) : Evolves 262144 s (noteLearned n w v s) := by
  unfold noteLearned
  with_reducible repeat'
    first
    | apply Evolves.refl | apply Evolves.step (ev_State_setTerm ..) | apply Evolves.onlyIf | dsimp only | decide | rfl
    | intro _

theorem ev_presetLearn (n : Nat) (w : Win) (phase : Nat) (beaten : Bool) (s : State) :
    Evolves 255211775190703847652871187794955084299 s (presetLearn n w phase beaten s) := by
  unfold presetLearn
  with_reducible repeat'
    first
    | apply Evolves.refl | apply Evolves.step (ev_noteLearned ..) | apply Evolves.step (ev_raise ..)
    | apply Evolves.step (ev_State_setLane ..) | apply Evolves.bump | apply Evolves.wrx | apply Evolves.onlyIf
    | apply Evolves.ite | split | dsimp only | decide | rfl | intro _

theorem ev_windowClose (n : Nat) (seen : CloseSeen) (beaten : Bool) (next : Option Nat) (s : State) :
    Evolves 255211775190703847652871187794955084299 s (windowClose n seen beaten next s) := by
  unfold windowClose
  with_reducible repeat'
    first
    | apply Evolves.refl | apply Evolves.step (ev_strobePulse ..) | apply Evolves.step (ev_presetLearn ..)
    | apply Evolves.step (ev_State_setLane ..) | apply Evolves.ofPair ‹_› | apply Evolves.ofTriple ‹_› | split
    | dsimp only | decide | rfl | intro _

theorem ev_execWindowClose (n : Fin 48) (seen : CloseSeen) (beaten : Bool) (next : Option Nat) (s : State) :
    OutEvolves 255211775190703847652871187794955084299 s (execWindowClose n seen beaten next s) := by
  unfold execWindowClose
  with_reducible repeat'
    first
    | apply Evolves.refl | apply OutEvolves.onIsland | apply Evolves.step (ev_windowClose ..) | dsimp only | decide
    | rfl | intro _

theorem ev_execLockDeclared (n : Fin 48) (ui : BitVec 16) (s : State) :
    OutEvolves 255211775190703847634424443721245270539 s (execLockDeclared n ui s) := by
  unfold execLockDeclared
  with_reducible repeat'
    first
    | apply Evolves.refl | apply OutEvolves.onIsland | apply Evolves.step (ev_State_setLane ..)
    | apply Evolves.step (ev_raise ..) | apply Evolves.wr | apply Evolves.ite | apply Evolves.ofPair ‹_›
    | apply Evolves.ofTriple ‹_› | split | dsimp only | decide | rfl | intro _

theorem ev_execLolDeclare (n : Fin 48) (s : State) :
    OutEvolves 255211775190703847634424443721245262347 s (execLolDeclare n s) := by
  unfold execLolDeclare
  with_reducible repeat'
    first
    | apply Evolves.refl | apply OutEvolves.onIsland | apply Evolves.step (ev_raise ..) | apply Evolves.wr
    | apply Evolves.ite | split | dsimp only | decide | rfl | intro _

theorem ev_execLolClear (n : Fin 48) (s : State) :
    OutEvolves 255211775190703847634424443721245262347 s (execLolClear n s) := by
  unfold execLolClear
  with_reducible repeat'
    first
    | apply Evolves.refl | apply OutEvolves.onIsland | apply Evolves.step (ev_raise ..) | apply Evolves.wr
    | apply Evolves.ite | split | dsimp only | decide | rfl | intro _

theorem ev_losDeclare (n : Nat) (s : State) : Evolves 255211775190703847634424443721245262347 s (losDeclare n s) := by
  unfold losDeclare
  with_reducible repeat'
    first
    | apply Evolves.refl | apply Evolves.step (ev_raise ..) | apply Evolves.bump | apply Evolves.wr | apply Evolves.ite
    | split | dsimp only | decide | rfl | intro _

theorem ev_execLosDeclare (n : Fin 48) (s : State) :
    OutEvolves 255211775190703847634424443721245262347 s (execLosDeclare n s) := by
  unfold execLosDeclare
  with_reducible repeat'
    first
    | apply Evolves.refl | apply OutEvolves.onIsland | apply Evolves.step (ev_losDeclare ..) | apply Evolves.ite | split
    | dsimp only | decide | rfl | intro _

theorem ev_execModulePresenceChange (n : Fin 48) (present : Bool) (s : State) :
    OutEvolves 255211775190703847634424443721245262347 s (execModulePresenceChange n present s) := by
  unfold execModulePresenceChange
  with_reducible repeat'
    first
    | apply Evolves.refl | apply OutEvolves.onIsland | apply Evolves.step (ev_raise ..)
    | apply Evolves.step (ev_losDeclare ..) | apply Evolves.wr | apply Evolves.ite | split | dsimp only | decide | rfl
    | intro _

theorem ev_execTreeSdChange (n : Fin 48) (level : Bool) (samples : Nat) (s : State) :
    OutEvolves 36893488147419111945 s (execTreeSdChange n level samples s) := by
  unfold execTreeSdChange
  with_reducible repeat'
    first
    | apply Evolves.refl | apply OutEvolves.onIsland | apply Evolves.step (ev_State_setLane ..)
    | apply Evolves.step (ev_noteSd ..) | apply Evolves.bump | apply Evolves.wr | apply Evolves.ite | split | dsimp only
    | decide | rfl | intro _

theorem ev_execChatterDeclare (n : Fin 48) (s : State) :
    OutEvolves 255211775190703847634424443721245262347 s (execChatterDeclare n s) := by
  unfold execChatterDeclare
  with_reducible repeat'
    first
    | apply Evolves.refl | apply OutEvolves.onIsland | apply Evolves.step (ev_raise ..) | apply Evolves.wr
    | apply Evolves.ite | split | dsimp only | decide | rfl | intro _

theorem ev_execChatterClear (n : Fin 48) (s : State) : OutEvolves 36893488147687539321 s (execChatterClear n s) := by
  unfold execChatterClear
  with_reducible repeat'
    first
    | apply Evolves.refl | apply OutEvolves.onIsland | apply Evolves.step (ev_passTo ..) | apply Evolves.wr
    | apply Evolves.ite | split | dsimp only | decide | rfl | intro _

theorem ev_testSlip (n : Nat) (s : State) : Evolves 255211775190703847597530955573826169354 s (testSlip n s) := by
  unfold testSlip
  with_reducible repeat'
    first
    | apply Evolves.refl | apply Evolves.step (ev_refuseWrite ..) | apply Evolves.step (ev_State_setLane ..)
    | apply Evolves.ite | split | dsimp only | decide | rfl | intro _

theorem ev_execTestSlip (n : Fin 48) (s : State) :
    OutEvolves 255211775190703847597530955573826169354 s (execTestSlip n s) := by
  unfold execTestSlip
  with_reducible repeat'
    first
    | apply Evolves.refl | apply OutEvolves.onIsland | apply Evolves.step (ev_testSlip ..) | dsimp only | decide | rfl
    | intro _

theorem Evolves.patternGained {m : Nat} {s t : State} {mode lock : Fld} {i src bit : Nat} (h : Evolves m s t)
    (hm : (wordMask lock.sp ||| 255211775190703847597530955573826159114) ||| m = m := by decide) : Evolves m s (patternGained mode lock i src bit t) := by
  have hr : 255211775190703847597530955573826159114 ||| m = m := Mask.orr hm
  have h1 : wordMask lock.sp ||| m = m := Mask.orl hm
  unfold Machine.patternGained
  split
  · exact Evolves.step (ev_raise ..) (.wr h h1) hr
  · exact h

theorem Evolves.patternErrors {m : Nat} {s t : State} {errs lock : Fld} {i src bit : Nat} {e : PrbsErrors} (h : Evolves m s t)
    (hm : (wordMask errs.sp ||| (wordMask lock.sp ||| 255211775190703847597530955573826159114)) ||| m = m := by decide) :
    Evolves m s (patternErrors errs lock i src bit e t) := by
  have h2 : (wordMask lock.sp ||| 255211775190703847597530955573826159114) ||| m = m := Mask.orr hm
  have hr : 255211775190703847597530955573826159114 ||| m = m := Mask.orr h2
  have h1 : wordMask lock.sp ||| m = m := Mask.orl h2
  unfold Machine.patternErrors
  split
  · exact .onlyIf (fun x => Evolves.step (ev_raise ..) (.wr (.refl x) h1) hr) (.wr h (Mask.orl hm))
  · exact h

theorem ev_prbsGain (at_ : PrbsAt) (s : State) :
    Evolves 255212424227811164487878010033286414859 s (prbsGain at_ s) := by
  unfold prbsGain
  with_reducible repeat'
    first
    | apply Evolves.refl | apply Evolves.patternGained | apply Evolves.ofPair ‹_› | apply Evolves.ofTriple ‹_› | split
    | dsimp only | decide | rfl | intro _

theorem ev_execPrbsLockGain (at_ : PrbsAt) (s : State) :
    OutEvolves 255212424227811164487878010033286414859 s (execPrbsLockGain at_ s) := by
  unfold execPrbsLockGain
  with_reducible repeat'
    first
    | apply Evolves.refl | apply OutEvolves.onIsland | apply Evolves.step (ev_prbsGain ..) | dsimp only | decide | rfl
    | intro _

theorem ev_prbsLoss (at_ : PrbsAt) (e : PrbsErrors) (s : State) :
    Evolves 255212424227811164487878010033286414859 s (prbsLoss at_ e s) := by
  unfold prbsLoss
  with_reducible repeat'
    first
    | apply Evolves.refl | apply Evolves.patternErrors | apply Evolves.ofPair ‹_› | apply Evolves.ofTriple ‹_› | split
    | dsimp only | decide | rfl | intro _

theorem ev_execPrbsLockLoss (at_ : PrbsAt) (errs : PrbsErrors) (s : State) :
    OutEvolves 255212424227811164487878010033286414859 s (execPrbsLockLoss at_ errs s) := by
  unfold execPrbsLockLoss
  with_reducible repeat'
    first
    | apply Evolves.refl | apply OutEvolves.onIsland | apply Evolves.step (ev_prbsLoss ..) | dsimp only | decide | rfl
    | intro _

end Sys2Proof.Machine
end

