-- ==== Sys2Proof/Laws/EvActivation.lean ====
section
/-!
SUPPORT. What the operations of Machine/Activation.lean may touch (Safety.lean, Evolves).
-/

namespace Sys2Proof.Machine

set_option Elab.async false
set_option linter.all false

theorem ev_State_setAct (s : State) (n : Nat) (x : Act) : Evolves 131072 s (State.setAct s n x) := by
  unfold State.setAct
  with_reducible repeat'
    first
    | apply Evolves.refl | dsimp only | decide | rfl | intro _ | apply Evolves.upd_act

theorem OutEvolves.onAct {m : Nat} {s t : State} {n : Nat} {f : State → State} (hf : ∀ x, Evolves m x (f x))
    (h : Evolves m s t) (hm : 512 ||| m = m := by decide) : OutEvolves m s (onAct n t f) := by
  have hm' : ∀ k, k ||| 512 = 512 → k ||| m = m := fun k hk => by rw [← hm, ← Nat.or_assoc, hk]
  unfold Machine.onAct
  with_reducible repeat'
    first
    | exact h | exact hm' _ (by decide) | apply OutEvolves.onIsland | apply Evolves.trans (h := hf _)
    | apply Evolves.refl | apply Evolves.ite | apply Evolves.ofPair ‹_› | apply Evolves.ofTriple ‹_› | split
    | dsimp only | decide | rfl | intro _

theorem ev_sendRecord (n : Nat) (t : Nat) (s : State) : Evolves 1049088 s (sendRecord n t s) := by
  unfold sendRecord
  with_reducible repeat'
    first
    | apply Evolves.refl | apply Evolves.step (ev_pushActRec ..) | dsimp only | decide | rfl | intro _

theorem ev_sendRequest (n : Nat) (e : Nat) (s : State) : Evolves 1049088 s (sendRequest n e s) := by
  unfold sendRequest
  with_reducible repeat'
    first
    | apply Evolves.refl | apply Evolves.step (ev_pushActRec ..) | dsimp only | decide | rfl | intro _

theorem ev_rangingBegins (n : Nat) (t : Nat) (k : Nat) (s : State) : Evolves 262144 s (rangingBegins n t k s) := by
  unfold rangingBegins
  with_reducible repeat'
    first
    | apply Evolves.refl | apply Evolves.step (ev_State_setTerm ..) | dsimp only | decide | rfl | intro _

theorem ev_queueHigh (n : Nat) (m : Ploam) (s : State) : Evolves 131072 s (queueHigh n m s) := by
  unfold queueHigh
  with_reducible repeat'
    first
    | apply Evolves.refl | apply Evolves.step (ev_State_setAct ..) | apply Evolves.ite | split | dsimp only | decide
    | rfl | intro _

theorem ev_queueNormal (n : Nat) (m : Ploam) (s : State) :
    Evolves 255211775190703849958714197008648897035 s (queueNormal n m s).2 := by
  unfold queueNormal
  with_reducible repeat'
    first
    | apply Evolves.refl | apply Evolves.step (ev_State_setAct ..) | apply Evolves.step (ev_raise ..)
    | apply Evolves.bump | apply Evolves.ite | split | dsimp only | decide | rfl | intro _

theorem ev_queueBody (n : Nat) (body : List Byte) (s : State) :
    Evolves 255211775190703849958714197008648897035 s (queueBody n body s).2 := by
  unfold queueBody
  with_reducible repeat'
    first
    | apply Evolves.refl | apply Evolves.step (ev_queueNormal ..) | apply Evolves.step (ev_State_setAct ..)
    | apply Evolves.ite | split | dsimp only | decide | rfl | intro _

theorem ev_actPreset (n : Nat) (t : Nat) (w : Nat) (s : State) :
    Evolves 18446744073709552129 s (actPreset n t w s) := by
  unfold actPreset
  with_reducible repeat'
    first
    | apply Evolves.refl | apply Evolves.step (ev_presetWrite ..) | apply Evolves.step (ev_wrapperAnswer ..)
    | apply Evolves.ite | split | dsimp only | decide | rfl | intro _

theorem ev_presetClear (n : Nat) (t : Nat) (s : State) : Evolves 18446744073709552129 s (presetClear n t s) := by
  unfold presetClear
  with_reducible repeat'
    first
    | apply Evolves.refl | apply Evolves.step (ev_actPreset ..) | dsimp only | decide | rfl | intro _

theorem ev_presetPeak (n : Nat) (t : Nat) (valid : Nat) (peak : Nat) (s : State) :
    Evolves 18446744073709552129 s (presetPeak n t valid peak s) := by
  unfold presetPeak
  with_reducible repeat'
    first
    | apply Evolves.refl | apply Evolves.step (ev_actPreset ..) | dsimp only | decide | rfl | intro _

theorem ev_clearBrood (n : Nat) (e : Option Nat) (s : State) : Evolves 9444732965739290427393 s (clearBrood n e s) := by
  unfold clearBrood
  with_reducible repeat'
    first
    | apply Evolves.refl | apply Evolves.wrWord | apply Evolves.ofPair ‹_› | apply Evolves.ofTriple ‹_› | split
    | dsimp only | decide | rfl | intro _

theorem ev_freeBrood (n : Nat) (t : Nat) (s : State) : Evolves 14167099448608935641089 s (freeBrood n t s) := by
  unfold freeBrood
  with_reducible repeat'
    first
    | apply Evolves.refl | apply Evolves.step (ev_clearBrood ..) | apply Evolves.wrx | dsimp only | decide | rfl
    | intro _

theorem ev_takeBrood (n : Nat) (t : Nat) (e : Nat) (vendor : Nat) (vssn : Nat) (phase : Nat) (rtd : Nat) (s : State) :
    Evolves 14167099448608935641089 s (takeBrood n t e vendor vssn phase rtd s) := by
  unfold takeBrood
  with_reducible repeat'
    first
    | apply Evolves.refl | apply Evolves.wrx | apply Evolves.wrWord | dsimp only | decide | rfl | intro _

theorem ev_enterState (n : Nat) (t : Nat) (st : Nat) (s : State) :
    Evolves 14185546192682646503937 s (enterState n t st s) := by
  unfold enterState
  with_reducible repeat'
    first
    | apply Evolves.refl | apply Evolves.step (ev_State_setTerm ..) | apply Evolves.step (ev_freeBrood ..)
    | apply Evolves.step (ev_presetClear ..) | apply Evolves.step (ev_sendRecord ..) | apply Evolves.wrx
    | apply Evolves.ite | split | dsimp only | decide | rfl | intro _

theorem ev_deactivate (n : Nat) (t : Nat) (s : State) :
    Evolves 255211775190703864144260389691294351883 s (deactivate n t s) := by
  unfold deactivate
  with_reducible repeat'
    first
    | apply Evolves.refl | apply Evolves.step (ev_queueHigh ..) | apply Evolves.step (ev_raise ..)
    | apply Evolves.step (ev_freeBrood ..) | apply Evolves.step (ev_presetClear ..)
    | apply Evolves.step (ev_State_setTerm ..) | apply Evolves.bump | apply Evolves.wrx | apply Evolves.ite | split
    | dsimp only | decide | rfl | intro _

theorem ev_refuseReach (n : Nat) (t : Nat) (s : State) :
    Evolves 255211775190703864144260389691294351883 s (refuseReach n t s) := by
  unfold refuseReach
  with_reducible repeat'
    first
    | apply Evolves.refl | apply Evolves.step (ev_deactivate ..) | apply Evolves.step (ev_raise ..) | apply Evolves.bump
    | dsimp only | decide | rfl | intro _

theorem ev_trialStep (n : Nat) (t : Nat) (s : State) :
    Evolves 255211775190703852338344182517182235147 s (trialStep n t s) := by
  unfold trialStep
  with_reducible repeat'
    first
    | apply Evolves.refl | apply Evolves.step (ev_presetPeak ..) | apply Evolves.step (ev_sendRecord ..)
    | apply Evolves.step (ev_raise ..) | apply Evolves.step (ev_State_setTerm ..) | apply Evolves.wrx
    | apply Evolves.ofPair ‹_› | apply Evolves.ofTriple ‹_› | split | dsimp only | decide | rfl | intro _

theorem ev_trialScore (n : Nat) (t : Nat) (score : Nat) (s : State) :
    Evolves 255211775190703852338344182517182235147 s (trialScore n t score s) := by
  unfold trialScore
  with_reducible repeat'
    first
    | apply Evolves.refl | apply Evolves.step (ev_trialStep ..) | apply Evolves.step (ev_State_setTerm ..)
    | apply Evolves.ofPair ‹_› | apply Evolves.ofTriple ‹_› | split | dsimp only | decide | rfl | intro _

theorem ev_dropBurst (n : Nat) (s : State) : Evolves 255211775190703852338344182517182251531 s (dropBurst n s) := by
  unfold dropBurst
  with_reducible repeat'
    first
    | apply Evolves.refl | apply Evolves.step (ev_trialScore ..) | apply Evolves.step (ev_State_setFram ..)
    | apply Evolves.onlyIf | apply Evolves.ofPair ‹_› | apply Evolves.ofTriple ‹_› | split | dsimp only | decide | rfl
    | intro _

theorem ev_lockBad (n : Nat) (w : Win) (s : State) :
    Evolves 255211775190703852375237670664601362955 s (lockBad n w s) := by
  unfold lockBad
  with_reducible repeat'
    first
    | apply Evolves.refl | apply Evolves.step (ev_dropBurst ..) | apply Evolves.step (ev_State_setLane ..)
    | apply Evolves.bump | apply Evolves.onlyIf | dsimp only | decide | rfl | intro _

theorem ev_execLockFail (n : Fin 48) (s : State) :
    OutEvolves 255211775190703852375237670664601362955 s (execLockFail n s) := by
  unfold execLockFail
  with_reducible repeat'
    first
    | apply Evolves.refl | apply OutEvolves.onIsland | apply Evolves.step (ev_lockBad ..)
    | apply Evolves.step (ev_State_setLane ..) | apply Evolves.ite | apply Evolves.ofPair ‹_›
    | apply Evolves.ofTriple ‹_› | split | dsimp only | decide | rfl | intro _

theorem ev_execLockLost (n : Fin 48) (s : State) :
    OutEvolves 255211775190703852375237670664601362955 s (execLockLost n s) := by
  unfold execLockLost
  with_reducible repeat'
    first
    | apply Evolves.refl | apply OutEvolves.onIsland | apply Evolves.step (ev_lockBad ..) | apply Evolves.ite
    | apply Evolves.ofPair ‹_› | apply Evolves.ofTriple ‹_› | split | dsimp only | decide | rfl | intro _

theorem ev_testModeWrite (n : Nat) (mode : Nat) (pattern : Nat) (s : State) :
    Evolves 265845599156983179358468127146844121611 s (testModeWrite n mode pattern s) := by
  unfold testModeWrite
  with_reducible repeat'
    first
    | apply Evolves.refl | apply Evolves.step (ev_encReject ..) | apply Evolves.step (ev_cutFrame ..)
    | apply Evolves.step (ev_dropBurst ..) | apply Evolves.step (ev_State_setLane ..) | apply Evolves.wr
    | apply Evolves.onlyIf | apply Evolves.ite | split | dsimp only | decide | rfl | intro _

theorem ev_execTestModeWrite (n : Fin 48) (mode : BitVec 3) (pattern : BitVec 2) (s : State) :
    OutEvolves 265845599156983179358468127146844121611 s (execTestModeWrite n mode pattern s) := by
  unfold execTestModeWrite
  with_reducible repeat'
    first
    | apply Evolves.refl | apply OutEvolves.onIsland | apply Evolves.step (ev_testModeWrite ..) | dsimp only | decide
    | rfl | intro _

theorem ev_rangingDone (n : Nat) (t : Nat) (s : State) :
    Evolves 255211775190703864144260389691295269387 s (rangingDone n t s) := by
  unfold rangingDone
  with_reducible repeat'
    first
    | apply Evolves.refl | apply Evolves.step (ev_raise ..) | apply Evolves.step (ev_freeBrood ..)
    | apply Evolves.step (ev_trialStep ..) | apply Evolves.step (ev_enterState ..)
    | apply Evolves.step (ev_State_setTerm ..) | apply Evolves.step (ev_presetPeak ..) | apply Evolves.bump
    | apply Evolves.wrx | apply Evolves.ite | split | dsimp only | decide | rfl | intro _

theorem ev_ploamSent (n : Nat) (k : Nat) (m : Ploam) (s : State) :
    Evolves 255211775190703864144260389691295269387 s (ploamSent n k m s) := by
  unfold ploamSent
  with_reducible repeat'
    first
    | apply Evolves.refl | apply Evolves.step (ev_rangingBegins ..) | apply Evolves.step (ev_rangingDone ..)
    | apply Evolves.step (ev_raise ..) | apply Evolves.step (ev_State_setTerm ..)
    | apply Evolves.step (ev_enterState ..) | apply Evolves.wrx | apply Evolves.allOf | apply Evolves.ite
    | apply Evolves.ofPair ‹_› | apply Evolves.ofTriple ‹_› | split | dsimp only | decide | rfl | intro _

theorem ev_setSmkDis (n : Nat) (v : Nat) (ts : List Nat) (s : State) :
    Evolves 4722366482869646262785 s (setSmkDis n v ts s) := by
  unfold setSmkDis
  with_reducible repeat'
    first
    | apply Evolves.refl | apply Evolves.step (ev_sendRecord ..) | apply Evolves.wrx | apply Evolves.allOf | dsimp only
    | decide | rfl | intro _

theorem ev_smokerSend (n : Nat) (ms : List Ploam) (s : State) : Evolves 131072 s (smokerSend n ms s) := by
  unfold smokerSend
  with_reducible repeat'
    first
    | apply Evolves.refl | apply Evolves.step (ev_State_setAct ..) | dsimp only | decide | rfl | intro _

theorem ev_smokerRestore (n : Nat) (s : State) : Evolves 4722366482869646393857 s (smokerRestore n s) := by
  unfold smokerRestore
  with_reducible repeat'
    first
    | apply Evolves.refl | apply Evolves.step (ev_setSmkDis ..) | apply Evolves.step (ev_smokerSend ..) | dsimp only
    | decide | rfl | intro _

theorem ev_smokerEnd (n : Nat) (code : Nat) (suspect : Nat) (s : State) :
    Evolves 255211775190703849958714197008649421323 s (smokerEnd n code suspect s) := by
  unfold smokerEnd
  with_reducible repeat'
    first
    | apply Evolves.refl | apply Evolves.step (ev_raise ..) | apply Evolves.step (ev_mirrorOut ..)
    | apply Evolves.step (ev_State_setAct ..) | apply Evolves.bump | apply Evolves.ite | split | dsimp only | decide
    | rfl | intro _

theorem ev_smokerNext (n : Nat) (x : Smoker) (s : State) :
    Evolves 255211775190703854681080679878295683595 s (smokerNext n x s) := by
  unfold smokerNext
  with_reducible repeat'
    first
    | apply Evolves.refl | apply Evolves.step (ev_smokerEnd ..) | apply Evolves.step (ev_smokerRestore ..)
    | apply Evolves.step (ev_State_setAct ..) | apply Evolves.step (ev_smokerSend ..)
    | apply Evolves.step (ev_setSmkDis ..) | apply Evolves.ite | apply Evolves.ofPair ‹_› | apply Evolves.ofTriple ‹_›
    | split | dsimp only | decide | rfl | intro _

theorem ev_smokerStart (n : Nat) (crit : Nat) (s : State) :
    Evolves 255211775190703854681080679878295683595 s (smokerStart n crit s) := by
  unfold smokerStart
  with_reducible repeat'
    first
    | apply Evolves.refl | apply Evolves.step (ev_smokerNext ..) | apply Evolves.step (ev_mirrorOut ..)
    | apply Evolves.step (ev_State_setAct ..) | dsimp only | decide | rfl | intro _

theorem ev_smokerQuit (n : Nat) (s : State) : Evolves 4722366482869646918145 s (smokerQuit n s) := by
  unfold smokerQuit
  with_reducible repeat'
    first
    | apply Evolves.refl | apply Evolves.step (ev_smokerRestore ..) | apply Evolves.step (ev_mirrorOut ..)
    | apply Evolves.step (ev_State_setAct ..) | dsimp only | decide | rfl | intro _

theorem ev_smokerJudge (n : Nat) (x : Smoker) (seen : Bool) (s : State) :
    Evolves 255211775190703864144260389691295924747 s (smokerJudge n x seen s) := by
  unfold smokerJudge
  with_reducible repeat'
    first
    | apply Evolves.refl | apply Evolves.step (ev_smokerQuit ..) | apply Evolves.step (ev_smokerEnd ..)
    | apply Evolves.step (ev_enterState ..) | apply Evolves.step (ev_smokerNext ..)
    | apply Evolves.step (ev_smokerRestore ..) | apply Evolves.allOf | apply Evolves.ite | split | dsimp only | decide
    | rfl | intro _

theorem ev_smokerRemove (n : Nat) (t : Nat) (s : State) : Evolves 131072 s (smokerRemove n t s) := by
  unfold smokerRemove
  with_reducible repeat'
    first
    | apply Evolves.refl | apply Evolves.step (ev_State_setAct ..) | apply Evolves.ofPair ‹_›
    | apply Evolves.ofTriple ‹_› | split | dsimp only | decide | rfl | intro _

theorem ev_smokerLastSent (n : Nat) (s : State) : Evolves 131072 s (smokerLastSent n s) := by
  unfold smokerLastSent
  with_reducible repeat'
    first
    | apply Evolves.refl | apply Evolves.step (ev_State_setAct ..) | apply Evolves.ite | apply Evolves.ofPair ‹_›
    | apply Evolves.ofTriple ‹_› | split | dsimp only | decide | rfl | intro _

theorem ev_rogueLatch (n : Nat) (s : State) : Evolves 131072 s (rogueLatch n s) := by
  unfold rogueLatch
  with_reducible repeat'
    first
    | apply Evolves.refl | apply Evolves.step (ev_State_setAct ..) | dsimp only | decide | rfl | intro _

theorem ev_smokerFrame (n : Nat) (s : State) : Evolves 131072 s (smokerFrame n s) := by
  unfold smokerFrame
  with_reducible repeat'
    first
    | apply Evolves.refl | apply Evolves.step (ev_State_setAct ..) | apply Evolves.ite | apply Evolves.ofPair ‹_›
    | apply Evolves.ofTriple ‹_› | split | dsimp only | decide | rfl | intro _

theorem ev_refuseAdmission (n : Nat) (s : State) :
    Evolves 255211775190703849958714197008648765963 s (refuseAdmission n s) := by
  unfold refuseAdmission
  with_reducible repeat'
    first
    | apply Evolves.refl | apply Evolves.step (ev_raise ..) | apply Evolves.bump | dsimp only | decide | rfl | intro _

theorem ev_admitAs (n : Nat) (t : Nat) (e : Nat) (r : SerialResponse) (s : State) :
    Evolves 255211775190703861783077148256472793611 s (admitAs n t e r s) := by
  unfold admitAs
  with_reducible repeat'
    first
    | apply Evolves.refl | apply Evolves.step (ev_raise ..) | apply Evolves.step (ev_queueHigh ..)
    | apply Evolves.step (ev_enterState ..) | apply Evolves.step (ev_takeBrood ..) | apply Evolves.wrx
    | apply Evolves.onlyIf | dsimp only | decide | rfl | intro _

theorem ev_admitTable (n : Nat) (r : SerialResponse) (s : State) :
    Evolves 255211775190703864144260389691295400459 s (admitTable n r s) := by
  unfold admitTable
  with_reducible repeat'
    first
    | apply Evolves.refl | apply Evolves.step (ev_refuseAdmission ..) | apply Evolves.step (ev_raise ..)
    | apply Evolves.step (ev_admitAs ..) | apply Evolves.bump | apply Evolves.ite | apply Evolves.ofPair ‹_›
    | apply Evolves.ofTriple ‹_› | split | dsimp only | decide | rfl | intro _

theorem ev_serialRow (n : Nat) (r : SerialResponse) (ms : List Nat) (s : State) :
    Evolves 255211775190703864144260389691295400459 s (serialRow n r ms s) := by
  unfold serialRow
  with_reducible repeat'
    first
    | apply Evolves.refl | apply Evolves.step (ev_refuseAdmission ..) | apply Evolves.step (ev_admitTable ..)
    | apply Evolves.step (ev_deactivate ..) | apply Evolves.step (ev_raise ..) | apply Evolves.wrx | apply Evolves.ite
    | apply Evolves.ofPair ‹_› | apply Evolves.ofTriple ‹_› | split | dsimp only | decide | rfl | intro _

theorem ev_serialNumberOnu (n : Nat) (r : SerialResponse) (s : State) :
    Evolves 255211775190703864144260389691295400459 s (serialNumberOnu n r s) := by
  unfold serialNumberOnu
  with_reducible repeat'
    first
    | apply Evolves.refl | apply Evolves.step (ev_serialRow ..) | apply Evolves.bump | apply Evolves.ite | split
    | dsimp only | decide | rfl | intro _

theorem ev_execSerialNumberOnu (n : Fin 48) (r : SerialResponse) (s : State) :
    OutEvolves 255211775190703864144260389691295400459 s (execSerialNumberOnu n r s) := by
  unfold execSerialNumberOnu
  with_reducible repeat'
    first
    | apply Evolves.refl | apply OutEvolves.next | apply OutEvolves.onAct | apply Evolves.step (ev_serialNumberOnu ..)
    | dsimp only | decide | rfl | intro _

theorem ev_registration (n : Nat) (t : Nat) (a : Nat) (g : GrantRef) (s : State) :
    Evolves 255211775190703864144260389691294351883 s (registration n t a g s) := by
  unfold registration
  with_reducible repeat'
    first
    | apply Evolves.refl | apply Evolves.step (ev_queueHigh ..) | apply Evolves.step (ev_State_setTerm ..)
    | apply Evolves.step (ev_refuseReach ..) | apply Evolves.wrx | apply Evolves.ite | apply Evolves.ofPair ‹_›
    | apply Evolves.ofTriple ‹_› | split | dsimp only | decide | rfl | intro _

theorem ev_execRegistration (n : Fin 48) (t : BitVec 9) (a : Nat) (start : GrantRef) (s : State) :
    OutEvolves 255211775190703864144260389691294351883 s (execRegistration n t a start s) := by
  unfold execRegistration
  with_reducible repeat'
    first
    | apply Evolves.refl | apply OutEvolves.next | apply OutEvolves.onAct | apply Evolves.step (ev_registration ..)
    | dsimp only | decide | rfl | intro _

theorem ev_rangingTimeout (n : Nat) (t : Nat) (s : State) :
    Evolves 255211775190703864144260389691562787451 s (rangingTimeout n t s) := by
  unfold rangingTimeout
  with_reducible repeat'
    first
    | apply Evolves.refl | apply Evolves.step (ev_passToFrame ..) | apply Evolves.step (ev_deactivate ..)
    | apply Evolves.step (ev_raise ..) | apply Evolves.bump | apply Evolves.ite | apply Evolves.ofPair ‹_›
    | apply Evolves.ofTriple ‹_› | split | dsimp only | decide | rfl | intro _

theorem ev_execRangingTimeout (n : Fin 48) (t : BitVec 9) (s : State) :
    OutEvolves 255211775190703864144260389691562787451 s (execRangingTimeout n t s) := by
  unfold execRangingTimeout
  with_reducible repeat'
    first
    | apply Evolves.refl | apply OutEvolves.next | apply OutEvolves.onAct | apply Evolves.step (ev_rangingTimeout ..)
    | dsimp only | decide | rfl | intro _

theorem ev_countMiss (n : Nat) (t : Nat) (s : State) : Evolves 4722366482869645475841 s (countMiss n t s) := by
  unfold countMiss
  with_reducible repeat'
    first
    | apply Evolves.refl | apply Evolves.step (ev_State_setTerm ..) | apply Evolves.wrx | apply Evolves.ite | split
    | dsimp only | decide | rfl | intro _

theorem ev_lobDeclare (n : Nat) (t : Nat) (s : State) :
    Evolves 255211775190703864144260389691295269387 s (lobDeclare n t s) := by
  unfold lobDeclare
  with_reducible repeat'
    first
    | apply Evolves.refl | apply Evolves.step (ev_raise ..) | apply Evolves.step (ev_enterState ..)
    | apply Evolves.step (ev_State_setTerm ..) | apply Evolves.bump | apply Evolves.ite | split | dsimp only | decide
    | rfl | intro _

theorem ev_execLobDeclare (n : Fin 48) (t : BitVec 9) (s : State) :
    OutEvolves 255211775190703864144260389691295269387 s (execLobDeclare n t s) := by
  unfold execLobDeclare
  with_reducible repeat'
    first
    | apply Evolves.refl | apply OutEvolves.next | apply OutEvolves.onAct | apply Evolves.step (ev_lobDeclare ..)
    | dsimp only | decide | rfl | intro _

theorem ev_lobHoldExpiry (n : Nat) (t : Nat) (s : State) :
    Evolves 255211775190703864144260389691294351883 s (lobHoldExpiry n t s) := by
  unfold lobHoldExpiry
  with_reducible repeat'
    first
    | apply Evolves.refl | apply Evolves.step (ev_deactivate ..) | apply Evolves.ite | split | dsimp only | decide | rfl
    | intro _

theorem ev_execLobHoldExpiry (n : Fin 48) (t : BitVec 9) (s : State) :
    OutEvolves 255211775190703864144260389691294351883 s (execLobHoldExpiry n t s) := by
  unfold execLobHoldExpiry
  with_reducible repeat'
    first
    | apply Evolves.refl | apply OutEvolves.next | apply OutEvolves.onAct | apply Evolves.step (ev_lobHoldExpiry ..)
    | dsimp only | decide | rfl | intro _

theorem ev_burstAccepted (n : Nat) (t : Nat) (s : State) :
    Evolves 255211775190703861783077148256472662539 s (burstAccepted n t s) := by
  unfold burstAccepted
  with_reducible repeat'
    first
    | apply Evolves.refl | apply Evolves.step (ev_State_setTerm ..) | apply Evolves.step (ev_raise ..)
    | apply Evolves.step (ev_enterState ..) | apply Evolves.wrx | apply Evolves.ite | split | dsimp only | decide | rfl
    | intro _

theorem ev_driftStep (n : Nat) (t : Nat) (warn : Nat) (ofs : Int) (s : State) :
    Evolves 255211775190703864144260389691294351883 s (driftStep n t warn ofs s) := by
  unfold driftStep
  with_reducible repeat'
    first
    | apply Evolves.refl | apply Evolves.step (ev_State_setTerm ..) | apply Evolves.step (ev_queueHigh ..)
    | apply Evolves.step (ev_refuseReach ..) | apply Evolves.wrx | apply Evolves.ite | apply Evolves.ofPair ‹_›
    | apply Evolves.ofTriple ‹_› | split | dsimp only | decide | rfl | intro _

theorem ev_dyingGasp (n : Nat) (t : Nat) (s : State) :
    Evolves 255211775190703864144260389691294351883 s (dyingGasp n t s) := by
  unfold dyingGasp
  with_reducible repeat'
    first
    | apply Evolves.refl | apply Evolves.step (ev_deactivate ..) | apply Evolves.step (ev_raise ..) | apply Evolves.wr
    | apply Evolves.onlyIf | apply Evolves.ite | split | dsimp only | decide | rfl | intro _

theorem ev_execDyingGasp (n : Fin 48) (t : BitVec 9) (s : State) :
    OutEvolves 255211775190703864144260389691294351883 s (execDyingGasp n t s) := by
  unfold execDyingGasp
  with_reducible repeat'
    first
    | apply Evolves.refl | apply OutEvolves.next | apply OutEvolves.onAct | apply Evolves.step (ev_dyingGasp ..)
    | dsimp only | decide | rfl | intro _

theorem ev_tcmdDone (n : Nat) (op : Nat) (t : Nat) (err : Nat) (s : State) :
    Evolves 2361183241434822606849 s (tcmdDone n op t err s) := by
  unfold tcmdDone
  with_reducible repeat'
    first
    | apply Evolves.refl | apply Evolves.wr | dsimp only | decide | rfl | intro _

theorem ev_tcmdRefuse (n : Nat) (op : Nat) (t : Nat) (s : State) :
    Evolves 255211775190703849958714197008648768011 s (tcmdRefuse n op t s) := by
  unfold tcmdRefuse
  with_reducible repeat'
    first
    | apply Evolves.refl | apply Evolves.step (ev_refuseCode ..) | apply Evolves.step (ev_raise ..)
    | apply Evolves.step (ev_tcmdDone ..) | dsimp only | decide | rfl | intro _

theorem ev_tcmdDeactivate (n : Nat) (t : Nat) (s : State) :
    Evolves 255211775190703864144260389691294353931 s (tcmdDeactivate n t s) := by
  unfold tcmdDeactivate
  with_reducible repeat'
    first
    | apply Evolves.refl | apply Evolves.step (ev_tcmdRefuse ..) | apply Evolves.step (ev_deactivate ..)
    | apply Evolves.step (ev_smokerRemove ..) | apply Evolves.step (ev_tcmdDone ..) | apply Evolves.ite | split
    | dsimp only | decide | rfl | intro _

theorem ev_tcmdDisable (n : Nat) (t : Nat) (s : State) :
    Evolves 255211775190703849958714197008648899083 s (tcmdDisable n t s) := by
  unfold tcmdDisable
  with_reducible repeat'
    first
    | apply Evolves.refl | apply Evolves.step (ev_tcmdRefuse ..) | apply Evolves.step (ev_queueHigh ..)
    | apply Evolves.step (ev_smokerRemove ..) | apply Evolves.step (ev_tcmdDone ..) | apply Evolves.ite | split
    | dsimp only | decide | rfl | intro _

theorem ev_tcmdEnable (n : Nat) (t : Nat) (s : State) :
    Evolves 255211775190703849958714197008648899083 s (tcmdEnable n t s) := by
  unfold tcmdEnable
  with_reducible repeat'
    first
    | apply Evolves.refl | apply Evolves.step (ev_tcmdRefuse ..) | apply Evolves.step (ev_queueHigh ..)
    | apply Evolves.step (ev_tcmdDone ..) | apply Evolves.ite | split | dsimp only | decide | rfl | intro _

theorem ev_tcmdReRange (n : Nat) (t : Nat) (s : State) :
    Evolves 255211775190703864144260389691295271435 s (tcmdReRange n t s) := by
  unfold tcmdReRange
  with_reducible repeat'
    first
    | apply Evolves.refl | apply Evolves.step (ev_tcmdRefuse ..) | apply Evolves.step (ev_takeBrood ..)
    | apply Evolves.step (ev_tcmdDone ..) | apply Evolves.step (ev_enterState ..)
    | apply Evolves.step (ev_rangingBegins ..) | apply Evolves.step (ev_State_setTerm ..) | apply Evolves.ite
    | apply Evolves.ofPair ‹_› | apply Evolves.ofTriple ‹_› | split | dsimp only | decide | rfl | intro _

theorem ev_tcmdEnableAll (n : Nat) (t : Nat) (s : State) :
    Evolves 255211775190703849958714197008648899083 s (tcmdEnableAll n t s) := by
  unfold tcmdEnableAll
  with_reducible repeat'
    first
    | apply Evolves.refl | apply Evolves.step (ev_tcmdRefuse ..) | apply Evolves.step (ev_queueHigh ..)
    | apply Evolves.step (ev_tcmdDone ..) | apply Evolves.ite | split | dsimp only | decide | rfl | intro _

theorem ev_execTcmdDeactivate (n : Fin 48) (t : BitVec 9) (s : State) :
    OutEvolves 255211775190703864144260389691294353931 s (execTcmdDeactivate n t s) := by
  unfold execTcmdDeactivate
  with_reducible repeat'
    first
    | apply Evolves.refl | apply OutEvolves.onIsland | apply Evolves.step (ev_tcmdDeactivate ..) | dsimp only | decide
    | rfl | intro _

theorem ev_execTcmdDisable (n : Fin 48) (t : BitVec 9) (s : State) :
    OutEvolves 255211775190703849958714197008648899083 s (execTcmdDisable n t s) := by
  unfold execTcmdDisable
  with_reducible repeat'
    first
    | apply Evolves.refl | apply OutEvolves.onIsland | apply Evolves.step (ev_tcmdDisable ..) | dsimp only | decide
    | rfl | intro _

theorem ev_execTcmdEnable (n : Fin 48) (t : BitVec 9) (s : State) :
    OutEvolves 255211775190703849958714197008648899083 s (execTcmdEnable n t s) := by
  unfold execTcmdEnable
  with_reducible repeat'
    first
    | apply Evolves.refl | apply OutEvolves.onIsland | apply Evolves.step (ev_tcmdEnable ..) | dsimp only | decide | rfl
    | intro _

theorem ev_execTcmdReRange (n : Fin 48) (t : BitVec 9) (s : State) :
    OutEvolves 255211775190703864144260389691295271435 s (execTcmdReRange n t s) := by
  unfold execTcmdReRange
  with_reducible repeat'
    first
    | apply Evolves.refl | apply OutEvolves.onIsland | apply Evolves.step (ev_tcmdReRange ..) | dsimp only | decide
    | rfl | intro _

theorem ev_execTcmdEnableAll (n : Fin 48) (t : BitVec 9) (s : State) :
    OutEvolves 255211775190703849958714197008648899083 s (execTcmdEnableAll n t s) := by
  unfold execTcmdEnableAll
  with_reducible repeat'
    first
    | apply Evolves.refl | apply OutEvolves.onIsland | apply Evolves.step (ev_tcmdEnableAll ..) | dsimp only | decide
    | rfl | intro _

theorem ev_ploamUpstream (n : Nat) (t : Nat) (kind : UpKind) (c : PloamCheck) (body : List Byte) (s : State) :
    Evolves 276479424074000458818713643965306901007 s (ploamUpstream n t kind c body s) := by
  unfold ploamUpstream
  with_reducible repeat'
    first
    | apply Evolves.refl | apply Evolves.step (ev_raise ..) | apply Evolves.step (ev_hostPacket ..) | apply Evolves.bump
    | apply Evolves.bumpx | apply Evolves.onlyIf | apply Evolves.ite | apply Evolves.ofPair ‹_›
    | apply Evolves.ofTriple ‹_› | split | dsimp only | decide | rfl | intro _

theorem ev_execPloamUpstream (n : Fin 48) (t : BitVec 9) (kind : UpKind) (ok : PloamCheck) (body : List Byte) (s : State) :
    OutEvolves 276479424074000458818713643965306901007 s (execPloamUpstream n t kind ok body s) := by
  unfold execPloamUpstream
  with_reducible repeat'
    first
    | apply Evolves.refl | apply OutEvolves.next | apply OutEvolves.onAct | apply Evolves.step (ev_ploamUpstream ..)
    | dsimp only | decide | rfl | intro _

theorem Evolves.advanceIndex {m : Nat} {s t : State} {auto_ word entry : Fld} {i words entries : Nat} (h : Evolves m s t)
    (hm : wordMask word.sp ||| m = m := by decide) (hn : wordMask entry.sp ||| m = m := by decide) :
    Evolves m s (advanceIndex auto_ word entry i words entries t) := Evolves.advanceWord h hm hn

theorem ev_ploamKeyWrite (n : Nat) (w : Nat) (s : State) : Evolves 2361183241434823524353 s (ploamKeyWrite n w s) := by
  unfold ploamKeyWrite
  with_reducible repeat'
    first
    | apply Evolves.refl | apply Evolves.step (ev_mirrorOut ..) | apply Evolves.step (ev_State_setTerm ..)
    | apply Evolves.step (ev_State_setAct ..) | apply Evolves.advanceIndex | apply Evolves.ite | split | dsimp only
    | decide | rfl | intro _

theorem ev_execPloamKeyCommit (n : Fin 48) (w : Word) (s : State) :
    OutEvolves 265845599156983176941944653490892442123 s (execPloamKeyCommit n w s) := by
  unfold execPloamKeyCommit
  with_reducible repeat'
    first
    | apply Evolves.refl | apply OutEvolves.onIsland | apply Evolves.guarded | apply Evolves.step (ev_ploamKeyWrite ..)
    | dsimp only | decide | rfl | intro _

theorem ev_todRequest (n : Nat) (v : Nat) (s : State) : Evolves 2361183241434822737921 s (todRequest n v s) := by
  unfold todRequest
  with_reducible repeat'
    first
    | apply Evolves.refl | apply Evolves.step (ev_State_setAct ..) | apply Evolves.wr | dsimp only | decide | rfl
    | intro _

theorem ev_execTodRequest (n : Fin 48) (v : BitVec 19) (s : State) :
    OutEvolves 2361183241434822738433 s (execTodRequest n v s) := by
  unfold execTodRequest
  with_reducible repeat'
    first
    | apply Evolves.refl | apply OutEvolves.onIsland | apply Evolves.step (ev_todRequest ..) | dsimp only | decide | rfl
    | intro _

theorem ev_execTodDone (n : Fin 48) (s : State) : OutEvolves 2361183241434822738433 s (execTodDone n s) := by
  unfold execTodDone
  with_reducible repeat'
    first
    | apply Evolves.refl | apply OutEvolves.onIsland | apply Evolves.step (ev_State_setAct ..) | apply Evolves.wr
    | apply Evolves.ite | split | dsimp only | decide | rfl | intro _

theorem ev_rogueCriterion (n : Nat) (crit : Nat) (s : State) :
    Evolves 255211775190703854681080679878295683595 s (rogueCriterion n crit s) := by
  unfold rogueCriterion
  with_reducible repeat'
    first
    | apply Evolves.refl | apply Evolves.step (ev_State_setAct ..) | apply Evolves.step (ev_raise ..)
    | apply Evolves.step (ev_smokerStart ..) | apply Evolves.ite | split | dsimp only | decide | rfl | intro _

theorem ev_execRogueCriterion (n : Fin 48) (crit : Fin 3) (s : State) :
    OutEvolves 255211775190703854681080679878295683595 s (execRogueCriterion n crit s) := by
  unfold execRogueCriterion
  with_reducible repeat'
    first
    | apply Evolves.refl | apply OutEvolves.next | apply OutEvolves.onAct | apply Evolves.step (ev_rogueCriterion ..)
    | dsimp only | decide | rfl | intro _

theorem ev_smokerObserve (n : Nat) (gap : GapSeen) (light : Nat) (s : State) :
    Evolves 255211775190703864144260389691295924747 s (smokerObserve n gap light s) := by
  unfold smokerObserve
  with_reducible repeat'
    first
    | apply Evolves.refl | apply Evolves.step (ev_smokerQuit ..) | apply Evolves.step (ev_smokerEnd ..)
    | apply Evolves.step (ev_smokerRestore ..) | apply Evolves.step (ev_State_setAct ..)
    | apply Evolves.step (ev_smokerJudge ..) | apply Evolves.ite | apply Evolves.ofPair ‹_› | apply Evolves.ofTriple ‹_›
    | split | dsimp only | decide | rfl | intro _

theorem ev_execSmokerObserve (n : Fin 48) (judged : GapSeen) (seen : Nat) (s : State) :
    OutEvolves 255211775190703864144260389691295924747 s (execSmokerObserve n judged seen s) := by
  unfold execSmokerObserve
  with_reducible repeat'
    first
    | apply Evolves.refl | apply OutEvolves.next | apply OutEvolves.onAct | apply Evolves.step (ev_smokerObserve ..)
    | dsimp only | decide | rfl | intro _

theorem ev_smokerStop (n : Nat) (s : State) : Evolves 2361183241434822606849 s (smokerStop n s) := by
  unfold smokerStop
  with_reducible repeat'
    first
    | apply Evolves.refl | apply Evolves.wr | dsimp only | decide | rfl | intro _

theorem ev_execSmokerStop (n : Fin 48) (s : State) : OutEvolves 2361183241434822607361 s (execSmokerStop n s) := by
  unfold execSmokerStop
  with_reducible repeat'
    first
    | apply Evolves.refl | apply OutEvolves.onIsland | apply Evolves.step (ev_smokerStop ..) | dsimp only | decide | rfl
    | intro _

theorem ev_sdRogueReport (n : Nat) (s : State) :
    Evolves 255211775190703847597530955573826298378 s (sdRogueReport n s) := by
  unfold sdRogueReport
  with_reducible repeat'
    first
    | apply Evolves.refl | apply Evolves.step (ev_raise ..) | apply Evolves.step (ev_State_setAct ..)
    | apply Evolves.step (ev_State_setLane ..) | apply Evolves.ite | split | dsimp only | decide | rfl | intro _

theorem ev_execSdRogue (n : Fin 48) (s : State) :
    OutEvolves 255211775190703847597530955573826298378 s (execSdRogue n s) := by
  unfold execSdRogue
  with_reducible repeat'
    first
    | apply Evolves.refl | apply OutEvolves.onIsland | apply Evolves.step (ev_sdRogueReport ..) | dsimp only | decide
    | rfl | intro _

end Sys2Proof.Machine
end

