-- ==== Sys2Proof/Laws/EvPairOps.lean ====
section
/-!
SUPPORT. What the operations of Machine/PairOps.lean may touch (Safety.lean, Evolves).
-/

namespace Sys2Proof.Machine

set_option Elab.async false
set_option linter.all false

theorem ev_State_setPair (s : State) (x : PairSt) : Evolves 8589934592 s (State.setPair s x) := by
  unfold State.setPair
  with_reducible repeat'
    first
    | apply Evolves.refl | dsimp only | decide | rfl | intro _ | apply Evolves.upd_pair

theorem ev_pairCause (bit : Nat) (d : List Nat) (s : State) :
    Evolves 255211775190703847597530955573826159114 s (pairCause bit d s) := by
  unfold pairCause
  with_reducible repeat'
    first
    | apply Evolves.refl | apply Evolves.step (ev_raise ..) | dsimp only | decide | rfl | intro _

theorem ev_track (s : State) : Evolves 8589934592 s (track s) := by
  unfold track
  with_reducible repeat'
    first
    | apply Evolves.refl | apply Evolves.step (ev_State_setPair ..) | apply Evolves.ite | split | dsimp only | decide
    | rfl | intro _

theorem ev_refreshReady (s : State) : Evolves 2596148429267413814265256754544641 s (refreshReady s) := by
  unfold refreshReady
  with_reducible repeat'
    first
    | apply Evolves.refl | apply Evolves.step (ev_track ..) | apply Evolves.wr | dsimp only | decide | rfl | intro _

theorem ev_setOfs (n : Nat) (l : List Int) (s : State) :
    Evolves 255214371339133115011345220830580703755 s (setOfs n l s) := by
  unfold setOfs
  with_reducible repeat'
    first
    | apply Evolves.refl | apply Evolves.step (ev_refreshReady ..) | apply Evolves.step (ev_pairCause ..)
    | apply Evolves.step (ev_State_setPair ..) | apply Evolves.ite | split | dsimp only | decide | rfl | intro _

theorem ev_noteArrival (n : Nat) (m : Int) (s : State) :
    Evolves 255214371339133115011345220830580703755 s (noteArrival n m s) := by
  unfold noteArrival
  with_reducible repeat'
    first
    | apply Evolves.refl | apply Evolves.step (ev_setOfs ..) | apply Evolves.ofPair ‹_› | apply Evolves.ofTriple ‹_›
    | split | dsimp only | decide | rfl | intro _

end Sys2Proof.Machine
end

