-- ==== Sys2Proof/Laws/EvFraming.lean ====
section
/-!
SUPPORT. What the operations of Machine/Framing.lean may touch (Safety.lean, Evolves).
-/

namespace Sys2Proof.Machine

set_option Elab.async false
set_option linter.all false

theorem ev_mapVoid (n : Nat) (s : State) : Evolves 255211775190703847671317931868664365579 s (mapVoid n s) := by
  unfold mapVoid
  with_reducible repeat'
    first
    | apply Evolves.refl | apply Evolves.step (ev_raise ..) | apply Evolves.wr | apply Evolves.bump | dsimp only
    | decide | rfl | intro _

theorem ev_takePloams (n : Nat) (s : State) : Evolves 131072 s (takePloams n s).2.2 := by
  unfold takePloams
  with_reducible repeat'
    first
    | apply Evolves.refl | apply Evolves.step (ev_State_setAct ..) | dsimp only | decide | rfl | intro _

theorem ev_countDeferred (n : Nat) (s : State) : Evolves 73786976294838206473 s (countDeferred n s) := by
  unfold countDeferred
  with_reducible repeat'
    first
    | apply Evolves.refl | apply Evolves.bumpBy | dsimp only | decide | rfl | intro _

theorem ev_countFragment (n : Nat) (c : Option Lead) (u2 : State) :
    Evolves 73786976294838206473 u2 (countFragment n c u2) := by
  unfold countFragment
  with_reducible repeat'
    first
    | apply Evolves.refl | apply Evolves.bump | apply Evolves.onlyIf | dsimp only | decide | rfl | intro _

theorem ev_writeHeader (n : Nat) (k : Nat) (m : BwMap) (s : State) :
    Evolves 73786976294838878217 s (writeHeader n k m s) := by
  unfold writeHeader
  with_reducible repeat'
    first
    | apply Evolves.refl | apply Evolves.step (ev_takePloams ..) | apply Evolves.step (ev_State_setFram ..)
    | apply Evolves.step (ev_State_setGrant ..) | apply Evolves.step (ev_countFragment ..) | apply Evolves.bump
    | apply Evolves.ofPair ‹_› | apply Evolves.ofTriple ‹_› | split | dsimp only | decide | rfl | intro _

theorem ev_buildEmpty (n : Nat) (k : Nat) (void : Bool) (s : State) :
    Evolves 73786976294838222857 s (buildEmpty n k void s) := by
  unfold buildEmpty
  with_reducible repeat'
    first
    | apply Evolves.refl | apply Evolves.step (ev_countFragment ..) | apply Evolves.step (ev_State_setFram ..)
    | apply Evolves.ite | split | dsimp only | decide | rfl | intro _

theorem ev_headerBuild (n : Nat) (s : State) : Evolves 255211775190703847671317931868665037323 s (headerBuild n s) := by
  unfold headerBuild
  with_reducible repeat'
    first
    | apply Evolves.refl | apply Evolves.step (ev_countDeferred ..) | apply Evolves.step (ev_buildEmpty ..)
    | apply Evolves.step (ev_writeHeader ..) | apply Evolves.step (ev_mapVoid ..) | apply Evolves.bump
    | apply Evolves.ite | apply Evolves.ofPair ‹_› | apply Evolves.ofTriple ‹_› | split | dsimp only | decide | rfl
    | intro _

theorem ev_execFsHeaderBuild (n : Fin 48) (s : State) :
    OutEvolves 255211775190703847671317931868665037323 s (execFsHeaderBuild n s) := by
  unfold execFsHeaderBuild
  with_reducible repeat'
    first
    | apply Evolves.refl | apply OutEvolves.onIsland | apply Evolves.step (ev_headerBuild ..) | dsimp only | decide
    | rfl | intro _

theorem ev_mapDeadline (n : Nat) (s : State) : Evolves 255211775190703847671317931868665037323 s (mapDeadline n s) := by
  unfold mapDeadline
  with_reducible repeat'
    first
    | apply Evolves.refl | apply Evolves.step (ev_headerBuild ..) | apply Evolves.ite | apply Evolves.ofPair ‹_›
    | apply Evolves.ofTriple ‹_› | split | dsimp only | decide | rfl | intro _

theorem ev_execMapDeadline (n : Fin 48) (s : State) :
    OutEvolves 255211775190703847671317931868665037323 s (execMapDeadline n s) := by
  unfold execMapDeadline
  with_reducible repeat'
    first
    | apply Evolves.refl | apply OutEvolves.onIsland | apply Evolves.step (ev_mapDeadline ..) | dsimp only | decide
    | rfl | intro _

theorem ev_ageFrame (n : Nat) (s : State) : Evolves 9463179709813000257537 s (ageFrame n s) := by
  unfold ageFrame
  with_reducible repeat'
    first
    | apply Evolves.refl | apply Evolves.step (ev_State_setTerm ..) | apply Evolves.step (ev_State_setFram ..)
    | apply Evolves.wrx | apply Evolves.allOf | apply Evolves.ite | split | dsimp only | decide | rfl | intro _

theorem ev_rangingRequests (n : Nat) (s : State) : Evolves 1049088 s (rangingRequests n s) := by
  unfold rangingRequests
  with_reducible repeat'
    first
    | apply Evolves.refl | apply Evolves.step (ev_sendRequest ..) | apply Evolves.allOf | apply Evolves.ite | split
    | dsimp only | decide | rfl | intro _

theorem ev_clusterStart (k : Nat) (frame : Nat) (s : State) : Evolves 3146240 s (clusterStart k frame s) := by
  unfold clusterStart
  with_reducible repeat'
    first
    | apply Evolves.refl | apply Evolves.step (ev_wrapperAnswer ..) | apply Evolves.step (ev_latchAll ..)
    | apply Evolves.step (ev_State_setCluster ..) | apply Evolves.ite | split | dsimp only | decide | rfl | intro _

theorem ev_returnPloams (n : Nat) (b : Built) (s : State) : Evolves 131072 s (returnPloams n b s) := by
  unfold returnPloams
  with_reducible repeat'
    first
    | apply Evolves.refl | apply Evolves.step (ev_State_setAct ..) | dsimp only | decide | rfl | intro _

theorem ev_dropSelections (n : Nat) (k : Nat) (s : State) : Evolves 540672 s (dropSelections n k s) := by
  unfold dropSelections
  with_reducible repeat'
    first
    | apply Evolves.refl | apply Evolves.step (ev_State_setFram ..) | apply Evolves.step (ev_State_setGrant ..)
    | dsimp only | decide | rfl | intro _

theorem ev_loseXgems (n : Nat) (x : Nat) (s : State) :
    Evolves 255211775190703847671317931868664365579 s (loseXgems n x s) := by
  unfold loseXgems
  with_reducible repeat'
    first
    | apply Evolves.refl | apply Evolves.step (ev_raise ..) | apply Evolves.bumpBy | apply Evolves.onlyIf | dsimp only
    | decide | rfl | intro _

theorem ev_frameNotSent (n : Nat) (b : Built) (xgems : List Nat) (s : State) :
    Evolves 255211775190703847671317931868665037323 s (frameNotSent n b xgems s) := by
  unfold frameNotSent
  with_reducible repeat'
    first
    | apply Evolves.refl | apply Evolves.step (ev_loseXgems ..) | apply Evolves.step (ev_dropSelections ..)
    | apply Evolves.step (ev_returnPloams ..) | dsimp only | decide | rfl | intro _

theorem ev_headerLeaves (n : Nat) (s : State) :
    Evolves 255211775190703864144260389691295416843 s (headerLeaves n s) := by
  unfold headerLeaves
  with_reducible repeat'
    first
    | apply Evolves.refl | apply Evolves.step (ev_State_setFram ..) | apply Evolves.step (ev_smokerLastSent ..)
    | apply Evolves.step (ev_ploamSent ..) | apply Evolves.onlyIf | apply Evolves.allOf | apply Evolves.ite
    | apply Evolves.ofPair ‹_› | apply Evolves.ofTriple ‹_› | split | dsimp only | decide | rfl | intro _

theorem ev_endFrame (n : Nat) (s : State) : Evolves 255211775190703847671317931868665037323 s (endFrame n s) := by
  unfold endFrame
  with_reducible repeat'
    first
    | apply Evolves.refl | apply Evolves.step (ev_frameNotSent ..) | apply Evolves.ite | apply Evolves.ofPair ‹_›
    | apply Evolves.ofTriple ‹_› | split | dsimp only | decide | rfl | intro _

theorem ev_frameStartFraming (n : Nat) (k : Nat) (s : State) :
    Evolves 255211775190703864218047365986136244747 s (frameStartFraming n k s) := by
  unfold frameStartFraming
  with_reducible repeat'
    first
    | apply Evolves.refl | apply Evolves.step (ev_endFrame ..) | apply Evolves.step (ev_frameNotSent ..)
    | apply Evolves.step (ev_smokerFrame ..) | apply Evolves.step (ev_rogueLatch ..)
    | apply Evolves.step (ev_ageFrame ..) | apply Evolves.step (ev_State_setFram ..)
    | apply Evolves.step (ev_clusterStart ..) | apply Evolves.step (ev_rangingRequests ..)
    | apply Evolves.step (ev_headerLeaves ..) | apply Evolves.wr | apply Evolves.onlyIf | apply Evolves.ite
    | apply Evolves.ofPair ‹_› | apply Evolves.ofTriple ‹_› | split | dsimp only | decide | rfl | intro _

theorem ev_drainFifo (n : Nat) (s : State) : Evolves 16384 s (drainFifo n s) := by
  unfold drainFifo
  with_reducible repeat'
    first
    | apply Evolves.refl | apply Evolves.step (ev_State_setFram ..) | apply Evolves.ite | split | dsimp only | decide
    | rfl | intro _

theorem ev_encodeNext (n : Nat) (s : State) : Evolves 16384 s (encodeNext n s) := by
  unfold encodeNext
  with_reducible repeat'
    first
    | apply Evolves.refl | apply Evolves.step (ev_State_setFram ..) | apply Evolves.ite | split | dsimp only | decide
    | rfl | intro _

theorem ev_fifoTakes (n : Nat) (s : State) : Evolves 255211775190703864144260389691295416843 s (fifoTakes n s) := by
  unfold fifoTakes
  with_reducible repeat'
    first
    | apply Evolves.refl | apply Evolves.step (ev_headerLeaves ..) | apply Evolves.step (ev_State_setFram ..)
    | apply Evolves.step (ev_wrapperAnswer ..) | apply Evolves.onlyIf | apply Evolves.ite | split | dsimp only | decide
    | rfl | intro _

theorem ev_encoderSlot (k : Nat) (s : State) : Evolves 255211775190703865324852010408706785803 s (encoderSlot k s) := by
  unfold encoderSlot
  with_reducible repeat'
    first
    | apply Evolves.refl | apply Evolves.step (ev_drainFifo ..) | apply Evolves.step (ev_fifoTakes ..)
    | apply Evolves.step (ev_encodeNext ..) | apply Evolves.bump | apply Evolves.allOf | apply Evolves.ofPair ‹_›
    | apply Evolves.ofTriple ‹_› | split | dsimp only | decide | rfl | intro _ | apply Evolves.upd_encoders

theorem ev_encoderLost (k : Nat) (s : State) : Evolves 255211775190703847597530955573826159114 s (encoderLost k s) := by
  unfold encoderLost
  with_reducible repeat'
    first
    | apply Evolves.refl | apply Evolves.step (ev_raise ..) | apply Evolves.step (ev_wrapperAnswer ..)
    | apply Evolves.onlyIf | dsimp only | decide | rfl | intro _

theorem ev_execEncoderSlot (k : Fin 8) (s : State) :
    OutEvolves 255211775190703865324852010408706785803 s (execEncoderSlot k s) := by
  unfold execEncoderSlot
  with_reducible repeat'
    first
    | apply Evolves.refl | apply OutEvolves.next | apply Evolves.step (ev_encoderSlot ..)
    | apply Evolves.step (ev_encoderLost ..) | apply Evolves.step (ev_wrapperAnswer ..) | apply Evolves.ite | split
    | dsimp only | decide | rfl | intro _

theorem ev_underrun (n : Nat) (s : State) : Evolves 255211775190703848851909552586344776315 s (underrun n s) := by
  unfold underrun
  with_reducible repeat'
    first
    | apply Evolves.refl | apply Evolves.step (ev_drainFifo ..) | apply Evolves.step (ev_passToFrame ..)
    | apply Evolves.step (ev_State_setFram ..) | apply Evolves.step (ev_raise ..) | apply Evolves.step (ev_loseXgems ..)
    | apply Evolves.step (ev_returnPloams ..) | apply Evolves.step (ev_dropSelections ..)
    | apply Evolves.step (ev_mapVoid ..) | apply Evolves.bump | apply Evolves.bumpBy | apply Evolves.ite
    | apply Evolves.ofPair ‹_› | apply Evolves.ofTriple ‹_› | split | dsimp only | decide | rfl | intro _

theorem ev_execCodewordUnderrun (n : Fin 48) (s : State) :
    OutEvolves 255211775190703848851909552586344776315 s (execCodewordUnderrun n s) := by
  unfold execCodewordUnderrun
  with_reducible repeat'
    first
    | apply Evolves.refl | apply OutEvolves.onIsland | apply Evolves.step (ev_underrun ..) | dsimp only | decide | rfl
    | intro _

theorem ev_fecEnWrite (n : Nat) (v : Nat) (s : State) :
    Evolves 255211775190703847671317931868664367627 s (fecEnWrite n v s) := by
  unfold fecEnWrite
  with_reducible repeat'
    first
    | apply Evolves.refl | apply Evolves.step (ev_refuseWrite ..) | apply Evolves.wr | apply Evolves.ite | split
    | dsimp only | decide | rfl | intro _

theorem ev_execFecEnWrite (n : Fin 48) (v : BitVec 1) (s : State) :
    OutEvolves 255211775190703847671317931868664367627 s (execFecEnWrite n v s) := by
  unfold execFecEnWrite
  with_reducible repeat'
    first
    | apply Evolves.refl | apply OutEvolves.onIsland | apply Evolves.step (ev_fecEnWrite ..) | dsimp only | decide | rfl
    | intro _

theorem ev_execDsEnWrite (n : Fin 48) (v : BitVec 1) (s : State) :
    OutEvolves 73786976294838206977 s (execDsEnWrite n v s) := by
  unfold execDsEnWrite
  with_reducible repeat'
    first
    | apply Evolves.refl | apply OutEvolves.onIsland | apply Evolves.wr | dsimp only | decide | rfl | intro _

theorem ev_ponidHiWrite (n : Nat) (v : Nat) (s : State) : Evolves 73786976294838222849 s (ponidHiWrite n v s) := by
  unfold ponidHiWrite
  with_reducible repeat'
    first
    | apply Evolves.refl | apply Evolves.step (ev_State_setFram ..) | apply Evolves.wr | dsimp only | decide | rfl
    | intro _

theorem ev_execPonidHiWrite (n : Fin 48) (v : BitVec 19) (s : State) :
    OutEvolves 73786976294838223361 s (execPonidHiWrite n v s) := by
  unfold execPonidHiWrite
  with_reducible repeat'
    first
    | apply Evolves.refl | apply OutEvolves.onIsland | apply Evolves.step (ev_ponidHiWrite ..) | dsimp only | decide
    | rfl | intro _

theorem ev_sfcLoRead (n : Nat) (s : State) : Evolves 73786976294838208513 s (sfcLoRead n s) := by
  unfold sfcLoRead
  with_reducible repeat'
    first
    | apply Evolves.refl | apply Evolves.step (ev_setRead ..) | apply Evolves.wr | dsimp only | decide | rfl | intro _

theorem ev_execSfcLoRead (n : Fin 48) (s : State) : OutEvolves 73786976294838209025 s (execSfcLoRead n s) := by
  unfold execSfcLoRead
  with_reducible repeat'
    first
    | apply Evolves.refl | apply OutEvolves.onIsland | apply Evolves.step (ev_sfcLoRead ..) | dsimp only | decide | rfl
    | intro _

theorem ev_missingWindow (n : Nat) (s : State) :
    Evolves 255211775190703847634424443721245286923 s (missingWindow n s) := by
  unfold missingWindow
  with_reducible repeat'
    first
    | apply Evolves.refl | apply Evolves.step (ev_State_setLane ..) | apply Evolves.step (ev_raise ..)
    | apply Evolves.step (ev_openWindow ..) | apply Evolves.bump | apply Evolves.ite | apply Evolves.ofPair ‹_›
    | apply Evolves.ofTriple ‹_› | split | dsimp only | decide | rfl | intro _

theorem ev_windowPasses (n : Nat) (s : State) :
    Evolves 255211775190703847634424443721245286923 s (windowPasses n s) := by
  unfold windowPasses
  with_reducible repeat'
    first
    | apply Evolves.refl | apply Evolves.step (ev_wrapperAnswer ..) | apply Evolves.step (ev_raise ..)
    | apply Evolves.step (ev_State_setLane ..) | apply Evolves.step (ev_State_setFram ..) | apply Evolves.bump
    | apply Evolves.onlyIf | apply Evolves.ofPair ‹_› | apply Evolves.ofTriple ‹_› | split | dsimp only | decide | rfl
    | intro _

theorem ev_execMissingSelectionWindow (n : Fin 48) (s : State) :
    OutEvolves 255211775190703847634424443721245286923 s (execMissingSelectionWindow n s) := by
  unfold execMissingSelectionWindow
  with_reducible repeat'
    first
    | apply Evolves.refl | apply OutEvolves.onIsland | apply Evolves.step (ev_missingWindow ..)
    | apply Evolves.step (ev_windowPasses ..) | apply Evolves.ite | split | dsimp only | decide | rfl | intro _

theorem ev_energyMiss (n : Nat) (s : State) : Evolves 36893488147419111433 s (energyMiss n s) := by
  unfold energyMiss
  with_reducible repeat'
    first
    | apply Evolves.refl | apply Evolves.step (ev_State_setLane ..) | apply Evolves.bump | apply Evolves.ite
    | apply Evolves.ofPair ‹_› | apply Evolves.ofTriple ‹_› | split | dsimp only | decide | rfl | intro _

theorem ev_execWindowEnergyMiss (n : Fin 48) (s : State) :
    OutEvolves 36893488147419111945 s (execWindowEnergyMiss n s) := by
  unfold execWindowEnergyMiss
  with_reducible repeat'
    first
    | apply Evolves.refl | apply OutEvolves.onIsland | apply Evolves.step (ev_energyMiss ..) | dsimp only | decide | rfl
    | intro _

theorem ev_setWindow (n : Nat) (w : Win) (s : State) : Evolves 8192 s (setWindow n w s) := by
  unfold setWindow
  with_reducible repeat'
    first
    | apply Evolves.refl | apply Evolves.step (ev_State_setLane ..) | dsimp only | decide | rfl | intro _

theorem ev_delimiterAccept (n : Nat) (seen : DelimiterSeen) (s : State) :
    Evolves 255214371339133131779435583832564589067 s (delimiterAccept n seen s) := by
  unfold delimiterAccept
  with_reducible repeat'
    first
    | apply Evolves.refl | apply Evolves.step (ev_trialScore ..) | apply Evolves.step (ev_dropBurst ..)
    | apply Evolves.step (ev_setWindow ..) | apply Evolves.step (ev_State_setFram ..)
    | apply Evolves.step (ev_noteArrival ..) | apply Evolves.step (ev_driftStep ..)
    | apply Evolves.step (ev_burstAccepted ..) | apply Evolves.bump | apply Evolves.wrx | apply Evolves.onlyIf
    | apply Evolves.ite | apply Evolves.ofPair ‹_› | apply Evolves.ofTriple ‹_› | split | dsimp only | decide | rfl
    | intro _

theorem ev_execDelimiterAccept (n : Fin 48) (seen : DelimiterSeen) (s : State) :
    OutEvolves 255214371339133131779435583832564589067 s (execDelimiterAccept n seen s) := by
  unfold execDelimiterAccept
  with_reducible repeat'
    first
    | apply Evolves.refl | apply OutEvolves.onIsland | apply Evolves.step (ev_delimiterAccept ..) | dsimp only | decide
    | rfl | intro _

theorem ev_delimiterMiss (n : Nat) (s : State) :
    Evolves 255211775190703852559705111401696879115 s (delimiterMiss n s) := by
  unfold delimiterMiss
  with_reducible repeat'
    first
    | apply Evolves.refl | apply Evolves.step (ev_trialScore ..) | apply Evolves.step (ev_dropBurst ..)
    | apply Evolves.step (ev_setWindow ..) | apply Evolves.step (ev_raise ..) | apply Evolves.step (ev_countMiss ..)
    | apply Evolves.bumpx | apply Evolves.bump | apply Evolves.ite | apply Evolves.ofPair ‹_›
    | apply Evolves.ofTriple ‹_› | split | dsimp only | decide | rfl | intro _

theorem ev_execDelimiterMiss (n : Fin 48) (s : State) :
    OutEvolves 255211775190703852559705111401696879115 s (execDelimiterMiss n s) := by
  unfold execDelimiterMiss
  with_reducible repeat'
    first
    | apply Evolves.refl | apply OutEvolves.onIsland | apply Evolves.step (ev_delimiterMiss ..) | dsimp only | decide
    | rfl | intro _

theorem ev_burstOverrun (n : Nat) (s : State) :
    Evolves 255211775190703847671317931868664504843 s (burstOverrun n s) := by
  unfold burstOverrun
  with_reducible repeat'
    first
    | apply Evolves.refl | apply Evolves.step (ev_setWindow ..) | apply Evolves.step (ev_State_setLane ..)
    | apply Evolves.step (ev_raise ..) | apply Evolves.step (ev_State_setAct ..) | apply Evolves.bump
    | apply Evolves.ofPair ‹_› | apply Evolves.ofTriple ‹_› | split | dsimp only | decide | rfl | intro _

theorem ev_execBurstOverrun (n : Fin 48) (s : State) :
    OutEvolves 255211775190703847671317931868664504843 s (execBurstOverrun n s) := by
  unfold execBurstOverrun
  with_reducible repeat'
    first
    | apply Evolves.refl | apply OutEvolves.onIsland | apply Evolves.step (ev_burstOverrun ..) | dsimp only | decide
    | rfl | intro _

theorem ev_setPool (p : Pool) (s : State) : Evolves 32768 s (setPool p s) := by
  unfold setPool
  with_reducible repeat'
    first
    | apply Evolves.refl | dsimp only | decide | rfl | intro _ | apply Evolves.upd_pool

theorem ev_leaveService (j : Nat) (s : State) :
    Evolves 255211775190703847597530955573826191882 s (leaveService j s) := by
  unfold leaveService
  with_reducible repeat'
    first
    | apply Evolves.refl | apply Evolves.step (ev_setPool ..) | apply Evolves.step (ev_raise ..) | apply Evolves.ite
    | split | dsimp only | decide | rfl | intro _

theorem ev_takeBits (n : Nat) (bits : Nat) (last : Bool) (b : BurstRx) (s : State) :
    Evolves 16384 s (takeBits n bits last b s) := by
  unfold takeBits
  with_reducible repeat'
    first
    | apply Evolves.refl | apply Evolves.step (ev_State_setFram ..) | apply Evolves.ite | split | dsimp only | decide
    | rfl | intro _

theorem ev_codewordQueued (n : Nat) (bits : Nat) (first : Bool) (last : Bool) (s : State) :
    Evolves 49152 s (codewordQueued n bits first last s) := by
  unfold codewordQueued
  with_reducible repeat'
    first
    | apply Evolves.refl | apply Evolves.step (ev_takeBits ..) | apply Evolves.step (ev_setPool ..) | apply Evolves.ite
    | apply Evolves.ofPair ‹_› | apply Evolves.ofTriple ‹_› | split | dsimp only | decide | rfl | intro _

theorem ev_execCodewordQueued (n : Fin 48) (bits : BitVec 15) (first : Bool) (last : Bool) (s : State) :
    OutEvolves 49664 s (execCodewordQueued n bits first last s) := by
  unfold execCodewordQueued
  with_reducible repeat'
    first
    | apply Evolves.refl | apply OutEvolves.onIsland | apply Evolves.step (ev_codewordQueued ..) | dsimp only | decide
    | rfl | intro _

theorem ev_popHead (c : Cw) (s : State) : Evolves 32768 s (popHead c s) := by
  unfold popHead
  with_reducible repeat'
    first
    | apply Evolves.refl | apply Evolves.step (ev_setPool ..) | dsimp only | decide | rfl | intro _

theorem ev_takeCodeword (j : Nat) (c : Cw) (s : State) :
    Evolves 255211775190703847892678860753179017739 s (takeCodeword j c s) := by
  unfold takeCodeword
  with_reducible repeat'
    first
    | apply Evolves.refl | apply Evolves.step (ev_popHead ..) | apply Evolves.step (ev_setPool ..)
    | apply Evolves.step (ev_raise ..) | apply Evolves.bump | apply Evolves.wr | apply Evolves.onlyIf
    | (simp only [wordMask_at]; decide) | dsimp only | decide | rfl | intro _

theorem ev_startCheck (j : Nat) (s : State) : Evolves 32768 s (startCheck j s) := by
  unfold startCheck
  with_reducible repeat'
    first
    | apply Evolves.refl | apply Evolves.step (ev_setPool ..) | dsimp only | decide | rfl | intro _

theorem ev_dispatchLoop (l : List Nat) (s : State) :
    Evolves 255211775190703847892678860753179017739 s (dispatchLoop l s) := by
  induction l generalizing s with
  | nil =>
    unfold dispatchLoop
    with_reducible repeat'
      first
      | apply Evolves.refl | apply Evolves.step (ev_takeCodeword ..) | apply Evolves.step (ev_startCheck ..)
      | apply Evolves.ite | apply Evolves.ofPair ‹_› | apply Evolves.ofTriple ‹_› | split | dsimp only | decide | rfl
      | intro _
  | cons j l ih =>
    unfold dispatchLoop
    with_reducible repeat'
      first
      | apply Evolves.step (ih ..) | apply Evolves.refl | apply Evolves.step (ev_takeCodeword ..)
      | apply Evolves.step (ev_startCheck ..) | apply Evolves.ite | apply Evolves.ofPair ‹_› | apply Evolves.ofTriple ‹_›
      | split | dsimp only | decide | rfl | intro _

theorem ev_decoderDispatch (s : State) : Evolves 255211775190703847892678860753179017739 s (decoderDispatch s) := by
  unfold decoderDispatch
  with_reducible repeat'
    first
    | apply Evolves.refl | apply Evolves.step (ev_startCheck ..) | apply Evolves.step (ev_dispatchLoop ..)
    | apply Evolves.allOf | dsimp only | decide | rfl | intro _

theorem ev_execDecoderDispatch (s : State) :
    OutEvolves 255211775190703847892678860753179017739 s (execDecoderDispatch s) := by
  unfold execDecoderDispatch
  with_reducible repeat'
    first
    | apply Evolves.refl | apply OutEvolves.next | apply Evolves.step (ev_decoderDispatch ..) | dsimp only | decide
    | rfl | intro _

theorem ev_kvCheckDone (j : Nat) (pass : Bool) (s : State) :
    Evolves 255211775190703848187826765932800279163 s (kvCheckDone j pass s) := by
  unfold kvCheckDone
  with_reducible repeat'
    first
    | apply Evolves.refl | apply Evolves.step (ev_passTo ..) | apply Evolves.step (ev_setPool ..)
    | apply Evolves.step (ev_leaveService ..) | apply Evolves.step (ev_raise ..) | apply Evolves.bump
    | apply Evolves.ite | apply Evolves.ofPair ‹_› | apply Evolves.ofTriple ‹_› | split | dsimp only | decide | rfl
    | intro _

theorem ev_execKvCheckDone (j : Fin 16) (pass : Bool) (s : State) :
    OutEvolves 255211775190703848187826765932800279163 s (execKvCheckDone j pass s) := by
  unfold execKvCheckDone
  with_reducible repeat'
    first
    | apply Evolves.refl | apply OutEvolves.onIsland | apply Evolves.step (ev_kvCheckDone ..) | dsimp only | decide
    | rfl | intro _

theorem ev_decEnWrite (j : Nat) (v : Bool) (s : State) :
    Evolves 255211775190703847892678860753179017739 s (decEnWrite j v s) := by
  unfold decEnWrite
  with_reducible repeat'
    first
    | apply Evolves.refl | apply Evolves.step (ev_setPool ..) | apply Evolves.step (ev_leaveService ..)
    | apply Evolves.wr | apply Evolves.ite | split | dsimp only | decide | rfl | intro _

theorem ev_execDecEnWrite (j : Fin 16) (v : Bool) (s : State) :
    OutEvolves 255211775190703847892678860753179017739 s (execDecEnWrite j v s) := by
  unfold execDecEnWrite
  with_reducible repeat'
    first
    | apply Evolves.refl | apply OutEvolves.onIsland | apply Evolves.step (ev_decEnWrite ..) | dsimp only | decide | rfl
    | intro _

theorem ev_degJudge (n : Nat) (t : Nat) (s : State) : Evolves 147573952589676675073 s (degJudge n t s) := by
  unfold degJudge
  with_reducible repeat'
    first
    | apply Evolves.refl | apply Evolves.step (ev_State_setTerm ..) | apply Evolves.wrx | apply Evolves.ite | split
    | dsimp only | decide | rfl | intro _

theorem ev_degAdd (n : Nat) (t : Nat) (bits : Nat) (errs : Nat) (uncorr : Bool) (s : State) :
    Evolves 147573952589676675073 s (degAdd n t bits errs uncorr s) := by
  unfold degAdd
  with_reducible repeat'
    first
    | apply Evolves.refl | apply Evolves.step (ev_degJudge ..) | apply Evolves.step (ev_State_setTerm ..)
    | apply Evolves.onlyIf | apply Evolves.ite | split | dsimp only | decide | rfl | intro _

theorem ev_degTimeout (n : Nat) (t : Nat) (s : State) : Evolves 147573952589945110649 s (degTimeout n t s) := by
  unfold degTimeout
  with_reducible repeat'
    first
    | apply Evolves.refl | apply Evolves.step (ev_degJudge ..) | apply Evolves.step (ev_passTo ..) | apply Evolves.ite
    | split | dsimp only | decide | rfl | intro _

theorem ev_degDeclare (n : Nat) (t : Nat) (s : State) :
    Evolves 255211775190703847745104908163502572043 s (degDeclare n t s) := by
  unfold degDeclare
  with_reducible repeat'
    first
    | apply Evolves.refl | apply Evolves.step (ev_raise ..) | apply Evolves.wrx | apply Evolves.ite | split | dsimp only
    | decide | rfl | intro _

theorem ev_execDegDeclare (n : Fin 48) (t : BitVec 9) (s : State) :
    OutEvolves 255211775190703847745104908163502572043 s (execDegDeclare n t s) := by
  unfold execDegDeclare
  with_reducible repeat'
    first
    | apply Evolves.refl | apply OutEvolves.onIsland | apply Evolves.step (ev_degDeclare ..) | dsimp only | decide | rfl
    | intro _

theorem ev_degClear (n : Nat) (t : Nat) (s : State) :
    Evolves 255211775190703847745104908163502572043 s (degClear n t s) := by
  unfold degClear
  with_reducible repeat'
    first
    | apply Evolves.refl | apply Evolves.step (ev_raise ..) | apply Evolves.wrx | apply Evolves.ite | split | dsimp only
    | decide | rfl | intro _

theorem ev_execDegClear (n : Fin 48) (t : BitVec 9) (s : State) :
    OutEvolves 255211775190703847745104908163502572043 s (execDegClear n t s) := by
  unfold execDegClear
  with_reducible repeat'
    first
    | apply Evolves.refl | apply OutEvolves.onIsland | apply Evolves.step (ev_degClear ..) | dsimp only | decide | rfl
    | intro _

theorem ev_degCfgWrite (n : Nat) (w : Nat) (s : State) :
    Evolves 265845599156983174654548388350907386379 s (degCfgWrite n w s) := by
  unfold degCfgWrite
  with_reducible repeat'
    first
    | apply Evolves.refl | apply Evolves.step (ev_State_setTerm ..) | apply Evolves.writeReg | apply Evolves.allOf
    | dsimp only | decide | rfl | intro _

theorem ev_execDegCfgWrite (n : Fin 48) (w : Word) (s : State) :
    OutEvolves 265845599156983174654548388350907386379 s (execDegCfgWrite n w s) := by
  unfold execDegCfgWrite
  with_reducible repeat'
    first
    | apply Evolves.refl | apply OutEvolves.onIsland | apply Evolves.step (ev_degCfgWrite ..) | dsimp only | decide
    | rfl | intro _

theorem ev_degEnClear (n : Nat) (s : State) : Evolves 221360928884514619393 s (degEnClear n s) := by
  unfold degEnClear
  with_reducible repeat'
    first
    | apply Evolves.refl | apply Evolves.wr | apply Evolves.wrx | apply Evolves.allOf | dsimp only | decide | rfl
    | intro _

theorem ev_execDegEnClear (n : Fin 48) (s : State) : OutEvolves 221360928884514619905 s (execDegEnClear n s) := by
  unfold execDegEnClear
  with_reducible repeat'
    first
    | apply Evolves.refl | apply OutEvolves.onIsland | apply Evolves.step (ev_degEnClear ..) | dsimp only | decide | rfl
    | intro _

theorem ev_dropContext (n : Nat) (port : Nat) (s : State) : Evolves 16384 s (dropContext n port s) := by
  unfold dropContext
  with_reducible repeat'
    first
    | apply Evolves.refl | apply Evolves.step (ev_State_setFram ..) | dsimp only | decide | rfl | intro _

theorem ev_frameComplete (n : Nat) (u : UpXgem) (s : State) :
    Evolves 255211776141441797768703006696353583627 s (frameComplete n u s) := by
  unfold frameComplete
  with_reducible repeat'
    first
    | apply Evolves.refl | apply Evolves.step (ev_State_setFram ..) | apply Evolves.step (ev_freeHandle ..)
    | apply Evolves.step (ev_wrapperAnswer ..) | apply Evolves.onlyIf | apply Evolves.ite | split | dsimp only | decide
    | rfl | intro _

theorem ev_reasmFull (n : Nat) (s : State) : Evolves 255211775190703847671317931868664365579 s (reasmFull n s) := by
  unfold reasmFull
  with_reducible repeat'
    first
    | apply Evolves.refl | apply Evolves.step (ev_raise ..) | apply Evolves.bump | dsimp only | decide | rfl | intro _

theorem ev_discardContext (n : Nat) (port : Nat) (s : State) :
    Evolves 255211776141441797768703006696353583627 s (discardContext n port s) := by
  unfold discardContext
  with_reducible repeat'
    first
    | apply Evolves.refl | apply Evolves.step (ev_freeHandle ..) | apply Evolves.step (ev_dropContext ..)
    | apply Evolves.ofPair ‹_› | apply Evolves.ofTriple ‹_› | split | dsimp only | decide | rfl | intro _

theorem ev_passPair (n : Nat) (h : Nat) (s : State) :
    Evolves 255211776141441797768703006696353567243 s (passPair n h s) := by
  unfold passPair
  with_reducible repeat'
    first
    | apply Evolves.refl | apply Evolves.step (ev_bufFree ..) | apply Evolves.step (ev_bufTransfer ..)
    | apply Evolves.step (ev_bufShare ..) | apply Evolves.step (ev_wrapperAnswer ..) | apply Evolves.ite | split
    | dsimp only | decide | rfl | intro _

theorem ev_reassemble (n : Nat) (g : GrantRef) (x : XgemSeen) (s : State) :
    Evolves 276479424074000451808950895955677303311 s (reassemble n g x s) := by
  unfold reassemble
  with_reducible repeat'
    first
    | apply Evolves.refl | apply Evolves.step (ev_wrapperAnswer ..) | apply Evolves.step (ev_frameComplete ..)
    | apply Evolves.step (ev_discardContext ..) | apply Evolves.step (ev_reasmFull ..)
    | apply Evolves.step (ev_allocPair ..) | apply Evolves.step (ev_State_setFram ..)
    | apply Evolves.step (ev_dropContext ..) | apply Evolves.step (ev_passPair ..) | apply Evolves.ite
    | apply Evolves.ofPair ‹_› | apply Evolves.ofTriple ‹_› | split | dsimp only | decide | rfl | intro _

theorem ev_reasmTimeout (n : Nat) (port : Nat) (s : State) :
    Evolves 255211776141441797842489982991191790091 s (reasmTimeout n port s) := by
  unfold reasmTimeout
  with_reducible repeat'
    first
    | apply Evolves.refl | apply Evolves.step (ev_raise ..) | apply Evolves.step (ev_discardContext ..)
    | apply Evolves.bump | apply Evolves.ite | apply Evolves.ofPair ‹_› | apply Evolves.ofTriple ‹_› | split
    | dsimp only | decide | rfl | intro _

theorem ev_execReasmTimeout (n : Fin 48) (port : BitVec 16) (s : State) :
    OutEvolves 255211776141441797842489982991191790091 s (execReasmTimeout n port s) := by
  unfold execReasmTimeout
  with_reducible repeat'
    first
    | apply Evolves.refl | apply OutEvolves.onIsland | apply Evolves.step (ev_reasmTimeout ..) | dsimp only | decide
    | rfl | intro _

theorem ev_uncorrectable (c : Cw) (s : State) :
    Evolves 255211775190703852559705111401696854539 s (uncorrectable c s) := by
  unfold uncorrectable
  with_reducible repeat'
    first
    | apply Evolves.refl | apply Evolves.step (ev_trialScore ..) | apply Evolves.step (ev_degAdd ..)
    | apply Evolves.step (ev_raise ..) | apply Evolves.bumpx | apply Evolves.bump | apply Evolves.onlyIf | dsimp only
    | decide | rfl | intro _

theorem ev_killBurst (n : Nat) (no : Nat) (s : State) : Evolves 16384 s (killBurst n no s) := by
  unfold killBurst
  with_reducible repeat'
    first
    | apply Evolves.refl | apply Evolves.step (ev_State_setFram ..) | dsimp only | decide | rfl | intro _

theorem ev_collision (c : Cw) (s : State) : Evolves 2361183241434822623241 s (collision c s) := by
  unfold collision
  with_reducible repeat'
    first
    | apply Evolves.refl | apply Evolves.step (ev_killBurst ..) | apply Evolves.bump | dsimp only | decide | rfl
    | intro _

theorem ev_headerCheck (c : Cw) (hec : Bool) (onu : Nat) (overlap : Bool) (s : State) :
    Evolves 255211775190703854920888352836519477771 s (headerCheck c hec onu overlap s) := by
  unfold headerCheck
  with_reducible repeat'
    first
    | apply Evolves.refl | apply Evolves.step (ev_collision ..) | apply Evolves.step (ev_trialScore ..)
    | apply Evolves.step (ev_killBurst ..) | apply Evolves.step (ev_raise ..) | apply Evolves.bumpx | apply Evolves.bump
    | apply Evolves.onlyIf | apply Evolves.ite | split | dsimp only | decide | rfl | intro _

theorem ev_dbruCheck (n : Nat) (g : GrantRef) (d : DbruSeen) (s : State) :
    Evolves 255211775190703866560783863347246793227 s (dbruCheck n g d s) := by
  unfold dbruCheck
  with_reducible repeat'
    first
    | apply Evolves.refl | apply Evolves.step (ev_queueReport ..) | apply Evolves.step (ev_raise ..)
    | apply Evolves.bump | apply Evolves.ite | apply Evolves.ofPair ‹_› | apply Evolves.ofTriple ‹_› | split
    | dsimp only | decide | rfl | intro _

theorem ev_codewordResult (c : Cw) (r : CwResult) (fec : Bool) (s : State) :
    Evolves 276479424074000477947987248402113778191 s (codewordResult c r fec s) := by
  unfold codewordResult
  with_reducible repeat'
    first
    | apply Evolves.refl | apply Evolves.step (ev_collision ..) | apply Evolves.step (ev_uncorrectable ..)
    | apply Evolves.step (ev_degAdd ..) | apply Evolves.step (ev_headerCheck ..) | apply Evolves.step (ev_reassemble ..)
    | apply Evolves.step (ev_dbruCheck ..) | apply Evolves.step (ev_State_setFram ..) | apply Evolves.bumpx
    | apply Evolves.bumpxBy | apply Evolves.bump | apply Evolves.onlyIf | apply Evolves.allOf | apply Evolves.ite
    | apply Evolves.ofPair ‹_› | apply Evolves.ofTriple ‹_› | split | dsimp only | decide | rfl | intro _

theorem ev_decoderResult (j : Nat) (r : CwResult) (s : State) :
    Evolves 276479424074000478538283058761087898239 s (decoderResult j r s) := by
  unfold decoderResult
  with_reducible repeat'
    first
    | apply Evolves.refl | apply Evolves.step (ev_passTo ..) | apply Evolves.step (ev_setPool ..)
    | apply Evolves.step (ev_leaveService ..) | apply Evolves.step (ev_codewordResult ..)
    | apply Evolves.step (ev_wrapperAnswer ..) | apply Evolves.bump | apply Evolves.ite | apply Evolves.ofPair ‹_›
    | apply Evolves.ofTriple ‹_› | split | dsimp only | decide | rfl | intro _

theorem ev_bypassResult (n : Nat) (bits : Nat) (first : Bool) (last : Bool) (r : CwResult) (s : State) :
    Evolves 276479424074000477947987248402113778191 s (bypassResult n bits first last r s) := by
  unfold bypassResult
  with_reducible repeat'
    first
    | apply Evolves.refl | apply Evolves.step (ev_codewordResult ..) | apply Evolves.step (ev_takeBits ..)
    | apply Evolves.ite | apply Evolves.ofPair ‹_› | apply Evolves.ofTriple ‹_› | split | dsimp only | decide | rfl
    | intro _

theorem ev_execCodewordDecoded (src : CwFrom) (r : CwResult) (s : State) :
    OutEvolves 276479424074000478538283058761087898239 s (execCodewordDecoded src r s) := by
  unfold execCodewordDecoded
  with_reducible repeat'
    first
    | apply Evolves.refl | apply OutEvolves.onIsland | apply Evolves.step (ev_decoderResult ..)
    | apply Evolves.step (ev_bypassResult ..) | apply Evolves.ofPair ‹_› | apply Evolves.ofTriple ‹_› | split
    | dsimp only | decide | rfl | intro _

theorem ev_ageDiscard (s : State) : Evolves 255211775190703852854853016581318148731 s (ageDiscard s) := by
  unfold ageDiscard
  with_reducible repeat'
    first
    | apply Evolves.refl | apply Evolves.step (ev_passTo ..) | apply Evolves.step (ev_raise ..)
    | apply Evolves.step (ev_popHead ..) | apply Evolves.step (ev_uncorrectable ..)
    | apply Evolves.step (ev_wrapperAnswer ..) | apply Evolves.bump | apply Evolves.ite | apply Evolves.ofPair ‹_›
    | apply Evolves.ofTriple ‹_› | split | dsimp only | decide | rfl | intro _

theorem ev_execCodewordAgeDiscard (s : State) :
    OutEvolves 255211775190703852854853016581318148731 s (execCodewordAgeDiscard s) := by
  unfold execCodewordAgeDiscard
  with_reducible repeat'
    first
    | apply Evolves.refl | apply OutEvolves.next | apply Evolves.step (ev_ageDiscard ..) | dsimp only | decide | rfl
    | intro _

end Sys2Proof.Machine
end

