-- ==== Sys2Proof/Laws/EvCipher.lean ====
section
/-!
SUPPORT. What the operations of Machine/Cipher.lean may touch (Safety.lean, Evolves).
-/

namespace Sys2Proof.Machine

set_option Elab.async false
set_option linter.all false

theorem ev_State_setCph (s : State) (d : Nat) (x : Cipher) : Evolves 33554432 s (State.setCph s d x) := by
  unfold State.setCph
  with_reducible repeat'
    first
    | apply Evolves.refl | dsimp only | decide | rfl | intro _ | apply Evolves.upd_cipher

theorem ev_setInv (d : Nat) (f : Nat) (slot : Nat) (v : Nat) (s : State) :
    Evolves 324518553658426726783156020576257 s (setInv d f slot v s) := by
  unfold setInv
  with_reducible repeat'
    first
    | apply Evolves.refl | apply Evolves.wrx | apply Evolves.ite | split | dsimp only | decide | rfl | intro _

theorem ev_setSlotValid (d : Nat) (f : Nat) (slot : Nat) (b : Bool) (s : State) :
    Evolves 324518553658426726783156020576257 s (setSlotValid d f slot b s) := by
  unfold setSlotValid
  with_reducible repeat'
    first
    | apply Evolves.refl | apply Evolves.wrx | dsimp only | decide | rfl | intro _

theorem ev_holdDrop (d : Nat) (u1 : State) : Evolves 81129638414606681695789005144073 u1 (holdDrop d u1) := by
  unfold holdDrop
  with_reducible repeat'
    first
    | apply Evolves.refl | apply Evolves.bump | dsimp only | decide | rfl | intro _

theorem ev_flowErr (d : Nat) (f : Nat) (s : State) : Evolves 324518553658426726783156020576257 s (flowErr d f s) := by
  unfold flowErr
  with_reducible repeat'
    first
    | apply Evolves.refl | apply Evolves.wrx | dsimp only | decide | rfl | intro _

theorem ev_flowHoldAt (d : Nat) (f : Nat) (slot : Nat) (s : State) :
    Evolves 255212099709257506024257738729846735371 s (flowHoldAt d f slot s) := by
  unfold flowHoldAt
  with_reducible repeat'
    first
    | apply Evolves.refl | apply Evolves.step (ev_raise ..) | apply Evolves.wrx | apply Evolves.ite | split | dsimp only
    | decide | rfl | intro _

theorem ev_upstreamSwitch (f : Nat) (slot : Nat) (s : State) :
    Evolves 324518553658426726783156020576257 s (upstreamSwitch f slot s) := by
  unfold upstreamSwitch
  with_reducible repeat'
    first
    | apply Evolves.refl | apply Evolves.wrx | apply Evolves.ite | split | dsimp only | decide | rfl | intro _

theorem ev_flowHold (d : Nat) (f : Nat) (s : State) :
    Evolves 255212099709257506024257738729846735371 s (flowHold d f s) := by
  unfold flowHold
  with_reducible repeat'
    first
    | apply Evolves.refl | apply Evolves.step (ev_flowHoldAt ..) | dsimp only | decide | rfl | intro _

theorem ev_execFlowHold (d : Fin 2) (f : BitVec 13) (s : State) :
    OutEvolves 255212099709257506024257738729846735371 s (execFlowHold d f s) := by
  unfold execFlowHold
  with_reducible repeat'
    first
    | apply Evolves.refl | apply OutEvolves.onIsland | apply Evolves.step (ev_flowHold ..) | dsimp only | decide | rfl
    | intro _

theorem ev_setFlowKey (d : Nat) (f : Nat) (slot : Nat) (key : Nat) (count : Nat) (image : Bool) (s : State) :
    Evolves 324518553658426726783156054654977 s (setFlowKey d f slot key count image s) := by
  unfold setFlowKey
  with_reducible repeat'
    first
    | apply Evolves.refl | apply Evolves.step (ev_State_setCph ..) | apply Evolves.step (ev_mirrorOut ..)
    | apply Evolves.step (ev_setInv ..) | apply Evolves.step (ev_setSlotValid ..) | apply Evolves.ite | split
    | dsimp only | decide | rfl | intro _

theorem ev_clearSlot (d : Nat) (f : Nat) (slot : Nat) (s : State) :
    Evolves 324518553658426726783156054654977 s (clearSlot d f slot s) := by
  unfold clearSlot
  with_reducible repeat'
    first
    | apply Evolves.refl | apply Evolves.step (ev_State_setCph ..) | apply Evolves.step (ev_mirrorWord ..)
    | apply Evolves.step (ev_setInv ..) | apply Evolves.step (ev_setSlotValid ..) | dsimp only | decide | rfl | intro _

theorem ev_carryBad (d : Nat) (e : Nat) (no : Nat) (s : State) : Evolves 33554432 s (carryBad d e no s) := by
  unfold carryBad
  with_reducible repeat'
    first
    | apply Evolves.refl | apply Evolves.step (ev_State_setCph ..) | apply Evolves.ite | split | dsimp only | decide
    | rfl | intro _

theorem ev_loadRing (d : Nat) (f : Nat) (s : State) : Evolves 324518553658426726783156054654977 s (loadRing d f s) := by
  unfold loadRing
  with_reducible repeat'
    first
    | apply Evolves.refl | apply Evolves.step (ev_mirrorWord ..) | apply Evolves.step (ev_carryBad ..)
    | apply Evolves.step (ev_setFlowKey ..) | apply Evolves.wrx | dsimp only | decide | rfl | intro _

theorem ev_pendSwitch (d : Nat) (f : Nat) (auto_ : Bool) (s : State) : Evolves 33554432 s (pendSwitch d f auto_ s) := by
  unfold pendSwitch
  with_reducible repeat'
    first
    | apply Evolves.refl | apply Evolves.step (ev_State_setCph ..) | dsimp only | decide | rfl | intro _

theorem ev_autoRekey (d : Nat) (f : Nat) (s : State) :
    Evolves 255212180838895920630939434518885958155 s (autoRekey d f s) := by
  unfold autoRekey
  with_reducible repeat'
    first
    | apply Evolves.refl | apply Evolves.step (ev_raise ..) | apply Evolves.step (ev_State_setCph ..)
    | apply Evolves.step (ev_pendSwitch ..) | apply Evolves.step (ev_loadRing ..) | apply Evolves.bump
    | apply Evolves.ite | split | dsimp only | decide | rfl | intro _

theorem ev_invocationWarning (d : Nat) (f : Nat) (s : State) :
    Evolves 255212180838895920630939434518885958155 s (invocationWarning d f s) := by
  unfold invocationWarning
  with_reducible repeat'
    first
    | apply Evolves.refl | apply Evolves.step (ev_autoRekey ..) | apply Evolves.step (ev_raise ..)
    | apply Evolves.step (ev_State_setCph ..) | apply Evolves.ite | split | dsimp only | decide | rfl | intro _

theorem ev_execInvocationWarning (d : Fin 2) (f : BitVec 13) (s : State) :
    OutEvolves 255212180838895920630939434518885958155 s (execInvocationWarning d f s) := by
  unfold execInvocationWarning
  with_reducible repeat'
    first
    | apply Evolves.refl | apply OutEvolves.onIsland | apply Evolves.step (ev_invocationWarning ..) | dsimp only
    | decide | rfl | intro _

theorem ev_slotSwitch (n : Nat) (k : Nat) (s : State) :
    Evolves 255212180838895920630939434518885958155 s (slotSwitch n k s) := by
  unfold slotSwitch
  with_reducible repeat'
    first
    | apply Evolves.refl | apply Evolves.step (ev_State_setCph ..) | apply Evolves.step (ev_mirrorWord ..)
    | apply Evolves.step (ev_raise ..) | apply Evolves.wrx | apply Evolves.bump | apply Evolves.onlyIf
    | apply Evolves.allOf | apply Evolves.ite | split | dsimp only | decide | rfl | intro _

theorem ev_oldSlotExpiry (d : Nat) (f : Nat) (s : State) :
    Evolves 324518553658426726783156323090553 s (oldSlotExpiry d f s) := by
  unfold oldSlotExpiry
  with_reducible repeat'
    first
    | apply Evolves.refl | apply Evolves.step (ev_passToFrame ..) | apply Evolves.step (ev_State_setCph ..)
    | apply Evolves.step (ev_clearSlot ..) | apply Evolves.ite | apply Evolves.ofPair ‹_› | apply Evolves.ofTriple ‹_›
    | split | dsimp only | decide | rfl | intro _

theorem ev_execOldSlotExpiry (d : Fin 2) (f : BitVec 13) (s : State) :
    OutEvolves 324518553658426726783156323091065 s (execOldSlotExpiry d f s) := by
  unfold execOldSlotExpiry
  with_reducible repeat'
    first
    | apply Evolves.refl | apply OutEvolves.onIsland | apply Evolves.step (ev_oldSlotExpiry ..) | dsimp only | decide
    | rfl | intro _

theorem ev_fkeyWrite (d : Nat) (w : Nat) (s : State) :
    Evolves 255212180838895920630939434518885960203 s (fkeyWrite d w s) := by
  unfold fkeyWrite
  with_reducible repeat'
    first
    | apply Evolves.refl | apply Evolves.step (ev_setVerdict ..) | apply Evolves.step (ev_raise ..)
    | apply Evolves.step (ev_State_setCph ..) | apply Evolves.step (ev_setFlowKey ..) | apply Evolves.wr
    | apply Evolves.onlyIf | apply Evolves.ite | split | dsimp only | decide | rfl | intro _

theorem ev_fkeyData (d : Nat) (w : Nat) (u2 : State) :
    Evolves 265846004805175247614169891001128716811 u2 (fkeyData d w u2) := by
  unfold fkeyData
  with_reducible repeat'
    first
    | apply Evolves.refl | apply Evolves.guarded | apply Evolves.step (ev_fkeyWrite ..) | dsimp only | decide | rfl
    | intro _

theorem ev_execFlowKeyCommit (d : Fin 2) (w : Word) (s : State) :
    OutEvolves 265846004805175247614169891001128716811 s (execFlowKeyCommit d w s) := by
  unfold execFlowKeyCommit
  with_reducible repeat'
    first
    | apply Evolves.refl | apply OutEvolves.onIsland | apply Evolves.step (ev_fkeyData ..) | dsimp only | decide | rfl
    | intro _

theorem ev_tkeyWrite (d : Nat) (w : Nat) (s : State) :
    Evolves 255211856320342262204212651362865383947 s (tkeyWrite d w s) := by
  unfold tkeyWrite
  with_reducible repeat'
    first
    | apply Evolves.refl | apply Evolves.step (ev_setVerdict ..) | apply Evolves.step (ev_raise ..)
    | apply Evolves.step (ev_State_setCph ..) | apply Evolves.step (ev_mirrorOut ..) | apply Evolves.wr
    | apply Evolves.onlyIf | apply Evolves.ite | split | dsimp only | decide | rfl | intro _

theorem ev_tkeyData (d : Nat) (w : Nat) (u2 : State) :
    Evolves 265845680286621589187443107845108140555 u2 (tkeyData d w u2) := by
  unfold tkeyData
  with_reducible repeat'
    first
    | apply Evolves.refl | apply Evolves.guarded | apply Evolves.step (ev_tkeyWrite ..) | dsimp only | decide | rfl
    | intro _

theorem ev_execTerminalKeyCommit (d : Fin 2) (w : Word) (s : State) :
    OutEvolves 265845680286621589187443107845108140555 s (execTerminalKeyCommit d w s) := by
  unfold execTerminalKeyCommit
  with_reducible repeat'
    first
    | apply Evolves.refl | apply OutEvolves.onIsland | apply Evolves.step (ev_tkeyData ..) | dsimp only | decide | rfl
    | intro _

theorem ev_ringWriteKey (d : Nat) (w : Nat) (s : State) :
    Evolves 81129638414606681695789039222785 s (ringWriteKey d w s) := by
  unfold ringWriteKey
  with_reducible repeat'
    first
    | apply Evolves.refl | apply Evolves.step (ev_State_setCph ..) | apply Evolves.step (ev_mirrorOut ..)
    | apply Evolves.advanceIndex | apply Evolves.ite | split | dsimp only | decide | rfl | intro _

theorem ev_ringKeyData (d : Nat) (w : Nat) (u2 : State) :
    Evolves 265845680286621589187443107845108140555 u2 (ringKeyData d w u2) := by
  unfold ringKeyData
  with_reducible repeat'
    first
    | apply Evolves.refl | apply Evolves.guarded | apply Evolves.step (ev_ringWriteKey ..) | dsimp only | decide | rfl
    | intro _

theorem ev_execRingKeyCommit (d : Fin 2) (w : Word) (s : State) :
    OutEvolves 265845680286621589187443107845108140555 s (execRingKeyCommit d w s) := by
  unfold execRingKeyCommit
  with_reducible repeat'
    first
    | apply Evolves.refl | apply OutEvolves.onIsland | apply Evolves.step (ev_ringKeyData ..) | dsimp only | decide
    | rfl | intro _

theorem ev_rekeyDone (d : Nat) (op : Nat) (n : Nat) (tgt : Nat) (err : Nat) (s : State) :
    Evolves 81129638414606681695789005144065 s (rekeyDone d op n tgt err s) := by
  unfold rekeyDone
  with_reducible repeat'
    first
    | apply Evolves.refl | apply Evolves.wr | dsimp only | decide | rfl | intro _

theorem ev_rekeyRefuse (d : Nat) (op : Nat) (n : Nat) (tgt : Nat) (s : State) :
    Evolves 255211856320342262204212651362831305227 s (rekeyRefuse d op n tgt s) := by
  unfold rekeyRefuse
  with_reducible repeat'
    first
    | apply Evolves.refl | apply Evolves.step (ev_setVerdict ..) | apply Evolves.step (ev_raise ..)
    | apply Evolves.step (ev_rekeyDone ..) | dsimp only | decide | rfl | intro _

theorem ev_rekeyTerminal (d : Nat) (n : Nat) (t : Nat) (s : State) :
    Evolves 255211856320342262204212651362865383947 s (rekeyTerminal d n t s) := by
  unfold rekeyTerminal
  with_reducible repeat'
    first
    | apply Evolves.refl | apply Evolves.step (ev_rekeyRefuse ..) | apply Evolves.step (ev_raise ..)
    | apply Evolves.step (ev_rekeyDone ..) | apply Evolves.step (ev_mirrorOut ..)
    | apply Evolves.step (ev_State_setCph ..) | apply Evolves.bump | apply Evolves.ite | split | dsimp only | decide
    | rfl | intro _

theorem ev_rekeyFlow (d : Nat) (n : Nat) (f : Nat) (s : State) :
    Evolves 255211856320342262204212651362864859659 s (rekeyFlow d n f s) := by
  unfold rekeyFlow
  with_reducible repeat'
    first
    | apply Evolves.refl | apply Evolves.step (ev_rekeyRefuse ..) | apply Evolves.step (ev_rekeyDone ..)
    | apply Evolves.step (ev_pendSwitch ..) | apply Evolves.ite | split | dsimp only | decide | rfl | intro _

theorem ev_rekeyLoad (d : Nat) (n : Nat) (f : Nat) (s : State) :
    Evolves 255212180838895920630939434518885960203 s (rekeyLoad d n f s) := by
  unfold rekeyLoad
  with_reducible repeat'
    first
    | apply Evolves.refl | apply Evolves.step (ev_rekeyRefuse ..) | apply Evolves.step (ev_rekeyDone ..)
    | apply Evolves.step (ev_loadRing ..) | apply Evolves.ite | split | dsimp only | decide | rfl | intro _

theorem ev_rekeyClear (d : Nat) (n : Nat) (f : Nat) (s : State) :
    Evolves 405648192073033408478945059799553 s (rekeyClear d n f s) := by
  unfold rekeyClear
  with_reducible repeat'
    first
    | apply Evolves.refl | apply Evolves.step (ev_rekeyDone ..) | apply Evolves.step (ev_clearSlot ..)
    | apply Evolves.step (ev_wrapperAnswer ..) | apply Evolves.ite | split | dsimp only | decide | rfl | intro _

theorem ev_rekeyGo (d : Nat) (op : Nat) (n : Nat) (tgt : Nat) (s : State) :
    Evolves 265846004805175247614169891001128716811 s (rekeyGo d op n tgt s) := by
  unfold rekeyGo
  with_reducible repeat'
    first
    | apply Evolves.refl | apply Evolves.guarded | apply Evolves.step (ev_rekeyTerminal ..)
    | apply Evolves.step (ev_rekeyFlow ..) | apply Evolves.step (ev_rekeyLoad ..)
    | apply Evolves.step (ev_rekeyClear ..) | apply Evolves.ite | split | dsimp only | decide | rfl | intro _

theorem ev_execRekeyTerminalSwitch (d : Fin 2) (n : Fin 48) (t : BitVec 10) (s : State) :
    OutEvolves 265846004805175247614169891001128716811 s (execRekeyTerminalSwitch d n t s) := by
  unfold execRekeyTerminalSwitch
  with_reducible repeat'
    first
    | apply Evolves.refl | apply OutEvolves.onIsland | apply Evolves.step (ev_rekeyGo ..) | dsimp only | decide | rfl
    | intro _

theorem ev_execRekeyFlowSwitch (d : Fin 2) (f : BitVec 13) (s : State) :
    OutEvolves 265846004805175247614169891001128716811 s (execRekeyFlowSwitch d f s) := by
  unfold execRekeyFlowSwitch
  with_reducible repeat'
    first
    | apply Evolves.refl | apply OutEvolves.onIsland | apply Evolves.step (ev_rekeyGo ..) | dsimp only | decide | rfl
    | intro _

theorem ev_execRekeyLoadRing (d : Fin 2) (f : BitVec 13) (s : State) :
    OutEvolves 265846004805175247614169891001128716811 s (execRekeyLoadRing d f s) := by
  unfold execRekeyLoadRing
  with_reducible repeat'
    first
    | apply Evolves.refl | apply OutEvolves.onIsland | apply Evolves.step (ev_rekeyGo ..) | dsimp only | decide | rfl
    | intro _

theorem ev_execRekeyClearSlot (d : Fin 2) (f : BitVec 13) (s : State) :
    OutEvolves 265846004805175247614169891001128716811 s (execRekeyClearSlot d f s) := by
  unfold execRekeyClearSlot
  with_reducible repeat'
    first
    | apply Evolves.refl | apply OutEvolves.onIsland | apply Evolves.step (ev_rekeyGo ..) | dsimp only | decide | rfl
    | intro _

theorem ev_setStatus (d : Nat) (f : Nat) (iv : Nat) (st : Nat) (s : State) :
    Evolves 324518553658426726783156020576257 s (setStatus d f iv st s) := by
  unfold setStatus
  with_reducible repeat'
    first
    | apply Evolves.refl | apply Evolves.wrWord | dsimp only | decide | rfl | intro _

theorem ev_heldStatus (d : Nat) (f : Nat) (slot : Nat) (iv : Nat) (len : Nat) (u5 : State) :
    Evolves 324518553658426726783156020576257 u5 (heldStatus d f slot iv len u5) := by
  unfold heldStatus
  with_reducible repeat'
    first
    | apply Evolves.refl | apply Evolves.step (ev_setStatus ..) | dsimp only | decide | rfl | intro _

theorem ev_invoke (d : Nat) (f : Nat) (slot : Nat) (sfc : Nat) (iv : Nat) (len : Nat) (crl : Bool) (s : State) :
    Evolves 255212180838895920630939434518885433867 s (invoke d f slot sfc iv len crl s).2 := by
  unfold invoke
  with_reducible repeat'
    first
    | apply Evolves.refl | apply Evolves.step (ev_flowHoldAt ..) | apply Evolves.step (ev_upstreamSwitch ..)
    | apply Evolves.step (ev_raise ..) | apply Evolves.step (ev_heldStatus ..) | apply Evolves.step (ev_flowErr ..)
    | apply Evolves.step (ev_holdDrop ..) | apply Evolves.step (ev_setStatus ..) | apply Evolves.step (ev_setInv ..)
    | apply Evolves.step (ev_State_setCph ..) | apply Evolves.bump | apply Evolves.ite | split | dsimp only | decide
    | rfl | intro _

theorem ev_dsLeaves (n : Nat) (port : Nat) (len : Nat) (o : DsOut) (s : State) :
    Evolves 276479424074000451735163919660839080463 s (dsLeaves n port len o s).2 := by
  unfold dsLeaves
  with_reducible repeat'
    first
    | apply Evolves.refl | apply Evolves.step (ev_captureAt ..) | dsimp only | decide | rfl | intro _

theorem ev_cipherDs (t : Treat) (k : Nat) (n : Nat) (port : Nat) (len : Nat) (ofs : Nat) (crl : Bool) (bytes : List Byte) (s : State) :
    Evolves 276479829722192524768572398605898355215 s (cipherDs t k n port len ofs crl bytes s).2 := by
  unfold cipherDs
  with_reducible repeat'
    first
    | apply Evolves.refl | apply Evolves.step (ev_holdDrop ..) | apply Evolves.step (ev_dsLeaves ..)
    | apply Evolves.step (ev_raise ..) | apply Evolves.step (ev_invoke ..) | apply Evolves.step (ev_setStatus ..)
    | apply Evolves.bump | apply Evolves.ite | apply Evolves.ofPair ‹_› | apply Evolves.ofTriple ‹_› | split
    | dsimp only | decide | rfl | intro _

theorem ev_idleSdu (n : Nat) (x : Sdu) (s : State) : Evolves 16384 s (idleSdu n x s) := by
  unfold idleSdu
  with_reducible repeat'
    first
    | apply Evolves.refl | apply Evolves.step (ev_State_setFram ..) | apply Evolves.ite | split | dsimp only | decide
    | rfl | intro _

theorem ev_takeSdu (n : Nat) (s : State) : Evolves 16384 s (takeSdu n s) := by
  unfold takeSdu
  with_reducible repeat'
    first
    | apply Evolves.refl | apply Evolves.step (ev_State_setFram ..) | dsimp only | decide | rfl | intro _

theorem ev_loseSdus (n : Nat) (p : Sdu → Bool) (s : State) : Evolves 16384 s (loseSdus n p s) := by
  unfold loseSdus
  with_reducible repeat'
    first
    | apply Evolves.refl | apply Evolves.step (ev_idleSdu ..) | apply Evolves.step (ev_State_setFram ..)
    | apply Evolves.allOf | dsimp only | decide | rfl | intro _

theorem ev_framerGets (n : Nat) (x : Sdu) (o : DsOut) (s : State) : Evolves 16384 s (framerGets n x o s) := by
  unfold framerGets
  with_reducible repeat'
    first
    | apply Evolves.refl | apply Evolves.step (ev_State_setFram ..) | dsimp only | decide | rfl | intro _

theorem ev_execCipherDsSdu (n : Fin 48) (port : BitVec 16) (len : BitVec 14) (ofs : BitVec 20) (bytes : List Byte) (s : State) :
    OutEvolves 276479829722192524768572398605898371599 s (execCipherDsSdu n port len ofs bytes s) := by
  unfold execCipherDsSdu
  with_reducible repeat'
    first
    | apply Evolves.refl | apply OutEvolves.next | apply Evolves.step (ev_cipherDs ..)
    | apply Evolves.step (ev_takeSdu ..) | apply Evolves.step (ev_framerGets ..) | apply Evolves.step (ev_idleSdu ..)
    | apply Evolves.step (ev_wrapperAnswer ..) | apply Evolves.ite | apply Evolves.ofPair ‹_›
    | apply Evolves.ofTriple ‹_› | split | dsimp only | decide | rfl | intro _

theorem ev_tagFailed (f : Nat) (s : State) : Evolves 255212180838895920630939434518851879435 s (tagFailed f s) := by
  unfold tagFailed
  with_reducible repeat'
    first
    | apply Evolves.refl | apply Evolves.step (ev_raise ..) | apply Evolves.step (ev_flowErr ..) | apply Evolves.bump
    | dsimp only | decide | rfl | intro _

theorem ev_keyError (n : Nat) (port : Nat) (s : State) :
    Evolves 255211856320342262204212651362831303179 s (keyError n port s) := by
  unfold keyError
  with_reducible repeat'
    first
    | apply Evolves.refl | apply Evolves.step (ev_raise ..) | apply Evolves.bump | dsimp only | decide | rfl | intro _

theorem ev_omciCheck (n : Nat) (port : Nat) (t : Treat) (clear : List Byte) (s : State) :
    Evolves 255211856320342262204212651362831303179 s (omciCheck n port t clear s).2 := by
  unfold omciCheck
  with_reducible repeat'
    first
    | apply Evolves.refl | apply Evolves.step (ev_holdDrop ..) | apply Evolves.step (ev_raise ..) | apply Evolves.bump
    | unfold upDrop | apply Evolves.ite | split | dsimp only | decide | rfl | intro _

theorem ev_tagVerdict (f : Nat) (slot : Nat) (iv : Nat) (len : Nat) (ct : Nat) (ok : Bool) (s : State) :
    Evolves 255212180838895920630939434518851879435 s (tagVerdict f slot iv len ct ok s) := by
  unfold tagVerdict
  with_reducible repeat'
    first
    | apply Evolves.refl | apply Evolves.step (ev_setStatus ..) | apply Evolves.step (ev_tagFailed ..)
    | apply Evolves.bump | apply Evolves.ite | split | dsimp only | decide | rfl | intro _

theorem ev_cipherUs (t : Treat) (n : Nat) (port : Nat) (ki : Nat) (frame : Nat) (index : Nat) (crl : Bool) (whole : Bool) (hdr : List Byte) (pay : List Byte) (tag : List Byte) (s : State) :
    Evolves 255212180838895920630939434518885433867 s (cipherUs t n port ki frame index crl whole hdr pay tag s).2 := by
  unfold cipherUs
  with_reducible repeat'
    first
    | apply Evolves.refl | apply Evolves.step (ev_keyError ..) | apply Evolves.step (ev_omciCheck ..)
    | apply Evolves.step (ev_holdDrop ..) | apply Evolves.step (ev_State_setCph ..) | apply Evolves.step (ev_invoke ..)
    | apply Evolves.step (ev_tagVerdict ..) | apply Evolves.bump | unfold upDrop | apply Evolves.ite
    | apply Evolves.ofPair ‹_› | apply Evolves.ofTriple ‹_› | split | dsimp only | decide | rfl | intro _

theorem ev_freeSdu (n : Nat) (h : Nat) (s : State) :
    Evolves 255211776141441797768703006696353567243 s (freeSdu n h s) := by
  unfold freeSdu
  with_reducible repeat'
    first
    | apply Evolves.refl | apply Evolves.step (ev_freeHandle ..) | apply Evolves.ite | split | dsimp only | decide | rfl
    | intro _

theorem ev_upstreamSdu (n : Nat) (ki : Nat) (frame : Nat) (index : Nat) (whole : Bool) (bytes : List Byte) (s : State) :
    Evolves 276479829722192524768572398605965480463 s (upstreamSdu n ki frame index whole bytes s) := by
  unfold upstreamSdu
  with_reducible repeat'
    first
    | apply Evolves.refl | apply Evolves.step (ev_State_setFram ..) | apply Evolves.step (ev_cipherUs ..)
    | apply Evolves.step (ev_freeSdu ..) | apply Evolves.step (ev_captureAt ..)
    | apply Evolves.step (ev_wrapperAnswer ..) | apply Evolves.ite | apply Evolves.ofPair ‹_›
    | apply Evolves.ofTriple ‹_› | apply Evolves.ofQuad ‹_› | split | dsimp only | decide | rfl | intro _
    | apply Evolves.upd_upSdus

theorem ev_execCipherUsSdu (n : Fin 48) (ki : Fin 4) (frame : BitVec 51) (index : BitVec 38) (whole : Bool) (_tagOk : Bool) (_micOk : Bool) (bytes : List Byte) (s : State) :
    OutEvolves 276479829722192524768572398605965480463 s (execCipherUsSdu n ki frame index whole _tagOk _micOk bytes s) := by
  unfold execCipherUsSdu
  with_reducible repeat'
    first
    | apply Evolves.refl | apply OutEvolves.onIsland | apply Evolves.step (ev_upstreamSdu ..) | dsimp only | decide
    | rfl | intro _

theorem ev_flowDataWrite (d : Nat) (w : Nat) (s : State) :
    Evolves 265846004805175247614169891001128192523 s (flowDataWrite d w s) := by
  unfold flowDataWrite
  with_reducible repeat'
    first
    | apply Evolves.refl | apply Evolves.step (ev_encReject ..) | apply Evolves.step (ev_State_setCph ..)
    | apply Evolves.wrx | apply Evolves.wrWord | apply Evolves.advanceIndex | apply Evolves.onlyIf | apply Evolves.ite
    | split | dsimp only | decide | rfl | intro _

theorem ev_execFlowWrite (d : Fin 2) (w : Word) (s : State) :
    OutEvolves 265846004805175247614169891001128192523 s (execFlowWrite d w s) := by
  unfold execFlowWrite
  with_reducible repeat'
    first
    | apply Evolves.refl | apply OutEvolves.onIsland | apply Evolves.step (ev_flowDataWrite ..) | dsimp only | decide
    | rfl | intro _

theorem ev_portAdvance (d : Nat) (u1 : State) : Evolves 81129638414606681695789005144065 u1 (portAdvance d u1) := by
  unfold portAdvance
  with_reducible repeat'
    first
    | apply Evolves.refl | apply Evolves.advanceIndex | dsimp only | decide | rfl | intro _

theorem ev_cipherPortWrite (d : Nat) (w : Nat) (s : State) :
    Evolves 265845842545898418400806499423084349963 s (cipherPortWrite d w s) := by
  unfold cipherPortWrite
  with_reducible repeat'
    first
    | apply Evolves.refl | apply Evolves.step (ev_encReject ..) | apply Evolves.step (ev_portAdvance ..)
    | apply Evolves.wrWord | apply Evolves.ite | split | dsimp only | decide | rfl | intro _

theorem ev_execCipherPortWrite (d : Fin 2) (w : Word) (s : State) :
    OutEvolves 265845842545898418400806499423084349963 s (execCipherPortWrite d w s) := by
  unfold execCipherPortWrite
  with_reducible repeat'
    first
    | apply Evolves.refl | apply OutEvolves.onIsland | apply Evolves.step (ev_cipherPortWrite ..) | dsimp only | decide
    | rfl | intro _

theorem ev_coldHoldBegin (d : Nat) (s : State) :
    Evolves 255211856320342262204212651362831303179 s (coldHoldBegin d s) := by
  unfold coldHoldBegin
  with_reducible repeat'
    first
    | apply Evolves.refl | apply Evolves.step (ev_raise ..) | apply Evolves.wr | apply Evolves.ite | split | dsimp only
    | decide | rfl | intro _

theorem ev_cphCtlWrite (d : Nat) (w : Nat) (s : State) :
    Evolves 265845680286621589187443107845074061835 s (cphCtlWrite d w s) := by
  unfold cphCtlWrite
  with_reducible repeat'
    first
    | apply Evolves.refl | apply Evolves.step (ev_raise ..) | apply Evolves.step (ev_coldHoldBegin ..)
    | apply Evolves.writeReg | apply Evolves.wr | apply Evolves.ite | split | dsimp only | decide | rfl | intro _

theorem ev_coldHoldEnd (s : State) : Evolves 255211856320342262204212651362831304203 s (coldHoldEnd s) := by
  unfold coldHoldEnd
  with_reducible repeat'
    first
    | apply Evolves.refl | apply Evolves.step (ev_raise ..) | apply Evolves.wr | apply Evolves.allOf | apply Evolves.ite
    | split | dsimp only | decide | rfl | intro _ | apply Evolves.upd_rst

theorem ev_cipherHold (s : State) : Evolves 33554432 s (cipherHold s) := by
  unfold cipherHold
  with_reducible repeat'
    first
    | apply Evolves.refl | apply Evolves.step (ev_State_setCph ..) | dsimp only | decide | rfl | intro _

theorem ev_cipherTakeover (linkDown : Bool) (s : State) :
    Evolves 324518553658426726783156054130689 s (cipherTakeover linkDown s) := by
  unfold cipherTakeover
  with_reducible repeat'
    first
    | apply Evolves.refl | apply Evolves.step (ev_setInv ..) | apply Evolves.step (ev_cipherHold ..)
    | apply Evolves.onlyIf | apply Evolves.allOf | apply Evolves.ite | split | dsimp only | decide | rfl | intro _

theorem ev_flowKeyError (d : Nat) (no : Nat) (s : State) :
    Evolves 255212099709257506024257738729880289803 s (flowKeyError d no s) := by
  unfold flowKeyError
  with_reducible repeat'
    first
    | apply Evolves.refl | apply Evolves.step (ev_raise ..) | apply Evolves.step (ev_State_setCph ..)
    | apply Evolves.wrx | apply Evolves.onlyIf | dsimp only | decide | rfl | intro _

theorem ev_terminalKeyError (d : Nat) (no : Nat) (s : State) :
    Evolves 255211775190703847597530955573859713546 s (terminalKeyError d no s) := by
  unfold terminalKeyError
  with_reducible repeat'
    first
    | apply Evolves.refl | apply Evolves.step (ev_raise ..) | apply Evolves.step (ev_State_setCph ..) | dsimp only
    | decide | rfl | intro _

theorem ev_ringKeyError (d : Nat) (e : Nat) (s : State) :
    Evolves 255211775190703847597530955573859713546 s (ringKeyError d e s) := by
  unfold ringKeyError
  with_reducible repeat'
    first
    | apply Evolves.refl | apply Evolves.step (ev_raise ..) | apply Evolves.step (ev_State_setCph ..) | dsimp only
    | decide | rfl | intro _

end Sys2Proof.Machine
end

