-- ==== Sys2Proof/Laws/EvQueue.lean ====
section
/-!
SUPPORT. What the operations of Machine/Queue.lean may touch (Safety.lean, Evolves).
-/

namespace Sys2Proof.Machine

set_option Elab.async false
set_option linter.all false

theorem ev_State_setNode (s : State) (d : Node) (x : NodeX) : Evolves 4194304 s (State.setNode s d x) := by
  unfold State.setNode
  with_reducible repeat'
    first
    | apply Evolves.refl | dsimp only | decide | rfl | intro _ | apply Evolves.upd_queues

theorem ev_State_setTmdTree (s : State) (n : Nat) (x : TmdTree) : Evolves 4194304 s (State.setTmdTree s n x) := by
  unfold State.setTmdTree
  with_reducible repeat'
    first
    | apply Evolves.refl | dsimp only | decide | rfl | intro _ | apply Evolves.upd_queues

theorem ev_State_setTmuPort (s : State) (p : Nat) (x : TmuPort) : Evolves 4194304 s (State.setTmuPort s p x) := by
  unfold State.setTmuPort
  with_reducible repeat'
    first
    | apply Evolves.refl | dsimp only | decide | rfl | intro _ | apply Evolves.upd_queues

theorem Evolves.nwr {m : Nat} {s t : State} {f : Fld} {d : Node} {v : Nat} (h : Evolves m s t)
    (hm : wordMask f.sp ||| m = m := by decide) : Evolves m s (nwr f d v t) := Evolves.wrx h hm

theorem ev_refill (d : Node) (s : State) : Evolves 4194304 s (refill d s) := by
  unfold refill
  with_reducible repeat'
    first
    | apply Evolves.refl | apply Evolves.step (ev_State_setNode ..) | dsimp only | decide | rfl | intro _

theorem ev_becomeEligible (parent : Node) (c : Node) (s : State) : Evolves 4194304 s (becomeEligible parent c s) := by
  unfold becomeEligible
  with_reducible repeat'
    first
    | apply Evolves.refl | apply Evolves.step (ev_State_setNode ..) | apply Evolves.ite | split | dsimp only | decide
    | rfl | intro _

theorem ev_commitChild (parent : Node) (c : Node) (len : Nat) (s : State) :
    Evolves 4194304 s (commitChild parent c len s) := by
  unfold commitChild
  with_reducible repeat'
    first
    | apply Evolves.refl | apply Evolves.step (ev_refill ..) | apply Evolves.step (ev_State_setNode ..)
    | apply Evolves.ite | split | dsimp only | decide | rfl | intro _

theorem ev_settleChild (still : Bool) (c : Node) (s : State) : Evolves 4194304 s (settleChild still c s) := by
  unfold settleChild
  with_reducible repeat'
    first
    | apply Evolves.refl | apply Evolves.step (ev_State_setNode ..) | dsimp only | decide | rfl | intro _

theorem ev_pushFrame (d : Node) (f : QFrame) (charged : Nat) (s : State) :
    Evolves 10141204801825835211973629837313 s (pushFrame d f charged s) := by
  unfold pushFrame
  with_reducible repeat'
    first
    | apply Evolves.refl | apply Evolves.step (ev_State_setNode ..) | apply Evolves.nwr | dsimp only | decide | rfl
    | intro _

theorem ev_popFrame (d : Node) (charged : Nat) (s : State) :
    Evolves 10141204801825835211973629837313 s (popFrame d charged s) := by
  unfold popFrame
  with_reducible repeat'
    first
    | apply Evolves.refl | apply Evolves.step (ev_State_setNode ..) | apply Evolves.nwr | dsimp only | decide | rfl
    | intro _

theorem ev_freeRef (r : Nat) (h : Option Nat) (s : State) :
    Evolves 255211776141441797768703006696353567243 s (freeRef r h s) := by
  unfold freeRef
  with_reducible repeat'
    first
    | apply Evolves.refl | apply Evolves.step (ev_freeHandle ..) | apply Evolves.ofPair ‹_› | apply Evolves.ofTriple ‹_›
    | split | dsimp only | decide | rfl | intro _

theorem Evolves.drainQueue {m : Nat} {s t : State} {r : Nat} {cnt : Fld} {d : Node} (h : Evolves m s t)
    (hm : (wordMask cnt.sp ||| 255211786282646599594538218669983404555) ||| m = m := by decide) : Evolves m s (drainQueue r cnt d t) := by
  have h2 : ∀ k, k ||| 255211786282646599594538218669983404555 = 255211786282646599594538218669983404555 → k ||| m = m := fun k hk => Mask.sub (Mask.orr hm) hk
  have h1 : wordMask cnt.sp ||| 8 ||| m = m := Mask.both (Mask.orl hm) (h2 _ (by decide))
  unfold Machine.drainQueue
  refine .allOf (fun f x => .bump (Evolves.step (ev_freeRef ..) (.refl x) (h2 _ (by decide))) h1) ?_
  exact .nwr (Evolves.step (ev_State_setNode ..) h (h2 _ (by decide))) (h2 _ (by decide))

theorem Evolves.drainTmd {m : Nat} {s t : State} {n : Nat} {cnt : Fld} {d : Node} (h : Evolves m s t)
    (hm : (wordMask cnt.sp ||| 255211786282646599594538218669983420939) ||| m = m := by decide) : Evolves m s (drainTmd n cnt d t) := by
  have h2 : ∀ k, k ||| 255211786282646599594538218669983420939 = 255211786282646599594538218669983420939 → k ||| m = m := fun k hk => Mask.sub (Mask.orr hm) hk
  have h1 : wordMask cnt.sp ||| 255211786282646599594538218669983404555 ||| m = m := Mask.both (Mask.orl hm) (h2 _ (by decide))
  unfold Machine.drainTmd
  refine .drainQueue (Evolves.step (ev_loseSdus ..) ?_ (h2 _ (by decide))) h1
  exact Evolves.step (ev_State_setFram ..) (Evolves.step (ev_State_setTmdTree ..) h (h2 _ (by decide))) (h2 _ (by decide))

theorem ev_setTreeDead (n : Nat) (b : Bool) (s : State) :
    Evolves 1267650600228229401496703205377 s (setTreeDead n b s) := by
  unfold setTreeDead
  with_reducible repeat'
    first
    | apply Evolves.refl | apply Evolves.wr | dsimp only | decide | rfl | intro _

theorem ev_tmdPut (n : Nat) (port : Nat) (h : Nat) (len : Nat) (vlan : Nat × Nat) (s : State) :
    Evolves 255211787550297199822767620166686609931 s (tmdPut n port h len vlan s) := by
  unfold tmdPut
  with_reducible repeat'
    first
    | apply Evolves.refl | apply Evolves.step (ev_freeHandle ..) | apply Evolves.step (ev_raise ..)
    | apply Evolves.step (ev_pushFrame ..) | apply Evolves.bump | apply Evolves.nwr | apply Evolves.ite
    | apply Evolves.ofPair ‹_› | apply Evolves.ofTriple ‹_› | split | dsimp only | decide | rfl | intro _

theorem ev_tmdEnqueue (n : Nat) (port : Nat) (h : Nat) (len : Nat) (u4 : State) :
    Evolves 255211787550297199822767620166686609931 u4 (tmdEnqueue n port h len u4) := by
  unfold tmdEnqueue
  with_reducible repeat'
    first
    | apply Evolves.refl | apply Evolves.step (ev_tmdPut ..) | dsimp only | decide | rfl | intro _

theorem ev_execTmdEnqueue (n : Fin 48) (port : BitVec 16) (h : Word) (len : BitVec 14) (s : State) :
    OutEvolves 255211787550297199822767620166686609931 s (execTmdEnqueue n port h len s) := by
  unfold execTmdEnqueue
  with_reducible repeat'
    first
    | apply Evolves.refl | apply OutEvolves.onIsland | apply Evolves.step (ev_tmdEnqueue ..) | dsimp only | decide | rfl
    | intro _

theorem ev_tmdSelect (n : Nat) (s : State) : Evolves 4194304 s (tmdSelect n s).2 := by
  unfold tmdSelect
  with_reducible repeat'
    first
    | apply Evolves.refl | apply Evolves.step (ev_becomeEligible ..) | apply Evolves.allOf | apply Evolves.ofPair ‹_›
    | apply Evolves.ofTriple ‹_› | split | dsimp only | decide | rfl | intro _

theorem ev_settleTree (n : Nat) (s : State) : Evolves 4194304 s (settleTree n s) := by
  unfold settleTree
  with_reducible repeat'
    first
    | apply Evolves.refl | apply Evolves.step (ev_settleChild ..) | apply Evolves.allOf | dsimp only | decide | rfl
    | intro _

theorem ev_tmdCommit (n : Nat) (d : Node) (f : QFrame) (fragment : Bool) (s : State) :
    Evolves 11408855402054064613470333042697 s (tmdCommit n d f fragment s) := by
  unfold tmdCommit
  with_reducible repeat'
    first
    | apply Evolves.refl | apply Evolves.step (ev_commitChild ..) | apply Evolves.step (ev_State_setNode ..)
    | apply Evolves.step (ev_popFrame ..) | apply Evolves.step (ev_State_setTmdTree ..)
    | apply Evolves.step (ev_settleTree ..) | apply Evolves.bump | apply Evolves.ite | split | dsimp only | decide | rfl
    | intro _

theorem ev_handSdu (n : Nat) (x : Sdu) (s : State) : Evolves 16896 s (handSdu n x s) := by
  unfold handSdu
  with_reducible repeat'
    first
    | apply Evolves.refl | apply Evolves.step (ev_State_setFram ..) | apply Evolves.step (ev_wrapperAnswer ..)
    | apply Evolves.ite | split | dsimp only | decide | rfl | intro _

theorem ev_framerTakes (n : Nat) (b : Built) (d : Node) (f : QFrame) (s : State) :
    Evolves 11408855402127851589765171266057 s (framerTakes n b d f s) := by
  unfold framerTakes
  with_reducible repeat'
    first
    | apply Evolves.refl | apply Evolves.step (ev_tmdCommit ..) | apply Evolves.step (ev_handSdu ..)
    | apply Evolves.step (ev_State_setFram ..) | apply Evolves.step (ev_State_setTmdTree ..) | apply Evolves.bump
    | apply Evolves.ite | split | dsimp only | decide | rfl | intro _

theorem ev_dequeueOffer (n : Nat) (s : State) :
    Evolves 255211786599559249725382545338997424651 s (dequeueOffer n s) := by
  unfold dequeueOffer
  with_reducible repeat'
    first
    | apply Evolves.refl | apply Evolves.step (ev_State_setTmdTree ..) | apply Evolves.step (ev_raise ..)
    | apply Evolves.step (ev_setTreeDead ..) | apply Evolves.step (ev_tmdSelect ..)
    | apply Evolves.step (ev_framerTakes ..) | apply Evolves.ite | apply Evolves.ofPair ‹_› | apply Evolves.ofTriple ‹_›
    | split | dsimp only | decide | rfl | intro _

theorem ev_execTmdDequeueOffer (n : Fin 48) (s : State) :
    OutEvolves 255211786599559249725382545338997424651 s (execTmdDequeueOffer n s) := by
  unfold execTmdDequeueOffer
  with_reducible repeat'
    first
    | apply Evolves.refl | apply OutEvolves.onIsland | apply Evolves.step (ev_dequeueOffer ..)
    | apply Evolves.step (ev_wrapperAnswer ..) | apply Evolves.ite | split | dsimp only | decide | rfl | intro _

theorem ev_readHeld (r : Nat) (h : Option Nat) (ecc : Option (Nat × Bool)) (s : State) :
    Evolves 255211775507616497654588305948001964555 s (readHeld r h ecc s).2 := by
  unfold readHeld
  with_reducible repeat'
    first
    | apply Evolves.refl | apply Evolves.step (ev_readStored ..) | apply Evolves.ofPair ‹_› | apply Evolves.ofTriple ‹_›
    | split | dsimp only | decide | rfl | intro _

theorem ev_holdHeld {r : Nat} {h : Option Nat} {s s' : State} (e : holdHeld r h s = some s') :
    Evolves 4096 s s' := by
  cases h with
  | none => cases e
  | some h => exact ev_holdRead e

theorem ev_taken (n : Nat) (k : Nat) (h : Option Nat) (held : Nat) (no : Nat) (ecc : Option (Nat × Bool)) (s : State) :
    Evolves 255211787550297199896554596461524832779 s (taken n k h held no ecc s) := by
  unfold taken
  with_reducible repeat'
    first
    | apply Evolves.refl | apply Evolves.step (ev_popFrame ..) | apply Evolves.step (ev_readHeld ..)
    | apply Evolves.step (ev_loseSdus ..) | apply Evolves.step (ev_raise ..) | apply Evolves.step (ev_freeRef ..)
    | apply Evolves.bump | apply Evolves.onlyIf | apply Evolves.ite | split | dsimp only | decide | rfl | intro _

theorem ev_frameTaken (n : Nat) (ecc : Option (Nat × Bool)) (s : State) :
    Evolves 255211787550297199896554596461524832779 s (frameTaken n ecc s) := by
  unfold frameTaken
  with_reducible repeat'
    first
    | apply Evolves.refl | apply Evolves.step (ev_holdHeld ‹_›) | apply Evolves.step (ev_taken ..)
    | apply Evolves.step (ev_State_setTmdTree ..) | apply Evolves.ite | apply Evolves.ofPair ‹_›
    | apply Evolves.ofTriple ‹_› | split | dsimp only | decide | rfl | intro _

theorem ev_execTmdFrameTaken (n : Fin 48) (ecc : Option (Nat × Bool)) (s : State) :
    OutEvolves 255211787550297199896554596461524832779 s (execTmdFrameTaken n ecc s) := by
  unfold execTmdFrameTaken
  with_reducible repeat'
    first
    | apply Evolves.refl | apply OutEvolves.onIsland | apply Evolves.step (ev_frameTaken ..) | dsimp only | decide | rfl
    | intro _

theorem ev_nofragReturn (n : Nat) (s : State) : Evolves 1267650600302016377791545606153 s (nofragReturn n s) := by
  unfold nofragReturn
  with_reducible repeat'
    first
    | apply Evolves.refl | apply Evolves.step (ev_State_setTmdTree ..) | apply Evolves.step (ev_settleTree ..)
    | apply Evolves.step (ev_State_setNode ..) | apply Evolves.bump | apply Evolves.ofPair ‹_›
    | apply Evolves.ofTriple ‹_› | split | dsimp only | decide | rfl | intro _

theorem ev_execNofragReturn (n : Fin 48) (s : State) :
    OutEvolves 1267650600302016377791545606665 s (execNofragReturn n s) := by
  unfold execNofragReturn
  with_reducible repeat'
    first
    | apply Evolves.refl | apply OutEvolves.onIsland | apply Evolves.step (ev_nofragReturn ..) | dsimp only | decide
    | rfl | intro _

theorem ev_releaseHolds (n : Nat) (s : State) : Evolves 4194304 s (releaseHolds n s) := by
  unfold releaseHolds
  with_reducible repeat'
    first
    | apply Evolves.refl | apply Evolves.step (ev_State_setNode ..) | apply Evolves.step (ev_becomeEligible ..)
    | apply Evolves.allOf | apply Evolves.ite | split | dsimp only | decide | rfl | intro _

theorem ev_treeDies (n : Nat) (s : State) : Evolves 255211787550297199822767620166955061883 s (treeDies n s) := by
  unfold treeDies
  with_reducible repeat'
    first
    | apply Evolves.refl | apply Evolves.step (ev_passTo ..) | apply Evolves.step (ev_settleTree ..)
    | apply Evolves.step (ev_raise ..) | apply Evolves.step (ev_setTreeDead ..) | apply Evolves.drainTmd
    | apply Evolves.allOf | apply Evolves.ite | split | dsimp only | decide | rfl | intro _

theorem ev_execTreeDead (n : Fin 48) (s : State) :
    OutEvolves 255211787550297199822767620166955061883 s (execTreeDead n s) := by
  unfold execTreeDead
  with_reducible repeat'
    first
    | apply Evolves.refl | apply OutEvolves.onIsland | apply Evolves.step (ev_treeDies ..) | dsimp only | decide | rfl
    | intro _

theorem Evolves.tmuDrop {m : Nat} {s t : State} {cnt : Fld} {o : Option Nat} (h : Evolves m s t)
    (hm : (wordMask cnt.sp ||| 255211776141441797768703006696353567243) ||| m = m := by decide) : Evolves m s (tmuDrop cnt o t) := by
  have h2 : ∀ k, k ||| 255211776141441797768703006696353567243 = 255211776141441797768703006696353567243 → k ||| m = m := fun k hk => Mask.sub (Mask.orr hm) hk
  have h1 : wordMask cnt.sp ||| 8 ||| m = m := Mask.both (Mask.orl hm) (h2 _ (by decide))
  unfold Machine.tmuDrop
  exact .bump (Evolves.step (ev_freeRef ..) h (h2 _ (by decide))) h1

theorem ev_tmuPut (p : Nat) (k : TmuKind) (q : QFrame) (s : State) :
    Evolves 255211788817947800050997021663389815307 s (tmuPut p k q s) := by
  unfold tmuPut
  with_reducible repeat'
    first
    | apply Evolves.refl | apply Evolves.step (ev_raise ..) | apply Evolves.step (ev_pushFrame ..)
    | apply Evolves.tmuDrop | apply Evolves.nwr | apply Evolves.bump | apply Evolves.ite | split | dsimp only | decide
    | rfl | intro _

theorem ev_tmuEnqueue (p : Nat) (k : TmuKind) (h : Option Nat) (len : Nat) (m : Option PtpMsg) (u5 : State) :
    Evolves 255211788817947800050997021663389815307 u5 (tmuEnqueue p k h len m u5) := by
  unfold tmuEnqueue
  with_reducible repeat'
    first
    | apply Evolves.refl | apply Evolves.step (ev_tmuPut ..) | dsimp only | decide | rfl | intro _

theorem ev_execTmuEnqueue (p : Fin 32) (k : TmuKind) (h : Word) (len : BitVec 14) (m : Option PtpMsg) (s : State) :
    OutEvolves 255211788817947800050997021663389815307 s (execTmuEnqueue p k h len m s) := by
  unfold execTmuEnqueue
  with_reducible repeat'
    first
    | apply Evolves.refl | apply OutEvolves.onIsland | apply Evolves.step (ev_tmuEnqueue ..) | dsimp only | decide | rfl
    | intro _

theorem ev_setRest (p : Nat) (c : Nat) (r : Option Rest) (s : State) : Evolves 4194304 s (setRest p c r s) := by
  unfold setRest
  with_reducible repeat'
    first
    | apply Evolves.refl | apply Evolves.step (ev_State_setTmuPort ..) | dsimp only | decide | rfl | intro _

theorem ev_classPick (p : Nat) (c : Nat) (s : State) : Evolves 4194304 s (classPick p c s).2 := by
  unfold classPick
  with_reducible repeat'
    first
    | apply Evolves.refl | apply Evolves.step (ev_becomeEligible ..) | apply Evolves.allOf | dsimp only | decide | rfl
    | intro _

theorem ev_settlePort (p : Nat) (s : State) : Evolves 4194304 s (settlePort p s) := by
  unfold settlePort
  with_reducible repeat'
    first
    | apply Evolves.refl | apply Evolves.step (ev_settleChild ..) | apply Evolves.allOf | dsimp only | decide | rfl
    | intro _

theorem ev_readyClasses (p : Nat) (s : State) : Evolves 2535301200456458802993410605065 s (readyClasses p s).2 := by
  unfold readyClasses
  with_reducible repeat'
    first
    | apply Evolves.refl | apply Evolves.step (ev_classPick ..) | apply Evolves.step (ev_settleChild ..)
    | apply Evolves.step (ev_State_setTmuPort ..) | apply Evolves.step (ev_becomeEligible ..) | apply Evolves.bump
    | apply Evolves.foldl | apply Evolves.ite | apply Evolves.ofPair ‹_› | apply Evolves.ofTriple ‹_› | split
    | dsimp only | decide | rfl | intro _

theorem ev_startTx (p : Nat) (c : Nat) (r : Rest) (n : Nat) (cont : Bool) (s : State) :
    Evolves 4194304 s (startTx p c r n cont s) := by
  unfold startTx
  with_reducible repeat'
    first
    | apply Evolves.refl | apply Evolves.step (ev_State_setTmuPort ..) | dsimp only | decide | rfl | intro _

theorem ev_pushTxts (p : Nat) (m : PtpMsg) (s : State) :
    Evolves 255212424227811164450984521886001529355 s (pushTxts p m s) := by
  unfold pushTxts
  with_reducible repeat'
    first
    | apply Evolves.refl | apply Evolves.step (ev_raise ..) | apply Evolves.bump | apply Evolves.ite | split
    | dsimp only | decide | rfl | intro _ | apply Evolves.upd_txts

theorem ev_txTimestamp (p : Nat) (m : Option PtpMsg) (s : State) :
    Evolves 255212424227811164450984521886005723659 s (txTimestamp p m s) := by
  unfold txTimestamp
  with_reducible repeat'
    first
    | apply Evolves.refl | apply Evolves.step (ev_State_setTmuPort ..) | apply Evolves.step (ev_pushTxts ..)
    | apply Evolves.ite | apply Evolves.ofPair ‹_› | apply Evolves.ofTriple ‹_› | split | dsimp only | decide | rfl
    | intro _

theorem ev_txEnd (p : Nat) (stomp : Bool) (s : State) :
    Evolves 651572408517309912369305451757577 s (txEnd p stomp s) := by
  unfold txEnd
  with_reducible repeat'
    first
    | apply Evolves.refl | apply Evolves.step (ev_State_setTmuPort ..) | apply Evolves.bump | dsimp only | decide | rfl
    | intro _

theorem ev_sentWhole (p : Nat) (x : TxNow) (ecc : Option (Nat × Bool)) (s : State) :
    Evolves 276480075646408969045076288966290838031 s (sentWhole p x ecc s) := by
  unfold sentWhole
  with_reducible repeat'
    first
    | apply Evolves.refl | apply Evolves.step (ev_txEnd ..) | apply Evolves.step (ev_captureAt ..)
    | apply Evolves.step (ev_readStored ..) | apply Evolves.step (ev_freeHandle ..) | apply Evolves.step (ev_raise ..)
    | apply Evolves.bump | apply Evolves.onlyIf | apply Evolves.ofPair ‹_› | apply Evolves.ofTriple ‹_› | split
    | dsimp only | decide | rfl | intro _

theorem ev_finishTx (p : Nat) (ecc : Option (Nat × Bool)) (s : State) :
    Evolves 276480075646408969045076288966559273599 s (finishTx p ecc s) := by
  unfold finishTx
  with_reducible repeat'
    first
    | apply Evolves.refl | apply Evolves.step (ev_passTo ..) | apply Evolves.step (ev_State_setTmuPort ..)
    | apply Evolves.step (ev_setRest ..) | apply Evolves.step (ev_sentWhole ..) | apply Evolves.ite
    | apply Evolves.ofPair ‹_› | apply Evolves.ofTriple ‹_› | split | dsimp only | decide | rfl | intro _

theorem ev_sendFrame (p : Nat) (c : Node) (d : Node) (ecc : Option (Nat × Bool)) (s : State) :
    Evolves 255212437855055116904450587975565185547 s (sendFrame p c d ecc s) := by
  unfold sendFrame
  with_reducible repeat'
    first
    | apply Evolves.refl | apply Evolves.step (ev_holdHeld ‹_›) | apply Evolves.step (ev_popFrame ..)
    | apply Evolves.step (ev_commitChild ..) | apply Evolves.step (ev_settleChild ..)
    | apply Evolves.step (ev_readHeld ..) | apply Evolves.step (ev_raise ..) | apply Evolves.step (ev_txTimestamp ..)
    | apply Evolves.step (ev_startTx ..) | apply Evolves.tmuDrop | apply Evolves.ite | apply Evolves.ofPair ‹_›
    | apply Evolves.ofTriple ‹_› | split | dsimp only | decide | rfl | intro _

theorem ev_resumeRest {p : Nat} {s : State} {s' : State} (h : resumeRest p s = some s') :
    Evolves 4194304 s s' := by
  unfold resumeRest at h
  obtain ⟨c, -, h⟩ := List.exists_of_findSome?_eq_some h
  with_reducible repeat'
    first
    | apply Evolves.refl | apply Evolves.step (ev_startTx ..) | apply Evolves.step (ev_setRest ..)
    | contradiction | cases h | split at h | dsimp only at h

theorem ev_sendPick (p : Nat) (ecc : Option (Nat × Bool)) (l : List (Node × Node)) (s : State) :
    Evolves 255212437855055116904450587975565185547 s (sendPick p ecc l s) := by
  unfold sendPick
  with_reducible repeat'
    first
    | apply Evolves.refl | apply Evolves.step (ev_sendFrame ..) | apply Evolves.ofPair ‹_› | apply Evolves.ofTriple ‹_›
    | split | dsimp only | decide | rfl | intro _

theorem ev_nextTx (p : Nat) (ecc : Option (Nat × Bool)) (s : State) :
    Evolves 255212437855055116904450587975565185547 s (nextTx p ecc s) := by
  unfold nextTx
  with_reducible repeat'
    first
    | apply Evolves.refl | apply Evolves.step (ev_readyClasses ..) | apply Evolves.step (ev_resumeRest ‹_›)
    | apply Evolves.step (ev_sendPick ..) | apply Evolves.ite | apply Evolves.ofPair ‹_› | apply Evolves.ofTriple ‹_›
    | split | dsimp only | decide | rfl | intro _

theorem ev_txDecision (p : Nat) (rd : TxRead) (s : State) :
    Evolves 276480085787613770870911500940319134335 s (txDecision p rd s) := by
  unfold txDecision
  with_reducible repeat'
    first
    | apply Evolves.refl | apply Evolves.step (ev_finishTx ..) | apply Evolves.step (ev_nextTx ..) | apply Evolves.ite
    | split | dsimp only | decide | rfl | intro _

theorem ev_execTmuTxDecision (p : Fin 32) (rd : TxRead) (s : State) :
    OutEvolves 276480085787613770870911500940319134335 s (execTmuTxDecision p rd s) := by
  unfold execTmuTxDecision
  with_reducible repeat'
    first
    | apply Evolves.refl | apply OutEvolves.onIsland | apply Evolves.step (ev_txDecision ..) | dsimp only | decide | rfl
    | intro _

theorem ev_preemptCut (p : Nat) (s : State) : Evolves 2535301200456458802993679040633 s (preemptCut p s) := by
  unfold preemptCut
  with_reducible repeat'
    first
    | apply Evolves.refl | apply Evolves.step (ev_readyClasses ..) | apply Evolves.step (ev_passTo ..)
    | apply Evolves.step (ev_setRest ..) | apply Evolves.step (ev_State_setTmuPort ..) | apply Evolves.bump
    | apply Evolves.ite | apply Evolves.ofPair ‹_› | apply Evolves.ofTriple ‹_› | split | dsimp only | decide | rfl
    | intro _

theorem ev_execPreemptCut (p : Fin 32) (s : State) :
    OutEvolves 2535301200456458802993679041145 s (execPreemptCut p s) := by
  unfold execPreemptCut
  with_reducible repeat'
    first
    | apply Evolves.refl | apply OutEvolves.onIsland | apply Evolves.step (ev_preemptCut ..) | dsimp only | decide | rfl
    | intro _

theorem ev_gatesMoved (p : Nat) (old : Nat) (s : State) : Evolves 4194304 s (gatesMoved p old s) := by
  unfold gatesMoved
  with_reducible repeat'
    first
    | apply Evolves.refl | apply Evolves.step (ev_State_setTmuPort ..) | apply Evolves.step (ev_settleChild ..)
    | apply Evolves.step (ev_becomeEligible ..) | apply Evolves.allOf | apply Evolves.ite | split | dsimp only | decide
    | rfl | intro _

theorem ev_gateNext (p : Nat) (s : State) : Evolves 4194304 s (gateNext p s) := by
  unfold gateNext
  with_reducible repeat'
    first
    | apply Evolves.refl | apply Evolves.step (ev_State_setTmuPort ..) | apply Evolves.step (ev_gatesMoved ..)
    | apply Evolves.ite | split | dsimp only | decide | rfl | intro _

theorem ev_gateEvent (p : Nat) (s : State) : Evolves 272629880 s (gateEvent p s) := by
  unfold gateEvent
  with_reducible repeat'
    first
    | apply Evolves.refl | apply Evolves.step (ev_gateNext ..) | apply Evolves.step (ev_passToPtp ..)
    | apply Evolves.ite | split | dsimp only | decide | rfl | intro _

theorem ev_execGateEvent (p : Fin 32) (s : State) : OutEvolves 272630392 s (execGateEvent p s) := by
  unfold execGateEvent
  with_reducible repeat'
    first
    | apply Evolves.refl | apply OutEvolves.onIsland | apply Evolves.step (ev_gateEvent ..) | dsimp only | decide | rfl
    | intro _

theorem ev_gateChange (p : Nat) (s : State) : Evolves 255211780261306248510448561560643174923 s (gateChange p s) := by
  unfold gateChange
  with_reducible repeat'
    first
    | apply Evolves.refl | apply Evolves.step (ev_raise ..) | apply Evolves.step (ev_State_setTmuPort ..)
    | apply Evolves.wr | apply Evolves.ite | split | dsimp only | decide | rfl | intro _

theorem ev_gateCtlWrite (p : Nat) (w : Nat) (s : State) :
    Evolves 265845604227585575493679018042885933579 s (gateCtlWrite p w s) := by
  unfold gateCtlWrite
  with_reducible repeat'
    first
    | apply Evolves.refl | apply Evolves.step (ev_gatesMoved ..) | apply Evolves.step (ev_gateChange ..)
    | apply Evolves.wr | apply Evolves.writeWord | apply Evolves.ite | split | dsimp only | decide | rfl | intro _

theorem ev_execGateChangeRequest (p : Fin 32) (w : Word) (s : State) :
    OutEvolves 265845604227585575493679018042885933579 s (execGateChangeRequest p w s) := by
  unfold execGateChangeRequest
  with_reducible repeat'
    first
    | apply Evolves.refl | apply OutEvolves.onIsland | apply Evolves.step (ev_gateCtlWrite ..) | dsimp only | decide
    | rfl | intro _

theorem ev_restoreList (p : Nat) (bank : Nat) (s : State) :
    Evolves 40564819207303340847894502572033 s (restoreList p bank s) := by
  unfold restoreList
  with_reducible repeat'
    first
    | apply Evolves.refl | apply Evolves.wrx | apply Evolves.allOf | dsimp only | decide | rfl | intro _

theorem ev_gateListChange (p : Nat) (s : State) :
    Evolves 255211823361426656270248212448820593275 s (gateListChange p s) := by
  unfold gateListChange
  with_reducible repeat'
    first
    | apply Evolves.refl | apply Evolves.step (ev_passToPtp ..) | apply Evolves.step (ev_restoreList ..)
    | apply Evolves.step (ev_State_setTmuPort ..) | apply Evolves.step (ev_raise ..)
    | apply Evolves.step (ev_gatesMoved ..) | apply Evolves.wr | apply Evolves.bump | apply Evolves.ite | split
    | dsimp only | decide | rfl | intro _

theorem ev_execGateListChange (p : Fin 32) (s : State) :
    OutEvolves 255211823361426656270248212448820593275 s (execGateListChange p s) := by
  unfold execGateListChange
  with_reducible repeat'
    first
    | apply Evolves.refl | apply OutEvolves.onIsland | apply Evolves.step (ev_gateListChange ..) | dsimp only | decide
    | rfl | intro _

theorem ev_gateJump (p : Nat) (s : State) : Evolves 4194304 s (gateJump p s) := by
  unfold gateJump
  with_reducible repeat'
    first
    | apply Evolves.refl | apply Evolves.step (ev_gatesMoved ..) | apply Evolves.step (ev_State_setTmuPort ..)
    | apply Evolves.ofPair ‹_› | apply Evolves.ofTriple ‹_› | split | dsimp only | decide | rfl | intro _

theorem ev_gatePass (p : Nat) (s : State) : Evolves 4194304 s (gatePass p s) := by
  unfold gatePass
  with_reducible repeat'
    first
    | apply Evolves.refl | apply Evolves.step (ev_State_setTmuPort ..) | apply Evolves.step (ev_gateNext ..)
    | apply Evolves.allOf | apply Evolves.ite | split | dsimp only | decide | rfl | intro _

theorem ev_gateStep (s : State) : Evolves 4194304 s (gateStep s) := by
  unfold gateStep
  with_reducible repeat'
    first
    | apply Evolves.refl | apply Evolves.step (ev_gatePass ..) | apply Evolves.step (ev_gateJump ..)
    | apply Evolves.allOf | apply Evolves.ite | split | dsimp only | decide | rfl | intro _

theorem ev_ctSend (p : Nat) (g : Fin 8) (c : Fin 8) (len : Nat) (iv : Option Nat) (bytes : List Byte) (s : State) :
    Evolves 2535301200456458802993410605065 s (ctSend p g c len iv bytes s) := by
  unfold ctSend
  with_reducible repeat'
    first
    | apply Evolves.refl | apply Evolves.step (ev_startTx ..) | apply Evolves.step (ev_settleChild ..)
    | apply Evolves.step (ev_commitChild ..) | apply Evolves.step (ev_becomeEligible ..) | apply Evolves.bump
    | dsimp only | decide | rfl | intro _

theorem ev_storeSdu (p : Nat) (g : Fin 8) (c : Fin 8) (iv : Option Nat) (q : QFrame) (s : State) :
    Evolves 255211788817947800050997021663389815307 s (storeSdu p g c iv q s) := by
  unfold storeSdu
  with_reducible repeat'
    first
    | apply Evolves.refl | apply Evolves.step (ev_tmuPut ..) | apply Evolves.ite | apply Evolves.ofPair ‹_›
    | apply Evolves.ofTriple ‹_› | split | dsimp only | decide | rfl | intro _ | apply Evolves.upd_queues

theorem ev_cutThroughOffer (p : Nat) (g : Fin 8) (c : Fin 8) (h : Nat) (len : Nat) (s : State) :
    Evolves 255211788817947800050997021663389815307 s (cutThroughOffer p g c h len s) := by
  unfold cutThroughOffer
  with_reducible repeat'
    first
    | apply Evolves.refl | apply Evolves.step (ev_ctSend ..) | apply Evolves.step (ev_tmuEnqueue ..)
    | apply Evolves.bump | apply Evolves.ite | split | dsimp only | decide | rfl | intro _

theorem ev_execCutThroughOffer (p : Fin 32) (g : Fin 8) (c : Fin 8) (h : Word) (len : BitVec 14) (s : State) :
    OutEvolves 255211788817947800050997021663389815307 s (execCutThroughOffer p g c h len s) := by
  unfold execCutThroughOffer
  with_reducible repeat'
    first
    | apply Evolves.refl | apply OutEvolves.onIsland | apply Evolves.step (ev_cutThroughOffer ..) | dsimp only | decide
    | rfl | intro _

theorem ev_stompSdu (iv : Nat) (s : State) : Evolves 4194304 s (stompSdu iv s) := by
  unfold stompSdu
  with_reducible repeat'
    first
    | apply Evolves.refl | dsimp only | decide | rfl | intro _ | apply Evolves.upd_queues

theorem ev_dropSdu (iv : Nat) (s : State) : Evolves 255211776141441797768703006696961741323 s (dropSdu iv s) := by
  unfold dropSdu
  with_reducible repeat'
    first
    | apply Evolves.refl | apply Evolves.step (ev_freeRef ..) | apply Evolves.step (ev_freeSdu ..) | apply Evolves.allOf
    | dsimp only | decide | rfl | intro _ | apply Evolves.upd_queues_upSdus_cls

theorem ev_passSdu (iv : Nat) (s : State) : Evolves 255211788817947800050997021663389815307 s (passSdu iv s) := by
  unfold passSdu
  with_reducible repeat'
    first
    | apply Evolves.refl | apply Evolves.step (ev_tmuPut ..) | apply Evolves.allOf | dsimp only | decide | rfl | intro _
    | apply Evolves.upd_queues

theorem ev_ctTagCheck (s : State) : Evolves 255212194466139873084405500609053069835 s (ctTagCheck s) := by
  unfold ctTagCheck
  with_reducible repeat'
    first
    | apply Evolves.refl | apply Evolves.step (ev_tagVerdict ..) | apply Evolves.step (ev_State_setCph ..)
    | apply Evolves.step (ev_passSdu ..) | apply Evolves.step (ev_raise ..) | apply Evolves.step (ev_stompSdu ..)
    | apply Evolves.step (ev_dropSdu ..) | apply Evolves.bump | apply Evolves.ite | apply Evolves.ofPair ‹_›
    | apply Evolves.ofTriple ‹_› | split | dsimp only | decide | rfl | intro _

theorem ev_execCtTagCheck (_ok : Bool) (s : State) :
    OutEvolves 255212194466139873084405500609053069835 s (execCtTagCheck _ok s) := by
  unfold execCtTagCheck
  with_reducible repeat'
    first
    | apply Evolves.refl | apply OutEvolves.onIsland | apply Evolves.step (ev_ctTagCheck ..) | dsimp only | decide | rfl
    | intro _

theorem ev_tmuLinkDown (p : Nat) (s : State) : Evolves 255211788817947800050997021663389815307 s (tmuLinkDown p s) := by
  unfold tmuLinkDown
  with_reducible repeat'
    first
    | apply Evolves.refl | apply Evolves.step (ev_State_setTmuPort ..) | apply Evolves.step (ev_raise ..)
    | apply Evolves.step (ev_settlePort ..) | apply Evolves.tmuDrop | apply Evolves.drainQueue | apply Evolves.allOf
    | apply Evolves.ite | split | dsimp only | decide | rfl | intro _

theorem ev_nodeRefuse (m : Nat) (d : Node) (w : Nat) (s : State) :
    Evolves 255211775190703847597530955573826161162 s (nodeRefuse m d w s) := by
  unfold nodeRefuse
  with_reducible repeat'
    first
    | apply Evolves.refl | apply Evolves.step (ev_setVerdict ..) | apply Evolves.step (ev_raise ..)
    | apply Evolves.step (ev_refuseWrite ..) | apply Evolves.ite | split | dsimp only | decide | rfl | intro _

theorem ev_nodeCommit (m : Nat) (d : Node) (w1 : Nat) (s : State) :
    Evolves 265845634334287330914127303589587081739 s (nodeCommit m d w1 s) := by
  unfold nodeCommit
  with_reducible repeat'
    first
    | apply Evolves.refl | apply Evolves.step (ev_nodeRefuse ..) | apply Evolves.step (ev_setVerdict ..)
    | apply Evolves.step (ev_raise ..) | apply Evolves.step (ev_settleTree ..) | apply Evolves.step (ev_settlePort ..)
    | apply Evolves.step (ev_encReject ..) | apply Evolves.drainTmd | apply Evolves.drainQueue | apply Evolves.wrx
    | apply Evolves.wrWord | apply Evolves.onlyIf | apply Evolves.allOf | apply Evolves.ite | split | dsimp only
    | decide | rfl | intro _

theorem ev_shaperWrite (m : Nat) (d : Node) (word : Nat) (w : Nat) (s : State) :
    Evolves 255211785331908649423366167547455998475 s (shaperWrite m d word w s) := by
  unfold shaperWrite
  with_reducible repeat'
    first
    | apply Evolves.refl | apply Evolves.step (ev_nodeRefuse ..) | apply Evolves.step (ev_refill ..)
    | apply Evolves.wrWord | apply Evolves.ite | split | dsimp only | decide | rfl | intro _

theorem ev_nodeAdvance (m : Nat) (s : State) : Evolves 3802951800684688204490109616129 s (nodeAdvance m s) := by
  unfold nodeAdvance
  with_reducible repeat'
    first
    | apply Evolves.refl | apply Evolves.advanceWord | apply Evolves.ite | split | dsimp only | decide | rfl | intro _

theorem ev_nodeDataWrite (m : Nat) (w : Nat) (s : State) :
    Evolves 265845634334287330914127303589587081739 s (nodeDataWrite m w s) := by
  unfold nodeDataWrite
  with_reducible repeat'
    first
    | apply Evolves.refl | apply Evolves.step (ev_nodeCommit ..) | apply Evolves.step (ev_shaperWrite ..)
    | apply Evolves.step (ev_nodeAdvance ..) | apply Evolves.nwr | apply Evolves.ite | split | dsimp only | decide | rfl
    | intro _ | apply Evolves.upd_queues

theorem ev_execNodeWrite (m : Fin 2) (w : Word) (s : State) :
    OutEvolves 265845634334287330914127303589587081739 s (execNodeWrite m w s) := by
  unfold execNodeWrite
  with_reducible repeat'
    first
    | apply Evolves.refl | apply OutEvolves.onIsland | apply Evolves.step (ev_nodeDataWrite ..) | dsimp only | decide
    | rfl | intro _

theorem ev_execShaperWrite (m : Fin 2) (w : Word) (s : State) :
    OutEvolves 265845634334287330914127303589587081739 s (execShaperWrite m w s) := by
  unfold execShaperWrite
  with_reducible repeat'
    first
    | apply Evolves.refl | apply OutEvolves.onIsland | apply Evolves.step (ev_nodeDataWrite ..) | dsimp only | decide
    | rfl | intro _

theorem ev_nodeDataRead (m : Nat) (s : State) : Evolves 13944156602510523416463735261185 s (nodeDataRead m s) := by
  unfold nodeDataRead
  with_reducible repeat'
    first
    | apply Evolves.refl | apply Evolves.step (ev_setRead ..) | apply Evolves.step (ev_nodeAdvance ..)
    | apply Evolves.wrWord | apply Evolves.onlyIf | apply Evolves.ite | split | dsimp only | decide | rfl | intro _

theorem ev_tmuPortCfgWrite (p : Nat) (w : Nat) (s : State) :
    Evolves 265845604227585575493679018042881739275 s (tmuPortCfgWrite p w s) := by
  unfold tmuPortCfgWrite
  with_reducible repeat'
    first
    | apply Evolves.refl | apply Evolves.step (ev_setVerdict ..) | apply Evolves.step (ev_raise ..)
    | apply Evolves.writeWord | apply Evolves.ite | split | dsimp only | decide | rfl | intro _

theorem ev_gclWrite (w : Nat) (s : State) : Evolves 265845642257103582340561062943977900555 s (gclWrite w s) := by
  unfold gclWrite
  with_reducible repeat'
    first
    | apply Evolves.refl | apply Evolves.step (ev_refuseWrite ..) | apply Evolves.writeWord | apply Evolves.advanceWord
    | apply Evolves.ite | split | dsimp only | decide | rfl | intro _

theorem ev_shaperRecovery (d : Node) (parent : Node) (backlog : Bool) (s : State) :
    Evolves 272629880 s (shaperRecovery d parent backlog s) := by
  unfold shaperRecovery
  with_reducible repeat'
    first
    | apply Evolves.refl | apply Evolves.step (ev_refill ..) | apply Evolves.step (ev_passTo ..)
    | apply Evolves.step (ev_becomeEligible ..) | apply Evolves.ite | apply Evolves.ofPair ‹_›
    | apply Evolves.ofTriple ‹_› | split | dsimp only | decide | rfl | intro _

theorem ev_execShaperRecovery (m : Fin 2) (level : Fin 4) (t : Fin 48) (idx : BitVec 13) (s : State) :
    OutEvolves 272630392 s (execShaperRecovery m level t idx s) := by
  unfold execShaperRecovery
  with_reducible repeat'
    first
    | apply Evolves.refl | apply OutEvolves.onIsland | apply Evolves.step (ev_shaperRecovery ..) | apply Evolves.ite
    | split | dsimp only | decide | rfl | intro _

end Sys2Proof.Machine
end

