-- ==== Sys2Proof/Laws/EvCrl.lean ====
section
/-!
SUPPORT. What the operations of Machine/Crl.lean may touch (Safety.lean, Evolves).
-/

namespace Sys2Proof.Machine

set_option Elab.async false
set_option linter.all false

theorem ev_State_setCrLane (s : State) (x : LaneId) (v : CrLane) : Evolves 8388608 s (State.setCrLane s x v) := by
  unfold State.setCrLane
  with_reducible repeat'
    first
    | apply Evolves.refl | dsimp only | decide | rfl | intro _ | apply Evolves.upd_crl

theorem Evolves.lwr {m : Nat} {s t : State} {f : Fld} {x : LaneId} {v : Nat} (h : Evolves m s t)
    (hm : wordMask f.sp ||| m = m := by decide) : Evolves m s (lwr f x v t) := Evolves.wrx h hm

theorem Evolves.lbump {m : Nat} {s t : State} {f : Fld} {x : LaneId} (h : Evolves m s t)
    (hm : wordMask f.sp ||| m = m := by decide) : Evolves m s (lbump f x t) := Evolves.bumpx h hm

theorem ev_laneCause (x : LaneId) (bit : Nat) (u2 : State) :
    Evolves 255211775190703847597530955573826159114 u2 (laneCause x bit u2) := by
  unfold laneCause
  with_reducible repeat'
    first
    | apply Evolves.refl | apply Evolves.step (ev_raise ..) | dsimp only | decide | rfl | intro _

theorem ev_bindDone (op : Nat) (x : LaneId) (err : Nat) (s : State) :
    Evolves 2417851639229258349412353 s (bindDone op x err s) := by
  unfold bindDone
  with_reducible repeat'
    first
    | apply Evolves.refl | apply Evolves.wr | dsimp only | decide | rfl | intro _

theorem ev_bindRefuse (op : Nat) (x : LaneId) (err : Nat) (s : State) :
    Evolves 255211775190706265449170184832175573515 s (bindRefuse op x err s) := by
  unfold bindRefuse
  with_reducible repeat'
    first
    | apply Evolves.refl | apply Evolves.step (ev_setVerdict ..) | apply Evolves.step (ev_laneCause ..)
    | apply Evolves.step (ev_bindDone ..) | dsimp only | decide | rfl | intro _

theorem ev_countBound (x : LaneId) (up : Bool) (s : State) :
    Evolves 2417851639229258349412353 s (countBound x up s) := by
  unfold countBound
  with_reducible repeat'
    first
    | apply Evolves.refl | apply Evolves.wr | apply Evolves.onlyIf | apply Evolves.ite | split | dsimp only | decide
    | rfl | intro _

theorem ev_placeLane (x : LaneId) (s : State) :
    Evolves 265845599156983231249159206491812006411 s (placeLane x s).2 := by
  unfold placeLane
  with_reducible repeat'
    first
    | apply Evolves.refl | apply Evolves.step (ev_wrapperAnswer ..) | apply Evolves.step (ev_placeFixed ..)
    | apply Evolves.ite | apply Evolves.ofPair ‹_› | apply Evolves.ofTriple ‹_› | split | dsimp only | decide | rfl
    | intro _

theorem ev_replaceCells (k : Nat) (s : State) :
    Evolves 265845599156983231249159206491812006411 s (replaceCells k s) := by
  unfold replaceCells
  with_reducible repeat'
    first
    | apply Evolves.refl | apply Evolves.step (ev_placeLane ..) | apply Evolves.allOf | apply Evolves.ite | split
    | dsimp only | decide | rfl | intro _

theorem ev_crlBind (x : LaneId) (s : State) : Evolves 265845599157004991913912269816965106187 s (crlBind x s) := by
  unfold crlBind
  with_reducible repeat'
    first
    | apply Evolves.refl | apply Evolves.step (ev_bindRefuse ..) | apply Evolves.step (ev_placeLane ..)
    | apply Evolves.step (ev_bindDone ..) | apply Evolves.step (ev_countBound ..)
    | apply Evolves.step (ev_State_setCrLane ..) | apply Evolves.wrWord | apply Evolves.lwr | apply Evolves.ite
    | apply Evolves.ofPair ‹_› | apply Evolves.ofTriple ‹_› | split | dsimp only | decide | rfl | intro _

theorem ev_execCrlBind (dir : Fin 2) (n : Fin 48) (l : Fin 16) (s : State) :
    OutEvolves 265845599157004991913912269816965106187 s (execCrlBind dir n l s) := by
  unfold execCrlBind
  with_reducible repeat'
    first
    | apply Evolves.refl | apply OutEvolves.onIsland | apply Evolves.step (ev_crlBind ..) | dsimp only | decide | rfl
    | intro _

theorem ev_crlUnbind (x : LaneId) (s : State) : Evolves 265845599157004991913912269816965106187 s (crlUnbind x s) := by
  unfold crlUnbind
  with_reducible repeat'
    first
    | apply Evolves.refl | apply Evolves.step (ev_bindRefuse ..) | apply Evolves.step (ev_placeFixed ..)
    | apply Evolves.step (ev_wrapperAnswer ..) | apply Evolves.step (ev_bindDone ..)
    | apply Evolves.step (ev_State_setCrLane ..) | apply Evolves.step (ev_countBound ..) | apply Evolves.lwr
    | apply Evolves.ite | split | dsimp only | decide | rfl | intro _

theorem ev_execCrlUnbind (dir : Fin 2) (n : Fin 48) (l : Fin 16) (s : State) :
    OutEvolves 265845599157004991913912269816965106187 s (execCrlUnbind dir n l s) := by
  unfold execCrlUnbind
  with_reducible repeat'
    first
    | apply Evolves.refl | apply OutEvolves.onIsland | apply Evolves.step (ev_crlUnbind ..) | dsimp only | decide | rfl
    | intro _

theorem ev_laneDegJudge (x : LaneId) (s : State) :
    Evolves 255211775190723190410644789640629846539 s (laneDegJudge x s) := by
  unfold laneDegJudge
  with_reducible repeat'
    first
    | apply Evolves.refl | apply Evolves.step (ev_laneCause ..) | apply Evolves.step (ev_State_setCrLane ..)
    | apply Evolves.lwr | apply Evolves.onlyIf | apply Evolves.ite | split | dsimp only | decide | rfl | intro _

theorem ev_laneDegAdd (x : LaneId) (bits : Nat) (errs : Nat) (bad : Bool) (s : State) :
    Evolves 255211775190723190410644789640629846539 s (laneDegAdd x bits errs bad s) := by
  unfold laneDegAdd
  with_reducible repeat'
    first
    | apply Evolves.refl | apply Evolves.step (ev_laneDegJudge ..) | apply Evolves.step (ev_State_setCrLane ..)
    | apply Evolves.onlyIf | apply Evolves.ite | split | dsimp only | decide | rfl | intro _

theorem ev_laneWinClose (n : Nat) (s : State) :
    Evolves 255211775190723190410644789640629846539 s (laneWinClose n s) := by
  unfold laneWinClose
  with_reducible repeat'
    first
    | apply Evolves.refl | apply Evolves.step (ev_laneDegJudge ..) | apply Evolves.allOf | dsimp only | decide | rfl
    | intro _

theorem ev_execDegWindowTimeout (n : Fin 48) (t : BitVec 9) (s : State) :
    OutEvolves 255211775190723190558218742230574957179 s (execDegWindowTimeout n t s) := by
  unfold execDegWindowTimeout
  with_reducible repeat'
    first
    | apply Evolves.refl | apply OutEvolves.onIsland | apply Evolves.step (ev_laneWinClose ..)
    | apply Evolves.step (ev_degTimeout ..) | apply Evolves.onlyIf | dsimp only | decide | rfl | intro _

theorem ev_leftOut (x : LaneId) (s : State) : Evolves 255211775190723190410644789640629846539 s (leftOut x s) := by
  unfold leftOut
  with_reducible repeat'
    first
    | apply Evolves.refl | apply Evolves.step (ev_laneDegAdd ..) | apply Evolves.step (ev_laneCause ..)
    | apply Evolves.lbump | dsimp only | decide | rfl | intro _

theorem ev_sendContainer (x : LaneId) (pay : List Byte) (cnd : Nat) (rep : Bool) (ofs : Nat) (s : State) :
    Evolves 276479829722211867581686232672702059023 s (sendContainer x pay cnd rep ofs s) := by
  unfold sendContainer
  with_reducible repeat'
    first
    | apply Evolves.refl | apply Evolves.step (ev_cipherDs ..) | apply Evolves.step (ev_wrapperAnswer ..)
    | apply Evolves.step (ev_State_setCrLane ..) | apply Evolves.step (ev_leftOut ..)
    | apply Evolves.step (ev_State_setFram ..) | apply Evolves.lwr | apply Evolves.ite | apply Evolves.ofPair ‹_›
    | apply Evolves.ofTriple ‹_› | split | dsimp only | decide | rfl | intro _

theorem ev_slip (x : LaneId) (drop : Bool) (s : State) :
    Evolves 255211775190723190410644789640621457931 s (slip x drop s) := by
  unfold slip
  with_reducible repeat'
    first
    | apply Evolves.refl | apply Evolves.step (ev_laneCause ..) | apply Evolves.lbump | apply Evolves.ite | split
    | dsimp only | decide | rfl | intro _

theorem ev_crlBuild (x : LaneId) (ofs : Nat) (s : State) :
    Evolves 276479829722211867581686232672702059023 s (crlBuild x ofs s) := by
  unfold crlBuild
  with_reducible repeat'
    first
    | apply Evolves.refl | apply Evolves.step (ev_sendContainer ..) | apply Evolves.step (ev_laneDegAdd ..)
    | apply Evolves.step (ev_State_setCrLane ..) | apply Evolves.step (ev_slip ..) | apply Evolves.lwr
    | apply Evolves.ite | split | dsimp only | decide | rfl | intro _

theorem ev_execCrlBuild (n : Fin 48) (l : Fin 16) (ofs : BitVec 20) (s : State) :
    OutEvolves 276479829722211867581686232672702059023 s (execCrlBuild n l ofs s) := by
  unfold execCrlBuild
  with_reducible repeat'
    first
    | apply Evolves.refl | apply OutEvolves.onIsland | apply Evolves.step (ev_crlBuild ..) | apply Evolves.ite | split
    | dsimp only | decide | rfl | intro _

theorem ev_containerDeadline (x : LaneId) (s : State) :
    Evolves 255211775190723190410644789640629862923 s (containerDeadline x s) := by
  unfold containerDeadline
  with_reducible repeat'
    first
    | apply Evolves.refl | apply Evolves.step (ev_leftOut ..) | apply Evolves.step (ev_State_setFram ..)
    | apply Evolves.ite | split | dsimp only | decide | rfl | intro _

theorem ev_execCrlContainerDeadline (n : Fin 48) (l : Fin 16) (s : State) :
    OutEvolves 255211775190723190410644789640629862923 s (execCrlContainerDeadline n l s) := by
  unfold execCrlContainerDeadline
  with_reducible repeat'
    first
    | apply Evolves.refl | apply OutEvolves.onIsland | apply Evolves.step (ev_containerDeadline ..) | dsimp only
    | decide | rfl | intro _

theorem ev_recover (x : LaneId) (cn : Nat) (cnd : Nat) (s : State) : Evolves 8388608 s (recover x cn cnd s) := by
  unfold recover
  with_reducible repeat'
    first
    | apply Evolves.refl | apply Evolves.step (ev_State_setCrLane ..) | dsimp only | decide | rfl | intro _

theorem ev_readOut (x : LaneId) (s : State) : Evolves 8388608 s (readOut x s) := by
  unfold readOut
  with_reducible repeat'
    first
    | apply Evolves.refl | apply Evolves.step (ev_State_setCrLane ..) | dsimp only | decide | rfl | intro _

theorem ev_upRepeat (x : LaneId) (s : State) : Evolves 255211775190723190410644789640629846539 s (upRepeat x s) := by
  unfold upRepeat
  with_reducible repeat'
    first
    | apply Evolves.refl | apply Evolves.step (ev_laneDegAdd ..) | apply Evolves.step (ev_slip ..)
    | apply Evolves.step (ev_recover ..) | apply Evolves.step (ev_State_setCrLane ..) | dsimp only | decide | rfl
    | intro _

theorem ev_upFail (x : LaneId) (s : State) : Evolves 255211775190723190410644789640629846539 s (upFail x s) := by
  unfold upFail
  with_reducible repeat'
    first
    | apply Evolves.refl | apply Evolves.step (ev_State_setCrLane ..) | apply Evolves.step (ev_readOut ..)
    | apply Evolves.step (ev_upRepeat ..) | apply Evolves.step (ev_laneDegAdd ..) | apply Evolves.ite | split
    | dsimp only | decide | rfl | intro _

theorem ev_upDiscard (x : LaneId) (s : State) : Evolves 255211775190723190410644789640629846539 s (upDiscard x s) := by
  unfold upDiscard
  with_reducible repeat'
    first
    | apply Evolves.refl | apply Evolves.step (ev_upFail ..) | apply Evolves.step (ev_laneCause ..)
    | apply Evolves.lbump | dsimp only | decide | rfl | intro _

theorem ev_lowFill (x : LaneId) (s : State) : Evolves 255211775190723190410644789640629846539 s (lowFill x s) := by
  unfold lowFill
  with_reducible repeat'
    first
    | apply Evolves.refl | apply Evolves.step (ev_upRepeat ..) | apply Evolves.ite | split | dsimp only | decide | rfl
    | intro _

theorem ev_upAccept (x : LaneId) (pay : List Byte) (cnd : Nat) (s : State) :
    Evolves 255211775190723190410644789640629846539 s (upAccept x pay cnd s) := by
  unfold upAccept
  with_reducible repeat'
    first
    | apply Evolves.refl | apply Evolves.step (ev_readOut ..) | apply Evolves.step (ev_lowFill ..)
    | apply Evolves.step (ev_laneDegAdd ..) | apply Evolves.step (ev_slip ..) | apply Evolves.step (ev_recover ..)
    | apply Evolves.step (ev_State_setCrLane ..) | apply Evolves.ite | split | dsimp only | decide | rfl | intro _

theorem ev_containerPass (x : LaneId) (c : ClearContainer) (cnd : Nat) (s : State) :
    Evolves 255211775190723190410644789640629846539 s (containerPass x c cnd s) := by
  unfold containerPass
  with_reducible repeat'
    first
    | apply Evolves.refl | apply Evolves.step (ev_State_setCrLane ..) | apply Evolves.step (ev_laneDegAdd ..)
    | apply Evolves.step (ev_upAccept ..) | apply Evolves.lwr | apply Evolves.ite | split | dsimp only | decide | rfl
    | intro _

theorem ev_containerEmpty (x : LaneId) (lbl : Nat) (s : State) :
    Evolves 255211775190723190410644789640629846539 s (containerEmpty x lbl s) := by
  unfold containerEmpty
  with_reducible repeat'
    first
    | apply Evolves.refl | apply Evolves.step (ev_State_setCrLane ..) | apply Evolves.step (ev_readOut ..)
    | apply Evolves.step (ev_lowFill ..) | apply Evolves.ite | split | dsimp only | decide | rfl | intro _

theorem ev_containerCheck (x : LaneId) (c : ClearContainer) (s : State) :
    Evolves 255211775190723190410644789640629846539 s (containerCheck x c s) := by
  unfold containerCheck
  with_reducible repeat'
    first
    | apply Evolves.refl | apply Evolves.step (ev_upDiscard ..) | apply Evolves.step (ev_laneCause ..)
    | apply Evolves.step (ev_containerEmpty ..) | apply Evolves.step (ev_containerPass ..) | apply Evolves.lbump
    | apply Evolves.ite | apply Evolves.ofPair ‹_› | apply Evolves.ofTriple ‹_› | split | dsimp only | decide | rfl
    | intro _

theorem ev_containerRx (x : LaneId) (c : CrlContainer) (s : State) :
    Evolves 255212180838917681295692497844038533643 s (containerRx x c s) := by
  unfold containerRx
  with_reducible repeat'
    first
    | apply Evolves.refl | apply Evolves.step (ev_upDiscard ..) | apply Evolves.step (ev_wrapperAnswer ..)
    | apply Evolves.step (ev_cipherUs ..) | apply Evolves.step (ev_containerCheck ..) | apply Evolves.bumpBy
    | apply Evolves.ite | apply Evolves.ofPair ‹_› | apply Evolves.ofTriple ‹_› | apply Evolves.ofQuad ‹_› | split
    | dsimp only | decide | rfl | intro _

theorem ev_execCrlContainerRx (n : Fin 48) (l : Fin 16) (c : CrlContainer) (s : State) :
    OutEvolves 255212180838917681295692497844038533643 s (execCrlContainerRx n l c s) := by
  unfold execCrlContainerRx
  with_reducible repeat'
    first
    | apply Evolves.refl | apply OutEvolves.onIsland | apply Evolves.step (ev_containerRx ..) | dsimp only | decide
    | rfl | intro _

theorem ev_containerMissing (x : LaneId) (s : State) :
    Evolves 255211775190723190410644789640629846539 s (containerMissing x s) := by
  unfold containerMissing
  with_reducible repeat'
    first
    | apply Evolves.refl | apply Evolves.step (ev_upFail ..) | apply Evolves.ite | split | dsimp only | decide | rfl
    | intro _

theorem ev_execCrlContainerMissing (n : Fin 48) (l : Fin 16) (s : State) :
    OutEvolves 255211775190723190410644789640629846539 s (execCrlContainerMissing n l s) := by
  unfold execCrlContainerMissing
  with_reducible repeat'
    first
    | apply Evolves.refl | apply OutEvolves.onIsland | apply Evolves.step (ev_containerMissing ..) | dsimp only | decide
    | rfl | intro _

theorem ev_crlSyncEnter (x : LaneId) (s : State) :
    Evolves 255211775190723190410644789640629846539 s (crlSyncEnter x s) := by
  unfold crlSyncEnter
  with_reducible repeat'
    first
    | apply Evolves.refl | apply Evolves.step (ev_laneCause ..) | apply Evolves.step (ev_State_setCrLane ..)
    | apply Evolves.lwr | apply Evolves.ite | split | dsimp only | decide | rfl | intro _

theorem ev_execCrlSyncEnter (n : Fin 48) (l : Fin 16) (s : State) :
    OutEvolves 255211775190723190410644789640629846539 s (execCrlSyncEnter n l s) := by
  unfold execCrlSyncEnter
  with_reducible repeat'
    first
    | apply Evolves.refl | apply OutEvolves.onIsland | apply Evolves.step (ev_crlSyncEnter ..) | dsimp only | decide
    | rfl | intro _

theorem ev_crlSyncLeave (x : LaneId) (s : State) :
    Evolves 255211775190723190410644789640621457931 s (crlSyncLeave x s) := by
  unfold crlSyncLeave
  with_reducible repeat'
    first
    | apply Evolves.refl | apply Evolves.step (ev_laneCause ..) | apply Evolves.lwr | apply Evolves.ite | split
    | dsimp only | decide | rfl | intro _

theorem ev_execCrlSyncLeave (n : Fin 48) (l : Fin 16) (s : State) :
    OutEvolves 255211775190723190410644789640621457931 s (execCrlSyncLeave n l s) := by
  unfold execCrlSyncLeave
  with_reducible repeat'
    first
    | apply Evolves.refl | apply OutEvolves.onIsland | apply Evolves.step (ev_crlSyncLeave ..) | dsimp only | decide
    | rfl | intro _

theorem ev_judgeLabel (x : LaneId) (s : State) :
    Evolves 255211775190723190410644789640621457931 s (judgeLabel x s) := by
  unfold judgeLabel
  with_reducible repeat'
    first
    | apply Evolves.refl | apply Evolves.step (ev_laneCause ..) | apply Evolves.lwr | apply Evolves.onlyIf
    | apply Evolves.ite | split | dsimp only | decide | rfl | intro _

theorem ev_labelAccept (x : LaneId) (s : State) :
    Evolves 255211775190723190410644789640629846539 s (labelAccept x s) := by
  unfold labelAccept
  with_reducible repeat'
    first
    | apply Evolves.refl | apply Evolves.step (ev_judgeLabel ..) | apply Evolves.step (ev_State_setCrLane ..)
    | apply Evolves.lwr | apply Evolves.ite | split | dsimp only | decide | rfl | intro _

theorem ev_execLabelAccept (n : Fin 48) (l : Fin 16) (s : State) :
    OutEvolves 255211775190723190410644789640629846539 s (execLabelAccept n l s) := by
  unfold execLabelAccept
  with_reducible repeat'
    first
    | apply Evolves.refl | apply OutEvolves.onIsland | apply Evolves.step (ev_labelAccept ..) | dsimp only | decide
    | rfl | intro _

theorem ev_packetEmit (x : LaneId) (s : State) :
    Evolves 255211788817947800050997021663398203915 s (packetEmit x s) := by
  unfold packetEmit
  with_reducible repeat'
    first
    | apply Evolves.refl | apply Evolves.step (ev_State_setCrLane ..) | apply Evolves.step (ev_tmuPut ..)
    | apply Evolves.step (ev_wrapperAnswer ..) | apply Evolves.ite | split | dsimp only | decide | rfl | intro _

theorem ev_execCrlPacketEmit (n : Fin 48) (l : Fin 16) (s : State) :
    OutEvolves 255211788817947800050997021663398203915 s (execCrlPacketEmit n l s) := by
  unfold execCrlPacketEmit
  with_reducible repeat'
    first
    | apply Evolves.refl | apply OutEvolves.onIsland | apply Evolves.step (ev_packetEmit ..) | dsimp only | decide | rfl
    | intro _

theorem ev_packetWrite (x : LaneId) (pt : Nat) (pay : List Byte) (s : State) :
    Evolves 255211775190703847597530955573834547722 s (packetWrite x pt pay s) := by
  unfold packetWrite
  with_reducible repeat'
    first
    | apply Evolves.refl | apply Evolves.step (ev_laneCause ..) | apply Evolves.step (ev_State_setCrLane ..)
    | apply Evolves.onlyIf | apply Evolves.ite | apply Evolves.ofPair ‹_› | apply Evolves.ofTriple ‹_› | split
    | dsimp only | decide | rfl | intro _

theorem ev_packetDiscard (x : LaneId) (s : State) :
    Evolves 255211775190723190410644789640621457931 s (packetDiscard x s) := by
  unfold packetDiscard
  with_reducible repeat'
    first
    | apply Evolves.refl | apply Evolves.step (ev_laneCause ..) | apply Evolves.lbump | dsimp only | decide | rfl
    | intro _

theorem ev_packetRx (x : LaneId) (flow : Nat) (pay : List Byte) (pt : Nat) (s : State) :
    Evolves 255211775190723190410644789640629846539 s (packetRx x flow pay pt s) := by
  unfold packetRx
  with_reducible repeat'
    first
    | apply Evolves.refl | apply Evolves.step (ev_packetDiscard ..) | apply Evolves.step (ev_laneCause ..)
    | apply Evolves.step (ev_packetWrite ..) | apply Evolves.step (ev_State_setCrLane ..) | apply Evolves.ite | split
    | dsimp only | decide | rfl | intro _

theorem ev_execRoePacketRx (n : Fin 48) (l : Fin 16) (flow : BitVec 8) (pay : List Byte) (pt : Nat) (s : State) :
    OutEvolves 255211775190723190410644789640629846539 s (execRoePacketRx n l flow pay pt s) := by
  unfold execRoePacketRx
  with_reducible repeat'
    first
    | apply Evolves.refl | apply OutEvolves.onIsland | apply Evolves.step (ev_packetRx ..) | dsimp only | decide | rfl
    | intro _

theorem ev_packetPresent (x : LaneId) (s : State) :
    Evolves 255211775190703847597530955574102983290 s (packetPresent x s) := by
  unfold packetPresent
  with_reducible repeat'
    first
    | apply Evolves.refl | apply Evolves.step (ev_passToPtp ..) | apply Evolves.step (ev_packetWrite ..)
    | apply Evolves.step (ev_State_setCrLane ..) | apply Evolves.ofPair ‹_› | apply Evolves.ofTriple ‹_› | split
    | dsimp only | decide | rfl | intro _

theorem ev_execRoePacketPresent (n : Fin 48) (l : Fin 16) (s : State) :
    OutEvolves 255211775190703847597530955574102983290 s (execRoePacketPresent n l s) := by
  unfold execRoePacketPresent
  with_reducible repeat'
    first
    | apply Evolves.refl | apply OutEvolves.onIsland | apply Evolves.step (ev_packetPresent ..) | dsimp only | decide
    | rfl | intro _

theorem ev_outCount (p : Nat) (j : Nat) (c : Nat) (s : State) :
    Evolves 255211775190708683300809414090524983819 s (outCount p j c s) := by
  unfold outCount
  with_reducible repeat'
    first
    | apply Evolves.refl | apply Evolves.step (ev_raise ..) | apply Evolves.bump | apply Evolves.bumpBy
    | apply Evolves.ite | apply Evolves.ofPair ‹_› | apply Evolves.ofTriple ‹_› | split | dsimp only | decide | rfl
    | intro _

theorem ev_ohpPeriod (p : Nat) (samples : List OhSamples) (s : State) :
    Evolves 255211775190708683300809414090810196603 s (ohpPeriod p samples s) := by
  unfold ohpPeriod
  with_reducible repeat'
    first
    | apply Evolves.refl | apply Evolves.step (ev_passToPtp ..) | apply Evolves.step (ev_outCount ..)
    | apply Evolves.onlyIf | apply Evolves.allOf | apply Evolves.ite | split | dsimp only | decide | rfl | intro _
    | apply Evolves.upd_ohp

theorem ev_execOhpPeriod (p : Fin 8) (samples : List OhSamples) (s : State) :
    OutEvolves 255211775190708683300809414090810196603 s (execOhpPeriod p samples s) := by
  unfold execOhpPeriod
  with_reducible repeat'
    first
    | apply Evolves.refl | apply OutEvolves.onIsland | apply Evolves.step (ev_ohpPeriod ..) | dsimp only | decide | rfl
    | intro _

theorem ev_channelWrite (p : Nat) (w : Nat) (s : State) :
    Evolves 265845599156997681690596787606165391883 s (channelWrite p w s) := by
  unfold channelWrite
  with_reducible repeat'
    first
    | apply Evolves.refl | apply Evolves.step (ev_encReject ..) | apply Evolves.step (ev_setVerdict ..)
    | apply Evolves.step (ev_raise ..) | apply Evolves.wrWord | apply Evolves.wr | apply Evolves.onlyIf
    | apply Evolves.ite | split | dsimp only | decide | rfl | intro _

theorem ev_execOhpChannelWrite (p : Fin 8) (w : Word) (s : State) :
    OutEvolves 265845599156997681690596787606165391883 s (execOhpChannelWrite p w s) := by
  unfold execOhpChannelWrite
  with_reducible repeat'
    first
    | apply Evolves.refl | apply OutEvolves.onIsland | apply Evolves.step (ev_channelWrite ..) | dsimp only | decide
    | rfl | intro _

theorem ev_laneAdvance (s : State) : Evolves 2417851639229258349412353 s (laneAdvance s) := by
  unfold laneAdvance
  with_reducible repeat'
    first
    | apply Evolves.refl | apply Evolves.wr | apply Evolves.onlyIf | apply Evolves.ite | split | dsimp only | decide
    | rfl | intro _

theorem ev_laneDataWrite (w : Nat) (s : State) :
    Evolves 265845599157004935245514475381222017547 s (laneDataWrite w s) := by
  unfold laneDataWrite
  with_reducible repeat'
    first
    | apply Evolves.refl | apply Evolves.step (ev_refuseWrite ..) | apply Evolves.step (ev_State_setCrLane ..)
    | apply Evolves.step (ev_judgeLabel ..) | apply Evolves.step (ev_laneAdvance ..) | apply Evolves.writeWord
    | apply Evolves.onlyIf | apply Evolves.ite | split | dsimp only | decide | rfl | intro _

theorem ev_execCrlLaneWrite (w : Word) (s : State) :
    OutEvolves 265845599157004935245514475381222017547 s (execCrlLaneWrite w s) := by
  unfold execCrlLaneWrite
  with_reducible repeat'
    first
    | apply Evolves.refl | apply OutEvolves.onIsland | apply Evolves.step (ev_laneDataWrite ..) | dsimp only | decide
    | rfl | intro _

end Sys2Proof.Machine
end

