-- ==== Sys2Proof/Laws/EvLookup.lean ====
section
/-!
SUPPORT. What the operations of Machine/Lookup.lean may touch (Safety.lean, Evolves).
-/

namespace Sys2Proof.Machine

set_option Elab.async false
set_option linter.all false

theorem ev_State_setPipe (s : State) (k : Nat) (x : Pipe) : Evolves 536870912 s (State.setPipe s k x) := by
  unfold State.setPipe
  with_reducible repeat'
    first
    | apply Evolves.refl | dsimp only | decide | rfl | intro _ | apply Evolves.upd_cls

theorem ev_pipeCause (k : Nat) (bit : Nat) (d : List Nat) (s : State) :
    Evolves 255211775190703847597530955573826159114 s (pipeCause k bit d s) := by
  unfold pipeCause
  with_reducible repeat'
    first
    | apply Evolves.refl | apply Evolves.step (ev_raise ..) | dsimp only | decide | rfl | intro _

theorem ev_emPut (k : Nat) (slot : Nat) (e : EmEntry) (s : State) :
    Evolves 77371252455336267718066177 s (emPut k slot e s) := by
  unfold emPut
  with_reducible repeat'
    first
    | apply Evolves.refl | apply Evolves.step (ev_State_setPipe ..) | apply Evolves.wr | dsimp only | decide | rfl
    | intro _

theorem ev_takeLane (k : Nat) (s : State) : Evolves 536870912 s (takeLane k s) := by
  unfold takeLane
  with_reducible repeat'
    first
    | apply Evolves.refl | apply Evolves.step (ev_State_setPipe ..) | dsimp only | decide | rfl | intro _

theorem ev_countUp (k : Nat) (e : EmEntry) (s : State) : Evolves 39614081257132168796771975169 s (countUp k e s) := by
  unfold countUp
  with_reducible repeat'
    first
    | apply Evolves.refl | apply Evolves.wrx | apply Evolves.ite | split | dsimp only | decide | rfl | intro _

theorem ev_countDown (k : Nat) (e : EmEntry) (s : State) :
    Evolves 39614081257132168796771975169 s (countDown k e s) := by
  unfold countDown
  with_reducible repeat'
    first
    | apply Evolves.refl | apply Evolves.wrx | apply Evolves.ite | split | dsimp only | decide | rfl | intro _

theorem ev_emWrite (k : Nat) (slot : Nat) (e : EmEntry) (s : State) :
    Evolves 39691452509587505064490041345 s (emWrite k slot e s) := by
  unfold emWrite
  with_reducible repeat'
    first
    | apply Evolves.refl | apply Evolves.step (ev_emPut ..) | apply Evolves.step (ev_countUp ..)
    | apply Evolves.step (ev_countDown ..) | dsimp only | decide | rfl | intro _

theorem ev_emRewrite (k : Nat) (is : List Nat) (e : EmEntry) (s : State) :
    Evolves 39691452509587505064490041345 s (emRewrite k is e s) := by
  unfold emRewrite
  with_reducible repeat'
    first
    | apply Evolves.refl | apply Evolves.step (ev_emPut ..) | apply Evolves.step (ev_emWrite ..) | apply Evolves.allOf
    | apply Evolves.ofPair ‹_› | apply Evolves.ofTriple ‹_› | split | dsimp only | decide | rfl | intro _

theorem ev_emRemove (k : Nat) (kind : Nat) (key : Nat) (s : State) :
    Evolves 39691452509587505064490041345 s (emRemove k kind key s) := by
  unfold emRemove
  with_reducible repeat'
    first
    | apply Evolves.refl | apply Evolves.step (ev_emPut ..) | apply Evolves.step (ev_countDown ..) | apply Evolves.allOf
    | apply Evolves.ofPair ‹_› | apply Evolves.ofTriple ‹_› | split | dsimp only | decide | rfl | intro _

theorem ev_setHit (k : Nat) (slot : Nat) (s : State) : Evolves 77371252455336267718066177 s (setHit k slot s) := by
  unfold setHit
  with_reducible repeat'
    first
    | apply Evolves.refl | apply Evolves.step (ev_emPut ..) | dsimp only | decide | rfl | intro _

theorem ev_moveWrite (k : Nat) (m : Nat × Nat) (s : State) :
    Evolves 77371252455336267718066177 s (moveWrite k m s) := by
  unfold moveWrite
  with_reducible repeat'
    first
    | apply Evolves.refl | apply Evolves.step (ev_emPut ..) | dsimp only | decide | rfl | intro _

theorem ev_emInsert (k : Nat) (tree : Nat) (command : Bool) (e : EmEntry) (s : State) :
    Evolves 255211775230395300107118460638316200587 s (emInsert k tree command e s).2 := by
  unfold emInsert
  with_reducible repeat'
    first
    | apply Evolves.refl | apply Evolves.step (ev_emRewrite ..) | apply Evolves.step (ev_emWrite ..)
    | apply Evolves.step (ev_moveWrite ..) | apply Evolves.step (ev_State_setPipe ..)
    | apply Evolves.step (ev_pipeCause ..) | apply Evolves.step (ev_drawFree ..) | apply Evolves.bump
    | apply Evolves.ite | apply Evolves.ofPair ‹_› | apply Evolves.ofTriple ‹_› | split | dsimp only | decide | rfl
    | intro _

theorem ev_relocationClear (k : Nat) (s : State) : Evolves 39691452509587505064490041345 s (relocationClear k s) := by
  unfold relocationClear
  with_reducible repeat'
    first
    | apply Evolves.refl | apply Evolves.step (ev_emPut ..) | apply Evolves.step (ev_moveWrite ..)
    | apply Evolves.step (ev_State_setPipe ..) | apply Evolves.step (ev_emWrite ..)
    | apply Evolves.step (ev_emRewrite ..) | apply Evolves.onlyIf | apply Evolves.ite | apply Evolves.ofPair ‹_›
    | apply Evolves.ofTriple ‹_› | split | dsimp only | decide | rfl | intro _

end Sys2Proof.Machine
end

