-- ==== Sys2Proof/Laws/EvClassify.lean ====
section
/-!
SUPPORT. What the operations of Machine/Classify.lean may touch (Safety.lean, Evolves).
-/

namespace Sys2Proof.Machine

set_option Elab.async false
set_option linter.all false

theorem ev_setMeter (k : Nat) (m : Nat) (tokens : Nat) (s : State) : Evolves 536870912 s (setMeter k m tokens s) := by
  unfold setMeter
  with_reducible repeat'
    first
    | apply Evolves.refl | apply Evolves.step (ev_State_setPipe ..) | dsimp only | decide | rfl | intro _

theorem ev_meterPass (k : Nat) (a : ActWords) (len : Nat) (s : State) :
    Evolves 77371252455336267718066185 s (meterPass k a len s).2 := by
  unfold meterPass
  with_reducible repeat'
    first
    | apply Evolves.refl | apply Evolves.step (ev_setMeter ..) | apply Evolves.bump | apply Evolves.ite | split
    | dsimp only | decide | rfl | intro _

theorem ev_mirrorDrop (k : Nat) (s : State) : Evolves 255211775190781218849986291841007354379 s (mirrorDrop k s) := by
  unfold mirrorDrop
  with_reducible repeat'
    first
    | apply Evolves.refl | apply Evolves.step (ev_pipeCause ..) | apply Evolves.bump | dsimp only | decide | rfl
    | intro _

theorem ev_hostCopy (k : Nat) (u : UpFrame) (s : State) :
    Evolves 276479424074077822987619255928020275727 s (hostCopy k u s) := by
  unfold hostCopy
  with_reducible repeat'
    first
    | apply Evolves.refl | apply Evolves.step (ev_mirrorDrop ..) | apply Evolves.step (ev_captureCopy ..)
    | apply Evolves.ofPair ‹_› | apply Evolves.ofTriple ‹_› | split | dsimp only | decide | rfl | intro _

theorem ev_setRes (k : Nat) (no : Nat) (r : ClsRes) (s : State) : Evolves 2147483648 s (setRes k no r s) := by
  unfold setRes
  with_reducible repeat'
    first
    | apply Evolves.refl | apply Evolves.ite | split | dsimp only | decide | rfl | intro _ | apply Evolves.upd_merge

theorem ev_pushSecond (k : Nat) (x : Second) (s : State) : Evolves 536870912 s (pushSecond k x s) := by
  unfold pushSecond
  with_reducible repeat'
    first
    | apply Evolves.refl | apply Evolves.step (ev_State_setPipe ..) | dsimp only | decide | rfl | intro _

theorem ev_lookupDown (k : Nat) (f : DsFrame) (s : State) :
    Evolves 255211775190781218849986291843691708939 s (lookupDown k f s) := by
  unfold lookupDown
  with_reducible repeat'
    first
    | apply Evolves.refl | apply Evolves.step (ev_setRes ..) | apply Evolves.step (ev_pipeCause ..)
    | apply Evolves.step (ev_setHit ..) | apply Evolves.step (ev_pushSecond ..) | apply Evolves.bump | apply Evolves.ite
    | apply Evolves.ofPair ‹_› | apply Evolves.ofTriple ‹_› | split | dsimp only | decide | rfl | intro _

theorem ev_classifyDown (k : Nat) (s : State) :
    Evolves 255211775190781218849986291843691708939 s (classifyDown k s) := by
  unfold classifyDown
  with_reducible repeat'
    first
    | apply Evolves.refl | apply Evolves.step (ev_takeLane ..) | apply Evolves.step (ev_setRes ..)
    | apply Evolves.step (ev_lookupDown ..) | apply Evolves.bump | apply Evolves.ite | apply Evolves.ofPair ‹_›
    | apply Evolves.ofTriple ‹_› | split | dsimp only | decide | rfl | intro _

theorem ev_freeUp (k : Nat) (u : UpFrame) (s : State) :
    Evolves 255211776141441797768703006696353567243 s (freeUp k u s) := by
  unfold freeUp
  with_reducible repeat'
    first
    | apply Evolves.refl | apply Evolves.step (ev_freeHandle ..) | apply Evolves.ite | split | dsimp only | decide | rfl
    | intro _

theorem ev_bufferForTmu (k : Nat) (u : UpFrame) (len : Nat) (bytes : List Byte) (s : State) :
    Evolves 276479424074000451735163919660839080463 s (bufferForTmu k u len bytes s).2 := by
  unfold bufferForTmu
  with_reducible repeat'
    first
    | apply Evolves.refl | apply Evolves.step (ev_allocNow ..) | apply Evolves.step (ev_writeBuf ..)
    | apply Evolves.step (ev_freeHandle ..) | apply Evolves.step (ev_bufFree ..) | apply Evolves.step (ev_bufShare ..)
    | apply Evolves.step (ev_wrapperAnswer ..) | apply Evolves.ite | apply Evolves.ofPair ‹_›
    | apply Evolves.ofTriple ‹_› | split | dsimp only | decide | rfl | intro _

theorem ev_toNetwork (k : Nat) (a : ActWords) (u : UpFrame) (s : State) :
    Evolves 276479436750506454017457934627875328527 s (toNetwork k a u s) := by
  unfold toNetwork
  with_reducible repeat'
    first
    | apply Evolves.refl | apply Evolves.step (ev_wrapperAnswer ..) | apply Evolves.step (ev_freeUp ..)
    | apply Evolves.step (ev_ctSend ..) | apply Evolves.step (ev_bufferForTmu ..) | apply Evolves.step (ev_storeSdu ..)
    | apply Evolves.bump | apply Evolves.onlyIf | apply Evolves.ite | apply Evolves.ofPair ‹_›
    | apply Evolves.ofTriple ‹_› | split | dsimp only | decide | rfl | intro _

theorem ev_actUp (k : Nat) (a : ActWords) (u : UpFrame) (s : State) :
    Evolves 276479436750583825269913270895593394703 s (actUp k a u s) := by
  unfold actUp
  with_reducible repeat'
    first
    | apply Evolves.refl | apply Evolves.step (ev_freeUp ..) | apply Evolves.step (ev_meterPass ..)
    | apply Evolves.step (ev_hostCopy ..) | apply Evolves.step (ev_toNetwork ..) | apply Evolves.bump
    | apply Evolves.ite | apply Evolves.ofPair ‹_› | apply Evolves.ofTriple ‹_› | split | dsimp only | decide | rfl
    | intro _

theorem Evolves.learnQueue {m : Nat} {s t : State} {k loc : Nat} {r : LearnReq} {f : State → State} (hf : ∀ x, Evolves m x (f x))
    (h : Evolves m s t) (hm : 255211775190781218849986291841544225291 ||| m = m := by decide) : Evolves m s (learnQueue k loc r f t) := by
  have hm' : ∀ k, k ||| 255211775190781218849986291841544225291 = 255211775190781218849986291841544225291 → k ||| m = m := fun k hk => by rw [← hm, ← Nat.or_assoc, hk]
  unfold Machine.learnQueue
  with_reducible repeat'
    first
    | exact h | exact hm' _ (by decide) | apply Evolves.trans (h := hf _) | apply Evolves.refl
    | apply Evolves.step (hm := hm' _ (by decide)) (ev_pipeCause ..)
    | apply Evolves.step (hm := hm' _ (by decide)) (ev_State_setPipe ..) | apply Evolves.wr | apply Evolves.bump
    | apply Evolves.ite | apply Evolves.ofPair ‹_› | apply Evolves.ofTriple ‹_› | split | dsimp only | decide | rfl
    | intro _

theorem ev_learn (k : Nat) (u : UpFrame) (d : Nat) (s : State) :
    Evolves 255211775190781218849986291841544225291 s (learn k u d s) := by
  unfold learn
  with_reducible repeat'
    first
    | apply Evolves.refl | apply Evolves.step (ev_setHit ..) | apply Evolves.learnQueue
    | apply Evolves.step (ev_pipeCause ..) | apply Evolves.bump | apply Evolves.onlyIf | apply Evolves.ofId
    | apply Evolves.ite | apply Evolves.ofPair ‹_› | apply Evolves.ofTriple ‹_› | split | dsimp only | decide | rfl
    | intro _

theorem ev_classifyUp (k : Nat) (bytes : List Byte) (s : State) :
    Evolves 276479436750583825269913270895660503567 s (classifyUp k bytes s) := by
  unfold classifyUp
  with_reducible repeat'
    first
    | apply Evolves.refl | apply Evolves.step (ev_takeLane ..) | apply Evolves.step (ev_freeUp ..)
    | apply Evolves.step (ev_pipeCause ..) | apply Evolves.step (ev_hostPacket ..) | apply Evolves.step (ev_learn ..)
    | apply Evolves.step (ev_actUp ..) | apply Evolves.step (ev_pushSecond ..) | apply Evolves.bump | apply Evolves.ite
    | apply Evolves.ofPair ‹_› | apply Evolves.ofTriple ‹_› | split | dsimp only | decide | rfl | intro _
    | apply Evolves.upd_upSdus

theorem ev_execClsFrame (k : Fin 4) (f : ClsIn) (s : State) :
    OutEvolves 276479436750583825269913270897807987215 s (execClsFrame k f s) := by
  unfold execClsFrame
  with_reducible repeat'
    first
    | apply Evolves.refl | apply OutEvolves.onIsland | apply Evolves.step (ev_classifyDown ..)
    | apply Evolves.step (ev_classifyUp ..) | apply Evolves.ofPair ‹_› | apply Evolves.ofTriple ‹_› | split | dsimp only
    | decide | rfl | intro _

theorem ev_secondFound (k : Nat) (x : Second) (e : Option Nat) (s : State) :
    Evolves 276479436750583825269913270897740878351 s (secondFound k x e s) := by
  unfold secondFound
  with_reducible repeat'
    first
    | apply Evolves.refl | apply Evolves.step (ev_setHit ..) | apply Evolves.step (ev_setRes ..)
    | apply Evolves.step (ev_actUp ..) | apply Evolves.ofPair ‹_› | apply Evolves.ofTriple ‹_› | split | dsimp only
    | decide | rfl | intro _

theorem ev_secondSlot (k : Nat) (s : State) : Evolves 276479436750583825269913270897740878351 s (secondSlot k s) := by
  unfold secondSlot
  with_reducible repeat'
    first
    | apply Evolves.refl | apply Evolves.step (ev_State_setPipe ..) | apply Evolves.step (ev_secondFound ..)
    | apply Evolves.bump | apply Evolves.ofPair ‹_› | apply Evolves.ofTriple ‹_› | split | dsimp only | decide | rfl
    | intro _

theorem ev_execClsSecondSlot (k : Fin 4) (s : State) :
    OutEvolves 276479436750583825269913270897740878351 s (execClsSecondSlot k s) := by
  unfold execClsSecondSlot
  with_reducible repeat'
    first
    | apply Evolves.refl | apply OutEvolves.onIsland | apply Evolves.step (ev_secondSlot ..) | dsimp only | decide | rfl
    | intro _

theorem ev_learnApply (k : Nat) (s : State) : Evolves 255211775230395300107118460638316200587 s (learnApply k s) := by
  unfold learnApply
  with_reducible repeat'
    first
    | apply Evolves.refl | apply Evolves.step (ev_State_setPipe ..) | apply Evolves.step (ev_emPut ..)
    | apply Evolves.step (ev_emWrite ..) | apply Evolves.step (ev_emInsert ..) | apply Evolves.wr | apply Evolves.bump
    | apply Evolves.onlyIf | apply Evolves.ite | apply Evolves.ofPair ‹_› | apply Evolves.ofTriple ‹_› | split
    | dsimp only | decide | rfl | intro _

theorem ev_execLearnApply (k : Fin 4) (s : State) :
    OutEvolves 255211775230395300107118460638316200587 s (execLearnApply k s) := by
  unfold execLearnApply
  with_reducible repeat'
    first
    | apply Evolves.refl | apply OutEvolves.onIsland | apply Evolves.step (ev_learnApply ..) | dsimp only | decide | rfl
    | intro _

theorem ev_execRelocationClear (k : Fin 4) (s : State) :
    OutEvolves 39691452509587505064490041857 s (execRelocationClear k s) := by
  unfold execRelocationClear
  with_reducible repeat'
    first
    | apply Evolves.refl | apply OutEvolves.onIsland | apply Evolves.step (ev_relocationClear ..) | dsimp only | decide
    | rfl | intro _

theorem ev_refreshFirst (k : Nat) (i : Nat) (s : State) :
    Evolves 77371252455336267718066177 s (refreshFirst k i s) := by
  unfold refreshFirst
  with_reducible repeat'
    first
    | apply Evolves.refl | apply Evolves.step (ev_emPut ..) | apply Evolves.step (ev_State_setPipe ..)
    | apply Evolves.wr | apply Evolves.onlyIf | apply Evolves.ofPair ‹_› | apply Evolves.ofTriple ‹_› | split
    | dsimp only | decide | rfl | intro _

theorem ev_conditionalClear (k : Nat) (s : State) :
    Evolves 255211775230395300107118460638316200459 s (conditionalClear k s) := by
  unfold conditionalClear
  with_reducible repeat'
    first
    | apply Evolves.refl | apply Evolves.step (ev_State_setPipe ..) | apply Evolves.step (ev_refreshFirst ..)
    | apply Evolves.step (ev_pipeCause ..) | apply Evolves.step (ev_emRemove ..) | apply Evolves.bump
    | apply Evolves.ite | apply Evolves.ofPair ‹_› | apply Evolves.ofTriple ‹_› | split | dsimp only | decide | rfl
    | intro _

theorem ev_execConditionalClear (k : Fin 4) (s : State) :
    OutEvolves 255211775230395300107118460638316200459 s (execConditionalClear k s) := by
  unfold execConditionalClear
  with_reducible repeat'
    first
    | apply Evolves.refl | apply OutEvolves.onIsland | apply Evolves.step (ev_conditionalClear ..) | dsimp only | decide
    | rfl | intro _

theorem ev_ageSlot (k : Nat) (slot : Nat) (hitNow : Bool) (s : State) :
    Evolves 39691452509587505064490041353 s (ageSlot k slot hitNow s) := by
  unfold ageSlot
  with_reducible repeat'
    first
    | apply Evolves.refl | apply Evolves.step (ev_emPut ..) | apply Evolves.step (ev_countDown ..) | apply Evolves.bump
    | apply Evolves.ite | split | dsimp only | decide | rfl | intro _

theorem ev_agingVisit (k : Nat) (hits : Nat) (s : State) :
    Evolves 39691452509587505064758476921 s (agingVisit k hits s) := by
  unfold agingVisit
  with_reducible repeat'
    first
    | apply Evolves.refl | apply Evolves.step (ev_passTo ..) | apply Evolves.step (ev_ageSlot ..)
    | apply Evolves.step (ev_State_setPipe ..) | apply Evolves.allOf | apply Evolves.ite | split | dsimp only | decide
    | rfl | intro _

theorem ev_execAgingVisit (k : Fin 4) (hits : BitVec 4) (s : State) :
    OutEvolves 39691452509587505064758477433 s (execAgingVisit k hits s) := by
  unfold execAgingVisit
  with_reducible repeat'
    first
    | apply Evolves.refl | apply OutEvolves.onIsland | apply Evolves.step (ev_agingVisit ..) | dsimp only | decide | rfl
    | intro _

theorem ev_mirrorDown (k : Nat) (s : State) : Evolves 255211775190781218849986291841007354379 s (mirrorDown k s).2 := by
  unfold mirrorDown
  with_reducible repeat'
    first
    | apply Evolves.refl | apply Evolves.step (ev_mirrorDrop ..) | apply Evolves.ofPair ‹_› | apply Evolves.ofTriple ‹_›
    | split | dsimp only | decide | rfl | intro _

theorem ev_actDown (k : Nat) (a : ActWords) (f : DsFrame) (s : State) :
    Evolves 255211775190800561663100125908347912715 s (actDown k a f s).2 := by
  unfold actDown
  with_reducible repeat'
    first
    | apply Evolves.refl | apply Evolves.step (ev_meterPass ..) | apply Evolves.step (ev_mirrorDown ..)
    | apply Evolves.step (ev_packetRx ..) | apply Evolves.step (ev_wrapperAnswer ..) | apply Evolves.bump
    | apply Evolves.ite | apply Evolves.ofPair ‹_› | apply Evolves.ofTriple ‹_› | split | dsimp only | decide | rfl
    | intro _

theorem ev_pushClear (k : Nat) (key : Nat) (stamp : Nat) (s : State) :
    Evolves 536870912 s (pushClear k key stamp s) := by
  unfold pushClear
  with_reducible repeat'
    first
    | apply Evolves.refl | apply Evolves.step (ev_State_setPipe ..) | dsimp only | decide | rfl | intro _

theorem ev_mergeMac (f : DsFrame) (s : State) : Evolves 255211775190800561663100125908347912715 s (mergeMac f s).2 := by
  unfold mergeMac
  with_reducible repeat'
    first
    | apply Evolves.refl | apply Evolves.step (ev_pushClear ..) | apply Evolves.step (ev_actDown ..)
    | apply Evolves.step (ev_pipeCause ..) | apply Evolves.bump | apply Evolves.allOf | apply Evolves.foldl
    | apply Evolves.ite | apply Evolves.ofPair ‹_› | apply Evolves.ofTriple ‹_› | split | dsimp only | decide | rfl
    | intro _

theorem ev_sendCopy (f : DsFrame) (h : Nat) (c : Copy) (s : State) :
    Evolves 276479435482855853789228533131172123151 s (sendCopy f h c s) := by
  unfold sendCopy
  with_reducible repeat'
    first
    | apply Evolves.refl | apply Evolves.step (ev_tmdPut ..) | apply Evolves.step (ev_freeHandle ..)
    | apply Evolves.step (ev_wrapperAnswer ..) | apply Evolves.step (ev_captureRing ..) | apply Evolves.ite
    | apply Evolves.ofPair ‹_› | apply Evolves.ofTriple ‹_› | split | dsimp only | decide | rfl | intro _

theorem ev_freeCopy (h : Nat) (c : Copy) (s : State) :
    Evolves 255211776141441797768703006696353567243 s (freeCopy h c s) := by
  unfold freeCopy
  with_reducible repeat'
    first
    | apply Evolves.refl | apply Evolves.step (ev_freeHandle ..) | apply Evolves.ite | split | dsimp only | decide | rfl
    | intro _

theorem ev_deliverCopies (f : DsFrame) (c : Copies) (s : State) :
    Evolves 276479435482855853789228533131172123151 s (deliverCopies f c s) := by
  unfold deliverCopies
  with_reducible repeat'
    first
    | apply Evolves.refl | apply Evolves.step (ev_allocNow ..) | apply Evolves.step (ev_writeBuf ..)
    | apply Evolves.step (ev_bufRefuse ..) | apply Evolves.step (ev_sendCopy ..) | apply Evolves.step (ev_freeCopy ..)
    | apply Evolves.bump | apply Evolves.allOf | apply Evolves.ite | apply Evolves.ofPair ‹_›
    | apply Evolves.ofTriple ‹_› | split | dsimp only | decide | rfl | intro _

theorem ev_handTrapped (f : DsFrame) (s : State) : Evolves 17448305152 s (handTrapped f s) := by
  unfold handTrapped
  with_reducible repeat'
    first
    | apply Evolves.refl | apply Evolves.step (ev_wrapperAnswer ..) | apply Evolves.ite | split | dsimp only | decide
    | rfl | intro _ | apply Evolves.upd_sys | apply Evolves.upd_tim

theorem ev_mergeStage (s : State) : Evolves 276479435482952567854797703485289665039 s (mergeStage s) := by
  unfold mergeStage
  with_reducible repeat'
    first
    | apply Evolves.refl | apply Evolves.step (ev_mergeMac ..) | apply Evolves.step (ev_handTrapped ..)
    | apply Evolves.step (ev_actDown ..) | apply Evolves.step (ev_deliverCopies ..) | apply Evolves.foldl
    | apply Evolves.ofPair ‹_› | apply Evolves.ofTriple ‹_› | split | dsimp only | decide | rfl | intro _
    | apply Evolves.upd_merge

theorem ev_execMerge (s : State) : OutEvolves 276479435482952567854797703485289665039 s (execMerge s) := by
  unfold execMerge
  with_reducible repeat'
    first
    | apply Evolves.refl | apply OutEvolves.onIsland | apply Evolves.step (ev_mergeStage ..) | dsimp only | decide | rfl
    | intro _

theorem ev_stageEntry (k : Nat) (e : EmEntry) (s : State) :
    Evolves 154742504910672534362390529 s (stageEntry k e s) := by
  unfold stageEntry
  with_reducible repeat'
    first
    | apply Evolves.refl | apply Evolves.wrWord | apply Evolves.allOf | dsimp only | decide | rfl | intro _

theorem ev_flushLearned (k : Nat) (tree : Option Nat) (s : State) :
    Evolves 39691452509587505064490041345 s (flushLearned k tree s) := by
  unfold flushLearned
  with_reducible repeat'
    first
    | apply Evolves.refl | apply Evolves.step (ev_emRemove ..) | apply Evolves.allOf | dsimp only | decide | rfl
    | intro _

theorem Evolves.whenFound {m : Nat} {s t : State} {e : Option Nat} {f : Nat → State → State}
    (hf : ∀ i x, Evolves m x (f i x)) (h : Evolves m s t) : Evolves m s (whenFound e f t).2 := by
  unfold Machine.whenFound
  split
  · exact h.trans (hf _ _)
  · exact h

theorem ev_emOperate (k op slot : Nat) (s : State) : Evolves 255211775230550042612029133172678591115 s (emOperate k op slot s).2 := by
  unfold emOperate
  dsimp only
  split
  · split
    · exact .refl s
    · exact Evolves.step (ev_emInsert ..) (.refl s)
  · split
    · exact .refl s
    · exact .whenFound (fun _ x => Evolves.step (ev_emRemove ..) (.refl x)) (.refl s)
  · split
    · exact .refl s
    · exact .whenFound (fun _ x => Evolves.step (ev_stageEntry ..) (.refl x)) (.refl s)
  · exact Evolves.step (ev_stageEntry ..) (.refl s)
  · exact Evolves.step (ev_flushLearned ..) (.refl s)
  · split
    · exact .refl s
    · exact Evolves.step (ev_flushLearned ..) (.refl s)

theorem ev_emRun (k : Nat) (s : State) : Evolves 255211775230550042612029133172678591115 s (emRun k s) := by
  unfold emRun
  with_reducible repeat'
    first
    | apply Evolves.refl | apply Evolves.step (ev_emOperate ..) | apply Evolves.step (ev_State_setPipe ..)
    | apply Evolves.ite | apply Evolves.ofPair ‹_› | apply Evolves.ofTriple ‹_› | split | dsimp only | decide | rfl
    | intro _

theorem ev_emBegin (k : Nat) (op : Nat) (slot : Nat) (s : State) :
    Evolves 255211775230550042612029133172678591115 s (emBegin k op slot s) := by
  unfold emBegin
  with_reducible repeat'
    first
    | apply Evolves.refl | apply Evolves.step (ev_emRun ..) | apply Evolves.step (ev_State_setPipe ..)
    | apply Evolves.wr | dsimp only | decide | rfl | intro _

theorem ev_emStart (k : Nat) (op : Nat) (slot : Nat) (s : State) :
    Evolves 265845599196829369595259589654921347723 s (emStart k op slot s) := by
  unfold emStart
  with_reducible repeat'
    first
    | apply Evolves.refl | apply Evolves.step (ev_emBegin ..) | apply Evolves.step (ev_State_setPipe ..)
    | apply Evolves.step (ev_goBusy ..) | apply Evolves.wr | apply Evolves.ofPair ‹_› | apply Evolves.ofTriple ‹_›
    | split | dsimp only | decide | rfl | intro _

theorem ev_emDone (k : Nat) (s : State) : Evolves 255211775230550042612029133172678591115 s (emDone k s) := by
  unfold emDone
  with_reducible repeat'
    first
    | apply Evolves.refl | apply Evolves.step (ev_emRun ..) | apply Evolves.step (ev_pipeCause ..)
    | apply Evolves.step (ev_State_setPipe ..) | apply Evolves.step (ev_emBegin ..) | apply Evolves.wr
    | apply Evolves.onlyIf | apply Evolves.ofPair ‹_› | apply Evolves.ofTriple ‹_› | split | dsimp only | decide | rfl
    | intro _

theorem ev_execEmInsert (k : Fin 4) (slot : BitVec 20) (s : State) :
    OutEvolves 265845599196829369595259589654921347723 s (execEmInsert k slot s) := by
  unfold execEmInsert
  with_reducible repeat'
    first
    | apply Evolves.refl | apply OutEvolves.onIsland | apply Evolves.step (ev_emStart ..) | dsimp only | decide | rfl
    | intro _

theorem ev_execEmDelete (k : Fin 4) (slot : BitVec 20) (s : State) :
    OutEvolves 265845599196829369595259589654921347723 s (execEmDelete k slot s) := by
  unfold execEmDelete
  with_reducible repeat'
    first
    | apply Evolves.refl | apply OutEvolves.onIsland | apply Evolves.step (ev_emStart ..) | dsimp only | decide | rfl
    | intro _

theorem ev_execEmSearch (k : Fin 4) (slot : BitVec 20) (s : State) :
    OutEvolves 265845599196829369595259589654921347723 s (execEmSearch k slot s) := by
  unfold execEmSearch
  with_reducible repeat'
    first
    | apply Evolves.refl | apply OutEvolves.onIsland | apply Evolves.step (ev_emStart ..) | dsimp only | decide | rfl
    | intro _

theorem ev_execEmReadSlot (k : Fin 4) (slot : BitVec 20) (s : State) :
    OutEvolves 265845599196829369595259589654921347723 s (execEmReadSlot k slot s) := by
  unfold execEmReadSlot
  with_reducible repeat'
    first
    | apply Evolves.refl | apply OutEvolves.onIsland | apply Evolves.step (ev_emStart ..) | dsimp only | decide | rfl
    | intro _

theorem ev_execEmFlushLearned (k : Fin 4) (slot : BitVec 20) (s : State) :
    OutEvolves 265845599196829369595259589654921347723 s (execEmFlushLearned k slot s) := by
  unfold execEmFlushLearned
  with_reducible repeat'
    first
    | apply Evolves.refl | apply OutEvolves.onIsland | apply Evolves.step (ev_emStart ..) | dsimp only | decide | rfl
    | intro _

theorem ev_execEmFlushTree (k : Fin 4) (slot : BitVec 20) (s : State) :
    OutEvolves 265845599196829369595259589654921347723 s (execEmFlushTree k slot s) := by
  unfold execEmFlushTree
  with_reducible repeat'
    first
    | apply Evolves.refl | apply OutEvolves.onIsland | apply Evolves.step (ev_emStart ..) | dsimp only | decide | rfl
    | intro _

theorem ev_execEmCmdDone (k : Fin 4) (s : State) :
    OutEvolves 255211775230550042612029133172678591115 s (execEmCmdDone k s) := by
  unfold execEmCmdDone
  with_reducible repeat'
    first
    | apply Evolves.refl | apply OutEvolves.onIsland | apply Evolves.step (ev_emDone ..) | dsimp only | decide | rfl
    | intro _

theorem ev_emCmdWrite (k : Nat) (w : Nat) (s : State) :
    Evolves 265845599196829369595259589654921349771 s (emCmdWrite k w s) := by
  unfold emCmdWrite
  with_reducible repeat'
    first
    | apply Evolves.refl | apply Evolves.step (ev_encReject ..) | apply Evolves.step (ev_emStart ..) | apply Evolves.wr
    | apply Evolves.onlyIf | apply Evolves.ite | split | dsimp only | decide | rfl | intro _

theorem ev_emAdvance (k : Nat) (s : State) : Evolves 77371252455336267181195265 s (emAdvance k s) := by
  unfold emAdvance
  with_reducible repeat'
    first
    | apply Evolves.refl | apply Evolves.wr | apply Evolves.onlyIf | dsimp only | decide | rfl | intro _

theorem ev_emDataWrite (k : Nat) (w : Nat) (s : State) : Evolves 232113757366008801543585793 s (emDataWrite k w s) := by
  unfold emDataWrite
  with_reducible repeat'
    first
    | apply Evolves.refl | apply Evolves.step (ev_emAdvance ..) | apply Evolves.wrWord | dsimp only | decide | rfl
    | intro _

theorem ev_emDataRead (k : Nat) (s : State) : Evolves 77371252455336267181195265 s (emDataRead k s).2 := by
  unfold emDataRead
  with_reducible repeat'
    first
    | apply Evolves.refl | apply Evolves.step (ev_emAdvance ..) | dsimp only | decide | rfl | intro _

theorem ev_lpmBegin (op : Nat) (s : State) : Evolves 79228162514264337594617692161 s (lpmBegin op s) := by
  unfold lpmBegin
  with_reducible repeat'
    first
    | apply Evolves.refl | apply Evolves.wr | dsimp only | decide | rfl | intro _ | apply Evolves.upd_lpm

theorem ev_lpmStart (op : Nat) (s : State) : Evolves 265845599236211337095025749650686607883 s (lpmStart op s) := by
  unfold lpmStart
  with_reducible repeat'
    first
    | apply Evolves.refl | apply Evolves.step (ev_lpmBegin ..) | apply Evolves.step (ev_goBusy ..) | apply Evolves.wr
    | apply Evolves.ofPair ‹_› | apply Evolves.ofTriple ‹_› | split | dsimp only | decide | rfl | intro _
    | apply Evolves.upd_lpm

theorem ev_lpmDone (s : State) : Evolves 255211775269932010111795293168980722315 s (lpmDone s) := by
  unfold lpmDone
  with_reducible repeat'
    first
    | apply Evolves.refl | apply Evolves.step (ev_State_setPipe ..) | apply Evolves.step (ev_drawFree ..)
    | apply Evolves.step (ev_pipeCause ..) | apply Evolves.step (ev_lpmBegin ..) | apply Evolves.wr
    | apply Evolves.onlyIf | apply Evolves.allOf | apply Evolves.ite | apply Evolves.ofPair ‹_›
    | apply Evolves.ofTriple ‹_› | split | dsimp only | decide | rfl | intro _ | apply Evolves.upd_lpm

theorem ev_execLpmAdd (s : State) : OutEvolves 265845599236211337095025749650686607883 s (execLpmAdd s) := by
  unfold execLpmAdd
  with_reducible repeat'
    first
    | apply Evolves.refl | apply OutEvolves.onIsland | apply Evolves.step (ev_lpmStart ..) | dsimp only | decide | rfl
    | intro _

theorem ev_execLpmDelete (s : State) : OutEvolves 265845599236211337095025749650686607883 s (execLpmDelete s) := by
  unfold execLpmDelete
  with_reducible repeat'
    first
    | apply Evolves.refl | apply OutEvolves.onIsland | apply Evolves.step (ev_lpmStart ..) | dsimp only | decide | rfl
    | intro _

theorem ev_execLpmFlushV4 (s : State) : OutEvolves 265845599236211337095025749650686607883 s (execLpmFlushV4 s) := by
  unfold execLpmFlushV4
  with_reducible repeat'
    first
    | apply Evolves.refl | apply OutEvolves.onIsland | apply Evolves.step (ev_lpmStart ..) | dsimp only | decide | rfl
    | intro _

theorem ev_execLpmFlushV6 (s : State) : OutEvolves 265845599236211337095025749650686607883 s (execLpmFlushV6 s) := by
  unfold execLpmFlushV6
  with_reducible repeat'
    first
    | apply Evolves.refl | apply OutEvolves.onIsland | apply Evolves.step (ev_lpmStart ..) | dsimp only | decide | rfl
    | intro _

theorem ev_execLpmCmdDone (s : State) : OutEvolves 255211775269932010111795293168980722315 s (execLpmCmdDone s) := by
  unfold execLpmCmdDone
  with_reducible repeat'
    first
    | apply Evolves.refl | apply OutEvolves.onIsland | apply Evolves.step (ev_lpmDone ..) | dsimp only | decide | rfl
    | intro _

theorem ev_lpmCmdWrite (w : Nat) (s : State) : Evolves 265845599236211337095025749650686607883 s (lpmCmdWrite w s) := by
  unfold lpmCmdWrite
  with_reducible repeat'
    first
    | apply Evolves.refl | apply Evolves.step (ev_lpmStart ..) | apply Evolves.wr | apply Evolves.ite | split
    | dsimp only | decide | rfl | intro _

theorem ev_lpmAdvance (s : State) : Evolves 79228162514264337593543950337 s (lpmAdvance s) := by
  unfold lpmAdvance
  with_reducible repeat'
    first
    | apply Evolves.refl | apply Evolves.wr | apply Evolves.onlyIf | dsimp only | decide | rfl | intro _

theorem ev_lpmDataWrite (w : Nat) (s : State) :
    Evolves 265845599394667662123554424836700768779 s (lpmDataWrite w s) := by
  unfold lpmDataWrite
  with_reducible repeat'
    first
    | apply Evolves.refl | apply Evolves.step (ev_lpmAdvance ..) | apply Evolves.step (ev_encReject ..)
    | apply Evolves.writeWord | apply Evolves.onlyIf | apply Evolves.ite | split | dsimp only | decide | rfl | intro _

theorem ev_lpmDataRead (s : State) : Evolves 79228162514264337593543950337 s (lpmDataRead s).2 := by
  unfold lpmDataRead
  with_reducible repeat'
    first
    | apply Evolves.refl | apply Evolves.step (ev_lpmAdvance ..) | dsimp only | decide | rfl | intro _

theorem ev_hashSeedWrite (k : Nat) (i : Nat) (w : Nat) (s : State) :
    Evolves 265845599157060545833216748323250113035 s (hashSeedWrite k i w s) := by
  unfold hashSeedWrite
  with_reducible repeat'
    first
    | apply Evolves.refl | apply Evolves.step (ev_encReject ..) | apply Evolves.wr | (simp only [wordMask_at]; decide)
    | apply Evolves.ite | split | dsimp only | decide | rfl | intro _

theorem ev_execHashSeedWrite (k : Fin 4) (i : Fin 2) (w : Word) (s : State) :
    OutEvolves 265845599157060545833216748323250113035 s (execHashSeedWrite k i w s) := by
  unfold execHashSeedWrite
  with_reducible repeat'
    first
    | apply Evolves.refl | apply OutEvolves.onIsland | apply Evolves.step (ev_hashSeedWrite ..) | dsimp only | decide
    | rfl | intro _

theorem ev_tblWrite (k : Nat) (w : Nat) (s : State) :
    Evolves 1361129467683753853835051685653900167691 s (tblWrite k w s) := by
  unfold tblWrite
  with_reducible repeat'
    first
    | apply Evolves.refl | apply Evolves.step (ev_setVerdict ..) | apply Evolves.step (ev_pipeCause ..)
    | apply Evolves.step (ev_State_setPipe ..) | apply Evolves.step (ev_setMeter ..) | apply Evolves.advanceIndex
    | apply Evolves.step (ev_writeWord ..) | apply Evolves.onlyIf | apply Evolves.allOf | apply Evolves.ite
    | apply Evolves.ofPair ‹_› | apply Evolves.ofTriple ‹_› | split | dsimp only | decide | rfl | intro _

theorem ev_tblRead (k : Nat) (s : State) : Evolves 77371252455336267181195265 s (tblRead k s).2 := by
  unfold tblRead
  with_reducible repeat'
    first
    | apply Evolves.refl | apply Evolves.advanceIndex | apply Evolves.ofPair ‹_› | apply Evolves.ofTriple ‹_› | split
    | dsimp only | decide | rfl | intro _

theorem ev_execTableEntryCommit (k : Fin 4) (w : Word) (s : State) :
    OutEvolves 1361129467683753853835051685653900167691 s (execTableEntryCommit k w s) := by
  unfold execTableEntryCommit
  with_reducible repeat'
    first
    | apply Evolves.refl | apply OutEvolves.onIsland | apply Evolves.step (ev_tblWrite ..) | dsimp only | decide | rfl
    | intro _

end Sys2Proof.Machine
end

