-- ==== Sys2Proof/Laws/EvEvents.lean ====
section
/-!
SUPPORT. What the operations of Machine/Events.lean may touch (Safety.lean, Evolves).
-/

namespace Sys2Proof.Machine

set_option Elab.async false
set_option linter.all false

theorem ev_execCauseRaise (src : BitVec 8) (bit : BitVec 5) (d0 : Word) (d1 : Word) (d2 : Word) (s : State) :
    OutEvolves 255211775190703847597530955573826159114 s (execCauseRaise src bit d0 d1 d2 s) := by
  unfold execCauseRaise
  with_reducible repeat'
    first
    | apply Evolves.refl | apply OutEvolves.next | apply Evolves.step (ev_raise ..) | dsimp only | decide | rfl
    | intro _

theorem ev_countDelivery (src : Nat) (s : State) :
    Evolves 255211775190703847597530955573826159114 s (countDelivery src s) := by
  unfold countDelivery
  with_reducible repeat'
    first
    | apply Evolves.refl | apply Evolves.step (ev_deliver _ (ev_raiseAt 1) ..) | apply Evolves.ite | split | dsimp only
    | decide | rfl | intro _

theorem ev_execCountDelivery (src : BitVec 8) (s : State) :
    OutEvolves 255211775190703847597530955573826159114 s (execCountDelivery src s) := by
  unfold execCountDelivery
  with_reducible repeat'
    first
    | apply Evolves.refl | apply OutEvolves.onIsland | apply Evolves.step (ev_countDelivery ..) | dsimp only | decide
    | rfl | intro _

theorem ev_holdoffEnd (src : Nat) (s : State) :
    Evolves 255211775190703847597530955574094594682 s (holdoffEnd src s) := by
  unfold holdoffEnd
  with_reducible repeat'
    first
    | apply Evolves.refl | apply Evolves.step (ev_passTo ..) | apply Evolves.step (ev_deliver _ (ev_raiseAt 1) ..)
    | apply Evolves.ite | apply Evolves.ofPair ‹_› | apply Evolves.ofTriple ‹_› | split | dsimp only | decide | rfl
    | intro _

theorem ev_execHoldoffEnd (src : BitVec 8) (s : State) :
    OutEvolves 255211775190703847597530955574094594682 s (execHoldoffEnd src s) := by
  unfold execHoldoffEnd
  with_reducible repeat'
    first
    | apply Evolves.refl | apply OutEvolves.onIsland | apply Evolves.step (ev_holdoffEnd ..) | dsimp only | decide | rfl
    | intro _

theorem ev_judgeSource (src : Nat) (s : State) :
    Evolves 255211775190703847597530955573826159114 s (judgeSource src s) := by
  unfold judgeSource
  with_reducible repeat'
    first
    | apply Evolves.refl | apply Evolves.step (ev_deliver _ (ev_raiseAt 1) ..) | apply Evolves.ite | split | dsimp only
    | decide | rfl | intro _

theorem ev_dlvEnWrite (v : Nat) (s : State) : Evolves 255211775190703847597530955573826159114 s (dlvEnWrite v s) := by
  unfold dlvEnWrite
  with_reducible repeat'
    first
    | apply Evolves.refl | apply Evolves.step (ev_judgeSource ..) | apply Evolves.wr | apply Evolves.onlyIf
    | apply Evolves.allOf | dsimp only | decide | rfl | intro _

theorem ev_execDlvEnable (s : State) : OutEvolves 255211775190703847597530955573826159114 s (execDlvEnable s) := by
  unfold execDlvEnable
  with_reducible repeat'
    first
    | apply Evolves.refl | apply OutEvolves.onIsland | apply Evolves.step (ev_dlvEnWrite ..) | dsimp only | decide | rfl
    | intro _

theorem ev_eventEnWrite (src : Nat) (w : Nat) (s : State) :
    Evolves 255211775190703847597530955573826159114 s (eventEnWrite src w s) := by
  unfold eventEnWrite
  with_reducible repeat'
    first
    | apply Evolves.refl | apply Evolves.step (ev_judgeSource ..) | apply Evolves.wr | apply Evolves.foldl
    | apply Evolves.ite | split | dsimp only | decide | rfl | intro _ | apply Evolves.upd_ev

theorem ev_execEventEnWrite (src : BitVec 8) (w : Word) (s : State) :
    OutEvolves 255211775190703847597530955573826159114 s (execEventEnWrite src w s) := by
  unfold execEventEnWrite
  with_reducible repeat'
    first
    | apply Evolves.refl | apply OutEvolves.onIsland | apply Evolves.step (ev_eventEnWrite ..) | dsimp only | decide
    | rfl | intro _

theorem ev_execCauseW1c (src : BitVec 8) (w : Word) (s : State) :
    OutEvolves 265845599156983174580761412056068917771 s (execCauseW1c src w s) := by
  unfold execCauseW1c
  with_reducible repeat'
    first
    | apply Evolves.refl | apply OutEvolves.onIsland | apply Evolves.writeReg | dsimp only | decide | rfl | intro _

theorem ev_captureRelease (src : Nat) (s : State) :
    Evolves 170141183460469231731687303715884105730 s (captureRelease src s) := by
  unfold captureRelease
  with_reducible repeat'
    first
    | apply Evolves.refl | apply Evolves.wr | dsimp only | decide | rfl | intro _

theorem ev_execCaptureRelease (src : BitVec 8) (s : State) :
    OutEvolves 170141183460469231731687303715884106242 s (execCaptureRelease src s) := by
  unfold execCaptureRelease
  with_reducible repeat'
    first
    | apply Evolves.refl | apply OutEvolves.onIsland | apply Evolves.step (ev_captureRelease ..) | dsimp only | decide
    | rfl | intro _

theorem ev_pinPulseEnd (p : Nat) (s : State) : Evolves 268435578 s (pinPulseEnd p s) := by
  unfold pinPulseEnd
  with_reducible repeat'
    first
    | apply Evolves.refl | apply Evolves.step (ev_passTo ..) | apply Evolves.ofPair ‹_› | apply Evolves.ofTriple ‹_›
    | split | dsimp only | decide | rfl | intro _ | apply Evolves.upd_ev

theorem ev_execPinPulseEnd (p : Fin 2) (s : State) : OutEvolves 268436090 s (execPinPulseEnd p s) := by
  unfold execPinPulseEnd
  with_reducible repeat'
    first
    | apply Evolves.refl | apply OutEvolves.onIsland | apply Evolves.step (ev_pinPulseEnd ..) | dsimp only | decide
    | rfl | intro _

end Sys2Proof.Machine
end

