-- ==== Sys2Proof/Laws/EvPmuOps.lean ====
section
/-!
SUPPORT. What the operations of Machine/PmuOps.lean may touch (Safety.lean, Evolves).
-/

namespace Sys2Proof.Machine

set_option Elab.async false
set_option linter.all false

theorem ev_State_setPmu (s : State) (i : Nat) (x : PmuVal) : Evolves 8 s (State.setPmu s i x) := by
  unfold State.setPmu
  with_reducible repeat'
    first
    | apply Evolves.refl | dsimp only | decide | rfl | intro _ | apply Evolves.upd_pmu

theorem ev_windowEnd (i : Nat) (j : Nat) (s : State) :
    Evolves 935776509032580774524280170437362582027 s (windowEnd i j s) := by
  unfold windowEnd
  with_reducible repeat'
    first
    | apply Evolves.refl | apply Evolves.step (ev_raise ..) | apply Evolves.step (ev_State_setPmu ..) | apply Evolves.wr
    | apply Evolves.onlyIf | dsimp only | decide | rfl | intro _

theorem ev_windowsCut (s : State) : Evolves 935776509032580774524280170437362582027 s (windowsCut s) := by
  unfold windowsCut
  with_reducible repeat'
    first
    | apply Evolves.refl | apply Evolves.step (ev_windowEnd ..) | apply Evolves.allOf | dsimp only | decide | rfl
    | intro _

end Sys2Proof.Machine
end

