-- ==== Sys2Proof/Laws/EvTiming.lean ====
section
/-!
SUPPORT. What the operations of Machine/Timing.lean may touch (Safety.lean, Evolves).
-/

namespace Sys2Proof.Machine

set_option Elab.async false
set_option linter.all false

theorem ev_timCause (bit : Nat) (s : State) : Evolves 255211775190703847597530955573826159114 s (timCause bit s) := by
  unfold timCause
  with_reducible repeat'
    first
    | apply Evolves.refl | apply Evolves.step (ev_raise ..) | dsimp only | decide | rfl | intro _

theorem ev_State_setTim (s : State) (x : Tim) : Evolves 268435456 s (State.setTim s x) := by
  unfold State.setTim
  with_reducible repeat'
    first
    | apply Evolves.refl | dsimp only | decide | rfl | intro _ | apply Evolves.upd_tim

theorem ev_decideRealign (s : State) : Evolves 255213073264918481304438088198176899595 s (decideRealign s) := by
  unfold decideRealign
  with_reducible repeat'
    first
    | apply Evolves.refl | apply Evolves.step (ev_timCause ..) | apply Evolves.step (ev_State_setTim ..)
    | apply Evolves.bump | dsimp only | decide | rfl | intro _

theorem ev_frameUnaligned (s : State) : Evolves 255213073264918481304438088198176899595 s (frameUnaligned s) := by
  unfold frameUnaligned
  with_reducible repeat'
    first
    | apply Evolves.refl | apply Evolves.step (ev_timCause ..) | apply Evolves.step (ev_decideRealign ..)
    | apply Evolves.wr | apply Evolves.ite | split | dsimp only | decide | rfl | intro _

theorem ev_timeStep (d : Int) (s : State) : Evolves 935777807106795408231187303061717516907 s (timeStep d s) := by
  unfold timeStep
  with_reducible repeat'
    first
    | apply Evolves.refl | apply Evolves.step (ev_windowsCut ..) | apply Evolves.step (ev_frameUnaligned ..)
    | apply Evolves.step (ev_gateStep ..) | apply Evolves.step (ev_timCause ..) | apply Evolves.bump | dsimp only
    | decide | rfl | intro _ | apply Evolves.upd_ptp_ptpFrac_tim

theorem ev_correct (d : Int) (s : State) : Evolves 935777807106795408231187303061717516907 s (correct d s) := by
  unfold correct
  with_reducible repeat'
    first
    | apply Evolves.refl | apply Evolves.step (ev_State_setTim ..) | apply Evolves.step (ev_timeStep ..)
    | apply Evolves.ite | split | dsimp only | decide | rfl | intro _

theorem ev_setTimState (v : Nat) (s : State) : Evolves 255213073264918481304438088198176899595 s (setTimState v s) := by
  unfold setTimState
  with_reducible repeat'
    first
    | apply Evolves.refl | apply Evolves.step (ev_timCause ..) | apply Evolves.step (ev_State_setTim ..)
    | apply Evolves.wr | dsimp only | decide | rfl | intro _

theorem ev_noteCorrection (s : State) : Evolves 268435456 s (noteCorrection s) := by
  unfold noteCorrection
  with_reducible repeat'
    first
    | apply Evolves.refl | apply Evolves.step (ev_State_setTim ..) | apply Evolves.ite | split | dsimp only | decide
    | rfl | intro _

theorem ev_enterHoldover (s : State) : Evolves 255213073264918481304438088198176899595 s (enterHoldover s) := by
  unfold enterHoldover
  with_reducible repeat'
    first
    | apply Evolves.refl | apply Evolves.step (ev_timCause ..) | apply Evolves.step (ev_setTimState ..)
    | apply Evolves.step (ev_State_setTim ..) | apply Evolves.bump | apply Evolves.onlyIf | dsimp only | decide | rfl
    | intro _

theorem ev_breakPri (s : State) : Evolves 268435456 s (breakPri s) := by
  unfold breakPri
  with_reducible repeat'
    first
    | apply Evolves.refl | apply Evolves.step (ev_State_setTim ..) | apply Evolves.ite | split | dsimp only | decide
    | rfl | intro _

theorem ev_chooseSource (s : State) : Evolves 255213073264918481304438088198176899595 s (chooseSource s) := by
  unfold chooseSource
  with_reducible repeat'
    first
    | apply Evolves.refl | apply Evolves.step (ev_State_setTim ..) | apply Evolves.step (ev_enterHoldover ..)
    | apply Evolves.step (ev_setTimState ..) | apply Evolves.wr | apply Evolves.ite | split | dsimp only | decide | rfl
    | intro _

theorem ev_referenceUpdate (measured : Int) (s : State) :
    Evolves 935777807106795408231187303061717517035 s (referenceUpdate measured s) := by
  unfold referenceUpdate
  with_reducible repeat'
    first
    | apply Evolves.refl | apply Evolves.step (ev_chooseSource ..) | apply Evolves.step (ev_noteCorrection ..)
    | apply Evolves.step (ev_State_setTim ..) | apply Evolves.step (ev_drawFree ..) | apply Evolves.step (ev_correct ..)
    | apply Evolves.wr | apply Evolves.ite | apply Evolves.ofPair ‹_› | apply Evolves.ofTriple ‹_› | split | dsimp only
    | decide | rfl | intro _

theorem ev_execReferenceUpdate (err : Int) (s : State) :
    OutEvolves 935777807106795408231187303061717517035 s (execReferenceUpdate err s) := by
  unfold execReferenceUpdate
  with_reducible repeat'
    first
    | apply Evolves.refl | apply OutEvolves.onIsland | apply Evolves.step (ev_referenceUpdate ..) | dsimp only | decide
    | rfl | intro _

theorem ev_timLocked (s : State) : Evolves 255213154394556895911119783987182044683 s (timLocked s) := by
  unfold timLocked
  with_reducible repeat'
    first
    | apply Evolves.refl | apply Evolves.step (ev_coldHoldEnd ..) | apply Evolves.step (ev_timCause ..)
    | apply Evolves.step (ev_setTimState ..) | apply Evolves.step (ev_State_setTim ..) | apply Evolves.ite | split
    | dsimp only | decide | rfl | intro _

theorem ev_execTimLocked (s : State) : OutEvolves 255213154394556895911119783987182044683 s (execTimLocked s) := by
  unfold execTimLocked
  with_reducible repeat'
    first
    | apply Evolves.refl | apply OutEvolves.onIsland | apply Evolves.step (ev_timLocked ..) | dsimp only | decide | rfl
    | intro _

theorem ev_timUnlock (s : State) : Evolves 255213073264918481304438088198176899595 s (timUnlock s) := by
  unfold timUnlock
  with_reducible repeat'
    first
    | apply Evolves.refl | apply Evolves.step (ev_timCause ..) | apply Evolves.step (ev_setTimState ..)
    | apply Evolves.step (ev_State_setTim ..) | apply Evolves.ite | split | dsimp only | decide | rfl | intro _

theorem ev_execTimUnlock (s : State) : OutEvolves 255213073264918481304438088198176899595 s (execTimUnlock s) := by
  unfold execTimUnlock
  with_reducible repeat'
    first
    | apply Evolves.refl | apply OutEvolves.onIsland | apply Evolves.step (ev_timUnlock ..) | dsimp only | decide | rfl
    | intro _

theorem ev_sourceLoss (src : Nat) (err : Int) (s : State) :
    Evolves 935777807106795408231187303061717516907 s (sourceLoss src err s) := by
  unfold sourceLoss
  with_reducible repeat'
    first
    | apply Evolves.refl | apply Evolves.step (ev_State_setTim ..) | apply Evolves.step (ev_chooseSource ..)
    | apply Evolves.step (ev_correct ..) | apply Evolves.wr | apply Evolves.ite | apply Evolves.ofPair ‹_›
    | apply Evolves.ofTriple ‹_› | split | dsimp only | decide | rfl | intro _

theorem ev_execSourceLoss (src : Fin 4) (err : Int) (s : State) :
    OutEvolves 935777807106795408231187303061717516907 s (execSourceLoss src err s) := by
  unfold execSourceLoss
  with_reducible repeat'
    first
    | apply Evolves.refl | apply OutEvolves.onIsland | apply Evolves.step (ev_sourceLoss ..) | dsimp only | decide | rfl
    | intro _

theorem ev_sourceReturn (err : Int) (s : State) :
    Evolves 935777807106795408231187303061717516923 s (sourceReturn err s) := by
  unfold sourceReturn
  with_reducible repeat'
    first
    | apply Evolves.refl | apply Evolves.step (ev_passTo ..) | apply Evolves.step (ev_State_setTim ..)
    | apply Evolves.step (ev_correct ..) | apply Evolves.wr | apply Evolves.ite | apply Evolves.ofPair ‹_›
    | apply Evolves.ofTriple ‹_› | split | dsimp only | decide | rfl | intro _

theorem ev_execSourceReturn (err : Int) (s : State) :
    OutEvolves 935777807106795408231187303061717516923 s (execSourceReturn err s) := by
  unfold execSourceReturn
  with_reducible repeat'
    first
    | apply Evolves.refl | apply OutEvolves.onIsland | apply Evolves.step (ev_sourceReturn ..) | dsimp only | decide
    | rfl | intro _

theorem ev_timCtlWrite (w : Nat) (s : State) : Evolves 265846897231197808287668544680419658251 s (timCtlWrite w s) := by
  unfold timCtlWrite
  with_reducible repeat'
    first
    | apply Evolves.refl | apply Evolves.step (ev_State_setTim ..) | apply Evolves.step (ev_chooseSource ..)
    | apply Evolves.writeReg | apply Evolves.ite | split | dsimp only | decide | rfl | intro _

theorem ev_timRefclk (ok : Bool) (s : State) : Evolves 255213073264918481304438088198176899595 s (timRefclk ok s) := by
  unfold timRefclk
  with_reducible repeat'
    first
    | apply Evolves.refl | apply Evolves.step (ev_State_setTim ..) | apply Evolves.step (ev_timCause ..)
    | apply Evolves.wr | apply Evolves.bump | apply Evolves.ite | split | dsimp only | decide | rfl | intro _

theorem ev_ppsEdge (e : PpsSeen) (s : State) : Evolves 255213073264918481304438088198176899595 s (ppsEdge e s) := by
  unfold ppsEdge
  with_reducible repeat'
    first
    | apply Evolves.refl | apply Evolves.step (ev_timCause ..) | apply Evolves.step (ev_State_setTim ..)
    | apply Evolves.bump | apply Evolves.ite | apply Evolves.ofPair ‹_› | apply Evolves.ofTriple ‹_› | split
    | dsimp only | decide | rfl | intro _

theorem ev_execPpsEdge (e : PpsSeen) (s : State) :
    OutEvolves 255213073264918481304438088198176899595 s (execPpsEdge e s) := by
  unfold execPpsEdge
  with_reducible repeat'
    first
    | apply Evolves.refl | apply OutEvolves.onIsland | apply Evolves.step (ev_ppsEdge ..) | dsimp only | decide | rfl
    | intro _

theorem ev_ppsLost (s : State) : Evolves 255213073264918481304438088198176899707 s (ppsLost s) := by
  unfold ppsLost
  with_reducible repeat'
    first
    | apply Evolves.refl | apply Evolves.step (ev_passTo ..) | apply Evolves.step (ev_breakPri ..)
    | apply Evolves.step (ev_timCause ..) | apply Evolves.step (ev_State_setTim ..) | apply Evolves.wr
    | apply Evolves.ofPair ‹_› | apply Evolves.ofTriple ‹_› | split | dsimp only | decide | rfl | intro _

theorem ev_execPpsLost (s : State) : OutEvolves 255213073264918481304438088198176899707 s (execPpsLost s) := by
  unfold execPpsLost
  with_reducible repeat'
    first
    | apply Evolves.refl | apply OutEvolves.onIsland | apply Evolves.step (ev_ppsLost ..) | dsimp only | decide | rfl
    | intro _

theorem ev_todMessage (b : List Nat) (s : State) :
    Evolves 255213073264918481304438088198176899595 s (todMessage b s) := by
  unfold todMessage
  with_reducible repeat'
    first
    | apply Evolves.refl | apply Evolves.step (ev_timCause ..) | apply Evolves.step (ev_State_setTim ..)
    | apply Evolves.bump | apply Evolves.wr | apply Evolves.onlyIf | apply Evolves.ite | apply Evolves.ofPair ‹_›
    | apply Evolves.ofTriple ‹_› | split | dsimp only | decide | rfl | intro _

theorem ev_execTodMessage (bytes : List Byte) (s : State) :
    OutEvolves 255213073264918481304438088198176899595 s (execTodMessage bytes s) := by
  unfold execTodMessage
  with_reducible repeat'
    first
    | apply Evolves.refl | apply OutEvolves.onIsland | apply Evolves.step (ev_todMessage ..) | dsimp only | decide | rfl
    | intro _

theorem ev_ppsQualified (s : State) : Evolves 255213073264918481304438088198176899595 s (ppsQualified s) := by
  unfold ppsQualified
  with_reducible repeat'
    first
    | apply Evolves.refl | apply Evolves.step (ev_chooseSource ..) | apply Evolves.wr | apply Evolves.ite | split
    | dsimp only | decide | rfl | intro _

theorem ev_execPpsQualified (s : State) :
    OutEvolves 255213073264918481304438088198176899595 s (execPpsQualified s) := by
  unfold execPpsQualified
  with_reducible repeat'
    first
    | apply Evolves.refl | apply OutEvolves.onIsland | apply Evolves.step (ev_ppsQualified ..) | dsimp only | decide
    | rfl | intro _

theorem ev_ppsOutPulse (s : State) : Evolves 268435576 s (ppsOutPulse s) := by
  unfold ppsOutPulse
  with_reducible repeat'
    first
    | apply Evolves.refl | apply Evolves.step (ev_passToPtp ..) | apply Evolves.step (ev_State_setTim ..)
    | apply Evolves.step (ev_passToFrame ..) | apply Evolves.ofPair ‹_› | apply Evolves.ofTriple ‹_› | split
    | dsimp only | decide | rfl | intro _

theorem ev_execPpsOutPulse (s : State) : OutEvolves 268436088 s (execPpsOutPulse s) := by
  unfold execPpsOutPulse
  with_reducible repeat'
    first
    | apply Evolves.refl | apply OutEvolves.onIsland | apply Evolves.step (ev_ppsOutPulse ..) | dsimp only | decide
    | rfl | intro _

theorem ev_ppsOutFall (s : State) : Evolves 268435576 s (ppsOutFall s) := by
  unfold ppsOutFall
  with_reducible repeat'
    first
    | apply Evolves.refl | apply Evolves.step (ev_passTo ..) | apply Evolves.step (ev_State_setTim ..)
    | apply Evolves.ofPair ‹_› | apply Evolves.ofTriple ‹_› | split | dsimp only | decide | rfl | intro _

theorem ev_execPpsOutFall (s : State) : OutEvolves 268436088 s (execPpsOutFall s) := by
  unfold execPpsOutFall
  with_reducible repeat'
    first
    | apply Evolves.refl | apply OutEvolves.onIsland | apply Evolves.step (ev_ppsOutFall ..) | dsimp only | decide | rfl
    | intro _

theorem ev_adjRefused (s : State) : Evolves 255213073264918481304438088197908466187 s (adjRefused s) := by
  unfold adjRefused
  with_reducible repeat'
    first
    | apply Evolves.refl | apply Evolves.step (ev_setVerdict ..) | apply Evolves.step (ev_timCause ..)
    | apply Evolves.wr | dsimp only | decide | rfl | intro _

theorem ev_adjOperate (op : Nat) (s : State) : Evolves 935777807106795408231187303061717518955 s (adjOperate op s) := by
  unfold adjOperate
  with_reducible repeat'
    first
    | apply Evolves.refl | apply Evolves.step (ev_correct ..) | apply Evolves.step (ev_adjRefused ..)
    | apply Evolves.step (ev_State_setTim ..) | apply Evolves.step (ev_decideRealign ..) | apply Evolves.wr
    | apply Evolves.ite | apply Evolves.ofPair ‹_› | apply Evolves.ofTriple ‹_› | split | dsimp only | decide | rfl
    | intro _

theorem ev_adjStart (op : Nat) (s : State) : Evolves 946411631073074735214417759543960275563 s (adjStart op s) := by
  unfold adjStart
  with_reducible repeat'
    first
    | apply Evolves.refl | apply Evolves.step (ev_adjOperate ..) | apply Evolves.step (ev_State_setTim ..)
    | apply Evolves.step (ev_goBusy ..) | apply Evolves.wr | apply Evolves.ofPair ‹_› | apply Evolves.ofTriple ‹_›
    | split | dsimp only | decide | rfl | intro _

theorem ev_adjCommand (op : Nat) (s : State) :
    OutEvolves 946411631073074735214417759543960275563 s (adjCommand op s) := by
  unfold adjCommand
  with_reducible repeat'
    first
    | apply Evolves.refl | apply OutEvolves.onIsland | apply Evolves.guarded | apply Evolves.step (ev_adjStart ..)
    | dsimp only | decide | rfl | intro _

theorem ev_execAdjOffset (s : State) : OutEvolves 946411631073074735214417759543960275563 s (execAdjOffset s) := by
  unfold execAdjOffset
  with_reducible repeat'
    first
    | apply Evolves.refl | apply OutEvolves.next | apply OutEvolves.step (ev_adjCommand ..) | dsimp only | decide | rfl
    | intro _

theorem ev_execAdjSetTime (s : State) : OutEvolves 946411631073074735214417759543960275563 s (execAdjSetTime s) := by
  unfold execAdjSetTime
  with_reducible repeat'
    first
    | apply Evolves.refl | apply OutEvolves.next | apply OutEvolves.step (ev_adjCommand ..) | dsimp only | decide | rfl
    | intro _

theorem ev_execAdjRealign (s : State) : OutEvolves 946411631073074735214417759543960275563 s (execAdjRealign s) := by
  unfold execAdjRealign
  with_reducible repeat'
    first
    | apply Evolves.refl | apply OutEvolves.next | apply OutEvolves.step (ev_adjCommand ..) | dsimp only | decide | rfl
    | intro _

theorem ev_adjCmdWrite (w : Nat) (s : State) : Evolves 946411631073074735214417759543960275563 s (adjCmdWrite w s) := by
  unfold adjCmdWrite
  with_reducible repeat'
    first
    | apply Evolves.refl | apply Evolves.step (ev_encReject ..) | apply Evolves.step (ev_adjStart ..) | apply Evolves.wr
    | apply Evolves.ite | split | dsimp only | decide | rfl | intro _

theorem ev_adjResume (held : Option Nat) (s : State) :
    Evolves 935777807106795408231187303061717518955 s (adjResume held s) := by
  unfold adjResume
  with_reducible repeat'
    first
    | apply Evolves.refl | apply Evolves.step (ev_adjOperate ..) | apply Evolves.step (ev_State_setTim ..)
    | apply Evolves.ofPair ‹_› | apply Evolves.ofTriple ‹_› | split | dsimp only | decide | rfl | intro _

theorem ev_setTimeApply (s : State) : Evolves 935777807106795408231187303061717518971 s (setTimeApply s) := by
  unfold setTimeApply
  with_reducible repeat'
    first
    | apply Evolves.refl | apply Evolves.step (ev_passToPtp ..) | apply Evolves.step (ev_correct ..)
    | apply Evolves.step (ev_State_setTim ..) | apply Evolves.step (ev_adjResume ..) | apply Evolves.wr
    | apply Evolves.ofPair ‹_› | apply Evolves.ofTriple ‹_› | split | dsimp only | decide | rfl | intro _

theorem ev_execSetTimeApply (s : State) :
    OutEvolves 935777807106795408231187303061717518971 s (execSetTimeApply s) := by
  unfold execSetTimeApply
  with_reducible repeat'
    first
    | apply Evolves.refl | apply OutEvolves.onIsland | apply Evolves.step (ev_setTimeApply ..) | dsimp only | decide
    | rfl | intro _

theorem ev_adjFreqWrite (w : Nat) (s : State) :
    Evolves 255213073264918481304438088197908466187 s (adjFreqWrite w s) := by
  unfold adjFreqWrite
  with_reducible repeat'
    first
    | apply Evolves.refl | apply Evolves.step (ev_refuseWrite ..) | apply Evolves.wr | apply Evolves.ite | split
    | dsimp only | decide | rfl | intro _

theorem ev_execAdjFreqWrite (w : Word) (s : State) :
    OutEvolves 255213073264918481304438088197908466187 s (execAdjFreqWrite w s) := by
  unfold execAdjFreqWrite
  with_reducible repeat'
    first
    | apply Evolves.refl | apply OutEvolves.onIsland | apply Evolves.step (ev_adjFreqWrite ..) | dsimp only | decide
    | rfl | intro _

theorem ev_realignTree (k : Nat) (cut : Bool) (n : Nat) (s : State) :
    Evolves 255211775190703847671317931868664906251 s (realignTree k cut n s) := by
  unfold realignTree
  with_reducible repeat'
    first
    | apply Evolves.refl | apply Evolves.step (ev_mapVoid ..) | apply Evolves.step (ev_State_setFram ..)
    | apply Evolves.step (ev_State_setGrant ..) | apply Evolves.onlyIf | apply Evolves.ite | split | dsimp only | decide
    | rfl | intro _

theorem ev_realignCut (s : State) : Evolves 255213154394556895984906760282020791931 s (realignCut s) := by
  unfold realignCut
  with_reducible repeat'
    first
    | apply Evolves.refl | apply Evolves.step (ev_passTo ..) | apply Evolves.step (ev_passToPtp ..)
    | apply Evolves.step (ev_timCause ..) | apply Evolves.step (ev_State_setTim ..)
    | apply Evolves.step (ev_coldHoldEnd ..) | apply Evolves.step (ev_realignTree ..) | apply Evolves.wr
    | apply Evolves.onlyIf | apply Evolves.allOf | apply Evolves.ofPair ‹_› | apply Evolves.ofTriple ‹_› | split
    | dsimp only | decide | rfl | intro _

theorem ev_execRealignCut (s : State) : OutEvolves 255213154394556895984906760282020791931 s (execRealignCut s) := by
  unfold execRealignCut
  with_reducible repeat'
    first
    | apply Evolves.refl | apply OutEvolves.onIsland | apply Evolves.step (ev_realignCut ..) | dsimp only | decide | rfl
    | intro _

theorem ev_frameAligned (s : State) : Evolves 255213154394556895911119783987182044795 s (frameAligned s) := by
  unfold frameAligned
  with_reducible repeat'
    first
    | apply Evolves.refl | apply Evolves.step (ev_pass ..) | apply Evolves.step (ev_coldHoldEnd ..)
    | apply Evolves.step (ev_timCause ..) | apply Evolves.wr | apply Evolves.ite | split | dsimp only | decide | rfl
    | intro _

theorem ev_execFrameTimebaseAligned (s : State) :
    OutEvolves 255213154394556895911119783987182044795 s (execFrameTimebaseAligned s) := by
  unfold execFrameTimebaseAligned
  with_reducible repeat'
    first
    | apply Evolves.refl | apply OutEvolves.onIsland | apply Evolves.step (ev_frameAligned ..) | dsimp only | decide
    | rfl | intro _

theorem ev_ptpChoose (s : State) : Evolves 255213073264918481304438088198176899595 s (ptpChoose s) := by
  unfold ptpChoose
  with_reducible repeat'
    first
    | apply Evolves.refl | apply Evolves.step (ev_breakPri ..) | apply Evolves.step (ev_State_setTim ..)
    | apply Evolves.step (ev_chooseSource ..) | apply Evolves.wr | apply Evolves.ite | apply Evolves.ofPair ‹_›
    | apply Evolves.ofTriple ‹_› | split | dsimp only | decide | rfl | intro _

theorem ev_ptpSeen (n : Nat) (bit : Nat) (s : State) :
    Evolves 255213073264918481304438088198176899595 s (ptpSeen n bit s) := by
  unfold ptpSeen
  with_reducible repeat'
    first
    | apply Evolves.refl | apply Evolves.step (ev_State_setTim ..) | apply Evolves.step (ev_ptpChoose ..)
    | apply Evolves.ite | split | dsimp only | decide | rfl | intro _

theorem ev_ptpArrived (n : Nat) (sync : Bool) (m : PtpRx) (s : State) :
    Evolves 268435456 s (ptpArrived n sync m s) := by
  unfold ptpArrived
  with_reducible repeat'
    first
    | apply Evolves.refl | apply Evolves.step (ev_State_setTim ..) | apply Evolves.ite | split | dsimp only | decide
    | rfl | intro _

theorem ev_delayReq (n : Nat) (s : State) : Evolves 255211788817947800050997021663658250763 s (delayReq n s) := by
  unfold delayReq
  with_reducible repeat'
    first
    | apply Evolves.refl | apply Evolves.step (ev_State_setTim ..) | apply Evolves.step (ev_tmuPut ..)
    | apply Evolves.step (ev_wrapperAnswer ..) | apply Evolves.ite | split | dsimp only | decide | rfl | intro _

theorem ev_ptpAnnounce (n : Nat) (m : PtpRx) (s : State) :
    Evolves 255213073264918481304438088198176899595 s (ptpAnnounce n m s) := by
  unfold ptpAnnounce
  with_reducible repeat'
    first
    | apply Evolves.refl | apply Evolves.step (ev_ptpSeen ..) | apply Evolves.step (ev_ptpArrived ..)
    | apply Evolves.step (ev_ptpChoose ..) | apply Evolves.step (ev_timCause ..)
    | apply Evolves.step (ev_State_setTim ..) | apply Evolves.wr | apply Evolves.onlyIf | apply Evolves.ite | split
    | dsimp only | decide | rfl | intro _

theorem ev_ptpToHost (n : Nat) (m : PtpRx) (stamp : Nat) (s : State) :
    Evolves 276480722148215085442071052284921385487 s (ptpToHost n m stamp s) := by
  unfold ptpToHost
  with_reducible repeat'
    first
    | apply Evolves.refl | apply Evolves.step (ev_hostPacket ..) | apply Evolves.step (ev_timCause ..)
    | apply Evolves.bump | apply Evolves.ofPair ‹_› | apply Evolves.ofTriple ‹_› | split | dsimp only | decide | rfl
    | intro _

theorem ev_ptpMessageRx (n : Nat) (m : PtpRx) (stamp : Nat) (s : State) :
    Evolves 276480734824721087724365067252226069007 s (ptpMessageRx n m stamp s) := by
  unfold ptpMessageRx
  with_reducible repeat'
    first
    | apply Evolves.refl | apply Evolves.step (ev_ptpAnnounce ..) | apply Evolves.step (ev_delayReq ..)
    | apply Evolves.step (ev_ptpSeen ..) | apply Evolves.step (ev_ptpArrived ..) | apply Evolves.step (ev_ptpToHost ..)
    | apply Evolves.wr | apply Evolves.ite | apply Evolves.ofPair ‹_› | apply Evolves.ofTriple ‹_› | split | dsimp only
    | decide | rfl | intro _

theorem ev_execPtpMessageRx (n : Fin 32) (m : PtpRx) (s : State) :
    OutEvolves 276480734824721087724365067252226069007 s (execPtpMessageRx n m s) := by
  unfold execPtpMessageRx
  with_reducible repeat'
    first
    | apply Evolves.refl | apply OutEvolves.onIsland | apply Evolves.step (ev_ptpMessageRx ..) | dsimp only | decide
    | rfl | intro _ | apply Evolves.upd_tim

theorem ev_ptpQualLoss (n : Nat) (s : State) : Evolves 255213073264918481304438088198176899707 s (ptpQualLoss n s) := by
  unfold ptpQualLoss
  with_reducible repeat'
    first
    | apply Evolves.refl | apply Evolves.step (ev_passTo ..) | apply Evolves.step (ev_ptpChoose ..)
    | apply Evolves.step (ev_timCause ..) | apply Evolves.step (ev_State_setTim ..) | apply Evolves.onlyIf
    | apply Evolves.ite | split | dsimp only | decide | rfl | intro _

theorem ev_execPtpQualLoss (n : Fin 32) (s : State) :
    OutEvolves 255213073264918481304438088198176899707 s (execPtpQualLoss n s) := by
  unfold execPtpQualLoss
  with_reducible repeat'
    first
    | apply Evolves.refl | apply OutEvolves.onIsland | apply Evolves.step (ev_ptpQualLoss ..) | dsimp only | decide
    | rfl | intro _

theorem ev_txtsRead (p : Nat) (s : State) : Evolves 134217728 s (txtsRead p s).2 := by
  unfold txtsRead
  with_reducible repeat'
    first
    | apply Evolves.refl | apply Evolves.ite | apply Evolves.ofPair ‹_› | apply Evolves.ofTriple ‹_› | split
    | dsimp only | decide | rfl | intro _ | apply Evolves.upd_txts

theorem ev_execTxtsRead (p : Fin 32) (s : State) : OutEvolves 134220288 s (execTxtsRead p s) := by
  unfold execTxtsRead
  with_reducible repeat'
    first
    | apply Evolves.refl | apply OutEvolves.onIsland | apply Evolves.step (ev_txtsRead ..)
    | apply Evolves.step (ev_setRead ..) | dsimp only | decide | rfl | intro _

theorem ev_timeSecRead (s : State) : Evolves 1298074214633706907132624082305025 s (timeSecRead s).2 := by
  unfold timeSecRead
  with_reducible repeat'
    first
    | apply Evolves.refl | apply Evolves.wr | dsimp only | decide | rfl | intro _

theorem ev_sentinelCopy (s : State) : Evolves 268435456 s (sentinelCopy s) := by
  unfold sentinelCopy
  with_reducible repeat'
    first
    | apply Evolves.refl | apply Evolves.step (ev_State_setTim ..) | apply Evolves.ite | split | dsimp only | decide
    | rfl | intro _

theorem ev_execSentinelTimeCopy (s : State) : OutEvolves 268435968 s (execSentinelTimeCopy s) := by
  unfold execSentinelTimeCopy
  with_reducible repeat'
    first
    | apply Evolves.refl | apply OutEvolves.onIsland | apply Evolves.step (ev_sentinelCopy ..) | dsimp only | decide
    | rfl | intro _

theorem ev_ptprCfgWrite (w : Nat) (s : State) :
    Evolves 265846897231197808287668544680419658251 s (ptprCfgWrite w s) := by
  unfold ptprCfgWrite
  with_reducible repeat'
    first
    | apply Evolves.refl | apply Evolves.step (ev_ptpChoose ..) | apply Evolves.writeReg | dsimp only | decide | rfl
    | intro _

theorem ev_timRelease (s : State) : Evolves 255213073264918481304438088198181093995 s (timRelease s) := by
  unfold timRelease
  with_reducible repeat'
    first
    | apply Evolves.refl | apply Evolves.step (ev_frameUnaligned ..) | apply Evolves.step (ev_gateStep ..)
    | apply Evolves.step (ev_timCause ..) | apply Evolves.wr | apply Evolves.onlyIf | apply Evolves.ofPair ‹_›
    | apply Evolves.ofTriple ‹_› | split | dsimp only | decide | rfl | intro _ | apply Evolves.upd_ptp_ptpFrac_tim

theorem ev_followUpdate (err : Int) (s : State) :
    Evolves 935777807106795408231187303061717517035 s (followUpdate err s) := by
  unfold followUpdate
  with_reducible repeat'
    first
    | apply Evolves.refl | apply Evolves.step (ev_setTimState ..) | apply Evolves.step (ev_State_setTim ..)
    | apply Evolves.step (ev_noteCorrection ..) | apply Evolves.step (ev_drawFree ..)
    | apply Evolves.step (ev_correct ..) | apply Evolves.wr | apply Evolves.ite | apply Evolves.ofPair ‹_›
    | apply Evolves.ofTriple ‹_› | split | dsimp only | decide | rfl | intro _

theorem ev_followLost (s : State) : Evolves 255213073264918481304438088198176899595 s (followLost s) := by
  unfold followLost
  with_reducible repeat'
    first
    | apply Evolves.refl | apply Evolves.step (ev_enterHoldover ..) | apply Evolves.ite | split | dsimp only | decide
    | rfl | intro _

end Sys2Proof.Machine
end

