-- ==== Sys2Proof/Laws/EvPair.lean ====
section
/-!
SUPPORT. What the operations of Machine/Pair.lean may touch (Safety.lean, Evolves).
-/

namespace Sys2Proof.Machine

set_option Elab.async false
set_option linter.all false

theorem ev_passToNextFrame (s : State) : Evolves 268435576 s (passToNextFrame s) := by
  unfold passToNextFrame
  with_reducible repeat'
    first
    | apply Evolves.refl | apply Evolves.step (ev_passToFrame ..) | dsimp only | decide | rfl | intro _

theorem ev_standbyState (s : State) : Evolves 302231454903665884790785 s (standbyState s) := by
  unfold standbyState
  with_reducible repeat'
    first
    | apply Evolves.refl | apply Evolves.step (ev_State_setAct ..) | apply Evolves.step (ev_dropHandOvers ..)
    | apply Evolves.step (ev_State_setPair ..) | apply Evolves.allOf | apply Evolves.ite | split | dsimp only | decide
    | rfl | intro _

theorem ev_setRole (new : Nat) (s : State) : Evolves 255214371339133417242800124487877658251 s (setRole new s) := by
  unfold setRole
  with_reducible repeat'
    first
    | apply Evolves.refl | apply Evolves.step (ev_pairCause ..) | apply Evolves.step (ev_State_setPair ..)
    | apply Evolves.step (ev_refreshReady ..) | apply Evolves.step (ev_standbyState ..)
    | apply Evolves.step (ev_parkThreads ..) | apply Evolves.wr | apply Evolves.ite | split | dsimp only | decide | rfl
    | intro _ | apply Evolves.upd_rst

theorem ev_shadowReference (n : Nat) (s : State) :
    Evolves 255211775190703864218047365986132574731 s (shadowReference n s) := by
  unfold shadowReference
  with_reducible repeat'
    first
    | apply Evolves.refl | apply Evolves.step (ev_pairCause ..) | apply Evolves.step (ev_deactivate ..)
    | apply Evolves.step (ev_State_setFram ..) | apply Evolves.wr | apply Evolves.allOf | apply Evolves.ite
    | apply Evolves.ofPair ‹_› | apply Evolves.ofTriple ‹_› | split | dsimp only | decide | rfl | intro _

theorem ev_takeOver (s : State) : Evolves 255214695857687167847907043970562016907 s (takeOver s) := by
  unfold takeOver
  with_reducible repeat'
    first
    | apply Evolves.refl | apply Evolves.step (ev_smokerStart ..) | apply Evolves.step (ev_smokerRestore ..)
    | apply Evolves.step (ev_shadowReference ..) | apply Evolves.step (ev_cipherTakeover ..)
    | apply Evolves.step (ev_takeoverThreads ..) | apply Evolves.step (ev_setRole ..) | apply Evolves.allOf
    | apply Evolves.ofPair ‹_› | apply Evolves.ofTriple ‹_› | split | dsimp only | decide | rfl | intro _

theorem ev_takeRole (new : Nat) (s : State) : Evolves 255214695857687167847907043970562016907 s (takeRole new s) := by
  unfold takeRole
  with_reducible repeat'
    first
    | apply Evolves.refl | apply Evolves.step (ev_takeOver ..) | apply Evolves.step (ev_setRole ..) | apply Evolves.ite
    | split | dsimp only | decide | rfl | intro _

theorem ev_sendPair (m : PairMsg) (s : State) : Evolves 8589935104 s (sendPair m s) := by
  unfold sendPair
  with_reducible repeat'
    first
    | apply Evolves.refl | apply Evolves.step (ev_State_setPair ..) | apply Evolves.step (ev_wrapperAnswer ..)
    | apply Evolves.ite | split | dsimp only | decide | rfl | intro _

theorem ev_startSwitchover (ret : Bool) (s : State) : Evolves 8589935104 s (startSwitchover ret s) := by
  unfold startSwitchover
  with_reducible repeat'
    first
    | apply Evolves.refl | apply Evolves.step (ev_sendPair ..) | apply Evolves.step (ev_State_setPair ..) | dsimp only
    | decide | rfl | intro _

theorem ev_roleWaits (new : Nat) (s : State) : Evolves 2596148429267413814265256754544641 s (roleWaits new s) := by
  unfold roleWaits
  with_reducible repeat'
    first
    | apply Evolves.refl | apply Evolves.step (ev_State_setPair ..) | apply Evolves.wr | dsimp only | decide | rfl
    | intro _

theorem ev_roleOperate (op : Nat) (s : State) :
    Evolves 255214371339133417242800124487877658251 s (roleOperate op s) := by
  unfold roleOperate
  with_reducible repeat'
    first
    | apply Evolves.refl | apply Evolves.step (ev_startSwitchover ..) | apply Evolves.step (ev_roleWaits ..)
    | apply Evolves.step (ev_setRole ..) | apply Evolves.wr | apply Evolves.onlyIf | apply Evolves.ite
    | apply Evolves.ofPair ‹_› | apply Evolves.ofTriple ‹_› | split | dsimp only | decide | rfl | intro _

theorem ev_roleRun (op : Nat) (s : State) : Evolves 255214371339133417242800124487877660299 s (roleRun op s) := by
  unfold roleRun
  with_reducible repeat'
    first
    | apply Evolves.refl | apply Evolves.step (ev_refuseCode ..) | apply Evolves.step (ev_pairCause ..)
    | apply Evolves.step (ev_roleOperate ..) | apply Evolves.wr | apply Evolves.ofPair ‹_› | apply Evolves.ofTriple ‹_›
    | split | dsimp only | decide | rfl | intro _

theorem ev_roleStart (op : Nat) (s : State) : Evolves 265848195305412744226030580970120416907 s (roleStart op s) := by
  unfold roleStart
  with_reducible repeat'
    first
    | apply Evolves.refl | apply Evolves.step (ev_roleRun ..) | apply Evolves.step (ev_State_setPair ..)
    | apply Evolves.step (ev_goBusy ..) | apply Evolves.wr | apply Evolves.ite | apply Evolves.ofPair ‹_›
    | apply Evolves.ofTriple ‹_› | split | dsimp only | decide | rfl | intro _

theorem ev_roleNext (s : State) : Evolves 255214371339133417242800124487877660299 s (roleNext s) := by
  unfold roleNext
  with_reducible repeat'
    first
    | apply Evolves.refl | apply Evolves.step (ev_roleRun ..) | apply Evolves.step (ev_State_setPair ..)
    | apply Evolves.ite | apply Evolves.ofPair ‹_› | apply Evolves.ofTriple ‹_› | split | dsimp only | decide | rfl
    | intro _

theorem ev_giveUp (s : State) : Evolves 255214371339133417242800124487877658251 s (giveUp s) := by
  unfold giveUp
  with_reducible repeat'
    first
    | apply Evolves.refl | apply Evolves.step (ev_raise ..) | apply Evolves.step (ev_sendPair ..)
    | apply Evolves.step (ev_State_setPair ..) | apply Evolves.step (ev_setRole ..) | apply Evolves.ite | split
    | dsimp only | decide | rfl | intro _

theorem ev_switched (ret : Bool) (s : State) : Evolves 255214371339133115011345220821990769163 s (switched ret s) := by
  unfold switched
  with_reducible repeat'
    first
    | apply Evolves.refl | apply Evolves.step (ev_pairCause ..) | apply Evolves.bump | apply Evolves.onlyIf | dsimp only
    | decide | rfl | intro _

theorem ev_heartbeatSend (k : Nat) (s : State) : Evolves 8589935104 s (heartbeatSend k s) := by
  unfold heartbeatSend
  with_reducible repeat'
    first
    | apply Evolves.refl | apply Evolves.step (ev_wrapperAnswer ..) | apply Evolves.step (ev_State_setPair ..)
    | apply Evolves.ite | split | dsimp only | decide | rfl | intro _

theorem ev_pairFrameStart (k : Nat) (s : State) :
    Evolves 255214695857687167847907043970562018955 s (pairFrameStart k s) := by
  unfold pairFrameStart
  with_reducible repeat'
    first
    | apply Evolves.refl | apply Evolves.step (ev_State_setPair ..) | apply Evolves.step (ev_takeRole ..)
    | apply Evolves.step (ev_switched ..) | apply Evolves.step (ev_heartbeatSend ..)
    | apply Evolves.step (ev_roleNext ..) | apply Evolves.ite | apply Evolves.ofPair ‹_› | apply Evolves.ofTriple ‹_›
    | split | dsimp only | decide | rfl | intro _

theorem ev_partnerLinkDown (s : State) : Evolves 255215669413347748718252353454931444235 s (partnerLinkDown s) := by
  unfold partnerLinkDown
  with_reducible repeat'
    first
    | apply Evolves.refl | apply Evolves.step (ev_track ..) | apply Evolves.step (ev_pairCause ..)
    | apply Evolves.step (ev_State_setPair ..) | apply Evolves.step (ev_followLost ..) | apply Evolves.bump
    | apply Evolves.wr | apply Evolves.ite | split | dsimp only | decide | rfl | intro _

theorem ev_execPartnerLinkDown (s : State) :
    OutEvolves 255215669413347748718252353454931444235 s (execPartnerLinkDown s) := by
  unfold execPartnerLinkDown
  with_reducible repeat'
    first
    | apply Evolves.refl | apply OutEvolves.onIsland | apply Evolves.step (ev_partnerLinkDown ..) | apply Evolves.ite
    | split | dsimp only | decide | rfl | intro _

theorem ev_partnerLinkUp (s : State) : Evolves 255214371339133115011345220830580703755 s (partnerLinkUp s) := by
  unfold partnerLinkUp
  with_reducible repeat'
    first
    | apply Evolves.refl | apply Evolves.step (ev_track ..) | apply Evolves.step (ev_pairCause ..) | apply Evolves.wr
    | apply Evolves.ite | split | dsimp only | decide | rfl | intro _

theorem ev_execPartnerLinkUp (s : State) :
    OutEvolves 255214371339133115011345220830580703755 s (execPartnerLinkUp s) := by
  unfold execPartnerLinkUp
  with_reducible repeat'
    first
    | apply Evolves.refl | apply OutEvolves.onIsland | apply Evolves.step (ev_partnerLinkUp ..) | dsimp only | decide
    | rfl | intro _

theorem ev_execP0LockLoss (s : State) : OutEvolves 255215669413347748718252353454931444235 s (execP0LockLoss s) := by
  unfold execP0LockLoss
  with_reducible repeat'
    first
    | apply Evolves.refl | apply OutEvolves.onIsland | apply Evolves.step (ev_partnerLinkDown ..) | apply Evolves.wr
    | dsimp only | decide | rfl | intro _

theorem ev_treeResync (s : State) : Evolves 255214371339133115011345220830580703755 s (treeResync s) := by
  unfold treeResync
  with_reducible repeat'
    first
    | apply Evolves.refl | apply Evolves.step (ev_refreshReady ..) | apply Evolves.step (ev_pairCause ..)
    | apply Evolves.bump | apply Evolves.wr | dsimp only | decide | rfl | intro _

theorem ev_p1Loss (trees : Nat) (s : State) : Evolves 255214371339133115011345220830580703755 s (p1Loss trees s) := by
  unfold p1Loss
  with_reducible repeat'
    first
    | apply Evolves.refl | apply Evolves.step (ev_pairCause ..) | apply Evolves.step (ev_treeResync ..)
    | apply Evolves.wr | apply Evolves.onlyIf | apply Evolves.allOf | apply Evolves.ite | split | dsimp only | decide
    | rfl | intro _

theorem ev_execP1Loss (trees : BitVec 48) (s : State) :
    OutEvolves 255214371339133115011345220830580703755 s (execP1Loss trees s) := by
  unfold execP1Loss
  with_reducible repeat'
    first
    | apply Evolves.refl | apply OutEvolves.onIsland | apply Evolves.step (ev_p1Loss ..) | dsimp only | decide | rfl
    | intro _

theorem ev_heartbeatMissed (s : State) : Evolves 8589934592 s (heartbeatMissed s) := by
  unfold heartbeatMissed
  with_reducible repeat'
    first
    | apply Evolves.refl | apply Evolves.step (ev_State_setPair ..) | dsimp only | decide | rfl | intro _

theorem ev_execHeartbeatMiss (s : State) : OutEvolves 8589935104 s (execHeartbeatMiss s) := by
  unfold execHeartbeatMiss
  with_reducible repeat'
    first
    | apply Evolves.refl | apply OutEvolves.onIsland | apply Evolves.step (ev_heartbeatMissed ..) | apply Evolves.ite
    | split | dsimp only | decide | rfl | intro _

theorem ev_followPartner (h : Heartbeat) (s : State) :
    Evolves 935777807106795408231187303070307451627 s (followPartner h s) := by
  unfold followPartner
  with_reducible repeat'
    first
    | apply Evolves.refl | apply Evolves.step (ev_pairCause ..) | apply Evolves.step (ev_State_setPair ..)
    | apply Evolves.step (ev_followUpdate ..) | apply Evolves.ite | split | dsimp only | decide | rfl | intro _

theorem ev_join (h : Heartbeat) (s : State) : Evolves 255214695857687167847907043970562016907 s (join h s) := by
  unfold join
  with_reducible repeat'
    first
    | apply Evolves.refl | apply Evolves.step (ev_setRole ..) | apply Evolves.step (ev_takeOver ..) | apply Evolves.ite
    | apply Evolves.ofPair ‹_› | apply Evolves.ofTriple ‹_› | split | dsimp only | decide | rfl | intro _

theorem ev_bothActive (own : Nat) (h : Heartbeat) (s : State) :
    Evolves 255211775190703847597530955582416093706 s (bothActive own h s) := by
  unfold bothActive
  with_reducible repeat'
    first
    | apply Evolves.refl | apply Evolves.step (ev_pairCause ..) | apply Evolves.step (ev_State_setPair ..)
    | apply Evolves.ite | split | dsimp only | decide | rfl | intro _

theorem ev_lostCommit (h : Heartbeat) (s : State) : Evolves 8589934592 s (lostCommit h s) := by
  unfold lostCommit
  with_reducible repeat'
    first
    | apply Evolves.refl | apply Evolves.step (ev_State_setPair ..) | apply Evolves.ite | apply Evolves.ofPair ‹_›
    | apply Evolves.ofTriple ‹_› | split | dsimp only | decide | rfl | intro _

theorem ev_bulkCopy (n : Nat) (s : State) : Evolves 524288 s (bulkCopy n s) := by
  unfold bulkCopy
  with_reducible repeat'
    first
    | apply Evolves.refl | apply Evolves.step (ev_State_setGrant ..) | dsimp only | decide | rfl | intro _

theorem ev_heartbeatAccepted (h : Heartbeat) (s : State) :
    Evolves 935780727773778728481563391458453374699 s (heartbeatAccepted h s) := by
  unfold heartbeatAccepted
  with_reducible repeat'
    first
    | apply Evolves.refl | apply Evolves.step (ev_bulkCopy ..) | apply Evolves.step (ev_pairCause ..)
    | apply Evolves.step (ev_State_setPair ..) | apply Evolves.step (ev_track ..)
    | apply Evolves.step (ev_followPartner ..) | apply Evolves.step (ev_join ..) | apply Evolves.step (ev_bothActive ..)
    | apply Evolves.step (ev_lostCommit ..) | apply Evolves.step (ev_partnerLinkDown ..) | apply Evolves.wr
    | apply Evolves.onlyIf | apply Evolves.allOf | apply Evolves.ite | split | dsimp only | decide | rfl | intro _

theorem ev_heartbeatRx (h : Heartbeat) (s : State) :
    Evolves 935780727773778728481563391458453374699 s (heartbeatRx h s) := by
  unfold heartbeatRx
  with_reducible repeat'
    first
    | apply Evolves.refl | apply Evolves.step (ev_heartbeatMissed ..) | apply Evolves.step (ev_pairCause ..)
    | apply Evolves.step (ev_heartbeatAccepted ..) | apply Evolves.bump | apply Evolves.ite | split | dsimp only
    | decide | rfl | intro _

theorem ev_execHeartbeatRx (h : Heartbeat) (s : State) :
    OutEvolves 935780727773778728481563391458453374699 s (execHeartbeatRx h s) := by
  unfold execHeartbeatRx
  with_reducible repeat'
    first
    | apply Evolves.refl | apply OutEvolves.onIsland | apply Evolves.step (ev_heartbeatRx ..) | dsimp only | decide
    | rfl | intro _

theorem ev_applyWord (sp : Sp) (i : Nat) (x : Nat) (w : Nat) (v : Nat) (s : State) :
    Evolves 1361129467683753853835051685653366440075 s (applyWord sp i x w v s) := by
  unfold applyWord
  with_reducible repeat'
    first
    | apply Evolves.refl | apply Evolves.step (ev_startThread ..) | apply Evolves.step (ev_stopThread ..)
    | apply Evolves.step (ev_wrWord ..) | apply Evolves.allOf | apply Evolves.ite | split | dsimp only | decide | rfl
    | intro _

theorem ev_writeSnap (n : Nat) (sp : Sp) (x : Nat) (w : Nat) (v : Nat) (s : State) :
    Evolves 1361129467683753853835051685653363294211 s (writeSnap n sp x w v s) := by
  unfold writeSnap
  with_reducible repeat'
    first
    | apply Evolves.refl | apply Evolves.wrx | apply Evolves.step (ev_wrWord ..) | apply Evolves.ite | split
    | dsimp only | decide | rfl | intro _

theorem ev_applyTagged (n : Nat) (d : Delta) (s : State) :
    Evolves 1361129467683753853835051685653363818499 s (applyTagged n d s) := by
  unfold applyTagged
  with_reducible repeat'
    first
    | apply Evolves.refl | apply Evolves.step (ev_writeSnap ..) | apply Evolves.step (ev_State_setGrant ..)
    | apply Evolves.ite | apply Evolves.ofPair ‹_› | apply Evolves.ofTriple ‹_› | split | dsimp only | decide | rfl
    | intro _

theorem ev_applyHeld (n : Nat) (k : Nat) (s : State) :
    Evolves 1361129467683753853835051685653363818499 s (applyHeld n k s) := by
  unfold applyHeld
  with_reducible repeat'
    first
    | apply Evolves.refl | apply Evolves.step (ev_writeSnap ..) | apply Evolves.step (ev_State_setGrant ..)
    | apply Evolves.allOf | apply Evolves.ofPair ‹_› | apply Evolves.ofTriple ‹_› | split | dsimp only | decide | rfl
    | intro _

theorem ev_applyDelta (n : Nat) (d : Delta) (s : State) :
    Evolves 1361129467683753853835051685661999104139 s (applyDelta n d s) := by
  unfold applyDelta
  with_reducible repeat'
    first
    | apply Evolves.refl | apply Evolves.step (ev_applyWord ..) | apply Evolves.step (ev_applyTagged ..)
    | apply Evolves.step (ev_State_setCluster ..) | apply Evolves.step (ev_State_setGrant ..)
    | apply Evolves.step (ev_State_setPair ..) | apply Evolves.step (ev_State_setTerm ..)
    | apply Evolves.step (ev_State_setCph ..) | apply Evolves.step (ev_setSlotValid ..)
    | apply Evolves.step (ev_setInv ..) | apply Evolves.step (ev_State_setCrLane ..) | apply Evolves.wrWord
    | apply Evolves.wrx | apply Evolves.wr | apply Evolves.ite | apply Evolves.ofPair ‹_› | apply Evolves.ofTriple ‹_›
    | split | dsimp only | decide | rfl | intro _

theorem ev_mirrorDelta (n : Nat) (d : Delta) (crcOk : Bool) (s : State) :
    Evolves 1361129467683753853835051685661999104651 s (mirrorDelta n d crcOk s) := by
  unfold mirrorDelta
  with_reducible repeat'
    first
    | apply Evolves.refl | apply Evolves.step (ev_refreshReady ..) | apply Evolves.step (ev_applyDelta ..)
    | apply Evolves.step (ev_treeResync ..) | apply Evolves.bump | apply Evolves.ite | split | dsimp only | decide | rfl
    | intro _

theorem ev_execMirrorDelta (n : Fin 48) (d : Delta) (crcOk : Bool) (s : State) :
    OutEvolves 1361129467683753853835051685661999104651 s (execMirrorDelta n d crcOk s) := by
  unfold execMirrorDelta
  with_reducible repeat'
    first
    | apply Evolves.refl | apply OutEvolves.onIsland | apply Evolves.step (ev_mirrorDelta ..) | dsimp only | decide
    | rfl | intro _

theorem ev_closeMarker (n : Nat) (s : State) :
    Evolves 1361129467683753853835051685653366981131 s (closeMarker n s) := by
  unfold closeMarker
  with_reducible repeat'
    first
    | apply Evolves.refl | apply Evolves.step (ev_combClose ..) | apply Evolves.step (ev_applyHeld ..)
    | apply Evolves.step (ev_raise ..) | apply Evolves.step (ev_State_setFram ..) | apply Evolves.bump
    | apply Evolves.ite | split | dsimp only | decide | rfl | intro _

theorem ev_execMirrorCloseMarker (n : Fin 48) (s : State) :
    OutEvolves 1361129467683753853835051685653366981131 s (execMirrorCloseMarker n s) := by
  unfold execMirrorCloseMarker
  with_reducible repeat'
    first
    | apply Evolves.refl | apply OutEvolves.onIsland | apply Evolves.step (ev_closeMarker ..) | dsimp only | decide
    | rfl | intro _

theorem ev_bulkCopyDone (s : State) : Evolves 2596148429267413814265256754544641 s (bulkCopyDone s) := by
  unfold bulkCopyDone
  with_reducible repeat'
    first
    | apply Evolves.refl | apply Evolves.step (ev_refreshReady ..) | apply Evolves.wr | apply Evolves.ite | split
    | dsimp only | decide | rfl | intro _

theorem ev_execBulkCopyDone (s : State) : OutEvolves 2596148429267413814265256754545153 s (execBulkCopyDone s) := by
  unfold execBulkCopyDone
  with_reducible repeat'
    first
    | apply Evolves.refl | apply OutEvolves.onIsland | apply Evolves.step (ev_bulkCopyDone ..) | dsimp only | decide
    | rfl | intro _

theorem ev_laneFrameEnd (n : Nat) (gap : Bool) (s : State) : Evolves 8192 s (laneFrameEnd n gap s) := by
  unfold laneFrameEnd
  with_reducible repeat'
    first
    | apply Evolves.refl | apply Evolves.step (ev_noteSd ..) | apply Evolves.step (ev_State_setLane ..)
    | apply Evolves.ite | split | dsimp only | decide | rfl | intro _

theorem ev_frameJudge (light : List TreeLight) (s : State) :
    Evolves 2596148429267413814265256754683905 s (frameJudge light s) := by
  unfold frameJudge
  with_reducible repeat'
    first
    | apply Evolves.refl | apply Evolves.step (ev_laneFrameEnd ..) | apply Evolves.step (ev_State_setAct ..)
    | apply Evolves.step (ev_State_setPair ..) | apply Evolves.wr | apply Evolves.onlyIf | apply Evolves.allOf
    | apply Evolves.ite | split | dsimp only | decide | rfl | intro _

theorem ev_execUpstreamFrameJudge (light : List TreeLight) (s : State) :
    OutEvolves 2596148429267413814265256754684417 s (execUpstreamFrameJudge light s) := by
  unfold execUpstreamFrameJudge
  with_reducible repeat'
    first
    | apply Evolves.refl | apply OutEvolves.onIsland | apply Evolves.step (ev_frameJudge ..) | dsimp only | decide | rfl
    | intro _

theorem ev_ofsValid (n : Nat) (found : List Int) (s : State) :
    Evolves 255214371339133115011345220830580703755 s (ofsValid n found s) := by
  unfold ofsValid
  with_reducible repeat'
    first
    | apply Evolves.refl | apply Evolves.step (ev_setOfs ..) | apply Evolves.ite | split | dsimp only | decide | rfl
    | intro _

theorem ev_execOfsValid (n : Fin 48) (found : List Int) (s : State) :
    OutEvolves 255214371339133115011345220830580703755 s (execOfsValid n found s) := by
  unfold execOfsValid
  with_reducible repeat'
    first
    | apply Evolves.refl | apply OutEvolves.onIsland | apply Evolves.step (ev_ofsValid ..) | dsimp only | decide | rfl
    | intro _

theorem ev_ofsRead (s : State) : Evolves 2596148429267413814265248164610049 s (ofsRead s).2 := by
  unfold ofsRead
  with_reducible repeat'
    first
    | apply Evolves.refl | apply Evolves.wr | apply Evolves.onlyIf | apply Evolves.ofPair ‹_›
    | apply Evolves.ofTriple ‹_› | split | dsimp only | decide | rfl | intro _

theorem ev_healthEval (enc : Bool) (lane : Bool) (s : State) :
    Evolves 255214371339133417242800124487877658251 s (healthEval enc lane s) := by
  unfold healthEval
  with_reducible repeat'
    first
    | apply Evolves.refl | apply Evolves.step (ev_pairCause ..) | apply Evolves.step (ev_refreshReady ..)
    | apply Evolves.step (ev_State_setPair ..) | apply Evolves.step (ev_giveUp ..) | apply Evolves.wr
    | apply Evolves.onlyIf | apply Evolves.foldl | apply Evolves.ite | split | dsimp only | decide | rfl | intro _

theorem ev_execHealthEval (enc : Bool) (lane : Bool) (s : State) :
    OutEvolves 255214371339133417242800124487877658251 s (execHealthEval enc lane s) := by
  unfold execHealthEval
  with_reducible repeat'
    first
    | apply Evolves.refl | apply OutEvolves.onIsland | apply Evolves.step (ev_healthEval ..) | dsimp only | decide | rfl
    | intro _

theorem ev_execHealthReport (s : State) : OutEvolves 8589935104 s (execHealthReport s) := by
  unfold execHealthReport
  with_reducible repeat'
    first
    | apply Evolves.refl | apply OutEvolves.onIsland | apply Evolves.step (ev_State_setPair ..) | apply Evolves.ite
    | split | dsimp only | decide | rfl | intro _

theorem ev_scrubOne (e : ScrubError) (s : State) :
    Evolves 255212099748949260765300147451665056267 s (scrubOne e s) := by
  unfold scrubOne
  with_reducible repeat'
    first
    | apply Evolves.refl | apply Evolves.step (ev_raise ..) | apply Evolves.step (ev_State_setCluster ..)
    | apply Evolves.step (ev_emPut ..) | apply Evolves.step (ev_countDown ..) | apply Evolves.step (ev_flowKeyError ..)
    | apply Evolves.step (ev_terminalKeyError ..) | apply Evolves.step (ev_ringKeyError ..) | apply Evolves.bump
    | apply Evolves.ite | apply Evolves.ofPair ‹_› | apply Evolves.ofTriple ‹_› | split | dsimp only | decide | rfl
    | intro _

theorem ev_execMemoryScrubPass (l : List ScrubError) (s : State) :
    OutEvolves 255212099748949260765300147460254990859 s (execMemoryScrubPass l s) := by
  unfold execMemoryScrubPass
  with_reducible repeat'
    first
    | apply Evolves.refl | apply OutEvolves.onIsland | apply Evolves.step (ev_scrubOne ..)
    | apply Evolves.step (ev_State_setPair ..) | apply Evolves.allOf | dsimp only | decide | rfl | intro _

theorem ev_yield (s : State) : Evolves 255214371339133115011345220830580703755 s (yield s) := by
  unfold yield
  with_reducible repeat'
    first
    | apply Evolves.refl | apply Evolves.step (ev_pairCause ..) | apply Evolves.step (ev_startSwitchover ..)
    | apply Evolves.bump | apply Evolves.ite | split | dsimp only | decide | rfl | intro _

theorem ev_execYield (s : State) : OutEvolves 255214371339133115011345220830580703755 s (execYield s) := by
  unfold execYield
  with_reducible repeat'
    first
    | apply Evolves.refl | apply OutEvolves.onIsland | apply Evolves.step (ev_yield ..) | dsimp only | decide | rfl
    | intro _

theorem ev_switchRx (k : Nat) (s : State) : Evolves 8589935104 s (switchRx k s) := by
  unfold switchRx
  with_reducible repeat'
    first
    | apply Evolves.refl | apply Evolves.step (ev_sendPair ..) | apply Evolves.step (ev_State_setPair ..)
    | apply Evolves.ite | split | dsimp only | decide | rfl | intro _

theorem ev_execSwitchRx (k : Nat) (s : State) : OutEvolves 8589935104 s (execSwitchRx k s) := by
  unfold execSwitchRx
  with_reducible repeat'
    first
    | apply Evolves.refl | apply OutEvolves.onIsland | apply Evolves.step (ev_switchRx ..) | dsimp only | decide | rfl
    | intro _

theorem Evolves.swPhase {m : Nat} {s t : State} {old new : SwPhase} {f : State → State} (hf : ∀ x, Evolves m x (f x))
    (h : Evolves m s t) (hm : 8589934592 ||| m = m := by decide) : Evolves m s (swPhase old new f t) := by
  have hm' : ∀ k, k ||| 8589934592 = 8589934592 → k ||| m = m := fun k hk => by rw [← hm, ← Nat.or_assoc, hk]
  unfold Machine.swPhase
  with_reducible repeat'
    first
    | exact h | exact hm' _ (by decide) | apply Evolves.trans (h := hf _) | apply Evolves.refl
    | apply Evolves.step (hm := hm' _ (by decide)) (ev_State_setPair ..) | apply Evolves.ite
    | apply Evolves.ofPair ‹_› | apply Evolves.ofTriple ‹_› | split | dsimp only | decide | rfl | intro _

theorem ev_execAckRx (s : State) : OutEvolves 8589935104 s (execAckRx s) := by
  unfold execAckRx
  with_reducible repeat'
    first
    | apply Evolves.refl | apply OutEvolves.onIsland | apply Evolves.swPhase | apply Evolves.step (ev_sendPair ..)
    | dsimp only | decide | rfl | intro _

theorem ev_switchOff (s : State) : Evolves 2596148429267413814265256754544641 s (switchOff s) := by
  unfold switchOff
  with_reducible repeat'
    first
    | apply Evolves.refl | apply Evolves.step (ev_State_setPair ..) | apply Evolves.wr | dsimp only | decide | rfl
    | intro _

theorem ev_nakRx (s : State) : Evolves 255214371339133417242800124487877660299 s (nakRx s) := by
  unfold nakRx
  with_reducible repeat'
    first
    | apply Evolves.refl | apply Evolves.step (ev_State_setPair ..) | apply Evolves.step (ev_roleNext ..)
    | apply Evolves.step (ev_switchOff ..) | apply Evolves.ite | apply Evolves.ofPair ‹_› | apply Evolves.ofTriple ‹_›
    | split | dsimp only | decide | rfl | intro _

theorem ev_execNakRx (s : State) : OutEvolves 255214371339133417242800124487877660299 s (execNakRx s) := by
  unfold execNakRx
  with_reducible repeat'
    first
    | apply Evolves.refl | apply OutEvolves.onIsland | apply Evolves.step (ev_nakRx ..) | dsimp only | decide | rfl
    | intro _

theorem ev_execCommitRx (s : State) : OutEvolves 8589935104 s (execCommitRx s) := by
  unfold execCommitRx
  with_reducible repeat'
    first
    | apply Evolves.refl | apply OutEvolves.onIsland | apply Evolves.swPhase | apply Evolves.ofId | dsimp only | decide
    | rfl | intro _

theorem ev_switchoverExecute (s : State) : Evolves 255214695857687167847907043970830454523 s (switchoverExecute s) := by
  unfold switchoverExecute
  with_reducible repeat'
    first
    | apply Evolves.refl | apply Evolves.step (ev_passToFrame ..) | apply Evolves.step (ev_setRole ..)
    | apply Evolves.step (ev_takeOver ..) | apply Evolves.step (ev_roleNext ..) | apply Evolves.step (ev_switched ..)
    | apply Evolves.ite | apply Evolves.ofPair ‹_› | apply Evolves.ofTriple ‹_› | split | dsimp only | decide | rfl
    | intro _

theorem ev_execSwitchoverExecute (s : State) :
    OutEvolves 255214695857687167847907043970830454523 s (execSwitchoverExecute s) := by
  unfold execSwitchoverExecute
  with_reducible repeat'
    first
    | apply Evolves.refl | apply OutEvolves.onIsland | apply Evolves.step (ev_switchoverExecute ..) | dsimp only
    | decide | rfl | intro _

theorem ev_switchAbort (s : State) : Evolves 255214371339133417242800124488146095867 s (switchAbort s) := by
  unfold switchAbort
  with_reducible repeat'
    first
    | apply Evolves.refl | apply Evolves.step (ev_passToFrame ..) | apply Evolves.step (ev_roleNext ..)
    | apply Evolves.step (ev_pairCause ..) | apply Evolves.step (ev_switchOff ..) | apply Evolves.bump
    | apply Evolves.ite | apply Evolves.ofPair ‹_› | apply Evolves.ofTriple ‹_› | split | dsimp only | decide | rfl
    | intro _

theorem ev_execSwitchAbort (s : State) : OutEvolves 255214371339133417242800124488146095867 s (execSwitchAbort s) := by
  unfold execSwitchAbort
  with_reducible repeat'
    first
    | apply Evolves.refl | apply OutEvolves.onIsland | apply Evolves.step (ev_switchAbort ..) | dsimp only | decide
    | rfl | intro _

theorem ev_commitTimeout (s : State) : Evolves 8858370168 s (commitTimeout s) := by
  unfold commitTimeout
  with_reducible repeat'
    first
    | apply Evolves.refl | apply Evolves.swPhase | apply Evolves.step (ev_passToFrame ..) | apply Evolves.ofId
    | apply Evolves.ite | apply Evolves.ofPair ‹_› | apply Evolves.ofTriple ‹_› | split | dsimp only | decide | rfl
    | intro _

theorem ev_execCommitTimeout (s : State) : OutEvolves 8858370680 s (execCommitTimeout s) := by
  unfold execCommitTimeout
  with_reducible repeat'
    first
    | apply Evolves.refl | apply OutEvolves.onIsland | apply Evolves.step (ev_commitTimeout ..) | dsimp only | decide
    | rfl | intro _

theorem ev_releasedRx (epoch : Nat) (s : State) :
    Evolves 255214695857687167847907043970562018955 s (releasedRx epoch s) := by
  unfold releasedRx
  with_reducible repeat'
    first
    | apply Evolves.refl | apply Evolves.step (ev_State_setPair ..) | apply Evolves.step (ev_roleNext ..)
    | apply Evolves.step (ev_pairCause ..) | apply Evolves.step (ev_takeOver ..) | apply Evolves.bump
    | apply Evolves.ite | split | dsimp only | decide | rfl | intro _

theorem ev_execReleasedRx (epoch : Word) (s : State) :
    OutEvolves 255214695857687167847907043970562018955 s (execReleasedRx epoch s) := by
  unfold execReleasedRx
  with_reducible repeat'
    first
    | apply Evolves.refl | apply OutEvolves.onIsland | apply Evolves.step (ev_releasedRx ..) | apply Evolves.ite | split
    | dsimp only | decide | rfl | intro _

theorem ev_returnSend (s : State) : Evolves 8858370680 s (returnSend s) := by
  unfold returnSend
  with_reducible repeat'
    first
    | apply Evolves.refl | apply Evolves.step (ev_passTo ..) | apply Evolves.step (ev_sendPair ..)
    | apply Evolves.step (ev_State_setPair ..) | apply Evolves.step (ev_track ..) | apply Evolves.ite
    | apply Evolves.ofPair ‹_› | apply Evolves.ofTriple ‹_› | split | dsimp only | decide | rfl | intro _

theorem ev_execReturnSend (s : State) : OutEvolves 8858370680 s (execReturnSend s) := by
  unfold execReturnSend
  with_reducible repeat'
    first
    | apply Evolves.refl | apply OutEvolves.onIsland | apply Evolves.step (ev_returnSend ..) | dsimp only | decide | rfl
    | intro _

theorem ev_returnRx (s : State) : Evolves 8589935104 s (returnRx s) := by
  unfold returnRx
  with_reducible repeat'
    first
    | apply Evolves.refl | apply Evolves.step (ev_State_setPair ..) | apply Evolves.step (ev_startSwitchover ..)
    | apply Evolves.step (ev_sendPair ..) | apply Evolves.ite | split | dsimp only | decide | rfl | intro _

theorem ev_execReturnRx (s : State) : OutEvolves 8589935104 s (execReturnRx s) := by
  unfold execReturnRx
  with_reducible repeat'
    first
    | apply Evolves.refl | apply OutEvolves.onIsland | apply Evolves.step (ev_returnRx ..) | dsimp only | decide | rfl
    | intro _

theorem ev_linkDownRoleChange (s : State) :
    Evolves 255214695857687167847907043970830454523 s (linkDownRoleChange s) := by
  unfold linkDownRoleChange
  with_reducible repeat'
    first
    | apply Evolves.refl | apply Evolves.step (ev_roleNext ..) | apply Evolves.step (ev_pairCause ..)
    | apply Evolves.step (ev_takeOver ..) | apply Evolves.step (ev_passToNextFrame ..)
    | apply Evolves.step (ev_setRole ..) | apply Evolves.step (ev_cipherHold ..) | apply Evolves.bump
    | apply Evolves.ite | apply Evolves.ofPair ‹_› | apply Evolves.ofTriple ‹_› | split | dsimp only | decide | rfl
    | intro _

theorem ev_execLinkDownRoleChange (s : State) :
    OutEvolves 255214695857687167847907043970830454523 s (execLinkDownRoleChange s) := by
  unfold execLinkDownRoleChange
  with_reducible repeat'
    first
    | apply Evolves.refl | apply OutEvolves.onIsland | apply Evolves.step (ev_linkDownRoleChange ..) | dsimp only
    | decide | rfl | intro _

theorem ev_startupExpiry (s : State) : Evolves 2596148429267413814265257022980217 s (startupExpiry s) := by
  unfold startupExpiry
  with_reducible repeat'
    first
    | apply Evolves.refl | apply Evolves.step (ev_track ..) | apply Evolves.step (ev_passTo ..) | apply Evolves.wr
    | apply Evolves.ite | apply Evolves.ofPair ‹_› | apply Evolves.ofTriple ‹_› | split | dsimp only | decide | rfl
    | intro _

theorem ev_execStartupExpiry (s : State) : OutEvolves 2596148429267413814265257022980729 s (execStartupExpiry s) := by
  unfold execStartupExpiry
  with_reducible repeat'
    first
    | apply Evolves.refl | apply OutEvolves.onIsland | apply Evolves.step (ev_startupExpiry ..) | dsimp only | decide
    | rfl | intro _

theorem ev_roleCommand (op : Nat) (s : State) :
    OutEvolves 265848195305412744226030580970120416907 s (roleCommand op s) := by
  unfold roleCommand
  with_reducible repeat'
    first
    | apply Evolves.refl | apply OutEvolves.onIsland | apply Evolves.guarded | apply Evolves.step (ev_roleStart ..)
    | dsimp only | decide | rfl | intro _

theorem ev_execRoleSwitchOver (s : State) :
    OutEvolves 265848195305412744226030580970120416907 s (execRoleSwitchOver s) := by
  unfold execRoleSwitchOver
  with_reducible repeat'
    first
    | apply Evolves.refl | apply OutEvolves.next | apply OutEvolves.step (ev_roleCommand ..) | dsimp only | decide | rfl
    | intro _

theorem ev_execRoleEnterTest (s : State) :
    OutEvolves 265848195305412744226030580970120416907 s (execRoleEnterTest s) := by
  unfold execRoleEnterTest
  with_reducible repeat'
    first
    | apply Evolves.refl | apply OutEvolves.next | apply OutEvolves.step (ev_roleCommand ..) | dsimp only | decide | rfl
    | intro _

theorem ev_execRoleLeaveTest (s : State) :
    OutEvolves 265848195305412744226030580970120416907 s (execRoleLeaveTest s) := by
  unfold execRoleLeaveTest
  with_reducible repeat'
    first
    | apply Evolves.refl | apply OutEvolves.next | apply OutEvolves.step (ev_roleCommand ..) | dsimp only | decide | rfl
    | intro _

theorem ev_execRoleRejoin (s : State) : OutEvolves 265848195305412744226030580970120416907 s (execRoleRejoin s) := by
  unfold execRoleRejoin
  with_reducible repeat'
    first
    | apply Evolves.refl | apply OutEvolves.next | apply OutEvolves.step (ev_roleCommand ..) | dsimp only | decide | rfl
    | intro _

theorem ev_roleCmdWrite (w : Nat) (s : State) :
    Evolves 265848195305412744226030580970120416907 s (roleCmdWrite w s) := by
  unfold roleCmdWrite
  with_reducible repeat'
    first
    | apply Evolves.refl | apply Evolves.step (ev_roleStart ..) | apply Evolves.wr | apply Evolves.ite | split
    | dsimp only | decide | rfl | intro _

theorem ev_singleActive (s : State) : Evolves 255214371339133417242800124487877658251 s (singleActive s) := by
  unfold singleActive
  with_reducible repeat'
    first
    | apply Evolves.refl | apply Evolves.step (ev_setRole ..) | apply Evolves.ite | split | dsimp only | decide | rfl
    | intro _

end Sys2Proof.Machine
end

