-- ==== Sys2Proof/Laws/EvFrame.lean ====
section
/-!
SUPPORT. What the operations of Machine/Frame.lean may touch (Safety.lean, Evolves).
-/

namespace Sys2Proof.Machine

set_option Elab.async false
set_option linter.all false

theorem ev_frameStart (n : Nat) (s : State) : Evolves 255214776987325582454588739759839792891 s (frameStart n s) := by
  unfold frameStart
  with_reducible repeat'
    first
    | apply Evolves.refl | apply Evolves.step (ev_releaseHolds ..) | apply Evolves.step (ev_slotSwitch ..)
    | apply Evolves.step (ev_frameStartFraming ..) | apply Evolves.step (ev_pairFrameStart ..)
    | apply Evolves.step (ev_passToFrame ..) | apply Evolves.onlyIf | dsimp only | decide | rfl | intro _

theorem ev_execFrameStart (n : Fin 48) (s : State) :
    OutEvolves 255214776987325582454588739759839792891 s (execFrameStart n s) := by
  unfold execFrameStart
  with_reducible repeat'
    first
    | apply Evolves.refl | apply OutEvolves.onIsland | apply Evolves.step (ev_frameStart ..) | dsimp only | decide | rfl
    | intro _

end Sys2Proof.Machine
end

