-- ==== Sys2Proof/Laws/EvNetwork.lean ====
section
/-!
SUPPORT. What the operations of Machine/Network.lean may touch (Safety.lean, Evolves).
-/

namespace Sys2Proof.Machine

set_option Elab.async false
set_option linter.all false

theorem ev_State_setNetPort (s : State) (n : Nat) (x : NetPort) : Evolves 4294967296 s (State.setNetPort s n x) := by
  unfold State.setNetPort
  with_reducible repeat'
    first
    | apply Evolves.refl | dsimp only | decide | rfl | intro _ | apply Evolves.upd_ports

theorem ev_netCause (n : Nat) (bit : Nat) (s : State) :
    Evolves 255211775190703847597530955573826159114 s (netCause n bit s) := by
  unfold netCause
  with_reducible repeat'
    first
    | apply Evolves.refl | apply Evolves.step (ev_raise ..) | dsimp only | decide | rfl | intro _

theorem ev_startAttempt (n : Nat) (s : State) : Evolves 649037107316853453566316336119809 s (startAttempt n s) := by
  unfold startAttempt
  with_reducible repeat'
    first
    | apply Evolves.refl | apply Evolves.step (ev_State_setNetPort ..) | apply Evolves.wr | apply Evolves.allOf
    | apply Evolves.ite | split | dsimp only | decide | rfl | intro _

theorem ev_latchFec (n : Nat) (s : State) : Evolves 4294967296 s (latchFec n s) := by
  unfold latchFec
  with_reducible repeat'
    first
    | apply Evolves.refl | apply Evolves.step (ev_State_setNetPort ..) | dsimp only | decide | rfl | intro _

theorem ev_attemptFails (n : Nat) (bit : Nat) (s : State) :
    Evolves 255212424227811164450984521890162278923 s (attemptFails n bit s) := by
  unfold attemptFails
  with_reducible repeat'
    first
    | apply Evolves.refl | apply Evolves.step (ev_netCause ..) | apply Evolves.step (ev_State_setNetPort ..)
    | apply Evolves.wr | apply Evolves.bump | apply Evolves.allOf | dsimp only | decide | rfl | intro _

theorem ev_linkGoesDown (n : Nat) (s : State) :
    Evolves 255212437855055116904450587975430967819 s (linkGoesDown n s) := by
  unfold linkGoesDown
  with_reducible repeat'
    first
    | apply Evolves.refl | apply Evolves.step (ev_tmuLinkDown ..) | apply Evolves.step (ev_netCause ..)
    | apply Evolves.bump | apply Evolves.wr | dsimp only | decide | rfl | intro _

theorem ev_linkDown (n : Nat) (localFault : Bool) (s : State) :
    Evolves 255212437855055116904450587979725935115 s (linkDown n localFault s) := by
  unfold linkDown
  with_reducible repeat'
    first
    | apply Evolves.refl | apply Evolves.step (ev_startAttempt ..) | apply Evolves.step (ev_linkGoesDown ..)
    | apply Evolves.step (ev_netCause ..) | apply Evolves.wr | apply Evolves.onlyIf | apply Evolves.ite | split
    | dsimp only | decide | rfl | intro _

theorem ev_execLinkDown (n : Fin 32) (localFault : Bool) (s : State) :
    OutEvolves 255212437855055116904450587979725935115 s (execLinkDown n localFault s) := by
  unfold execLinkDown
  with_reducible repeat'
    first
    | apply Evolves.refl | apply OutEvolves.onIsland | apply Evolves.step (ev_linkDown ..) | dsimp only | decide | rfl
    | intro _

theorem ev_cfgRefused (n : Nat) (s : State) : Evolves 255212424227811164450984521885867313675 s (cfgRefused n s) := by
  unfold cfgRefused
  with_reducible repeat'
    first
    | apply Evolves.refl | apply Evolves.step (ev_setVerdict ..) | apply Evolves.step (ev_netCause ..)
    | apply Evolves.wr | dsimp only | decide | rfl | intro _

theorem ev_portCfgWrite (n : Nat) (w : Nat) (s : State) :
    Evolves 265846261821334443887681044461968693771 s (portCfgWrite n w s) := by
  unfold portCfgWrite
  with_reducible repeat'
    first
    | apply Evolves.refl | apply Evolves.step (ev_cfgRefused ..) | apply Evolves.step (ev_encReject ..)
    | apply Evolves.step (ev_linkGoesDown ..) | apply Evolves.step (ev_startAttempt ..) | apply Evolves.wr
    | apply Evolves.writeReg | apply Evolves.onlyIf | apply Evolves.allOf | apply Evolves.ite | split | dsimp only
    | decide | rfl | intro _

theorem ev_execPortCfgWrite (n : Fin 32) (w : Word) (s : State) :
    OutEvolves 265846261821334443887681044461968693771 s (execPortCfgWrite n w s) := by
  unfold execPortCfgWrite
  with_reducible repeat'
    first
    | apply Evolves.refl | apply OutEvolves.onIsland | apply Evolves.step (ev_portCfgWrite ..) | dsimp only | decide
    | rfl | intro _

theorem ev_anComplete (n : Nat) (s : State) : Evolves 649037107316853453566316336119809 s (anComplete n s) := by
  unfold anComplete
  with_reducible repeat'
    first
    | apply Evolves.refl | apply Evolves.step (ev_State_setNetPort ..) | apply Evolves.wr | apply Evolves.ite | split
    | dsimp only | decide | rfl | intro _

theorem ev_execAnComplete (n : Fin 32) (s : State) :
    OutEvolves 649037107316853453566316336120321 s (execAnComplete n s) := by
  unfold execAnComplete
  with_reducible repeat'
    first
    | apply Evolves.refl | apply OutEvolves.onIsland | apply Evolves.step (ev_anComplete ..) | dsimp only | decide | rfl
    | intro _

theorem ev_startVerify (n : Nat) (s : State) : Evolves 649037107316853453566316336119809 s (startVerify n s) := by
  unfold startVerify
  with_reducible repeat'
    first
    | apply Evolves.refl | apply Evolves.step (ev_State_setNetPort ..) | apply Evolves.wr | apply Evolves.ite | split
    | dsimp only | decide | rfl | intro _

theorem ev_linkUp (n : Nat) (s : State) : Evolves 255212424227811164450984521890430714491 s (linkUp n s) := by
  unfold linkUp
  with_reducible repeat'
    first
    | apply Evolves.refl | apply Evolves.step (ev_passTo ..) | apply Evolves.step (ev_startVerify ..)
    | apply Evolves.step (ev_netCause ..) | apply Evolves.step (ev_latchFec ..)
    | apply Evolves.step (ev_State_setNetPort ..) | apply Evolves.wr | apply Evolves.allOf | apply Evolves.ite | split
    | dsimp only | decide | rfl | intro _

theorem ev_execLinkUp (n : Fin 32) (s : State) :
    OutEvolves 255212424227811164450984521890430714491 s (execLinkUp n s) := by
  unfold execLinkUp
  with_reducible repeat'
    first
    | apply Evolves.refl | apply OutEvolves.onIsland | apply Evolves.step (ev_linkUp ..) | dsimp only | decide | rfl
    | intro _

theorem ev_ltTimeout (n : Nat) (s : State) : Evolves 255212424227811164450984521890430714491 s (ltTimeout n s) := by
  unfold ltTimeout
  with_reducible repeat'
    first
    | apply Evolves.refl | apply Evolves.step (ev_attemptFails ..) | apply Evolves.step (ev_passTo ..)
    | apply Evolves.ite | split | dsimp only | decide | rfl | intro _

theorem ev_execLtTimeout (n : Fin 32) (s : State) :
    OutEvolves 255212424227811164450984521890430714491 s (execLtTimeout n s) := by
  unfold execLtTimeout
  with_reducible repeat'
    first
    | apply Evolves.refl | apply OutEvolves.onIsland | apply Evolves.step (ev_ltTimeout ..) | dsimp only | decide | rfl
    | intro _

theorem ev_ltSignalLoss (n : Nat) (s : State) :
    Evolves 255212424227811164450984521890162278923 s (ltSignalLoss n s) := by
  unfold ltSignalLoss
  with_reducible repeat'
    first
    | apply Evolves.refl | apply Evolves.step (ev_attemptFails ..) | apply Evolves.ite | split | dsimp only | decide
    | rfl | intro _

theorem ev_execLtSignalLoss (n : Fin 32) (s : State) :
    OutEvolves 255212424227811164450984521890162278923 s (execLtSignalLoss n s) := by
  unfold execLtSignalLoss
  with_reducible repeat'
    first
    | apply Evolves.refl | apply OutEvolves.onIsland | apply Evolves.step (ev_ltSignalLoss ..) | dsimp only | decide
    | rfl | intro _

theorem ev_backoffEnd (n : Nat) (s : State) : Evolves 649037107316853453566316604555385 s (backoffEnd n s) := by
  unfold backoffEnd
  with_reducible repeat'
    first
    | apply Evolves.refl | apply Evolves.step (ev_startAttempt ..) | apply Evolves.step (ev_passTo ..)
    | apply Evolves.ite | split | dsimp only | decide | rfl | intro _

theorem ev_execBackoffEnd (n : Fin 32) (s : State) :
    OutEvolves 649037107316853453566316604555897 s (execBackoffEnd n s) := by
  unfold execBackoffEnd
  with_reducible repeat'
    first
    | apply Evolves.refl | apply OutEvolves.onIsland | apply Evolves.step (ev_backoffEnd ..) | dsimp only | decide | rfl
    | intro _

theorem ev_remoteFault (n : Nat) (s : State) : Evolves 255212424227811164450984521885867311627 s (remoteFault n s) := by
  unfold remoteFault
  with_reducible repeat'
    first
    | apply Evolves.refl | apply Evolves.step (ev_netCause ..) | apply Evolves.wr | apply Evolves.ite | split
    | dsimp only | decide | rfl | intro _

theorem ev_execRemoteFault (n : Fin 32) (s : State) :
    OutEvolves 255212424227811164450984521885867311627 s (execRemoteFault n s) := by
  unfold execRemoteFault
  with_reducible repeat'
    first
    | apply Evolves.refl | apply OutEvolves.onIsland | apply Evolves.step (ev_remoteFault ..) | dsimp only | decide
    | rfl | intro _

theorem ev_fecWindow (n : Nat) (corr : Nat) (uncorr : Nat) (sym : Nat) (s : State) :
    Evolves 255212424227811164450984521890162278923 s (fecWindow n corr uncorr sym s) := by
  unfold fecWindow
  with_reducible repeat'
    first
    | apply Evolves.refl | apply Evolves.step (ev_latchFec ..) | apply Evolves.step (ev_netCause ..) | apply Evolves.wr
    | apply Evolves.bumpBy | apply Evolves.onlyIf | apply Evolves.ite | split | dsimp only | decide | rfl | intro _

theorem ev_execFecWindow (n : Fin 32) (corr : BitVec 21) (uncorr : BitVec 21) (sym : BitVec 24) (s : State) :
    OutEvolves 255212424227811164450984521890162278923 s (execFecWindow n corr uncorr sym s) := by
  unfold execFecWindow
  with_reducible repeat'
    first
    | apply Evolves.refl | apply OutEvolves.onIsland | apply Evolves.step (ev_fecWindow ..) | dsimp only | decide | rfl
    | intro _

theorem ev_verifyResponse (n : Nat) (s : State) :
    Evolves 255212424227811164450984521885867311627 s (verifyResponse n s) := by
  unfold verifyResponse
  with_reducible repeat'
    first
    | apply Evolves.refl | apply Evolves.step (ev_netCause ..) | apply Evolves.wr | apply Evolves.ite | split
    | dsimp only | decide | rfl | intro _

theorem ev_execVerifyResponse (n : Fin 32) (s : State) :
    OutEvolves 255212424227811164450984521885867311627 s (execVerifyResponse n s) := by
  unfold execVerifyResponse
  with_reducible repeat'
    first
    | apply Evolves.refl | apply OutEvolves.onIsland | apply Evolves.step (ev_verifyResponse ..) | dsimp only | decide
    | rfl | intro _

theorem ev_verifyTimeout (n : Nat) (s : State) :
    Evolves 255212424227811164450984521890430714491 s (verifyTimeout n s) := by
  unfold verifyTimeout
  with_reducible repeat'
    first
    | apply Evolves.refl | apply Evolves.step (ev_passTo ..) | apply Evolves.step (ev_State_setNetPort ..)
    | apply Evolves.step (ev_netCause ..) | apply Evolves.bump | apply Evolves.wr | apply Evolves.ite | split
    | dsimp only | decide | rfl | intro _

theorem ev_execVerifyTimeout (n : Fin 32) (s : State) :
    OutEvolves 255212424227811164450984521890430714491 s (execVerifyTimeout n s) := by
  unfold execVerifyTimeout
  with_reducible repeat'
    first
    | apply Evolves.refl | apply OutEvolves.onIsland | apply Evolves.step (ev_verifyTimeout ..) | dsimp only | decide
    | rfl | intro _

theorem ev_laneSignal (n : Nat) (sig : Bool) (cdr : Bool) (s : State) :
    Evolves 255212424227811164450984521885867311627 s (laneSignal n sig cdr s) := by
  unfold laneSignal
  with_reducible repeat'
    first
    | apply Evolves.refl | apply Evolves.step (ev_netCause ..) | apply Evolves.wr | apply Evolves.onlyIf | dsimp only
    | decide | rfl | intro _

theorem ev_execNetLaneSignalChange (n : Fin 32) (sig : Bool) (cdr : Bool) (s : State) :
    OutEvolves 255212424227811164450984521885867311627 s (execNetLaneSignalChange n sig cdr s) := by
  unfold execNetLaneSignalChange
  with_reducible repeat'
    first
    | apply Evolves.refl | apply OutEvolves.onIsland | apply Evolves.step (ev_laneSignal ..) | dsimp only | decide | rfl
    | intro _

theorem ev_laneTestWrite (n : Nat) (w : Nat) (s : State) :
    Evolves 265846261821334443887681044461968693771 s (laneTestWrite n w s) := by
  unfold laneTestWrite
  with_reducible repeat'
    first
    | apply Evolves.refl | apply Evolves.step (ev_linkDown ..) | apply Evolves.step (ev_attemptFails ..)
    | apply Evolves.writeReg | apply Evolves.ite | apply Evolves.ofPair ‹_› | apply Evolves.ofTriple ‹_› | split
    | dsimp only | decide | rfl | intro _

theorem ev_toPipelines (n : Nat) (hdr : FrameHdr) (bytes : List Byte) (s : State) :
    Evolves 2147484160 s (toPipelines n hdr bytes s) := by
  unfold toPipelines
  with_reducible repeat'
    first
    | apply Evolves.refl | apply Evolves.step (ev_wrapperAnswer ..) | apply Evolves.allOf | apply Evolves.foldl
    | dsimp only | decide | rfl | intro _ | apply Evolves.upd_merge

theorem ev_netFrameRx (n : Nat) (pt : Nat) (bytes : List Byte) (fcsOk : Bool) (s : State) :
    Evolves 276480073111107768588617485975027716623 s (netFrameRx n pt bytes fcsOk s) := by
  unfold netFrameRx
  with_reducible repeat'
    first
    | apply Evolves.refl | apply Evolves.step (ev_toPipelines ..) | apply Evolves.step (ev_captureAt ..)
    | apply Evolves.bump | apply Evolves.onlyIf | apply Evolves.ite | apply Evolves.ofPair ‹_›
    | apply Evolves.ofTriple ‹_› | split | dsimp only | decide | rfl | intro _

theorem ev_execNetFrameRx (n : Fin 32) (pt : Nat) (bytes : List Byte) (fcsOk : Bool) (s : State) :
    OutEvolves 276480073111107768588617485975027716623 s (execNetFrameRx n pt bytes fcsOk s) := by
  unfold execNetFrameRx
  with_reducible repeat'
    first
    | apply Evolves.refl | apply OutEvolves.onIsland | apply Evolves.step (ev_netFrameRx ..) | dsimp only | decide | rfl
    | intro _

theorem ev_netLaneReset (n : Nat) (s : State) :
    Evolves 255212437855055116904450587979725935115 s (netLaneReset n s) := by
  unfold netLaneReset
  with_reducible repeat'
    first
    | apply Evolves.refl | apply Evolves.step (ev_attemptFails ..) | apply Evolves.step (ev_linkDown ..)
    | apply Evolves.ite | apply Evolves.ofPair ‹_› | apply Evolves.ofTriple ‹_› | split | dsimp only | decide | rfl
    | intro _

end Sys2Proof.Machine
end

