-- ==== Sys2Proof/Laws/EvOtp.lean ====
section
/-!
SUPPORT. What the operations of Machine/Otp.lean may touch (Safety.lean, Evolves).
-/

namespace Sys2Proof.Machine

set_option Elab.async false
set_option linter.all false

theorem ev_programFuse (w : Nat) (bits : Nat) (s : State) :
    Evolves 2658455991569831745807614120560689153 s (programFuse w bits s) := by
  unfold programFuse
  with_reducible repeat'
    first
    | apply Evolves.refl | apply Evolves.wrWord | dsimp only | decide | rfl | intro _

theorem ev_otpCut (s : State) : Evolves 2658455991569831745807614154920427649 s (otpCut s) := by
  unfold otpCut
  with_reducible repeat'
    first
    | apply Evolves.refl | apply Evolves.step (ev_drawFree ..) | apply Evolves.step (ev_programFuse ..)
    | apply Evolves.ofPair ‹_› | apply Evolves.ofTriple ‹_› | split | dsimp only | decide | rfl | intro _
    | apply Evolves.upd_nvm

end Sys2Proof.Machine
end

