-- ==== Sys2Proof/Laws/EvSession.lean ====
section
/-!
SUPPORT. What the operations of Machine/Session.lean may touch (Safety.lean, Evolves).
-/

namespace Sys2Proof.Machine

set_option Elab.async false
set_option linter.all false

theorem ev_State_setCmd (s : State) (x : Cmd) : Evolves 2048 s (State.setCmd s x) := by
  unfold State.setCmd
  with_reducible repeat'
    first
    | apply Evolves.refl | dsimp only | decide | rfl | intro _ | apply Evolves.upd_cmd

theorem ev_sessCause (bit : Nat) (i : Nat) (s : State) :
    Evolves 255211775190703847597530955573826159114 s (sessCause bit i s) := by
  unfold sessCause
  with_reducible repeat'
    first
    | apply Evolves.refl | apply Evolves.step (ev_raise ..) | dsimp only | decide | rfl | intro _

theorem ev_dropPrivilege (s : State) : Evolves 2048 s (dropPrivilege s) := by
  unfold dropPrivilege
  with_reducible repeat'
    first
    | apply Evolves.refl | apply Evolves.step (ev_State_setCmd ..) | dsimp only | decide | rfl | intro _

theorem ev_closeSession (i : Nat) (s : State) : Evolves 2052 s (closeSession i s) := by
  unfold closeSession
  with_reducible repeat'
    first
    | apply Evolves.refl | apply Evolves.step (ev_dropPrivilege ..) | apply Evolves.step (ev_State_setSession ..)
    | apply Evolves.onlyIf | dsimp only | decide | rfl | intro _

theorem ev_faultSession (i : Nat) (bit : Nat) (s : State) :
    Evolves 265845599156983174580761412056068917775 s (faultSession i bit s) := by
  unfold faultSession
  with_reducible repeat'
    first
    | apply Evolves.refl | apply Evolves.step (ev_sessCause ..) | apply Evolves.step (ev_dropPrivilege ..)
    | apply Evolves.step (ev_State_setSession ..) | apply Evolves.bump | apply Evolves.onlyIf | dsimp only | decide
    | rfl | intro _

theorem ev_linkStart (s : State) : Evolves 2048 s (linkStart s) := by
  unfold linkStart
  with_reducible repeat'
    first
    | apply Evolves.refl | apply Evolves.step (ev_State_setCmd ..) | apply Evolves.ite | split | dsimp only | decide
    | rfl | intro _

theorem ev_tunnelLoss (down : Bool) (s : State) :
    Evolves 265845599156983174580761412056068917775 s (tunnelLoss down s) := by
  unfold tunnelLoss
  with_reducible repeat'
    first
    | apply Evolves.refl | apply Evolves.step (ev_linkStart ..) | apply Evolves.step (ev_State_setCmd ..)
    | apply Evolves.step (ev_raise ..) | apply Evolves.step (ev_closeSession ..) | apply Evolves.bump
    | apply Evolves.onlyIf | apply Evolves.allOf | apply Evolves.ite | split | dsimp only | decide | rfl | intro _

theorem ev_execTunnelLoss (down : Bool) (s : State) :
    OutEvolves 265845599156983174580761412056068917775 s (execTunnelLoss down s) := by
  unfold execTunnelLoss
  with_reducible repeat'
    first
    | apply Evolves.refl | apply OutEvolves.onIsland | apply Evolves.step (ev_tunnelLoss ..) | dsimp only | decide | rfl
    | intro _

theorem ev_usb4LinkUp (gen4 : Bool) (s : State) :
    Evolves 255211775190703847597530955573826161162 s (usb4LinkUp gen4 s) := by
  unfold usb4LinkUp
  with_reducible repeat'
    first
    | apply Evolves.refl | apply Evolves.step (ev_raise ..) | apply Evolves.step (ev_State_setCmd ..)
    | apply Evolves.onlyIf | apply Evolves.ite | split | dsimp only | decide | rfl | intro _

theorem ev_execUsb4LinkUp (gen4 : Bool) (s : State) :
    OutEvolves 255211775190703847597530955573826161162 s (execUsb4LinkUp gen4 s) := by
  unfold execUsb4LinkUp
  with_reducible repeat'
    first
    | apply Evolves.refl | apply OutEvolves.onIsland | apply Evolves.step (ev_usb4LinkUp ..) | dsimp only | decide | rfl
    | intro _

theorem ev_usb4LinkRefused (s : State) : Evolves 255211775190703847597530955573826161162 s (usb4LinkRefused s) := by
  unfold usb4LinkRefused
  with_reducible repeat'
    first
    | apply Evolves.refl | apply Evolves.step (ev_raise ..) | apply Evolves.step (ev_State_setCmd ..)
    | apply Evolves.ite | split | dsimp only | decide | rfl | intro _

theorem ev_execUsb4LinkRefused (s : State) :
    OutEvolves 255211775190703847597530955573826161162 s (execUsb4LinkRefused s) := by
  unfold execUsb4LinkRefused
  with_reducible repeat'
    first
    | apply Evolves.refl | apply OutEvolves.onIsland | apply Evolves.step (ev_usb4LinkRefused ..) | dsimp only | decide
    | rfl | intro _

theorem ev_usb4EnWrite (v : Nat) (s : State) : Evolves 265845599156983174580761412056068917775 s (usb4EnWrite v s) := by
  unfold usb4EnWrite
  with_reducible repeat'
    first
    | apply Evolves.refl | apply Evolves.step (ev_linkStart ..) | apply Evolves.step (ev_tunnelLoss ..)
    | apply Evolves.wr | apply Evolves.ite | split | dsimp only | decide | rfl | intro _

theorem ev_execUsb4EnWrite (v : BitVec 1) (s : State) :
    OutEvolves 265845599156983174580761412056068917775 s (execUsb4EnWrite v s) := by
  unfold execUsb4EnWrite
  with_reducible repeat'
    first
    | apply Evolves.refl | apply OutEvolves.onIsland | apply Evolves.step (ev_usb4EnWrite ..) | dsimp only | decide
    | rfl | intro _

end Sys2Proof.Machine
end

