-- ==== Sys2Proof/Laws/EvSystem.lean ====
section
/-!
SUPPORT. What the operations of Machine/System.lean may touch (Safety.lean, Evolves).
-/

namespace Sys2Proof.Machine

set_option Elab.async false
set_option linter.all false

theorem ev_State_setSys (s : State) (x : SysSt) : Evolves 17179869184 s (State.setSys s x) := by
  unfold State.setSys
  with_reducible repeat'
    first
    | apply Evolves.refl | dsimp only | decide | rfl | intro _ | apply Evolves.upd_sys

theorem ev_sysCause (bit : Nat) (d : List Nat) (s : State) :
    Evolves 255211775190703847597530955573826159114 s (sysCause bit d s) := by
  unfold sysCause
  with_reducible repeat'
    first
    | apply Evolves.refl | apply Evolves.step (ev_raise ..) | dsimp only | decide | rfl | intro _

theorem ev_mbakinSend (type : Nat) (dst : Option Nat) (redirected : Bool) (reply : Bool) (expRole : Nat) (expEpoch : Nat) (body : List Byte) (s : State) :
    Evolves 276484629047364988845086465141384417807 s (mbakinSend type dst redirected reply expRole expEpoch body s) := by
  unfold mbakinSend
  with_reducible repeat'
    first
    | apply Evolves.refl | apply Evolves.step (ev_State_setSys ..) | apply Evolves.step (ev_allocNow ..)
    | apply Evolves.step (ev_writeBuf ..) | apply Evolves.step (ev_tmuEnqueue ..)
    | apply Evolves.step (ev_freeHandle ..) | apply Evolves.step (ev_wrapperAnswer ..) | apply Evolves.bump
    | apply Evolves.allOf | apply Evolves.ite | apply Evolves.ofPair ‹_› | apply Evolves.ofTriple ‹_› | split
    | dsimp only | decide | rfl | intro _

theorem ev_heartbeatAll (s : State) : Evolves 276484629047364988845086465141652853375 s (heartbeatAll s) := by
  unfold heartbeatAll
  with_reducible repeat'
    first
    | apply Evolves.refl | apply Evolves.step (ev_passTo ..) | apply Evolves.step (ev_mbakinSend ..)
    | apply Evolves.step (ev_State_setSys ..) | apply Evolves.ite | split | dsimp only | decide | rfl | intro _

theorem ev_execMbakinHeartbeatSend (s : State) :
    OutEvolves 276484629047364988845086465141652853375 s (execMbakinHeartbeatSend s) := by
  unfold execMbakinHeartbeatSend
  with_reducible repeat'
    first
    | apply Evolves.refl | apply OutEvolves.onIsland | apply Evolves.step (ev_heartbeatAll ..) | dsimp only | decide
    | rfl | intro _

theorem ev_relaySend (s : State) : Evolves 276484629047364988845086465141384417807 s (relaySend s) := by
  unfold relaySend
  with_reducible repeat'
    first
    | apply Evolves.refl | apply Evolves.step (ev_mbakinSend ..) | apply Evolves.ite | apply Evolves.ofPair ‹_›
    | apply Evolves.ofTriple ‹_› | split | dsimp only | decide | rfl | intro _ | apply Evolves.upd_ev

theorem ev_peerLost (p : Nat) (s : State) : Evolves 255227352081279452080416547063082254971 s (peerLost p s) := by
  unfold peerLost
  with_reducible repeat'
    first
    | apply Evolves.refl | apply Evolves.step (ev_sysCause ..) | apply Evolves.step (ev_passTo ..) | apply Evolves.bump
    | apply Evolves.wrx | apply Evolves.ite | split | dsimp only | decide | rfl | intro _

theorem ev_execPeerLost (p : BitVec 10) (s : State) :
    OutEvolves 255227352081279452080416547063082254971 s (execPeerLost p s) := by
  unfold execPeerLost
  with_reducible repeat'
    first
    | apply Evolves.refl | apply OutEvolves.onIsland | apply Evolves.step (ev_peerLost ..) | dsimp only | decide | rfl
    | intro _

theorem ev_sysCtlWrite (w : Nat) (s : State) : Evolves 265850791453841709408389942552398137867 s (sysCtlWrite w s) := by
  unfold sysCtlWrite
  with_reducible repeat'
    first
    | apply Evolves.refl | apply Evolves.step (ev_sysCause ..) | apply Evolves.writeReg | apply Evolves.onlyIf
    | dsimp only | decide | rfl | intro _

theorem ev_execSysCtlWrite (w : Word) (s : State) :
    OutEvolves 265850791453841709408389942552398137867 s (execSysCtlWrite w s) := by
  unfold execSysCtlWrite
  with_reducible repeat'
    first
    | apply Evolves.refl | apply OutEvolves.onIsland | apply Evolves.step (ev_sysCtlWrite ..) | dsimp only | decide
    | rfl | intro _

theorem ev_sysKeyWrite (w : Nat) (s : State) : Evolves 5192296858534827628530513509089281 s (sysKeyWrite w s) := by
  unfold sysKeyWrite
  with_reducible repeat'
    first
    | apply Evolves.refl | apply Evolves.step (ev_State_setSys ..) | apply Evolves.stepIndex | apply Evolves.ite | split
    | dsimp only | decide | rfl | intro _

theorem ev_execSysKeyCommit (w : Word) (s : State) :
    OutEvolves 265850791453841709408389942569578007051 s (execSysKeyCommit w s) := by
  unfold execSysKeyCommit
  with_reducible repeat'
    first
    | apply Evolves.refl | apply OutEvolves.onIsland | apply Evolves.guarded | apply Evolves.step (ev_sysKeyWrite ..)
    | dsimp only | decide | rfl | intro _

theorem ev_peerRead (s : State) : Evolves 5192296858534827628530496329220097 s (peerRead s).2 := by
  unfold peerRead
  with_reducible repeat'
    first
    | apply Evolves.refl | apply Evolves.advanceIndex | apply Evolves.ite | split | dsimp only | decide | rfl | intro _

end Sys2Proof.Machine
end

