-- ==== Sys2Proof/Laws/EvAssert.lean ====
section
/-!
SUPPORT. What the operations of Machine/Assert.lean may touch (Safety.lean, Evolves).
-/

namespace Sys2Proof.Machine

set_option Elab.async false
set_option linter.all false

theorem Evolves.upd_stores {m : Nat} {s t : State} {r : Cls} {p q : Nat → Bool} (h : Evolves m s t)
    (hm : 1361129467683753853835051685653363294211 ||| m = m := by decide) :
    Evolves m s { t with mem := resetStore r p t.mem, ev := { t.ev with mem := resetStore r q t.ev.mem } } :=
  Evolves.step (m' := 1361129467683753853835051685653363294211) (t := t) ⟨fun p hp => by cases p <;> first | rfl | exact absurd hp (by decide),
    fun c => by
      simp only [State.canonical, Bool.and_eq_true] at c ⊢
      exact ⟨Store.wf_resetStore _ _ _ c.1, Store.wf_resetStore _ _ _ c.2⟩,
    Nat.le_refl _, Nat.le_refl _, fun k hk => absurd (hk.symm.trans (Words.all_bit (by decide) k.sp)) (by decide)⟩ h hm

theorem ev_loseCodeword (j : Nat) (c : Cw) (s : State) :
    Evolves 255211775190703852559705111401696854539 s (loseCodeword j c s) := by
  unfold loseCodeword
  with_reducible repeat'
    first
    | apply Evolves.refl | apply Evolves.step (ev_uncorrectable ..) | apply Evolves.step (ev_raise ..)
    | apply Evolves.step (ev_wrapperAnswer ..) | dsimp only | decide | rfl | intro _

theorem ev_loseDecoder (j : Nat) (s : State) : Evolves 255211775190703852559705111401696887307 s (loseDecoder j s) := by
  unfold loseDecoder
  with_reducible repeat'
    first
    | apply Evolves.refl | apply Evolves.step (ev_setPool ..) | apply Evolves.step (ev_leaveService ..)
    | apply Evolves.step (ev_loseCodeword ..) | apply Evolves.allOf | dsimp only | decide | rfl | intro _

theorem ev_loseFrames (d : Node) (s : State) : Evolves 10141204801825835211973629837313 s (loseFrames d s) := by
  unfold loseFrames
  with_reducible repeat'
    first
    | apply Evolves.refl | apply Evolves.step (ev_State_setNode ..) | apply Evolves.nwr | apply Evolves.foldl
    | dsimp only | decide | rfl | intro _

theorem ev_dropHandles (s : State) : Evolves 10141204801825835211974233833473 s (dropHandles s) := by
  unfold dropHandles
  with_reducible repeat'
    first
    | apply Evolves.refl | apply Evolves.step (ev_settlePort ..) | apply Evolves.step (ev_settleTree ..)
    | apply Evolves.step (ev_loseFrames ..) | apply Evolves.allOf | apply Evolves.ofPair ‹_›
    | apply Evolves.ofTriple ‹_› | split | dsimp only | decide | rfl | intro _
    | apply Evolves.upd_framing_queues_upSdus_cls

theorem ev_tmdDown (s : State) : Evolves 16384 s (tmdDown s) := by
  unfold tmdDown
  with_reducible repeat'
    first
    | apply Evolves.refl | apply Evolves.step (ev_State_setFram ..) | apply Evolves.step (ev_loseSdus ..)
    | apply Evolves.allOf | dsimp only | decide | rfl | intro _

theorem ev_dsCipherDown (u0 : State) : Evolves 16384 u0 (dsCipherDown u0) := by
  unfold dsCipherDown
  with_reducible repeat'
    first
    | apply Evolves.refl | apply Evolves.step (ev_loseSdus ..) | apply Evolves.allOf | dsimp only | decide | rfl
    | intro _

theorem ev_usCipherDown (checks : List TagCheck) (s : State) :
    Evolves 255211776141441797768703006696961757707 s (usCipherDown checks s) := by
  unfold usCipherDown
  with_reducible repeat'
    first
    | apply Evolves.refl | apply Evolves.step (ev_freeSdu ..) | apply Evolves.step (ev_State_setFram ..)
    | apply Evolves.step (ev_dropSdu ..) | apply Evolves.step (ev_stompSdu ..) | apply Evolves.allOf | dsimp only
    | decide | rfl | intro _

theorem ev_cipherDown (i : Nat) (checks : List TagCheck) (u2 : State) :
    Evolves 255211776141441797768703006696961757707 u2 (cipherDown i checks u2) := by
  unfold cipherDown
  with_reducible repeat'
    first
    | apply Evolves.refl | apply Evolves.step (ev_dsCipherDown ..) | apply Evolves.step (ev_usCipherDown ..)
    | apply Evolves.ite | split | dsimp only | decide | rfl | intro _

theorem ev_clearHidden (r : Cls) (i : Nat) (s : State) :
    Evolves 265849504471569832697557717034117102095 s (clearHidden r i s) := by
  unfold clearHidden
  with_reducible repeat'
    first
    | apply Evolves.refl | apply Evolves.step (ev_cutFrame ..) | apply Evolves.step (ev_State_setLane ..)
    | apply Evolves.step (ev_State_setNetPort ..) | apply Evolves.step (ev_partnerLinkDown ..)
    | apply Evolves.step (ev_tunnelLoss ..) | apply Evolves.step (ev_loseDecoder ..)
    | apply Evolves.step (ev_setPool ..) | apply Evolves.step (ev_tmdDown ..) | apply Evolves.step (ev_dropHandles ..)
    | apply Evolves.step (ev_cipherDown ..) | apply Evolves.step (ev_State_setCph ..) | apply Evolves.wr
    | apply Evolves.bumpBy | apply Evolves.onlyIf | (simp only [wordMask_at]; decide) | apply Evolves.ite | split
    | dsimp only | decide | rfl | intro _ | apply Evolves.upd_txts | apply Evolves.upd_lanes_framing_pool_act_terms
    | apply Evolves.upd_grt_clusters_threads | apply Evolves.upd_encoders | apply Evolves.upd_upSdus_cls_merge
    | apply Evolves.upd_queues | apply Evolves.upd_ev_bpm_merge | apply Evolves.upd_crl | apply Evolves.upd_ohp
    | apply Evolves.upd_ev_sess_pmu_cmd_bpm_lpm_sys | apply Evolves.upd_pair

theorem ev_laneStops (i : Nat) (s : State) : Evolves 255212437855055116904450587979725935115 s (laneStops i s) := by
  unfold laneStops
  with_reducible repeat'
    first
    | apply Evolves.refl | apply Evolves.step (ev_netLaneReset ..) | apply Evolves.ite | split | dsimp only | decide
    | rfl | intro _

theorem ev_assertReset (r : Cls) (is : List Nat) (s : State) :
    Evolves 1361129467683753853835051685687723031311 s (assertReset r is s) := by
  unfold assertReset
  with_reducible repeat'
    first
    | apply Evolves.refl | apply Evolves.step (ev_laneStops ..) | apply Evolves.step (ev_reclaimStart ..)
    | apply Evolves.step (ev_State_setIsland ..) | apply Evolves.step (ev_clearHidden ..) | apply Evolves.wr
    | apply Evolves.onlyIf | apply Evolves.allOf | apply Evolves.ite | split | dsimp only | decide | rfl | intro _
    | apply Evolves.upd_stores

end Sys2Proof.Machine
end

