-- ==== Sys2Proof/Laws/EvAddressMap.lean ====
section
/-!
SUPPORT. What the operations of Machine/AddressMap.lean may touch (Safety.lean, Evolves).
-/

namespace Sys2Proof.Machine

set_option Elab.async false
set_option linter.all false

theorem ev_unmapped (ofs : Nat) (v : Nat) (s : State) :
    Evolves 265845599156983174580761412056068917771 s (unmapped ofs v s) := by
  unfold unmapped
  with_reducible repeat'
    first
    | apply Evolves.refl | apply Evolves.step (ev_setVerdict ..) | apply Evolves.step (ev_accessCause ..)
    | apply Evolves.wr | apply Evolves.bump | dsimp only | decide | rfl | intro _

end Sys2Proof.Machine
end

