-- ==== Sys2Proof/Laws/EvReset.lean ====
section
/-!
SUPPORT. What the operations of Machine/Reset.lean may touch (Safety.lean, Evolves).
-/

namespace Sys2Proof.Machine

set_option Elab.async false
set_option linter.all false

theorem ev_State_setRst (s : State) (x : RstCtl) : Evolves 1024 s (State.setRst s x) := by
  unfold State.setRst
  with_reducible repeat'
    first
    | apply Evolves.refl | dsimp only | decide | rfl | intro _ | apply Evolves.upd_rst

theorem ev_rstCause (bit : Nat) (d : List Nat) (s : State) :
    Evolves 255211775190703847597530955573826159114 s (rstCause bit d s) := by
  unfold rstCause
  with_reducible repeat'
    first
    | apply Evolves.refl | apply Evolves.step (ev_raise ..) | dsimp only | decide | rfl | intro _

theorem ev_sendPending (s : State) : Evolves 255211775190703847597530955573826159114 s (sendPending s) := by
  unfold sendPending
  with_reducible repeat'
    first
    | apply Evolves.refl | apply Evolves.step (ev_raiseAt ..) | apply Evolves.allOf | apply Evolves.ite | split
    | dsimp only | decide | rfl | intro _ | apply Evolves.upd_ev

theorem ev_waitRefclk (s : State) : Evolves 1024 s (waitRefclk s) := by
  unfold waitRefclk
  with_reducible repeat'
    first
    | apply Evolves.refl | apply Evolves.step (ev_State_setRst ..) | apply Evolves.ite | split | dsimp only | decide
    | rfl | intro _

theorem ev_phaseAdvance (n : Nat) (s : State) :
    Evolves 255211775190703847597530955573826160138 s (phaseAdvance n s) := by
  induction n generalizing s with
  | zero =>
    unfold phaseAdvance
    with_reducible repeat'
      first
      | apply Evolves.refl | apply Evolves.step (ev_State_setRst ..) | apply Evolves.step (ev_rstCause ..)
      | apply Evolves.step (ev_waitRefclk ..) | apply Evolves.ite | apply Evolves.ofPair ‹_› | apply Evolves.ofTriple ‹_›
      | split | dsimp only | decide | rfl | intro _
  | succ n ih =>
    unfold phaseAdvance
    with_reducible repeat'
      first
      | apply Evolves.step (ih ..) | apply Evolves.refl | apply Evolves.step (ev_State_setRst ..)
      | apply Evolves.step (ev_rstCause ..) | apply Evolves.step (ev_waitRefclk ..) | apply Evolves.ite
      | apply Evolves.ofPair ‹_› | apply Evolves.ofTriple ‹_› | split | dsimp only | decide | rfl | intro _

theorem ev_nextPhase (s : State) : Evolves 255211775190703847597530955573826160138 s (nextPhase s) := by
  unfold nextPhase
  with_reducible repeat'
    first
    | apply Evolves.refl | apply Evolves.step (ev_phaseAdvance ..) | dsimp only | decide | rfl | intro _

theorem ev_afterRelease (i : Nat) (s : State) :
    Evolves 265846978360836279599641523053128068715 s (afterRelease i s) := by
  unfold afterRelease
  with_reducible repeat'
    first
    | apply Evolves.refl | apply Evolves.step (ev_startExit ..) | apply Evolves.step (ev_linkStart ..)
    | apply Evolves.step (ev_State_setPipe ..) | apply Evolves.step (ev_replaceCells ..)
    | apply Evolves.step (ev_coldHoldBegin ..) | apply Evolves.step (ev_timRelease ..)
    | apply Evolves.step (ev_State_setRst ..) | apply Evolves.step (ev_rstCause ..)
    | apply Evolves.step (ev_sendPending ..) | apply Evolves.wr | apply Evolves.onlyIf | apply Evolves.ite
    | apply Evolves.ofPair ‹_› | apply Evolves.ofTriple ‹_› | split | dsimp only | decide | rfl | intro _

theorem ev_islandRelease (i : Nat) (f : Nat) (s : State) :
    Evolves 265846978360836279599641523087487807339 s (islandRelease i f s) := by
  unfold islandRelease
  with_reducible repeat'
    first
    | apply Evolves.refl | apply Evolves.step (ev_State_setIsland ..) | apply Evolves.step (ev_nextPhase ..)
    | apply Evolves.step (ev_rstCause ..) | apply Evolves.step (ev_afterRelease ..) | apply Evolves.onlyIf
    | apply Evolves.ite | split | dsimp only | decide | rfl | intro _ | apply Evolves.upd_nvm

theorem ev_execIslandRelease (i : Fin 226) (f : BitVec 16) (s : State) :
    OutEvolves 265846978360836279599641523087487807339 s (execIslandRelease i f s) := by
  unfold execIslandRelease
  with_reducible repeat'
    first
    | apply Evolves.refl | apply OutEvolves.next | apply Evolves.step (ev_islandRelease ..) | dsimp only | decide | rfl
    | intro _

theorem ev_phaseStall (i : Nat) (s : State) : Evolves 255232544378137986908045077559411476347 s (phaseStall i s) := by
  unfold phaseStall
  with_reducible repeat'
    first
    | apply Evolves.refl | apply Evolves.step (ev_passTo ..) | apply Evolves.step (ev_nextPhase ..)
    | apply Evolves.step (ev_rstCause ..) | apply Evolves.step (ev_State_setIsland ..) | apply Evolves.bump
    | apply Evolves.ite | apply Evolves.ofPair ‹_› | apply Evolves.ofTriple ‹_› | split | dsimp only | decide | rfl
    | intro _

theorem ev_execPhaseStall (i : Fin 226) (s : State) :
    OutEvolves 255232544378137986908045077559411476347 s (execPhaseStall i s) := by
  unfold execPhaseStall
  with_reducible repeat'
    first
    | apply Evolves.refl | apply OutEvolves.onIsland | apply Evolves.step (ev_phaseStall ..) | dsimp only | decide | rfl
    | intro _

theorem ev_nvmBlockReset (s : State) : Evolves 2658455991569831745807614154920427649 s (nvmBlockReset s) := by
  unfold nvmBlockReset
  with_reducible repeat'
    first
    | apply Evolves.refl | apply Evolves.step (ev_otpCut ..) | apply Evolves.ite | apply Evolves.ofPair ‹_›
    | apply Evolves.ofTriple ‹_› | split | dsimp only | decide | rfl | intro _ | apply Evolves.upd_nvm

theorem ev_enterBlock (i : Nat) (s : State) : Evolves 1361129467683753853835051685722082769807 s (enterBlock i s) := by
  unfold enterBlock
  with_reducible repeat'
    first
    | apply Evolves.refl | apply Evolves.step (ev_assertReset ..) | apply Evolves.step (ev_nvmBlockReset ..)
    | apply Evolves.onlyIf | apply Evolves.ite | apply Evolves.ofPair ‹_› | apply Evolves.ofTriple ‹_› | split
    | dsimp only | decide | rfl | intro _ | apply Evolves.upd_nvm

theorem ev_blockCommand (i : Nat) (s : State) :
    Evolves 1361129467683753853835051685722082769807 s (blockCommand i s) := by
  unfold blockCommand
  with_reducible repeat'
    first
    | apply Evolves.refl | apply Evolves.step (ev_rstCause ..) | apply Evolves.step (ev_enterBlock ..)
    | apply Evolves.step (ev_State_setIsland ..) | apply Evolves.bump | apply Evolves.onlyIf | apply Evolves.ite | split
    | dsimp only | decide | rfl | intro _

theorem ev_relapse (i : Nat) (s : State) : Evolves 1361129467683753853835051685722082769807 s (relapse i s) := by
  unfold relapse
  with_reducible repeat'
    first
    | apply Evolves.refl | apply Evolves.step (ev_rstCause ..) | apply Evolves.step (ev_enterBlock ..)
    | apply Evolves.step (ev_State_setIsland ..) | apply Evolves.bump | apply Evolves.ite | split | dsimp only | decide
    | rfl | intro _

theorem ev_txPllLost (n : Nat) (s : State) : Evolves 255211775190703847597530955582416093706 s (txPllLost n s) := by
  unfold txPllLost
  with_reducible repeat'
    first
    | apply Evolves.refl | apply Evolves.step (ev_raise ..) | dsimp only | decide | rfl | intro _
    | apply Evolves.upd_pair

theorem ev_clockGoodDrop (i : Nat) (pll : Bool) (f : Nat) (s : State) :
    Evolves 1361129467683753853835051685722082769807 s (clockGoodDrop i pll f s) := by
  unfold clockGoodDrop
  with_reducible repeat'
    first
    | apply Evolves.refl | apply Evolves.step (ev_relapse ..) | apply Evolves.step (ev_txPllLost ..)
    | apply Evolves.step (ev_State_setIsland ..) | apply Evolves.bump | apply Evolves.onlyIf | apply Evolves.ite | split
    | dsimp only | decide | rfl | intro _

theorem ev_execClockGoodDrop (i : Fin 226) (pll : Bool) (f : BitVec 16) (s : State) :
    OutEvolves 1361129467683753853835051685722082769807 s (execClockGoodDrop i pll f s) := by
  unfold execClockGoodDrop
  with_reducible repeat'
    first
    | apply Evolves.refl | apply OutEvolves.next | apply Evolves.step (ev_clockGoodDrop ..) | apply Evolves.ite | split
    | dsimp only | decide | rfl | intro _

theorem ev_txPllUnlock (n : Nat) (s : State) :
    Evolves 1361129467683753853835051685722082769807 s (txPllUnlock n s) := by
  unfold txPllUnlock
  with_reducible repeat'
    first
    | apply Evolves.refl | apply Evolves.step (ev_clockGoodDrop ..) | apply Evolves.ite | split | dsimp only | decide
    | rfl | intro _

theorem ev_execTxPllUnlock (n : Fin 48) (s : State) :
    OutEvolves 1361129467683753853835051685722082769807 s (execTxPllUnlock n s) := by
  unfold execTxPllUnlock
  with_reducible repeat'
    first
    | apply Evolves.refl | apply OutEvolves.next | apply Evolves.step (ev_txPllUnlock ..) | dsimp only | decide | rfl
    | intro _

theorem ev_coldReset (last : Nat) (on_ : Bool) (s : State) : Evolves 1361129467683753853835051685722082770415 s (coldReset last on_ s) := by
  refine Evolves.trans ((ev_otpCut s).mono (by decide)) ?_
  unfold coldReset
  refine ⟨fun p hp => by cases p <;> first | rfl | exact absurd hp (by decide), fun c => ?_, Nat.le_refl _, Nat.le_refl _,
    fun k hk => absurd (hk.symm.trans (Words.all_bit (by decide) k.sp)) (by decide)⟩
  simp only [State.canonical, Bool.and_eq_true] at c ⊢
  exact ⟨Store.wf_filter _ _ c.1, rfl⟩

theorem ev_nvmRestart (full : Bool) (s : State) :
    Evolves 2658455991569831745807614154920427649 s (nvmRestart full s) := by
  unfold nvmRestart
  with_reducible repeat'
    first
    | apply Evolves.refl | apply Evolves.step (ev_otpCut ..) | dsimp only | decide | rfl | intro _
    | apply Evolves.upd_nvm

theorem ev_forgetRelapses (is : List Nat) (s : State) : Evolves 256 s (forgetRelapses is s) := by
  unfold forgetRelapses
  with_reducible repeat'
    first
    | apply Evolves.refl | apply Evolves.step (ev_State_setIsland ..) | apply Evolves.allOf | dsimp only | decide | rfl
    | intro _

theorem ev_warmReset (last : Nat) (s : State) :
    Evolves 1361129467683753853835051685722082770831 s (warmReset last s) := by
  unfold warmReset
  with_reducible repeat'
    first
    | apply Evolves.refl | apply Evolves.step (ev_nvmRestart ..) | apply Evolves.step (ev_forgetRelapses ..)
    | apply Evolves.step (ev_assertReset ..) | apply Evolves.step (ev_giveUp ..)
    | apply Evolves.step (ev_refreshReady ..) | apply Evolves.step (ev_State_setRst ..)
    | apply Evolves.step (ev_nextPhase ..) | apply Evolves.step (ev_waitRefclk ..) | apply Evolves.bump
    | apply Evolves.wr | apply Evolves.onlyIf | dsimp only | decide | rfl | intro _ | apply Evolves.upd_pair

theorem ev_sentinelKept (r : RstCtl) (s : State) : Evolves 268436482 s (sentinelKept r s) := by
  unfold sentinelKept
  with_reducible repeat'
    first
    | apply Evolves.refl | dsimp only | decide | rfl | intro _ | apply Evolves.upd_ev_rst_tim

theorem ev_sentinelReset (s : State) : Evolves 1361129467683753853835051685722082770831 s (sentinelReset s) := by
  unfold sentinelReset
  with_reducible repeat'
    first
    | apply Evolves.refl | apply Evolves.step (ev_nvmRestart ..) | apply Evolves.step (ev_forgetRelapses ..)
    | apply Evolves.step (ev_assertReset ..) | apply Evolves.step (ev_State_setIsland ..)
    | apply Evolves.step (ev_rstCause ..) | apply Evolves.step (ev_sentinelKept ..) | apply Evolves.allOf | dsimp only
    | decide | rfl | intro _

theorem ev_setFeed (f : Nat) (v : Bool) (s : State) : Evolves 1024 s (setFeed f v s) := by
  unfold setFeed
  with_reducible repeat'
    first
    | apply Evolves.refl | apply Evolves.step (ev_State_setRst ..) | apply Evolves.ite | split | dsimp only | decide
    | rfl | intro _

theorem ev_powerOn (a : Bool) (b : Bool) (s : State) :
    Evolves 1361129467683753853835051685722082770415 s (powerOn a b s) := by
  unfold powerOn
  with_reducible repeat'
    first
    | apply Evolves.refl | apply Evolves.step (ev_coldReset ..) | apply Evolves.step (ev_State_setRst ..)
    | apply Evolves.ite | split | dsimp only | decide | rfl | intro _

theorem ev_execPowerOn (a : Bool) (b : Bool) (s : State) :
    OutEvolves 1361129467683753853835051685722082770415 s (execPowerOn a b s) := by
  unfold execPowerOn
  with_reducible repeat'
    first
    | apply Evolves.refl | apply OutEvolves.next | apply Evolves.step (ev_powerOn ..) | dsimp only | decide | rfl
    | intro _

theorem ev_feedLoss (f : Nat) (s : State) : Evolves 1361129467683753853835051685722082770831 s (feedLoss f s) := by
  unfold feedLoss
  with_reducible repeat'
    first
    | apply Evolves.refl | apply Evolves.step (ev_setFeed ..) | apply Evolves.step (ev_raise ..)
    | apply Evolves.step (ev_sentinelReset ..) | apply Evolves.ite | split | dsimp only | decide | rfl | intro _

theorem ev_execSentinelFeedLoss (f : Fin 2) (s : State) :
    OutEvolves 1361129467683753853835051685722082770831 s (execSentinelFeedLoss f s) := by
  unfold execSentinelFeedLoss
  with_reducible repeat'
    first
    | apply Evolves.refl | apply OutEvolves.next | apply Evolves.step (ev_feedLoss ..) | dsimp only | decide | rfl
    | intro _

theorem ev_feedReturn (f : Nat) (s : State) : Evolves 255232544378137986908045077559143040523 s (feedReturn f s) := by
  unfold feedReturn
  with_reducible repeat'
    first
    | apply Evolves.refl | apply Evolves.step (ev_raise ..) | apply Evolves.step (ev_setFeed ..)
    | apply Evolves.step (ev_State_setRst ..) | apply Evolves.bump | apply Evolves.ite | split | dsimp only | decide
    | rfl | intro _

theorem ev_execSentinelFeedReturn (f : Fin 2) (s : State) :
    OutEvolves 255232544378137986908045077559143040523 s (execSentinelFeedReturn f s) := by
  unfold execSentinelFeedReturn
  with_reducible repeat'
    first
    | apply Evolves.refl | apply OutEvolves.next | apply Evolves.step (ev_feedReturn ..) | dsimp only | decide | rfl
    | intro _

theorem ev_coreLoss (s : State) : Evolves 1361129467683753853835051685687723032463 s (coreLoss s) := by
  unfold coreLoss
  with_reducible repeat'
    first
    | apply Evolves.refl | apply Evolves.step (ev_State_setRst ..) | apply Evolves.step (ev_forgetRelapses ..)
    | apply Evolves.step (ev_assertReset ..) | apply Evolves.step (ev_giveUp ..) | apply Evolves.step (ev_raise ..)
    | apply Evolves.step (ev_State_setIsland ..) | apply Evolves.allOf | apply Evolves.ite | split | dsimp only | decide
    | rfl | intro _

theorem ev_execCoreFeedLoss (s : State) :
    OutEvolves 1361129467683753853835051685687723032463 s (execCoreFeedLoss s) := by
  unfold execCoreFeedLoss
  with_reducible repeat'
    first
    | apply Evolves.refl | apply OutEvolves.next | apply Evolves.step (ev_coreLoss ..) | dsimp only | decide | rfl
    | intro _

theorem ev_coreReturn (s : State) : Evolves 1361129467683753853835051685722082770831 s (coreReturn s) := by
  unfold coreReturn
  with_reducible repeat'
    first
    | apply Evolves.refl | apply Evolves.step (ev_State_setRst ..) | apply Evolves.step (ev_warmReset ..)
    | apply Evolves.step (ev_nextPhase ..) | apply Evolves.ite | split | dsimp only | decide | rfl | intro _

theorem ev_execCoreFeedReturn (s : State) :
    OutEvolves 1361129467683753853835051685722082770831 s (execCoreFeedReturn s) := by
  unfold execCoreFeedReturn
  with_reducible repeat'
    first
    | apply Evolves.refl | apply OutEvolves.next | apply Evolves.step (ev_coreReturn ..) | dsimp only | decide | rfl
    | intro _

theorem ev_execCoreFeedRangeChange (out : Bool) (s : State) : OutEvolves 1024 s (execCoreFeedRangeChange out s) := by
  unfold execCoreFeedRangeChange
  with_reducible repeat'
    first
    | apply Evolves.refl | apply OutEvolves.next | apply Evolves.step (ev_State_setRst ..) | dsimp only | decide | rfl
    | intro _

theorem ev_resetNPulse (width : Nat) (taken : Bool) (s : State) :
    Evolves 1361129467683753853835051685722082770943 s (resetNPulse width taken s) := by
  unfold resetNPulse
  with_reducible repeat'
    first
    | apply Evolves.refl | apply Evolves.step (ev_pass ..) | apply Evolves.step (ev_coldReset ..)
    | apply Evolves.step (ev_rstCause ..) | apply Evolves.bump | apply Evolves.onlyIf | apply Evolves.ite | split
    | dsimp only | decide | rfl | intro _

theorem ev_execResetNPulse (width : Nat) (taken : Bool) (s : State) :
    OutEvolves 1361129467683753853835051685722082770943 s (execResetNPulse width taken s) := by
  unfold execResetNPulse
  with_reducible repeat'
    first
    | apply Evolves.refl | apply OutEvolves.next | apply Evolves.step (ev_resetNPulse ..) | dsimp only | decide | rfl
    | intro _

theorem ev_refclkCheck (ok : Bool) (s : State) :
    Evolves 255213073264918481304438088198176900619 s (refclkCheck ok s) := by
  unfold refclkCheck
  with_reducible repeat'
    first
    | apply Evolves.refl | apply Evolves.step (ev_State_setRst ..) | apply Evolves.step (ev_timRefclk ..)
    | apply Evolves.step (ev_waitRefclk ..) | apply Evolves.ite | split | dsimp only | decide | rfl | intro _

theorem ev_execRefclkCheck (ok : Bool) (s : State) :
    OutEvolves 255213073264918481304438088198176900619 s (execRefclkCheck ok s) := by
  unfold execRefclkCheck
  with_reducible repeat'
    first
    | apply Evolves.refl | apply OutEvolves.next | apply Evolves.step (ev_refclkCheck ..) | dsimp only | decide | rfl
    | intro _

theorem ev_rstDone (err : Nat) (s : State) : Evolves 20769187434139310514121985316880385 s (rstDone err s) := by
  unfold rstDone
  with_reducible repeat'
    first
    | apply Evolves.refl | apply Evolves.wr | apply Evolves.ite | split | dsimp only | decide | rfl | intro _

theorem ev_rstRefuse (err : Nat) (s : State) : Evolves 255232544378137986908045077559143041547 s (rstRefuse err s) := by
  unfold rstRefuse
  with_reducible repeat'
    first
    | apply Evolves.refl | apply Evolves.step (ev_refuseCode ..) | apply Evolves.step (ev_rstCause ..)
    | apply Evolves.step (ev_rstDone ..) | dsimp only | decide | rfl | intro _

theorem ev_rstOperate (op : Nat) (i : Nat) (s : State) :
    Evolves 1361129467683753853835051685722082770927 s (rstOperate op i s) := by
  unfold rstOperate
  with_reducible repeat'
    first
    | apply Evolves.refl | apply Evolves.step (ev_encReject ..) | apply Evolves.step (ev_warmReset ..)
    | apply Evolves.step (ev_rstDone ..) | apply Evolves.step (ev_coldReset ..) | apply Evolves.step (ev_rstRefuse ..)
    | apply Evolves.step (ev_State_setRst ..) | apply Evolves.step (ev_blockCommand ..)
    | apply Evolves.step (ev_State_setIsland ..) | apply Evolves.wr | apply Evolves.ite | split | dsimp only | decide
    | rfl | intro _

theorem ev_startDue (s : State) : Evolves 1361129467683753853835051685722082770831 s (startDue s) := by
  unfold startDue
  with_reducible repeat'
    first
    | apply Evolves.refl | apply Evolves.step (ev_blockCommand ..) | apply Evolves.step (ev_State_setRst ..)
    | apply Evolves.ofPair ‹_› | apply Evolves.ofTriple ‹_› | split | dsimp only | decide | rfl | intro _

theorem ev_rstCmdWrite (w : Nat) (s : State) :
    Evolves 1361129467683753853835051685722082770927 s (rstCmdWrite w s) := by
  unfold rstCmdWrite
  with_reducible repeat'
    first
    | apply Evolves.refl | apply Evolves.step (ev_rstOperate ..) | apply Evolves.step (ev_encReject ..)
    | apply Evolves.wr | apply Evolves.ite | split | dsimp only | decide | rfl | intro _

theorem ev_rstCommand (op : Nat) (i : Nat) (s : State) :
    OutEvolves 1361129467683753853835051685722082770927 s (rstCommand op i s) := by
  unfold rstCommand
  with_reducible repeat'
    first
    | apply Evolves.refl | apply OutEvolves.onIsland | apply Evolves.step (ev_startDue ..) | apply Evolves.guarded
    | apply Evolves.step (ev_rstOperate ..) | dsimp only | decide | rfl | intro _

theorem ev_execRstWarm (s : State) : OutEvolves 1361129467683753853835051685722082770927 s (execRstWarm s) := by
  unfold execRstWarm
  with_reducible repeat'
    first
    | apply Evolves.refl | apply OutEvolves.next | apply OutEvolves.step (ev_rstCommand ..) | dsimp only | decide | rfl
    | intro _

theorem ev_execRstBlock (i : BitVec 8) (s : State) :
    OutEvolves 1361129467683753853835051685722082770927 s (execRstBlock i s) := by
  unfold execRstBlock
  with_reducible repeat'
    first
    | apply Evolves.refl | apply OutEvolves.next | apply OutEvolves.step (ev_rstCommand ..) | dsimp only | decide | rfl
    | intro _

theorem ev_execRstReleaseHeld (i : BitVec 8) (s : State) :
    OutEvolves 1361129467683753853835051685722082770927 s (execRstReleaseHeld i s) := by
  unfold execRstReleaseHeld
  with_reducible repeat'
    first
    | apply Evolves.refl | apply OutEvolves.next | apply OutEvolves.step (ev_rstCommand ..) | dsimp only | decide | rfl
    | intro _

theorem ev_execRstCold (s : State) : OutEvolves 1361129467683753853835051685722082770927 s (execRstCold s) := by
  unfold execRstCold
  with_reducible repeat'
    first
    | apply Evolves.refl | apply OutEvolves.next | apply OutEvolves.step (ev_rstCommand ..) | dsimp only | decide | rfl
    | intro _

theorem ev_latchFuses (s : State) : Evolves 255211775190703847597530955573826160138 s (latchFuses s) := by
  unfold latchFuses
  with_reducible repeat'
    first
    | apply Evolves.refl | apply Evolves.step (ev_nextPhase ..) | apply Evolves.step (ev_rstCause ..)
    | apply Evolves.step (ev_State_setRst ..) | apply Evolves.allOf | apply Evolves.ite | split | dsimp only | decide
    | rfl | intro _

theorem ev_execFuseMapLatch (s : State) :
    OutEvolves 255211775190703847597530955573826160138 s (execFuseMapLatch s) := by
  unfold execFuseMapLatch
  with_reducible repeat'
    first
    | apply Evolves.refl | apply OutEvolves.onIsland | apply Evolves.step (ev_latchFuses ..) | apply Evolves.ite | split
    | dsimp only | decide | rfl | intro _

theorem ev_execIoRailLoss (s : State) : OutEvolves 1024 s (execIoRailLoss s) := by
  unfold execIoRailLoss
  with_reducible repeat'
    first
    | apply Evolves.refl | apply OutEvolves.next | apply Evolves.step (ev_State_setRst ..) | dsimp only | decide | rfl
    | intro _

theorem ev_execIoRailReturn (s : State) :
    OutEvolves 255211775190703847597530955573826160138 s (execIoRailReturn s) := by
  unfold execIoRailReturn
  with_reducible repeat'
    first
    | apply Evolves.refl | apply OutEvolves.next | apply Evolves.step (ev_State_setRst ..)
    | apply Evolves.step (ev_latchFuses ..) | apply Evolves.ite | split | dsimp only | decide | rfl | intro _

theorem ev_pinOvrWrite (w : Nat) (s : State) : Evolves 265866368344417313891275534041385799179 s (pinOvrWrite w s) := by
  unfold pinOvrWrite
  with_reducible repeat'
    first
    | apply Evolves.refl | apply Evolves.step (ev_encReject ..) | apply Evolves.step (ev_setVerdict ..)
    | apply Evolves.step (ev_rstCause ..) | apply Evolves.step (ev_State_setRst ..) | apply Evolves.wr
    | apply Evolves.ite | split | dsimp only | decide | rfl | intro _

theorem ev_execPinOverride (w : Word) (s : State) :
    OutEvolves 265866368344417313891275534041385799179 s (execPinOverride w s) := by
  unfold execPinOverride
  with_reducible repeat'
    first
    | apply Evolves.refl | apply OutEvolves.onIsland | apply Evolves.guarded | apply Evolves.step (ev_pinOvrWrite ..)
    | dsimp only | decide | rfl | intro _

theorem ev_thermal (bit : Nat) (x : Nat × Int) (u2 : State) :
    Evolves 255211775190703847597530955573826159114 u2 (thermal bit x u2) := by
  unfold thermal
  with_reducible repeat'
    first
    | apply Evolves.refl | apply Evolves.step (ev_raise ..) | dsimp only | decide | rfl | intro _

theorem ev_thermalSample (t : List Int) (s : State) :
    Evolves 255211775190703847597530955573826160138 s (thermalSample t s) := by
  unfold thermalSample
  with_reducible repeat'
    first
    | apply Evolves.refl | apply Evolves.step (ev_thermal ..) | apply Evolves.step (ev_State_setRst ..)
    | apply Evolves.onlyIf | apply Evolves.allOf | apply Evolves.ite | apply Evolves.ofPair ‹_›
    | apply Evolves.ofTriple ‹_› | split | dsimp only | decide | rfl | intro _

theorem ev_execThermalSample (t : List Int) (s : State) :
    OutEvolves 255211775190703847597530955573826160138 s (execThermalSample t s) := by
  unfold execThermalSample
  with_reducible repeat'
    first
    | apply Evolves.refl | apply OutEvolves.onIsland | apply Evolves.step (ev_thermalSample ..) | dsimp only | decide
    | rfl | intro _

theorem ev_thermalTrip (s : State) : Evolves 255214371339133417242800124487877658251 s (thermalTrip s) := by
  unfold thermalTrip
  with_reducible repeat'
    first
    | apply Evolves.refl | apply Evolves.step (ev_State_setRst ..) | apply Evolves.step (ev_giveUp ..)
    | apply Evolves.ite | split | dsimp only | decide | rfl | intro _ | apply Evolves.upd_ev

theorem ev_execThermalTrip (s : State) : OutEvolves 255214371339133417242800124487877658251 s (execThermalTrip s) := by
  unfold execThermalTrip
  with_reducible repeat'
    first
    | apply Evolves.refl | apply OutEvolves.next | apply Evolves.step (ev_thermalTrip ..) | apply Evolves.ite | split
    | dsimp only | decide | rfl | intro _

end Sys2Proof.Machine
end

