-- ==== Sys2Proof/Laws/EvNvm.lean ====
section
/-!
SUPPORT. What the operations of Machine/Nvm.lean may touch (Safety.lean, Evolves).
-/

namespace Sys2Proof.Machine

set_option Elab.async false
set_option linter.all false

theorem ev_State_setNvm (s : State) (x : NvmSt) : Evolves 34359738368 s (State.setNvm s x) := by
  unfold State.setNvm
  with_reducible repeat'
    first
    | apply Evolves.refl | dsimp only | decide | rfl | intro _ | apply Evolves.upd_nvm

theorem ev_nvmCause (bit : Nat) (d : List Nat) (s : State) :
    Evolves 255211775190703847597530955573826159114 s (nvmCause bit d s) := by
  unfold nvmCause
  with_reducible repeat'
    first
    | apply Evolves.refl | apply Evolves.step (ev_raise ..) | dsimp only | decide | rfl | intro _

theorem ev_setResult (slot : Nat) (r : Nat) (s : State) : Evolves 34359738368 s (setResult slot r s) := by
  unfold setResult
  with_reducible repeat'
    first
    | apply Evolves.refl | apply Evolves.step (ev_State_setNvm ..) | apply Evolves.ite | split | dsimp only | decide
    | rfl | intro _

theorem ev_nvmStatus (go : Nat) (err : Nat) (s : State) :
    Evolves 83076749736557242056487941267521537 s (nvmStatus go err s) := by
  unfold nvmStatus
  with_reducible repeat'
    first
    | apply Evolves.refl | apply Evolves.wr | apply Evolves.ite | split | dsimp only | decide | rfl | intro _

theorem ev_checkBegin (order : List Nat) (boot : Bool) (s : State) :
    Evolves 34359738368 s (checkBegin order boot s) := by
  unfold checkBegin
  with_reducible repeat'
    first
    | apply Evolves.refl | apply Evolves.step (ev_State_setNvm ..) | dsimp only | decide | rfl | intro _

theorem ev_flashBegin (f : FlashOp) (s : State) :
    Evolves 255294851940440404839587443549453421067 s (flashBegin f s) := by
  unfold flashBegin
  with_reducible repeat'
    first
    | apply Evolves.refl | apply Evolves.step (ev_nvmStatus ..) | apply Evolves.step (ev_State_setNvm ..)
    | apply Evolves.step (ev_checkBegin ..) | apply Evolves.step (ev_refuseCode ..)
    | apply Evolves.step (ev_nvmCause ..) | apply Evolves.ite | split | dsimp only | decide | rfl | intro _

theorem ev_flashEnd (err : Nat) (s : State) : Evolves 255294851940440404839587443549453421067 s (flashEnd err s) := by
  unfold flashEnd
  with_reducible repeat'
    first
    | apply Evolves.refl | apply Evolves.step (ev_nvmStatus ..) | apply Evolves.step (ev_State_setNvm ..)
    | apply Evolves.step (ev_flashBegin ..) | apply Evolves.ofPair ‹_› | apply Evolves.ofTriple ‹_› | split | dsimp only
    | decide | rfl | intro _

theorem ev_nvmOperate (go : Bool) (op : Nat) (slot : Nat) (len : Nat) (s : State) :
    Evolves 265928675906719731822817900031696177675 s (nvmOperate go op slot len s) := by
  unfold nvmOperate
  with_reducible repeat'
    first
    | apply Evolves.refl | apply Evolves.step (ev_flashBegin ..) | apply Evolves.step (ev_State_setNvm ..)
    | apply Evolves.step (ev_goBusy ..) | apply Evolves.wr | apply Evolves.ite | apply Evolves.ofPair ‹_›
    | apply Evolves.ofTriple ‹_› | split | dsimp only | decide | rfl | intro _

theorem ev_nvmCmdWrite (w : Nat) (s : State) : Evolves 265928675906719731822817900031696177675 s (nvmCmdWrite w s) := by
  unfold nvmCmdWrite
  with_reducible repeat'
    first
    | apply Evolves.refl | apply Evolves.step (ev_encReject ..) | apply Evolves.step (ev_nvmOperate ..)
    | apply Evolves.ite | split | dsimp only | decide | rfl | intro _

theorem ev_nvmCommand (op : Nat) (slot : Nat) (len : Nat) (s : State) :
    OutEvolves 265928675906719731822817900031696177675 s (nvmCommand op slot len s) := by
  unfold nvmCommand
  with_reducible repeat'
    first
    | apply Evolves.refl | apply OutEvolves.onIsland | apply Evolves.guarded | apply Evolves.step (ev_nvmOperate ..)
    | dsimp only | decide | rfl | intro _

theorem OutEvolves.nvmAt {m : Nat} {s t : State} {addr : Nat} {f : State → Host.Outcome State Fault Refusal}
    (hf : ∀ x, OutEvolves m x (f x)) (h : Evolves m s t) (hm : 83076749736557242056487941267521537 ||| m = m := by decide) : OutEvolves m s (nvmAt addr t f) := by
  unfold Machine.nvmAt
  refine (hf _).step ?_ (Nat.or_self m)
  split
  · exact Evolves.wr h hm
  · exact h

theorem ev_execNvmRead (addr : Word) (len : BitVec 9) (s : State) :
    OutEvolves 265928675906719731822817900031696177675 s (execNvmRead addr len s) := by
  unfold execNvmRead
  with_reducible repeat'
    first
    | apply Evolves.refl | apply OutEvolves.next | apply OutEvolves.nvmAt | apply OutEvolves.step (ev_nvmCommand ..)
    | dsimp only | decide | rfl | intro _

theorem ev_execNvmProgram (addr : Word) (len : BitVec 9) (s : State) :
    OutEvolves 265928675906719731822817900031696177675 s (execNvmProgram addr len s) := by
  unfold execNvmProgram
  with_reducible repeat'
    first
    | apply Evolves.refl | apply OutEvolves.next | apply OutEvolves.nvmAt | apply OutEvolves.step (ev_nvmCommand ..)
    | dsimp only | decide | rfl | intro _

theorem ev_execNvmErase (addr : Word) (s : State) :
    OutEvolves 265928675906719731822817900031696177675 s (execNvmErase addr s) := by
  unfold execNvmErase
  with_reducible repeat'
    first
    | apply Evolves.refl | apply OutEvolves.next | apply OutEvolves.nvmAt | apply OutEvolves.step (ev_nvmCommand ..)
    | dsimp only | decide | rfl | intro _

theorem ev_execNvmCheck (slot : Fin 2) (s : State) :
    OutEvolves 265928675906719731822817900031696177675 s (execNvmCheck slot s) := by
  unfold execNvmCheck
  with_reducible repeat'
    first
    | apply Evolves.refl | apply OutEvolves.next | apply OutEvolves.step (ev_nvmCommand ..) | dsimp only | decide | rfl
    | intro _

theorem ev_execNvmBoot (s : State) : OutEvolves 265928675906719731822817900031696177675 s (execNvmBoot s) := by
  unfold execNvmBoot
  with_reducible repeat'
    first
    | apply Evolves.refl | apply OutEvolves.next | apply OutEvolves.step (ev_nvmCommand ..) | dsimp only | decide | rfl
    | intro _

theorem ev_flashProgram (addr : Nat) (l : List Nat) (s : State) :
    Evolves 332306998946228968225951765070086145 s (flashProgram addr l s) := by
  unfold flashProgram
  with_reducible repeat'
    first
    | apply Evolves.refl | apply Evolves.wrWord | apply Evolves.allOf | dsimp only | decide | rfl | intro _

theorem ev_flashErase (addr : Nat) (s : State) : Evolves 332306998946228968225951765070086145 s (flashErase addr s) :=
  Evolves.upd_memFilter (sp := .flash) (fun e he => by simp [he]) (.refl s)

theorem ev_flashDone (s : State) : Evolves 255793312438859748291926371197058550283 s (flashDone s) := by
  unfold flashDone
  with_reducible repeat'
    first
    | apply Evolves.refl | apply Evolves.step (ev_flashEnd ..) | apply Evolves.step (ev_flashProgram ..)
    | apply Evolves.step (ev_flashErase ..) | apply Evolves.wrWord | apply Evolves.allOf | apply Evolves.ite
    | apply Evolves.ofPair ‹_› | apply Evolves.ofTriple ‹_› | split | dsimp only | decide | rfl | intro _

theorem ev_execFlashOpDone (s : State) : OutEvolves 255793312438859748291926371197058550283 s (execFlashOpDone s) := by
  unfold execFlashOpDone
  with_reducible repeat'
    first
    | apply Evolves.refl | apply OutEvolves.onIsland | apply Evolves.step (ev_flashDone ..) | dsimp only | decide | rfl
    | intro _

theorem ev_bufWordRead (s : State) : Evolves 83076749736557242056487941267521537 s (bufWordRead s).2 := by
  unfold bufWordRead
  with_reducible repeat'
    first
    | apply Evolves.refl | apply Evolves.stepIndex | dsimp only | decide | rfl | intro _

theorem ev_bufWordWrite (w : Nat) (s : State) : Evolves 249230249209671726169463823802564609 s (bufWordWrite w s) := by
  unfold bufWordWrite
  with_reducible repeat'
    first
    | apply Evolves.refl | apply Evolves.stepIndex | apply Evolves.wrWord | dsimp only | decide | rfl | intro _

theorem ev_shadowLoad (s : State) : Evolves 271162511140122838072376640331550034447 s (shadowLoad s) := by
  unfold shadowLoad
  with_reducible repeat'
    first
    | apply Evolves.refl | apply Evolves.step (ev_usb4EnWrite ..) | apply Evolves.step (ev_nvmCause ..)
    | apply Evolves.step (ev_State_setNvm ..) | apply Evolves.wrWord | apply Evolves.onlyIf | apply Evolves.allOf
    | apply Evolves.ite | split | dsimp only | decide | rfl | intro _

theorem ev_execOtpShadowLoaded (s : State) :
    OutEvolves 271162511140122838072376640331550034447 s (execOtpShadowLoaded s) := by
  unfold execOtpShadowLoaded
  with_reducible repeat'
    first
    | apply Evolves.refl | apply OutEvolves.onIsland | apply Evolves.step (ev_shadowLoad ..) | dsimp only | decide | rfl
    | intro _

theorem ev_discovery (good : Bool) (s : State) :
    Evolves 255294851940440404839587443549453419019 s (discovery good s) := by
  unfold discovery
  with_reducible repeat'
    first
    | apply Evolves.refl | apply Evolves.step (ev_nvmCause ..) | apply Evolves.step (ev_State_setNvm ..)
    | apply Evolves.step (ev_checkBegin ..) | apply Evolves.wr | apply Evolves.onlyIf | apply Evolves.ite | split
    | dsimp only | decide | rfl | intro _

theorem ev_execFlashDiscoveryDone (good : Bool) (s : State) :
    OutEvolves 255294851940440404839587443549453419019 s (execFlashDiscoveryDone good s) := by
  unfold execFlashDiscoveryDone
  with_reducible repeat'
    first
    | apply Evolves.refl | apply OutEvolves.onIsland | apply Evolves.step (ev_discovery ..) | dsimp only | decide | rfl
    | intro _

theorem ev_slotPassed (slot : Nat) (s : State) :
    Evolves 265845599156983174580761412090428657167 s (slotPassed slot s) := by
  unfold slotPassed
  with_reducible repeat'
    first
    | apply Evolves.refl | apply Evolves.step (ev_nextPhase ..) | apply Evolves.step (ev_tunnelLoss ..)
    | apply Evolves.step (ev_State_setNvm ..) | apply Evolves.onlyIf | dsimp only | decide | rfl | intro _

theorem ev_bothFailed (boot : Bool) (s : State) :
    Evolves 255211775190703847597530955608185899530 s (bothFailed boot s) := by
  unfold bothFailed
  with_reducible repeat'
    first
    | apply Evolves.refl | apply Evolves.step (ev_linkStart ..) | apply Evolves.step (ev_rstCause ..)
    | apply Evolves.step (ev_nvmCause ..) | apply Evolves.step (ev_State_setNvm ..) | apply Evolves.onlyIf | dsimp only
    | decide | rfl | intro _

theorem ev_slotJudged (c : CheckNow) (s : State) :
    Evolves 265928675906719731822817900031696178703 s (slotJudged c s) := by
  unfold slotJudged
  with_reducible repeat'
    first
    | apply Evolves.refl | apply Evolves.step (ev_setResult ..) | apply Evolves.step (ev_flashEnd ..)
    | apply Evolves.step (ev_slotPassed ..) | apply Evolves.step (ev_nvmCause ..)
    | apply Evolves.step (ev_bothFailed ..) | apply Evolves.step (ev_State_setNvm ..) | apply Evolves.onlyIf
    | apply Evolves.ite | apply Evolves.ofPair ‹_› | apply Evolves.ofTriple ‹_› | split | dsimp only | decide | rfl
    | intro _

theorem ev_slotCheckDone (s : State) : Evolves 265928675906719731822817900031696178703 s (slotCheckDone s) := by
  unfold slotCheckDone
  with_reducible repeat'
    first
    | apply Evolves.refl | apply Evolves.step (ev_slotJudged ..) | apply Evolves.step (ev_flashEnd ..)
    | apply Evolves.step (ev_nvmCause ..) | apply Evolves.step (ev_setResult ..) | apply Evolves.onlyIf
    | apply Evolves.ofPair ‹_› | apply Evolves.ofTriple ‹_› | split | dsimp only | decide | rfl | intro _

theorem ev_execSlotCheckDone (s : State) :
    OutEvolves 265928675906719731822817900031696178703 s (execSlotCheckDone s) := by
  unfold execSlotCheckDone
  with_reducible repeat'
    first
    | apply Evolves.refl | apply OutEvolves.onIsland | apply Evolves.step (ev_slotCheckDone ..) | dsimp only | decide
    | rfl | intro _

theorem ev_otpStatusWrite (go : Nat) (err : Nat) (s : State) :
    Evolves 664613997892457936451903530140172289 s (otpStatusWrite go err s) := by
  unfold otpStatusWrite
  with_reducible repeat'
    first
    | apply Evolves.refl | apply Evolves.wr | apply Evolves.ite | split | dsimp only | decide | rfl | intro _

theorem ev_clearPdata (s : State) : Evolves 1329227995784915872903807060280344577 s (clearPdata s) := by
  unfold clearPdata
  with_reducible repeat'
    first
    | apply Evolves.refl | apply Evolves.wrWord | apply Evolves.allOf | dsimp only | decide | rfl | intro _

theorem ev_otpFinish (op : Nat) (err : Nat) (item : Nat) (s : State) :
    Evolves 257205617184381221406886666198606414347 s (otpFinish op err item s) := by
  unfold otpFinish
  with_reducible repeat'
    first
    | apply Evolves.refl | apply Evolves.step (ev_nvmCause ..) | apply Evolves.step (ev_otpStatusWrite ..)
    | apply Evolves.step (ev_clearPdata ..) | apply Evolves.step (ev_State_setNvm ..) | apply Evolves.ite | split
    | dsimp only | decide | rfl | intro _

theorem ev_otpBegin (op : Nat) (arg : Nat) (s : State) :
    Evolves 257205617184381221406886666198606416395 s (otpBegin op arg s) := by
  unfold otpBegin
  with_reducible repeat'
    first
    | apply Evolves.refl | apply Evolves.step (ev_refuseCode ..) | apply Evolves.step (ev_otpFinish ..)
    | apply Evolves.step (ev_otpStatusWrite ..) | apply Evolves.step (ev_State_setNvm ..) | apply Evolves.ite
    | apply Evolves.ofPair ‹_› | apply Evolves.ofTriple ‹_› | split | dsimp only | decide | rfl | intro _

theorem ev_otpNext (s : State) : Evolves 257205617184381221406886666198606416395 s (otpNext s) := by
  unfold otpNext
  with_reducible repeat'
    first
    | apply Evolves.refl | apply Evolves.step (ev_otpBegin ..) | apply Evolves.step (ev_State_setNvm ..)
    | apply Evolves.ofPair ‹_› | apply Evolves.ofTriple ‹_› | split | dsimp only | decide | rfl | intro _

theorem ev_otpOperate (go : Bool) (op : Nat) (arg : Nat) (s : State) :
    Evolves 267839441150660548390117122680849173003 s (otpOperate go op arg s) := by
  unfold otpOperate
  with_reducible repeat'
    first
    | apply Evolves.refl | apply Evolves.step (ev_otpBegin ..) | apply Evolves.step (ev_State_setNvm ..)
    | apply Evolves.step (ev_goBusy ..) | apply Evolves.wr | apply Evolves.ite | apply Evolves.ofPair ‹_›
    | apply Evolves.ofTriple ‹_› | split | dsimp only | decide | rfl | intro _

theorem ev_otpCmdWrite (w : Nat) (s : State) : Evolves 267839441150660548390117122680849173003 s (otpCmdWrite w s) := by
  unfold otpCmdWrite
  with_reducible repeat'
    first
    | apply Evolves.refl | apply Evolves.step (ev_encReject ..) | apply Evolves.step (ev_otpOperate ..)
    | apply Evolves.ite | split | dsimp only | decide | rfl | intro _

theorem ev_otpCommand (op : Nat) (arg : Nat) (s : State) :
    OutEvolves 267839441150660548390117122680849173003 s (otpCommand op arg s) := by
  unfold otpCommand
  with_reducible repeat'
    first
    | apply Evolves.refl | apply OutEvolves.onIsland | apply Evolves.guarded | apply Evolves.step (ev_otpOperate ..)
    | dsimp only | decide | rfl | intro _

theorem ev_execOtpProgramSettings (s : State) :
    OutEvolves 267839441150660548390117122680849173003 s (execOtpProgramSettings s) := by
  unfold execOtpProgramSettings
  with_reducible repeat'
    first
    | apply Evolves.refl | apply OutEvolves.next | apply OutEvolves.step (ev_otpCommand ..) | dsimp only | decide | rfl
    | intro _

theorem ev_execOtpProgramKey (arg : BitVec 10) (s : State) :
    OutEvolves 267839441150660548390117122680849173003 s (execOtpProgramKey arg s) := by
  unfold execOtpProgramKey
  with_reducible repeat'
    first
    | apply Evolves.refl | apply OutEvolves.next | apply OutEvolves.step (ev_otpCommand ..) | dsimp only | decide | rfl
    | intro _

theorem ev_execOtpProgramDevnum (s : State) :
    OutEvolves 267839441150660548390117122680849173003 s (execOtpProgramDevnum s) := by
  unfold execOtpProgramDevnum
  with_reducible repeat'
    first
    | apply Evolves.refl | apply OutEvolves.next | apply OutEvolves.step (ev_otpCommand ..) | dsimp only | decide | rfl
    | intro _

theorem ev_execOtpAdvanceArb (arg : BitVec 10) (s : State) :
    OutEvolves 267839441150660548390117122680849173003 s (execOtpAdvanceArb arg s) := by
  unfold execOtpAdvanceArb
  with_reducible repeat'
    first
    | apply Evolves.refl | apply OutEvolves.next | apply OutEvolves.step (ev_otpCommand ..) | dsimp only | decide | rfl
    | intro _

theorem ev_execOtpProgramPin (pin : BitVec 10) (s : State) :
    OutEvolves 267839441150660548390117122680849173003 s (execOtpProgramPin pin s) := by
  unfold execOtpProgramPin
  with_reducible repeat'
    first
    | apply Evolves.refl | apply OutEvolves.next | apply OutEvolves.step (ev_otpCommand ..) | dsimp only | decide | rfl
    | intro _

theorem ev_shadowWord (op : Nat) (w : Nat) (s : State) :
    Evolves 5316911983139663491615228241121378305 s (shadowWord op w s) := by
  unfold shadowWord
  with_reducible repeat'
    first
    | apply Evolves.refl | apply Evolves.wrWord | apply Evolves.onlyIf | dsimp only | decide | rfl | intro _

theorem ev_otpWord (ok : Bool) (s : State) : Evolves 265180985159090716644309508560556919547 s (otpWord ok s) := by
  unfold otpWord
  with_reducible repeat'
    first
    | apply Evolves.refl | apply Evolves.step (ev_passTo ..) | apply Evolves.step (ev_shadowWord ..)
    | apply Evolves.step (ev_programFuse ..) | apply Evolves.step (ev_otpNext ..) | apply Evolves.step (ev_nvmCause ..)
    | apply Evolves.step (ev_otpFinish ..) | apply Evolves.step (ev_State_setNvm ..)
    | apply Evolves.step (ev_drawFree ..) | apply Evolves.onlyIf | apply Evolves.ite | apply Evolves.ofPair ‹_›
    | apply Evolves.ofTriple ‹_› | split | dsimp only | decide | rfl | intro _

theorem ev_execOtpWordProgrammed (ok : Bool) (s : State) :
    OutEvolves 265180985159090716644309508560556919547 s (execOtpWordProgrammed ok s) := by
  unfold execOtpWordProgrammed
  with_reducible repeat'
    first
    | apply Evolves.refl | apply OutEvolves.onIsland | apply Evolves.step (ev_otpWord ..) | dsimp only | decide | rfl
    | intro _

theorem ev_pdataWrite (w : Nat) (s : State) : Evolves 1993841993677373809355710590420516865 s (pdataWrite w s) := by
  unfold pdataWrite
  with_reducible repeat'
    first
    | apply Evolves.refl | apply Evolves.stepIndex | apply Evolves.wrWord | dsimp only | decide | rfl | intro _

theorem ev_shRead (s : State) : Evolves 664613997892457936451903530140172289 s (shRead s).2 := by
  unfold shRead
  with_reducible repeat'
    first
    | apply Evolves.refl | apply Evolves.stepIndex | dsimp only | decide | rfl | intro _

end Sys2Proof.Machine
end

