-- ==== Sys2Proof/Laws/EvPmu.lean ====
section
/-!
SUPPORT. What the operations of Machine/Pmu.lean may touch (Safety.lean, Evolves).
-/

namespace Sys2Proof.Machine

set_option Elab.async false
set_option linter.all false

theorem ev_pmuWrap (i : Nat) (s : State) : Evolves 255211775190703847597530955573826159114 s (pmuWrap i s) := by
  unfold pmuWrap
  with_reducible repeat'
    first
    | apply Evolves.refl | apply Evolves.step (ev_State_setPmu ..) | apply Evolves.step (ev_pmuAddTo ..)
    | apply Evolves.step (ev_raise ..) | apply Evolves.onlyIf | apply Evolves.ite | split | dsimp only | decide | rfl
    | intro _

theorem ev_execPmuWrap (i : Fin 64) (s : State) :
    OutEvolves 255211775190703847597530955573826159114 s (execPmuWrap i s) := by
  unfold execPmuWrap
  with_reducible repeat'
    first
    | apply Evolves.refl | apply OutEvolves.onIsland | apply Evolves.step (ev_pmuWrap ..) | dsimp only | decide | rfl
    | intro _

theorem ev_pmuWindowEnd (i : Nat) (s : State) :
    Evolves 935776509032580774524280170437631017595 s (pmuWindowEnd i s) := by
  unfold pmuWindowEnd
  with_reducible repeat'
    first
    | apply Evolves.refl | apply Evolves.step (ev_windowEnd ..) | apply Evolves.step (ev_passToPtp ..)
    | apply Evolves.ite | split | dsimp only | decide | rfl | intro _

theorem ev_execPmuWindowEnd (i : Fin 64) (s : State) :
    OutEvolves 935776509032580774524280170437631017595 s (execPmuWindowEnd i s) := by
  unfold execPmuWindowEnd
  with_reducible repeat'
    first
    | apply Evolves.refl | apply OutEvolves.onIsland | apply Evolves.step (ev_pmuWindowEnd ..) | dsimp only | decide
    | rfl | intro _

theorem ev_pmuSnap (s : State) : Evolves 8 s (pmuSnap s) := by
  unfold pmuSnap
  with_reducible repeat'
    first
    | apply Evolves.refl | apply Evolves.step (ev_State_setPmu ..) | apply Evolves.allOf | dsimp only | decide | rfl
    | intro _

theorem ev_execPmuSnap (s : State) : OutEvolves 520 s (execPmuSnap s) := by
  unfold execPmuSnap
  with_reducible repeat'
    first
    | apply Evolves.refl | apply OutEvolves.onIsland | apply Evolves.step (ev_pmuSnap ..) | dsimp only | decide | rfl
    | intro _

theorem ev_pmuCtlWrite (w : Nat) (s : State) : Evolves 340282366920938463463374607431768211465 s (pmuCtlWrite w s) := by
  unfold pmuCtlWrite
  with_reducible repeat'
    first
    | apply Evolves.refl | apply Evolves.step (ev_pmuSnap ..) | apply Evolves.wr | apply Evolves.onlyIf | dsimp only
    | decide | rfl | intro _

theorem ev_valLoRead (i : Nat) (s : State) : Evolves 8 s (valLoRead i s).2 := by
  unfold valLoRead
  with_reducible repeat'
    first
    | apply Evolves.refl | apply Evolves.step (ev_State_setPmu ..) | apply Evolves.ite | split | dsimp only | decide
    | rfl | intro _

theorem ev_execValLoRead (i : Fin 64) (s : State) : OutEvolves 2568 s (execValLoRead i s) := by
  unfold execValLoRead
  with_reducible repeat'
    first
    | apply Evolves.refl | apply OutEvolves.onIsland | apply Evolves.step (ev_valLoRead ..)
    | apply Evolves.step (ev_setRead ..) | apply Evolves.ofPair ‹_› | apply Evolves.ofTriple ‹_› | split | dsimp only
    | decide | rfl | intro _

theorem ev_valHiWrite (i : Nat) (w : Nat) (s : State) : Evolves 8 s (valHiWrite i w s) := by
  unfold valHiWrite
  with_reducible repeat'
    first
    | apply Evolves.refl | apply Evolves.step (ev_State_setPmu ..) | dsimp only | decide | rfl | intro _

theorem ev_valLoWrite (i : Nat) (w : Nat) (s : State) : Evolves 8 s (valLoWrite i w s) := by
  unfold valLoWrite
  with_reducible repeat'
    first
    | apply Evolves.refl | apply Evolves.step (ev_State_setPmu ..) | dsimp only | decide | rfl | intro _

theorem ev_execPmuValWrite (i : Fin 64) (w : Word) (s : State) : OutEvolves 520 s (execPmuValWrite i w s) := by
  unfold execPmuValWrite
  with_reducible repeat'
    first
    | apply Evolves.refl | apply OutEvolves.onIsland | apply Evolves.step (ev_valLoWrite ..) | dsimp only | decide | rfl
    | intro _

theorem ev_pmuCfgWrite (i : Nat) (w : Nat) (s : State) :
    Evolves 946410332998860101507510626919605340683 s (pmuCfgWrite i w s) := by
  unfold pmuCfgWrite
  with_reducible repeat'
    first
    | apply Evolves.refl | apply Evolves.step (ev_refuseWrite ..) | apply Evolves.step (ev_encReject ..)
    | apply Evolves.wr | apply Evolves.ite | split | dsimp only | decide | rfl | intro _

theorem ev_pmuArgWrite (i : Nat) (w : Nat) (s : State) :
    Evolves 935776509032580774524280170437362584075 s (pmuArgWrite i w s) := by
  unfold pmuArgWrite
  with_reducible repeat'
    first
    | apply Evolves.refl | apply Evolves.step (ev_refuseWrite ..) | apply Evolves.wr | apply Evolves.ite | split
    | dsimp only | decide | rfl | intro _

theorem ev_execPmuCfgWrite (i : Fin 64) (arg : Bool) (w : Word) (s : State) :
    OutEvolves 946410332998860101507510626919605340683 s (execPmuCfgWrite i arg w s) := by
  unfold execPmuCfgWrite
  with_reducible repeat'
    first
    | apply Evolves.refl | apply OutEvolves.onIsland | apply Evolves.step (ev_pmuArgWrite ..)
    | apply Evolves.step (ev_pmuCfgWrite ..) | apply Evolves.ite | split | dsimp only | decide | rfl | intro _

end Sys2Proof.Machine
end

