-- ==== Sys2Proof/Laws/EvSequencer.lean ====
section
/-!
SUPPORT. What the operations of Machine/Sequencer.lean may touch (Safety.lean, Evolves).
-/

namespace Sys2Proof.Machine

set_option Elab.async false
set_option linter.all false

theorem ev_dmemSet (k : Nat) (a : Nat) (v : Nat) (s : State) :
    Evolves 1208925819614629175754753 s (dmemSet k a v s) := by
  unfold dmemSet
  with_reducible repeat'
    first
    | apply Evolves.refl | apply Evolves.step (ev_State_setCluster ..) | apply Evolves.wrWord | dsimp only | decide
    | rfl | intro _

theorem ev_retire (k : Nat) (t : Nat) (pc : Nat) (cyc : Nat) (s : State) :
    Evolves 302231454903657296822281 s (retire k t pc cyc s) := by
  unfold retire
  with_reducible repeat'
    first
    | apply Evolves.refl | apply Evolves.step (ev_traceSample ..) | apply Evolves.step (ev_State_setCluster ..)
    | apply Evolves.step (ev_State_setThread ..) | dsimp only | decide | rfl | intro _

theorem ev_retireNext (k : Nat) (t : Nat) (cyc : Nat) (s : State) :
    Evolves 302231454903657296822281 s (retireNext k t cyc s) := by
  unfold retireNext
  with_reducible repeat'
    first
    | apply Evolves.refl | apply Evolves.step (ev_retire ..) | dsimp only | decide | rfl | intro _

theorem Evolves.issue {m : Nat} {s t : State} {k r o : Nat} {f : Nat → State → State} (hf : ∀ w x, Evolves m x (f w x))
    (h : Evolves m s t) (hm : 0 ||| m = m := by decide) : Evolves m s (issue k r o f t) := by
  have hm' : ∀ k, k ||| 0 = 0 → k ||| m = m := fun k hk => by rw [← hm, ← Nat.or_assoc, hk]
  unfold Machine.issue
  with_reducible repeat'
    first
    | exact h | exact hm' _ (by decide) | apply Evolves.trans (h := hf _ _) | apply Evolves.refl | apply Evolves.ite
    | apply Evolves.ofPair ‹_› | apply Evolves.ofTriple ‹_› | split | dsimp only | decide | rfl | intro _

theorem ev_issuedFault (k : Nat) (t : Nat) (code : Nat) (s : State) :
    Evolves 255211775190704149828985859231122981515 s (issuedFault k t code s) := by
  unfold issuedFault
  with_reducible repeat'
    first
    | apply Evolves.refl | apply Evolves.step (ev_faultThread ..) | apply Evolves.step (ev_traceFault ..) | dsimp only
    | decide | rfl | intro _

theorem OutEvolves.onThread {m : Nat} {s t : State} {k : Fin 8} {f : State → State} (hf : ∀ x, Evolves m x (f x))
    (h : Evolves m s t) (hm : 512 ||| m = m := by decide) : OutEvolves m s (onThread k t f) := by
  have hm' : ∀ k, k ||| 512 = 512 → k ||| m = m := fun k hk => by rw [← hm, ← Nat.or_assoc, hk]
  unfold Machine.onThread
  with_reducible repeat'
    first
    | exact h | exact hm' _ (by decide) | apply OutEvolves.onIsland | apply Evolves.trans (h := hf _)
    | apply Evolves.refl | dsimp only | decide | rfl | intro _

theorem ev_aluOp (k : Nat) (t : Nat) (o : Nat) (cyc : Nat) (f : Nat → Nat → Nat) (u5 : State) :
    Evolves 302231454903657296822281 u5 (aluOp k t o cyc f u5) := by
  unfold aluOp
  with_reducible repeat'
    first
    | apply Evolves.refl | apply Evolves.step (ev_retireNext ..) | apply Evolves.step (ev_writeG ..)
    | apply Evolves.issue | dsimp only | decide | rfl | intro _

theorem ev_immOp (k : Nat) (t : Nat) (o : Nat) (f : Nat → Nat → Nat) (u4 : State) :
    Evolves 302231454903657296822281 u4 (immOp k t o f u4) := by
  unfold immOp
  with_reducible repeat'
    first
    | apply Evolves.refl | apply Evolves.step (ev_retireNext ..) | apply Evolves.step (ev_writeG ..)
    | apply Evolves.issue | dsimp only | decide | rfl | intro _

theorem ev_gAdd (k : Nat) (t : Nat) (u2 : State) : Evolves 302231454903657296822281 u2 (gAdd k t u2) := by
  unfold gAdd
  with_reducible repeat'
    first
    | apply Evolves.refl | apply Evolves.step (ev_aluOp ..) | dsimp only | decide | rfl | intro _

theorem ev_gSub (k : Nat) (t : Nat) (u2 : State) : Evolves 302231454903657296822281 u2 (gSub k t u2) := by
  unfold gSub
  with_reducible repeat'
    first
    | apply Evolves.refl | apply Evolves.step (ev_aluOp ..) | dsimp only | decide | rfl | intro _

theorem ev_gAnd (k : Nat) (t : Nat) (u2 : State) : Evolves 302231454903657296822281 u2 (gAnd k t u2) := by
  unfold gAnd
  with_reducible repeat'
    first
    | apply Evolves.refl | apply Evolves.step (ev_aluOp ..) | dsimp only | decide | rfl | intro _

theorem ev_gOr (k : Nat) (t : Nat) (u2 : State) : Evolves 302231454903657296822281 u2 (gOr k t u2) := by
  unfold gOr
  with_reducible repeat'
    first
    | apply Evolves.refl | apply Evolves.step (ev_aluOp ..) | dsimp only | decide | rfl | intro _

theorem ev_gXor (k : Nat) (t : Nat) (u2 : State) : Evolves 302231454903657296822281 u2 (gXor k t u2) := by
  unfold gXor
  with_reducible repeat'
    first
    | apply Evolves.refl | apply Evolves.step (ev_aluOp ..) | dsimp only | decide | rfl | intro _

theorem ev_gShl (k : Nat) (t : Nat) (u2 : State) : Evolves 302231454903657296822281 u2 (gShl k t u2) := by
  unfold gShl
  with_reducible repeat'
    first
    | apply Evolves.refl | apply Evolves.step (ev_aluOp ..) | dsimp only | decide | rfl | intro _

theorem ev_gShr (k : Nat) (t : Nat) (u2 : State) : Evolves 302231454903657296822281 u2 (gShr k t u2) := by
  unfold gShr
  with_reducible repeat'
    first
    | apply Evolves.refl | apply Evolves.step (ev_aluOp ..) | dsimp only | decide | rfl | intro _

theorem ev_gMinu (k : Nat) (t : Nat) (u2 : State) : Evolves 302231454903657296822281 u2 (gMinu k t u2) := by
  unfold gMinu
  with_reducible repeat'
    first
    | apply Evolves.refl | apply Evolves.step (ev_aluOp ..) | dsimp only | decide | rfl | intro _

theorem ev_gMaxu (k : Nat) (t : Nat) (u2 : State) : Evolves 302231454903657296822281 u2 (gMaxu k t u2) := by
  unfold gMaxu
  with_reducible repeat'
    first
    | apply Evolves.refl | apply Evolves.step (ev_aluOp ..) | dsimp only | decide | rfl | intro _

theorem ev_gSltu (k : Nat) (t : Nat) (u2 : State) : Evolves 302231454903657296822281 u2 (gSltu k t u2) := by
  unfold gSltu
  with_reducible repeat'
    first
    | apply Evolves.refl | apply Evolves.step (ev_aluOp ..) | dsimp only | decide | rfl | intro _

theorem ev_gMul (k : Nat) (t : Nat) (u2 : State) : Evolves 302231454903657296822281 u2 (gMul k t u2) := by
  unfold gMul
  with_reducible repeat'
    first
    | apply Evolves.refl | apply Evolves.step (ev_aluOp ..) | dsimp only | decide | rfl | intro _

theorem ev_gAddi (k : Nat) (t : Nat) (u2 : State) : Evolves 302231454903657296822281 u2 (gAddi k t u2) := by
  unfold gAddi
  with_reducible repeat'
    first
    | apply Evolves.refl | apply Evolves.step (ev_immOp ..) | dsimp only | decide | rfl | intro _

theorem ev_gAndi (k : Nat) (t : Nat) (u2 : State) : Evolves 302231454903657296822281 u2 (gAndi k t u2) := by
  unfold gAndi
  with_reducible repeat'
    first
    | apply Evolves.refl | apply Evolves.step (ev_immOp ..) | dsimp only | decide | rfl | intro _

theorem ev_gOri (k : Nat) (t : Nat) (u2 : State) : Evolves 302231454903657296822281 u2 (gOri k t u2) := by
  unfold gOri
  with_reducible repeat'
    first
    | apply Evolves.refl | apply Evolves.step (ev_immOp ..) | dsimp only | decide | rfl | intro _

theorem ev_gXori (k : Nat) (t : Nat) (u2 : State) : Evolves 302231454903657296822281 u2 (gXori k t u2) := by
  unfold gXori
  with_reducible repeat'
    first
    | apply Evolves.refl | apply Evolves.step (ev_immOp ..) | dsimp only | decide | rfl | intro _

theorem ev_gShli (k : Nat) (t : Nat) (u2 : State) : Evolves 302231454903657296822281 u2 (gShli k t u2) := by
  unfold gShli
  with_reducible repeat'
    first
    | apply Evolves.refl | apply Evolves.step (ev_immOp ..) | dsimp only | decide | rfl | intro _

theorem ev_gShri (k : Nat) (t : Nat) (u2 : State) : Evolves 302231454903657296822281 u2 (gShri k t u2) := by
  unfold gShri
  with_reducible repeat'
    first
    | apply Evolves.refl | apply Evolves.step (ev_immOp ..) | dsimp only | decide | rfl | intro _

theorem ev_gLui (k : Nat) (t : Nat) (u2 : State) : Evolves 302231454903657296822281 u2 (gLui k t u2) := by
  unfold gLui
  with_reducible repeat'
    first
    | apply Evolves.refl | apply Evolves.step (ev_immOp ..) | dsimp only | decide | rfl | intro _

theorem ev_gSltui (k : Nat) (t : Nat) (u2 : State) : Evolves 302231454903657296822281 u2 (gSltui k t u2) := by
  unfold gSltui
  with_reducible repeat'
    first
    | apply Evolves.refl | apply Evolves.step (ev_immOp ..) | dsimp only | decide | rfl | intro _

theorem ev_execAdd (k : Fin 8) (t : Fin 4) (s : State) : OutEvolves 302231454903657296822793 s (execAdd k t s) := by
  unfold execAdd
  with_reducible repeat'
    first
    | apply Evolves.refl | apply OutEvolves.next | apply OutEvolves.onThread | apply Evolves.step (ev_gAdd ..)
    | dsimp only | decide | rfl | intro _

theorem ev_execSub (k : Fin 8) (t : Fin 4) (s : State) : OutEvolves 302231454903657296822793 s (execSub k t s) := by
  unfold execSub
  with_reducible repeat'
    first
    | apply Evolves.refl | apply OutEvolves.next | apply OutEvolves.onThread | apply Evolves.step (ev_gSub ..)
    | dsimp only | decide | rfl | intro _

theorem ev_execAnd (k : Fin 8) (t : Fin 4) (s : State) : OutEvolves 302231454903657296822793 s (execAnd k t s) := by
  unfold execAnd
  with_reducible repeat'
    first
    | apply Evolves.refl | apply OutEvolves.next | apply OutEvolves.onThread | apply Evolves.step (ev_gAnd ..)
    | dsimp only | decide | rfl | intro _

theorem ev_execOr (k : Fin 8) (t : Fin 4) (s : State) : OutEvolves 302231454903657296822793 s (execOr k t s) := by
  unfold execOr
  with_reducible repeat'
    first
    | apply Evolves.refl | apply OutEvolves.next | apply OutEvolves.onThread | apply Evolves.step (ev_gOr ..)
    | dsimp only | decide | rfl | intro _

theorem ev_execXor (k : Fin 8) (t : Fin 4) (s : State) : OutEvolves 302231454903657296822793 s (execXor k t s) := by
  unfold execXor
  with_reducible repeat'
    first
    | apply Evolves.refl | apply OutEvolves.next | apply OutEvolves.onThread | apply Evolves.step (ev_gXor ..)
    | dsimp only | decide | rfl | intro _

theorem ev_execShl (k : Fin 8) (t : Fin 4) (s : State) : OutEvolves 302231454903657296822793 s (execShl k t s) := by
  unfold execShl
  with_reducible repeat'
    first
    | apply Evolves.refl | apply OutEvolves.next | apply OutEvolves.onThread | apply Evolves.step (ev_gShl ..)
    | dsimp only | decide | rfl | intro _

theorem ev_execShr (k : Fin 8) (t : Fin 4) (s : State) : OutEvolves 302231454903657296822793 s (execShr k t s) := by
  unfold execShr
  with_reducible repeat'
    first
    | apply Evolves.refl | apply OutEvolves.next | apply OutEvolves.onThread | apply Evolves.step (ev_gShr ..)
    | dsimp only | decide | rfl | intro _

theorem ev_execMinu (k : Fin 8) (t : Fin 4) (s : State) : OutEvolves 302231454903657296822793 s (execMinu k t s) := by
  unfold execMinu
  with_reducible repeat'
    first
    | apply Evolves.refl | apply OutEvolves.next | apply OutEvolves.onThread | apply Evolves.step (ev_gMinu ..)
    | dsimp only | decide | rfl | intro _

theorem ev_execMaxu (k : Fin 8) (t : Fin 4) (s : State) : OutEvolves 302231454903657296822793 s (execMaxu k t s) := by
  unfold execMaxu
  with_reducible repeat'
    first
    | apply Evolves.refl | apply OutEvolves.next | apply OutEvolves.onThread | apply Evolves.step (ev_gMaxu ..)
    | dsimp only | decide | rfl | intro _

theorem ev_execSltu (k : Fin 8) (t : Fin 4) (s : State) : OutEvolves 302231454903657296822793 s (execSltu k t s) := by
  unfold execSltu
  with_reducible repeat'
    first
    | apply Evolves.refl | apply OutEvolves.next | apply OutEvolves.onThread | apply Evolves.step (ev_gSltu ..)
    | dsimp only | decide | rfl | intro _

theorem ev_execMul (k : Fin 8) (t : Fin 4) (s : State) : OutEvolves 302231454903657296822793 s (execMul k t s) := by
  unfold execMul
  with_reducible repeat'
    first
    | apply Evolves.refl | apply OutEvolves.next | apply OutEvolves.onThread | apply Evolves.step (ev_gMul ..)
    | dsimp only | decide | rfl | intro _

theorem ev_execAddi (k : Fin 8) (t : Fin 4) (s : State) : OutEvolves 302231454903657296822793 s (execAddi k t s) := by
  unfold execAddi
  with_reducible repeat'
    first
    | apply Evolves.refl | apply OutEvolves.next | apply OutEvolves.onThread | apply Evolves.step (ev_gAddi ..)
    | dsimp only | decide | rfl | intro _

theorem ev_execAndi (k : Fin 8) (t : Fin 4) (s : State) : OutEvolves 302231454903657296822793 s (execAndi k t s) := by
  unfold execAndi
  with_reducible repeat'
    first
    | apply Evolves.refl | apply OutEvolves.next | apply OutEvolves.onThread | apply Evolves.step (ev_gAndi ..)
    | dsimp only | decide | rfl | intro _

theorem ev_execOri (k : Fin 8) (t : Fin 4) (s : State) : OutEvolves 302231454903657296822793 s (execOri k t s) := by
  unfold execOri
  with_reducible repeat'
    first
    | apply Evolves.refl | apply OutEvolves.next | apply OutEvolves.onThread | apply Evolves.step (ev_gOri ..)
    | dsimp only | decide | rfl | intro _

theorem ev_execXori (k : Fin 8) (t : Fin 4) (s : State) : OutEvolves 302231454903657296822793 s (execXori k t s) := by
  unfold execXori
  with_reducible repeat'
    first
    | apply Evolves.refl | apply OutEvolves.next | apply OutEvolves.onThread | apply Evolves.step (ev_gXori ..)
    | dsimp only | decide | rfl | intro _

theorem ev_execShli (k : Fin 8) (t : Fin 4) (s : State) : OutEvolves 302231454903657296822793 s (execShli k t s) := by
  unfold execShli
  with_reducible repeat'
    first
    | apply Evolves.refl | apply OutEvolves.next | apply OutEvolves.onThread | apply Evolves.step (ev_gShli ..)
    | dsimp only | decide | rfl | intro _

theorem ev_execShri (k : Fin 8) (t : Fin 4) (s : State) : OutEvolves 302231454903657296822793 s (execShri k t s) := by
  unfold execShri
  with_reducible repeat'
    first
    | apply Evolves.refl | apply OutEvolves.next | apply OutEvolves.onThread | apply Evolves.step (ev_gShri ..)
    | dsimp only | decide | rfl | intro _

theorem ev_execLui (k : Fin 8) (t : Fin 4) (s : State) : OutEvolves 302231454903657296822793 s (execLui k t s) := by
  unfold execLui
  with_reducible repeat'
    first
    | apply Evolves.refl | apply OutEvolves.next | apply OutEvolves.onThread | apply Evolves.step (ev_gLui ..)
    | dsimp only | decide | rfl | intro _

theorem ev_execSltui (k : Fin 8) (t : Fin 4) (s : State) : OutEvolves 302231454903657296822793 s (execSltui k t s) := by
  unfold execSltui
  with_reducible repeat'
    first
    | apply Evolves.refl | apply OutEvolves.next | apply OutEvolves.onThread | apply Evolves.step (ev_gSltui ..)
    | dsimp only | decide | rfl | intro _

theorem Evolves.access {m : Nat} {s t : State} {k r a : Nat} {f : State → State} (hf : ∀ x, Evolves m x (f x))
    (h : Evolves m s t) (hm : 255211775190704149828985859231122981515 ||| m = m := by decide) : Evolves m s (access k r a f t) := by
  have hm' : ∀ k, k ||| 255211775190704149828985859231122981515 = 255211775190704149828985859231122981515 → k ||| m = m := fun k hk => by rw [← hm, ← Nat.or_assoc, hk]
  unfold Machine.access
  with_reducible repeat'
    first
    | exact h | exact hm' _ (by decide) | apply Evolves.trans (h := hf _) | apply Evolves.refl
    | apply Evolves.step (hm := hm' _ (by decide)) (ev_issuedFault ..) | apply Evolves.ite | split | dsimp only
    | decide | rfl | intro _

theorem Evolves.readAccess {m : Nat} {s t : State} {k r : Nat} {l : List Nat} {f : State → State}
    (hf : ∀ x, Evolves m x (f x)) (h : Evolves m s t) (hm : 255211775190704149828985859231122981515 ||| m = m := by decide) :
    Evolves m s (readAccess k r l f t) := by
  unfold Machine.readAccess
  split
  · exact h.trans (hf t)
  · exact Evolves.step (ev_issuedFault ..) h hm

theorem ev_gLd (k : Nat) (t : Nat) (u2 : State) : Evolves 255211775190704149828985859231122981515 u2 (gLd k t u2) := by
  unfold gLd
  with_reducible repeat'
    first
    | apply Evolves.refl | apply Evolves.access | apply Evolves.readAccess | apply Evolves.step (ev_retireNext ..)
    | apply Evolves.step (ev_writeG ..) | apply Evolves.issue | dsimp only | decide | rfl | intro _

theorem ev_gSt (k : Nat) (t : Nat) (u2 : State) : Evolves 255211775190705358754805473860297687691 u2 (gSt k t u2) := by
  unfold gSt
  with_reducible repeat'
    first
    | apply Evolves.refl | apply Evolves.access | apply Evolves.step (ev_retireNext ..)
    | apply Evolves.step (ev_dmemSet ..) | apply Evolves.issue | dsimp only | decide | rfl | intro _

theorem ev_gAmadd (k : Nat) (t : Nat) (u2 : State) :
    Evolves 255211775190705358754805473860297687691 u2 (gAmadd k t u2) := by
  unfold gAmadd
  with_reducible repeat'
    first
    | apply Evolves.refl | apply Evolves.access | apply Evolves.readAccess | apply Evolves.step (ev_retireNext ..)
    | apply Evolves.step (ev_writeG ..) | apply Evolves.step (ev_dmemSet ..) | apply Evolves.issue | dsimp only | decide
    | rfl | intro _

theorem ev_execLd (k : Fin 8) (t : Fin 4) (s : State) :
    OutEvolves 255211775190704149828985859231122981515 s (execLd k t s) := by
  unfold execLd
  with_reducible repeat'
    first
    | apply Evolves.refl | apply OutEvolves.next | apply OutEvolves.onThread | apply Evolves.step (ev_gLd ..)
    | dsimp only | decide | rfl | intro _

theorem ev_execSt (k : Fin 8) (t : Fin 4) (s : State) :
    OutEvolves 255211775190705358754805473860297687691 s (execSt k t s) := by
  unfold execSt
  with_reducible repeat'
    first
    | apply Evolves.refl | apply OutEvolves.next | apply OutEvolves.onThread | apply Evolves.step (ev_gSt ..)
    | dsimp only | decide | rfl | intro _

theorem ev_execAmadd (k : Fin 8) (t : Fin 4) (s : State) :
    OutEvolves 255211775190705358754805473860297687691 s (execAmadd k t s) := by
  unfold execAmadd
  with_reducible repeat'
    first
    | apply Evolves.refl | apply OutEvolves.next | apply OutEvolves.onThread | apply Evolves.step (ev_gAmadd ..)
    | dsimp only | decide | rfl | intro _

theorem ev_branchIf (k : Nat) (t : Nat) (w : Nat) (c : Bool) (s : State) :
    Evolves 302231454903657296822281 s (branchIf k t w c s) := by
  unfold branchIf
  with_reducible repeat'
    first
    | apply Evolves.refl | apply Evolves.step (ev_retire ..) | apply Evolves.step (ev_retireNext ..) | apply Evolves.ite
    | split | dsimp only | decide | rfl | intro _

theorem ev_branchOp (k : Nat) (t : Nat) (o : Nat) (f : Nat → Nat → Bool) (u4 : State) :
    Evolves 302231454903657296822281 u4 (branchOp k t o f u4) := by
  unfold branchOp
  with_reducible repeat'
    first
    | apply Evolves.refl | apply Evolves.step (ev_branchIf ..) | apply Evolves.issue | dsimp only | decide | rfl
    | intro _

theorem ev_gBeq (k : Nat) (t : Nat) (u2 : State) : Evolves 302231454903657296822281 u2 (gBeq k t u2) := by
  unfold gBeq
  with_reducible repeat'
    first
    | apply Evolves.refl | apply Evolves.step (ev_branchOp ..) | dsimp only | decide | rfl | intro _

theorem ev_gBne (k : Nat) (t : Nat) (u2 : State) : Evolves 302231454903657296822281 u2 (gBne k t u2) := by
  unfold gBne
  with_reducible repeat'
    first
    | apply Evolves.refl | apply Evolves.step (ev_branchOp ..) | dsimp only | decide | rfl | intro _

theorem ev_gBltu (k : Nat) (t : Nat) (u2 : State) : Evolves 302231454903657296822281 u2 (gBltu k t u2) := by
  unfold gBltu
  with_reducible repeat'
    first
    | apply Evolves.refl | apply Evolves.step (ev_branchOp ..) | dsimp only | decide | rfl | intro _

theorem ev_gBgeu (k : Nat) (t : Nat) (u2 : State) : Evolves 302231454903657296822281 u2 (gBgeu k t u2) := by
  unfold gBgeu
  with_reducible repeat'
    first
    | apply Evolves.refl | apply Evolves.step (ev_branchOp ..) | dsimp only | decide | rfl | intro _

theorem ev_gBst (k : Nat) (t : Nat) (u2 : State) : Evolves 302231454903657296822281 u2 (gBst k t u2) := by
  unfold gBst
  with_reducible repeat'
    first
    | apply Evolves.refl | apply Evolves.step (ev_branchIf ..) | apply Evolves.issue | dsimp only | decide | rfl
    | intro _

theorem ev_gBstn (k : Nat) (t : Nat) (u2 : State) : Evolves 302231454903657296822281 u2 (gBstn k t u2) := by
  unfold gBstn
  with_reducible repeat'
    first
    | apply Evolves.refl | apply Evolves.step (ev_branchIf ..) | apply Evolves.issue | dsimp only | decide | rfl
    | intro _

theorem ev_gJmp (k : Nat) (t : Nat) (u2 : State) : Evolves 302231454903657296822281 u2 (gJmp k t u2) := by
  unfold gJmp
  with_reducible repeat'
    first
    | apply Evolves.refl | apply Evolves.step (ev_retire ..) | apply Evolves.issue | dsimp only | decide | rfl | intro _

theorem ev_gJal (k : Nat) (t : Nat) (u2 : State) : Evolves 302231454903657296822281 u2 (gJal k t u2) := by
  unfold gJal
  with_reducible repeat'
    first
    | apply Evolves.refl | apply Evolves.step (ev_retire ..) | apply Evolves.step (ev_writeG ..) | apply Evolves.issue
    | dsimp only | decide | rfl | intro _

theorem ev_gJr (k : Nat) (t : Nat) (u2 : State) : Evolves 302231454903657296822281 u2 (gJr k t u2) := by
  unfold gJr
  with_reducible repeat'
    first
    | apply Evolves.refl | apply Evolves.step (ev_retire ..) | apply Evolves.issue | dsimp only | decide | rfl | intro _

theorem ev_execBeq (k : Fin 8) (t : Fin 4) (s : State) : OutEvolves 302231454903657296822793 s (execBeq k t s) := by
  unfold execBeq
  with_reducible repeat'
    first
    | apply Evolves.refl | apply OutEvolves.next | apply OutEvolves.onThread | apply Evolves.step (ev_gBeq ..)
    | dsimp only | decide | rfl | intro _

theorem ev_execBne (k : Fin 8) (t : Fin 4) (s : State) : OutEvolves 302231454903657296822793 s (execBne k t s) := by
  unfold execBne
  with_reducible repeat'
    first
    | apply Evolves.refl | apply OutEvolves.next | apply OutEvolves.onThread | apply Evolves.step (ev_gBne ..)
    | dsimp only | decide | rfl | intro _

theorem ev_execBltu (k : Fin 8) (t : Fin 4) (s : State) : OutEvolves 302231454903657296822793 s (execBltu k t s) := by
  unfold execBltu
  with_reducible repeat'
    first
    | apply Evolves.refl | apply OutEvolves.next | apply OutEvolves.onThread | apply Evolves.step (ev_gBltu ..)
    | dsimp only | decide | rfl | intro _

theorem ev_execBgeu (k : Fin 8) (t : Fin 4) (s : State) : OutEvolves 302231454903657296822793 s (execBgeu k t s) := by
  unfold execBgeu
  with_reducible repeat'
    first
    | apply Evolves.refl | apply OutEvolves.next | apply OutEvolves.onThread | apply Evolves.step (ev_gBgeu ..)
    | dsimp only | decide | rfl | intro _

theorem ev_execBst (k : Fin 8) (t : Fin 4) (s : State) : OutEvolves 302231454903657296822793 s (execBst k t s) := by
  unfold execBst
  with_reducible repeat'
    first
    | apply Evolves.refl | apply OutEvolves.next | apply OutEvolves.onThread | apply Evolves.step (ev_gBst ..)
    | dsimp only | decide | rfl | intro _

theorem ev_execBstn (k : Fin 8) (t : Fin 4) (s : State) : OutEvolves 302231454903657296822793 s (execBstn k t s) := by
  unfold execBstn
  with_reducible repeat'
    first
    | apply Evolves.refl | apply OutEvolves.next | apply OutEvolves.onThread | apply Evolves.step (ev_gBstn ..)
    | dsimp only | decide | rfl | intro _

theorem ev_execJmp (k : Fin 8) (t : Fin 4) (s : State) : OutEvolves 302231454903657296822793 s (execJmp k t s) := by
  unfold execJmp
  with_reducible repeat'
    first
    | apply Evolves.refl | apply OutEvolves.next | apply OutEvolves.onThread | apply Evolves.step (ev_gJmp ..)
    | dsimp only | decide | rfl | intro _

theorem ev_execJal (k : Fin 8) (t : Fin 4) (s : State) : OutEvolves 302231454903657296822793 s (execJal k t s) := by
  unfold execJal
  with_reducible repeat'
    first
    | apply Evolves.refl | apply OutEvolves.next | apply OutEvolves.onThread | apply Evolves.step (ev_gJal ..)
    | dsimp only | decide | rfl | intro _

theorem ev_execJr (k : Fin 8) (t : Fin 4) (s : State) : OutEvolves 302231454903657296822793 s (execJr k t s) := by
  unfold execJr
  with_reducible repeat'
    first
    | apply Evolves.refl | apply OutEvolves.next | apply OutEvolves.onThread | apply Evolves.step (ev_gJr ..)
    | dsimp only | decide | rfl | intro _

theorem ev_illegalInstruction (k : Nat) (t : Nat) (s : State) :
    Evolves 255211775190704149828985859231122981515 s (illegalInstruction k t s) := by
  unfold illegalInstruction
  with_reducible repeat'
    first
    | apply Evolves.refl | apply Evolves.step (ev_faultThread ..) | apply Evolves.step (ev_issuedFault ..)
    | apply Evolves.ite | split | dsimp only | decide | rfl | intro _

theorem ev_execIllegalInstruction (k : Fin 8) (t : Fin 4) (s : State) :
    OutEvolves 255211775190704149828985859231122981515 s (execIllegalInstruction k t s) := by
  unfold execIllegalInstruction
  with_reducible repeat'
    first
    | apply Evolves.refl | apply OutEvolves.next | apply OutEvolves.onThread
    | apply Evolves.step (ev_illegalInstruction ..) | dsimp only | decide | rfl | intro _

theorem ev_setSt (k : Nat) (t : Nat) (code : Nat) (s : State) : Evolves 2097152 s (setSt k t code s) := by
  unfold setSt
  with_reducible repeat'
    first
    | apply Evolves.refl | apply Evolves.step (ev_State_setThread ..) | dsimp only | decide | rfl | intro _

theorem ev_argError (k : Nat) (t : Nat) (cyc : Nat) (s : State) :
    Evolves 255211775190704149828985859231122981387 s (argError k t cyc s) := by
  unfold argError
  with_reducible repeat'
    first
    | apply Evolves.refl | apply Evolves.step (ev_retireNext ..) | apply Evolves.step (ev_raise ..)
    | apply Evolves.step (ev_setSt ..) | apply Evolves.bump | dsimp only | decide | rfl | intro _

theorem ev_returnEvents (k : Nat) (t : Nat) (r : Nat) (ev : Nat) (s : State) :
    Evolves 2097152 s (returnEvents k t r ev s) := by
  unfold returnEvents
  with_reducible repeat'
    first
    | apply Evolves.refl | apply Evolves.step (ev_writeG ..) | apply Evolves.step (ev_State_setThread ..)
    | apply Evolves.ite | split | dsimp only | decide | rfl | intro _

theorem ev_returnReport (k : Nat) (t : Nat) (r : Nat) (x : Nat × Report) (s : State) :
    Evolves 2621440 s (returnReport k t r x s) := by
  unfold returnReport
  with_reducible repeat'
    first
    | apply Evolves.refl | apply Evolves.step (ev_setSt ..) | apply Evolves.step (ev_writeG ..)
    | apply Evolves.step (ev_State_setGrant ..) | dsimp only | decide | rfl | intro _

theorem ev_returnRecord (k : Nat) (t : Nat) (r : Nat) (x : ActRec) (s : State) :
    Evolves 3145728 s (returnRecord k t r x s) := by
  unfold returnRecord
  with_reducible repeat'
    first
    | apply Evolves.refl | apply Evolves.step (ev_setSt ..) | apply Evolves.step (ev_writeG ..)
    | apply Evolves.step (ev_popActRec ..) | dsimp only | decide | rfl | intro _

theorem ev_waitResult {k t : Nat} {w : Wait} {s : State} {s' : State} (h : waitResult k t w s = some s') :
    Evolves 3670016 s s' := by
  unfold waitResult at h
  with_reducible repeat'
    first
    | apply Evolves.refl | apply Evolves.step (ev_returnEvents ..) | apply Evolves.step (ev_returnReport ..)
    | apply Evolves.step (ev_returnRecord ..) | contradiction | cases h | split at h | dsimp only at h

theorem ev_clearWdog (k : Nat) (t : Nat) (s : State) : Evolves 2097152 s (clearWdog k t s) := by
  unfold clearWdog
  with_reducible repeat'
    first
    | apply Evolves.refl | apply Evolves.step (ev_State_setThread ..) | dsimp only | decide | rfl | intro _

theorem ev_issueWait (k : Nat) (t : Nat) (mask : Nat) (w : Wait) (s : State) :
    Evolves 302231454903657297346697 s (issueWait k t mask w s) := by
  unfold issueWait
  with_reducible repeat'
    first
    | apply Evolves.refl | apply Evolves.step (ev_waitResult ‹_›) | apply Evolves.step (ev_clearWdog ..)
    | apply Evolves.step (ev_retireNext ..) | apply Evolves.step (ev_setSt ..) | apply Evolves.step (ev_tracePick ..)
    | apply Evolves.step (ev_parkThread ..) | apply Evolves.step (ev_State_setThread ..) | apply Evolves.onlyIf
    | apply Evolves.ite | apply Evolves.ofPair ‹_› | apply Evolves.ofTriple ‹_› | split | dsimp only | decide | rfl
    | intro _

theorem ev_gPopr (k : Nat) (t : Nat) (u2 : State) :
    Evolves 255211775190704149828985859231123505803 u2 (gPopr k t u2) := by
  unfold gPopr
  with_reducible repeat'
    first
    | apply Evolves.refl | apply Evolves.step (ev_clearWdog ..) | apply Evolves.step (ev_argError ..)
    | apply Evolves.step (ev_issueWait ..) | apply Evolves.issue | apply Evolves.ite | split | dsimp only | decide | rfl
    | intro _

theorem ev_gPopa (k : Nat) (t : Nat) (u2 : State) :
    Evolves 255211775190704149828985859231123505803 u2 (gPopa k t u2) := by
  unfold gPopa
  with_reducible repeat'
    first
    | apply Evolves.refl | apply Evolves.step (ev_clearWdog ..) | apply Evolves.step (ev_argError ..)
    | apply Evolves.step (ev_issueWait ..) | apply Evolves.issue | apply Evolves.ite | split | dsimp only | decide | rfl
    | intro _

theorem ev_gWfe (k : Nat) (t : Nat) (u2 : State) :
    Evolves 255211775190704149828985859231123505803 u2 (gWfe k t u2) := by
  unfold gWfe
  with_reducible repeat'
    first
    | apply Evolves.refl | apply Evolves.step (ev_clearWdog ..) | apply Evolves.step (ev_argError ..)
    | apply Evolves.step (ev_issueWait ..) | apply Evolves.issue | apply Evolves.ite | split | dsimp only | decide | rfl
    | intro _

theorem ev_threadWake (k : Nat) (t : Nat) (s : State) : Evolves 302231454903657297346569 s (threadWake k t s) := by
  unfold threadWake
  with_reducible repeat'
    first
    | apply Evolves.refl | apply Evolves.step (ev_waitResult ‹_›) | apply Evolves.step (ev_traceWait ..)
    | apply Evolves.step (ev_State_setCluster ..) | apply Evolves.step (ev_State_setThread ..) | apply Evolves.ite
    | apply Evolves.ofPair ‹_› | apply Evolves.ofTriple ‹_› | split | dsimp only | decide | rfl | intro _

theorem ev_execPopr (k : Fin 8) (t : Fin 4) (s : State) :
    OutEvolves 255211775190704149828985859231123505803 s (execPopr k t s) := by
  unfold execPopr
  with_reducible repeat'
    first
    | apply Evolves.refl | apply OutEvolves.next | apply OutEvolves.onThread | apply Evolves.step (ev_gPopr ..)
    | dsimp only | decide | rfl | intro _

theorem ev_execPopa (k : Fin 8) (t : Fin 4) (s : State) :
    OutEvolves 255211775190704149828985859231123505803 s (execPopa k t s) := by
  unfold execPopa
  with_reducible repeat'
    first
    | apply Evolves.refl | apply OutEvolves.next | apply OutEvolves.onThread | apply Evolves.step (ev_gPopa ..)
    | dsimp only | decide | rfl | intro _

theorem ev_execWfe (k : Fin 8) (t : Fin 4) (s : State) :
    OutEvolves 255211775190704149828985859231123505803 s (execWfe k t s) := by
  unfold execWfe
  with_reducible repeat'
    first
    | apply Evolves.refl | apply OutEvolves.next | apply OutEvolves.onThread | apply Evolves.step (ev_gWfe ..)
    | dsimp only | decide | rfl | intro _

theorem ev_execThreadWake (k : Fin 8) (t : Fin 4) (s : State) :
    OutEvolves 302231454903657297347081 s (execThreadWake k t s) := by
  unfold execThreadWake
  with_reducible repeat'
    first
    | apply Evolves.refl | apply OutEvolves.next | apply OutEvolves.onThread | apply Evolves.step (ev_threadWake ..)
    | dsimp only | decide | rfl | intro _

theorem Evolves.storeRefused {m : Nat} {s t : State} {n cell bit : Nat} {cnt : Fld} (h : Evolves m s t)
    (hm : (wordMask cnt.sp ||| 255211775190703847597530955573826159114) ||| m = m := by decide) : Evolves m s (storeRefused n cell cnt bit t) := by
  have h2 : ∀ k, k ||| 255211775190703847597530955573826159114 = 255211775190703847597530955573826159114 → k ||| m = m := fun k hk => Mask.sub (Mask.orr hm) hk
  have h1 : wordMask cnt.sp ||| 8 ||| m = m := Mask.both (Mask.orl hm) (h2 _ (by decide))
  unfold Machine.storeRefused
  exact Evolves.step (ev_raise ..) (.bump h h1) (h2 _ (by decide))

theorem ev_gCwr (k : Nat) (t : Nat) (race : Nat) (u3 : State) :
    Evolves 265845599156983533480614110149108828683 u3 (gCwr k t race u3) := by
  unfold gCwr
  with_reducible repeat'
    first
    | apply Evolves.refl | apply Evolves.step (ev_argError ..) | apply Evolves.step (ev_storeCell ..)
    | apply Evolves.step (ev_retireNext ..) | apply Evolves.step (ev_setSt ..) | apply Evolves.step (ev_writeG ..)
    | apply Evolves.storeRefused | apply Evolves.issue | apply Evolves.ite | apply Evolves.ofPair ‹_›
    | apply Evolves.ofTriple ‹_› | split | dsimp only | decide | rfl | intro _

theorem ev_gCrd (k : Nat) (t : Nat) (u2 : State) :
    Evolves 255211775190704149828985859231122981387 u2 (gCrd k t u2) := by
  unfold gCrd
  with_reducible repeat'
    first
    | apply Evolves.refl | apply Evolves.step (ev_argError ..) | apply Evolves.step (ev_retireNext ..)
    | apply Evolves.step (ev_setSt ..) | apply Evolves.step (ev_writeG ..) | apply Evolves.issue | apply Evolves.ite
    | split | dsimp only | decide | rfl | intro _

theorem ev_gPlf (k : Nat) (t : Nat) (lost : Bool) (u3 : State) :
    Evolves 265845599156983533480614110149108828683 u3 (gPlf k t lost u3) := by
  unfold gPlf
  with_reducible repeat'
    first
    | apply Evolves.refl | apply Evolves.step (ev_argError ..) | apply Evolves.step (ev_placeFixed ..)
    | apply Evolves.step (ev_retireNext ..) | apply Evolves.step (ev_setSt ..) | apply Evolves.step (ev_writeG ..)
    | apply Evolves.issue | apply Evolves.ite | apply Evolves.ofPair ‹_› | apply Evolves.ofTriple ‹_› | split
    | dsimp only | decide | rfl | intro _

theorem ev_gDur (k : Nat) (t : Nat) (u2 : State) :
    Evolves 255211775190704149828985859231122981387 u2 (gDur k t u2) := by
  unfold gDur
  with_reducible repeat'
    first
    | apply Evolves.refl | apply Evolves.step (ev_argError ..) | apply Evolves.step (ev_retireNext ..)
    | apply Evolves.step (ev_setSt ..) | apply Evolves.step (ev_writeG ..) | apply Evolves.issue | apply Evolves.ite
    | split | dsimp only | decide | rfl | intro _

theorem ev_execCwr (k : Fin 8) (t : Fin 4) (race : Fin 3) (s : State) :
    OutEvolves 265845599156983533480614110149108828683 s (execCwr k t race s) := by
  unfold execCwr
  with_reducible repeat'
    first
    | apply Evolves.refl | apply OutEvolves.next | apply OutEvolves.onThread | apply Evolves.step (ev_gCwr ..)
    | dsimp only | decide | rfl | intro _

theorem ev_execCrd (k : Fin 8) (t : Fin 4) (s : State) :
    OutEvolves 255211775190704149828985859231122981387 s (execCrd k t s) := by
  unfold execCrd
  with_reducible repeat'
    first
    | apply Evolves.refl | apply OutEvolves.next | apply OutEvolves.onThread | apply Evolves.step (ev_gCrd ..)
    | dsimp only | decide | rfl | intro _

theorem ev_execPlf (k : Fin 8) (t : Fin 4) (lost : Bool) (s : State) :
    OutEvolves 265845599156983533480614110149108828683 s (execPlf k t lost s) := by
  unfold execPlf
  with_reducible repeat'
    first
    | apply Evolves.refl | apply OutEvolves.next | apply OutEvolves.onThread | apply Evolves.step (ev_gPlf ..)
    | dsimp only | decide | rfl | intro _

theorem ev_execDur (k : Fin 8) (t : Fin 4) (s : State) :
    OutEvolves 255211775190704149828985859231122981387 s (execDur k t s) := by
  unfold execDur
  with_reducible repeat'
    first
    | apply Evolves.refl | apply OutEvolves.next | apply OutEvolves.onThread | apply Evolves.step (ev_gDur ..)
    | dsimp only | decide | rfl | intro _

theorem ev_gCtxr (k : Nat) (t : Nat) (u2 : State) :
    Evolves 255211775190704149828985859231122981387 u2 (gCtxr k t u2) := by
  unfold gCtxr
  with_reducible repeat'
    first
    | apply Evolves.refl | apply Evolves.step (ev_argError ..) | apply Evolves.step (ev_retireNext ..)
    | apply Evolves.step (ev_setSt ..) | apply Evolves.step (ev_writeG ..) | apply Evolves.issue | apply Evolves.ite
    | split | dsimp only | decide | rfl | intro _

theorem ev_ctxRace (k : Nat) (s : State) : Evolves 255211775190704149828985859231119835659 s (ctxRace k s) := by
  unfold ctxRace
  with_reducible repeat'
    first
    | apply Evolves.refl | apply Evolves.step (ev_raise ..) | apply Evolves.bump | dsimp only | decide | rfl | intro _

theorem ev_ctxStore (n : Nat) (c : Nat) (x : Nat) (v : Nat) (s : State) :
    Evolves 75557863725914323943425 s (ctxStore n c x v s) := by
  unfold ctxStore
  with_reducible repeat'
    first
    | apply Evolves.refl | apply Evolves.step (ev_mirrorWord ..) | apply Evolves.wrWord | apply Evolves.onlyIf
    | dsimp only | decide | rfl | intro _

theorem ev_gCtxw (k : Nat) (t : Nat) (lost : Bool) (u3 : State) :
    Evolves 255211775190704225386849585145446924811 u3 (gCtxw k t lost u3) := by
  unfold gCtxw
  with_reducible repeat'
    first
    | apply Evolves.refl | apply Evolves.step (ev_argError ..) | apply Evolves.step (ev_ctxRace ..)
    | apply Evolves.step (ev_ctxStore ..) | apply Evolves.step (ev_retireNext ..) | apply Evolves.step (ev_setSt ..)
    | apply Evolves.issue | apply Evolves.ite | split | dsimp only | decide | rfl | intro _

theorem ev_gTbu (k : Nat) (t : Nat) (lost : Bool) (u3 : State) :
    Evolves 255211775190704225386849585145446400523 u3 (gTbu k t lost u3) := by
  unfold gTbu
  with_reducible repeat'
    first
    | apply Evolves.refl | apply Evolves.step (ev_argError ..) | apply Evolves.step (ev_ctxRace ..)
    | apply Evolves.step (ev_retireNext ..) | apply Evolves.step (ev_setSt ..) | apply Evolves.step (ev_writeG ..)
    | apply Evolves.wrWord | apply Evolves.issue | apply Evolves.ite | split | dsimp only | decide | rfl | intro _

theorem ev_execCtxr (k : Fin 8) (t : Fin 4) (s : State) :
    OutEvolves 255211775190704149828985859231122981387 s (execCtxr k t s) := by
  unfold execCtxr
  with_reducible repeat'
    first
    | apply Evolves.refl | apply OutEvolves.next | apply OutEvolves.onThread | apply Evolves.step (ev_gCtxr ..)
    | dsimp only | decide | rfl | intro _

theorem ev_execCtxw (k : Fin 8) (t : Fin 4) (lost : Bool) (s : State) :
    OutEvolves 255211775190704225386849585145446924811 s (execCtxw k t lost s) := by
  unfold execCtxw
  with_reducible repeat'
    first
    | apply Evolves.refl | apply OutEvolves.next | apply OutEvolves.onThread | apply Evolves.step (ev_gCtxw ..)
    | dsimp only | decide | rfl | intro _

theorem ev_execTbu (k : Fin 8) (t : Fin 4) (lost : Bool) (s : State) :
    OutEvolves 255211775190704225386849585145446400523 s (execTbu k t lost s) := by
  unfold execTbu
  with_reducible repeat'
    first
    | apply Evolves.refl | apply OutEvolves.next | apply OutEvolves.onThread | apply Evolves.step (ev_gTbu ..)
    | dsimp only | decide | rfl | intro _

theorem ev_gPls (k : Nat) (t : Nat) (u2 : State) :
    Evolves 255211775190705358754805473860297687691 u2 (gPls k t u2) := by
  unfold gPls
  with_reducible repeat'
    first
    | apply Evolves.refl | apply Evolves.step (ev_issuedFault ..) | apply Evolves.step (ev_argError ..)
    | apply Evolves.readAccess | apply Evolves.step (ev_retireNext ..) | apply Evolves.step (ev_setSt ..)
    | apply Evolves.step (ev_writeG ..) | apply Evolves.step (ev_dmemSet ..) | apply Evolves.issue | apply Evolves.ite
    | apply Evolves.ofPair ‹_› | apply Evolves.ofTriple ‹_› | split | dsimp only | decide | rfl | intro _

theorem ev_gEmp (k : Nat) (t : Nat) (u2 : State) :
    Evolves 255211775190704152190169100665945719435 u2 (gEmp k t u2) := by
  unfold gEmp
  with_reducible repeat'
    first
    | apply Evolves.refl | apply Evolves.step (ev_argError ..) | apply Evolves.readAccess
    | apply Evolves.step (ev_queueBody ..) | apply Evolves.step (ev_setSt ..) | apply Evolves.step (ev_raise ..)
    | apply Evolves.step (ev_wrapperAnswer ..) | apply Evolves.step (ev_retireNext ..) | apply Evolves.bump
    | apply Evolves.issue | apply Evolves.ite | apply Evolves.ofPair ‹_› | apply Evolves.ofTriple ‹_› | split
    | dsimp only | decide | rfl | intro _

theorem ev_gEvr (k : Nat) (t : Nat) (u2 : State) :
    Evolves 255211775190704149828985859231122981387 u2 (gEvr k t u2) := by
  unfold gEvr
  with_reducible repeat'
    first
    | apply Evolves.refl | apply Evolves.step (ev_retireNext ..) | apply Evolves.step (ev_raise ..)
    | apply Evolves.issue | dsimp only | decide | rfl | intro _

theorem ev_gFrm (k : Nat) (t : Nat) (u2 : State) :
    Evolves 255211775190704149828985859231122981515 u2 (gFrm k t u2) := by
  unfold gFrm
  with_reducible repeat'
    first
    | apply Evolves.refl | apply Evolves.step (ev_issuedFault ..) | apply Evolves.step (ev_retireNext ..)
    | apply Evolves.step (ev_writeG ..) | apply Evolves.issue | apply Evolves.ite | split | dsimp only | decide | rfl
    | intro _

theorem ev_execPls (k : Fin 8) (t : Fin 4) (s : State) :
    OutEvolves 255211775190705358754805473860297687691 s (execPls k t s) := by
  unfold execPls
  with_reducible repeat'
    first
    | apply Evolves.refl | apply OutEvolves.next | apply OutEvolves.onThread | apply Evolves.step (ev_gPls ..)
    | dsimp only | decide | rfl | intro _

theorem ev_execEmp (k : Fin 8) (t : Fin 4) (s : State) :
    OutEvolves 255211775190704152190169100665945719435 s (execEmp k t s) := by
  unfold execEmp
  with_reducible repeat'
    first
    | apply Evolves.refl | apply OutEvolves.next | apply OutEvolves.onThread | apply Evolves.step (ev_gEmp ..)
    | dsimp only | decide | rfl | intro _

theorem ev_execEvr (k : Fin 8) (t : Fin 4) (s : State) :
    OutEvolves 255211775190704149828985859231122981387 s (execEvr k t s) := by
  unfold execEvr
  with_reducible repeat'
    first
    | apply Evolves.refl | apply OutEvolves.next | apply OutEvolves.onThread | apply Evolves.step (ev_gEvr ..)
    | dsimp only | decide | rfl | intro _

theorem ev_execFrm (k : Fin 8) (t : Fin 4) (s : State) :
    OutEvolves 255211775190704149828985859231122981515 s (execFrm k t s) := by
  unfold execFrm
  with_reducible repeat'
    first
    | apply Evolves.refl | apply OutEvolves.next | apply OutEvolves.onThread | apply Evolves.step (ev_gFrm ..)
    | dsimp only | decide | rfl | intro _

theorem ev_tickEvent (k : Nat) (s : State) : Evolves 2097152 s (tickEvent k s) := by
  unfold tickEvent
  with_reducible repeat'
    first
    | apply Evolves.refl | apply Evolves.step (ev_latchAll ..) | apply Evolves.ite | split | dsimp only | decide | rfl
    | intro _

theorem ev_execTickEvent (k : Fin 8) (s : State) : OutEvolves 2097664 s (execTickEvent k s) := by
  unfold execTickEvent
  with_reducible repeat'
    first
    | apply Evolves.refl | apply OutEvolves.onIsland | apply Evolves.step (ev_tickEvent ..) | dsimp only | decide | rfl
    | intro _

theorem ev_watchdogFault (k : Nat) (t : Nat) (s : State) :
    Evolves 255211775190704149828985859231121932811 s (watchdogFault k t s) := by
  unfold watchdogFault
  with_reducible repeat'
    first
    | apply Evolves.refl | apply Evolves.step (ev_faultThread ..) | apply Evolves.bump | apply Evolves.ite | split
    | dsimp only | decide | rfl | intro _

theorem ev_execWatchdogFault (k : Fin 8) (t : Fin 4) (s : State) :
    OutEvolves 255211775190704149828985859231121932811 s (execWatchdogFault k t s) := by
  unfold execWatchdogFault
  with_reducible repeat'
    first
    | apply Evolves.refl | apply OutEvolves.next | apply OutEvolves.onThread | apply Evolves.step (ev_watchdogFault ..)
    | dsimp only | decide | rfl | intro _

theorem ev_threadEnable (k : Nat) (t : Nat) (s : State) : Evolves 302231454903657297346569 s (threadEnable k t s) := by
  unfold threadEnable
  with_reducible repeat'
    first
    | apply Evolves.refl | apply Evolves.step (ev_startThread ..) | apply Evolves.step (ev_mirrorWord ..)
    | apply Evolves.wr | apply Evolves.ite | split | dsimp only | decide | rfl | intro _

theorem ev_execThreadEnable (k : Fin 8) (t : Fin 4) (s : State) :
    OutEvolves 302231454903657297347081 s (execThreadEnable k t s) := by
  unfold execThreadEnable
  with_reducible repeat'
    first
    | apply Evolves.refl | apply OutEvolves.next | apply OutEvolves.onThread | apply Evolves.step (ev_threadEnable ..)
    | dsimp only | decide | rfl | intro _

theorem ev_threadDisable (k : Nat) (t : Nat) (s : State) :
    Evolves 302231454903657297346697 s (threadDisable k t s) := by
  unfold threadDisable
  with_reducible repeat'
    first
    | apply Evolves.refl | apply Evolves.step (ev_stopThread ..) | apply Evolves.step (ev_mirrorWord ..)
    | apply Evolves.wr | apply Evolves.ite | split | dsimp only | decide | rfl | intro _

theorem ev_execThreadDisable (k : Fin 8) (t : Fin 4) (s : State) :
    OutEvolves 302231454903657297347209 s (execThreadDisable k t s) := by
  unfold execThreadDisable
  with_reducible repeat'
    first
    | apply Evolves.refl | apply OutEvolves.next | apply OutEvolves.onThread | apply Evolves.step (ev_threadDisable ..)
    | dsimp only | decide | rfl | intro _

theorem ev_thrRegionWrite (k : Nat) (t : Nat) (w : Nat) (s : State) :
    Evolves 265845599156983476812216315713363118603 s (thrRegionWrite k t w s) := by
  unfold thrRegionWrite
  with_reducible repeat'
    first
    | apply Evolves.refl | apply Evolves.step (ev_refuseWrite ..) | apply Evolves.step (ev_encReject ..)
    | apply Evolves.step (ev_mirrorRegion ..) | apply Evolves.wr | (simp only [wordMask_at]; decide) | apply Evolves.ite
    | split | dsimp only | decide | rfl | intro _

theorem ev_execThrRegionWrite (k : Fin 8) (t : Fin 4) (w : Word) (s : State) :
    OutEvolves 265845599156983476812216315713363118603 s (execThrRegionWrite k t w s) := by
  unfold execThrRegionWrite
  with_reducible repeat'
    first
    | apply Evolves.refl | apply OutEvolves.next | apply OutEvolves.onThread | apply Evolves.step (ev_thrRegionWrite ..)
    | dsimp only | decide | rfl | intro _

theorem ev_handoverRequest (k : Nat) (t : Nat) (s : State) :
    Evolves 255211775190704149828985859231123507723 s (handoverRequest k t s) := by
  unfold handoverRequest
  with_reducible repeat'
    first
    | apply Evolves.refl | apply Evolves.step (ev_refuseCode ..) | apply Evolves.step (ev_raise ..)
    | apply Evolves.step (ev_mirrorOut ..) | apply Evolves.step (ev_State_setCluster ..)
    | apply Evolves.step (ev_State_setThread ..) | apply Evolves.wr | apply Evolves.onlyIf | apply Evolves.ite | split
    | dsimp only | decide | rfl | intro _

theorem ev_execHandoverRequest (k : Fin 8) (t : Fin 4) (s : State) :
    OutEvolves 255211775190704149828985859231123507723 s (execHandoverRequest k t s) := by
  unfold execHandoverRequest
  with_reducible repeat'
    first
    | apply Evolves.refl | apply OutEvolves.next | apply OutEvolves.onThread
    | apply Evolves.step (ev_handoverRequest ..) | dsimp only | decide | rfl | intro _

theorem ev_mailboxWrite (k : Nat) (t : Nat) (w : Nat) (s : State) :
    Evolves 255211775190704149828985859231121932811 s (mailboxWrite k t w s) := by
  unfold mailboxWrite
  with_reducible repeat'
    first
    | apply Evolves.refl | apply Evolves.step (ev_raise ..) | apply Evolves.step (ev_State_setThread ..)
    | apply Evolves.bump | apply Evolves.wr | apply Evolves.onlyIf | (simp only [wordMask_at]; decide) | dsimp only
    | decide | rfl | intro _

theorem ev_execMailboxWrite (k : Fin 8) (t : Fin 4) (w : Word) (s : State) :
    OutEvolves 255211775190704149828985859231121932811 s (execMailboxWrite k t w s) := by
  unfold execMailboxWrite
  with_reducible repeat'
    first
    | apply Evolves.refl | apply OutEvolves.next | apply OutEvolves.onThread | apply Evolves.step (ev_mailboxWrite ..)
    | dsimp only | decide | rfl | intro _

theorem ev_imemStore (k : Nat) (a : Nat) (w : Nat) (s : State) :
    Evolves 255211775190704754291895666545708763659 s (imemStore k a w s).2 := by
  unfold imemStore
  with_reducible repeat'
    first
    | apply Evolves.refl | apply Evolves.step (ev_refuseCode ..) | apply Evolves.step (ev_raise ..)
    | apply Evolves.step (ev_mirrorWord ..) | apply Evolves.step (ev_State_setCluster ..) | apply Evolves.bump
    | apply Evolves.wrWord | apply Evolves.ite | split | dsimp only | decide | rfl | intro _

theorem ev_imemWrite (k : Nat) (w : Nat) (s : State) :
    Evolves 255211775190704754291895666545708763659 s (imemWrite k w s) := by
  unfold imemWrite
  with_reducible repeat'
    first
    | apply Evolves.refl | apply Evolves.step (ev_imemStore ..) | apply Evolves.wr | apply Evolves.onlyIf | dsimp only
    | decide | rfl | intro _

theorem ev_execImemWrite (k : Fin 8) (w : Word) (s : State) :
    OutEvolves 255211775190704754291895666545708763659 s (execImemWrite k w s) := by
  unfold execImemWrite
  with_reducible repeat'
    first
    | apply Evolves.refl | apply OutEvolves.onIsland | apply Evolves.step (ev_imemWrite ..) | dsimp only | decide | rfl
    | intro _

theorem ev_dmemWrite (k : Nat) (w : Nat) (s : State) : Evolves 1511157274518286469431297 s (dmemWrite k w s) := by
  unfold dmemWrite
  with_reducible repeat'
    first
    | apply Evolves.refl | apply Evolves.step (ev_dmemSet ..) | apply Evolves.wr | apply Evolves.onlyIf | dsimp only
    | decide | rfl | intro _

theorem ev_execDmemWrite (k : Fin 8) (w : Word) (s : State) :
    OutEvolves 1511157274518286469431809 s (execDmemWrite k w s) := by
  unfold execDmemWrite
  with_reducible repeat'
    first
    | apply Evolves.refl | apply OutEvolves.onIsland | apply Evolves.step (ev_dmemWrite ..) | dsimp only | decide | rfl
    | intro _

theorem ev_ctxAdvance (k : Nat) (s : State) : Evolves 302231454903657293676545 s (ctxAdvance k s) := by
  unfold ctxAdvance
  with_reducible repeat'
    first
    | apply Evolves.refl | apply Evolves.advanceWord | dsimp only | decide | rfl | intro _

theorem ev_ctxDataWrite (k : Nat) (w : Nat) (s : State) : Evolves 377789318629571617619969 s (ctxDataWrite k w s) := by
  unfold ctxDataWrite
  with_reducible repeat'
    first
    | apply Evolves.refl | apply Evolves.step (ev_ctxAdvance ..) | apply Evolves.step (ev_ctxStore ..) | dsimp only
    | decide | rfl | intro _

theorem ev_execCtxDataWrite (k : Fin 8) (w : Word) (s : State) :
    OutEvolves 377789318629571617620481 s (execCtxDataWrite k w s) := by
  unfold execCtxDataWrite
  with_reducible repeat'
    first
    | apply Evolves.refl | apply OutEvolves.onIsland | apply Evolves.step (ev_ctxDataWrite ..) | dsimp only | decide
    | rfl | intro _

theorem ev_traceCtlWrite (k : Nat) (w : Nat) (s : State) :
    Evolves 265845599156983476812216315713363642891 s (traceCtlWrite k w s) := by
  unfold traceCtlWrite
  with_reducible repeat'
    first
    | apply Evolves.refl | apply Evolves.step (ev_State_setCluster ..) | apply Evolves.writeReg | apply Evolves.ite
    | split | dsimp only | decide | rfl | intro _

theorem ev_execTraceCtlWrite (k : Fin 8) (w : Word) (s : State) :
    OutEvolves 265845599156983476812216315713363642891 s (execTraceCtlWrite k w s) := by
  unfold execTraceCtlWrite
  with_reducible repeat'
    first
    | apply Evolves.refl | apply OutEvolves.onIsland | apply Evolves.step (ev_traceCtlWrite ..) | dsimp only | decide
    | rfl | intro _

theorem ev_traceFullEvent (k : Nat) (s : State) :
    Evolves 255211775190703847597530955573827207690 s (traceFullEvent k s) := by
  unfold traceFullEvent
  with_reducible repeat'
    first
    | apply Evolves.refl | apply Evolves.step (ev_raise ..) | apply Evolves.step (ev_State_setCluster ..)
    | apply Evolves.ite | split | dsimp only | decide | rfl | intro _

theorem ev_execTraceFull (k : Fin 8) (s : State) :
    OutEvolves 255211775190703847597530955573827207690 s (execTraceFull k s) := by
  unfold execTraceFull
  with_reducible repeat'
    first
    | apply Evolves.refl | apply OutEvolves.onIsland | apply Evolves.step (ev_traceFullEvent ..) | dsimp only | decide
    | rfl | intro _

end Sys2Proof.Machine
end

