-- ==== Sys2Proof/Laws/EvWindows.lean ====
section
/-!
SUPPORT. What the operations of Machine/Windows.lean may touch (Safety.lean, Evolves).
-/

namespace Sys2Proof.Machine

set_option Elab.async false
set_option linter.all false

theorem Evolves.goWrite {m : Nat} {s t : State} {sp : Sp} {i word w : Nat} {f : State → State} (hf : ∀ x, Evolves m x (f x))
    (h : Evolves m s t) (hm : 1361129467683753853835051685653363296779 ||| m = m := by decide) : Evolves m s (goWrite sp i word w f t) := by
  have hm' : ∀ k, k ||| 1361129467683753853835051685653363296779 = 1361129467683753853835051685653363296779 → k ||| m = m := fun k hk => by rw [← hm, ← Nat.or_assoc, hk]
  unfold Machine.goWrite
  with_reducible repeat'
    first
    | exact h | exact hm' _ (by decide) | apply Evolves.trans (h := hf _) | apply Evolves.refl
    | apply Evolves.step (hm := hm' _ (by decide)) (ev_writeReg ..) | apply Evolves.ite | apply Evolves.ofPair ‹_›
    | apply Evolves.ofTriple ‹_› | split | dsimp only | decide | rfl | intro _

theorem ev_pumpWaiting (i n : Nat) (s : State) :
    Evolves 4 s (pumpWaiting i n s) := by
  induction n generalizing s with
  | zero =>
    unfold pumpWaiting
    with_reducible repeat'
      first
      | apply Evolves.refl | apply Evolves.step (ev_ringWrite ..) | apply Evolves.step (ev_State_setSession ..)
      | apply Evolves.ite | apply Evolves.ofPair ‹_› | apply Evolves.ofTriple ‹_› | split | dsimp only | decide | rfl
      | intro _
  | succ n ih =>
    unfold pumpWaiting
    with_reducible repeat'
      first
      | apply Evolves.step (ih ..) | apply Evolves.refl | apply Evolves.step (ev_ringWrite ..)
      | apply Evolves.step (ev_State_setSession ..) | apply Evolves.ite | apply Evolves.ofPair ‹_›
      | apply Evolves.ofTriple ‹_› | split | dsimp only | decide | rfl | intro _

theorem ev_settle (i : Nat) (s : State) : Evolves 265845599156983174580761412056068917775 s (settle i s) := by
  unfold settle
  with_reducible repeat'
    first
    | apply Evolves.refl | apply Evolves.step (ev_faultSession ..) | apply Evolves.onlyIf | dsimp only | decide | rfl
    | intro _

theorem ev_respond (i : Nat) (p : Packet) (s : State) :
    Evolves 265845599156983174580761412056068917775 s (respond i p s) := by
  unfold respond
  with_reducible repeat'
    first
    | apply Evolves.refl | apply Evolves.step (ev_settle ..) | apply Evolves.step (ev_ringWrite ..)
    | apply Evolves.step (ev_State_setSession ..) | apply Evolves.ite | split | dsimp only | decide | rfl | intro _

theorem ev_headWrite (i : Nat) (w : Nat) (s : State) :
    Evolves 308380895022100482513683237985039944207 s (headWrite i w s) := by
  unfold headWrite
  with_reducible repeat'
    first
    | apply Evolves.refl | apply Evolves.step (ev_State_setSession ..) | apply Evolves.step (ev_settle ..)
    | apply Evolves.step (ev_pumpWaiting ..) | apply Evolves.writeReg | apply Evolves.ite | split | dsimp only | decide
    | rfl | intro _

theorem ev_sessCtlWrite (i : Nat) (w : Nat) (s : State) :
    Evolves 308380895022100482513683237985039944207 s (sessCtlWrite i w s) := by
  unfold sessCtlWrite
  with_reducible repeat'
    first
    | apply Evolves.refl | apply Evolves.step (ev_refuseWrite ..) | apply Evolves.step (ev_sessCause ..)
    | apply Evolves.step (ev_State_setSession ..) | apply Evolves.step (ev_closeSession ..) | apply Evolves.writeReg
    | apply Evolves.ite | split | dsimp only | decide | rfl | intro _

theorem ev_ringRegWrite (i : Nat) (word : Nat) (w : Nat) (s : State) :
    Evolves 308380895022100482513683237985039944203 s (ringRegWrite i word w s) := by
  unfold ringRegWrite
  with_reducible repeat'
    first
    | apply Evolves.refl | apply Evolves.step (ev_refuseWrite ..) | apply Evolves.writeReg | apply Evolves.ite | split
    | dsimp only | decide | rfl | intro _

end Sys2Proof.Machine
end

