-- ==== Sys2Proof/Laws/EvWrites.lean ====
section
/-!
SUPPORT. What the operations of Machine/Writes.lean may touch (Safety.lean, Evolves).
-/

namespace Sys2Proof.Machine

set_option Elab.async false
set_option linter.all false

theorem ev_tlnCtlWrite (n : Nat) (w : Nat) (s : State) :
    Evolves 265845599156983179358468127146844121611 s (tlnCtlWrite n w s) := by
  unfold tlnCtlWrite
  with_reducible repeat'
    first
    | apply Evolves.refl | apply Evolves.step (ev_txModeRun ..) | apply Evolves.step (ev_txModeIdle ..)
    | apply Evolves.step (ev_dropBurst ..) | apply Evolves.step (ev_State_setLane ..) | apply Evolves.writeReg
    | apply Evolves.ite | apply Evolves.ofPair ‹_› | apply Evolves.ofTriple ‹_› | split | dsimp only | decide | rfl
    | intro _

theorem ev_tlnTestWrite (n : Nat) (w : Nat) (s : State) :
    Evolves 265845599156983179358468127146844121611 s (tlnTestWrite n w s) := by
  unfold tlnTestWrite
  with_reducible repeat'
    first
    | apply Evolves.refl | apply Evolves.step (ev_testSlip ..) | apply Evolves.step (ev_testModeWrite ..)
    | apply Evolves.onlyIf | dsimp only | decide | rfl | intro _

theorem ev_tlnWrite (n : Nat) (word : Nat) (w : Nat) (s : State) :
    Evolves 265845599156983179358468127146844121611 s (tlnWrite n word w s) := by
  unfold tlnWrite
  with_reducible repeat'
    first
    | apply Evolves.refl | apply Evolves.step (ev_tlnCtlWrite ..) | apply Evolves.step (ev_presetAdvance ..)
    | apply Evolves.step (ev_presetWrite ..) | apply Evolves.step (ev_tlnTestWrite ..)
    | apply Evolves.step (ev_txdisForceWrite ..) | apply Evolves.writeReg | apply Evolves.ofPair ‹_›
    | apply Evolves.ofTriple ‹_› | split | dsimp only | decide | rfl | intro _

theorem ev_tfrCtlWrite (n : Nat) (w : Nat) (s : State) :
    Evolves 265845599156983179542935567883939629579 s (tfrCtlWrite n w s) := by
  unfold tfrCtlWrite
  with_reducible repeat'
    first
    | apply Evolves.refl | apply Evolves.step (ev_degEnClear ..) | apply Evolves.step (ev_fecEnWrite ..)
    | apply Evolves.step (ev_dropBurst ..) | apply Evolves.writeReg | apply Evolves.onlyIf | dsimp only | decide | rfl
    | intro _

theorem ev_usCfgWrite (n : Nat) (w : Nat) (s : State) :
    Evolves 265845599156983174654548388350907664907 s (usCfgWrite n w s) := by
  unfold usCfgWrite
  with_reducible repeat'
    first
    | apply Evolves.refl | apply Evolves.step (ev_mirrorWord ..) | apply Evolves.step (ev_State_setGrant ..)
    | apply Evolves.step (ev_State_setFram ..) | apply Evolves.writeReg | apply Evolves.ite | split | dsimp only
    | decide | rfl | intro _

theorem ev_tfrTermAdvance (n : Nat) (u1 : State) : Evolves 73786976294838206465 u1 (tfrTermAdvance n u1) := by
  unfold tfrTermAdvance
  with_reducible repeat'
    first
    | apply Evolves.refl | apply Evolves.advanceIndex | dsimp only | decide | rfl | intro _

theorem ev_tfrWrite (n : Nat) (word : Nat) (w : Nat) (s : State) :
    Evolves 265845599156983179542935567883940153867 s (tfrWrite n word w s) := by
  unfold tfrWrite
  with_reducible repeat'
    first
    | apply Evolves.refl | apply Evolves.step (ev_tfrCtlWrite ..) | apply Evolves.step (ev_ponidHiWrite ..)
    | apply Evolves.step (ev_usCfgWrite ..) | apply Evolves.step (ev_degCfgWrite ..)
    | apply Evolves.step (ev_tfrTermAdvance ..) | apply Evolves.writeReg | apply Evolves.ofPair ‹_›
    | apply Evolves.ofTriple ‹_› | split | dsimp only | decide | rfl | intro _

theorem ev_tcmdGo (n : Nat) (s : State) : Evolves 255211775190703864144260389691295402507 s (tcmdGo n s) := by
  unfold tcmdGo
  with_reducible repeat'
    first
    | apply Evolves.refl | apply Evolves.step (ev_tcmdDeactivate ..) | apply Evolves.step (ev_tcmdDisable ..)
    | apply Evolves.step (ev_tcmdEnable ..) | apply Evolves.step (ev_tcmdReRange ..)
    | apply Evolves.step (ev_tcmdEnableAll ..) | apply Evolves.ofPair ‹_› | apply Evolves.ofTriple ‹_› | split
    | dsimp only | decide | rfl | intro _

theorem ev_actTermAdvance (n : Nat) (u1 : State) : Evolves 2361183241434822606849 u1 (actTermAdvance n u1) := by
  unfold actTermAdvance
  with_reducible repeat'
    first
    | apply Evolves.refl | apply Evolves.advanceIndex | dsimp only | decide | rfl | intro _

theorem ev_actTermWrite (n : Nat) (w : Nat) (s : State) :
    Evolves 265845599156983181664311136360536738315 s (actTermWrite n w s) := by
  unfold actTermWrite
  with_reducible repeat'
    first
    | apply Evolves.refl | apply Evolves.step (ev_encReject ..) | apply Evolves.step (ev_actTermAdvance ..)
    | apply Evolves.writeWord | apply Evolves.ite | split | dsimp only | decide | rfl | intro _

theorem ev_broodAdvance (n : Nat) (u1 : State) : Evolves 2361183241434822606849 u1 (broodAdvance n u1) := by
  unfold broodAdvance
  with_reducible repeat'
    first
    | apply Evolves.refl | apply Evolves.advanceIndex | dsimp only | decide | rfl | intro _

theorem ev_actWrite (n : Nat) (word : Nat) (w : Nat) (s : State) :
    Evolves 1361129467683753853835051685653365262859 s (actWrite n word w s) := by
  unfold actWrite
  with_reducible repeat'
    first
    | apply Evolves.refl | apply Evolves.goWrite | apply Evolves.step (ev_tcmdGo ..)
    | apply Evolves.step (ev_todRequest ..) | apply Evolves.step (ev_actTermWrite ..)
    | apply Evolves.step (ev_broodAdvance ..) | apply Evolves.step (ev_ploamKeyWrite ..) | apply Evolves.writeReg
    | apply Evolves.ofPair ‹_› | apply Evolves.ofTriple ‹_› | split | dsimp only | decide | rfl | intro _

theorem ev_profAdvance (n : Nat) (s : State) : Evolves 18889465931478580854785 s (profAdvance n s) := by
  unfold profAdvance
  with_reducible repeat'
    first
    | apply Evolves.refl | apply Evolves.wr | apply Evolves.ite | split | dsimp only | decide | rfl | intro _

theorem ev_profWrite (n : Nat) (w : Nat) (s : State) :
    Evolves 265845599156983344585954795363296610827 s (profWrite n w s) := by
  unfold profWrite
  with_reducible repeat'
    first
    | apply Evolves.refl | apply Evolves.step (ev_profAdvance ..) | apply Evolves.step (ev_encReject ..)
    | apply Evolves.writeWord | apply Evolves.onlyIf | apply Evolves.ite | split | dsimp only | decide | rfl | intro _

theorem ev_allocWrite (n : Nat) (w : Nat) (s : State) :
    Evolves 255211775190703942044860612966730959371 s (allocWrite n w s) := by
  unfold allocWrite
  with_reducible repeat'
    first
    | apply Evolves.refl | apply Evolves.step (ev_State_setGrant ..) | apply Evolves.step (ev_allocCommit ..)
    | apply Evolves.advanceIndex | apply Evolves.ite | split | dsimp only | decide | rfl | intro _

theorem ev_grtWrite (n : Nat) (word : Nat) (w : Nat) (s : State) :
    Evolves 265845599156983457922750384234782263819 s (grtWrite n word w s) := by
  unfold grtWrite
  with_reducible repeat'
    first
    | apply Evolves.refl | apply Evolves.step (ev_witCfgWrite ..) | apply Evolves.step (ev_cellDataWrite ..)
    | apply Evolves.step (ev_allocWrite ..) | apply Evolves.step (ev_profWrite ..) | apply Evolves.writeReg
    | apply Evolves.ofPair ‹_› | apply Evolves.ofTriple ‹_› | split | dsimp only | decide | rfl | intro _

theorem ev_gsqCtlWrite (k : Nat) (w : Nat) (s : State) :
    Evolves 265845599156983476812216315713366264459 s (gsqCtlWrite k w s) := by
  unfold gsqCtlWrite
  with_reducible repeat'
    first
    | apply Evolves.refl | apply Evolves.step (ev_mirrorWord ..) | apply Evolves.step (ev_threadEnable ..)
    | apply Evolves.step (ev_threadDisable ..) | apply Evolves.writeReg | apply Evolves.allOf | apply Evolves.ite
    | split | dsimp only | decide | rfl | intro _

theorem ev_mirrorCfgWrite (k : Nat) (w : Nat) (s : State) :
    Evolves 265845599156983476812216315713363118603 s (mirrorCfgWrite k w s) := by
  unfold mirrorCfgWrite
  with_reducible repeat'
    first
    | apply Evolves.refl | apply Evolves.step (ev_encReject ..) | apply Evolves.step (ev_mirrorWord ..)
    | apply Evolves.writeReg | apply Evolves.ite | split | dsimp only | decide | rfl | intro _

theorem ev_swapWrite (k : Nat) (w : Nat) (s : State) :
    Evolves 255211775190704149828985859231123507723 s (swapWrite k w s) := by
  unfold swapWrite
  with_reducible repeat'
    first
    | apply Evolves.refl | apply Evolves.step (ev_handoverRequest ..) | apply Evolves.wr | apply Evolves.ite | split
    | dsimp only | decide | rfl | intro _

theorem ev_swapRegionWrite (k : Nat) (w : Nat) (s : State) :
    Evolves 265845599156983476812216315713362594315 s (swapRegionWrite k w s) := by
  unfold swapRegionWrite
  with_reducible repeat'
    first
    | apply Evolves.refl | apply Evolves.step (ev_encReject ..) | apply Evolves.writeReg | apply Evolves.ite | split
    | dsimp only | decide | rfl | intro _

theorem ev_gsqWrite (k : Nat) (word : Nat) (w : Nat) (s : State) :
    Evolves 265845599156985365758809463571451742859 s (gsqWrite k word w s) := by
  unfold gsqWrite
  with_reducible repeat'
    first
    | apply Evolves.refl | apply Evolves.step (ev_gsqCtlWrite ..) | apply Evolves.step (ev_mirrorCfgWrite ..)
    | apply Evolves.step (ev_swapWrite ..) | apply Evolves.step (ev_swapRegionWrite ..)
    | apply Evolves.step (ev_imemWrite ..) | apply Evolves.step (ev_dmemWrite ..)
    | apply Evolves.step (ev_ctxDataWrite ..) | apply Evolves.step (ev_traceCtlWrite ..)
    | apply Evolves.step (ev_thrRegionWrite ..) | apply Evolves.step (ev_mailboxWrite ..)
    | apply Evolves.step (ev_mirrorWord ..) | apply Evolves.writeReg | apply Evolves.onlyIf | apply Evolves.ite
    | apply Evolves.ofPair ‹_› | apply Evolves.ofTriple ‹_› | split | dsimp only | decide | rfl | intro _

theorem ev_poolWrite (word : Nat) (w : Nat) (s : State) :
    Evolves 265845599156983174875909317235421776395 s (poolWrite word w s) := by
  unfold poolWrite
  with_reducible repeat'
    first
    | apply Evolves.refl | apply Evolves.step (ev_decEnWrite ..) | apply Evolves.writeReg | apply Evolves.allOf
    | apply Evolves.ite | split | dsimp only | decide | rfl | intro _

theorem ev_bindGo (s : State) : Evolves 265845599157004991913912269816965106187 s (bindGo s) := by
  unfold bindGo
  with_reducible repeat'
    first
    | apply Evolves.refl | apply Evolves.step (ev_crlBind ..) | apply Evolves.step (ev_crlUnbind ..) | apply Evolves.ite
    | split | dsimp only | decide | rfl | intro _

theorem ev_hdrAdvance (u0 : State) : Evolves 2417851639229258349412353 u0 (hdrAdvance u0) := by
  unfold hdrAdvance
  with_reducible repeat'
    first
    | apply Evolves.refl | apply Evolves.advanceIndex | dsimp only | decide | rfl | intro _

theorem ev_crlWrite (word : Nat) (w : Nat) (s : State) :
    Evolves 1361129467683753853835051685653372209675 s (crlWrite word w s) := by
  unfold crlWrite
  with_reducible repeat'
    first
    | apply Evolves.refl | apply Evolves.goWrite | apply Evolves.step (ev_bindGo ..)
    | apply Evolves.step (ev_laneDataWrite ..) | apply Evolves.step (ev_hdrAdvance ..) | apply Evolves.wrWord
    | apply Evolves.writeReg | apply Evolves.ofPair ‹_› | apply Evolves.ofTriple ‹_› | split | dsimp only | decide | rfl
    | intro _

theorem ev_clsWrite (k : Nat) (word : Nat) (w : Nat) (s : State) :
    Evolves 1361129467683753853835051685653900167819 s (clsWrite k word w s) := by
  unfold clsWrite
  with_reducible repeat'
    first
    | apply Evolves.refl | apply Evolves.step (ev_hashSeedWrite ..) | apply Evolves.step (ev_emDataWrite ..)
    | apply Evolves.step (ev_emCmdWrite ..) | apply Evolves.step (ev_tblWrite ..) | apply Evolves.writeReg
    | apply Evolves.ofPair ‹_› | apply Evolves.ofTriple ‹_› | split | dsimp only | decide | rfl | intro _

theorem ev_lpmWrite (word : Nat) (w : Nat) (s : State) :
    Evolves 265845599394667662123554424837774510603 s (lpmWrite word w s) := by
  unfold lpmWrite
  with_reducible repeat'
    first
    | apply Evolves.refl | apply Evolves.step (ev_lpmCmdWrite ..) | apply Evolves.step (ev_lpmDataWrite ..)
    | apply Evolves.writeReg | apply Evolves.ofPair ‹_› | apply Evolves.ofTriple ‹_› | split | dsimp only | decide | rfl
    | intro _

theorem ev_bpmWrite (word : Nat) (w : Nat) (s : State) :
    Evolves 265845600107721124751933463178596325899 s (bpmWrite word w s) := by
  unfold bpmWrite
  with_reducible repeat'
    first
    | apply Evolves.refl | apply Evolves.step (ev_poolLock ..) | apply Evolves.step (ev_quotaWrite ..)
    | apply Evolves.step (ev_descSnapshot ..) | apply Evolves.writeReg | apply Evolves.onlyIf | apply Evolves.ofPair ‹_›
    | apply Evolves.ofTriple ‹_› | split | dsimp only | decide | rfl | intro _

theorem ev_cycleExtWrite (p : Nat) (w : Nat) (s : State) :
    Evolves 265845604227585575493679018042881739275 s (cycleExtWrite p w s) := by
  unfold cycleExtWrite
  with_reducible repeat'
    first
    | apply Evolves.refl | apply Evolves.step (ev_encReject ..) | apply Evolves.writeWord | apply Evolves.ite | split
    | dsimp only | decide | rfl | intro _

theorem ev_tmuPortWrite (p : Nat) (word : Nat) (w : Nat) (s : State) :
    Evolves 265845604227585575493679018042885933579 s (tmuPortWrite p word w s) := by
  unfold tmuPortWrite
  with_reducible repeat'
    first
    | apply Evolves.refl | apply Evolves.step (ev_tmuPortCfgWrite ..) | apply Evolves.step (ev_gateCtlWrite ..)
    | apply Evolves.step (ev_cycleExtWrite ..) | apply Evolves.writeWord | apply Evolves.ofPair ‹_›
    | apply Evolves.ofTriple ‹_› | split | dsimp only | decide | rfl | intro _

theorem ev_tmuNodeIdxWrite (w : Nat) (s : State) :
    Evolves 265845601692284375037220215049475328523 s (tmuNodeIdxWrite w s) := by
  unfold tmuNodeIdxWrite
  with_reducible repeat'
    first
    | apply Evolves.refl | apply Evolves.step (ev_encReject ..) | apply Evolves.writeReg | apply Evolves.ite | split
    | dsimp only | decide | rfl | intro _

theorem ev_tmuWrite (word : Nat) (w : Nat) (s : State) :
    Evolves 265845674899106538217468151484089653771 s (tmuWrite word w s) := by
  unfold tmuWrite
  with_reducible repeat'
    first
    | apply Evolves.refl | apply Evolves.step (ev_gclWrite ..) | apply Evolves.step (ev_tmuNodeIdxWrite ..)
    | apply Evolves.step (ev_nodeDataWrite ..) | apply Evolves.writeReg | apply Evolves.ofPair ‹_›
    | apply Evolves.ofTriple ‹_› | split | dsimp only | decide | rfl | intro _

theorem ev_rekeyStart (d : Nat) (s : State) : Evolves 265846004805175247614169891001128716811 s (rekeyStart d s) := by
  unfold rekeyStart
  with_reducible repeat'
    first
    | apply Evolves.refl | apply Evolves.step (ev_rekeyGo ..) | dsimp only | decide | rfl | intro _

theorem ev_cphWrite (d : Nat) (word : Nat) (w : Nat) (s : State) :
    Evolves 1361129467683753853835051685653397375499 s (cphWrite d word w s) := by
  unfold cphWrite
  with_reducible repeat'
    first
    | apply Evolves.refl | apply Evolves.step (ev_cphCtlWrite ..) | apply Evolves.step (ev_cipherPortWrite ..)
    | apply Evolves.step (ev_tkeyWrite ..) | apply Evolves.step (ev_flowDataWrite ..)
    | apply Evolves.step (ev_fkeyWrite ..) | apply Evolves.step (ev_ringWriteKey ..) | apply Evolves.goWrite
    | apply Evolves.step (ev_rekeyStart ..) | apply Evolves.writeReg | apply Evolves.ofPair ‹_›
    | apply Evolves.ofTriple ‹_› | split | dsimp only | decide | rfl | intro _

theorem ev_netWrite (n : Nat) (word : Nat) (w : Nat) (s : State) :
    Evolves 265846261821334443887681044461968693771 s (netWrite n word w s) := by
  unfold netWrite
  with_reducible repeat'
    first
    | apply Evolves.refl | apply Evolves.step (ev_portCfgWrite ..) | apply Evolves.step (ev_laneTestWrite ..)
    | apply Evolves.step (ev_encReject ..) | apply Evolves.writeReg | apply Evolves.ite | apply Evolves.ofPair ‹_›
    | apply Evolves.ofTriple ‹_› | split | dsimp only | decide | rfl | intro _

theorem ev_timWrite (word : Nat) (w : Nat) (s : State) :
    Evolves 946411631073074735214417759543960275563 s (timWrite word w s) := by
  unfold timWrite
  with_reducible repeat'
    first
    | apply Evolves.refl | apply Evolves.step (ev_timCtlWrite ..) | apply Evolves.step (ev_adjFreqWrite ..)
    | apply Evolves.step (ev_adjCmdWrite ..) | apply Evolves.step (ev_ptprCfgWrite ..) | apply Evolves.writeReg
    | apply Evolves.ofPair ‹_› | apply Evolves.ofTriple ‹_› | split | dsimp only | decide | rfl | intro _

theorem ev_sysWrite (word : Nat) (w : Nat) (s : State) :
    Evolves 265850791453841709408389942569578007051 s (sysWrite word w s) := by
  unfold sysWrite
  with_reducible repeat'
    first
    | apply Evolves.refl | apply Evolves.step (ev_sysCtlWrite ..) | apply Evolves.step (ev_sysKeyWrite ..)
    | apply Evolves.writeReg | apply Evolves.ofPair ‹_› | apply Evolves.ofTriple ‹_› | split | dsimp only | decide | rfl
    | intro _

theorem ev_rstWrite (word : Nat) (w : Nat) (s : State) :
    Evolves 1361129467683753853835051685722082770927 s (rstWrite word w s) := by
  unfold rstWrite
  with_reducible repeat'
    first
    | apply Evolves.refl | apply Evolves.step (ev_rstCmdWrite ..) | apply Evolves.step (ev_pinOvrWrite ..)
    | apply Evolves.writeReg | apply Evolves.ofPair ‹_› | apply Evolves.ofTriple ‹_› | split | dsimp only | decide | rfl
    | intro _

theorem ev_nvmWrite (word : Nat) (w : Nat) (s : State) :
    Evolves 266094829406192846306930875914231220747 s (nvmWrite word w s) := by
  unfold nvmWrite
  with_reducible repeat'
    first
    | apply Evolves.refl | apply Evolves.step (ev_nvmCmdWrite ..) | apply Evolves.step (ev_bufWordWrite ..)
    | apply Evolves.writeReg | apply Evolves.ofPair ‹_› | apply Evolves.ofTriple ‹_› | split | dsimp only | decide | rfl
    | intro _

theorem ev_otpWrite (word : Nat) (w : Nat) (s : State) :
    Evolves 267839441150660548390117122680849173003 s (otpWrite word w s) := by
  unfold otpWrite
  with_reducible repeat'
    first
    | apply Evolves.refl | apply Evolves.step (ev_otpCmdWrite ..) | apply Evolves.step (ev_pdataWrite ..)
    | apply Evolves.writeReg | apply Evolves.ofPair ‹_› | apply Evolves.ofTriple ‹_› | split | dsimp only | decide | rfl
    | intro _

theorem ev_cmdCtlWrite (w : Nat) (s : State) : Evolves 265845599156983174580761412056068917775 s (cmdCtlWrite w s) := by
  unfold cmdCtlWrite
  with_reducible repeat'
    first
    | apply Evolves.refl | apply Evolves.step (ev_usb4EnWrite ..) | apply Evolves.writeReg | apply Evolves.onlyIf
    | dsimp only | decide | rfl | intro _

theorem ev_sessWrite (i : Nat) (word : Nat) (w : Nat) (s : State) :
    Evolves 308380895022100482513683237985039944207 s (sessWrite i word w s) := by
  unfold sessWrite
  with_reducible repeat'
    first
    | apply Evolves.refl | apply Evolves.step (ev_sessCtlWrite ..) | apply Evolves.step (ev_headWrite ..)
    | apply Evolves.step (ev_ringRegWrite ..) | apply Evolves.ite | apply Evolves.ofPair ‹_›
    | apply Evolves.ofTriple ‹_› | split | dsimp only | decide | rfl | intro _

theorem ev_evtWrite (word : Nat) (w : Nat) (s : State) :
    Evolves 265845599156983174580761412056068917771 s (evtWrite word w s) := by
  unfold evtWrite
  with_reducible repeat'
    first
    | apply Evolves.refl | apply Evolves.step (ev_dlvEnWrite ..) | apply Evolves.writeReg | apply Evolves.ite | split
    | dsimp only | decide | rfl | intro _

theorem ev_srcWrite (i : Nat) (word : Nat) (w : Nat) (s : State) :
    Evolves 265845599156983174580761412056068917771 s (srcWrite i word w s) := by
  unfold srcWrite
  with_reducible repeat'
    first
    | apply Evolves.refl | apply Evolves.step (ev_eventEnWrite ..) | apply Evolves.step (ev_captureRelease ..)
    | apply Evolves.writeReg | apply Evolves.onlyIf | apply Evolves.ofPair ‹_› | apply Evolves.ofTriple ‹_› | split
    | dsimp only | decide | rfl | intro _

theorem ev_pmuCWrite (i : Nat) (word : Nat) (w : Nat) (s : State) :
    Evolves 946410332998860101507510626919605340683 s (pmuCWrite i word w s) := by
  unfold pmuCWrite
  with_reducible repeat'
    first
    | apply Evolves.refl | apply Evolves.step (ev_pmuCfgWrite ..) | apply Evolves.step (ev_pmuArgWrite ..)
    | apply Evolves.step (ev_valLoWrite ..) | apply Evolves.step (ev_valHiWrite ..) | apply Evolves.writeReg
    | apply Evolves.ofPair ‹_› | apply Evolves.ofTriple ‹_› | split | dsimp only | decide | rfl | intro _

theorem ev_blockWrite (sp : Sp) (i : Nat) (word : Nat) (w : Nat) (s : State) :
    Evolves 1361129467683753853835051685722082770927 s (blockWrite sp i word w s) := by
  unfold blockWrite
  with_reducible repeat'
    first
    | apply Evolves.refl | apply Evolves.step (ev_tlnWrite ..) | apply Evolves.step (ev_tfrWrite ..)
    | apply Evolves.step (ev_actWrite ..) | apply Evolves.step (ev_grtWrite ..) | apply Evolves.step (ev_gsqWrite ..)
    | apply Evolves.step (ev_poolWrite ..) | apply Evolves.step (ev_crlWrite ..)
    | apply Evolves.step (ev_channelWrite ..) | apply Evolves.step (ev_clsWrite ..)
    | apply Evolves.step (ev_lpmWrite ..) | apply Evolves.step (ev_bpmWrite ..)
    | apply Evolves.step (ev_nodeDataWrite ..) | apply Evolves.step (ev_tmuWrite ..)
    | apply Evolves.step (ev_tmuPortWrite ..) | apply Evolves.step (ev_cphWrite ..)
    | apply Evolves.step (ev_netWrite ..) | apply Evolves.step (ev_timWrite ..)
    | apply Evolves.step (ev_roleCmdWrite ..) | apply Evolves.step (ev_track ..) | apply Evolves.step (ev_sysWrite ..)
    | apply Evolves.step (ev_rstWrite ..) | apply Evolves.step (ev_nvmWrite ..) | apply Evolves.step (ev_otpWrite ..)
    | apply Evolves.step (ev_cmdCtlWrite ..) | apply Evolves.step (ev_sessWrite ..)
    | apply Evolves.step (ev_evtWrite ..) | apply Evolves.step (ev_srcWrite ..) | apply Evolves.step (ev_pmuCtlWrite ..)
    | apply Evolves.step (ev_pmuCWrite ..) | apply Evolves.step (ev_writeReg ..) | apply Evolves.ite
    | apply Evolves.ofPair ‹_› | apply Evolves.ofTriple ‹_› | split | dsimp only | decide | rfl | intro _

end Sys2Proof.Machine
end

