-- ==== Sys2Proof/Laws/EvReads.lean ====
section
/-!
SUPPORT. What the operations of Machine/Reads.lean may touch (Safety.lean, Evolves).
-/

namespace Sys2Proof.Machine

set_option Elab.async false
set_option linter.all false

theorem ev_statusRead (sp : Sp) (i : Nat) (word : Nat) (l : List (Fld × Nat)) (s : State) :
    Evolves 1361129467683753853835051685653363294211 s (statusRead sp i word l s).2 := by
  unfold statusRead
  with_reducible repeat'
    first
    | apply Evolves.refl | apply Evolves.step (ev_readWord ..) | dsimp only | decide | rfl | intro _

theorem Evolves.tableRead {m : Nat} {s t : State} {sp : Sp} {i x word : Nat} {f : State → State} (hf : ∀ x, Evolves m x (f x))
    (h : Evolves m s t) (hm : 1361129467683753853835051685653363294211 ||| m = m := by decide) : Evolves m s (tableRead sp i x word f t).2 := by
  have hm' : ∀ k, k ||| 1361129467683753853835051685653363294211 = 1361129467683753853835051685653363294211 → k ||| m = m := fun k hk => by rw [← hm, ← Nat.or_assoc, hk]
  unfold Machine.tableRead
  with_reducible repeat'
    first
    | exact h | exact hm' _ (by decide) | apply Evolves.trans (h := hf _) | apply Evolves.refl
    | apply Evolves.step (hm := hm' _ (by decide)) (ev_readWord ..) | dsimp only | decide | rfl | intro _

theorem ev_tlnRead (n : Nat) (word : Nat) (s : State) :
    Evolves 1361129467683753853835051685653363294211 s (tlnRead n word s).2 := by
  unfold tlnRead
  with_reducible repeat'
    first
    | apply Evolves.refl | apply Evolves.step (ev_presetAdvance ..) | apply Evolves.step (ev_statusRead ..)
    | apply Evolves.readWord | apply Evolves.ofPair ‹_› | apply Evolves.ofTriple ‹_› | split | dsimp only | decide | rfl
    | intro _

theorem ev_tfrRead (n : Nat) (word : Nat) (s : State) :
    Evolves 1361129467683753853835051685653363296259 s (tfrRead n word s).2 := by
  unfold tfrRead
  with_reducible repeat'
    first
    | apply Evolves.refl | apply Evolves.step (ev_sfcLoRead ..) | apply Evolves.step (ev_statusRead ..)
    | apply Evolves.tableRead | apply Evolves.step (ev_tfrTermAdvance ..) | apply Evolves.readWord
    | apply Evolves.ofPair ‹_› | apply Evolves.ofTriple ‹_› | split | dsimp only | decide | rfl | intro _

theorem ev_keyAdvance (n : Nat) (u1 : State) : Evolves 2361183241434822606849 u1 (keyAdvance n u1) := by
  unfold keyAdvance
  with_reducible repeat'
    first
    | apply Evolves.refl | apply Evolves.advanceIndex | dsimp only | decide | rfl | intro _

theorem ev_actRead (n : Nat) (word : Nat) (s : State) :
    Evolves 1361129467683753853835051685653363294211 s (actRead n word s).2 := by
  unfold actRead
  with_reducible repeat'
    first
    | apply Evolves.refl | apply Evolves.step (ev_statusRead ..) | apply Evolves.tableRead
    | apply Evolves.step (ev_actTermAdvance ..) | apply Evolves.step (ev_broodAdvance ..)
    | apply Evolves.step (ev_keyAdvance ..) | apply Evolves.readWord | apply Evolves.ofPair ‹_›
    | apply Evolves.ofTriple ‹_› | split | dsimp only | decide | rfl | intro _

theorem ev_grtRead (n : Nat) (word : Nat) (s : State) :
    Evolves 1361129467683753853835051685653363294211 s (grtRead n word s).2 := by
  unfold grtRead
  with_reducible repeat'
    first
    | apply Evolves.refl | apply Evolves.step (ev_statusRead ..) | apply Evolves.tableRead
    | apply Evolves.step (ev_profAdvance ..) | apply Evolves.advanceWord | apply Evolves.advanceIndex
    | apply Evolves.readWord | apply Evolves.ite | apply Evolves.ofPair ‹_› | apply Evolves.ofTriple ‹_› | split
    | dsimp only | decide | rfl | intro _

theorem ev_traceRead (k : Nat) (s : State) : Evolves 302231454903657293676545 s (traceRead k s).2 := by
  unfold traceRead
  with_reducible repeat'
    first
    | apply Evolves.refl | apply Evolves.advanceIndex | apply Evolves.ite | split | dsimp only | decide | rfl | intro _

theorem ev_gsqRead (k : Nat) (word : Nat) (s : State) : Evolves 302231454903657293676545 s (gsqRead k word s).2 := by
  unfold gsqRead
  with_reducible repeat'
    first
    | apply Evolves.refl | apply Evolves.step (ev_ctxAdvance ..) | apply Evolves.step (ev_traceRead ..)
    | apply Evolves.stepIndex | apply Evolves.readWord | apply Evolves.ite | apply Evolves.ofPair ‹_›
    | apply Evolves.ofTriple ‹_› | split | dsimp only | decide | rfl | intro _

theorem ev_poolRead (word : Nat) (s : State) :
    Evolves 1361129467683753853835051685653363294211 s (poolRead word s).2 := by
  unfold poolRead
  with_reducible repeat'
    first
    | apply Evolves.refl | apply Evolves.step (ev_statusRead ..) | apply Evolves.readWord | apply Evolves.ite | split
    | dsimp only | decide | rfl | intro _

theorem ev_crlRead (word : Nat) (s : State) :
    Evolves 1361129467683753853835051685653363294211 s (crlRead word s).2 := by
  unfold crlRead
  with_reducible repeat'
    first
    | apply Evolves.refl | apply Evolves.tableRead | apply Evolves.step (ev_laneAdvance ..)
    | apply Evolves.step (ev_hdrAdvance ..) | apply Evolves.readWord | apply Evolves.ofPair ‹_›
    | apply Evolves.ofTriple ‹_› | split | dsimp only | decide | rfl | intro _

theorem ev_ohpRead (p : Nat) (word : Nat) (s : State) : Evolves 4835703278458516698824705 s (ohpRead p word s).2 := by
  unfold ohpRead
  with_reducible repeat'
    first
    | apply Evolves.refl | apply Evolves.stepIndex | apply Evolves.readWord | apply Evolves.ite | split | dsimp only
    | decide | rfl | intro _

theorem ev_clsRead (k : Nat) (word : Nat) (s : State) : Evolves 77371252455336267181195265 s (clsRead k word s).2 := by
  unfold clsRead
  with_reducible repeat'
    first
    | apply Evolves.refl | apply Evolves.step (ev_emDataRead ..) | apply Evolves.step (ev_tblRead ..)
    | apply Evolves.readWord | apply Evolves.ofPair ‹_› | apply Evolves.ofTriple ‹_› | split | dsimp only | decide | rfl
    | intro _

theorem ev_quotaAdvance (s : State) : Evolves 316912650057057350374175801345 s (quotaAdvance s) := by
  unfold quotaAdvance
  with_reducible repeat'
    first
    | apply Evolves.refl | apply Evolves.wr | apply Evolves.onlyIf | apply Evolves.ite | split | dsimp only | decide
    | rfl | intro _

theorem ev_bpmRead (word : Nat) (s : State) :
    Evolves 1361129467683753853835051685653363294211 s (bpmRead word s).2 := by
  unfold bpmRead
  with_reducible repeat'
    first
    | apply Evolves.refl | apply Evolves.step (ev_statusRead ..) | apply Evolves.tableRead
    | apply Evolves.step (ev_quotaAdvance ..) | apply Evolves.readWord | apply Evolves.ite | apply Evolves.ofPair ‹_›
    | apply Evolves.ofTriple ‹_› | split | dsimp only | decide | rfl | intro _

theorem ev_nodeRead (m : Nat) (s : State) : Evolves 13944156602510523416463735261185 s (nodeRead m s).2 := by
  unfold nodeRead
  with_reducible repeat'
    first
    | apply Evolves.refl | apply Evolves.step (ev_nodeDataRead ..) | dsimp only | decide | rfl | intro _

theorem ev_gclRead (s : State) : Evolves 1361129467683753853835051685653363294211 s (gclRead s).2 := by
  unfold gclRead
  with_reducible repeat'
    first
    | apply Evolves.refl | apply Evolves.tableRead | apply Evolves.advanceIndex | dsimp only | decide | rfl | intro _

theorem ev_tmuRead (word : Nat) (s : State) :
    Evolves 1361129467683753853835051685653363296259 s (tmuRead word s).2 := by
  unfold tmuRead
  with_reducible repeat'
    first
    | apply Evolves.refl | apply Evolves.step (ev_gclRead ..) | apply Evolves.step (ev_nodeRead ..)
    | apply Evolves.readWord | apply Evolves.ofPair ‹_› | apply Evolves.ofTriple ‹_› | split | dsimp only | decide | rfl
    | intro _

theorem ev_tmuPortRead (p : Nat) (word : Nat) (s : State) :
    Evolves 1361129467683753853835051685653363294211 s (tmuPortRead p word s).2 := by
  unfold tmuPortRead
  with_reducible repeat'
    first
    | apply Evolves.refl | apply Evolves.step (ev_statusRead ..) | apply Evolves.readWord | apply Evolves.ite | split
    | dsimp only | decide | rfl | intro _

theorem ev_cphRead (d : Nat) (word : Nat) (s : State) :
    Evolves 1361129467683753853835051685653363294211 s (cphRead d word s).2 := by
  unfold cphRead
  with_reducible repeat'
    first
    | apply Evolves.refl | apply Evolves.step (ev_statusRead ..) | apply Evolves.tableRead
    | apply Evolves.step (ev_portAdvance ..) | apply Evolves.stepIndex | apply Evolves.advanceIndex
    | apply Evolves.readWord | apply Evolves.ofPair ‹_› | apply Evolves.ofTriple ‹_› | split | dsimp only | decide | rfl
    | intro _

theorem ev_netRead (n : Nat) (word : Nat) (s : State) :
    Evolves 649037107316853453566312175370241 s (netRead n word s).2 := by
  unfold netRead
  with_reducible repeat'
    first
    | apply Evolves.refl | apply Evolves.step (ev_txtsRead ..) | apply Evolves.readWord | apply Evolves.ite
    | apply Evolves.ofPair ‹_› | apply Evolves.ofTriple ‹_› | split | dsimp only | decide | rfl | intro _

theorem ev_timRead (word : Nat) (s : State) : Evolves 1298074214633706907132624082305025 s (timRead word s).2 := by
  unfold timRead
  with_reducible repeat'
    first
    | apply Evolves.refl | apply Evolves.step (ev_timeSecRead ..) | apply Evolves.readWord | apply Evolves.ofPair ‹_›
    | apply Evolves.ofTriple ‹_› | split | dsimp only | decide | rfl | intro _

theorem ev_sysRead (word : Nat) (s : State) :
    Evolves 1361129467683753853835051685653363294211 s (sysRead word s).2 := by
  unfold sysRead
  with_reducible repeat'
    first
    | apply Evolves.refl | apply Evolves.step (ev_statusRead ..) | apply Evolves.step (ev_peerRead ..)
    | apply Evolves.stepIndex | apply Evolves.readWord | apply Evolves.ofPair ‹_› | apply Evolves.ofTriple ‹_› | split
    | dsimp only | decide | rfl | intro _

theorem ev_pinDriven (p : Nat) (s : State) : Evolves 128 s (pinDriven p s).2 := by
  unfold pinDriven
  with_reducible repeat'
    first
    | apply Evolves.refl | apply Evolves.step (ev_drawFree ..) | apply Evolves.ite | apply Evolves.ofPair ‹_›
    | apply Evolves.ofTriple ‹_› | split | dsimp only | decide | rfl | intro _

theorem ev_pinStatus (p : Nat) (s : State) : Evolves 128 s (pinStatus p s).2 := by
  unfold pinStatus
  with_reducible repeat'
    first
    | apply Evolves.refl | apply Evolves.step (ev_pinDriven ..) | apply Evolves.ite | apply Evolves.ofPair ‹_›
    | apply Evolves.ofTriple ‹_› | split | dsimp only | decide | rfl | intro _

theorem ev_rstRead (word : Nat) (s : State) : Evolves 20769187434139310514121985316880513 s (rstRead word s).2 := by
  unfold rstRead
  with_reducible repeat'
    first
    | apply Evolves.refl | apply Evolves.step (ev_pinStatus ..) | apply Evolves.stepIndex | apply Evolves.readWord
    | apply Evolves.ite | apply Evolves.ofPair ‹_› | apply Evolves.ofTriple ‹_› | split | dsimp only | decide | rfl
    | intro _

theorem ev_clkRead (word : Nat) (s : State) : Evolves 41538374868278621028243970633760769 s (clkRead word s).2 := by
  unfold clkRead
  with_reducible repeat'
    first
    | apply Evolves.refl | apply Evolves.stepIndex | apply Evolves.readWord | apply Evolves.ite | split | dsimp only
    | decide | rfl | intro _

theorem ev_nvmRead (word : Nat) (s : State) : Evolves 83076749736557242056487941267521537 s (nvmRead word s).2 := by
  unfold nvmRead
  with_reducible repeat'
    first
    | apply Evolves.refl | apply Evolves.step (ev_bufWordRead ..) | apply Evolves.readWord | apply Evolves.ofPair ‹_›
    | apply Evolves.ofTriple ‹_› | split | dsimp only | decide | rfl | intro _

theorem ev_otpRead (word : Nat) (s : State) : Evolves 664613997892457936451903530140172289 s (otpRead word s).2 := by
  unfold otpRead
  with_reducible repeat'
    first
    | apply Evolves.refl | apply Evolves.step (ev_shRead ..) | apply Evolves.stepIndex | apply Evolves.readWord
    | apply Evolves.ofPair ‹_› | apply Evolves.ofTriple ‹_› | split | dsimp only | decide | rfl | intro _

theorem ev_sessRead (i : Nat) (word : Nat) (s : State) :
    Evolves 42535295865117307932921825928971026433 s (sessRead i word s).2 := by
  unfold sessRead
  with_reducible repeat'
    first
    | apply Evolves.refl | apply Evolves.readWord | apply Evolves.ofPair ‹_› | apply Evolves.ofTriple ‹_› | split
    | dsimp only | decide | rfl | intro _

theorem ev_evtRead (word : Nat) (s : State) : Evolves 85070591730234615865843651857942052866 s (evtRead word s).2 := by
  unfold evtRead
  with_reducible repeat'
    first
    | apply Evolves.refl | apply Evolves.readWord | apply Evolves.ite | split | dsimp only | decide | rfl | intro _

theorem ev_pmuCRead (i : Nat) (word : Nat) (s : State) :
    Evolves 680564733841876926926749214863536422921 s (pmuCRead i word s).2 := by
  unfold pmuCRead
  with_reducible repeat'
    first
    | apply Evolves.refl | apply Evolves.step (ev_valLoRead ..) | apply Evolves.readWord | apply Evolves.ofPair ‹_›
    | apply Evolves.ofTriple ‹_› | split | dsimp only | decide | rfl | intro _

theorem ev_blockRead (sp : Sp) (i : Nat) (word : Nat) (s : State) :
    Evolves 1361129467683753853835051685653497514123 s (blockRead sp i word s).2 := by
  unfold blockRead
  with_reducible repeat'
    first
    | apply Evolves.refl | apply Evolves.step (ev_tlnRead ..) | apply Evolves.step (ev_tfrRead ..)
    | apply Evolves.step (ev_actRead ..) | apply Evolves.step (ev_grtRead ..) | apply Evolves.step (ev_gsqRead ..)
    | apply Evolves.step (ev_poolRead ..) | apply Evolves.step (ev_crlRead ..) | apply Evolves.step (ev_ohpRead ..)
    | apply Evolves.step (ev_clsRead ..) | apply Evolves.step (ev_lpmDataRead ..) | apply Evolves.step (ev_bpmRead ..)
    | apply Evolves.step (ev_nodeRead ..) | apply Evolves.step (ev_tmuRead ..) | apply Evolves.step (ev_tmuPortRead ..)
    | apply Evolves.step (ev_cphRead ..) | apply Evolves.step (ev_netRead ..) | apply Evolves.step (ev_timRead ..)
    | apply Evolves.step (ev_ofsRead ..) | apply Evolves.step (ev_sysRead ..) | apply Evolves.step (ev_rstRead ..)
    | apply Evolves.step (ev_clkRead ..) | apply Evolves.step (ev_nvmRead ..) | apply Evolves.step (ev_otpRead ..)
    | apply Evolves.step (ev_sessRead ..) | apply Evolves.step (ev_evtRead ..) | apply Evolves.step (ev_pmuCRead ..)
    | apply Evolves.step (ev_readWord ..) | apply Evolves.ite | apply Evolves.ofPair ‹_› | apply Evolves.ofTriple ‹_›
    | split | dsimp only | decide | rfl | intro _

end Sys2Proof.Machine
end

