-- ==== Sys2Proof/Laws/EvAccess.lean ====
section
/-!
SUPPORT. What the operations of Machine/Access.lean may touch (Safety.lean, Evolves).
-/

namespace Sys2Proof.Machine

set_option Elab.async false
set_option linter.all false

theorem ev_regWrite (ofs : Nat) (v : Nat) (s : State) :
    Evolves 1361129467683753853835051685722082770927 s (regWrite ofs v s) := by
  unfold regWrite
  with_reducible repeat'
    first
    | apply Evolves.refl | apply Evolves.step (ev_setVerdict ..) | apply Evolves.step (ev_unmapped ..)
    | apply Evolves.step (ev_wrapperAnswer ..) | apply Evolves.guarded | apply Evolves.step (ev_blockWrite ..)
    | apply Evolves.ite | apply Evolves.ofPair ‹_› | apply Evolves.ofTriple ‹_› | split | dsimp only | decide | rfl
    | intro _

theorem ev_regRead (ofs : Nat) (s : State) : Evolves 1361129467683753853835051685653497514635 s (regRead ofs s).2 := by
  unfold regRead
  with_reducible repeat'
    first
    | apply Evolves.refl | apply Evolves.step (ev_setVerdict ..) | apply Evolves.step (ev_unmapped ..)
    | apply Evolves.step (ev_wrapperAnswer ..) | apply Evolves.guarded | apply Evolves.step (ev_blockRead ..)
    | apply Evolves.ofId | apply Evolves.ite | apply Evolves.ofPair ‹_› | apply Evolves.ofTriple ‹_› | split
    | dsimp only | decide | rfl | intro _

theorem Evolves.asSource {m : Nat} {s t : State} {src : Nat} {f : State → State} (hf : ∀ x, Evolves m x (f x))
    (h : Evolves m s t) (hm : 2048 ||| m = m := by decide) : Evolves m s (asSource src f t) := by
  have hm' : ∀ k, k ||| 2048 = 2048 → k ||| m = m := fun k hk => by rw [← hm, ← Nat.or_assoc, hk]
  unfold Machine.asSource
  with_reducible repeat'
    first
    | exact h | exact hm' _ (by decide) | apply Evolves.trans (h := hf _) | apply Evolves.refl
    | apply Evolves.step (hm := hm' _ (by decide)) (ev_State_setCmd ..) | dsimp only | decide | rfl | intro _

theorem ev_answerError (ofs : Nat) (v : Nat) (s : State) :
    Evolves 255211775190703847597530955573826159114 s (answerError ofs v s) := by
  unfold answerError
  with_reducible repeat'
    first
    | apply Evolves.refl | apply Evolves.step (ev_accessCause ..) | apply Evolves.onlyIf | dsimp only | decide | rfl
    | intro _

theorem ev_busWrite (ofs : Nat) (v : Nat) (s : State) :
    Evolves 1361129467683753853835051685722082770927 s (busWrite ofs v s) := by
  unfold busWrite
  with_reducible repeat'
    first
    | apply Evolves.refl | apply Evolves.step (ev_answerError ..) | apply Evolves.step (ev_regWrite ..) | dsimp only
    | decide | rfl | intro _

theorem ev_busRead (ofs : Nat) (s : State) : Evolves 1361129467683753853835051685653497514635 s (busRead ofs s).2 := by
  unfold busRead
  with_reducible repeat'
    first
    | apply Evolves.refl | apply Evolves.step (ev_regRead ..) | apply Evolves.step (ev_answerError ..) | dsimp only
    | decide | rfl | intro _

theorem ev_indStatus (s : State) : Evolves 10633823966279326983230456482242756609 s (indStatus s) := by
  unfold indStatus
  with_reducible repeat'
    first
    | apply Evolves.refl | apply Evolves.wr | apply Evolves.onlyIf | dsimp only | decide | rfl | intro _

theorem ev_indAdvance (s : State) : Evolves 10633823966279326983230456482242756609 s (indAdvance s) := by
  unfold indAdvance
  with_reducible repeat'
    first
    | apply Evolves.refl | apply Evolves.wr | apply Evolves.onlyIf | dsimp only | decide | rfl | intro _

theorem ev_indAt (ofs : Nat) (w : Option Nat) (s : State) :
    Evolves 1361129467683753853835051685722082770927 s (indAt ofs w s).2 := by
  unfold indAt
  with_reducible repeat'
    first
    | apply Evolves.refl | apply Evolves.step (ev_regWrite ..) | apply Evolves.step (ev_regRead ..)
    | apply Evolves.step (ev_indStatus ..) | apply Evolves.step (ev_accessCause ..) | apply Evolves.onlyIf
    | apply Evolves.ofPair ‹_› | apply Evolves.ofTriple ‹_› | split | dsimp only | decide | rfl | intro _

theorem ev_mmioUnmapped (ofs : Nat) (v : Nat) (s : State) :
    Evolves 265845599156983174580761412056068917771 s (mmioUnmapped ofs v s) := by
  unfold mmioUnmapped
  with_reducible repeat'
    first
    | apply Evolves.refl | apply Evolves.step (ev_unmapped ..) | dsimp only | decide | rfl | intro _

theorem ev_mmioRead (ofs : Nat) (s : State) :
    Evolves 1361129467683753853835051685653497514635 s (mmioRead ofs s).2 := by
  unfold mmioRead
  with_reducible repeat'
    first
    | apply Evolves.refl | apply Evolves.step (ev_drawFree ..) | apply Evolves.step (ev_mmioUnmapped ..)
    | apply Evolves.step (ev_busRead ..) | apply Evolves.step (ev_indStatus ..) | apply Evolves.readWord
    | apply Evolves.ite | split | dsimp only | decide | rfl | intro _

theorem ev_mmioWrite (ofs : Nat) (v : Nat) (s : State) :
    Evolves 1361129467683753853835051685722082770927 s (mmioWrite ofs v s) := by
  unfold mmioWrite
  with_reducible repeat'
    first
    | apply Evolves.refl | apply Evolves.step (ev_State_setCmd ..) | apply Evolves.step (ev_mmioUnmapped ..)
    | apply Evolves.step (ev_indStatus ..) | apply Evolves.step (ev_busWrite ..) | apply Evolves.writeReg
    | apply Evolves.ite | split | dsimp only | decide | rfl | intro _

theorem ev_doAccess (a : PortWait) (s : State) :
    Evolves 1361129467683753853835051685722082770927 s (doAccess a s).2 := by
  unfold doAccess
  with_reducible repeat'
    first
    | apply Evolves.refl | apply Evolves.step (ev_indAt ..) | apply Evolves.step (ev_mmioWrite ..)
    | apply Evolves.step (ev_mmioRead ..) | apply Evolves.step (ev_State_setCmd ..)
    | apply Evolves.step (ev_busWrite ..) | apply Evolves.step (ev_busRead ..) | apply Evolves.ite
    | apply Evolves.ofPair ‹_› | apply Evolves.ofTriple ‹_› | split | dsimp only | decide | rfl | intro _

theorem ev_portAccess (a : PortWait) (s : State) :
    Evolves 1361129467683753853835051685722082770927 s (portAccess a s) := by
  unfold portAccess
  with_reducible repeat'
    first
    | apply Evolves.refl | apply Evolves.step (ev_State_setCmd ..) | apply Evolves.step (ev_doAccess ..)
    | apply Evolves.step (ev_startDue ..) | apply Evolves.step (ev_setRead ..) | apply Evolves.ite | split | dsimp only
    | decide | rfl | intro _

theorem ev_drainPorts (s : State) : Evolves 1361129467683753853835051685722082770927 s (drainPorts s) := by
  unfold drainPorts
  with_reducible repeat'
    first
    | apply Evolves.refl | apply Evolves.step (ev_portAccess ..) | apply Evolves.step (ev_State_setCmd ..)
    | apply Evolves.allOf | dsimp only | decide | rfl | intro _

theorem ev_indDataAccess (w : Option Nat) (s : State) :
    Evolves 1361129467683753853835051685722082770927 s (indDataAccess w s) := by
  unfold indDataAccess
  with_reducible repeat'
    first
    | apply Evolves.refl | apply Evolves.step (ev_indAdvance ..) | apply Evolves.step (ev_portAccess ..)
    | apply Evolves.ite | split | dsimp only | decide | rfl | intro _

theorem ev_execIndDataAccess (w : Option Word) (s : State) :
    OutEvolves 1361129467683753853835051685722082770927 s (execIndDataAccess w s) := by
  unfold execIndDataAccess
  with_reducible repeat'
    first
    | apply Evolves.refl | apply OutEvolves.onIsland | apply Evolves.step (ev_indDataAccess ..) | dsimp only | decide
    | rfl | intro _

theorem ev_writeWords (ofs step : Nat) (l : List Nat) (s : State) :
    Evolves 1361129467683753853835051685722082770927 s (writeWords ofs step l s) := by
  induction l generalizing ofs s with
  | nil =>
    unfold writeWords
    with_reducible repeat'
      first
      | apply Evolves.refl | apply Evolves.step (ev_busWrite ..) | dsimp only | decide | rfl | intro _
  | cons v l ih =>
    unfold writeWords
    with_reducible repeat'
      first
      | apply Evolves.step (ih ..) | apply Evolves.refl | apply Evolves.step (ev_busWrite ..) | dsimp only | decide | rfl
      | intro _

theorem ev_tableGroups (n : Nat) (l : List Nat) (s : State) : Evolves 1361129467683753853835051685722082770927 s (tableGroups n l s).2 := by
  fun_induction tableGroups n l s
  all_goals
    with_reducible repeat'
      first
      | assumption | apply Evolves.refl | apply Evolves.trans ?_ ‹_› | apply Evolves.step (ev_writeWords ..)
      | apply Evolves.step (ev_busWrite ..) | apply Evolves.ofPair ‹_› | apply Evolves.step (ev_busRead ..)
      | apply Evolves.ite | split | dsimp only | decide | rfl | intro _

end Sys2Proof.Machine
end

