-- ==== Sys2Proof/Laws/EvImage.lean ====
section
/-!
SUPPORT. What the operations of Machine/Image.lean may touch (Safety.lean, Evolves).
-/

namespace Sys2Proof.Machine

set_option Elab.async false
set_option linter.all false

theorem ev_setRun (r : Option RunNow) (s : State) : Evolves 34359738368 s (setRun r s) := by
  unfold setRun
  with_reducible repeat'
    first
    | apply Evolves.refl | apply Evolves.step (ev_State_setNvm ..) | dsimp only | decide | rfl | intro _

theorem Evolves.asRecord {m : Nat} {s t : State}  {f : State → State} (hf : ∀ x, Evolves m x (f x))
    (h : Evolves m s t) (hm : 1361129467683753853835051685722082770831 ||| m = m := by decide) : Evolves m s (asRecord f t) := by
  have hm' : ∀ k, k ||| 1361129467683753853835051685722082770831 = 1361129467683753853835051685722082770831 → k ||| m = m := fun k hk => by rw [← hm, ← Nat.or_assoc, hk]
  unfold Machine.asRecord
  with_reducible repeat'
    first
    | exact h | exact hm' _ (by decide) | exact hf | apply Evolves.refl
    | apply Evolves.step (hm := hm' _ (by decide)) (ev_startDue ..) | apply Evolves.asSource | dsimp only | decide
    | rfl | intro _

theorem ev_flashYield (s : State) : Evolves 34359738368 s (flashYield s) := by
  unfold flashYield
  with_reducible repeat'
    first
    | apply Evolves.refl | apply Evolves.step (ev_State_setNvm ..) | apply Evolves.ite | apply Evolves.ofPair ‹_›
    | apply Evolves.ofTriple ‹_› | split | dsimp only | decide | rfl | intro _

theorem ev_applyDone (s : State) : Evolves 255297448088869974484856612463504918155 s (applyDone s) := by
  unfold applyDone
  with_reducible repeat'
    first
    | apply Evolves.refl | apply Evolves.step (ev_singleActive ..) | apply Evolves.step (ev_State_setPair ..)
    | apply Evolves.step (ev_nvmCause ..) | apply Evolves.step (ev_State_setNvm ..) | apply Evolves.bump
    | apply Evolves.ite | split | dsimp only | decide | rfl | intro _

theorem ev_beginRun (e : DirEntry) (replay : Bool) (skips : Bool) (u3 : State) :
    Evolves 34359738368 u3 (beginRun e replay skips u3) := by
  unfold beginRun
  with_reducible repeat'
    first
    | apply Evolves.refl | apply Evolves.step (ev_setRun ..) | dsimp only | decide | rfl | intro _

theorem ev_runApply (s : State) : Evolves 255297448088869974484856612463504918155 s (runApply s) := by
  unfold runApply
  with_reducible repeat'
    first
    | apply Evolves.refl | apply Evolves.step (ev_State_setNvm ..) | apply Evolves.step (ev_beginRun ..)
    | apply Evolves.step (ev_applyDone ..) | apply Evolves.ite | apply Evolves.ofPair ‹_› | apply Evolves.ofTriple ‹_›
    | split | dsimp only | decide | rfl | intro _

theorem ev_execRunApply (s : State) : OutEvolves 255297448088869974484856612463504918155 s (execRunApply s) := by
  unfold execRunApply
  with_reducible repeat'
    first
    | apply Evolves.refl | apply OutEvolves.onIsland | apply Evolves.step (ev_runApply ..) | dsimp only | decide | rfl
    | intro _

theorem ev_runOver (s : State) : Evolves 255297448088869974484856612463504918155 s (runOver s) := by
  unfold runOver
  with_reducible repeat'
    first
    | apply Evolves.refl | apply Evolves.step (ev_setRun ..) | apply Evolves.step (ev_flashYield ..)
    | apply Evolves.step (ev_applyDone ..) | apply Evolves.step (ev_State_setNvm ..) | dsimp only | decide | rfl
    | intro _

theorem ev_runFail (e : DirEntry) (s : State) : Evolves 1361129467683753853835051685722082770831 s (runFail e s) := by
  unfold runFail
  with_reducible repeat'
    first
    | apply Evolves.refl | apply Evolves.step (ev_nvmCause ..) | apply Evolves.step (ev_enterBlock ..)
    | apply Evolves.step (ev_setRun ..) | apply Evolves.step (ev_nextPhase ..) | apply Evolves.step (ev_runOver ..)
    | apply Evolves.step (ev_State_setIsland ..) | apply Evolves.bump | apply Evolves.onlyIf | dsimp only | decide | rfl
    | intro _

theorem Evolves.atRecord {m : Nat} {s t : State} {type : Nat} {f : RunNow → Nat → List Nat → State → State} (hf : ∀ r a l x, Evolves m x (f r a l x))
    (h : Evolves m s t) (hm : 1361129467683753853835051685722082770831 ||| m = m := by decide) : Evolves m s (atRecord type f t) := by
  have hm' : ∀ k, k ||| 1361129467683753853835051685722082770831 = 1361129467683753853835051685722082770831 → k ||| m = m := fun k hk => by rw [← hm, ← Nat.or_assoc, hk]
  unfold Machine.atRecord
  with_reducible repeat'
    first
    | exact h | exact hm' _ (by decide) | apply Evolves.trans (h := hf _ _ _ _) | apply Evolves.refl
    | apply Evolves.step (hm := hm' _ (by decide)) (ev_runFail ..)
    | apply Evolves.step (hm := hm' _ (by decide)) (ev_setRun ..) | apply Evolves.ite | apply Evolves.ofPair ‹_›
    | apply Evolves.ofTriple ‹_› | split | dsimp only | decide | rfl | intro _

theorem ev_execRecordWrite (s : State) : OutEvolves 1361129467683753853835051685722082770927 s (execRecordWrite s) := by
  unfold execRecordWrite
  with_reducible repeat'
    first
    | apply Evolves.refl | apply OutEvolves.onIsland | apply Evolves.atRecord | apply Evolves.asRecord
    | apply Evolves.step (ev_writeWords ..) | dsimp only | decide | rfl | intro _

theorem ev_execRecordStream (s : State) :
    OutEvolves 1361129467683753853835051685722082770927 s (execRecordStream s) := by
  unfold execRecordStream
  with_reducible repeat'
    first
    | apply Evolves.refl | apply OutEvolves.onIsland | apply Evolves.atRecord | apply Evolves.asRecord
    | apply Evolves.step (ev_writeWords ..) | dsimp only | decide | rfl | intro _

theorem ev_execRecordModify (s : State) :
    OutEvolves 1361129467683753853835051685722082770927 s (execRecordModify s) := by
  unfold execRecordModify
  with_reducible repeat'
    first
    | apply Evolves.refl | apply OutEvolves.onIsland | apply Evolves.atRecord | apply Evolves.asRecord
    | apply Evolves.step (ev_busRead ..) | apply Evolves.step (ev_busWrite ..) | apply Evolves.ofPair ‹_›
    | apply Evolves.ofTriple ‹_› | split | dsimp only | decide | rfl | intro _

theorem ev_setWait (w : Option WaitRun) (s : State) : Evolves 34359738368 s (setWait w s) := by
  unfold setWait
  with_reducible repeat'
    first
    | apply Evolves.refl | apply Evolves.step (ev_setRun ..) | apply Evolves.ofPair ‹_› | apply Evolves.ofTriple ‹_›
    | split | dsimp only | decide | rfl | intro _

theorem ev_restOfTable (l : List Nat) (s : State) :
    Evolves 1361129467683753853835051685722082770927 s (restOfTable l s) := by
  unfold restOfTable
  with_reducible repeat'
    first
    | apply Evolves.refl | apply Evolves.step (ev_tableGroups ..) | apply Evolves.step (ev_State_setCmd ..)
    | apply Evolves.step (ev_startDue ..) | apply Evolves.step (ev_setWait ..) | apply Evolves.ofPair ‹_›
    | apply Evolves.ofTriple ‹_› | split | dsimp only | decide | rfl | intro _

theorem ev_execRecordTable (s : State) : OutEvolves 1361129467683753853835051685722082770927 s (execRecordTable s) := by
  unfold execRecordTable
  with_reducible repeat'
    first
    | apply Evolves.refl | apply OutEvolves.onIsland | apply Evolves.atRecord | apply Evolves.step (ev_restOfTable ..)
    | dsimp only | decide | rfl | intro _

theorem ev_waitRead (w : WaitRun) (s : State) :
    Evolves 1361129467683753853835051685653497514635 s (waitRead w s).2 := by
  unfold waitRead
  with_reducible repeat'
    first
    | apply Evolves.refl | apply Evolves.step (ev_busRead ..) | apply Evolves.step (ev_State_setCmd ..)
    | apply Evolves.ofPair ‹_› | apply Evolves.ofTriple ‹_› | split | dsimp only | decide | rfl | intro _

theorem ev_recordWait (addr : Nat) (pay : List Nat) (s : State) :
    Evolves 1361129467683753853835051685687857253003 s (recordWait addr pay s) := by
  unfold recordWait
  with_reducible repeat'
    first
    | apply Evolves.refl | apply Evolves.step (ev_waitRead ..) | apply Evolves.step (ev_setWait ..) | apply Evolves.ite
    | apply Evolves.ofPair ‹_› | apply Evolves.ofTriple ‹_› | split | dsimp only | decide | rfl | intro _

theorem ev_execRecordWait (s : State) : OutEvolves 1361129467683753853835051685722082770831 s (execRecordWait s) := by
  unfold execRecordWait
  with_reducible repeat'
    first
    | apply Evolves.refl | apply OutEvolves.onIsland | apply Evolves.atRecord | apply Evolves.step (ev_recordWait ..)
    | dsimp only | decide | rfl | intro _

theorem ev_runPoll (s : State) : Evolves 1361129467683753853835051685722082770943 s (runPoll s) := by
  unfold runPoll
  with_reducible repeat'
    first
    | apply Evolves.refl | apply Evolves.step (ev_waitRead ..) | apply Evolves.step (ev_passTo ..)
    | apply Evolves.step (ev_restOfTable ..) | apply Evolves.step (ev_setWait ..) | apply Evolves.ite
    | apply Evolves.ofPair ‹_› | apply Evolves.ofTriple ‹_› | split | dsimp only | decide | rfl | intro _

theorem ev_runTimeout (s : State) : Evolves 1361129467683753853835051685722082770943 s (runTimeout s) := by
  unfold runTimeout
  with_reducible repeat'
    first
    | apply Evolves.refl | apply Evolves.step (ev_waitRead ..) | apply Evolves.step (ev_passTo ..)
    | apply Evolves.step (ev_restOfTable ..) | apply Evolves.step (ev_setWait ..) | apply Evolves.step (ev_nvmCause ..)
    | apply Evolves.onlyIf | apply Evolves.ofPair ‹_› | apply Evolves.ofTriple ‹_› | split | dsimp only | decide | rfl
    | intro _

theorem ev_recordKey (r : RunNow) (addr : Nat) (pay : List Nat) (s : State) :
    Evolves 1361129467683753853835051685722082770927 s (recordKey r addr pay s) := by
  unfold recordKey
  with_reducible repeat'
    first
    | apply Evolves.refl | apply Evolves.asRecord | apply Evolves.step (ev_writeWords ..)
    | apply Evolves.step (ev_runFail ..) | apply Evolves.ite | apply Evolves.ofPair ‹_› | apply Evolves.ofTriple ‹_›
    | split | dsimp only | decide | rfl | intro _

theorem ev_execRecordKey (s : State) : OutEvolves 1361129467683753853835051685722082770927 s (execRecordKey s) := by
  unfold execRecordKey
  with_reducible repeat'
    first
    | apply Evolves.refl | apply OutEvolves.onIsland | apply Evolves.atRecord | apply Evolves.step (ev_recordKey ..)
    | dsimp only | decide | rfl | intro _

theorem ev_recordEnd (r : RunNow) (s : State) : Evolves 1361129467683753853835051685722082770831 s (recordEnd r s) := by
  unfold recordEnd
  with_reducible repeat'
    first
    | apply Evolves.refl | apply Evolves.step (ev_runOver ..) | apply Evolves.step (ev_replaceCells ..)
    | apply Evolves.step (ev_nvmCause ..) | apply Evolves.step (ev_State_setIsland ..)
    | apply Evolves.step (ev_runFail ..) | apply Evolves.bump | apply Evolves.onlyIf | apply Evolves.ite | split
    | dsimp only | decide | rfl | intro _

theorem ev_execRecordEnd (s : State) : OutEvolves 1361129467683753853835051685722082770831 s (execRecordEnd s) := by
  unfold execRecordEnd
  with_reducible repeat'
    first
    | apply Evolves.refl | apply OutEvolves.onIsland | apply Evolves.atRecord | apply Evolves.step (ev_recordEnd ..)
    | dsimp only | decide | rfl | intro _

theorem ev_flashTimeout (s : State) : Evolves 1361129467683753853835051685722082770943 s (flashTimeout s) := by
  unfold flashTimeout
  with_reducible repeat'
    first
    | apply Evolves.refl | apply Evolves.step (ev_nvmCause ..) | apply Evolves.step (ev_State_setNvm ..)
    | apply Evolves.step (ev_flashEnd ..) | apply Evolves.step (ev_setResult ..) | apply Evolves.step (ev_passTo ..)
    | apply Evolves.step (ev_runFail ..) | apply Evolves.bump | apply Evolves.onlyIf | apply Evolves.ite
    | apply Evolves.ofPair ‹_› | apply Evolves.ofTriple ‹_› | split | dsimp only | decide | rfl | intro _

theorem ev_execFlashTimeout (s : State) :
    OutEvolves 1361129467683753853835051685722082770943 s (execFlashTimeout s) := by
  unfold execFlashTimeout
  with_reducible repeat'
    first
    | apply Evolves.refl | apply OutEvolves.onIsland | apply Evolves.step (ev_flashTimeout ..) | dsimp only | decide
    | rfl | intro _

end Sys2Proof.Machine
end

