-- ==== Sys2Proof/Laws/EvCommand.lean ====
section
/-!
SUPPORT. What the operations of Machine/Command.lean may touch (Safety.lean, Evolves).
-/

namespace Sys2Proof.Machine

set_option Elab.async false
set_option linter.all false

theorem ev_islandErr (j : Nat) (s : State) : Evolves 255211775190703847597530955573826161162 s (islandErr j s).2 := by
  unfold islandErr
  with_reducible repeat'
    first
    | apply Evolves.refl | apply Evolves.step (ev_answerError ..) | apply Evolves.step (ev_setVerdict ..)
    | apply Evolves.step (ev_wrapperAnswer ..) | dsimp only | decide | rfl | intro _

theorem ev_BusRun_access (b : BusRun) (o : BusOp) :
    Evolves 1361129467683753853835051685722082770927 b.state (BusRun.access b o).state := by
  unfold BusRun.access
  with_reducible repeat'
    first
    | apply Evolves.refl | apply Evolves.step (ev_busWrite ..) | apply Evolves.step (ev_busRead ..)
    | apply Evolves.ite | apply Evolves.ofPair ‹_› | apply Evolves.ofTriple ‹_› | split | dsimp only | decide | rfl
    | intro _

theorem ev_busRun (l : List BusOp) (s : State) : Evolves 1361129467683753853835051685722082770927 s (busRun l s).state := by
  have key : ∀ (l : List BusOp) (b : BusRun), Evolves 1361129467683753853835051685722082770927 b.state (l.foldl BusRun.access b).state := by
    intro l
    induction l with
    | nil => intro b; exact .refl _
    | cons o l ih => intro b; exact (ev_BusRun_access b o).trans (ih _)
  exact key l { state := s }

theorem ev_loadGroups (i n : Nat) (r : LoadRun) (s : State) : Evolves 1361129467683753853835051685722082770927 s (loadGroups i n r s).2.2 := by
  induction n generalizing r s with
  | zero => exact .refl _
  | succ n ih =>
    unfold loadGroups
    with_reducible repeat'
      first
      | apply Evolves.refl | apply Evolves.step (ih ..) | apply Evolves.step (ev_busRun ..) | apply Evolves.ite
      | split | dsimp only | decide | rfl | intro _

theorem ev_sendAnswer (i : Nat) (opcode : Nat) (tag : Nat) (r : Reply) (s : State) :
    Evolves 1361129467683753853835051685722082770831 s (sendAnswer i opcode tag r s) := by
  unfold sendAnswer
  with_reducible repeat'
    first
    | apply Evolves.refl | apply Evolves.step (ev_startDue ..) | apply Evolves.step (ev_respond ..) | dsimp only
    | decide | rfl | intro _

theorem ev_actionEnd (opcode : Nat) (tag : Nat) (r : Reply) (s : State) :
    Evolves 1361129467683753853835051685722082770831 s (actionEnd opcode tag r s) := by
  unfold actionEnd
  with_reducible repeat'
    first
    | apply Evolves.refl | apply Evolves.step (ev_startDue ..) | apply Evolves.step (ev_mbakinSend ..)
    | apply Evolves.step (ev_State_setSys ..) | apply Evolves.ite | apply Evolves.ofPair ‹_›
    | apply Evolves.ofTriple ‹_› | split | dsimp only | decide | rfl | intro _

theorem ev_finish (i : Nat) (opcode : Nat) (tag : Nat) (r : Reply) (s : State) :
    Evolves 1361129467683753853835051685722082770831 s (finish i opcode tag r s) := by
  unfold finish
  with_reducible repeat'
    first
    | apply Evolves.refl | apply Evolves.step (ev_actionEnd ..) | apply Evolves.step (ev_sendAnswer ..)
    | apply Evolves.ite | split | dsimp only | decide | rfl | intro _

theorem ev_loadAfter (i : Nat) (x : LoadRun × Bool × State) :
    Evolves 1361129467683753853835051685722082770831 x.2.2 (loadAfter i x) := by
  unfold loadAfter
  with_reducible repeat'
    first
    | apply Evolves.refl | apply Evolves.step (ev_State_setSession ..) | apply Evolves.step (ev_finish ..)
    | apply Evolves.step (ev_startDue ..) | apply Evolves.ite | apply Evolves.ofPair ‹_› | apply Evolves.ofTriple ‹_›
    | split | dsimp only | decide | rfl | intro _

theorem ev_opEcho (u0 : Nat) (p : Inbound) (s : State) : Evolves 0 s (opEcho u0 p s).2 := by
  unfold opEcho
  with_reducible repeat'
    first
    | apply Evolves.refl | dsimp only | decide | rfl | intro _

theorem ev_opRegRead (u0 : Nat) (p : Inbound) (s : State) :
    Evolves 1361129467683753853835051685722082770927 s (opRegRead u0 p s).2 := by
  unfold opRegRead
  with_reducible repeat'
    first
    | apply Evolves.refl | apply Evolves.step (ev_busRun ..) | apply Evolves.ite | split | dsimp only | decide | rfl
    | intro _

theorem ev_opRegWrite (u0 : Nat) (p : Inbound) (s : State) :
    Evolves 1361129467683753853835051685722082770927 s (opRegWrite u0 p s).2 := by
  unfold opRegWrite
  with_reducible repeat'
    first
    | apply Evolves.refl | apply Evolves.step (ev_busRun ..) | apply Evolves.ite | split | dsimp only | decide | rfl
    | intro _

theorem ev_opRegModify (u0 : Nat) (p : Inbound) (s : State) :
    Evolves 1361129467683753853835051685722082770927 s (opRegModify u0 p s).2 := by
  unfold opRegModify
  with_reducible repeat'
    first
    | apply Evolves.refl | apply Evolves.step (ev_busRun ..) | apply Evolves.step (ev_BusRun_access ..)
    | apply Evolves.ite | apply Evolves.ofPair ‹_› | apply Evolves.ofTriple ‹_› | split | dsimp only | decide | rfl
    | intro _

theorem ev_opIdxRead (u0 : Nat) (p : Inbound) (s : State) :
    Evolves 1361129467683753853835051685722082770927 s (opIdxRead u0 p s).2 := by
  unfold opIdxRead
  with_reducible repeat'
    first
    | apply Evolves.refl | apply Evolves.step (ev_busRun ..) | apply Evolves.ite | apply Evolves.ofPair ‹_›
    | apply Evolves.ofTriple ‹_› | split | dsimp only | decide | rfl | intro _

theorem ev_opIdxWrite (u0 : Nat) (p : Inbound) (s : State) :
    Evolves 1361129467683753853835051685722082770927 s (opIdxWrite u0 p s).2 := by
  unfold opIdxWrite
  with_reducible repeat'
    first
    | apply Evolves.refl | apply Evolves.step (ev_busRun ..) | apply Evolves.ofPair ‹_› | apply Evolves.ofTriple ‹_›
    | split | dsimp only | decide | rfl | intro _

theorem ev_opTableLoad (i : Nat) (p : Inbound) (s : State) :
    Evolves 1361129467683753853835051685722082770927 s (opTableLoad i p s).2 := by
  unfold opTableLoad
  with_reducible repeat'
    first
    | apply Evolves.refl | apply Evolves.step (ev_loadGroups ..) | apply Evolves.step (ev_State_setSession ..)
    | apply Evolves.ite | split | dsimp only | decide | rfl | intro _

theorem ev_opProgLoad (u0 : Nat) (p : Inbound) (s : State) :
    Evolves 1361129467683753853835051685722082770927 s (opProgLoad u0 p s).2 := by
  unfold opProgLoad
  with_reducible repeat'
    first
    | apply Evolves.refl | apply Evolves.step (ev_busRun ..) | apply Evolves.ite | apply Evolves.ofPair ‹_›
    | apply Evolves.ofTriple ‹_› | split | dsimp only | decide | rfl | intro _

theorem ev_opFlashRead (u0 : Nat) (p : Inbound) (s : State) :
    Evolves 255211775190703847597530955573826161162 s (opFlashRead u0 p s).2 := by
  unfold opFlashRead
  with_reducible repeat'
    first
    | apply Evolves.refl | apply Evolves.step (ev_islandErr ..) | apply Evolves.ite | split | dsimp only | decide | rfl
    | intro _

theorem ev_flashRefused (code : Nat) (idx : Nat) (x : (Nat × Nat × Nat) × State) :
    Evolves 255211775190703847597530955573826159114 x.2 (flashRefused code idx x).2 := by
  unfold flashRefused
  with_reducible repeat'
    first
    | apply Evolves.refl | apply Evolves.step (ev_nvmCause ..) | apply Evolves.ite | split | dsimp only | decide | rfl
    | intro _

theorem ev_opFlashWrite (u0 : Nat) (p : Inbound) (s : State) :
    Evolves 266177906155929403548987363821139003915 s (opFlashWrite u0 p s).2 := by
  unfold opFlashWrite
  with_reducible repeat'
    first
    | apply Evolves.refl | apply Evolves.step (ev_islandErr ..) | apply Evolves.guarded
    | apply Evolves.step (ev_flashRefused ..) | apply Evolves.step (ev_flashErase ..)
    | apply Evolves.step (ev_flashProgram ..) | apply Evolves.foldl | apply Evolves.ofId | apply Evolves.ite | split
    | dsimp only | decide | rfl | intro _

theorem ev_opPloamSend (u0 : Nat) (p : Inbound) (s : State) :
    Evolves 255211775190703849958714197008648899083 s (opPloamSend u0 p s).2 := by
  unfold opPloamSend
  with_reducible repeat'
    first
    | apply Evolves.refl | apply Evolves.step (ev_islandErr ..) | apply Evolves.step (ev_queueBody ..)
    | apply Evolves.ite | split | dsimp only | decide | rfl | intro _

theorem Evolves.injectInto {m : Nat} {s t : State} {island holder : Nat} {payload : List Byte} {full : State → Bool} {f : Nat → State → State} (hf : ∀ h x, Evolves m x (f h x))
    (h : Evolves m s t) (hm : 276479424074000451735163919660839082511 ||| m = m := by decide) : Evolves m s (injectInto island holder payload full f t).2 := by
  have hm' : ∀ k, k ||| 276479424074000451735163919660839082511 = 276479424074000451735163919660839082511 → k ||| m = m := fun k hk => by rw [← hm, ← Nat.or_assoc, hk]
  unfold Machine.injectInto
  with_reducible repeat'
    first
    | exact h | exact hm' _ (by decide) | apply Evolves.trans (h := hf _ _) | apply Evolves.refl
    | apply Evolves.step (hm := hm' _ (by decide)) (ev_islandErr ..)
    | apply Evolves.step (hm := hm' _ (by decide)) (ev_allocNow ..)
    | apply Evolves.step (hm := hm' _ (by decide)) (ev_freeHandle ..)
    | apply Evolves.step (hm := hm' _ (by decide)) (ev_writeBuf ..) | apply Evolves.ite | apply Evolves.ofPair ‹_›
    | apply Evolves.ofTriple ‹_› | split | dsimp only | decide | rfl | intro _

theorem ev_opInject (u0 : Nat) (p : Inbound) (s : State) :
    Evolves 287113261984436381228917792606821292559 s (opInject u0 p s).2 := by
  unfold opInject
  with_reducible repeat'
    first
    | apply Evolves.refl | apply Evolves.guarded | apply Evolves.injectInto | apply Evolves.step (ev_tmdEnqueue ..)
    | apply Evolves.step (ev_tmuEnqueue ..) | apply Evolves.ofId | apply Evolves.ite | apply Evolves.ofPair ‹_›
    | apply Evolves.ofTriple ‹_› | split | dsimp only | decide | rfl | intro _

theorem ev_opCapture (i : Nat) (p : Inbound) (s : State) : Evolves 4 s (opCapture i p s).2 := by
  unfold opCapture
  with_reducible repeat'
    first
    | apply Evolves.refl | apply Evolves.step (ev_State_setSession ..) | apply Evolves.ite | split | dsimp only | decide
    | rfl | intro _

theorem ev_opMbakinSend (i : Nat) (p : Inbound) (s : State) :
    Evolves 276484629047364988845086465141384417807 s (opMbakinSend i p s).2 := by
  unfold opMbakinSend
  with_reducible repeat'
    first
    | apply Evolves.refl | apply Evolves.step (ev_mbakinSend ..) | apply Evolves.step (ev_State_setSession ..)
    | apply Evolves.ite | split | dsimp only | decide | rfl | intro _

theorem ev_opPrivChallenge (u0 : Nat) (p : Inbound) (s : State) : Evolves 2176 s (opPrivChallenge u0 p s).2 := by
  unfold opPrivChallenge
  with_reducible repeat'
    first
    | apply Evolves.refl | apply Evolves.step (ev_drawFree ..) | apply Evolves.step (ev_State_setCmd ..)
    | apply Evolves.ite | apply Evolves.ofPair ‹_› | apply Evolves.ofTriple ‹_› | split | dsimp only | decide | rfl
    | intro _

theorem ev_proofFailed (s : State) : Evolves 265845599156983174580761412056068917771 s (proofFailed s) := by
  unfold proofFailed
  with_reducible repeat'
    first
    | apply Evolves.refl | apply Evolves.step (ev_sessCause ..) | apply Evolves.step (ev_State_setCmd ..)
    | apply Evolves.bump | apply Evolves.ite | split | dsimp only | decide | rfl | intro _

theorem ev_opPrivProve (u0 : Nat) (p : Inbound) (s : State) :
    Evolves 265845599156983174580761412056068917771 s (opPrivProve u0 p s).2 := by
  unfold opPrivProve
  with_reducible repeat'
    first
    | apply Evolves.refl | apply Evolves.step (ev_State_setCmd ..) | apply Evolves.step (ev_sessCause ..)
    | apply Evolves.step (ev_proofFailed ..) | apply Evolves.ite | split | dsimp only | decide | rfl | intro _

theorem ev_opPrivDrop (u0 : Nat) (p : Inbound) (s : State) : Evolves 2048 s (opPrivDrop u0 p s).2 := by
  unfold opPrivDrop
  with_reducible repeat'
    first
    | apply Evolves.refl | apply Evolves.step (ev_dropPrivilege ..) | apply Evolves.ite | split | dsimp only | decide
    | rfl | intro _

theorem ev_consume (i : Nat) (n : Nat) (s : State) : Evolves 4 s (consume i n s) := by
  unfold consume
  with_reducible repeat'
    first
    | apply Evolves.refl | apply Evolves.step (ev_State_setSession ..) | dsimp only | decide | rfl | intro _

theorem Evolves.runAs {m : Nat} {s t : State} {i : Nat} {p : Inbound} {f : Nat → Inbound → State → Option Reply × State} (hf : ∀ j q x, Evolves m x (f j q x).2)
    (h : Evolves m s t) (hm : 1361129467683753853835051685722082770831 ||| m = m := by decide) : Evolves m s (runAs i p f t) := by
  have hm' : ∀ k, k ||| 1361129467683753853835051685722082770831 = 1361129467683753853835051685722082770831 → k ||| m = m := fun k hk => by rw [← hm, ← Nat.or_assoc, hk]
  unfold Machine.runAs
  with_reducible repeat'
    first
    | exact h | exact hm' _ (by decide) | apply Evolves.trans (h := hf _ _ _) | apply Evolves.refl
    | apply Evolves.step (hm := hm' _ (by decide)) (ev_State_setCmd ..)
    | apply Evolves.step (hm := hm' _ (by decide)) (ev_finish ..) | apply Evolves.ofPair ‹_›
    | apply Evolves.ofTriple ‹_› | split | dsimp only | decide | rfl | intro _

theorem Evolves.atPacket {m : Nat} {s t : State} {i op : Nat} {f : Nat → Inbound → State → Option Reply × State} (hf : ∀ j q x, Evolves m x (f j q x).2)
    (h : Evolves m s t) (hm : 1361129467683753853835051685722082770831 ||| m = m := by decide) : Evolves m s (atPacket i op f t) := by
  have hm' : ∀ k, k ||| 1361129467683753853835051685722082770831 = 1361129467683753853835051685722082770831 → k ||| m = m := fun k hk => by rw [← hm, ← Nat.or_assoc, hk]
  unfold Machine.atPacket
  with_reducible repeat'
    first
    | exact h | exact hm' _ (by decide) | apply Evolves.runAs (hm := hm' _ (by decide)) hf | apply Evolves.refl
    | apply Evolves.runAs | apply Evolves.step (hm := hm' _ (by decide)) (ev_consume ..) | apply Evolves.ite
    | apply Evolves.ofPair ‹_› | apply Evolves.ofTriple ‹_› | split | dsimp only | decide | rfl | intro _

theorem ev_unlistedOpcode (i : Nat) (s : State) :
    Evolves 1361129467683753853835051685722082770831 s (unlistedOpcode i s) := by
  unfold unlistedOpcode
  with_reducible repeat'
    first
    | apply Evolves.refl | apply Evolves.step (ev_sendAnswer ..) | apply Evolves.step (ev_consume ..)
    | apply Evolves.ite | apply Evolves.ofPair ‹_› | apply Evolves.ofTriple ‹_› | split | dsimp only | decide | rfl
    | intro _

theorem ev_execUnlistedOpcode (i : Fin 4) (s : State) :
    OutEvolves 1361129467683753853835051685722082770831 s (execUnlistedOpcode i s) := by
  unfold execUnlistedOpcode
  with_reducible repeat'
    first
    | apply Evolves.refl | apply OutEvolves.onIsland | apply Evolves.step (ev_unlistedOpcode ..) | dsimp only | decide
    | rfl | intro _

theorem ev_execEcho (i : Fin 4) (s : State) : OutEvolves 1361129467683753853835051685722082770831 s (execEcho i s) := by
  unfold execEcho
  with_reducible repeat'
    first
    | apply Evolves.refl | apply OutEvolves.onIsland | apply Evolves.atPacket | apply Evolves.step (ev_opEcho ..)
    | dsimp only | decide | rfl | intro _

theorem ev_execRegRead (i : Fin 4) (s : State) :
    OutEvolves 1361129467683753853835051685722082770927 s (execRegRead i s) := by
  unfold execRegRead
  with_reducible repeat'
    first
    | apply Evolves.refl | apply OutEvolves.onIsland | apply Evolves.atPacket | apply Evolves.step (ev_opRegRead ..)
    | dsimp only | decide | rfl | intro _

theorem ev_execRegWrite (i : Fin 4) (s : State) :
    OutEvolves 1361129467683753853835051685722082770927 s (execRegWrite i s) := by
  unfold execRegWrite
  with_reducible repeat'
    first
    | apply Evolves.refl | apply OutEvolves.onIsland | apply Evolves.atPacket | apply Evolves.step (ev_opRegWrite ..)
    | dsimp only | decide | rfl | intro _

theorem ev_execRegModify (i : Fin 4) (s : State) :
    OutEvolves 1361129467683753853835051685722082770927 s (execRegModify i s) := by
  unfold execRegModify
  with_reducible repeat'
    first
    | apply Evolves.refl | apply OutEvolves.onIsland | apply Evolves.atPacket | apply Evolves.step (ev_opRegModify ..)
    | dsimp only | decide | rfl | intro _

theorem ev_execIdxRead (i : Fin 4) (s : State) :
    OutEvolves 1361129467683753853835051685722082770927 s (execIdxRead i s) := by
  unfold execIdxRead
  with_reducible repeat'
    first
    | apply Evolves.refl | apply OutEvolves.onIsland | apply Evolves.atPacket | apply Evolves.step (ev_opIdxRead ..)
    | dsimp only | decide | rfl | intro _

theorem ev_execIdxWrite (i : Fin 4) (s : State) :
    OutEvolves 1361129467683753853835051685722082770927 s (execIdxWrite i s) := by
  unfold execIdxWrite
  with_reducible repeat'
    first
    | apply Evolves.refl | apply OutEvolves.onIsland | apply Evolves.atPacket | apply Evolves.step (ev_opIdxWrite ..)
    | dsimp only | decide | rfl | intro _

theorem ev_execTableLoad (i : Fin 4) (s : State) :
    OutEvolves 1361129467683753853835051685722082770927 s (execTableLoad i s) := by
  unfold execTableLoad
  with_reducible repeat'
    first
    | apply Evolves.refl | apply OutEvolves.onIsland | apply Evolves.atPacket | apply Evolves.step (ev_opTableLoad ..)
    | dsimp only | decide | rfl | intro _

theorem ev_execProgLoad (i : Fin 4) (s : State) :
    OutEvolves 1361129467683753853835051685722082770927 s (execProgLoad i s) := by
  unfold execProgLoad
  with_reducible repeat'
    first
    | apply Evolves.refl | apply OutEvolves.onIsland | apply Evolves.atPacket | apply Evolves.step (ev_opProgLoad ..)
    | dsimp only | decide | rfl | intro _

theorem ev_execFlashRead (i : Fin 4) (s : State) :
    OutEvolves 1361129467683753853835051685722082770831 s (execFlashRead i s) := by
  unfold execFlashRead
  with_reducible repeat'
    first
    | apply Evolves.refl | apply OutEvolves.onIsland | apply Evolves.atPacket | apply Evolves.step (ev_opFlashRead ..)
    | dsimp only | decide | rfl | intro _

theorem ev_execFlashWrite (i : Fin 4) (s : State) :
    OutEvolves 1361129467683753853835051685722082770831 s (execFlashWrite i s) := by
  unfold execFlashWrite
  with_reducible repeat'
    first
    | apply Evolves.refl | apply OutEvolves.onIsland | apply Evolves.atPacket | apply Evolves.step (ev_opFlashWrite ..)
    | dsimp only | decide | rfl | intro _

theorem ev_execPloamSend (i : Fin 4) (s : State) :
    OutEvolves 1361129467683753853835051685722082770831 s (execPloamSend i s) := by
  unfold execPloamSend
  with_reducible repeat'
    first
    | apply Evolves.refl | apply OutEvolves.onIsland | apply Evolves.atPacket | apply Evolves.step (ev_opPloamSend ..)
    | dsimp only | decide | rfl | intro _

theorem ev_execInject (i : Fin 4) (s : State) :
    OutEvolves 1361129467683753853835051685722082770831 s (execInject i s) := by
  unfold execInject
  with_reducible repeat'
    first
    | apply Evolves.refl | apply OutEvolves.onIsland | apply Evolves.atPacket | apply Evolves.step (ev_opInject ..)
    | dsimp only | decide | rfl | intro _

theorem ev_execCapture (i : Fin 4) (s : State) :
    OutEvolves 1361129467683753853835051685722082770831 s (execCapture i s) := by
  unfold execCapture
  with_reducible repeat'
    first
    | apply Evolves.refl | apply OutEvolves.onIsland | apply Evolves.atPacket | apply Evolves.step (ev_opCapture ..)
    | dsimp only | decide | rfl | intro _

theorem ev_execMbakinSend (i : Fin 4) (s : State) :
    OutEvolves 1361129467683753853835051685722082770831 s (execMbakinSend i s) := by
  unfold execMbakinSend
  with_reducible repeat'
    first
    | apply Evolves.refl | apply OutEvolves.onIsland | apply Evolves.atPacket | apply Evolves.step (ev_opMbakinSend ..)
    | dsimp only | decide | rfl | intro _

theorem ev_execPrivChallenge (s : State) :
    OutEvolves 1361129467683753853835051685722082770831 s (execPrivChallenge s) := by
  unfold execPrivChallenge
  with_reducible repeat'
    first
    | apply Evolves.refl | apply OutEvolves.onIsland | apply Evolves.atPacket
    | apply Evolves.step (ev_opPrivChallenge ..) | dsimp only | decide | rfl | intro _

theorem ev_execPrivProve (s : State) : OutEvolves 1361129467683753853835051685722082770831 s (execPrivProve s) := by
  unfold execPrivProve
  with_reducible repeat'
    first
    | apply Evolves.refl | apply OutEvolves.onIsland | apply Evolves.atPacket | apply Evolves.step (ev_opPrivProve ..)
    | dsimp only | decide | rfl | intro _

theorem ev_execPrivDrop (s : State) : OutEvolves 1361129467683753853835051685722082770831 s (execPrivDrop s) := by
  unfold execPrivDrop
  with_reducible repeat'
    first
    | apply Evolves.refl | apply OutEvolves.onIsland | apply Evolves.atPacket | apply Evolves.step (ev_opPrivDrop ..)
    | dsimp only | decide | rfl | intro _

theorem ev_mbakinAnswer (i : Nat) (r : Reply) (s : State) :
    Evolves 1361129467683753853835051685722082770831 s (mbakinAnswer i r s) := by
  unfold mbakinAnswer
  with_reducible repeat'
    first
    | apply Evolves.refl | apply Evolves.step (ev_finish ..) | apply Evolves.step (ev_State_setSession ..)
    | apply Evolves.ofPair ‹_› | apply Evolves.ofTriple ‹_› | split | dsimp only | decide | rfl | intro _

theorem ev_replyTimeout (i : Nat) (s : State) :
    Evolves 1361129467683753853835051685722082770943 s (replyTimeout i s) := by
  unfold replyTimeout
  with_reducible repeat'
    first
    | apply Evolves.refl | apply Evolves.step (ev_mbakinAnswer ..) | apply Evolves.step (ev_passTo ..)
    | apply Evolves.ofPair ‹_› | apply Evolves.ofTriple ‹_› | split | dsimp only | decide | rfl | intro _

theorem ev_lockoutExpiry (s : State) : Evolves 268437624 s (lockoutExpiry s) := by
  unfold lockoutExpiry
  with_reducible repeat'
    first
    | apply Evolves.refl | apply Evolves.step (ev_passTo ..) | apply Evolves.step (ev_State_setCmd ..)
    | apply Evolves.ofPair ‹_› | apply Evolves.ofTriple ‹_› | split | dsimp only | decide | rfl | intro _

theorem ev_execLockoutExpiry (s : State) : OutEvolves 268438136 s (execLockoutExpiry s) := by
  unfold execLockoutExpiry
  with_reducible repeat'
    first
    | apply Evolves.refl | apply OutEvolves.onIsland | apply Evolves.step (ev_lockoutExpiry ..) | dsimp only | decide
    | rfl | intro _

theorem ev_actionOp {c : Prop} [Decidable c] {o : Nat} {f : Nat → Inbound → State → Option Reply × State}
    (h : (if c then actionOp o else none) = some f) (i : Nat) (p : Inbound)
    (s : State) : Evolves 1361129467683753853835051685722082770927 s (f i p s).2 := by
  unfold actionOp at h
  split at h
  case isFalse => contradiction
  split at h <;> first | contradiction | (cases h; first
    | exact Evolves.step (ev_opEcho ..) (.refl s) | exact Evolves.step (ev_opRegRead ..) (.refl s)
    | exact Evolves.step (ev_opRegWrite ..) (.refl s) | exact Evolves.step (ev_opRegModify ..) (.refl s)
    | exact Evolves.step (ev_opIdxRead ..) (.refl s) | exact Evolves.step (ev_opIdxWrite ..) (.refl s)
    | exact Evolves.step (ev_opProgLoad ..) (.refl s) | exact Evolves.step (ev_opPloamSend ..) (.refl s)
    | exact Evolves.step (ev_opInject ..) (.refl s) | exact Evolves.step (ev_opFlashRead ..) (.refl s)
    | exact Evolves.step (ev_opFlashWrite ..) (.refl s) | exact Evolves.step (ev_opCapture ..) (.refl s)
    | exact Evolves.step (ev_opMbakinSend ..) (.refl s) | exact Evolves.step (ev_opTableLoad ..) (.refl s))

theorem ev_actionStep (s : State) : Evolves 1361129467683753853835051685722082770927 s (actionStep s) := by
  unfold actionStep
  with_reducible repeat'
    first
    | apply Evolves.refl | apply Evolves.step (ev_actionEnd ..) | apply Evolves.runAs (ev_actionOp (by assumption))
    | apply Evolves.runAs | apply Evolves.ite | apply Evolves.ofPair ‹_› | apply Evolves.ofTriple ‹_› | split
    | dsimp only | decide | rfl | intro _

theorem ev_actionNext (s : State) : Evolves 1361129467683753853835051685722082770927 s (actionNext s) := by
  unfold actionNext
  with_reducible repeat'
    first
    | apply Evolves.refl | apply Evolves.step (ev_actionStep ..) | apply Evolves.allOf | dsimp only | decide | rfl
    | intro _

theorem ev_goRead (i : Nat) (g : GoWait) (r : LoadRun) (s : State) :
    Evolves 1361129467683753853835051685722082770927 s (goRead i g r s).2.2 := by
  unfold goRead
  with_reducible repeat'
    first
    | apply Evolves.refl | apply Evolves.step (ev_busRun ..) | apply Evolves.step (ev_State_setCmd ..)
    | apply Evolves.ite | split | dsimp only | decide | rfl | intro _

theorem ev_loadOn (i : Nat) (r : LoadRun) (s : State) :
    Evolves 1361129467683753853835051685722082770927 s (loadOn i r s) := by
  unfold loadOn
  with_reducible repeat'
    first
    | apply Evolves.refl | apply Evolves.step (ev_loadGroups ..) | apply Evolves.step (ev_State_setCmd ..)
    | apply Evolves.step (ev_actionNext ..) | apply Evolves.step (ev_drainPorts ..)
    | apply Evolves.step (ev_loadAfter ..) | dsimp only | decide | rfl | intro _

theorem ev_loadRead (i : Nat) (last : Bool) (g : GoWait) (r : LoadRun) (s : State) :
    Evolves 1361129467683753853835051685722082770927 s (loadRead i last g r s) := by
  unfold loadRead
  with_reducible repeat'
    first
    | apply Evolves.refl | apply Evolves.step (ev_goRead ..) | apply Evolves.step (ev_actionNext ..)
    | apply Evolves.step (ev_drainPorts ..) | apply Evolves.step (ev_loadAfter ..) | apply Evolves.step (ev_loadOn ..)
    | apply Evolves.step (ev_State_setSession ..) | apply Evolves.ite | apply Evolves.ofPair ‹_›
    | apply Evolves.ofTriple ‹_› | split | dsimp only | decide | rfl | intro _

theorem ev_loadPoll (i : Nat) (s : State) : Evolves 1361129467683753853835051685722082770943 s (loadPoll i s) := by
  unfold loadPoll
  with_reducible repeat'
    first
    | apply Evolves.refl | apply Evolves.step (ev_loadRead ..) | apply Evolves.step (ev_passTo ..)
    | apply Evolves.step (ev_loadOn ..) | apply Evolves.ite | apply Evolves.ofPair ‹_› | apply Evolves.ofTriple ‹_›
    | split | dsimp only | decide | rfl | intro _

theorem ev_loadTimeout (i : Nat) (s : State) :
    Evolves 1361129467683753853835051685722082770943 s (loadTimeout i s) := by
  unfold loadTimeout
  with_reducible repeat'
    first
    | apply Evolves.refl | apply Evolves.step (ev_loadRead ..) | apply Evolves.step (ev_passTo ..)
    | apply Evolves.ofPair ‹_› | apply Evolves.ofTriple ‹_› | split | dsimp only | decide | rfl | intro _

theorem ev_execMbakinReplyTimeout (i : Fin 5) (s : State) :
    OutEvolves 1361129467683753853835051685722082770943 s (execMbakinReplyTimeout i s) := by
  unfold execMbakinReplyTimeout
  with_reducible repeat'
    first
    | apply Evolves.refl | apply OutEvolves.onIsland | apply Evolves.step (ev_actionNext ..)
    | apply Evolves.step (ev_replyTimeout ..) | apply Evolves.onlyIf | dsimp only | decide | rfl | intro _

theorem ev_execWaitPoll (who : Option (Fin 5)) (s : State) :
    OutEvolves 1361129467683753853835051685722082770943 s (execWaitPoll who s) := by
  unfold execWaitPoll
  with_reducible repeat'
    first
    | apply Evolves.refl | apply OutEvolves.onIsland | apply Evolves.step (ev_runPoll ..)
    | apply Evolves.step (ev_loadPoll ..) | apply Evolves.ofPair ‹_› | apply Evolves.ofTriple ‹_› | split | dsimp only
    | decide | rfl | intro _

theorem ev_execWaitTimeout (who : Option (Fin 5)) (s : State) :
    OutEvolves 1361129467683753853835051685722082770943 s (execWaitTimeout who s) := by
  unfold execWaitTimeout
  with_reducible repeat'
    first
    | apply Evolves.refl | apply OutEvolves.onIsland | apply Evolves.step (ev_runTimeout ..)
    | apply Evolves.step (ev_loadTimeout ..) | apply Evolves.ofPair ‹_› | apply Evolves.ofTriple ‹_› | split
    | dsimp only | decide | rfl | intro _

theorem ev_execSessionOpen (i : Fin 4) (w : Word) (s : State) :
    OutEvolves 308380895022100482513683237985039944207 s (execSessionOpen i w s) := by
  unfold execSessionOpen
  with_reducible repeat'
    first
    | apply Evolves.refl | apply OutEvolves.onIsland | apply Evolves.step (ev_sessCtlWrite ..) | dsimp only | decide
    | rfl | intro _

theorem ev_execSessionClose (i : Fin 4) (w : Word) (s : State) :
    OutEvolves 308380895022100482513683237985039944207 s (execSessionClose i w s) := by
  unfold execSessionClose
  with_reducible repeat'
    first
    | apply Evolves.refl | apply OutEvolves.onIsland | apply Evolves.step (ev_sessCtlWrite ..) | dsimp only | decide
    | rfl | intro _

theorem ev_windowWrite (i : Nat) (l : List Byte) (s : State) :
    Evolves 265845599156983174580761412056068917775 s (windowWrite i l s) := by
  unfold windowWrite
  with_reducible repeat'
    first
    | apply Evolves.refl | apply Evolves.step (ev_faultSession ..) | apply Evolves.step (ev_settle ..)
    | apply Evolves.step (ev_State_setSession ..) | apply Evolves.ite | split | dsimp only | decide | rfl | intro _

theorem ev_execWindowWrite (i : Fin 4) (l : List Byte) (s : State) :
    OutEvolves 265845599156983174580761412056068917775 s (execWindowWrite i l s) := by
  unfold execWindowWrite
  with_reducible repeat'
    first
    | apply Evolves.refl | apply OutEvolves.onIsland | apply Evolves.step (ev_windowWrite ..) | dsimp only | decide
    | rfl | intro _

theorem ev_packetTimeout (i : Nat) (s : State) :
    Evolves 265845599156983174580761412056337353343 s (packetTimeout i s) := by
  unfold packetTimeout
  with_reducible repeat'
    first
    | apply Evolves.refl | apply Evolves.step (ev_faultSession ..) | apply Evolves.step (ev_passTo ..)
    | apply Evolves.ite | split | dsimp only | decide | rfl | intro _

theorem ev_execPacketTimeout (i : Fin 4) (s : State) :
    OutEvolves 265845599156983174580761412056337353343 s (execPacketTimeout i s) := by
  unfold execPacketTimeout
  with_reducible repeat'
    first
    | apply Evolves.refl | apply OutEvolves.onIsland | apply Evolves.step (ev_packetTimeout ..) | dsimp only | decide
    | rfl | intro _

theorem ev_execHeadWrite (i : Fin 4) (w : Word) (s : State) :
    OutEvolves 308380895022100482513683237985039944207 s (execHeadWrite i w s) := by
  unfold execHeadWrite
  with_reducible repeat'
    first
    | apply Evolves.refl | apply OutEvolves.onIsland | apply Evolves.step (ev_headWrite ..) | dsimp only | decide | rfl
    | intro _

theorem ev_hostSilent (i : Nat) (s : State) : Evolves 1361129467683753853835051685722082770943 s (hostSilent i s) := by
  unfold hostSilent
  with_reducible repeat'
    first
    | apply Evolves.refl | apply Evolves.step (ev_startDue ..) | apply Evolves.step (ev_sessCause ..)
    | apply Evolves.step (ev_closeSession ..) | apply Evolves.step (ev_passTo ..) | apply Evolves.ite | split
    | dsimp only | decide | rfl | intro _

theorem ev_execHostSilent (i : Fin 4) (s : State) :
    OutEvolves 1361129467683753853835051685722082770943 s (execHostSilent i s) := by
  unfold execHostSilent
  with_reducible repeat'
    first
    | apply Evolves.refl | apply OutEvolves.onIsland | apply Evolves.step (ev_hostSilent ..) | dsimp only | decide | rfl
    | intro _

theorem ev_mmioAccess (ofs : Nat) (w : Option Nat) (be : Nat) (s : State) :
    Evolves 1361129467683753853835051685722082770927 s (mmioAccess ofs w be s) := by
  unfold mmioAccess
  with_reducible repeat'
    first
    | apply Evolves.refl | apply Evolves.step (ev_windowWrite ..) | apply Evolves.step (ev_mmioUnmapped ..)
    | apply Evolves.step (ev_indDataAccess ..) | apply Evolves.step (ev_portAccess ..) | apply Evolves.ite
    | apply Evolves.ofPair ‹_› | apply Evolves.ofTriple ‹_› | split | dsimp only | decide | rfl | intro _

theorem ev_execMmioAccess (ofs : BitVec 24) (w : Option Word) (be : BitVec 4) (s : State) :
    OutEvolves 1361129467683753853835051685722082770927 s (execMmioAccess ofs w be s) := by
  unfold execMmioAccess
  with_reducible repeat'
    first
    | apply Evolves.refl | apply OutEvolves.onIsland | apply Evolves.step (ev_mmioAccess ..) | dsimp only | decide | rfl
    | intro _

theorem ev_oneAccess (src : Nat) (ofs : Nat) (w : Option Nat) (s : State) :
    Evolves 1361129467683753853835051685722082770927 s (oneAccess src ofs w s) := by
  unfold oneAccess
  with_reducible repeat'
    first
    | apply Evolves.refl | apply Evolves.step (ev_mmioAccess ..) | apply Evolves.step (ev_portAccess ..)
    | apply Evolves.ite | split | dsimp only | decide | rfl | intro _

theorem ev_execRegisterWrite (src : Fin 5) (ofs : BitVec 24) (w : Word) (s : State) :
    OutEvolves 1361129467683753853835051685722082770927 s (execRegisterWrite src ofs w s) := by
  unfold execRegisterWrite
  with_reducible repeat'
    first
    | apply Evolves.refl | apply OutEvolves.onIsland | apply Evolves.step (ev_oneAccess ..) | dsimp only | decide | rfl
    | intro _

theorem ev_execRcCounterRead (src : Fin 5) (ofs : BitVec 24) (s : State) :
    OutEvolves 1361129467683753853835051685722082770927 s (execRcCounterRead src ofs s) := by
  unfold execRcCounterRead
  with_reducible repeat'
    first
    | apply Evolves.refl | apply OutEvolves.onIsland | apply Evolves.step (ev_oneAccess ..) | dsimp only | decide | rfl
    | intro _

end Sys2Proof.Machine
end

