-- ==== Sys2Proof/Laws/EvMbakinRx.lean ====
section
/-!
SUPPORT. What the operations of Machine/MbakinRx.lean may touch (Safety.lean, Evolves).
-/

namespace Sys2Proof.Machine

set_option Elab.async false
set_option linter.all false

theorem ev_mbakinDrop (s : State) : Evolves 255216967487562382425159486070155379211 s (mbakinDrop s) := by
  unfold mbakinDrop
  with_reducible repeat'
    first
    | apply Evolves.refl | apply Evolves.step (ev_sysCause ..) | apply Evolves.bump | dsimp only | decide | rfl
    | intro _

theorem ev_peerHeard (m : MbakinMsg) (s : State) :
    Evolves 255227352081279452080416547079993688587 s (peerHeard m s) := by
  unfold peerHeard
  with_reducible repeat'
    first
    | apply Evolves.refl | apply Evolves.step (ev_State_setSys ..) | apply Evolves.step (ev_sysCause ..)
    | apply Evolves.wrx | apply Evolves.bump | apply Evolves.onlyIf | dsimp only | decide | rfl | intro _

theorem ev_replyTo (type : Nat) (m : MbakinMsg) (s : State) :
    Evolves 1361129467683753853835051685722082770831 s (replyTo type m s) := by
  unfold replyTo
  with_reducible repeat'
    first
    | apply Evolves.refl | apply Evolves.step (ev_mbakinAnswer ..) | apply Evolves.ofPair ‹_›
    | apply Evolves.ofTriple ‹_› | split | dsimp only | decide | rfl | intro _

theorem ev_mismatchFor (i : Nat) (w : MbakinWait) (m : MbakinMsg) (s : State) :
    Evolves 1361129467683753853835051685722082770831 s (mismatchFor i w m s) := by
  unfold mismatchFor
  with_reducible repeat'
    first
    | apply Evolves.refl | apply Evolves.step (ev_sysCause ..) | apply Evolves.step (ev_State_setSession ..)
    | apply Evolves.step (ev_mbakinSend ..) | apply Evolves.step (ev_mbakinAnswer ..) | apply Evolves.bump
    | apply Evolves.ite | apply Evolves.ofPair ‹_› | apply Evolves.ofTriple ‹_› | split | dsimp only | decide | rfl
    | intro _

theorem ev_roleMismatch (m : MbakinMsg) (s : State) :
    Evolves 1361129467683753853835051685722082770831 s (roleMismatch m s) := by
  unfold roleMismatch
  with_reducible repeat'
    first
    | apply Evolves.refl | apply Evolves.step (ev_mismatchFor ..) | apply Evolves.step (ev_replyTo ..)
    | apply Evolves.ofPair ‹_› | apply Evolves.ofTriple ‹_› | split | dsimp only | decide | rfl | intro _

theorem ev_mbakinAct (m : MbakinMsg) (s : State) :
    Evolves 1361129467683753853835051685722082770927 s (mbakinAct m s) := by
  unfold mbakinAct
  with_reducible repeat'
    first
    | apply Evolves.refl | apply Evolves.step (ev_peerHeard ..) | apply Evolves.step (ev_mbakinSend ..)
    | apply Evolves.step (ev_actionNext ..) | apply Evolves.step (ev_replyTo ..)
    | apply Evolves.step (ev_State_setSys ..) | apply Evolves.step (ev_roleMismatch ..) | apply Evolves.ofPair ‹_›
    | apply Evolves.ofTriple ‹_› | split | dsimp only | decide | rfl | intro _

theorem ev_mbakinAccept (m : MbakinMsg) (s : State) :
    Evolves 1361129467683753853835051685722082770927 s (mbakinAccept m s) := by
  unfold mbakinAccept
  with_reducible repeat'
    first
    | apply Evolves.refl | apply Evolves.step (ev_State_setSys ..) | apply Evolves.step (ev_sysCause ..)
    | apply Evolves.step (ev_mbakinSend ..) | apply Evolves.step (ev_mbakinAct ..) | apply Evolves.bump
    | apply Evolves.ite | split | dsimp only | decide | rfl | intro _

theorem ev_mbakinRx (m : MbakinMsg) (s : State) :
    Evolves 1361129467683753853835051685722082770927 s (mbakinRx m s) := by
  unfold mbakinRx
  with_reducible repeat'
    first
    | apply Evolves.refl | apply Evolves.step (ev_mbakinDrop ..) | apply Evolves.step (ev_sysCause ..)
    | apply Evolves.step (ev_mbakinAccept ..) | apply Evolves.bump | apply Evolves.ite | split | dsimp only | decide
    | rfl | intro _

theorem ev_execMbakinRx (m : MbakinMsg) (s : State) :
    OutEvolves 1361129467683753853835051685722082770927 s (execMbakinRx m s) := by
  unfold execMbakinRx
  with_reducible repeat'
    first
    | apply Evolves.refl | apply OutEvolves.onIsland | apply Evolves.step (ev_mbakinRx ..) | dsimp only | decide | rfl
    | intro _ | apply Evolves.upd_sys

end Sys2Proof.Machine
end

