-- ==== Sys2Proof/Laws/State.lean ====
section
/-!
SUPPORT. What an update of one part of the state leaves: one lemma a field and update.
-/

namespace Sys2Proof.Machine

set_option Elab.async false
set_option linter.all false

variable (s : State)

@[simp] theorem State.setIsland_mem (i : Nat) (x : Island) : (s.setIsland i x).mem = s.mem := rfl
@[simp] theorem State.setIsland_ev (i : Nat) (x : Island) : (s.setIsland i x).ev = s.ev := rfl
@[simp] theorem State.setIsland_sess (i : Nat) (x : Island) : (s.setIsland i x).sess = s.sess := rfl
@[simp] theorem State.setIsland_pmu (i : Nat) (x : Island) : (s.setIsland i x).pmu = s.pmu := rfl
@[simp] theorem State.setIsland_clk (i : Nat) (x : Island) : (s.setIsland i x).clk = s.clk := rfl
@[simp] theorem State.setIsland_ptp (i : Nat) (x : Island) : (s.setIsland i x).ptp = s.ptp := rfl
@[simp] theorem State.setIsland_ptpFrac (i : Nat) (x : Island) : (s.setIsland i x).ptpFrac = s.ptpFrac := rfl
@[simp] theorem State.setIsland_freeCount (i : Nat) (x : Island) : (s.setIsland i x).freeCount = s.freeCount := rfl
@[simp] theorem State.setIsland_wrapped (i : Nat) (x : Island) : (s.setIsland i x).wrapped = s.wrapped := rfl
@[simp] theorem State.setIsland_rst (i : Nat) (x : Island) : (s.setIsland i x).rst = s.rst := rfl
@[simp] theorem State.setIsland_cmd (i : Nat) (x : Island) : (s.setIsland i x).cmd = s.cmd := rfl
@[simp] theorem State.setIsland_bpm (i : Nat) (x : Island) : (s.setIsland i x).bpm = s.bpm := rfl
@[simp] theorem State.setIsland_lanes (i : Nat) (x : Island) : (s.setIsland i x).lanes = s.lanes := rfl
@[simp] theorem State.setIsland_framing (i : Nat) (x : Island) : (s.setIsland i x).framing = s.framing := rfl
@[simp] theorem State.setIsland_pool (i : Nat) (x : Island) : (s.setIsland i x).pool = s.pool := rfl
@[simp] theorem State.setIsland_encoders (i : Nat) (x : Island) : (s.setIsland i x).encoders = s.encoders := rfl
@[simp] theorem State.setIsland_act (i : Nat) (x : Island) : (s.setIsland i x).act = s.act := rfl
@[simp] theorem State.setIsland_terms (i : Nat) (x : Island) : (s.setIsland i x).terms = s.terms := rfl
@[simp] theorem State.setIsland_grt (i : Nat) (x : Island) : (s.setIsland i x).grt = s.grt := rfl
@[simp] theorem State.setIsland_clusters (i : Nat) (x : Island) : (s.setIsland i x).clusters = s.clusters := rfl
@[simp] theorem State.setIsland_threads (i : Nat) (x : Island) : (s.setIsland i x).threads = s.threads := rfl
@[simp] theorem State.setIsland_queues (i : Nat) (x : Island) : (s.setIsland i x).queues = s.queues := rfl
@[simp] theorem State.setIsland_crl (i : Nat) (x : Island) : (s.setIsland i x).crl = s.crl := rfl
@[simp] theorem State.setIsland_ohp (i : Nat) (x : Island) : (s.setIsland i x).ohp = s.ohp := rfl
@[simp] theorem State.setIsland_cipher (i : Nat) (x : Island) : (s.setIsland i x).cipher = s.cipher := rfl
@[simp] theorem State.setIsland_upSdus (i : Nat) (x : Island) : (s.setIsland i x).upSdus = s.upSdus := rfl
@[simp] theorem State.setIsland_txts (i : Nat) (x : Island) : (s.setIsland i x).txts = s.txts := rfl
@[simp] theorem State.setIsland_tim (i : Nat) (x : Island) : (s.setIsland i x).tim = s.tim := rfl
@[simp] theorem State.setIsland_cls (i : Nat) (x : Island) : (s.setIsland i x).cls = s.cls := rfl
@[simp] theorem State.setIsland_lpm (i : Nat) (x : Island) : (s.setIsland i x).lpm = s.lpm := rfl
@[simp] theorem State.setIsland_merge (i : Nat) (x : Island) : (s.setIsland i x).merge = s.merge := rfl
@[simp] theorem State.setIsland_ports (i : Nat) (x : Island) : (s.setIsland i x).ports = s.ports := rfl
@[simp] theorem State.setIsland_pair (i : Nat) (x : Island) : (s.setIsland i x).pair = s.pair := rfl
@[simp] theorem State.setIsland_sys (i : Nat) (x : Island) : (s.setIsland i x).sys = s.sys := rfl
@[simp] theorem State.setIsland_nvm (i : Nat) (x : Island) : (s.setIsland i x).nvm = s.nvm := rfl
@[simp] theorem State.setIsland_pending (i : Nat) (x : Island) : (s.setIsland i x).pending = s.pending := rfl
@[simp] theorem State.setIsland_get (i : Nat) (x : Island) (key : Key) : (s.setIsland i x).get key = s.get key := rfl
@[simp] theorem rdx_setIsland (i : Nat) (x : Island) (f : Fld) (j y : Nat) : rdx f j y (s.setIsland i x) = rdx f j y s := rfl
@[simp] theorem rd_setIsland (i : Nat) (x : Island) (f : Fld) (j : Nat) : rd f j (s.setIsland i x) = rd f j s := rfl

@[simp] theorem State.setFram_mem (n : Nat) (x : Framing) : (s.setFram n x).mem = s.mem := rfl
@[simp] theorem State.setFram_ev (n : Nat) (x : Framing) : (s.setFram n x).ev = s.ev := rfl
@[simp] theorem State.setFram_sess (n : Nat) (x : Framing) : (s.setFram n x).sess = s.sess := rfl
@[simp] theorem State.setFram_pmu (n : Nat) (x : Framing) : (s.setFram n x).pmu = s.pmu := rfl
@[simp] theorem State.setFram_clk (n : Nat) (x : Framing) : (s.setFram n x).clk = s.clk := rfl
@[simp] theorem State.setFram_ptp (n : Nat) (x : Framing) : (s.setFram n x).ptp = s.ptp := rfl
@[simp] theorem State.setFram_ptpFrac (n : Nat) (x : Framing) : (s.setFram n x).ptpFrac = s.ptpFrac := rfl
@[simp] theorem State.setFram_freeCount (n : Nat) (x : Framing) : (s.setFram n x).freeCount = s.freeCount := rfl
@[simp] theorem State.setFram_islands (n : Nat) (x : Framing) : (s.setFram n x).islands = s.islands := rfl
@[simp] theorem State.setFram_wrapped (n : Nat) (x : Framing) : (s.setFram n x).wrapped = s.wrapped := rfl
@[simp] theorem State.setFram_rst (n : Nat) (x : Framing) : (s.setFram n x).rst = s.rst := rfl
@[simp] theorem State.setFram_cmd (n : Nat) (x : Framing) : (s.setFram n x).cmd = s.cmd := rfl
@[simp] theorem State.setFram_bpm (n : Nat) (x : Framing) : (s.setFram n x).bpm = s.bpm := rfl
@[simp] theorem State.setFram_lanes (n : Nat) (x : Framing) : (s.setFram n x).lanes = s.lanes := rfl
@[simp] theorem State.setFram_pool (n : Nat) (x : Framing) : (s.setFram n x).pool = s.pool := rfl
@[simp] theorem State.setFram_encoders (n : Nat) (x : Framing) : (s.setFram n x).encoders = s.encoders := rfl
@[simp] theorem State.setFram_act (n : Nat) (x : Framing) : (s.setFram n x).act = s.act := rfl
@[simp] theorem State.setFram_terms (n : Nat) (x : Framing) : (s.setFram n x).terms = s.terms := rfl
@[simp] theorem State.setFram_grt (n : Nat) (x : Framing) : (s.setFram n x).grt = s.grt := rfl
@[simp] theorem State.setFram_clusters (n : Nat) (x : Framing) : (s.setFram n x).clusters = s.clusters := rfl
@[simp] theorem State.setFram_threads (n : Nat) (x : Framing) : (s.setFram n x).threads = s.threads := rfl
@[simp] theorem State.setFram_queues (n : Nat) (x : Framing) : (s.setFram n x).queues = s.queues := rfl
@[simp] theorem State.setFram_crl (n : Nat) (x : Framing) : (s.setFram n x).crl = s.crl := rfl
@[simp] theorem State.setFram_ohp (n : Nat) (x : Framing) : (s.setFram n x).ohp = s.ohp := rfl
@[simp] theorem State.setFram_cipher (n : Nat) (x : Framing) : (s.setFram n x).cipher = s.cipher := rfl
@[simp] theorem State.setFram_upSdus (n : Nat) (x : Framing) : (s.setFram n x).upSdus = s.upSdus := rfl
@[simp] theorem State.setFram_txts (n : Nat) (x : Framing) : (s.setFram n x).txts = s.txts := rfl
@[simp] theorem State.setFram_tim (n : Nat) (x : Framing) : (s.setFram n x).tim = s.tim := rfl
@[simp] theorem State.setFram_cls (n : Nat) (x : Framing) : (s.setFram n x).cls = s.cls := rfl
@[simp] theorem State.setFram_lpm (n : Nat) (x : Framing) : (s.setFram n x).lpm = s.lpm := rfl
@[simp] theorem State.setFram_merge (n : Nat) (x : Framing) : (s.setFram n x).merge = s.merge := rfl
@[simp] theorem State.setFram_ports (n : Nat) (x : Framing) : (s.setFram n x).ports = s.ports := rfl
@[simp] theorem State.setFram_pair (n : Nat) (x : Framing) : (s.setFram n x).pair = s.pair := rfl
@[simp] theorem State.setFram_sys (n : Nat) (x : Framing) : (s.setFram n x).sys = s.sys := rfl
@[simp] theorem State.setFram_nvm (n : Nat) (x : Framing) : (s.setFram n x).nvm = s.nvm := rfl
@[simp] theorem State.setFram_pending (n : Nat) (x : Framing) : (s.setFram n x).pending = s.pending := rfl
@[simp] theorem State.setFram_get (n : Nat) (x : Framing) (key : Key) : (s.setFram n x).get key = s.get key := rfl
@[simp] theorem rdx_setFram (n : Nat) (x : Framing) (f : Fld) (j y : Nat) : rdx f j y (s.setFram n x) = rdx f j y s := rfl
@[simp] theorem rd_setFram (n : Nat) (x : Framing) (f : Fld) (j : Nat) : rd f j (s.setFram n x) = rd f j s := rfl
@[simp] theorem State.setFram_up (n : Nat) (x : Framing) (j : Nat) : (s.setFram n x).up j = s.up j := rfl

@[simp] theorem State.setSession_mem (i : Nat) (x : Session) : (s.setSession i x).mem = s.mem := rfl
@[simp] theorem State.setSession_ev (i : Nat) (x : Session) : (s.setSession i x).ev = s.ev := rfl
@[simp] theorem State.setSession_pmu (i : Nat) (x : Session) : (s.setSession i x).pmu = s.pmu := rfl
@[simp] theorem State.setSession_clk (i : Nat) (x : Session) : (s.setSession i x).clk = s.clk := rfl
@[simp] theorem State.setSession_ptp (i : Nat) (x : Session) : (s.setSession i x).ptp = s.ptp := rfl
@[simp] theorem State.setSession_ptpFrac (i : Nat) (x : Session) : (s.setSession i x).ptpFrac = s.ptpFrac := rfl
@[simp] theorem State.setSession_freeCount (i : Nat) (x : Session) : (s.setSession i x).freeCount = s.freeCount := rfl
@[simp] theorem State.setSession_islands (i : Nat) (x : Session) : (s.setSession i x).islands = s.islands := rfl
@[simp] theorem State.setSession_wrapped (i : Nat) (x : Session) : (s.setSession i x).wrapped = s.wrapped := rfl
@[simp] theorem State.setSession_rst (i : Nat) (x : Session) : (s.setSession i x).rst = s.rst := rfl
@[simp] theorem State.setSession_cmd (i : Nat) (x : Session) : (s.setSession i x).cmd = s.cmd := rfl
@[simp] theorem State.setSession_bpm (i : Nat) (x : Session) : (s.setSession i x).bpm = s.bpm := rfl
@[simp] theorem State.setSession_lanes (i : Nat) (x : Session) : (s.setSession i x).lanes = s.lanes := rfl
@[simp] theorem State.setSession_framing (i : Nat) (x : Session) : (s.setSession i x).framing = s.framing := rfl
@[simp] theorem State.setSession_pool (i : Nat) (x : Session) : (s.setSession i x).pool = s.pool := rfl
@[simp] theorem State.setSession_encoders (i : Nat) (x : Session) : (s.setSession i x).encoders = s.encoders := rfl
@[simp] theorem State.setSession_act (i : Nat) (x : Session) : (s.setSession i x).act = s.act := rfl
@[simp] theorem State.setSession_terms (i : Nat) (x : Session) : (s.setSession i x).terms = s.terms := rfl
@[simp] theorem State.setSession_grt (i : Nat) (x : Session) : (s.setSession i x).grt = s.grt := rfl
@[simp] theorem State.setSession_clusters (i : Nat) (x : Session) : (s.setSession i x).clusters = s.clusters := rfl
@[simp] theorem State.setSession_threads (i : Nat) (x : Session) : (s.setSession i x).threads = s.threads := rfl
@[simp] theorem State.setSession_queues (i : Nat) (x : Session) : (s.setSession i x).queues = s.queues := rfl
@[simp] theorem State.setSession_crl (i : Nat) (x : Session) : (s.setSession i x).crl = s.crl := rfl
@[simp] theorem State.setSession_ohp (i : Nat) (x : Session) : (s.setSession i x).ohp = s.ohp := rfl
@[simp] theorem State.setSession_cipher (i : Nat) (x : Session) : (s.setSession i x).cipher = s.cipher := rfl
@[simp] theorem State.setSession_upSdus (i : Nat) (x : Session) : (s.setSession i x).upSdus = s.upSdus := rfl
@[simp] theorem State.setSession_txts (i : Nat) (x : Session) : (s.setSession i x).txts = s.txts := rfl
@[simp] theorem State.setSession_tim (i : Nat) (x : Session) : (s.setSession i x).tim = s.tim := rfl
@[simp] theorem State.setSession_cls (i : Nat) (x : Session) : (s.setSession i x).cls = s.cls := rfl
@[simp] theorem State.setSession_lpm (i : Nat) (x : Session) : (s.setSession i x).lpm = s.lpm := rfl
@[simp] theorem State.setSession_merge (i : Nat) (x : Session) : (s.setSession i x).merge = s.merge := rfl
@[simp] theorem State.setSession_ports (i : Nat) (x : Session) : (s.setSession i x).ports = s.ports := rfl
@[simp] theorem State.setSession_pair (i : Nat) (x : Session) : (s.setSession i x).pair = s.pair := rfl
@[simp] theorem State.setSession_sys (i : Nat) (x : Session) : (s.setSession i x).sys = s.sys := rfl
@[simp] theorem State.setSession_nvm (i : Nat) (x : Session) : (s.setSession i x).nvm = s.nvm := rfl
@[simp] theorem State.setSession_pending (i : Nat) (x : Session) : (s.setSession i x).pending = s.pending := rfl
@[simp] theorem State.setSession_get (i : Nat) (x : Session) (key : Key) : (s.setSession i x).get key = s.get key := rfl
@[simp] theorem rdx_setSession (i : Nat) (x : Session) (f : Fld) (j y : Nat) : rdx f j y (s.setSession i x) = rdx f j y s := rfl
@[simp] theorem rd_setSession (i : Nat) (x : Session) (f : Fld) (j : Nat) : rd f j (s.setSession i x) = rd f j s := rfl
@[simp] theorem State.setSession_up (i : Nat) (x : Session) (j : Nat) : (s.setSession i x).up j = s.up j := rfl

@[simp] theorem State.setLane_mem (n : Nat) (x : Lane) : (s.setLane n x).mem = s.mem := rfl
@[simp] theorem State.setLane_ev (n : Nat) (x : Lane) : (s.setLane n x).ev = s.ev := rfl
@[simp] theorem State.setLane_sess (n : Nat) (x : Lane) : (s.setLane n x).sess = s.sess := rfl
@[simp] theorem State.setLane_pmu (n : Nat) (x : Lane) : (s.setLane n x).pmu = s.pmu := rfl
@[simp] theorem State.setLane_clk (n : Nat) (x : Lane) : (s.setLane n x).clk = s.clk := rfl
@[simp] theorem State.setLane_ptp (n : Nat) (x : Lane) : (s.setLane n x).ptp = s.ptp := rfl
@[simp] theorem State.setLane_ptpFrac (n : Nat) (x : Lane) : (s.setLane n x).ptpFrac = s.ptpFrac := rfl
@[simp] theorem State.setLane_freeCount (n : Nat) (x : Lane) : (s.setLane n x).freeCount = s.freeCount := rfl
@[simp] theorem State.setLane_islands (n : Nat) (x : Lane) : (s.setLane n x).islands = s.islands := rfl
@[simp] theorem State.setLane_wrapped (n : Nat) (x : Lane) : (s.setLane n x).wrapped = s.wrapped := rfl
@[simp] theorem State.setLane_rst (n : Nat) (x : Lane) : (s.setLane n x).rst = s.rst := rfl
@[simp] theorem State.setLane_cmd (n : Nat) (x : Lane) : (s.setLane n x).cmd = s.cmd := rfl
@[simp] theorem State.setLane_bpm (n : Nat) (x : Lane) : (s.setLane n x).bpm = s.bpm := rfl
@[simp] theorem State.setLane_framing (n : Nat) (x : Lane) : (s.setLane n x).framing = s.framing := rfl
@[simp] theorem State.setLane_pool (n : Nat) (x : Lane) : (s.setLane n x).pool = s.pool := rfl
@[simp] theorem State.setLane_encoders (n : Nat) (x : Lane) : (s.setLane n x).encoders = s.encoders := rfl
@[simp] theorem State.setLane_act (n : Nat) (x : Lane) : (s.setLane n x).act = s.act := rfl
@[simp] theorem State.setLane_terms (n : Nat) (x : Lane) : (s.setLane n x).terms = s.terms := rfl
@[simp] theorem State.setLane_grt (n : Nat) (x : Lane) : (s.setLane n x).grt = s.grt := rfl
@[simp] theorem State.setLane_clusters (n : Nat) (x : Lane) : (s.setLane n x).clusters = s.clusters := rfl
@[simp] theorem State.setLane_threads (n : Nat) (x : Lane) : (s.setLane n x).threads = s.threads := rfl
@[simp] theorem State.setLane_queues (n : Nat) (x : Lane) : (s.setLane n x).queues = s.queues := rfl
@[simp] theorem State.setLane_crl (n : Nat) (x : Lane) : (s.setLane n x).crl = s.crl := rfl
@[simp] theorem State.setLane_ohp (n : Nat) (x : Lane) : (s.setLane n x).ohp = s.ohp := rfl
@[simp] theorem State.setLane_cipher (n : Nat) (x : Lane) : (s.setLane n x).cipher = s.cipher := rfl
@[simp] theorem State.setLane_upSdus (n : Nat) (x : Lane) : (s.setLane n x).upSdus = s.upSdus := rfl
@[simp] theorem State.setLane_txts (n : Nat) (x : Lane) : (s.setLane n x).txts = s.txts := rfl
@[simp] theorem State.setLane_tim (n : Nat) (x : Lane) : (s.setLane n x).tim = s.tim := rfl
@[simp] theorem State.setLane_cls (n : Nat) (x : Lane) : (s.setLane n x).cls = s.cls := rfl
@[simp] theorem State.setLane_lpm (n : Nat) (x : Lane) : (s.setLane n x).lpm = s.lpm := rfl
@[simp] theorem State.setLane_merge (n : Nat) (x : Lane) : (s.setLane n x).merge = s.merge := rfl
@[simp] theorem State.setLane_ports (n : Nat) (x : Lane) : (s.setLane n x).ports = s.ports := rfl
@[simp] theorem State.setLane_pair (n : Nat) (x : Lane) : (s.setLane n x).pair = s.pair := rfl
@[simp] theorem State.setLane_sys (n : Nat) (x : Lane) : (s.setLane n x).sys = s.sys := rfl
@[simp] theorem State.setLane_nvm (n : Nat) (x : Lane) : (s.setLane n x).nvm = s.nvm := rfl
@[simp] theorem State.setLane_pending (n : Nat) (x : Lane) : (s.setLane n x).pending = s.pending := rfl
@[simp] theorem State.setLane_get (n : Nat) (x : Lane) (key : Key) : (s.setLane n x).get key = s.get key := rfl
@[simp] theorem rdx_setLane (n : Nat) (x : Lane) (f : Fld) (j y : Nat) : rdx f j y (s.setLane n x) = rdx f j y s := rfl
@[simp] theorem rd_setLane (n : Nat) (x : Lane) (f : Fld) (j : Nat) : rd f j (s.setLane n x) = rd f j s := rfl
@[simp] theorem State.setLane_up (n : Nat) (x : Lane) (j : Nat) : (s.setLane n x).up j = s.up j := rfl

@[simp] theorem State.setGrant_mem (n : Nat) (x : Grt) : (s.setGrant n x).mem = s.mem := rfl
@[simp] theorem State.setGrant_ev (n : Nat) (x : Grt) : (s.setGrant n x).ev = s.ev := rfl
@[simp] theorem State.setGrant_sess (n : Nat) (x : Grt) : (s.setGrant n x).sess = s.sess := rfl
@[simp] theorem State.setGrant_pmu (n : Nat) (x : Grt) : (s.setGrant n x).pmu = s.pmu := rfl
@[simp] theorem State.setGrant_clk (n : Nat) (x : Grt) : (s.setGrant n x).clk = s.clk := rfl
@[simp] theorem State.setGrant_ptp (n : Nat) (x : Grt) : (s.setGrant n x).ptp = s.ptp := rfl
@[simp] theorem State.setGrant_ptpFrac (n : Nat) (x : Grt) : (s.setGrant n x).ptpFrac = s.ptpFrac := rfl
@[simp] theorem State.setGrant_freeCount (n : Nat) (x : Grt) : (s.setGrant n x).freeCount = s.freeCount := rfl
@[simp] theorem State.setGrant_islands (n : Nat) (x : Grt) : (s.setGrant n x).islands = s.islands := rfl
@[simp] theorem State.setGrant_wrapped (n : Nat) (x : Grt) : (s.setGrant n x).wrapped = s.wrapped := rfl
@[simp] theorem State.setGrant_rst (n : Nat) (x : Grt) : (s.setGrant n x).rst = s.rst := rfl
@[simp] theorem State.setGrant_cmd (n : Nat) (x : Grt) : (s.setGrant n x).cmd = s.cmd := rfl
@[simp] theorem State.setGrant_bpm (n : Nat) (x : Grt) : (s.setGrant n x).bpm = s.bpm := rfl
@[simp] theorem State.setGrant_lanes (n : Nat) (x : Grt) : (s.setGrant n x).lanes = s.lanes := rfl
@[simp] theorem State.setGrant_framing (n : Nat) (x : Grt) : (s.setGrant n x).framing = s.framing := rfl
@[simp] theorem State.setGrant_pool (n : Nat) (x : Grt) : (s.setGrant n x).pool = s.pool := rfl
@[simp] theorem State.setGrant_encoders (n : Nat) (x : Grt) : (s.setGrant n x).encoders = s.encoders := rfl
@[simp] theorem State.setGrant_act (n : Nat) (x : Grt) : (s.setGrant n x).act = s.act := rfl
@[simp] theorem State.setGrant_terms (n : Nat) (x : Grt) : (s.setGrant n x).terms = s.terms := rfl
@[simp] theorem State.setGrant_clusters (n : Nat) (x : Grt) : (s.setGrant n x).clusters = s.clusters := rfl
@[simp] theorem State.setGrant_threads (n : Nat) (x : Grt) : (s.setGrant n x).threads = s.threads := rfl
@[simp] theorem State.setGrant_queues (n : Nat) (x : Grt) : (s.setGrant n x).queues = s.queues := rfl
@[simp] theorem State.setGrant_crl (n : Nat) (x : Grt) : (s.setGrant n x).crl = s.crl := rfl
@[simp] theorem State.setGrant_ohp (n : Nat) (x : Grt) : (s.setGrant n x).ohp = s.ohp := rfl
@[simp] theorem State.setGrant_cipher (n : Nat) (x : Grt) : (s.setGrant n x).cipher = s.cipher := rfl
@[simp] theorem State.setGrant_upSdus (n : Nat) (x : Grt) : (s.setGrant n x).upSdus = s.upSdus := rfl
@[simp] theorem State.setGrant_txts (n : Nat) (x : Grt) : (s.setGrant n x).txts = s.txts := rfl
@[simp] theorem State.setGrant_tim (n : Nat) (x : Grt) : (s.setGrant n x).tim = s.tim := rfl
@[simp] theorem State.setGrant_cls (n : Nat) (x : Grt) : (s.setGrant n x).cls = s.cls := rfl
@[simp] theorem State.setGrant_lpm (n : Nat) (x : Grt) : (s.setGrant n x).lpm = s.lpm := rfl
@[simp] theorem State.setGrant_merge (n : Nat) (x : Grt) : (s.setGrant n x).merge = s.merge := rfl
@[simp] theorem State.setGrant_ports (n : Nat) (x : Grt) : (s.setGrant n x).ports = s.ports := rfl
@[simp] theorem State.setGrant_pair (n : Nat) (x : Grt) : (s.setGrant n x).pair = s.pair := rfl
@[simp] theorem State.setGrant_sys (n : Nat) (x : Grt) : (s.setGrant n x).sys = s.sys := rfl
@[simp] theorem State.setGrant_nvm (n : Nat) (x : Grt) : (s.setGrant n x).nvm = s.nvm := rfl
@[simp] theorem State.setGrant_pending (n : Nat) (x : Grt) : (s.setGrant n x).pending = s.pending := rfl
@[simp] theorem State.setGrant_get (n : Nat) (x : Grt) (key : Key) : (s.setGrant n x).get key = s.get key := rfl
@[simp] theorem rdx_setGrant (n : Nat) (x : Grt) (f : Fld) (j y : Nat) : rdx f j y (s.setGrant n x) = rdx f j y s := rfl
@[simp] theorem rd_setGrant (n : Nat) (x : Grt) (f : Fld) (j : Nat) : rd f j (s.setGrant n x) = rd f j s := rfl
@[simp] theorem State.setGrant_up (n : Nat) (x : Grt) (j : Nat) : (s.setGrant n x).up j = s.up j := rfl

@[simp] theorem State.setAct_mem (n : Nat) (x : Act) : (s.setAct n x).mem = s.mem := rfl
@[simp] theorem State.setAct_ev (n : Nat) (x : Act) : (s.setAct n x).ev = s.ev := rfl
@[simp] theorem State.setAct_sess (n : Nat) (x : Act) : (s.setAct n x).sess = s.sess := rfl
@[simp] theorem State.setAct_pmu (n : Nat) (x : Act) : (s.setAct n x).pmu = s.pmu := rfl
@[simp] theorem State.setAct_clk (n : Nat) (x : Act) : (s.setAct n x).clk = s.clk := rfl
@[simp] theorem State.setAct_ptp (n : Nat) (x : Act) : (s.setAct n x).ptp = s.ptp := rfl
@[simp] theorem State.setAct_ptpFrac (n : Nat) (x : Act) : (s.setAct n x).ptpFrac = s.ptpFrac := rfl
@[simp] theorem State.setAct_freeCount (n : Nat) (x : Act) : (s.setAct n x).freeCount = s.freeCount := rfl
@[simp] theorem State.setAct_islands (n : Nat) (x : Act) : (s.setAct n x).islands = s.islands := rfl
@[simp] theorem State.setAct_wrapped (n : Nat) (x : Act) : (s.setAct n x).wrapped = s.wrapped := rfl
@[simp] theorem State.setAct_rst (n : Nat) (x : Act) : (s.setAct n x).rst = s.rst := rfl
@[simp] theorem State.setAct_cmd (n : Nat) (x : Act) : (s.setAct n x).cmd = s.cmd := rfl
@[simp] theorem State.setAct_bpm (n : Nat) (x : Act) : (s.setAct n x).bpm = s.bpm := rfl
@[simp] theorem State.setAct_lanes (n : Nat) (x : Act) : (s.setAct n x).lanes = s.lanes := rfl
@[simp] theorem State.setAct_framing (n : Nat) (x : Act) : (s.setAct n x).framing = s.framing := rfl
@[simp] theorem State.setAct_pool (n : Nat) (x : Act) : (s.setAct n x).pool = s.pool := rfl
@[simp] theorem State.setAct_encoders (n : Nat) (x : Act) : (s.setAct n x).encoders = s.encoders := rfl
@[simp] theorem State.setAct_terms (n : Nat) (x : Act) : (s.setAct n x).terms = s.terms := rfl
@[simp] theorem State.setAct_grt (n : Nat) (x : Act) : (s.setAct n x).grt = s.grt := rfl
@[simp] theorem State.setAct_clusters (n : Nat) (x : Act) : (s.setAct n x).clusters = s.clusters := rfl
@[simp] theorem State.setAct_threads (n : Nat) (x : Act) : (s.setAct n x).threads = s.threads := rfl
@[simp] theorem State.setAct_queues (n : Nat) (x : Act) : (s.setAct n x).queues = s.queues := rfl
@[simp] theorem State.setAct_crl (n : Nat) (x : Act) : (s.setAct n x).crl = s.crl := rfl
@[simp] theorem State.setAct_ohp (n : Nat) (x : Act) : (s.setAct n x).ohp = s.ohp := rfl
@[simp] theorem State.setAct_cipher (n : Nat) (x : Act) : (s.setAct n x).cipher = s.cipher := rfl
@[simp] theorem State.setAct_upSdus (n : Nat) (x : Act) : (s.setAct n x).upSdus = s.upSdus := rfl
@[simp] theorem State.setAct_txts (n : Nat) (x : Act) : (s.setAct n x).txts = s.txts := rfl
@[simp] theorem State.setAct_tim (n : Nat) (x : Act) : (s.setAct n x).tim = s.tim := rfl
@[simp] theorem State.setAct_cls (n : Nat) (x : Act) : (s.setAct n x).cls = s.cls := rfl
@[simp] theorem State.setAct_lpm (n : Nat) (x : Act) : (s.setAct n x).lpm = s.lpm := rfl
@[simp] theorem State.setAct_merge (n : Nat) (x : Act) : (s.setAct n x).merge = s.merge := rfl
@[simp] theorem State.setAct_ports (n : Nat) (x : Act) : (s.setAct n x).ports = s.ports := rfl
@[simp] theorem State.setAct_pair (n : Nat) (x : Act) : (s.setAct n x).pair = s.pair := rfl
@[simp] theorem State.setAct_sys (n : Nat) (x : Act) : (s.setAct n x).sys = s.sys := rfl
@[simp] theorem State.setAct_nvm (n : Nat) (x : Act) : (s.setAct n x).nvm = s.nvm := rfl
@[simp] theorem State.setAct_pending (n : Nat) (x : Act) : (s.setAct n x).pending = s.pending := rfl
@[simp] theorem State.setAct_get (n : Nat) (x : Act) (key : Key) : (s.setAct n x).get key = s.get key := rfl
@[simp] theorem rdx_setAct (n : Nat) (x : Act) (f : Fld) (j y : Nat) : rdx f j y (s.setAct n x) = rdx f j y s := rfl
@[simp] theorem rd_setAct (n : Nat) (x : Act) (f : Fld) (j : Nat) : rd f j (s.setAct n x) = rd f j s := rfl
@[simp] theorem State.setAct_up (n : Nat) (x : Act) (j : Nat) : (s.setAct n x).up j = s.up j := rfl

@[simp] theorem State.setTerm_mem (n k : Nat) (x : TermX) : (s.setTerm n k x).mem = s.mem := rfl
@[simp] theorem State.setTerm_ev (n k : Nat) (x : TermX) : (s.setTerm n k x).ev = s.ev := rfl
@[simp] theorem State.setTerm_sess (n k : Nat) (x : TermX) : (s.setTerm n k x).sess = s.sess := rfl
@[simp] theorem State.setTerm_pmu (n k : Nat) (x : TermX) : (s.setTerm n k x).pmu = s.pmu := rfl
@[simp] theorem State.setTerm_clk (n k : Nat) (x : TermX) : (s.setTerm n k x).clk = s.clk := rfl
@[simp] theorem State.setTerm_ptp (n k : Nat) (x : TermX) : (s.setTerm n k x).ptp = s.ptp := rfl
@[simp] theorem State.setTerm_ptpFrac (n k : Nat) (x : TermX) : (s.setTerm n k x).ptpFrac = s.ptpFrac := rfl
@[simp] theorem State.setTerm_freeCount (n k : Nat) (x : TermX) : (s.setTerm n k x).freeCount = s.freeCount := rfl
@[simp] theorem State.setTerm_islands (n k : Nat) (x : TermX) : (s.setTerm n k x).islands = s.islands := rfl
@[simp] theorem State.setTerm_wrapped (n k : Nat) (x : TermX) : (s.setTerm n k x).wrapped = s.wrapped := rfl
@[simp] theorem State.setTerm_rst (n k : Nat) (x : TermX) : (s.setTerm n k x).rst = s.rst := rfl
@[simp] theorem State.setTerm_cmd (n k : Nat) (x : TermX) : (s.setTerm n k x).cmd = s.cmd := rfl
@[simp] theorem State.setTerm_bpm (n k : Nat) (x : TermX) : (s.setTerm n k x).bpm = s.bpm := rfl
@[simp] theorem State.setTerm_lanes (n k : Nat) (x : TermX) : (s.setTerm n k x).lanes = s.lanes := rfl
@[simp] theorem State.setTerm_framing (n k : Nat) (x : TermX) : (s.setTerm n k x).framing = s.framing := rfl
@[simp] theorem State.setTerm_pool (n k : Nat) (x : TermX) : (s.setTerm n k x).pool = s.pool := rfl
@[simp] theorem State.setTerm_encoders (n k : Nat) (x : TermX) : (s.setTerm n k x).encoders = s.encoders := rfl
@[simp] theorem State.setTerm_act (n k : Nat) (x : TermX) : (s.setTerm n k x).act = s.act := rfl
@[simp] theorem State.setTerm_grt (n k : Nat) (x : TermX) : (s.setTerm n k x).grt = s.grt := rfl
@[simp] theorem State.setTerm_clusters (n k : Nat) (x : TermX) : (s.setTerm n k x).clusters = s.clusters := rfl
@[simp] theorem State.setTerm_threads (n k : Nat) (x : TermX) : (s.setTerm n k x).threads = s.threads := rfl
@[simp] theorem State.setTerm_queues (n k : Nat) (x : TermX) : (s.setTerm n k x).queues = s.queues := rfl
@[simp] theorem State.setTerm_crl (n k : Nat) (x : TermX) : (s.setTerm n k x).crl = s.crl := rfl
@[simp] theorem State.setTerm_ohp (n k : Nat) (x : TermX) : (s.setTerm n k x).ohp = s.ohp := rfl
@[simp] theorem State.setTerm_cipher (n k : Nat) (x : TermX) : (s.setTerm n k x).cipher = s.cipher := rfl
@[simp] theorem State.setTerm_upSdus (n k : Nat) (x : TermX) : (s.setTerm n k x).upSdus = s.upSdus := rfl
@[simp] theorem State.setTerm_txts (n k : Nat) (x : TermX) : (s.setTerm n k x).txts = s.txts := rfl
@[simp] theorem State.setTerm_tim (n k : Nat) (x : TermX) : (s.setTerm n k x).tim = s.tim := rfl
@[simp] theorem State.setTerm_cls (n k : Nat) (x : TermX) : (s.setTerm n k x).cls = s.cls := rfl
@[simp] theorem State.setTerm_lpm (n k : Nat) (x : TermX) : (s.setTerm n k x).lpm = s.lpm := rfl
@[simp] theorem State.setTerm_merge (n k : Nat) (x : TermX) : (s.setTerm n k x).merge = s.merge := rfl
@[simp] theorem State.setTerm_ports (n k : Nat) (x : TermX) : (s.setTerm n k x).ports = s.ports := rfl
@[simp] theorem State.setTerm_pair (n k : Nat) (x : TermX) : (s.setTerm n k x).pair = s.pair := rfl
@[simp] theorem State.setTerm_sys (n k : Nat) (x : TermX) : (s.setTerm n k x).sys = s.sys := rfl
@[simp] theorem State.setTerm_nvm (n k : Nat) (x : TermX) : (s.setTerm n k x).nvm = s.nvm := rfl
@[simp] theorem State.setTerm_pending (n k : Nat) (x : TermX) : (s.setTerm n k x).pending = s.pending := rfl
@[simp] theorem State.setTerm_get (n k : Nat) (x : TermX) (key : Key) : (s.setTerm n k x).get key = s.get key := rfl
@[simp] theorem rdx_setTerm (n k : Nat) (x : TermX) (f : Fld) (j y : Nat) : rdx f j y (s.setTerm n k x) = rdx f j y s := rfl
@[simp] theorem rd_setTerm (n k : Nat) (x : TermX) (f : Fld) (j : Nat) : rd f j (s.setTerm n k x) = rd f j s := rfl
@[simp] theorem State.setTerm_up (n k : Nat) (x : TermX) (j : Nat) : (s.setTerm n k x).up j = s.up j := rfl

@[simp] theorem State.setCluster_mem (k : Nat) (x : Cluster) : (s.setCluster k x).mem = s.mem := rfl
@[simp] theorem State.setCluster_ev (k : Nat) (x : Cluster) : (s.setCluster k x).ev = s.ev := rfl
@[simp] theorem State.setCluster_sess (k : Nat) (x : Cluster) : (s.setCluster k x).sess = s.sess := rfl
@[simp] theorem State.setCluster_pmu (k : Nat) (x : Cluster) : (s.setCluster k x).pmu = s.pmu := rfl
@[simp] theorem State.setCluster_clk (k : Nat) (x : Cluster) : (s.setCluster k x).clk = s.clk := rfl
@[simp] theorem State.setCluster_ptp (k : Nat) (x : Cluster) : (s.setCluster k x).ptp = s.ptp := rfl
@[simp] theorem State.setCluster_ptpFrac (k : Nat) (x : Cluster) : (s.setCluster k x).ptpFrac = s.ptpFrac := rfl
@[simp] theorem State.setCluster_freeCount (k : Nat) (x : Cluster) : (s.setCluster k x).freeCount = s.freeCount := rfl
@[simp] theorem State.setCluster_islands (k : Nat) (x : Cluster) : (s.setCluster k x).islands = s.islands := rfl
@[simp] theorem State.setCluster_wrapped (k : Nat) (x : Cluster) : (s.setCluster k x).wrapped = s.wrapped := rfl
@[simp] theorem State.setCluster_rst (k : Nat) (x : Cluster) : (s.setCluster k x).rst = s.rst := rfl
@[simp] theorem State.setCluster_cmd (k : Nat) (x : Cluster) : (s.setCluster k x).cmd = s.cmd := rfl
@[simp] theorem State.setCluster_bpm (k : Nat) (x : Cluster) : (s.setCluster k x).bpm = s.bpm := rfl
@[simp] theorem State.setCluster_lanes (k : Nat) (x : Cluster) : (s.setCluster k x).lanes = s.lanes := rfl
@[simp] theorem State.setCluster_framing (k : Nat) (x : Cluster) : (s.setCluster k x).framing = s.framing := rfl
@[simp] theorem State.setCluster_pool (k : Nat) (x : Cluster) : (s.setCluster k x).pool = s.pool := rfl
@[simp] theorem State.setCluster_encoders (k : Nat) (x : Cluster) : (s.setCluster k x).encoders = s.encoders := rfl
@[simp] theorem State.setCluster_act (k : Nat) (x : Cluster) : (s.setCluster k x).act = s.act := rfl
@[simp] theorem State.setCluster_terms (k : Nat) (x : Cluster) : (s.setCluster k x).terms = s.terms := rfl
@[simp] theorem State.setCluster_grt (k : Nat) (x : Cluster) : (s.setCluster k x).grt = s.grt := rfl
@[simp] theorem State.setCluster_threads (k : Nat) (x : Cluster) : (s.setCluster k x).threads = s.threads := rfl
@[simp] theorem State.setCluster_queues (k : Nat) (x : Cluster) : (s.setCluster k x).queues = s.queues := rfl
@[simp] theorem State.setCluster_crl (k : Nat) (x : Cluster) : (s.setCluster k x).crl = s.crl := rfl
@[simp] theorem State.setCluster_ohp (k : Nat) (x : Cluster) : (s.setCluster k x).ohp = s.ohp := rfl
@[simp] theorem State.setCluster_cipher (k : Nat) (x : Cluster) : (s.setCluster k x).cipher = s.cipher := rfl
@[simp] theorem State.setCluster_upSdus (k : Nat) (x : Cluster) : (s.setCluster k x).upSdus = s.upSdus := rfl
@[simp] theorem State.setCluster_txts (k : Nat) (x : Cluster) : (s.setCluster k x).txts = s.txts := rfl
@[simp] theorem State.setCluster_tim (k : Nat) (x : Cluster) : (s.setCluster k x).tim = s.tim := rfl
@[simp] theorem State.setCluster_cls (k : Nat) (x : Cluster) : (s.setCluster k x).cls = s.cls := rfl
@[simp] theorem State.setCluster_lpm (k : Nat) (x : Cluster) : (s.setCluster k x).lpm = s.lpm := rfl
@[simp] theorem State.setCluster_merge (k : Nat) (x : Cluster) : (s.setCluster k x).merge = s.merge := rfl
@[simp] theorem State.setCluster_ports (k : Nat) (x : Cluster) : (s.setCluster k x).ports = s.ports := rfl
@[simp] theorem State.setCluster_pair (k : Nat) (x : Cluster) : (s.setCluster k x).pair = s.pair := rfl
@[simp] theorem State.setCluster_sys (k : Nat) (x : Cluster) : (s.setCluster k x).sys = s.sys := rfl
@[simp] theorem State.setCluster_nvm (k : Nat) (x : Cluster) : (s.setCluster k x).nvm = s.nvm := rfl
@[simp] theorem State.setCluster_pending (k : Nat) (x : Cluster) : (s.setCluster k x).pending = s.pending := rfl
@[simp] theorem State.setCluster_get (k : Nat) (x : Cluster) (key : Key) : (s.setCluster k x).get key = s.get key := rfl
@[simp] theorem rdx_setCluster (k : Nat) (x : Cluster) (f : Fld) (j y : Nat) : rdx f j y (s.setCluster k x) = rdx f j y s := rfl
@[simp] theorem rd_setCluster (k : Nat) (x : Cluster) (f : Fld) (j : Nat) : rd f j (s.setCluster k x) = rd f j s := rfl
@[simp] theorem State.setCluster_up (k : Nat) (x : Cluster) (j : Nat) : (s.setCluster k x).up j = s.up j := rfl

@[simp] theorem State.setThread_mem (k r : Nat) (x : Thread) : (s.setThread k r x).mem = s.mem := rfl
@[simp] theorem State.setThread_ev (k r : Nat) (x : Thread) : (s.setThread k r x).ev = s.ev := rfl
@[simp] theorem State.setThread_sess (k r : Nat) (x : Thread) : (s.setThread k r x).sess = s.sess := rfl
@[simp] theorem State.setThread_pmu (k r : Nat) (x : Thread) : (s.setThread k r x).pmu = s.pmu := rfl
@[simp] theorem State.setThread_clk (k r : Nat) (x : Thread) : (s.setThread k r x).clk = s.clk := rfl
@[simp] theorem State.setThread_ptp (k r : Nat) (x : Thread) : (s.setThread k r x).ptp = s.ptp := rfl
@[simp] theorem State.setThread_ptpFrac (k r : Nat) (x : Thread) : (s.setThread k r x).ptpFrac = s.ptpFrac := rfl
@[simp] theorem State.setThread_freeCount (k r : Nat) (x : Thread) : (s.setThread k r x).freeCount = s.freeCount := rfl
@[simp] theorem State.setThread_islands (k r : Nat) (x : Thread) : (s.setThread k r x).islands = s.islands := rfl
@[simp] theorem State.setThread_wrapped (k r : Nat) (x : Thread) : (s.setThread k r x).wrapped = s.wrapped := rfl
@[simp] theorem State.setThread_rst (k r : Nat) (x : Thread) : (s.setThread k r x).rst = s.rst := rfl
@[simp] theorem State.setThread_cmd (k r : Nat) (x : Thread) : (s.setThread k r x).cmd = s.cmd := rfl
@[simp] theorem State.setThread_bpm (k r : Nat) (x : Thread) : (s.setThread k r x).bpm = s.bpm := rfl
@[simp] theorem State.setThread_lanes (k r : Nat) (x : Thread) : (s.setThread k r x).lanes = s.lanes := rfl
@[simp] theorem State.setThread_framing (k r : Nat) (x : Thread) : (s.setThread k r x).framing = s.framing := rfl
@[simp] theorem State.setThread_pool (k r : Nat) (x : Thread) : (s.setThread k r x).pool = s.pool := rfl
@[simp] theorem State.setThread_encoders (k r : Nat) (x : Thread) : (s.setThread k r x).encoders = s.encoders := rfl
@[simp] theorem State.setThread_act (k r : Nat) (x : Thread) : (s.setThread k r x).act = s.act := rfl
@[simp] theorem State.setThread_terms (k r : Nat) (x : Thread) : (s.setThread k r x).terms = s.terms := rfl
@[simp] theorem State.setThread_grt (k r : Nat) (x : Thread) : (s.setThread k r x).grt = s.grt := rfl
@[simp] theorem State.setThread_clusters (k r : Nat) (x : Thread) : (s.setThread k r x).clusters = s.clusters := rfl
@[simp] theorem State.setThread_queues (k r : Nat) (x : Thread) : (s.setThread k r x).queues = s.queues := rfl
@[simp] theorem State.setThread_crl (k r : Nat) (x : Thread) : (s.setThread k r x).crl = s.crl := rfl
@[simp] theorem State.setThread_ohp (k r : Nat) (x : Thread) : (s.setThread k r x).ohp = s.ohp := rfl
@[simp] theorem State.setThread_cipher (k r : Nat) (x : Thread) : (s.setThread k r x).cipher = s.cipher := rfl
@[simp] theorem State.setThread_upSdus (k r : Nat) (x : Thread) : (s.setThread k r x).upSdus = s.upSdus := rfl
@[simp] theorem State.setThread_txts (k r : Nat) (x : Thread) : (s.setThread k r x).txts = s.txts := rfl
@[simp] theorem State.setThread_tim (k r : Nat) (x : Thread) : (s.setThread k r x).tim = s.tim := rfl
@[simp] theorem State.setThread_cls (k r : Nat) (x : Thread) : (s.setThread k r x).cls = s.cls := rfl
@[simp] theorem State.setThread_lpm (k r : Nat) (x : Thread) : (s.setThread k r x).lpm = s.lpm := rfl
@[simp] theorem State.setThread_merge (k r : Nat) (x : Thread) : (s.setThread k r x).merge = s.merge := rfl
@[simp] theorem State.setThread_ports (k r : Nat) (x : Thread) : (s.setThread k r x).ports = s.ports := rfl
@[simp] theorem State.setThread_pair (k r : Nat) (x : Thread) : (s.setThread k r x).pair = s.pair := rfl
@[simp] theorem State.setThread_sys (k r : Nat) (x : Thread) : (s.setThread k r x).sys = s.sys := rfl
@[simp] theorem State.setThread_nvm (k r : Nat) (x : Thread) : (s.setThread k r x).nvm = s.nvm := rfl
@[simp] theorem State.setThread_pending (k r : Nat) (x : Thread) : (s.setThread k r x).pending = s.pending := rfl
@[simp] theorem State.setThread_get (k r : Nat) (x : Thread) (key : Key) : (s.setThread k r x).get key = s.get key := rfl
@[simp] theorem rdx_setThread (k r : Nat) (x : Thread) (f : Fld) (j y : Nat) : rdx f j y (s.setThread k r x) = rdx f j y s := rfl
@[simp] theorem rd_setThread (k r : Nat) (x : Thread) (f : Fld) (j : Nat) : rd f j (s.setThread k r x) = rd f j s := rfl
@[simp] theorem State.setThread_up (k r : Nat) (x : Thread) (j : Nat) : (s.setThread k r x).up j = s.up j := rfl

@[simp] theorem State.setNode_mem (d : Node) (x : NodeX) : (s.setNode d x).mem = s.mem := rfl
@[simp] theorem State.setNode_ev (d : Node) (x : NodeX) : (s.setNode d x).ev = s.ev := rfl
@[simp] theorem State.setNode_sess (d : Node) (x : NodeX) : (s.setNode d x).sess = s.sess := rfl
@[simp] theorem State.setNode_pmu (d : Node) (x : NodeX) : (s.setNode d x).pmu = s.pmu := rfl
@[simp] theorem State.setNode_clk (d : Node) (x : NodeX) : (s.setNode d x).clk = s.clk := rfl
@[simp] theorem State.setNode_ptp (d : Node) (x : NodeX) : (s.setNode d x).ptp = s.ptp := rfl
@[simp] theorem State.setNode_ptpFrac (d : Node) (x : NodeX) : (s.setNode d x).ptpFrac = s.ptpFrac := rfl
@[simp] theorem State.setNode_freeCount (d : Node) (x : NodeX) : (s.setNode d x).freeCount = s.freeCount := rfl
@[simp] theorem State.setNode_islands (d : Node) (x : NodeX) : (s.setNode d x).islands = s.islands := rfl
@[simp] theorem State.setNode_wrapped (d : Node) (x : NodeX) : (s.setNode d x).wrapped = s.wrapped := rfl
@[simp] theorem State.setNode_rst (d : Node) (x : NodeX) : (s.setNode d x).rst = s.rst := rfl
@[simp] theorem State.setNode_cmd (d : Node) (x : NodeX) : (s.setNode d x).cmd = s.cmd := rfl
@[simp] theorem State.setNode_bpm (d : Node) (x : NodeX) : (s.setNode d x).bpm = s.bpm := rfl
@[simp] theorem State.setNode_lanes (d : Node) (x : NodeX) : (s.setNode d x).lanes = s.lanes := rfl
@[simp] theorem State.setNode_framing (d : Node) (x : NodeX) : (s.setNode d x).framing = s.framing := rfl
@[simp] theorem State.setNode_pool (d : Node) (x : NodeX) : (s.setNode d x).pool = s.pool := rfl
@[simp] theorem State.setNode_encoders (d : Node) (x : NodeX) : (s.setNode d x).encoders = s.encoders := rfl
@[simp] theorem State.setNode_act (d : Node) (x : NodeX) : (s.setNode d x).act = s.act := rfl
@[simp] theorem State.setNode_terms (d : Node) (x : NodeX) : (s.setNode d x).terms = s.terms := rfl
@[simp] theorem State.setNode_grt (d : Node) (x : NodeX) : (s.setNode d x).grt = s.grt := rfl
@[simp] theorem State.setNode_clusters (d : Node) (x : NodeX) : (s.setNode d x).clusters = s.clusters := rfl
@[simp] theorem State.setNode_threads (d : Node) (x : NodeX) : (s.setNode d x).threads = s.threads := rfl
@[simp] theorem State.setNode_crl (d : Node) (x : NodeX) : (s.setNode d x).crl = s.crl := rfl
@[simp] theorem State.setNode_ohp (d : Node) (x : NodeX) : (s.setNode d x).ohp = s.ohp := rfl
@[simp] theorem State.setNode_cipher (d : Node) (x : NodeX) : (s.setNode d x).cipher = s.cipher := rfl
@[simp] theorem State.setNode_upSdus (d : Node) (x : NodeX) : (s.setNode d x).upSdus = s.upSdus := rfl
@[simp] theorem State.setNode_txts (d : Node) (x : NodeX) : (s.setNode d x).txts = s.txts := rfl
@[simp] theorem State.setNode_tim (d : Node) (x : NodeX) : (s.setNode d x).tim = s.tim := rfl
@[simp] theorem State.setNode_cls (d : Node) (x : NodeX) : (s.setNode d x).cls = s.cls := rfl
@[simp] theorem State.setNode_lpm (d : Node) (x : NodeX) : (s.setNode d x).lpm = s.lpm := rfl
@[simp] theorem State.setNode_merge (d : Node) (x : NodeX) : (s.setNode d x).merge = s.merge := rfl
@[simp] theorem State.setNode_ports (d : Node) (x : NodeX) : (s.setNode d x).ports = s.ports := rfl
@[simp] theorem State.setNode_pair (d : Node) (x : NodeX) : (s.setNode d x).pair = s.pair := rfl
@[simp] theorem State.setNode_sys (d : Node) (x : NodeX) : (s.setNode d x).sys = s.sys := rfl
@[simp] theorem State.setNode_nvm (d : Node) (x : NodeX) : (s.setNode d x).nvm = s.nvm := rfl
@[simp] theorem State.setNode_pending (d : Node) (x : NodeX) : (s.setNode d x).pending = s.pending := rfl
@[simp] theorem State.setNode_get (d : Node) (x : NodeX) (key : Key) : (s.setNode d x).get key = s.get key := rfl
@[simp] theorem rdx_setNode (d : Node) (x : NodeX) (f : Fld) (j y : Nat) : rdx f j y (s.setNode d x) = rdx f j y s := rfl
@[simp] theorem rd_setNode (d : Node) (x : NodeX) (f : Fld) (j : Nat) : rd f j (s.setNode d x) = rd f j s := rfl
@[simp] theorem State.setNode_up (d : Node) (x : NodeX) (j : Nat) : (s.setNode d x).up j = s.up j := rfl

@[simp] theorem State.setTmdTree_mem (n : Nat) (x : TmdTree) : (s.setTmdTree n x).mem = s.mem := rfl
@[simp] theorem State.setTmdTree_ev (n : Nat) (x : TmdTree) : (s.setTmdTree n x).ev = s.ev := rfl
@[simp] theorem State.setTmdTree_sess (n : Nat) (x : TmdTree) : (s.setTmdTree n x).sess = s.sess := rfl
@[simp] theorem State.setTmdTree_pmu (n : Nat) (x : TmdTree) : (s.setTmdTree n x).pmu = s.pmu := rfl
@[simp] theorem State.setTmdTree_clk (n : Nat) (x : TmdTree) : (s.setTmdTree n x).clk = s.clk := rfl
@[simp] theorem State.setTmdTree_ptp (n : Nat) (x : TmdTree) : (s.setTmdTree n x).ptp = s.ptp := rfl
@[simp] theorem State.setTmdTree_ptpFrac (n : Nat) (x : TmdTree) : (s.setTmdTree n x).ptpFrac = s.ptpFrac := rfl
@[simp] theorem State.setTmdTree_freeCount (n : Nat) (x : TmdTree) : (s.setTmdTree n x).freeCount = s.freeCount := rfl
@[simp] theorem State.setTmdTree_islands (n : Nat) (x : TmdTree) : (s.setTmdTree n x).islands = s.islands := rfl
@[simp] theorem State.setTmdTree_wrapped (n : Nat) (x : TmdTree) : (s.setTmdTree n x).wrapped = s.wrapped := rfl
@[simp] theorem State.setTmdTree_rst (n : Nat) (x : TmdTree) : (s.setTmdTree n x).rst = s.rst := rfl
@[simp] theorem State.setTmdTree_cmd (n : Nat) (x : TmdTree) : (s.setTmdTree n x).cmd = s.cmd := rfl
@[simp] theorem State.setTmdTree_bpm (n : Nat) (x : TmdTree) : (s.setTmdTree n x).bpm = s.bpm := rfl
@[simp] theorem State.setTmdTree_lanes (n : Nat) (x : TmdTree) : (s.setTmdTree n x).lanes = s.lanes := rfl
@[simp] theorem State.setTmdTree_framing (n : Nat) (x : TmdTree) : (s.setTmdTree n x).framing = s.framing := rfl
@[simp] theorem State.setTmdTree_pool (n : Nat) (x : TmdTree) : (s.setTmdTree n x).pool = s.pool := rfl
@[simp] theorem State.setTmdTree_encoders (n : Nat) (x : TmdTree) : (s.setTmdTree n x).encoders = s.encoders := rfl
@[simp] theorem State.setTmdTree_act (n : Nat) (x : TmdTree) : (s.setTmdTree n x).act = s.act := rfl
@[simp] theorem State.setTmdTree_terms (n : Nat) (x : TmdTree) : (s.setTmdTree n x).terms = s.terms := rfl
@[simp] theorem State.setTmdTree_grt (n : Nat) (x : TmdTree) : (s.setTmdTree n x).grt = s.grt := rfl
@[simp] theorem State.setTmdTree_clusters (n : Nat) (x : TmdTree) : (s.setTmdTree n x).clusters = s.clusters := rfl
@[simp] theorem State.setTmdTree_threads (n : Nat) (x : TmdTree) : (s.setTmdTree n x).threads = s.threads := rfl
@[simp] theorem State.setTmdTree_crl (n : Nat) (x : TmdTree) : (s.setTmdTree n x).crl = s.crl := rfl
@[simp] theorem State.setTmdTree_ohp (n : Nat) (x : TmdTree) : (s.setTmdTree n x).ohp = s.ohp := rfl
@[simp] theorem State.setTmdTree_cipher (n : Nat) (x : TmdTree) : (s.setTmdTree n x).cipher = s.cipher := rfl
@[simp] theorem State.setTmdTree_upSdus (n : Nat) (x : TmdTree) : (s.setTmdTree n x).upSdus = s.upSdus := rfl
@[simp] theorem State.setTmdTree_txts (n : Nat) (x : TmdTree) : (s.setTmdTree n x).txts = s.txts := rfl
@[simp] theorem State.setTmdTree_tim (n : Nat) (x : TmdTree) : (s.setTmdTree n x).tim = s.tim := rfl
@[simp] theorem State.setTmdTree_cls (n : Nat) (x : TmdTree) : (s.setTmdTree n x).cls = s.cls := rfl
@[simp] theorem State.setTmdTree_lpm (n : Nat) (x : TmdTree) : (s.setTmdTree n x).lpm = s.lpm := rfl
@[simp] theorem State.setTmdTree_merge (n : Nat) (x : TmdTree) : (s.setTmdTree n x).merge = s.merge := rfl
@[simp] theorem State.setTmdTree_ports (n : Nat) (x : TmdTree) : (s.setTmdTree n x).ports = s.ports := rfl
@[simp] theorem State.setTmdTree_pair (n : Nat) (x : TmdTree) : (s.setTmdTree n x).pair = s.pair := rfl
@[simp] theorem State.setTmdTree_sys (n : Nat) (x : TmdTree) : (s.setTmdTree n x).sys = s.sys := rfl
@[simp] theorem State.setTmdTree_nvm (n : Nat) (x : TmdTree) : (s.setTmdTree n x).nvm = s.nvm := rfl
@[simp] theorem State.setTmdTree_pending (n : Nat) (x : TmdTree) : (s.setTmdTree n x).pending = s.pending := rfl
@[simp] theorem State.setTmdTree_get (n : Nat) (x : TmdTree) (key : Key) : (s.setTmdTree n x).get key = s.get key := rfl
@[simp] theorem rdx_setTmdTree (n : Nat) (x : TmdTree) (f : Fld) (j y : Nat) : rdx f j y (s.setTmdTree n x) = rdx f j y s := rfl
@[simp] theorem rd_setTmdTree (n : Nat) (x : TmdTree) (f : Fld) (j : Nat) : rd f j (s.setTmdTree n x) = rd f j s := rfl
@[simp] theorem State.setTmdTree_up (n : Nat) (x : TmdTree) (j : Nat) : (s.setTmdTree n x).up j = s.up j := rfl

@[simp] theorem State.setTmuPort_mem (p : Nat) (x : TmuPort) : (s.setTmuPort p x).mem = s.mem := rfl
@[simp] theorem State.setTmuPort_ev (p : Nat) (x : TmuPort) : (s.setTmuPort p x).ev = s.ev := rfl
@[simp] theorem State.setTmuPort_sess (p : Nat) (x : TmuPort) : (s.setTmuPort p x).sess = s.sess := rfl
@[simp] theorem State.setTmuPort_pmu (p : Nat) (x : TmuPort) : (s.setTmuPort p x).pmu = s.pmu := rfl
@[simp] theorem State.setTmuPort_clk (p : Nat) (x : TmuPort) : (s.setTmuPort p x).clk = s.clk := rfl
@[simp] theorem State.setTmuPort_ptp (p : Nat) (x : TmuPort) : (s.setTmuPort p x).ptp = s.ptp := rfl
@[simp] theorem State.setTmuPort_ptpFrac (p : Nat) (x : TmuPort) : (s.setTmuPort p x).ptpFrac = s.ptpFrac := rfl
@[simp] theorem State.setTmuPort_freeCount (p : Nat) (x : TmuPort) : (s.setTmuPort p x).freeCount = s.freeCount := rfl
@[simp] theorem State.setTmuPort_islands (p : Nat) (x : TmuPort) : (s.setTmuPort p x).islands = s.islands := rfl
@[simp] theorem State.setTmuPort_wrapped (p : Nat) (x : TmuPort) : (s.setTmuPort p x).wrapped = s.wrapped := rfl
@[simp] theorem State.setTmuPort_rst (p : Nat) (x : TmuPort) : (s.setTmuPort p x).rst = s.rst := rfl
@[simp] theorem State.setTmuPort_cmd (p : Nat) (x : TmuPort) : (s.setTmuPort p x).cmd = s.cmd := rfl
@[simp] theorem State.setTmuPort_bpm (p : Nat) (x : TmuPort) : (s.setTmuPort p x).bpm = s.bpm := rfl
@[simp] theorem State.setTmuPort_lanes (p : Nat) (x : TmuPort) : (s.setTmuPort p x).lanes = s.lanes := rfl
@[simp] theorem State.setTmuPort_framing (p : Nat) (x : TmuPort) : (s.setTmuPort p x).framing = s.framing := rfl
@[simp] theorem State.setTmuPort_pool (p : Nat) (x : TmuPort) : (s.setTmuPort p x).pool = s.pool := rfl
@[simp] theorem State.setTmuPort_encoders (p : Nat) (x : TmuPort) : (s.setTmuPort p x).encoders = s.encoders := rfl
@[simp] theorem State.setTmuPort_act (p : Nat) (x : TmuPort) : (s.setTmuPort p x).act = s.act := rfl
@[simp] theorem State.setTmuPort_terms (p : Nat) (x : TmuPort) : (s.setTmuPort p x).terms = s.terms := rfl
@[simp] theorem State.setTmuPort_grt (p : Nat) (x : TmuPort) : (s.setTmuPort p x).grt = s.grt := rfl
@[simp] theorem State.setTmuPort_clusters (p : Nat) (x : TmuPort) : (s.setTmuPort p x).clusters = s.clusters := rfl
@[simp] theorem State.setTmuPort_threads (p : Nat) (x : TmuPort) : (s.setTmuPort p x).threads = s.threads := rfl
@[simp] theorem State.setTmuPort_crl (p : Nat) (x : TmuPort) : (s.setTmuPort p x).crl = s.crl := rfl
@[simp] theorem State.setTmuPort_ohp (p : Nat) (x : TmuPort) : (s.setTmuPort p x).ohp = s.ohp := rfl
@[simp] theorem State.setTmuPort_cipher (p : Nat) (x : TmuPort) : (s.setTmuPort p x).cipher = s.cipher := rfl
@[simp] theorem State.setTmuPort_upSdus (p : Nat) (x : TmuPort) : (s.setTmuPort p x).upSdus = s.upSdus := rfl
@[simp] theorem State.setTmuPort_txts (p : Nat) (x : TmuPort) : (s.setTmuPort p x).txts = s.txts := rfl
@[simp] theorem State.setTmuPort_tim (p : Nat) (x : TmuPort) : (s.setTmuPort p x).tim = s.tim := rfl
@[simp] theorem State.setTmuPort_cls (p : Nat) (x : TmuPort) : (s.setTmuPort p x).cls = s.cls := rfl
@[simp] theorem State.setTmuPort_lpm (p : Nat) (x : TmuPort) : (s.setTmuPort p x).lpm = s.lpm := rfl
@[simp] theorem State.setTmuPort_merge (p : Nat) (x : TmuPort) : (s.setTmuPort p x).merge = s.merge := rfl
@[simp] theorem State.setTmuPort_ports (p : Nat) (x : TmuPort) : (s.setTmuPort p x).ports = s.ports := rfl
@[simp] theorem State.setTmuPort_pair (p : Nat) (x : TmuPort) : (s.setTmuPort p x).pair = s.pair := rfl
@[simp] theorem State.setTmuPort_sys (p : Nat) (x : TmuPort) : (s.setTmuPort p x).sys = s.sys := rfl
@[simp] theorem State.setTmuPort_nvm (p : Nat) (x : TmuPort) : (s.setTmuPort p x).nvm = s.nvm := rfl
@[simp] theorem State.setTmuPort_pending (p : Nat) (x : TmuPort) : (s.setTmuPort p x).pending = s.pending := rfl
@[simp] theorem State.setTmuPort_get (p : Nat) (x : TmuPort) (key : Key) : (s.setTmuPort p x).get key = s.get key := rfl
@[simp] theorem rdx_setTmuPort (p : Nat) (x : TmuPort) (f : Fld) (j y : Nat) : rdx f j y (s.setTmuPort p x) = rdx f j y s := rfl
@[simp] theorem rd_setTmuPort (p : Nat) (x : TmuPort) (f : Fld) (j : Nat) : rd f j (s.setTmuPort p x) = rd f j s := rfl
@[simp] theorem State.setTmuPort_up (p : Nat) (x : TmuPort) (j : Nat) : (s.setTmuPort p x).up j = s.up j := rfl

@[simp] theorem State.setCph_mem (d : Nat) (x : Cipher) : (s.setCph d x).mem = s.mem := rfl
@[simp] theorem State.setCph_ev (d : Nat) (x : Cipher) : (s.setCph d x).ev = s.ev := rfl
@[simp] theorem State.setCph_sess (d : Nat) (x : Cipher) : (s.setCph d x).sess = s.sess := rfl
@[simp] theorem State.setCph_pmu (d : Nat) (x : Cipher) : (s.setCph d x).pmu = s.pmu := rfl
@[simp] theorem State.setCph_clk (d : Nat) (x : Cipher) : (s.setCph d x).clk = s.clk := rfl
@[simp] theorem State.setCph_ptp (d : Nat) (x : Cipher) : (s.setCph d x).ptp = s.ptp := rfl
@[simp] theorem State.setCph_ptpFrac (d : Nat) (x : Cipher) : (s.setCph d x).ptpFrac = s.ptpFrac := rfl
@[simp] theorem State.setCph_freeCount (d : Nat) (x : Cipher) : (s.setCph d x).freeCount = s.freeCount := rfl
@[simp] theorem State.setCph_islands (d : Nat) (x : Cipher) : (s.setCph d x).islands = s.islands := rfl
@[simp] theorem State.setCph_wrapped (d : Nat) (x : Cipher) : (s.setCph d x).wrapped = s.wrapped := rfl
@[simp] theorem State.setCph_rst (d : Nat) (x : Cipher) : (s.setCph d x).rst = s.rst := rfl
@[simp] theorem State.setCph_cmd (d : Nat) (x : Cipher) : (s.setCph d x).cmd = s.cmd := rfl
@[simp] theorem State.setCph_bpm (d : Nat) (x : Cipher) : (s.setCph d x).bpm = s.bpm := rfl
@[simp] theorem State.setCph_lanes (d : Nat) (x : Cipher) : (s.setCph d x).lanes = s.lanes := rfl
@[simp] theorem State.setCph_framing (d : Nat) (x : Cipher) : (s.setCph d x).framing = s.framing := rfl
@[simp] theorem State.setCph_pool (d : Nat) (x : Cipher) : (s.setCph d x).pool = s.pool := rfl
@[simp] theorem State.setCph_encoders (d : Nat) (x : Cipher) : (s.setCph d x).encoders = s.encoders := rfl
@[simp] theorem State.setCph_act (d : Nat) (x : Cipher) : (s.setCph d x).act = s.act := rfl
@[simp] theorem State.setCph_terms (d : Nat) (x : Cipher) : (s.setCph d x).terms = s.terms := rfl
@[simp] theorem State.setCph_grt (d : Nat) (x : Cipher) : (s.setCph d x).grt = s.grt := rfl
@[simp] theorem State.setCph_clusters (d : Nat) (x : Cipher) : (s.setCph d x).clusters = s.clusters := rfl
@[simp] theorem State.setCph_threads (d : Nat) (x : Cipher) : (s.setCph d x).threads = s.threads := rfl
@[simp] theorem State.setCph_queues (d : Nat) (x : Cipher) : (s.setCph d x).queues = s.queues := rfl
@[simp] theorem State.setCph_crl (d : Nat) (x : Cipher) : (s.setCph d x).crl = s.crl := rfl
@[simp] theorem State.setCph_ohp (d : Nat) (x : Cipher) : (s.setCph d x).ohp = s.ohp := rfl
@[simp] theorem State.setCph_upSdus (d : Nat) (x : Cipher) : (s.setCph d x).upSdus = s.upSdus := rfl
@[simp] theorem State.setCph_txts (d : Nat) (x : Cipher) : (s.setCph d x).txts = s.txts := rfl
@[simp] theorem State.setCph_tim (d : Nat) (x : Cipher) : (s.setCph d x).tim = s.tim := rfl
@[simp] theorem State.setCph_cls (d : Nat) (x : Cipher) : (s.setCph d x).cls = s.cls := rfl
@[simp] theorem State.setCph_lpm (d : Nat) (x : Cipher) : (s.setCph d x).lpm = s.lpm := rfl
@[simp] theorem State.setCph_merge (d : Nat) (x : Cipher) : (s.setCph d x).merge = s.merge := rfl
@[simp] theorem State.setCph_ports (d : Nat) (x : Cipher) : (s.setCph d x).ports = s.ports := rfl
@[simp] theorem State.setCph_pair (d : Nat) (x : Cipher) : (s.setCph d x).pair = s.pair := rfl
@[simp] theorem State.setCph_sys (d : Nat) (x : Cipher) : (s.setCph d x).sys = s.sys := rfl
@[simp] theorem State.setCph_nvm (d : Nat) (x : Cipher) : (s.setCph d x).nvm = s.nvm := rfl
@[simp] theorem State.setCph_pending (d : Nat) (x : Cipher) : (s.setCph d x).pending = s.pending := rfl
@[simp] theorem State.setCph_get (d : Nat) (x : Cipher) (key : Key) : (s.setCph d x).get key = s.get key := rfl
@[simp] theorem rdx_setCph (d : Nat) (x : Cipher) (f : Fld) (j y : Nat) : rdx f j y (s.setCph d x) = rdx f j y s := rfl
@[simp] theorem rd_setCph (d : Nat) (x : Cipher) (f : Fld) (j : Nat) : rd f j (s.setCph d x) = rd f j s := rfl
@[simp] theorem State.setCph_up (d : Nat) (x : Cipher) (j : Nat) : (s.setCph d x).up j = s.up j := rfl

@[simp] theorem State.setCrLane_mem (l : LaneId) (x : CrLane) : (s.setCrLane l x).mem = s.mem := rfl
@[simp] theorem State.setCrLane_ev (l : LaneId) (x : CrLane) : (s.setCrLane l x).ev = s.ev := rfl
@[simp] theorem State.setCrLane_sess (l : LaneId) (x : CrLane) : (s.setCrLane l x).sess = s.sess := rfl
@[simp] theorem State.setCrLane_pmu (l : LaneId) (x : CrLane) : (s.setCrLane l x).pmu = s.pmu := rfl
@[simp] theorem State.setCrLane_clk (l : LaneId) (x : CrLane) : (s.setCrLane l x).clk = s.clk := rfl
@[simp] theorem State.setCrLane_ptp (l : LaneId) (x : CrLane) : (s.setCrLane l x).ptp = s.ptp := rfl
@[simp] theorem State.setCrLane_ptpFrac (l : LaneId) (x : CrLane) : (s.setCrLane l x).ptpFrac = s.ptpFrac := rfl
@[simp] theorem State.setCrLane_freeCount (l : LaneId) (x : CrLane) : (s.setCrLane l x).freeCount = s.freeCount := rfl
@[simp] theorem State.setCrLane_islands (l : LaneId) (x : CrLane) : (s.setCrLane l x).islands = s.islands := rfl
@[simp] theorem State.setCrLane_wrapped (l : LaneId) (x : CrLane) : (s.setCrLane l x).wrapped = s.wrapped := rfl
@[simp] theorem State.setCrLane_rst (l : LaneId) (x : CrLane) : (s.setCrLane l x).rst = s.rst := rfl
@[simp] theorem State.setCrLane_cmd (l : LaneId) (x : CrLane) : (s.setCrLane l x).cmd = s.cmd := rfl
@[simp] theorem State.setCrLane_bpm (l : LaneId) (x : CrLane) : (s.setCrLane l x).bpm = s.bpm := rfl
@[simp] theorem State.setCrLane_lanes (l : LaneId) (x : CrLane) : (s.setCrLane l x).lanes = s.lanes := rfl
@[simp] theorem State.setCrLane_framing (l : LaneId) (x : CrLane) : (s.setCrLane l x).framing = s.framing := rfl
@[simp] theorem State.setCrLane_pool (l : LaneId) (x : CrLane) : (s.setCrLane l x).pool = s.pool := rfl
@[simp] theorem State.setCrLane_encoders (l : LaneId) (x : CrLane) : (s.setCrLane l x).encoders = s.encoders := rfl
@[simp] theorem State.setCrLane_act (l : LaneId) (x : CrLane) : (s.setCrLane l x).act = s.act := rfl
@[simp] theorem State.setCrLane_terms (l : LaneId) (x : CrLane) : (s.setCrLane l x).terms = s.terms := rfl
@[simp] theorem State.setCrLane_grt (l : LaneId) (x : CrLane) : (s.setCrLane l x).grt = s.grt := rfl
@[simp] theorem State.setCrLane_clusters (l : LaneId) (x : CrLane) : (s.setCrLane l x).clusters = s.clusters := rfl
@[simp] theorem State.setCrLane_threads (l : LaneId) (x : CrLane) : (s.setCrLane l x).threads = s.threads := rfl
@[simp] theorem State.setCrLane_queues (l : LaneId) (x : CrLane) : (s.setCrLane l x).queues = s.queues := rfl
@[simp] theorem State.setCrLane_ohp (l : LaneId) (x : CrLane) : (s.setCrLane l x).ohp = s.ohp := rfl
@[simp] theorem State.setCrLane_cipher (l : LaneId) (x : CrLane) : (s.setCrLane l x).cipher = s.cipher := rfl
@[simp] theorem State.setCrLane_upSdus (l : LaneId) (x : CrLane) : (s.setCrLane l x).upSdus = s.upSdus := rfl
@[simp] theorem State.setCrLane_txts (l : LaneId) (x : CrLane) : (s.setCrLane l x).txts = s.txts := rfl
@[simp] theorem State.setCrLane_tim (l : LaneId) (x : CrLane) : (s.setCrLane l x).tim = s.tim := rfl
@[simp] theorem State.setCrLane_cls (l : LaneId) (x : CrLane) : (s.setCrLane l x).cls = s.cls := rfl
@[simp] theorem State.setCrLane_lpm (l : LaneId) (x : CrLane) : (s.setCrLane l x).lpm = s.lpm := rfl
@[simp] theorem State.setCrLane_merge (l : LaneId) (x : CrLane) : (s.setCrLane l x).merge = s.merge := rfl
@[simp] theorem State.setCrLane_ports (l : LaneId) (x : CrLane) : (s.setCrLane l x).ports = s.ports := rfl
@[simp] theorem State.setCrLane_pair (l : LaneId) (x : CrLane) : (s.setCrLane l x).pair = s.pair := rfl
@[simp] theorem State.setCrLane_sys (l : LaneId) (x : CrLane) : (s.setCrLane l x).sys = s.sys := rfl
@[simp] theorem State.setCrLane_nvm (l : LaneId) (x : CrLane) : (s.setCrLane l x).nvm = s.nvm := rfl
@[simp] theorem State.setCrLane_pending (l : LaneId) (x : CrLane) : (s.setCrLane l x).pending = s.pending := rfl
@[simp] theorem State.setCrLane_get (l : LaneId) (x : CrLane) (key : Key) : (s.setCrLane l x).get key = s.get key := rfl
@[simp] theorem rdx_setCrLane (l : LaneId) (x : CrLane) (f : Fld) (j y : Nat) : rdx f j y (s.setCrLane l x) = rdx f j y s := rfl
@[simp] theorem rd_setCrLane (l : LaneId) (x : CrLane) (f : Fld) (j : Nat) : rd f j (s.setCrLane l x) = rd f j s := rfl
@[simp] theorem State.setCrLane_up (l : LaneId) (x : CrLane) (j : Nat) : (s.setCrLane l x).up j = s.up j := rfl

@[simp] theorem State.setPipe_mem (k : Nat) (x : Pipe) : (s.setPipe k x).mem = s.mem := rfl
@[simp] theorem State.setPipe_ev (k : Nat) (x : Pipe) : (s.setPipe k x).ev = s.ev := rfl
@[simp] theorem State.setPipe_sess (k : Nat) (x : Pipe) : (s.setPipe k x).sess = s.sess := rfl
@[simp] theorem State.setPipe_pmu (k : Nat) (x : Pipe) : (s.setPipe k x).pmu = s.pmu := rfl
@[simp] theorem State.setPipe_clk (k : Nat) (x : Pipe) : (s.setPipe k x).clk = s.clk := rfl
@[simp] theorem State.setPipe_ptp (k : Nat) (x : Pipe) : (s.setPipe k x).ptp = s.ptp := rfl
@[simp] theorem State.setPipe_ptpFrac (k : Nat) (x : Pipe) : (s.setPipe k x).ptpFrac = s.ptpFrac := rfl
@[simp] theorem State.setPipe_freeCount (k : Nat) (x : Pipe) : (s.setPipe k x).freeCount = s.freeCount := rfl
@[simp] theorem State.setPipe_islands (k : Nat) (x : Pipe) : (s.setPipe k x).islands = s.islands := rfl
@[simp] theorem State.setPipe_wrapped (k : Nat) (x : Pipe) : (s.setPipe k x).wrapped = s.wrapped := rfl
@[simp] theorem State.setPipe_rst (k : Nat) (x : Pipe) : (s.setPipe k x).rst = s.rst := rfl
@[simp] theorem State.setPipe_cmd (k : Nat) (x : Pipe) : (s.setPipe k x).cmd = s.cmd := rfl
@[simp] theorem State.setPipe_bpm (k : Nat) (x : Pipe) : (s.setPipe k x).bpm = s.bpm := rfl
@[simp] theorem State.setPipe_lanes (k : Nat) (x : Pipe) : (s.setPipe k x).lanes = s.lanes := rfl
@[simp] theorem State.setPipe_framing (k : Nat) (x : Pipe) : (s.setPipe k x).framing = s.framing := rfl
@[simp] theorem State.setPipe_pool (k : Nat) (x : Pipe) : (s.setPipe k x).pool = s.pool := rfl
@[simp] theorem State.setPipe_encoders (k : Nat) (x : Pipe) : (s.setPipe k x).encoders = s.encoders := rfl
@[simp] theorem State.setPipe_act (k : Nat) (x : Pipe) : (s.setPipe k x).act = s.act := rfl
@[simp] theorem State.setPipe_terms (k : Nat) (x : Pipe) : (s.setPipe k x).terms = s.terms := rfl
@[simp] theorem State.setPipe_grt (k : Nat) (x : Pipe) : (s.setPipe k x).grt = s.grt := rfl
@[simp] theorem State.setPipe_clusters (k : Nat) (x : Pipe) : (s.setPipe k x).clusters = s.clusters := rfl
@[simp] theorem State.setPipe_threads (k : Nat) (x : Pipe) : (s.setPipe k x).threads = s.threads := rfl
@[simp] theorem State.setPipe_queues (k : Nat) (x : Pipe) : (s.setPipe k x).queues = s.queues := rfl
@[simp] theorem State.setPipe_crl (k : Nat) (x : Pipe) : (s.setPipe k x).crl = s.crl := rfl
@[simp] theorem State.setPipe_ohp (k : Nat) (x : Pipe) : (s.setPipe k x).ohp = s.ohp := rfl
@[simp] theorem State.setPipe_cipher (k : Nat) (x : Pipe) : (s.setPipe k x).cipher = s.cipher := rfl
@[simp] theorem State.setPipe_upSdus (k : Nat) (x : Pipe) : (s.setPipe k x).upSdus = s.upSdus := rfl
@[simp] theorem State.setPipe_txts (k : Nat) (x : Pipe) : (s.setPipe k x).txts = s.txts := rfl
@[simp] theorem State.setPipe_tim (k : Nat) (x : Pipe) : (s.setPipe k x).tim = s.tim := rfl
@[simp] theorem State.setPipe_lpm (k : Nat) (x : Pipe) : (s.setPipe k x).lpm = s.lpm := rfl
@[simp] theorem State.setPipe_merge (k : Nat) (x : Pipe) : (s.setPipe k x).merge = s.merge := rfl
@[simp] theorem State.setPipe_ports (k : Nat) (x : Pipe) : (s.setPipe k x).ports = s.ports := rfl
@[simp] theorem State.setPipe_pair (k : Nat) (x : Pipe) : (s.setPipe k x).pair = s.pair := rfl
@[simp] theorem State.setPipe_sys (k : Nat) (x : Pipe) : (s.setPipe k x).sys = s.sys := rfl
@[simp] theorem State.setPipe_nvm (k : Nat) (x : Pipe) : (s.setPipe k x).nvm = s.nvm := rfl
@[simp] theorem State.setPipe_pending (k : Nat) (x : Pipe) : (s.setPipe k x).pending = s.pending := rfl
@[simp] theorem State.setPipe_get (k : Nat) (x : Pipe) (key : Key) : (s.setPipe k x).get key = s.get key := rfl
@[simp] theorem rdx_setPipe (k : Nat) (x : Pipe) (f : Fld) (j y : Nat) : rdx f j y (s.setPipe k x) = rdx f j y s := rfl
@[simp] theorem rd_setPipe (k : Nat) (x : Pipe) (f : Fld) (j : Nat) : rd f j (s.setPipe k x) = rd f j s := rfl
@[simp] theorem State.setPipe_up (k : Nat) (x : Pipe) (j : Nat) : (s.setPipe k x).up j = s.up j := rfl

@[simp] theorem State.setNetPort_mem (n : Nat) (x : NetPort) : (s.setNetPort n x).mem = s.mem := rfl
@[simp] theorem State.setNetPort_ev (n : Nat) (x : NetPort) : (s.setNetPort n x).ev = s.ev := rfl
@[simp] theorem State.setNetPort_sess (n : Nat) (x : NetPort) : (s.setNetPort n x).sess = s.sess := rfl
@[simp] theorem State.setNetPort_pmu (n : Nat) (x : NetPort) : (s.setNetPort n x).pmu = s.pmu := rfl
@[simp] theorem State.setNetPort_clk (n : Nat) (x : NetPort) : (s.setNetPort n x).clk = s.clk := rfl
@[simp] theorem State.setNetPort_ptp (n : Nat) (x : NetPort) : (s.setNetPort n x).ptp = s.ptp := rfl
@[simp] theorem State.setNetPort_ptpFrac (n : Nat) (x : NetPort) : (s.setNetPort n x).ptpFrac = s.ptpFrac := rfl
@[simp] theorem State.setNetPort_freeCount (n : Nat) (x : NetPort) : (s.setNetPort n x).freeCount = s.freeCount := rfl
@[simp] theorem State.setNetPort_islands (n : Nat) (x : NetPort) : (s.setNetPort n x).islands = s.islands := rfl
@[simp] theorem State.setNetPort_wrapped (n : Nat) (x : NetPort) : (s.setNetPort n x).wrapped = s.wrapped := rfl
@[simp] theorem State.setNetPort_rst (n : Nat) (x : NetPort) : (s.setNetPort n x).rst = s.rst := rfl
@[simp] theorem State.setNetPort_cmd (n : Nat) (x : NetPort) : (s.setNetPort n x).cmd = s.cmd := rfl
@[simp] theorem State.setNetPort_bpm (n : Nat) (x : NetPort) : (s.setNetPort n x).bpm = s.bpm := rfl
@[simp] theorem State.setNetPort_lanes (n : Nat) (x : NetPort) : (s.setNetPort n x).lanes = s.lanes := rfl
@[simp] theorem State.setNetPort_framing (n : Nat) (x : NetPort) : (s.setNetPort n x).framing = s.framing := rfl
@[simp] theorem State.setNetPort_pool (n : Nat) (x : NetPort) : (s.setNetPort n x).pool = s.pool := rfl
@[simp] theorem State.setNetPort_encoders (n : Nat) (x : NetPort) : (s.setNetPort n x).encoders = s.encoders := rfl
@[simp] theorem State.setNetPort_act (n : Nat) (x : NetPort) : (s.setNetPort n x).act = s.act := rfl
@[simp] theorem State.setNetPort_terms (n : Nat) (x : NetPort) : (s.setNetPort n x).terms = s.terms := rfl
@[simp] theorem State.setNetPort_grt (n : Nat) (x : NetPort) : (s.setNetPort n x).grt = s.grt := rfl
@[simp] theorem State.setNetPort_clusters (n : Nat) (x : NetPort) : (s.setNetPort n x).clusters = s.clusters := rfl
@[simp] theorem State.setNetPort_threads (n : Nat) (x : NetPort) : (s.setNetPort n x).threads = s.threads := rfl
@[simp] theorem State.setNetPort_queues (n : Nat) (x : NetPort) : (s.setNetPort n x).queues = s.queues := rfl
@[simp] theorem State.setNetPort_crl (n : Nat) (x : NetPort) : (s.setNetPort n x).crl = s.crl := rfl
@[simp] theorem State.setNetPort_ohp (n : Nat) (x : NetPort) : (s.setNetPort n x).ohp = s.ohp := rfl
@[simp] theorem State.setNetPort_cipher (n : Nat) (x : NetPort) : (s.setNetPort n x).cipher = s.cipher := rfl
@[simp] theorem State.setNetPort_upSdus (n : Nat) (x : NetPort) : (s.setNetPort n x).upSdus = s.upSdus := rfl
@[simp] theorem State.setNetPort_txts (n : Nat) (x : NetPort) : (s.setNetPort n x).txts = s.txts := rfl
@[simp] theorem State.setNetPort_tim (n : Nat) (x : NetPort) : (s.setNetPort n x).tim = s.tim := rfl
@[simp] theorem State.setNetPort_cls (n : Nat) (x : NetPort) : (s.setNetPort n x).cls = s.cls := rfl
@[simp] theorem State.setNetPort_lpm (n : Nat) (x : NetPort) : (s.setNetPort n x).lpm = s.lpm := rfl
@[simp] theorem State.setNetPort_merge (n : Nat) (x : NetPort) : (s.setNetPort n x).merge = s.merge := rfl
@[simp] theorem State.setNetPort_pair (n : Nat) (x : NetPort) : (s.setNetPort n x).pair = s.pair := rfl
@[simp] theorem State.setNetPort_sys (n : Nat) (x : NetPort) : (s.setNetPort n x).sys = s.sys := rfl
@[simp] theorem State.setNetPort_nvm (n : Nat) (x : NetPort) : (s.setNetPort n x).nvm = s.nvm := rfl
@[simp] theorem State.setNetPort_pending (n : Nat) (x : NetPort) : (s.setNetPort n x).pending = s.pending := rfl
@[simp] theorem State.setNetPort_get (n : Nat) (x : NetPort) (key : Key) : (s.setNetPort n x).get key = s.get key := rfl
@[simp] theorem rdx_setNetPort (n : Nat) (x : NetPort) (f : Fld) (j y : Nat) : rdx f j y (s.setNetPort n x) = rdx f j y s := rfl
@[simp] theorem rd_setNetPort (n : Nat) (x : NetPort) (f : Fld) (j : Nat) : rd f j (s.setNetPort n x) = rd f j s := rfl
@[simp] theorem State.setNetPort_up (n : Nat) (x : NetPort) (j : Nat) : (s.setNetPort n x).up j = s.up j := rfl

@[simp] theorem State.setTim_mem (x : Tim) : (s.setTim x).mem = s.mem := rfl
@[simp] theorem State.setTim_ev (x : Tim) : (s.setTim x).ev = s.ev := rfl
@[simp] theorem State.setTim_sess (x : Tim) : (s.setTim x).sess = s.sess := rfl
@[simp] theorem State.setTim_pmu (x : Tim) : (s.setTim x).pmu = s.pmu := rfl
@[simp] theorem State.setTim_clk (x : Tim) : (s.setTim x).clk = s.clk := rfl
@[simp] theorem State.setTim_ptp (x : Tim) : (s.setTim x).ptp = s.ptp := rfl
@[simp] theorem State.setTim_ptpFrac (x : Tim) : (s.setTim x).ptpFrac = s.ptpFrac := rfl
@[simp] theorem State.setTim_freeCount (x : Tim) : (s.setTim x).freeCount = s.freeCount := rfl
@[simp] theorem State.setTim_islands (x : Tim) : (s.setTim x).islands = s.islands := rfl
@[simp] theorem State.setTim_wrapped (x : Tim) : (s.setTim x).wrapped = s.wrapped := rfl
@[simp] theorem State.setTim_rst (x : Tim) : (s.setTim x).rst = s.rst := rfl
@[simp] theorem State.setTim_cmd (x : Tim) : (s.setTim x).cmd = s.cmd := rfl
@[simp] theorem State.setTim_bpm (x : Tim) : (s.setTim x).bpm = s.bpm := rfl
@[simp] theorem State.setTim_lanes (x : Tim) : (s.setTim x).lanes = s.lanes := rfl
@[simp] theorem State.setTim_framing (x : Tim) : (s.setTim x).framing = s.framing := rfl
@[simp] theorem State.setTim_pool (x : Tim) : (s.setTim x).pool = s.pool := rfl
@[simp] theorem State.setTim_encoders (x : Tim) : (s.setTim x).encoders = s.encoders := rfl
@[simp] theorem State.setTim_act (x : Tim) : (s.setTim x).act = s.act := rfl
@[simp] theorem State.setTim_terms (x : Tim) : (s.setTim x).terms = s.terms := rfl
@[simp] theorem State.setTim_grt (x : Tim) : (s.setTim x).grt = s.grt := rfl
@[simp] theorem State.setTim_clusters (x : Tim) : (s.setTim x).clusters = s.clusters := rfl
@[simp] theorem State.setTim_threads (x : Tim) : (s.setTim x).threads = s.threads := rfl
@[simp] theorem State.setTim_queues (x : Tim) : (s.setTim x).queues = s.queues := rfl
@[simp] theorem State.setTim_crl (x : Tim) : (s.setTim x).crl = s.crl := rfl
@[simp] theorem State.setTim_ohp (x : Tim) : (s.setTim x).ohp = s.ohp := rfl
@[simp] theorem State.setTim_cipher (x : Tim) : (s.setTim x).cipher = s.cipher := rfl
@[simp] theorem State.setTim_upSdus (x : Tim) : (s.setTim x).upSdus = s.upSdus := rfl
@[simp] theorem State.setTim_txts (x : Tim) : (s.setTim x).txts = s.txts := rfl
@[simp] theorem State.setTim_cls (x : Tim) : (s.setTim x).cls = s.cls := rfl
@[simp] theorem State.setTim_lpm (x : Tim) : (s.setTim x).lpm = s.lpm := rfl
@[simp] theorem State.setTim_merge (x : Tim) : (s.setTim x).merge = s.merge := rfl
@[simp] theorem State.setTim_ports (x : Tim) : (s.setTim x).ports = s.ports := rfl
@[simp] theorem State.setTim_pair (x : Tim) : (s.setTim x).pair = s.pair := rfl
@[simp] theorem State.setTim_sys (x : Tim) : (s.setTim x).sys = s.sys := rfl
@[simp] theorem State.setTim_nvm (x : Tim) : (s.setTim x).nvm = s.nvm := rfl
@[simp] theorem State.setTim_pending (x : Tim) : (s.setTim x).pending = s.pending := rfl
@[simp] theorem State.setTim_get (x : Tim) (key : Key) : (s.setTim x).get key = s.get key := rfl
@[simp] theorem rdx_setTim (x : Tim) (f : Fld) (j y : Nat) : rdx f j y (s.setTim x) = rdx f j y s := rfl
@[simp] theorem rd_setTim (x : Tim) (f : Fld) (j : Nat) : rd f j (s.setTim x) = rd f j s := rfl
@[simp] theorem State.setTim_up (x : Tim) (j : Nat) : (s.setTim x).up j = s.up j := rfl

@[simp] theorem State.setPair_mem (x : PairSt) : (s.setPair x).mem = s.mem := rfl
@[simp] theorem State.setPair_ev (x : PairSt) : (s.setPair x).ev = s.ev := rfl
@[simp] theorem State.setPair_sess (x : PairSt) : (s.setPair x).sess = s.sess := rfl
@[simp] theorem State.setPair_pmu (x : PairSt) : (s.setPair x).pmu = s.pmu := rfl
@[simp] theorem State.setPair_clk (x : PairSt) : (s.setPair x).clk = s.clk := rfl
@[simp] theorem State.setPair_ptp (x : PairSt) : (s.setPair x).ptp = s.ptp := rfl
@[simp] theorem State.setPair_ptpFrac (x : PairSt) : (s.setPair x).ptpFrac = s.ptpFrac := rfl
@[simp] theorem State.setPair_freeCount (x : PairSt) : (s.setPair x).freeCount = s.freeCount := rfl
@[simp] theorem State.setPair_islands (x : PairSt) : (s.setPair x).islands = s.islands := rfl
@[simp] theorem State.setPair_wrapped (x : PairSt) : (s.setPair x).wrapped = s.wrapped := rfl
@[simp] theorem State.setPair_rst (x : PairSt) : (s.setPair x).rst = s.rst := rfl
@[simp] theorem State.setPair_cmd (x : PairSt) : (s.setPair x).cmd = s.cmd := rfl
@[simp] theorem State.setPair_bpm (x : PairSt) : (s.setPair x).bpm = s.bpm := rfl
@[simp] theorem State.setPair_lanes (x : PairSt) : (s.setPair x).lanes = s.lanes := rfl
@[simp] theorem State.setPair_framing (x : PairSt) : (s.setPair x).framing = s.framing := rfl
@[simp] theorem State.setPair_pool (x : PairSt) : (s.setPair x).pool = s.pool := rfl
@[simp] theorem State.setPair_encoders (x : PairSt) : (s.setPair x).encoders = s.encoders := rfl
@[simp] theorem State.setPair_act (x : PairSt) : (s.setPair x).act = s.act := rfl
@[simp] theorem State.setPair_terms (x : PairSt) : (s.setPair x).terms = s.terms := rfl
@[simp] theorem State.setPair_grt (x : PairSt) : (s.setPair x).grt = s.grt := rfl
@[simp] theorem State.setPair_clusters (x : PairSt) : (s.setPair x).clusters = s.clusters := rfl
@[simp] theorem State.setPair_threads (x : PairSt) : (s.setPair x).threads = s.threads := rfl
@[simp] theorem State.setPair_queues (x : PairSt) : (s.setPair x).queues = s.queues := rfl
@[simp] theorem State.setPair_crl (x : PairSt) : (s.setPair x).crl = s.crl := rfl
@[simp] theorem State.setPair_ohp (x : PairSt) : (s.setPair x).ohp = s.ohp := rfl
@[simp] theorem State.setPair_cipher (x : PairSt) : (s.setPair x).cipher = s.cipher := rfl
@[simp] theorem State.setPair_upSdus (x : PairSt) : (s.setPair x).upSdus = s.upSdus := rfl
@[simp] theorem State.setPair_txts (x : PairSt) : (s.setPair x).txts = s.txts := rfl
@[simp] theorem State.setPair_tim (x : PairSt) : (s.setPair x).tim = s.tim := rfl
@[simp] theorem State.setPair_cls (x : PairSt) : (s.setPair x).cls = s.cls := rfl
@[simp] theorem State.setPair_lpm (x : PairSt) : (s.setPair x).lpm = s.lpm := rfl
@[simp] theorem State.setPair_merge (x : PairSt) : (s.setPair x).merge = s.merge := rfl
@[simp] theorem State.setPair_ports (x : PairSt) : (s.setPair x).ports = s.ports := rfl
@[simp] theorem State.setPair_sys (x : PairSt) : (s.setPair x).sys = s.sys := rfl
@[simp] theorem State.setPair_nvm (x : PairSt) : (s.setPair x).nvm = s.nvm := rfl
@[simp] theorem State.setPair_pending (x : PairSt) : (s.setPair x).pending = s.pending := rfl
@[simp] theorem State.setPair_get (x : PairSt) (key : Key) : (s.setPair x).get key = s.get key := rfl
@[simp] theorem rdx_setPair (x : PairSt) (f : Fld) (j y : Nat) : rdx f j y (s.setPair x) = rdx f j y s := rfl
@[simp] theorem rd_setPair (x : PairSt) (f : Fld) (j : Nat) : rd f j (s.setPair x) = rd f j s := rfl
@[simp] theorem State.setPair_up (x : PairSt) (j : Nat) : (s.setPair x).up j = s.up j := rfl

@[simp] theorem State.setCmd_mem (x : Cmd) : (s.setCmd x).mem = s.mem := rfl
@[simp] theorem State.setCmd_ev (x : Cmd) : (s.setCmd x).ev = s.ev := rfl
@[simp] theorem State.setCmd_sess (x : Cmd) : (s.setCmd x).sess = s.sess := rfl
@[simp] theorem State.setCmd_pmu (x : Cmd) : (s.setCmd x).pmu = s.pmu := rfl
@[simp] theorem State.setCmd_clk (x : Cmd) : (s.setCmd x).clk = s.clk := rfl
@[simp] theorem State.setCmd_ptp (x : Cmd) : (s.setCmd x).ptp = s.ptp := rfl
@[simp] theorem State.setCmd_ptpFrac (x : Cmd) : (s.setCmd x).ptpFrac = s.ptpFrac := rfl
@[simp] theorem State.setCmd_freeCount (x : Cmd) : (s.setCmd x).freeCount = s.freeCount := rfl
@[simp] theorem State.setCmd_islands (x : Cmd) : (s.setCmd x).islands = s.islands := rfl
@[simp] theorem State.setCmd_wrapped (x : Cmd) : (s.setCmd x).wrapped = s.wrapped := rfl
@[simp] theorem State.setCmd_rst (x : Cmd) : (s.setCmd x).rst = s.rst := rfl
@[simp] theorem State.setCmd_bpm (x : Cmd) : (s.setCmd x).bpm = s.bpm := rfl
@[simp] theorem State.setCmd_lanes (x : Cmd) : (s.setCmd x).lanes = s.lanes := rfl
@[simp] theorem State.setCmd_framing (x : Cmd) : (s.setCmd x).framing = s.framing := rfl
@[simp] theorem State.setCmd_pool (x : Cmd) : (s.setCmd x).pool = s.pool := rfl
@[simp] theorem State.setCmd_encoders (x : Cmd) : (s.setCmd x).encoders = s.encoders := rfl
@[simp] theorem State.setCmd_act (x : Cmd) : (s.setCmd x).act = s.act := rfl
@[simp] theorem State.setCmd_terms (x : Cmd) : (s.setCmd x).terms = s.terms := rfl
@[simp] theorem State.setCmd_grt (x : Cmd) : (s.setCmd x).grt = s.grt := rfl
@[simp] theorem State.setCmd_clusters (x : Cmd) : (s.setCmd x).clusters = s.clusters := rfl
@[simp] theorem State.setCmd_threads (x : Cmd) : (s.setCmd x).threads = s.threads := rfl
@[simp] theorem State.setCmd_queues (x : Cmd) : (s.setCmd x).queues = s.queues := rfl
@[simp] theorem State.setCmd_crl (x : Cmd) : (s.setCmd x).crl = s.crl := rfl
@[simp] theorem State.setCmd_ohp (x : Cmd) : (s.setCmd x).ohp = s.ohp := rfl
@[simp] theorem State.setCmd_cipher (x : Cmd) : (s.setCmd x).cipher = s.cipher := rfl
@[simp] theorem State.setCmd_upSdus (x : Cmd) : (s.setCmd x).upSdus = s.upSdus := rfl
@[simp] theorem State.setCmd_txts (x : Cmd) : (s.setCmd x).txts = s.txts := rfl
@[simp] theorem State.setCmd_tim (x : Cmd) : (s.setCmd x).tim = s.tim := rfl
@[simp] theorem State.setCmd_cls (x : Cmd) : (s.setCmd x).cls = s.cls := rfl
@[simp] theorem State.setCmd_lpm (x : Cmd) : (s.setCmd x).lpm = s.lpm := rfl
@[simp] theorem State.setCmd_merge (x : Cmd) : (s.setCmd x).merge = s.merge := rfl
@[simp] theorem State.setCmd_ports (x : Cmd) : (s.setCmd x).ports = s.ports := rfl
@[simp] theorem State.setCmd_pair (x : Cmd) : (s.setCmd x).pair = s.pair := rfl
@[simp] theorem State.setCmd_sys (x : Cmd) : (s.setCmd x).sys = s.sys := rfl
@[simp] theorem State.setCmd_nvm (x : Cmd) : (s.setCmd x).nvm = s.nvm := rfl
@[simp] theorem State.setCmd_pending (x : Cmd) : (s.setCmd x).pending = s.pending := rfl
@[simp] theorem State.setCmd_get (x : Cmd) (key : Key) : (s.setCmd x).get key = s.get key := rfl
@[simp] theorem rdx_setCmd (x : Cmd) (f : Fld) (j y : Nat) : rdx f j y (s.setCmd x) = rdx f j y s := rfl
@[simp] theorem rd_setCmd (x : Cmd) (f : Fld) (j : Nat) : rd f j (s.setCmd x) = rd f j s := rfl
@[simp] theorem State.setCmd_up (x : Cmd) (j : Nat) : (s.setCmd x).up j = s.up j := rfl

@[simp] theorem State.setSys_mem (x : SysSt) : (s.setSys x).mem = s.mem := rfl
@[simp] theorem State.setSys_ev (x : SysSt) : (s.setSys x).ev = s.ev := rfl
@[simp] theorem State.setSys_sess (x : SysSt) : (s.setSys x).sess = s.sess := rfl
@[simp] theorem State.setSys_pmu (x : SysSt) : (s.setSys x).pmu = s.pmu := rfl
@[simp] theorem State.setSys_clk (x : SysSt) : (s.setSys x).clk = s.clk := rfl
@[simp] theorem State.setSys_ptp (x : SysSt) : (s.setSys x).ptp = s.ptp := rfl
@[simp] theorem State.setSys_ptpFrac (x : SysSt) : (s.setSys x).ptpFrac = s.ptpFrac := rfl
@[simp] theorem State.setSys_freeCount (x : SysSt) : (s.setSys x).freeCount = s.freeCount := rfl
@[simp] theorem State.setSys_islands (x : SysSt) : (s.setSys x).islands = s.islands := rfl
@[simp] theorem State.setSys_wrapped (x : SysSt) : (s.setSys x).wrapped = s.wrapped := rfl
@[simp] theorem State.setSys_rst (x : SysSt) : (s.setSys x).rst = s.rst := rfl
@[simp] theorem State.setSys_cmd (x : SysSt) : (s.setSys x).cmd = s.cmd := rfl
@[simp] theorem State.setSys_bpm (x : SysSt) : (s.setSys x).bpm = s.bpm := rfl
@[simp] theorem State.setSys_lanes (x : SysSt) : (s.setSys x).lanes = s.lanes := rfl
@[simp] theorem State.setSys_framing (x : SysSt) : (s.setSys x).framing = s.framing := rfl
@[simp] theorem State.setSys_pool (x : SysSt) : (s.setSys x).pool = s.pool := rfl
@[simp] theorem State.setSys_encoders (x : SysSt) : (s.setSys x).encoders = s.encoders := rfl
@[simp] theorem State.setSys_act (x : SysSt) : (s.setSys x).act = s.act := rfl
@[simp] theorem State.setSys_terms (x : SysSt) : (s.setSys x).terms = s.terms := rfl
@[simp] theorem State.setSys_grt (x : SysSt) : (s.setSys x).grt = s.grt := rfl
@[simp] theorem State.setSys_clusters (x : SysSt) : (s.setSys x).clusters = s.clusters := rfl
@[simp] theorem State.setSys_threads (x : SysSt) : (s.setSys x).threads = s.threads := rfl
@[simp] theorem State.setSys_queues (x : SysSt) : (s.setSys x).queues = s.queues := rfl
@[simp] theorem State.setSys_crl (x : SysSt) : (s.setSys x).crl = s.crl := rfl
@[simp] theorem State.setSys_ohp (x : SysSt) : (s.setSys x).ohp = s.ohp := rfl
@[simp] theorem State.setSys_cipher (x : SysSt) : (s.setSys x).cipher = s.cipher := rfl
@[simp] theorem State.setSys_upSdus (x : SysSt) : (s.setSys x).upSdus = s.upSdus := rfl
@[simp] theorem State.setSys_txts (x : SysSt) : (s.setSys x).txts = s.txts := rfl
@[simp] theorem State.setSys_tim (x : SysSt) : (s.setSys x).tim = s.tim := rfl
@[simp] theorem State.setSys_cls (x : SysSt) : (s.setSys x).cls = s.cls := rfl
@[simp] theorem State.setSys_lpm (x : SysSt) : (s.setSys x).lpm = s.lpm := rfl
@[simp] theorem State.setSys_merge (x : SysSt) : (s.setSys x).merge = s.merge := rfl
@[simp] theorem State.setSys_ports (x : SysSt) : (s.setSys x).ports = s.ports := rfl
@[simp] theorem State.setSys_pair (x : SysSt) : (s.setSys x).pair = s.pair := rfl
@[simp] theorem State.setSys_nvm (x : SysSt) : (s.setSys x).nvm = s.nvm := rfl
@[simp] theorem State.setSys_pending (x : SysSt) : (s.setSys x).pending = s.pending := rfl
@[simp] theorem State.setSys_get (x : SysSt) (key : Key) : (s.setSys x).get key = s.get key := rfl
@[simp] theorem rdx_setSys (x : SysSt) (f : Fld) (j y : Nat) : rdx f j y (s.setSys x) = rdx f j y s := rfl
@[simp] theorem rd_setSys (x : SysSt) (f : Fld) (j : Nat) : rd f j (s.setSys x) = rd f j s := rfl
@[simp] theorem State.setSys_up (x : SysSt) (j : Nat) : (s.setSys x).up j = s.up j := rfl

@[simp] theorem State.setRst_mem (x : RstCtl) : (s.setRst x).mem = s.mem := rfl
@[simp] theorem State.setRst_ev (x : RstCtl) : (s.setRst x).ev = s.ev := rfl
@[simp] theorem State.setRst_sess (x : RstCtl) : (s.setRst x).sess = s.sess := rfl
@[simp] theorem State.setRst_pmu (x : RstCtl) : (s.setRst x).pmu = s.pmu := rfl
@[simp] theorem State.setRst_clk (x : RstCtl) : (s.setRst x).clk = s.clk := rfl
@[simp] theorem State.setRst_ptp (x : RstCtl) : (s.setRst x).ptp = s.ptp := rfl
@[simp] theorem State.setRst_ptpFrac (x : RstCtl) : (s.setRst x).ptpFrac = s.ptpFrac := rfl
@[simp] theorem State.setRst_freeCount (x : RstCtl) : (s.setRst x).freeCount = s.freeCount := rfl
@[simp] theorem State.setRst_islands (x : RstCtl) : (s.setRst x).islands = s.islands := rfl
@[simp] theorem State.setRst_wrapped (x : RstCtl) : (s.setRst x).wrapped = s.wrapped := rfl
@[simp] theorem State.setRst_cmd (x : RstCtl) : (s.setRst x).cmd = s.cmd := rfl
@[simp] theorem State.setRst_bpm (x : RstCtl) : (s.setRst x).bpm = s.bpm := rfl
@[simp] theorem State.setRst_lanes (x : RstCtl) : (s.setRst x).lanes = s.lanes := rfl
@[simp] theorem State.setRst_framing (x : RstCtl) : (s.setRst x).framing = s.framing := rfl
@[simp] theorem State.setRst_pool (x : RstCtl) : (s.setRst x).pool = s.pool := rfl
@[simp] theorem State.setRst_encoders (x : RstCtl) : (s.setRst x).encoders = s.encoders := rfl
@[simp] theorem State.setRst_act (x : RstCtl) : (s.setRst x).act = s.act := rfl
@[simp] theorem State.setRst_terms (x : RstCtl) : (s.setRst x).terms = s.terms := rfl
@[simp] theorem State.setRst_grt (x : RstCtl) : (s.setRst x).grt = s.grt := rfl
@[simp] theorem State.setRst_clusters (x : RstCtl) : (s.setRst x).clusters = s.clusters := rfl
@[simp] theorem State.setRst_threads (x : RstCtl) : (s.setRst x).threads = s.threads := rfl
@[simp] theorem State.setRst_queues (x : RstCtl) : (s.setRst x).queues = s.queues := rfl
@[simp] theorem State.setRst_crl (x : RstCtl) : (s.setRst x).crl = s.crl := rfl
@[simp] theorem State.setRst_ohp (x : RstCtl) : (s.setRst x).ohp = s.ohp := rfl
@[simp] theorem State.setRst_cipher (x : RstCtl) : (s.setRst x).cipher = s.cipher := rfl
@[simp] theorem State.setRst_upSdus (x : RstCtl) : (s.setRst x).upSdus = s.upSdus := rfl
@[simp] theorem State.setRst_txts (x : RstCtl) : (s.setRst x).txts = s.txts := rfl
@[simp] theorem State.setRst_tim (x : RstCtl) : (s.setRst x).tim = s.tim := rfl
@[simp] theorem State.setRst_cls (x : RstCtl) : (s.setRst x).cls = s.cls := rfl
@[simp] theorem State.setRst_lpm (x : RstCtl) : (s.setRst x).lpm = s.lpm := rfl
@[simp] theorem State.setRst_merge (x : RstCtl) : (s.setRst x).merge = s.merge := rfl
@[simp] theorem State.setRst_ports (x : RstCtl) : (s.setRst x).ports = s.ports := rfl
@[simp] theorem State.setRst_pair (x : RstCtl) : (s.setRst x).pair = s.pair := rfl
@[simp] theorem State.setRst_sys (x : RstCtl) : (s.setRst x).sys = s.sys := rfl
@[simp] theorem State.setRst_nvm (x : RstCtl) : (s.setRst x).nvm = s.nvm := rfl
@[simp] theorem State.setRst_pending (x : RstCtl) : (s.setRst x).pending = s.pending := rfl
@[simp] theorem State.setRst_get (x : RstCtl) (key : Key) : (s.setRst x).get key = s.get key := rfl
@[simp] theorem rdx_setRst (x : RstCtl) (f : Fld) (j y : Nat) : rdx f j y (s.setRst x) = rdx f j y s := rfl
@[simp] theorem rd_setRst (x : RstCtl) (f : Fld) (j : Nat) : rd f j (s.setRst x) = rd f j s := rfl
@[simp] theorem State.setRst_up (x : RstCtl) (j : Nat) : (s.setRst x).up j = s.up j := rfl

@[simp] theorem State.setNvm_mem (x : NvmSt) : (s.setNvm x).mem = s.mem := rfl
@[simp] theorem State.setNvm_ev (x : NvmSt) : (s.setNvm x).ev = s.ev := rfl
@[simp] theorem State.setNvm_sess (x : NvmSt) : (s.setNvm x).sess = s.sess := rfl
@[simp] theorem State.setNvm_pmu (x : NvmSt) : (s.setNvm x).pmu = s.pmu := rfl
@[simp] theorem State.setNvm_clk (x : NvmSt) : (s.setNvm x).clk = s.clk := rfl
@[simp] theorem State.setNvm_ptp (x : NvmSt) : (s.setNvm x).ptp = s.ptp := rfl
@[simp] theorem State.setNvm_ptpFrac (x : NvmSt) : (s.setNvm x).ptpFrac = s.ptpFrac := rfl
@[simp] theorem State.setNvm_freeCount (x : NvmSt) : (s.setNvm x).freeCount = s.freeCount := rfl
@[simp] theorem State.setNvm_islands (x : NvmSt) : (s.setNvm x).islands = s.islands := rfl
@[simp] theorem State.setNvm_wrapped (x : NvmSt) : (s.setNvm x).wrapped = s.wrapped := rfl
@[simp] theorem State.setNvm_rst (x : NvmSt) : (s.setNvm x).rst = s.rst := rfl
@[simp] theorem State.setNvm_cmd (x : NvmSt) : (s.setNvm x).cmd = s.cmd := rfl
@[simp] theorem State.setNvm_bpm (x : NvmSt) : (s.setNvm x).bpm = s.bpm := rfl
@[simp] theorem State.setNvm_lanes (x : NvmSt) : (s.setNvm x).lanes = s.lanes := rfl
@[simp] theorem State.setNvm_framing (x : NvmSt) : (s.setNvm x).framing = s.framing := rfl
@[simp] theorem State.setNvm_pool (x : NvmSt) : (s.setNvm x).pool = s.pool := rfl
@[simp] theorem State.setNvm_encoders (x : NvmSt) : (s.setNvm x).encoders = s.encoders := rfl
@[simp] theorem State.setNvm_act (x : NvmSt) : (s.setNvm x).act = s.act := rfl
@[simp] theorem State.setNvm_terms (x : NvmSt) : (s.setNvm x).terms = s.terms := rfl
@[simp] theorem State.setNvm_grt (x : NvmSt) : (s.setNvm x).grt = s.grt := rfl
@[simp] theorem State.setNvm_clusters (x : NvmSt) : (s.setNvm x).clusters = s.clusters := rfl
@[simp] theorem State.setNvm_threads (x : NvmSt) : (s.setNvm x).threads = s.threads := rfl
@[simp] theorem State.setNvm_queues (x : NvmSt) : (s.setNvm x).queues = s.queues := rfl
@[simp] theorem State.setNvm_crl (x : NvmSt) : (s.setNvm x).crl = s.crl := rfl
@[simp] theorem State.setNvm_ohp (x : NvmSt) : (s.setNvm x).ohp = s.ohp := rfl
@[simp] theorem State.setNvm_cipher (x : NvmSt) : (s.setNvm x).cipher = s.cipher := rfl
@[simp] theorem State.setNvm_upSdus (x : NvmSt) : (s.setNvm x).upSdus = s.upSdus := rfl
@[simp] theorem State.setNvm_txts (x : NvmSt) : (s.setNvm x).txts = s.txts := rfl
@[simp] theorem State.setNvm_tim (x : NvmSt) : (s.setNvm x).tim = s.tim := rfl
@[simp] theorem State.setNvm_cls (x : NvmSt) : (s.setNvm x).cls = s.cls := rfl
@[simp] theorem State.setNvm_lpm (x : NvmSt) : (s.setNvm x).lpm = s.lpm := rfl
@[simp] theorem State.setNvm_merge (x : NvmSt) : (s.setNvm x).merge = s.merge := rfl
@[simp] theorem State.setNvm_ports (x : NvmSt) : (s.setNvm x).ports = s.ports := rfl
@[simp] theorem State.setNvm_pair (x : NvmSt) : (s.setNvm x).pair = s.pair := rfl
@[simp] theorem State.setNvm_sys (x : NvmSt) : (s.setNvm x).sys = s.sys := rfl
@[simp] theorem State.setNvm_pending (x : NvmSt) : (s.setNvm x).pending = s.pending := rfl
@[simp] theorem State.setNvm_get (x : NvmSt) (key : Key) : (s.setNvm x).get key = s.get key := rfl
@[simp] theorem rdx_setNvm (x : NvmSt) (f : Fld) (j y : Nat) : rdx f j y (s.setNvm x) = rdx f j y s := rfl
@[simp] theorem rd_setNvm (x : NvmSt) (f : Fld) (j : Nat) : rd f j (s.setNvm x) = rd f j s := rfl
@[simp] theorem State.setNvm_up (x : NvmSt) (j : Nat) : (s.setNvm x).up j = s.up j := rfl

@[simp] theorem State.setPmu_mem (i : Nat) (x : PmuVal) : (s.setPmu i x).mem = s.mem := rfl
@[simp] theorem State.setPmu_ev (i : Nat) (x : PmuVal) : (s.setPmu i x).ev = s.ev := rfl
@[simp] theorem State.setPmu_sess (i : Nat) (x : PmuVal) : (s.setPmu i x).sess = s.sess := rfl
@[simp] theorem State.setPmu_clk (i : Nat) (x : PmuVal) : (s.setPmu i x).clk = s.clk := rfl
@[simp] theorem State.setPmu_ptp (i : Nat) (x : PmuVal) : (s.setPmu i x).ptp = s.ptp := rfl
@[simp] theorem State.setPmu_ptpFrac (i : Nat) (x : PmuVal) : (s.setPmu i x).ptpFrac = s.ptpFrac := rfl
@[simp] theorem State.setPmu_freeCount (i : Nat) (x : PmuVal) : (s.setPmu i x).freeCount = s.freeCount := rfl
@[simp] theorem State.setPmu_islands (i : Nat) (x : PmuVal) : (s.setPmu i x).islands = s.islands := rfl
@[simp] theorem State.setPmu_wrapped (i : Nat) (x : PmuVal) : (s.setPmu i x).wrapped = s.wrapped := rfl
@[simp] theorem State.setPmu_rst (i : Nat) (x : PmuVal) : (s.setPmu i x).rst = s.rst := rfl
@[simp] theorem State.setPmu_cmd (i : Nat) (x : PmuVal) : (s.setPmu i x).cmd = s.cmd := rfl
@[simp] theorem State.setPmu_bpm (i : Nat) (x : PmuVal) : (s.setPmu i x).bpm = s.bpm := rfl
@[simp] theorem State.setPmu_lanes (i : Nat) (x : PmuVal) : (s.setPmu i x).lanes = s.lanes := rfl
@[simp] theorem State.setPmu_framing (i : Nat) (x : PmuVal) : (s.setPmu i x).framing = s.framing := rfl
@[simp] theorem State.setPmu_pool (i : Nat) (x : PmuVal) : (s.setPmu i x).pool = s.pool := rfl
@[simp] theorem State.setPmu_encoders (i : Nat) (x : PmuVal) : (s.setPmu i x).encoders = s.encoders := rfl
@[simp] theorem State.setPmu_act (i : Nat) (x : PmuVal) : (s.setPmu i x).act = s.act := rfl
@[simp] theorem State.setPmu_terms (i : Nat) (x : PmuVal) : (s.setPmu i x).terms = s.terms := rfl
@[simp] theorem State.setPmu_grt (i : Nat) (x : PmuVal) : (s.setPmu i x).grt = s.grt := rfl
@[simp] theorem State.setPmu_clusters (i : Nat) (x : PmuVal) : (s.setPmu i x).clusters = s.clusters := rfl
@[simp] theorem State.setPmu_threads (i : Nat) (x : PmuVal) : (s.setPmu i x).threads = s.threads := rfl
@[simp] theorem State.setPmu_queues (i : Nat) (x : PmuVal) : (s.setPmu i x).queues = s.queues := rfl
@[simp] theorem State.setPmu_crl (i : Nat) (x : PmuVal) : (s.setPmu i x).crl = s.crl := rfl
@[simp] theorem State.setPmu_ohp (i : Nat) (x : PmuVal) : (s.setPmu i x).ohp = s.ohp := rfl
@[simp] theorem State.setPmu_cipher (i : Nat) (x : PmuVal) : (s.setPmu i x).cipher = s.cipher := rfl
@[simp] theorem State.setPmu_upSdus (i : Nat) (x : PmuVal) : (s.setPmu i x).upSdus = s.upSdus := rfl
@[simp] theorem State.setPmu_txts (i : Nat) (x : PmuVal) : (s.setPmu i x).txts = s.txts := rfl
@[simp] theorem State.setPmu_tim (i : Nat) (x : PmuVal) : (s.setPmu i x).tim = s.tim := rfl
@[simp] theorem State.setPmu_cls (i : Nat) (x : PmuVal) : (s.setPmu i x).cls = s.cls := rfl
@[simp] theorem State.setPmu_lpm (i : Nat) (x : PmuVal) : (s.setPmu i x).lpm = s.lpm := rfl
@[simp] theorem State.setPmu_merge (i : Nat) (x : PmuVal) : (s.setPmu i x).merge = s.merge := rfl
@[simp] theorem State.setPmu_ports (i : Nat) (x : PmuVal) : (s.setPmu i x).ports = s.ports := rfl
@[simp] theorem State.setPmu_pair (i : Nat) (x : PmuVal) : (s.setPmu i x).pair = s.pair := rfl
@[simp] theorem State.setPmu_sys (i : Nat) (x : PmuVal) : (s.setPmu i x).sys = s.sys := rfl
@[simp] theorem State.setPmu_nvm (i : Nat) (x : PmuVal) : (s.setPmu i x).nvm = s.nvm := rfl
@[simp] theorem State.setPmu_pending (i : Nat) (x : PmuVal) : (s.setPmu i x).pending = s.pending := rfl
@[simp] theorem State.setPmu_get (i : Nat) (x : PmuVal) (key : Key) : (s.setPmu i x).get key = s.get key := rfl
@[simp] theorem rdx_setPmu (i : Nat) (x : PmuVal) (f : Fld) (j y : Nat) : rdx f j y (s.setPmu i x) = rdx f j y s := rfl
@[simp] theorem rd_setPmu (i : Nat) (x : PmuVal) (f : Fld) (j : Nat) : rd f j (s.setPmu i x) = rd f j s := rfl
@[simp] theorem State.setPmu_up (i : Nat) (x : PmuVal) (j : Nat) : (s.setPmu i x).up j = s.up j := rfl

/-! What has been put is read back. -/

@[simp] theorem State.setIsland_self (i : Nat) (x : Island) : (s.setIsland i x).island i = x := Tbl.get_set_self _ _ _ _
@[simp] theorem State.setFram_self (n : Nat) (x : Framing) : (s.setFram n x).fram n = x := Tbl.get_set_self _ _ _ _
@[simp] theorem State.setSession_self (i : Nat) (x : Session) : (s.setSession i x).session i = x := Tbl.get_set_self _ _ _ _
@[simp] theorem State.setLane_self (n : Nat) (x : Lane) : (s.setLane n x).lane n = x := Tbl.get_set_self _ _ _ _
@[simp] theorem State.setGrant_self (n : Nat) (x : Grt) : (s.setGrant n x).grant n = x := Tbl.get_set_self _ _ _ _
@[simp] theorem State.setAct_self (n : Nat) (x : Act) : (s.setAct n x).actOf n = x := Tbl.get_set_self _ _ _ _
@[simp] theorem State.setTerm_self (n k : Nat) (x : TermX) : (s.setTerm n k x).term n k = x := Tbl.get_set_self _ _ _ _
@[simp] theorem State.setCluster_self (k : Nat) (x : Cluster) : (s.setCluster k x).cluster k = x := Tbl.get_set_self _ _ _ _
@[simp] theorem State.setThread_self (k r : Nat) (x : Thread) : (s.setThread k r x).thread k r = x := Tbl.get_set_self _ _ _ _
@[simp] theorem State.setNode_self (d : Node) (x : NodeX) : (s.setNode d x).node d = x := Tbl.get_set_self _ _ _ _
@[simp] theorem State.setTmdTree_self (n : Nat) (x : TmdTree) : (s.setTmdTree n x).tmdTree n = x := Tbl.get_set_self _ _ _ _
@[simp] theorem State.setTmuPort_self (p : Nat) (x : TmuPort) : (s.setTmuPort p x).tmuPort p = x := Tbl.get_set_self _ _ _ _
@[simp] theorem State.setCph_self (d : Nat) (x : Cipher) : (s.setCph d x).cph d = x := Tbl.get_set_self _ _ _ _
@[simp] theorem State.setCrLane_self (l : LaneId) (x : CrLane) : (s.setCrLane l x).crLane l = x := Tbl.get_set_self _ _ _ _
@[simp] theorem State.setPipe_self (k : Nat) (x : Pipe) : (s.setPipe k x).pipe k = x := Tbl.get_set_self _ _ _ _
@[simp] theorem State.setNetPort_self (n : Nat) (x : NetPort) : (s.setNetPort n x).netPort n = x := Tbl.get_set_self _ _ _ _
@[simp] theorem State.setTim_self (x : Tim) : (s.setTim x).tim = x := rfl
@[simp] theorem State.setPair_self (x : PairSt) : (s.setPair x).pair = x := rfl
@[simp] theorem State.setCmd_self (x : Cmd) : (s.setCmd x).cmd = x := rfl
@[simp] theorem State.setSys_self (x : SysSt) : (s.setSys x).sys = x := rfl
@[simp] theorem State.setRst_self (x : RstCtl) : (s.setRst x).rst = x := rfl
@[simp] theorem State.setNvm_self (x : NvmSt) : (s.setNvm x).nvm = x := rfl
@[simp] theorem State.setPmu_self (i : Nat) (x : PmuVal) : (s.setPmu i x).pmuVal i = x := Tbl.get_set_self _ _ _ _

end Sys2Proof.Machine
end

