-- ==== Sys2Proof/Laws/Words.lean ====
section
/-!
SUPPORT. Fields and words: what a read gives after a write, a count, a raise, and what these leave.
-/

namespace Sys2Proof.Machine

/-! Bits. -/

theorem testBit_setBitsOf (w : Word) (hi lo v j : Nat) (h : lo ≤ hi) (hh : hi < 32) :
    (setBitsOf w hi lo v).toNat.testBit j =
      (decide (j < 32) && if j < lo then w.toNat.testBit j else if j ≤ hi then v.testBit (j - lo) else w.toNat.testBit j) := by
  have e : w.toNat / 2 ^ (hi + 1) * 2 ^ (hi + 1) + v % 2 ^ (hi + 1 - lo) * 2 ^ lo + w.toNat % 2 ^ lo =
      2 ^ lo * (2 ^ (hi + 1 - lo) * (w.toNat / 2 ^ (hi + 1)) + v % 2 ^ (hi + 1 - lo)) + w.toNat % 2 ^ lo := by
    have : 2 ^ (hi + 1) = 2 ^ lo * 2 ^ (hi + 1 - lo) := by rw [← Nat.pow_add]; congr 1; omega
    rw [this, Nat.mul_add, Nat.mul_comm (v % _), ← Nat.mul_assoc, Nat.mul_comm (w.toNat / _), Nat.mul_assoc,
      Nat.mul_comm (w.toNat / _)]
  unfold setBitsOf
  rw [BitVec.toNat_ofNat, Nat.testBit_mod_two_pow, e,
    Nat.testBit_two_pow_mul_add _ (Nat.mod_lt _ (Nat.two_pow_pos lo)),
    Nat.testBit_two_pow_mul_add _ (Nat.mod_lt _ (Nat.two_pow_pos _))]
  congr 1
  by_cases h1 : j < lo
  · simp [h1, Nat.testBit_mod_two_pow]
  · by_cases h2 : j ≤ hi
    · have : j - lo < hi + 1 - lo := by omega
      simp [h1, h2, this, Nat.testBit_mod_two_pow]
    · have h3 : ¬ j - lo < hi + 1 - lo := by omega
      simp only [h1, h2, h3, if_false, Nat.testBit_div_two_pow]
      congr 1
      omega

theorem testBit_bitsOf (w : Word) (hi lo j : Nat) :
    (bitsOf w hi lo).testBit j = (decide (j < hi + 1 - lo) && w.toNat.testBit (j + lo)) := by
  unfold bitsOf
  rw [Nat.testBit_mod_two_pow, Nat.testBit_div_two_pow]

theorem bitsOf_setBitsOf_self (w : Word) (hi lo v : Nat) (h : lo ≤ hi) (hh : hi < 32) :
    bitsOf (setBitsOf w hi lo v) hi lo = v % 2 ^ (hi + 1 - lo) := by
  apply Nat.eq_of_testBit_eq
  intro j
  rw [testBit_bitsOf, testBit_setBitsOf w hi lo v _ h hh, Nat.testBit_mod_two_pow]
  by_cases hj : j < hi + 1 - lo
  · have h1 : j + lo < 32 := by omega
    have h2 : ¬ j + lo < lo := by omega
    have h3 : j + lo ≤ hi := by omega
    simp only [hj, h1, h2, h3, decide_true, Bool.true_and, if_true, if_false, Nat.add_sub_cancel]
  · simp [hj]

theorem bitsOf_setBitsOf_other (w : Word) (hi lo v hi' lo' : Nat) (h : lo ≤ hi) (hh : hi < 32) (hh' : hi' < 32)
    (ha : hi < lo' ∨ hi' < lo) : bitsOf (setBitsOf w hi lo v) hi' lo' = bitsOf w hi' lo' := by
  apply Nat.eq_of_testBit_eq
  intro j
  rw [testBit_bitsOf, testBit_bitsOf, testBit_setBitsOf w hi lo v _ h hh]
  by_cases hj : j < hi' + 1 - lo'
  · have h1 : j + lo' < 32 := by omega
    by_cases h2 : j + lo' < lo
    · simp [h1, h2]
    · have h3 : ¬ j + lo' ≤ hi := by omega
      simp [h1, h2, h3]
  · simp [hj]

/-! Words. -/

theorem State.get_set_self (s : State) (k : Key) (v : Word) : (s.set k v).get k = v := by
  unfold State.set State.get
  split <;> simp [*, Store.get_set_self]

theorem State.get_set_other (s : State) {k k' : Key} (h : k' ≠ k) (v : Word) : (s.set k v).get k' = s.get k' := by
  unfold State.set State.get
  by_cases h1 : k.sp.isEvent = true <;> by_cases h2 : k'.sp.isEvent = true <;>
    simp [h1, h2, Store.get_set_other _ h]

/-! Fields. -/

theorem rdx_wrx_self (f : Fld) (i x v : Nat) (s : State) (h : f.lo ≤ f.hi ∧ f.hi < 32) :
    rdx f i x (wrx f i x v s) = v % 2 ^ (f.hi + 1 - f.lo) := by
  unfold rdx wrx
  rw [State.get_set_self, bitsOf_setBitsOf_self _ _ _ _ h.1 h.2]

theorem rdx_wrx_other (f g : Fld) (i x j y v : Nat) (s : State) (hf : f.lo ≤ f.hi ∧ f.hi < 32) (hg : g.hi < 32)
    (ha : f.apart i x g j y) : rdx g j y (wrx f i x v s) = rdx g j y s := by
  unfold rdx wrx
  by_cases hk : g.key j y = f.key i x
  · rw [hk, State.get_set_self]
    have : f.hi < g.lo ∨ g.hi < f.lo := by
      simp only [Fld.key, Key.mk.injEq] at hk
      obtain ⟨h1, h2, h3, h4⟩ := hk
      rcases ha with h | h | h | h | h
      · exact absurd h1.symm h
      · exact absurd h2.symm h
      · exact absurd h3.symm h
      · exact absurd h4.symm h
      · exact h
    exact bitsOf_setBitsOf_other _ _ _ _ _ _ hf.1 hf.2 hg this
  · rw [State.get_set_other s hk]

theorem rd_wr_self (f : Fld) (i v : Nat) (s : State) (h : f.lo ≤ f.hi ∧ f.hi < 32) :
    rd f i (wr f i v s) = v % 2 ^ (f.hi + 1 - f.lo) := rdx_wrx_self f i 0 v s h

theorem rd_wr_other (f g : Fld) (i j v : Nat) (s : State) (hf : f.lo ≤ f.hi ∧ f.hi < 32) (hg : g.hi < 32)
    (ha : f.sp ≠ g.sp ∨ i ≠ j ∨ f.word ≠ g.word ∨ f.hi < g.lo ∨ g.hi < f.lo) : rd g j (wr f i v s) = rd g j s := by
  refine rdx_wrx_other f g i 0 j 0 v s hf hg ?_
  rcases ha with h | h | h | h
  · exact .inl h
  · exact .inr (.inl h)
  · exact .inr (.inr (.inr (.inl h)))
  · exact .inr (.inr (.inr (.inr h)))

theorem rdx_set_other (g : Fld) (j y : Nat) (k : Key) (v : Word) (s : State) (h : g.key j y ≠ k) :
    rdx g j y (s.set k v) = rdx g j y s := by
  unfold rdx
  rw [State.get_set_other s h]

theorem rdx_lt (f : Fld) (i x : Nat) (s : State) : rdx f i x s < 2 ^ (f.hi + 1 - f.lo) := Nat.mod_lt _ (Nat.two_pow_pos _)

theorem rd_lt (f : Fld) (i : Nat) (s : State) : rd f i s < 2 ^ (f.hi + 1 - f.lo) := rdx_lt f i 0 s

/-! Parts of the state read alike in states that keep them. -/

theorem State.get_of_mem {s t : State} (h : t.mem = s.mem) {k : Key} (hk : k.sp.isEvent = false) : t.get k = s.get k := by
  simp [State.get, hk, h]

theorem rdx_of_mem {s t : State} (h : t.mem = s.mem) {f : Fld} (hf : f.sp.isEvent = false) (i x : Nat) :
    rdx f i x t = rdx f i x s := by unfold rdx; rw [State.get_of_mem h hf]

theorem rd_of_mem {s t : State} (h : t.mem = s.mem) {f : Fld} (hf : f.sp.isEvent = false) (i : Nat) : rd f i t = rd f i s :=
  rdx_of_mem h hf i 0

theorem State.up_of_islands {s t : State} (h : t.islands = s.islands) (i : Nat) : t.up i = s.up i := by
  simp [State.up, State.island, h]

/-! What a command that evolves leaves. -/

/-- Parts alone. -/
theorem Keeps.ofParts {m m' : Nat} {s t : State} (h : Keeps m' s t) (hm : m' % 2 ^ 64 ||| m = m) : Keeps m s t := fun p hp =>
  h p (by
    have h1 : (m' % 2 ^ 64).testBit p.ctorIdx = false := Mask.left hm hp
    rw [Nat.testBit_mod_two_pow] at h1
    have h2 : p.ctorIdx < 64 := by cases p <;> decide
    simpa [h2] using h1)

theorem Evolves.parts {m : Nat} {s t : State} (h : Evolves (m ||| spacesAll) s t) : Keeps m s t :=
  h.keeps.ofParts (by
    apply Nat.eq_of_testBit_eq
    intro j
    rw [Nat.testBit_or, Nat.testBit_mod_two_pow, Nat.testBit_or]
    by_cases hj : j < 64
    · have : spacesAll.testBit j = false := by
        rw [show spacesAll = 2 ^ 64 * (2 ^ 66 - 1) from by decide, Nat.testBit_two_pow_mul]
        have : ¬ 64 ≤ j := by omega
        simp [this]
      simp [this]
    · simp [hj])

/-- Spaces alone. -/
theorem Evolves.spaces {m : Nat} {s t : State} {l : List Sp} (h : Evolves m s t)
    (hm : m / 2 ^ 64 * 2 ^ 64 ||| spMask l = spMask l) : OnlySpaces l s t := fun k hk => h.words k (by
  have h1 : ∀ (l : List Sp) (a : Nat), (l.foldl (fun a p => a ||| 2 ^ (64 + p.ctorIdx)) a).testBit (64 + k.sp.ctorIdx) = true →
      a.testBit (64 + k.sp.ctorIdx) = true ∨ k.sp ∈ l := by
    intro l
    induction l with
    | nil => intro a h; exact .inl h
    | cons p l ih =>
      intro a h
      rcases ih _ h with h | h
      · rw [Nat.testBit_or, Bool.or_eq_true] at h
        rcases h with h | h
        · exact .inl h
        · rw [Nat.testBit_two_pow] at h
          have : p.ctorIdx = k.sp.ctorIdx := by have := of_decide_eq_true h; omega
          exact .inr (by rw [Sp.ctorIdx_injective this]; exact List.mem_cons_self)
      · exact .inr (List.mem_cons_of_mem _ h)
  have h2 : (spMask l).testBit (64 + k.sp.ctorIdx) = false := by
    cases h : (spMask l).testBit (64 + k.sp.ctorIdx) with
    | false => rfl
    | true =>
      rcases h1 l 0 h with h | h
      · simp at h
      · exact absurd h hk
  have h3 := Mask.left hm h2
  rw [Nat.testBit_mul_two_pow, Nat.testBit_div_two_pow] at h3
  simpa [Nat.add_comm] using h3)

theorem Evolves.within {ps : List Part} {sps : List Sp} {s t : State}
    (h : Evolves (partMask ps ||| spMask (eventSpaces ++ sps)) s t)
    (h1 : (partMask ps ||| spMask (eventSpaces ++ sps)) % 2 ^ 64 ||| partMask ps = partMask ps := by decide)
    (h2 : (partMask ps ||| spMask (eventSpaces ++ sps)) / 2 ^ 64 * 2 ^ 64 ||| spMask (eventSpaces ++ sps) =
      spMask (eventSpaces ++ sps) := by decide) : Within ps sps s t := ⟨h.keeps.ofParts h1, h.spaces h2⟩

/-- A field of a space a command does not touch reads as before. -/
theorem Evolves.rdx {m : Nat} {s t : State} (h : Evolves m s t) {f : Fld} (hm : m.testBit (64 + f.sp.ctorIdx) = false)
    (i x : Nat) : rdx f i x t = rdx f i x s := by
  unfold Machine.rdx
  rw [h.words (f.key i x) hm]

theorem Evolves.rd {m : Nat} {s t : State} (h : Evolves m s t) {f : Fld} (hm : m.testBit (64 + f.sp.ctorIdx) = false)
    (i : Nat) : rd f i t = rd f i s := h.rdx hm i 0

theorem OnlySpaces.mono {l l' : List Sp} {s t : State} (h : OnlySpaces l s t) (hl : ∀ x, x ∈ l → x ∈ l') : OnlySpaces l' s t :=
  fun k hk => h k fun x => hk (hl _ x)

/-! A raise. -/

@[simp] theorem raise_mem (a b : Nat) (d : List Nat) (s : State) : (raise a b d s).mem = s.mem := (ev_raise a b d s).keeps .mem rfl
@[simp] theorem raise_get (a b : Nat) (d : List Nat) (s : State) (k : Key) (h : k.sp.isEvent = false) :
    (raise a b d s).get k = s.get k := State.get_of_mem (raise_mem a b d s) h
@[simp] theorem rdx_raise (a b : Nat) (d : List Nat) (s : State) (f : Fld) (i x : Nat) (h : f.sp.isEvent = false) :
    rdx f i x (raise a b d s) = rdx f i x s := rdx_of_mem (raise_mem a b d s) h i x
@[simp] theorem rd_raise (a b : Nat) (d : List Nat) (s : State) (f : Fld) (i : Nat) (h : f.sp.isEvent = false) :
    rd f i (raise a b d s) = rd f i s := rdx_raise a b d s f i 0 h
@[simp] theorem raise_up (a b : Nat) (d : List Nat) (s : State) (i : Nat) : (raise a b d s).up i = s.up i :=
  State.up_of_islands ((ev_raise a b d s).keeps .islands rfl) i

/-! A count. -/

@[simp] theorem pmuCount_mem (e : Nat) (p : Nat → Bool) (n : Nat) (s : State) : (pmuCount e p n s).mem = s.mem :=
  (ev_pmuCount e p n s).keeps .mem rfl
@[simp] theorem pmuCount_ev (e : Nat) (p : Nat → Bool) (n : Nat) (s : State) : (pmuCount e p n s).ev = s.ev :=
  (ev_pmuCount e p n s).keeps .ev rfl
@[simp] theorem pmuCount_get (e : Nat) (p : Nat → Bool) (n : Nat) (s : State) (k : Key) :
    (pmuCount e p n s).get k = s.get k := by simp [State.get]
@[simp] theorem rdx_pmuCount (e : Nat) (p : Nat → Bool) (n : Nat) (s : State) (f : Fld) (i x : Nat) :
    rdx f i x (pmuCount e p n s) = rdx f i x s := by simp [rdx]

theorem bumpBy_get (f : Fld) (i n : Nat) (s : State) (k : Key) :
    (bumpBy f i n s).get k = (wr f i (min (rd f i s + n) f.max) s).get k := by
  unfold bumpBy onlyIf
  split <;> simp

theorem rdx_bumpBy (f g : Fld) (i n j y : Nat) (s : State) :
    rdx g j y (bumpBy f i n s) = rdx g j y (wr f i (min (rd f i s + n) f.max) s) := by
  unfold rdx
  rw [bumpBy_get]

theorem rd_bumpBy_self (f : Fld) (i n : Nat) (s : State) (h : f.lo ≤ f.hi ∧ f.hi < 32) :
    rd f i (bumpBy f i n s) = min (rd f i s + n) f.max := by
  unfold rd
  rw [rdx_bumpBy]
  show rd f i (wr f i _ s) = _
  rw [rd_wr_self f i _ s h, Nat.mod_eq_of_lt]
  · rfl
  · have := Nat.two_pow_pos (f.hi + 1 - f.lo)
    unfold Fld.max
    omega

theorem rd_bump_self (f : Fld) (i : Nat) (s : State) (h : f.lo ≤ f.hi ∧ f.hi < 32) :
    rd f i (bump f i s) = min (rd f i s + 1) f.max := rd_bumpBy_self f i 1 s h

theorem rdx_bump_other (f g : Fld) (i j y : Nat) (s : State) (hf : f.lo ≤ f.hi ∧ f.hi < 32) (hg : g.hi < 32)
    (ha : f.apart i 0 g j y) : rdx g j y (bump f i s) = rdx g j y s := by
  unfold bump
  rw [rdx_bumpBy]
  exact rdx_wrx_other f g i 0 j y _ s hf hg ha

theorem rd_bump_other (f g : Fld) (i j : Nat) (s : State) (hf : f.lo ≤ f.hi ∧ f.hi < 32) (hg : g.hi < 32)
    (ha : f.sp ≠ g.sp ∨ i ≠ j ∨ f.word ≠ g.word ∨ f.hi < g.lo ∨ g.hi < f.lo) : rd g j (bump f i s) = rd g j s := by
  refine rdx_bump_other f g i j 0 s hf hg ?_
  rcases ha with h | h | h | h
  · exact .inl h
  · exact .inr (.inl h)
  · exact .inr (.inr (.inr (.inl h)))
  · exact .inr (.inr (.inr (.inr h)))

/-! Fields of known places: one closed condition, which `decide` settles. -/

/-- Two fields of 32-bit words that share no bit whatever their instances. -/
def Fld.clear (f g : Fld) : Bool :=
  decide (f.lo ≤ f.hi ∧ f.hi < 32 ∧ g.hi < 32 ∧ (f.sp ≠ g.sp ∨ f.word ≠ g.word ∨ f.hi < g.lo ∨ g.hi < f.lo))

theorem Fld.clear_apart {f g : Fld} (h : f.clear g = true) (i x j y : Nat) :
    (f.lo ≤ f.hi ∧ f.hi < 32) ∧ g.hi < 32 ∧ f.apart i x g j y := by
  simp only [Fld.clear, decide_eq_true_eq] at h
  obtain ⟨h1, h2, h3, h4⟩ := h
  refine ⟨⟨h1, h2⟩, h3, ?_⟩
  rcases h4 with h | h | h
  · exact .inl h
  · exact .inr (.inr (.inr (.inl h)))
  · exact .inr (.inr (.inr (.inr h)))

theorem rdx_wrx_clear (f g : Fld) (i x j y v : Nat) (s : State) (h : f.clear g = true) :
    rdx g j y (wrx f i x v s) = rdx g j y s :=
  let ⟨a, b, c⟩ := Fld.clear_apart h i x j y
  rdx_wrx_other f g i x j y v s a b c

theorem rd_wrx_clear (f g : Fld) (i x j v : Nat) (s : State) (h : f.clear g = true) : rd g j (wrx f i x v s) = rd g j s :=
  rdx_wrx_clear f g i x j 0 v s h

theorem rdx_wr_clear (f g : Fld) (i j y v : Nat) (s : State) (h : f.clear g = true) : rdx g j y (wr f i v s) = rdx g j y s :=
  rdx_wrx_clear f g i 0 j y v s h

theorem rd_wr_clear (f g : Fld) (i j v : Nat) (s : State) (h : f.clear g = true) : rd g j (wr f i v s) = rd g j s :=
  rdx_wrx_clear f g i 0 j 0 v s h

theorem rdx_bumpBy_clear (f g : Fld) (i j y n : Nat) (s : State) (h : f.clear g = true) :
    rdx g j y (bumpBy f i n s) = rdx g j y s := by rw [rdx_bumpBy]; exact rdx_wr_clear f g i j y _ s h

theorem rd_bumpBy_clear (f g : Fld) (i j n : Nat) (s : State) (h : f.clear g = true) : rd g j (bumpBy f i n s) = rd g j s :=
  rdx_bumpBy_clear f g i j 0 n s h

theorem rdx_bump_clear (f g : Fld) (i j y : Nat) (s : State) (h : f.clear g = true) : rdx g j y (bump f i s) = rdx g j y s :=
  rdx_bumpBy_clear f g i j y 1 s h

theorem rd_bump_clear (f g : Fld) (i j : Nat) (s : State) (h : f.clear g = true) : rd g j (bump f i s) = rd g j s :=
  rdx_bumpBy_clear f g i j 0 1 s h

/-! Whole words. -/

theorem rdx_wrWord_self (sp : Sp) (i x w v : Nat) (g : Fld) (s : State) (h : decide (sp = g.sp ∧ w = g.word) = true) :
    rdx g i x (wrWord sp i x w v s) = v % 2 ^ 32 / 2 ^ g.lo % 2 ^ (g.hi + 1 - g.lo) := by
  obtain ⟨h1, h2⟩ := of_decide_eq_true h
  unfold rdx wrWord
  rw [show g.key i x = (⟨sp, i, x, w⟩ : Key) by simp [Fld.key, h1, h2], State.get_set_self]
  simp [bitsOf]

theorem rdx_wrWord_clear (sp : Sp) (i x w v : Nat) (g : Fld) (j y : Nat) (s : State)
    (h : decide (sp ≠ g.sp ∨ w ≠ g.word) = true) : rdx g j y (wrWord sp i x w v s) = rdx g j y s := by
  refine rdx_set_other g j y _ _ s fun e => ?_
  simp only [Fld.key, Key.mk.injEq] at e
  rcases of_decide_eq_true h with h | h
  · exact h e.1.symm
  · exact h e.2.2.2.symm

theorem rd_wrWord_clear (sp : Sp) (i x w v : Nat) (g : Fld) (j : Nat) (s : State)
    (h : decide (sp ≠ g.sp ∨ w ≠ g.word) = true) : rd g j (wrWord sp i x w v s) = rd g j s :=
  rdx_wrWord_clear sp i x w v g j 0 s h

theorem rdWord_wrWord_self (sp : Sp) (i x w v : Nat) (s : State) :
    rdWord sp i x w (wrWord sp i x w v s) = v % 2 ^ 32 := by
  unfold rdWord wrWord
  rw [State.get_set_self, BitVec.toNat_ofNat]

/-! An island. -/

theorem onIsland_up {i : Nat} {s : State} {f : State → State} (h : s.up i = true) : onIsland i s f = .next (f s) := by
  simp [onIsland, h]

theorem onIsland_down {i : Nat} {s : State} {f : State → State} (h : s.up i = false) :
    onIsland i s f = .next (wrapperAnswer i s) := by
  simp [onIsland, h]

end Sys2Proof.Machine
end

