-- ==== Sys2Proof/Laws/Parts.lean ====
section
/-!
SUPPORT. What a write of a word, a count and a raise leave: one lemma a field.
-/

namespace Sys2Proof.Machine

set_option Elab.async false
set_option linter.all false

@[simp] theorem wrx_sess (f : Fld) (i x v : Nat) (s : State) : (wrx f i x v s).sess = s.sess := (ev_wrx f i x v s).keeps .sess rfl
@[simp] theorem wrx_pmu (f : Fld) (i x v : Nat) (s : State) : (wrx f i x v s).pmu = s.pmu := (ev_wrx f i x v s).keeps .pmu rfl
@[simp] theorem wrx_clk (f : Fld) (i x v : Nat) (s : State) : (wrx f i x v s).clk = s.clk := (ev_wrx f i x v s).keeps .clk rfl
@[simp] theorem wrx_ptp (f : Fld) (i x v : Nat) (s : State) : (wrx f i x v s).ptp = s.ptp := (ev_wrx f i x v s).keeps .ptp rfl
@[simp] theorem wrx_ptpFrac (f : Fld) (i x v : Nat) (s : State) : (wrx f i x v s).ptpFrac = s.ptpFrac := (ev_wrx f i x v s).keeps .ptpFrac rfl
@[simp] theorem wrx_freeCount (f : Fld) (i x v : Nat) (s : State) : (wrx f i x v s).freeCount = s.freeCount := (ev_wrx f i x v s).keeps .freeCount rfl
@[simp] theorem wrx_islands (f : Fld) (i x v : Nat) (s : State) : (wrx f i x v s).islands = s.islands := (ev_wrx f i x v s).keeps .islands rfl
@[simp] theorem wrx_wrapped (f : Fld) (i x v : Nat) (s : State) : (wrx f i x v s).wrapped = s.wrapped := (ev_wrx f i x v s).keeps .wrapped rfl
@[simp] theorem wrx_rst (f : Fld) (i x v : Nat) (s : State) : (wrx f i x v s).rst = s.rst := (ev_wrx f i x v s).keeps .rst rfl
@[simp] theorem wrx_cmd (f : Fld) (i x v : Nat) (s : State) : (wrx f i x v s).cmd = s.cmd := (ev_wrx f i x v s).keeps .cmd rfl
@[simp] theorem wrx_bpm (f : Fld) (i x v : Nat) (s : State) : (wrx f i x v s).bpm = s.bpm := (ev_wrx f i x v s).keeps .bpm rfl
@[simp] theorem wrx_lanes (f : Fld) (i x v : Nat) (s : State) : (wrx f i x v s).lanes = s.lanes := (ev_wrx f i x v s).keeps .lanes rfl
@[simp] theorem wrx_framing (f : Fld) (i x v : Nat) (s : State) : (wrx f i x v s).framing = s.framing := (ev_wrx f i x v s).keeps .framing rfl
@[simp] theorem wrx_pool (f : Fld) (i x v : Nat) (s : State) : (wrx f i x v s).pool = s.pool := (ev_wrx f i x v s).keeps .pool rfl
@[simp] theorem wrx_encoders (f : Fld) (i x v : Nat) (s : State) : (wrx f i x v s).encoders = s.encoders := (ev_wrx f i x v s).keeps .encoders rfl
@[simp] theorem wrx_act (f : Fld) (i x v : Nat) (s : State) : (wrx f i x v s).act = s.act := (ev_wrx f i x v s).keeps .act rfl
@[simp] theorem wrx_terms (f : Fld) (i x v : Nat) (s : State) : (wrx f i x v s).terms = s.terms := (ev_wrx f i x v s).keeps .terms rfl
@[simp] theorem wrx_grt (f : Fld) (i x v : Nat) (s : State) : (wrx f i x v s).grt = s.grt := (ev_wrx f i x v s).keeps .grt rfl
@[simp] theorem wrx_clusters (f : Fld) (i x v : Nat) (s : State) : (wrx f i x v s).clusters = s.clusters := (ev_wrx f i x v s).keeps .clusters rfl
@[simp] theorem wrx_threads (f : Fld) (i x v : Nat) (s : State) : (wrx f i x v s).threads = s.threads := (ev_wrx f i x v s).keeps .threads rfl
@[simp] theorem wrx_queues (f : Fld) (i x v : Nat) (s : State) : (wrx f i x v s).queues = s.queues := (ev_wrx f i x v s).keeps .queues rfl
@[simp] theorem wrx_crl (f : Fld) (i x v : Nat) (s : State) : (wrx f i x v s).crl = s.crl := (ev_wrx f i x v s).keeps .crl rfl
@[simp] theorem wrx_ohp (f : Fld) (i x v : Nat) (s : State) : (wrx f i x v s).ohp = s.ohp := (ev_wrx f i x v s).keeps .ohp rfl
@[simp] theorem wrx_cipher (f : Fld) (i x v : Nat) (s : State) : (wrx f i x v s).cipher = s.cipher := (ev_wrx f i x v s).keeps .cipher rfl
@[simp] theorem wrx_upSdus (f : Fld) (i x v : Nat) (s : State) : (wrx f i x v s).upSdus = s.upSdus := (ev_wrx f i x v s).keeps .upSdus rfl
@[simp] theorem wrx_txts (f : Fld) (i x v : Nat) (s : State) : (wrx f i x v s).txts = s.txts := (ev_wrx f i x v s).keeps .txts rfl
@[simp] theorem wrx_tim (f : Fld) (i x v : Nat) (s : State) : (wrx f i x v s).tim = s.tim := (ev_wrx f i x v s).keeps .tim rfl
@[simp] theorem wrx_cls (f : Fld) (i x v : Nat) (s : State) : (wrx f i x v s).cls = s.cls := (ev_wrx f i x v s).keeps .cls rfl
@[simp] theorem wrx_lpm (f : Fld) (i x v : Nat) (s : State) : (wrx f i x v s).lpm = s.lpm := (ev_wrx f i x v s).keeps .lpm rfl
@[simp] theorem wrx_merge (f : Fld) (i x v : Nat) (s : State) : (wrx f i x v s).merge = s.merge := (ev_wrx f i x v s).keeps .merge rfl
@[simp] theorem wrx_ports (f : Fld) (i x v : Nat) (s : State) : (wrx f i x v s).ports = s.ports := (ev_wrx f i x v s).keeps .ports rfl
@[simp] theorem wrx_pair (f : Fld) (i x v : Nat) (s : State) : (wrx f i x v s).pair = s.pair := (ev_wrx f i x v s).keeps .pair rfl
@[simp] theorem wrx_sys (f : Fld) (i x v : Nat) (s : State) : (wrx f i x v s).sys = s.sys := (ev_wrx f i x v s).keeps .sys rfl
@[simp] theorem wrx_nvm (f : Fld) (i x v : Nat) (s : State) : (wrx f i x v s).nvm = s.nvm := (ev_wrx f i x v s).keeps .nvm rfl
@[simp] theorem wrx_pending (f : Fld) (i x v : Nat) (s : State) : (wrx f i x v s).pending = s.pending := (ev_wrx f i x v s).keeps .pending rfl
@[simp] theorem wrx_lane (f : Fld) (i x v : Nat) (s : State) (q : Nat) : (wrx f i x v s).lane q = s.lane q := by simp [State.lane]
@[simp] theorem wrx_fram (f : Fld) (i x v : Nat) (s : State) (q : Nat) : (wrx f i x v s).fram q = s.fram q := by simp [State.fram]
@[simp] theorem wrx_session (f : Fld) (i x v : Nat) (s : State) (q : Nat) : (wrx f i x v s).session q = s.session q := by simp [State.session]
@[simp] theorem wrx_grant (f : Fld) (i x v : Nat) (s : State) (q : Nat) : (wrx f i x v s).grant q = s.grant q := by simp [State.grant]
@[simp] theorem wrx_actOf (f : Fld) (i x v : Nat) (s : State) (q : Nat) : (wrx f i x v s).actOf q = s.actOf q := by simp [State.actOf]
@[simp] theorem wrx_term (f : Fld) (i x v : Nat) (s : State) (q r : Nat) : (wrx f i x v s).term q r = s.term q r := by simp [State.term]
@[simp] theorem wrx_cluster (f : Fld) (i x v : Nat) (s : State) (q : Nat) : (wrx f i x v s).cluster q = s.cluster q := by simp [State.cluster]
@[simp] theorem wrx_thread (f : Fld) (i x v : Nat) (s : State) (q r : Nat) : (wrx f i x v s).thread q r = s.thread q r := by simp [State.thread]
@[simp] theorem wrx_node (f : Fld) (i x v : Nat) (s : State) (q : Node) : (wrx f i x v s).node q = s.node q := by simp [State.node]
@[simp] theorem wrx_tmdTree (f : Fld) (i x v : Nat) (s : State) (q : Nat) : (wrx f i x v s).tmdTree q = s.tmdTree q := by simp [State.tmdTree]
@[simp] theorem wrx_tmuPort (f : Fld) (i x v : Nat) (s : State) (q : Nat) : (wrx f i x v s).tmuPort q = s.tmuPort q := by simp [State.tmuPort]
@[simp] theorem wrx_cph (f : Fld) (i x v : Nat) (s : State) (q : Nat) : (wrx f i x v s).cph q = s.cph q := by simp [State.cph]
@[simp] theorem wrx_crLane (f : Fld) (i x v : Nat) (s : State) (q : LaneId) : (wrx f i x v s).crLane q = s.crLane q := by simp [State.crLane]
@[simp] theorem wrx_pipe (f : Fld) (i x v : Nat) (s : State) (q : Nat) : (wrx f i x v s).pipe q = s.pipe q := by simp [State.pipe]
@[simp] theorem wrx_netPort (f : Fld) (i x v : Nat) (s : State) (q : Nat) : (wrx f i x v s).netPort q = s.netPort q := by simp [State.netPort]
@[simp] theorem wrx_island (f : Fld) (i x v : Nat) (s : State) (q : Nat) : (wrx f i x v s).island q = s.island q := by simp [State.island]
@[simp] theorem wrx_up (f : Fld) (i x v : Nat) (s : State) (q : Nat) : (wrx f i x v s).up q = s.up q := by simp [State.up]

@[simp] theorem wr_sess (f : Fld) (i v : Nat) (s : State) : (wr f i v s).sess = s.sess := (ev_wr f i v s).keeps .sess rfl
@[simp] theorem wr_pmu (f : Fld) (i v : Nat) (s : State) : (wr f i v s).pmu = s.pmu := (ev_wr f i v s).keeps .pmu rfl
@[simp] theorem wr_clk (f : Fld) (i v : Nat) (s : State) : (wr f i v s).clk = s.clk := (ev_wr f i v s).keeps .clk rfl
@[simp] theorem wr_ptp (f : Fld) (i v : Nat) (s : State) : (wr f i v s).ptp = s.ptp := (ev_wr f i v s).keeps .ptp rfl
@[simp] theorem wr_ptpFrac (f : Fld) (i v : Nat) (s : State) : (wr f i v s).ptpFrac = s.ptpFrac := (ev_wr f i v s).keeps .ptpFrac rfl
@[simp] theorem wr_freeCount (f : Fld) (i v : Nat) (s : State) : (wr f i v s).freeCount = s.freeCount := (ev_wr f i v s).keeps .freeCount rfl
@[simp] theorem wr_islands (f : Fld) (i v : Nat) (s : State) : (wr f i v s).islands = s.islands := (ev_wr f i v s).keeps .islands rfl
@[simp] theorem wr_wrapped (f : Fld) (i v : Nat) (s : State) : (wr f i v s).wrapped = s.wrapped := (ev_wr f i v s).keeps .wrapped rfl
@[simp] theorem wr_rst (f : Fld) (i v : Nat) (s : State) : (wr f i v s).rst = s.rst := (ev_wr f i v s).keeps .rst rfl
@[simp] theorem wr_cmd (f : Fld) (i v : Nat) (s : State) : (wr f i v s).cmd = s.cmd := (ev_wr f i v s).keeps .cmd rfl
@[simp] theorem wr_bpm (f : Fld) (i v : Nat) (s : State) : (wr f i v s).bpm = s.bpm := (ev_wr f i v s).keeps .bpm rfl
@[simp] theorem wr_lanes (f : Fld) (i v : Nat) (s : State) : (wr f i v s).lanes = s.lanes := (ev_wr f i v s).keeps .lanes rfl
@[simp] theorem wr_framing (f : Fld) (i v : Nat) (s : State) : (wr f i v s).framing = s.framing := (ev_wr f i v s).keeps .framing rfl
@[simp] theorem wr_pool (f : Fld) (i v : Nat) (s : State) : (wr f i v s).pool = s.pool := (ev_wr f i v s).keeps .pool rfl
@[simp] theorem wr_encoders (f : Fld) (i v : Nat) (s : State) : (wr f i v s).encoders = s.encoders := (ev_wr f i v s).keeps .encoders rfl
@[simp] theorem wr_act (f : Fld) (i v : Nat) (s : State) : (wr f i v s).act = s.act := (ev_wr f i v s).keeps .act rfl
@[simp] theorem wr_terms (f : Fld) (i v : Nat) (s : State) : (wr f i v s).terms = s.terms := (ev_wr f i v s).keeps .terms rfl
@[simp] theorem wr_grt (f : Fld) (i v : Nat) (s : State) : (wr f i v s).grt = s.grt := (ev_wr f i v s).keeps .grt rfl
@[simp] theorem wr_clusters (f : Fld) (i v : Nat) (s : State) : (wr f i v s).clusters = s.clusters := (ev_wr f i v s).keeps .clusters rfl
@[simp] theorem wr_threads (f : Fld) (i v : Nat) (s : State) : (wr f i v s).threads = s.threads := (ev_wr f i v s).keeps .threads rfl
@[simp] theorem wr_queues (f : Fld) (i v : Nat) (s : State) : (wr f i v s).queues = s.queues := (ev_wr f i v s).keeps .queues rfl
@[simp] theorem wr_crl (f : Fld) (i v : Nat) (s : State) : (wr f i v s).crl = s.crl := (ev_wr f i v s).keeps .crl rfl
@[simp] theorem wr_ohp (f : Fld) (i v : Nat) (s : State) : (wr f i v s).ohp = s.ohp := (ev_wr f i v s).keeps .ohp rfl
@[simp] theorem wr_cipher (f : Fld) (i v : Nat) (s : State) : (wr f i v s).cipher = s.cipher := (ev_wr f i v s).keeps .cipher rfl
@[simp] theorem wr_upSdus (f : Fld) (i v : Nat) (s : State) : (wr f i v s).upSdus = s.upSdus := (ev_wr f i v s).keeps .upSdus rfl
@[simp] theorem wr_txts (f : Fld) (i v : Nat) (s : State) : (wr f i v s).txts = s.txts := (ev_wr f i v s).keeps .txts rfl
@[simp] theorem wr_tim (f : Fld) (i v : Nat) (s : State) : (wr f i v s).tim = s.tim := (ev_wr f i v s).keeps .tim rfl
@[simp] theorem wr_cls (f : Fld) (i v : Nat) (s : State) : (wr f i v s).cls = s.cls := (ev_wr f i v s).keeps .cls rfl
@[simp] theorem wr_lpm (f : Fld) (i v : Nat) (s : State) : (wr f i v s).lpm = s.lpm := (ev_wr f i v s).keeps .lpm rfl
@[simp] theorem wr_merge (f : Fld) (i v : Nat) (s : State) : (wr f i v s).merge = s.merge := (ev_wr f i v s).keeps .merge rfl
@[simp] theorem wr_ports (f : Fld) (i v : Nat) (s : State) : (wr f i v s).ports = s.ports := (ev_wr f i v s).keeps .ports rfl
@[simp] theorem wr_pair (f : Fld) (i v : Nat) (s : State) : (wr f i v s).pair = s.pair := (ev_wr f i v s).keeps .pair rfl
@[simp] theorem wr_sys (f : Fld) (i v : Nat) (s : State) : (wr f i v s).sys = s.sys := (ev_wr f i v s).keeps .sys rfl
@[simp] theorem wr_nvm (f : Fld) (i v : Nat) (s : State) : (wr f i v s).nvm = s.nvm := (ev_wr f i v s).keeps .nvm rfl
@[simp] theorem wr_pending (f : Fld) (i v : Nat) (s : State) : (wr f i v s).pending = s.pending := (ev_wr f i v s).keeps .pending rfl
@[simp] theorem wr_lane (f : Fld) (i v : Nat) (s : State) (q : Nat) : (wr f i v s).lane q = s.lane q := by simp [State.lane]
@[simp] theorem wr_fram (f : Fld) (i v : Nat) (s : State) (q : Nat) : (wr f i v s).fram q = s.fram q := by simp [State.fram]
@[simp] theorem wr_session (f : Fld) (i v : Nat) (s : State) (q : Nat) : (wr f i v s).session q = s.session q := by simp [State.session]
@[simp] theorem wr_grant (f : Fld) (i v : Nat) (s : State) (q : Nat) : (wr f i v s).grant q = s.grant q := by simp [State.grant]
@[simp] theorem wr_actOf (f : Fld) (i v : Nat) (s : State) (q : Nat) : (wr f i v s).actOf q = s.actOf q := by simp [State.actOf]
@[simp] theorem wr_term (f : Fld) (i v : Nat) (s : State) (q r : Nat) : (wr f i v s).term q r = s.term q r := by simp [State.term]
@[simp] theorem wr_cluster (f : Fld) (i v : Nat) (s : State) (q : Nat) : (wr f i v s).cluster q = s.cluster q := by simp [State.cluster]
@[simp] theorem wr_thread (f : Fld) (i v : Nat) (s : State) (q r : Nat) : (wr f i v s).thread q r = s.thread q r := by simp [State.thread]
@[simp] theorem wr_node (f : Fld) (i v : Nat) (s : State) (q : Node) : (wr f i v s).node q = s.node q := by simp [State.node]
@[simp] theorem wr_tmdTree (f : Fld) (i v : Nat) (s : State) (q : Nat) : (wr f i v s).tmdTree q = s.tmdTree q := by simp [State.tmdTree]
@[simp] theorem wr_tmuPort (f : Fld) (i v : Nat) (s : State) (q : Nat) : (wr f i v s).tmuPort q = s.tmuPort q := by simp [State.tmuPort]
@[simp] theorem wr_cph (f : Fld) (i v : Nat) (s : State) (q : Nat) : (wr f i v s).cph q = s.cph q := by simp [State.cph]
@[simp] theorem wr_crLane (f : Fld) (i v : Nat) (s : State) (q : LaneId) : (wr f i v s).crLane q = s.crLane q := by simp [State.crLane]
@[simp] theorem wr_pipe (f : Fld) (i v : Nat) (s : State) (q : Nat) : (wr f i v s).pipe q = s.pipe q := by simp [State.pipe]
@[simp] theorem wr_netPort (f : Fld) (i v : Nat) (s : State) (q : Nat) : (wr f i v s).netPort q = s.netPort q := by simp [State.netPort]
@[simp] theorem wr_island (f : Fld) (i v : Nat) (s : State) (q : Nat) : (wr f i v s).island q = s.island q := by simp [State.island]
@[simp] theorem wr_up (f : Fld) (i v : Nat) (s : State) (q : Nat) : (wr f i v s).up q = s.up q := by simp [State.up]

@[simp] theorem wrWord_sess (sp : Sp) (i x w v : Nat) (s : State) : (wrWord sp i x w v s).sess = s.sess := (ev_wrWord sp i x w v s).keeps .sess rfl
@[simp] theorem wrWord_pmu (sp : Sp) (i x w v : Nat) (s : State) : (wrWord sp i x w v s).pmu = s.pmu := (ev_wrWord sp i x w v s).keeps .pmu rfl
@[simp] theorem wrWord_clk (sp : Sp) (i x w v : Nat) (s : State) : (wrWord sp i x w v s).clk = s.clk := (ev_wrWord sp i x w v s).keeps .clk rfl
@[simp] theorem wrWord_ptp (sp : Sp) (i x w v : Nat) (s : State) : (wrWord sp i x w v s).ptp = s.ptp := (ev_wrWord sp i x w v s).keeps .ptp rfl
@[simp] theorem wrWord_ptpFrac (sp : Sp) (i x w v : Nat) (s : State) : (wrWord sp i x w v s).ptpFrac = s.ptpFrac := (ev_wrWord sp i x w v s).keeps .ptpFrac rfl
@[simp] theorem wrWord_freeCount (sp : Sp) (i x w v : Nat) (s : State) : (wrWord sp i x w v s).freeCount = s.freeCount := (ev_wrWord sp i x w v s).keeps .freeCount rfl
@[simp] theorem wrWord_islands (sp : Sp) (i x w v : Nat) (s : State) : (wrWord sp i x w v s).islands = s.islands := (ev_wrWord sp i x w v s).keeps .islands rfl
@[simp] theorem wrWord_wrapped (sp : Sp) (i x w v : Nat) (s : State) : (wrWord sp i x w v s).wrapped = s.wrapped := (ev_wrWord sp i x w v s).keeps .wrapped rfl
@[simp] theorem wrWord_rst (sp : Sp) (i x w v : Nat) (s : State) : (wrWord sp i x w v s).rst = s.rst := (ev_wrWord sp i x w v s).keeps .rst rfl
@[simp] theorem wrWord_cmd (sp : Sp) (i x w v : Nat) (s : State) : (wrWord sp i x w v s).cmd = s.cmd := (ev_wrWord sp i x w v s).keeps .cmd rfl
@[simp] theorem wrWord_bpm (sp : Sp) (i x w v : Nat) (s : State) : (wrWord sp i x w v s).bpm = s.bpm := (ev_wrWord sp i x w v s).keeps .bpm rfl
@[simp] theorem wrWord_lanes (sp : Sp) (i x w v : Nat) (s : State) : (wrWord sp i x w v s).lanes = s.lanes := (ev_wrWord sp i x w v s).keeps .lanes rfl
@[simp] theorem wrWord_framing (sp : Sp) (i x w v : Nat) (s : State) : (wrWord sp i x w v s).framing = s.framing := (ev_wrWord sp i x w v s).keeps .framing rfl
@[simp] theorem wrWord_pool (sp : Sp) (i x w v : Nat) (s : State) : (wrWord sp i x w v s).pool = s.pool := (ev_wrWord sp i x w v s).keeps .pool rfl
@[simp] theorem wrWord_encoders (sp : Sp) (i x w v : Nat) (s : State) : (wrWord sp i x w v s).encoders = s.encoders := (ev_wrWord sp i x w v s).keeps .encoders rfl
@[simp] theorem wrWord_act (sp : Sp) (i x w v : Nat) (s : State) : (wrWord sp i x w v s).act = s.act := (ev_wrWord sp i x w v s).keeps .act rfl
@[simp] theorem wrWord_terms (sp : Sp) (i x w v : Nat) (s : State) : (wrWord sp i x w v s).terms = s.terms := (ev_wrWord sp i x w v s).keeps .terms rfl
@[simp] theorem wrWord_grt (sp : Sp) (i x w v : Nat) (s : State) : (wrWord sp i x w v s).grt = s.grt := (ev_wrWord sp i x w v s).keeps .grt rfl
@[simp] theorem wrWord_clusters (sp : Sp) (i x w v : Nat) (s : State) : (wrWord sp i x w v s).clusters = s.clusters := (ev_wrWord sp i x w v s).keeps .clusters rfl
@[simp] theorem wrWord_threads (sp : Sp) (i x w v : Nat) (s : State) : (wrWord sp i x w v s).threads = s.threads := (ev_wrWord sp i x w v s).keeps .threads rfl
@[simp] theorem wrWord_queues (sp : Sp) (i x w v : Nat) (s : State) : (wrWord sp i x w v s).queues = s.queues := (ev_wrWord sp i x w v s).keeps .queues rfl
@[simp] theorem wrWord_crl (sp : Sp) (i x w v : Nat) (s : State) : (wrWord sp i x w v s).crl = s.crl := (ev_wrWord sp i x w v s).keeps .crl rfl
@[simp] theorem wrWord_ohp (sp : Sp) (i x w v : Nat) (s : State) : (wrWord sp i x w v s).ohp = s.ohp := (ev_wrWord sp i x w v s).keeps .ohp rfl
@[simp] theorem wrWord_cipher (sp : Sp) (i x w v : Nat) (s : State) : (wrWord sp i x w v s).cipher = s.cipher := (ev_wrWord sp i x w v s).keeps .cipher rfl
@[simp] theorem wrWord_upSdus (sp : Sp) (i x w v : Nat) (s : State) : (wrWord sp i x w v s).upSdus = s.upSdus := (ev_wrWord sp i x w v s).keeps .upSdus rfl
@[simp] theorem wrWord_txts (sp : Sp) (i x w v : Nat) (s : State) : (wrWord sp i x w v s).txts = s.txts := (ev_wrWord sp i x w v s).keeps .txts rfl
@[simp] theorem wrWord_tim (sp : Sp) (i x w v : Nat) (s : State) : (wrWord sp i x w v s).tim = s.tim := (ev_wrWord sp i x w v s).keeps .tim rfl
@[simp] theorem wrWord_cls (sp : Sp) (i x w v : Nat) (s : State) : (wrWord sp i x w v s).cls = s.cls := (ev_wrWord sp i x w v s).keeps .cls rfl
@[simp] theorem wrWord_lpm (sp : Sp) (i x w v : Nat) (s : State) : (wrWord sp i x w v s).lpm = s.lpm := (ev_wrWord sp i x w v s).keeps .lpm rfl
@[simp] theorem wrWord_merge (sp : Sp) (i x w v : Nat) (s : State) : (wrWord sp i x w v s).merge = s.merge := (ev_wrWord sp i x w v s).keeps .merge rfl
@[simp] theorem wrWord_ports (sp : Sp) (i x w v : Nat) (s : State) : (wrWord sp i x w v s).ports = s.ports := (ev_wrWord sp i x w v s).keeps .ports rfl
@[simp] theorem wrWord_pair (sp : Sp) (i x w v : Nat) (s : State) : (wrWord sp i x w v s).pair = s.pair := (ev_wrWord sp i x w v s).keeps .pair rfl
@[simp] theorem wrWord_sys (sp : Sp) (i x w v : Nat) (s : State) : (wrWord sp i x w v s).sys = s.sys := (ev_wrWord sp i x w v s).keeps .sys rfl
@[simp] theorem wrWord_nvm (sp : Sp) (i x w v : Nat) (s : State) : (wrWord sp i x w v s).nvm = s.nvm := (ev_wrWord sp i x w v s).keeps .nvm rfl
@[simp] theorem wrWord_pending (sp : Sp) (i x w v : Nat) (s : State) : (wrWord sp i x w v s).pending = s.pending := (ev_wrWord sp i x w v s).keeps .pending rfl
@[simp] theorem wrWord_lane (sp : Sp) (i x w v : Nat) (s : State) (q : Nat) : (wrWord sp i x w v s).lane q = s.lane q := by simp [State.lane]
@[simp] theorem wrWord_fram (sp : Sp) (i x w v : Nat) (s : State) (q : Nat) : (wrWord sp i x w v s).fram q = s.fram q := by simp [State.fram]
@[simp] theorem wrWord_session (sp : Sp) (i x w v : Nat) (s : State) (q : Nat) : (wrWord sp i x w v s).session q = s.session q := by simp [State.session]
@[simp] theorem wrWord_grant (sp : Sp) (i x w v : Nat) (s : State) (q : Nat) : (wrWord sp i x w v s).grant q = s.grant q := by simp [State.grant]
@[simp] theorem wrWord_actOf (sp : Sp) (i x w v : Nat) (s : State) (q : Nat) : (wrWord sp i x w v s).actOf q = s.actOf q := by simp [State.actOf]
@[simp] theorem wrWord_term (sp : Sp) (i x w v : Nat) (s : State) (q r : Nat) : (wrWord sp i x w v s).term q r = s.term q r := by simp [State.term]
@[simp] theorem wrWord_cluster (sp : Sp) (i x w v : Nat) (s : State) (q : Nat) : (wrWord sp i x w v s).cluster q = s.cluster q := by simp [State.cluster]
@[simp] theorem wrWord_thread (sp : Sp) (i x w v : Nat) (s : State) (q r : Nat) : (wrWord sp i x w v s).thread q r = s.thread q r := by simp [State.thread]
@[simp] theorem wrWord_node (sp : Sp) (i x w v : Nat) (s : State) (q : Node) : (wrWord sp i x w v s).node q = s.node q := by simp [State.node]
@[simp] theorem wrWord_tmdTree (sp : Sp) (i x w v : Nat) (s : State) (q : Nat) : (wrWord sp i x w v s).tmdTree q = s.tmdTree q := by simp [State.tmdTree]
@[simp] theorem wrWord_tmuPort (sp : Sp) (i x w v : Nat) (s : State) (q : Nat) : (wrWord sp i x w v s).tmuPort q = s.tmuPort q := by simp [State.tmuPort]
@[simp] theorem wrWord_cph (sp : Sp) (i x w v : Nat) (s : State) (q : Nat) : (wrWord sp i x w v s).cph q = s.cph q := by simp [State.cph]
@[simp] theorem wrWord_crLane (sp : Sp) (i x w v : Nat) (s : State) (q : LaneId) : (wrWord sp i x w v s).crLane q = s.crLane q := by simp [State.crLane]
@[simp] theorem wrWord_pipe (sp : Sp) (i x w v : Nat) (s : State) (q : Nat) : (wrWord sp i x w v s).pipe q = s.pipe q := by simp [State.pipe]
@[simp] theorem wrWord_netPort (sp : Sp) (i x w v : Nat) (s : State) (q : Nat) : (wrWord sp i x w v s).netPort q = s.netPort q := by simp [State.netPort]
@[simp] theorem wrWord_island (sp : Sp) (i x w v : Nat) (s : State) (q : Nat) : (wrWord sp i x w v s).island q = s.island q := by simp [State.island]
@[simp] theorem wrWord_up (sp : Sp) (i x w v : Nat) (s : State) (q : Nat) : (wrWord sp i x w v s).up q = s.up q := by simp [State.up]

@[simp] theorem bump_sess (f : Fld) (i : Nat) (s : State) : (bump f i s).sess = s.sess := (ev_bump f i s).keeps .sess rfl
@[simp] theorem bump_clk (f : Fld) (i : Nat) (s : State) : (bump f i s).clk = s.clk := (ev_bump f i s).keeps .clk rfl
@[simp] theorem bump_ptp (f : Fld) (i : Nat) (s : State) : (bump f i s).ptp = s.ptp := (ev_bump f i s).keeps .ptp rfl
@[simp] theorem bump_ptpFrac (f : Fld) (i : Nat) (s : State) : (bump f i s).ptpFrac = s.ptpFrac := (ev_bump f i s).keeps .ptpFrac rfl
@[simp] theorem bump_freeCount (f : Fld) (i : Nat) (s : State) : (bump f i s).freeCount = s.freeCount := (ev_bump f i s).keeps .freeCount rfl
@[simp] theorem bump_islands (f : Fld) (i : Nat) (s : State) : (bump f i s).islands = s.islands := (ev_bump f i s).keeps .islands rfl
@[simp] theorem bump_wrapped (f : Fld) (i : Nat) (s : State) : (bump f i s).wrapped = s.wrapped := (ev_bump f i s).keeps .wrapped rfl
@[simp] theorem bump_rst (f : Fld) (i : Nat) (s : State) : (bump f i s).rst = s.rst := (ev_bump f i s).keeps .rst rfl
@[simp] theorem bump_cmd (f : Fld) (i : Nat) (s : State) : (bump f i s).cmd = s.cmd := (ev_bump f i s).keeps .cmd rfl
@[simp] theorem bump_bpm (f : Fld) (i : Nat) (s : State) : (bump f i s).bpm = s.bpm := (ev_bump f i s).keeps .bpm rfl
@[simp] theorem bump_lanes (f : Fld) (i : Nat) (s : State) : (bump f i s).lanes = s.lanes := (ev_bump f i s).keeps .lanes rfl
@[simp] theorem bump_framing (f : Fld) (i : Nat) (s : State) : (bump f i s).framing = s.framing := (ev_bump f i s).keeps .framing rfl
@[simp] theorem bump_pool (f : Fld) (i : Nat) (s : State) : (bump f i s).pool = s.pool := (ev_bump f i s).keeps .pool rfl
@[simp] theorem bump_encoders (f : Fld) (i : Nat) (s : State) : (bump f i s).encoders = s.encoders := (ev_bump f i s).keeps .encoders rfl
@[simp] theorem bump_act (f : Fld) (i : Nat) (s : State) : (bump f i s).act = s.act := (ev_bump f i s).keeps .act rfl
@[simp] theorem bump_terms (f : Fld) (i : Nat) (s : State) : (bump f i s).terms = s.terms := (ev_bump f i s).keeps .terms rfl
@[simp] theorem bump_grt (f : Fld) (i : Nat) (s : State) : (bump f i s).grt = s.grt := (ev_bump f i s).keeps .grt rfl
@[simp] theorem bump_clusters (f : Fld) (i : Nat) (s : State) : (bump f i s).clusters = s.clusters := (ev_bump f i s).keeps .clusters rfl
@[simp] theorem bump_threads (f : Fld) (i : Nat) (s : State) : (bump f i s).threads = s.threads := (ev_bump f i s).keeps .threads rfl
@[simp] theorem bump_queues (f : Fld) (i : Nat) (s : State) : (bump f i s).queues = s.queues := (ev_bump f i s).keeps .queues rfl
@[simp] theorem bump_crl (f : Fld) (i : Nat) (s : State) : (bump f i s).crl = s.crl := (ev_bump f i s).keeps .crl rfl
@[simp] theorem bump_ohp (f : Fld) (i : Nat) (s : State) : (bump f i s).ohp = s.ohp := (ev_bump f i s).keeps .ohp rfl
@[simp] theorem bump_cipher (f : Fld) (i : Nat) (s : State) : (bump f i s).cipher = s.cipher := (ev_bump f i s).keeps .cipher rfl
@[simp] theorem bump_upSdus (f : Fld) (i : Nat) (s : State) : (bump f i s).upSdus = s.upSdus := (ev_bump f i s).keeps .upSdus rfl
@[simp] theorem bump_txts (f : Fld) (i : Nat) (s : State) : (bump f i s).txts = s.txts := (ev_bump f i s).keeps .txts rfl
@[simp] theorem bump_tim (f : Fld) (i : Nat) (s : State) : (bump f i s).tim = s.tim := (ev_bump f i s).keeps .tim rfl
@[simp] theorem bump_cls (f : Fld) (i : Nat) (s : State) : (bump f i s).cls = s.cls := (ev_bump f i s).keeps .cls rfl
@[simp] theorem bump_lpm (f : Fld) (i : Nat) (s : State) : (bump f i s).lpm = s.lpm := (ev_bump f i s).keeps .lpm rfl
@[simp] theorem bump_merge (f : Fld) (i : Nat) (s : State) : (bump f i s).merge = s.merge := (ev_bump f i s).keeps .merge rfl
@[simp] theorem bump_ports (f : Fld) (i : Nat) (s : State) : (bump f i s).ports = s.ports := (ev_bump f i s).keeps .ports rfl
@[simp] theorem bump_pair (f : Fld) (i : Nat) (s : State) : (bump f i s).pair = s.pair := (ev_bump f i s).keeps .pair rfl
@[simp] theorem bump_sys (f : Fld) (i : Nat) (s : State) : (bump f i s).sys = s.sys := (ev_bump f i s).keeps .sys rfl
@[simp] theorem bump_nvm (f : Fld) (i : Nat) (s : State) : (bump f i s).nvm = s.nvm := (ev_bump f i s).keeps .nvm rfl
@[simp] theorem bump_pending (f : Fld) (i : Nat) (s : State) : (bump f i s).pending = s.pending := (ev_bump f i s).keeps .pending rfl
@[simp] theorem bump_lane (f : Fld) (i : Nat) (s : State) (q : Nat) : (bump f i s).lane q = s.lane q := by simp [State.lane]
@[simp] theorem bump_fram (f : Fld) (i : Nat) (s : State) (q : Nat) : (bump f i s).fram q = s.fram q := by simp [State.fram]
@[simp] theorem bump_session (f : Fld) (i : Nat) (s : State) (q : Nat) : (bump f i s).session q = s.session q := by simp [State.session]
@[simp] theorem bump_grant (f : Fld) (i : Nat) (s : State) (q : Nat) : (bump f i s).grant q = s.grant q := by simp [State.grant]
@[simp] theorem bump_actOf (f : Fld) (i : Nat) (s : State) (q : Nat) : (bump f i s).actOf q = s.actOf q := by simp [State.actOf]
@[simp] theorem bump_term (f : Fld) (i : Nat) (s : State) (q r : Nat) : (bump f i s).term q r = s.term q r := by simp [State.term]
@[simp] theorem bump_cluster (f : Fld) (i : Nat) (s : State) (q : Nat) : (bump f i s).cluster q = s.cluster q := by simp [State.cluster]
@[simp] theorem bump_thread (f : Fld) (i : Nat) (s : State) (q r : Nat) : (bump f i s).thread q r = s.thread q r := by simp [State.thread]
@[simp] theorem bump_node (f : Fld) (i : Nat) (s : State) (q : Node) : (bump f i s).node q = s.node q := by simp [State.node]
@[simp] theorem bump_tmdTree (f : Fld) (i : Nat) (s : State) (q : Nat) : (bump f i s).tmdTree q = s.tmdTree q := by simp [State.tmdTree]
@[simp] theorem bump_tmuPort (f : Fld) (i : Nat) (s : State) (q : Nat) : (bump f i s).tmuPort q = s.tmuPort q := by simp [State.tmuPort]
@[simp] theorem bump_cph (f : Fld) (i : Nat) (s : State) (q : Nat) : (bump f i s).cph q = s.cph q := by simp [State.cph]
@[simp] theorem bump_crLane (f : Fld) (i : Nat) (s : State) (q : LaneId) : (bump f i s).crLane q = s.crLane q := by simp [State.crLane]
@[simp] theorem bump_pipe (f : Fld) (i : Nat) (s : State) (q : Nat) : (bump f i s).pipe q = s.pipe q := by simp [State.pipe]
@[simp] theorem bump_netPort (f : Fld) (i : Nat) (s : State) (q : Nat) : (bump f i s).netPort q = s.netPort q := by simp [State.netPort]
@[simp] theorem bump_island (f : Fld) (i : Nat) (s : State) (q : Nat) : (bump f i s).island q = s.island q := by simp [State.island]
@[simp] theorem bump_up (f : Fld) (i : Nat) (s : State) (q : Nat) : (bump f i s).up q = s.up q := by simp [State.up]

@[simp] theorem bumpBy_sess (f : Fld) (i n : Nat) (s : State) : (bumpBy f i n s).sess = s.sess := (ev_bumpBy f i n s).keeps .sess rfl
@[simp] theorem bumpBy_clk (f : Fld) (i n : Nat) (s : State) : (bumpBy f i n s).clk = s.clk := (ev_bumpBy f i n s).keeps .clk rfl
@[simp] theorem bumpBy_ptp (f : Fld) (i n : Nat) (s : State) : (bumpBy f i n s).ptp = s.ptp := (ev_bumpBy f i n s).keeps .ptp rfl
@[simp] theorem bumpBy_ptpFrac (f : Fld) (i n : Nat) (s : State) : (bumpBy f i n s).ptpFrac = s.ptpFrac := (ev_bumpBy f i n s).keeps .ptpFrac rfl
@[simp] theorem bumpBy_freeCount (f : Fld) (i n : Nat) (s : State) : (bumpBy f i n s).freeCount = s.freeCount := (ev_bumpBy f i n s).keeps .freeCount rfl
@[simp] theorem bumpBy_islands (f : Fld) (i n : Nat) (s : State) : (bumpBy f i n s).islands = s.islands := (ev_bumpBy f i n s).keeps .islands rfl
@[simp] theorem bumpBy_wrapped (f : Fld) (i n : Nat) (s : State) : (bumpBy f i n s).wrapped = s.wrapped := (ev_bumpBy f i n s).keeps .wrapped rfl
@[simp] theorem bumpBy_rst (f : Fld) (i n : Nat) (s : State) : (bumpBy f i n s).rst = s.rst := (ev_bumpBy f i n s).keeps .rst rfl
@[simp] theorem bumpBy_cmd (f : Fld) (i n : Nat) (s : State) : (bumpBy f i n s).cmd = s.cmd := (ev_bumpBy f i n s).keeps .cmd rfl
@[simp] theorem bumpBy_bpm (f : Fld) (i n : Nat) (s : State) : (bumpBy f i n s).bpm = s.bpm := (ev_bumpBy f i n s).keeps .bpm rfl
@[simp] theorem bumpBy_lanes (f : Fld) (i n : Nat) (s : State) : (bumpBy f i n s).lanes = s.lanes := (ev_bumpBy f i n s).keeps .lanes rfl
@[simp] theorem bumpBy_framing (f : Fld) (i n : Nat) (s : State) : (bumpBy f i n s).framing = s.framing := (ev_bumpBy f i n s).keeps .framing rfl
@[simp] theorem bumpBy_pool (f : Fld) (i n : Nat) (s : State) : (bumpBy f i n s).pool = s.pool := (ev_bumpBy f i n s).keeps .pool rfl
@[simp] theorem bumpBy_encoders (f : Fld) (i n : Nat) (s : State) : (bumpBy f i n s).encoders = s.encoders := (ev_bumpBy f i n s).keeps .encoders rfl
@[simp] theorem bumpBy_act (f : Fld) (i n : Nat) (s : State) : (bumpBy f i n s).act = s.act := (ev_bumpBy f i n s).keeps .act rfl
@[simp] theorem bumpBy_terms (f : Fld) (i n : Nat) (s : State) : (bumpBy f i n s).terms = s.terms := (ev_bumpBy f i n s).keeps .terms rfl
@[simp] theorem bumpBy_grt (f : Fld) (i n : Nat) (s : State) : (bumpBy f i n s).grt = s.grt := (ev_bumpBy f i n s).keeps .grt rfl
@[simp] theorem bumpBy_clusters (f : Fld) (i n : Nat) (s : State) : (bumpBy f i n s).clusters = s.clusters := (ev_bumpBy f i n s).keeps .clusters rfl
@[simp] theorem bumpBy_threads (f : Fld) (i n : Nat) (s : State) : (bumpBy f i n s).threads = s.threads := (ev_bumpBy f i n s).keeps .threads rfl
@[simp] theorem bumpBy_queues (f : Fld) (i n : Nat) (s : State) : (bumpBy f i n s).queues = s.queues := (ev_bumpBy f i n s).keeps .queues rfl
@[simp] theorem bumpBy_crl (f : Fld) (i n : Nat) (s : State) : (bumpBy f i n s).crl = s.crl := (ev_bumpBy f i n s).keeps .crl rfl
@[simp] theorem bumpBy_ohp (f : Fld) (i n : Nat) (s : State) : (bumpBy f i n s).ohp = s.ohp := (ev_bumpBy f i n s).keeps .ohp rfl
@[simp] theorem bumpBy_cipher (f : Fld) (i n : Nat) (s : State) : (bumpBy f i n s).cipher = s.cipher := (ev_bumpBy f i n s).keeps .cipher rfl
@[simp] theorem bumpBy_upSdus (f : Fld) (i n : Nat) (s : State) : (bumpBy f i n s).upSdus = s.upSdus := (ev_bumpBy f i n s).keeps .upSdus rfl
@[simp] theorem bumpBy_txts (f : Fld) (i n : Nat) (s : State) : (bumpBy f i n s).txts = s.txts := (ev_bumpBy f i n s).keeps .txts rfl
@[simp] theorem bumpBy_tim (f : Fld) (i n : Nat) (s : State) : (bumpBy f i n s).tim = s.tim := (ev_bumpBy f i n s).keeps .tim rfl
@[simp] theorem bumpBy_cls (f : Fld) (i n : Nat) (s : State) : (bumpBy f i n s).cls = s.cls := (ev_bumpBy f i n s).keeps .cls rfl
@[simp] theorem bumpBy_lpm (f : Fld) (i n : Nat) (s : State) : (bumpBy f i n s).lpm = s.lpm := (ev_bumpBy f i n s).keeps .lpm rfl
@[simp] theorem bumpBy_merge (f : Fld) (i n : Nat) (s : State) : (bumpBy f i n s).merge = s.merge := (ev_bumpBy f i n s).keeps .merge rfl
@[simp] theorem bumpBy_ports (f : Fld) (i n : Nat) (s : State) : (bumpBy f i n s).ports = s.ports := (ev_bumpBy f i n s).keeps .ports rfl
@[simp] theorem bumpBy_pair (f : Fld) (i n : Nat) (s : State) : (bumpBy f i n s).pair = s.pair := (ev_bumpBy f i n s).keeps .pair rfl
@[simp] theorem bumpBy_sys (f : Fld) (i n : Nat) (s : State) : (bumpBy f i n s).sys = s.sys := (ev_bumpBy f i n s).keeps .sys rfl
@[simp] theorem bumpBy_nvm (f : Fld) (i n : Nat) (s : State) : (bumpBy f i n s).nvm = s.nvm := (ev_bumpBy f i n s).keeps .nvm rfl
@[simp] theorem bumpBy_pending (f : Fld) (i n : Nat) (s : State) : (bumpBy f i n s).pending = s.pending := (ev_bumpBy f i n s).keeps .pending rfl
@[simp] theorem bumpBy_lane (f : Fld) (i n : Nat) (s : State) (q : Nat) : (bumpBy f i n s).lane q = s.lane q := by simp [State.lane]
@[simp] theorem bumpBy_fram (f : Fld) (i n : Nat) (s : State) (q : Nat) : (bumpBy f i n s).fram q = s.fram q := by simp [State.fram]
@[simp] theorem bumpBy_session (f : Fld) (i n : Nat) (s : State) (q : Nat) : (bumpBy f i n s).session q = s.session q := by simp [State.session]
@[simp] theorem bumpBy_grant (f : Fld) (i n : Nat) (s : State) (q : Nat) : (bumpBy f i n s).grant q = s.grant q := by simp [State.grant]
@[simp] theorem bumpBy_actOf (f : Fld) (i n : Nat) (s : State) (q : Nat) : (bumpBy f i n s).actOf q = s.actOf q := by simp [State.actOf]
@[simp] theorem bumpBy_term (f : Fld) (i n : Nat) (s : State) (q r : Nat) : (bumpBy f i n s).term q r = s.term q r := by simp [State.term]
@[simp] theorem bumpBy_cluster (f : Fld) (i n : Nat) (s : State) (q : Nat) : (bumpBy f i n s).cluster q = s.cluster q := by simp [State.cluster]
@[simp] theorem bumpBy_thread (f : Fld) (i n : Nat) (s : State) (q r : Nat) : (bumpBy f i n s).thread q r = s.thread q r := by simp [State.thread]
@[simp] theorem bumpBy_node (f : Fld) (i n : Nat) (s : State) (q : Node) : (bumpBy f i n s).node q = s.node q := by simp [State.node]
@[simp] theorem bumpBy_tmdTree (f : Fld) (i n : Nat) (s : State) (q : Nat) : (bumpBy f i n s).tmdTree q = s.tmdTree q := by simp [State.tmdTree]
@[simp] theorem bumpBy_tmuPort (f : Fld) (i n : Nat) (s : State) (q : Nat) : (bumpBy f i n s).tmuPort q = s.tmuPort q := by simp [State.tmuPort]
@[simp] theorem bumpBy_cph (f : Fld) (i n : Nat) (s : State) (q : Nat) : (bumpBy f i n s).cph q = s.cph q := by simp [State.cph]
@[simp] theorem bumpBy_crLane (f : Fld) (i n : Nat) (s : State) (q : LaneId) : (bumpBy f i n s).crLane q = s.crLane q := by simp [State.crLane]
@[simp] theorem bumpBy_pipe (f : Fld) (i n : Nat) (s : State) (q : Nat) : (bumpBy f i n s).pipe q = s.pipe q := by simp [State.pipe]
@[simp] theorem bumpBy_netPort (f : Fld) (i n : Nat) (s : State) (q : Nat) : (bumpBy f i n s).netPort q = s.netPort q := by simp [State.netPort]
@[simp] theorem bumpBy_island (f : Fld) (i n : Nat) (s : State) (q : Nat) : (bumpBy f i n s).island q = s.island q := by simp [State.island]
@[simp] theorem bumpBy_up (f : Fld) (i n : Nat) (s : State) (q : Nat) : (bumpBy f i n s).up q = s.up q := by simp [State.up]

@[simp] theorem bumpx_sess (f : Fld) (i x : Nat) (s : State) : (bumpx f i x s).sess = s.sess := (ev_bumpx f i x s).keeps .sess rfl
@[simp] theorem bumpx_pmu (f : Fld) (i x : Nat) (s : State) : (bumpx f i x s).pmu = s.pmu := (ev_bumpx f i x s).keeps .pmu rfl
@[simp] theorem bumpx_clk (f : Fld) (i x : Nat) (s : State) : (bumpx f i x s).clk = s.clk := (ev_bumpx f i x s).keeps .clk rfl
@[simp] theorem bumpx_ptp (f : Fld) (i x : Nat) (s : State) : (bumpx f i x s).ptp = s.ptp := (ev_bumpx f i x s).keeps .ptp rfl
@[simp] theorem bumpx_ptpFrac (f : Fld) (i x : Nat) (s : State) : (bumpx f i x s).ptpFrac = s.ptpFrac := (ev_bumpx f i x s).keeps .ptpFrac rfl
@[simp] theorem bumpx_freeCount (f : Fld) (i x : Nat) (s : State) : (bumpx f i x s).freeCount = s.freeCount := (ev_bumpx f i x s).keeps .freeCount rfl
@[simp] theorem bumpx_islands (f : Fld) (i x : Nat) (s : State) : (bumpx f i x s).islands = s.islands := (ev_bumpx f i x s).keeps .islands rfl
@[simp] theorem bumpx_wrapped (f : Fld) (i x : Nat) (s : State) : (bumpx f i x s).wrapped = s.wrapped := (ev_bumpx f i x s).keeps .wrapped rfl
@[simp] theorem bumpx_rst (f : Fld) (i x : Nat) (s : State) : (bumpx f i x s).rst = s.rst := (ev_bumpx f i x s).keeps .rst rfl
@[simp] theorem bumpx_cmd (f : Fld) (i x : Nat) (s : State) : (bumpx f i x s).cmd = s.cmd := (ev_bumpx f i x s).keeps .cmd rfl
@[simp] theorem bumpx_bpm (f : Fld) (i x : Nat) (s : State) : (bumpx f i x s).bpm = s.bpm := (ev_bumpx f i x s).keeps .bpm rfl
@[simp] theorem bumpx_lanes (f : Fld) (i x : Nat) (s : State) : (bumpx f i x s).lanes = s.lanes := (ev_bumpx f i x s).keeps .lanes rfl
@[simp] theorem bumpx_framing (f : Fld) (i x : Nat) (s : State) : (bumpx f i x s).framing = s.framing := (ev_bumpx f i x s).keeps .framing rfl
@[simp] theorem bumpx_pool (f : Fld) (i x : Nat) (s : State) : (bumpx f i x s).pool = s.pool := (ev_bumpx f i x s).keeps .pool rfl
@[simp] theorem bumpx_encoders (f : Fld) (i x : Nat) (s : State) : (bumpx f i x s).encoders = s.encoders := (ev_bumpx f i x s).keeps .encoders rfl
@[simp] theorem bumpx_act (f : Fld) (i x : Nat) (s : State) : (bumpx f i x s).act = s.act := (ev_bumpx f i x s).keeps .act rfl
@[simp] theorem bumpx_terms (f : Fld) (i x : Nat) (s : State) : (bumpx f i x s).terms = s.terms := (ev_bumpx f i x s).keeps .terms rfl
@[simp] theorem bumpx_grt (f : Fld) (i x : Nat) (s : State) : (bumpx f i x s).grt = s.grt := (ev_bumpx f i x s).keeps .grt rfl
@[simp] theorem bumpx_clusters (f : Fld) (i x : Nat) (s : State) : (bumpx f i x s).clusters = s.clusters := (ev_bumpx f i x s).keeps .clusters rfl
@[simp] theorem bumpx_threads (f : Fld) (i x : Nat) (s : State) : (bumpx f i x s).threads = s.threads := (ev_bumpx f i x s).keeps .threads rfl
@[simp] theorem bumpx_queues (f : Fld) (i x : Nat) (s : State) : (bumpx f i x s).queues = s.queues := (ev_bumpx f i x s).keeps .queues rfl
@[simp] theorem bumpx_crl (f : Fld) (i x : Nat) (s : State) : (bumpx f i x s).crl = s.crl := (ev_bumpx f i x s).keeps .crl rfl
@[simp] theorem bumpx_ohp (f : Fld) (i x : Nat) (s : State) : (bumpx f i x s).ohp = s.ohp := (ev_bumpx f i x s).keeps .ohp rfl
@[simp] theorem bumpx_cipher (f : Fld) (i x : Nat) (s : State) : (bumpx f i x s).cipher = s.cipher := (ev_bumpx f i x s).keeps .cipher rfl
@[simp] theorem bumpx_upSdus (f : Fld) (i x : Nat) (s : State) : (bumpx f i x s).upSdus = s.upSdus := (ev_bumpx f i x s).keeps .upSdus rfl
@[simp] theorem bumpx_txts (f : Fld) (i x : Nat) (s : State) : (bumpx f i x s).txts = s.txts := (ev_bumpx f i x s).keeps .txts rfl
@[simp] theorem bumpx_tim (f : Fld) (i x : Nat) (s : State) : (bumpx f i x s).tim = s.tim := (ev_bumpx f i x s).keeps .tim rfl
@[simp] theorem bumpx_cls (f : Fld) (i x : Nat) (s : State) : (bumpx f i x s).cls = s.cls := (ev_bumpx f i x s).keeps .cls rfl
@[simp] theorem bumpx_lpm (f : Fld) (i x : Nat) (s : State) : (bumpx f i x s).lpm = s.lpm := (ev_bumpx f i x s).keeps .lpm rfl
@[simp] theorem bumpx_merge (f : Fld) (i x : Nat) (s : State) : (bumpx f i x s).merge = s.merge := (ev_bumpx f i x s).keeps .merge rfl
@[simp] theorem bumpx_ports (f : Fld) (i x : Nat) (s : State) : (bumpx f i x s).ports = s.ports := (ev_bumpx f i x s).keeps .ports rfl
@[simp] theorem bumpx_pair (f : Fld) (i x : Nat) (s : State) : (bumpx f i x s).pair = s.pair := (ev_bumpx f i x s).keeps .pair rfl
@[simp] theorem bumpx_sys (f : Fld) (i x : Nat) (s : State) : (bumpx f i x s).sys = s.sys := (ev_bumpx f i x s).keeps .sys rfl
@[simp] theorem bumpx_nvm (f : Fld) (i x : Nat) (s : State) : (bumpx f i x s).nvm = s.nvm := (ev_bumpx f i x s).keeps .nvm rfl
@[simp] theorem bumpx_pending (f : Fld) (i x : Nat) (s : State) : (bumpx f i x s).pending = s.pending := (ev_bumpx f i x s).keeps .pending rfl
@[simp] theorem bumpx_lane (f : Fld) (i x : Nat) (s : State) (q : Nat) : (bumpx f i x s).lane q = s.lane q := by simp [State.lane]
@[simp] theorem bumpx_fram (f : Fld) (i x : Nat) (s : State) (q : Nat) : (bumpx f i x s).fram q = s.fram q := by simp [State.fram]
@[simp] theorem bumpx_session (f : Fld) (i x : Nat) (s : State) (q : Nat) : (bumpx f i x s).session q = s.session q := by simp [State.session]
@[simp] theorem bumpx_grant (f : Fld) (i x : Nat) (s : State) (q : Nat) : (bumpx f i x s).grant q = s.grant q := by simp [State.grant]
@[simp] theorem bumpx_actOf (f : Fld) (i x : Nat) (s : State) (q : Nat) : (bumpx f i x s).actOf q = s.actOf q := by simp [State.actOf]
@[simp] theorem bumpx_term (f : Fld) (i x : Nat) (s : State) (q r : Nat) : (bumpx f i x s).term q r = s.term q r := by simp [State.term]
@[simp] theorem bumpx_cluster (f : Fld) (i x : Nat) (s : State) (q : Nat) : (bumpx f i x s).cluster q = s.cluster q := by simp [State.cluster]
@[simp] theorem bumpx_thread (f : Fld) (i x : Nat) (s : State) (q r : Nat) : (bumpx f i x s).thread q r = s.thread q r := by simp [State.thread]
@[simp] theorem bumpx_node (f : Fld) (i x : Nat) (s : State) (q : Node) : (bumpx f i x s).node q = s.node q := by simp [State.node]
@[simp] theorem bumpx_tmdTree (f : Fld) (i x : Nat) (s : State) (q : Nat) : (bumpx f i x s).tmdTree q = s.tmdTree q := by simp [State.tmdTree]
@[simp] theorem bumpx_tmuPort (f : Fld) (i x : Nat) (s : State) (q : Nat) : (bumpx f i x s).tmuPort q = s.tmuPort q := by simp [State.tmuPort]
@[simp] theorem bumpx_cph (f : Fld) (i x : Nat) (s : State) (q : Nat) : (bumpx f i x s).cph q = s.cph q := by simp [State.cph]
@[simp] theorem bumpx_crLane (f : Fld) (i x : Nat) (s : State) (q : LaneId) : (bumpx f i x s).crLane q = s.crLane q := by simp [State.crLane]
@[simp] theorem bumpx_pipe (f : Fld) (i x : Nat) (s : State) (q : Nat) : (bumpx f i x s).pipe q = s.pipe q := by simp [State.pipe]
@[simp] theorem bumpx_netPort (f : Fld) (i x : Nat) (s : State) (q : Nat) : (bumpx f i x s).netPort q = s.netPort q := by simp [State.netPort]
@[simp] theorem bumpx_island (f : Fld) (i x : Nat) (s : State) (q : Nat) : (bumpx f i x s).island q = s.island q := by simp [State.island]
@[simp] theorem bumpx_up (f : Fld) (i x : Nat) (s : State) (q : Nat) : (bumpx f i x s).up q = s.up q := by simp [State.up]

@[simp] theorem raise_clk (a b : Nat) (d : List Nat) (s : State) : (raise a b d s).clk = s.clk := (ev_raise a b d s).keeps .clk rfl
@[simp] theorem raise_ptp (a b : Nat) (d : List Nat) (s : State) : (raise a b d s).ptp = s.ptp := (ev_raise a b d s).keeps .ptp rfl
@[simp] theorem raise_ptpFrac (a b : Nat) (d : List Nat) (s : State) : (raise a b d s).ptpFrac = s.ptpFrac := (ev_raise a b d s).keeps .ptpFrac rfl
@[simp] theorem raise_freeCount (a b : Nat) (d : List Nat) (s : State) : (raise a b d s).freeCount = s.freeCount := (ev_raise a b d s).keeps .freeCount rfl
@[simp] theorem raise_islands (a b : Nat) (d : List Nat) (s : State) : (raise a b d s).islands = s.islands := (ev_raise a b d s).keeps .islands rfl
@[simp] theorem raise_sess (a b : Nat) (d : List Nat) (s : State) : (raise a b d s).sess = s.sess := (ev_raise a b d s).keeps .sess rfl
@[simp] theorem raise_rst (a b : Nat) (d : List Nat) (s : State) : (raise a b d s).rst = s.rst := (ev_raise a b d s).keeps .rst rfl
@[simp] theorem raise_cmd (a b : Nat) (d : List Nat) (s : State) : (raise a b d s).cmd = s.cmd := (ev_raise a b d s).keeps .cmd rfl
@[simp] theorem raise_bpm (a b : Nat) (d : List Nat) (s : State) : (raise a b d s).bpm = s.bpm := (ev_raise a b d s).keeps .bpm rfl
@[simp] theorem raise_lanes (a b : Nat) (d : List Nat) (s : State) : (raise a b d s).lanes = s.lanes := (ev_raise a b d s).keeps .lanes rfl
@[simp] theorem raise_framing (a b : Nat) (d : List Nat) (s : State) : (raise a b d s).framing = s.framing := (ev_raise a b d s).keeps .framing rfl
@[simp] theorem raise_pool (a b : Nat) (d : List Nat) (s : State) : (raise a b d s).pool = s.pool := (ev_raise a b d s).keeps .pool rfl
@[simp] theorem raise_encoders (a b : Nat) (d : List Nat) (s : State) : (raise a b d s).encoders = s.encoders := (ev_raise a b d s).keeps .encoders rfl
@[simp] theorem raise_act (a b : Nat) (d : List Nat) (s : State) : (raise a b d s).act = s.act := (ev_raise a b d s).keeps .act rfl
@[simp] theorem raise_terms (a b : Nat) (d : List Nat) (s : State) : (raise a b d s).terms = s.terms := (ev_raise a b d s).keeps .terms rfl
@[simp] theorem raise_grt (a b : Nat) (d : List Nat) (s : State) : (raise a b d s).grt = s.grt := (ev_raise a b d s).keeps .grt rfl
@[simp] theorem raise_clusters (a b : Nat) (d : List Nat) (s : State) : (raise a b d s).clusters = s.clusters := (ev_raise a b d s).keeps .clusters rfl
@[simp] theorem raise_threads (a b : Nat) (d : List Nat) (s : State) : (raise a b d s).threads = s.threads := (ev_raise a b d s).keeps .threads rfl
@[simp] theorem raise_queues (a b : Nat) (d : List Nat) (s : State) : (raise a b d s).queues = s.queues := (ev_raise a b d s).keeps .queues rfl
@[simp] theorem raise_crl (a b : Nat) (d : List Nat) (s : State) : (raise a b d s).crl = s.crl := (ev_raise a b d s).keeps .crl rfl
@[simp] theorem raise_ohp (a b : Nat) (d : List Nat) (s : State) : (raise a b d s).ohp = s.ohp := (ev_raise a b d s).keeps .ohp rfl
@[simp] theorem raise_cipher (a b : Nat) (d : List Nat) (s : State) : (raise a b d s).cipher = s.cipher := (ev_raise a b d s).keeps .cipher rfl
@[simp] theorem raise_upSdus (a b : Nat) (d : List Nat) (s : State) : (raise a b d s).upSdus = s.upSdus := (ev_raise a b d s).keeps .upSdus rfl
@[simp] theorem raise_txts (a b : Nat) (d : List Nat) (s : State) : (raise a b d s).txts = s.txts := (ev_raise a b d s).keeps .txts rfl
@[simp] theorem raise_tim (a b : Nat) (d : List Nat) (s : State) : (raise a b d s).tim = s.tim := (ev_raise a b d s).keeps .tim rfl
@[simp] theorem raise_cls (a b : Nat) (d : List Nat) (s : State) : (raise a b d s).cls = s.cls := (ev_raise a b d s).keeps .cls rfl
@[simp] theorem raise_lpm (a b : Nat) (d : List Nat) (s : State) : (raise a b d s).lpm = s.lpm := (ev_raise a b d s).keeps .lpm rfl
@[simp] theorem raise_merge (a b : Nat) (d : List Nat) (s : State) : (raise a b d s).merge = s.merge := (ev_raise a b d s).keeps .merge rfl
@[simp] theorem raise_ports (a b : Nat) (d : List Nat) (s : State) : (raise a b d s).ports = s.ports := (ev_raise a b d s).keeps .ports rfl
@[simp] theorem raise_pair (a b : Nat) (d : List Nat) (s : State) : (raise a b d s).pair = s.pair := (ev_raise a b d s).keeps .pair rfl
@[simp] theorem raise_sys (a b : Nat) (d : List Nat) (s : State) : (raise a b d s).sys = s.sys := (ev_raise a b d s).keeps .sys rfl
@[simp] theorem raise_nvm (a b : Nat) (d : List Nat) (s : State) : (raise a b d s).nvm = s.nvm := (ev_raise a b d s).keeps .nvm rfl
@[simp] theorem raise_pending (a b : Nat) (d : List Nat) (s : State) : (raise a b d s).pending = s.pending := (ev_raise a b d s).keeps .pending rfl
@[simp] theorem raise_lane (a b : Nat) (d : List Nat) (s : State) (q : Nat) : (raise a b d s).lane q = s.lane q := by simp [State.lane]
@[simp] theorem raise_fram (a b : Nat) (d : List Nat) (s : State) (q : Nat) : (raise a b d s).fram q = s.fram q := by simp [State.fram]
@[simp] theorem raise_grant (a b : Nat) (d : List Nat) (s : State) (q : Nat) : (raise a b d s).grant q = s.grant q := by simp [State.grant]
@[simp] theorem raise_actOf (a b : Nat) (d : List Nat) (s : State) (q : Nat) : (raise a b d s).actOf q = s.actOf q := by simp [State.actOf]
@[simp] theorem raise_term (a b : Nat) (d : List Nat) (s : State) (q r : Nat) : (raise a b d s).term q r = s.term q r := by simp [State.term]
@[simp] theorem raise_cluster (a b : Nat) (d : List Nat) (s : State) (q : Nat) : (raise a b d s).cluster q = s.cluster q := by simp [State.cluster]
@[simp] theorem raise_thread (a b : Nat) (d : List Nat) (s : State) (q r : Nat) : (raise a b d s).thread q r = s.thread q r := by simp [State.thread]
@[simp] theorem raise_node (a b : Nat) (d : List Nat) (s : State) (q : Node) : (raise a b d s).node q = s.node q := by simp [State.node]
@[simp] theorem raise_tmdTree (a b : Nat) (d : List Nat) (s : State) (q : Nat) : (raise a b d s).tmdTree q = s.tmdTree q := by simp [State.tmdTree]
@[simp] theorem raise_tmuPort (a b : Nat) (d : List Nat) (s : State) (q : Nat) : (raise a b d s).tmuPort q = s.tmuPort q := by simp [State.tmuPort]
@[simp] theorem raise_cph (a b : Nat) (d : List Nat) (s : State) (q : Nat) : (raise a b d s).cph q = s.cph q := by simp [State.cph]
@[simp] theorem raise_crLane (a b : Nat) (d : List Nat) (s : State) (q : LaneId) : (raise a b d s).crLane q = s.crLane q := by simp [State.crLane]
@[simp] theorem raise_pipe (a b : Nat) (d : List Nat) (s : State) (q : Nat) : (raise a b d s).pipe q = s.pipe q := by simp [State.pipe]
@[simp] theorem raise_netPort (a b : Nat) (d : List Nat) (s : State) (q : Nat) : (raise a b d s).netPort q = s.netPort q := by simp [State.netPort]
@[simp] theorem raise_island (a b : Nat) (d : List Nat) (s : State) (q : Nat) : (raise a b d s).island q = s.island q := by simp [State.island]

end Sys2Proof.Machine
end

