-- ==== Sys2Proof/Laws/Cross.lean ====
section
/-!
SUPPORT. What the update of one record leaves of the others, and what the passing of time and the bookkeeping of an access
leave: one lemma a part.
-/

namespace Sys2Proof.Machine

set_option Elab.async false
set_option linter.all false

@[simp] theorem State.setIsland_lane (i : Nat) (x : Island) (s : State) (q : Nat) : (s.setIsland i x).lane q = s.lane q := rfl
@[simp] theorem State.setIsland_fram (i : Nat) (x : Island) (s : State) (q : Nat) : (s.setIsland i x).fram q = s.fram q := rfl
@[simp] theorem State.setIsland_session (i : Nat) (x : Island) (s : State) (q : Nat) : (s.setIsland i x).session q = s.session q := rfl
@[simp] theorem State.setIsland_grant (i : Nat) (x : Island) (s : State) (q : Nat) : (s.setIsland i x).grant q = s.grant q := rfl
@[simp] theorem State.setIsland_actOf (i : Nat) (x : Island) (s : State) (q : Nat) : (s.setIsland i x).actOf q = s.actOf q := rfl
@[simp] theorem State.setIsland_term (i : Nat) (x : Island) (s : State) (q r : Nat) : (s.setIsland i x).term q r = s.term q r := rfl
@[simp] theorem State.setIsland_cluster (i : Nat) (x : Island) (s : State) (q : Nat) : (s.setIsland i x).cluster q = s.cluster q := rfl
@[simp] theorem State.setIsland_thread (i : Nat) (x : Island) (s : State) (q r : Nat) : (s.setIsland i x).thread q r = s.thread q r := rfl
@[simp] theorem State.setIsland_node (i : Nat) (x : Island) (s : State) (q : Node) : (s.setIsland i x).node q = s.node q := rfl
@[simp] theorem State.setIsland_tmdTree (i : Nat) (x : Island) (s : State) (q : Nat) : (s.setIsland i x).tmdTree q = s.tmdTree q := rfl
@[simp] theorem State.setIsland_tmuPort (i : Nat) (x : Island) (s : State) (q : Nat) : (s.setIsland i x).tmuPort q = s.tmuPort q := rfl
@[simp] theorem State.setIsland_cph (i : Nat) (x : Island) (s : State) (q : Nat) : (s.setIsland i x).cph q = s.cph q := rfl
@[simp] theorem State.setIsland_crLane (i : Nat) (x : Island) (s : State) (q : LaneId) : (s.setIsland i x).crLane q = s.crLane q := rfl
@[simp] theorem State.setIsland_pipe (i : Nat) (x : Island) (s : State) (q : Nat) : (s.setIsland i x).pipe q = s.pipe q := rfl
@[simp] theorem State.setIsland_netPort (i : Nat) (x : Island) (s : State) (q : Nat) : (s.setIsland i x).netPort q = s.netPort q := rfl
@[simp] theorem State.setIsland_pmuVal (i : Nat) (x : Island) (s : State) (q : Nat) : (s.setIsland i x).pmuVal q = s.pmuVal q := rfl

@[simp] theorem State.setFram_lane (n : Nat) (x : Framing) (s : State) (q : Nat) : (s.setFram n x).lane q = s.lane q := rfl
@[simp] theorem State.setFram_session (n : Nat) (x : Framing) (s : State) (q : Nat) : (s.setFram n x).session q = s.session q := rfl
@[simp] theorem State.setFram_grant (n : Nat) (x : Framing) (s : State) (q : Nat) : (s.setFram n x).grant q = s.grant q := rfl
@[simp] theorem State.setFram_actOf (n : Nat) (x : Framing) (s : State) (q : Nat) : (s.setFram n x).actOf q = s.actOf q := rfl
@[simp] theorem State.setFram_term (n : Nat) (x : Framing) (s : State) (q r : Nat) : (s.setFram n x).term q r = s.term q r := rfl
@[simp] theorem State.setFram_cluster (n : Nat) (x : Framing) (s : State) (q : Nat) : (s.setFram n x).cluster q = s.cluster q := rfl
@[simp] theorem State.setFram_thread (n : Nat) (x : Framing) (s : State) (q r : Nat) : (s.setFram n x).thread q r = s.thread q r := rfl
@[simp] theorem State.setFram_node (n : Nat) (x : Framing) (s : State) (q : Node) : (s.setFram n x).node q = s.node q := rfl
@[simp] theorem State.setFram_tmdTree (n : Nat) (x : Framing) (s : State) (q : Nat) : (s.setFram n x).tmdTree q = s.tmdTree q := rfl
@[simp] theorem State.setFram_tmuPort (n : Nat) (x : Framing) (s : State) (q : Nat) : (s.setFram n x).tmuPort q = s.tmuPort q := rfl
@[simp] theorem State.setFram_cph (n : Nat) (x : Framing) (s : State) (q : Nat) : (s.setFram n x).cph q = s.cph q := rfl
@[simp] theorem State.setFram_crLane (n : Nat) (x : Framing) (s : State) (q : LaneId) : (s.setFram n x).crLane q = s.crLane q := rfl
@[simp] theorem State.setFram_pipe (n : Nat) (x : Framing) (s : State) (q : Nat) : (s.setFram n x).pipe q = s.pipe q := rfl
@[simp] theorem State.setFram_netPort (n : Nat) (x : Framing) (s : State) (q : Nat) : (s.setFram n x).netPort q = s.netPort q := rfl
@[simp] theorem State.setFram_island (n : Nat) (x : Framing) (s : State) (q : Nat) : (s.setFram n x).island q = s.island q := rfl
@[simp] theorem State.setFram_pmuVal (n : Nat) (x : Framing) (s : State) (q : Nat) : (s.setFram n x).pmuVal q = s.pmuVal q := rfl

@[simp] theorem State.setSession_lane (i : Nat) (x : Session) (s : State) (q : Nat) : (s.setSession i x).lane q = s.lane q := rfl
@[simp] theorem State.setSession_fram (i : Nat) (x : Session) (s : State) (q : Nat) : (s.setSession i x).fram q = s.fram q := rfl
@[simp] theorem State.setSession_grant (i : Nat) (x : Session) (s : State) (q : Nat) : (s.setSession i x).grant q = s.grant q := rfl
@[simp] theorem State.setSession_actOf (i : Nat) (x : Session) (s : State) (q : Nat) : (s.setSession i x).actOf q = s.actOf q := rfl
@[simp] theorem State.setSession_term (i : Nat) (x : Session) (s : State) (q r : Nat) : (s.setSession i x).term q r = s.term q r := rfl
@[simp] theorem State.setSession_cluster (i : Nat) (x : Session) (s : State) (q : Nat) : (s.setSession i x).cluster q = s.cluster q := rfl
@[simp] theorem State.setSession_thread (i : Nat) (x : Session) (s : State) (q r : Nat) : (s.setSession i x).thread q r = s.thread q r := rfl
@[simp] theorem State.setSession_node (i : Nat) (x : Session) (s : State) (q : Node) : (s.setSession i x).node q = s.node q := rfl
@[simp] theorem State.setSession_tmdTree (i : Nat) (x : Session) (s : State) (q : Nat) : (s.setSession i x).tmdTree q = s.tmdTree q := rfl
@[simp] theorem State.setSession_tmuPort (i : Nat) (x : Session) (s : State) (q : Nat) : (s.setSession i x).tmuPort q = s.tmuPort q := rfl
@[simp] theorem State.setSession_cph (i : Nat) (x : Session) (s : State) (q : Nat) : (s.setSession i x).cph q = s.cph q := rfl
@[simp] theorem State.setSession_crLane (i : Nat) (x : Session) (s : State) (q : LaneId) : (s.setSession i x).crLane q = s.crLane q := rfl
@[simp] theorem State.setSession_pipe (i : Nat) (x : Session) (s : State) (q : Nat) : (s.setSession i x).pipe q = s.pipe q := rfl
@[simp] theorem State.setSession_netPort (i : Nat) (x : Session) (s : State) (q : Nat) : (s.setSession i x).netPort q = s.netPort q := rfl
@[simp] theorem State.setSession_island (i : Nat) (x : Session) (s : State) (q : Nat) : (s.setSession i x).island q = s.island q := rfl
@[simp] theorem State.setSession_pmuVal (i : Nat) (x : Session) (s : State) (q : Nat) : (s.setSession i x).pmuVal q = s.pmuVal q := rfl

@[simp] theorem State.setLane_fram (n : Nat) (x : Lane) (s : State) (q : Nat) : (s.setLane n x).fram q = s.fram q := rfl
@[simp] theorem State.setLane_session (n : Nat) (x : Lane) (s : State) (q : Nat) : (s.setLane n x).session q = s.session q := rfl
@[simp] theorem State.setLane_grant (n : Nat) (x : Lane) (s : State) (q : Nat) : (s.setLane n x).grant q = s.grant q := rfl
@[simp] theorem State.setLane_actOf (n : Nat) (x : Lane) (s : State) (q : Nat) : (s.setLane n x).actOf q = s.actOf q := rfl
@[simp] theorem State.setLane_term (n : Nat) (x : Lane) (s : State) (q r : Nat) : (s.setLane n x).term q r = s.term q r := rfl
@[simp] theorem State.setLane_cluster (n : Nat) (x : Lane) (s : State) (q : Nat) : (s.setLane n x).cluster q = s.cluster q := rfl
@[simp] theorem State.setLane_thread (n : Nat) (x : Lane) (s : State) (q r : Nat) : (s.setLane n x).thread q r = s.thread q r := rfl
@[simp] theorem State.setLane_node (n : Nat) (x : Lane) (s : State) (q : Node) : (s.setLane n x).node q = s.node q := rfl
@[simp] theorem State.setLane_tmdTree (n : Nat) (x : Lane) (s : State) (q : Nat) : (s.setLane n x).tmdTree q = s.tmdTree q := rfl
@[simp] theorem State.setLane_tmuPort (n : Nat) (x : Lane) (s : State) (q : Nat) : (s.setLane n x).tmuPort q = s.tmuPort q := rfl
@[simp] theorem State.setLane_cph (n : Nat) (x : Lane) (s : State) (q : Nat) : (s.setLane n x).cph q = s.cph q := rfl
@[simp] theorem State.setLane_crLane (n : Nat) (x : Lane) (s : State) (q : LaneId) : (s.setLane n x).crLane q = s.crLane q := rfl
@[simp] theorem State.setLane_pipe (n : Nat) (x : Lane) (s : State) (q : Nat) : (s.setLane n x).pipe q = s.pipe q := rfl
@[simp] theorem State.setLane_netPort (n : Nat) (x : Lane) (s : State) (q : Nat) : (s.setLane n x).netPort q = s.netPort q := rfl
@[simp] theorem State.setLane_island (n : Nat) (x : Lane) (s : State) (q : Nat) : (s.setLane n x).island q = s.island q := rfl
@[simp] theorem State.setLane_pmuVal (n : Nat) (x : Lane) (s : State) (q : Nat) : (s.setLane n x).pmuVal q = s.pmuVal q := rfl

@[simp] theorem State.setGrant_lane (n : Nat) (x : Grt) (s : State) (q : Nat) : (s.setGrant n x).lane q = s.lane q := rfl
@[simp] theorem State.setGrant_fram (n : Nat) (x : Grt) (s : State) (q : Nat) : (s.setGrant n x).fram q = s.fram q := rfl
@[simp] theorem State.setGrant_session (n : Nat) (x : Grt) (s : State) (q : Nat) : (s.setGrant n x).session q = s.session q := rfl
@[simp] theorem State.setGrant_actOf (n : Nat) (x : Grt) (s : State) (q : Nat) : (s.setGrant n x).actOf q = s.actOf q := rfl
@[simp] theorem State.setGrant_term (n : Nat) (x : Grt) (s : State) (q r : Nat) : (s.setGrant n x).term q r = s.term q r := rfl
@[simp] theorem State.setGrant_cluster (n : Nat) (x : Grt) (s : State) (q : Nat) : (s.setGrant n x).cluster q = s.cluster q := rfl
@[simp] theorem State.setGrant_thread (n : Nat) (x : Grt) (s : State) (q r : Nat) : (s.setGrant n x).thread q r = s.thread q r := rfl
@[simp] theorem State.setGrant_node (n : Nat) (x : Grt) (s : State) (q : Node) : (s.setGrant n x).node q = s.node q := rfl
@[simp] theorem State.setGrant_tmdTree (n : Nat) (x : Grt) (s : State) (q : Nat) : (s.setGrant n x).tmdTree q = s.tmdTree q := rfl
@[simp] theorem State.setGrant_tmuPort (n : Nat) (x : Grt) (s : State) (q : Nat) : (s.setGrant n x).tmuPort q = s.tmuPort q := rfl
@[simp] theorem State.setGrant_cph (n : Nat) (x : Grt) (s : State) (q : Nat) : (s.setGrant n x).cph q = s.cph q := rfl
@[simp] theorem State.setGrant_crLane (n : Nat) (x : Grt) (s : State) (q : LaneId) : (s.setGrant n x).crLane q = s.crLane q := rfl
@[simp] theorem State.setGrant_pipe (n : Nat) (x : Grt) (s : State) (q : Nat) : (s.setGrant n x).pipe q = s.pipe q := rfl
@[simp] theorem State.setGrant_netPort (n : Nat) (x : Grt) (s : State) (q : Nat) : (s.setGrant n x).netPort q = s.netPort q := rfl
@[simp] theorem State.setGrant_island (n : Nat) (x : Grt) (s : State) (q : Nat) : (s.setGrant n x).island q = s.island q := rfl
@[simp] theorem State.setGrant_pmuVal (n : Nat) (x : Grt) (s : State) (q : Nat) : (s.setGrant n x).pmuVal q = s.pmuVal q := rfl

@[simp] theorem State.setAct_lane (n : Nat) (x : Act) (s : State) (q : Nat) : (s.setAct n x).lane q = s.lane q := rfl
@[simp] theorem State.setAct_fram (n : Nat) (x : Act) (s : State) (q : Nat) : (s.setAct n x).fram q = s.fram q := rfl
@[simp] theorem State.setAct_session (n : Nat) (x : Act) (s : State) (q : Nat) : (s.setAct n x).session q = s.session q := rfl
@[simp] theorem State.setAct_grant (n : Nat) (x : Act) (s : State) (q : Nat) : (s.setAct n x).grant q = s.grant q := rfl
@[simp] theorem State.setAct_term (n : Nat) (x : Act) (s : State) (q r : Nat) : (s.setAct n x).term q r = s.term q r := rfl
@[simp] theorem State.setAct_cluster (n : Nat) (x : Act) (s : State) (q : Nat) : (s.setAct n x).cluster q = s.cluster q := rfl
@[simp] theorem State.setAct_thread (n : Nat) (x : Act) (s : State) (q r : Nat) : (s.setAct n x).thread q r = s.thread q r := rfl
@[simp] theorem State.setAct_node (n : Nat) (x : Act) (s : State) (q : Node) : (s.setAct n x).node q = s.node q := rfl
@[simp] theorem State.setAct_tmdTree (n : Nat) (x : Act) (s : State) (q : Nat) : (s.setAct n x).tmdTree q = s.tmdTree q := rfl
@[simp] theorem State.setAct_tmuPort (n : Nat) (x : Act) (s : State) (q : Nat) : (s.setAct n x).tmuPort q = s.tmuPort q := rfl
@[simp] theorem State.setAct_cph (n : Nat) (x : Act) (s : State) (q : Nat) : (s.setAct n x).cph q = s.cph q := rfl
@[simp] theorem State.setAct_crLane (n : Nat) (x : Act) (s : State) (q : LaneId) : (s.setAct n x).crLane q = s.crLane q := rfl
@[simp] theorem State.setAct_pipe (n : Nat) (x : Act) (s : State) (q : Nat) : (s.setAct n x).pipe q = s.pipe q := rfl
@[simp] theorem State.setAct_netPort (n : Nat) (x : Act) (s : State) (q : Nat) : (s.setAct n x).netPort q = s.netPort q := rfl
@[simp] theorem State.setAct_island (n : Nat) (x : Act) (s : State) (q : Nat) : (s.setAct n x).island q = s.island q := rfl
@[simp] theorem State.setAct_pmuVal (n : Nat) (x : Act) (s : State) (q : Nat) : (s.setAct n x).pmuVal q = s.pmuVal q := rfl

@[simp] theorem State.setTerm_lane (n k : Nat) (x : TermX) (s : State) (q : Nat) : (s.setTerm n k x).lane q = s.lane q := rfl
@[simp] theorem State.setTerm_fram (n k : Nat) (x : TermX) (s : State) (q : Nat) : (s.setTerm n k x).fram q = s.fram q := rfl
@[simp] theorem State.setTerm_session (n k : Nat) (x : TermX) (s : State) (q : Nat) : (s.setTerm n k x).session q = s.session q := rfl
@[simp] theorem State.setTerm_grant (n k : Nat) (x : TermX) (s : State) (q : Nat) : (s.setTerm n k x).grant q = s.grant q := rfl
@[simp] theorem State.setTerm_actOf (n k : Nat) (x : TermX) (s : State) (q : Nat) : (s.setTerm n k x).actOf q = s.actOf q := rfl
@[simp] theorem State.setTerm_cluster (n k : Nat) (x : TermX) (s : State) (q : Nat) : (s.setTerm n k x).cluster q = s.cluster q := rfl
@[simp] theorem State.setTerm_thread (n k : Nat) (x : TermX) (s : State) (q r : Nat) : (s.setTerm n k x).thread q r = s.thread q r := rfl
@[simp] theorem State.setTerm_node (n k : Nat) (x : TermX) (s : State) (q : Node) : (s.setTerm n k x).node q = s.node q := rfl
@[simp] theorem State.setTerm_tmdTree (n k : Nat) (x : TermX) (s : State) (q : Nat) : (s.setTerm n k x).tmdTree q = s.tmdTree q := rfl
@[simp] theorem State.setTerm_tmuPort (n k : Nat) (x : TermX) (s : State) (q : Nat) : (s.setTerm n k x).tmuPort q = s.tmuPort q := rfl
@[simp] theorem State.setTerm_cph (n k : Nat) (x : TermX) (s : State) (q : Nat) : (s.setTerm n k x).cph q = s.cph q := rfl
@[simp] theorem State.setTerm_crLane (n k : Nat) (x : TermX) (s : State) (q : LaneId) : (s.setTerm n k x).crLane q = s.crLane q := rfl
@[simp] theorem State.setTerm_pipe (n k : Nat) (x : TermX) (s : State) (q : Nat) : (s.setTerm n k x).pipe q = s.pipe q := rfl
@[simp] theorem State.setTerm_netPort (n k : Nat) (x : TermX) (s : State) (q : Nat) : (s.setTerm n k x).netPort q = s.netPort q := rfl
@[simp] theorem State.setTerm_island (n k : Nat) (x : TermX) (s : State) (q : Nat) : (s.setTerm n k x).island q = s.island q := rfl
@[simp] theorem State.setTerm_pmuVal (n k : Nat) (x : TermX) (s : State) (q : Nat) : (s.setTerm n k x).pmuVal q = s.pmuVal q := rfl

@[simp] theorem State.setCluster_lane (k : Nat) (x : Cluster) (s : State) (q : Nat) : (s.setCluster k x).lane q = s.lane q := rfl
@[simp] theorem State.setCluster_fram (k : Nat) (x : Cluster) (s : State) (q : Nat) : (s.setCluster k x).fram q = s.fram q := rfl
@[simp] theorem State.setCluster_session (k : Nat) (x : Cluster) (s : State) (q : Nat) : (s.setCluster k x).session q = s.session q := rfl
@[simp] theorem State.setCluster_grant (k : Nat) (x : Cluster) (s : State) (q : Nat) : (s.setCluster k x).grant q = s.grant q := rfl
@[simp] theorem State.setCluster_actOf (k : Nat) (x : Cluster) (s : State) (q : Nat) : (s.setCluster k x).actOf q = s.actOf q := rfl
@[simp] theorem State.setCluster_term (k : Nat) (x : Cluster) (s : State) (q r : Nat) : (s.setCluster k x).term q r = s.term q r := rfl
@[simp] theorem State.setCluster_thread (k : Nat) (x : Cluster) (s : State) (q r : Nat) : (s.setCluster k x).thread q r = s.thread q r := rfl
@[simp] theorem State.setCluster_node (k : Nat) (x : Cluster) (s : State) (q : Node) : (s.setCluster k x).node q = s.node q := rfl
@[simp] theorem State.setCluster_tmdTree (k : Nat) (x : Cluster) (s : State) (q : Nat) : (s.setCluster k x).tmdTree q = s.tmdTree q := rfl
@[simp] theorem State.setCluster_tmuPort (k : Nat) (x : Cluster) (s : State) (q : Nat) : (s.setCluster k x).tmuPort q = s.tmuPort q := rfl
@[simp] theorem State.setCluster_cph (k : Nat) (x : Cluster) (s : State) (q : Nat) : (s.setCluster k x).cph q = s.cph q := rfl
@[simp] theorem State.setCluster_crLane (k : Nat) (x : Cluster) (s : State) (q : LaneId) : (s.setCluster k x).crLane q = s.crLane q := rfl
@[simp] theorem State.setCluster_pipe (k : Nat) (x : Cluster) (s : State) (q : Nat) : (s.setCluster k x).pipe q = s.pipe q := rfl
@[simp] theorem State.setCluster_netPort (k : Nat) (x : Cluster) (s : State) (q : Nat) : (s.setCluster k x).netPort q = s.netPort q := rfl
@[simp] theorem State.setCluster_island (k : Nat) (x : Cluster) (s : State) (q : Nat) : (s.setCluster k x).island q = s.island q := rfl
@[simp] theorem State.setCluster_pmuVal (k : Nat) (x : Cluster) (s : State) (q : Nat) : (s.setCluster k x).pmuVal q = s.pmuVal q := rfl

@[simp] theorem State.setThread_lane (k r : Nat) (x : Thread) (s : State) (q : Nat) : (s.setThread k r x).lane q = s.lane q := rfl
@[simp] theorem State.setThread_fram (k r : Nat) (x : Thread) (s : State) (q : Nat) : (s.setThread k r x).fram q = s.fram q := rfl
@[simp] theorem State.setThread_session (k r : Nat) (x : Thread) (s : State) (q : Nat) : (s.setThread k r x).session q = s.session q := rfl
@[simp] theorem State.setThread_grant (k r : Nat) (x : Thread) (s : State) (q : Nat) : (s.setThread k r x).grant q = s.grant q := rfl
@[simp] theorem State.setThread_actOf (k r : Nat) (x : Thread) (s : State) (q : Nat) : (s.setThread k r x).actOf q = s.actOf q := rfl
@[simp] theorem State.setThread_term (k r : Nat) (x : Thread) (s : State) (q r : Nat) : (s.setThread k r x).term q r = s.term q r := rfl
@[simp] theorem State.setThread_cluster (k r : Nat) (x : Thread) (s : State) (q : Nat) : (s.setThread k r x).cluster q = s.cluster q := rfl
@[simp] theorem State.setThread_node (k r : Nat) (x : Thread) (s : State) (q : Node) : (s.setThread k r x).node q = s.node q := rfl
@[simp] theorem State.setThread_tmdTree (k r : Nat) (x : Thread) (s : State) (q : Nat) : (s.setThread k r x).tmdTree q = s.tmdTree q := rfl
@[simp] theorem State.setThread_tmuPort (k r : Nat) (x : Thread) (s : State) (q : Nat) : (s.setThread k r x).tmuPort q = s.tmuPort q := rfl
@[simp] theorem State.setThread_cph (k r : Nat) (x : Thread) (s : State) (q : Nat) : (s.setThread k r x).cph q = s.cph q := rfl
@[simp] theorem State.setThread_crLane (k r : Nat) (x : Thread) (s : State) (q : LaneId) : (s.setThread k r x).crLane q = s.crLane q := rfl
@[simp] theorem State.setThread_pipe (k r : Nat) (x : Thread) (s : State) (q : Nat) : (s.setThread k r x).pipe q = s.pipe q := rfl
@[simp] theorem State.setThread_netPort (k r : Nat) (x : Thread) (s : State) (q : Nat) : (s.setThread k r x).netPort q = s.netPort q := rfl
@[simp] theorem State.setThread_island (k r : Nat) (x : Thread) (s : State) (q : Nat) : (s.setThread k r x).island q = s.island q := rfl
@[simp] theorem State.setThread_pmuVal (k r : Nat) (x : Thread) (s : State) (q : Nat) : (s.setThread k r x).pmuVal q = s.pmuVal q := rfl

@[simp] theorem State.setNode_lane (d : Node) (x : NodeX) (s : State) (q : Nat) : (s.setNode d x).lane q = s.lane q := rfl
@[simp] theorem State.setNode_fram (d : Node) (x : NodeX) (s : State) (q : Nat) : (s.setNode d x).fram q = s.fram q := rfl
@[simp] theorem State.setNode_session (d : Node) (x : NodeX) (s : State) (q : Nat) : (s.setNode d x).session q = s.session q := rfl
@[simp] theorem State.setNode_grant (d : Node) (x : NodeX) (s : State) (q : Nat) : (s.setNode d x).grant q = s.grant q := rfl
@[simp] theorem State.setNode_actOf (d : Node) (x : NodeX) (s : State) (q : Nat) : (s.setNode d x).actOf q = s.actOf q := rfl
@[simp] theorem State.setNode_term (d : Node) (x : NodeX) (s : State) (q r : Nat) : (s.setNode d x).term q r = s.term q r := rfl
@[simp] theorem State.setNode_cluster (d : Node) (x : NodeX) (s : State) (q : Nat) : (s.setNode d x).cluster q = s.cluster q := rfl
@[simp] theorem State.setNode_thread (d : Node) (x : NodeX) (s : State) (q r : Nat) : (s.setNode d x).thread q r = s.thread q r := rfl
@[simp] theorem State.setNode_tmdTree (d : Node) (x : NodeX) (s : State) (q : Nat) : (s.setNode d x).tmdTree q = s.tmdTree q := rfl
@[simp] theorem State.setNode_tmuPort (d : Node) (x : NodeX) (s : State) (q : Nat) : (s.setNode d x).tmuPort q = s.tmuPort q := rfl
@[simp] theorem State.setNode_cph (d : Node) (x : NodeX) (s : State) (q : Nat) : (s.setNode d x).cph q = s.cph q := rfl
@[simp] theorem State.setNode_crLane (d : Node) (x : NodeX) (s : State) (q : LaneId) : (s.setNode d x).crLane q = s.crLane q := rfl
@[simp] theorem State.setNode_pipe (d : Node) (x : NodeX) (s : State) (q : Nat) : (s.setNode d x).pipe q = s.pipe q := rfl
@[simp] theorem State.setNode_netPort (d : Node) (x : NodeX) (s : State) (q : Nat) : (s.setNode d x).netPort q = s.netPort q := rfl
@[simp] theorem State.setNode_island (d : Node) (x : NodeX) (s : State) (q : Nat) : (s.setNode d x).island q = s.island q := rfl
@[simp] theorem State.setNode_pmuVal (d : Node) (x : NodeX) (s : State) (q : Nat) : (s.setNode d x).pmuVal q = s.pmuVal q := rfl

@[simp] theorem State.setTmdTree_lane (n : Nat) (x : TmdTree) (s : State) (q : Nat) : (s.setTmdTree n x).lane q = s.lane q := rfl
@[simp] theorem State.setTmdTree_fram (n : Nat) (x : TmdTree) (s : State) (q : Nat) : (s.setTmdTree n x).fram q = s.fram q := rfl
@[simp] theorem State.setTmdTree_session (n : Nat) (x : TmdTree) (s : State) (q : Nat) : (s.setTmdTree n x).session q = s.session q := rfl
@[simp] theorem State.setTmdTree_grant (n : Nat) (x : TmdTree) (s : State) (q : Nat) : (s.setTmdTree n x).grant q = s.grant q := rfl
@[simp] theorem State.setTmdTree_actOf (n : Nat) (x : TmdTree) (s : State) (q : Nat) : (s.setTmdTree n x).actOf q = s.actOf q := rfl
@[simp] theorem State.setTmdTree_term (n : Nat) (x : TmdTree) (s : State) (q r : Nat) : (s.setTmdTree n x).term q r = s.term q r := rfl
@[simp] theorem State.setTmdTree_cluster (n : Nat) (x : TmdTree) (s : State) (q : Nat) : (s.setTmdTree n x).cluster q = s.cluster q := rfl
@[simp] theorem State.setTmdTree_thread (n : Nat) (x : TmdTree) (s : State) (q r : Nat) : (s.setTmdTree n x).thread q r = s.thread q r := rfl
@[simp] theorem State.setTmdTree_node (n : Nat) (x : TmdTree) (s : State) (q : Node) : (s.setTmdTree n x).node q = s.node q := rfl
@[simp] theorem State.setTmdTree_tmuPort (n : Nat) (x : TmdTree) (s : State) (q : Nat) : (s.setTmdTree n x).tmuPort q = s.tmuPort q := rfl
@[simp] theorem State.setTmdTree_cph (n : Nat) (x : TmdTree) (s : State) (q : Nat) : (s.setTmdTree n x).cph q = s.cph q := rfl
@[simp] theorem State.setTmdTree_crLane (n : Nat) (x : TmdTree) (s : State) (q : LaneId) : (s.setTmdTree n x).crLane q = s.crLane q := rfl
@[simp] theorem State.setTmdTree_pipe (n : Nat) (x : TmdTree) (s : State) (q : Nat) : (s.setTmdTree n x).pipe q = s.pipe q := rfl
@[simp] theorem State.setTmdTree_netPort (n : Nat) (x : TmdTree) (s : State) (q : Nat) : (s.setTmdTree n x).netPort q = s.netPort q := rfl
@[simp] theorem State.setTmdTree_island (n : Nat) (x : TmdTree) (s : State) (q : Nat) : (s.setTmdTree n x).island q = s.island q := rfl
@[simp] theorem State.setTmdTree_pmuVal (n : Nat) (x : TmdTree) (s : State) (q : Nat) : (s.setTmdTree n x).pmuVal q = s.pmuVal q := rfl

@[simp] theorem State.setTmuPort_lane (p : Nat) (x : TmuPort) (s : State) (q : Nat) : (s.setTmuPort p x).lane q = s.lane q := rfl
@[simp] theorem State.setTmuPort_fram (p : Nat) (x : TmuPort) (s : State) (q : Nat) : (s.setTmuPort p x).fram q = s.fram q := rfl
@[simp] theorem State.setTmuPort_session (p : Nat) (x : TmuPort) (s : State) (q : Nat) : (s.setTmuPort p x).session q = s.session q := rfl
@[simp] theorem State.setTmuPort_grant (p : Nat) (x : TmuPort) (s : State) (q : Nat) : (s.setTmuPort p x).grant q = s.grant q := rfl
@[simp] theorem State.setTmuPort_actOf (p : Nat) (x : TmuPort) (s : State) (q : Nat) : (s.setTmuPort p x).actOf q = s.actOf q := rfl
@[simp] theorem State.setTmuPort_term (p : Nat) (x : TmuPort) (s : State) (q r : Nat) : (s.setTmuPort p x).term q r = s.term q r := rfl
@[simp] theorem State.setTmuPort_cluster (p : Nat) (x : TmuPort) (s : State) (q : Nat) : (s.setTmuPort p x).cluster q = s.cluster q := rfl
@[simp] theorem State.setTmuPort_thread (p : Nat) (x : TmuPort) (s : State) (q r : Nat) : (s.setTmuPort p x).thread q r = s.thread q r := rfl
@[simp] theorem State.setTmuPort_node (p : Nat) (x : TmuPort) (s : State) (q : Node) : (s.setTmuPort p x).node q = s.node q := rfl
@[simp] theorem State.setTmuPort_tmdTree (p : Nat) (x : TmuPort) (s : State) (q : Nat) : (s.setTmuPort p x).tmdTree q = s.tmdTree q := rfl
@[simp] theorem State.setTmuPort_cph (p : Nat) (x : TmuPort) (s : State) (q : Nat) : (s.setTmuPort p x).cph q = s.cph q := rfl
@[simp] theorem State.setTmuPort_crLane (p : Nat) (x : TmuPort) (s : State) (q : LaneId) : (s.setTmuPort p x).crLane q = s.crLane q := rfl
@[simp] theorem State.setTmuPort_pipe (p : Nat) (x : TmuPort) (s : State) (q : Nat) : (s.setTmuPort p x).pipe q = s.pipe q := rfl
@[simp] theorem State.setTmuPort_netPort (p : Nat) (x : TmuPort) (s : State) (q : Nat) : (s.setTmuPort p x).netPort q = s.netPort q := rfl
@[simp] theorem State.setTmuPort_island (p : Nat) (x : TmuPort) (s : State) (q : Nat) : (s.setTmuPort p x).island q = s.island q := rfl
@[simp] theorem State.setTmuPort_pmuVal (p : Nat) (x : TmuPort) (s : State) (q : Nat) : (s.setTmuPort p x).pmuVal q = s.pmuVal q := rfl

@[simp] theorem State.setCph_lane (d : Nat) (x : Cipher) (s : State) (q : Nat) : (s.setCph d x).lane q = s.lane q := rfl
@[simp] theorem State.setCph_fram (d : Nat) (x : Cipher) (s : State) (q : Nat) : (s.setCph d x).fram q = s.fram q := rfl
@[simp] theorem State.setCph_session (d : Nat) (x : Cipher) (s : State) (q : Nat) : (s.setCph d x).session q = s.session q := rfl
@[simp] theorem State.setCph_grant (d : Nat) (x : Cipher) (s : State) (q : Nat) : (s.setCph d x).grant q = s.grant q := rfl
@[simp] theorem State.setCph_actOf (d : Nat) (x : Cipher) (s : State) (q : Nat) : (s.setCph d x).actOf q = s.actOf q := rfl
@[simp] theorem State.setCph_term (d : Nat) (x : Cipher) (s : State) (q r : Nat) : (s.setCph d x).term q r = s.term q r := rfl
@[simp] theorem State.setCph_cluster (d : Nat) (x : Cipher) (s : State) (q : Nat) : (s.setCph d x).cluster q = s.cluster q := rfl
@[simp] theorem State.setCph_thread (d : Nat) (x : Cipher) (s : State) (q r : Nat) : (s.setCph d x).thread q r = s.thread q r := rfl
@[simp] theorem State.setCph_node (d : Nat) (x : Cipher) (s : State) (q : Node) : (s.setCph d x).node q = s.node q := rfl
@[simp] theorem State.setCph_tmdTree (d : Nat) (x : Cipher) (s : State) (q : Nat) : (s.setCph d x).tmdTree q = s.tmdTree q := rfl
@[simp] theorem State.setCph_tmuPort (d : Nat) (x : Cipher) (s : State) (q : Nat) : (s.setCph d x).tmuPort q = s.tmuPort q := rfl
@[simp] theorem State.setCph_crLane (d : Nat) (x : Cipher) (s : State) (q : LaneId) : (s.setCph d x).crLane q = s.crLane q := rfl
@[simp] theorem State.setCph_pipe (d : Nat) (x : Cipher) (s : State) (q : Nat) : (s.setCph d x).pipe q = s.pipe q := rfl
@[simp] theorem State.setCph_netPort (d : Nat) (x : Cipher) (s : State) (q : Nat) : (s.setCph d x).netPort q = s.netPort q := rfl
@[simp] theorem State.setCph_island (d : Nat) (x : Cipher) (s : State) (q : Nat) : (s.setCph d x).island q = s.island q := rfl
@[simp] theorem State.setCph_pmuVal (d : Nat) (x : Cipher) (s : State) (q : Nat) : (s.setCph d x).pmuVal q = s.pmuVal q := rfl

@[simp] theorem State.setCrLane_lane (l : LaneId) (x : CrLane) (s : State) (q : Nat) : (s.setCrLane l x).lane q = s.lane q := rfl
@[simp] theorem State.setCrLane_fram (l : LaneId) (x : CrLane) (s : State) (q : Nat) : (s.setCrLane l x).fram q = s.fram q := rfl
@[simp] theorem State.setCrLane_session (l : LaneId) (x : CrLane) (s : State) (q : Nat) : (s.setCrLane l x).session q = s.session q := rfl
@[simp] theorem State.setCrLane_grant (l : LaneId) (x : CrLane) (s : State) (q : Nat) : (s.setCrLane l x).grant q = s.grant q := rfl
@[simp] theorem State.setCrLane_actOf (l : LaneId) (x : CrLane) (s : State) (q : Nat) : (s.setCrLane l x).actOf q = s.actOf q := rfl
@[simp] theorem State.setCrLane_term (l : LaneId) (x : CrLane) (s : State) (q r : Nat) : (s.setCrLane l x).term q r = s.term q r := rfl
@[simp] theorem State.setCrLane_cluster (l : LaneId) (x : CrLane) (s : State) (q : Nat) : (s.setCrLane l x).cluster q = s.cluster q := rfl
@[simp] theorem State.setCrLane_thread (l : LaneId) (x : CrLane) (s : State) (q r : Nat) : (s.setCrLane l x).thread q r = s.thread q r := rfl
@[simp] theorem State.setCrLane_node (l : LaneId) (x : CrLane) (s : State) (q : Node) : (s.setCrLane l x).node q = s.node q := rfl
@[simp] theorem State.setCrLane_tmdTree (l : LaneId) (x : CrLane) (s : State) (q : Nat) : (s.setCrLane l x).tmdTree q = s.tmdTree q := rfl
@[simp] theorem State.setCrLane_tmuPort (l : LaneId) (x : CrLane) (s : State) (q : Nat) : (s.setCrLane l x).tmuPort q = s.tmuPort q := rfl
@[simp] theorem State.setCrLane_cph (l : LaneId) (x : CrLane) (s : State) (q : Nat) : (s.setCrLane l x).cph q = s.cph q := rfl
@[simp] theorem State.setCrLane_pipe (l : LaneId) (x : CrLane) (s : State) (q : Nat) : (s.setCrLane l x).pipe q = s.pipe q := rfl
@[simp] theorem State.setCrLane_netPort (l : LaneId) (x : CrLane) (s : State) (q : Nat) : (s.setCrLane l x).netPort q = s.netPort q := rfl
@[simp] theorem State.setCrLane_island (l : LaneId) (x : CrLane) (s : State) (q : Nat) : (s.setCrLane l x).island q = s.island q := rfl
@[simp] theorem State.setCrLane_pmuVal (l : LaneId) (x : CrLane) (s : State) (q : Nat) : (s.setCrLane l x).pmuVal q = s.pmuVal q := rfl

@[simp] theorem State.setPipe_lane (k : Nat) (x : Pipe) (s : State) (q : Nat) : (s.setPipe k x).lane q = s.lane q := rfl
@[simp] theorem State.setPipe_fram (k : Nat) (x : Pipe) (s : State) (q : Nat) : (s.setPipe k x).fram q = s.fram q := rfl
@[simp] theorem State.setPipe_session (k : Nat) (x : Pipe) (s : State) (q : Nat) : (s.setPipe k x).session q = s.session q := rfl
@[simp] theorem State.setPipe_grant (k : Nat) (x : Pipe) (s : State) (q : Nat) : (s.setPipe k x).grant q = s.grant q := rfl
@[simp] theorem State.setPipe_actOf (k : Nat) (x : Pipe) (s : State) (q : Nat) : (s.setPipe k x).actOf q = s.actOf q := rfl
@[simp] theorem State.setPipe_term (k : Nat) (x : Pipe) (s : State) (q r : Nat) : (s.setPipe k x).term q r = s.term q r := rfl
@[simp] theorem State.setPipe_cluster (k : Nat) (x : Pipe) (s : State) (q : Nat) : (s.setPipe k x).cluster q = s.cluster q := rfl
@[simp] theorem State.setPipe_thread (k : Nat) (x : Pipe) (s : State) (q r : Nat) : (s.setPipe k x).thread q r = s.thread q r := rfl
@[simp] theorem State.setPipe_node (k : Nat) (x : Pipe) (s : State) (q : Node) : (s.setPipe k x).node q = s.node q := rfl
@[simp] theorem State.setPipe_tmdTree (k : Nat) (x : Pipe) (s : State) (q : Nat) : (s.setPipe k x).tmdTree q = s.tmdTree q := rfl
@[simp] theorem State.setPipe_tmuPort (k : Nat) (x : Pipe) (s : State) (q : Nat) : (s.setPipe k x).tmuPort q = s.tmuPort q := rfl
@[simp] theorem State.setPipe_cph (k : Nat) (x : Pipe) (s : State) (q : Nat) : (s.setPipe k x).cph q = s.cph q := rfl
@[simp] theorem State.setPipe_crLane (k : Nat) (x : Pipe) (s : State) (q : LaneId) : (s.setPipe k x).crLane q = s.crLane q := rfl
@[simp] theorem State.setPipe_netPort (k : Nat) (x : Pipe) (s : State) (q : Nat) : (s.setPipe k x).netPort q = s.netPort q := rfl
@[simp] theorem State.setPipe_island (k : Nat) (x : Pipe) (s : State) (q : Nat) : (s.setPipe k x).island q = s.island q := rfl
@[simp] theorem State.setPipe_pmuVal (k : Nat) (x : Pipe) (s : State) (q : Nat) : (s.setPipe k x).pmuVal q = s.pmuVal q := rfl

@[simp] theorem State.setNetPort_lane (n : Nat) (x : NetPort) (s : State) (q : Nat) : (s.setNetPort n x).lane q = s.lane q := rfl
@[simp] theorem State.setNetPort_fram (n : Nat) (x : NetPort) (s : State) (q : Nat) : (s.setNetPort n x).fram q = s.fram q := rfl
@[simp] theorem State.setNetPort_session (n : Nat) (x : NetPort) (s : State) (q : Nat) : (s.setNetPort n x).session q = s.session q := rfl
@[simp] theorem State.setNetPort_grant (n : Nat) (x : NetPort) (s : State) (q : Nat) : (s.setNetPort n x).grant q = s.grant q := rfl
@[simp] theorem State.setNetPort_actOf (n : Nat) (x : NetPort) (s : State) (q : Nat) : (s.setNetPort n x).actOf q = s.actOf q := rfl
@[simp] theorem State.setNetPort_term (n : Nat) (x : NetPort) (s : State) (q r : Nat) : (s.setNetPort n x).term q r = s.term q r := rfl
@[simp] theorem State.setNetPort_cluster (n : Nat) (x : NetPort) (s : State) (q : Nat) : (s.setNetPort n x).cluster q = s.cluster q := rfl
@[simp] theorem State.setNetPort_thread (n : Nat) (x : NetPort) (s : State) (q r : Nat) : (s.setNetPort n x).thread q r = s.thread q r := rfl
@[simp] theorem State.setNetPort_node (n : Nat) (x : NetPort) (s : State) (q : Node) : (s.setNetPort n x).node q = s.node q := rfl
@[simp] theorem State.setNetPort_tmdTree (n : Nat) (x : NetPort) (s : State) (q : Nat) : (s.setNetPort n x).tmdTree q = s.tmdTree q := rfl
@[simp] theorem State.setNetPort_tmuPort (n : Nat) (x : NetPort) (s : State) (q : Nat) : (s.setNetPort n x).tmuPort q = s.tmuPort q := rfl
@[simp] theorem State.setNetPort_cph (n : Nat) (x : NetPort) (s : State) (q : Nat) : (s.setNetPort n x).cph q = s.cph q := rfl
@[simp] theorem State.setNetPort_crLane (n : Nat) (x : NetPort) (s : State) (q : LaneId) : (s.setNetPort n x).crLane q = s.crLane q := rfl
@[simp] theorem State.setNetPort_pipe (n : Nat) (x : NetPort) (s : State) (q : Nat) : (s.setNetPort n x).pipe q = s.pipe q := rfl
@[simp] theorem State.setNetPort_island (n : Nat) (x : NetPort) (s : State) (q : Nat) : (s.setNetPort n x).island q = s.island q := rfl
@[simp] theorem State.setNetPort_pmuVal (n : Nat) (x : NetPort) (s : State) (q : Nat) : (s.setNetPort n x).pmuVal q = s.pmuVal q := rfl

@[simp] theorem State.setTim_lane (x : Tim) (s : State) (q : Nat) : (s.setTim x).lane q = s.lane q := rfl
@[simp] theorem State.setTim_fram (x : Tim) (s : State) (q : Nat) : (s.setTim x).fram q = s.fram q := rfl
@[simp] theorem State.setTim_session (x : Tim) (s : State) (q : Nat) : (s.setTim x).session q = s.session q := rfl
@[simp] theorem State.setTim_grant (x : Tim) (s : State) (q : Nat) : (s.setTim x).grant q = s.grant q := rfl
@[simp] theorem State.setTim_actOf (x : Tim) (s : State) (q : Nat) : (s.setTim x).actOf q = s.actOf q := rfl
@[simp] theorem State.setTim_term (x : Tim) (s : State) (q r : Nat) : (s.setTim x).term q r = s.term q r := rfl
@[simp] theorem State.setTim_cluster (x : Tim) (s : State) (q : Nat) : (s.setTim x).cluster q = s.cluster q := rfl
@[simp] theorem State.setTim_thread (x : Tim) (s : State) (q r : Nat) : (s.setTim x).thread q r = s.thread q r := rfl
@[simp] theorem State.setTim_node (x : Tim) (s : State) (q : Node) : (s.setTim x).node q = s.node q := rfl
@[simp] theorem State.setTim_tmdTree (x : Tim) (s : State) (q : Nat) : (s.setTim x).tmdTree q = s.tmdTree q := rfl
@[simp] theorem State.setTim_tmuPort (x : Tim) (s : State) (q : Nat) : (s.setTim x).tmuPort q = s.tmuPort q := rfl
@[simp] theorem State.setTim_cph (x : Tim) (s : State) (q : Nat) : (s.setTim x).cph q = s.cph q := rfl
@[simp] theorem State.setTim_crLane (x : Tim) (s : State) (q : LaneId) : (s.setTim x).crLane q = s.crLane q := rfl
@[simp] theorem State.setTim_pipe (x : Tim) (s : State) (q : Nat) : (s.setTim x).pipe q = s.pipe q := rfl
@[simp] theorem State.setTim_netPort (x : Tim) (s : State) (q : Nat) : (s.setTim x).netPort q = s.netPort q := rfl
@[simp] theorem State.setTim_island (x : Tim) (s : State) (q : Nat) : (s.setTim x).island q = s.island q := rfl
@[simp] theorem State.setTim_pmuVal (x : Tim) (s : State) (q : Nat) : (s.setTim x).pmuVal q = s.pmuVal q := rfl

@[simp] theorem State.setPair_lane (x : PairSt) (s : State) (q : Nat) : (s.setPair x).lane q = s.lane q := rfl
@[simp] theorem State.setPair_fram (x : PairSt) (s : State) (q : Nat) : (s.setPair x).fram q = s.fram q := rfl
@[simp] theorem State.setPair_session (x : PairSt) (s : State) (q : Nat) : (s.setPair x).session q = s.session q := rfl
@[simp] theorem State.setPair_grant (x : PairSt) (s : State) (q : Nat) : (s.setPair x).grant q = s.grant q := rfl
@[simp] theorem State.setPair_actOf (x : PairSt) (s : State) (q : Nat) : (s.setPair x).actOf q = s.actOf q := rfl
@[simp] theorem State.setPair_term (x : PairSt) (s : State) (q r : Nat) : (s.setPair x).term q r = s.term q r := rfl
@[simp] theorem State.setPair_cluster (x : PairSt) (s : State) (q : Nat) : (s.setPair x).cluster q = s.cluster q := rfl
@[simp] theorem State.setPair_thread (x : PairSt) (s : State) (q r : Nat) : (s.setPair x).thread q r = s.thread q r := rfl
@[simp] theorem State.setPair_node (x : PairSt) (s : State) (q : Node) : (s.setPair x).node q = s.node q := rfl
@[simp] theorem State.setPair_tmdTree (x : PairSt) (s : State) (q : Nat) : (s.setPair x).tmdTree q = s.tmdTree q := rfl
@[simp] theorem State.setPair_tmuPort (x : PairSt) (s : State) (q : Nat) : (s.setPair x).tmuPort q = s.tmuPort q := rfl
@[simp] theorem State.setPair_cph (x : PairSt) (s : State) (q : Nat) : (s.setPair x).cph q = s.cph q := rfl
@[simp] theorem State.setPair_crLane (x : PairSt) (s : State) (q : LaneId) : (s.setPair x).crLane q = s.crLane q := rfl
@[simp] theorem State.setPair_pipe (x : PairSt) (s : State) (q : Nat) : (s.setPair x).pipe q = s.pipe q := rfl
@[simp] theorem State.setPair_netPort (x : PairSt) (s : State) (q : Nat) : (s.setPair x).netPort q = s.netPort q := rfl
@[simp] theorem State.setPair_island (x : PairSt) (s : State) (q : Nat) : (s.setPair x).island q = s.island q := rfl
@[simp] theorem State.setPair_pmuVal (x : PairSt) (s : State) (q : Nat) : (s.setPair x).pmuVal q = s.pmuVal q := rfl

@[simp] theorem State.setCmd_lane (x : Cmd) (s : State) (q : Nat) : (s.setCmd x).lane q = s.lane q := rfl
@[simp] theorem State.setCmd_fram (x : Cmd) (s : State) (q : Nat) : (s.setCmd x).fram q = s.fram q := rfl
@[simp] theorem State.setCmd_session (x : Cmd) (s : State) (q : Nat) : (s.setCmd x).session q = s.session q := rfl
@[simp] theorem State.setCmd_grant (x : Cmd) (s : State) (q : Nat) : (s.setCmd x).grant q = s.grant q := rfl
@[simp] theorem State.setCmd_actOf (x : Cmd) (s : State) (q : Nat) : (s.setCmd x).actOf q = s.actOf q := rfl
@[simp] theorem State.setCmd_term (x : Cmd) (s : State) (q r : Nat) : (s.setCmd x).term q r = s.term q r := rfl
@[simp] theorem State.setCmd_cluster (x : Cmd) (s : State) (q : Nat) : (s.setCmd x).cluster q = s.cluster q := rfl
@[simp] theorem State.setCmd_thread (x : Cmd) (s : State) (q r : Nat) : (s.setCmd x).thread q r = s.thread q r := rfl
@[simp] theorem State.setCmd_node (x : Cmd) (s : State) (q : Node) : (s.setCmd x).node q = s.node q := rfl
@[simp] theorem State.setCmd_tmdTree (x : Cmd) (s : State) (q : Nat) : (s.setCmd x).tmdTree q = s.tmdTree q := rfl
@[simp] theorem State.setCmd_tmuPort (x : Cmd) (s : State) (q : Nat) : (s.setCmd x).tmuPort q = s.tmuPort q := rfl
@[simp] theorem State.setCmd_cph (x : Cmd) (s : State) (q : Nat) : (s.setCmd x).cph q = s.cph q := rfl
@[simp] theorem State.setCmd_crLane (x : Cmd) (s : State) (q : LaneId) : (s.setCmd x).crLane q = s.crLane q := rfl
@[simp] theorem State.setCmd_pipe (x : Cmd) (s : State) (q : Nat) : (s.setCmd x).pipe q = s.pipe q := rfl
@[simp] theorem State.setCmd_netPort (x : Cmd) (s : State) (q : Nat) : (s.setCmd x).netPort q = s.netPort q := rfl
@[simp] theorem State.setCmd_island (x : Cmd) (s : State) (q : Nat) : (s.setCmd x).island q = s.island q := rfl
@[simp] theorem State.setCmd_pmuVal (x : Cmd) (s : State) (q : Nat) : (s.setCmd x).pmuVal q = s.pmuVal q := rfl

@[simp] theorem State.setSys_lane (x : SysSt) (s : State) (q : Nat) : (s.setSys x).lane q = s.lane q := rfl
@[simp] theorem State.setSys_fram (x : SysSt) (s : State) (q : Nat) : (s.setSys x).fram q = s.fram q := rfl
@[simp] theorem State.setSys_session (x : SysSt) (s : State) (q : Nat) : (s.setSys x).session q = s.session q := rfl
@[simp] theorem State.setSys_grant (x : SysSt) (s : State) (q : Nat) : (s.setSys x).grant q = s.grant q := rfl
@[simp] theorem State.setSys_actOf (x : SysSt) (s : State) (q : Nat) : (s.setSys x).actOf q = s.actOf q := rfl
@[simp] theorem State.setSys_term (x : SysSt) (s : State) (q r : Nat) : (s.setSys x).term q r = s.term q r := rfl
@[simp] theorem State.setSys_cluster (x : SysSt) (s : State) (q : Nat) : (s.setSys x).cluster q = s.cluster q := rfl
@[simp] theorem State.setSys_thread (x : SysSt) (s : State) (q r : Nat) : (s.setSys x).thread q r = s.thread q r := rfl
@[simp] theorem State.setSys_node (x : SysSt) (s : State) (q : Node) : (s.setSys x).node q = s.node q := rfl
@[simp] theorem State.setSys_tmdTree (x : SysSt) (s : State) (q : Nat) : (s.setSys x).tmdTree q = s.tmdTree q := rfl
@[simp] theorem State.setSys_tmuPort (x : SysSt) (s : State) (q : Nat) : (s.setSys x).tmuPort q = s.tmuPort q := rfl
@[simp] theorem State.setSys_cph (x : SysSt) (s : State) (q : Nat) : (s.setSys x).cph q = s.cph q := rfl
@[simp] theorem State.setSys_crLane (x : SysSt) (s : State) (q : LaneId) : (s.setSys x).crLane q = s.crLane q := rfl
@[simp] theorem State.setSys_pipe (x : SysSt) (s : State) (q : Nat) : (s.setSys x).pipe q = s.pipe q := rfl
@[simp] theorem State.setSys_netPort (x : SysSt) (s : State) (q : Nat) : (s.setSys x).netPort q = s.netPort q := rfl
@[simp] theorem State.setSys_island (x : SysSt) (s : State) (q : Nat) : (s.setSys x).island q = s.island q := rfl
@[simp] theorem State.setSys_pmuVal (x : SysSt) (s : State) (q : Nat) : (s.setSys x).pmuVal q = s.pmuVal q := rfl

@[simp] theorem State.setRst_lane (x : RstCtl) (s : State) (q : Nat) : (s.setRst x).lane q = s.lane q := rfl
@[simp] theorem State.setRst_fram (x : RstCtl) (s : State) (q : Nat) : (s.setRst x).fram q = s.fram q := rfl
@[simp] theorem State.setRst_session (x : RstCtl) (s : State) (q : Nat) : (s.setRst x).session q = s.session q := rfl
@[simp] theorem State.setRst_grant (x : RstCtl) (s : State) (q : Nat) : (s.setRst x).grant q = s.grant q := rfl
@[simp] theorem State.setRst_actOf (x : RstCtl) (s : State) (q : Nat) : (s.setRst x).actOf q = s.actOf q := rfl
@[simp] theorem State.setRst_term (x : RstCtl) (s : State) (q r : Nat) : (s.setRst x).term q r = s.term q r := rfl
@[simp] theorem State.setRst_cluster (x : RstCtl) (s : State) (q : Nat) : (s.setRst x).cluster q = s.cluster q := rfl
@[simp] theorem State.setRst_thread (x : RstCtl) (s : State) (q r : Nat) : (s.setRst x).thread q r = s.thread q r := rfl
@[simp] theorem State.setRst_node (x : RstCtl) (s : State) (q : Node) : (s.setRst x).node q = s.node q := rfl
@[simp] theorem State.setRst_tmdTree (x : RstCtl) (s : State) (q : Nat) : (s.setRst x).tmdTree q = s.tmdTree q := rfl
@[simp] theorem State.setRst_tmuPort (x : RstCtl) (s : State) (q : Nat) : (s.setRst x).tmuPort q = s.tmuPort q := rfl
@[simp] theorem State.setRst_cph (x : RstCtl) (s : State) (q : Nat) : (s.setRst x).cph q = s.cph q := rfl
@[simp] theorem State.setRst_crLane (x : RstCtl) (s : State) (q : LaneId) : (s.setRst x).crLane q = s.crLane q := rfl
@[simp] theorem State.setRst_pipe (x : RstCtl) (s : State) (q : Nat) : (s.setRst x).pipe q = s.pipe q := rfl
@[simp] theorem State.setRst_netPort (x : RstCtl) (s : State) (q : Nat) : (s.setRst x).netPort q = s.netPort q := rfl
@[simp] theorem State.setRst_island (x : RstCtl) (s : State) (q : Nat) : (s.setRst x).island q = s.island q := rfl
@[simp] theorem State.setRst_pmuVal (x : RstCtl) (s : State) (q : Nat) : (s.setRst x).pmuVal q = s.pmuVal q := rfl

@[simp] theorem State.setNvm_lane (x : NvmSt) (s : State) (q : Nat) : (s.setNvm x).lane q = s.lane q := rfl
@[simp] theorem State.setNvm_fram (x : NvmSt) (s : State) (q : Nat) : (s.setNvm x).fram q = s.fram q := rfl
@[simp] theorem State.setNvm_session (x : NvmSt) (s : State) (q : Nat) : (s.setNvm x).session q = s.session q := rfl
@[simp] theorem State.setNvm_grant (x : NvmSt) (s : State) (q : Nat) : (s.setNvm x).grant q = s.grant q := rfl
@[simp] theorem State.setNvm_actOf (x : NvmSt) (s : State) (q : Nat) : (s.setNvm x).actOf q = s.actOf q := rfl
@[simp] theorem State.setNvm_term (x : NvmSt) (s : State) (q r : Nat) : (s.setNvm x).term q r = s.term q r := rfl
@[simp] theorem State.setNvm_cluster (x : NvmSt) (s : State) (q : Nat) : (s.setNvm x).cluster q = s.cluster q := rfl
@[simp] theorem State.setNvm_thread (x : NvmSt) (s : State) (q r : Nat) : (s.setNvm x).thread q r = s.thread q r := rfl
@[simp] theorem State.setNvm_node (x : NvmSt) (s : State) (q : Node) : (s.setNvm x).node q = s.node q := rfl
@[simp] theorem State.setNvm_tmdTree (x : NvmSt) (s : State) (q : Nat) : (s.setNvm x).tmdTree q = s.tmdTree q := rfl
@[simp] theorem State.setNvm_tmuPort (x : NvmSt) (s : State) (q : Nat) : (s.setNvm x).tmuPort q = s.tmuPort q := rfl
@[simp] theorem State.setNvm_cph (x : NvmSt) (s : State) (q : Nat) : (s.setNvm x).cph q = s.cph q := rfl
@[simp] theorem State.setNvm_crLane (x : NvmSt) (s : State) (q : LaneId) : (s.setNvm x).crLane q = s.crLane q := rfl
@[simp] theorem State.setNvm_pipe (x : NvmSt) (s : State) (q : Nat) : (s.setNvm x).pipe q = s.pipe q := rfl
@[simp] theorem State.setNvm_netPort (x : NvmSt) (s : State) (q : Nat) : (s.setNvm x).netPort q = s.netPort q := rfl
@[simp] theorem State.setNvm_island (x : NvmSt) (s : State) (q : Nat) : (s.setNvm x).island q = s.island q := rfl
@[simp] theorem State.setNvm_pmuVal (x : NvmSt) (s : State) (q : Nat) : (s.setNvm x).pmuVal q = s.pmuVal q := rfl

@[simp] theorem State.setPmu_lane (i : Nat) (x : PmuVal) (s : State) (q : Nat) : (s.setPmu i x).lane q = s.lane q := rfl
@[simp] theorem State.setPmu_fram (i : Nat) (x : PmuVal) (s : State) (q : Nat) : (s.setPmu i x).fram q = s.fram q := rfl
@[simp] theorem State.setPmu_session (i : Nat) (x : PmuVal) (s : State) (q : Nat) : (s.setPmu i x).session q = s.session q := rfl
@[simp] theorem State.setPmu_grant (i : Nat) (x : PmuVal) (s : State) (q : Nat) : (s.setPmu i x).grant q = s.grant q := rfl
@[simp] theorem State.setPmu_actOf (i : Nat) (x : PmuVal) (s : State) (q : Nat) : (s.setPmu i x).actOf q = s.actOf q := rfl
@[simp] theorem State.setPmu_term (i : Nat) (x : PmuVal) (s : State) (q r : Nat) : (s.setPmu i x).term q r = s.term q r := rfl
@[simp] theorem State.setPmu_cluster (i : Nat) (x : PmuVal) (s : State) (q : Nat) : (s.setPmu i x).cluster q = s.cluster q := rfl
@[simp] theorem State.setPmu_thread (i : Nat) (x : PmuVal) (s : State) (q r : Nat) : (s.setPmu i x).thread q r = s.thread q r := rfl
@[simp] theorem State.setPmu_node (i : Nat) (x : PmuVal) (s : State) (q : Node) : (s.setPmu i x).node q = s.node q := rfl
@[simp] theorem State.setPmu_tmdTree (i : Nat) (x : PmuVal) (s : State) (q : Nat) : (s.setPmu i x).tmdTree q = s.tmdTree q := rfl
@[simp] theorem State.setPmu_tmuPort (i : Nat) (x : PmuVal) (s : State) (q : Nat) : (s.setPmu i x).tmuPort q = s.tmuPort q := rfl
@[simp] theorem State.setPmu_cph (i : Nat) (x : PmuVal) (s : State) (q : Nat) : (s.setPmu i x).cph q = s.cph q := rfl
@[simp] theorem State.setPmu_crLane (i : Nat) (x : PmuVal) (s : State) (q : LaneId) : (s.setPmu i x).crLane q = s.crLane q := rfl
@[simp] theorem State.setPmu_pipe (i : Nat) (x : PmuVal) (s : State) (q : Nat) : (s.setPmu i x).pipe q = s.pipe q := rfl
@[simp] theorem State.setPmu_netPort (i : Nat) (x : PmuVal) (s : State) (q : Nat) : (s.setPmu i x).netPort q = s.netPort q := rfl
@[simp] theorem State.setPmu_island (i : Nat) (x : PmuVal) (s : State) (q : Nat) : (s.setPmu i x).island q = s.island q := rfl

/-! A record set twice keeps the second value. -/

@[simp] theorem State.setIsland_setIsland (i : Nat) (x y : Island) (s : State) : (s.setIsland i x).setIsland i y = s.setIsland i y := by simp [State.setIsland, Tbl.set_set]
@[simp] theorem State.setFram_setFram (n : Nat) (x y : Framing) (s : State) : (s.setFram n x).setFram n y = s.setFram n y := by simp [State.setFram, Tbl.set_set]
@[simp] theorem State.setSession_setSession (i : Nat) (x y : Session) (s : State) : (s.setSession i x).setSession i y = s.setSession i y := by simp [State.setSession, Tbl.set_set]
@[simp] theorem State.setLane_setLane (n : Nat) (x y : Lane) (s : State) : (s.setLane n x).setLane n y = s.setLane n y := by simp [State.setLane, Tbl.set_set]
@[simp] theorem State.setGrant_setGrant (n : Nat) (x y : Grt) (s : State) : (s.setGrant n x).setGrant n y = s.setGrant n y := by simp [State.setGrant, Tbl.set_set]
@[simp] theorem State.setAct_setAct (n : Nat) (x y : Act) (s : State) : (s.setAct n x).setAct n y = s.setAct n y := by simp [State.setAct, Tbl.set_set]
@[simp] theorem State.setTerm_setTerm (n k : Nat) (x y : TermX) (s : State) : (s.setTerm n k x).setTerm n k y = s.setTerm n k y := by simp [State.setTerm, Tbl.set_set]
@[simp] theorem State.setCluster_setCluster (k : Nat) (x y : Cluster) (s : State) : (s.setCluster k x).setCluster k y = s.setCluster k y := by simp [State.setCluster, Tbl.set_set]
@[simp] theorem State.setThread_setThread (k r : Nat) (x y : Thread) (s : State) : (s.setThread k r x).setThread k r y = s.setThread k r y := by simp [State.setThread, Tbl.set_set]
@[simp] theorem State.setNode_setNode (d : Node) (x y : NodeX) (s : State) : (s.setNode d x).setNode d y = s.setNode d y := by simp [State.setNode, Tbl.set_set]
@[simp] theorem State.setTmdTree_setTmdTree (n : Nat) (x y : TmdTree) (s : State) : (s.setTmdTree n x).setTmdTree n y = s.setTmdTree n y := by simp [State.setTmdTree, Tbl.set_set]
@[simp] theorem State.setTmuPort_setTmuPort (p : Nat) (x y : TmuPort) (s : State) : (s.setTmuPort p x).setTmuPort p y = s.setTmuPort p y := by simp [State.setTmuPort, Tbl.set_set]
@[simp] theorem State.setCph_setCph (d : Nat) (x y : Cipher) (s : State) : (s.setCph d x).setCph d y = s.setCph d y := by simp [State.setCph, Tbl.set_set]
@[simp] theorem State.setCrLane_setCrLane (l : LaneId) (x y : CrLane) (s : State) : (s.setCrLane l x).setCrLane l y = s.setCrLane l y := by simp [State.setCrLane, Tbl.set_set]
@[simp] theorem State.setPipe_setPipe (k : Nat) (x y : Pipe) (s : State) : (s.setPipe k x).setPipe k y = s.setPipe k y := by simp [State.setPipe, Tbl.set_set]
@[simp] theorem State.setNetPort_setNetPort (n : Nat) (x y : NetPort) (s : State) : (s.setNetPort n x).setNetPort n y = s.setNetPort n y := by simp [State.setNetPort, Tbl.set_set]
@[simp] theorem State.setTim_setTim (x y : Tim) (s : State) : (s.setTim x).setTim y = s.setTim y := rfl
@[simp] theorem State.setPair_setPair (x y : PairSt) (s : State) : (s.setPair x).setPair y = s.setPair y := rfl
@[simp] theorem State.setCmd_setCmd (x y : Cmd) (s : State) : (s.setCmd x).setCmd y = s.setCmd y := rfl
@[simp] theorem State.setSys_setSys (x y : SysSt) (s : State) : (s.setSys x).setSys y = s.setSys y := rfl
@[simp] theorem State.setRst_setRst (x y : RstCtl) (s : State) : (s.setRst x).setRst y = s.setRst y := rfl
@[simp] theorem State.setNvm_setNvm (x y : NvmSt) (s : State) : (s.setNvm x).setNvm y = s.setNvm y := rfl
@[simp] theorem State.setPmu_setPmu (i : Nat) (x y : PmuVal) (s : State) : (s.setPmu i x).setPmu i y = s.setPmu i y := by simp [State.setPmu, Tbl.set_set]

/-! passTo. -/

@[simp] theorem passTo_mem (d : Nat) (s : State) : (passTo d s).mem = s.mem := (ev_passTo d s).keeps .mem rfl
@[simp] theorem passTo_ev (d : Nat) (s : State) : (passTo d s).ev = s.ev := (ev_passTo d s).keeps .ev rfl
@[simp] theorem passTo_sess (d : Nat) (s : State) : (passTo d s).sess = s.sess := (ev_passTo d s).keeps .sess rfl
@[simp] theorem passTo_freeCount (d : Nat) (s : State) : (passTo d s).freeCount = s.freeCount := (ev_passTo d s).keeps .freeCount rfl
@[simp] theorem passTo_islands (d : Nat) (s : State) : (passTo d s).islands = s.islands := (ev_passTo d s).keeps .islands rfl
@[simp] theorem passTo_wrapped (d : Nat) (s : State) : (passTo d s).wrapped = s.wrapped := (ev_passTo d s).keeps .wrapped rfl
@[simp] theorem passTo_rst (d : Nat) (s : State) : (passTo d s).rst = s.rst := (ev_passTo d s).keeps .rst rfl
@[simp] theorem passTo_cmd (d : Nat) (s : State) : (passTo d s).cmd = s.cmd := (ev_passTo d s).keeps .cmd rfl
@[simp] theorem passTo_bpm (d : Nat) (s : State) : (passTo d s).bpm = s.bpm := (ev_passTo d s).keeps .bpm rfl
@[simp] theorem passTo_lanes (d : Nat) (s : State) : (passTo d s).lanes = s.lanes := (ev_passTo d s).keeps .lanes rfl
@[simp] theorem passTo_framing (d : Nat) (s : State) : (passTo d s).framing = s.framing := (ev_passTo d s).keeps .framing rfl
@[simp] theorem passTo_pool (d : Nat) (s : State) : (passTo d s).pool = s.pool := (ev_passTo d s).keeps .pool rfl
@[simp] theorem passTo_encoders (d : Nat) (s : State) : (passTo d s).encoders = s.encoders := (ev_passTo d s).keeps .encoders rfl
@[simp] theorem passTo_act (d : Nat) (s : State) : (passTo d s).act = s.act := (ev_passTo d s).keeps .act rfl
@[simp] theorem passTo_terms (d : Nat) (s : State) : (passTo d s).terms = s.terms := (ev_passTo d s).keeps .terms rfl
@[simp] theorem passTo_grt (d : Nat) (s : State) : (passTo d s).grt = s.grt := (ev_passTo d s).keeps .grt rfl
@[simp] theorem passTo_clusters (d : Nat) (s : State) : (passTo d s).clusters = s.clusters := (ev_passTo d s).keeps .clusters rfl
@[simp] theorem passTo_threads (d : Nat) (s : State) : (passTo d s).threads = s.threads := (ev_passTo d s).keeps .threads rfl
@[simp] theorem passTo_queues (d : Nat) (s : State) : (passTo d s).queues = s.queues := (ev_passTo d s).keeps .queues rfl
@[simp] theorem passTo_crl (d : Nat) (s : State) : (passTo d s).crl = s.crl := (ev_passTo d s).keeps .crl rfl
@[simp] theorem passTo_ohp (d : Nat) (s : State) : (passTo d s).ohp = s.ohp := (ev_passTo d s).keeps .ohp rfl
@[simp] theorem passTo_cipher (d : Nat) (s : State) : (passTo d s).cipher = s.cipher := (ev_passTo d s).keeps .cipher rfl
@[simp] theorem passTo_upSdus (d : Nat) (s : State) : (passTo d s).upSdus = s.upSdus := (ev_passTo d s).keeps .upSdus rfl
@[simp] theorem passTo_txts (d : Nat) (s : State) : (passTo d s).txts = s.txts := (ev_passTo d s).keeps .txts rfl
@[simp] theorem passTo_cls (d : Nat) (s : State) : (passTo d s).cls = s.cls := (ev_passTo d s).keeps .cls rfl
@[simp] theorem passTo_lpm (d : Nat) (s : State) : (passTo d s).lpm = s.lpm := (ev_passTo d s).keeps .lpm rfl
@[simp] theorem passTo_merge (d : Nat) (s : State) : (passTo d s).merge = s.merge := (ev_passTo d s).keeps .merge rfl
@[simp] theorem passTo_ports (d : Nat) (s : State) : (passTo d s).ports = s.ports := (ev_passTo d s).keeps .ports rfl
@[simp] theorem passTo_pair (d : Nat) (s : State) : (passTo d s).pair = s.pair := (ev_passTo d s).keeps .pair rfl
@[simp] theorem passTo_sys (d : Nat) (s : State) : (passTo d s).sys = s.sys := (ev_passTo d s).keeps .sys rfl
@[simp] theorem passTo_nvm (d : Nat) (s : State) : (passTo d s).nvm = s.nvm := (ev_passTo d s).keeps .nvm rfl
@[simp] theorem passTo_pending (d : Nat) (s : State) : (passTo d s).pending = s.pending := (ev_passTo d s).keeps .pending rfl
@[simp] theorem passTo_lane (d : Nat) (s : State) (q : Nat) : (passTo d s).lane q = s.lane q := by simp [State.lane]
@[simp] theorem passTo_fram (d : Nat) (s : State) (q : Nat) : (passTo d s).fram q = s.fram q := by simp [State.fram]
@[simp] theorem passTo_session (d : Nat) (s : State) (q : Nat) : (passTo d s).session q = s.session q := by simp [State.session]
@[simp] theorem passTo_grant (d : Nat) (s : State) (q : Nat) : (passTo d s).grant q = s.grant q := by simp [State.grant]
@[simp] theorem passTo_actOf (d : Nat) (s : State) (q : Nat) : (passTo d s).actOf q = s.actOf q := by simp [State.actOf]
@[simp] theorem passTo_term (d : Nat) (s : State) (q r : Nat) : (passTo d s).term q r = s.term q r := by simp [State.term]
@[simp] theorem passTo_cluster (d : Nat) (s : State) (q : Nat) : (passTo d s).cluster q = s.cluster q := by simp [State.cluster]
@[simp] theorem passTo_thread (d : Nat) (s : State) (q r : Nat) : (passTo d s).thread q r = s.thread q r := by simp [State.thread]
@[simp] theorem passTo_node (d : Nat) (s : State) (q : Node) : (passTo d s).node q = s.node q := by simp [State.node]
@[simp] theorem passTo_tmdTree (d : Nat) (s : State) (q : Nat) : (passTo d s).tmdTree q = s.tmdTree q := by simp [State.tmdTree]
@[simp] theorem passTo_tmuPort (d : Nat) (s : State) (q : Nat) : (passTo d s).tmuPort q = s.tmuPort q := by simp [State.tmuPort]
@[simp] theorem passTo_cph (d : Nat) (s : State) (q : Nat) : (passTo d s).cph q = s.cph q := by simp [State.cph]
@[simp] theorem passTo_crLane (d : Nat) (s : State) (q : LaneId) : (passTo d s).crLane q = s.crLane q := by simp [State.crLane]
@[simp] theorem passTo_pipe (d : Nat) (s : State) (q : Nat) : (passTo d s).pipe q = s.pipe q := by simp [State.pipe]
@[simp] theorem passTo_netPort (d : Nat) (s : State) (q : Nat) : (passTo d s).netPort q = s.netPort q := by simp [State.netPort]
@[simp] theorem passTo_island (d : Nat) (s : State) (q : Nat) : (passTo d s).island q = s.island q := by simp [State.island]
@[simp] theorem passTo_up (d : Nat) (s : State) (q : Nat) : (passTo d s).up q = s.up q := by simp [State.up]
@[simp] theorem rdx_passTo (d : Nat) (s : State) (f : Fld) (i x : Nat) : rdx f i x (passTo d s) = rdx f i x s := by
  simp [rdx, State.get]
@[simp] theorem rd_passTo (d : Nat) (s : State) (f : Fld) (i : Nat) : rd f i (passTo d s) = rd f i s := rdx_passTo ..

/-! passToPtp. -/

@[simp] theorem passToPtp_mem (d : Nat) (s : State) : (passToPtp d s).mem = s.mem := (ev_passToPtp d s).keeps .mem rfl
@[simp] theorem passToPtp_ev (d : Nat) (s : State) : (passToPtp d s).ev = s.ev := (ev_passToPtp d s).keeps .ev rfl
@[simp] theorem passToPtp_sess (d : Nat) (s : State) : (passToPtp d s).sess = s.sess := (ev_passToPtp d s).keeps .sess rfl
@[simp] theorem passToPtp_freeCount (d : Nat) (s : State) : (passToPtp d s).freeCount = s.freeCount := (ev_passToPtp d s).keeps .freeCount rfl
@[simp] theorem passToPtp_islands (d : Nat) (s : State) : (passToPtp d s).islands = s.islands := (ev_passToPtp d s).keeps .islands rfl
@[simp] theorem passToPtp_wrapped (d : Nat) (s : State) : (passToPtp d s).wrapped = s.wrapped := (ev_passToPtp d s).keeps .wrapped rfl
@[simp] theorem passToPtp_rst (d : Nat) (s : State) : (passToPtp d s).rst = s.rst := (ev_passToPtp d s).keeps .rst rfl
@[simp] theorem passToPtp_cmd (d : Nat) (s : State) : (passToPtp d s).cmd = s.cmd := (ev_passToPtp d s).keeps .cmd rfl
@[simp] theorem passToPtp_bpm (d : Nat) (s : State) : (passToPtp d s).bpm = s.bpm := (ev_passToPtp d s).keeps .bpm rfl
@[simp] theorem passToPtp_lanes (d : Nat) (s : State) : (passToPtp d s).lanes = s.lanes := (ev_passToPtp d s).keeps .lanes rfl
@[simp] theorem passToPtp_framing (d : Nat) (s : State) : (passToPtp d s).framing = s.framing := (ev_passToPtp d s).keeps .framing rfl
@[simp] theorem passToPtp_pool (d : Nat) (s : State) : (passToPtp d s).pool = s.pool := (ev_passToPtp d s).keeps .pool rfl
@[simp] theorem passToPtp_encoders (d : Nat) (s : State) : (passToPtp d s).encoders = s.encoders := (ev_passToPtp d s).keeps .encoders rfl
@[simp] theorem passToPtp_act (d : Nat) (s : State) : (passToPtp d s).act = s.act := (ev_passToPtp d s).keeps .act rfl
@[simp] theorem passToPtp_terms (d : Nat) (s : State) : (passToPtp d s).terms = s.terms := (ev_passToPtp d s).keeps .terms rfl
@[simp] theorem passToPtp_grt (d : Nat) (s : State) : (passToPtp d s).grt = s.grt := (ev_passToPtp d s).keeps .grt rfl
@[simp] theorem passToPtp_clusters (d : Nat) (s : State) : (passToPtp d s).clusters = s.clusters := (ev_passToPtp d s).keeps .clusters rfl
@[simp] theorem passToPtp_threads (d : Nat) (s : State) : (passToPtp d s).threads = s.threads := (ev_passToPtp d s).keeps .threads rfl
@[simp] theorem passToPtp_queues (d : Nat) (s : State) : (passToPtp d s).queues = s.queues := (ev_passToPtp d s).keeps .queues rfl
@[simp] theorem passToPtp_crl (d : Nat) (s : State) : (passToPtp d s).crl = s.crl := (ev_passToPtp d s).keeps .crl rfl
@[simp] theorem passToPtp_ohp (d : Nat) (s : State) : (passToPtp d s).ohp = s.ohp := (ev_passToPtp d s).keeps .ohp rfl
@[simp] theorem passToPtp_cipher (d : Nat) (s : State) : (passToPtp d s).cipher = s.cipher := (ev_passToPtp d s).keeps .cipher rfl
@[simp] theorem passToPtp_upSdus (d : Nat) (s : State) : (passToPtp d s).upSdus = s.upSdus := (ev_passToPtp d s).keeps .upSdus rfl
@[simp] theorem passToPtp_txts (d : Nat) (s : State) : (passToPtp d s).txts = s.txts := (ev_passToPtp d s).keeps .txts rfl
@[simp] theorem passToPtp_cls (d : Nat) (s : State) : (passToPtp d s).cls = s.cls := (ev_passToPtp d s).keeps .cls rfl
@[simp] theorem passToPtp_lpm (d : Nat) (s : State) : (passToPtp d s).lpm = s.lpm := (ev_passToPtp d s).keeps .lpm rfl
@[simp] theorem passToPtp_merge (d : Nat) (s : State) : (passToPtp d s).merge = s.merge := (ev_passToPtp d s).keeps .merge rfl
@[simp] theorem passToPtp_ports (d : Nat) (s : State) : (passToPtp d s).ports = s.ports := (ev_passToPtp d s).keeps .ports rfl
@[simp] theorem passToPtp_pair (d : Nat) (s : State) : (passToPtp d s).pair = s.pair := (ev_passToPtp d s).keeps .pair rfl
@[simp] theorem passToPtp_sys (d : Nat) (s : State) : (passToPtp d s).sys = s.sys := (ev_passToPtp d s).keeps .sys rfl
@[simp] theorem passToPtp_nvm (d : Nat) (s : State) : (passToPtp d s).nvm = s.nvm := (ev_passToPtp d s).keeps .nvm rfl
@[simp] theorem passToPtp_pending (d : Nat) (s : State) : (passToPtp d s).pending = s.pending := (ev_passToPtp d s).keeps .pending rfl
@[simp] theorem passToPtp_lane (d : Nat) (s : State) (q : Nat) : (passToPtp d s).lane q = s.lane q := by simp [State.lane]
@[simp] theorem passToPtp_fram (d : Nat) (s : State) (q : Nat) : (passToPtp d s).fram q = s.fram q := by simp [State.fram]
@[simp] theorem passToPtp_session (d : Nat) (s : State) (q : Nat) : (passToPtp d s).session q = s.session q := by simp [State.session]
@[simp] theorem passToPtp_grant (d : Nat) (s : State) (q : Nat) : (passToPtp d s).grant q = s.grant q := by simp [State.grant]
@[simp] theorem passToPtp_actOf (d : Nat) (s : State) (q : Nat) : (passToPtp d s).actOf q = s.actOf q := by simp [State.actOf]
@[simp] theorem passToPtp_term (d : Nat) (s : State) (q r : Nat) : (passToPtp d s).term q r = s.term q r := by simp [State.term]
@[simp] theorem passToPtp_cluster (d : Nat) (s : State) (q : Nat) : (passToPtp d s).cluster q = s.cluster q := by simp [State.cluster]
@[simp] theorem passToPtp_thread (d : Nat) (s : State) (q r : Nat) : (passToPtp d s).thread q r = s.thread q r := by simp [State.thread]
@[simp] theorem passToPtp_node (d : Nat) (s : State) (q : Node) : (passToPtp d s).node q = s.node q := by simp [State.node]
@[simp] theorem passToPtp_tmdTree (d : Nat) (s : State) (q : Nat) : (passToPtp d s).tmdTree q = s.tmdTree q := by simp [State.tmdTree]
@[simp] theorem passToPtp_tmuPort (d : Nat) (s : State) (q : Nat) : (passToPtp d s).tmuPort q = s.tmuPort q := by simp [State.tmuPort]
@[simp] theorem passToPtp_cph (d : Nat) (s : State) (q : Nat) : (passToPtp d s).cph q = s.cph q := by simp [State.cph]
@[simp] theorem passToPtp_crLane (d : Nat) (s : State) (q : LaneId) : (passToPtp d s).crLane q = s.crLane q := by simp [State.crLane]
@[simp] theorem passToPtp_pipe (d : Nat) (s : State) (q : Nat) : (passToPtp d s).pipe q = s.pipe q := by simp [State.pipe]
@[simp] theorem passToPtp_netPort (d : Nat) (s : State) (q : Nat) : (passToPtp d s).netPort q = s.netPort q := by simp [State.netPort]
@[simp] theorem passToPtp_island (d : Nat) (s : State) (q : Nat) : (passToPtp d s).island q = s.island q := by simp [State.island]
@[simp] theorem passToPtp_up (d : Nat) (s : State) (q : Nat) : (passToPtp d s).up q = s.up q := by simp [State.up]
@[simp] theorem rdx_passToPtp (d : Nat) (s : State) (f : Fld) (i x : Nat) : rdx f i x (passToPtp d s) = rdx f i x s := by
  simp [rdx, State.get]
@[simp] theorem rd_passToPtp (d : Nat) (s : State) (f : Fld) (i : Nat) : rd f i (passToPtp d s) = rd f i s := rdx_passToPtp ..

/-! passToFrame. -/

@[simp] theorem passToFrame_mem (d : Nat) (s : State) : (passToFrame d s).mem = s.mem := (ev_passToFrame d s).keeps .mem rfl
@[simp] theorem passToFrame_ev (d : Nat) (s : State) : (passToFrame d s).ev = s.ev := (ev_passToFrame d s).keeps .ev rfl
@[simp] theorem passToFrame_sess (d : Nat) (s : State) : (passToFrame d s).sess = s.sess := (ev_passToFrame d s).keeps .sess rfl
@[simp] theorem passToFrame_freeCount (d : Nat) (s : State) : (passToFrame d s).freeCount = s.freeCount := (ev_passToFrame d s).keeps .freeCount rfl
@[simp] theorem passToFrame_islands (d : Nat) (s : State) : (passToFrame d s).islands = s.islands := (ev_passToFrame d s).keeps .islands rfl
@[simp] theorem passToFrame_wrapped (d : Nat) (s : State) : (passToFrame d s).wrapped = s.wrapped := (ev_passToFrame d s).keeps .wrapped rfl
@[simp] theorem passToFrame_rst (d : Nat) (s : State) : (passToFrame d s).rst = s.rst := (ev_passToFrame d s).keeps .rst rfl
@[simp] theorem passToFrame_cmd (d : Nat) (s : State) : (passToFrame d s).cmd = s.cmd := (ev_passToFrame d s).keeps .cmd rfl
@[simp] theorem passToFrame_bpm (d : Nat) (s : State) : (passToFrame d s).bpm = s.bpm := (ev_passToFrame d s).keeps .bpm rfl
@[simp] theorem passToFrame_lanes (d : Nat) (s : State) : (passToFrame d s).lanes = s.lanes := (ev_passToFrame d s).keeps .lanes rfl
@[simp] theorem passToFrame_framing (d : Nat) (s : State) : (passToFrame d s).framing = s.framing := (ev_passToFrame d s).keeps .framing rfl
@[simp] theorem passToFrame_pool (d : Nat) (s : State) : (passToFrame d s).pool = s.pool := (ev_passToFrame d s).keeps .pool rfl
@[simp] theorem passToFrame_encoders (d : Nat) (s : State) : (passToFrame d s).encoders = s.encoders := (ev_passToFrame d s).keeps .encoders rfl
@[simp] theorem passToFrame_act (d : Nat) (s : State) : (passToFrame d s).act = s.act := (ev_passToFrame d s).keeps .act rfl
@[simp] theorem passToFrame_terms (d : Nat) (s : State) : (passToFrame d s).terms = s.terms := (ev_passToFrame d s).keeps .terms rfl
@[simp] theorem passToFrame_grt (d : Nat) (s : State) : (passToFrame d s).grt = s.grt := (ev_passToFrame d s).keeps .grt rfl
@[simp] theorem passToFrame_clusters (d : Nat) (s : State) : (passToFrame d s).clusters = s.clusters := (ev_passToFrame d s).keeps .clusters rfl
@[simp] theorem passToFrame_threads (d : Nat) (s : State) : (passToFrame d s).threads = s.threads := (ev_passToFrame d s).keeps .threads rfl
@[simp] theorem passToFrame_queues (d : Nat) (s : State) : (passToFrame d s).queues = s.queues := (ev_passToFrame d s).keeps .queues rfl
@[simp] theorem passToFrame_crl (d : Nat) (s : State) : (passToFrame d s).crl = s.crl := (ev_passToFrame d s).keeps .crl rfl
@[simp] theorem passToFrame_ohp (d : Nat) (s : State) : (passToFrame d s).ohp = s.ohp := (ev_passToFrame d s).keeps .ohp rfl
@[simp] theorem passToFrame_cipher (d : Nat) (s : State) : (passToFrame d s).cipher = s.cipher := (ev_passToFrame d s).keeps .cipher rfl
@[simp] theorem passToFrame_upSdus (d : Nat) (s : State) : (passToFrame d s).upSdus = s.upSdus := (ev_passToFrame d s).keeps .upSdus rfl
@[simp] theorem passToFrame_txts (d : Nat) (s : State) : (passToFrame d s).txts = s.txts := (ev_passToFrame d s).keeps .txts rfl
@[simp] theorem passToFrame_cls (d : Nat) (s : State) : (passToFrame d s).cls = s.cls := (ev_passToFrame d s).keeps .cls rfl
@[simp] theorem passToFrame_lpm (d : Nat) (s : State) : (passToFrame d s).lpm = s.lpm := (ev_passToFrame d s).keeps .lpm rfl
@[simp] theorem passToFrame_merge (d : Nat) (s : State) : (passToFrame d s).merge = s.merge := (ev_passToFrame d s).keeps .merge rfl
@[simp] theorem passToFrame_ports (d : Nat) (s : State) : (passToFrame d s).ports = s.ports := (ev_passToFrame d s).keeps .ports rfl
@[simp] theorem passToFrame_pair (d : Nat) (s : State) : (passToFrame d s).pair = s.pair := (ev_passToFrame d s).keeps .pair rfl
@[simp] theorem passToFrame_sys (d : Nat) (s : State) : (passToFrame d s).sys = s.sys := (ev_passToFrame d s).keeps .sys rfl
@[simp] theorem passToFrame_nvm (d : Nat) (s : State) : (passToFrame d s).nvm = s.nvm := (ev_passToFrame d s).keeps .nvm rfl
@[simp] theorem passToFrame_pending (d : Nat) (s : State) : (passToFrame d s).pending = s.pending := (ev_passToFrame d s).keeps .pending rfl
@[simp] theorem passToFrame_lane (d : Nat) (s : State) (q : Nat) : (passToFrame d s).lane q = s.lane q := by simp [State.lane]
@[simp] theorem passToFrame_fram (d : Nat) (s : State) (q : Nat) : (passToFrame d s).fram q = s.fram q := by simp [State.fram]
@[simp] theorem passToFrame_session (d : Nat) (s : State) (q : Nat) : (passToFrame d s).session q = s.session q := by simp [State.session]
@[simp] theorem passToFrame_grant (d : Nat) (s : State) (q : Nat) : (passToFrame d s).grant q = s.grant q := by simp [State.grant]
@[simp] theorem passToFrame_actOf (d : Nat) (s : State) (q : Nat) : (passToFrame d s).actOf q = s.actOf q := by simp [State.actOf]
@[simp] theorem passToFrame_term (d : Nat) (s : State) (q r : Nat) : (passToFrame d s).term q r = s.term q r := by simp [State.term]
@[simp] theorem passToFrame_cluster (d : Nat) (s : State) (q : Nat) : (passToFrame d s).cluster q = s.cluster q := by simp [State.cluster]
@[simp] theorem passToFrame_thread (d : Nat) (s : State) (q r : Nat) : (passToFrame d s).thread q r = s.thread q r := by simp [State.thread]
@[simp] theorem passToFrame_node (d : Nat) (s : State) (q : Node) : (passToFrame d s).node q = s.node q := by simp [State.node]
@[simp] theorem passToFrame_tmdTree (d : Nat) (s : State) (q : Nat) : (passToFrame d s).tmdTree q = s.tmdTree q := by simp [State.tmdTree]
@[simp] theorem passToFrame_tmuPort (d : Nat) (s : State) (q : Nat) : (passToFrame d s).tmuPort q = s.tmuPort q := by simp [State.tmuPort]
@[simp] theorem passToFrame_cph (d : Nat) (s : State) (q : Nat) : (passToFrame d s).cph q = s.cph q := by simp [State.cph]
@[simp] theorem passToFrame_crLane (d : Nat) (s : State) (q : LaneId) : (passToFrame d s).crLane q = s.crLane q := by simp [State.crLane]
@[simp] theorem passToFrame_pipe (d : Nat) (s : State) (q : Nat) : (passToFrame d s).pipe q = s.pipe q := by simp [State.pipe]
@[simp] theorem passToFrame_netPort (d : Nat) (s : State) (q : Nat) : (passToFrame d s).netPort q = s.netPort q := by simp [State.netPort]
@[simp] theorem passToFrame_island (d : Nat) (s : State) (q : Nat) : (passToFrame d s).island q = s.island q := by simp [State.island]
@[simp] theorem passToFrame_up (d : Nat) (s : State) (q : Nat) : (passToFrame d s).up q = s.up q := by simp [State.up]
@[simp] theorem rdx_passToFrame (d : Nat) (s : State) (f : Fld) (i x : Nat) : rdx f i x (passToFrame d s) = rdx f i x s := by
  simp [rdx, State.get]
@[simp] theorem rd_passToFrame (d : Nat) (s : State) (f : Fld) (i : Nat) : rd f i (passToFrame d s) = rd f i s := rdx_passToFrame ..

/-! setRead. -/

@[simp] theorem setRead_mem (v : Nat) (s : State) : (setRead v s).mem = s.mem := (ev_setRead v s).keeps .mem rfl
@[simp] theorem setRead_ev (v : Nat) (s : State) : (setRead v s).ev = s.ev := (ev_setRead v s).keeps .ev rfl
@[simp] theorem setRead_sess (v : Nat) (s : State) : (setRead v s).sess = s.sess := (ev_setRead v s).keeps .sess rfl
@[simp] theorem setRead_pmu (v : Nat) (s : State) : (setRead v s).pmu = s.pmu := (ev_setRead v s).keeps .pmu rfl
@[simp] theorem setRead_clk (v : Nat) (s : State) : (setRead v s).clk = s.clk := (ev_setRead v s).keeps .clk rfl
@[simp] theorem setRead_ptp (v : Nat) (s : State) : (setRead v s).ptp = s.ptp := (ev_setRead v s).keeps .ptp rfl
@[simp] theorem setRead_ptpFrac (v : Nat) (s : State) : (setRead v s).ptpFrac = s.ptpFrac := (ev_setRead v s).keeps .ptpFrac rfl
@[simp] theorem setRead_freeCount (v : Nat) (s : State) : (setRead v s).freeCount = s.freeCount := (ev_setRead v s).keeps .freeCount rfl
@[simp] theorem setRead_islands (v : Nat) (s : State) : (setRead v s).islands = s.islands := (ev_setRead v s).keeps .islands rfl
@[simp] theorem setRead_wrapped (v : Nat) (s : State) : (setRead v s).wrapped = s.wrapped := (ev_setRead v s).keeps .wrapped rfl
@[simp] theorem setRead_rst (v : Nat) (s : State) : (setRead v s).rst = s.rst := (ev_setRead v s).keeps .rst rfl
@[simp] theorem setRead_bpm (v : Nat) (s : State) : (setRead v s).bpm = s.bpm := (ev_setRead v s).keeps .bpm rfl
@[simp] theorem setRead_lanes (v : Nat) (s : State) : (setRead v s).lanes = s.lanes := (ev_setRead v s).keeps .lanes rfl
@[simp] theorem setRead_framing (v : Nat) (s : State) : (setRead v s).framing = s.framing := (ev_setRead v s).keeps .framing rfl
@[simp] theorem setRead_pool (v : Nat) (s : State) : (setRead v s).pool = s.pool := (ev_setRead v s).keeps .pool rfl
@[simp] theorem setRead_encoders (v : Nat) (s : State) : (setRead v s).encoders = s.encoders := (ev_setRead v s).keeps .encoders rfl
@[simp] theorem setRead_act (v : Nat) (s : State) : (setRead v s).act = s.act := (ev_setRead v s).keeps .act rfl
@[simp] theorem setRead_terms (v : Nat) (s : State) : (setRead v s).terms = s.terms := (ev_setRead v s).keeps .terms rfl
@[simp] theorem setRead_grt (v : Nat) (s : State) : (setRead v s).grt = s.grt := (ev_setRead v s).keeps .grt rfl
@[simp] theorem setRead_clusters (v : Nat) (s : State) : (setRead v s).clusters = s.clusters := (ev_setRead v s).keeps .clusters rfl
@[simp] theorem setRead_threads (v : Nat) (s : State) : (setRead v s).threads = s.threads := (ev_setRead v s).keeps .threads rfl
@[simp] theorem setRead_queues (v : Nat) (s : State) : (setRead v s).queues = s.queues := (ev_setRead v s).keeps .queues rfl
@[simp] theorem setRead_crl (v : Nat) (s : State) : (setRead v s).crl = s.crl := (ev_setRead v s).keeps .crl rfl
@[simp] theorem setRead_ohp (v : Nat) (s : State) : (setRead v s).ohp = s.ohp := (ev_setRead v s).keeps .ohp rfl
@[simp] theorem setRead_cipher (v : Nat) (s : State) : (setRead v s).cipher = s.cipher := (ev_setRead v s).keeps .cipher rfl
@[simp] theorem setRead_upSdus (v : Nat) (s : State) : (setRead v s).upSdus = s.upSdus := (ev_setRead v s).keeps .upSdus rfl
@[simp] theorem setRead_txts (v : Nat) (s : State) : (setRead v s).txts = s.txts := (ev_setRead v s).keeps .txts rfl
@[simp] theorem setRead_tim (v : Nat) (s : State) : (setRead v s).tim = s.tim := (ev_setRead v s).keeps .tim rfl
@[simp] theorem setRead_cls (v : Nat) (s : State) : (setRead v s).cls = s.cls := (ev_setRead v s).keeps .cls rfl
@[simp] theorem setRead_lpm (v : Nat) (s : State) : (setRead v s).lpm = s.lpm := (ev_setRead v s).keeps .lpm rfl
@[simp] theorem setRead_merge (v : Nat) (s : State) : (setRead v s).merge = s.merge := (ev_setRead v s).keeps .merge rfl
@[simp] theorem setRead_ports (v : Nat) (s : State) : (setRead v s).ports = s.ports := (ev_setRead v s).keeps .ports rfl
@[simp] theorem setRead_pair (v : Nat) (s : State) : (setRead v s).pair = s.pair := (ev_setRead v s).keeps .pair rfl
@[simp] theorem setRead_sys (v : Nat) (s : State) : (setRead v s).sys = s.sys := (ev_setRead v s).keeps .sys rfl
@[simp] theorem setRead_nvm (v : Nat) (s : State) : (setRead v s).nvm = s.nvm := (ev_setRead v s).keeps .nvm rfl
@[simp] theorem setRead_pending (v : Nat) (s : State) : (setRead v s).pending = s.pending := (ev_setRead v s).keeps .pending rfl
@[simp] theorem setRead_lane (v : Nat) (s : State) (q : Nat) : (setRead v s).lane q = s.lane q := by simp [State.lane]
@[simp] theorem setRead_fram (v : Nat) (s : State) (q : Nat) : (setRead v s).fram q = s.fram q := by simp [State.fram]
@[simp] theorem setRead_session (v : Nat) (s : State) (q : Nat) : (setRead v s).session q = s.session q := by simp [State.session]
@[simp] theorem setRead_grant (v : Nat) (s : State) (q : Nat) : (setRead v s).grant q = s.grant q := by simp [State.grant]
@[simp] theorem setRead_actOf (v : Nat) (s : State) (q : Nat) : (setRead v s).actOf q = s.actOf q := by simp [State.actOf]
@[simp] theorem setRead_term (v : Nat) (s : State) (q r : Nat) : (setRead v s).term q r = s.term q r := by simp [State.term]
@[simp] theorem setRead_cluster (v : Nat) (s : State) (q : Nat) : (setRead v s).cluster q = s.cluster q := by simp [State.cluster]
@[simp] theorem setRead_thread (v : Nat) (s : State) (q r : Nat) : (setRead v s).thread q r = s.thread q r := by simp [State.thread]
@[simp] theorem setRead_node (v : Nat) (s : State) (q : Node) : (setRead v s).node q = s.node q := by simp [State.node]
@[simp] theorem setRead_tmdTree (v : Nat) (s : State) (q : Nat) : (setRead v s).tmdTree q = s.tmdTree q := by simp [State.tmdTree]
@[simp] theorem setRead_tmuPort (v : Nat) (s : State) (q : Nat) : (setRead v s).tmuPort q = s.tmuPort q := by simp [State.tmuPort]
@[simp] theorem setRead_cph (v : Nat) (s : State) (q : Nat) : (setRead v s).cph q = s.cph q := by simp [State.cph]
@[simp] theorem setRead_crLane (v : Nat) (s : State) (q : LaneId) : (setRead v s).crLane q = s.crLane q := by simp [State.crLane]
@[simp] theorem setRead_pipe (v : Nat) (s : State) (q : Nat) : (setRead v s).pipe q = s.pipe q := by simp [State.pipe]
@[simp] theorem setRead_netPort (v : Nat) (s : State) (q : Nat) : (setRead v s).netPort q = s.netPort q := by simp [State.netPort]
@[simp] theorem setRead_island (v : Nat) (s : State) (q : Nat) : (setRead v s).island q = s.island q := by simp [State.island]
@[simp] theorem setRead_up (v : Nat) (s : State) (q : Nat) : (setRead v s).up q = s.up q := by simp [State.up]
@[simp] theorem setRead_pmuVal (v : Nat) (s : State) (q : Nat) : (setRead v s).pmuVal q = s.pmuVal q := by simp [State.pmuVal]
@[simp] theorem rdx_setRead (v : Nat) (s : State) (f : Fld) (i x : Nat) : rdx f i x (setRead v s) = rdx f i x s := by
  simp [rdx, State.get]
@[simp] theorem rd_setRead (v : Nat) (s : State) (f : Fld) (i : Nat) : rd f i (setRead v s) = rd f i s := rdx_setRead ..

/-! setVerdict. -/

@[simp] theorem setVerdict_mem (a b : Nat) (s : State) : (setVerdict a b s).mem = s.mem := (ev_setVerdict a b s).keeps .mem rfl
@[simp] theorem setVerdict_ev (a b : Nat) (s : State) : (setVerdict a b s).ev = s.ev := (ev_setVerdict a b s).keeps .ev rfl
@[simp] theorem setVerdict_sess (a b : Nat) (s : State) : (setVerdict a b s).sess = s.sess := (ev_setVerdict a b s).keeps .sess rfl
@[simp] theorem setVerdict_pmu (a b : Nat) (s : State) : (setVerdict a b s).pmu = s.pmu := (ev_setVerdict a b s).keeps .pmu rfl
@[simp] theorem setVerdict_clk (a b : Nat) (s : State) : (setVerdict a b s).clk = s.clk := (ev_setVerdict a b s).keeps .clk rfl
@[simp] theorem setVerdict_ptp (a b : Nat) (s : State) : (setVerdict a b s).ptp = s.ptp := (ev_setVerdict a b s).keeps .ptp rfl
@[simp] theorem setVerdict_ptpFrac (a b : Nat) (s : State) : (setVerdict a b s).ptpFrac = s.ptpFrac := (ev_setVerdict a b s).keeps .ptpFrac rfl
@[simp] theorem setVerdict_freeCount (a b : Nat) (s : State) : (setVerdict a b s).freeCount = s.freeCount := (ev_setVerdict a b s).keeps .freeCount rfl
@[simp] theorem setVerdict_islands (a b : Nat) (s : State) : (setVerdict a b s).islands = s.islands := (ev_setVerdict a b s).keeps .islands rfl
@[simp] theorem setVerdict_wrapped (a b : Nat) (s : State) : (setVerdict a b s).wrapped = s.wrapped := (ev_setVerdict a b s).keeps .wrapped rfl
@[simp] theorem setVerdict_rst (a b : Nat) (s : State) : (setVerdict a b s).rst = s.rst := (ev_setVerdict a b s).keeps .rst rfl
@[simp] theorem setVerdict_bpm (a b : Nat) (s : State) : (setVerdict a b s).bpm = s.bpm := (ev_setVerdict a b s).keeps .bpm rfl
@[simp] theorem setVerdict_lanes (a b : Nat) (s : State) : (setVerdict a b s).lanes = s.lanes := (ev_setVerdict a b s).keeps .lanes rfl
@[simp] theorem setVerdict_framing (a b : Nat) (s : State) : (setVerdict a b s).framing = s.framing := (ev_setVerdict a b s).keeps .framing rfl
@[simp] theorem setVerdict_pool (a b : Nat) (s : State) : (setVerdict a b s).pool = s.pool := (ev_setVerdict a b s).keeps .pool rfl
@[simp] theorem setVerdict_encoders (a b : Nat) (s : State) : (setVerdict a b s).encoders = s.encoders := (ev_setVerdict a b s).keeps .encoders rfl
@[simp] theorem setVerdict_act (a b : Nat) (s : State) : (setVerdict a b s).act = s.act := (ev_setVerdict a b s).keeps .act rfl
@[simp] theorem setVerdict_terms (a b : Nat) (s : State) : (setVerdict a b s).terms = s.terms := (ev_setVerdict a b s).keeps .terms rfl
@[simp] theorem setVerdict_grt (a b : Nat) (s : State) : (setVerdict a b s).grt = s.grt := (ev_setVerdict a b s).keeps .grt rfl
@[simp] theorem setVerdict_clusters (a b : Nat) (s : State) : (setVerdict a b s).clusters = s.clusters := (ev_setVerdict a b s).keeps .clusters rfl
@[simp] theorem setVerdict_threads (a b : Nat) (s : State) : (setVerdict a b s).threads = s.threads := (ev_setVerdict a b s).keeps .threads rfl
@[simp] theorem setVerdict_queues (a b : Nat) (s : State) : (setVerdict a b s).queues = s.queues := (ev_setVerdict a b s).keeps .queues rfl
@[simp] theorem setVerdict_crl (a b : Nat) (s : State) : (setVerdict a b s).crl = s.crl := (ev_setVerdict a b s).keeps .crl rfl
@[simp] theorem setVerdict_ohp (a b : Nat) (s : State) : (setVerdict a b s).ohp = s.ohp := (ev_setVerdict a b s).keeps .ohp rfl
@[simp] theorem setVerdict_cipher (a b : Nat) (s : State) : (setVerdict a b s).cipher = s.cipher := (ev_setVerdict a b s).keeps .cipher rfl
@[simp] theorem setVerdict_upSdus (a b : Nat) (s : State) : (setVerdict a b s).upSdus = s.upSdus := (ev_setVerdict a b s).keeps .upSdus rfl
@[simp] theorem setVerdict_txts (a b : Nat) (s : State) : (setVerdict a b s).txts = s.txts := (ev_setVerdict a b s).keeps .txts rfl
@[simp] theorem setVerdict_tim (a b : Nat) (s : State) : (setVerdict a b s).tim = s.tim := (ev_setVerdict a b s).keeps .tim rfl
@[simp] theorem setVerdict_cls (a b : Nat) (s : State) : (setVerdict a b s).cls = s.cls := (ev_setVerdict a b s).keeps .cls rfl
@[simp] theorem setVerdict_lpm (a b : Nat) (s : State) : (setVerdict a b s).lpm = s.lpm := (ev_setVerdict a b s).keeps .lpm rfl
@[simp] theorem setVerdict_merge (a b : Nat) (s : State) : (setVerdict a b s).merge = s.merge := (ev_setVerdict a b s).keeps .merge rfl
@[simp] theorem setVerdict_ports (a b : Nat) (s : State) : (setVerdict a b s).ports = s.ports := (ev_setVerdict a b s).keeps .ports rfl
@[simp] theorem setVerdict_pair (a b : Nat) (s : State) : (setVerdict a b s).pair = s.pair := (ev_setVerdict a b s).keeps .pair rfl
@[simp] theorem setVerdict_sys (a b : Nat) (s : State) : (setVerdict a b s).sys = s.sys := (ev_setVerdict a b s).keeps .sys rfl
@[simp] theorem setVerdict_nvm (a b : Nat) (s : State) : (setVerdict a b s).nvm = s.nvm := (ev_setVerdict a b s).keeps .nvm rfl
@[simp] theorem setVerdict_pending (a b : Nat) (s : State) : (setVerdict a b s).pending = s.pending := (ev_setVerdict a b s).keeps .pending rfl
@[simp] theorem setVerdict_lane (a b : Nat) (s : State) (q : Nat) : (setVerdict a b s).lane q = s.lane q := by simp [State.lane]
@[simp] theorem setVerdict_fram (a b : Nat) (s : State) (q : Nat) : (setVerdict a b s).fram q = s.fram q := by simp [State.fram]
@[simp] theorem setVerdict_session (a b : Nat) (s : State) (q : Nat) : (setVerdict a b s).session q = s.session q := by simp [State.session]
@[simp] theorem setVerdict_grant (a b : Nat) (s : State) (q : Nat) : (setVerdict a b s).grant q = s.grant q := by simp [State.grant]
@[simp] theorem setVerdict_actOf (a b : Nat) (s : State) (q : Nat) : (setVerdict a b s).actOf q = s.actOf q := by simp [State.actOf]
@[simp] theorem setVerdict_term (a b : Nat) (s : State) (q r : Nat) : (setVerdict a b s).term q r = s.term q r := by simp [State.term]
@[simp] theorem setVerdict_cluster (a b : Nat) (s : State) (q : Nat) : (setVerdict a b s).cluster q = s.cluster q := by simp [State.cluster]
@[simp] theorem setVerdict_thread (a b : Nat) (s : State) (q r : Nat) : (setVerdict a b s).thread q r = s.thread q r := by simp [State.thread]
@[simp] theorem setVerdict_node (a b : Nat) (s : State) (q : Node) : (setVerdict a b s).node q = s.node q := by simp [State.node]
@[simp] theorem setVerdict_tmdTree (a b : Nat) (s : State) (q : Nat) : (setVerdict a b s).tmdTree q = s.tmdTree q := by simp [State.tmdTree]
@[simp] theorem setVerdict_tmuPort (a b : Nat) (s : State) (q : Nat) : (setVerdict a b s).tmuPort q = s.tmuPort q := by simp [State.tmuPort]
@[simp] theorem setVerdict_cph (a b : Nat) (s : State) (q : Nat) : (setVerdict a b s).cph q = s.cph q := by simp [State.cph]
@[simp] theorem setVerdict_crLane (a b : Nat) (s : State) (q : LaneId) : (setVerdict a b s).crLane q = s.crLane q := by simp [State.crLane]
@[simp] theorem setVerdict_pipe (a b : Nat) (s : State) (q : Nat) : (setVerdict a b s).pipe q = s.pipe q := by simp [State.pipe]
@[simp] theorem setVerdict_netPort (a b : Nat) (s : State) (q : Nat) : (setVerdict a b s).netPort q = s.netPort q := by simp [State.netPort]
@[simp] theorem setVerdict_island (a b : Nat) (s : State) (q : Nat) : (setVerdict a b s).island q = s.island q := by simp [State.island]
@[simp] theorem setVerdict_up (a b : Nat) (s : State) (q : Nat) : (setVerdict a b s).up q = s.up q := by simp [State.up]
@[simp] theorem setVerdict_pmuVal (a b : Nat) (s : State) (q : Nat) : (setVerdict a b s).pmuVal q = s.pmuVal q := by simp [State.pmuVal]
@[simp] theorem rdx_setVerdict (a b : Nat) (s : State) (f : Fld) (i x : Nat) : rdx f i x (setVerdict a b s) = rdx f i x s := by
  simp [rdx, State.get]
@[simp] theorem rd_setVerdict (a b : Nat) (s : State) (f : Fld) (i : Nat) : rd f i (setVerdict a b s) = rd f i s := rdx_setVerdict ..

/-! accessCause. -/

@[simp] theorem accessCause_mem (a b c : Nat) (s : State) : (accessCause a b c s).mem = s.mem := (ev_accessCause a b c s).keeps .mem rfl
@[simp] theorem accessCause_clk (a b c : Nat) (s : State) : (accessCause a b c s).clk = s.clk := (ev_accessCause a b c s).keeps .clk rfl
@[simp] theorem accessCause_ptp (a b c : Nat) (s : State) : (accessCause a b c s).ptp = s.ptp := (ev_accessCause a b c s).keeps .ptp rfl
@[simp] theorem accessCause_ptpFrac (a b c : Nat) (s : State) : (accessCause a b c s).ptpFrac = s.ptpFrac := (ev_accessCause a b c s).keeps .ptpFrac rfl
@[simp] theorem accessCause_freeCount (a b c : Nat) (s : State) : (accessCause a b c s).freeCount = s.freeCount := (ev_accessCause a b c s).keeps .freeCount rfl
@[simp] theorem accessCause_islands (a b c : Nat) (s : State) : (accessCause a b c s).islands = s.islands := (ev_accessCause a b c s).keeps .islands rfl
@[simp] theorem accessCause_sess (a b c : Nat) (s : State) : (accessCause a b c s).sess = s.sess := (ev_accessCause a b c s).keeps .sess rfl
@[simp] theorem accessCause_rst (a b c : Nat) (s : State) : (accessCause a b c s).rst = s.rst := (ev_accessCause a b c s).keeps .rst rfl
@[simp] theorem accessCause_cmd (a b c : Nat) (s : State) : (accessCause a b c s).cmd = s.cmd := (ev_accessCause a b c s).keeps .cmd rfl
@[simp] theorem accessCause_bpm (a b c : Nat) (s : State) : (accessCause a b c s).bpm = s.bpm := (ev_accessCause a b c s).keeps .bpm rfl
@[simp] theorem accessCause_lanes (a b c : Nat) (s : State) : (accessCause a b c s).lanes = s.lanes := (ev_accessCause a b c s).keeps .lanes rfl
@[simp] theorem accessCause_framing (a b c : Nat) (s : State) : (accessCause a b c s).framing = s.framing := (ev_accessCause a b c s).keeps .framing rfl
@[simp] theorem accessCause_pool (a b c : Nat) (s : State) : (accessCause a b c s).pool = s.pool := (ev_accessCause a b c s).keeps .pool rfl
@[simp] theorem accessCause_encoders (a b c : Nat) (s : State) : (accessCause a b c s).encoders = s.encoders := (ev_accessCause a b c s).keeps .encoders rfl
@[simp] theorem accessCause_act (a b c : Nat) (s : State) : (accessCause a b c s).act = s.act := (ev_accessCause a b c s).keeps .act rfl
@[simp] theorem accessCause_terms (a b c : Nat) (s : State) : (accessCause a b c s).terms = s.terms := (ev_accessCause a b c s).keeps .terms rfl
@[simp] theorem accessCause_grt (a b c : Nat) (s : State) : (accessCause a b c s).grt = s.grt := (ev_accessCause a b c s).keeps .grt rfl
@[simp] theorem accessCause_clusters (a b c : Nat) (s : State) : (accessCause a b c s).clusters = s.clusters := (ev_accessCause a b c s).keeps .clusters rfl
@[simp] theorem accessCause_threads (a b c : Nat) (s : State) : (accessCause a b c s).threads = s.threads := (ev_accessCause a b c s).keeps .threads rfl
@[simp] theorem accessCause_queues (a b c : Nat) (s : State) : (accessCause a b c s).queues = s.queues := (ev_accessCause a b c s).keeps .queues rfl
@[simp] theorem accessCause_crl (a b c : Nat) (s : State) : (accessCause a b c s).crl = s.crl := (ev_accessCause a b c s).keeps .crl rfl
@[simp] theorem accessCause_ohp (a b c : Nat) (s : State) : (accessCause a b c s).ohp = s.ohp := (ev_accessCause a b c s).keeps .ohp rfl
@[simp] theorem accessCause_cipher (a b c : Nat) (s : State) : (accessCause a b c s).cipher = s.cipher := (ev_accessCause a b c s).keeps .cipher rfl
@[simp] theorem accessCause_upSdus (a b c : Nat) (s : State) : (accessCause a b c s).upSdus = s.upSdus := (ev_accessCause a b c s).keeps .upSdus rfl
@[simp] theorem accessCause_txts (a b c : Nat) (s : State) : (accessCause a b c s).txts = s.txts := (ev_accessCause a b c s).keeps .txts rfl
@[simp] theorem accessCause_tim (a b c : Nat) (s : State) : (accessCause a b c s).tim = s.tim := (ev_accessCause a b c s).keeps .tim rfl
@[simp] theorem accessCause_cls (a b c : Nat) (s : State) : (accessCause a b c s).cls = s.cls := (ev_accessCause a b c s).keeps .cls rfl
@[simp] theorem accessCause_lpm (a b c : Nat) (s : State) : (accessCause a b c s).lpm = s.lpm := (ev_accessCause a b c s).keeps .lpm rfl
@[simp] theorem accessCause_merge (a b c : Nat) (s : State) : (accessCause a b c s).merge = s.merge := (ev_accessCause a b c s).keeps .merge rfl
@[simp] theorem accessCause_ports (a b c : Nat) (s : State) : (accessCause a b c s).ports = s.ports := (ev_accessCause a b c s).keeps .ports rfl
@[simp] theorem accessCause_pair (a b c : Nat) (s : State) : (accessCause a b c s).pair = s.pair := (ev_accessCause a b c s).keeps .pair rfl
@[simp] theorem accessCause_sys (a b c : Nat) (s : State) : (accessCause a b c s).sys = s.sys := (ev_accessCause a b c s).keeps .sys rfl
@[simp] theorem accessCause_nvm (a b c : Nat) (s : State) : (accessCause a b c s).nvm = s.nvm := (ev_accessCause a b c s).keeps .nvm rfl
@[simp] theorem accessCause_pending (a b c : Nat) (s : State) : (accessCause a b c s).pending = s.pending := (ev_accessCause a b c s).keeps .pending rfl
@[simp] theorem accessCause_lane (a b c : Nat) (s : State) (q : Nat) : (accessCause a b c s).lane q = s.lane q := by simp [State.lane]
@[simp] theorem accessCause_fram (a b c : Nat) (s : State) (q : Nat) : (accessCause a b c s).fram q = s.fram q := by simp [State.fram]
@[simp] theorem accessCause_grant (a b c : Nat) (s : State) (q : Nat) : (accessCause a b c s).grant q = s.grant q := by simp [State.grant]
@[simp] theorem accessCause_actOf (a b c : Nat) (s : State) (q : Nat) : (accessCause a b c s).actOf q = s.actOf q := by simp [State.actOf]
@[simp] theorem accessCause_term (a b c : Nat) (s : State) (q r : Nat) : (accessCause a b c s).term q r = s.term q r := by simp [State.term]
@[simp] theorem accessCause_cluster (a b c : Nat) (s : State) (q : Nat) : (accessCause a b c s).cluster q = s.cluster q := by simp [State.cluster]
@[simp] theorem accessCause_thread (a b c : Nat) (s : State) (q r : Nat) : (accessCause a b c s).thread q r = s.thread q r := by simp [State.thread]
@[simp] theorem accessCause_node (a b c : Nat) (s : State) (q : Node) : (accessCause a b c s).node q = s.node q := by simp [State.node]
@[simp] theorem accessCause_tmdTree (a b c : Nat) (s : State) (q : Nat) : (accessCause a b c s).tmdTree q = s.tmdTree q := by simp [State.tmdTree]
@[simp] theorem accessCause_tmuPort (a b c : Nat) (s : State) (q : Nat) : (accessCause a b c s).tmuPort q = s.tmuPort q := by simp [State.tmuPort]
@[simp] theorem accessCause_cph (a b c : Nat) (s : State) (q : Nat) : (accessCause a b c s).cph q = s.cph q := by simp [State.cph]
@[simp] theorem accessCause_crLane (a b c : Nat) (s : State) (q : LaneId) : (accessCause a b c s).crLane q = s.crLane q := by simp [State.crLane]
@[simp] theorem accessCause_pipe (a b c : Nat) (s : State) (q : Nat) : (accessCause a b c s).pipe q = s.pipe q := by simp [State.pipe]
@[simp] theorem accessCause_netPort (a b c : Nat) (s : State) (q : Nat) : (accessCause a b c s).netPort q = s.netPort q := by simp [State.netPort]
@[simp] theorem accessCause_island (a b c : Nat) (s : State) (q : Nat) : (accessCause a b c s).island q = s.island q := by simp [State.island]
@[simp] theorem accessCause_up (a b c : Nat) (s : State) (q : Nat) : (accessCause a b c s).up q = s.up q := by simp [State.up]
@[simp] theorem rdx_accessCause (a b c : Nat) (s : State) (f : Fld) (i x : Nat) (h : f.sp.isEvent = false) :
    rdx f i x (accessCause a b c s) = rdx f i x s := rdx_of_mem (accessCause_mem ..) h i x
@[simp] theorem rd_accessCause (a b c : Nat) (s : State) (f : Fld) (i : Nat) (h : f.sp.isEvent = false) :
    rd f i (accessCause a b c s) = rd f i s := rdx_of_mem (accessCause_mem ..) h i 0

/-! pmuCount. -/

@[simp] theorem pmuCount_sess (e : Nat) (p : Nat → Bool) (n : Nat) (s : State) : (pmuCount e p n s).sess = s.sess := (ev_pmuCount e p n s).keeps .sess rfl
@[simp] theorem pmuCount_clk (e : Nat) (p : Nat → Bool) (n : Nat) (s : State) : (pmuCount e p n s).clk = s.clk := (ev_pmuCount e p n s).keeps .clk rfl
@[simp] theorem pmuCount_ptp (e : Nat) (p : Nat → Bool) (n : Nat) (s : State) : (pmuCount e p n s).ptp = s.ptp := (ev_pmuCount e p n s).keeps .ptp rfl
@[simp] theorem pmuCount_ptpFrac (e : Nat) (p : Nat → Bool) (n : Nat) (s : State) : (pmuCount e p n s).ptpFrac = s.ptpFrac := (ev_pmuCount e p n s).keeps .ptpFrac rfl
@[simp] theorem pmuCount_freeCount (e : Nat) (p : Nat → Bool) (n : Nat) (s : State) : (pmuCount e p n s).freeCount = s.freeCount := (ev_pmuCount e p n s).keeps .freeCount rfl
@[simp] theorem pmuCount_islands (e : Nat) (p : Nat → Bool) (n : Nat) (s : State) : (pmuCount e p n s).islands = s.islands := (ev_pmuCount e p n s).keeps .islands rfl
@[simp] theorem pmuCount_wrapped (e : Nat) (p : Nat → Bool) (n : Nat) (s : State) : (pmuCount e p n s).wrapped = s.wrapped := (ev_pmuCount e p n s).keeps .wrapped rfl
@[simp] theorem pmuCount_rst (e : Nat) (p : Nat → Bool) (n : Nat) (s : State) : (pmuCount e p n s).rst = s.rst := (ev_pmuCount e p n s).keeps .rst rfl
@[simp] theorem pmuCount_cmd (e : Nat) (p : Nat → Bool) (n : Nat) (s : State) : (pmuCount e p n s).cmd = s.cmd := (ev_pmuCount e p n s).keeps .cmd rfl
@[simp] theorem pmuCount_bpm (e : Nat) (p : Nat → Bool) (n : Nat) (s : State) : (pmuCount e p n s).bpm = s.bpm := (ev_pmuCount e p n s).keeps .bpm rfl
@[simp] theorem pmuCount_lanes (e : Nat) (p : Nat → Bool) (n : Nat) (s : State) : (pmuCount e p n s).lanes = s.lanes := (ev_pmuCount e p n s).keeps .lanes rfl
@[simp] theorem pmuCount_framing (e : Nat) (p : Nat → Bool) (n : Nat) (s : State) : (pmuCount e p n s).framing = s.framing := (ev_pmuCount e p n s).keeps .framing rfl
@[simp] theorem pmuCount_pool (e : Nat) (p : Nat → Bool) (n : Nat) (s : State) : (pmuCount e p n s).pool = s.pool := (ev_pmuCount e p n s).keeps .pool rfl
@[simp] theorem pmuCount_encoders (e : Nat) (p : Nat → Bool) (n : Nat) (s : State) : (pmuCount e p n s).encoders = s.encoders := (ev_pmuCount e p n s).keeps .encoders rfl
@[simp] theorem pmuCount_act (e : Nat) (p : Nat → Bool) (n : Nat) (s : State) : (pmuCount e p n s).act = s.act := (ev_pmuCount e p n s).keeps .act rfl
@[simp] theorem pmuCount_terms (e : Nat) (p : Nat → Bool) (n : Nat) (s : State) : (pmuCount e p n s).terms = s.terms := (ev_pmuCount e p n s).keeps .terms rfl
@[simp] theorem pmuCount_grt (e : Nat) (p : Nat → Bool) (n : Nat) (s : State) : (pmuCount e p n s).grt = s.grt := (ev_pmuCount e p n s).keeps .grt rfl
@[simp] theorem pmuCount_clusters (e : Nat) (p : Nat → Bool) (n : Nat) (s : State) : (pmuCount e p n s).clusters = s.clusters := (ev_pmuCount e p n s).keeps .clusters rfl
@[simp] theorem pmuCount_threads (e : Nat) (p : Nat → Bool) (n : Nat) (s : State) : (pmuCount e p n s).threads = s.threads := (ev_pmuCount e p n s).keeps .threads rfl
@[simp] theorem pmuCount_queues (e : Nat) (p : Nat → Bool) (n : Nat) (s : State) : (pmuCount e p n s).queues = s.queues := (ev_pmuCount e p n s).keeps .queues rfl
@[simp] theorem pmuCount_crl (e : Nat) (p : Nat → Bool) (n : Nat) (s : State) : (pmuCount e p n s).crl = s.crl := (ev_pmuCount e p n s).keeps .crl rfl
@[simp] theorem pmuCount_ohp (e : Nat) (p : Nat → Bool) (n : Nat) (s : State) : (pmuCount e p n s).ohp = s.ohp := (ev_pmuCount e p n s).keeps .ohp rfl
@[simp] theorem pmuCount_cipher (e : Nat) (p : Nat → Bool) (n : Nat) (s : State) : (pmuCount e p n s).cipher = s.cipher := (ev_pmuCount e p n s).keeps .cipher rfl
@[simp] theorem pmuCount_upSdus (e : Nat) (p : Nat → Bool) (n : Nat) (s : State) : (pmuCount e p n s).upSdus = s.upSdus := (ev_pmuCount e p n s).keeps .upSdus rfl
@[simp] theorem pmuCount_txts (e : Nat) (p : Nat → Bool) (n : Nat) (s : State) : (pmuCount e p n s).txts = s.txts := (ev_pmuCount e p n s).keeps .txts rfl
@[simp] theorem pmuCount_tim (e : Nat) (p : Nat → Bool) (n : Nat) (s : State) : (pmuCount e p n s).tim = s.tim := (ev_pmuCount e p n s).keeps .tim rfl
@[simp] theorem pmuCount_cls (e : Nat) (p : Nat → Bool) (n : Nat) (s : State) : (pmuCount e p n s).cls = s.cls := (ev_pmuCount e p n s).keeps .cls rfl
@[simp] theorem pmuCount_lpm (e : Nat) (p : Nat → Bool) (n : Nat) (s : State) : (pmuCount e p n s).lpm = s.lpm := (ev_pmuCount e p n s).keeps .lpm rfl
@[simp] theorem pmuCount_merge (e : Nat) (p : Nat → Bool) (n : Nat) (s : State) : (pmuCount e p n s).merge = s.merge := (ev_pmuCount e p n s).keeps .merge rfl
@[simp] theorem pmuCount_ports (e : Nat) (p : Nat → Bool) (n : Nat) (s : State) : (pmuCount e p n s).ports = s.ports := (ev_pmuCount e p n s).keeps .ports rfl
@[simp] theorem pmuCount_pair (e : Nat) (p : Nat → Bool) (n : Nat) (s : State) : (pmuCount e p n s).pair = s.pair := (ev_pmuCount e p n s).keeps .pair rfl
@[simp] theorem pmuCount_sys (e : Nat) (p : Nat → Bool) (n : Nat) (s : State) : (pmuCount e p n s).sys = s.sys := (ev_pmuCount e p n s).keeps .sys rfl
@[simp] theorem pmuCount_nvm (e : Nat) (p : Nat → Bool) (n : Nat) (s : State) : (pmuCount e p n s).nvm = s.nvm := (ev_pmuCount e p n s).keeps .nvm rfl
@[simp] theorem pmuCount_pending (e : Nat) (p : Nat → Bool) (n : Nat) (s : State) : (pmuCount e p n s).pending = s.pending := (ev_pmuCount e p n s).keeps .pending rfl
@[simp] theorem pmuCount_lane (e : Nat) (p : Nat → Bool) (n : Nat) (s : State) (q : Nat) : (pmuCount e p n s).lane q = s.lane q := by simp [State.lane]
@[simp] theorem pmuCount_fram (e : Nat) (p : Nat → Bool) (n : Nat) (s : State) (q : Nat) : (pmuCount e p n s).fram q = s.fram q := by simp [State.fram]
@[simp] theorem pmuCount_session (e : Nat) (p : Nat → Bool) (n : Nat) (s : State) (q : Nat) : (pmuCount e p n s).session q = s.session q := by simp [State.session]
@[simp] theorem pmuCount_grant (e : Nat) (p : Nat → Bool) (n : Nat) (s : State) (q : Nat) : (pmuCount e p n s).grant q = s.grant q := by simp [State.grant]
@[simp] theorem pmuCount_actOf (e : Nat) (p : Nat → Bool) (n : Nat) (s : State) (q : Nat) : (pmuCount e p n s).actOf q = s.actOf q := by simp [State.actOf]
@[simp] theorem pmuCount_term (e : Nat) (p : Nat → Bool) (n : Nat) (s : State) (q r : Nat) : (pmuCount e p n s).term q r = s.term q r := by simp [State.term]
@[simp] theorem pmuCount_cluster (e : Nat) (p : Nat → Bool) (n : Nat) (s : State) (q : Nat) : (pmuCount e p n s).cluster q = s.cluster q := by simp [State.cluster]
@[simp] theorem pmuCount_thread (e : Nat) (p : Nat → Bool) (n : Nat) (s : State) (q r : Nat) : (pmuCount e p n s).thread q r = s.thread q r := by simp [State.thread]
@[simp] theorem pmuCount_node (e : Nat) (p : Nat → Bool) (n : Nat) (s : State) (q : Node) : (pmuCount e p n s).node q = s.node q := by simp [State.node]
@[simp] theorem pmuCount_tmdTree (e : Nat) (p : Nat → Bool) (n : Nat) (s : State) (q : Nat) : (pmuCount e p n s).tmdTree q = s.tmdTree q := by simp [State.tmdTree]
@[simp] theorem pmuCount_tmuPort (e : Nat) (p : Nat → Bool) (n : Nat) (s : State) (q : Nat) : (pmuCount e p n s).tmuPort q = s.tmuPort q := by simp [State.tmuPort]
@[simp] theorem pmuCount_cph (e : Nat) (p : Nat → Bool) (n : Nat) (s : State) (q : Nat) : (pmuCount e p n s).cph q = s.cph q := by simp [State.cph]
@[simp] theorem pmuCount_crLane (e : Nat) (p : Nat → Bool) (n : Nat) (s : State) (q : LaneId) : (pmuCount e p n s).crLane q = s.crLane q := by simp [State.crLane]
@[simp] theorem pmuCount_pipe (e : Nat) (p : Nat → Bool) (n : Nat) (s : State) (q : Nat) : (pmuCount e p n s).pipe q = s.pipe q := by simp [State.pipe]
@[simp] theorem pmuCount_netPort (e : Nat) (p : Nat → Bool) (n : Nat) (s : State) (q : Nat) : (pmuCount e p n s).netPort q = s.netPort q := by simp [State.netPort]
@[simp] theorem pmuCount_island (e : Nat) (p : Nat → Bool) (n : Nat) (s : State) (q : Nat) : (pmuCount e p n s).island q = s.island q := by simp [State.island]
@[simp] theorem pmuCount_up (e : Nat) (p : Nat → Bool) (n : Nat) (s : State) (q : Nat) : (pmuCount e p n s).up q = s.up q := by simp [State.up]

/-- Time never passes an instant twice. -/
theorem passTo_clk (d : Nat) (s : State) : (passTo d s).clk = max s.clk d := by
  unfold passTo
  split
  · have : (pass (d - s.clk) s).clk = s.clk + (d - s.clk) := (ev_pmuCount ..).keeps .clk rfl
    omega
  · omega

@[simp] theorem setRead_readData (v : Nat) (s : State) : (setRead v s).cmd.readData = v := rfl
@[simp] theorem setVerdict_verdict (a b : Nat) (s : State) : (setVerdict a b s).cmd.verdict = a := rfl
@[simp] theorem setVerdict_detail (a b : Nat) (s : State) : (setVerdict a b s).cmd.detail = b := rfl

end Sys2Proof.Machine
end

