-- ==== Sys2Proof/Laws/Only.lean ====
section
/-!
SUPPORT. Frames by fields, and causes that stay raised (Safety.lean: OnlyFields, Touches, Raised).
-/

namespace Sys2Proof.Machine

/-! Frames by fields. -/

theorem OnlyFields.refl (l : List (Fld × Nat × Nat)) (s : State) : OnlyFields l s s := fun _ _ _ _ _ _ => rfl

theorem OnlyFields.trans {l : List (Fld × Nat × Nat)} {s t u : State} (h : OnlyFields l s t) (k : OnlyFields l t u) :
    OnlyFields l s u := fun g j y he hg ha => (k g j y he hg ha).trans (h g j y he hg ha)

theorem OnlyFields.ofMem {l : List (Fld × Nat × Nat)} {s t u : State} (hm : u.mem = t.mem) (h : OnlyFields l s t) :
    OnlyFields l s u := fun g j y he hg ha => (rdx_of_mem hm he j y).trans (h g j y he hg ha)

theorem OnlyFields.wrx {l : List (Fld × Nat × Nat)} {s t : State} {f : Fld} {i x v : Nat} (h : OnlyFields l s t)
    (hl : (f, i, x) ∈ l) (hf : f.lo ≤ f.hi ∧ f.hi < 32) : OnlyFields l s (wrx f i x v t) := fun g j y he hg ha =>
  (rdx_wrx_other f g i x j y v t hf hg (ha _ hl)).trans (h g j y he hg ha)

theorem OnlyFields.wr {l : List (Fld × Nat × Nat)} {s t : State} {f : Fld} {i v : Nat} (h : OnlyFields l s t)
    (hl : (f, i, 0) ∈ l) (hf : f.lo ≤ f.hi ∧ f.hi < 32) : OnlyFields l s (wr f i v t) := OnlyFields.wrx h hl hf

theorem OnlyFields.bumpBy {l : List (Fld × Nat × Nat)} {s t : State} {f : Fld} {i n : Nat} (h : OnlyFields l s t)
    (hl : (f, i, 0) ∈ l) (hf : f.lo ≤ f.hi ∧ f.hi < 32) : OnlyFields l s (bumpBy f i n t) := fun g j y he hg ha =>
  (rdx_bumpBy f g i n j y t).trans (OnlyFields.wr h hl hf g j y he hg ha)

theorem OnlyFields.bump {l : List (Fld × Nat × Nat)} {s t : State} {f : Fld} {i : Nat} (h : OnlyFields l s t)
    (hl : (f, i, 0) ∈ l) (hf : f.lo ≤ f.hi ∧ f.hi < 32) : OnlyFields l s (bump f i t) := OnlyFields.bumpBy h hl hf

theorem OnlyFields.bumpx {l : List (Fld × Nat × Nat)} {s t : State} {f : Fld} {i x : Nat} (h : OnlyFields l s t)
    (hl : (f, i, x) ∈ l) (hf : f.lo ≤ f.hi ∧ f.hi < 32) : OnlyFields l s (bumpx f i x t) := OnlyFields.wrx h hl hf

/-- A write of an events word. -/
theorem OnlyFields.wrxEvent {l : List (Fld × Nat × Nat)} {s t : State} {f : Fld} {i x v : Nat} (h : OnlyFields l s t)
    (hf : f.sp.isEvent = true) : OnlyFields l s (Machine.wrx f i x v t) := h.ofMem (by simp [Machine.wrx, State.set, Fld.key, hf])

theorem OnlyFields.raise {l : List (Fld × Nat × Nat)} {s t : State} {a b : Nat} {d : List Nat} (h : OnlyFields l s t) :
    OnlyFields l s (raise a b d t) := h.ofMem (raise_mem a b d t)

theorem OnlyFields.onlyIf {l : List (Fld × Nat × Nat)} {s t : State} {c : Prop} [Decidable c] {f : State → State}
    (hf : ∀ x, OnlyFields l x (f x)) (h : OnlyFields l s t) : OnlyFields l s (onlyIf c f t) := by
  unfold Machine.onlyIf
  split
  · exact h.trans (hf t)
  · exact h

theorem OnlyFields.ite {l : List (Fld × Nat × Nat)} {s a b : State} {c : Prop} [Decidable c] (ha : OnlyFields l s a)
    (hb : OnlyFields l s b) : OnlyFields l s (if c then a else b) := by split <;> assumption

theorem OnlyFields.allOf {l : List (Fld × Nat × Nat)} {s t : State} {α : Type} {as : List α} {f : α → State → State}
    (hf : ∀ a x, OnlyFields l x (f a x)) (h : OnlyFields l s t) : OnlyFields l s (allOf as f t) := by
  unfold Machine.allOf
  induction as generalizing t with
  | nil => exact h
  | cons a as ih => exact ih (h.trans (hf a t))

theorem OnlyFields.passTo {l : List (Fld × Nat × Nat)} {s t : State} {d : Nat} (h : OnlyFields l s t) :
    OnlyFields l s (passTo d t) := h.ofMem (passTo_mem ..)

theorem OnlyFields.passToPtp {l : List (Fld × Nat × Nat)} {s t : State} {d : Nat} (h : OnlyFields l s t) :
    OnlyFields l s (passToPtp d t) := h.ofMem (passToPtp_mem ..)

theorem OnlyFields.passToFrame {l : List (Fld × Nat × Nat)} {s t : State} {d : Nat} (h : OnlyFields l s t) :
    OnlyFields l s (passToFrame d t) := h.ofMem (passToFrame_mem ..)

theorem OnlyFields.setVerdict {l : List (Fld × Nat × Nat)} {s t : State} {a b : Nat} (h : OnlyFields l s t) :
    OnlyFields l s (setVerdict a b t) := h.ofMem (setVerdict_mem ..)

theorem OnlyFields.setRead {l : List (Fld × Nat × Nat)} {s t : State} {v : Nat} (h : OnlyFields l s t) :
    OnlyFields l s (setRead v t) := h.ofMem (setRead_mem ..)

theorem OnlyFields.accessCause {l : List (Fld × Nat × Nat)} {s t : State} {a b c : Nat} (h : OnlyFields l s t) :
    OnlyFields l s (accessCause a b c t) := h.ofMem (accessCause_mem ..)

theorem OnlyFields.pmuCount {l : List (Fld × Nat × Nat)} {s t : State} {e n : Nat} {p : Nat → Bool} (h : OnlyFields l s t) :
    OnlyFields l s (pmuCount e p n t) := h.ofMem (pmuCount_mem ..)

/-! Causes. -/

theorem maskHas_maskSet_self (w b : Nat) : maskHas (maskSet w b) b = true := by
  unfold maskSet
  split
  · assumption
  · rename_i h
    simp only [maskHas, beq_iff_eq] at h ⊢
    rw [Nat.add_div_right _ (Nat.two_pow_pos b)]
    omega

theorem maskHas_eq_testBit (w b : Nat) : maskHas w b = w.testBit b := by
  rw [maskHas, Nat.testBit_eq_decide_div_mod_eq]
  rfl

theorem maskSet_eq_or (w b : Nat) : maskSet w b = w ||| 2 ^ b := by
  apply Nat.eq_of_testBit_eq
  intro j
  rw [Nat.testBit_or, Nat.testBit_two_pow]
  unfold maskSet
  rw [maskHas_eq_testBit]
  split
  · rename_i h
    by_cases e : b = j
    · subst e; simp [h]
    · simp [e]
  · rename_i h
    have h' : w.testBit b = false := by simpa using h
    have hr : w % 2 ^ (b + 1) < 2 ^ b := by
      have h1 : w % 2 ^ (b + 1) < 2 ^ (b + 1) := Nat.mod_lt _ (Nat.two_pow_pos _)
      refine Nat.lt_of_not_le fun h2 => ?_
      have h3 : (w % 2 ^ (b + 1)).testBit b = true := by
        rw [Nat.testBit_eq_decide_div_mod_eq]
        have : w % 2 ^ (b + 1) / 2 ^ b = 1 := by
          apply Nat.div_eq_of_lt_le
          · simpa using h2
          · have h2 : 2 ^ (b + 1) = 2 * 2 ^ b := Nat.pow_succ'; omega
        simp [this]
      rw [Nat.testBit_mod_two_pow, h'] at h3
      simp at h3
    have e : w + 2 ^ b = 2 ^ (b + 1) * (w / 2 ^ (b + 1)) + (2 ^ b + w % 2 ^ (b + 1)) := by
      have := Nat.div_add_mod w (2 ^ (b + 1))
      omega
    have hw : w.testBit j = (2 ^ (b + 1) * (w / 2 ^ (b + 1)) + w % 2 ^ (b + 1)).testBit j := by
      rw [Nat.div_add_mod]
    rw [hw, e, Nat.testBit_two_pow_mul_add _ (by have h2 : 2 ^ (b + 1) = 2 * 2 ^ b := Nat.pow_succ'; rw [h2] at hr ⊢; omega),
      Nat.testBit_two_pow_mul_add _ (Nat.mod_lt _ (Nat.two_pow_pos _))]
    by_cases h1 : j < b + 1
    · simp only [h1, if_true]
      rcases Nat.lt_or_eq_of_le (Nat.le_of_lt_succ h1) with e1 | e1
      · rw [Nat.testBit_two_pow_add_gt e1]
        have : b ≠ j := by omega
        simp [this]
      · subst e1
        rw [Nat.testBit_two_pow_add_eq, Nat.testBit_lt_two_pow hr]
        simp
    · have : b ≠ j := by omega
      simp [h1, this]

theorem maskHas_maskSet_of (w b c : Nat) (h : maskHas w c = true) : maskHas (maskSet w b) c = true := by
  rw [maskHas_eq_testBit] at h ⊢
  rw [maskSet_eq_or, Nat.testBit_or, h, Bool.true_or]

/-- What a cause needs to stay raised: its bit, the islands and the latches. -/
structure CausesStay (s t : State) : Prop where
  cause : ∀ a b, maskHas (rd SRC.CAUSE a s) b = true → maskHas (rd SRC.CAUSE a t) b = true
  islands : t.islands = s.islands
  pending : ∀ p, p ∈ s.ev.pending → p ∈ t.ev.pending

theorem CausesStay.refl (s : State) : CausesStay s s := ⟨fun _ _ h => h, rfl, fun _ h => h⟩

theorem CausesStay.trans {s t u : State} (h : CausesStay s t) (k : CausesStay t u) : CausesStay s u :=
  ⟨fun a b x => k.cause a b (h.cause a b x), k.islands.trans h.islands, fun p x => k.pending p (h.pending p x)⟩

theorem CausesStay.raised {s t : State} (h : CausesStay s t) {a b : Nat} (r : Raised a b s) : Raised a b t := by
  unfold Raised at r ⊢
  rw [State.up_of_islands h.islands]
  split at r
  · rename_i u; rw [if_pos u]; exact h.cause a b r
  · rename_i u
    rw [if_neg u]
    obtain ⟨p, hp, hq⟩ := List.any_eq_true.mp r
    exact List.any_eq_true.mpr ⟨p, h.pending p hp, hq⟩

theorem CausesStay.same {s t : State} (he : t.ev = s.ev) (hi : t.islands = s.islands) : CausesStay s t :=
  ⟨fun a b x => by
    have : rd SRC.CAUSE a t = rd SRC.CAUSE a s := by
      have hs : Sp.src.isEvent = true := rfl
      simp [rd, rdx, State.get, Fld.key, he, hs]
    rw [this]; exact x, hi, fun p x => by rw [he]; exact x⟩

/-- A write of any field but CAUSE. -/
theorem CausesStay.wr {s t : State} (h : CausesStay s t) {f : Fld} {i v : Nat} (hf : f.lo ≤ f.hi ∧ f.hi < 32)
    (hn : f.sp ≠ .src ∨ f.word ≠ SRC.CAUSE.word) : CausesStay s (wr f i v t) := by
  refine h.trans ⟨fun a b x => ?_, ?_, fun p x => ?_⟩
  · rw [rd_wr_other f SRC.CAUSE i a v t hf (by decide)]
    · exact x
    · rcases hn with e | e
      · exact .inl e
      · exact .inr (.inr (.inl e))
  · exact (ev_wr f i v t).keeps .islands rfl
  · unfold Machine.wr wrx State.set
    split <;> exact x

theorem CausesStay.bumpBy {s t : State} (h : CausesStay s t) {f : Fld} {i n : Nat} (hf : f.lo ≤ f.hi ∧ f.hi < 32)
    (hn : f.sp ≠ .src ∨ f.word ≠ SRC.CAUSE.word) : CausesStay s (bumpBy f i n t) := by
  unfold Machine.bumpBy Machine.onlyIf
  split
  · exact (h.wr hf hn).trans (CausesStay.same (pmuCount_ev ..) ((ev_pmuCount ..).keeps .islands rfl))
  · exact h.wr hf hn

theorem CausesStay.bump {s t : State} (h : CausesStay s t) {f : Fld} {i : Nat} (hf : f.lo ≤ f.hi ∧ f.hi < 32)
    (hn : f.sp ≠ .src ∨ f.word ≠ SRC.CAUSE.word) : CausesStay s (bump f i t) := h.bumpBy hf hn

theorem CausesStay.ite {s a b : State} {c : Prop} [Decidable c] (ha : CausesStay s a) (hb : CausesStay s b) :
    CausesStay s (if c then a else b) := by split <;> assumption

theorem CausesStay.onlyIf {s t : State} {c : Prop} [Decidable c] {f : State → State}
    (hf : ∀ x, CausesStay x (f x)) (h : CausesStay s t) : CausesStay s (onlyIf c f t) := by
  unfold Machine.onlyIf
  split
  · exact h.trans (hf t)
  · exact h

theorem CausesStay.evUpd {s t : State} {e : EvState} (h : CausesStay s t) (hm : e.mem = t.ev.mem)
    (hp : ∀ p, p ∈ t.ev.pending → p ∈ e.pending) : CausesStay s { t with ev := e } :=
  h.trans ⟨fun a b x => by
    have hs : Sp.src.isEvent = true := rfl
    have : rd SRC.CAUSE a { t with ev := e } = rd SRC.CAUSE a t := by simp [rd, rdx, State.get, Fld.key, hm, hs]
    rw [this]; exact x, rfl, hp⟩

theorem CausesStay.setSession {s t : State} {i : Nat} {x : Session} (h : CausesStay s t) : CausesStay s (t.setSession i x) :=
  h.trans (.same rfl rfl)

theorem CausesStay.ringWrite {s t : State} {i : Nat} {p : Packet} (h : CausesStay s t) : CausesStay s (ringWrite i p t) :=
  h.trans (.same ((ev_ringWrite i p t).keeps .ev rfl) ((ev_ringWrite i p t).keeps .islands rfl))

theorem CausesStay.pmuCount {s t : State} {e n : Nat} {p : Nat → Bool} (h : CausesStay s t) : CausesStay s (pmuCount e p n t) :=
  h.trans (.same (pmuCount_ev ..) ((ev_pmuCount ..).keeps .islands rfl))

theorem wr_latches (f : Fld) (i v : Nat) (s : State) : (wr f i v s).ev.pending = s.ev.pending := by
  unfold wr wrx State.set
  split <;> rfl

theorem cs_captureRaise (src bit : Nat) (d : List Nat) (s : State) : CausesStay s (captureRaise src bit d s) := by
  unfold captureRaise
  with_reducible repeat'
    first
    | apply CausesStay.refl | apply CausesStay.wr | apply CausesStay.ite | split | dsimp only | exact (by decide)

/-- What a raise does after CAUSE has been written. -/
theorem cs_raiseRest (src bit : Nat) (d : List Nat) (s : State) :
    CausesStay (wr SRC.CAUSE src (maskSet (rd SRC.CAUSE src s) bit) s) (raiseCore src bit d s) := by
  have tail : ∀ x : State, CausesStay x (if maskHas (rd SRC.EN src x) bit then
      { wr SRC.PEND_RAISES src (min (rd SRC.PEND_RAISES src x + 1) 65535) x with
        ev := { (wr SRC.PEND_RAISES src (min (rd SRC.PEND_RAISES src x + 1) 65535) x).ev with
          srcx := Tbl.set {} (wr SRC.PEND_RAISES src (min (rd SRC.PEND_RAISES src x + 1) 65535) x).ev.srcx src
            { Tbl.get {} x.ev.srcx src with since := maskSet (Tbl.get {} x.ev.srcx src).since bit } } } else x) := by
    intro x
    split
    · have h : CausesStay x (wr SRC.PEND_RAISES src (min (rd SRC.PEND_RAISES src x + 1) 65535) x) :=
        CausesStay.wr (.refl x) (by decide) (by decide)
      generalize wr SRC.PEND_RAISES src (min (rd SRC.PEND_RAISES src x + 1) 65535) x = y at h ⊢
      exact h.evUpd rfl fun p hp => hp
    · exact .refl x
  unfold raiseCore
  exact (((CausesStay.refl _).onlyIf (fun x => cs_captureRaise src bit d x)).pmuCount).trans (tail _)

theorem cs_raiseCore (src bit : Nat) (d : List Nat) (s : State) : CausesStay s (raiseCore src bit d s) := by
  refine CausesStay.trans (t := wr SRC.CAUSE src (maskSet (rd SRC.CAUSE src s) bit) s) ?_ (cs_raiseRest src bit d s)
  refine ⟨fun a b x => ?_, (ev_wr ..).keeps .islands rfl, fun p x => ?_⟩
  · by_cases h : src = a
    · subst h
      rw [rd_wr_self _ _ _ _ (by decide), maskHas_eq_testBit, Nat.testBit_mod_two_pow, maskSet_eq_or, Nat.testBit_or]
      rw [maskHas_eq_testBit] at x
      have hl := rd_lt SRC.CAUSE src s
      have : b < 32 := by
        refine Nat.lt_of_not_le fun hb => ?_
        rw [Nat.testBit_lt_two_pow (Nat.lt_of_lt_of_le hl (Nat.pow_le_pow_right (by decide) hb))] at x
        contradiction
      simp [x, this, SRC.CAUSE]
    · rw [rd_wr_other _ _ _ _ _ _ (by decide) (by decide) (.inr (.inl h))]; exact x
  · rw [wr_latches]; exact x

theorem cs_wrapperAnswer (i : Nat) (s : State) : CausesStay s (wrapperAnswer i s) :=
  ⟨fun _ _ h => h, rfl, fun _ h => h⟩

theorem cs_deliverPacket (src mask : Nat) (pay : List Nat) (s : State) : CausesStay s (deliverPacket src mask pay s) := by
  unfold deliverPacket
  split
  · exact (CausesStay.refl s).bump (by decide) (by decide)
  · split
    · exact (cs_wrapperAnswer 213 s).bump (by decide) (by decide)
    · exact (CausesStay.refl s).evUpd rfl fun _ hp => hp

theorem cs_deliverRelay (nested : Nat → Nat → List Nat → State → State) (hn : ∀ a b d x, CausesStay x (nested a b d x))
    (src mask : Nat) (pay : List Nat) (s : State) : CausesStay s (deliverRelay nested src mask pay s) := by
  unfold deliverRelay
  have h : CausesStay s { s with ev := { s.ev with relay := s.ev.relay ++ [src :: mask :: pay] } } :=
    (CausesStay.refl s).evUpd rfl fun _ hp => hp
  generalize { s with ev := { s.ev with relay := s.ev.relay ++ [src :: mask :: pay] } } = x at h ⊢
  exact .ite (h.bump (by decide) (by decide)) (hn ..)

theorem cs_pulsePin (src p : Nat) (s : State) : CausesStay s (pulsePin src p s) :=
  (CausesStay.refl s).onlyIf fun x => (CausesStay.refl x).evUpd rfl fun _ hp => hp

theorem cs_holdOff (src : Nat) (s : State) : CausesStay s (holdOff src s) :=
  (CausesStay.refl s).evUpd rfl fun _ hp => hp

theorem cs_deliver (nested : Nat → Nat → List Nat → State → State) (hn : ∀ a b d x, CausesStay x (nested a b d x)) (src : Nat)
    (s : State) : CausesStay s (deliver nested src s) := by
  unfold deliver
  dsimp only
  have h : CausesStay s (bump EVT.DLV_CNT 0 s) := (CausesStay.refl s).bump (by decide) (by decide)
  generalize bump EVT.DLV_CNT 0 s = x at h ⊢
  refine h.trans ?_
  have k : CausesStay x (if on SRC.CFG_PKT src x = true then
      deliverPacket src (Tbl.get {} s.ev.srcx src).since (eventPayload src s) x else x) :=
    .ite (cs_deliverPacket ..) (.refl x)
  generalize (if on SRC.CFG_PKT src x = true then
      deliverPacket src (Tbl.get {} s.ev.srcx src).since (eventPayload src s) x else x) = y at k ⊢
  have l : CausesStay y (if (on SRC.CFG_RELAY src y && on SYS.CTL_EN 0 y && on SYS.CTL_RELAY_EN 0 y &&
      y.nvm.devnum.isSome) = true then
      deliverRelay nested src (Tbl.get {} s.ev.srcx src).since (eventPayload src s) y else y) :=
    .ite (cs_deliverRelay _ hn ..) (.refl y)
  refine (k.trans l).trans ((CausesStay.trans (cs_pulsePin src 0 _) (cs_pulsePin src 1 _)).trans ?_)
  exact (CausesStay.wr (.refl _) (by decide) (by decide)).trans (cs_holdOff src _)

theorem cs_raiseAt (n src bit : Nat) (d : List Nat) (s : State) : CausesStay s (raiseAt n src bit d s) := by
  induction n generalizing src bit d s with
  | zero => unfold raiseAt; exact cs_raiseCore ..
  | succ n ih =>
    unfold raiseAt
    dsimp only
    split
    · exact (cs_raiseCore ..).trans (cs_deliver _ (fun a b d x => ih a b d x) ..)
    · exact cs_raiseCore ..

theorem cs_raise (src bit : Nat) (d : List Nat) (s : State) : CausesStay s (raise src bit d s) := by
  unfold raise
  split
  · exact cs_raiseAt ..
  · split
    · exact .refl s
    · exact CausesStay.evUpd (.refl s) rfl fun p hp => List.mem_append_left _ hp

theorem raise_raised (src bit : Nat) (d : List Nat) (s : State) (hb : bit < 32) : Raised src bit (raise src bit d s) := by
  have core : ∀ x, maskHas (rd SRC.CAUSE src (raiseCore src bit d x)) bit = true := fun x => by
    refine (cs_raiseRest src bit d x).cause src bit ?_
    rw [rd_wr_self _ _ _ _ (by decide), maskHas_eq_testBit, Nat.testBit_mod_two_pow, maskSet_eq_or, Nat.testBit_or,
      Nat.testBit_two_pow]
    simp [SRC.CAUSE, hb]
  unfold Raised
  rw [raise_up]
  split
  · rename_i u
    unfold raise raiseAt
    rw [if_pos u]
    dsimp only
    split
    · exact (cs_deliver _ (fun a b d x => cs_raiseAt 1 a b d x) src _).cause src bit (core s)
    · exact core s
  · rename_i u
    unfold raise
    rw [if_neg u]
    split
    · assumption
    · simp

theorem CausesStay.raise {s t : State} {a b : Nat} {d : List Nat} (h : CausesStay s t) : CausesStay s (raise a b d t) :=
  h.trans (cs_raise ..)

/-- A write of a word of a table outside the events block. -/
theorem CausesStay.wrx {s t : State} {f : Fld} {i x v : Nat} (h : CausesStay s t) (hf : f.sp.isEvent = false) :
    CausesStay s (wrx f i x v t) := by
  refine h.trans (.same ?_ (wrx_islands ..))
  simp [Machine.wrx, State.set, Fld.key, hf]

/-- A change of any part but the events block and the islands. -/
theorem CausesStay.other {s t u : State} (h : CausesStay s t) (he : u.ev = t.ev := by rfl) (hi : u.islands = t.islands := by rfl) :
    CausesStay s u := h.trans (.same he hi)

theorem Raised.stay {s t : State} {a b : Nat} (r : Raised a b s) (h : CausesStay s t) : Raised a b t := h.raised r

theorem accessCause_raised (bit ofs v : Nat) (s : State) (hb : bit < 32) : Raised 183 bit (accessCause bit ofs v s) :=
  raise_raised 183 bit _ s hb

/-! A cause stays raised. -/

theorem Raised.raise {s : State} {a b c d : Nat} {l : List Nat} (r : Raised a b s) : Raised a b (raise c d l s) := r.stay (cs_raise ..)

theorem Raised.wr {s : State} {a b i v : Nat} {f : Fld} (r : Raised a b s) (hf : f.lo ≤ f.hi ∧ f.hi < 32)
    (hn : f.sp ≠ .src ∨ f.word ≠ SRC.CAUSE.word) : Raised a b (wr f i v s) := r.stay (CausesStay.wr (.refl s) hf hn)

theorem Raised.wrx {s : State} {a b i x v : Nat} {f : Fld} (r : Raised a b s) (hf : f.sp.isEvent = false) :
    Raised a b (wrx f i x v s) := r.stay (CausesStay.wrx (.refl s) hf)

theorem Raised.bump {s : State} {a b i : Nat} {f : Fld} (r : Raised a b s) (hf : f.lo ≤ f.hi ∧ f.hi < 32)
    (hn : f.sp ≠ .src ∨ f.word ≠ SRC.CAUSE.word) : Raised a b (bump f i s) := r.stay (CausesStay.bump (.refl s) hf hn)

theorem Raised.bumpBy {s : State} {a b i n : Nat} {f : Fld} (r : Raised a b s) (hf : f.lo ≤ f.hi ∧ f.hi < 32)
    (hn : f.sp ≠ .src ∨ f.word ≠ SRC.CAUSE.word) : Raised a b (bumpBy f i n s) := r.stay (CausesStay.bumpBy (.refl s) hf hn)

theorem Raised.passTo {s : State} {a b d : Nat} (r : Raised a b s) : Raised a b (passTo d s) :=
  r.stay (.same (passTo_ev ..) (passTo_islands ..))

theorem Raised.setVerdict {s : State} {a b c d : Nat} (r : Raised a b s) : Raised a b (setVerdict c d s) := r.stay (.same rfl rfl)

theorem Raised.accessCause {s : State} {a b c d e : Nat} (r : Raised a b s) : Raised a b (accessCause c d e s) :=
  r.stay (cs_raise ..)

theorem Raised.ite {s t : State} {a b : Nat} {c : Prop} [Decidable c] (h : Raised a b s) (k : Raised a b t) :
    Raised a b (if c then s else t) := by split <;> assumption

theorem Raised.onlyIf {s : State} {a b : Nat} {c : Prop} [Decidable c] {f : State → State} (h : Raised a b s)
    (k : Raised a b (f s)) : Raised a b (onlyIf c f s) := by
  unfold Machine.onlyIf
  split <;> assumption

theorem Raised.setFram {s : State} {a b : Nat} {n : Nat} {x : Framing} (h : Raised a b s) : Raised a b (s.setFram n x) :=
  h.stay (.same rfl rfl)
theorem Raised.setSession {s : State} {a b : Nat} {i : Nat} {x : Session} (h : Raised a b s) : Raised a b (s.setSession i x) :=
  h.stay (.same rfl rfl)
theorem Raised.setLane {s : State} {a b : Nat} {n : Nat} {x : Lane} (h : Raised a b s) : Raised a b (s.setLane n x) :=
  h.stay (.same rfl rfl)
theorem Raised.setGrant {s : State} {a b : Nat} {n : Nat} {x : Grt} (h : Raised a b s) : Raised a b (s.setGrant n x) :=
  h.stay (.same rfl rfl)
theorem Raised.setAct {s : State} {a b : Nat} {n : Nat} {x : Act} (h : Raised a b s) : Raised a b (s.setAct n x) :=
  h.stay (.same rfl rfl)
theorem Raised.setTerm {s : State} {a b : Nat} {n k : Nat} {x : TermX} (h : Raised a b s) : Raised a b (s.setTerm n k x) :=
  h.stay (.same rfl rfl)
theorem Raised.setCluster {s : State} {a b : Nat} {k : Nat} {x : Cluster} (h : Raised a b s) : Raised a b (s.setCluster k x) :=
  h.stay (.same rfl rfl)
theorem Raised.setThread {s : State} {a b : Nat} {k r : Nat} {x : Thread} (h : Raised a b s) : Raised a b (s.setThread k r x) :=
  h.stay (.same rfl rfl)
theorem Raised.setNode {s : State} {a b : Nat} {d : Node} {x : NodeX} (h : Raised a b s) : Raised a b (s.setNode d x) :=
  h.stay (.same rfl rfl)
theorem Raised.setTmdTree {s : State} {a b : Nat} {n : Nat} {x : TmdTree} (h : Raised a b s) : Raised a b (s.setTmdTree n x) :=
  h.stay (.same rfl rfl)
theorem Raised.setTmuPort {s : State} {a b : Nat} {p : Nat} {x : TmuPort} (h : Raised a b s) : Raised a b (s.setTmuPort p x) :=
  h.stay (.same rfl rfl)
theorem Raised.setCph {s : State} {a b : Nat} {d : Nat} {x : Cipher} (h : Raised a b s) : Raised a b (s.setCph d x) :=
  h.stay (.same rfl rfl)
theorem Raised.setCrLane {s : State} {a b : Nat} {l : LaneId} {x : CrLane} (h : Raised a b s) : Raised a b (s.setCrLane l x) :=
  h.stay (.same rfl rfl)
theorem Raised.setPipe {s : State} {a b : Nat} {k : Nat} {x : Pipe} (h : Raised a b s) : Raised a b (s.setPipe k x) :=
  h.stay (.same rfl rfl)
theorem Raised.setNetPort {s : State} {a b : Nat} {n : Nat} {x : NetPort} (h : Raised a b s) : Raised a b (s.setNetPort n x) :=
  h.stay (.same rfl rfl)
theorem Raised.setTim {s : State} {a b : Nat} {x : Tim} (h : Raised a b s) : Raised a b (s.setTim x) :=
  h.stay (.same rfl rfl)
theorem Raised.setPair {s : State} {a b : Nat} {x : PairSt} (h : Raised a b s) : Raised a b (s.setPair x) :=
  h.stay (.same rfl rfl)
theorem Raised.setCmd {s : State} {a b : Nat} {x : Cmd} (h : Raised a b s) : Raised a b (s.setCmd x) :=
  h.stay (.same rfl rfl)
theorem Raised.setSys {s : State} {a b : Nat} {x : SysSt} (h : Raised a b s) : Raised a b (s.setSys x) :=
  h.stay (.same rfl rfl)
theorem Raised.setRst {s : State} {a b : Nat} {x : RstCtl} (h : Raised a b s) : Raised a b (s.setRst x) :=
  h.stay (.same rfl rfl)
theorem Raised.setNvm {s : State} {a b : Nat} {x : NvmSt} (h : Raised a b s) : Raised a b (s.setNvm x) :=
  h.stay (.same rfl rfl)
theorem Raised.setPmu {s : State} {a b : Nat} {i : Nat} {x : PmuVal} (h : Raised a b s) : Raised a b (s.setPmu i x) :=
  h.stay (.same rfl rfl)

end Sys2Proof.Machine
end

