-- ==== Sys2Proof/WellFormed.lean ====
section
/-!
DEFINITION. What an operand's type does not say: the lengths the spec gives the data a command brings, and whole-word offsets.
No meaning rests on it; a command that breaks it is none the outside world can send.
-/

namespace Sys2Proof

/-- A posted write brings 1 to 256 bytes (R367); an access is of a whole word (R415); a PLOAM message has 48 bytes (R376); a
period samples 32 words (R164); written data is as long as its access says. -/
def Instr.wellFormed : Instr → Bool
  | .ploamUpstream _ _ _ _ body => body.length == 48
  | .ohpPeriod _ words => words.length == 32
  | .bufferAccess _ _ _ len data _ => match data with | some b => b.length == len.toNat | none => true
  | .cipherDsSdu _ _ len _ bytes => bytes.length == len.toNat
  | .netFrameRx _ _ bytes _ => decide (bytes.length ≤ 16383)
  | .mbakinRx m => decide (m.ns.toNat < 1000000000 ∧ m.body.length ≤ 16383)
  | .windowWrite _ l => decide (1 ≤ l.length ∧ l.length ≤ 256)
  | .mmioAccess ofs _ _ => ofs.toNat % 4 == 0
  | .registerWrite _ ofs _ => ofs.toNat % 4 == 0
  | .rcCounterRead _ ofs => ofs.toNat % 4 == 0
  | .txModeRun .. | .txExitComplete .. | .txModeIdle .. | .txPllUnlock .. | .txdisForceWrite .. | .presetDataAccess .. 
  | .selectionSend .. | .presetSelection .. | .selectionLoad .. | .missingSelectionWindow .. | .windowClose .. 
  | .windowEnergyMiss .. | .lockDeclared .. | .lockFail .. | .lockLost .. | .lolDeclare .. | .lolClear .. | .losDeclare .. 
  | .modulePresenceChange .. | .treeSdChange .. | .chatterDeclare .. | .chatterClear .. | .sdRogue .. | .testModeWrite .. 
  | .testSlip .. | .prbsLockGain .. | .prbsLockLoss .. | .fsHeaderBuild .. | .mapDeadline .. | .frameStart .. 
  | .encoderSlot .. | .codewordUnderrun .. | .fecEnWrite .. | .dsEnWrite .. | .ponidHiWrite .. | .sfcLoRead .. 
  | .delimiterAccept .. | .delimiterMiss .. | .burstOverrun .. | .codewordQueued .. | .decoderDispatch | .kvCheckDone .. 
  | .codewordDecoded .. | .codewordAgeDiscard | .decEnWrite .. | .reasmTimeout .. | .degWindowTimeout .. | .degDeclare .. 
  | .degClear .. | .degCfgWrite .. | .degEnClear .. | .serialNumberOnu .. | .registration .. | .rangingTimeout .. 
  | .lobDeclare .. | .lobHoldExpiry .. | .dyingGasp .. | .tcmdDeactivate .. | .tcmdDisable .. | .tcmdEnable .. 
  | .tcmdReRange .. | .tcmdEnableAll .. | .ploamKeyCommit .. | .todRequest .. | .todDone .. | .rogueCriterion .. 
  | .smokerObserve .. | .smokerStop .. | .combClose .. | .cellDataWrite .. | .witCfgWrite .. | .allocContextCommit .. 
  | .mirrorDelta .. | .mirrorCloseMarker .. | .add .. | .sub .. | .and .. | .or .. | .xor .. | .shl .. | .shr .. | .minu .. 
  | .maxu .. | .sltu .. | .mul .. | .addi .. | .andi .. | .ori .. | .xori .. | .shli .. | .shri .. | .lui .. | .sltui .. 
  | .ld .. | .st .. | .amadd .. | .beq .. | .bne .. | .bltu .. | .bgeu .. | .bst .. | .bstn .. | .jmp .. | .jal .. | .jr .. 
  | .illegalInstruction .. | .popr .. | .popa .. | .wfe .. | .threadWake .. | .cwr .. | .crd .. | .plf .. | .dur .. 
  | .ctxr .. | .ctxw .. | .tbu .. | .pls .. | .emp .. | .evr .. | .frm .. | .tickEvent .. | .watchdogFault .. 
  | .threadEnable .. | .threadDisable .. | .thrRegionWrite .. | .handoverRequest .. | .mailboxWrite .. | .imemWrite .. 
  | .dmemWrite .. | .ctxDataWrite .. | .traceCtlWrite .. | .traceFull .. | .crlBind .. | .crlUnbind .. | .crlBuild .. 
  | .crlContainerDeadline .. | .crlContainerRx .. | .crlContainerMissing .. | .crlSyncEnter .. | .crlSyncLeave .. 
  | .labelAccept .. | .crlPacketEmit .. | .roePacketRx .. | .roePacketPresent .. | .ohpChannelWrite .. | .crlLaneWrite .. 
  | .clsFrame .. | .clsSecondSlot .. | .learnApply .. | .relocationClear .. | .merge | .conditionalClear .. | .agingVisit .. 
  | .emInsert .. | .emDelete .. | .emSearch .. | .emReadSlot .. | .emFlushLearned .. | .emFlushTree .. | .emCmdDone .. 
  | .lpmAdd | .lpmDelete | .lpmFlushV4 | .lpmFlushV6 | .lpmCmdDone | .hashSeedWrite .. | .tableEntryCommit .. | .alloc .. 
  | .share .. | .free .. | .transfer .. | .bufferArbitration | .poolLock | .freeListDone | .quotaCommit .. | .reclaimDone 
  | .descSnapshot .. | .hbmTempSample .. | .hbmPhyTrainLoss .. | .hbmRetrainDone .. | .tmdEnqueue .. | .tmdDequeueOffer .. 
  | .tmdFrameTaken .. | .nofragReturn .. | .treeDead .. | .tmuEnqueue .. | .tmuTxDecision .. | .gateEvent .. 
  | .preemptCut .. | .gateChangeRequest .. | .gateListChange .. | .cutThroughOffer .. | .nodeWrite .. | .shaperWrite .. 
  | .cipherUsSdu .. | .ctTagCheck .. | .invocationWarning .. | .flowHold .. | .flowKeyCommit .. | .terminalKeyCommit .. 
  | .ringKeyCommit .. | .rekeyTerminalSwitch .. | .rekeyFlowSwitch .. | .rekeyLoadRing .. | .rekeyClearSlot .. 
  | .oldSlotExpiry .. | .flowWrite .. | .cipherPortWrite .. | .portCfgWrite .. | .anComplete .. | .linkUp .. | .ltTimeout .. 
  | .ltSignalLoss .. | .backoffEnd .. | .linkDown .. | .remoteFault .. | .fecWindow .. | .verifyResponse .. 
  | .verifyTimeout .. | .referenceUpdate .. | .timLocked | .timUnlock | .sourceLoss .. | .sourceReturn .. | .refclkCheck .. 
  | .ppsEdge .. | .ppsLost | .todMessage .. | .ppsQualified | .adjOffset | .adjSetTime | .setTimeApply | .adjRealign 
  | .realignCut | .frameTimebaseAligned | .adjFreqWrite .. | .ppsOutPulse | .ptpMessageRx .. | .ptpQualLoss .. 
  | .txtsRead .. | .sentinelTimeCopy | .heartbeatRx .. | .heartbeatMiss | .partnerLinkDown | .partnerLinkUp | .p0LockLoss 
  | .p1Loss .. | .bulkCopyDone | .upstreamFrameJudge .. | .ofsValid .. | .healthEval .. | .healthReport | .yield 
  | .switchRx .. | .ackRx | .nakRx | .commitRx | .switchoverExecute | .switchAbort | .commitTimeout | .releasedRx .. 
  | .returnSend | .returnRx | .linkDownRoleChange | .startupExpiry | .sentinelFeedLoss .. | .sentinelFeedReturn .. 
  | .coreFeedLoss | .coreFeedReturn | .roleSwitchOver | .roleEnterTest | .roleLeaveTest | .roleRejoin | .mbakinHeartbeatSend 
  | .peerLost .. | .sysCtlWrite .. | .sysKeyCommit .. | .powerOn .. | .fuseMapLatch | .resetNPulse .. | .rstWarm 
  | .rstBlock .. | .rstReleaseHeld .. | .rstCold | .islandRelease .. | .phaseStall .. | .clockGoodDrop .. | .ioRailLoss 
  | .ioRailReturn | .pinOverride .. | .thermalSample .. | .thermalTrip | .otpShadowLoaded | .flashDiscoveryDone .. 
  | .slotCheckDone | .runApply | .recordWrite | .recordStream | .recordModify | .recordWait | .waitPoll .. | .waitTimeout .. 
  | .recordKey | .recordTable | .recordEnd | .nvmRead .. | .nvmProgram .. | .nvmErase .. | .nvmCheck .. | .nvmBoot 
  | .flashOpDone | .flashTimeout | .otpProgramSettings | .otpProgramKey .. | .otpProgramDevnum | .otpAdvanceArb .. 
  | .otpProgramPin .. | .otpWordProgrammed .. | .usb4LinkUp .. | .usb4LinkRefused | .usb4EnWrite .. | .tunnelLoss .. 
  | .sessionOpen .. | .sessionClose .. | .packetTimeout .. | .headWrite .. | .hostSilent .. | .unlistedOpcode .. | .echo .. 
  | .regRead .. | .regWrite .. | .regModify .. | .idxRead .. | .idxWrite .. | .tableLoad .. | .progLoad .. | .flashRead .. 
  | .flashWrite .. | .ploamSend .. | .inject .. | .capture .. | .mbakinSend .. | .mbakinReplyTimeout .. | .privChallenge 
  | .privProve | .privDrop | .lockoutExpiry | .indDataAccess .. | .causeRaise .. | .countDelivery .. | .holdoffEnd .. 
  | .dlvEnable | .eventEnWrite .. | .causeW1c .. | .captureRelease .. | .pinPulseEnd .. | .pmuWrap .. | .pmuWindowEnd .. 
  | .pmuSnap | .valLoRead .. | .pmuValWrite .. | .pmuCfgWrite .. | .shaperRecovery .. | .memoryScrubPass .. 
  | .netLaneSignalChange .. | .coreFeedRangeChange .. | .ppsOutFall | .hbmPhyTrained .. => true

end Sys2Proof
end

