-- ==== Sys2Proof/Tests/Slice0.lean ====
section
/-!
SUPPORT. The model's own tests: states that meet the hypotheses of the statements, ill-formed commands, and commands on small
states.
-/

namespace Sys2Proof.Tests

set_option Elab.async false

open Machine

/-- A state with islands out of reset and fields set: (field, instance, entry, value). -/
def at_ (up : List Nat) (fs : List (Fld × Nat × Nat × Nat)) (s : State := {}) : State :=
  allOf fs (fun e => wrx e.1 e.2.1 e.2.2.1 e.2.2.2) { s with islands := s.islands ++ up.map fun i => (i, { up := true }) }
/-- A well-formed HEARTBEAT of device 5 to all. -/
def msg_ : MbakinMsg := {
  port := 0, ver := 1, type := 1, redirected := false, reply := false, src := 5, dst := none, expRole := 0xFF, role := 2
  epoch := 9, expEpoch := 0, pairId := 3, seq := 7, sec := 0, ns := 0, bodyLen := 0, macOk := true, score := 200
  frAligned := true, frame := 0, body := [] }
/-- An inbound packet: opcode, ARG0, ARG1, payload words. -/
def pkt_ (op arg0 arg1 : Nat) (l : List Nat) : Inbound := {
  ver := 1, kind := 0, opcode := op, tag := 7, len := 4 * l.length, arg0 := arg0, arg1 := arg1, payload := wordsBytes l }
/-- Session i open, with an empty ring of 64 KiB and the packet in its FIFO. -/
def fed_ (i : Nat) (p : Inbound) (s : State) : State :=
  { s with sess := [(i, { state := .open, fifo := wordsBytes [p.ver * 2 ^ 28 + p.kind * 2 ^ 26 + p.opcode * 2 ^ 16 + p.tag, p.len, p.arg0, p.arg1] ++ p.payload })] }
    |> wr SESS.RING_SIZE_LOG2 i 16

/-- A map of one burst: its frame, its start, its terminal. -/
def map_ (k st term : Nat) : BwMap := {
  frame := k, structs := [], allocs := [[(9, true)]]
  bursts := [{ cells := [0], rank := 0, term := term, kind := 0, start := st, rate := 0, prof := 0, subst := false, guard := 0, d := 0 }] }

/-- A downstream frame of VID 9 with what the pipelines found for it. -/
def frame_ (l3 : L3) (res : List (Nat × ClsRes)) : DsFrame := {
  no := 3, port := 0, hdr := { dst := 1, src := 2, tagged := true, vid := 9, l3 := l3 }, bytes := [1, 2], res := res }
/-- Pipelines and buffer manager up, one frame at the merge stage. -/
def merge_ (f : DsFrame) : State := at_ [213, 207, 208, 209, 210] [] { merge := { frames := [f] } }
/-- The slot a key takes first in an empty pipeline 0. -/
def slot_ (kind key : Nat) : Nat := (bucketSlots 0 (emHash 0x82F63B78 0 kind key)).headD 0

/-! Ill-formed commands, one for each check. -/

theorem test_window_write_empty : (Instr.windowWrite 0 []).wellFormed = false := by decide
theorem test_window_write_long : (Instr.windowWrite 0 (List.replicate 257 0)).wellFormed = false := by decide +kernel
theorem test_ploam_short : (Instr.ploamUpstream 0 1 .registration ⟨true, false⟩ [0]).wellFormed = false := by decide
theorem test_ohp_period_short : (Instr.ohpPeriod 0 [⟨0, 0, 0⟩]).wellFormed = false := by decide
theorem test_buffer_write_length : (Instr.bufferAccess 0 0 0 2 (some [0]) none).wellFormed = false := by decide
theorem test_sdu_length : (Instr.cipherDsSdu 0 0 2 0 [0]).wellFormed = false := by decide
theorem test_mbakin_nanoseconds : (Instr.mbakinRx { msg_ with ns := 1000000000 }).wellFormed = false := by decide
theorem test_mbakin_body (l : List Byte) (h : l.length = 16384) : (Instr.mbakinRx { msg_ with body := l }).wellFormed = false := by
  simp [Instr.wellFormed, h]
theorem test_mmio_unaligned : (Instr.mmioAccess 2 none 15).wellFormed = false := by decide
theorem test_register_write_unaligned : (Instr.registerWrite 0 3 0).wellFormed = false := by decide
theorem test_counter_read_unaligned : (Instr.rcCounterRead 0 1).wellFormed = false := by decide
theorem test_net_frame_long (pt : Nat) (l : List Byte) (hl : l.length = 16384) :
    (Instr.netFrameRx 0 pt l true).wellFormed = false := by
  simp [Instr.wellFormed, hl]

/-! Commands on small states. The expected values are the spec's. -/

/-- One field of the next state. -/
def after_ (o : Host.Outcome State Fault Refusal) (f : State → Nat) : Option Nat :=
  match o with
  | .next t => some (f t)
  | _ => none

/-- R322: POWER_ON starts the sentinel's feed; nothing of the core runs yet. -/
theorem test_reset_no_island_up : (List.range 226).all (fun i => !State.reset.up i) = true := by decide +kernel

/-- R13, R334: an island in reset only answers. -/
theorem test_command_on_island_in_reset :
    after_ (exec (.txModeRun 0) State.reset) (rd TLN.CTL_TX_MODE 0) = some 0 := by decide +kernel

/-- R19: the exit sequence ends 205.1 ns after RUN, on the model's clock of whole ns at 206. -/
theorem test_exit_sequence_time :
    after_ (exec (.txExitComplete 0) (at_ [0] [(TLN.STS_TX_STATE, 0, 0, 1)])) State.clk = some 206 := by decide +kernel

/-- R402: a read of VAL_LO loads the latch where SNAP_MODE is 0. -/
theorem test_val_lo_loads_latch :
    after_ (exec (.valLoRead 3) (at_ [223] [] { pmu := [(3, { val := 5, latch := 1 })] })) (fun t => (t.pmuVal 3).latch) = some 5 := by
  decide +kernel

/-- The queue is first in, first out, and an empty one lets 1 ns pass. -/
theorem test_queue_order :
    after_ (step { pending := [.txModeRun 0, .txModeIdle 1] }) (fun t => t.pending.length) = some 1 := by decide +kernel
theorem test_idle_passes_time : after_ (step {}) State.clk = some 1 := by decide +kernel

/-! What meets the hypotheses of the statements about every command. -/

theorem witness_StepRunsFront :
    ∃ s : State, s.pending = [] ∧ s.ev.relay = [] ∧ freqNow s = 0 ∧ s.tim.slew = 0 ∧ 0 ≤ s.tim.freqRem ∧
      s.tim.freqRem < 1000000000 ∧ s.ptpFrac < 65536 := ⟨{}, by decide +kernel⟩
theorem witness_CanonicalKept : ∃ s t : State, step s = .next t ∧ s.canonical = true := ⟨{}, idle {}, rfl, rfl⟩
theorem witness_QueueAndTime : ∃ (c : Instr) (s t : State), exec c s = .next t :=
  ⟨.txModeRun 0, {}, wrapperAnswer 167 {}, rfl⟩
theorem witness_EveryCommandsFrame :
    ∃ (c : Instr) (s t : State), exec c s = .next t ∧ wideCommand c = false ∧ tableCommand c = false ∧
      Part.lpm ∉ (reachOf c).1 ∧ Sp.flash ∉ eventSpaces ++ (reachOf c).2 :=
  ⟨.txModeRun 0, {}, wrapperAnswer 167 {}, rfl, rfl, rfl, by decide, by decide⟩
theorem witness_EveryCommandAnswers :
    ∃ (c : Instr) (j : Nat) (s : State), homeIsland c = some j ∧ s.up j = false := ⟨.txModeRun 47, 174, {}, rfl, rfl⟩

/-! States and operands that meet the hypotheses of each statement, a witness a clause. -/

theorem witness_LaneTransmit :
    (∃ (n : Fin 48) (s : State), (s.up (framingIsland n) = true) ∧ (rd TLN.CTL_TX_MODE n s = 0) ∧ (s.up n = true)) ∧
    (∃ (n : Fin 48) (s : State), (s.up n = true) ∧ (rd TLN.STS_TX_STATE n s = 1)) ∧
    (∃ (n : Fin 48) (s : State), (s.up (framingIsland n) = true)) ∧
    (∃ (n : Fin 48) (v : BitVec 2) (s : State), (s.up (framingIsland n) = true) ∧ (privileged s = true) ∧ (v ≠ 3) ∧ ((v = 2 → roleTest s = true))) ∧
    (∃ (n : Fin 48) (s : State), (s.up (framingIsland n) = true)) ∧
    (∃ (n : Fin 48) (s : State), (s.up (framingIsland n) = true)) :=
  ⟨⟨0, at_ [0, 167] [], by decide +kernel⟩,
   ⟨0, at_ [0] [(TLN.STS_TX_STATE, 0, 0, 1)], by decide +kernel⟩,
   ⟨0, at_ [167] [], by decide +kernel⟩,
   ⟨0, 2, at_ [167] [(PAR.STS_ROLE, 0, 0, 3)] { cmd := { source := 0, priv := true } }, by decide +kernel⟩,
   ⟨0, at_ [167] [], by decide +kernel⟩,
   ⟨0, at_ [167] [], by decide +kernel⟩⟩

theorem witness_LaneWindows :
    (∃ (n : Fin 48) (lead : Int) (sel : Selection) (rest : List Selection) (s : State), (s.up (48 + n) = true) ∧ ((s.lane n).crossing = sel :: rest) ∧ ((s.lane n).pendingSel.length < 4) ∧ (20000 ≤ lead) ∧ (testing n s = false)) ∧
    (∃ (n : Fin 48) (sel : Selection) (rest : List Selection) (s : State), (s.up (48 + n) = true) ∧ ((s.lane n).crossing = sel :: rest) ∧ (4 ≤ (s.lane n).pendingSel.length) ∧ (testing n s = false)) ∧
    (∃ (n : Fin 48) (sel : Selection) (rest : List Selection) (s : State), (s.up (48 + n) = true) ∧ ((s.lane n).pendingSel = sel :: rest) ∧ ((s.lane n).window = none) ∧ (testing n s = false)) ∧
    (∃ (n : Fin 48) (w : Win) (s : State), (s.up (48 + n) = true) ∧ ((s.lane n).window = some w) ∧ (w.locked = true) ∧ (w.invalid = false) ∧ (w.noEntry = false) ∧ (w.learn = true) ∧ (rdx PRESET.HOLD n w.sel.index s = 0) ∧ (on TLN.CTL_STRB_EN n s = false)) ∧
    (∃ (n : Fin 48) (w : Win) (s : State), (s.up (48 + n) = true) ∧ ((s.lane n).window = some w) ∧ (w.locked = true) ∧ (w.invalid = false) ∧ (w.noEntry = false) ∧ (w.learn = true) ∧ (rdx PRESET.HOLD n w.sel.index s = 0) ∧ (on TLN.CTL_STRB_EN n s = false)) ∧
    (∃ (n : Fin 48) (w : Win) (s : State), (s.up (48 + n) = true) ∧ ((s.lane n).window = some w) ∧ ((w.sel.kind ≠ .quiet → w.locked = false ∧ w.invalid = false)) ∧ (on TLN.CTL_RX_EN n s = true)) ∧
    (∃ (n : Fin 48) (w : Win) (s : State), (s.up (48 + n) = true) ∧ ((s.lane n).window = some w) ∧ (w.locked = false) ∧ (w.invalid = false) ∧ (w.off = false) ∧ (on TLN.CTL_RX_EN n s = true) ∧ (w.delimiter = none)) ∧
    (∃ (n : Fin 48) (w : Win) (s : State), (s.up (48 + n) = true) ∧ ((s.lane n).window = some w) ∧ (w.locked = true) ∧ (w.invalid = false)) ∧
    (∃ (n : Fin 48) (s : State), (s.up (48 + n) = true) ∧ (16 ≤ (s.lane n).badRun) ∧ (on TLN.STS_LOL n s = false)) ∧
    (∃ (n : Fin 48) (s : State), (s.up (48 + n) = true) ∧ (16 ≤ (s.lane n).goodRun) ∧ (on TLN.STS_LOL n s = true)) ∧
    (∃ (n : Fin 48) (s : State), (s.up (48 + n) = true) ∧ (4 ≤ (s.lane n).darkRun) ∧ (on TLN.STS_LOS n s = false)) :=
  ⟨⟨0, 20000, {}, [], at_ [48] [] { lanes := [(0, { crossing := [{}] })] }, by decide +kernel⟩,
   ⟨0, {}, [], at_ [48] [] { lanes := [(0, { crossing := [{}], pendingSel := [{}, {}, {}, {}] })] }, by decide +kernel⟩,
   ⟨0, {}, [], at_ [48] [] { lanes := [(0, { pendingSel := [{}] })] }, by decide +kernel⟩,
   ⟨0, { locked := true, learn := true }, at_ [48] [(TLN.CTL_STRB_EN, 0, 0, 0)] { lanes := [(0, { window := some { locked := true, learn := true } })] }, by decide +kernel⟩,
   ⟨0, { locked := true, learn := true }, at_ [48] [(TLN.CTL_STRB_EN, 0, 0, 0)] { lanes := [(0, { window := some { locked := true, learn := true } })] }, by decide +kernel⟩,
   ⟨0, {}, at_ [48] [(TLN.CTL_RX_EN, 0, 0, 1)] { lanes := [(0, { window := some {} })] }, by decide +kernel⟩,
   ⟨0, {}, at_ [48] [(TLN.CTL_RX_EN, 0, 0, 1)] { lanes := [(0, { window := some {}, badRun := 2 })] }, by decide +kernel⟩,
   ⟨0, { locked := true }, at_ [48] [] { lanes := [(0, { window := some { locked := true } })] }, by decide +kernel⟩,
   ⟨0, at_ [48] [(TLN.STS_LOL, 0, 0, 0)] { lanes := [(0, { badRun := 16 })] }, by decide +kernel⟩,
   ⟨0, at_ [48] [(TLN.STS_LOL, 0, 0, 1)] { lanes := [(0, { goodRun := 16 })] }, by decide +kernel⟩,
   ⟨0, at_ [48] [(TLN.STS_LOS, 0, 0, 0)] { lanes := [(0, { darkRun := 4 })] }, by decide +kernel⟩⟩

theorem witness_LaneModule :
    (∃ (n : Fin 48) (s : State), (s.up (framingIsland n) = true) ∧ (on TLN.STS_PRES n s = false)) ∧
    (∃ (n : Fin 48) (s : State), (s.up (framingIsland n) = true) ∧ (on TLN.STS_PRES n s = true) ∧ (on TLN.STS_LOS n s = false)) ∧
    (∃ (n : Fin 48) (k : Nat) (s : State), (s.up (framingIsland n) = true) ∧ (4 ≤ k)) ∧
    (∃ (n : Fin 48) (k : Nat) (s : State), (s.up (framingIsland n) = true) ∧ (k < 4)) ∧
    (∃ (n : Fin 48) (s : State), (s.up (framingIsland n) = true) ∧ (on TLN.STS_CHATTER n s = false) ∧ (8 < ((s.lane n).rejected.filter fun t => decide (s.clk ≤ t + 10000)).length)) ∧
    (∃ (n : Fin 48) (s : State), (s.up (framingIsland n) = true) ∧ (on TLN.STS_CHATTER n s = true)) ∧
    (∃ (n : Fin 48) (mode : BitVec 3) (s : State), (s.up (framingIsland n) = true) ∧ (mode.toNat ≤ 3)) ∧
    (∃ (n : Fin 48) (s : State), (s.up (framingIsland n) = true) ∧ (2 ≤ rd TLN.TEST_MODE n s)) ∧
    (∃ (n : Fin 48) (s : State), (s.up (48 + n) = true) ∧ (2 ≤ rd TLN.TEST_MODE n s) ∧ (on TLN.STS_PRBS_LOCK n s = false)) ∧
    (∃ (n : Fin 48) (errs : PrbsErrors) (s : State), (s.up (48 + n) = true) ∧ (on TLN.STS_PRBS_LOCK n s = true) ∧ (4 ≤ errs.words)) ∧
    (∃ (n : Fin 48) (errs : PrbsErrors) (s : State), (s.up (48 + n) = true) ∧ (on TLN.STS_PRBS_LOCK n s = true) ∧ (errs.words < 4)) ∧
    (∃ (n : Fin 32) (s : State), (s.up (96 + n) = true) ∧ (2 ≤ rd NET.LANE_TEST_MODE n s) ∧ (on NET.LANE_STS_PRBS_LOCK n s = false)) ∧
    (∃ (n : Fin 32) (errs : PrbsErrors) (s : State), (s.up (96 + n) = true) ∧ (on NET.LANE_STS_PRBS_LOCK n s = true) ∧ (4 ≤ errs.words)) :=
  ⟨⟨0, at_ [167] [(TLN.STS_PRES, 0, 0, 0)], by decide +kernel⟩,
   ⟨0, at_ [167] [(TLN.STS_PRES, 0, 0, 1), (TLN.STS_LOS, 0, 0, 0)], by decide +kernel⟩,
   ⟨0, 4, at_ [167] [], by decide +kernel⟩,
   ⟨0, 3, at_ [167] [], by decide +kernel⟩,
   ⟨0, at_ [167] [(TLN.STS_CHATTER, 0, 0, 0)] { lanes := [(0, { rejected := List.replicate 9 0 })] }, by decide +kernel⟩,
   ⟨0, at_ [167] [(TLN.STS_CHATTER, 0, 0, 1)], by decide +kernel⟩,
   ⟨0, 3, at_ [167] [], by decide +kernel⟩,
   ⟨0, at_ [167] [(TLN.TEST_MODE, 0, 0, 2)], by decide +kernel⟩,
   ⟨0, at_ [48] [(TLN.TEST_MODE, 0, 0, 2), (TLN.STS_PRBS_LOCK, 0, 0, 0)], by decide +kernel⟩,
   ⟨0, { bits := 9, words := 4 }, at_ [48] [(TLN.STS_PRBS_LOCK, 0, 0, 1)], by decide +kernel⟩,
   ⟨0, { bits := 9, words := 3 }, at_ [48] [(TLN.STS_PRBS_LOCK, 0, 0, 1)], by decide +kernel⟩,
   ⟨0, at_ [96] [(NET.LANE_TEST_MODE, 0, 0, 2), (NET.LANE_STS_PRBS_LOCK, 0, 0, 0)], by decide +kernel⟩,
   ⟨0, { bits := 7, words := 4 }, at_ [96] [(NET.LANE_STS_PRBS_LOCK, 0, 0, 1)], by decide +kernel⟩⟩

theorem witness_DownstreamFrame :
    (∃ (n : Fin 48) (m : BwMap) (s : State), (s.up (framingIsland n) = true) ∧ ((s.fram n).built = none) ∧ (on TFR.CTL_DS_EN n s = true) ∧ ((s.fram n).mapIn = some m) ∧ (m.frame = (s.fram n).frame + 1) ∧ ((s.fram n).voidUntil ≤ (s.fram n).frame + 1)) ∧
    (∃ (n : Fin 48) (s : State), (s.up (framingIsland n) = true) ∧ ((s.fram n).built = none) ∧ (on TFR.CTL_DS_EN n s = true) ∧ ((s.fram n).mapIn = none)) ∧
    (∃ (n : Fin 48) (b : Built) (s : State), (s.up (framingIsland n) = true) ∧ (((drainFifo n s).fram n).cur = some b) ∧ (b.emptyHeader = false) ∧ (((drainFifo n s).fram n).substituting = false) ∧ (((drainFifo n s).fram n).fifo = 0) ∧ (((drainFifo n s).fram n).cut = false) ∧ (((drainFifo n s).fram n).cwSent < 360) ∧ (rd TLN.CTL_TX_MODE n s = 1) ∧ (0 < ((drainFifo n s).fram n).cwSent)) ∧
    (∃ (k : Fin 8) (i : Nat) (s : State), (s.up (199 + k) = true) ∧ (s.up (167 + k) = true) ∧ (slotTree k (allOf (List.range 6) (fun i => drainFifo (6 * k + i)) s) = some i) ∧ (s.up (6 * k + i) = true)) ∧
    (∃ (k : Fin 8) (i : Nat) (s : State), (s.up (199 + k) = false) ∧ (s.up (167 + k) = true) ∧ (slotTree k s = some i)) :=
  ⟨⟨0, { frame := 1, structs := [], bursts := [], allocs := [] }, at_ [167] [(TFR.CTL_DS_EN, 0, 0, 1)] { framing := [(0, { mapIn := some { frame := 1, structs := [], bursts := [], allocs := [] } })] }, by decide +kernel⟩,
   ⟨0, at_ [167] [(TFR.CTL_DS_EN, 0, 0, 1)], by decide +kernel⟩,
   ⟨0, { frame := 0, smoker := [], map := none, emptyHeader := false, void := false, ploams := [] }, at_ [167] [(TLN.CTL_TX_MODE, 0, 0, 1)] { framing := [(0, { cur := some { frame := 0, smoker := [], map := none, emptyHeader := false, void := false, ploams := [] }, cwSent := 5 })] }, by decide +kernel⟩,
   ⟨0, 1, at_ [167, 199, 1] [(TLN.CTL_TX_MODE, 1, 0, 1)], by decide +kernel⟩,
   ⟨0, 1, at_ [167] [(TLN.CTL_TX_MODE, 1, 0, 1)], by decide +kernel⟩⟩

theorem witness_FramerRegisters :
    (∃ (n : Fin 48) (v : BitVec 1) (s : State), (s.up (framingIsland n) = true) ∧ ((v = 0 → roleTest s = true))) ∧
    (∃ (n : Fin 48) (s : State), (s.up (framingIsland n) = true) ∧ (roleTest s = false)) ∧
    (∃ (n : Fin 48) (s : State), (s.up (framingIsland n) = true)) ∧
    (∃ (n : Fin 48) (s : State), (s.up (framingIsland n) = true)) ∧
    (∃ (n : Fin 48) (s : State), (s.up (framingIsland n) = true)) :=
  ⟨⟨0, 1, at_ [167] [], by decide +kernel⟩,
   ⟨0, at_ [167] [], by decide +kernel⟩,
   ⟨0, at_ [167] [], by decide +kernel⟩,
   ⟨0, at_ [167] [], by decide +kernel⟩,
   ⟨0, at_ [167] [], by decide +kernel⟩⟩

theorem witness_UpstreamWindows :
    (∃ (n : Fin 48) (d : Selection) (s : State), (s.up (framingIsland n) = true) ∧ (s.up (48 + n) = true) ∧ (((s.fram n).due.find? fun d => !(s.lane n).pendingSel.contains d) = some d) ∧ ((s.lane n).window = none) ∧ (testing n s = false) ∧ ((s.lane n).dropped.contains d = false) ∧ ((s.lane n).crossing.contains d = false)) ∧
    (∃ (n : Fin 48) (w : Win) (s : State), (s.up (framingIsland n) = true) ∧ ((s.lane n).window = some w) ∧ (w.sel.kind = .burst) ∧ (w.energy = false) ∧ (w.missed = false) ∧ (missCounts n w.sel.index s = true)) ∧
    (∃ (n : Fin 48) (seen : DelimiterSeen) (ofs : Int) (w : Win) (s : State), (s.up (framingIsland n) = true) ∧ ((s.lane n).window = some w) ∧ (on TFR.CTL_US_EN n s = true) ∧ (w.invalid = false) ∧ (w.sel.kind = .burst) ∧ (w.judged = false) ∧ (w.overrun = false) ∧ (bestMatch w seen = some ofs)) ∧
    (∃ (n : Fin 48) (w : Win) (s : State), (s.up (framingIsland n) = true) ∧ ((s.lane n).window = some w) ∧ (on TFR.CTL_US_EN n s = true) ∧ (w.sel.kind = .burst) ∧ (w.judged = false) ∧ (w.overrun = false) ∧ ((s.term n w.sel.index).trial = none) ∧ (missCounts n w.sel.index s = true)) ∧
    (∃ (n : Fin 48) (w : Win) (s : State), (s.up (framingIsland n) = true) ∧ ((s.lane n).window = some w)) :=
  ⟨⟨0, {}, at_ [48, 167] [] { framing := [(0, { due := [{}] })] }, by decide +kernel⟩,
   ⟨0, {}, at_ [167] [] { lanes := [(0, { window := some {} })] }, by decide +kernel⟩,
   ⟨0, [(9, 2), (5, 1)], 5, { dlmWin := 8, dlmErr := 2 }, at_ [167] [(TFR.CTL_US_EN, 0, 0, 1), (PAR.STS_ROLE, 0, 0, 1)] { lanes := [(0, { window := some { dlmWin := 8, dlmErr := 2 } })] }, by decide +kernel⟩,
   ⟨0, {}, at_ [167] [(TFR.CTL_US_EN, 0, 0, 1)] { lanes := [(0, { window := some {} })] }, by decide +kernel⟩,
   ⟨0, {}, at_ [167] [] { lanes := [(0, { window := some {} })] }, by decide +kernel⟩⟩

theorem witness_DecoderPool :
    (∃ (n : Fin 48) (b : BurstRx) (s : State), (s.up (framingIsland n) = true) ∧ ((s.fram n).burst = some b) ∧ (on TFR.CTL_US_EN n s = true) ∧ (b.fec = true)) ∧
    (∃ (c : Cw) (s : State), (s.up 183 = true) ∧ (oldestHead s = some c) ∧ (on POOL.DP_CTL_ST_EN 0 s = false) ∧ (((List.range 16).filter fun j => inService j s && decEnabled j s && !s.pool.leaving.contains j && !inCheck j s && decide (busyUntil j s ≤ decoderCycle s + 4)) = [0]) ∧ (((List.range 16).filter fun j => s.pool.out.contains j && s.up (183 + j) && decEnabled j s && !s.pool.failed.contains j && !inCheck j s && decide (busyUntil j s ≤ decoderCycle s)) = [])) ∧
    (∃ (j : Fin 16) (e : Nat) (s : State), (s.up (183 + j) = true) ∧ (Tbl.get none s.pool.check j = some e) ∧ (s.pool.out.contains j = true) ∧ (s.pool.failed.contains j = false)) ∧
    (∃ (j : Fin 16) (e : Nat) (s : State), (s.up (183 + j) = true) ∧ (Tbl.get none s.pool.check j = some e) ∧ (decEnabled j s = true)) ∧
    (∃ (j : Fin 16) (c : Cw) (e : Nat) (rest : List (Cw × Nat)) (s : State), (s.up (183 + j) = true) ∧ (Tbl.get [] s.pool.holding j = (c, e) :: rest) ∧ (decEnabled j s = true) ∧ (s.up (framingIsland c.tree) = true)) ∧
    (∃ (c : Cw) (s : State), (s.up 183 = true) ∧ (oldestHead s = some c) ∧ (s.up (framingIsland c.tree) = true)) ∧
    (∃ (j : Fin 16) (s : State), (s.up 183 = true) ∧ (decEnabled j s = false)) ∧
    (∃ (j : Fin 16) (s : State), (s.up 183 = true) ∧ (decEnabled j s = true) ∧ (busyUntil j s ≤ decoderCycle s) ∧ (inCheck j s = false) ∧ (s.pool.out.contains j.val = false) ∧ (Tbl.get [] s.pool.holding j = [])) :=
  ⟨⟨0, { no := 0, pos := 0, term := 0, kind := .burst, frame := 0, lockUi := 0, fec := true, left := 40000 }, at_ [167] [(TFR.CTL_US_EN, 0, 0, 1)] { framing := [(0, { burst := some { no := 0, pos := 0, term := 0, kind := .burst, frame := 0, lockUi := 0, fec := true, left := 40000 } })] }, by decide +kernel⟩,
   ⟨{ tree := 0, term := 0, bits := 5, first := true, last := true, kind := .burst, burst := 0, lockUi := 0, frame := 0, pos := 0, done := 0 }, at_ ((List.range 16).map (183 + ·)) [(POOL.DP_CTL_DEC_EN, 0, 0, 1), (POOL.DP_CTL_ST_EN, 0, 0, 0)] { pool := { queue := [(0, [{ tree := 0, term := 0, bits := 5, first := true, last := true, kind := .burst, burst := 0, lockUi := 0, frame := 0, pos := 0, done := 0 }])], out := [1, 2, 3, 4, 5, 6, 7, 8, 9, 10, 11, 12, 13, 14, 15], failed := [1, 2, 3, 4, 5, 6, 7, 8, 9, 10, 11, 12, 13, 14, 15] } }, by decide +kernel⟩,
   ⟨3, 5, at_ [186] [] { pool := { check := [(3, some 5)], out := [3] } }, by decide +kernel⟩,
   ⟨3, 5, at_ [186] [(POOL.DP_CTL_DEC_EN, 0, 0, 8)] { pool := { check := [(3, some 5)] } }, by decide +kernel⟩,
   ⟨0, { tree := 0, term := 0, bits := 5, first := true, last := true, kind := .quiet, burst := 0, lockUi := 0, frame := 0, pos := 0, done := 0 }, 7, [], at_ [167, 183] [(POOL.DP_CTL_DEC_EN, 0, 0, 1)] { pool := { holding := [(0, [({ tree := 0, term := 0, bits := 5, first := true, last := true, kind := .quiet, burst := 0, lockUi := 0, frame := 0, pos := 0, done := 0 }, 7)])] } }, by decide +kernel⟩,
   ⟨{ tree := 0, term := 0, bits := 5, first := true, last := true, kind := .quiet, burst := 0, lockUi := 0, frame := 0, pos := 0, done := 0 }, at_ [167, 183] [] { pool := { queue := [(0, [{ tree := 0, term := 0, bits := 5, first := true, last := true, kind := .quiet, burst := 0, lockUi := 0, frame := 0, pos := 0, done := 0 }])] } }, by decide +kernel⟩,
   ⟨3, at_ [183] [(POOL.DP_CTL_DEC_EN, 0, 0, 1)], by decide +kernel⟩,
   ⟨3, at_ [183] [(POOL.DP_CTL_DEC_EN, 0, 0, 9)], by decide +kernel⟩⟩

theorem witness_DegradedSignal :
    (∃ (n : Fin 48) (k : BitVec 9) (s : State), (s.up (framingIsland n) = true) ∧ ((s.term n k.toNat).degOpen = true)) ∧
    (∃ (n : Fin 48) (k : BitVec 9) (s : State), (s.up (framingIsland n) = true) ∧ (rdx TFRT.DEG n k.toNat s = 0) ∧ (on TFR.CTL_DEG_EN n s = true) ∧ (rd TFR.DEG_CFG_DECL_N n s ≤ rdx TFRT.DECL_RUN n k.toNat s)) ∧
    (∃ (n : Fin 48) (k : BitVec 9) (s : State), (s.up (framingIsland n) = true) ∧ (rdx TFRT.DEG n k.toNat s = 1) ∧ (rd TFR.DEG_CFG_CLR_N n s ≤ rdx TFRT.CLR_RUN n k.toNat s)) ∧
    (∃ (n : Fin 48) (k : Nat) (s : State), (s.up (framingIsland n) = true) ∧ (k < 512) ∧ ((s.term n k).degOpen = true)) ∧
    (∃ (n : Fin 48) (k : Nat) (s : State), (s.up (framingIsland n) = true) ∧ (k ∈ degTerms n s)) ∧
    (∃ (n : Fin 48) (p : BitVec 16) (c : Reasm) (s : State), (s.up (framingIsland n) = true) ∧ (contextOf n p.toNat s = some c) ∧ (rd TFR.US_CFG_REASM_TO n s ≤ c.age)) :=
  ⟨⟨0, 5, at_ [167] [] { terms := [(5, { degOpen := true })] }, by decide +kernel⟩,
   ⟨0, 5, at_ [167] [(TFR.CTL_DEG_EN, 0, 0, 1), (TFR.DEG_CFG_DECL_N, 0, 0, 2), (TFRT.DECL_RUN, 0, 5, 2)], by decide +kernel⟩,
   ⟨0, 5, at_ [167] [(TFR.DEG_CFG_CLR_N, 0, 0, 2), (TFRT.DEG, 0, 5, 1), (TFRT.CLR_RUN, 0, 5, 2)], by decide +kernel⟩,
   ⟨0, 5, at_ [167] [] { terms := [(5, { degOpen := true })] }, by decide +kernel⟩,
   ⟨0, 5, at_ [167] [(TFRT.DEG, 0, 5, 1)], by decide +kernel⟩,
   ⟨0, 5, { port := 5, handle := 0, bytes := 0, age := 9 }, at_ [167] [(TFR.US_CFG_REASM_TO, 0, 0, 2)] { framing := [(0, { reasm := [{ port := 5, handle := 0, bytes := 0, age := 9 }] })] }, by decide +kernel⟩⟩

theorem witness_TerminalLife :
    (∃ (n : Fin 48) (r : SerialResponse) (o e : Nat) (s : State), (s.up (framingIsland n) = true) ∧ ((roleActive s || roleTest s) = true) ∧ (snMatch n r.vendor.toNat r.vssn.toNat s = []) ∧ (on ACT.CTL_ACT_EN n s = true) ∧ (rd ACT.CTL_ADMIT n s ≠ 0) ∧ (smokerRunning n s = false) ∧ (broodFree n s = some e) ∧ (admitRecord n r.vendor.toNat r.vssn.toNat s = some o) ∧ (windowStart n r.grant s ≠ none) ∧ ((s.actOf n).high.length < 32) ∧ ((s.actOf n).holding = []) ∧ (o < 512)) ∧
    (∃ (n : Fin 48) (o : BitVec 9) (a : Nat) (g : GrantRef) (st e : Nat) (s : State), (s.up (framingIsland n) = true) ∧ ((roleActive s || roleTest s) = true) ∧ (windowStart n g s = some st) ∧ (broodOf n o.toNat s = some e) ∧ (termState n o.toNat s = 1) ∧ (rdx BROOD.PHASE n e s = 1) ∧ ((s.term n o.toNat).deactivating = false) ∧ (reachOk n o.toNat ((64 * rd TFR.US_CFG_URO n s : Nat) - (((a * 2 ^ rdx ACTT.RATE n o.toNat s : Nat) : Int) - (64 * st : Nat))) ((s.term n o.toNat).rngCfg % 2 ^ 10) s = true)) ∧
    (∃ (n : Fin 48) (o : BitVec 9) (e k : Nat) (s : State), (s.up (framingIsland n) = true) ∧ ((roleActive s || roleTest s) = true) ∧ (broodOf n o.toNat s = some e) ∧ ((s.term n o.toNat).rngEnd = some k) ∧ (termState n o.toNat s = 1) ∧ (rdx BROOD.PHASE n e s = 1) ∧ ((s.term n o.toNat).deactivating = false)) ∧
    (∃ (n : Fin 48) (o : BitVec 9) (s : State), (s.up (framingIsland n) = true) ∧ ((roleActive s || roleTest s) = true) ∧ (termState n o.toNat s = 2) ∧ ((s.term n o.toNat).lobDue = true) ∧ ((s.term n o.toNat).deactivating = false)) ∧
    (∃ (n : Fin 48) (o : BitVec 9) (s : State), (s.up (framingIsland n) = true) ∧ ((roleActive s || roleTest s) = true) ∧ (termState n o.toNat s = 3) ∧ (rd ACT.LOB_CFG_LOB_HOLD n s ≤ (s.term n o.toNat).lostFrames) ∧ ((s.term n o.toNat).deactivating = false)) ∧
    (∃ (n : Fin 48) (o : BitVec 9) (s : State), (s.up (framingIsland n) = true) ∧ ((roleActive s || roleTest s) = true) ∧ (termState n o.toNat s ≠ 0) ∧ (termState n o.toNat s ≠ 4) ∧ ((s.term n o.toNat).deactivating = false)) :=
  ⟨⟨0, { vendor := 7, vssn := 9, preamble := 500, grant := { frame := 3, pos := 0 }, random := 50 }, 5, 3, at_ [167] [(PAR.STS_ROLE, 0, 0, 2), (ACT.CTL_ACT_EN, 0, 0, 1), (ACT.CTL_ADMIT, 0, 0, 1), (ACTT.LISTED, 0, 5, 1), (ACTT.SN_VENDOR, 0, 5, 7), (ACTT.SN_VSSN, 0, 5, 9), (BROOD.VALID, 0, 0, 1), (BROOD.VALID, 0, 1, 1), (BROOD.VALID, 0, 2, 1)] { grt := [(0, { ring := [map_ 3 100 1023] })] }, by decide +kernel⟩,
   ⟨0, 5, 1000, { frame := 3, pos := 0 }, 7, 2, at_ [167] [(PAR.STS_ROLE, 0, 0, 2), (ACTT.STATE, 0, 5, 1), (BROOD.VALID, 0, 2, 1), (BROOD.PHASE, 0, 2, 1), (BROOD.ONU_ID, 0, 2, 5), (TFR.US_CFG_URO, 0, 0, 100)] { grt := [(0, { ring := [map_ 3 7 5] })] }, by decide +kernel⟩,
   ⟨0, 5, 2, 30, at_ [167] [(PAR.STS_ROLE, 0, 0, 2), (ACTT.STATE, 0, 5, 1), (BROOD.VALID, 0, 2, 1), (BROOD.PHASE, 0, 2, 1), (BROOD.ONU_ID, 0, 2, 5)] { terms := [(5, { rngEnd := some 30 })] }, by decide +kernel⟩,
   ⟨0, 5, at_ [167] [(PAR.STS_ROLE, 0, 0, 2), (ACTT.STATE, 0, 5, 2)] { terms := [(5, { lobDue := true })] }, by decide +kernel⟩,
   ⟨0, 5, at_ [167] [(PAR.STS_ROLE, 0, 0, 2), (ACTT.STATE, 0, 5, 3)] { terms := [(5, { lostFrames := 100000 })] }, by decide +kernel⟩,
   ⟨0, 5, at_ [167] [(PAR.STS_ROLE, 0, 0, 2), (ACTT.STATE, 0, 5, 3)], by decide +kernel⟩⟩

theorem witness_TerminalCommands :
    (∃ (n : Fin 48) (o : BitVec 9) (s : State), (s.up (framingIsland n) = true) ∧ (termState n o.toNat s ≠ 0) ∧ (termState n o.toNat s ≠ 4) ∧ ((s.term n o.toNat).deactivating = false)) ∧
    (∃ (n : Fin 48) (o : BitVec 9) (s : State), (s.up (framingIsland n) = true) ∧ (termState n o.toNat s ≠ 0) ∧ ((s.actOf n).smoker = none) ∧ ((s.actOf n).high.length < 32) ∧ ((s.actOf n).holding = [])) ∧
    (∃ (n : Fin 48) (o : BitVec 9) (s : State), (s.up (framingIsland n) = true) ∧ (termState n o.toNat s = 4) ∧ ((s.actOf n).smoker = none) ∧ ((s.actOf n).high.length < 32) ∧ ((s.actOf n).holding = [])) ∧
    (∃ (n : Fin 48) (o : BitVec 9) (s : State), (s.up (framingIsland n) = true) ∧ (termState n o.toNat s ≠ 4)) ∧
    (∃ (n : Fin 48) (o : BitVec 9) (e : Nat) (s : State), (s.up (framingIsland n) = true) ∧ (broodFree n s = some e) ∧ (termState n o.toNat s = 2) ∧ ((s.actOf n).smoker = none)) ∧
    (∃ (n : Fin 48) (s : State), (s.up (framingIsland n) = true) ∧ ((s.actOf n).smoker = none) ∧ ((s.actOf n).high.length < 32) ∧ ((s.actOf n).holding = [])) :=
  ⟨⟨0, 5, at_ [167] [(ACTT.STATE, 0, 5, 2)], by decide +kernel⟩,
   ⟨0, 5, at_ [167] [(ACTT.STATE, 0, 5, 2)], by decide +kernel⟩,
   ⟨0, 5, at_ [167] [(ACTT.STATE, 0, 5, 4)], by decide +kernel⟩,
   ⟨0, 5, at_ [167] [(ACTT.STATE, 0, 5, 2)], by decide +kernel⟩,
   ⟨0, 5, 0, at_ [167] [(ACTT.STATE, 0, 5, 2)], by decide +kernel⟩,
   ⟨0, at_ [167] [], by decide +kernel⟩⟩

theorem witness_PloamAndRogue :
    (∃ (n : Fin 48) (s : State), (s.up (framingIsland n) = true) ∧ ((roleActive s || roleTest s) = true)) ∧
    (∃ (n : Fin 48) (s : State), (s.up (framingIsland n) = true) ∧ ((roleActive s || roleTest s) = true) ∧ (openSession SESS.CTL_PLU_EN s = none)) ∧
    (∃ (n : Fin 48) (s : State), (s.up (framingIsland n) = true) ∧ (privileged s = true) ∧ (rd ACT.KEY_IDX_WORD n s = 3)) ∧
    (∃ (n : Fin 48) (s : State), (s.up (framingIsland n) = true) ∧ (privileged s = false)) ∧
    (∃ (n : Fin 48) (s : State), (s.up (framingIsland n) = true)) ∧
    (∃ (n : Fin 48) (x : Nat) (s : State), (s.up (framingIsland n) = true) ∧ ((s.actOf n).todBusy = true) ∧ (x = ((frameT0 (rd ACT.TOD_N_HI_N_HI n s * 2 ^ 32 + rd ACT.TOD_N_LO n s) : Nat) - (s.tim.frErr + 32768) / 65536).toNat)) ∧
    (∃ (n : Fin 48) (c : Fin 3) (s : State), (s.up (framingIsland n) = true) ∧ ((roleActive s || roleTest s) = true) ∧ (criterionEnabled n c s = true) ∧ (criterionMet n c s = true) ∧ (rogueFld ACT.CTL_SMK_EN n s = 0)) ∧
    (∃ (n : Fin 48) (x : Smoker) (gap : GapSeen) (s : State), (s.up (framingIsland n) = true) ∧ ((roleActive s || roleTest s) = true) ∧ ((s.actOf n).smoker = some x) ∧ (x.phase = .observing) ∧ (x.crit ≠ 1) ∧ (x.unjudged + 1 < 8) ∧ (gap.longest < 100) ∧ (gap.total < 100)) ∧
    (∃ (n : Fin 48) (x : Smoker) (gap : GapSeen) (s : State), (s.up (framingIsland n) = true) ∧ ((roleActive s || roleTest s) = true) ∧ ((s.actOf n).smoker = some x) ∧ (x.phase = .observing) ∧ ((s.actOf n).smkStop = true) ∧ (100 ≤ gap.longest) ∧ (gap.longest ≤ gap.total)) ∧
    (∃ (n : Fin 48) (s : State), (s.up (framingIsland n) = true)) ∧
    (∃ (n : Fin 48) (s : State), (s.up (framingIsland n) = true) ∧ (2 ≤ (s.lane n).sdRun) ∧ (on TLN.STS_CHATTER n s = false)) ∧
    (∃ (n : Fin 48) (k : UpKind) (s : State), (s.up (framingIsland n) = true) ∧ (k ≠ .other)) ∧
    (∃ (n : Fin 48) (o : BitVec 9) (body : List Byte) (i r : Nat) (p : Packet) (s : State), (s.up (framingIsland n) = true) ∧ ((roleActive s || roleTest s) = true) ∧ (openSession SESS.CTL_PLU_EN s = some i) ∧ (r = 5 + treeCluster n) ∧ ((allocNow r true 64 1 (2 ^ r) s).1.isSome = true) ∧ (p = { kind := 2, opcode := 0x81, arg0 := n, arg1 := o.toNat, session := i, payload := (body ++ List.replicate 48 0).take 48 }) ∧ (ringRoom i p s = true)) :=
  ⟨⟨0, at_ [167] [(PAR.STS_ROLE, 0, 0, 2)], by decide +kernel⟩,
   ⟨0, at_ [167] [(PAR.STS_ROLE, 0, 0, 2)], by decide +kernel⟩,
   ⟨0, at_ [167] [(ACT.KEY_IDX_WORD, 0, 0, 3)] { cmd := { source := 0, priv := true } }, by decide +kernel⟩,
   ⟨0, at_ [167] [], by decide +kernel⟩,
   ⟨0, at_ [167] [], by decide +kernel⟩,
   ⟨0, 0, at_ [167] [] { act := [(0, { todBusy := true })] }, by decide +kernel⟩,
   ⟨0, 0, at_ [167] [(PAR.STS_ROLE, 0, 0, 2)] { act := [(0, { strayRun := 1000, ctlWord := 0x780 })] }, by decide +kernel⟩,
   ⟨0, { crit := 0, cands := [1, 2], half := [1], lit := true, round := 1, tries := 0, checking := false, phase := .observing, q := 1, settle := 0, unjudged := 0, removed := [] }, { total := 50, longest := 20 }, at_ [167] [(PAR.STS_ROLE, 0, 0, 2)] { act := [(0, { smoker := some { crit := 0, cands := [1, 2], half := [1], lit := true, round := 1, tries := 0, checking := false, phase := .observing, q := 1, settle := 0, unjudged := 0, removed := [] } })] }, by decide +kernel⟩,
   ⟨0, { crit := 0, cands := [1, 2], half := [1], lit := true, round := 1, tries := 0, checking := false, phase := .observing, q := 1, settle := 0, unjudged := 0, removed := [] }, { total := 500, longest := 200 }, at_ [167] [(PAR.STS_ROLE, 0, 0, 2)] { act := [(0, { smoker := some { crit := 0, cands := [1, 2], half := [1], lit := true, round := 1, tries := 0, checking := false, phase := .observing, q := 1, settle := 0, unjudged := 0, removed := [] }, smkStop := true })] }, by decide +kernel⟩,
   ⟨0, at_ [167] [], by decide +kernel⟩,
   ⟨0, at_ [167] [(TLN.STS_CHATTER, 0, 0, 0)] { lanes := [(0, { sdRun := 2 })] }, by decide +kernel⟩,
   ⟨0, .dyingGasp, at_ [167] [], by decide +kernel⟩,
   ⟨0, 5, [1, 2], 0, 5, { kind := 2, opcode := 0x81, arg0 := 0, arg1 := 5, session := 0, payload := (([1, 2] : List Byte) ++ List.replicate 48 0).take 48 }, at_ [167, 213] [(PAR.STS_ROLE, 0, 0, 2), (SESS.CTL_PLU_EN, 0, 0, 1), (BPM.POOL_S_CNT, 0, 0, 1), (BPM.POOL_C_CNT, 0, 0, 4), (BPM.CTL_LOCK, 0, 0, 1), (QUOTA.MAX, 5, 3, 9)] { bpm := { listed := true }, sess := [(0, { state := .open })] }, by decide +kernel⟩⟩

theorem witness_GrantEngine :
    (∃ (n : Fin 48) (s : State), (s.up (clusterIsland (treeCluster n)) = true) ∧ (s.up (framingIsland n) = true) ∧ (roleActive s = true)) ∧
    (∃ (n : Fin 48) (w : Word) (c : Nat) (s : State), (s.up (clusterIsland (treeCluster n)) = true) ∧ (roleStandby s = false) ∧ (on GRT.CELL_IDX_BANK n s = false) ∧ (rd GRT.CELL_IDX_WORD n s = 0) ∧ (rd GRT.CELL_IDX_CELL n s = c) ∧ (c ≠ 1023) ∧ (rdx CELL.FIXED (openBank n s) c s = 0) ∧ (w.toNat / 2 ^ 30 % 2 = 0) ∧ (w.toNat / 2 ^ 25 % 4 = 0) ∧ ((s.grant n).cell1 / 2 ^ 15 % 2 = 0) ∧ ((s.grant n).cell1 / 2 ^ 15 % 2 ^ 17 ≤ 97198)) ∧
    (∃ (n : Fin 48) (s : State), (s.up (clusterIsland (treeCluster n)) = true) ∧ (on GRT.CELL_IDX_BANK n s = false) ∧ (rd GRT.CELL_IDX_WORD n s = 1)) ∧
    (∃ (n : Fin 48) (long : Bool) (v : BitVec 17) (s : State), (s.up (clusterIsland (treeCluster n)) = true) ∧ (v.toNat % 2 = 0) ∧ (v.toNat + (if long then 1024 else 512) ≤ 97200) ∧ ((fixedIntervals n 1023 s).any (fun i => overlaps i (v.toNat - maxGuard n s, v.toNat + (if long then 1024 else 512) + maxGuard n s)) = false)) ∧
    (∃ (n : Fin 48) (v : BitVec 17) (s : State), (s.up (clusterIsland (treeCluster n)) = true) ∧ (v.toNat % 2 = 1)) ∧
    (∃ (n : Fin 48) (c : Nat) (s : State), (s.up (clusterIsland (treeCluster n)) = true) ∧ (rd GRT.ALLOC_IDX_CTX n s = c) ∧ ((s.grant n).alloc0 / 2 ^ 31 = 1) ∧ ((validIdx .ctx n 0 s).any (fun x => x != c && rdx CTX.ALLOC_ID n x s == (s.grant n).alloc0 / 2 ^ 16 % 2 ^ 14) = false)) ∧
    (∃ (n : Fin 48) (c : Nat) (s : State), (s.up (clusterIsland (treeCluster n)) = true) ∧ (rd GRT.ALLOC_IDX_CTX n s = c) ∧ ((s.grant n).alloc0 / 2 ^ 31 = 1) ∧ ((validIdx .ctx n 0 s).any (fun x => x != c && rdx CTX.ALLOC_ID n x s == (s.grant n).alloc0 / 2 ^ 16 % 2 ^ 14) = true)) ∧
    (∃ (n : Fin 48) (x : Selection) (rest : List Selection) (s : State), (s.up (clusterIsland (treeCluster n)) = true) ∧ (s.up (48 + n) = true) ∧ ((s.grant n).selections = x :: rest)) :=
  ⟨⟨0, at_ [175, 167] [(PAR.STS_ROLE, 0, 0, 2)], by decide +kernel⟩,
   ⟨0, 0x80014007, 5, at_ [175] [(GRT.CELL_IDX_CELL, 0, 0, 5)] { grt := [(0, { cell1 := 0x10000, cell2 := 40 })] }, by decide +kernel⟩,
   ⟨0, at_ [175] [(GRT.CELL_IDX_WORD, 0, 0, 1)], by decide +kernel⟩,
   ⟨0, false, 20000, at_ [175] [], by decide +kernel⟩,
   ⟨0, 20001, at_ [175] [], by decide +kernel⟩,
   ⟨0, 3, at_ [175] [(GRT.ALLOC_IDX_CTX, 0, 0, 3)] { grt := [(0, { alloc0 := 0x80050007 })] }, by decide +kernel⟩,
   ⟨0, 3, at_ [175] [(GRT.ALLOC_IDX_CTX, 0, 0, 3), (CTX.VALID, 0, 7, 1), (CTX.ALLOC_ID, 0, 7, 5)] { grt := [(0, { alloc0 := 0x80050007 })] }, by decide +kernel⟩,
   ⟨0, {}, [], at_ [175, 48] [] { grt := [(0, { selections := [{}] })] }, by decide +kernel⟩⟩

theorem witness_SequencerArithmetic :
    (∃ (k : Fin 8) (h : Fin 4) (w : Nat) (s : State), (Issues k h 0x01 w s)) ∧
    (∃ (k : Fin 8) (h : Fin 4) (w : Nat) (s : State), (Issues k h 0x02 w s)) ∧
    (∃ (k : Fin 8) (h : Fin 4) (w : Nat) (s : State), (Issues k h 0x03 w s)) ∧
    (∃ (k : Fin 8) (h : Fin 4) (w : Nat) (s : State), (Issues k h 0x04 w s)) ∧
    (∃ (k : Fin 8) (h : Fin 4) (w : Nat) (s : State), (Issues k h 0x05 w s)) ∧
    (∃ (k : Fin 8) (h : Fin 4) (w : Nat) (s : State), (Issues k h 0x06 w s)) ∧
    (∃ (k : Fin 8) (h : Fin 4) (w : Nat) (s : State), (Issues k h 0x07 w s)) ∧
    (∃ (k : Fin 8) (h : Fin 4) (w : Nat) (s : State), (Issues k h 0x08 w s)) ∧
    (∃ (k : Fin 8) (h : Fin 4) (w : Nat) (s : State), (Issues k h 0x09 w s)) ∧
    (∃ (k : Fin 8) (h : Fin 4) (w : Nat) (s : State), (Issues k h 0x0A w s)) ∧
    (∃ (k : Fin 8) (h : Fin 4) (w : Nat) (s : State), (Issues k h 0x0B w s)) ∧
    (∃ (k : Fin 8) (h : Fin 4) (w : Nat) (s : State), (Issues k h 0x10 w s)) ∧
    (∃ (k : Fin 8) (h : Fin 4) (w : Nat) (s : State), (Issues k h 0x11 w s)) ∧
    (∃ (k : Fin 8) (h : Fin 4) (w : Nat) (s : State), (Issues k h 0x12 w s)) ∧
    (∃ (k : Fin 8) (h : Fin 4) (w : Nat) (s : State), (Issues k h 0x13 w s)) ∧
    (∃ (k : Fin 8) (h : Fin 4) (w : Nat) (s : State), (Issues k h 0x14 w s)) ∧
    (∃ (k : Fin 8) (h : Fin 4) (w : Nat) (s : State), (Issues k h 0x15 w s)) ∧
    (∃ (k : Fin 8) (h : Fin 4) (w : Nat) (s : State), (Issues k h 0x16 w s)) ∧
    (∃ (k : Fin 8) (h : Fin 4) (w : Nat) (s : State), (Issues k h 0x17 w s)) :=
  ⟨⟨0, 0, 79986688, at_ [175] [(GSQ.CTL_TEN, 0, 0, 1), (GSQ.THR_REGION0_END, 0, 0, 100), (⟨.imem, 0, 31, 0⟩, 0, 0, 79986688)] { threads := [(0, { state := .running, regs := [(1, 8), (2, 9)] })] }, by decide +kernel⟩,
   ⟨0, 0, 147095552, at_ [175] [(GSQ.CTL_TEN, 0, 0, 1), (GSQ.THR_REGION0_END, 0, 0, 100), (⟨.imem, 0, 31, 0⟩, 0, 0, 147095552)] { threads := [(0, { state := .running, regs := [(1, 8), (2, 9)] })] }, by decide +kernel⟩,
   ⟨0, 0, 214204416, at_ [175] [(GSQ.CTL_TEN, 0, 0, 1), (GSQ.THR_REGION0_END, 0, 0, 100), (⟨.imem, 0, 31, 0⟩, 0, 0, 214204416)] { threads := [(0, { state := .running, regs := [(1, 8), (2, 9)] })] }, by decide +kernel⟩,
   ⟨0, 0, 281313280, at_ [175] [(GSQ.CTL_TEN, 0, 0, 1), (GSQ.THR_REGION0_END, 0, 0, 100), (⟨.imem, 0, 31, 0⟩, 0, 0, 281313280)] { threads := [(0, { state := .running, regs := [(1, 8), (2, 9)] })] }, by decide +kernel⟩,
   ⟨0, 0, 348422144, at_ [175] [(GSQ.CTL_TEN, 0, 0, 1), (GSQ.THR_REGION0_END, 0, 0, 100), (⟨.imem, 0, 31, 0⟩, 0, 0, 348422144)] { threads := [(0, { state := .running, regs := [(1, 8), (2, 9)] })] }, by decide +kernel⟩,
   ⟨0, 0, 415531008, at_ [175] [(GSQ.CTL_TEN, 0, 0, 1), (GSQ.THR_REGION0_END, 0, 0, 100), (⟨.imem, 0, 31, 0⟩, 0, 0, 415531008)] { threads := [(0, { state := .running, regs := [(1, 8), (2, 9)] })] }, by decide +kernel⟩,
   ⟨0, 0, 482639872, at_ [175] [(GSQ.CTL_TEN, 0, 0, 1), (GSQ.THR_REGION0_END, 0, 0, 100), (⟨.imem, 0, 31, 0⟩, 0, 0, 482639872)] { threads := [(0, { state := .running, regs := [(1, 8), (2, 9)] })] }, by decide +kernel⟩,
   ⟨0, 0, 549748736, at_ [175] [(GSQ.CTL_TEN, 0, 0, 1), (GSQ.THR_REGION0_END, 0, 0, 100), (⟨.imem, 0, 31, 0⟩, 0, 0, 549748736)] { threads := [(0, { state := .running, regs := [(1, 8), (2, 9)] })] }, by decide +kernel⟩,
   ⟨0, 0, 616857600, at_ [175] [(GSQ.CTL_TEN, 0, 0, 1), (GSQ.THR_REGION0_END, 0, 0, 100), (⟨.imem, 0, 31, 0⟩, 0, 0, 616857600)] { threads := [(0, { state := .running, regs := [(1, 8), (2, 9)] })] }, by decide +kernel⟩,
   ⟨0, 0, 683966464, at_ [175] [(GSQ.CTL_TEN, 0, 0, 1), (GSQ.THR_REGION0_END, 0, 0, 100), (⟨.imem, 0, 31, 0⟩, 0, 0, 683966464)] { threads := [(0, { state := .running, regs := [(1, 8), (2, 9)] })] }, by decide +kernel⟩,
   ⟨0, 0, 751075328, at_ [175] [(GSQ.CTL_TEN, 0, 0, 1), (GSQ.THR_REGION0_END, 0, 0, 100), (⟨.imem, 0, 31, 0⟩, 0, 0, 751075328)] { threads := [(0, { state := .running, regs := [(1, 8), (2, 9)] })] }, by decide +kernel⟩,
   ⟨0, 0, 1086586885, at_ [175] [(GSQ.CTL_TEN, 0, 0, 1), (GSQ.THR_REGION0_END, 0, 0, 100), (⟨.imem, 0, 31, 0⟩, 0, 0, 1086586885)] { threads := [(0, { state := .running, regs := [(1, 8), (2, 9)] })] }, by decide +kernel⟩,
   ⟨0, 0, 1153695749, at_ [175] [(GSQ.CTL_TEN, 0, 0, 1), (GSQ.THR_REGION0_END, 0, 0, 100), (⟨.imem, 0, 31, 0⟩, 0, 0, 1153695749)] { threads := [(0, { state := .running, regs := [(1, 8), (2, 9)] })] }, by decide +kernel⟩,
   ⟨0, 0, 1220804613, at_ [175] [(GSQ.CTL_TEN, 0, 0, 1), (GSQ.THR_REGION0_END, 0, 0, 100), (⟨.imem, 0, 31, 0⟩, 0, 0, 1220804613)] { threads := [(0, { state := .running, regs := [(1, 8), (2, 9)] })] }, by decide +kernel⟩,
   ⟨0, 0, 1287913477, at_ [175] [(GSQ.CTL_TEN, 0, 0, 1), (GSQ.THR_REGION0_END, 0, 0, 100), (⟨.imem, 0, 31, 0⟩, 0, 0, 1287913477)] { threads := [(0, { state := .running, regs := [(1, 8), (2, 9)] })] }, by decide +kernel⟩,
   ⟨0, 0, 1355022341, at_ [175] [(GSQ.CTL_TEN, 0, 0, 1), (GSQ.THR_REGION0_END, 0, 0, 100), (⟨.imem, 0, 31, 0⟩, 0, 0, 1355022341)] { threads := [(0, { state := .running, regs := [(1, 8), (2, 9)] })] }, by decide +kernel⟩,
   ⟨0, 0, 1422131205, at_ [175] [(GSQ.CTL_TEN, 0, 0, 1), (GSQ.THR_REGION0_END, 0, 0, 100), (⟨.imem, 0, 31, 0⟩, 0, 0, 1422131205)] { threads := [(0, { state := .running, regs := [(1, 8), (2, 9)] })] }, by decide +kernel⟩,
   ⟨0, 0, 1488977925, at_ [175] [(GSQ.CTL_TEN, 0, 0, 1), (GSQ.THR_REGION0_END, 0, 0, 100), (⟨.imem, 0, 31, 0⟩, 0, 0, 1488977925)] { threads := [(0, { state := .running, regs := [(1, 8), (2, 9)] })] }, by decide +kernel⟩,
   ⟨0, 0, 1556348933, at_ [175] [(GSQ.CTL_TEN, 0, 0, 1), (GSQ.THR_REGION0_END, 0, 0, 100), (⟨.imem, 0, 31, 0⟩, 0, 0, 1556348933)] { threads := [(0, { state := .running, regs := [(1, 8), (2, 9)] })] }, by decide +kernel⟩⟩

theorem witness_SequencerBranches :
    (∃ (k : Fin 8) (h : Fin 4) (w : Nat) (s : State), (Issues k h 0x20 w s)) ∧
    (∃ (k : Fin 8) (h : Fin 4) (w : Nat) (s : State), (Issues k h 0x21 w s)) ∧
    (∃ (k : Fin 8) (h : Fin 4) (w : Nat) (s : State), (Issues k h 0x22 w s)) ∧
    (∃ (k : Fin 8) (h : Fin 4) (w : Nat) (s : State), (Issues k h 0x23 w s)) ∧
    (∃ (k : Fin 8) (h : Fin 4) (w : Nat) (s : State), (Issues k h 0x24 w s)) ∧
    (∃ (k : Fin 8) (h : Fin 4) (w : Nat) (s : State), (Issues k h 0x25 w s)) ∧
    (∃ (k : Fin 8) (h : Fin 4) (w : Nat) (s : State), (Issues k h 0x26 w s)) ∧
    (∃ (k : Fin 8) (h : Fin 4) (w : Nat) (s : State), (Issues k h 0x27 w s)) ∧
    (∃ (k : Fin 8) (h : Fin 4) (w : Nat) (s : State), (Issues k h 0x28 w s)) ∧
    (∃ (k : Fin 8) (h : Fin 4) (s : State), (s.up (clusterIsland k) = true) ∧ (canIssue k h s = true) ∧ (inRegion k h s = true) ∧ (goodFetch k h s = true) ∧ (legalWord (imemWord k (s.thread k h).pc s) = false)) ∧
    (∃ (k : Fin 8) (h : Fin 4) (s : State), (s.up (clusterIsland k) = true) ∧ (canIssue k h s = true) ∧ (inRegion k h s = false)) ∧
    (∃ (k : Fin 8) (h : Fin 4) (s : State), (s.up (clusterIsland k) = true) ∧ (canIssue k h s = true) ∧ (inRegion k h s = true) ∧ (goodFetch k h s = false)) :=
  ⟨⟨0, 0, 2152202260, at_ [175] [(GSQ.CTL_TEN, 0, 0, 1), (GSQ.THR_REGION0_END, 0, 0, 100), (⟨.imem, 0, 31, 0⟩, 0, 0, 2152202260)] { threads := [(0, { state := .running, regs := [(1, 8), (2, 9)] })] }, by decide +kernel⟩,
   ⟨0, 0, 2219311124, at_ [175] [(GSQ.CTL_TEN, 0, 0, 1), (GSQ.THR_REGION0_END, 0, 0, 100), (⟨.imem, 0, 31, 0⟩, 0, 0, 2219311124)] { threads := [(0, { state := .running, regs := [(1, 8), (2, 9)] })] }, by decide +kernel⟩,
   ⟨0, 0, 2286419988, at_ [175] [(GSQ.CTL_TEN, 0, 0, 1), (GSQ.THR_REGION0_END, 0, 0, 100), (⟨.imem, 0, 31, 0⟩, 0, 0, 2286419988)] { threads := [(0, { state := .running, regs := [(1, 8), (2, 9)] })] }, by decide +kernel⟩,
   ⟨0, 0, 2353528852, at_ [175] [(GSQ.CTL_TEN, 0, 0, 1), (GSQ.THR_REGION0_END, 0, 0, 100), (⟨.imem, 0, 31, 0⟩, 0, 0, 2353528852)] { threads := [(0, { state := .running, regs := [(1, 8), (2, 9)] })] }, by decide +kernel⟩,
   ⟨0, 0, 2420113428, at_ [175] [(GSQ.CTL_TEN, 0, 0, 1), (GSQ.THR_REGION0_END, 0, 0, 100), (⟨.imem, 0, 31, 0⟩, 0, 0, 2420113428)] { threads := [(0, { state := .running, regs := [(1, 8), (2, 9)] })] }, by decide +kernel⟩,
   ⟨0, 0, 2487222292, at_ [175] [(GSQ.CTL_TEN, 0, 0, 1), (GSQ.THR_REGION0_END, 0, 0, 100), (⟨.imem, 0, 31, 0⟩, 0, 0, 2487222292)] { threads := [(0, { state := .running, regs := [(1, 8), (2, 9)] })] }, by decide +kernel⟩,
   ⟨0, 0, 2550136882, at_ [175] [(GSQ.CTL_TEN, 0, 0, 1), (GSQ.THR_REGION0_END, 0, 0, 100), (⟨.imem, 0, 31, 0⟩, 0, 0, 2550136882)] { threads := [(0, { state := .running, regs := [(1, 8), (2, 9)] })] }, by decide +kernel⟩,
   ⟨0, 0, 2617245746, at_ [175] [(GSQ.CTL_TEN, 0, 0, 1), (GSQ.THR_REGION0_END, 0, 0, 100), (⟨.imem, 0, 31, 0⟩, 0, 0, 2617245746)] { threads := [(0, { state := .running, regs := [(1, 8), (2, 9)] })] }, by decide +kernel⟩,
   ⟨0, 0, 2684616704, at_ [175] [(GSQ.CTL_TEN, 0, 0, 1), (GSQ.THR_REGION0_END, 0, 0, 100), (⟨.imem, 0, 31, 0⟩, 0, 0, 2684616704)] { threads := [(0, { state := .running, regs := [(1, 8), (2, 9)] })] }, by decide +kernel⟩,
   ⟨0, 0, at_ [175] [(GSQ.CTL_TEN, 0, 0, 1), (GSQ.THR_REGION0_END, 0, 0, 100), (⟨.imem, 0, 31, 0⟩, 0, 0, 0)] { threads := [(0, { state := .running, regs := [(1, 8), (2, 9)] })] }, by decide +kernel⟩,
   ⟨0, 0, at_ [175] [(GSQ.CTL_TEN, 0, 0, 1), (GSQ.THR_REGION0_END, 0, 0, 100), (⟨.imem, 0, 31, 0⟩, 0, 0, 0)] { threads := [(0, { state := .running, regs := [(1, 8), (2, 9)], pc := 101 })] }, by decide +kernel⟩,
   ⟨0, 0, at_ [175] [(GSQ.CTL_TEN, 0, 0, 1), (GSQ.THR_REGION0_END, 0, 0, 100), (⟨.imem, 0, 31, 0⟩, 0, 0, 79986688)] { threads := [(0, { state := .running, regs := [(1, 8), (2, 9)] })], clusters := [(0, { badCode := [0] })] }, by decide +kernel⟩⟩

theorem witness_SequencerMemory :
    (∃ (k : Fin 8) (h : Fin 4) (w a : Nat) (s : State), (Issues k h 0x18 w s) ∧ (loadAddress k h w s = a) ∧ (badAddress a = false) ∧ (goodData k a s = true)) ∧
    (∃ (k : Fin 8) (h : Fin 4) (w a : Nat) (s : State), (Issues k h 0x19 w s) ∧ (loadAddress k h w s = a) ∧ (badAddress a = false)) ∧
    (∃ (k : Fin 8) (h : Fin 4) (w a : Nat) (s : State), (Issues k h 0x1A w s) ∧ (readG k h (raOf w) s = a) ∧ (badAddress a = false) ∧ (goodData k a s = true)) ∧
    (∃ (k : Fin 8) (h : Fin 4) (w : Nat) (s : State), (Issues k h 0x18 w s) ∧ (badAddress (loadAddress k h w s) = true)) ∧
    (∃ (k : Fin 8) (h : Fin 4) (w : Nat) (s : State), (Issues k h 0x19 w s) ∧ (badAddress (loadAddress k h w s) = true)) ∧
    (∃ (k : Fin 8) (h : Fin 4) (w : Nat) (s : State), (Issues k h 0x1A w s) ∧ (badAddress (readG k h (raOf w) s) = true)) ∧
    (∃ (k : Fin 8) (h : Fin 4) (w a : Nat) (s : State), (Issues k h 0x18 w s) ∧ (loadAddress k h w s = a) ∧ (badAddress a = false) ∧ (goodData k a s = false)) :=
  ⟨⟨0, 0, 1623457796, 12, at_ [175] [(GSQ.CTL_TEN, 0, 0, 1), (GSQ.THR_REGION0_END, 0, 0, 100), (⟨.imem, 0, 31, 0⟩, 0, 0, 1623457796), (⟨.dmem, 0, 31, 0⟩, 0, 3, 77)] { threads := [(0, { state := .running, regs := [(1, 8), (2, 9)] })] }, by decide +kernel⟩,
   ⟨0, 0, 1690566660, 12, at_ [175] [(GSQ.CTL_TEN, 0, 0, 1), (GSQ.THR_REGION0_END, 0, 0, 100), (⟨.imem, 0, 31, 0⟩, 0, 0, 1690566660)] { threads := [(0, { state := .running, regs := [(1, 8), (3, 99)] })] }, by decide +kernel⟩,
   ⟨0, 0, 1757708288, 8, at_ [175] [(GSQ.CTL_TEN, 0, 0, 1), (GSQ.THR_REGION0_END, 0, 0, 100), (⟨.imem, 0, 31, 0⟩, 0, 0, 1757708288), (⟨.dmem, 0, 31, 0⟩, 0, 2, 77)] { threads := [(0, { state := .running, regs := [(1, 8), (2, 9)] })] }, by decide +kernel⟩,
   ⟨0, 0, 1623457797, at_ [175] [(GSQ.CTL_TEN, 0, 0, 1), (GSQ.THR_REGION0_END, 0, 0, 100), (⟨.imem, 0, 31, 0⟩, 0, 0, 1623457797)] { threads := [(0, { state := .running, regs := [(1, 8), (2, 9)] })] }, by decide +kernel⟩,
   ⟨0, 0, 1690566661, at_ [175] [(GSQ.CTL_TEN, 0, 0, 1), (GSQ.THR_REGION0_END, 0, 0, 100), (⟨.imem, 0, 31, 0⟩, 0, 0, 1690566661)] { threads := [(0, { state := .running, regs := [(1, 8), (2, 9)] })] }, by decide +kernel⟩,
   ⟨0, 0, 1757708288, at_ [175] [(GSQ.CTL_TEN, 0, 0, 1), (GSQ.THR_REGION0_END, 0, 0, 100), (⟨.imem, 0, 31, 0⟩, 0, 0, 1757708288)] { threads := [(0, { state := .running, regs := [(1, 6)] })] }, by decide +kernel⟩,
   ⟨0, 0, 1623457796, 12, at_ [175] [(GSQ.CTL_TEN, 0, 0, 1), (GSQ.THR_REGION0_END, 0, 0, 100), (⟨.imem, 0, 31, 0⟩, 0, 0, 1623457796)] { threads := [(0, { state := .running, regs := [(1, 8), (2, 9)] })], clusters := [(0, { badData := [3] })] }, by decide +kernel⟩⟩

theorem witness_SequencerWaits :
    (∃ (k : Fin 8) (h : Fin 4) (w : Nat) (s : State), (Issues k h 0x30 w s) ∧ (rdOf w < 15) ∧ (eventsFound k h (readG k h (rbOf w) s) s ≠ 0)) ∧
    (∃ (k : Fin 8) (h : Fin 4) (w : Nat) (x : Nat × Report) (s : State), (Issues k h 0x30 w s) ∧ (rdOf w < 15) ∧ (eventsFound k h (readG k h (rbOf w) s) s = 0) ∧ (oldestReport k (readG k h (raOf w) s % 64) s = some x) ∧ ((readG k h (raOf w) s % 64 ≠ 0 ∨ readG k h (rbOf w) s % 128 ≠ 0))) ∧
    (∃ (k : Fin 8) (h : Fin 4) (w : Nat) (s : State), (Issues k h 0x30 w s) ∧ (rdOf w < 15) ∧ (eventsFound k h (readG k h (rbOf w) s) s = 0) ∧ (oldestReport k (readG k h (raOf w) s % 64) s = none) ∧ (readG k h (raOf w) s % 64 ≠ 0) ∧ (maskHas (readG k h (rbOf w) s) 7 = true)) ∧
    (∃ (k : Fin 8) (h : Fin 4) (w : Nat) (s : State), (Issues k h 0x30 w s) ∧ (rdOf w < 15) ∧ (eventsFound k h (readG k h (rbOf w) s) s = 0) ∧ (oldestReport k (readG k h (raOf w) s % 64) s = none) ∧ (readG k h (raOf w) s % 64 ≠ 0) ∧ (maskHas (readG k h (rbOf w) s) 7 = false) ∧ (roleStandby s = false)) ∧
    (∃ (k : Fin 8) (h : Fin 4) (w : Nat) (s : State), (Issues k h 0x30 w s) ∧ (rdOf w = 15)) ∧
    (∃ (k : Fin 8) (h : Fin 4) (w : Nat) (x : ActRec) (rest : List ActRec) (s : State), (Issues k h 0x31 w s) ∧ (rdOf w < 14) ∧ (eventsFound k h (readG k h (rbOf w) s) s = 0) ∧ ((s.cluster k).actq = x :: rest)) ∧
    (∃ (k : Fin 8) (h : Fin 4) (w : Nat) (s : State), (Issues k h 0x32 w s) ∧ (rdOf w < 15) ∧ (eventsFound k h (readG k h (rbOf w) s) s ≠ 0)) ∧
    (∃ (k : Fin 8) (h : Fin 4) (r m : Nat) (s : State), (s.up (clusterIsland k) = true) ∧ ((s.thread k h).state = .blocked) ∧ ((s.thread k h).wait = some (.wfe r m)) ∧ (eventsFound k h m s ≠ 0) ∧ (roleStandby s = false)) ∧
    (∃ (k : Fin 8) (h : Fin 4) (r m : Nat) (s : State), (s.up (clusterIsland k) = true) ∧ ((s.thread k h).state = .blocked) ∧ ((s.thread k h).wait = some (.wfe r m)) ∧ (eventsFound k h m s ≠ 0) ∧ (roleStandby s = true)) ∧
    (∃ (k : Fin 8) (h : Fin 4) (w : Nat) (s : State), (Issues k h 0x30 w s) ∧ (rdOf w < 15) ∧ (eventsFound k h (readG k h (rbOf w) s) s = 0) ∧ (oldestReport k (readG k h (raOf w) s % 64) s = none) ∧ (readG k h (raOf w) s % 64 ≠ 0) ∧ (maskHas (readG k h (rbOf w) s) 7 = false) ∧ (roleStandby s = true)) :=
  ⟨⟨0, 0, 3234103296, at_ [175] [(GSQ.CTL_TEN, 0, 0, 1), (GSQ.THR_REGION0_END, 0, 0, 100), (⟨.imem, 0, 31, 0⟩, 0, 0, 3234103296)] { threads := [(0, { state := .running, regs := [(1, 1), (2, 1)], latch := 1 })] }, by decide +kernel⟩,
   ⟨0, 0, 3234103296, (0, { ctx := 5, term := 7, value := 40, frame := 3, seq := 0 }), at_ [175] [(GSQ.CTL_TEN, 0, 0, 1), (GSQ.THR_REGION0_END, 0, 0, 100), (⟨.imem, 0, 31, 0⟩, 0, 0, 3234103296)] { threads := [(0, { state := .running, regs := [(1, 1), (2, 0)] })], grt := [(0, { reports := [{ ctx := 5, term := 7, value := 40, frame := 3, seq := 0 }] })] }, by decide +kernel⟩,
   ⟨0, 0, 3234103296, at_ [175] [(GSQ.CTL_TEN, 0, 0, 1), (GSQ.THR_REGION0_END, 0, 0, 100), (⟨.imem, 0, 31, 0⟩, 0, 0, 3234103296)] { threads := [(0, { state := .running, regs := [(1, 1), (2, 128)] })] }, by decide +kernel⟩,
   ⟨0, 0, 3234103296, at_ [175] [(GSQ.CTL_TEN, 0, 0, 1), (GSQ.THR_REGION0_END, 0, 0, 100), (⟨.imem, 0, 31, 0⟩, 0, 0, 3234103296)] { threads := [(0, { state := .running, regs := [(1, 1), (2, 0)] })] }, by decide +kernel⟩,
   ⟨0, 0, 3284434944, at_ [175] [(GSQ.CTL_TEN, 0, 0, 1), (GSQ.THR_REGION0_END, 0, 0, 100), (⟨.imem, 0, 31, 0⟩, 0, 0, 3284434944)] { threads := [(0, { state := .running, regs := [(1, 1), (2, 0)] })] }, by decide +kernel⟩,
   ⟨0, 0, 3300950016, { w0 := 1, w1 := 2, w2 := 3 }, [], at_ [175] [(GSQ.CTL_TEN, 0, 0, 1), (GSQ.THR_REGION0_END, 0, 0, 100), (⟨.imem, 0, 31, 0⟩, 0, 0, 3300950016)] { threads := [(0, { state := .running, regs := [(2, 0)] })], clusters := [(0, { actq := [{ w0 := 1, w1 := 2, w2 := 3 }] })] }, by decide +kernel⟩,
   ⟨0, 0, 3368058880, at_ [175] [(GSQ.CTL_TEN, 0, 0, 1), (GSQ.THR_REGION0_END, 0, 0, 100), (⟨.imem, 0, 31, 0⟩, 0, 0, 3368058880)] { threads := [(0, { state := .running, regs := [(2, 1)], latch := 5 })] }, by decide +kernel⟩,
   ⟨0, 0, 3, 1, at_ [175] [] { threads := [(0, { state := .blocked, wait := some (.wfe 3 1), latch := 1 })] }, by decide +kernel⟩,
   ⟨0, 0, 3, 1, at_ [175] [(PAR.STS_ROLE, 0, 0, 1)] { threads := [(0, { state := .blocked, wait := some (.wfe 3 1), latch := 1 })] }, by decide +kernel⟩,
   ⟨0, 0, 3234103296, at_ [175] [(GSQ.CTL_TEN, 0, 0, 1), (GSQ.THR_REGION0_END, 0, 0, 100), (⟨.imem, 0, 31, 0⟩, 0, 0, 3234103296), (PAR.STS_ROLE, 0, 0, 1)] { threads := [(0, { state := .running, inFlight := true, regs := [(1, 1), (2, 0)] })] }, by decide +kernel⟩⟩

theorem witness_SequencerCells :
    (∃ (k : Fin 8) (h : Fin 4) (w n c : Nat) (s : State), (Issues k h 0x33 w s) ∧ (refTree (readG k h (raOf w) s) ≤ 5) ∧ (rbOf w + 2 ≤ 15) ∧ (readG k h (rbOf w) s / 2 ^ 30 % 2 = 0) ∧ (roleStandby s = false) ∧ (6 * k + refTree (readG k h (raOf w) s) = n) ∧ (refCell (readG k h (raOf w) s) = c) ∧ (c ≠ 1023) ∧ (fixedOwner n c s = none)) ∧
    (∃ (k : Fin 8) (h : Fin 4) (w : Nat) (q : Fin 3) (n c : Nat) (s : State), (Issues k h 0x33 w s) ∧ (refTree (readG k h (raOf w) s) ≤ 5) ∧ (rbOf w + 2 ≤ 15) ∧ (readG k h (rbOf w) s / 2 ^ 30 % 2 = 0) ∧ (roleStandby s = false) ∧ (6 * k + refTree (readG k h (raOf w) s) = n) ∧ (refCell (readG k h (raOf w) s) = c) ∧ (c ≠ 1023) ∧ ((fixedOwner n c s ≠ none ∨ q = 2))) ∧
    (∃ (k : Fin 8) (h : Fin 4) (w n c : Nat) (s : State), (Issues k h 0x33 w s) ∧ (refTree (readG k h (raOf w) s) ≤ 5) ∧ (rbOf w + 2 ≤ 15) ∧ (readG k h (rbOf w) s / 2 ^ 30 % 2 = 0) ∧ (6 * k + refTree (readG k h (raOf w) s) = n) ∧ (refCell (readG k h (raOf w) s) = c) ∧ ((roleStandby s = true ∨ c = 1023))) ∧
    (∃ (k : Fin 8) (h : Fin 4) (w n c : Nat) (s : State), (Issues k h 0x33 w s) ∧ (refTree (readG k h (raOf w) s) ≤ 5) ∧ (rbOf w + 2 ≤ 15) ∧ (readG k h (rbOf w) s / 2 ^ 30 % 2 = 0) ∧ (roleStandby s = false) ∧ (6 * k + refTree (readG k h (raOf w) s) = n) ∧ (refCell (readG k h (raOf w) s) = c) ∧ (c ≠ 1023) ∧ (fixedOwner n c s = none)) ∧
    (∃ (k : Fin 8) (h : Fin 4) (w : Nat) (s : State), (Issues k h 0x33 w s) ∧ ((5 < refTree (readG k h (raOf w) s) ∨ 15 < rbOf w + 2 ∨ readG k h (rbOf w) s / 2 ^ 30 % 2 = 1))) ∧
    (∃ (k : Fin 8) (h : Fin 4) (w n c b : Nat) (s : State), (Issues k h 0x34 w s) ∧ (refTree (readG k h (raOf w) s) ≤ 5) ∧ (rdOf w + 2 ≤ 15) ∧ (6 * k + refTree (readG k h (raOf w) s) = n) ∧ (refCell (readG k h (raOf w) s) = c) ∧ ((if immX w % 2 = 1 then frozenBank n s else openBank n s) = b)) ∧
    (∃ (k : Fin 8) (h : Fin 4) (w : Nat) (s : State), (Issues k h 0x34 w s) ∧ ((5 < refTree (readG k h (raOf w) s) ∨ 15 < rdOf w + 2))) ∧
    (∃ (k : Fin 8) (h : Fin 4) (w n c : Nat) (s : State), (Issues k h 0x35 w s) ∧ (refTree (readG k h (raOf w) s) ≤ 5) ∧ (rbOf w + 2 ≤ 15) ∧ (6 * k + refTree (readG k h (raOf w) s) = n) ∧ (refCell (readG k h (raOf w) s) = c) ∧ (c ≠ 1023) ∧ ((fixedOwner n c s).any (· != 0) = false) ∧ (roleStandby s = false) ∧ (readG k h (rbOf w) s / 2 ^ 31 % 2 = 0)) ∧
    (∃ (k : Fin 8) (h : Fin 4) (w n c : Nat) (s : State), (Issues k h 0x35 w s) ∧ (refTree (readG k h (raOf w) s) ≤ 5) ∧ (rbOf w + 2 ≤ 15) ∧ (6 * k + refTree (readG k h (raOf w) s) = n) ∧ (refCell (readG k h (raOf w) s) = c) ∧ (c ≠ 1023) ∧ ((fixedOwner n c s).any (· != 0) = false) ∧ (roleStandby s = false) ∧ (readG k h (rbOf w) s / 2 ^ 31 % 2 = 1) ∧ (placementFits n c (readG k h (rbOf w) s) (readG k h (rbOf w + 1) s) (readG k h (rbOf w + 2) s) s = true)) ∧
    (∃ (k : Fin 8) (h : Fin 4) (w n c : Nat) (s : State), (Issues k h 0x35 w s) ∧ (refTree (readG k h (raOf w) s) ≤ 5) ∧ (rbOf w + 2 ≤ 15) ∧ (6 * k + refTree (readG k h (raOf w) s) = n) ∧ (refCell (readG k h (raOf w) s) = c) ∧ (c ≠ 1023) ∧ ((fixedOwner n c s).any (· != 0) = false) ∧ (roleStandby s = false) ∧ (readG k h (rbOf w) s / 2 ^ 31 % 2 = 1) ∧ (placementFits n c (readG k h (rbOf w) s) (readG k h (rbOf w + 1) s) (readG k h (rbOf w + 2) s) s = false)) ∧
    (∃ (k : Fin 8) (h : Fin 4) (w : Nat) (lost : Bool) (n c : Nat) (s : State), (Issues k h 0x35 w s) ∧ (refTree (readG k h (raOf w) s) ≤ 5) ∧ (rbOf w + 2 ≤ 15) ∧ (6 * k + refTree (readG k h (raOf w) s) = n) ∧ (refCell (readG k h (raOf w) s) = c) ∧ ((lost = true ∨ c = 1023 ∨ (fixedOwner n c s).any (· != 0) = true)) ∧ (roleStandby s = false)) ∧
    (∃ (k : Fin 8) (h : Fin 4) (w : Nat) (s : State), (Issues k h 0x35 w s) ∧ ((5 < refTree (readG k h (raOf w) s) ∨ 15 < rbOf w + 2))) ∧
    (∃ (k : Fin 8) (h : Fin 4) (w n o r p : Nat) (s : State), (Issues k h 0x36 w s) ∧ (refTree (readG k h (raOf w) s) ≤ 5) ∧ (rbOf w + 2 ≤ 15) ∧ (6 * k + refTree (readG k h (raOf w) s) = n) ∧ (readG k h (rbOf w) s / 2 ^ 25 % 4 = 0) ∧ (readG k h (rbOf w) s / 2 ^ 14 % 512 = o) ∧ (rdx ACTT.RATE n o s = r) ∧ (r ≠ 3) ∧ ((if needsLong n 0 o s then longProfile n r s else readG k h (rbOf w) s / 2 ^ 23 % 4) = p) ∧ (rdx PROF.VALID n (profIdx r p) s = 1)) ∧
    (∃ (k : Fin 8) (h : Fin 4) (w n r : Nat) (s : State), (Issues k h 0x36 w s) ∧ (refTree (readG k h (raOf w) s) ≤ 5) ∧ (rbOf w + 2 ≤ 15) ∧ (6 * k + refTree (readG k h (raOf w) s) = n) ∧ ((readG k h (rbOf w) s / 2 ^ 25 % 4 = 1 ∨ readG k h (rbOf w) s / 2 ^ 25 % 4 = 2)) ∧ (readG k h (rbOf w + 1) s / 2 ^ 13 % 4 = r) ∧ (r ≠ 3) ∧ (rdx PROF.VALID n (profIdx r (longProfile n r s)) s = 1)) ∧
    (∃ (k : Fin 8) (h : Fin 4) (w : Nat) (s : State), (Issues k h 0x36 w s) ∧ ((5 < refTree (readG k h (raOf w) s) ∨ 15 < rbOf w + 2 ∨ readG k h (rbOf w) s / 2 ^ 25 % 4 = 3))) ∧
    (∃ (k : Fin 8) (h : Fin 4) (w : Nat) (s : State), (Issues k h 0x35 w s) ∧ (refTree (readG k h (raOf w) s) ≤ 5) ∧ (rbOf w + 2 ≤ 15) ∧ (roleStandby s = true)) :=
  ⟨⟨0, 0, 3435462656, 0, 5, at_ [175] [(GSQ.CTL_TEN, 0, 0, 1), (GSQ.THR_REGION0_END, 0, 0, 100), (⟨.imem, 0, 31, 0⟩, 0, 0, 3435462656)] { threads := [(0, { state := .running, regs := [(1, 5), (4, 2147565575), (5, 65536), (6, 40)] })] }, by decide +kernel⟩,
   ⟨0, 0, 3435462656, 0, 0, 5, at_ [175] [(GSQ.CTL_TEN, 0, 0, 1), (GSQ.THR_REGION0_END, 0, 0, 100), (⟨.imem, 0, 31, 0⟩, 0, 0, 3435462656), (CELL.VALID, 0, 5, 1), (CELL.FIXED, 0, 5, 1)] { threads := [(0, { state := .running, regs := [(1, 5), (4, 2147565575), (5, 65536), (6, 40)] })] }, by decide +kernel⟩,
   ⟨0, 0, 3435462656, 0, 1023, at_ [175] [(GSQ.CTL_TEN, 0, 0, 1), (GSQ.THR_REGION0_END, 0, 0, 100), (⟨.imem, 0, 31, 0⟩, 0, 0, 3435462656)] { threads := [(0, { state := .running, regs := [(1, 1023), (4, 2147565575), (5, 65536), (6, 40)] })] }, by decide +kernel⟩,
   ⟨0, 0, 3435462656, 0, 5, at_ [175] [(GSQ.CTL_TEN, 0, 0, 1), (GSQ.THR_REGION0_END, 0, 0, 100), (⟨.imem, 0, 31, 0⟩, 0, 0, 3435462656)] { threads := [(0, { state := .running, regs := [(1, 5), (4, 2147565575), (5, 65536), (6, 40)] })] }, by decide +kernel⟩,
   ⟨0, 0, 3435462656, at_ [175] [(GSQ.CTL_TEN, 0, 0, 1), (GSQ.THR_REGION0_END, 0, 0, 100), (⟨.imem, 0, 31, 0⟩, 0, 0, 3435462656)] { threads := [(0, { state := .running, regs := [(1, 12288), (4, 2147565575), (5, 65536), (6, 40)] })] }, by decide +kernel⟩,
   ⟨0, 0, 3502505984, 0, 5, 0, at_ [175] [(GSQ.CTL_TEN, 0, 0, 1), (GSQ.THR_REGION0_END, 0, 0, 100), (⟨.imem, 0, 31, 0⟩, 0, 0, 3502505984), (CELL.VALID, 0, 5, 1), (CELL.TERM, 0, 5, 9)] { threads := [(0, { state := .running, regs := [(1, 5)] })] }, by decide +kernel⟩,
   ⟨0, 0, 3502505984, at_ [175] [(GSQ.CTL_TEN, 0, 0, 1), (GSQ.THR_REGION0_END, 0, 0, 100), (⟨.imem, 0, 31, 0⟩, 0, 0, 3502505984)] { threads := [(0, { state := .running, regs := [(1, 12288)] })] }, by decide +kernel⟩,
   ⟨0, 0, 3569680384, 0, 5, at_ [175] [(GSQ.CTL_TEN, 0, 0, 1), (GSQ.THR_REGION0_END, 0, 0, 100), (⟨.imem, 0, 31, 0⟩, 0, 0, 3569680384), (CELL.VALID, 0, 5, 1), (CELL.FIXED, 0, 5, 1)] { threads := [(0, { state := .running, regs := [(1, 5), (4, 0)] })] }, by decide +kernel⟩,
   ⟨0, 0, 3569680384, 0, 5, at_ [175] [(GSQ.CTL_TEN, 0, 0, 1), (GSQ.THR_REGION0_END, 0, 0, 100), (⟨.imem, 0, 31, 0⟩, 0, 0, 3569680384)] { threads := [(0, { state := .running, regs := [(1, 5), (4, 2147483648), (5, 1310720000), (6, 4000)] })] }, by decide +kernel⟩,
   ⟨0, 0, 3569680384, 0, 5, at_ [175] [(GSQ.CTL_TEN, 0, 0, 1), (GSQ.THR_REGION0_END, 0, 0, 100), (⟨.imem, 0, 31, 0⟩, 0, 0, 3569680384)] { threads := [(0, { state := .running, regs := [(1, 5), (4, 2147483648), (5, 3178496000), (6, 4000)] })] }, by decide +kernel⟩,
   ⟨0, 0, 3569680384, true, 0, 5, at_ [175] [(GSQ.CTL_TEN, 0, 0, 1), (GSQ.THR_REGION0_END, 0, 0, 100), (⟨.imem, 0, 31, 0⟩, 0, 0, 3569680384)] { threads := [(0, { state := .running, regs := [(1, 5), (4, 2147483648), (5, 1310720000), (6, 4000)] })] }, by decide +kernel⟩,
   ⟨0, 0, 3569680384, at_ [175] [(GSQ.CTL_TEN, 0, 0, 1), (GSQ.THR_REGION0_END, 0, 0, 100), (⟨.imem, 0, 31, 0⟩, 0, 0, 3569680384)] { threads := [(0, { state := .running, regs := [(1, 12288)] })] }, by decide +kernel⟩,
   ⟨0, 0, 3636789248, 0, 5, 0, 0, at_ [175] [(GSQ.CTL_TEN, 0, 0, 1), (GSQ.THR_REGION0_END, 0, 0, 100), (⟨.imem, 0, 31, 0⟩, 0, 0, 3636789248), (PROF.VALID, 0, 0, 1), (PRESET.VALID, 0, 5, 1), (PRESET.AGE, 0, 5, 0), (TLN.CTL_PRESET_EN, 0, 0, 1)] { threads := [(0, { state := .running, regs := [(1, 0), (4, 81920), (6, 40)] })] }, by decide +kernel⟩,
   ⟨0, 0, 3636789248, 0, 0, at_ [175] [(GSQ.CTL_TEN, 0, 0, 1), (GSQ.THR_REGION0_END, 0, 0, 100), (⟨.imem, 0, 31, 0⟩, 0, 0, 3636789248), (GRT.PROF_SEL_LONG50, 0, 0, 1), (PROF.VALID, 0, 1, 1)] { threads := [(0, { state := .running, regs := [(1, 0), (4, 33554432), (6, 40)] })] }, by decide +kernel⟩,
   ⟨0, 0, 3636789248, at_ [175] [(GSQ.CTL_TEN, 0, 0, 1), (GSQ.THR_REGION0_END, 0, 0, 100), (⟨.imem, 0, 31, 0⟩, 0, 0, 3636789248)] { threads := [(0, { state := .running, regs := [(1, 0), (4, 100663296)] })] }, by decide +kernel⟩,
   ⟨0, 0, 3569680384, at_ [175] [(GSQ.CTL_TEN, 0, 0, 1), (GSQ.THR_REGION0_END, 0, 0, 100), (⟨.imem, 0, 31, 0⟩, 0, 0, 3569680384), (PAR.STS_ROLE, 0, 0, 1)] { threads := [(0, { state := .running, inFlight := true, regs := [(1, 5), (4, 2147483648)] })] }, by decide +kernel⟩⟩

theorem witness_SequencerContexts :
    (∃ (k : Fin 8) (h : Fin 4) (w n c : Nat) (s : State), (Issues k h 0x37 w s) ∧ (refTree (readG k h (raOf w) s) ≤ 5) ∧ (rdOf w < 15) ∧ (immX w ≠ 7) ∧ (6 * k + refTree (readG k h (raOf w) s) = n) ∧ (refCtx (readG k h (raOf w) s) = c)) ∧
    (∃ (k : Fin 8) (h : Fin 4) (w n c : Nat) (s : State), (Issues k h 0x38 w s) ∧ (refTree (readG k h (raOf w) s) ≤ 5) ∧ (2 ≤ immX w) ∧ (6 * k + refTree (readG k h (raOf w) s) = n) ∧ (refCtx (readG k h (raOf w) s) = c)) ∧
    (∃ (k : Fin 8) (h : Fin 4) (w : Nat) (s : State), (Issues k h 0x38 w s) ∧ (refTree (readG k h (raOf w) s) ≤ 5) ∧ (2 ≤ immX w)) ∧
    (∃ (k : Fin 8) (h : Fin 4) (w n c : Nat) (s : State), (Issues k h 0x39 w s) ∧ (refTree (readG k h (raOf w) s) ≤ 5) ∧ (6 * k + refTree (readG k h (raOf w) s) = n) ∧ (refCtx (readG k h (raOf w) s) = c)) ∧
    (∃ (k : Fin 8) (h : Fin 4) (w a base len cur e : Nat) (s : State), (Issues k h 0x3A w s) ∧ (readG k h (raOf w) s = a) ∧ (dmemWord k a s = base) ∧ (dmemWord k (a + 4) s = len) ∧ (dmemWord k (a + 8) s = cur) ∧ (a % 16 = 0) ∧ (a + 16 ≤ 0x10000) ∧ (base % 4 = 0) ∧ (base + 4 * len ≤ 0x10000) ∧ (cur + 1 < len) ∧ (dmemWord k (base + 4 * cur) s = e) ∧ (e < 2 ^ 31) ∧ ([a, a + 4, a + 8, a + 12, base + 4 * cur].all (fun x => goodData k x s) = true)) ∧
    (∃ (k : Fin 8) (h : Fin 4) (w a n : Nat) (s : State), (Issues k h 0x3B w s) ∧ (readG k h (raOf w) s = a) ∧ (a % 4 = 0) ∧ (a + 40 ≤ 0x10000) ∧ ((List.range 10).all (fun i => goodData k (a + 4 * i) s) = true) ∧ (readG k h (rbOf w) s % 8 ≤ 5) ∧ (6 * k + readG k h (rbOf w) s % 8 = n) ∧ (s.up (framingIsland n) = true) ∧ ((s.actOf n).normal.length < 256)) ∧
    (∃ (k : Fin 8) (h : Fin 4) (w : Nat) (s : State), (Issues k h 0x3C w s)) ∧
    (∃ (k : Fin 8) (h : Fin 4) (w : Nat) (s : State), (Issues k h 0x3D w s) ∧ (rdOf w < 15)) ∧
    (∃ (k : Fin 8) (h : Fin 4) (w : Nat) (s : State), (Issues k h 0x3D w s) ∧ (rdOf w = 15)) :=
  ⟨⟨0, 0, 3703832578, 0, 5, at_ [175] [(GSQ.CTL_TEN, 0, 0, 1), (GSQ.THR_REGION0_END, 0, 0, 100), (⟨.imem, 0, 31, 0⟩, 0, 0, 3703832578), (CTX.CREDIT, 0, 5, 1000)] { threads := [(0, { state := .running, regs := [(1, 5)] })] }, by decide +kernel⟩,
   ⟨0, 0, 3770941442, 0, 5, at_ [175] [(GSQ.CTL_TEN, 0, 0, 1), (GSQ.THR_REGION0_END, 0, 0, 100), (⟨.imem, 0, 31, 0⟩, 0, 0, 3770941442)] { threads := [(0, { state := .running, regs := [(1, 5), (3, 70)] })] }, by decide +kernel⟩,
   ⟨0, 0, 3770941442, at_ [175] [(GSQ.CTL_TEN, 0, 0, 1), (GSQ.THR_REGION0_END, 0, 0, 100), (⟨.imem, 0, 31, 0⟩, 0, 0, 3770941442)] { threads := [(0, { state := .running, regs := [(1, 5), (3, 70)] })] }, by decide +kernel⟩,
   ⟨0, 0, 3838083072, 0, 5, at_ [175] [(GSQ.CTL_TEN, 0, 0, 1), (GSQ.THR_REGION0_END, 0, 0, 100), (⟨.imem, 0, 31, 0⟩, 0, 0, 3838083072), (CTX.CREDIT, 0, 5, 10000), (CTX.BURST, 0, 5, 100)] { threads := [(0, { state := .running, regs := [(1, 5), (2, 30)] })] }, by decide +kernel⟩,
   ⟨0, 0, 3905159168, 16, 64, 4, 1, 77, at_ [175] [(GSQ.CTL_TEN, 0, 0, 1), (GSQ.THR_REGION0_END, 0, 0, 100), (⟨.imem, 0, 31, 0⟩, 0, 0, 3905159168), (⟨.dmem, 0, 31, 0⟩, 0, 4, 64), (⟨.dmem, 0, 31, 0⟩, 0, 5, 4), (⟨.dmem, 0, 31, 0⟩, 0, 6, 1), (⟨.dmem, 0, 31, 0⟩, 0, 17, 77)] { threads := [(0, { state := .running, regs := [(1, 16)] })] }, by decide +kernel⟩,
   ⟨0, 0, 3959717888, 64, 0, at_ [175, 167] [(GSQ.CTL_TEN, 0, 0, 1), (GSQ.THR_REGION0_END, 0, 0, 100), (⟨.imem, 0, 31, 0⟩, 0, 0, 3959717888)] { threads := [(0, { state := .running, regs := [(1, 64)] })] }, by decide +kernel⟩,
   ⟨0, 0, 4026794021, at_ [175] [(GSQ.CTL_TEN, 0, 0, 1), (GSQ.THR_REGION0_END, 0, 0, 100), (⟨.imem, 0, 31, 0⟩, 0, 0, 4026794021)] { threads := [(0, { state := .running, regs := [(1, 8), (2, 9)] })] }, by decide +kernel⟩,
   ⟨0, 0, 4106223616, at_ [175] [(GSQ.CTL_TEN, 0, 0, 1), (GSQ.THR_REGION0_END, 0, 0, 100), (⟨.imem, 0, 31, 0⟩, 0, 0, 4106223616)] { threads := [(0, { state := .running, regs := [(1, 8), (2, 9)] })] }, by decide +kernel⟩,
   ⟨0, 0, 4156555264, at_ [175] [(GSQ.CTL_TEN, 0, 0, 1), (GSQ.THR_REGION0_END, 0, 0, 100), (⟨.imem, 0, 31, 0⟩, 0, 0, 4156555264)] { threads := [(0, { state := .running, regs := [(1, 8), (2, 9)] })] }, by decide +kernel⟩⟩

theorem witness_SequencerThreads :
    (∃ (k : Fin 8) (s : State), (s.up (clusterIsland k) = true) ∧ ((s.cluster k).tickLead ≠ 0)) ∧
    (∃ (k : Fin 8) (h : Fin 4) (s : State), (s.up (clusterIsland k) = true) ∧ ((s.thread k h).state = .running) ∧ (rd GSQ.WDOG_CYCLES k s ≤ (s.thread k h).wdog)) ∧
    (∃ (k : Fin 8) (h : Fin 4) (s : State), (s.up (clusterIsland k) = true) ∧ (threadEnabled k h s = false) ∧ (roleStandby s = false)) ∧
    (∃ (k : Fin 8) (h : Fin 4) (s : State), (s.up (clusterIsland k) = true) ∧ (threadEnabled k h s = true)) ∧
    (∃ (k : Fin 8) (h : Fin 4) (w : Word) (s : State), (s.up (clusterIsland k) = true) ∧ (threadEnabled k h s = false) ∧ (w.toNat % 2 ^ 14 ≤ w.toNat / 2 ^ 16 % 2 ^ 14)) ∧
    (∃ (k : Fin 8) (h : Fin 4) (s : State), (s.up (clusterIsland k) = true) ∧ (threadEnabled k h s = true)) ∧
    (∃ (k : Fin 8) (s : State), (s.up (clusterIsland k) = true) ∧ ((s.cluster k).swap = none) ∧ (rd GSQ.SWAP_REGION_START k s ≤ rd GSQ.SWAP_ENTRY_ENTRY k s) ∧ (rd GSQ.SWAP_ENTRY_ENTRY k s ≤ rd GSQ.SWAP_REGION_END k s)) ∧
    (∃ (k : Fin 8) (s : State), (s.up (clusterIsland k) = true) ∧ ((s.cluster k).swap ≠ none)) ∧
    (∃ (k : Fin 8) (h : Fin 4) (s : State), (s.up (clusterIsland k) = true) ∧ ((s.thread k h).mbxUnread = false)) :=
  ⟨⟨0, at_ [175] [], by decide +kernel⟩,
   ⟨0, 0, at_ [175] [(GSQ.WDOG_CYCLES, 0, 0, 100)] { threads := [(0, { state := .running, wdog := 100 })] }, by decide +kernel⟩,
   ⟨0, 1, at_ [175] [(⟨.gsq, 9, 31, 0⟩, 0, 0, 40)], by decide +kernel⟩,
   ⟨0, 1, at_ [175] [(GSQ.CTL_TEN, 0, 0, 2)], by decide +kernel⟩,
   ⟨0, 1, 0x640032, at_ [175] [], by decide +kernel⟩,
   ⟨0, 1, at_ [175] [(GSQ.CTL_TEN, 0, 0, 2)], by decide +kernel⟩,
   ⟨0, at_ [175] [(GSQ.SWAP_ENTRY_ENTRY, 0, 0, 20), (GSQ.SWAP_REGION_START, 0, 0, 10), (GSQ.SWAP_REGION_END, 0, 0, 30)], by decide +kernel⟩,
   ⟨0, at_ [175] [(GSQ.SWAP_ENTRY_ENTRY, 0, 0, 20)] { clusters := [(0, { swap := some (0, 0, 0) })] }, by decide +kernel⟩,
   ⟨0, 1, at_ [175] [], by decide +kernel⟩⟩

theorem witness_SequencerStores :
    (∃ (k : Fin 8) (s : State), (s.up (clusterIsland k) = true) ∧ (roleStandby s = false) ∧ (imemHeld k (rd GSQ.IMEM_IDX_ADDR k s) s = false)) ∧
    (∃ (k : Fin 8) (s : State), (s.up (clusterIsland k) = true) ∧ (imemHeld k (rd GSQ.IMEM_IDX_ADDR k s) s = true)) ∧
    (∃ (k : Fin 8) (s : State), (s.up (clusterIsland k) = true)) ∧
    (∃ (k : Fin 8) (n : Nat) (s : State), (s.up (clusterIsland k) = true) ∧ (6 * k + rd GSQ.CTX_IDX_TREE k s = n)) ∧
    (∃ (k : Fin 8) (w : Word) (s : State), (s.up (clusterIsland k) = true) ∧ (on GSQ.TRACE_CTL_EN k s = false) ∧ (on GSQ.TRACE_CTL_EN k (writeReg .gsq k 32 w.toNat s) = true)) ∧
    (∃ (k : Fin 8) (s : State), (s.up (clusterIsland k) = true) ∧ (on GSQ.TRACE_CTL_RING k s = false) ∧ (4096 ≤ (s.cluster k).trace.length) ∧ ((s.cluster k).traceFull = false)) :=
  ⟨⟨0, at_ [175] [(GSQ.IMEM_IDX_ADDR, 0, 0, 7)], by decide +kernel⟩,
   ⟨0, at_ [175] [(GSQ.IMEM_IDX_ADDR, 0, 0, 7), (GSQ.CTL_TEN, 0, 0, 1), (GSQ.THR_REGION0_END, 0, 0, 9)], by decide +kernel⟩,
   ⟨0, at_ [175] [(GSQ.DMEM_IDX_ADDR, 0, 0, 7)], by decide +kernel⟩,
   ⟨0, 0, at_ [175] [(GSQ.CTX_IDX_WORD, 0, 0, 2)], by decide +kernel⟩,
   ⟨0, 0x80000000, at_ [175] [] { clusters := [(0, { trace := [(1, 2)] })] }, by decide +kernel⟩,
   ⟨0, at_ [175] [(GSQ.TRACE_CTL_RING, 0, 0, 0)] { clusters := [(0, { trace := List.replicate 4096 (0, 0) })] }, by decide, by decide, (by show 4096 ≤ (List.replicate 4096 ((0 : Nat), (0 : Nat))).length; exact Nat.le_of_eq List.length_replicate.symm), by decide⟩⟩

theorem witness_LaneBinding :
    (∃ (n : Fin 48) (l : Fin 16) (s : State), (s.up 220 = true) ∧ (laneBound ⟨0, n, l⟩ s = false) ∧ (bindError ⟨0, n, l⟩ s = 0)) ∧
    (∃ (n : Fin 48) (l : Fin 16) (w : Nat × Nat × Nat) (s : State), (s.up 220 = true) ∧ (s.up (clusterIsland (treeCluster n)) = true) ∧ (laneBound ⟨1, n, l⟩ s = false) ∧ (bindError ⟨1, n, l⟩ s = 0) ∧ (laneCell ⟨1, n, l⟩ s = w) ∧ (cellFree ⟨1, n, l⟩ s = true) ∧ (placementFits n (lrd LANE.CELL ⟨1, n, l⟩ s) w.1 w.2.1 w.2.2 s = true)) ∧
    (∃ (n : Fin 48) (l : Fin 16) (w : Nat × Nat × Nat) (s : State), (s.up 220 = true) ∧ (s.up (clusterIsland (treeCluster n)) = true) ∧ (laneBound ⟨1, n, l⟩ s = false) ∧ (bindError ⟨1, n, l⟩ s = 0) ∧ (laneCell ⟨1, n, l⟩ s = w) ∧ ((cellFree ⟨1, n, l⟩ s = false ∨ placementFits n (lrd LANE.CELL ⟨1, n, l⟩ s) w.1 w.2.1 w.2.2 s = false))) ∧
    (∃ (d : Fin 2) (n : Fin 48) (l : Fin 16) (e : Nat) (s : State), (s.up 220 = true) ∧ (laneBound ⟨d, n, l⟩ s = false) ∧ (bindError ⟨d, n, l⟩ s = e) ∧ (e ≠ 0)) ∧
    (∃ (d : Fin 2) (n : Fin 48) (l : Fin 16) (s : State), (s.up 220 = true) ∧ (laneBound ⟨d, n, l⟩ s = true)) ∧
    (∃ (n : Fin 48) (l : Fin 16) (s : State), (s.up 220 = true) ∧ (laneBound ⟨0, n, l⟩ s = true)) ∧
    (∃ (n : Fin 48) (l : Fin 16) (s : State), (s.up 220 = true) ∧ (s.up (clusterIsland (treeCluster n)) = true) ∧ (laneBound ⟨1, n, l⟩ s = true) ∧ (fixedOwner n (lrd LANE.CELL ⟨1, n, l⟩ s) s = some 2)) ∧
    (∃ (d : Fin 2) (n : Fin 48) (l : Fin 16) (s : State), (s.up 220 = true) ∧ (laneBound ⟨d, n, l⟩ s = false)) ∧
    (∃ (s : State), (s.up 220 = true) ∧ (laneBound (namedLane s) s = true) ∧ (rd CRL.LANE_IDX_WORD 0 s < 5)) ∧
    (∃ (s : State), (s.up 220 = true) ∧ (rd CRL.LANE_IDX_WORD 0 s = 6) ∧ (on CRL.LANE_IDX_AUTO_INC 0 s = false)) :=
  ⟨⟨0, 3, at_ [220] [(LANE.CN_NOM, 0, 3, 1000), (LANE.PPM, 0, 3, 100), (LANE.PKT_LEN, 0, 3, 1024), (LANE.NPORT, 0, 3, 0), (NET.PORT_CFG_EN, 0, 0, 1), (NET.PORT_CFG_SPEED, 0, 0, 1)], by decide +kernel⟩,
   ⟨0, 3, (3221307425, 655360000, 300), at_ [220, 175] [(LANE.CN_NOM, 48, 3, 1000), (LANE.PPM, 48, 3, 100), (LANE.PKT_LEN, 48, 3, 1024), (LANE.NPORT, 48, 3, 0), (NET.PORT_CFG_EN, 0, 0, 1), (NET.PORT_CFG_SPEED, 0, 0, 1), (CTX.VALID, 0, 4, 1), (CTX.ALLOC_ID, 0, 4, 33), (CTX.TERM, 0, 4, 5), (LANE.ALLOC_ID, 48, 3, 33), (LANE.TERM, 48, 3, 5), (LANE.GRANT, 48, 3, 300), (LANE.STARTTIME, 48, 3, 20000), (LANE.CELL, 48, 3, 7)], by decide +kernel⟩,
   ⟨0, 3, (3221307425, 655360000, 300), at_ [220, 175] [(LANE.CN_NOM, 48, 3, 1000), (LANE.PPM, 48, 3, 100), (LANE.PKT_LEN, 48, 3, 1024), (LANE.NPORT, 48, 3, 0), (NET.PORT_CFG_EN, 0, 0, 1), (NET.PORT_CFG_SPEED, 0, 0, 1), (CTX.VALID, 0, 4, 1), (CTX.ALLOC_ID, 0, 4, 33), (CTX.TERM, 0, 4, 5), (LANE.ALLOC_ID, 48, 3, 33), (LANE.TERM, 48, 3, 5), (LANE.GRANT, 48, 3, 300), (LANE.STARTTIME, 48, 3, 20000), (LANE.CELL, 48, 3, 7), (CELL.VALID, 0, 7, 1), (CELL.FIXED, 0, 7, 1), (CELL.FOWN, 0, 7, 1)], by decide +kernel⟩,
   ⟨1, 0, 3, 2, at_ [220] [], by decide +kernel⟩,
   ⟨1, 0, 3, at_ [220] [(LANE.BOUND, 48, 3, 1)], by decide +kernel⟩,
   ⟨0, 3, at_ [220] [(LANE.BOUND, 0, 3, 1)], by decide +kernel⟩,
   ⟨0, 3, at_ [220, 175] [(LANE.BOUND, 48, 3, 1), (LANE.CELL, 48, 3, 7), (CELL.VALID, 0, 7, 1), (CELL.FIXED, 0, 7, 1), (CELL.FOWN, 0, 7, 2)], by decide +kernel⟩,
   ⟨1, 0, 3, at_ [220] [], by decide +kernel⟩,
   ⟨at_ [220] [(LANE.BOUND, 0, 0, 1)], by decide +kernel⟩,
   ⟨at_ [220] [(CRL.LANE_IDX_WORD, 0, 0, 6), (CRL.LANE_IDX_AUTO_INC, 0, 0, 0)], by decide +kernel⟩⟩

theorem witness_LaneDownstream :
    (∃ (n : Fin 48) (l : Fin 16) (s : State), (s.up 220 = true) ∧ (s.up (framingIsland n) = true) ∧ (s.up 218 = true) ∧ ((laneTreat 0 n (lrd LANE.PORT_ID ⟨0, n, l⟩ s) 0 s).omci = none) ∧ (laneBound ⟨0, n, l⟩ s = true) ∧ (lrd LANE.CIPHER ⟨0, n, l⟩ s = 0) ∧ (lrd LANE.STATE ⟨0, n, l⟩ s = 1) ∧ ((s.crLane ⟨0, n, l⟩).building ≠ some ((s.fram n).frame + 1)) ∧ ((s.crLane ⟨0, n, l⟩).fill < lrd LANE.FT ⟨0, n, l⟩ s * 64)) ∧
    (∃ (n : Fin 48) (l : Fin 16) (e est rate acc : Int) (cn cnd : Nat) (s : State), (s.up 220 = true) ∧ (s.up (framingIsland n) = true) ∧ (s.up 218 = true) ∧ ((laneTreat 0 n (lrd LANE.PORT_ID ⟨0, n, l⟩ s) 0 s).omci = none) ∧ (laneBound ⟨0, n, l⟩ s = true) ∧ (lrd LANE.CIPHER ⟨0, n, l⟩ s = 0) ∧ (lrd LANE.STATE ⟨0, n, l⟩ s = 2) ∧ ((s.crLane ⟨0, n, l⟩).building ≠ some ((s.fram n).frame + 1)) ∧ (e = ((s.crLane ⟨0, n, l⟩).fill : Int) - (lrd LANE.FT ⟨0, n, l⟩ s * 64 : Nat)) ∧ (est = (s.crLane ⟨0, n, l⟩).est + sar (e * 65536) (rd CRL.CTL_KI_SH 0 s)) ∧ (rate = (laneNom ⟨0, n, l⟩ s : Int) + est + sar (e * 65536) (rd CRL.CTL_KP_SH 0 s)) ∧ (acc = (s.crLane ⟨0, n, l⟩).acc + rate) ∧ (cn = (sar acc 16).toNat) ∧ (cnd = (sar (acc - sar acc 16 * 65536) 10).toNat) ∧ (cnMin ⟨0, n, l⟩ s ≤ cn) ∧ (cn ≤ cnMax ⟨0, n, l⟩ s) ∧ (cn ≤ (s.crLane ⟨0, n, l⟩).fill) ∧ (e ≤ (lrd LANE.WIN ⟨0, n, l⟩ s * 64 : Nat)) ∧ (-((lrd LANE.WIN ⟨0, n, l⟩ s * 64 : Nat) : Int) ≤ e)) ∧
    (∃ (n : Fin 48) (l : Fin 16) (s : State), (s.up 220 = true) ∧ ((s.fram n).built = none) ∧ ((s.crLane ⟨0, n, l⟩).building = some ((s.fram n).frame + 1)) ∧ (((s.fram n).containers.any fun c => c.lane == l.val) = true)) ∧
    (∃ (n : Fin 48) (l : Fin 16) (flow : BitVec 8) (pay : List Byte) (pt : Nat) (s : State), (s.up 220 = true) ∧ ((laneBound ⟨0, n, l⟩ s = false ∨ flow.toNat ≠ lrd LANE.FLOW_ID ⟨0, n, l⟩ s ∨ pay.length < 64 ∨ 8192 < pay.length ∨ pay.length % 4 ≠ 0 ∨ pt + 1000000 < s.ptp ∨ s.ptp + 1000000 < pt ∨ precedes (s.crLane ⟨0, n, l⟩) pt = true))) ∧
    (∃ (n : Fin 48) (l : Fin 16) (flow : BitVec 8) (pay : List Byte) (pt : Nat) (s : State), (s.up 220 = true) ∧ (laneBound ⟨0, n, l⟩ s = true) ∧ (flow.toNat = lrd LANE.FLOW_ID ⟨0, n, l⟩ s) ∧ (64 ≤ pay.length) ∧ (pay.length ≤ 8192) ∧ (pay.length % 4 = 0) ∧ (s.ptp ≤ pt) ∧ (pt ≤ s.ptp + 1000000) ∧ (precedes (s.crLane ⟨0, n, l⟩) pt = false)) ∧
    (∃ (n : Fin 48) (l : Fin 16) (flow : BitVec 8) (pay : List Byte) (pt : Nat) (s : State), (s.up 220 = true) ∧ (laneBound ⟨0, n, l⟩ s = true) ∧ (flow.toNat = lrd LANE.FLOW_ID ⟨0, n, l⟩ s) ∧ (64 ≤ pay.length) ∧ (pay.length ≤ 8192) ∧ (pay.length % 4 = 0) ∧ (pt < s.ptp) ∧ (s.ptp ≤ pt + 1000000) ∧ ((s.crLane ⟨0, n, l⟩).lastPt = none)) ∧
    (∃ (n : Fin 48) (l : Fin 16) (pt : Nat) (pay : List Byte) (rest : List (Nat × List Byte)) (s : State), (s.up 220 = true) ∧ ((s.crLane ⟨0, n, l⟩).packets = (pt, pay) :: rest) ∧ ((s.crLane ⟨0, n, l⟩).lastPt = none)) :=
  ⟨⟨0, 3, at_ [220, 167, 218] [(LANE.BOUND, 0, 3, 1), (LANE.STATE, 0, 3, 1), (LANE.FT, 0, 3, 10)], by decide +kernel⟩,
   ⟨0, 3, 0, 0, 32768000, 32768000, 500, 0, at_ [220, 167, 218] [(LANE.BOUND, 0, 3, 1), (LANE.STATE, 0, 3, 2), (LANE.FT, 0, 3, 10), (LANE.WIN, 0, 3, 5), (LANE.CN_NOM, 0, 3, 500), (LANE.PPM, 0, 3, 100)] { crl := [(3, { fifo := List.replicate 640 0 })] }, by decide +kernel⟩,
   ⟨0, 3, at_ [220] [] { crl := [(3, { building := some 1 })], framing := [(0, { containers := [{ lane := 3, port := 900, sdu := [], len := 16 }] })] }, by decide +kernel⟩,
   ⟨0, 3, 9, [], 0, at_ [220] [(LANE.BOUND, 0, 3, 1)], by decide +kernel⟩,
   ⟨0, 3, 9, List.replicate 128 0, 500, at_ [220] [(LANE.BOUND, 0, 3, 1), (LANE.FLOW_ID, 0, 3, 9)], by decide +kernel⟩,
   ⟨0, 3, 9, List.replicate 128 0, 500, at_ [220] [(LANE.BOUND, 0, 3, 1), (LANE.FLOW_ID, 0, 3, 9)] { ptp := 600 }, by decide +kernel⟩,
   ⟨0, 3, 500, [1, 2, 3, 4], [], at_ [220] [] { crl := [(3, { packets := [(500, [1, 2, 3, 4])] })] }, by decide +kernel⟩⟩

theorem witness_LaneUpstream :
    (∃ (n : Fin 48) (l : Fin 16) (s : State), (s.up 220 = true) ∧ (laneBound ⟨1, n, l⟩ s = false)) ∧
    (∃ (n : Fin 48) (l : Fin 16) (c : CrlContainer) (s : State), (s.up 220 = true) ∧ (laneBound ⟨1, n, l⟩ s = true) ∧ (lrd LANE.CIPHER ⟨1, n, l⟩ s = 0) ∧ ((c.whole = false ∨ c.w0.toNat / 2 ^ 28 ≠ 1 ∨ c.w0.toNat / 2 ^ 24 % 16 ≠ l.val)) ∧ (lrd LANE.STATE ⟨1, n, l⟩ s = 1)) ∧
    (∃ (n : Fin 48) (l : Fin 16) (c : CrlContainer) (cn cnd : Nat) (s : State), (s.up 220 = true) ∧ (s.up 219 = true) ∧ (c.keyIndex = 0) ∧ ((laneTreat 1 n (lrd LANE.PORT_ID ⟨1, n, l⟩ s) 0 s).omci = none) ∧ (laneBound ⟨1, n, l⟩ s = true) ∧ (lrd LANE.CIPHER ⟨1, n, l⟩ s = 0) ∧ (c.whole = true) ∧ (c.w0.toNat / 2 ^ 28 = 1) ∧ (c.w0.toNat / 2 ^ 24 % 16 = l.val) ∧ (lrd LANE.STATE ⟨1, n, l⟩ s = 1) ∧ (jcValue c.payload.length (jcCopy c.w1.toNat) (jcCopy c.w2.toNat) = some (cn, cnd)) ∧ (c.payload.length = cn) ∧ (cnMin ⟨1, n, l⟩ s ≤ cn) ∧ (cn ≤ cnMax ⟨1, n, l⟩ s)) ∧
    (∃ (n : Fin 48) (l : Fin 16) (c : CrlContainer) (cn cnd : Nat) (s : State), (s.up 220 = true) ∧ (s.up 219 = true) ∧ (c.keyIndex = 0) ∧ ((laneTreat 1 n (lrd LANE.PORT_ID ⟨1, n, l⟩ s) 0 s).omci = none) ∧ (laneBound ⟨1, n, l⟩ s = true) ∧ (lrd LANE.CIPHER ⟨1, n, l⟩ s = 0) ∧ (c.whole = true) ∧ (c.w0.toNat / 2 ^ 28 = 1) ∧ (c.w0.toNat / 2 ^ 24 % 16 = l.val) ∧ (lrd LANE.STATE ⟨1, n, l⟩ s = 2) ∧ (jcValue c.payload.length (jcCopy c.w1.toNat) (jcCopy c.w2.toNat) = some (cn, cnd)) ∧ (c.payload.length = cn) ∧ (cnMin ⟨1, n, l⟩ s ≤ cn) ∧ (cn ≤ cnMax ⟨1, n, l⟩ s) ∧ ((s.crLane ⟨1, n, l⟩).fill + cn ≤ (lrd LANE.FT ⟨1, n, l⟩ s + lrd LANE.WIN ⟨1, n, l⟩ s) * 64) ∧ ((lrd LANE.FT ⟨1, n, l⟩ s - lrd LANE.WIN ⟨1, n, l⟩ s) * 64 ≤ (s.crLane ⟨1, n, l⟩).fill + cn)) ∧
    (∃ (n : Fin 48) (l : Fin 16) (s : State), (s.up 220 = true) ∧ (laneBound ⟨1, n, l⟩ s = true) ∧ (lrd LANE.STATE ⟨1, n, l⟩ s = 1)) ∧
    (∃ (n : Fin 48) (l : Fin 16) (s : State), (s.up 220 = true) ∧ (laneBound ⟨1, n, l⟩ s = true) ∧ (lrd LANE.STATE ⟨1, n, l⟩ s = 2)) ∧
    (∃ (n : Fin 48) (l : Fin 16) (s : State), (s.up 220 = true) ∧ (lrd LANE.STATE ⟨1, n, l⟩ s = 1) ∧ (3 ≤ (s.crLane ⟨1, n, l⟩).passRun)) ∧
    (∃ (n : Fin 48) (l : Fin 16) (s : State), (s.up 220 = true) ∧ (lrd LANE.STATE ⟨1, n, l⟩ s = 2) ∧ (8 ≤ (s.crLane ⟨1, n, l⟩).failRun)) ∧
    (∃ (n : Fin 48) (l : Fin 16) (s : State), (s.up 220 = true) ∧ (lrd LANE.PRIV ⟨1, n, l⟩ s = 1) ∧ (3 ≤ (s.crLane ⟨1, n, l⟩).lblRun) ∧ ((s.crLane ⟨1, n, l⟩).lblAccepted = false) ∧ ((s.crLane ⟨1, n, l⟩).lblLast < 256) ∧ ((s.crLane ⟨1, n, l⟩).lblLast ≠ lrd LANE.LABEL_EXP ⟨1, n, l⟩ s)) ∧
    (∃ (n : Fin 48) (l : Fin 16) (k : Nat) (s : State), (s.up 220 = true) ∧ (lrd LANE.STATE ⟨1, n, l⟩ s = 2) ∧ (lrd LANE.PKT_LEN ⟨1, n, l⟩ s = k) ∧ (k ≤ (s.crLane ⟨1, n, l⟩).out.length)) ∧
    (∃ (p : Fin 8) (j : Nat) (s : State), (s.up 221 = true) ∧ (on OHP.CTL_EN p s = true) ∧ (nextPeriod p s = j)) ∧
    (∃ (p : Fin 8) (s : State), (s.up 221 = true) ∧ (on OHP.CTL_EN p s = false)) ∧
    (∃ (p : Fin 8) (w : Word) (s : State), (s.up 221 = true) ∧ (bitsOf w 29 24 < 48) ∧ (bitsOf w 19 14 < 48) ∧ ((s.mem.any fun e => e.1.sp == .chan && !(e.1.inst == p && e.1.idx == rd OHP.CH_IDX_CH p s) && bitsOf e.2 31 31 == 1 && bitsOf e.2 29 20 == w.toNat / 2 ^ 20 % 1024) = false)) ∧
    (∃ (p : Fin 8) (w : Word) (s : State), (s.up 221 = true) ∧ (bitsOf w 29 24 < 48) ∧ (bitsOf w 19 14 < 48) ∧ (w.toNat / 2 ^ 31 = 1) ∧ ((s.mem.any fun e => e.1.sp == .chan && !(e.1.inst == p && e.1.idx == rd OHP.CH_IDX_CH p s) && bitsOf e.2 31 31 == 1 && bitsOf e.2 29 20 == w.toNat / 2 ^ 20 % 1024) = true)) ∧
    (∃ (w : Word) (s : State), (s.up 221 = true) ∧ ((48 ≤ bitsOf w 29 24 ∨ 48 ≤ bitsOf w 19 14))) :=
  ⟨⟨0, 3, at_ [220] [], by decide +kernel⟩,
   ⟨0, 3, { segs := 2, whole := false, w0 := 0, w1 := 0, w2 := 0, w3 := 0, payload := [], keyIndex := 0, tag := [], frame := 0, ofs := 0 }, at_ [220] [(LANE.BOUND, 48, 3, 1), (LANE.STATE, 48, 3, 1)], by decide +kernel⟩,
   ⟨0, 3, { segs := 2, whole := true, w0 := 0x13000000, w1 := BitVec.ofNat 32 (jcWord 500 7), w2 := BitVec.ofNat 32 (jcWord 500 7), w3 := 0, payload := List.replicate 500 0, keyIndex := 0, tag := [], frame := 0, ofs := 0 }, 500, 7, at_ [220, 219] [(LANE.BOUND, 48, 3, 1), (LANE.STATE, 48, 3, 1), (LANE.CN_NOM, 48, 3, 500), (LANE.PPM, 48, 3, 100)], by decide +kernel⟩,
   ⟨0, 3, { segs := 2, whole := true, w0 := 0x13000000, w1 := BitVec.ofNat 32 (jcWord 500 7), w2 := BitVec.ofNat 32 (jcWord 500 7), w3 := 0, payload := List.replicate 500 0, keyIndex := 0, tag := [], frame := 0, ofs := 0 }, 500, 7, at_ [220, 219] [(LANE.BOUND, 48, 3, 1), (LANE.STATE, 48, 3, 2), (LANE.FT, 48, 3, 10), (LANE.WIN, 48, 3, 5), (LANE.CN_NOM, 48, 3, 500), (LANE.PPM, 48, 3, 100)], by decide +kernel⟩,
   ⟨0, 3, at_ [220] [(LANE.BOUND, 48, 3, 1), (LANE.STATE, 48, 3, 1)], by decide +kernel⟩,
   ⟨0, 3, at_ [220] [(LANE.BOUND, 48, 3, 1), (LANE.STATE, 48, 3, 2)], by decide +kernel⟩,
   ⟨0, 3, at_ [220] [(LANE.STATE, 48, 3, 1)] { crl := [(771, { passRun := 3 })] }, by decide +kernel⟩,
   ⟨0, 3, at_ [220] [(LANE.STATE, 48, 3, 2)] { crl := [(771, { failRun := 8 })] }, by decide +kernel⟩,
   ⟨0, 3, at_ [220] [(LANE.PRIV, 48, 3, 1), (LANE.LABEL_EXP, 48, 3, 6)] { crl := [(771, { lblLast := 5, lblRun := 3 })] }, by decide +kernel⟩,
   ⟨0, 3, 256, at_ [220, 212] [(LANE.STATE, 48, 3, 2), (LANE.PKT_LEN, 48, 3, 256)] { crl := [(771, { out := List.replicate 300 7, outPt := [77] })] }, by decide +kernel⟩,
   ⟨2, 0, at_ [221] [(OHP.CTL_EN, 2, 0, 1)], by decide +kernel⟩,
   ⟨2, at_ [221] [], by decide +kernel⟩,
   ⟨2, 0xC0000000, at_ [221] [(OHP.CH_IDX_CH, 2, 0, 5)], by decide +kernel⟩,
   ⟨2, 0x80000000, at_ [221] [(OHP.CH_IDX_CH, 2, 0, 5), (⟨.chan, 0, 31, 31⟩, 1, 4, 1)], by decide +kernel⟩,
   ⟨0x30000000, at_ [221] [], by decide +kernel⟩⟩

theorem witness_Classification :
    (∃ (k : Fin 4) (s : State), (s.up (pipeIsland k) = true) ∧ (s.merge.frames.find? (fun f => Tbl.get .pending f.res k == .pending) = none)) ∧
    (∃ (k : Fin 4) (f : DsFrame) (s : State), (s.up (pipeIsland k) = true) ∧ (s.merge.frames.find? (fun f => Tbl.get .pending f.res k == .pending) = some f) ∧ (trapDown f.hdr s = true)) ∧
    (∃ (k : Fin 4) (f : DsFrame) (s : State), (s.up (pipeIsland k) = true) ∧ (s.merge.frames.find? (fun f => Tbl.get .pending f.res k == .pending) = some f) ∧ (trapDown f.hdr s = false) ∧ (rdx CVID.VALID k f.hdr.vid.toNat s = 0)) ∧
    (∃ (k : Fin 4) (f : DsFrame) (d : Nat) (s : State), (s.up (pipeIsland k) = true) ∧ (s.merge.frames.find? (fun f => Tbl.get .pending f.res k == .pending) = some f) ∧ (trapDown f.hdr s = false) ∧ (rdx CVID.VALID k f.hdr.vid.toNat s = 1) ∧ (d = rdx CVID.DOMAIN k f.hdr.vid.toNat s) ∧ (isRoe f.hdr.l3 = false) ∧ ((rdx CDOMAIN.VALID k d s = 0 ∨ rdx CDOMAIN.ROUTED k d s = 0)) ∧ (emFind k 1 (d * 2 ^ 48 + f.hdr.dst.toNat) s = none)) ∧
    (∃ (k : Fin 4) (f : DsFrame) (d i : Nat) (s : State), (s.up (pipeIsland k) = true) ∧ (s.merge.frames.find? (fun f => Tbl.get .pending f.res k == .pending) = some f) ∧ (trapDown f.hdr s = false) ∧ (rdx CVID.VALID k f.hdr.vid.toNat s = 1) ∧ (d = rdx CVID.DOMAIN k f.hdr.vid.toNat s) ∧ (isRoe f.hdr.l3 = false) ∧ ((rdx CDOMAIN.VALID k d s = 0 ∨ rdx CDOMAIN.ROUTED k d s = 0)) ∧ (emFind k 1 (d * 2 ^ 48 + f.hdr.dst.toNat) s = some i) ∧ ((emAt k i s).fixed = false)) ∧
    (∃ (k : Fin 4) (f : DsFrame) (d i : Nat) (s : State), (s.up (pipeIsland k) = true) ∧ (s.merge.frames.find? (fun f => Tbl.get .pending f.res k == .pending) = some f) ∧ (trapDown f.hdr s = false) ∧ (rdx CVID.VALID k f.hdr.vid.toNat s = 1) ∧ (d = rdx CVID.DOMAIN k f.hdr.vid.toNat s) ∧ (isRoe f.hdr.l3 = false) ∧ ((rdx CDOMAIN.VALID k d s = 0 ∨ rdx CDOMAIN.ROUTED k d s = 0)) ∧ (emFind k 1 (d * 2 ^ 48 + f.hdr.dst.toNat) s = some i) ∧ ((emAt k i s).fixed = true)) ∧
    (∃ (k : Fin 4) (f : DsFrame) (d : Nat) (s : State), (s.up (pipeIsland k) = true) ∧ (s.merge.frames.find? (fun f => Tbl.get .pending f.res k == .pending) = some f) ∧ (trapDown f.hdr s = false) ∧ (rdx CVID.VALID k f.hdr.vid.toNat s = 1) ∧ (d = rdx CVID.DOMAIN k f.hdr.vid.toNat s) ∧ (isRoe f.hdr.l3 = false) ∧ (rdx CDOMAIN.VALID k d s = 1) ∧ (rdx CDOMAIN.ROUTED k d s = 1)) ∧
    (∃ (k : Fin 4) (f : DsFrame) (d i : Nat) (flow : BitVec 8) (pay : List Byte) (pt : Nat) (s : State), (s.up (pipeIsland k) = true) ∧ (s.merge.frames.find? (fun f => Tbl.get .pending f.res k == .pending) = some f) ∧ (trapDown f.hdr s = false) ∧ (rdx CVID.VALID k f.hdr.vid.toNat s = 1) ∧ (d = rdx CVID.DOMAIN k f.hdr.vid.toNat s) ∧ (f.hdr.l3 = .roe flow pay pt) ∧ (emFind k 2 (d * 256 + flow.toNat) s = some i)) ∧
    (∃ (k : Fin 4) (f : DsFrame) (d : Nat) (flow : BitVec 8) (pay : List Byte) (pt : Nat) (s : State), (s.up (pipeIsland k) = true) ∧ (s.merge.frames.find? (fun f => Tbl.get .pending f.res k == .pending) = some f) ∧ (trapDown f.hdr s = false) ∧ (rdx CVID.VALID k f.hdr.vid.toNat s = 1) ∧ (d = rdx CVID.DOMAIN k f.hdr.vid.toNat s) ∧ (f.hdr.l3 = .roe flow pay pt) ∧ (emFind k 2 (d * 256 + flow.toNat) s = none)) ∧
    (∃ (k : Fin 4) (x : UpSdu) (s : State), (s.up (pipeIsland k) = true) ∧ (s.upSdus.find? (fun x => x.tree / 12 == k.val) = some x) ∧ (portValid k x.tree x.port s = false) ∧ (x.handle = 0)) ∧
    (∃ (k : Fin 4) (b : List Byte) (x : UpSdu) (p key : Nat) (s : State), (s.up (pipeIsland k) = true) ∧ (s.upSdus.find? (fun x => x.tree / 12 == k.val) = some x) ∧ (portValid k x.tree x.port s = true) ∧ (portEntry x.tree x.port = p) ∧ (rdx CPORT.OMCI k p s = 0) ∧ (on CLS.CTL_LEARN_EN k s = true) ∧ (rdx CPORT.LEARN k p s = 1) ∧ (rdx CPORT.DOMAIN k p s * 2 ^ 48 + (parseFrame 0 b).src.toNat = key) ∧ (emFind k 1 key s = none) ∧ (rdx CLIMIT.COUNT k (x.tree % 12) s < rdx CLIMIT.MAX k (x.tree % 12) s) ∧ ((s.pipe k).learnq.length < 4096)) ∧
    (∃ (k : Fin 4) (x : Second) (rest : List Second) (no : Nat) (s : State), (s.up (pipeIsland k) = true) ∧ ((s.pipe k).seconds = x :: rest) ∧ (emFind k 3 x.key s = none) ∧ (x.frame = .inl no)) ∧
    (∃ (k : Fin 4) (x : Second) (rest : List Second) (no i : Nat) (s : State), (s.up (pipeIsland k) = true) ∧ ((s.pipe k).seconds = x :: rest) ∧ (emFind k 3 x.key s = some i) ∧ (x.frame = .inl no)) ∧
    (∃ (k : Fin 4) (x : Second) (rest : List Second) (u : UpFrame) (s : State), (s.up (pipeIsland k) = true) ∧ ((s.pipe k).seconds = x :: rest) ∧ (x.frame = .inr u)) ∧
    (∃ (s : State), (s.up 213 = true) ∧ (s.merge.frames.find? (fun f => answered f s) = none)) ∧
    (∃ (f : DsFrame) (s : State), (s.up 213 = true) ∧ (s.merge.frames.find? (fun f => answered f s) = some f) ∧ ((∀ k, k < 4 → Tbl.get .pending f.res k = .trapped))) ∧
    (∃ (f : DsFrame) (key a b m n p q : Nat) (s : State), (s.up 213 = true) ∧ (s.merge.frames.find? (fun f => answered f s) = some f) ∧ (Tbl.get .pending f.res 0 = .learned key a m p) ∧ (Tbl.get .pending f.res 1 = .learned key b n q) ∧ (Tbl.get .pending f.res 2 = .dropped) ∧ (Tbl.get .pending f.res 3 = .dropped) ∧ (stampNewer a b = true) ∧ (stampNewer b a = false)) ∧
    (∃ (f : DsFrame) (g : Nat) (s : State), (s.up 213 = true) ∧ (s.merge.frames.find? (fun f => answered f s) = some f) ∧ (Tbl.get .pending f.res 0 = .miss (some g)) ∧ (Tbl.get .pending f.res 1 = .dropped) ∧ (Tbl.get .pending f.res 2 = .dropped) ∧ (Tbl.get .pending f.res 3 = .dropped)) ∧
    (∃ (f : DsFrame) (a : ActWords) (x : Copies × State) (s : State), (s.up 213 = true) ∧ (s.merge.frames.find? (fun f => answered f s) = some f) ∧ ((Tbl.get .pending f.res 0 = .fixedHit a ∨ Tbl.get .pending f.res 0 = .action a)) ∧ (Tbl.get .pending f.res 1 = .dropped) ∧ (Tbl.get .pending f.res 2 = .dropped) ∧ (Tbl.get .pending f.res 3 = .dropped) ∧ (actDown 0 a f { s with merge := { s.merge with frames := s.merge.frames.filter fun g => g.no != f.no } } = x)) ∧
    (∃ (k : Fin 4) (key stamp : Nat) (rest : List (Nat × Nat)) (i : Nat) (s : State), (s.up (pipeIsland k) = true) ∧ (portFree k s = true) ∧ ((s.pipe k).clears = (key, stamp) :: rest) ∧ (emFind k 1 key s = some i) ∧ ((emAt k i s).fixed = false) ∧ ((emAt k i s).stamp = stamp)) ∧
    (∃ (k : Fin 4) (key stamp : Nat) (rest : List (Nat × Nat)) (i : Nat) (s : State), (s.up (pipeIsland k) = true) ∧ (portFree k s = true) ∧ ((s.pipe k).clears = (key, stamp) :: rest) ∧ (emFind k 1 key s = some i) ∧ ((emAt k i s).fixed = false) ∧ ((emAt k i s).stamp ≠ stamp)) ∧
    (∃ (k : Fin 4) (h : BitVec 4) (i : Fin 4) (b : Nat) (s : State), (s.up (pipeIsland k) = true) ∧ (rd CLS.CTL_AGE_EN k s = 1) ∧ (sweepFree k s = true) ∧ ((s.pipe k).sweep = b) ∧ ((emAt k (b * 4 + i) s).kind ≠ 0) ∧ ((emAt k (b * 4 + i) s).fixed = false) ∧ (((emAt k (b * 4 + i) s).hit = true ∨ maskHas h.toNat i = true))) ∧
    (∃ (k : Fin 4) (h : BitVec 4) (i : Fin 4) (b : Nat) (s : State), (s.up (pipeIsland k) = true) ∧ (rd CLS.CTL_AGE_EN k s = 1) ∧ (sweepFree k s = true) ∧ ((s.pipe k).sweep = b) ∧ ((emAt k (b * 4 + i) s).kind ≠ 0) ∧ ((emAt k (b * 4 + i) s).fixed = false) ∧ ((emAt k (b * 4 + i) s).hit = false) ∧ (maskHas h.toNat i = false)) ∧
    (∃ (k : Fin 4) (x : Nat) (s : State), (s.up (pipeIsland k) = true) ∧ (rd CLS.TBL_IDX_TABLE k s = 2) ∧ (rd CLS.TBL_IDX_WORD k s = 0) ∧ (x = rd CLS.TBL_IDX_ENTRY k s) ∧ (x < 4096) ∧ (on CLS.TBL_IDX_AUTO_INC k s = false)) ∧
    (∃ (k : Fin 4) (j : Nat) (s : State), (s.up (pipeIsland k) = true) ∧ (rd CLS.TBL_IDX_TABLE k s = 0) ∧ (rd CLS.TBL_IDX_WORD k s = j) ∧ (j < 2) ∧ (rd CLS.TBL_IDX_ENTRY k s < 262144) ∧ (on CLS.TBL_IDX_AUTO_INC k s = false)) ∧
    (∃ (k : Fin 4) (s : State), (s.up (pipeIsland k) = true) ∧ (rd CLS.TBL_IDX_TABLE k s = 2) ∧ (4096 ≤ rd CLS.TBL_IDX_ENTRY k s) ∧ (on CLS.TBL_IDX_AUTO_INC k s = false)) :=
  ⟨⟨0, at_ [207] [], by decide +kernel⟩,
   ⟨0, { no := 3, port := 0, hdr := { dst := 1, src := 2, tagged := false, vid := 0, l3 := .ptp }, bytes := [], res := [] }, at_ [207] [] { merge := { frames := [{ no := 3, port := 0, hdr := { dst := 1, src := 2, tagged := false, vid := 0, l3 := .ptp }, bytes := [], res := [] }] } }, by decide +kernel⟩,
   ⟨0, { no := 3, port := 0, hdr := { dst := 1, src := 2, tagged := true, vid := 9, l3 := .other }, bytes := [], res := [] }, at_ [207] [] { merge := { frames := [{ no := 3, port := 0, hdr := { dst := 1, src := 2, tagged := true, vid := 9, l3 := .other }, bytes := [], res := [] }] } }, by decide +kernel⟩,
   ⟨0, frame_ .other [], 6, at_ [207] [(CVID.VALID, 0, 9, 1), (CVID.DOMAIN, 0, 9, 6)] { merge := { frames := [frame_ (.other) []] } }, by decide +kernel⟩,
   ⟨0, frame_ .other [], 6, slot_ 1 1688849860263937, at_ [207] [(CVID.VALID, 0, 9, 1), (CVID.DOMAIN, 0, 9, 6)] { merge := { frames := [frame_ (.other) []] }, cls := [(0, { em := [(slot_ 1 1688849860263937, { kind := 1, key := 1688849860263937, stamp := 9, result := 65540 })] })] }, by decide +kernel⟩,
   ⟨0, frame_ .other [], 6, slot_ 1 1688849860263937, at_ [207] [(CVID.VALID, 0, 9, 1), (CVID.DOMAIN, 0, 9, 6)] { merge := { frames := [frame_ (.other) []] }, cls := [(0, { em := [(slot_ 1 1688849860263937, { kind := 1, key := 1688849860263937, fixed := true, result := 8 })] })] }, by decide +kernel⟩,
   ⟨0, frame_ .other [], 6, at_ [207] [(CVID.VALID, 0, 9, 1), (CVID.DOMAIN, 0, 9, 6), (CDOMAIN.VALID, 0, 6, 1), (CDOMAIN.ROUTED, 0, 6, 1), (CDOMAIN.LPM_DEF, 0, 6, 8)] { merge := { frames := [frame_ (.other) []] } }, by decide +kernel⟩,
   ⟨0, frame_ (.roe 4 [] 0) [], 6, slot_ 2 1540, 4, [], 0, at_ [207] [(CVID.VALID, 0, 9, 1), (CVID.DOMAIN, 0, 9, 6)] { merge := { frames := [frame_ (.roe 4 [] 0) []] }, cls := [(0, { em := [(slot_ 2 1540, { kind := 2, key := 1540, result := 8 })] })] }, by decide +kernel⟩,
   ⟨0, frame_ (.roe 4 [] 0) [], 6, 4, [], 0, at_ [207] [(CVID.VALID, 0, 9, 1), (CVID.DOMAIN, 0, 9, 6)] { merge := { frames := [frame_ (.roe 4 [] 0) []] } }, by decide +kernel⟩,
   ⟨0, { tree := 3, port := 77, handle := 0, len := 100, ct := false }, at_ [207] [] { upSdus := [{ tree := 3, port := 77, handle := 0, len := 100, ct := false }] }, by decide +kernel⟩,
   ⟨0, [1, 2, 3, 4, 5, 6, 0, 0, 0, 0, 0, 9], { tree := 3, port := 77, handle := 0, len := 100, ct := false }, 12365, 9, at_ [207] [(CPORT.VALID, 0, 12365, 1), (CPORT.LEARN, 0, 12365, 1), (CLS.CTL_LEARN_EN, 0, 0, 1), (CLIMIT.MAX, 0, 3, 10)] { upSdus := [{ tree := 3, port := 77, handle := 0, len := 100, ct := false }] }, by decide +kernel⟩,
   ⟨0, { key := 5, action := {}, frame := .inl 3 }, [], 3, at_ [207] [] { cls := [(0, { seconds := [{ key := 5, action := {}, frame := .inl 3 }] })], merge := { frames := [frame_ .other []] } }, by decide +kernel⟩,
   ⟨0, { key := 5, action := {}, frame := .inl 3 }, [], 3, slot_ 3 5, at_ [207] [] { cls := [(0, { seconds := [{ key := 5, action := {}, frame := .inl 3 }], em := [(slot_ 3 5, { kind := 3, key := 5, result := 8 })] })], merge := { frames := [frame_ .other []] } }, by decide +kernel⟩,
   ⟨0, { key := 5, action := {}, frame := .inr { tree := 3, port := 77, handle := 0, len := 100, hdr := { dst := 1, src := 2, tagged := false, vid := 0, l3 := .other }, bytes := [] } }, [], { tree := 3, port := 77, handle := 0, len := 100, hdr := { dst := 1, src := 2, tagged := false, vid := 0, l3 := .other }, bytes := [] }, at_ [207] [] { cls := [(0, { seconds := [{ key := 5, action := {}, frame := .inr { tree := 3, port := 77, handle := 0, len := 100, hdr := { dst := 1, src := 2, tagged := false, vid := 0, l3 := .other }, bytes := [] } }] })] }, by decide +kernel⟩,
   ⟨at_ [213] [], by decide +kernel⟩,
   ⟨{ no := 3, port := 0, hdr := { dst := 1, src := 2, tagged := true, vid := 9, l3 := .other }, bytes := [], res := [(0, .trapped), (1, .trapped), (2, .trapped), (3, .trapped)] }, at_ [213, 207, 208, 209, 210] [] { merge := { frames := [{ no := 3, port := 0, hdr := { dst := 1, src := 2, tagged := true, vid := 9, l3 := .other }, bytes := [], res := [(0, .trapped), (1, .trapped), (2, .trapped), (3, .trapped)] }] } }, by decide +kernel⟩,
   ⟨frame_ .other [(0, .learned 5 100 2 77), (1, .learned 5 90 14 78), (2, .dropped), (3, .dropped)], 5, 100, 90, 2, 14, 77, 78, merge_ (frame_ .other [(0, .learned 5 100 2 77), (1, .learned 5 90 14 78), (2, .dropped), (3, .dropped)]), by decide +kernel⟩,
   ⟨frame_ .other [(0, .miss (some 4)), (1, .dropped), (2, .dropped), (3, .dropped)], 4, merge_ (frame_ .other [(0, .miss (some 4)), (1, .dropped), (2, .dropped), (3, .dropped)]), by decide +kernel⟩,
   ⟨frame_ .other [(0, .fixedHit {}), (1, .dropped), (2, .dropped), (3, .dropped)], {}, actDown 0 {} (frame_ .other [(0, .fixedHit {}), (1, .dropped), (2, .dropped), (3, .dropped)]) { merge_ (frame_ .other [(0, .fixedHit {}), (1, .dropped), (2, .dropped), (3, .dropped)]) with merge := { frames := [] } }, merge_ (frame_ .other [(0, .fixedHit {}), (1, .dropped), (2, .dropped), (3, .dropped)]), by decide +kernel, by decide +kernel, .inl rfl, rfl, rfl, rfl, rfl⟩,
   ⟨0, 5, 100, [], slot_ 1 5, at_ [207] [] { cls := [(0, { clears := [(5, 100)], em := [(slot_ 1 5, { kind := 1, key := 5, stamp := 100 })] })] }, by decide +kernel⟩,
   ⟨0, 5, 100, [], slot_ 1 5, at_ [207] [] { cls := [(0, { clears := [(5, 100)], em := [(slot_ 1 5, { kind := 1, key := 5, stamp := 101 })] })] }, by decide +kernel⟩,
   ⟨0, 0, 0, 0, at_ [207] [(CLS.CTL_AGE_EN, 0, 0, 1)] { cls := [(0, { em := [(0, { kind := 1, key := 5, hit := true })] })] }, by decide +kernel⟩,
   ⟨0, 0, 0, 0, at_ [207] [(CLS.CTL_AGE_EN, 0, 0, 1)] { cls := [(0, { em := [(0, { kind := 1, key := 5, hit := false })] })] }, by decide +kernel⟩,
   ⟨0, 9, at_ [207] [(CLS.TBL_IDX_TABLE, 0, 0, 2), (CLS.TBL_IDX_WORD, 0, 0, 0), (CLS.TBL_IDX_ENTRY, 0, 0, 9), (CLS.TBL_IDX_AUTO_INC, 0, 0, 0)], by decide +kernel⟩,
   ⟨0, 0, at_ [207] [(CLS.TBL_IDX_TABLE, 0, 0, 0), (CLS.TBL_IDX_WORD, 0, 0, 0), (CLS.TBL_IDX_ENTRY, 0, 0, 9), (CLS.TBL_IDX_AUTO_INC, 0, 0, 0)], by decide +kernel⟩,
   ⟨0, at_ [207] [(CLS.TBL_IDX_TABLE, 0, 0, 2), (CLS.TBL_IDX_WORD, 0, 0, 0), (CLS.TBL_IDX_ENTRY, 0, 0, 4096), (CLS.TBL_IDX_AUTO_INC, 0, 0, 0)], by decide +kernel⟩⟩

theorem witness_LookupTables :
    (∃ (k : Fin 4) (s : State), (s.up (pipeIsland k) = true) ∧ ((s.pipe k).emOp = none) ∧ (((s.pipe k).jobs.any fun j => j.command) = false) ∧ (entryOk (stagedEntry k s) = false)) ∧
    (∃ (k : Fin 4) (i : Nat) (s : State), (s.up (pipeIsland k) = true) ∧ ((s.pipe k).emOp = none) ∧ (((s.pipe k).jobs.any fun j => j.command) = false) ∧ (entryOk (stagedEntry k s) = true) ∧ (emFind k (stagedEntry k s).kind (stagedEntry k s).key s = none) ∧ ((keySlots k (stagedEntry k s).kind (stagedEntry k s).key s).find? (fun i => emptySlot k i s) = some i)) ∧
    (∃ (k : Fin 4) (i : Nat) (s : State), (s.up (pipeIsland k) = true) ∧ ((s.pipe k).emOp = none) ∧ (((s.pipe k).jobs.any fun j => j.command) = false) ∧ (entryOk (stagedEntry k s) = true) ∧ (emFind k (stagedEntry k s).kind (stagedEntry k s).key s = some i)) ∧
    (∃ (k : Fin 4) (s : State), (s.up (pipeIsland k) = true) ∧ ((s.pipe k).emOp ≠ none) ∧ ((s.pipe k).emHeld = none)) ∧
    (∃ (k : Fin 4) (s : State), (s.up (pipeIsland k) = true) ∧ ((s.pipe k).emOp ≠ none) ∧ ((s.pipe k).emHeld ≠ none)) ∧
    (∃ (k : Fin 4) (i : Nat) (s : State), (s.up (pipeIsland k) = true) ∧ ((s.pipe k).emOp = none) ∧ (((s.pipe k).jobs.any fun j => j.command) = false) ∧ (entryOk (stagedEntry k s) = true) ∧ (emFind k (stagedEntry k s).kind (stagedEntry k s).key s = some i)) ∧
    (∃ (k : Fin 4) (i : Nat) (s : State), (s.up (pipeIsland k) = true) ∧ ((s.pipe k).emOp = none) ∧ (((s.pipe k).jobs.any fun j => j.command) = false) ∧ (entryOk (stagedEntry k s) = true) ∧ (emFind k (stagedEntry k s).kind (stagedEntry k s).key s = some i)) ∧
    (∃ (k : Fin 4) (s : State), (s.up (pipeIsland k) = true) ∧ ((s.pipe k).emOp = none) ∧ (((s.pipe k).jobs.any fun j => j.command) = false) ∧ (entryOk (stagedEntry k s) = true) ∧ (emFind k (stagedEntry k s).kind (stagedEntry k s).key s = none)) ∧
    (∃ (k : Fin 4) (s : State), (s.up (pipeIsland k) = true) ∧ ((s.pipe k).emOp = none) ∧ (((s.pipe k).jobs.any fun j => j.command) = false)) ∧
    (∃ (k : Fin 4) (i : Nat) (e : EmEntry) (s : State), (s.up (pipeIsland k) = true) ∧ ((s.pipe k).emOp = none) ∧ (((s.pipe k).jobs.any fun j => j.command) = false) ∧ ((i, e) ∈ (s.pipe k).em) ∧ (e.isLearned = true)) ∧
    (∃ (k : Fin 4) (i : Nat) (s : State), (s.up (pipeIsland k) = true) ∧ ((s.pipe k).emOp = none) ∧ (((s.pipe k).jobs.any fun j => j.command) = false) ∧ ((emAt k i s).kind ≠ 1)) ∧
    (∃ (k : Fin 4) (x : BitVec 20) (s : State), (s.up (pipeIsland k) = true) ∧ ((s.pipe k).emOp = none) ∧ (((s.pipe k).jobs.any fun j => j.command) = false) ∧ (11 < x.toNat % 16)) ∧
    (∃ (k : Fin 4) (x : BitVec 20) (i : Nat) (e : EmEntry) (s : State), (s.up (pipeIsland k) = true) ∧ ((s.pipe k).emOp = none) ∧ (((s.pipe k).jobs.any fun j => j.command) = false) ∧ (x.toNat % 16 ≤ 11) ∧ ((i, e) ∈ (s.pipe k).em) ∧ (e.isLearned = true) ∧ (e.tree = x.toNat % 16)) ∧
    (∃ (k : Fin 4) (x : BitVec 20) (s : State), (s.up (pipeIsland k) = true) ∧ ((s.pipe k).emOp = none) ∧ (((s.pipe k).jobs.any fun j => j.command) = false) ∧ (x.toNat % 16 ≤ 11) ∧ (((s.pipe k).em.all fun e => !e.2.isLearned || e.2.tree != x.toNat % 16) = true)) ∧
    (∃ (k : Fin 4) (o : Nat × Nat) (r : Nat) (x : Option Nat) (s : State), (s.up (pipeIsland k) = true) ∧ ((s.pipe k).emOp = some o) ∧ ((s.pipe k).emOut = some (r, x)) ∧ ((s.pipe k).emHeld = none) ∧ (r < 8)) ∧
    (∃ (k : Fin 4) (r : LearnReq) (rest : List LearnReq) (i : Nat) (s : State), (s.up (pipeIsland k) = true) ∧ ((s.pipe k).learnq = r :: rest) ∧ (learnFree k s = true) ∧ (r.op ≠ .refresh) ∧ (r.entry.kind = 1) ∧ (emFind k 1 r.entry.key s = none) ∧ ((keySlots k 1 r.entry.key s).find? (fun i => emptySlot k i s) = some i)) ∧
    (∃ (k : Fin 4) (r : LearnReq) (rest : List LearnReq) (i : Nat) (s : State), (s.up (pipeIsland k) = true) ∧ ((s.pipe k).learnq = r :: rest) ∧ (learnFree k s = true) ∧ (emFind k 1 r.entry.key s = some i) ∧ ((emAt k i s).fixed = false) ∧ ((r.op = .refresh → (emAt k i s).result = r.entry.result))) ∧
    (∃ (k : Fin 4) (s : State), (s.up (pipeIsland k) = true) ∧ (learnFree k s = false)) ∧
    (∃ (k : Fin 4) (a c : Nat) (e : EmEntry) (others : List EmJob) (s : State), (s.up (pipeIsland k) = true) ∧ ((s.pipe k).jobs = { moves := [(a, c)], entry := e, slot := a, command := false } :: others) ∧ (a ≠ c) ∧ ((emAt k c s).kind ≠ 0) ∧ (e.kind ≠ 0) ∧ (emHolders k e.kind e.key s = [])) ∧
    (∃ (s : State), (s.up 223 = true) ∧ (s.lpm.running = none)) ∧
    (∃ (s : State), (s.up 223 = true) ∧ (s.lpm.running = none)) ∧
    (∃ (s : State), (s.up 223 = true) ∧ (s.lpm.running = none)) ∧
    (∃ (s : State), (s.up 223 = true) ∧ (s.lpm.running ≠ none) ∧ (s.lpm.held = none)) ∧
    (∃ (s : State), (s.up 223 = true) ∧ (s.lpm.running = none)) ∧
    (∃ (k : Fin 4) (o : LpmOp) (s : State), (s.up 223 = true) ∧ (s.up (pipeIsland k) = true) ∧ (s.lpm.running = some o) ∧ ((o.op = 2 ∨ o.op = 3)) ∧ (s.lpm.held = none)) ∧
    (∃ (o : LpmOp) (p : Pfx) (s : State), (s.up 223 = true) ∧ (s.lpm.running = some o) ∧ (o.op = 0) ∧ (s.lpm.held = none) ∧ (opPfx o = some p) ∧ (p.cont = none) ∧ (s.lpm.pfxs.find? (samePfx p) = none) ∧ (s.lpm.pfxs.countP (fun q => q.v6 == p.v6) < (if p.v6 then 262144 else 524288))) ∧
    (∃ (o : LpmOp) (p q : Pfx) (s : State), (s.up 223 = true) ∧ (s.lpm.running = some o) ∧ (o.op = 1) ∧ (s.lpm.held = none) ∧ (opPfx o = some p) ∧ (s.lpm.pfxs.find? (samePfx p) = some q)) :=
  ⟨⟨0, at_ [207] [], by decide +kernel⟩,
   ⟨0, slot_ 2 5, at_ [207] [(⟨.emD, 0, 31, 0⟩, 0, 0, 0x40000000), (⟨.emD, 3, 31, 0⟩, 0, 0, 5)], by decide +kernel⟩,
   ⟨0, slot_ 2 5, at_ [207] [(⟨.emD, 0, 31, 0⟩, 0, 0, 0x40000000), (⟨.emD, 3, 31, 0⟩, 0, 0, 5)] { cls := [(0, { em := [(slot_ 2 5, { kind := 2, key := 5, result := 8 })] })] }, by decide +kernel⟩,
   ⟨0, at_ [207] [] { cls := [(0, { emOp := some (3, 4), emOut := some (0, some 4) })] }, by decide +kernel⟩,
   ⟨0, at_ [207] [] { cls := [(0, { emOp := some (3, 4), emOut := some (0, some 4), emHeld := some (1, 2) })] }, by decide +kernel⟩,
   ⟨0, slot_ 2 5, at_ [207] [(⟨.emD, 0, 31, 0⟩, 0, 0, 0x40000000), (⟨.emD, 3, 31, 0⟩, 0, 0, 5)] { cls := [(0, { em := [(slot_ 2 5, { kind := 2, key := 5, result := 8 })] })] }, by decide +kernel⟩,
   ⟨0, slot_ 2 5, at_ [207] [(⟨.emD, 0, 31, 0⟩, 0, 0, 0x40000000), (⟨.emD, 3, 31, 0⟩, 0, 0, 5)] { cls := [(0, { em := [(slot_ 2 5, { kind := 2, key := 5, result := 8 })] })] }, by decide +kernel⟩,
   ⟨0, at_ [207] [(⟨.emD, 0, 31, 0⟩, 0, 0, 0x40000000), (⟨.emD, 3, 31, 0⟩, 0, 0, 5)], by decide +kernel⟩,
   ⟨0, at_ [207] [] { cls := [(0, { em := [(9, { kind := 2, key := 5, result := 8 })] })] }, by decide +kernel⟩,
   ⟨0, slot_ 1 5, { kind := 1, key := 5, result := 196685 }, at_ [207] [] { cls := [(0, { em := [(slot_ 1 5, { kind := 1, key := 5, result := 196685 })] })] }, by decide +kernel⟩,
   ⟨0, 12, at_ [207] [], by decide +kernel⟩,
   ⟨0, 12, at_ [207] [], by decide +kernel⟩,
   ⟨0, 3, slot_ 1 5, { kind := 1, key := 5, result := 196685 }, at_ [207] [] { cls := [(0, { em := [(slot_ 1 5, { kind := 1, key := 5, result := 196685 })] })] }, by decide +kernel⟩,
   ⟨0, 3, at_ [207] [], by decide +kernel⟩,
   ⟨0, (2, 0), 1, some 7, at_ [207] [] { cls := [(0, { emOp := some (2, 0), emOut := some (1, some 7) })] }, by decide +kernel⟩,
   ⟨0, { op := .insert, entry := { kind := 1, key := 5, result := 8 } }, [], slot_ 1 5, at_ [207] [] { cls := [(0, { learnq := [{ op := .insert, entry := { kind := 1, key := 5, result := 8 } }] })] }, by decide +kernel⟩,
   ⟨0, { op := .refresh, entry := { kind := 1, key := 5, result := 8, stamp := 9 } }, [], slot_ 1 5, at_ [207] [] { cls := [(0, { learnq := [{ op := .refresh, entry := { kind := 1, key := 5, result := 8, stamp := 9 } }], em := [(slot_ 1 5, { kind := 1, key := 5, result := 8 })] })] }, by decide +kernel⟩,
   ⟨0, at_ [207] [] { cls := [(0, { emOp := some (2, 0), learnq := [{ op := .insert, entry := { kind := 1, key := 5, result := 8 } }] })] }, by decide +kernel⟩,
   ⟨0, 3, 9, { kind := 2, key := 5, result := 8 }, [], at_ [207] [] { cls := [(0, { em := [(3, { kind := 2, key := 1, hit := true }), (9, { kind := 2, key := 1 })], jobs := [{ moves := [(3, 9)], entry := { kind := 2, key := 5, result := 8 }, slot := 3, command := false }] })] }, by decide +kernel⟩,
   ⟨at_ [223] [(⟨.lpmD, 0, 31, 0⟩, 0, 0, 9)], by decide +kernel⟩,
   ⟨at_ [223] [(⟨.lpmD, 0, 31, 0⟩, 0, 0, 9)], by decide +kernel⟩,
   ⟨at_ [223] [(⟨.lpmD, 0, 31, 0⟩, 0, 0, 9)], by decide +kernel⟩,
   ⟨at_ [223] [] { lpm := { running := some { op := 2, w0 := 0, w1 := 0, w2 := 0, w3 := 0 } } }, by decide +kernel⟩,
   ⟨at_ [223] [(⟨.lpmD, 0, 31, 0⟩, 0, 0, 9)], by decide +kernel⟩,
   ⟨0, { op := 2, w0 := 0, w1 := 0, w2 := 0, w3 := 0 }, at_ [223, 207] [] { lpm := { running := some { op := 2, w0 := 0, w1 := 0, w2 := 0, w3 := 0 }, pfxs := [{ v6 := false, len := 8, bits := 10, action := 3, cont := none }] }, cls := [(0, { trie := [{ v6 := false, len := 8, bits := 10, action := 3, cont := none }] })] }, by decide +kernel⟩,
   ⟨{ op := 0, w0 := 0x08000000, w1 := 7, w2 := 0x0A000000, w3 := 0 }, { v6 := false, len := 8, bits := 10, action := 7, cont := none }, at_ [223, 207] [] { lpm := { running := some { op := 0, w0 := 0x08000000, w1 := 7, w2 := 0x0A000000, w3 := 0 } } }, by decide +kernel⟩,
   ⟨{ op := 1, w0 := 0x08000000, w1 := 7, w2 := 0x0A000000, w3 := 0 }, { v6 := false, len := 8, bits := 10, action := 7, cont := none }, { v6 := false, len := 8, bits := 10, action := 3, cont := none }, at_ [223, 207] [] { lpm := { running := some { op := 1, w0 := 0x08000000, w1 := 7, w2 := 0x0A000000, w3 := 0 }, pfxs := [{ v6 := false, len := 8, bits := 10, action := 3, cont := none }] } }, by decide +kernel⟩⟩

theorem witness_HashSeedWrites :
    (∃ (k : Fin 4) (s : State), (s.up (pipeIsland k) = true) ∧ (rd CLS.STS_EM_USED k s = 0)) ∧
    (∃ (k : Fin 4) (s : State), (s.up (pipeIsland k) = true) ∧ (rd CLS.STS_EM_USED k s ≠ 0)) :=
  ⟨⟨0, at_ [207] [], by decide +kernel⟩,
   ⟨0, at_ [207] [(CLS.STS_EM_USED, 0, 0, 1)], by decide +kernel⟩⟩

theorem witness_BufferOperations :
    (∃ (r : Fin 32) (ctl : Bool) (len : BitVec 15) (n : BitVec 8) (m : Word) (s : State), (s.up 213 = true) ∧ (len.toNat ≠ 0) ∧ (len.toNat ≤ 20480) ∧ (n.toNat ≠ 0) ∧ (m.toNat ≠ 0) ∧ ((bufQueue (poolOf ctl len.toNat).1 s).countP (·.req == r.val) < 8)) ∧
    (∃ (r : Fin 32) (ctl : Bool) (len : BitVec 15) (n : BitVec 8) (m : Word) (s : State), (s.up 213 = true) ∧ (len.toNat ≠ 0) ∧ (len.toNat ≤ 20480) ∧ (n.toNat ≠ 0) ∧ (m.toNat ≠ 0) ∧ (8 ≤ (bufQueue (poolOf ctl len.toNat).1 s).countP (·.req == r.val))) ∧
    (∃ (len : BitVec 15) (s : State), (s.up 213 = true) ∧ ((len.toNat = 0 ∨ 20480 < len.toNat))) ∧
    (∃ (len : BitVec 15) (n : BitVec 8) (m : Word) (s : State), (s.up 213 = true) ∧ (len.toNat ≠ 0) ∧ (len.toNat ≤ 20480) ∧ ((n.toNat = 0 ∨ m.toNat = 0))) ∧
    (∃ (r : Fin 32) (h : Word) (n : BitVec 8) (s : State), (s.up 213 = true) ∧ (handleCheck r h.toNat s = none) ∧ ((descAt (handlePool h.toNat) (handleIndex h.toNat) s).count + n.toNat ≤ 255)) ∧
    (∃ (r : Fin 32) (h : Word) (n : BitVec 8) (s : State), (s.up 213 = true) ∧ (handleCheck r h.toNat s = none) ∧ (255 < (descAt (handlePool h.toNat) (handleIndex h.toNat) s).count + n.toNat)) ∧
    (∃ (r : Fin 32) (h : Word) (p i : Nat) (s : State), (s.up 213 = true) ∧ (handleCheck r h.toNat s = none) ∧ (handlePool h.toNat = p) ∧ (handleIndex h.toNat = i) ∧ ((descAt p i s).count = 1) ∧ ((descAt p i s).pair = false)) ∧
    (∃ (r : Fin 32) (h : Word) (p i : Nat) (s : State), (s.up 213 = true) ∧ (handleCheck r h.toNat s = none) ∧ (handlePool h.toNat = p) ∧ (handleIndex h.toNat = i) ∧ ((descAt p i s).count ≠ 1)) ∧
    (∃ (r : Fin 32) (h : Word) (s : State), (s.up 213 = true) ∧ (handleCheck r h.toNat s = some .notHolder)) ∧
    (∃ (r : Fin 32) (h : Word) (p i : Nat) (s : State), (s.up 213 = true) ∧ (handleCheck r h.toNat s = none) ∧ (handlePool h.toNat = p) ∧ (handleIndex h.toNat = i)) ∧
    (∃ (s : State), (s.up 213 = true) ∧ (s.ev.asks = []) ∧ ((∀ p, p < 4 → bufQueue p s = [] ∧ bufWaiting p s = []))) ∧
    (∃ (p : Fin 4) (r : Fin 32) (q : AllocReq) (s : State), (s.up 213 = true) ∧ (s.ev.asks = []) ∧ (bufQueue p s = [q]) ∧ (q.req = r) ∧ ((∀ j, j < 4 → (j ≠ p → bufQueue j s = []) ∧ bufWaiting j s = [])) ∧ (s.bpm.reclaim = []) ∧ (eligible r p q.need s = true) ∧ (usedBy r p s + q.need < 2 ^ 27)) ∧
    (∃ (p : Fin 4) (r : Fin 32) (q : AllocReq) (s : State), (s.up 213 = true) ∧ (s.ev.asks = []) ∧ (bufQueue p s = [q]) ∧ (q.req = r) ∧ ((∀ j, j < 4 → (j ≠ p → bufQueue j s = []) ∧ bufWaiting j s = [])) ∧ (s.bpm.reclaim = []) ∧ (eligible r p q.need s = false)) :=
  ⟨⟨3, false, 1500, 1, 8, at_ [213] [], by decide +kernel⟩,
   ⟨3, false, 100, 1, 8, at_ [213] [] { bpm := { queue := [(0, List.replicate 8 { req := 3, need := 1, len := 100, count := 1, holders := 8 })] } }, by decide +kernel⟩,
   ⟨0, at_ [213] [], by decide +kernel⟩,
   ⟨1500, 0, 8, at_ [213] [], by decide +kernel⟩,
   ⟨3, 0x10, 2, at_ [213] [(BPM.POOL_S_CNT, 0, 0, 1), (BPM.CTL_LOCK, 0, 0, 1)] { bpm := { listed := true, descs := [(1, { alloc := true, count := 1, holders := 8, owner := 3, len := 100 })] } }, by decide +kernel⟩,
   ⟨3, 0x10, 2, at_ [213] [(BPM.POOL_S_CNT, 0, 0, 1), (BPM.CTL_LOCK, 0, 0, 1)] { bpm := { listed := true, descs := [(1, { alloc := true, count := 254, holders := 8, owner := 3, len := 100 })] } }, by decide +kernel⟩,
   ⟨3, 0x10, 0, 1, at_ [213] [(BPM.POOL_S_CNT, 0, 0, 1), (BPM.CTL_LOCK, 0, 0, 1)] { bpm := { listed := true, descs := [(1, { alloc := true, count := 1, holders := 8, owner := 3, len := 100 })] } }, by decide +kernel⟩,
   ⟨3, 0x10, 0, 1, at_ [213] [(BPM.POOL_S_CNT, 0, 0, 1), (BPM.CTL_LOCK, 0, 0, 1)] { bpm := { listed := true, descs := [(1, { alloc := true, count := 2, holders := 8, owner := 3, len := 100 })] } }, by decide +kernel⟩,
   ⟨4, 0x10, at_ [213] [(BPM.POOL_S_CNT, 0, 0, 1), (BPM.CTL_LOCK, 0, 0, 1)] { bpm := { listed := true, descs := [(1, { alloc := true, count := 2, holders := 8, owner := 3, len := 100 })] } }, by decide +kernel⟩,
   ⟨3, 0x10, 0, 1, at_ [213] [(BPM.POOL_S_CNT, 0, 0, 1), (BPM.CTL_LOCK, 0, 0, 1)] { bpm := { listed := true, descs := [(1, { alloc := true, count := 2, holders := 8, owner := 3, len := 100 })] } }, by decide +kernel⟩,
   ⟨at_ [213] [], by decide +kernel⟩,
   ⟨0, 3, { req := 3, need := 1, len := 100, count := 1, holders := 8 }, at_ [213] [(BPM.POOL_S_CNT, 0, 0, 1), (BPM.CTL_LOCK, 0, 0, 1), (QUOTA.MAX, 3, 0, 9)] { bpm := { listed := true, queue := [(0, [{ req := 3, need := 1, len := 100, count := 1, holders := 8 }])] } }, by decide +kernel⟩,
   ⟨0, 3, { req := 3, need := 1, len := 100, count := 1, holders := 8 }, at_ [213] [(BPM.POOL_S_CNT, 0, 0, 1), (BPM.CTL_LOCK, 0, 0, 1)] { bpm := { listed := true, queue := [(0, [{ req := 3, need := 1, len := 100, count := 1, holders := 8 }])] } }, by decide +kernel⟩⟩

theorem witness_BufferPools :
    (∃ (s : State), (s.up 213 = true) ∧ (on BPM.CTL_LOCK 0 s = false) ∧ (lockRefused s = false)) ∧
    (∃ (s : State), (s.up 213 = true) ∧ (on BPM.CTL_LOCK 0 s = true)) ∧
    (∃ (s : State), (s.up 213 = true) ∧ (on BPM.STS_INIT_BUSY 0 s = true)) ∧
    (∃ (w : Word) (s : State), (s.up 213 = true) ∧ (rd BPM.QUOTA_IDX_WORD 0 s = 1) ∧ (s.bpm.minStage ≤ w.toNat) ∧ (w.toNat < 2 ^ 27) ∧ (s.bpm.minStage ≤ rdx QUOTA.MIN (rd BPM.QUOTA_IDX_REQ 0 s) (rd BPM.QUOTA_IDX_POOL 0 s) s + (poolCount (rd BPM.QUOTA_IDX_POOL 0 s) s - minSum (rd BPM.QUOTA_IDX_POOL 0 s) s)) ∧ (minSum (rd BPM.QUOTA_IDX_POOL 0 s) s ≤ poolCount (rd BPM.QUOTA_IDX_POOL 0 s) s)) ∧
    (∃ (r : Fin 32) (h : Word) (ofs len : BitVec 15) (p i : Nat) (d : Desc) (s : State), (s.up 213 = true) ∧ (s.bpm.retraining = []) ∧ (s.up 214 = true) ∧ (s.up 215 = true) ∧ (s.up 216 = true) ∧ (s.up 217 = true) ∧ (handlePool h.toNat = p) ∧ (handleIndex h.toNat = i) ∧ (descAt p i s = d) ∧ (i < poolCount p s) ∧ (d.alloc = true) ∧ (d.pair = false) ∧ (d.gen = handleGen h.toNat) ∧ (maskHas d.holders r = true) ∧ (ofs.toNat + len.toNat ≤ bufSize p)) ∧
    (∃ (r : Fin 32) (h : Word) (ofs : BitVec 15) (b : List Byte) (p i : Nat) (d : Desc) (s : State), (s.up 213 = true) ∧ (s.bpm.retraining = []) ∧ (s.up 214 = true) ∧ (s.up 215 = true) ∧ (s.up 216 = true) ∧ (s.up 217 = true) ∧ (handlePool h.toNat = p) ∧ (handleIndex h.toNat = i) ∧ (descAt p i s = d) ∧ (i < poolCount p s) ∧ (d.alloc = true) ∧ (d.pair = false) ∧ (d.gen = handleGen h.toNat) ∧ (maskHas d.holders r = true) ∧ (ofs.toNat + b.length ≤ bufSize p)) ∧
    (∃ (h : Word) (s : State), (s.up 213 = true) ∧ (s.bpm.retraining = []) ∧ ((descAt (handlePool h.toNat) (handleIndex h.toNat) s).gen ≠ handleGen h.toNat)) ∧
    (∃ (rs : List Nat) (rest : List (List Nat)) (s : State), (s.up 213 = true) ∧ (s.bpm.reclaim = rs :: rest)) ∧
    (∃ (h : Word) (d : Desc) (s : State), (s.up 213 = true) ∧ (handleIndex h.toNat < poolCount (handlePool h.toNat) s) ∧ (descAt (handlePool h.toNat) (handleIndex h.toNat) s = d)) ∧
    (∃ (k : Fin 2) (c : BitVec 8) (s : State), (s.up (214 + k) = true) ∧ (c.toNat < rd (BPM.HBM_CFG0_TEMP_WARN.at k) 0 s)) ∧
    (∃ (k : Fin 2) (c : BitVec 8) (s : State), (s.up (214 + k) = true) ∧ (rd (BPM.HBM_CFG0_TEMP_WARN.at k) 0 s ≤ c.toNat)) ∧
    (∃ (k : Fin 2) (s : State), (s.up (214 + k) = true)) ∧
    (∃ (r : Fin 32) (h : Word) (ofs len : BitVec 15) (g : Option (Nat × Bool)) (a : HeldAccess) (s : State), (s.up 213 = true) ∧ (a = { req := r, handle := h.toNat, ofs := ofs.toNat, len := len.toNat, data := none, ecc := g, since := s.clk }) ∧ (mustWait a s = true)) ∧
    (∃ (k : Fin 2) (s : State), (s.up (214 + k) = true) ∧ (k.val ∈ s.bpm.retraining) ∧ (s.bpm.held = [])) ∧
    (∃ (k : Fin 2) (ok : Bool) (s : State), (s.up (214 + k) = true) ∧ (ok = true)) ∧
    (∃ (k : Fin 2) (s : State), (s.up (214 + k) = true)) :=
  ⟨⟨at_ [213] [(BPM.POOL_S_CNT, 0, 0, 1), (BPM.POOL_M_CNT, 0, 0, 1), (BPM.POOL_J_CNT, 0, 0, 1), (BPM.POOL_C_CNT, 0, 0, 1), (BPM.CTL_LOCK, 0, 0, 0)], by decide +kernel⟩,
   ⟨at_ [213] [(BPM.CTL_LOCK, 0, 0, 1)], by decide +kernel⟩,
   ⟨at_ [213] [(BPM.STS_INIT_BUSY, 0, 0, 1)], by decide +kernel⟩,
   ⟨50, at_ [213] [(BPM.QUOTA_IDX_WORD, 0, 0, 1), (BPM.POOL_S_CNT, 0, 0, 1)] { bpm := { minStage := 10 } }, by decide +kernel⟩,
   ⟨3, 0x10, 4, 2, 0, 1, { alloc := true, count := 1, holders := 8, owner := 3, len := 100 }, at_ [213, 214, 215, 216, 217] [(BPM.POOL_S_CNT, 0, 0, 1), (BPM.CTL_LOCK, 0, 0, 1)] { bpm := { listed := true, descs := [(1, { alloc := true, count := 1, holders := 8, owner := 3, len := 100 })] } }, by decide +kernel⟩,
   ⟨3, 0x10, 4, [7, 8], 0, 1, { alloc := true, count := 1, holders := 8, owner := 3, len := 100 }, at_ [213, 214, 215, 216, 217] [(BPM.POOL_S_CNT, 0, 0, 1), (BPM.CTL_LOCK, 0, 0, 1)] { bpm := { listed := true, descs := [(1, { alloc := true, count := 1, holders := 8, owner := 3, len := 100 })] } }, by decide +kernel⟩,
   ⟨0x11, at_ [213] [(BPM.POOL_S_CNT, 0, 0, 1)] { bpm := { listed := true, descs := [(1, { alloc := true, count := 1, holders := 8, owner := 3 })] } }, by decide +kernel⟩,
   ⟨[3], [], at_ [213] [] { bpm := { reclaim := [[3]], descs := [(1, { alloc := true, count := 1, holders := 8, owner := 3 })] } }, by decide +kernel⟩,
   ⟨0x10, { alloc := true, count := 7, holders := 8, owner := 3 }, at_ [213] [(BPM.POOL_S_CNT, 0, 0, 1)] { bpm := { listed := true, descs := [(1, { alloc := true, count := 7, holders := 8, owner := 3 })] } }, by decide +kernel⟩,
   ⟨1, 20, at_ [215] [(BPM.HBM_CFG0_TEMP_WARN.at 1, 0, 0, 85)], by decide +kernel⟩,
   ⟨1, 90, at_ [215] [(BPM.HBM_CFG0_TEMP_WARN.at 1, 0, 0, 85)], by decide +kernel⟩,
   ⟨0, at_ [214] [], by decide +kernel⟩,
   ⟨3, 0x10, 4, 2, none, { req := 3, handle := 16, ofs := 4, len := 2, data := none, ecc := none, since := 0 }, at_ [213] [] { bpm := { retraining := [1] } }, by decide +kernel⟩,
   ⟨0, at_ [214] [] { bpm := { retraining := [0] } }, by decide +kernel⟩,
   ⟨1, true, at_ [215] [], by decide +kernel⟩,
   ⟨0, at_ [214] [], by decide +kernel⟩⟩

theorem witness_TreeManager :
    (∃ (n : Fin 48) (port : BitVec 16) (len : BitVec 14) (d : Node) (c : Nat) (s : State), (s.up 211 = true) ∧ (len ≠ 0) ∧ (treeDead n s = false) ∧ (queueFor n port.toNat s = some (d, c)) ∧ (nrd NODE.DEPTH d s + xgemBytes len.toNat ≤ nrd NODE.QLIM d s)) ∧
    (∃ (n : Fin 48) (port : BitVec 16) (len : BitVec 14) (d : Node) (c : Nat) (s : State), (s.up 211 = true) ∧ (len ≠ 0) ∧ (treeDead n s = false) ∧ (queueFor n port.toNat s = some (d, c)) ∧ (nrd NODE.QLIM d s < nrd NODE.DEPTH d s + xgemBytes len.toNat)) ∧
    (∃ (n : Fin 48) (port : BitVec 16) (len : BitVec 14) (s : State), (s.up 211 = true) ∧ (len ≠ 0) ∧ (treeDead n s = false) ∧ (queueFor n port.toNat s = none)) ∧
    (∃ (n : Fin 48) (len : BitVec 14) (s : State), (s.up 211 = true) ∧ (len ≠ 0) ∧ (treeDead n s = true)) ∧
    (∃ (n : Fin 48) (b : Built) (s : State), (s.up 211 = true) ∧ (s.up (framingIsland n) = true) ∧ (treeDead n s = true) ∧ (filling n s = some b) ∧ (rd TLN.CTL_TX_MODE n s = 1)) ∧
    (∃ (n : Fin 48) (b : Built) (d : Node) (f : QFrame) (rest : List QFrame) (m : Treat) (l : Nat) (s : State), (s.up 211 = true) ∧ (s.up (framingIsland n) = true) ∧ (s.up 218 = true) ∧ (treeDead n s = false) ∧ (filling n s = some b) ∧ (rd TLN.CTL_TX_MODE n s = 1) ∧ ((s.fram n).carried = none) ∧ ((s.tmdTree n).offered = none) ∧ ((tmdSelect n (s.setTmdTree n { s.tmdTree n with lastOffer := s.clk })).1 = some d) ∧ ((s.node d).frames = f :: rest) ∧ (dsTreat (portTreat 0 n f.port s) s = m) ∧ (xgemBytes (sealedLen m.mode f.len) = l) ∧ (l ≤ (s.fram n).space)) ∧
    (∃ (n : Fin 48) (b : Built) (d : Node) (f : QFrame) (rest : List QFrame) (p : Nat) (s : State), (s.up 211 = true) ∧ (s.up (framingIsland n) = true) ∧ (s.up 218 = true) ∧ (treeDead n s = false) ∧ (filling n s = some b) ∧ (rd TLN.CTL_TX_MODE n s = 1) ∧ ((s.fram n).carried = none) ∧ ((s.tmdTree n).offered = none) ∧ ((tmdSelect n (s.setTmdTree n { s.tmdTree n with lastOffer := s.clk })).1 = some d) ∧ ((s.node d).frames = f :: rest) ∧ (sealedLen (dsTreat (portTreat 0 n f.port s) s).mode f.len = p) ∧ ((s.fram n).space < xgemBytes p) ∧ (72 ≤ (s.fram n).space) ∧ (noFragment n f.port s = false)) ∧
    (∃ (n : Fin 48) (b : Built) (d : Node) (f : QFrame) (rest : List QFrame) (s : State), (s.up 211 = true) ∧ (s.up (framingIsland n) = true) ∧ (treeDead n s = false) ∧ (filling n s = some b) ∧ (rd TLN.CTL_TX_MODE n s = 1) ∧ ((s.fram n).carried = none) ∧ ((s.tmdTree n).offered = none) ∧ ((tmdSelect n (s.setTmdTree n { s.tmdTree n with lastOffer := s.clk })).1 = some d) ∧ ((s.node d).frames = f :: rest) ∧ ((s.fram n).space < xgemBytes (sealedLen (dsTreat (portTreat 0 n f.port s) s).mode f.len)) ∧ (noFragment n f.port s = true)) ∧
    (∃ (n : Fin 48) (k h no : Nat) (rest : List (Nat × Option Nat × Nat × Nat)) (d : Desc) (s : State), (s.up 211 = true) ∧ ((s.tmdTree n).leaving = (k, some h, 0, no) :: rest) ∧ (descAt (handlePool h) (handleIndex h) s = d) ∧ (accessOk 13 h 0 d.len s = true) ∧ (stackDown h 0 d.len s = none) ∧ (s.bpm.retraining = [])) ∧
    (∃ (n : Fin 48) (k held no : Nat) (h : Option Nat) (rest : List (Nat × Option Nat × Nat × Nat)) (s : State), (s.up 211 = true) ∧ ((s.tmdTree n).leaving = (k, h, held, no) :: rest) ∧ (held ≠ 0) ∧ ((s.fram n).carried.any (fun c => c.no == no) = false) ∧ (s.bpm.retraining = [])) ∧
    (∃ (n : Fin 48) (k h g no : Nat) (rest : List (Nat × Option Nat × Nat × Nat)) (s : State), (s.up 211 = true) ∧ ((s.tmdTree n).leaving = (k, some h, 0, no) :: rest) ∧ (g ∈ granulesOf (handlePool h) (handleIndex h) 0 (descAt (handlePool h) (handleIndex h) s).len s) ∧ (s.bpm.retraining = [])) ∧
    (∃ (n : Fin 48) (h k no : Nat) (rest : List (Nat × Option Nat × Nat × Nat)) (d : Desc) (s : State), (s.up 211 = true) ∧ ((s.tmdTree n).leaving = (k, some h, 0, no) :: rest) ∧ (descAt (handlePool h) (handleIndex h) s = d) ∧ (d.gen ≠ handleGen h) ∧ (s.bpm.retraining = [])) ∧
    (∃ (n : Fin 48) (k : Nat) (s : State), (s.up 211 = true) ∧ ((s.tmdTree n).offered = some k)) ∧
    (∃ (n : Fin 48) (s : State), (s.up 211 = true) ∧ (treeDead n s = false)) ∧
    (∃ (n : Fin 48) (k held no : Nat) (h : Option Nat) (rest : List (Nat × Option Nat × Nat × Nat)) (s : State), (s.up 211 = true) ∧ ((s.tmdTree n).leaving = (k, h, held, no) :: rest) ∧ (held ≠ 0) ∧ ((s.fram n).carried.any (fun c => c.no == no) = true)) ∧
    (∃ (n : Fin 48) (k h no : Nat) (rest : List (Nat × Option Nat × Nat × Nat)) (s : State), (s.up 211 = true) ∧ ((s.tmdTree n).leaving = (k, some h, 0, no) :: rest) ∧ (holdRead 13 h s ≠ none)) ∧
    (∃ (s : State), (s.up 211 = true)) :=
  ⟨⟨0, 5, 100, ⟨0, 5⟩, 16, at_ [211, 213] [(NODE.VALID, 0, 5, 1), (NODE.TERM, 0, 5, 2), (NODE.QLIM, 0, 5, 5000)], by decide +kernel⟩,
   ⟨0, 5, 100, ⟨0, 5⟩, 16, at_ [211, 213] [(NODE.VALID, 0, 5, 1), (NODE.TERM, 0, 5, 2), (NODE.QLIM, 0, 5, 50)], by decide +kernel⟩,
   ⟨0, 5, 100, at_ [211, 213] [], by decide +kernel⟩,
   ⟨0, 100, at_ [211, 213] [(TMD.DEAD0, 0, 0, 1)], by decide +kernel⟩,
   ⟨0, { frame := 1, smoker := [], map := none, emptyHeader := false, void := false, ploams := [] }, at_ [211, 167] [(TMD.DEAD0, 0, 0, 1), (TLN.CTL_TX_MODE, 0, 0, 1)] { framing := [(0, { built := some { frame := 1, smoker := [], map := none, emptyHeader := false, void := false, ploams := [] }, space := 500 })] }, by decide +kernel⟩,
   ⟨0, { frame := 1, smoker := [], map := none, emptyHeader := false, void := false, ploams := [] }, ⟨0, 5⟩, { handle := some 16, len := 100, parent := 16, port := 5 }, [], {}, 108, at_ [211, 167, 218] [(TLN.CTL_TX_MODE, 0, 0, 1), (NODE.VALID, 0, 5, 1), (NODE.WEIGHT, 0, 5, 1), (NODE.WEIGHT, 128, 16, 1), (NODE.WEIGHT, 192, 2, 1), (NODE.DEPTH, 0, 5, 108)] { framing := [(0, { built := some { frame := 1, smoker := [], map := none, emptyHeader := false, void := false, ploams := [] }, space := 500 })], queues := { nodes := [(5, { frames := [{ handle := some 16, len := 100, parent := 16, port := 5 }] })] } }, by decide +kernel⟩,
   ⟨0, { frame := 1, smoker := [], map := none, emptyHeader := false, void := false, ploams := [] }, ⟨0, 5⟩, { handle := some 16, len := 100, parent := 16, port := 5 }, [], 100, at_ [211, 167, 218] [(TLN.CTL_TX_MODE, 0, 0, 1), (NODE.VALID, 0, 5, 1), (NODE.WEIGHT, 0, 5, 1), (NODE.WEIGHT, 128, 16, 1), (NODE.WEIGHT, 192, 2, 1), (NODE.DEPTH, 0, 5, 108)] { framing := [(0, { built := some { frame := 1, smoker := [], map := none, emptyHeader := false, void := false, ploams := [] }, space := 80 })], queues := { nodes := [(5, { frames := [{ handle := some 16, len := 100, parent := 16, port := 5 }] })] } }, by decide +kernel⟩,
   ⟨0, { frame := 1, smoker := [], map := none, emptyHeader := false, void := false, ploams := [] }, ⟨0, 5⟩, { handle := some 16, len := 100, parent := 16, port := 5 }, [], at_ [211, 167, 218] [(TLN.CTL_TX_MODE, 0, 0, 1), (NODE.VALID, 0, 5, 1), (NODE.WEIGHT, 0, 5, 1), (NODE.WEIGHT, 128, 16, 1), (NODE.WEIGHT, 192, 2, 1), (NODE.DEPTH, 0, 5, 108), (NODE.NOFRAG, 0, 5, 1)] { framing := [(0, { built := some { frame := 1, smoker := [], map := none, emptyHeader := false, void := false, ploams := [] }, space := 80 })], queues := { nodes := [(5, { frames := [{ handle := some 16, len := 100, parent := 16, port := 5 }] })] } }, by decide +kernel⟩,
   ⟨0, 5, 16, 0, [], { alloc := true, count := 1, holders := 2 ^ 13, owner := 13, len := 100 }, at_ [211, 213, 214, 215, 216, 217] [(BPM.POOL_S_CNT, 0, 0, 1), (BPM.CTL_LOCK, 0, 0, 1)] { bpm := { listed := true, descs := [(1, { alloc := true, count := 1, holders := 2 ^ 13, owner := 13, len := 100 })] }, queues := { trees := [(0, { leaving := [(5, some 16, 0, 0)] })] } }, by decide +kernel⟩,
   ⟨0, 5, 108, 0, some 16, [], at_ [211, 213] [] { queues := { nodes := [(5, { cut := true, frames := [{ handle := some 16, len := 100, parent := 16, port := 5 }] })], trees := [(0, { leaving := [(5, some 16, 108, 0)] })] } }, by decide +kernel⟩,
   ⟨0, 5, 16, 1, 0, [], at_ [211, 213, 214, 215, 216, 217] [(BPM.POOL_S_CNT, 0, 0, 1), (BPM.CTL_LOCK, 0, 0, 1)] { bpm := { listed := true, descs := [(1, { alloc := true, count := 1, holders := 2 ^ 13, owner := 13, len := 100 })] }, queues := { trees := [(0, { leaving := [(5, some 16, 0, 0)] })] } }, by decide +kernel⟩,
   ⟨0, 17, 5, 0, [], {}, at_ [211, 213] [] { queues := { trees := [(0, { leaving := [(5, some 17, 0, 0)] })] } }, by decide +kernel⟩,
   ⟨0, 5, at_ [211] [] { queues := { trees := [(0, { offered := some 5 })] } }, by decide +kernel⟩,
   ⟨0, at_ [211, 213] [(TMD.CTL_FLUSH_TO, 0, 0, 2), (NODE.DEPTH, 0, 5, 108)] { queues := { nodes := [(5, { frames := [{ handle := some 16, len := 100, parent := 16 }] })] } }, by decide +kernel⟩,
   ⟨0, 5, 108, 2, some 16, [], at_ [211, 213] [] { framing := [(0, { carried := some { bytes := 20, remainder := true, no := 2 } })], queues := { nodes := [(5, { cut := true, frames := [{ handle := some 16, len := 100, parent := 16, port := 5 }] })], trees := [(0, { leaving := [(5, some 16, 108, 2)] })] } }, by decide +kernel⟩,
   ⟨0, 5, 16, 0, [], at_ [211, 213] [] { bpm := { retraining := [0, 1], descs := [(1, { alloc := true, count := 1, holders := 2 ^ 13, owner := 13, len := 100 })] }, queues := { trees := [(0, { leaving := [(5, some 16, 0, 0)] })] } }, by decide +kernel⟩,
   ⟨at_ [211] [], by decide +kernel⟩⟩

theorem witness_PortManager :
    (∃ (p : Fin 32) (s : State), (s.up 212 = true) ∧ (isPort p s = false)) ∧
    (∃ (p : Fin 32) (s : State), (s.up 212 = true) ∧ (isPort p s = true) ∧ (role s ≠ 1) ∧ (on NET.STS_LINK p s = false)) ∧
    (∃ (p : Fin 32) (c : Fin 8) (len : BitVec 14) (s : State), (s.up 212 = true) ∧ (isPort p s = true) ∧ (role s ≠ 1) ∧ (on NET.STS_LINK p s = true) ∧ (classMaxlen p c s < len.toNat)) ∧
    (∃ (p : Fin 32) (g c : Fin 8) (d : Node) (len : BitVec 14) (s : State), (s.up 212 = true) ∧ (isPort p s = true) ∧ (role s ≠ 1) ∧ (on NET.STS_LINK p s = true) ∧ (len.toNat ≤ classMaxlen p c s) ∧ (d = tmuQueue p (c * 9 + g)) ∧ (nrd NODE.VALID d s = 1) ∧ (nrd NODE.DEPTH d s + len.toNat + 20 ≤ nrd NODE.QLIM d s)) ∧
    (∃ (p : Fin 32) (g c : Fin 8) (d : Node) (len : BitVec 14) (s : State), (s.up 212 = true) ∧ (isPort p s = true) ∧ (role s ≠ 1) ∧ (on NET.STS_LINK p s = true) ∧ (len.toNat ≤ classMaxlen p c s) ∧ (d = tmuQueue p (c * 9 + g)) ∧ (nrd NODE.VALID d s = 1) ∧ (nrd NODE.QLIM d s < nrd NODE.DEPTH d s + len.toNat + 20)) ∧
    (∃ (p : Fin 32) (x : TxNow) (h : Nat) (s : State), (s.up 212 = true) ∧ (isPort p s = false) ∧ ((s.tmuPort p).cur = some x) ∧ (x.after = 0) ∧ (x.handle = some h) ∧ (x.ct = false)) ∧
    (∃ (p : Fin 32) (c d : Node) (f : QFrame) (rest : List QFrame) (e : TxRead) (s : State), (s.up 212 = true) ∧ (isPort p s = true) ∧ (on NET.STS_LINK p s = true) ∧ (on TMUPORT.GATE_CTL_EN p s = false) ∧ ((s.tmuPort p).cur = none) ∧ ((∀ x, x < 8 → restOf p x s = none)) ∧ ((readyClasses p s).1 = [(c, d)]) ∧ ((s.node d).frames = f :: rest) ∧ ((readHeld 14 f.handle e.next s).1.isSome = true) ∧ (holdHeld 14 f.handle s = none)) ∧
    (∃ (p : Fin 32) (c d : Node) (f : QFrame) (rest : List QFrame) (e : TxRead) (s : State), (s.up 212 = true) ∧ (isPort p s = true) ∧ (on NET.STS_LINK p s = true) ∧ ((s.tmuPort p).cur = none) ∧ ((∀ x, x < 8 → restOf p x s = none)) ∧ ((readyClasses p s).1 = [(c, d)]) ∧ ((s.node d).frames = f :: rest) ∧ ((readHeld 14 f.handle e.next s).1 = none) ∧ (holdHeld 14 f.handle s = none)) ∧
    (∃ (p : Fin 32) (s : State), (s.up 212 = true) ∧ ((s.tmuPort p).cur = none)) ∧
    (∃ (p : Fin 32) (x : TxNow) (cut : Nat) (s : State), (s.up 212 = true) ∧ ((s.tmuPort p).cur = some x) ∧ (x.pre = true) ∧ ((readyClasses p s).1.any (fun r => !preemptable p r.1.idx (readyClasses p s).2) = true) ∧ (cut = max 1 (((s.clk - x.start) * portRate p s / 8 - 8 + 63) / 64) * 64) ∧ (cut + 64 ≤ x.len + x.after) ∧ (cut < x.len)) ∧
    (∃ (p : Fin 32) (g c : Fin 8) (len : BitVec 14) (d : Node) (s : State), (s.up 212 = true) ∧ (isPort p s = true) ∧ (on TMUPORT.PORT_CFG_CT_EN p s = false) ∧ (role s ≠ 1) ∧ (on NET.STS_LINK p s = true) ∧ (len.toNat ≤ classMaxlen p c s) ∧ (d = tmuQueue p (c * 9 + g)) ∧ (nrd NODE.VALID d s = 1) ∧ (nrd NODE.DEPTH d s + len.toNat + 20 ≤ nrd NODE.QLIM d s)) ∧
    (∃ (p : Fin 32) (g c : Fin 8) (len : BitVec 14) (s : State), (s.up 212 = true) ∧ (isPort p s = true) ∧ (on TMUPORT.PORT_CFG_CT_EN p s = true) ∧ (role s ≠ 1) ∧ (on NET.STS_LINK p s = true) ∧ ((classQueues p c).all (fun q => (s.node q).frames.isEmpty) = true) ∧ (restOf p c s = none) ∧ (tokensOk (tmuQueue p (c * 9 + g)) s = true) ∧ (tokensOk (tmuClass p c) s = true) ∧ ((s.tmuPort p).cur = none) ∧ (startBytes p c len.toNat false s = some len.toNat)) ∧
    (∃ (p : Fin 32) (x : TxNow) (h g : Nat) (s : State), (s.up 212 = true) ∧ (isPort p s = false) ∧ ((s.tmuPort p).cur = some x) ∧ (x.after = 0) ∧ (x.handle = some h) ∧ (x.ct = false) ∧ (g ∈ granulesOf (handlePool h) (handleIndex h) 0 (descAt (handlePool h) (handleIndex h) s).len s)) ∧
    (∃ (p : Fin 32) (x : TxNow) (s : State), (s.up 212 = true) ∧ ((s.tmuPort p).cur = some x) ∧ (txWithheld x s = true)) :=
  ⟨⟨0, at_ [212, 213] [], by decide +kernel⟩,
   ⟨0, at_ [212, 213] [(NET.PORT_CFG_EN, 0, 0, 1)], by decide +kernel⟩,
   ⟨0, 3, 100, at_ [212, 213] [(NET.PORT_CFG_EN, 0, 0, 1), (NET.STS_LINK, 0, 0, 1), (NODEC.MAXLEN, 0, 3, 99)], by decide +kernel⟩,
   ⟨0, 2, 3, ⟨320, 29⟩, 100, at_ [212, 213] [(NET.PORT_CFG_EN, 0, 0, 1), (NET.STS_LINK, 0, 0, 1), (NODEC.MAXLEN, 0, 3, 2000), (NODE.VALID, 320, 29, 1), (NODE.QLIM, 320, 29, 120)], by decide +kernel⟩,
   ⟨0, 2, 3, ⟨320, 29⟩, 100, at_ [212, 213] [(NET.PORT_CFG_EN, 0, 0, 1), (NET.STS_LINK, 0, 0, 1), (NODEC.MAXLEN, 0, 3, 2000), (NODE.VALID, 320, 29, 1), (NODE.QLIM, 320, 29, 119)], by decide +kernel⟩,
   ⟨0, { cls := 3, handle := some 16, len := 100, after := 0, start := 0, stop := 90, cont := false, ct := false }, 16, at_ [212, 213] [] { queues := { ports := [(0, { cur := some { cls := 3, handle := some 16, len := 100, after := 0, start := 0, stop := 90, cont := false, ct := false } })] } }, by decide +kernel⟩,
   ⟨0, ⟨352, 3⟩, ⟨320, 29⟩, { handle := some 16, len := 100 }, [], {}, at_ [212, 213, 214, 215, 216, 217] [(NET.PORT_CFG_EN, 0, 0, 1), (NET.PORT_CFG_SPEED, 0, 0, 1), (NET.STS_LINK, 0, 0, 1), (NODE.VALID, 320, 29, 1), (NODE.WEIGHT, 320, 29, 1), (NODE.WEIGHT, 352, 3, 1), (NODE.DEPTH, 320, 29, 120), (BPM.POOL_S_CNT, 0, 0, 1), (BPM.CTL_LOCK, 0, 0, 1)] { bpm := { listed := true, descs := [(1, { alloc := true, count := 1, holders := 2 ^ 14, owner := 14, len := 100 })] }, queues := { nodes := [(320 * 8192 + 29, { frames := [{ handle := some 16, len := 100 }] })] } }, by decide +kernel⟩,
   ⟨0, ⟨352, 3⟩, ⟨320, 29⟩, { handle := some 16, len := 100 }, [], {}, at_ [212, 213] [(NET.PORT_CFG_EN, 0, 0, 1), (NET.PORT_CFG_SPEED, 0, 0, 1), (NET.STS_LINK, 0, 0, 1), (NODE.VALID, 320, 29, 1), (NODE.WEIGHT, 320, 29, 1), (NODE.WEIGHT, 352, 3, 1), (NODE.DEPTH, 320, 29, 120)] { queues := { nodes := [(320 * 8192 + 29, { frames := [{ handle := some 16, len := 100 }] })] } }, by decide +kernel⟩,
   ⟨0, at_ [212] [], by decide +kernel⟩,
   ⟨0, { cls := 0, handle := some 16, len := 9000, after := 0, start := 0, stop := 800, cont := false, ct := false, pre := true }, 64, at_ [212, 213] [(NET.PORT_CFG_EN, 0, 0, 1), (NET.PORT_CFG_SPEED, 0, 0, 1), (NET.STS_PREEMPT_ACT, 0, 0, 1), (NODE.NOFRAG, 352, 0, 1), (NODE.WEIGHT, 320, 29, 1), (NODE.WEIGHT, 352, 3, 1)] { queues := { nodes := [(320 * 8192 + 29, { frames := [{ handle := some 16, len := 100 }] })], ports := [(0, { cur := some { cls := 0, handle := some 16, len := 9000, after := 0, start := 0, stop := 800, cont := false, ct := false, pre := true } })] } }, by decide +kernel⟩,
   ⟨0, 2, 3, 100, ⟨320, 29⟩, at_ [212, 213] [(NET.PORT_CFG_EN, 0, 0, 1), (NET.STS_LINK, 0, 0, 1), (NODEC.MAXLEN, 0, 3, 2000), (NODE.VALID, 320, 29, 1), (NODE.QLIM, 320, 29, 120), (TMUPORT.PORT_CFG_CT_EN, 0, 0, 0)], by decide +kernel⟩,
   ⟨0, 2, 3, 100, at_ [212, 213] [(NET.PORT_CFG_EN, 0, 0, 1), (NET.PORT_CFG_SPEED, 0, 0, 1), (NET.STS_LINK, 0, 0, 1), (TMUPORT.PORT_CFG_CT_EN, 0, 0, 1), (NODE.WEIGHT, 320, 29, 1), (NODE.WEIGHT, 352, 3, 1)], by decide +kernel⟩,
   ⟨0, { cls := 3, handle := some 16, len := 100, after := 0, start := 0, stop := 90, cont := false, ct := false }, 16, 1, at_ [212, 213, 214, 215, 216, 217] [(BPM.POOL_S_CNT, 0, 0, 1), (BPM.CTL_LOCK, 0, 0, 1)] { bpm := { listed := true, descs := [(1, { alloc := true, count := 1, holders := 2 ^ 14, owner := 14, len := 100 })] }, queues := { ports := [(0, { cur := some { cls := 3, handle := some 16, len := 100, after := 0, start := 0, stop := 90, cont := false, ct := false } })] } }, by decide +kernel⟩,
   ⟨0, { cls := 3, handle := none, len := 100, after := 0, start := 0, stop := 90, cont := false, ct := true, iv := some 99 }, at_ [212] [] { cipher := [(1, { tagChecks := [{ flow := 7, slot := 1, iv := 99, len := 80, ok := true }] })], queues := { ports := [(0, { cur := some { cls := 3, handle := none, len := 100, after := 0, start := 0, stop := 90, cont := false, ct := true, iv := some 99 } })] } }, by decide +kernel⟩⟩

theorem witness_GatesAndNodes :
    (∃ (p : Fin 32) (s : State), (s.up 212 = true) ∧ ((s.tmuPort p).listed = false)) ∧
    (∃ (p : Fin 32) (s : State), (s.up 212 = true) ∧ ((s.tmuPort p).listed = true) ∧ ((s.tmuPort p).entryEnd < (s.tmuPort p).cycleEnd) ∧ (s.ptp ≤ (s.tmuPort p).entryEnd)) ∧
    (∃ (p : Fin 32) (w : Word) (s : State), (s.up 212 = true) ∧ (on TMUPORT.GATE_CTL_PENDING p s = true) ∧ (w.msb = true)) ∧
    (∃ (p : Fin 32) (w : Word) (s : State), (s.up 212 = true) ∧ (on TMUPORT.GATE_CTL_PENDING p s = false) ∧ (w.msb = true) ∧ ((∀ e, e < 256 → 8 ≤ gclInterval p (1 - operBank p s) e s ∨ w.toNat / 2 ^ 16 % 2 ^ 9 ≤ e)) ∧ (1 ≤ w.toNat / 2 ^ 16 % 2 ^ 9) ∧ (w.toNat / 2 ^ 16 % 2 ^ 9 ≤ 256)) ∧
    (∃ (p : Fin 32) (s : State), (s.up 212 = true) ∧ (on TMUPORT.GATE_CTL_PENDING p s = true)) ∧
    (∃ (w : Word) (s : State), (s.up 211 = true) ∧ (rd TMD.NODE_IDX_WORD 0 s = 1) ∧ (w.toNat % 65536 = 0)) ∧
    (∃ (w : Word) (s : State), (s.up 211 = true) ∧ (rd TMD.NODE_IDX_WORD 0 s = 1) ∧ (rd TMD.NODE_IDX_LEVEL 0 s = 0) ∧ (rd TMD.NODE_IDX_TREE 0 s < 48) ∧ (rd TMD.NODE_IDX_INDEX 0 s < 4096) ∧ (on TMD.NODE_IDX_AUTO_INC 0 s = false) ∧ (w.toNat % 65536 ≠ 0) ∧ (Tbl.get 0 s.queues.stage 0 / 2 ^ 30 = 2)) ∧
    (∃ (m : Fin 2) (w : Word) (d : Node) (v : Nat) (s : State), (s.up (211 + m) = true) ∧ (namedNode m s = d) ∧ (nodeExists d = true) ∧ ((if m = 0 then rd TMD.NODE_IDX_WORD 0 s else rd TMU.NODE_IDX_WORD 0 s) = 1) ∧ ((if m = 0 then on TMD.NODE_IDX_AUTO_INC 0 s else on TMU.NODE_IDX_AUTO_INC 0 s) = false) ∧ (w.toNat % 65536 ≠ 0) ∧ (Tbl.get 0 s.queues.stage m = v) ∧ (v / 2 ^ 29 = 4) ∧ (64 ≤ v % 2 ^ 14)) ∧
    (∃ (m : Fin 2) (d : Node) (s : State), (s.up (211 + m) = true) ∧ (namedNode m s = d) ∧ (nodeExists d = true) ∧ ((if m = 0 then rd TMD.NODE_IDX_WORD 0 s else rd TMU.NODE_IDX_WORD 0 s) = 2) ∧ ((if m = 0 then on TMD.NODE_IDX_AUTO_INC 0 s else on TMU.NODE_IDX_AUTO_INC 0 s) = false)) ∧
    (∃ (m : Fin 2) (w : Word) (d : Node) (s : State), (s.up (211 + m) = true) ∧ (namedNode m s = d) ∧ (nodeExists d = true) ∧ ((if m = 0 then rd TMD.NODE_IDX_WORD 0 s else rd TMU.NODE_IDX_WORD 0 s) = 3) ∧ ((if m = 0 then on TMD.NODE_IDX_AUTO_INC 0 s else on TMU.NODE_IDX_AUTO_INC 0 s) = false) ∧ (64 ≤ w.toNat % 2 ^ 24)) ∧
    (∃ (m : Fin 2) (level : Fin 4) (n : Fin 48) (idx : BitVec 13) (d : Node) (w r : Nat) (s : State), (s.up (211 + m) = true) ∧ (d = (if m = 0 then tmdNode level n idx.toNat else if level = 0 then tmuQueue n idx.toNat else tmuClass n idx.toNat)) ∧ ((s.node d).refilled = s.clk) ∧ ((s.node d).rem = 0) ∧ ((s.node d).tok = -(w : Int)) ∧ (nrd NODE.RATE d s = r) ∧ (r ≠ 0)) :=
  ⟨⟨0, at_ [212] [], by decide +kernel⟩,
   ⟨0, at_ [212] [(TMUPORT.GATE_CTL_EN, 0, 0, 1), (GCL.INTERVAL, 0, 1, 30)] { queues := { ports := [(0, { listed := true, operLen := 3, cycle := 100, entry := 0, entryEnd := 20, cycleEnd := 100 })] } }, by decide +kernel⟩,
   ⟨0, 0x90010000, at_ [212] [(TMUPORT.GATE_CTL_PENDING, 0, 0, 1)], by decide +kernel⟩,
   ⟨0, 0x900100FF, at_ [212] [(GCL.INTERVAL, 1, 0, 100), (TMUPORT.ADMIN_CYCLE, 0, 0, 1000)], by decide +kernel⟩,
   ⟨0, at_ [212] [(TMUPORT.GATE_CTL_PENDING, 0, 0, 1), (TMUPORT.GATE_CTL_CHANGE, 0, 0, 1), (TMUPORT.GATE_CTL_ADMIN_LEN, 0, 0, 2), (TMUPORT.ADMIN_CYCLE, 0, 0, 1000)] { queues := { ports := [(0, { changeAt := 500 })] } }, by decide +kernel⟩,
   ⟨0, at_ [211] [(TMD.NODE_IDX_WORD, 0, 0, 1)], by decide +kernel⟩,
   ⟨7, at_ [211] [(TMD.NODE_IDX_WORD, 0, 0, 1), (TMD.NODE_IDX_INDEX, 0, 0, 5), (TMD.NODE_IDX_AUTO_INC, 0, 0, 0)] { queues := { stage := [(0, 0x80000440)] } }, by decide +kernel⟩,
   ⟨1, 9, ⟨352, 5⟩, 2147485148, at_ [212] [(TMU.NODE_IDX_LEVEL, 0, 0, 1), (TMU.NODE_IDX_INDEX, 0, 0, 5), (TMU.NODE_IDX_AUTO_INC, 0, 0, 0), (TMU.NODE_IDX_WORD, 0, 0, 1)] { queues := { stage := [(1, 2147485148)] } }, by decide +kernel⟩,
   ⟨1, ⟨352, 5⟩, at_ [212] [(TMU.NODE_IDX_LEVEL, 0, 0, 1), (TMU.NODE_IDX_INDEX, 0, 0, 5), (TMU.NODE_IDX_AUTO_INC, 0, 0, 0), (TMU.NODE_IDX_WORD, 0, 0, 2)], by decide +kernel⟩,
   ⟨1, 9000, ⟨352, 5⟩, at_ [212] [(TMU.NODE_IDX_LEVEL, 0, 0, 1), (TMU.NODE_IDX_INDEX, 0, 0, 5), (TMU.NODE_IDX_AUTO_INC, 0, 0, 0), (TMU.NODE_IDX_WORD, 0, 0, 3)], by decide +kernel⟩,
   ⟨0, 1, 3, 5, ⟨67, 5⟩, 1024, 100, at_ [211] [(NODE.RATE, 67, 5, 100)] { queues := { nodes := [(67 * 8192 + 5, { tok := -1024 })] } }, by decide +kernel⟩⟩

theorem witness_StandbyDiscards :
    (∃ (p : Fin 32) (s : State), (s.up 212 = true) ∧ (isPort p s = true) ∧ (role s = 1)) ∧
    (∃ (p : Fin 32) (s : State), (s.up 212 = true) ∧ (isPort p s = true) ∧ (role s = 1)) ∧
    (∃ (p : Fin 32) (d : Node) (len : BitVec 14) (s : State), (s.up 212 = true) ∧ (isPort p s = true) ∧ (on NET.STS_LINK p s = true) ∧ (len.toNat ≤ classMaxlen p (rd TMUPORT.PORT_CFG_SYS_CLASS p s) s) ∧ (d = tmuQueue p (rd TMUPORT.PORT_CFG_SYS_CLASS p s * 9 + 8)) ∧ (nrd NODE.VALID d s = 1) ∧ (nrd NODE.DEPTH d s + len.toNat + 20 ≤ nrd NODE.QLIM d s)) ∧
    (∃ (p : Fin 32) (c : Fin 8) (d : Node) (len : BitVec 14) (s : State), (s.up 212 = true) ∧ (isPort p s = true) ∧ (on NET.STS_LINK p s = true) ∧ (len.toNat ≤ classMaxlen p c s) ∧ (d = tmuQueue p (c * 9 + 8)) ∧ (nrd NODE.VALID d s = 1) ∧ (nrd NODE.DEPTH d s + len.toNat + 20 ≤ nrd NODE.QLIM d s)) :=
  ⟨⟨0, at_ [212, 213] [(NET.PORT_CFG_EN, 0, 0, 1), (PAR.STS_ROLE, 0, 0, 1)], by decide +kernel⟩,
   ⟨0, at_ [212, 213] [(NET.PORT_CFG_EN, 0, 0, 1), (PAR.STS_ROLE, 0, 0, 1)], by decide +kernel⟩,
   ⟨0, ⟨320, 53⟩, 100, at_ [212, 213] [(NET.PORT_CFG_EN, 0, 0, 1), (PAR.STS_ROLE, 0, 0, 1), (NET.STS_LINK, 0, 0, 1), (TMUPORT.PORT_CFG_SYS_CLASS, 0, 0, 5), (NODEC.MAXLEN, 0, 5, 2000), (NODE.VALID, 320, 53, 1), (NODE.QLIM, 320, 53, 120)], by decide +kernel⟩,
   ⟨0, 5, ⟨320, 53⟩, 100, at_ [212, 213] [(NET.PORT_CFG_EN, 0, 0, 1), (PAR.STS_ROLE, 0, 0, 1), (NET.STS_LINK, 0, 0, 1), (NODEC.MAXLEN, 0, 5, 2000), (NODE.VALID, 320, 53, 1), (NODE.QLIM, 320, 53, 120)], by decide +kernel⟩⟩

theorem witness_CipherKeys :
    (∃ (d : Fin 2) (f k : Nat) (s : State), (s.up (218 + d) = true) ∧ (privileged s = true) ∧ (rd CPH.FKEY_IDX_WORD d s = 7) ∧ (on CPH.FKEY_IDX_AUTO_INC d s = false) ∧ (rd CPH.FKEY_IDX_FLOW d s = f) ∧ (rd CPH.FKEY_IDX_SLOT d s = k) ∧ ((countedSlot d f s ≠ k ∨ slotValid d f k s = false))) ∧
    (∃ (d : Fin 2) (f : Nat) (s : State), (s.up (218 + d) = true) ∧ (privileged s = true) ∧ (on CPH.FKEY_IDX_AUTO_INC d s = false) ∧ (rd CPH.FKEY_IDX_FLOW d s = f) ∧ (countedSlot d f s = rd CPH.FKEY_IDX_SLOT d s) ∧ (slotValid d f (countedSlot d f s) s = true)) ∧
    (∃ (d : Fin 2) (s : State), (s.up (218 + d) = true) ∧ (privileged s = false)) ∧
    (∃ (d : Fin 2) (n m k : Nat) (s : State), (s.up (218 + d) = true) ∧ (privileged s = true) ∧ (rd CPH.TKEY_IDX_WORD d s = 3) ∧ (on CPH.TKEY_IDX_AUTO_INC d s = false) ∧ (rd CPH.TKEY_IDX_TREE d s = n) ∧ (rd CPH.TKEY_IDX_TERM d s = m) ∧ (rd CPH.TKEY_IDX_KEY d s = k) ∧ ((d = 1 ∨ 2 ≤ k ∨ Tbl.get 0 (s.cph d).txSlot (n * 1024 + m) ≠ k ∨ Tbl.get none (s.cph d).tkey (tkeyNo n m k) = none))) ∧
    (∃ (n m k : Nat) (s : State), (s.up 218 = true) ∧ (privileged s = true) ∧ (rd CPH.TKEY_IDX_WORD 0 s = 3) ∧ (on CPH.TKEY_IDX_AUTO_INC 0 s = false) ∧ (rd CPH.TKEY_IDX_TREE 0 s = n) ∧ (rd CPH.TKEY_IDX_TERM 0 s = m) ∧ (rd CPH.TKEY_IDX_KEY 0 s = k) ∧ (k < 2) ∧ (Tbl.get 0 (s.cph 0).txSlot (n * 1024 + m) = k) ∧ (Tbl.get none (s.cph 0).tkey (tkeyNo n m k) ≠ none)) ∧
    (∃ (d : Fin 2) (s : State), (s.up (218 + d) = true) ∧ (privileged s = true) ∧ (rd CPH.RING_IDX_WORD d s = 7) ∧ (on CPH.RING_IDX_AUTO_INC d s = false)) ∧
    (∃ (n : Fin 48) (m : BitVec 10) (k : Nat) (s : State), (s.up 218 = true) ∧ (privileged s = true) ∧ (m.toNat ≤ 512) ∧ (Tbl.get 0 (s.cph 0).txSlot (n * 1024 + m.toNat) = k) ∧ (Tbl.get none (s.cph 0).tkey (tkeyNo n m.toNat (1 - k)) ≠ none)) ∧
    (∃ (s : State), (s.up 219 = true) ∧ (privileged s = true)) ∧
    (∃ (f : BitVec 13) (s : State), (s.up 218 = true) ∧ (privileged s = true) ∧ (slotValid 0 f.toNat (1 - actSlot 0 f.toNat s) s = true)) ∧
    (∃ (d : Fin 2) (f : BitVec 13) (k : Nat) (s : State), (s.up (218 + d) = true) ∧ (privileged s = true) ∧ (1 - countedSlot d f.toNat s = k) ∧ (rdx FLOW.RING_POS d f.toNat s < rdx FLOW.RING_LEN d f.toNat s)) ∧
    (∃ (d : Fin 2) (f : BitVec 13) (s : State), (s.up (218 + d) = true) ∧ (privileged s = true) ∧ (rdx FLOW.RING_LEN d f.toNat s ≤ rdx FLOW.RING_POS d f.toNat s)) ∧
    (∃ (d : Fin 2) (f : BitVec 13) (k : Nat) (s : State), (s.up 218 = true) ∧ (s.up 219 = true) ∧ (privileged s = true) ∧ (1 - countedSlot d f.toNat s = k)) ∧
    (∃ (d : Fin 2) (s : State), (s.up (218 + d) = true) ∧ ((s.cph d).expiring = [])) ∧
    (∃ (d : Fin 2) (f : BitVec 13) (slot k : Nat) (s : State), (s.up (218 + d) = true) ∧ ((s.cph d).expiring = [(f.toNat, slot, k)]) ∧ (slot ≤ 1) ∧ (countedSlot d f.toNat s ≠ slot)) :=
  ⟨⟨0, 5, 1, at_ [218] [(CPH.FKEY_IDX_FLOW, 0, 0, 5), (CPH.FKEY_IDX_SLOT, 0, 0, 1), (CPH.FKEY_IDX_WORD, 0, 0, 7), (CPH.FKEY_IDX_AUTO_INC, 0, 0, 0), (CPH.INV_START_START, 0, 0, 3)] { cmd := { priv := true } }, by decide +kernel⟩,
   ⟨0, 5, at_ [218] [(CPH.FKEY_IDX_FLOW, 0, 0, 5), (CPH.FKEY_IDX_AUTO_INC, 0, 0, 0), (FLOW.SLOT_V, 0, 5, 1)] { cmd := { priv := true } }, by decide +kernel⟩,
   ⟨0, at_ [218] [] { cmd := { source := 1 } }, by decide +kernel⟩,
   ⟨0, 2, 7, 1, at_ [218] [(CPH.TKEY_IDX_TREE, 0, 0, 2), (CPH.TKEY_IDX_TERM, 0, 0, 7), (CPH.TKEY_IDX_KEY, 0, 0, 1), (CPH.TKEY_IDX_WORD, 0, 0, 3), (CPH.TKEY_IDX_AUTO_INC, 0, 0, 0)] { cmd := { priv := true } }, by decide +kernel⟩,
   ⟨2, 7, 1, at_ [218] [(CPH.TKEY_IDX_TREE, 0, 0, 2), (CPH.TKEY_IDX_TERM, 0, 0, 7), (CPH.TKEY_IDX_KEY, 0, 0, 1), (CPH.TKEY_IDX_WORD, 0, 0, 3), (CPH.TKEY_IDX_AUTO_INC, 0, 0, 0)] { cmd := { priv := true }, cipher := [(0, { txSlot := [(2 * 1024 + 7, 1)], tkey := [(2 * 4096 + 29, some 4)] })] }, by decide +kernel⟩,
   ⟨0, at_ [218] [(CPH.RING_IDX_ENTRY, 0, 0, 4), (CPH.RING_IDX_WORD, 0, 0, 7), (CPH.RING_IDX_AUTO_INC, 0, 0, 0)] { cmd := { priv := true } }, by decide +kernel⟩,
   ⟨2, 7, 0, at_ [218] [] { cmd := { priv := true }, cipher := [(0, { tkey := [(2 * 4096 + 29, some 4)] })] }, by decide +kernel⟩,
   ⟨at_ [219] [] { cmd := { priv := true } }, by decide +kernel⟩,
   ⟨7, at_ [218] [(FLOW.SLOT_V, 0, 7, 2)] { cmd := { priv := true } }, by decide +kernel⟩,
   ⟨0, 7, 1, at_ [218] [(FLOW.RING_LEN, 0, 7, 2)] { cmd := { priv := true } }, by decide +kernel⟩,
   ⟨0, 7, at_ [218] [] { cmd := { priv := true } }, by decide +kernel⟩,
   ⟨0, 7, 1, at_ [218, 219] [(FLOW.SLOT_V, 0, 7, 3), (FLOW.SLOT_V, 1, 7, 3)] { cmd := { priv := true } }, by decide +kernel⟩,
   ⟨0, at_ [218] [], by decide +kernel⟩,
   ⟨0, 7, 1, 10, at_ [218] [(FLOW.SLOT_V, 0, 7, 3)] { cipher := [(0, { expiring := [(7, 1, 10)] })] }, by decide +kernel⟩⟩

theorem witness_SduCipher :
    (∃ (n : Fin 48) (port : BitVec 16) (len : BitVec 14) (ofs : BitVec 20) (x : Sdu) (rest : List Sdu) (s : State), (s.up 218 = true) ∧ ((s.fram n).sealing = x :: rest) ∧ (x.port = port.toNat) ∧ (x.len = len.toNat) ∧ (x.ofs = ofs.toNat) ∧ (sduUnread n x s = false) ∧ (x.treat.mode = 0) ∧ ((s.cph 0).tBad = []) ∧ ((∀ i, i < 4 → (s.session i).capture = none))) ∧
    (∃ (n : Fin 48) (port : BitVec 16) (len : BitVec 14) (ofs : BitVec 20) (x : Sdu) (rest : List Sdu) (s : State), (s.up 218 = true) ∧ ((s.fram n).sealing = x :: rest) ∧ (x.port = port.toNat) ∧ (x.len = len.toNat) ∧ (x.ofs = ofs.toNat) ∧ (sduUnread n x s = false) ∧ (x.treat.mode = 1) ∧ ((s.cph 0).tBad = []) ∧ ((s.cph 0).resumeFrame ≤ x.frame) ∧ (Tbl.get none (s.cph 0).tkey (tkeyNo n x.treat.term (Tbl.get 0 (s.cph 0).txSlot (n * 1024 + x.treat.term))) = none)) ∧
    (∃ (n : Fin 48) (port : BitVec 16) (len : BitVec 14) (ofs : BitVec 20) (x : Sdu) (rest : List Sdu) (k v : Nat) (s : State), (s.up 218 = true) ∧ ((s.fram n).sealing = x :: rest) ∧ (x.port = port.toNat) ∧ (x.len = len.toNat) ∧ (x.ofs = ofs.toNat) ∧ (sduUnread n x s = false) ∧ (x.treat.mode = 1) ∧ ((s.cph 0).resumeFrame ≤ x.frame) ∧ (on CPH.STS_COLD_HOLD 0 s = false) ∧ ((s.cph 0).tBad = []) ∧ (Tbl.get 0 (s.cph 0).txSlot (n * 1024 + x.treat.term) = k) ∧ (Tbl.get none (s.cph 0).tkey (tkeyNo n x.treat.term k) = some v) ∧ ((∀ i, i < 4 → (s.session i).capture = none))) ∧
    (∃ (n : Fin 48) (port : BitVec 16) (len : BitVec 14) (ofs : BitVec 20) (x : Sdu) (rest : List Sdu) (f k : Nat) (s : State), (s.up 218 = true) ∧ ((s.fram n).sealing = x :: rest) ∧ (x.port = port.toNat) ∧ (x.len = len.toNat) ∧ (x.ofs = ofs.toNat) ∧ (sduUnread n x s = false) ∧ (2 ≤ x.treat.mode) ∧ ((s.cph 0).tBad = []) ∧ ((s.cph 0).resumeFrame ≤ x.frame) ∧ (x.treat.flow = f) ∧ (actSlot 0 f s = k) ∧ (slotValid 0 f k s = true) ∧ (on CPH.STS_COLD_HOLD 0 s = false) ∧ ((s.cph 0).fBad = []) ∧ (len.toNat ≤ 16000) ∧ ((s.cph 0).highSfc ≤ x.frame) ∧ (rdx FLOW.HELD 0 f s = 0) ∧ (invCount 0 f k s < 2 ^ 36) ∧ ((∀ i, i < 4 → (s.session i).capture = none))) ∧
    (∃ (n : Fin 48) (port : BitVec 16) (len : BitVec 14) (ofs : BitVec 20) (x : Sdu) (rest : List Sdu) (f : Nat) (s : State), (s.up 218 = true) ∧ ((s.fram n).sealing = x :: rest) ∧ (x.port = port.toNat) ∧ (x.len = len.toNat) ∧ (x.ofs = ofs.toNat) ∧ (sduUnread n x s = false) ∧ (2 ≤ x.treat.mode) ∧ ((s.cph 0).tBad = []) ∧ ((s.cph 0).resumeFrame ≤ x.frame) ∧ (x.treat.flow = f) ∧ (slotValid 0 f (actSlot 0 f s) s = false) ∧ (invCount 0 f (actSlot 0 f s) s < 2 ^ 36)) ∧
    (∃ (d : Fin 2) (f : BitVec 13) (k : Nat) (s : State), (s.up (218 + d) = true) ∧ (countedSlot d f.toNat s = k) ∧ (2 ^ 35 ≤ invCount d f.toNat k s) ∧ ((s.cph d).warned = []) ∧ (rdx FLOW.RING_LEN d f.toNat s ≤ rdx FLOW.RING_POS d f.toNat s) ∧ ((s.cph d).emptySaid = []) ∧ (rdx FLOW.AUTO d f.toNat s = 1)) ∧
    (∃ (d : Fin 2) (f : BitVec 13) (k : Nat) (s : State), (s.up (218 + d) = true) ∧ (countedSlot d f.toNat s = k) ∧ (2 ^ 35 ≤ invCount d f.toNat k s) ∧ ((s.cph d).warned = []) ∧ (rdx FLOW.RING_POS d f.toNat s < rdx FLOW.RING_LEN d f.toNat s) ∧ (rdx FLOW.AUTO d f.toNat s = 1)) ∧
    (∃ (d : Fin 2) (f : BitVec 13) (s : State), (s.up (218 + d) = true) ∧ (invCount d f.toNat (countedSlot d f.toNat s) s < 2 ^ 35)) ∧
    (∃ (d : Fin 2) (f : BitVec 13) (s : State), (s.up (218 + d) = true) ∧ (rdx FLOW.HELD d f.toNat s = 0) ∧ (2 ^ 36 ≤ invCount d f.toNat (countedSlot d f.toNat s) s)) ∧
    (∃ (d : Fin 2) (f : BitVec 13) (s : State), (s.up (218 + d) = true) ∧ (invCount d f.toNat (countedSlot d f.toNat s) s < 2 ^ 36)) ∧
    (∃ (n : Fin 48) (ki : Fin 4) (frame : BitVec 51) (index : BitVec 38) (whole : Bool) (bytes : List Byte) (u : UpXgem) (rest : List UpXgem) (s : State), (s.up 219 = true) ∧ ((s.fram n).upstream = u :: rest) ∧ (u.key = ki.val) ∧ (u.frame = frame.toNat) ∧ (u.index = index.toNat) ∧ (u.whole = whole) ∧ (u.bytes = bytes.length) ∧ (keyIndexFits (portTreat 1 n u.port s).mode ki.val = false)) ∧
    (∃ (n : Fin 48) (ki : Fin 4) (frame : BitVec 51) (index : BitVec 38) (whole : Bool) (bytes : List Byte) (u : UpXgem) (rest : List UpXgem) (s : State), (s.up 219 = true) ∧ (s.up (207 + treeCluster n / 2) = true) ∧ ((s.fram n).upstream = u :: rest) ∧ (u.key = ki.val) ∧ (u.frame = frame.toNat) ∧ (u.index = index.toNat) ∧ (u.whole = whole) ∧ (u.bytes = bytes.length) ∧ ((portTreat 1 n u.port s).mode = 0) ∧ (ki = 0) ∧ ((s.cph 1).tBad = []) ∧ (omciPasses n (portTreat 1 n u.port s) bytes s = true) ∧ ((∀ i, i < 4 → (s.session i).capture = none))) ∧
    (∃ (n : Fin 48) (ki : Fin 4) (frame : BitVec 51) (index : BitVec 38) (whole : Bool) (bytes : List Byte) (u : UpXgem) (rest : List UpXgem) (v : Nat) (s : State), (s.up 219 = true) ∧ (s.up (207 + treeCluster n / 2) = true) ∧ ((s.fram n).upstream = u :: rest) ∧ (u.key = ki.val) ∧ (u.frame = frame.toNat) ∧ (u.index = index.toNat) ∧ (u.whole = whole) ∧ (u.bytes = bytes.length) ∧ ((portTreat 1 n u.port s).mode = 1) ∧ (ki ≠ 0) ∧ (ki ≠ 3) ∧ (Tbl.get none (s.cph 1).tkey (tkeyNo n (portTreat 1 n u.port s).term (ki.val - 1)) = some v) ∧ (on CPH.STS_COLD_HOLD 1 s = false) ∧ ((s.cph 1).tBad = []) ∧ (omciPasses n (portTreat 1 n u.port s) (Config.xgemCipher v frame.toNat index.toNat bytes) s = true) ∧ ((∀ i, i < 4 → (s.session i).capture = none))) ∧
    (∃ (n : Fin 48) (ki : Fin 4) (frame : BitVec 51) (index : BitVec 38) (whole : Bool) (bytes : List Byte) (u : UpXgem) (rest : List UpXgem) (m f k : Nat) (v : List Byte × Bool) (s : State), (s.up 219 = true) ∧ (s.up (207 + treeCluster n / 2) = true) ∧ ((s.fram n).upstream = u :: rest) ∧ (u.key = ki.val) ∧ (u.frame = frame.toNat) ∧ (u.index = index.toNat) ∧ (u.whole = whole) ∧ (u.bytes = bytes.length) ∧ ((portTreat 1 n u.port s).mode = m) ∧ (2 ≤ m) ∧ ((portTreat 1 n u.port s).flow = f) ∧ (ki.val = k + 1) ∧ (k < 2) ∧ (rdx FLOW.VALID 1 f s = 1) ∧ (slotValid 1 f k s = true) ∧ (on CPH.STS_COLD_HOLD 1 s = false) ∧ ((s.cph 1).fBad = []) ∧ (16 ≤ bytes.length) ∧ (bytes.length ≤ 16016) ∧ ((s.cph 1).highSfc ≤ frame.toNat) ∧ (rdx FLOW.HELD 1 f s = 0) ∧ (invCount 1 f k s < 2 ^ 36) ∧ ((whole = false ∨ u.handle ≠ 0 ∨ rdx FLOW.CT 1 f s = 0)) ∧ (v = openSdu m ((Tbl.get none (s.cph 1).fkey (f * 2 + k)).getD 0) (ivOf frame.toNat n 1 index.toNat) (flowBlock u.port (bytes.length - 16) n ki) [] (bytes.take (bytes.length - 16)) (bytes.drop (bytes.length - 16))) ∧ ((∀ i, i < 4 → (s.session i).capture = none))) ∧
    (∃ (n : Fin 48) (ki : Fin 4) (frame : BitVec 51) (index : BitVec 38) (whole : Bool) (bytes : List Byte) (u : UpXgem) (rest : List UpXgem) (m f k : Nat) (v : List Byte × Bool) (s : State), (s.up 219 = true) ∧ (s.up (207 + treeCluster n / 2) = true) ∧ ((s.fram n).upstream = u :: rest) ∧ (u.key = ki.val) ∧ (u.frame = frame.toNat) ∧ (u.index = index.toNat) ∧ (u.whole = whole) ∧ (u.bytes = bytes.length) ∧ ((portTreat 1 n u.port s).mode = m) ∧ (2 ≤ m) ∧ ((portTreat 1 n u.port s).flow = f) ∧ (ki.val = k + 1) ∧ (k < 2) ∧ (rdx FLOW.VALID 1 f s = 1) ∧ (slotValid 1 f k s = true) ∧ (on CPH.STS_COLD_HOLD 1 s = false) ∧ ((s.cph 1).fBad = []) ∧ (16 ≤ bytes.length) ∧ (bytes.length ≤ 16016) ∧ ((s.cph 1).highSfc ≤ frame.toNat) ∧ (rdx FLOW.HELD 1 f s = 0) ∧ (invCount 1 f k s < 2 ^ 36) ∧ (whole = true) ∧ (u.handle = 0) ∧ (rdx FLOW.CT 1 f s = 1) ∧ (v = openSdu m ((Tbl.get none (s.cph 1).fkey (f * 2 + k)).getD 0) (ivOf frame.toNat n 1 index.toNat) (flowBlock u.port (bytes.length - 16) n ki) [] (bytes.take (bytes.length - 16)) (bytes.drop (bytes.length - 16))) ∧ ((∀ i, i < 4 → (s.session i).capture = none))) ∧
    (∃ (c : TagCheck) (rest : List TagCheck) (s : State), (s.up 219 = true) ∧ ((s.cph 1).tagChecks = c :: rest) ∧ (c.slot < 2) ∧ (c.ok = true)) ∧
    (∃ (c : TagCheck) (rest : List TagCheck) (s : State), (s.up 219 = true) ∧ ((s.cph 1).tagChecks = c :: rest) ∧ (c.slot < 2) ∧ (c.ok = false) ∧ (leavesCt c.iv s = true)) ∧
    (∃ (c : TagCheck) (rest : List TagCheck) (s : State), (s.up 219 = true) ∧ ((s.cph 1).tagChecks = c :: rest) ∧ (c.slot < 2) ∧ (c.ok = false) ∧ (leavesCt c.iv s = false)) ∧
    (∃ (d : Fin 2) (w : Word) (s : State), (s.up (218 + d) = true) ∧ (rd CPH.FLOW_IDX_WORD d s = 0) ∧ (on CPH.FLOW_IDX_AUTO_INC d s = false) ∧ (rdx FLOW.VALID d (rd CPH.FLOW_IDX_FLOW d s) s = 0) ∧ (w.toNat / 2 ^ 17 % 2 ^ 6 < 48)) ∧
    (∃ (d : Fin 2) (w : Word) (s : State), (s.up (218 + d) = true) ∧ (rd CPH.FLOW_IDX_WORD d s = 0) ∧ (on CPH.FLOW_IDX_AUTO_INC d s = false) ∧ (rdx FLOW.VALID d (rd CPH.FLOW_IDX_FLOW d s) s = 0) ∧ (48 ≤ w.toNat / 2 ^ 17 % 2 ^ 6)) ∧
    (∃ (d : Fin 2) (w : Word) (s : State), (s.up (218 + d) = true) ∧ (rd CPH.FLOW_IDX_WORD d s = 0) ∧ (on CPH.FLOW_IDX_AUTO_INC d s = false) ∧ (rdx FLOW.VALID d (rd CPH.FLOW_IDX_FLOW d s) s = 1) ∧ (w.msb = true) ∧ (w.toNat / 2 ^ 30 % 2 ≠ rdx FLOW.KIND d (rd CPH.FLOW_IDX_FLOW d s) s)) ∧
    (∃ (d : Fin 2) (w : Word) (i : Nat) (s : State), (s.up (218 + d) = true) ∧ (on CPH.PORT_IDX_AUTO_INC d s = false) ∧ (i = portInst d (rd CPH.PORT_IDX_TREE d s)) ∧ (w.toNat / 2 ^ 28 % 2 = 0)) ∧
    (∃ (n : Fin 48) (port : BitVec 16) (len : BitVec 14) (ofs : BitVec 20) (x : Sdu) (rest : List Sdu) (s : State), (s.up 218 = false) ∧ ((s.fram n).sealing = x :: rest) ∧ (x.port = port.toNat) ∧ (x.len = len.toNat) ∧ (x.ofs = ofs.toNat) ∧ (sduUnread n x s = false)) :=
  ⟨⟨0, 5, 100, 40, { port := 5, len := 100, treat := { mode := 0, flow := 7, term := 3 }, frame := 3, ofs := 40, stop := 150, cut := false }, [], at_ [218] [] { framing := [(0, { sealing := [{ port := 5, len := 100, treat := { mode := 0, flow := 7, term := 3 }, frame := 3, ofs := 40, stop := 150, cut := false }] })] }, by decide +kernel⟩,
   ⟨0, 5, 100, 40, { port := 5, len := 100, treat := { mode := 1, flow := 7, term := 3 }, frame := 3, ofs := 40, stop := 150, cut := false }, [], at_ [218] [] { framing := [(0, { sealing := [{ port := 5, len := 100, treat := { mode := 1, flow := 7, term := 3 }, frame := 3, ofs := 40, stop := 150, cut := false }] })] }, by decide +kernel⟩,
   ⟨0, 5, 100, 40, { port := 5, len := 100, treat := { mode := 1, flow := 7, term := 3 }, frame := 3, ofs := 40, stop := 150, cut := false }, [], 0, 9, at_ [218] [] { framing := [(0, { sealing := [{ port := 5, len := 100, treat := { mode := 1, flow := 7, term := 3 }, frame := 3, ofs := 40, stop := 150, cut := false }] })], cipher := [(0, { tkey := [(12, some 9)] })] }, by decide +kernel⟩,
   ⟨0, 5, 100, 40, { port := 5, len := 100, treat := { mode := 2, flow := 7, term := 3 }, frame := 3, ofs := 40, stop := 150, cut := false }, [], 7, 0, at_ [218] [(FLOW.VALID, 0, 7, 1), (FLOW.SLOT_V, 0, 7, 1)] { framing := [(0, { sealing := [{ port := 5, len := 100, treat := { mode := 2, flow := 7, term := 3 }, frame := 3, ofs := 40, stop := 150, cut := false }] })], cipher := [(0, { fkey := [(14, some 3)] })] }, by decide +kernel⟩,
   ⟨0, 5, 100, 40, { port := 5, len := 100, treat := { mode := 2, flow := 7, term := 3 }, frame := 3, ofs := 40, stop := 150, cut := false }, [], 7, at_ [218] [(FLOW.VALID, 0, 7, 1)] { framing := [(0, { sealing := [{ port := 5, len := 100, treat := { mode := 2, flow := 7, term := 3 }, frame := 3, ofs := 40, stop := 150, cut := false }] })] }, by decide +kernel⟩,
   ⟨0, 7, 0, at_ [218] [(FLOW.INV0_HI, 0, 7, 8), (FLOW.AUTO, 0, 7, 1)], by decide +kernel⟩,
   ⟨0, 7, 0, at_ [218] [(FLOW.INV0_HI, 0, 7, 8), (FLOW.AUTO, 0, 7, 1), (FLOW.RING_LEN, 0, 7, 2)], by decide +kernel⟩,
   ⟨1, 7, at_ [219] [(FLOW.INV0_HI, 1, 7, 7), (FLOW.SLOT_V, 1, 7, 1)], by decide +kernel⟩,
   ⟨1, 7, at_ [219] [(FLOW.INV1_HI, 1, 7, 16), (FLOW.SLOT_V, 1, 7, 2)] { cipher := [(1, { named := [(7, 1)] })] }, by decide +kernel⟩,
   ⟨0, 7, at_ [218] [(FLOW.INV0_HI, 0, 7, 15)], by decide +kernel⟩,
   ⟨0, 1, 3, 16, true, [7], { port := 5, handle := 16, bytes := 1, key := 1, frame := 3, index := 16, whole := true }, [], at_ [219] [] { framing := [(0, { upstream := [{ port := 5, handle := 16, bytes := 1, key := 1, frame := 3, index := 16, whole := true }] })] }, by decide +kernel⟩,
   ⟨0, 0, 3, 16, true, [7], { port := 5, handle := 16, bytes := 1, key := 0, frame := 3, index := 16, whole := true }, [], at_ [219, 207, 208, 209, 210] [] { framing := [(0, { upstream := [{ port := 5, handle := 16, bytes := 1, key := 0, frame := 3, index := 16, whole := true }] })] }, by decide +kernel⟩,
   ⟨0, 1, 3, 16, true, [7], { port := 5, handle := 16, bytes := 1, key := 1, frame := 3, index := 16, whole := true }, [], 9, at_ [219, 207, 208, 209, 210] [(CPHPORT.VALID, 48, 5, 1), (CPHPORT.MODE, 48, 5, 1), (CPHPORT.TERM, 48, 5, 3), (CPHPORT.FLOW, 48, 5, 7)] { framing := [(0, { upstream := [{ port := 5, handle := 16, bytes := 1, key := 1, frame := 3, index := 16, whole := true }] })], cipher := [(1, { tkey := [(12, some 9)] })] }, by and_intros <;> first | decide +kernel | rfl⟩,
   ⟨0, 1, 3, 16, true, List.replicate 20 7, { port := 5, handle := 16, bytes := 20, key := 1, frame := 3, index := 16, whole := true }, [], 2, 7, 0, openSdu 2 3 (ivOf 3 0 1 16) (flowBlock 5 4 0 1) [] ((List.replicate 20 7).take 4) ((List.replicate 20 7).drop 4), at_ [219, 207, 208, 209, 210] [(CPHPORT.VALID, 48, 5, 1), (CPHPORT.MODE, 48, 5, 2), (CPHPORT.TERM, 48, 5, 3), (CPHPORT.FLOW, 48, 5, 7), (FLOW.VALID, 1, 7, 1), (FLOW.SLOT_V, 1, 7, 1), (FLOW.CT, 1, 7, 0)] { framing := [(0, { upstream := [{ port := 5, handle := 16, bytes := 20, key := 1, frame := 3, index := 16, whole := true }] })], cipher := [(1, { fkey := [(14, some 3)] })] }, by and_intros <;> first | decide +kernel | rfl⟩,
   ⟨0, 1, 3, 16, true, List.replicate 20 7, { port := 5, handle := 0, bytes := 20, key := 1, frame := 3, index := 16, whole := true }, [], 2, 7, 0, openSdu 2 3 (ivOf 3 0 1 16) (flowBlock 5 4 0 1) [] ((List.replicate 20 7).take 4) ((List.replicate 20 7).drop 4), at_ [219, 207, 208, 209, 210] [(CPHPORT.VALID, 48, 5, 1), (CPHPORT.MODE, 48, 5, 2), (CPHPORT.TERM, 48, 5, 3), (CPHPORT.FLOW, 48, 5, 7), (FLOW.VALID, 1, 7, 1), (FLOW.SLOT_V, 1, 7, 1), (FLOW.CT, 1, 7, 1)] { framing := [(0, { upstream := [{ port := 5, handle := 0, bytes := 20, key := 1, frame := 3, index := 16, whole := true }] })], cipher := [(1, { fkey := [(14, some 3)] })] }, by and_intros <;> first | decide +kernel | rfl⟩,
   ⟨{ flow := 7, slot := 1, iv := 99, len := 1500, ok := true }, [], at_ [219] [] { cipher := [(1, { tagChecks := [{ flow := 7, slot := 1, iv := 99, len := 1500, ok := true }] })], queues := { ports := [(2, { cur := some { cls := 0, handle := none, len := 1500, after := 0, start := 0, stop := 0, cont := false, ct := true, iv := some 99 } })] } }, by decide +kernel⟩,
   ⟨{ flow := 7, slot := 1, iv := 99, len := 1500, ok := false }, [], at_ [219] [] { cipher := [(1, { tagChecks := [{ flow := 7, slot := 1, iv := 99, len := 1500, ok := false }] })], queues := { ports := [(2, { cur := some { cls := 0, handle := none, len := 1500, after := 0, start := 0, stop := 0, cont := false, ct := true, iv := some 99 } })] } }, by decide +kernel⟩,
   ⟨{ flow := 7, slot := 1, iv := 99, len := 1500, ok := false }, [], at_ [219] [] { cipher := [(1, { tagChecks := [{ flow := 7, slot := 1, iv := 99, len := 1500, ok := false }] })], upSdus := [{ tree := 0, port := 5, handle := 16, len := 1500, ct := true, iv := 99 }] }, by decide +kernel⟩,
   ⟨0, 0x80080005, at_ [218] [(CPH.FLOW_IDX_FLOW, 0, 0, 7), (CPH.FLOW_IDX_WORD, 0, 0, 0), (CPH.FLOW_IDX_AUTO_INC, 0, 0, 0)], by decide +kernel⟩,
   ⟨0, 0x80600005, at_ [218] [(CPH.FLOW_IDX_FLOW, 0, 0, 7), (CPH.FLOW_IDX_WORD, 0, 0, 0), (CPH.FLOW_IDX_AUTO_INC, 0, 0, 0)], by decide +kernel⟩,
   ⟨0, 0xC0080005, at_ [218] [(CPH.FLOW_IDX_FLOW, 0, 0, 7), (CPH.FLOW_IDX_WORD, 0, 0, 0), (CPH.FLOW_IDX_AUTO_INC, 0, 0, 0), (FLOW.VALID, 0, 7, 1)], by decide +kernel⟩,
   ⟨0, 0xA0014123, 2, at_ [218] [(CPH.PORT_IDX_TREE, 0, 0, 2), (CPH.PORT_IDX_PID, 0, 0, 9), (CPH.PORT_IDX_AUTO_INC, 0, 0, 0)], by decide +kernel⟩,
   ⟨0, 5, 100, 40, { port := 5, len := 100, treat := { mode := 0, flow := 7, term := 3 }, frame := 3, ofs := 40, stop := 150, cut := false }, [], at_ [217] [] { framing := [(0, { sealing := [{ port := 5, len := 100, treat := { mode := 0, flow := 7, term := 3 }, frame := 3, ofs := 40, stop := 150, cut := false }] })] }, by decide +kernel⟩⟩

theorem witness_NetworkPorts :
    (∃ (n : Fin 32) (w : Word) (s : State), (s.up (netIsland n) = true) ∧ (otherLane n s = false) ∧ (on NET.PORT_CFG_EN n s = false) ∧ (w.msb = true) ∧ (cfgAllowed n w.toNat s = true) ∧ (64 ≤ w.toNat % 2 ^ 14) ∧ (w.toNat % 2 ^ 14 ≤ 9600)) ∧
    (∃ (n : Fin 32) (w : Word) (s : State), (s.up (netIsland n) = true) ∧ (otherLane n s = false) ∧ (on NET.PORT_CFG_EN n s = false) ∧ (w.msb = true) ∧ (cfgAllowed n w.toNat s = false)) ∧
    (∃ (n : Fin 32) (w : Word) (s : State), (s.up (netIsland n) = true) ∧ (otherLane n s = false) ∧ (on NET.PORT_CFG_EN n s = true) ∧ (w.toNat % 2 ^ 31 ≠ rdWord .net n 0 0 s % 2 ^ 31)) ∧
    (∃ (n : Fin 32) (s : State), (s.up (netIsland n) = true) ∧ (rd NET.STS_LT_STATE n s = 1)) ∧
    (∃ (n : Fin 32) (s : State), (s.up (netIsland n) = true) ∧ (rd NET.STS_LT_STATE n s ≠ 1)) ∧
    (∃ (n : Fin 32) (s : State), (s.up (netIsland n) = true) ∧ (rd NET.STS_LT_STATE n s = 2) ∧ (s.clk ≤ (s.netPort n).attempt + 500000000) ∧ (laneAway n s = false)) ∧
    (∃ (n : Fin 32) (m : Nat) (s : State), (s.up (netIsland n) = true) ∧ (rd NET.STS_LT_STATE n s = 2) ∧ (m = (s.netPort n).fails + 1)) ∧
    (∃ (n : Fin 32) (s : State), (s.up (netIsland n) = true) ∧ (rd NET.STS_LT_STATE n s = 2)) ∧
    (∃ (n : Fin 32) (s : State), (s.up (netIsland n) = true) ∧ (rd NET.STS_LT_STATE n s = 4)) ∧
    (∃ (n : Fin 32) (s : State), (s.up (netIsland n) = true) ∧ (on NET.STS_LINK n s = true)) ∧
    (∃ (n : Fin 32) (s : State), (s.up (netIsland n) = true) ∧ (on NET.STS_LINK n s = true)) ∧
    (∃ (n : Fin 32) (sym : BitVec 24) (s : State), (s.up (netIsland n) = true) ∧ (on NET.PORT_CFG_EN n s = true) ∧ (on NET.STS_FEC_DEG n s = false) ∧ ((s.netPort n).degSet ≤ sym.toNat)) ∧
    (∃ (n : Fin 32) (sym : BitVec 24) (s : State), (s.up (netIsland n) = true) ∧ (on NET.PORT_CFG_EN n s = true) ∧ (on NET.STS_FEC_DEG n s = true) ∧ (sym.toNat < (s.netPort n).degClr)) ∧
    (∃ (n : Fin 32) (s : State), (s.up (netIsland n) = true) ∧ (rd NET.STS_VERIFY n s = 1)) ∧
    (∃ (n : Fin 32) (s : State), (s.up (netIsland n) = true) ∧ (rd NET.STS_VERIFY n s = 1) ∧ ((s.netPort n).verifies < 3)) ∧
    (∃ (n : Fin 32) (s : State), (s.up (netIsland n) = true) ∧ (rd NET.STS_VERIFY n s = 1) ∧ (3 ≤ (s.netPort n).verifies)) ∧
    (∃ (n : Fin 32) (s : State), (s.up (netIsland n) = true)) ∧
    (∃ (n : Fin 32) (b : List Byte) (s : State), (s.up (netIsland n) = true) ∧ (on NET.STS_LINK n s = true) ∧ (b.length < 60)) ∧
    (∃ (n : Fin 32) (b : List Byte) (s : State), (s.up (netIsland n) = true) ∧ (on NET.STS_LINK n s = true) ∧ (60 ≤ b.length) ∧ (b.length + 4 ≤ rd NET.PORT_CFG_MAX_FRAME n s)) ∧
    (∃ (n : Fin 32) (b : List Byte) (s : State), (s.up (netIsland n) = true) ∧ (on NET.STS_LINK n s = true) ∧ (60 ≤ b.length) ∧ (b.length + 4 ≤ rd NET.PORT_CFG_MAX_FRAME n s) ∧ ((∀ k, k < 4 → s.up (207 + k) = true)) ∧ ((∀ i, i < 4 → (s.session i).capture = none))) ∧
    (∃ (n : Fin 32) (s : State), (s.up (netIsland n) = true) ∧ ((s.netPort n).attempt + 500000000 < s.clk ∨ laneAway n s = true)) :=
  ⟨⟨0, 0x900005EE, at_ [96] [], by decide +kernel⟩,
   ⟨1, 0xA00005EE, at_ [97] [], by decide +kernel⟩,
   ⟨1, 0x10000100, at_ [97] [(NET.PORT_CFG_EN, 1, 0, 1), (NET.PORT_CFG_SPEED, 1, 0, 1)], by decide +kernel⟩,
   ⟨0, at_ [96] [(NET.STS_LT_STATE, 0, 0, 1)], by decide +kernel⟩,
   ⟨0, at_ [96] [(NET.STS_LT_STATE, 0, 0, 3)], by decide +kernel⟩,
   ⟨0, at_ [96] [(NET.PORT_CFG_EN, 0, 0, 1), (NET.STS_LT_STATE, 0, 0, 2)], by decide +kernel⟩,
   ⟨0, 3, at_ [96] [(NET.STS_LT_STATE, 0, 0, 2), (NET.LT_CFG_BO_BASE, 0, 0, 10), (NET.LT_CFG_BO_MAXEXP, 0, 0, 4)] { ports := [(0, { fails := 2 })] }, by decide +kernel⟩,
   ⟨0, at_ [96] [(NET.STS_LT_STATE, 0, 0, 2)], by decide +kernel⟩,
   ⟨0, at_ [96] [(NET.STS_LT_STATE, 0, 0, 4)] { ports := [(0, { backoff := 70 })] }, by decide +kernel⟩,
   ⟨0, at_ [96] [(NET.STS_LINK, 0, 0, 1)], by decide +kernel⟩,
   ⟨0, at_ [96] [(NET.STS_LINK, 0, 0, 1)], by decide +kernel⟩,
   ⟨0, 300, at_ [96] [(NET.PORT_CFG_EN, 0, 0, 1), (NET.FEC_CFG_DEG_SET, 0, 0, 7)] { ports := [(0, { degSet := 300 })] }, by decide +kernel⟩,
   ⟨0, 10, at_ [96] [(NET.PORT_CFG_EN, 0, 0, 1), (NET.STS_FEC_DEG, 0, 0, 1)], by decide +kernel⟩,
   ⟨0, at_ [96] [(NET.STS_VERIFY, 0, 0, 1)], by decide +kernel⟩,
   ⟨0, at_ [96] [(NET.STS_VERIFY, 0, 0, 1)] { ports := [(0, { verifies := 2 })] }, by decide +kernel⟩,
   ⟨0, at_ [96] [(NET.STS_VERIFY, 0, 0, 1)] { ports := [(0, { verifies := 3 })] }, by decide +kernel⟩,
   ⟨0, at_ [96] [(NET.LANE_STS_CDR_LOCK, 0, 0, 1)], by decide +kernel⟩,
   ⟨0, [1], at_ [96] [(NET.STS_LINK, 0, 0, 1)], by decide +kernel⟩,
   ⟨0, List.replicate 60 7, at_ [96] [(NET.STS_LINK, 0, 0, 1), (NET.PORT_CFG_MAX_FRAME, 0, 0, 1522)], by decide +kernel⟩,
   ⟨0, List.replicate 60 7, at_ [96, 207, 208, 209, 210] [(NET.STS_LINK, 0, 0, 1), (NET.PORT_CFG_MAX_FRAME, 0, 0, 1522)], by decide +kernel⟩,
   ⟨0, at_ [96] [(NET.STS_LT_STATE, 0, 0, 2)] { clk := 500000001 }, by decide +kernel⟩⟩

theorem witness_TimeKeeping :
    (∃ (m err : Int) (src : Nat) (s : State), (s.up 222 = true) ∧ (rd TIM.CTL_SRC_PRI 0 s = src) ∧ (rd TIM.STS_SRC_USED 0 s = src) ∧ ((src = 1 ∨ src = 2)) ∧ (sourceOk src s = true) ∧ ((rd TIM.STS_STATE 0 s = 1 ∨ rd TIM.STS_STATE 0 s = 2)) ∧ (refError src m s = some err) ∧ (err.natAbs ≤ 32) ∧ (2 ≤ rd TIM.SLEW_CFG_STEP_LIM 0 s)) ∧
    (∃ (m err : Int) (src : Nat) (s : State), (s.up 222 = true) ∧ (rd TIM.CTL_SRC_PRI 0 s = src) ∧ (rd TIM.STS_SRC_USED 0 s = src) ∧ ((src = 1 ∨ src = 2)) ∧ (sourceOk src s = true) ∧ ((rd TIM.STS_STATE 0 s = 1 ∨ rd TIM.STS_STATE 0 s = 2)) ∧ (refError src m s = some err) ∧ (rd TIM.SLEW_CFG_STEP_LIM 0 s < absNs (err * 4096)) ∧ (320 < err.natAbs) ∧ (err * 4096 ≤ (s.ptp : Int) * 65536)) ∧
    (∃ (s : State), (s.up 222 = true) ∧ (rd TIM.STS_STATE 0 s = 1) ∧ (16 ≤ s.tim.lockRun)) ∧
    (∃ (s : State), (s.up 222 = true) ∧ (s.tim.lockRun < 16)) ∧
    (∃ (s : State), (s.up 222 = true) ∧ (rd TIM.STS_STATE 0 s = 2) ∧ (4 ≤ s.tim.unlockRun)) ∧
    (∃ (src : Fin 4) (s : State), (s.up 222 = true) ∧ (rd TIM.CTL_SRC_PRI 0 s = src) ∧ (rd TIM.CTL_SRC_FB 0 s = 0) ∧ ((src = 1 ∨ src = 2)) ∧ (rd TIM.STS_SRC_USED 0 s = src) ∧ (rd TIM.STS_STATE 0 s = 2) ∧ (s.tim.wasLocked = true)) ∧
    (∃ (src fb : Fin 4) (err : Int) (s : State), (s.up 222 = true) ∧ (rd TIM.CTL_SRC_PRI 0 s = src) ∧ (rd TIM.CTL_SRC_FB 0 s = fb) ∧ ((src = 1 ∧ fb = 2 ∨ src = 2 ∧ fb = 1)) ∧ (rd TIM.STS_SRC_USED 0 s = src) ∧ (rd TIM.STS_STATE 0 s = 2) ∧ (sourceOk fb s = true) ∧ (absNs ((err - if fb = 2 then asymmetry s else 0) * 4096) ≤ rd TIM.SLEW_CFG_STEP_LIM 0 s)) ∧
    (∃ (err : Int) (since p : Nat) (s : State), (s.up 222 = true) ∧ (s.tim.priSince = some since) ∧ (rd TIM.CTL_SRC_PRI 0 s = p) ∧ ((p = 1 ∨ p = 2)) ∧ (rd TIM.STS_SRC_USED 0 s ≠ p) ∧ (sourceOk p s = true) ∧ (absNs ((err - if p = 2 then asymmetry s else 0) * 4096) ≤ rd TIM.SLEW_CFG_STEP_LIM 0 s)) ∧
    (∃ (s : State), (s.up 222 = true) ∧ (privileged s = true) ∧ (s.tim.setTime = none) ∧ ((rd TIM.STS_SRC_USED 0 s = 3 ∨ rd TIM.STS_STATE 0 s = 0)) ∧ (absNs (signed 32 (rd TIM.ADJ_OFS 0 s) * 65536) ≤ rd TIM.SLEW_CFG_STEP_LIM 0 s)) ∧
    (∃ (s : State), (s.up 222 = true) ∧ (privileged s = true) ∧ (s.tim.setTime = none) ∧ (rd TIM.STS_SRC_USED 0 s ≠ 3) ∧ (rd TIM.STS_STATE 0 s ≠ 0)) ∧
    (∃ (s : State), (s.up 222 = true) ∧ (privileged s = false)) ∧
    (∃ (s : State), (s.up 222 = true) ∧ (privileged s = true) ∧ (s.tim.setTime = none) ∧ ((rd TIM.STS_SRC_USED 0 s = 3 ∨ rd TIM.STS_STATE 0 s = 0))) ∧
    (∃ (s : State), (s.up 222 = true) ∧ (privileged s = true) ∧ (s.tim.setTime = none)) ∧
    (∃ (s : State), (s.up 222 = true) ∧ (privileged s = true) ∧ (s.tim.setTime ≠ none) ∧ (s.tim.adjHeld = none)) ∧
    (∃ (sec : Nat) (s : State), (s.up 222 = true) ∧ (s.tim.setTime = some sec) ∧ (s.tim.adjHeld = none)) ∧
    (∃ (s : State), (s.up 222 = true) ∧ (rd TIM.STS_SRC_USED 0 s = 3)) ∧
    (∃ (s : State), (s.up 222 = true) ∧ (rd TIM.STS_SRC_USED 0 s ≠ 3)) ∧
    (∃ (d b : Nat) (s : State), (s.up 222 = true) ∧ (s.tim.realignAt = some d) ∧ (b = ((passTo d s).ptp + (if (passTo d s).ptpFrac = 0 then 0 else 1) + 124999) / 125000 * 125000)) ∧
    (∃ (s : State), (s.up 222 = true) ∧ (on TIM.STS_FR_ALIGNED 0 s = false) ∧ (s.tim.realignAt = none) ∧ (s.tim.frErr = 0)) ∧
    (∃ (s : State), (s.up 222 = true) ∧ (on TIM.STS_FR_ALIGNED 0 s = true)) ∧
    (∃ (s : State), (s.up 224 = true) ∧ (s.up 222 = true)) ∧
    (∃ (s : State), (s.up 224 = true) ∧ (s.up 222 = false)) :=
  ⟨⟨3, -29, 1, at_ [222] [(TIM.CTL_SRC_PRI, 0, 0, 1), (TIM.STS_SRC_USED, 0, 0, 1), (TIM.STS_STATE, 0, 0, 1), (TIM.STS_PPS_OK, 0, 0, 1), (TIM.STS_TOD_OK, 0, 0, 1), (TIM.SLEW_CFG_STEP_LIM, 0, 0, 100)] { tim := { lockRun := 3, unlockRun := 1, ppsErr := some (-32) } }, by decide +kernel⟩,
   ⟨0, 16000, 1, at_ [222] [(TIM.CTL_SRC_PRI, 0, 0, 1), (TIM.STS_SRC_USED, 0, 0, 1), (TIM.STS_STATE, 0, 0, 1), (TIM.STS_PPS_OK, 0, 0, 1), (TIM.STS_TOD_OK, 0, 0, 1), (TIM.SLEW_CFG_STEP_LIM, 0, 0, 100)] { ptp := 5000, tim := { ppsErr := some 16000 } }, by decide +kernel⟩,
   ⟨at_ [222] [(TIM.STS_STATE, 0, 0, 1)] { tim := { lockRun := 16 } }, by decide +kernel⟩,
   ⟨at_ [222] [(TIM.STS_STATE, 0, 0, 1)] { tim := { lockRun := 15 } }, by decide +kernel⟩,
   ⟨at_ [222] [(TIM.STS_STATE, 0, 0, 2)] { tim := { unlockRun := 4 } }, by decide +kernel⟩,
   ⟨1, at_ [222] [(TIM.CTL_SRC_PRI, 0, 0, 1), (TIM.CTL_SRC_FB, 0, 0, 0), (TIM.STS_SRC_USED, 0, 0, 1), (TIM.STS_STATE, 0, 0, 2), (TIM.STS_PPS_OK, 0, 0, 1), (TIM.STS_TOD_OK, 0, 0, 1)] { tim := { wasLocked := true } }, by decide +kernel⟩,
   ⟨1, 2, 16, at_ [222] [(TIM.CTL_SRC_PRI, 0, 0, 1), (TIM.CTL_SRC_FB, 0, 0, 2), (TIM.STS_SRC_USED, 0, 0, 1), (TIM.STS_STATE, 0, 0, 2), (TIM.STS_PTP_OK, 0, 0, 1), (TIM.SLEW_CFG_STEP_LIM, 0, 0, 100)], by decide +kernel⟩,
   ⟨16, 100, 1, at_ [222] [(TIM.CTL_SRC_PRI, 0, 0, 1), (TIM.CTL_SRC_FB, 0, 0, 2), (TIM.STS_SRC_USED, 0, 0, 2), (TIM.STS_PPS_OK, 0, 0, 1), (TIM.STS_TOD_OK, 0, 0, 1), (TIM.SLEW_CFG_STEP_LIM, 0, 0, 100)] { tim := { priSince := some 100 } }, by decide +kernel⟩,
   ⟨at_ [222] [(TIM.STS_SRC_USED, 0, 0, 3), (TIM.ADJ_OFS, 0, 0, 0xFFFFFFFF), (TIM.SLEW_CFG_STEP_LIM, 0, 0, 100)] { cmd := { priv := true } }, by decide +kernel⟩,
   ⟨at_ [222] [(TIM.STS_SRC_USED, 0, 0, 1), (TIM.STS_STATE, 0, 0, 2)] { cmd := { priv := true } }, by decide +kernel⟩,
   ⟨at_ [222] [] { cmd := { source := 1 } }, by decide +kernel⟩,
   ⟨at_ [222] [(TIM.STS_SRC_USED, 0, 0, 3), (TIM.STS_STATE, 0, 0, 2)] { cmd := { priv := true } }, by decide +kernel⟩,
   ⟨at_ [222] [] { ptp := 1000, cmd := { priv := true } }, by decide +kernel⟩,
   ⟨at_ [222] [] { cmd := { priv := true }, tim := { setTime := some 9 } }, by decide +kernel⟩,
   ⟨9, at_ [222] [] { tim := { setTime := some 9 }, ptp := 1000 }, by decide +kernel⟩,
   ⟨at_ [222] [(TIM.STS_SRC_USED, 0, 0, 3)], by decide +kernel⟩,
   ⟨at_ [222] [(TIM.STS_SRC_USED, 0, 0, 1)], by decide +kernel⟩,
   ⟨250000, 250000, at_ [222] [] { tim := { realignAt := some 250000, frErr := 70000 } }, by decide +kernel⟩,
   ⟨at_ [222] [(TIM.STS_FR_ALIGNED, 0, 0, 0)], by decide +kernel⟩,
   ⟨at_ [222] [(TIM.STS_FR_ALIGNED, 0, 0, 1)], by decide +kernel⟩,
   ⟨at_ [224, 222] [] { ptp := 77, clk := 5 }, by decide +kernel⟩,
   ⟨at_ [224] [], by decide +kernel⟩⟩

theorem witness_TimingInputs :
    (∃ (e : PpsSeen) (s : State), (s.up 222 = true) ∧ (s.tim.steppedAt ≠ some s.clk) ∧ (e.rising = !on TIM.CTL_PPS_POL 0 s) ∧ (e.held = false)) ∧
    (∃ (e : Nat) (x : PpsSeen) (s : State), (s.up 222 = true) ∧ (s.tim.steppedAt ≠ some s.clk) ∧ (s.tim.lastEdge = some e) ∧ (x.rising = (!on TIM.CTL_PPS_POL 0 s)) ∧ ((e + 1000100000 < s.clk ∨ s.clk + 100000 < e + 1000000000))) ∧
    (∃ (e : Nat) (x : PpsSeen) (s : State), (s.up 222 = true) ∧ (s.tim.steppedAt ≠ some s.clk) ∧ (s.tim.lastEdge = some e) ∧ (s.tim.awaitMsg = false) ∧ (x.rising = (!on TIM.CTL_PPS_POL 0 s)) ∧ (x.held = true) ∧ (s.clk ≤ e + 1000100000) ∧ (e + 1000000000 ≤ s.clk + 100000)) ∧
    (∃ (e : Nat) (s : State), (s.up 222 = true) ∧ (s.tim.lastEdge = some e)) ∧
    (∃ (s : State), (s.up 222 = true) ∧ (s.tim.lastEdge = none)) ∧
    (∃ (b : List Byte) (s : State), (s.up 222 = true) ∧ (todAccepted (b.map (·.toNat)) s = false)) ∧
    (∃ (b : List Byte) (s : State), (s.up 222 = true) ∧ (todAccepted (b.map (·.toNat)) s = true) ∧ (s.tim.awaitMsg = true) ∧ (s.tim.todSec = some (bigNat (((b.map (·.toNat)).drop 4).take 6) - 1)) ∧ (1 ≤ bigNat (((b.map (·.toNat)).drop 4).take 6))) ∧
    (∃ (s : State), (s.up 222 = true) ∧ (3 ≤ s.tim.ppsRun) ∧ (3 ≤ s.tim.todRun)) ∧
    (∃ (s : State), (s.up 222 = true) ∧ (s.tim.ppsRun < 3)) ∧
    (∃ (s : State), (s.up 222 = true) ∧ (rd TIM.CTL_PPSO_MODE 0 s = 1)) ∧
    (∃ (s : State), (s.up 222 = true) ∧ (rd TIM.CTL_PPSO_MODE 0 s = 2)) ∧
    (∃ (s : State), (s.up 222 = true) ∧ (rd TIM.CTL_PPSO_MODE 0 s = 0)) ∧
    (∃ (e : Nat) (s : State), (s.up 222 = true) ∧ (s.tim.ppsOut = some e)) ∧
    (∃ (n : Fin 32) (m : PtpRx) (s : State), (s.up 222 = true) ∧ (on NET.PTP_CFG_RX_EN n s = true) ∧ (ptpUses n s = true) ∧ (rd NET.PTP_CFG_DOMAIN n s = m.domain.toNat) ∧ (m.type = 11) ∧ (Tbl.get 0 s.tim.parent n = m.source.toNat) ∧ (Tbl.get 0 s.tim.ptpSeen n = 0)) ∧
    (∃ (n : Fin 32) (m : PtpRx) (s : State), (s.up 222 = true) ∧ (on NET.PTP_CFG_RX_EN n s = true) ∧ (ptpUses n s = true) ∧ (rd NET.PTP_CFG_DOMAIN n s = m.domain.toNat) ∧ (m.type = 9) ∧ (Tbl.get 0 s.tim.parent n = m.source.toNat)) ∧
    (∃ (n : Fin 32) (s : State), (s.up 222 = true) ∧ (on NET.PTP_CFG_RX_EN n s = false) ∧ (openSession SESS.CTL_PLU_EN s = none)) ∧
    (∃ (n : Fin 32) (s : State), (s.up 222 = true) ∧ (s.tim.ptpPorts = [n.val]) ∧ (rd TIM.PTPR_CFG_PORT_PRI 0 s = n)) ∧
    (∃ (n : Fin 32) (s : State), (s.up 222 = true) ∧ (s.tim.ptpPorts.contains n.val = false)) ∧
    (∃ (p : Fin 32) (e : List Nat) (rest : List (List Nat)) (s : State), (s.up (128 + p) = true) ∧ ((Tbl.get {} s.txts p).entries = e :: rest) ∧ ((Tbl.get {} s.txts p).word = 3)) ∧
    (∃ (p : Fin 32) (e : List Nat) (rest : List (List Nat)) (s : State), (s.up (128 + p) = true) ∧ ((Tbl.get {} s.txts p).entries = e :: rest) ∧ ((Tbl.get {} s.txts p).word < 3)) ∧
    (∃ (x : PpsSeen) (s : State), (s.up 222 = true) ∧ (x.rising = on TIM.CTL_PPS_POL 0 s)) :=
  ⟨⟨{ rising := true, held := false }, at_ [222] [], by decide +kernel⟩,
   ⟨100, { rising := true, held := true }, at_ [222] [] { clk := 1000200101, tim := { lastEdge := some 100 } }, by decide +kernel⟩,
   ⟨100, { rising := true, held := true }, at_ [222] [] { clk := 1000000150, tim := { lastEdge := some 100, ppsRun := 2 } }, by decide +kernel⟩,
   ⟨100, at_ [222] [(TIM.STS_PPS_OK, 0, 0, 1)] { tim := { lastEdge := some 100 } }, by decide +kernel⟩,
   ⟨at_ [222] [], by decide +kernel⟩,
   ⟨[1, 2, 3], at_ [222] [], by decide +kernel⟩,
   ⟨[165, 90, 1, 1, 0, 0, 0, 0, 0, 99, 0, 37, 0, 0, 105, 227], at_ [222] [] { clk := 20000000, tim := { lastEdge := some 0, awaitMsg := true, ppsRun := 1, todSec := some 98, todRun := 1 } }, by decide +kernel⟩,
   ⟨at_ [222] [] { tim := { ppsRun := 3, todRun := 3 } }, by decide +kernel⟩,
   ⟨at_ [222] [] { tim := { ppsRun := 2, todRun := 3 } }, by decide +kernel⟩,
   ⟨at_ [222] [(TIM.CTL_PPSO_MODE, 0, 0, 1), (TIM.CTL_PPSO_W, 0, 0, 10)] { ptp := 1000 }, by decide +kernel⟩,
   ⟨at_ [222] [(TIM.CTL_PPSO_MODE, 0, 0, 2)] { ptp := 1000 }, by decide +kernel⟩,
   ⟨at_ [222] [(TIM.CTL_PPSO_MODE, 0, 0, 0)], by decide +kernel⟩,
   ⟨500, at_ [222] [] { tim := { ppsOut := some 500 } }, by decide +kernel⟩,
   ⟨3, { type := 11, domain := 24, source := 77, best := false, utc := 37, mpd := 0, bytes := [] }, at_ [222] [(NET.PTP_CFG_RX_EN, 3, 0, 1), (NET.PTP_CFG_DOMAIN, 3, 0, 24), (TIM.PTPR_CFG_EN, 0, 0, 1), (TIM.PTPR_CFG_PORT_PRI, 0, 0, 3)] { tim := { parent := [(3, 77)] } }, by decide +kernel⟩,
   ⟨3, { type := 9, domain := 24, source := 77, best := false, utc := 37, mpd := 1000, bytes := [] }, at_ [222] [(NET.PTP_CFG_RX_EN, 3, 0, 1), (NET.PTP_CFG_DOMAIN, 3, 0, 24), (TIM.PTPR_CFG_EN, 0, 0, 1), (TIM.PTPR_CFG_PORT_PRI, 0, 0, 3)] { tim := { parent := [(3, 77)] } }, by decide +kernel⟩,
   ⟨3, at_ [222] [], by decide +kernel⟩,
   ⟨3, at_ [222] [(TIM.PTPR_CFG_PORT_PRI, 0, 0, 3), (TIM.PTPR_CFG_PORT_BK, 0, 0, 3)] { tim := { ptpPorts := [3] } }, by decide +kernel⟩,
   ⟨3, at_ [222] [], by decide +kernel⟩,
   ⟨3, [9, 8, 7, 6], [], at_ [131] [] { txts := [(3, { entries := [[9, 8, 7, 6]], word := 3 })] }, by decide +kernel⟩,
   ⟨3, [9, 8, 7, 6], [], at_ [131] [] { txts := [(3, { entries := [[9, 8, 7, 6]], word := 1 })] }, by decide +kernel⟩,
   ⟨{ rising := false, held := true }, at_ [222] [], by decide +kernel⟩⟩

theorem witness_PartnerLink :
    (∃ (h : Heartbeat) (s : State), (s.up 224 = true) ∧ (pairEn s = true) ∧ (h.crcOk = false)) ∧
    (∃ (h : Heartbeat) (s : State), (s.up 224 = true) ∧ (pairEn s = true) ∧ (h.crcOk = true) ∧ (h.pairId.toNat ≠ rd PAR.PAIR_PAIR_ID 0 s)) ∧
    (∃ (h : Heartbeat) (s : State), (s.up 224 = true) ∧ (pairEn s = true) ∧ (h.crcOk = true) ∧ (h.pairId.toNat = rd PAR.PAIR_PAIR_ID 0 s) ∧ (role s = 0) ∧ (h.role = 1) ∧ (h.linkDown = false) ∧ (linkIsUp s = false) ∧ (h.differs = false) ∧ (s.pair.sw = none)) ∧
    (∃ (s : State), (s.up 224 = true) ∧ (pairEn s = true)) ∧
    (∃ (s : State), (s.up 224 = true) ∧ (3 ≤ s.pair.miss) ∧ (linkIsUp s = true)) ∧
    (∃ (s : State), (s.up 224 = true) ∧ (s.pair.miss < 3)) ∧
    (∃ (s : State), (s.up 224 = true) ∧ (linkIsUp s = false) ∧ (8 ≤ s.pair.okRun)) ∧
    (∃ (s : State), (s.up 224 = true) ∧ (linkIsUp s = true)) ∧
    (∃ (s : State), (s.up 224 = true) ∧ (on PAR.STS_P1_UP 0 s = true) ∧ (on PAR.STS_P0_UP 0 s = true) ∧ (role s ≠ 1)) ∧
    (∃ (m : BitVec 48) (n : Fin 48) (s : State), (s.up 224 = true) ∧ (role s = 1) ∧ (m.toNat = 2 ^ n.val)) ∧
    (∃ (n : Fin 48) (s : State), (s.up (clusterIsland (treeCluster n)) = true) ∧ (role s = 1)) ∧
    (∃ (n : Fin 48) (sp : Sp) (i x w : Nat) (s : State), (s.up (clusterIsland (treeCluster n)) = true) ∧ (role s = 1) ∧ (mirrored sp i x w s = true)) ∧
    (∃ (n : Fin 48) (b : Nat) (s : State), (s.up (clusterIsland (treeCluster n)) = true) ∧ (role s = 1) ∧ (openBank n s = b)) ∧
    (∃ (n : Fin 48) (s : State), (s.up (clusterIsland (treeCluster n)) = true) ∧ (role s = 1)) ∧
    (∃ (n : Fin 48) (s : State), (s.up (clusterIsland (treeCluster n)) = true) ∧ (role s ≠ 1)) ∧
    (∃ (n : Fin 48) (s : State), (s.up (clusterIsland (treeCluster n)) = true) ∧ (role s ≠ 1)) ∧
    (∃ (n : Fin 48) (s : State), (s.up (clusterIsland (treeCluster n)) = true) ∧ (role s = 1) ∧ ((s.grant n).tagged.all (fun d => match d with | .tagged _ sp x w _ => inSnapshot n ⟨sp, n, x, w⟩ | _ => false) = true) ∧ (frameT0 (openFrame n s) < frameBase s + 3100)) ∧
    (∃ (n : Fin 48) (k : Nat) (s : State), (s.up (clusterIsland (treeCluster n)) = true) ∧ (s.up (framingIsland n) = true) ∧ (role s = 1) ∧ (openFrame n s = k) ∧ (frameBase s + 3100 ≤ frameT0 k) ∧ ((s.grant n).tagged.all (fun d => match d with | .tagged _ sp x w _ => inSnapshot n ⟨sp, n, x, w⟩ | _ => false) = true)) ∧
    (∃ (s : State), (s.up 224 = true) ∧ (role s = 1)) ∧
    (∃ (light : List TreeLight) (s : State), (s.up 224 = true) ∧ (pairEn s = true) ∧ (light = [])) ∧
    (∃ (x : TreeLight) (s : State), (s.up 224 = true) ∧ (pairEn s = true) ∧ (x.energy = true) ∧ (on TLN.CTL_RX_EN x.tree s = true)) ∧
    (∃ (s : State), (s.up 224 = true) ∧ (pairEn s = false)) ∧
    (∃ (n : Fin 48) (a b c d : Int) (s : State), (s.up 224 = true) ∧ (role s = 1) ∧ (Tbl.get none s.pair.ofs n = none) ∧ (agree [a, b, c, d] = true) ∧ (((a + b + c + d) / 4).natAbs ≤ 194400 * 64)) ∧
    (∃ (n : Fin 48) (a b c d : Int) (s : State), (s.up 224 = true) ∧ (role s = 1) ∧ (Tbl.get none s.pair.ofs n = none) ∧ (agree [a, b, c, d] = true) ∧ (194400 * 64 < ((a + b + c + d) / 4).natAbs)) ∧
    (∃ (s : State), (s.up 224 = true) ∧ ((pairEn s = false ∨ linkIsUp s = false))) ∧
    (∃ (enc lane : Bool) (s : State), (s.up 224 = true) ∧ (pairEn s = true) ∧ (linkIsUp s = true) ∧ (role s = 2) ∧ (s.up 162 = true) ∧ (rd PAR.HEALTH_SCORE 0 s ≠ 0) ∧ (255 ≤ (List.range 9).foldl (fun a i => if (faultsNow enc lane s).getD i false && maskHas (rd PAR.CHK_EN_EN 0 s) i then a + penalties.getD i 0 else a) 0)) ∧
    (∃ (s : State), (s.up 224 = true) ∧ (role s = 1) ∧ (pairEn s = true)) ∧
    (∃ (s : State), (s.up 224 = true)) ∧
    (∃ (s : State), (s.up 224 = true)) ∧
    (∃ (n : Fin 48) (l : List Int) (s : State), (s.up 224 = true) ∧ ((role s ≠ 1 ∨ Tbl.get none s.pair.ofs n ≠ none ∨ l.length < 4 ∨ agree (l.take 4) = false))) :=
  ⟨⟨{ crcOk := false, p0 := true, p1 := true, pairId := 0, dev := 7, frame := 0, role := 1, epoch := 5, pmode := 0, home := false, score := 200, sync := true, ready := true, live := true, linkDown := false, follows := false, txTime := 0, ack := none, differs := false }, at_ [224] [(PAR.CTL_PAIR_EN, 0, 0, 1)], by decide +kernel⟩,
   ⟨{ crcOk := true, p0 := true, p1 := true, pairId := 4, dev := 7, frame := 0, role := 1, epoch := 5, pmode := 0, home := false, score := 200, sync := true, ready := true, live := true, linkDown := false, follows := false, txTime := 0, ack := none, differs := false }, at_ [224] [(PAR.CTL_PAIR_EN, 0, 0, 1)], by decide +kernel⟩,
   ⟨{ crcOk := true, p0 := true, p1 := true, pairId := 0, dev := 7, frame := 0, role := 1, epoch := 5, pmode := 0, home := false, score := 200, sync := true, ready := true, live := true, linkDown := false, follows := false, txTime := 0, ack := none, differs := false }, at_ [224] [(PAR.CTL_PAIR_EN, 0, 0, 1)], by decide +kernel⟩,
   ⟨at_ [224] [(PAR.CTL_PAIR_EN, 0, 0, 1)], by decide +kernel⟩,
   ⟨at_ [224] [(PAR.STS_LINK, 0, 0, 1), (PAR.STS_LIVE, 0, 0, 1)] { pair := { miss := 3 } }, by decide +kernel⟩,
   ⟨at_ [224] [(PAR.STS_LINK, 0, 0, 1)] { pair := { miss := 2 } }, by decide +kernel⟩,
   ⟨at_ [224] [] { pair := { okRun := 8 } }, by decide +kernel⟩,
   ⟨at_ [224] [(PAR.STS_LINK, 0, 0, 1), (PAR.STS_P0_UP, 0, 0, 1)], by decide +kernel⟩,
   ⟨at_ [224] [(PAR.STS_P1_UP, 0, 0, 1), (PAR.STS_P0_UP, 0, 0, 1)], by decide +kernel⟩,
   ⟨1, 0, at_ [224] [(PAR.STS_P1_UP, 0, 0, 1), (PAR.STS_ROLE, 0, 0, 1), (PAR.STS_SYNC, 0, 0, 1)], by decide +kernel⟩,
   ⟨2, at_ [175] [(PAR.STS_ROLE, 0, 0, 1)], by decide +kernel⟩,
   ⟨2, .preset, 2, 7, 0, at_ [175] [(PAR.STS_ROLE, 0, 0, 1)], by decide +kernel⟩,
   ⟨2, 4, at_ [175] [(PAR.STS_ROLE, 0, 0, 1)], by decide +kernel⟩,
   ⟨2, at_ [175] [(PAR.STS_ROLE, 0, 0, 1)], by decide +kernel⟩,
   ⟨2, at_ [175] [(PAR.STS_ROLE, 0, 0, 2)], by decide +kernel⟩,
   ⟨2, at_ [175] [(PAR.STS_ROLE, 0, 0, 2)], by decide +kernel⟩,
   ⟨2, at_ [175] [(PAR.STS_ROLE, 0, 0, 1)] { ptp := 1000000000 }, by decide +kernel⟩,
   ⟨2, 9000, at_ [175, 167] [(PAR.STS_ROLE, 0, 0, 1)] { grt := [(2, { openFrame := 9000, tagged := [.tagged 9001 .preset 3 0 9] })] }, by decide +kernel⟩,
   ⟨at_ [224] [(PAR.STS_ROLE, 0, 0, 1), (PAR.HEALTH_SCORE, 0, 0, 255)], by decide +kernel⟩,
   ⟨[], at_ [224] [(PAR.STS_SILENT, 0, 0, 65535), (PAR.CTL_PAIR_EN, 0, 0, 1)], by decide +kernel⟩,
   ⟨{ tree := 3, energy := true, outside := false, stray := 0, gap := true }, at_ [224] [(TLN.CTL_RX_EN, 3, 0, 1), (PAR.STS_SILENT, 0, 0, 7), (PAR.CTL_PAIR_EN, 0, 0, 1)], by decide +kernel⟩,
   ⟨at_ [224] [], by decide +kernel⟩,
   ⟨3, -500, -400, -510, -490, at_ [224] [(PAR.STS_ROLE, 0, 0, 1)], by decide +kernel⟩,
   ⟨3, 12441610, 12441620, 12441630, 12441640, at_ [224] [(PAR.STS_ROLE, 0, 0, 1)], by decide +kernel⟩,
   ⟨at_ [224] [], by decide +kernel⟩,
   ⟨true, false, at_ [224, 162] [(PAR.STS_ROLE, 0, 0, 2), (PAR.CTL_PAIR_EN, 0, 0, 1), (PAR.STS_LINK, 0, 0, 1), (PAR.CHK_EN_EN, 0, 0, 511), (PAR.HEALTH_SCORE, 0, 0, 255)], by decide +kernel⟩,
   ⟨at_ [224] [(PAR.STS_ROLE, 0, 0, 1), (PAR.CTL_PAIR_EN, 0, 0, 1), (PAR.HFAULT_FAULT, 0, 0, 5)], by decide +kernel⟩,
   ⟨at_ [224] [] { cls := [(3, { em := [(9, { kind := 1, key := 5 })] })] }, by decide +kernel⟩,
   ⟨at_ [224] [] { cls := [(3, { em := [(9, { kind := 1, key := 5 })] })] }, by decide +kernel⟩,
   ⟨3, [1, 2, 3], at_ [224] [(PAR.STS_ROLE, 0, 0, 1)], by decide +kernel⟩⟩

theorem witness_RoleChanges :
    (∃ (s : State), (s.up 224 = true) ∧ (role s = 2) ∧ (pairEn s = true) ∧ (linkIsUp s = true) ∧ (2 ≤ s.pair.lowRun) ∧ (s.pair.sw = none) ∧ (s.up 162 = true) ∧ (partnerRole s = 1) ∧ (partnerReady s = true)) ∧
    (∃ (s : State), (s.up 224 = true) ∧ (role s = 2) ∧ (pairEn s = true) ∧ (linkIsUp s = true) ∧ (2 ≤ s.pair.lowRun) ∧ (s.pair.sw = none) ∧ (partnerReady s = false)) ∧
    (∃ (s : State), (s.up 224 = true) ∧ (s.up 162 = true) ∧ (role s = 1) ∧ (on PAR.STS_READY 0 s = true)) ∧
    (∃ (s : State), (s.up 224 = true) ∧ (s.up 162 = true) ∧ (role s = 1) ∧ (on PAR.STS_READY 0 s = false)) ∧
    (∃ (x : Switch) (s : State), (s.up 224 = true) ∧ (s.up 162 = true) ∧ (s.pair.sw = some x) ∧ (x.phase = .sent)) ∧
    (∃ (x : Switch) (s : State), (s.up 224 = true) ∧ (s.pair.sw = some x) ∧ (x.phase = .sent) ∧ (s.pair.roleHeld = none)) ∧
    (∃ (x : Switch) (s : State), (s.up 224 = true) ∧ (s.pair.sw = some x) ∧ (x.phase = .acked)) ∧
    (∃ (x : Switch) (s : State), (s.up 224 = true) ∧ (s.pair.sw = some x) ∧ (x.phase = .acked)) ∧
    (∃ (x : Switch) (s : State), (s.up 224 = true) ∧ (s.pair.sw = some x) ∧ (x.phase = .sent) ∧ (s.pair.roleHeld = none)) ∧
    (∃ (x : Switch) (s : State), (s.up 224 = true) ∧ (s.pair.sw = some x) ∧ (x.phase = .bound) ∧ (role s = 2) ∧ (pairEn s = true) ∧ (s.pair.roleHeld = none)) ∧
    (∃ (x : Switch) (s : State), (s.up 224 = true) ∧ (s.pair.sw = some x) ∧ (x.phase = .bound) ∧ (role s = 1) ∧ (pairEn s = true) ∧ (s.pair.roleHeld = none)) ∧
    (∃ (s : State), (s.up 224 = true) ∧ (role s = 1) ∧ (pairEn s = true) ∧ (s.pair.roleHeld = none)) ∧
    (∃ (s : State), (s.up 224 = true) ∧ (role s ≠ 1) ∧ (pairEn s = true)) ∧
    (∃ (since : Nat) (s : State), (s.up 224 = true) ∧ (s.pair.retSince = some since) ∧ (returnable s = true) ∧ (s.up 162 = true)) ∧
    (∃ (s : State), (s.up 224 = true) ∧ (s.up 162 = true) ∧ (role s = 2) ∧ (pairEn s = true) ∧ (s.pair.sw = none) ∧ (rd PAR.CTL_PMODE 0 s = 0)) ∧
    (∃ (s : State), (s.up 224 = true) ∧ (s.up 162 = true) ∧ (role s = 2) ∧ (pairEn s = true) ∧ (s.pair.sw = none) ∧ (rd PAR.CTL_PMODE 0 s ≠ 0)) ∧
    (∃ (x : Switch) (s : State), (s.up 224 = true) ∧ (role s = 2) ∧ (pairEn s = true) ∧ (s.pair.sw = some x)) ∧
    (∃ (s : State), (s.up 224 = true) ∧ (pairEn s = true) ∧ (linkIsUp s = false) ∧ (role s = 1) ∧ (on PAR.STS_READY 0 s = true) ∧ (on PAR.STS_LIVE 0 s = true) ∧ (rd PAR.TIMING_TKO_N 0 s ≤ rd PAR.STS_SILENT 0 s) ∧ (s.pair.roleHeld = none)) ∧
    (∃ (s : State), (s.up 224 = true) ∧ (pairEn s = true) ∧ (linkIsUp s = false) ∧ (role s = 2) ∧ (s.pair.foreign = true) ∧ (s.pair.roleHeld = none)) ∧
    (∃ (s : State), (s.up 224 = true) ∧ (role s = 1) ∧ (on PAR.STS_LIVE 0 s = true) ∧ (rd PAR.STS_SILENT 0 s < rd PAR.TIMING_TKO_N 0 s)) ∧
    (∃ (since : Nat) (s : State), (s.up 224 = true) ∧ (s.pair.formedSince = some since) ∧ (rd PAR.CTL_PMODE 0 s = 1) ∧ (rd PAR.CTL_STARTUP_S 0 s ≠ 0)) ∧
    (∃ (s : State), (s.up 224 = true) ∧ (privileged s = false)) ∧
    (∃ (s : State), (s.up 224 = true) ∧ (privileged s = true) ∧ (pairEn s = true) ∧ (role s = 2) ∧ (linkIsUp s = true) ∧ (partnerReady s = true) ∧ (s.pair.sw = none) ∧ (on PAR.ROLE_CMD_GO 0 s = false)) ∧
    (∃ (s : State), (s.up 224 = true) ∧ (privileged s = true) ∧ (pairEn s = false) ∧ (on PAR.ROLE_CMD_GO 0 s = false)) ∧
    (∃ (s : State), (s.up 224 = true) ∧ (privileged s = true) ∧ (pairEn s = true) ∧ (role s = 1) ∧ (linkIsUp s = false) ∧ (on PAR.ROLE_CMD_GO 0 s = false)) ∧
    (∃ (s : State), (s.up 224 = true) ∧ (privileged s = true) ∧ ((pairEn s && (!linkIsUp s || partnerRole s == 2)) = false) ∧ (on PAR.ROLE_CMD_GO 0 s = false)) ∧
    (∃ (s : State), (s.up 224 = true) ∧ (privileged s = true) ∧ (pairEn s = true) ∧ (role s = 3) ∧ (on PAR.ROLE_CMD_GO 0 s = false)) ∧
    (∃ (s : State), (s.up 224 = true) ∧ (privileged s = true) ∧ (pairEn s = false) ∧ (role s = 3) ∧ (on PAR.ROLE_CMD_GO 0 s = false)) ∧
    (∃ (s : State), (s.up 224 = true) ∧ (privileged s = true) ∧ (role s ≠ 3) ∧ (on PAR.ROLE_CMD_GO 0 s = false)) ∧
    (∃ (s : State), (s.up 224 = true) ∧ (privileged s = true) ∧ (pairEn s = true) ∧ (role s = 1) ∧ (on PAR.ROLE_CMD_GO 0 s = false)) ∧
    (∃ (s : State), (s.up 224 = true) ∧ (pairEn s = false)) ∧
    (∃ (s : State), (s.up 224 = true) ∧ (privileged s = true) ∧ (on PAR.ROLE_CMD_GO 0 s = true) ∧ (s.pair.roleHeld = none)) :=
  ⟨⟨at_ [224, 162] [(PAR.STS_ROLE, 0, 0, 2), (PAR.CTL_PAIR_EN, 0, 0, 1), (PAR.STS_LINK, 0, 0, 1), (PAR.STS_PARTNER_ROLE, 0, 0, 1), (PAR.STS_PARTNER_READY, 0, 0, 1), (PAR.EPOCH, 0, 0, 6)] { pair := { lowRun := 2 } }, by decide +kernel⟩,
   ⟨at_ [224] [(PAR.STS_ROLE, 0, 0, 2), (PAR.CTL_PAIR_EN, 0, 0, 1), (PAR.STS_LINK, 0, 0, 1), (PAR.STS_PARTNER_ROLE, 0, 0, 1)] { pair := { lowRun := 2 } }, by decide +kernel⟩,
   ⟨at_ [224, 162] [(PAR.STS_ROLE, 0, 0, 1), (PAR.STS_READY, 0, 0, 1)], by decide +kernel⟩,
   ⟨at_ [224, 162] [(PAR.STS_ROLE, 0, 0, 1)], by decide +kernel⟩,
   ⟨{ k := 9, phase := .sent, ret := false }, at_ [224, 162] [] { pair := { sw := some { k := 9, phase := .sent, ret := false } } }, by decide +kernel⟩,
   ⟨{ k := 9, phase := .sent, ret := false }, at_ [224] [(PAR.ROLE_CMD_GO, 0, 0, 1)] { pair := { sw := some { k := 9, phase := .sent, ret := false } } }, by decide +kernel⟩,
   ⟨{ k := 9, phase := .acked, ret := false }, at_ [224] [] { pair := { sw := some { k := 9, phase := .acked, ret := false } } }, by decide +kernel⟩,
   ⟨{ k := 9, phase := .acked, ret := false }, at_ [224] [] { pair := { sw := some { k := 9, phase := .acked, ret := false } } }, by decide +kernel⟩,
   ⟨{ k := 9, phase := .sent, ret := false }, at_ [224] [(PAR.ROLE_CMD_GO, 0, 0, 1)] { pair := { sw := some { k := 9, phase := .sent, ret := false } } }, by decide +kernel⟩,
   ⟨{ k := 9, phase := .bound, ret := false }, at_ [224] [(PAR.STS_ROLE, 0, 0, 2), (PAR.CTL_PAIR_EN, 0, 0, 1), (PAR.EPOCH, 0, 0, 6)] { pair := { sw := some { k := 9, phase := .bound, ret := false } } }, by decide +kernel⟩,
   ⟨{ k := 9, phase := .bound, ret := true }, at_ [224] [(PAR.STS_ROLE, 0, 0, 1), (PAR.CTL_PAIR_EN, 0, 0, 1), (PAR.EPOCH, 0, 0, 6)] { pair := { sw := some { k := 9, phase := .bound, ret := true }, partnerEpoch := some 8 } }, by decide +kernel⟩,
   ⟨at_ [224] [(PAR.STS_ROLE, 0, 0, 1), (PAR.CTL_PAIR_EN, 0, 0, 1)], by decide +kernel⟩,
   ⟨at_ [224] [(PAR.STS_ROLE, 0, 0, 2), (PAR.CTL_PAIR_EN, 0, 0, 1)], by decide +kernel⟩,
   ⟨100, at_ [224, 162] [(PAR.STS_ROLE, 0, 0, 1), (PAR.CTL_PAIR_EN, 0, 0, 1), (PAR.CTL_HOME, 0, 0, 1), (PAR.STS_LINK, 0, 0, 1), (PAR.STS_READY, 0, 0, 1), (PAR.STS_SYNC, 0, 0, 1), (PAR.STS_PARTNER_ROLE, 0, 0, 2), (PAR.CTL_PMODE, 0, 0, 0), (PAR.TIMING_RET_S, 0, 0, 2)] { pair := { retSince := some 100 } }, by decide +kernel⟩,
   ⟨at_ [224, 162] [(PAR.STS_ROLE, 0, 0, 2), (PAR.CTL_PAIR_EN, 0, 0, 1), (PAR.CTL_PMODE, 0, 0, 0)], by decide +kernel⟩,
   ⟨at_ [224, 162] [(PAR.STS_ROLE, 0, 0, 2), (PAR.CTL_PAIR_EN, 0, 0, 1), (PAR.CTL_PMODE, 0, 0, 1)], by decide +kernel⟩,
   ⟨{ k := 50, phase := .bound, ret := false }, at_ [224] [(PAR.STS_ROLE, 0, 0, 2), (PAR.CTL_PAIR_EN, 0, 0, 1)] { pair := { sw := some { k := 50, phase := .bound, ret := false } } }, by decide +kernel⟩,
   ⟨at_ [224] [(PAR.STS_ROLE, 0, 0, 1), (PAR.CTL_PAIR_EN, 0, 0, 1), (PAR.STS_READY, 0, 0, 1), (PAR.STS_LIVE, 0, 0, 1), (PAR.STS_SILENT, 0, 0, 5), (PAR.TIMING_TKO_N, 0, 0, 4)], by decide +kernel⟩,
   ⟨at_ [224] [(PAR.STS_ROLE, 0, 0, 2), (PAR.CTL_PAIR_EN, 0, 0, 1)] { pair := { foreign := true } }, by decide +kernel⟩,
   ⟨at_ [224] [(PAR.STS_ROLE, 0, 0, 1), (PAR.CTL_PAIR_EN, 0, 0, 1), (PAR.STS_READY, 0, 0, 1), (PAR.STS_LIVE, 0, 0, 1), (PAR.STS_SILENT, 0, 0, 3), (PAR.TIMING_TKO_N, 0, 0, 4)], by decide +kernel⟩,
   ⟨100, at_ [224] [(PAR.CTL_PMODE, 0, 0, 1), (PAR.CTL_STARTUP_S, 0, 0, 3)] { pair := { formedSince := some 100 } }, by decide +kernel⟩,
   ⟨at_ [224] [] { cmd := { source := 1 } }, by decide +kernel⟩,
   ⟨at_ [224] [(PAR.STS_ROLE, 0, 0, 2), (PAR.CTL_PAIR_EN, 0, 0, 1), (PAR.STS_LINK, 0, 0, 1), (PAR.STS_PARTNER_READY, 0, 0, 1)] { cmd := { priv := true } }, by decide +kernel⟩,
   ⟨at_ [224] [] { cmd := { priv := true } }, by decide +kernel⟩,
   ⟨at_ [224] [(PAR.STS_ROLE, 0, 0, 1), (PAR.CTL_PAIR_EN, 0, 0, 1)] { cmd := { priv := true } }, by decide +kernel⟩,
   ⟨at_ [224] [] { cmd := { priv := true } }, by decide +kernel⟩,
   ⟨at_ [224] [(PAR.STS_ROLE, 0, 0, 3), (PAR.CTL_PAIR_EN, 0, 0, 1)] { cmd := { priv := true } }, by decide +kernel⟩,
   ⟨at_ [224] [(PAR.STS_ROLE, 0, 0, 3)] { cmd := { priv := true } }, by decide +kernel⟩,
   ⟨at_ [224] [(PAR.STS_ROLE, 0, 0, 2)] { cmd := { priv := true } }, by decide +kernel⟩,
   ⟨at_ [224] [(PAR.STS_ROLE, 0, 0, 1), (PAR.CTL_PAIR_EN, 0, 0, 1)] { cmd := { priv := true } }, by decide +kernel⟩,
   ⟨at_ [224] [], by decide +kernel⟩,
   ⟨at_ [224] [(PAR.STS_ROLE, 0, 0, 1), (PAR.ROLE_CMD_GO, 0, 0, 1)] { cmd := { priv := true } }, by decide +kernel⟩⟩

theorem witness_Events :
    (∃ (src : BitVec 8) (bit : BitVec 5) (s : State), (s.up 223 = false) ∧ (s.ev.pending.any (fun p => p.1 == src.toNat && p.2.1 == bit.toNat) = false)) ∧
    (∃ (src : BitVec 8) (bit : BitVec 5) (s : State), (s.up 223 = false) ∧ (s.ev.pending.any (fun p => p.1 == src.toNat && p.2.1 == bit.toNat) = true)) ∧
    (∃ (src : BitVec 8) (bit : BitVec 5) (s : State), (s.up 223 = true) ∧ (maskHas (rd SRC.EN src.toNat s) bit.toNat = false) ∧ (maskHas (rd SRC.CAP_EN src.toNat s) bit.toNat = false)) ∧
    (∃ (src : BitVec 8) (bit : BitVec 5) (s : State), (s.up 223 = true) ∧ (maskHas (rd SRC.EN src.toNat s) bit.toNat = false) ∧ (maskHas (rd SRC.CAP_EN src.toNat s) bit.toNat = true) ∧ (rd SRC.CAP_STS_V0 src.toNat s = 0)) ∧
    (∃ (src : BitVec 8) (bit : BitVec 5) (s : State), (s.up 223 = true) ∧ (maskHas (rd SRC.EN src.toNat s) bit.toNat = false) ∧ (maskHas (rd SRC.CAP_EN src.toNat s) bit.toNat = true) ∧ (rd SRC.CAP_STS_V0 src.toNat s = 1)) ∧
    (∃ (src : BitVec 8) (bit : BitVec 5) (s : State), (s.up 223 = true) ∧ (maskHas (rd SRC.EN src.toNat s) bit.toNat = true) ∧ (on EVT.CTL_DLV_EN 0 s = false)) ∧
    (∃ (src : BitVec 8) (s : State), (s.up 223 = true) ∧ (on EVT.CTL_DLV_EN 0 s = true) ∧ (rd SRC.CFG_COUNT src.toNat s ≠ 0) ∧ (rd SRC.CFG_COUNT src.toNat s ≤ rd SRC.PEND_RAISES src.toNat s) ∧ (on SRC.CFG_PKT src.toNat s = false) ∧ (on SRC.CFG_RELAY src.toNat s = false)) ∧
    (∃ (src : BitVec 8) (s : State), (s.up 223 = true) ∧ ((on EVT.CTL_DLV_EN 0 s = false ∨ rd SRC.CFG_COUNT src.toNat s = 0 ∨ rd SRC.PEND_RAISES src.toNat s < rd SRC.CFG_COUNT src.toNat s))) ∧
    (∃ (src : BitVec 8) (s : State), (s.up 223 = true) ∧ (on EVT.CTL_DLV_EN 0 s = true) ∧ (rd SRC.CFG_COUNT src.toNat s ≠ 0) ∧ (rd SRC.CFG_COUNT src.toNat s ≤ rd SRC.PEND_RAISES src.toNat s) ∧ (on SRC.CFG_PKT src.toNat s = true) ∧ (openSession SESS.CTL_EVT_EN s = none) ∧ (s.ev.relay.length < 256)) ∧
    (∃ (src : BitVec 8) (i : Nat) (s : State), (s.up 223 = true) ∧ (on EVT.CTL_DLV_EN 0 s = true) ∧ (rd SRC.CFG_COUNT src.toNat s ≠ 0) ∧ (rd SRC.CFG_COUNT src.toNat s ≤ rd SRC.PEND_RAISES src.toNat s) ∧ (on SRC.CFG_PKT src.toNat s = true) ∧ (openSession SESS.CTL_EVT_EN s = some i) ∧ (s.up 213 = true) ∧ (s.ev.relay.length < 256)) ∧
    (∃ (src : BitVec 8) (i : Nat) (s : State), (s.up 223 = true) ∧ (on EVT.CTL_DLV_EN 0 s = true) ∧ (rd SRC.CFG_COUNT src.toNat s ≠ 0) ∧ (rd SRC.CFG_COUNT src.toNat s ≤ rd SRC.PEND_RAISES src.toNat s) ∧ (on SRC.CFG_PKT src.toNat s = true) ∧ (openSession SESS.CTL_EVT_EN s = some i) ∧ (s.up 213 = false) ∧ (s.ev.relay.length < 256)) ∧
    (∃ (src : BitVec 8) (s : State), (s.up 223 = true) ∧ (on EVT.CTL_DLV_EN 0 s = true) ∧ (rd SRC.CFG_COUNT src.toNat s ≠ 0) ∧ (rd SRC.CFG_COUNT src.toNat s ≤ rd SRC.PEND_RAISES src.toNat s) ∧ (on SRC.CFG_PKT src.toNat s = false) ∧ (on SRC.CFG_RELAY src.toNat s = true) ∧ (mbakinOn s = true) ∧ (on SYS.CTL_RELAY_EN 0 s = true) ∧ (s.ev.relay.length < 256)) ∧
    (∃ (src : BitVec 8) (e : Nat) (s : State), (s.up 223 = true) ∧ (on EVT.CTL_DLV_EN 0 s = true) ∧ ((Tbl.get {} s.ev.srcx src.toNat).holdEnd = some e) ∧ (rd SRC.PEND_RAISES src.toNat s ≠ 0) ∧ (on SRC.CFG_PKT src.toNat s = false) ∧ (on SRC.CFG_RELAY src.toNat s = false)) ∧
    (∃ (src : BitVec 8) (s : State), (s.up 223 = true) ∧ ((Tbl.get {} s.ev.srcx src.toNat).holdEnd = none)) ∧
    (∃ (s : State), (s.up 223 = true) ∧ (on EVT.CTL_DLV_EN 0 s = false) ∧ ((∀ x, x < 256 → rd SRC.PEND_RAISES x s = 0))) ∧
    (∃ (y : BitVec 8) (s : State), (s.up 223 = true) ∧ (on EVT.CTL_DLV_EN 0 s = false) ∧ ((∀ x, x < 256 → x = y.toNat ∨ rd SRC.PEND_RAISES x s = 0)) ∧ (rd SRC.PEND_RAISES y.toNat s ≠ 0) ∧ (on SRC.CFG_PKT y.toNat s = false) ∧ (on SRC.CFG_RELAY y.toNat s = false) ∧ ((Tbl.get {} s.ev.srcx y.toNat).holdEnd = none)) ∧
    (∃ (src : BitVec 8) (w : Word) (s : State), (s.up 223 = true) ∧ (rd SRC.CAUSE src.toNat s &&& w.toNat = 0)) ∧
    (∃ (s : State), (s.up 223 = true) ∧ (on EVT.CTL_DLV_EN 0 s = false)) ∧
    (∃ (s : State), (s.up 223 = true)) ∧
    (∃ (s : State), (s.up 223 = true)) ∧
    (∃ (p : Fin 2) (e : Nat) (s : State), (s.up 223 = true) ∧ (Tbl.get none s.ev.pulse p = some e)) ∧
    (∃ (e : EventAsk) (i : Nat) (s : State), (s.up 213 = true) ∧ (s.up 223 = true) ∧ (s.ev.asks = [e]) ∧ (s.bpm.reclaim = []) ∧ ((∀ p, p < 4 → bufQueue p s = [] ∧ bufWaiting p s = [])) ∧ (eligible 18 3 1 s = true) ∧ (openSession SESS.CTL_EVT_EN s = some i) ∧ (ringRoom i { kind := 2, opcode := 0x80, arg0 := e.src, arg1 := e.mask, payload := wordsBytes e.pay } s = true)) ∧
    (∃ (e : EventAsk) (s : State), (s.up 213 = true) ∧ (s.up 223 = true) ∧ (s.ev.asks = [e]) ∧ (s.bpm.reclaim = []) ∧ ((∀ p, p < 4 → bufQueue p s = [] ∧ bufWaiting p s = [])) ∧ (eligible 18 3 1 s = false)) :=
  ⟨⟨5, 3, at_ [] [], by decide +kernel⟩,
   ⟨5, 3, at_ [] [] { ev := { pending := [(5, 3, [], none)] } }, by decide +kernel⟩,
   ⟨5, 3, at_ [223] [(SRC.CAP_EN, 5, 0, 0), (SRC.CAUSE, 5, 0, 1)], by decide +kernel⟩,
   ⟨5, 3, at_ [223] [(SRC.CAP_EN, 5, 0, 8)] { ptp := 70000000009 }, by decide +kernel⟩,
   ⟨5, 3, at_ [223] [(SRC.CAP_EN, 5, 0, 8), (SRC.CAP_STS_V0, 5, 0, 1), (SRC.CAP0_2, 5, 0, 77)], by decide +kernel⟩,
   ⟨5, 3, at_ [223] [(SRC.EN, 5, 0, 8), (EVT.CTL_DLV_EN, 0, 0, 0)], by decide +kernel⟩,
   ⟨5, at_ [223] [(EVT.CTL_DLV_EN, 0, 0, 1), (SRC.CFG_COUNT, 5, 0, 2), (SRC.PEND_RAISES, 5, 0, 3), (SRC.CFG_PKT, 5, 0, 0), (SRC.CFG_HOLDOFF, 5, 0, 7)], by decide +kernel⟩,
   ⟨5, at_ [223] [(EVT.CTL_DLV_EN, 0, 0, 1), (SRC.CFG_COUNT, 5, 0, 2), (SRC.PEND_RAISES, 5, 0, 1)], by decide +kernel⟩,
   ⟨5, at_ [223] [(EVT.CTL_DLV_EN, 0, 0, 1), (SRC.CFG_COUNT, 5, 0, 2), (SRC.PEND_RAISES, 5, 0, 3), (SRC.CFG_PKT, 5, 0, 1)], by decide +kernel⟩,
   ⟨5, 0, at_ [223, 213] [(EVT.CTL_DLV_EN, 0, 0, 1), (SRC.CFG_COUNT, 5, 0, 2), (SRC.PEND_RAISES, 5, 0, 3), (SRC.CFG_PKT, 5, 0, 1), (SESS.CTL_EVT_EN, 0, 0, 1)] { sess := [(0, { state := .open })] }, by decide +kernel⟩,
   ⟨5, 0, at_ [223] [(EVT.CTL_DLV_EN, 0, 0, 1), (SRC.CFG_COUNT, 5, 0, 2), (SRC.PEND_RAISES, 5, 0, 3), (SRC.CFG_PKT, 5, 0, 1), (SESS.CTL_EVT_EN, 0, 0, 1)] { sess := [(0, { state := .open })] }, by decide +kernel⟩,
   ⟨5, at_ [223] [(EVT.CTL_DLV_EN, 0, 0, 1), (SRC.CFG_COUNT, 5, 0, 2), (SRC.PEND_RAISES, 5, 0, 3), (SRC.CFG_PKT, 5, 0, 0), (SRC.CFG_RELAY, 5, 0, 1), (SYS.CTL_EN, 0, 0, 1), (SYS.CTL_RELAY_EN, 0, 0, 1)] { nvm := { devnum := some 1 } }, by decide +kernel⟩,
   ⟨5, 900, at_ [223] [(EVT.CTL_DLV_EN, 0, 0, 1), (SRC.PEND_RAISES, 5, 0, 3), (SRC.CFG_PKT, 5, 0, 0)] { ev := { srcx := [(5, { holdEnd := some 900 })] } }, by decide +kernel⟩,
   ⟨5, at_ [223] [], by decide +kernel⟩,
   ⟨at_ [223] [(EVT.CTL_DLV_EN, 0, 0, 0)], by decide +kernel⟩,
   ⟨5, at_ [223] [(EVT.CTL_DLV_EN, 0, 0, 0), (SRC.PEND_RAISES, 5, 0, 3), (SRC.CFG_PKT, 5, 0, 0)], by decide +kernel⟩,
   ⟨5, 0xC0, at_ [223] [(SRC.CAUSE, 5, 0, 3), (SRC.PEND_RAISES, 5, 0, 3)], by decide +kernel⟩,
   ⟨at_ [223] [(EVT.CTL_DLV_EN, 0, 0, 0), (SRC.PEND_RAISES, 5, 0, 3)], by decide +kernel⟩,
   ⟨at_ [223] [(SRC.CAUSE, 5, 0, 5)], by decide +kernel⟩,
   ⟨at_ [223] [(SRC.CAUSE, 5, 0, 5)], by decide +kernel⟩,
   ⟨1, 900, at_ [223] [] { ev := { pulse := [(1, some 900)] } }, by decide +kernel⟩,
   ⟨{ src := 5, mask := 3, pay := [1, 2] }, 0, at_ [223, 213] [(SESS.CTL_EVT_EN, 0, 0, 1), (BPM.POOL_S_CNT, 0, 0, 1), (BPM.POOL_C_CNT, 0, 0, 4), (BPM.CTL_LOCK, 0, 0, 1), (QUOTA.MAX, 18, 3, 9)] { bpm := { listed := true }, ev := { asks := [{ src := 5, mask := 3, pay := [1, 2] }] }, sess := [(0, { state := .open })] }, by decide +kernel⟩,
   ⟨{ src := 5, mask := 3, pay := [1, 2] }, at_ [223, 213] [] { bpm := { listed := true }, ev := { asks := [{ src := 5, mask := 3, pay := [1, 2] }] } }, by decide +kernel⟩⟩

theorem witness_PerformanceCounters :
    (∃ (s : State), (s.up 223 = true)) ∧
    (∃ (i : Fin 64) (s : State), (s.up 223 = true) ∧ ((s.pmuVal i).wraps ≠ 0) ∧ (i.val % 2 = 1) ∧ (pmuEnabled s = [])) ∧
    (∃ (i : Fin 64) (s : State), (s.up 223 = true) ∧ ((s.pmuVal i).wraps = 0)) ∧
    (∃ (i : Fin 64) (s : State), (s.up 223 = true) ∧ ((s.pmuVal i).wraps = 1) ∧ (i.val % 2 = 0) ∧ (on PMUC.CFG_CHAIN (i + 1) s = true) ∧ (on PMUC.CFG_EN (i + 1) s = true) ∧ (rd PMUC.CFG_WIN_MODE (i + 1) s = 0)) ∧
    (∃ (i : Fin 64) (s : State), (s.up 223 = true) ∧ (windowed i s = true) ∧ ((∀ x, x < 64 → rd PMUC.CFG_EVENT x s = 0))) ∧
    (∃ (i : Fin 64) (s : State), (s.up 223 = true) ∧ (windowed i s = false)) ∧
    (∃ (w : Word) (s : State), (s.up 223 = true) ∧ (w.toNat / 2 ^ 16 % 2 ^ 8 ≤ 10) ∧ (w.toNat / 2 ^ 30 % 2 = 0)) ∧
    (∃ (w : Word) (s : State), (s.up 223 = true) ∧ (10 < w.toNat / 2 ^ 16 % 2 ^ 8)) ∧
    (∃ (i : Fin 64) (w : Word) (s : State), (s.up 223 = true) ∧ (argOk (rd PMUC.CFG_EVENT i s) w.toNat = true)) :=
  ⟨⟨at_ [223] [] { pmu := [(3, { val := 5, stagedHi := 2 })] }, by decide +kernel⟩,
   ⟨3, at_ [223] [] { pmu := [(3, { wraps := 2 })] }, by decide +kernel⟩,
   ⟨3, at_ [223] [], by decide +kernel⟩,
   ⟨2, at_ [223] [(PMUC.CFG_CHAIN, 3, 0, 1), (PMUC.CFG_EN, 3, 0, 1)] { pmu := [(2, { wraps := 1 }), (3, { val := 2 ^ 48 - 1 })] }, by decide +kernel⟩,
   ⟨3, at_ [223] [(PMUC.CFG_EN, 3, 0, 1), (PMUC.CFG_WIN_MODE, 3, 0, 1), (PMUC.WIN_US, 3, 0, 10), (PMUC.THR_HI, 3, 0, 4), (PMUC.CFG_SHIFT, 3, 0, 1)] { pmu := [(3, { window := 10 })] }, by decide +kernel⟩,
   ⟨3, at_ [223] [], by decide +kernel⟩,
   ⟨0x80023000, at_ [223] [], by decide +kernel⟩,
   ⟨0x800B0000, at_ [223] [], by decide +kernel⟩,
   ⟨3, 163, at_ [223] [(PMUC.CFG_EVENT, 3, 0, 3)], by decide +kernel⟩⟩

theorem witness_CounterLatches :
    (∃ (s : State), (s.up 223 = true)) ∧
    (∃ (s : State), (s.up 223 = true) ∧ (on PMU.CTL_SNAP_MODE 0 s = false)) ∧
    (∃ (s : State), (s.up 223 = true) ∧ (on PMU.CTL_SNAP_MODE 0 s = true)) ∧
    (∃ (i : Fin 64) (src : Fin 5) (ofs : BitVec 24) (s : State), (ofs.toNat = 0x44118 + 0x20 * i) ∧ (Runs src ofs.toNat s)) :=
  ⟨⟨at_ [223] [] { pmu := [(3, { val := 5, latch := 1 })] }, by decide +kernel⟩,
   ⟨at_ [223] [(PMU.CTL_SNAP_MODE, 0, 0, 0)] { pmu := [(3, { val := 5, latch := 1 })] }, by decide +kernel⟩,
   ⟨at_ [223] [(PMU.CTL_SNAP_MODE, 0, 0, 1)] { pmu := [(3, { val := 5, latch := 1 })] }, by decide +kernel⟩,
   ⟨3, 0, 0x44178, at_ [223] [] { pmu := [(3, { val := 5, latch := 3 * 2 ^ 32 })] }, by decide +kernel⟩⟩

theorem witness_SystemMessages :
    (∃ (s : State), (s.up 223 = true) ∧ (s.nvm.devnum = none)) ∧
    (∃ (s : State), (s.up 223 = true) ∧ (s.nvm.devnum ≠ none) ∧ (on SYS.CTL_EN 0 s = false)) ∧
    (∃ (m : MbakinMsg) (s : State), (s.up 223 = true) ∧ (s.nvm.devnum ≠ none) ∧ (on SYS.CTL_EN 0 s = true) ∧ ((m.ver ≠ 1 ∨ m.type = 0 ∨ 7 < m.type.toNat ∨ 1400 < m.bodyLen.toNat ∨ m.body.length < m.bodyLen.toNat ∨ (m.dst ≠ none ∧ m.dst.map (·.toNat) ≠ s.nvm.devnum)))) ∧
    (∃ (m : MbakinMsg) (s : State), (s.up 223 = true) ∧ (s.nvm.devnum ≠ none) ∧ (on SYS.CTL_EN 0 s = true) ∧ (m.ver = 1) ∧ (m.type ≠ 0) ∧ (m.type.toNat ≤ 7) ∧ (m.bodyLen.toNat ≤ 1400) ∧ (m.bodyLen.toNat ≤ m.body.length) ∧ ((m.dst = none ∨ m.dst.map (·.toNat) = s.nvm.devnum)) ∧ (m.macOk = false)) ∧
    (∃ (m : MbakinMsg) (s : State), (s.up 223 = true) ∧ (s.nvm.devnum ≠ none) ∧ (on SYS.CTL_EN 0 s = true) ∧ (m.ver = 1) ∧ (m.type ≠ 0) ∧ (m.type.toNat ≤ 7) ∧ (m.bodyLen.toNat ≤ 1400) ∧ (m.bodyLen.toNat ≤ m.body.length) ∧ ((m.dst = none ∨ m.dst.map (·.toNat) = s.nvm.devnum)) ∧ (m.macOk = true) ∧ ((s.ptp + rd SYS.TOL_TIME_TOL 0 s * 1000000 < sendingTime m s ∨ sendingTime m s + rd SYS.TOL_TIME_TOL 0 s * 1000000 < s.ptp))) ∧
    (∃ (m : MbakinMsg) (s : State), (s.up 223 = true) ∧ (s.nvm.devnum ≠ none) ∧ (on SYS.CTL_EN 0 s = true) ∧ (m.ver = 1) ∧ (m.type ≠ 0) ∧ (m.type.toNat ≤ 7) ∧ (m.bodyLen.toNat ≤ 1400) ∧ (m.bodyLen.toNat ≤ m.body.length) ∧ ((m.dst = none ∨ m.dst.map (·.toNat) = s.nvm.devnum)) ∧ (m.macOk = true) ∧ (sendingTime m s = s.ptp) ∧ (newerSeq m s = false)) ∧
    (∃ (m : MbakinMsg) (s : State), (s.up 223 = true) ∧ (s.nvm.devnum = some m.src.toNat) ∧ (on SYS.CTL_EN 0 s = true) ∧ (m.ver = 1) ∧ (m.type ≠ 0) ∧ (m.type.toNat ≤ 7) ∧ (m.bodyLen.toNat ≤ 1400) ∧ (m.bodyLen.toNat ≤ m.body.length) ∧ (m.dst = none) ∧ (m.macOk = true) ∧ (sendingTime m s = s.ptp) ∧ (newerSeq m s = true)) ∧
    (∃ (m : MbakinMsg) (s : State), (s.up 223 = true) ∧ (s.nvm.devnum ≠ none) ∧ (s.nvm.devnum ≠ some m.src.toNat) ∧ (on SYS.CTL_EN 0 s = true) ∧ (m.ver = 1) ∧ (m.type = 1) ∧ (m.bodyLen.toNat ≤ 1400) ∧ (m.bodyLen.toNat ≤ m.body.length) ∧ (m.dst = none) ∧ (m.macOk = true) ∧ (sendingTime m s = s.ptp) ∧ (newerSeq m s = true) ∧ (m.expRole = 0xFF) ∧ (rdx PEER.ALIVE 0 m.src.toNat s = 1)) ∧
    (∃ (m : MbakinMsg) (s : State), (s.up 223 = true) ∧ (s.nvm.devnum ≠ none) ∧ (s.nvm.devnum ≠ some m.src.toNat) ∧ (on SYS.CTL_EN 0 s = true) ∧ (m.ver = 1) ∧ (m.type = 3) ∧ (m.bodyLen.toNat ≤ 1400) ∧ (m.bodyLen.toNat ≤ m.body.length) ∧ (m.dst = none) ∧ (m.macOk = true) ∧ (sendingTime m s = s.ptp) ∧ (newerSeq m s = true) ∧ (wrongRole m s = true) ∧ (rd SYS.PORTS 0 s = 0)) ∧
    (∃ (m : MbakinMsg) (s : State), (s.up 223 = true) ∧ (s.nvm.devnum ≠ none) ∧ (s.nvm.devnum ≠ some m.src.toNat) ∧ (on SYS.CTL_EN 0 s = true) ∧ (m.ver = 1) ∧ (m.type = 3) ∧ (m.bodyLen.toNat ≤ 1400) ∧ (m.bodyLen.toNat ≤ m.body.length) ∧ (m.dst = none) ∧ (m.macOk = true) ∧ (sendingTime m s = s.ptp) ∧ (newerSeq m s = true) ∧ (wrongRole m s = false) ∧ (rd SYS.PORTS 0 s = 0)) ∧
    (∃ (s : State), (s.up 223 = true) ∧ ((on SYS.CTL_EN 0 s = false ∨ s.nvm.devnum = none))) ∧
    (∃ (s : State), (s.up 223 = true) ∧ (on SYS.CTL_EN 0 s = true) ∧ (s.nvm.devnum ≠ none) ∧ (rd SYS.PORTS 0 s = 0)) ∧
    (∃ (p : BitVec 10) (s : State), (s.up 223 = true) ∧ (rdx PEER.ALIVE 0 p.toNat s = 1)) ∧
    (∃ (w : Word) (s : State), (s.up 223 = true) ∧ (maskHas w.toNat 31 = true) ∧ (s.nvm.devnum = none)) ∧
    (∃ (w : Word) (s : State), (s.up 223 = true) ∧ (s.nvm.devnum ≠ none) ∧ (2 ≤ w.toNat / 2 ^ 8 % 2 ^ 4) ∧ (w.toNat % 2 ^ 8 ≠ 0) ∧ (w.toNat / 2 ^ 12 % 2 ^ 12 < 4095)) ∧
    (∃ (s : State), (s.up 223 = true) ∧ (privileged s = true) ∧ (rd SYS.KEY_IDX_WORD 0 s = 3)) ∧
    (∃ (s : State), (s.up 223 = true) ∧ (privileged s = true) ∧ (rd SYS.KEY_IDX_WORD 0 s ≠ 3) ∧ (on SYS.KEY_IDX_AUTO_INC 0 s = true)) ∧
    (∃ (s : State), (s.up 223 = true) ∧ (privileged s = false)) :=
  ⟨⟨at_ [223] [(SYS.CTL_EN, 0, 0, 1)], by decide +kernel⟩,
   ⟨at_ [223] [] { nvm := { devnum := some 1 } }, by decide +kernel⟩,
   ⟨{ msg_ with ver := 2 }, at_ [223] [(SYS.CTL_EN, 0, 0, 1)] { nvm := { devnum := some 1 } }, by decide +kernel⟩,
   ⟨{ msg_ with macOk := false }, at_ [223] [(SYS.CTL_EN, 0, 0, 1)] { nvm := { devnum := some 1 } }, by decide +kernel⟩,
   ⟨{ msg_ with sec := 9 }, at_ [223] [(SYS.CTL_EN, 0, 0, 1), (SYS.TOL_TIME_TOL, 0, 0, 5)] { nvm := { devnum := some 1 } }, by decide +kernel⟩,
   ⟨{ msg_ with seq := 6 }, at_ [223] [(SYS.CTL_EN, 0, 0, 1)] { nvm := { devnum := some 1 }, sys := { lastSeq := [(5, 7 * 32 + 1)] } }, by decide +kernel⟩,
   ⟨msg_, at_ [223] [(SYS.CTL_EN, 0, 0, 1)] { nvm := { devnum := some 5 } }, by decide +kernel⟩,
   ⟨msg_, at_ [223] [(SYS.CTL_EN, 0, 0, 1), (PEER.ALIVE, 0, 5, 1)] { nvm := { devnum := some 1 }, sys := { lastSeq := [(5, 6 * 32 + 1)] } }, by decide +kernel⟩,
   ⟨{ msg_ with type := 3, expRole := 2 }, at_ [223] [(SYS.CTL_EN, 0, 0, 1)] { nvm := { devnum := some 1 } }, by decide +kernel⟩,
   ⟨{ msg_ with type := 3 }, at_ [223] [(SYS.CTL_EN, 0, 0, 1)] { nvm := { devnum := some 1 } }, by decide +kernel⟩,
   ⟨at_ [223] [(SYS.CTL_EN, 0, 0, 0)], by decide +kernel⟩,
   ⟨at_ [223] [(SYS.CTL_EN, 0, 0, 1), (SYS.CTL_HB_MS, 0, 0, 4)] { nvm := { devnum := some 1 }, sys := { lastHb := 7, seq := 65535 } }, by decide +kernel⟩,
   ⟨5, at_ [223] [(PEER.ALIVE, 0, 5, 1), (SYS.CTL_HB_MS, 0, 0, 4), (SYS.CTL_HB_MISS, 0, 0, 3)] { sys := { heard := [(5, 11)] } }, by decide +kernel⟩,
   ⟨0x80000000, at_ [223] [], by decide +kernel⟩,
   ⟨0x80123405, at_ [223] [] { nvm := { devnum := some 4 } }, by decide +kernel⟩,
   ⟨at_ [223] [(SYS.KEY_IDX_WORD, 0, 0, 3)] { cmd := { priv := true }, sys := { stage := [(0, 1), (2, 3)] } }, by decide +kernel⟩,
   ⟨at_ [223] [(SYS.KEY_IDX_WORD, 0, 0, 1), (SYS.KEY_IDX_AUTO_INC, 0, 0, 1)] { cmd := { priv := true } }, by decide +kernel⟩,
   ⟨at_ [223] [(SYS.KEY_IDX_WORD, 0, 0, 3)], by decide +kernel⟩⟩

theorem witness_PortLink :
    (∃ (s : State), (s.up 223 = true) ∧ (s.cmd.link = 1)) ∧
    (∃ (s : State), (s.up 223 = true) ∧ (s.cmd.link ≠ 1)) ∧
    (∃ (s : State), (s.up 223 = true) ∧ (s.cmd.link = 1)) ∧
    (∃ (s : State), (s.up 223 = true) ∧ (2 ≤ s.cmd.link)) ∧
    (∃ (s : State), (s.up 223 = true) ∧ (s.cmd.link < 2)) ∧
    (∃ (s : State), (s.up 223 = true) ∧ (s.cmd.link = 0) ∧ (usb4Islands s = true)) ∧
    (∃ (s : State), (s.up 223 = true) ∧ (s.nvm.state ≠ 4)) :=
  ⟨⟨at_ [223] [] { cmd := { link := 1 } }, by decide +kernel⟩,
   ⟨at_ [223] [] { cmd := { link := 3 } }, by decide +kernel⟩,
   ⟨at_ [223] [] { cmd := { link := 1 } }, by decide +kernel⟩,
   ⟨at_ [223] [] { cmd := { link := 3, priv := true }, sess := [(0, { state := .open }), (2, { state := .fault, waiting := [{ kind := 1, opcode := 1 }] })] }, by decide +kernel⟩,
   ⟨at_ [223] [] { cmd := { link := 1 } }, by decide +kernel⟩,
   ⟨at_ [223, 164, 165, 166] [(CMD.CTL_USB4_EN, 0, 0, 0)], by decide +kernel⟩,
   ⟨at_ [223, 164, 165, 166] [(CMD.CTL_USB4_EN, 0, 0, 1)] { cmd := { link := 2, priv := true }, sess := [(0, { state := .open })] }, by decide +kernel⟩⟩

theorem witness_FrameStart :
    (∃ (n : Fin 48) (s : State), (s.up (framingIsland n) = true) ∧ (s.pair.pendingRole = none) ∧ ((s.fram n).built = none)) ∧
    (∃ (n : Fin 48) (b : Built) (s : State), (s.up (framingIsland n) = true) ∧ (s.pair.pendingRole = none) ∧ ((s.fram n).built = some b) ∧ (b.frame = startingFrame n s) ∧ (rd TLN.STS_TX_STATE n s = 2) ∧ (testing n s = false)) ∧
    (∃ (n : Fin 48) (b : Built) (s : State), (s.up (framingIsland n) = true) ∧ (s.pair.pendingRole = none) ∧ ((s.fram n).built = some b) ∧ (b.frame = startingFrame n s) ∧ ((rd TLN.STS_TX_STATE n s ≠ 2 ∨ testing n s = true)) ∧ ((s.fram n).cur = none)) :=
  ⟨⟨0, at_ [167] [], by decide +kernel⟩,
   ⟨0, { frame := 1, smoker := [], map := none, emptyHeader := false, void := false, ploams := [] }, at_ [167] [(TLN.STS_TX_STATE, 0, 0, 2)] { framing := [(0, { built := some { frame := 1, smoker := [], map := none, emptyHeader := false, void := false, ploams := [] } })] }, by decide +kernel⟩,
   ⟨0, { frame := 1, smoker := [], map := none, emptyHeader := false, void := false, ploams := [] }, at_ [167] [] { framing := [(0, { built := some { frame := 1, smoker := [], map := none, emptyHeader := false, void := false, ploams := [] }, xgems := [100, 200] })] }, by decide +kernel⟩⟩

theorem witness_ResetsAndFeeds :
    (∃ (a b : Bool) (s : State), (powered s = false) ∧ ((a || b) = true)) ∧
    (∃ (a b : Bool) (s : State), ((powered s = true ∨ (a || b) = false))) ∧
    (∃ (w : Nat) (s : State), (powered s = true) ∧ (10000 ≤ w)) ∧
    (∃ (w : Nat) (s : State), (powered s = true) ∧ (100 ≤ w) ∧ (w < 2000)) ∧
    (∃ (w : Nat), (w < 100)) ∧
    (∃ (s : State), (s.up 224 = true) ∧ (privileged s = true) ∧ (s.rst.phase ≠ 0) ∧ (s.rst.blockDue = none)) ∧
    (∃ (s : State), (s.up 224 = true) ∧ (privileged s = false) ∧ (s.rst.blockDue = none)) ∧
    (∃ (s : State), (s.up 224 = true) ∧ (privileged s = true)) ∧
    (∃ (s : State), (s.rst.feedA = true) ∧ (s.rst.feedB = true)) ∧
    (∃ (s : State), (s.rst.feedA = true) ∧ (s.rst.feedB = false)) ∧
    (∃ (f : Fin 2) (s : State), (feedUp f s = false) ∧ (feedUp (1 - f) s = true)) ∧
    (∃ (s : State), (powered s = false)) ∧
    (∃ (s : State), (powered s = true) ∧ (s.rst.coreGood = true)) ∧
    (∃ (s : State), (powered s = true) ∧ (s.rst.coreGood = false) ∧ (s.rst.coreEver = true) ∧ (s.rst.phase ≠ 0)) ∧
    (∃ (s : State), (s.rst.coreGood = true)) ∧
    (∃ (ok : Bool) (s : State), (s.up 222 = false) ∧ (s.rst.refclk = true) ∧ (s.rst.phase ≤ 4) ∧ (ok = false)) ∧
    (∃ (ok : Bool) (s : State), (s.up 222 = false) ∧ (s.rst.refclk = false) ∧ (1 ≤ s.rst.phase) ∧ (s.rst.phase ≤ 4) ∧ (ok = true)) :=
  ⟨⟨true, false, at_ [7, 224] [(RST.WARM_CNT, 0, 0, 4)] { ptp := 8 }, by decide +kernel⟩,
   ⟨true, false, at_ [] [] { rst := { feedB := true } }, by decide +kernel⟩,
   ⟨10000, at_ [7] [(RST.WARM_CNT, 0, 0, 4)] { rst := { feedA := true, fuseValid := true, fuse := [(3, 1)] } }, by decide +kernel⟩,
   ⟨700, at_ [223] [] { rst := { feedA := true } }, by decide +kernel⟩,
   ⟨60, by decide +kernel⟩,
   ⟨at_ [7, 223, 224] [(RST.WARM_CNT, 0, 0, 4)] { rst := { feedA := true, phase := 7 }, cmd := { priv := true } }, by decide +kernel⟩,
   ⟨at_ [223, 224] [], by decide +kernel⟩,
   ⟨at_ [7, 223, 224] [(RST.WARM_CNT, 0, 0, 4)] { rst := { feedA := true, phase := 7 }, cmd := { priv := true } }, by decide +kernel⟩,
   ⟨at_ [223] [] { rst := { feedA := true, feedB := true } }, by decide +kernel⟩,
   ⟨at_ [7, 223, 224] [] { rst := { feedA := true }, tim := { copy := some (5, 6) } }, by decide +kernel⟩,
   ⟨0, at_ [223] [] { rst := { feedB := true } }, by decide +kernel⟩,
   ⟨at_ [] [] { rst := { phase := 7 } }, by decide +kernel⟩,
   ⟨at_ [7, 223, 224] [(PAR.STS_ROLE, 0, 0, 2)] { rst := { feedA := true, coreGood := true } }, by decide +kernel⟩,
   ⟨at_ [] [] { rst := { feedA := true, coreGood := false, coreEver := true, phase := 7 } }, by decide +kernel⟩,
   ⟨at_ [] [] { rst := { coreGood := true } }, by decide +kernel⟩,
   ⟨false, at_ [] [] { rst := { phase := 1, stallAt := some 5 } }, by decide +kernel⟩,
   ⟨true, at_ [] [(RST.CTL_STALL_MS, 0, 0, 9)] { rst := { refclk := false, phase := 2 } }, by decide +kernel⟩⟩

theorem witness_IslandsAndPins :
    (∃ (i : Fin 226) (f : BitVec 16) (s : State), (mayRelease i f.toNat s = true)) ∧
    (∃ (i : Fin 226) (f : BitVec 16) (s : State), (mayRelease i f.toNat s = false)) ∧
    (∃ (i : Fin 226) (e : Nat) (s : State), (s.up 224 = true) ∧ (s.rst.stallAt = some e) ∧ (phaseOf i = s.rst.phase) ∧ (s.up i = false) ∧ (held i s = false) ∧ ((s.island i).clkGood = false) ∧ (i.val ≠ 160) ∧ (i.val ≠ 162)) ∧
    (∃ (s : State), (s.up 224 = true) ∧ (s.rst.stallAt = none)) ∧
    (∃ (i : Fin 226) (pll : Bool) (f : BitVec 16) (s : State), (powered s = true) ∧ (i.val ≠ 224) ∧ (s.up i = true) ∧ ((pll = true ∨ freqGood f.toNat = false))) ∧
    (∃ (i : Fin 226) (pll : Bool) (f : BitVec 16) (s : State), ((powered s = false ∨ i.val = 224 ∨ (pll = false ∧ freqGood f.toNat = true)))) ∧
    (∃ (n : Fin 48) (s : State), ((s.island n).pllLock = true) ∧ (s.up n = true)) ∧
    (∃ (n : Fin 48) (s : State), ((s.island n).pllLock = false)) ∧
    (∃ (i : BitVec 8) (s : State), (s.up 224 = true) ∧ (privileged s = true) ∧ (s.rst.blockDue = none) ∧ (i.toNat < 226) ∧ (i.toNat ≠ 224) ∧ (blockWaits i.toNat = false) ∧ (s.up i.toNat = true)) ∧
    (∃ (i : BitVec 8) (s : State), (s.up 224 = true) ∧ (privileged s = true) ∧ (s.up i.toNat = true) ∧ (blockWaits i.toNat = true)) ∧
    (∃ (i : BitVec 8) (s : State), (s.up 224 = true) ∧ (privileged s = true) ∧ (s.rst.blockDue = none) ∧ (224 = i.toNat ∨ 225 < i.toNat)) ∧
    (∃ (i : BitVec 8) (s : State), (s.up 224 = true) ∧ (privileged s = true) ∧ (s.rst.blockDue = none) ∧ (i.toNat < 226)) ∧
    (∃ (s : State), (s.up 224 = true) ∧ (s.rst.io18 = true) ∧ (s.rst.fuseValid = false) ∧ (4 < s.rst.phase) ∧ ((∀ p, p < 1020 → fuseCode p s < 5))) ∧
    (∃ (s : State), (s.up 224 = true) ∧ ((s.rst.io18 = false ∨ s.rst.fuseValid = true))) ∧
    (∃ (s : State), ((s.up 224 = false ∨ s.rst.fuseValid = true))) ∧
    (∃ (s : State), (s.up 224 = true) ∧ (s.rst.fuseValid = false) ∧ (4 < s.rst.phase) ∧ ((∀ p, p < 1020 → fuseCode p s < 5))) ∧
    (∃ (w : Word) (s : State), (s.up 224 = true) ∧ (privileged s = true) ∧ (roleTest s = true) ∧ (w.toNat % 8 ≤ 4)) ∧
    (∃ (w : Word) (s : State), (s.up 224 = true) ∧ (privileged s = true) ∧ (roleTest s = false) ∧ (w.toNat % 8 ≤ 4) ∧ (maskHas w.toNat 31 = true)) ∧
    (∃ (l : List Int) (s : State), (s.up 224 = true) ∧ (l = [20, 21]) ∧ (s.rst.badSensors = []) ∧ (s.rst.overTemp = false)) ∧
    (∃ (l : List Int) (s : State), (s.up 224 = true) ∧ (l = [108, 109]) ∧ (s.rst.badSensors = []) ∧ (s.rst.overTemp = false) ∧ (s.rst.warnTemp = false)) ∧
    (∃ (s : State), (powered s = true) ∧ (s.rst.thermTrip = false)) ∧
    (∃ (s : State), ((powered s = false ∨ s.rst.thermTrip = true))) :=
  ⟨⟨7, 9, at_ [223, 224] [] { rst := { feedA := true, coreGood := true, phase := 4 } }, by decide +kernel⟩,
   ⟨7, 2001, at_ [224] [] { rst := { feedA := true, coreGood := true, phase := 4 } }, by decide +kernel⟩,
   ⟨7, 900, at_ [224] [] { rst := { feedA := true, coreGood := true, phase := 4, stallAt := some 900 } }, by decide +kernel⟩,
   ⟨at_ [224] [], by decide +kernel⟩,
   ⟨7, true, 0, at_ [3, 7, 223, 224] [(RST.CTL_RELAPSE_LIMIT, 0, 0, 1)] { rst := { feedA := true } }, by decide +kernel⟩,
   ⟨7, false, 3, at_ [7, 224] [] { rst := { feedA := true } }, by decide +kernel⟩,
   ⟨3, at_ [3, 223, 224] [(RST.CTL_RELAPSE_LIMIT, 0, 0, 9)] { islands := [(3, { up := true, pllLock := true }), (223, { up := true }), (224, { up := true })] }, by decide +kernel⟩,
   ⟨3, at_ [223] [], by decide +kernel⟩,
   ⟨7, at_ [3, 7, 223, 224] [] { rst := { feedA := true }, cmd := { priv := true } }, by decide +kernel⟩,
   ⟨223, at_ [223, 224] [] { rst := { feedA := true }, cmd := { priv := true } }, by decide +kernel⟩,
   ⟨224, at_ [223, 224] [] { cmd := { priv := true } }, by decide +kernel⟩,
   ⟨7, at_ [223, 224] [] { cmd := { priv := true }, islands := [(7, { held := true, relapses := [4] }), (223, { up := true }), (224, { up := true })] }, by decide +kernel⟩,
   ⟨at_ [223, 224] [] { rst := { phase := 7 } }, by decide +kernel⟩,
   ⟨at_ [224] [] { rst := { fuseValid := true } }, by decide +kernel⟩,
   ⟨at_ [] [], by decide +kernel⟩,
   ⟨at_ [224] [] { rst := { phase := 7, io18 := false } }, by decide +kernel⟩,
   ⟨0x80000002, at_ [223, 224] [(PAR.STS_ROLE, 0, 0, 3), (RST.PIN_IDX_PIN, 0, 0, 77)] { cmd := { priv := true } }, by decide +kernel⟩,
   ⟨0x80000002, at_ [223, 224] [(PAR.STS_ROLE, 0, 0, 0), (RST.PIN_IDX_PIN, 0, 0, 77)] { cmd := { priv := true } }, by decide +kernel⟩,
   ⟨[20, 21], at_ [223, 224] [], by decide +kernel⟩,
   ⟨[108, 109], at_ [223, 224] [], by decide +kernel⟩,
   ⟨at_ [223, 224] [(PAR.STS_ROLE, 0, 0, 2)] { rst := { feedA := true } }, by decide +kernel⟩,
   ⟨at_ [223, 224] [] { rst := { feedA := true, thermTrip := true } }, by decide +kernel⟩⟩

theorem witness_ImageStart :
    (∃ (s : State), (s.up 225 = true) ∧ (s.nvm.needShadow = true)) ∧
    (∃ (s : State), (s.up 225 = true) ∧ (s.nvm.needShadow = false)) ∧
    (∃ (s : State), (s.up 225 = true) ∧ (s.nvm.needShadow = false) ∧ (s.nvm.needDiscovery = true) ∧ (s.nvm.state = 0) ∧ (s.nvm.order = [])) ∧
    (∃ (slot : Nat) (rest : List Nat) (c : CheckNow) (s : State), (s.up 225 = true) ∧ (s.nvm.check = some c) ∧ (c.slots = slot :: rest) ∧ (c.boot = false) ∧ (slot < 2)) ∧
    (∃ (slot : Fin 2) (len arb e : Nat) (s : State), (s.up 225 = true) ∧ (s.nvm.check = none) ∧ (s.nvm.flashHeld = none) ∧ (s.nvm.flashOp = some { op := 3, slot := slot, addr := 0, len := len, since := some e, arb := arb })) ∧
    (∃ (s : State), (s.up 225 = true) ∧ (s.nvm.check = none) ∧ (s.nvm.flashOp = none)) ∧
    (∃ (e : DirEntry) (rest : List DirEntry) (m : ImageCopy) (s : State), (s.up 225 = true) ∧ (s.nvm.run = none) ∧ (s.nvm.flashOp = none) ∧ (s.nvm.image = some m) ∧ (nextReplay s = none) ∧ (s.nvm.todo = e :: rest) ∧ (passedOver e s = false)) ∧
    (∃ (m : ImageCopy) (s : State), (s.up 225 = true) ∧ (s.nvm.run = none) ∧ (s.nvm.flashOp = none) ∧ (s.nvm.image = some m) ∧ (nextReplay s = none) ∧ (s.nvm.todo = []) ∧ (s.nvm.state = 2)) ∧
    (∃ (r : RunNow) (a b : Nat) (s : State), (s.up 225 = true) ∧ (s.up 223 = true) ∧ (s.nvm.run = some r) ∧ (r.wait = none) ∧ (s.rst.blockDue = none) ∧ (recordHere r s = some (1, 0x42010, [a, b])) ∧ (a < 2 ^ 16) ∧ (b < 2 ^ 32)) ∧
    (∃ (r : RunNow) (a b : Nat) (s : State), (s.up 225 = true) ∧ (s.up 223 = true) ∧ (s.nvm.run = some r) ∧ (r.wait = none) ∧ (s.rst.blockDue = none) ∧ (recordHere r s = some (2, 0x42024, [a, b])) ∧ (a < 2 ^ 32) ∧ (b < 2 ^ 32) ∧ (on SYS.KEY_IDX_AUTO_INC 0 s = true) ∧ (rd SYS.KEY_IDX_WORD 0 s = 0)) ∧
    (∃ (r : RunNow) (m v : Nat) (s : State), (s.up 225 = true) ∧ (s.up 223 = true) ∧ (s.nvm.run = some r) ∧ (r.wait = none) ∧ (s.rst.blockDue = none) ∧ (recordHere r s = some (3, 0x42008, [m, v]))) ∧
    (∃ (r : RunNow) (m v n : Nat) (s : State), (s.up 225 = true) ∧ (s.up 223 = true) ∧ (s.nvm.run = some r) ∧ (r.wait = none) ∧ (recordHere r s = some (4, 0x42008, [m, v, n]))) ∧
    (∃ (r : RunNow) (m v u x : Nat) (s : State), (s.up 225 = true) ∧ (s.up 223 = true) ∧ (x ≤ u) ∧ (s.rst.blockDue = none) ∧ (s.nvm.run = some { r with wait := some { ofs := 0x42008, mask := m, value := v, until_ := u, next := x, rest := [] } })) ∧
    (∃ (r : RunNow) (m v u x : Nat) (s : State), (s.up 225 = true) ∧ (s.up 223 = true) ∧ (s.rst.blockDue = none) ∧ (s.nvm.run = some { r with wait := some { ofs := 0x42008, mask := m, value := v, until_ := u, next := x, rest := [] } }) ∧ (rd SYS.PORTS 0 s &&& m ≠ v)) ∧
    (∃ (r : RunNow) (pay : List Nat) (s : State), (s.up 225 = true) ∧ (s.up 223 = true) ∧ (s.nvm.run = some r) ∧ (r.wait = none) ∧ (s.rst.blockDue = none) ∧ (s.nvm.replays = []) ∧ (recordHere r s = some (5, 0x42008, pay)) ∧ (pay.length = 5)) ∧
    (∃ (r : RunNow) (a : Nat) (s : State), (s.up 225 = true) ∧ (s.up 223 = true) ∧ (s.nvm.run = some r) ∧ (r.wait = none) ∧ (s.rst.blockDue = none) ∧ (recordHere r s = some (6, 0, [0x42020, 2, 0x42024, 1, a])) ∧ (a < 2 ^ 32)) ∧
    (∃ (r : RunNow) (s : State), (s.up 225 = true) ∧ (s.nvm.run = some r) ∧ (r.wait = none) ∧ (r.replay = false) ∧ (r.entry.island ≠ 225) ∧ (recordHere r s = some (15, 0, [])) ∧ (s.nvm.state ≠ 2)) ∧
    (∃ (s : State), (s.up 225 = true) ∧ ((s.nvm.needDiscovery = false ∨ s.nvm.needShadow = true))) ∧
    (∃ (l : List Nat) (s : State), (s.up 225 = true) ∧ (s.nvm.needShadow = false) ∧ (s.nvm.needDiscovery = true) ∧ (s.nvm.state = 0) ∧ (s.nvm.order = l) ∧ (l ≠ [])) ∧
    (∃ (s : State), (s.up 225 = true) ∧ (s.nvm.needShadow = false) ∧ (s.nvm.needDiscovery = true) ∧ (s.nvm.state ≠ 0)) ∧
    (∃ (slot : Nat) (rest : List Nat) (c : CheckNow) (s : State), (s.up 225 = true) ∧ (s.nvm.check = some c) ∧ (c.slots = slot :: rest) ∧ (c.boot = true) ∧ (slot < 2)) ∧
    (∃ (s : State), (s.up 225 = true) ∧ ((s.nvm.run ≠ none ∨ flashFree s = false ∨ s.nvm.image = none))) ∧
    (∃ (i : Nat) (e : DirEntry) (m : ImageCopy) (s : State), (s.up 225 = true) ∧ (s.nvm.run = none) ∧ (flashFree s = true) ∧ (s.nvm.image = some m) ∧ (nextReplay s = some i) ∧ (runEntry i s = some e)) ∧
    (∃ (i : Nat) (m : ImageCopy) (s : State), (s.up 225 = true) ∧ (s.nvm.run = none) ∧ (flashFree s = true) ∧ (s.nvm.image = some m) ∧ (nextReplay s = some i) ∧ (runEntry i s = none)) ∧
    (∃ (e : DirEntry) (rest : List DirEntry) (m : ImageCopy) (s : State), (s.up 225 = true) ∧ (s.nvm.run = none) ∧ (flashFree s = true) ∧ (s.nvm.image = some m) ∧ (nextReplay s = none) ∧ (skipRuns s.nvm.todo s = e :: rest)) ∧
    (∃ (m : ImageCopy) (s : State), (s.up 225 = true) ∧ (s.nvm.run = none) ∧ (flashFree s = true) ∧ (s.nvm.image = some m) ∧ (nextReplay s = none) ∧ (skipRuns s.nvm.todo s = [])) ∧
    (∃ (r : RunNow) (ofs : Nat) (pay : List Nat) (s : State), (s.up 225 = true) ∧ (s.nvm.run = some r) ∧ (r.wait = none) ∧ (recordHere r s = some (1, ofs, pay))) ∧
    (∃ (r : RunNow) (ofs : Nat) (pay : List Nat) (s : State), (s.up 225 = true) ∧ (s.nvm.run = some r) ∧ (r.wait = none) ∧ (recordHere r s = some (2, ofs, pay))) ∧
    (∃ (r : RunNow) (ofs m v : Nat) (s : State), (s.up 225 = true) ∧ (s.nvm.run = some r) ∧ (r.wait = none) ∧ (recordHere r s = some (3, ofs, [m, v]))) ∧
    (∃ (r : RunNow) (ofs m v n : Nat) (w : WaitRun) (s : State), (s.up 225 = true) ∧ (s.nvm.run = some r) ∧ (r.wait = none) ∧ (recordHere r s = some (4, ofs, [m, v, n])) ∧ (w = { ofs := ofs, mask := m, value := v, until_ := s.clk + n * 1000, next := s.clk + 100, rest := [] })) ∧
    (∃ (r : RunNow) (ofs : Nat) (pay : List Nat) (s : State), (s.up 225 = true) ∧ (s.nvm.run = some r) ∧ (r.wait = none) ∧ (recordHere r s = some (5, ofs, pay))) ∧
    (∃ (r : RunNow) (ofs : Nat) (pay : List Nat) (s : State), (s.up 225 = true) ∧ (s.nvm.run = some r) ∧ (r.wait = none) ∧ (recordHere r s = some (6, ofs, pay))) ∧
    (∃ (r : RunNow) (ofs : Nat) (s : State), (s.up 225 = true) ∧ (s.nvm.run = some r) ∧ (r.wait = none) ∧ (recordHere r s = some (15, ofs, [])) ∧ (cmacWords (keyNumber 0 s) (runWords s.nvm.slot r.entry s) = r.entry.cmac) ∧ (runOk r.entry.island (setting 5 3 3 s == 1) ((runWords s.nvm.slot r.entry s).length + 1) r.entry.records (runWords s.nvm.slot r.entry s) = true)) ∧
    (∃ (c : Instr) (r : RunNow) (s : State), (c ∈ ([.recordWrite, .recordStream, .recordModify, .recordWait, .recordKey, .recordTable, .recordEnd] : List Instr)) ∧ (s.up 225 = true) ∧ (s.nvm.run = some r) ∧ (r.wait = none) ∧ (recordHere r s = none)) ∧
    (∃ (c : Instr) (s : State), (c ∈ ([.recordWrite, .recordStream, .recordModify, .recordWait, .recordKey, .recordTable, .recordEnd] : List Instr)) ∧ (s.up 225 = true) ∧ ((s.nvm.run = none ∨ ∃ r, s.nvm.run = some r ∧ r.wait ≠ none))) :=
  ⟨⟨at_ [225, 223] [(⟨.otpFuse, 0, 31, 0⟩, 0, 2, 0x80000005)], by decide +kernel⟩,
   ⟨at_ [225] [] { nvm := { needShadow := false } }, by decide +kernel⟩,
   ⟨at_ [225] [(NVM.CTL_NEXT_SLOT, 0, 0, 2)] { nvm := { needShadow := false }, rst := { cold := false } }, by decide +kernel⟩,
   ⟨0, [1], { slots := [0, 1], order := [0, 1], boot := false, arb := 0, readFailed := false }, at_ [225, 223] [(⟨.flash, 0, 31, 0⟩, 0, 3, 0)] { nvm := { needShadow := false, check := some { slots := [0, 1], order := [0, 1], boot := false, arb := 0, readFailed := false } } }, by decide +kernel⟩,
   ⟨1, 0, 9, 7, at_ [225, 223] [(⟨.flash, 0, 31, 0⟩, 0, 3, 0), (⟨.flash, 0, 31, 0⟩, 0, 0x1000003, 0)] { nvm := { flashOp := some { op := 3, slot := 1, addr := 0, len := 0, since := some 7, arb := 9 } } }, by decide +kernel⟩,
   ⟨at_ [225] [], by decide +kernel⟩,
   ⟨{ island := 223, ofs := 96, len := 24, records := 2, cmac := 0 }, [], { arb := 0, imageId := 1, nonce := 2, dir := [] }, at_ [225, 223] [] { nvm := { state := 2, image := some { arb := 0, imageId := 1, nonce := 2, dir := [] }, todo := [{ island := 223, ofs := 96, len := 24, records := 2, cmac := 0 }] } }, by decide +kernel⟩,
   ⟨{ arb := 0, imageId := 1, nonce := 2, dir := [] }, at_ [225, 223, 224] [] { nvm := { state := 2, image := some { arb := 0, imageId := 1, nonce := 2, dir := [] } } }, by decide +kernel⟩,
   ⟨{ entry := { island := 223, ofs := 96, len := 60, records := 2, cmac := 0 }, pos := 96, replay := false, skips := false, wait := none }, 5, 6, at_ [225, 223] [(⟨.flash, 0, 31, 0⟩, 0, 24, 0x01000002), (⟨.flash, 0, 31, 0⟩, 0, 25, 0x42010), (⟨.flash, 0, 31, 0⟩, 0, 26, 5), (⟨.flash, 0, 31, 0⟩, 0, 27, 6)] { nvm := { run := some { entry := { island := 223, ofs := 96, len := 60, records := 2, cmac := 0 }, pos := 96, replay := false, skips := false, wait := none } } }, by decide +kernel⟩,
   ⟨{ entry := { island := 223, ofs := 96, len := 60, records := 2, cmac := 0 }, pos := 96, replay := false, skips := false, wait := none }, 5, 6, at_ [225, 223] [(⟨.flash, 0, 31, 0⟩, 0, 24, 0x02000002), (⟨.flash, 0, 31, 0⟩, 0, 25, 0x42024), (⟨.flash, 0, 31, 0⟩, 0, 26, 5), (⟨.flash, 0, 31, 0⟩, 0, 27, 6), (SYS.KEY_IDX_AUTO_INC, 0, 0, 1)] { nvm := { run := some { entry := { island := 223, ofs := 96, len := 60, records := 2, cmac := 0 }, pos := 96, replay := false, skips := false, wait := none } } }, by decide +kernel⟩,
   ⟨{ entry := { island := 223, ofs := 96, len := 60, records := 2, cmac := 0 }, pos := 96, replay := false, skips := false, wait := none }, 0xFF, 6, at_ [225, 223] [(⟨.flash, 0, 31, 0⟩, 0, 24, 0x03000002), (⟨.flash, 0, 31, 0⟩, 0, 25, 0x42008), (⟨.flash, 0, 31, 0⟩, 0, 26, 0xFF), (⟨.flash, 0, 31, 0⟩, 0, 27, 6), (SYS.PORTS, 0, 0, 0x1234)] { nvm := { run := some { entry := { island := 223, ofs := 96, len := 60, records := 2, cmac := 0 }, pos := 96, replay := false, skips := false, wait := none } } }, by decide +kernel⟩,
   ⟨{ entry := { island := 223, ofs := 96, len := 60, records := 2, cmac := 0 }, pos := 96, replay := false, skips := false, wait := none }, 0xFF, 6, 10, at_ [225, 223] [(⟨.flash, 0, 31, 0⟩, 0, 24, 0x04000003), (⟨.flash, 0, 31, 0⟩, 0, 25, 0x42008), (⟨.flash, 0, 31, 0⟩, 0, 26, 0xFF), (⟨.flash, 0, 31, 0⟩, 0, 27, 6), (⟨.flash, 0, 31, 0⟩, 0, 28, 10), (SYS.PORTS, 0, 0, 0x1234)] { nvm := { run := some { entry := { island := 223, ofs := 96, len := 60, records := 2, cmac := 0 }, pos := 96, replay := false, skips := false, wait := none } } }, by decide +kernel⟩,
   ⟨{ entry := { island := 223, ofs := 96, len := 60, records := 2, cmac := 0 }, pos := 96, replay := false, skips := false, wait := none }, 0xFF, 6, 1000, 100, at_ [225, 223] [(SYS.PORTS, 0, 0, 0x1234)] { nvm := { run := some { entry := { island := 223, ofs := 96, len := 60, records := 2, cmac := 0 }, pos := 96, replay := false, skips := false, wait := some { ofs := 0x42008, mask := 0xFF, value := 6, until_ := 1000, next := 100, rest := [] } } } }, by decide +kernel⟩,
   ⟨{ entry := { island := 223, ofs := 96, len := 60, records := 2, cmac := 0 }, pos := 96, replay := false, skips := false, wait := none }, 0xFF, 6, 1000, 100, at_ [225, 223] [(SYS.PORTS, 0, 0, 0x1234)] { nvm := { run := some { entry := { island := 223, ofs := 96, len := 60, records := 2, cmac := 0 }, pos := 96, replay := false, skips := false, wait := some { ofs := 0x42008, mask := 0xFF, value := 6, until_ := 1000, next := 100, rest := [] } } } }, by decide +kernel⟩,
   ⟨{ entry := { island := 223, ofs := 96, len := 60, records := 2, cmac := 0 }, pos := 96, replay := false, skips := false, wait := none }, [1, 2, 3, 4, 5], at_ [225, 223] [(⟨.flash, 0, 31, 0⟩, 0, 24, 0x05000005), (⟨.flash, 0, 31, 0⟩, 0, 25, 0x42008), (⟨.flash, 0, 31, 0⟩, 0, 26, 1), (⟨.flash, 0, 31, 0⟩, 0, 27, 2), (⟨.flash, 0, 31, 0⟩, 0, 28, 3), (⟨.flash, 0, 31, 0⟩, 0, 29, 4), (⟨.flash, 0, 31, 0⟩, 0, 30, 5), (SYS.PORTS, 0, 0, 0x1234)] { nvm := { run := some { entry := { island := 223, ofs := 96, len := 60, records := 2, cmac := 0 }, pos := 96, replay := false, skips := false, wait := none } } }, by decide +kernel⟩,
   ⟨{ entry := { island := 223, ofs := 96, len := 60, records := 2, cmac := 0 }, pos := 96, replay := false, skips := false, wait := none }, 5, at_ [225, 223] [(⟨.flash, 0, 31, 0⟩, 0, 24, 0x06000005), (⟨.flash, 0, 31, 0⟩, 0, 25, 0), (⟨.flash, 0, 31, 0⟩, 0, 26, 0x42020), (⟨.flash, 0, 31, 0⟩, 0, 27, 2), (⟨.flash, 0, 31, 0⟩, 0, 28, 0x42024), (⟨.flash, 0, 31, 0⟩, 0, 29, 1), (⟨.flash, 0, 31, 0⟩, 0, 30, 5)] { nvm := { run := some { entry := { island := 223, ofs := 96, len := 60, records := 2, cmac := 0 }, pos := 96, replay := false, skips := false, wait := none } } }, by decide +kernel⟩,
   ⟨{ entry := { island := 223, ofs := 96, len := 8, records := 1, cmac := 0 }, pos := 96, replay := false, skips := false, wait := none }, at_ [225, 223] [(⟨.flash, 0, 31, 0⟩, 0, 24, 0x0F000000), (⟨.flash, 0, 31, 0⟩, 0, 25, 0)] { nvm := { run := some { entry := { island := 223, ofs := 96, len := 8, records := 1, cmac := 0 }, pos := 96, replay := false, skips := false, wait := none } } }, by decide +kernel⟩,
   ⟨at_ [225] [], by decide +kernel⟩,
   ⟨[0], at_ [225, 223] [] { nvm := { needShadow := false, order := [0] } }, by decide +kernel⟩,
   ⟨at_ [225] [] { nvm := { needShadow := false, state := 3 } }, by decide +kernel⟩,
   ⟨0, [1], { slots := [0, 1], order := [0, 1], boot := true, arb := 0, readFailed := false }, at_ [225, 223] [(⟨.flash, 0, 31, 0⟩, 0, 3, 0)] { nvm := { needShadow := false, check := some { slots := [0, 1], order := [0, 1], boot := true, arb := 0, readFailed := false } } }, by decide +kernel⟩,
   ⟨at_ [225] [], by decide +kernel⟩,
   ⟨223, { island := 223, ofs := 96, len := 24, records := 2, cmac := 0 }, { arb := 0, imageId := 1, nonce := 2, dir := [{ island := 223, ofs := 96, len := 24, records := 2, cmac := 0 }] }, at_ [225, 223] [] { nvm := { state := 3, image := some { arb := 0, imageId := 1, nonce := 2, dir := [{ island := 223, ofs := 96, len := 24, records := 2, cmac := 0 }] }, replays := [223] } }, by decide +kernel⟩,
   ⟨223, { arb := 0, imageId := 1, nonce := 2, dir := [] }, at_ [225, 223] [] { nvm := { state := 3, image := some { arb := 0, imageId := 1, nonce := 2, dir := [] }, replays := [223] } }, by decide +kernel⟩,
   ⟨{ island := 223, ofs := 96, len := 24, records := 2, cmac := 0 }, [], { arb := 0, imageId := 1, nonce := 2, dir := [] }, at_ [225, 223] [] { nvm := { state := 2, image := some { arb := 0, imageId := 1, nonce := 2, dir := [] }, todo := [{ island := 223, ofs := 96, len := 24, records := 2, cmac := 0 }] } }, by decide +kernel⟩,
   ⟨{ arb := 0, imageId := 1, nonce := 2, dir := [] }, at_ [225, 223, 224] [] { nvm := { state := 2, image := some { arb := 0, imageId := 1, nonce := 2, dir := [] } } }, by decide +kernel⟩,
   ⟨{ entry := { island := 223, ofs := 96, len := 60, records := 2, cmac := 0 }, pos := 96, replay := false, skips := false, wait := none }, 0x42008, [5, 6], at_ [225, 223] [(⟨.flash, 0, 31, 0⟩, 0, 24, 16777218), (⟨.flash, 0, 31, 0⟩, 0, 25, 270344), (⟨.flash, 0, 31, 0⟩, 0, 26, 5), (⟨.flash, 0, 31, 0⟩, 0, 27, 6)] { nvm := { run := some { entry := { island := 223, ofs := 96, len := 60, records := 2, cmac := 0 }, pos := 96, replay := false, skips := false, wait := none } } }, by decide +kernel⟩,
   ⟨{ entry := { island := 223, ofs := 96, len := 60, records := 2, cmac := 0 }, pos := 96, replay := false, skips := false, wait := none }, 0x42008, [5, 6], at_ [225, 223] [(⟨.flash, 0, 31, 0⟩, 0, 24, 33554434), (⟨.flash, 0, 31, 0⟩, 0, 25, 270344), (⟨.flash, 0, 31, 0⟩, 0, 26, 5), (⟨.flash, 0, 31, 0⟩, 0, 27, 6)] { nvm := { run := some { entry := { island := 223, ofs := 96, len := 60, records := 2, cmac := 0 }, pos := 96, replay := false, skips := false, wait := none } } }, by decide +kernel⟩,
   ⟨{ entry := { island := 223, ofs := 96, len := 60, records := 2, cmac := 0 }, pos := 96, replay := false, skips := false, wait := none }, 0x42008, 0xFF, 6, at_ [225, 223] [(⟨.flash, 0, 31, 0⟩, 0, 24, 50331650), (⟨.flash, 0, 31, 0⟩, 0, 25, 270344), (⟨.flash, 0, 31, 0⟩, 0, 26, 255), (⟨.flash, 0, 31, 0⟩, 0, 27, 6)] { nvm := { run := some { entry := { island := 223, ofs := 96, len := 60, records := 2, cmac := 0 }, pos := 96, replay := false, skips := false, wait := none } } }, by decide +kernel⟩,
   ⟨{ entry := { island := 223, ofs := 96, len := 60, records := 2, cmac := 0 }, pos := 96, replay := false, skips := false, wait := none }, 0x42008, 0xFF, 6, 10, { ofs := 0x42008, mask := 0xFF, value := 6, until_ := 10000, next := 100, rest := [] }, at_ [225, 223] [(⟨.flash, 0, 31, 0⟩, 0, 24, 67108867), (⟨.flash, 0, 31, 0⟩, 0, 25, 270344), (⟨.flash, 0, 31, 0⟩, 0, 26, 255), (⟨.flash, 0, 31, 0⟩, 0, 27, 6), (⟨.flash, 0, 31, 0⟩, 0, 28, 10)] { nvm := { run := some { entry := { island := 223, ofs := 96, len := 60, records := 2, cmac := 0 }, pos := 96, replay := false, skips := false, wait := none } } }, by decide +kernel⟩,
   ⟨{ entry := { island := 223, ofs := 96, len := 60, records := 2, cmac := 0 }, pos := 96, replay := false, skips := false, wait := none }, 0x42008, [1, 2, 3, 4, 5], at_ [225, 223] [(⟨.flash, 0, 31, 0⟩, 0, 24, 83886085), (⟨.flash, 0, 31, 0⟩, 0, 25, 270344), (⟨.flash, 0, 31, 0⟩, 0, 26, 1), (⟨.flash, 0, 31, 0⟩, 0, 27, 2), (⟨.flash, 0, 31, 0⟩, 0, 28, 3), (⟨.flash, 0, 31, 0⟩, 0, 29, 4), (⟨.flash, 0, 31, 0⟩, 0, 30, 5)] { nvm := { run := some { entry := { island := 223, ofs := 96, len := 60, records := 2, cmac := 0 }, pos := 96, replay := false, skips := false, wait := none } } }, by decide +kernel⟩,
   ⟨{ entry := { island := 223, ofs := 96, len := 60, records := 2, cmac := 0 }, pos := 96, replay := false, skips := false, wait := none }, 0, [0x42008, 7, 0x42008, 1, 8], at_ [225, 223] [(⟨.flash, 0, 31, 0⟩, 0, 24, 100663301), (⟨.flash, 0, 31, 0⟩, 0, 25, 0), (⟨.flash, 0, 31, 0⟩, 0, 26, 270344), (⟨.flash, 0, 31, 0⟩, 0, 27, 7), (⟨.flash, 0, 31, 0⟩, 0, 28, 270344), (⟨.flash, 0, 31, 0⟩, 0, 29, 1), (⟨.flash, 0, 31, 0⟩, 0, 30, 8)] { nvm := { run := some { entry := { island := 223, ofs := 96, len := 60, records := 2, cmac := 0 }, pos := 96, replay := false, skips := false, wait := none } } }, by decide +kernel⟩,
   ⟨{ entry := { island := 223, ofs := 96, len := 8, records := 1, cmac := cmacWords 0 [0x0F000000, 0] }, pos := 96, replay := true, skips := false, wait := none }, 0, at_ [225, 223] [(⟨.flash, 0, 31, 0⟩, 0, 24, 0x0F000000), (⟨.flash, 0, 31, 0⟩, 0, 25, 0)] { nvm := { run := some { entry := { island := 223, ofs := 96, len := 8, records := 1, cmac := cmacWords 0 [0x0F000000, 0] }, pos := 96, replay := true, skips := false, wait := none } } }, by and_intros <;> first | decide +kernel | rfl | (congr 1 <;> decide +kernel)⟩,
   ⟨.recordWait, { entry := { island := 223, ofs := 96, len := 60, records := 2, cmac := 0 }, pos := 96, replay := false, skips := false, wait := none }, at_ [225, 223] [(⟨.flash, 0, 31, 0⟩, 0, 24, 0), (⟨.flash, 0, 31, 0⟩, 0, 25, 0)] { nvm := { run := some { entry := { island := 223, ofs := 96, len := 60, records := 2, cmac := 0 }, pos := 96, replay := false, skips := false, wait := none } } }, by decide +kernel⟩,
   ⟨.recordWait, at_ [225] [], by decide +kernel, by decide +kernel, .inl (by decide +kernel)⟩⟩

theorem witness_FlashCommands :
    (∃ (addr : Word) (len : BitVec 9) (s : State), (s.up 225 = true) ∧ (privileged s = true) ∧ (s.nvm.flashOp = none) ∧ (s.nvm.run = none) ∧ (s.nvm.replays = []) ∧ (addr.toNat % 4 = 0) ∧ (1 ≤ len.toNat) ∧ (len.toNat ≤ 256)) ∧
    (∃ (addr : Word) (len : BitVec 9) (s : State), (s.up 225 = true) ∧ (privileged s = true) ∧ (s.nvm.flashOp = none) ∧ ((addr.toNat % 4 ≠ 0 ∨ len.toNat = 0 ∨ 256 < len.toNat))) ∧
    (∃ (f : FlashOp) (s : State), (s.up 225 = true) ∧ (privileged s = true) ∧ (s.nvm.flashOp = some f) ∧ (s.nvm.flashHeld = none)) ∧
    (∃ (addr : Word) (len : BitVec 9) (s : State), (s.up 225 = true) ∧ (privileged s = true) ∧ (s.nvm.flashOp = none) ∧ (s.nvm.run = none) ∧ (s.nvm.replays = []) ∧ (s.nvm.image = none) ∧ (addr.toNat % 4 = 0) ∧ (1 ≤ len.toNat) ∧ (addr.toNat % 256 + 4 * len.toNat ≤ 256)) ∧
    (∃ (addr : Word) (len : BitVec 9) (m : ImageCopy) (s : State), (s.up 225 = true) ∧ (privileged s = true) ∧ (s.nvm.flashOp = none) ∧ (s.nvm.image = some m) ∧ (addr.toNat % 4 = 0) ∧ (1 ≤ len.toNat) ∧ (addr.toNat % 256 + 4 * len.toNat ≤ 256) ∧ (slotBase s.nvm.slot s ≤ addr.toNat) ∧ (addr.toNat < slotBase s.nvm.slot s + slotSize s)) ∧
    (∃ (addr : Word) (s : State), (s.up 225 = true) ∧ (privileged s = true) ∧ (s.nvm.flashOp = none) ∧ (s.nvm.run = none) ∧ (s.nvm.replays = []) ∧ (s.nvm.image = none) ∧ (addr.toNat % 65536 = 0)) ∧
    (∃ (s : State), (s.up 225 = true) ∧ (privileged s = false)) ∧
    (∃ (s : State), (s.up 225 = true) ∧ (privileged s = true) ∧ (s.nvm.flashOp = none) ∧ (s.nvm.run = none) ∧ (s.nvm.replays = [])) ∧
    (∃ (s : State), (s.up 225 = true) ∧ (privileged s = true) ∧ (s.nvm.flashOp = none) ∧ (s.nvm.state = 4)) ∧
    (∃ (s : State), (s.up 225 = true) ∧ (privileged s = true) ∧ (s.nvm.flashOp = none) ∧ (s.nvm.state ≠ 4)) ∧
    (∃ (a n j e sl arb : Nat) (s : State), (s.up 225 = true) ∧ (s.nvm.flashHeld = none) ∧ (a % 4 = 0) ∧ (s.nvm.flashOp = some { op := 0, slot := sl, addr := a, len := n, since := some e, arb := arb }) ∧ (j < n)) ∧
    (∃ (a n j e sl arb : Nat) (s : State), (s.up 225 = true) ∧ (s.nvm.flashHeld = none) ∧ (a % 4 = 0) ∧ (s.nvm.flashOp = some { op := 1, slot := sl, addr := a, len := n, since := some e, arb := arb }) ∧ (j < n)) ∧
    (∃ (a x e sl n arb : Nat) (s : State), (s.up 225 = true) ∧ (s.nvm.flashHeld = none) ∧ (a % 65536 = 0) ∧ (s.nvm.flashOp = some { op := 2, slot := sl, addr := a, len := n, since := some e, arb := arb }) ∧ (a ≤ x) ∧ (x < a + 65536)) ∧
    (∃ (op a e sl n arb : Nat) (s : State), (s.up 225 = true) ∧ (s.nvm.flashHeld = none) ∧ (op < 3) ∧ (s.nvm.flashOp = some { op := op, slot := sl, addr := a, len := n, since := some e, arb := arb })) :=
  ⟨⟨0x100, 3, at_ [225] [] { cmd := { priv := true } }, by decide +kernel⟩,
   ⟨0x101, 3, at_ [225, 223] [] { cmd := { priv := true } }, by decide +kernel⟩,
   ⟨{ op := 1, slot := 0, addr := 0, len := 1, since := some 4, arb := 0 }, at_ [225] [] { cmd := { priv := true }, nvm := { flashOp := some { op := 1, slot := 0, addr := 0, len := 1, since := some 4, arb := 0 } } }, by decide +kernel⟩,
   ⟨0x110, 3, at_ [225] [] { cmd := { priv := true } }, by decide +kernel⟩,
   ⟨0x110, 3, { arb := 0, imageId := 1, nonce := 2, dir := [] }, at_ [225, 223] [] { cmd := { priv := true }, nvm := { image := some { arb := 0, imageId := 1, nonce := 2, dir := [] } } }, by decide +kernel⟩,
   ⟨0x20000, at_ [225] [] { cmd := { priv := true } }, by decide +kernel⟩,
   ⟨at_ [225] [], by decide +kernel⟩,
   ⟨at_ [225] [] { cmd := { priv := true } }, by decide +kernel⟩,
   ⟨at_ [225] [] { cmd := { priv := true }, nvm := { state := 4 } }, by decide +kernel⟩,
   ⟨at_ [225] [] { cmd := { priv := true }, nvm := { state := 3 } }, by decide +kernel⟩,
   ⟨0x100, 3, 2, 9, 0, 0, at_ [225] [(⟨.flash, 0, 31, 0⟩, 0, 66, 5)] { nvm := { flashOp := some { op := 0, slot := 0, addr := 0x100, len := 3, since := some 9, arb := 0 } } }, by decide +kernel⟩,
   ⟨0x100, 3, 2, 9, 0, 0, at_ [225] [(⟨.flash, 0, 31, 0⟩, 0, 66, 0xFF5), (⟨.nvmBuf, 0, 31, 0⟩, 0, 2, 0xF)] { nvm := { flashOp := some { op := 1, slot := 0, addr := 0x100, len := 3, since := some 9, arb := 0 } } }, by decide +kernel⟩,
   ⟨0x10000, 0x10044, 9, 0, 0, 0, at_ [225] [(⟨.flash, 0, 31, 0⟩, 0, 0x4011, 0xFF5), (⟨.flash, 0, 31, 0⟩, 0, 5, 0xF)] { nvm := { flashOp := some { op := 2, slot := 0, addr := 0x10000, len := 0, since := some 9, arb := 0 } } }, by decide +kernel⟩,
   ⟨2, 0x10000, 9, 0, 0, 0, at_ [225, 223] [] { nvm := { flashOp := some { op := 2, slot := 0, addr := 0x10000, len := 0, since := some 9, arb := 0 } } }, by decide +kernel⟩⟩

theorem witness_OtpCommands :
    (∃ (g : Nat) (s : State), (s.up 225 = true) ∧ (privileged s = true) ∧ (s.nvm.otpOp = none) ∧ (nextGen s = some g) ∧ (mayProgram s = true) ∧ (settingsOk (pdataWords 31 s) = true)) ∧
    (∃ (s : State), (s.up 225 = true) ∧ (privileged s = true) ∧ (s.nvm.otpOp = none) ∧ (nextGen s = none)) ∧
    (∃ (arg : BitVec 10) (s : State), (s.up 225 = true) ∧ (privileged s = true) ∧ (s.nvm.otpOp = none) ∧ (arg.toNat ≤ 2) ∧ (keyAbsent arg.toNat s = true) ∧ (allZero (pdataWords 8 s) = false) ∧ (mayProgram s = true)) ∧
    (∃ (arg : BitVec 10) (s : State), (s.up 225 = true) ∧ (privileged s = true) ∧ (s.nvm.otpOp = none) ∧ ((2 < arg.toNat ∨ keyAbsent arg.toNat s = false))) ∧
    (∃ (s : State), (s.up 225 = true) ∧ (privileged s = true) ∧ (s.nvm.otpOp = none) ∧ (maskHas (shWord 2 s) 31 = false) ∧ (mayProgram s = true)) ∧
    (∃ (s : State), (s.up 225 = true) ∧ (privileged s = true) ∧ (s.nvm.otpOp = none) ∧ (maskHas (shWord 2 s) 31 = false) ∧ (mayProgram s = false)) ∧
    (∃ (arg : BitVec 10) (s : State), (s.up 225 = true) ∧ (privileged s = true) ∧ (s.nvm.otpOp = none) ∧ (arg.toNat = arbValue s) ∧ (arg.toNat ≤ 256) ∧ (mayProgram s = true) ∧ (arg.toNat = 0)) ∧
    (∃ (arg : BitVec 10) (m : ImageCopy) (s : State), (s.up 225 = true) ∧ (privileged s = true) ∧ (s.nvm.otpOp = none) ∧ (arbValue s = 0) ∧ (arg.toNat = 1) ∧ (s.nvm.image = some m) ∧ (1 ≤ m.arb) ∧ (mayProgram s = true)) ∧
    (∃ (arg : BitVec 10) (s : State), (s.up 225 = true) ∧ (privileged s = true) ∧ (s.nvm.otpOp = none) ∧ (arbValue s < arg.toNat) ∧ (arg.toNat ≤ 256) ∧ (s.nvm.image = none)) ∧
    (∃ (pin : BitVec 10) (s : State), (s.up 225 = true) ∧ (privileged s = true) ∧ (s.nvm.otpOp = none) ∧ (pin.toNat ≤ 1019) ∧ (isTxdisPin pin.toNat = false) ∧ (fuseCode pin.toNat s &&& (pdata 0 s % 8) = fuseCode pin.toNat s) ∧ (mayProgram s = true)) ∧
    (∃ (pin : BitVec 10) (s : State), (s.up 225 = true) ∧ (privileged s = true) ∧ (s.nvm.otpOp = none) ∧ (isTxdisPin pin.toNat = true)) ∧
    (∃ (op item w bits e : Nat) (x : Nat × Nat) (l : List (Nat × Nat)) (s : State), (s.up 225 = true) ∧ (bits < 2 ^ 32) ∧ (s.nvm.otpOp = some { op := op, item := item, left := (w, bits) :: x :: l, since := e })) ∧
    (∃ (op item w bits e : Nat) (s : State), (s.up 225 = true) ∧ (bits < 2 ^ 32) ∧ (s.nvm.otpHeld = none) ∧ (s.nvm.otpOp = some { op := op, item := item, left := [(w, bits)], since := e })) ∧
    (∃ (op item w bits e : Nat) (l : List (Nat × Nat)) (s : State), (s.up 225 = true) ∧ (bits < 2 ^ 32) ∧ (s.nvm.otpHeld = none) ∧ (s.nvm.otpOp = some { op := op, item := item, left := (w, bits) :: l, since := e })) :=
  ⟨⟨0, at_ [225] [(⟨.otpP, 0, 31, 0⟩, 0, 0, 0x5E770000), (⟨.otpP, 0, 31, 0⟩, 0, 1, 0x2819), (⟨.otpP, 0, 31, 0⟩, 0, 4, 16)] { cmd := { priv := true }, rst := { coreGood := true } }, by decide +kernel⟩,
   ⟨at_ [225, 223] [(⟨.otpFuse, 0, 31, 0⟩, 0, 256, 1), (⟨.otpFuse, 0, 31, 0⟩, 0, 288, 1), (⟨.otpFuse, 0, 31, 0⟩, 0, 320, 1), (⟨.otpFuse, 0, 31, 0⟩, 0, 352, 1)] { cmd := { priv := true }, rst := { coreGood := true } }, by decide +kernel⟩,
   ⟨2, at_ [225] [(⟨.otpP, 0, 31, 0⟩, 0, 3, 7)] { cmd := { priv := true }, rst := { coreGood := true } }, by decide +kernel⟩,
   ⟨1, at_ [225, 223] [(⟨.otpSh, 0, 31, 0⟩, 0, 12, 5)] { cmd := { priv := true } }, by decide +kernel⟩,
   ⟨at_ [225] [(⟨.otpP, 0, 31, 0⟩, 0, 0, 0x405)] { cmd := { priv := true }, rst := { coreGood := true } }, by decide +kernel⟩,
   ⟨at_ [225, 223] [] { cmd := { priv := true }, rst := { coreGood := true, overTemp := true } }, by decide +kernel⟩,
   ⟨0, at_ [225, 223] [] { cmd := { priv := true }, rst := { coreGood := true } }, by decide +kernel⟩,
   ⟨1, { arb := 1, imageId := 1, nonce := 2, dir := [] }, at_ [225] [] { cmd := { priv := true }, rst := { coreGood := true }, nvm := { image := some { arb := 1, imageId := 1, nonce := 2, dir := [] } } }, by decide +kernel⟩,
   ⟨4, at_ [225, 223] [] { cmd := { priv := true }, rst := { coreGood := true } }, by decide +kernel⟩,
   ⟨13, at_ [225] [(⟨.otpP, 0, 31, 0⟩, 0, 0, 3), (⟨.otpFuse, 0, 31, 0⟩, 0, 37, 512)] { cmd := { priv := true }, rst := { coreGood := true } }, by decide +kernel⟩,
   ⟨8, at_ [225, 223] [] { cmd := { priv := true }, rst := { coreGood := true } }, by decide +kernel⟩,
   ⟨2, 0, 5, 7, 9, (6, 1), [], at_ [225] [(⟨.otpFuse, 0, 31, 0⟩, 0, 5, 8)] { nvm := { otpOp := some { op := 2, item := 0, left := [(5, 7), (6, 1)], since := 9 } } }, by decide +kernel⟩,
   ⟨2, 0, 5, 7, 9, at_ [225, 223] [(⟨.otpFuse, 0, 31, 0⟩, 0, 5, 8)] { nvm := { otpOp := some { op := 2, item := 0, left := [(5, 7)], since := 9 } } }, by decide +kernel⟩,
   ⟨2, 0, 5, 7, 9, [], at_ [225, 223] [(⟨.otpFuse, 0, 31, 0⟩, 0, 5, 8)] { nvm := { otpOp := some { op := 2, item := 0, left := [(5, 7)], since := 9 } } }, by decide +kernel⟩⟩

theorem witness_Sessions :
    (∃ (i : Fin 4) (s : State), (s.up 223 = true) ∧ (on SESS.CTL_EN i s = false) ∧ (16 ≤ rd SESS.RING_SIZE_LOG2 i s) ∧ (rd SESS.RING_SIZE_LOG2 i s ≤ 24) ∧ (rd SESS.HEAD_HEAD i s = 0)) ∧
    (∃ (i : Fin 4) (s : State), (s.up 223 = true) ∧ (on SESS.CTL_EN i s = false) ∧ ((rd SESS.RING_SIZE_LOG2 i s < 16 ∨ 24 < rd SESS.RING_SIZE_LOG2 i s ∨ rd SESS.HEAD_HEAD i s ≠ 0))) ∧
    (∃ (i : Fin 4) (s : State), (s.up 223 = true) ∧ (on SESS.CTL_EN i s = true) ∧ ((s.session i).state ≠ .closed)) ∧
    (∃ (i : Fin 4) (l : List Byte) (s : State), (s.up 223 = true) ∧ (tunnelUp s = true) ∧ ((s.session i).state = .open) ∧ (l ≠ []) ∧ ((s.session i).fifo.length + l.length ≤ 65536) ∧ (badHeader ((s.session i).fifo ++ l) = false)) ∧
    (∃ (i : Fin 4) (l : List Byte) (s : State), (s.up 223 = true) ∧ (tunnelUp s = true) ∧ ((s.session i).state = .open) ∧ (l ≠ []) ∧ ((65536 < (s.session i).fifo.length + l.length ∨ ((s.session i).idle = true ∧ badHeader ((s.session i).fifo ++ l) = true)))) ∧
    (∃ (i : Fin 4) (s : State), (s.up 223 = true) ∧ ((tunnelUp s = false ∨ (s.session i).state ≠ .open))) ∧
    (∃ (i : Fin 4) (s : State), (s.up 223 = true) ∧ ((s.session i).idle = true) ∧ ((s.session i).fifo ≠ []) ∧ (inboundOf (s.session i).fifo = none)) ∧
    (∃ (i : Fin 4) (s : State), (s.up 223 = true) ∧ (((s.session i).idle = false ∨ (s.session i).fifo = []))) ∧
    (∃ (i : Fin 4) (w : Word) (s : State), (s.up 223 = true) ∧ (w.toNat % 64 = 0) ∧ (w.toNat < 2 ^ 24) ∧ ((s.session i).waiting = []) ∧ (badHeader (s.session i).fifo = false)) ∧
    (∃ (i : Fin 4) (s : State), (s.up 223 = true) ∧ ((s.session i).state = .open) ∧ ((s.session i).waiting ≠ []) ∧ (s.rst.blockDue = none)) ∧
    (∃ (i : Fin 4) (s : State), (s.up 223 = true) ∧ ((s.session i).waiting = [])) ∧
    (∃ (i : Fin 4) (p : Inbound) (s : State), (s.up 223 = true) ∧ (nextPacket i s = some p) ∧ (opcodeListed i p = false) ∧ (s.rst.blockDue = none) ∧ (badHeader ((s.session i).fifo.drop (16 + p.len)) = false)) :=
  ⟨⟨2, at_ [223] [(SESS.RING_SIZE_LOG2, 2, 0, 16)], by decide +kernel⟩,
   ⟨2, at_ [223] [(SESS.RING_SIZE_LOG2, 2, 0, 15)], by decide +kernel⟩,
   ⟨0, at_ [223] [(SESS.CTL_EN, 0, 0, 1)] { cmd := { priv := true }, sess := [(0, { state := .open, fifo := [1, 2], capture := some { point := 0, whereIdx := 0, portId := 0, left := 1, snap := 64 } })] }, by decide +kernel⟩,
   ⟨2, [1, 2], at_ [223] [] { cmd := { link := 2 }, sess := [(2, { state := .open, fifo := [9] })] }, by decide +kernel⟩,
   ⟨0, [0, 0, 0, 0, 3, 0, 0, 0, 0, 0, 0, 0, 0, 0, 0, 0], at_ [223] [] { cmd := { link := 2, priv := true }, sess := [(0, { state := .open })] }, by decide +kernel⟩,
   ⟨0, at_ [223] [] { cmd := { link := 2 } }, by decide +kernel⟩,
   ⟨1, at_ [223] [(CMD.CTL_PKT_TO, 0, 0, 5)] { sess := [(1, { state := .open, fifo := [1], lastByte := 9 })] }, by decide +kernel⟩,
   ⟨1, at_ [223] [] { sess := [(1, { state := .open })] }, by decide +kernel⟩,
   ⟨1, 128, at_ [223] [(SESS.RING_SIZE_LOG2, 1, 0, 16), (SESS.HEAD_HEAD, 1, 0, 64)] { sess := [(1, { state := .open, tail := 256, irqSent := true, ring := [(64, { kind := 1 }), (128, { kind := 2 })] })] }, by decide +kernel⟩,
   ⟨1, at_ [223] [(CMD.CTL_HOST_TO, 0, 0, 5)] { sess := [(1, { state := .open, waiting := [{ kind := 1 }], waitSince := 9 })] }, by decide +kernel⟩,
   ⟨1, at_ [223] [] { sess := [(1, { state := .open })] }, by decide +kernel⟩,
   ⟨1, pkt_ 0x77 5 6 [], fed_ 1 (pkt_ 0x77 5 6 []) (at_ [223] []), by decide +kernel⟩⟩

theorem witness_Packets :
    (∃ (i : Fin 4) (p : Inbound) (s : State), (Takes i 1 p s)) ∧
    (∃ (i : Fin 4) (p : Inbound) (s : State), (nextPacket i s = some p) ∧ (p.opcode ≠ 1)) ∧
    (∃ (i : Fin 4) (p : Inbound) (s : State), (Takes i 2 p s) ∧ (p.len = 0) ∧ (p.arg0 = 0x42010) ∧ (p.arg1 = 2)) ∧
    (∃ (i : Fin 4) (p : Inbound) (s : State), (Takes i 2 p s) ∧ ((p.len ≠ 0 ∨ p.arg1 = 0 ∨ 4096 < p.arg1))) ∧
    (∃ (i : Fin 4) (a b : Nat) (p : Inbound) (s : State), (Takes i 3 p s) ∧ (p.arg0 = 0x42010) ∧ (p.len = 8) ∧ (leWords p.payload = [a, b]) ∧ (a < 2 ^ 16) ∧ (b < 2 ^ 32)) ∧
    (∃ (i : Fin 4) (p : Inbound) (s : State), (Takes i 3 p s) ∧ (p.len < 4)) ∧
    (∃ (i : Fin 4) (m v : Nat) (p : Inbound) (s : State), (Takes i 4 p s) ∧ (p.arg0 = 0x42008) ∧ (leWords p.payload = [m, v])) ∧
    (∃ (i : Fin 4) (p : Inbound) (s : State), (Takes i 5 p s) ∧ (p.arg0 = 0x42028) ∧ (p.arg1 = 0x4202C) ∧ (leWords p.payload = [21, 1])) ∧
    (∃ (a b : Nat) (p : Inbound) (s : State), (Takes 0 6 p s) ∧ (s.cmd.priv = true) ∧ (p.arg0 = 0x42020) ∧ (p.arg1 = 0x42024) ∧ (leWords p.payload = [0x80000001, a, b])) ∧
    (∃ (i : Fin 4) (a b : Nat) (p : Inbound) (s : State), (Takes i 0x10 p s) ∧ (leWords p.payload = [0x42010, a, 0x42014, 1, b]) ∧ (portHeld i 0x42010 s = false) ∧ (a < 2 ^ 16) ∧ (b < 2 ^ 32)) ∧
    (∃ (i : Fin 4) (p : Inbound) (s : State), (Takes i 0x10 p s) ∧ (leWords p.payload = [0x10042008, 3, 1, 50]) ∧ (portHeld i 0x42008 s = false)) ∧
    (∃ (i : Fin 5) (r : LoadRun) (g : GoWait) (s : State), (i.val < 4) ∧ (s.up 223 = true) ∧ ((s.session i).load = some { r with go := some g }) ∧ (r.note = (0, 0, 0)) ∧ (g.ofs = 0x42008) ∧ (g.next ≤ g.until_) ∧ (rd SYS.PORTS 0 s &&& g.mask ≠ 0)) ∧
    (∃ (i : Fin 5) (tag : Nat) (g : GoWait) (s : State), (i.val < 4) ∧ (s.up 223 = true) ∧ ((s.session i).state = .open) ∧ (s.rst.blockDue = none) ∧ (s.cmd.portWait = []) ∧ (s.sys.actions = []) ∧ (badHeader (s.session i).fifo = false) ∧ ((s.session i).load = some { tag := some tag, done := 2, note := (0, 0, 0), go := some g, accesses := 2, rest := [] }) ∧ (g.ofs = 0x42008) ∧ (rd SYS.PORTS 0 s &&& g.mask ≠ 0)) ∧
    (∃ (i : Fin 4) (k : Fin 8) (w : Nat) (p : Inbound) (s : State), (Takes i 0x11 p s) ∧ (p.arg0 = k) ∧ (p.arg1 < 2 ^ 14) ∧ (leWords p.payload = [w]) ∧ (w < 2 ^ 32) ∧ (s.up (clusterIsland k) = true) ∧ (roleStandby s = false) ∧ (imemHeld k p.arg1 s = false)) ∧
    (∃ (i : Fin 4) (p : Inbound) (s : State), (Takes i 0x12 p s) ∧ (p.len = 0) ∧ (4 ≤ p.arg1) ∧ (p.arg1 ≤ 16384) ∧ (p.arg1 % 4 = 0) ∧ (s.up 225 = true)) ∧
    (∃ (w : Nat) (p : Inbound) (s : State), (Takes 0 0x13 p s) ∧ (s.cmd.priv = true) ∧ (s.up 225 = true) ∧ (s.nvm.image = none) ∧ (p.arg0 % 65536 = 0) ∧ (p.arg1 = 1) ∧ (p.len = 4) ∧ (leWords p.payload = [w]) ∧ (w < 2 ^ 32)) ∧
    (∃ (i : Fin 4) (p : Inbound) (s : State), (Takes i 0x13 p s) ∧ (i ≠ 0) ∧ (s.up 225 = true) ∧ (p.arg0 % 256 = 0)) ∧
    (∃ (i : Fin 4) (n : Fin 48) (p : Inbound) (s : State), (Takes i 0x20 p s) ∧ (p.arg0 = n) ∧ (p.len = 40) ∧ (s.up (framingIsland n) = true) ∧ ((s.actOf n).normal.length < 256)) ∧
    (∃ (i : Fin 4) (n : Fin 48) (p : Inbound) (s : State), (Takes i 0x20 p s) ∧ (p.arg0 = n) ∧ (p.len ≠ 40)) ∧
    (∃ (c : Fin 8) (d : Node) (p : Inbound) (s : State), (Takes 0 0x21 p s) ∧ (s.cmd.priv = true) ∧ (p.arg0 = c * 256) ∧ (p.len = 8) ∧ (s.up 212 = true) ∧ (s.up 213 = true) ∧ (isPort 0 s = true) ∧ (on NET.STS_LINK 0 s = true) ∧ (12 ≤ rd NET.PORT_CFG_MAX_FRAME 0 s) ∧ (12 ≤ classMaxlen 0 c s) ∧ (s.up 214 = true) ∧ (s.up 215 = true) ∧ (s.up 216 = true) ∧ (s.up 217 = true) ∧ (bufQueue 0 s = []) ∧ (s.bpm.reclaim = []) ∧ (eligible 15 0 1 s = true) ∧ (d = tmuQueue 0 (c * 9 + 8)) ∧ (nrd NODE.VALID d s = 1) ∧ (nrd NODE.DEPTH d s + 32 ≤ nrd NODE.QLIM d s)) ∧
    (∃ (i : Fin 4) (p : Inbound) (s : State), (Takes i 0x21 p s) ∧ (i ≠ 0) ∧ (p.len ≠ 0) ∧ (p.arg0 < 2 ^ 31)) ∧
    (∃ (i : Fin 4) (p : Inbound) (s : State), (Takes i 0x22 p s) ∧ (p.arg0 = 0x10030000) ∧ (1 ≤ p.arg1) ∧ (p.arg1 ≤ 65535) ∧ (p.len = 4) ∧ (leWords p.payload = [100])) ∧
    (∃ (i : Fin 4) (p : Inbound) (s : State), (Takes i 0x22 p s) ∧ (p.arg0 = 0x10030000) ∧ (p.arg1 = 0) ∧ (p.len = 0)) ∧
    (∃ (i : Fin 4) (p : Inbound) (s : State), (Takes i 0x30 p s) ∧ (p.arg0 = 0x3FFFF) ∧ (p.arg1 = 0x02000000) ∧ (p.len = 0) ∧ (mbakinOn s = true) ∧ (rd SYS.PORTS 0 s = 0)) ∧
    (∃ (i : Fin 4) (p : Inbound) (s : State), (Takes i 0x30 p s) ∧ (p.arg0 / 2 ^ 16 % 16 ≠ 3) ∧ (p.arg0 / 2 ^ 16 % 16 ≠ 5)) ∧
    (∃ (i : Fin 4) (w : MbakinWait) (s : State), (s.up 223 = true) ∧ ((s.session i).state = .open) ∧ ((s.session i).mbakin = some w) ∧ (s.rst.blockDue = none)) ∧
    (∃ (p : Inbound) (s : State), (Takes 0 0x40 p s) ∧ (p.len = 0) ∧ (lockedOut s = false)) ∧
    (∃ (p : Inbound) (s : State), (Takes 0 0x40 p s) ∧ (p.len = 0) ∧ (lockedOut s = true)) ∧
    (∃ (p : Inbound) (s : State), (Takes 0 0x41 p s) ∧ (p.len = 16)) ∧
    (∃ (p : Inbound) (s : State), (Takes 0 0x42 p s) ∧ (p.len = 0)) ∧
    (∃ (e : Nat) (s : State), (s.up 223 = true) ∧ (s.cmd.lockoutEnd = some e)) ∧
    (∃ (i : Fin 4) (p : Inbound) (s : State), (Takes i 2 p s) ∧ (p.len = 0) ∧ (1 ≤ p.arg1) ∧ (p.arg1 ≤ 4096)) ∧
    (∃ (i : Fin 4) (p : Inbound) (s : State), (Takes i 3 p s) ∧ (4 ≤ p.len)) ∧
    (∃ (i : Fin 4) (m v : Nat) (b : BusRun) (p : Inbound) (s : State), (Takes i 4 p s) ∧ (words p = [m, v]) ∧ (b = busRun [⟨p.arg0 % 2 ^ 24, none, 0⟩] (runningPacket i p s))) ∧
    (∃ (i : Fin 4) (p : Inbound) (s : State), (Takes i 4 p s) ∧ ((words p).length ≠ 2)) ∧
    (∃ (i : Fin 4) (x n : Nat) (p : Inbound) (s : State), (Takes i 5 p s) ∧ (words p = [x, n]) ∧ (1 ≤ n) ∧ (n ≤ 4096)) ∧
    (∃ (i : Fin 4) (x : Nat) (l : List Nat) (p : Inbound) (s : State), (Takes i 6 p s) ∧ (words p = x :: l)) ∧
    (∃ (i : Fin 4) (x : LoadRun × Bool × State) (p : Inbound) (s : State), (Takes i 0x10 p s) ∧ (words p ≠ []) ∧ (x = loadGroups i ((words p).length + 1) { tag := some p.tag, done := 0, note := (0, 0, 0), go := none, accesses := 0, rest := words p } (runningPacket i p s))) ∧
    (∃ (i : Fin 4) (r : LoadRun) (g : GoWait) (s : State), (s.up 223 = true) ∧ ((s.session i).load = some r) ∧ (r.go = some g)) ∧
    (∃ (i : Fin 4) (r : LoadRun) (s : State), (s.up 223 = true) ∧ ((s.session i).load = some r) ∧ (r.go = none)) ∧
    (∃ (i : Fin 4) (r : LoadRun) (g : GoWait) (s : State), (s.up 223 = true) ∧ ((s.session i).load = some r) ∧ (r.go = some g)) ∧
    (∃ (r : RunNow) (w : WaitRun) (u : Bool × State) (s : State), (s.up 225 = true) ∧ (s.nvm.run = some r) ∧ (r.wait = some w) ∧ (w.next ≤ w.until_) ∧ (u = waitRead w (passTo w.next s))) ∧
    (∃ (r : RunNow) (w : WaitRun) (u : Bool × State) (s : State), (s.up 225 = true) ∧ (s.nvm.run = some r) ∧ (r.wait = some w) ∧ (u = waitRead w (passTo w.until_ s))) ∧
    (∃ (i : Fin 4) (k : Fin 8) (p : Inbound) (s : State), (Takes i 0x11 p s) ∧ (p.arg0 % 8 = k) ∧ (words p ≠ []) ∧ ((s.up (clusterIsland k) = true → progRefused k (p.arg1 % 2 ^ 14) (words p).length (runningPacket i p s) = none))) ∧
    (∃ (i : Fin 4) (k : Fin 8) (j : Nat) (p : Inbound) (s : State), (Takes i 0x11 p s) ∧ (p.arg0 % 8 = k) ∧ (words p ≠ []) ∧ (s.up (clusterIsland k) = true) ∧ (progRefused k (p.arg1 % 2 ^ 14) (words p).length (runningPacket i p s) = some j)) ∧
    (∃ (i : Fin 4) (p : Inbound) (s : State), (Takes i 0x12 p s) ∧ ((p.len ≠ 0 ∨ p.arg1 < 4 ∨ 16384 < p.arg1 ∨ p.arg1 % 4 ≠ 0))) ∧
    (∃ (i : Fin 4) (p : Inbound) (s : State), (Takes i 0x13 p s) ∧ (p.arg0 % 256 ≠ 0)) ∧
    (∃ (p : Inbound) (s : State), (Takes 0 0x13 p s) ∧ (s.cmd.priv = true) ∧ (s.up 225 = true) ∧ (s.nvm.image = none) ∧ (p.arg0 % 256 = 0)) ∧
    (∃ (i : Fin 4) (n : Fin 48) (p : Inbound) (s : State), (Takes i 0x20 p s) ∧ (p.arg0 % 64 = n) ∧ (p.len = 40) ∧ (s.up (framingIsland n) = true) ∧ ((s.actOf n).normal.length < 256)) ∧
    (∃ (i : Fin 4) (p : Inbound) (s : State), (Takes i 0x20 p s) ∧ ((p.len ≠ 40 ∨ 47 < p.arg0 % 64))) ∧
    (∃ (i : Fin 4) (n : Fin 48) (p : Inbound) (s : State), (Takes i 0x20 p s) ∧ (p.arg0 % 64 = n) ∧ (p.len = 40) ∧ (s.up (framingIsland n) = true) ∧ (256 ≤ (s.actOf n).normal.length)) ∧
    (∃ (i : Fin 4) (n : Fin 48) (port : Nat) (r : Reply) (u : State) (p : Inbound) (s : State), (Takes i 0x21 p s) ∧ (p.arg0 / 2 ^ 31 % 2 = 1) ∧ (p.arg0 / 2 ^ 16 % 64 = n) ∧ (p.arg0 % 2 ^ 16 = port) ∧ (p.len ≠ 0) ∧ ((portOmci 0 n port s = true ∧ p.len ≤ 2000 ∨ portOmci 0 n port s = false ∧ privileged (accessing i s) = true)) ∧ (injectInto 211 13 p.payload (fun x => match queueFor n port x with | some (d, _) => overLimit d (xgemBytes p.len) x | none => false) (fun h => tmdEnqueue n port h p.len) (runningPacket i p s) = (some r, u))) ∧
    (∃ (lane : Fin 32) (c : Fin 8) (q : Node) (r : Reply) (u : State) (p : Inbound) (s : State), (Takes 0 0x21 p s) ∧ (s.cmd.priv = true) ∧ (p.arg0 / 2 ^ 31 % 2 = 0) ∧ (p.arg0 % 32 = lane) ∧ (p.arg0 / 2 ^ 8 % 8 = c) ∧ (p.len ≠ 0) ∧ (p.len + 4 ≤ rd NET.PORT_CFG_MAX_FRAME lane s) ∧ (q = tmuQueue lane (c * 9 + 8)) ∧ (injectInto 212 14 p.payload (fun x => isPort lane x && nrd NODE.VALID q x == 1 && overLimit q (p.len + 4 + 20) x) (fun h => tmuEnqueue lane (.injection c) (some h) (p.len + 4) none) (runningPacket 0 p s) = (some r, u))) ∧
    (∃ (i : Fin 4) (pt wh snap : Nat) (p : Inbound) (s : State), (Takes i 0x22 p s) ∧ (p.arg0 / 2 ^ 28 = pt) ∧ (pt ≤ 3) ∧ (p.arg0 / 2 ^ 16 % 64 = wh) ∧ (wh < (if pt < 2 then 32 else 48)) ∧ (1 ≤ p.arg1) ∧ (p.arg1 ≤ 65535) ∧ ((p.len = 0 ∨ p.len = 4)) ∧ ((words p).headD 16352 = snap) ∧ (64 ≤ snap) ∧ (snap ≤ 16352)) ∧
    (∃ (i : Fin 4) (p : Inbound) (s : State), (Takes i 0x22 p s) ∧ ((3 < p.arg0 / 2 ^ 28 ∨ 65535 < p.arg1))) ∧
    (∃ (i : Fin 4) (dev type : Nat) (w : MbakinWait) (p : Inbound) (s : State), (Takes i 0x30 p s) ∧ (p.arg0 % 2 ^ 16 = dev) ∧ ((dev ≤ 1023 ∨ dev = 0xFFFF)) ∧ (p.arg0 / 2 ^ 16 % 16 = type) ∧ ((type = 3 ∧ p.len = 0 ∨ type = 5 ∧ 16 ≤ p.len ∧ p.len ≤ 1400)) ∧ (p.arg1 % 2 ^ 24 = 0) ∧ (w = { tag := p.tag, until_ := s.clk + 100000000, type := type, role := p.arg1 / 2 ^ 24, body := p.payload, dst := (if dev = 0xFFFF then none else some dev), redirected := false })) ∧
    (∃ (i : Fin 4) (p : Inbound) (s : State), (Takes i 0x30 p s) ∧ (p.arg0 % 2 ^ 16 ≤ 1023) ∧ (p.arg0 / 2 ^ 16 % 16 = 5) ∧ (p.arg1 % 2 ^ 24 = 0) ∧ (1400 < p.len)) ∧
    (∃ (w : MbakinWait) (s : State), (s.up 223 = true) ∧ ((s.session 6).mbakin = some w)) ∧
    (∃ (i : Fin 5) (s : State), (s.up 223 = true) ∧ ((s.session (waiter i)).mbakin = none) ∧ (s.sys.actions = [])) ∧
    (∃ (p : Inbound) (s : State), (Takes 0 0x40 p s) ∧ (p.len ≠ 0)) ∧
    (∃ (p : Inbound) (s : State), (Takes 0 0x41 p s) ∧ (p.len ≠ 16)) ∧
    (∃ (p : Inbound) (s : State), (Takes 0 0x42 p s) ∧ (p.len ≠ 0)) ∧
    (∃ (s : State), (s.up 223 = true) ∧ (s.cmd.lockoutEnd = none)) :=
  ⟨⟨1, pkt_ 1 5 6 [8, 9], fed_ 1 (pkt_ 1 5 6 [8, 9]) (at_ [223] []), by decide +kernel⟩,
   ⟨1, pkt_ 2 5 6 [8, 9], fed_ 1 (pkt_ 2 5 6 [8, 9]) (at_ [223] []), by decide +kernel⟩,
   ⟨1, pkt_ 2 0x42010 2 [], fed_ 1 (pkt_ 2 0x42010 2 []) (at_ [223] [(SYS.GRP_MAC_HI_MAC_HI, 0, 0, 7), (SYS.GRP_MAC_LO, 0, 0, 8)]), by decide +kernel⟩,
   ⟨1, pkt_ 2 0x42010 0 [], fed_ 1 (pkt_ 2 0x42010 0 []) (at_ [223] []), by decide +kernel⟩,
   ⟨1, 5, 6, pkt_ 3 0x42010 0 [5, 6], fed_ 1 (pkt_ 3 0x42010 0 [5, 6]) (at_ [223] []), by decide +kernel⟩,
   ⟨1, pkt_ 3 0x42010 0 [], fed_ 1 (pkt_ 3 0x42010 0 []) (at_ [223] []), by decide +kernel⟩,
   ⟨1, 0xF0, 0x36, pkt_ 4 0x42008 0 [0xF0, 0x36], fed_ 1 (pkt_ 4 0x42008 0 [0xF0, 0x36]) (at_ [223] [(SYS.PORTS, 0, 0, 0x5A5)]), by decide +kernel⟩,
   ⟨1, pkt_ 5 0x42028 0x4202C [21, 1], fed_ 1 (pkt_ 5 0x42028 0x4202C [21, 1]) (at_ [223] [(PEER.EPOCH, 0, 5, 33)]), by decide +kernel⟩,
   ⟨8, 9, pkt_ 6 0x42020 0x42024 [0x80000001, 8, 9], fed_ 0 (pkt_ 6 0x42020 0x42024 [0x80000001, 8, 9]) (at_ [223] [] { cmd := { priv := true } }), by decide +kernel⟩,
   ⟨1, 8, 9, pkt_ 0x10 0 0 [0x42010, 8, 0x42014, 1, 9], fed_ 1 (pkt_ 0x10 0 0 [0x42010, 8, 0x42014, 1, 9]) (at_ [223] []), by decide +kernel⟩,
   ⟨1, pkt_ 0x10 0 0 [0x10042008, 3, 1, 50], fed_ 1 (pkt_ 0x10 0 0 [0x10042008, 3, 1, 50]) (at_ [223] []), by decide +kernel⟩,
   ⟨1, { tag := some 7, done := 0, note := (0, 0, 0), go := none, accesses := 2, rest := [] }, { ofs := 0x42008, mask := 1, until_ := 50000, next := 100 }, at_ [223] [(SYS.PORTS, 0, 0, 3)] { sess := [(1, { state := .open, load := some { tag := some 7, done := 0, note := (0, 0, 0), go := some { ofs := 0x42008, mask := 1, until_ := 50000, next := 100 }, accesses := 2, rest := [] } })] }, by decide +kernel⟩,
   ⟨1, 7, { ofs := 0x42008, mask := 1, until_ := 50000, next := 100 }, at_ [223] [(SYS.PORTS, 0, 0, 3), (SESS.RING_SIZE_LOG2, 1, 0, 16)] { sess := [(1, { state := .open, consumed := 36, load := some { tag := some 7, done := 2, note := (0, 0, 0), go := some { ofs := 0x42008, mask := 1, until_ := 50000, next := 100 }, accesses := 2, rest := [] } })] }, by decide +kernel⟩,
   ⟨1, 3, 99, pkt_ 0x11 3 12 [99], fed_ 1 (pkt_ 0x11 3 12 [99]) (at_ [223, 178] []), by decide +kernel⟩,
   ⟨1, pkt_ 0x12 0x102 4 [], fed_ 1 (pkt_ 0x12 0x102 4 []) (at_ [223, 225] [(⟨.flash, 0, 31, 0⟩, 0, 64, 0x12345678)]), by decide +kernel⟩,
   ⟨9, pkt_ 0x13 0x20000 1 [9], fed_ 0 (pkt_ 0x13 0x20000 1 [9]) (at_ [223, 225] [(⟨.flash, 0, 31, 0⟩, 0, 0x8000, 6)] { cmd := { priv := true } }), by decide +kernel⟩,
   ⟨2, pkt_ 0x13 0x20000 1 [9], fed_ 2 (pkt_ 0x13 0x20000 1 [9]) (at_ [223, 225] [] { cmd := { priv := true } }), by decide +kernel⟩,
   ⟨1, 3, pkt_ 0x20 3 0 [1, 2, 3, 4, 5, 6, 7, 8, 9, 10], fed_ 1 (pkt_ 0x20 3 0 [1, 2, 3, 4, 5, 6, 7, 8, 9, 10]) (at_ [223, 167] []), by decide +kernel⟩,
   ⟨1, 3, pkt_ 0x20 3 0 [1], fed_ 1 (pkt_ 0x20 3 0 [1]) (at_ [223, 167] []), by decide +kernel⟩,
   ⟨2, ⟨320, 26⟩, pkt_ 0x21 512 0 [1, 2], fed_ 0 (pkt_ 0x21 512 0 [1, 2]) (at_ [223, 212, 213, 214, 215, 216, 217] [(BPM.POOL_S_CNT, 0, 0, 1), (QUOTA.MAX, 15, 0, 9), (NET.PORT_CFG_EN, 0, 0, 1), (NET.PORT_CFG_MAX_FRAME, 0, 0, 2000), (NET.STS_LINK, 0, 0, 1), (NODEC.MAXLEN, 0, 2, 2000), (NODE.VALID, 320, 26, 1), (NODE.QLIM, 320, 26, 1200)] { cmd := { priv := true }, bpm := { listed := true } }), by decide +kernel⟩,
   ⟨1, pkt_ 0x21 512 0 [1, 2], fed_ 1 (pkt_ 0x21 512 0 [1, 2]) (at_ [223, 212, 213] []), by decide +kernel⟩,
   ⟨1, pkt_ 0x22 0x10030000 5 [100], fed_ 1 (pkt_ 0x22 0x10030000 5 [100]) (at_ [223] []), by decide +kernel⟩,
   ⟨1, pkt_ 0x22 0x10030000 0 [], fed_ 1 (pkt_ 0x22 0x10030000 0 []) (at_ [223] []), by decide +kernel⟩,
   ⟨1, pkt_ 0x30 0x3FFFF 0x02000000 [], fed_ 1 (pkt_ 0x30 0x3FFFF 0x02000000 []) (at_ [223] [(SYS.CTL_EN, 0, 0, 1)] { nvm := { devnum := some 4 } }), by decide +kernel⟩,
   ⟨1, pkt_ 0x30 0x1FFFF 0 [], fed_ 1 (pkt_ 0x30 0x1FFFF 0 []) (at_ [223] [(SYS.CTL_EN, 0, 0, 1)] { nvm := { devnum := some 4 } }), by decide +kernel⟩,
   ⟨1, { tag := 7, until_ := 500, type := 3, role := 2, body := [], dst := none, redirected := false }, at_ [223] [(SESS.RING_SIZE_LOG2, 1, 0, 16)] { sess := [(1, { state := .open, mbakin := some { tag := 7, until_ := 500, type := 3, role := 2, body := [], dst := none, redirected := false } })] }, by decide +kernel⟩,
   ⟨pkt_ 0x40 0 0 [], fed_ 0 (pkt_ 0x40 0 0 []) (at_ [223] []), by decide +kernel⟩,
   ⟨pkt_ 0x40 0 0 [], fed_ 0 (pkt_ 0x40 0 0 []) (at_ [223] [] { cmd := { lockoutEnd := some 5 } }), by decide +kernel⟩,
   ⟨pkt_ 0x41 0 0 [1, 2, 3, 4], fed_ 0 (pkt_ 0x41 0 0 [1, 2, 3, 4]) (at_ [223] [(CMD.CTL_LOCK_S, 0, 0, 3)] { cmd := { fails := 2 } }), by decide +kernel⟩,
   ⟨pkt_ 0x42 0 0 [], fed_ 0 (pkt_ 0x42 0 0 []) (at_ [223] [] { cmd := { priv := true } }), by decide +kernel⟩,
   ⟨700, at_ [223] [] { cmd := { lockoutEnd := some 700 } }, by decide +kernel⟩,
   ⟨1, pkt_ 0x2 0x42010 2 [], fed_ 1 (pkt_ 0x2 0x42010 2 []) (at_ [223] [(SYS.GRP_MAC_LO, 0, 0, 8)]), by decide +kernel⟩,
   ⟨1, pkt_ 0x3 0x42008 0 [7, 8], fed_ 1 (pkt_ 0x3 0x42008 0 [7, 8]) (at_ [223] []), by decide +kernel⟩,
   ⟨1, 255, 6, busRun [⟨0x42008, none, 0⟩] (runningPacket 1 (pkt_ 0x4 0x42008 0 [255, 6]) (fed_ 1 (pkt_ 0x4 0x42008 0 [255, 6]) (at_ [223] [(SYS.PORTS, 0, 0, 0x1234)]))), pkt_ 0x4 0x42008 0 [255, 6], fed_ 1 (pkt_ 0x4 0x42008 0 [255, 6]) (at_ [223] [(SYS.PORTS, 0, 0, 0x1234)]), by and_intros <;> first | decide +kernel | rfl⟩,
   ⟨1, pkt_ 0x4 0x42008 0 [7], fed_ 1 (pkt_ 0x4 0x42008 0 [7]) (at_ [223] []), by decide +kernel⟩,
   ⟨1, 7, 2, pkt_ 0x5 0x42008 0x4200C [7, 2], fed_ 1 (pkt_ 0x5 0x42008 0x4200C [7, 2]) (at_ [223] []), by decide +kernel⟩,
   ⟨1, 7, [2, 3], pkt_ 0x6 0x42008 0x4200C [7, 2, 3], fed_ 1 (pkt_ 0x6 0x42008 0x4200C [7, 2, 3]) (at_ [223] []), by decide +kernel⟩,
   ⟨1, loadGroups 1 6 { tag := some 7, done := 0, note := (0, 0, 0), go := none, accesses := 0, rest := [0x42008, 3, 0x42008, 1, 7] } (runningPacket 1 (pkt_ 0x10 0 0 [0x42008, 3, 0x42008, 1, 7]) (fed_ 1 (pkt_ 0x10 0 0 [0x42008, 3, 0x42008, 1, 7]) (at_ [223] []))), pkt_ 0x10 0 0 [0x42008, 3, 0x42008, 1, 7], fed_ 1 (pkt_ 0x10 0 0 [0x42008, 3, 0x42008, 1, 7]) (at_ [223] []), by and_intros <;> first | decide +kernel | rfl⟩,
   ⟨1, { tag := none, done := 0, note := (0, 0, 0), go := some { ofs := 0x42008, mask := 1, until_ := 500, next := 100 }, accesses := 2, rest := [] }, { ofs := 0x42008, mask := 1, until_ := 500, next := 100 }, at_ [223] [] { sess := [(1, { state := .open, load := some { tag := none, done := 0, note := (0, 0, 0), go := some { ofs := 0x42008, mask := 1, until_ := 500, next := 100 }, accesses := 2, rest := [] } })] }, by decide +kernel⟩,
   ⟨1, { tag := none, done := 0, note := (0, 0, 0), go := none, accesses := 2, rest := [] }, at_ [223] [] { sess := [(1, { state := .open, load := some { tag := none, done := 0, note := (0, 0, 0), go := none, accesses := 2, rest := [] } })] }, by decide +kernel⟩,
   ⟨1, { tag := none, done := 0, note := (0, 0, 0), go := some { ofs := 0x42008, mask := 1, until_ := 500, next := 100 }, accesses := 2, rest := [] }, { ofs := 0x42008, mask := 1, until_ := 500, next := 100 }, at_ [223] [] { sess := [(1, { state := .open, load := some { tag := none, done := 0, note := (0, 0, 0), go := some { ofs := 0x42008, mask := 1, until_ := 500, next := 100 }, accesses := 2, rest := [] } })] }, by decide +kernel⟩,
   ⟨{ entry := { island := 223, ofs := 96, len := 60, records := 2, cmac := 0 }, pos := 96, replay := false, skips := false, wait := some { ofs := 0x42008, mask := 0xFF, value := 6, until_ := 1000, next := 100, rest := [] } }, { ofs := 0x42008, mask := 0xFF, value := 6, until_ := 1000, next := 100, rest := [] }, waitRead { ofs := 0x42008, mask := 0xFF, value := 6, until_ := 1000, next := 100, rest := [] } (passTo 100 (at_ [225, 223] [(SYS.PORTS, 0, 0, 0x1234)] { nvm := { run := some { entry := { island := 223, ofs := 96, len := 60, records := 2, cmac := 0 }, pos := 96, replay := false, skips := false, wait := some { ofs := 0x42008, mask := 0xFF, value := 6, until_ := 1000, next := 100, rest := [] } } } })), at_ [225, 223] [(SYS.PORTS, 0, 0, 0x1234)] { nvm := { run := some { entry := { island := 223, ofs := 96, len := 60, records := 2, cmac := 0 }, pos := 96, replay := false, skips := false, wait := some { ofs := 0x42008, mask := 0xFF, value := 6, until_ := 1000, next := 100, rest := [] } } } }, by and_intros <;> first | decide +kernel | rfl⟩,
   ⟨{ entry := { island := 223, ofs := 96, len := 60, records := 2, cmac := 0 }, pos := 96, replay := false, skips := false, wait := some { ofs := 0x42008, mask := 0xFF, value := 6, until_ := 1000, next := 100, rest := [] } }, { ofs := 0x42008, mask := 0xFF, value := 6, until_ := 1000, next := 100, rest := [] }, waitRead { ofs := 0x42008, mask := 0xFF, value := 6, until_ := 1000, next := 100, rest := [] } (passTo 1000 (at_ [225, 223] [(SYS.PORTS, 0, 0, 0x1234)] { nvm := { run := some { entry := { island := 223, ofs := 96, len := 60, records := 2, cmac := 0 }, pos := 96, replay := false, skips := false, wait := some { ofs := 0x42008, mask := 0xFF, value := 6, until_ := 1000, next := 100, rest := [] } } } })), at_ [225, 223] [(SYS.PORTS, 0, 0, 0x1234)] { nvm := { run := some { entry := { island := 223, ofs := 96, len := 60, records := 2, cmac := 0 }, pos := 96, replay := false, skips := false, wait := some { ofs := 0x42008, mask := 0xFF, value := 6, until_ := 1000, next := 100, rest := [] } } } }, by and_intros <;> first | decide +kernel | rfl⟩,
   ⟨1, 3, pkt_ 0x11 3 12 [99], fed_ 1 (pkt_ 0x11 3 12 [99]) (at_ [223, 178] []), by decide +kernel⟩,
   ⟨1, 3, 1, pkt_ 0x11 3 0x3FFF [99, 98], fed_ 1 (pkt_ 0x11 3 0x3FFF [99, 98]) (at_ [223, 178] []), by decide +kernel⟩,
   ⟨1, pkt_ 0x12 0 3 [], fed_ 1 (pkt_ 0x12 0 3 []) (at_ [223, 225] []), by decide +kernel⟩,
   ⟨1, pkt_ 0x13 5 0 [9], fed_ 1 (pkt_ 0x13 5 0 [9]) (at_ [223, 225] []), by decide +kernel⟩,
   ⟨pkt_ 0x13 0x100 0 [9], fed_ 0 (pkt_ 0x13 0x100 0 [9]) (at_ [223, 225] [] { cmd := { priv := true } }), by decide +kernel⟩,
   ⟨1, 3, pkt_ 0x20 3 0 [1, 2, 3, 4, 5, 6, 7, 8, 9, 10], fed_ 1 (pkt_ 0x20 3 0 [1, 2, 3, 4, 5, 6, 7, 8, 9, 10]) (at_ [223, 167, 170] []), by decide +kernel⟩,
   ⟨1, pkt_ 0x20 48 0 [1, 2, 3, 4, 5, 6, 7, 8, 9, 10], fed_ 1 (pkt_ 0x20 48 0 [1, 2, 3, 4, 5, 6, 7, 8, 9, 10]) (at_ [223, 167] []), by decide +kernel⟩,
   ⟨1, 3, pkt_ 0x20 3 0 [1, 2, 3, 4, 5, 6, 7, 8, 9, 10], fed_ 1 (pkt_ 0x20 3 0 [1, 2, 3, 4, 5, 6, 7, 8, 9, 10]) (at_ [223, 167, 170] [] { act := [(3, { normal := List.replicate 256 {} })] }), by decide +kernel⟩,
   ⟨1, 3, 5, {}, (injectInto 211 13 (pkt_ 0x21 0x80030005 0 [1, 2]).payload (fun x => match queueFor (3 : Fin 48) 5 x with | some (d, _) => overLimit d (xgemBytes 8) x | none => false) (fun h => tmdEnqueue (3 : Fin 48) 5 h 8) (runningPacket 1 (pkt_ 0x21 0x80030005 0 [1, 2]) (fed_ 1 (pkt_ 0x21 0x80030005 0 [1, 2]) (at_ [223, 211, 213, 214, 215, 216, 217, 167] [(BPM.POOL_S_CNT, 0, 0, 1), (QUOTA.MAX, 15, 0, 9), (CPHPORT.VALID, 3, 5, 1), (CPHPORT.OMCI, 3, 5, 1), (NODE.VALID, 3, 5, 1), (NODE.QLIM, 3, 5, 1200)] { bpm := { listed := true } })))).2, pkt_ 0x21 0x80030005 0 [1, 2], fed_ 1 (pkt_ 0x21 0x80030005 0 [1, 2]) (at_ [223, 211, 213, 214, 215, 216, 217, 167] [(BPM.POOL_S_CNT, 0, 0, 1), (QUOTA.MAX, 15, 0, 9), (CPHPORT.VALID, 3, 5, 1), (CPHPORT.OMCI, 3, 5, 1), (NODE.VALID, 3, 5, 1), (NODE.QLIM, 3, 5, 1200)] { bpm := { listed := true } }), by and_intros <;> first | decide +kernel | rfl⟩,
   ⟨0, 2, tmuQueue 0 26, {}, (injectInto 212 14 (pkt_ 0x21 512 0 [1, 2]).payload (fun x => isPort (0 : Fin 32) x && nrd NODE.VALID (tmuQueue 0 26) x == 1 && overLimit (tmuQueue 0 26) (8 + 4 + 20) x) (fun h => tmuEnqueue (0 : Fin 32) (.injection (2 : Fin 8)) (some h) (8 + 4) none) (runningPacket 0 (pkt_ 0x21 512 0 [1, 2]) (fed_ 0 (pkt_ 0x21 512 0 [1, 2]) (at_ [223, 212, 213, 214, 215, 216, 217] [(BPM.POOL_S_CNT, 0, 0, 1), (QUOTA.MAX, 15, 0, 9), (NET.PORT_CFG_EN, 0, 0, 1), (NET.PORT_CFG_MAX_FRAME, 0, 0, 2000), (NET.STS_LINK, 0, 0, 1), (NODEC.MAXLEN, 0, 2, 2000), (NODE.VALID, 320, 26, 1), (NODE.QLIM, 320, 26, 1200)] { cmd := { priv := true }, bpm := { listed := true } })))).2, pkt_ 0x21 512 0 [1, 2], fed_ 0 (pkt_ 0x21 512 0 [1, 2]) (at_ [223, 212, 213, 214, 215, 216, 217] [(BPM.POOL_S_CNT, 0, 0, 1), (QUOTA.MAX, 15, 0, 9), (NET.PORT_CFG_EN, 0, 0, 1), (NET.PORT_CFG_MAX_FRAME, 0, 0, 2000), (NET.STS_LINK, 0, 0, 1), (NODEC.MAXLEN, 0, 2, 2000), (NODE.VALID, 320, 26, 1), (NODE.QLIM, 320, 26, 1200)] { cmd := { priv := true }, bpm := { listed := true } }), by and_intros <;> first | decide +kernel | rfl⟩,
   ⟨1, 2, 9, 100, pkt_ 0x22 0x20090005 65535 [100], fed_ 1 (pkt_ 0x22 0x20090005 65535 [100]) (at_ [223] []), by decide +kernel⟩,
   ⟨1, pkt_ 0x22 0x40090005 5 [100], fed_ 1 (pkt_ 0x22 0x40090005 5 [100]) (at_ [223] []), by decide +kernel⟩,
   ⟨1, 3, 5, { tag := 7, until_ := 100000000, type := 5, role := 2, body := wordsBytes [1, 2, 3, 4], dst := some 3, redirected := false }, pkt_ 0x30 0x50003 0x02000000 [1, 2, 3, 4], fed_ 1 (pkt_ 0x30 0x50003 0x02000000 [1, 2, 3, 4]) (at_ [223] [(SYS.CTL_EN, 0, 0, 1)] { nvm := { devnum := some 4 } }), by decide +kernel⟩,
   ⟨1, pkt_ 0x30 0x50003 0 (List.replicate 351 7), fed_ 1 (pkt_ 0x30 0x50003 0 (List.replicate 351 7)) (at_ [223] [(SYS.CTL_EN, 0, 0, 1)] { nvm := { devnum := some 4 } }), by decide +kernel⟩,
   ⟨{ tag := 7, until_ := 500, type := 3, role := 2, body := [], dst := none, redirected := false }, at_ [223] [] { sess := [(6, { mbakin := some { tag := 7, until_ := 500, type := 3, role := 2, body := [], dst := none, redirected := false } })] }, by decide +kernel⟩,
   ⟨1, at_ [223] [], by decide +kernel⟩,
   ⟨pkt_ 0x40 0 0 [1], fed_ 0 (pkt_ 0x40 0 0 [1]) (at_ [223] []), by decide +kernel⟩,
   ⟨pkt_ 0x41 0 0 [1], fed_ 0 (pkt_ 0x41 0 0 [1]) (at_ [223] []), by decide +kernel⟩,
   ⟨pkt_ 0x42 0 0 [1], fed_ 0 (pkt_ 0x42 0 0 [1]) (at_ [223] []), by decide +kernel⟩,
   ⟨at_ [223] [], by decide +kernel⟩⟩

theorem witness_RegisterAccesses :
    (∃ (s : State), (Runs 4 0x42008 s) ∧ (tunnelUp s = true)) ∧
    (∃ (s : State), (Runs 4 0x42008 s) ∧ (tunnelUp s = true)) ∧
    (∃ (ofs : BitVec 24) (be : BitVec 4) (s : State), (s.up 223 = true) ∧ (tunnelUp s = true) ∧ (be ≠ 15) ∧ (0x50808 ≤ ofs.toNat)) ∧
    (∃ (s : State), (s.up 223 = true) ∧ (tunnelUp s = false)) ∧
    (∃ (s : State), (Runs 4 0x42008 s) ∧ (tunnelUp s = true) ∧ (rd CMD.IND_ADDR_OFFSET 0 s = 0x42008)) ∧
    (∃ (s : State), (Runs 4 0x42008 s) ∧ (tunnelUp s = true) ∧ (rd CMD.IND_ADDR_OFFSET 0 s = 0x42008)) ∧
    (∃ (src : Fin 5) (s : State), (Runs src 0x42008 s) ∧ (tunnelUp s = true)) ∧
    (∃ (src : Fin 5) (s : State), (Runs src 0x42040 s) ∧ (tunnelUp s = true)) ∧
    (∃ (src : Fin 5) (s : State), (Runs src 0x42040 s) ∧ (tunnelUp s = true)) ∧
    (∃ (src : Fin 5) (s : State), (Runs src 0x180004 s) ∧ (tunnelUp s = true) ∧ (s.up 213 = true) ∧ (on BPM.CTL_LOCK 0 s = true)) ∧
    (∃ (src : Fin 5) (s : State), (Runs src 0x180004 s) ∧ (tunnelUp s = true) ∧ (s.up 213 = true) ∧ (on BPM.CTL_LOCK 0 s = false)) ∧
    (∃ (src : Fin 5) (ofs : BitVec 24) (s : State), (Runs src ofs.toNat s) ∧ (src ≠ 4) ∧ (regAt ofs.toNat = none)) ∧
    (∃ (src : Fin 5) (ofs : BitVec 24) (sp : Sp) (i k j : Nat) (s : State), (Runs src ofs.toNat s) ∧ (src ≠ 4) ∧ (regAt ofs.toNat = some (sp, i, k)) ∧ (homeOf sp i k = some j) ∧ (s.up j = false)) ∧
    (∃ (src : Fin 5) (ofs : BitVec 24) (sp : Sp) (i k : Nat) (s : State), (Runs src ofs.toNat s) ∧ (src ≠ 4) ∧ ((src ≠ 0 ∨ s.cmd.priv = false)) ∧ (regAt ofs.toNat = some (sp, i, k)) ∧ (isGuarded sp k = true) ∧ ((∀ j, homeOf sp i k = some j → s.up j = true))) ∧
    (∃ (src : Fin 5) (ofs : BitVec 24) (s : State), (s.up 223 = true) ∧ (src ≠ 4) ∧ (portHeld src ofs.toNat s = true)) ∧
    (∃ (src : Fin 5) (ofs : BitVec 24) (sp : Sp) (i k : Nat) (s : State), (Runs src ofs.toNat s) ∧ (src ≠ 4) ∧ (regAt ofs.toNat = some (sp, i, k)) ∧ (downIsland sp i k s = none) ∧ ((isGuarded sp k = false ∨ privileged (accessing src s) = true))) ∧
    (∃ (src : Fin 5) (ofs : BitVec 24) (sp : Sp) (i k : Nat) (s : State), (Runs src ofs.toNat s) ∧ (src ≠ 4) ∧ (regAt ofs.toNat = some (sp, i, k)) ∧ (downIsland sp i k s = none) ∧ ((isGuarded sp k = false ∨ privileged (accessing src s) = true))) ∧
    (∃ (ofs : BitVec 24) (sp : Sp) (i k : Nat) (s : State), (Runs 4 ofs.toNat s) ∧ (tunnelUp s = true) ∧ (0x40000 ≤ ofs.toNat) ∧ (ofs ≠ 0x40008) ∧ (ofs ≠ 0x4000C) ∧ (ofs ≠ 0x40010) ∧ (¬(0x50000 ≤ ofs.toNat ∧ ofs.toNat < 0x50808)) ∧ (indirectOnly ofs.toNat = false) ∧ (regAt ofs.toNat = some (sp, i, k)) ∧ (downIsland sp i k s = none) ∧ ((isGuarded sp k = false ∨ privileged s = true))) ∧
    (∃ (ofs : BitVec 24) (sp : Sp) (i k : Nat) (s : State), (Runs 4 ofs.toNat s) ∧ (tunnelUp s = true) ∧ (0x40000 ≤ ofs.toNat) ∧ (ofs ≠ 0x40008) ∧ (ofs ≠ 0x4000C) ∧ (ofs ≠ 0x40010) ∧ (¬(0x50000 ≤ ofs.toNat ∧ ofs.toNat < 0x50808)) ∧ (indirectOnly ofs.toNat = false) ∧ (regAt ofs.toNat = some (sp, i, k)) ∧ (downIsland sp i k s = none) ∧ ((isGuarded sp k = false ∨ privileged s = true))) ∧
    (∃ (ofs : BitVec 24) (w : Word) (be : BitVec 4) (s : State), (s.up 223 = true) ∧ (tunnelUp s = true) ∧ (ofs.toNat < 0x40000) ∧ ((s.session (ofs.toNat / 0x10000)).state = .open) ∧ (be ≠ 0) ∧ ((s.session (ofs.toNat / 0x10000)).fifo.length + (enabledBytes be.toNat w.toNat).length ≤ 65536) ∧ (((s.session (ofs.toNat / 0x10000)).idle = false ∨ badHeader ((s.session (ofs.toNat / 0x10000)).fifo ++ enabledBytes be.toNat w.toNat) = false))) ∧
    (∃ (k : Fin 16) (ofs : BitVec 24) (s : State), (Runs 4 ofs.toNat s) ∧ (tunnelUp s = true) ∧ (ofs.toNat = 0x50000 + 4 * k)) ∧
    (∃ (w : Word) (ofs : Nat) (sp : Sp) (i k : Nat) (s : State), (Runs 4 ofs s) ∧ (tunnelUp s = true) ∧ (rd CMD.IND_ADDR_OFFSET 0 s = ofs) ∧ (regAt ofs = some (sp, i, k)) ∧ (downIsland sp i k s = none) ∧ ((isGuarded sp k = false ∨ privileged s = true)) ∧ ((blockWrite sp (instOf sp i s) k w.toNat (setVerdict 0 0 s)).cmd.verdict ≠ 5)) ∧
    (∃ (ofs : Nat) (sp : Sp) (i k : Nat) (s : State), (Runs 4 ofs s) ∧ (tunnelUp s = true) ∧ (rd CMD.IND_ADDR_OFFSET 0 s = ofs) ∧ (regAt ofs = some (sp, i, k)) ∧ (downIsland sp i k s = none) ∧ ((isGuarded sp k = false ∨ privileged s = true)) ∧ ((blockRead sp (instOf sp i s) k (setVerdict 0 0 s)).2.cmd.verdict ≠ 5)) ∧
    (∃ (s : State), (s.up 223 = true) ∧ (tunnelUp s = false)) :=
  ⟨⟨at_ [223] [(SYS.PORTS, 0, 0, 7)] { cmd := { link := 3 } }, by decide +kernel⟩,
   ⟨at_ [223] [(SYS.PORTS, 0, 0, 7)] { cmd := { link := 3 } }, by decide +kernel⟩,
   ⟨0x100000, 3, at_ [223] [(SYS.PORTS, 0, 0, 7)] { cmd := { link := 3 } }, by decide +kernel⟩,
   ⟨at_ [223] [] { cmd := { link := 1 } }, by decide +kernel⟩,
   ⟨at_ [223] [(CMD.IND_ADDR_OFFSET, 0, 0, 0x42008), (CMD.IND_ADDR_AUTO_INC, 0, 0, 1)] { cmd := { link := 3 } }, by decide +kernel⟩,
   ⟨at_ [223] [(CMD.IND_ADDR_OFFSET, 0, 0, 0x42008), (CMD.IND_ADDR_AUTO_INC, 0, 0, 1)] { cmd := { link := 3 } }, by decide +kernel⟩,
   ⟨2, at_ [223] [] { cmd := { link := 3 } }, by decide +kernel⟩,
   ⟨2, at_ [223] [(SYS.TX_CNT, 0, 0, 9)] { cmd := { link := 3 } }, by decide +kernel⟩,
   ⟨2, at_ [223] [(SYS.TX_CNT, 0, 0, 9)] { cmd := { link := 3 } }, by decide +kernel⟩,
   ⟨2, at_ [223, 213] [(BPM.POOL_S_CNT, 0, 0, 9), (BPM.CTL_LOCK, 0, 0, 1)] { cmd := { link := 3 } }, by decide +kernel⟩,
   ⟨2, at_ [223, 213] [(BPM.POOL_S_CNT, 0, 0, 9)] { cmd := { link := 3 } }, by decide +kernel⟩,
   ⟨2, 0x43000, at_ [223] [], by decide +kernel⟩,
   ⟨2, 0x180004, .bpm, 0, 1, 213, at_ [223] [], by decide +kernel⟩,
   ⟨2, 0xF10008, .par, 0, 2, at_ [223, 224] [], by decide +kernel⟩,
   ⟨2, 0x42008, at_ [223] [] { sess := [(1, { load := some { tag := none, done := 0, note := (0, 0, 0), go := some { ofs := 0x42000, mask := 1, until_ := 5, next := 5 }, accesses := 2, rest := [] } })] }, by decide +kernel⟩,
   ⟨2, 0x42008, .sys, 0, 2, at_ [223] [(SYS.PORTS, 0, 0, 7)], by decide +kernel⟩,
   ⟨2, 0x42008, .sys, 0, 2, at_ [223] [(SYS.PORTS, 0, 0, 7)], by decide +kernel⟩,
   ⟨0x42008, .sys, 0, 2, at_ [223] [(SYS.PORTS, 0, 0, 7)] { cmd := { link := 3 } }, by decide +kernel⟩,
   ⟨0x42008, .sys, 0, 2, at_ [223] [(SYS.PORTS, 0, 0, 7)] { cmd := { link := 3 } }, by decide +kernel⟩,
   ⟨0x10004, 0x11223344, 5, at_ [223] [] { cmd := { link := 3 }, sess := [(1, { state := .open })] }, by decide +kernel⟩,
   ⟨3, 0x5000C, at_ [223] [] { cmd := { link := 3 } }, by decide +kernel⟩,
   ⟨7, 0x42008, .sys, 0, 2, at_ [223] [(CMD.IND_ADDR_OFFSET, 0, 0, 0x42008)] { cmd := { link := 3 } }, by decide +kernel⟩,
   ⟨0x42008, .sys, 0, 2, at_ [223] [(CMD.IND_ADDR_OFFSET, 0, 0, 0x42008)] { cmd := { link := 3 } }, by decide +kernel⟩,
   ⟨at_ [223] [] { cmd := { link := 1 } }, by decide +kernel⟩⟩

end Sys2Proof.Tests
end

/-! What reset leaves (R8, R322). -/

namespace Sys2Proof.Machine

theorem State.reset_get (k : Key) : State.reset.get k = k.reset := by
  unfold State.get
  split <;> rfl

theorem rdx_reset (f : Fld) (i x : Nat) : rdx f i x State.reset = bitsOf (f.key i x).reset f.hi f.lo := by
  rw [rdx, State.reset_get]

/-- A register's reset value is the same wherever the register stands (R8). -/
theorem rdx_reset_entry {f : Fld} (h : (regDesc f.sp f.word).isSome = true) (i x : Nat) :
    rdx f i x State.reset = rdx f 0 0 State.reset := by
  obtain ⟨r, hr⟩ := Option.isSome_iff_exists.mp h
  simp [rdx_reset, Key.reset, Fld.key, hr]

/-- Settles O2: an unlisted word reads as its reset value, and every other part has its default. -/
theorem resetState : Obligations.ResetState := by
  refine ⟨State.reset_get, fun _ => rfl, ?role, rfl, rfl, fun _ => rfl, rfl, ?miss, ?ms, fun n x => ?age⟩
  case role => rw [role, rd, rdx_reset]; decide
  case miss => rw [rd, rdx_reset]; decide
  case ms => rw [rd, rdx_reset]; decide
  case age => rw [rdx_reset_entry (by decide), rdx_reset]; decide

/-- Settles O7: both stores are empty. -/
theorem canonicalAtReset : Obligations.CanonicalAtReset := rfl

end Sys2Proof.Machine

/-! The words stay canonical (R8). -/

namespace Sys2Proof.Machine

/-- Every command evolves the state, within a set of parts that leaves the queue alone (Laws/Ev*.lean). -/
theorem exec_evolves (c : Instr) (s : State) :
    ∃ m, OutEvolves m s (exec c s) ∧ m.testBit Part.pending.ctorIdx = false :=
  match c with
  | .txModeRun n => ⟨_, ev_execTxModeRun n s, rfl⟩
  | .txExitComplete n => ⟨_, ev_execTxExitComplete n s, rfl⟩
  | .txModeIdle n => ⟨_, ev_execTxModeIdle n s, rfl⟩
  | .txPllUnlock n => ⟨_, ev_execTxPllUnlock n s, rfl⟩
  | .txdisForceWrite n v => ⟨_, ev_execTxdisForceWrite n v s, rfl⟩
  | .presetDataAccess n w => ⟨_, ev_execPresetDataAccess n w s, rfl⟩
  | .selectionSend n => ⟨_, ev_execSelectionSend n s, rfl⟩
  | .presetSelection n lead => ⟨_, ev_execPresetSelection n lead s, rfl⟩
  | .selectionLoad n => ⟨_, ev_execSelectionLoad n s, rfl⟩
  | .missingSelectionWindow n => ⟨_, ev_execMissingSelectionWindow n s, rfl⟩
  | .windowClose n phase beaten next => ⟨_, ev_execWindowClose n phase beaten next s, rfl⟩
  | .windowEnergyMiss n => ⟨_, ev_execWindowEnergyMiss n s, rfl⟩
  | .lockDeclared n ui => ⟨_, ev_execLockDeclared n ui s, rfl⟩
  | .lockFail n => ⟨_, ev_execLockFail n s, rfl⟩
  | .lockLost n => ⟨_, ev_execLockLost n s, rfl⟩
  | .lolDeclare n => ⟨_, ev_execLolDeclare n s, rfl⟩
  | .lolClear n => ⟨_, ev_execLolClear n s, rfl⟩
  | .losDeclare n => ⟨_, ev_execLosDeclare n s, rfl⟩
  | .modulePresenceChange n present => ⟨_, ev_execModulePresenceChange n present s, rfl⟩
  | .treeSdChange n level samples => ⟨_, ev_execTreeSdChange n level samples s, rfl⟩
  | .chatterDeclare n => ⟨_, ev_execChatterDeclare n s, rfl⟩
  | .chatterClear n => ⟨_, ev_execChatterClear n s, rfl⟩
  | .sdRogue n => ⟨_, ev_execSdRogue n s, rfl⟩
  | .testModeWrite n mode pattern => ⟨_, ev_execTestModeWrite n mode pattern s, rfl⟩
  | .testSlip n => ⟨_, ev_execTestSlip n s, rfl⟩
  | .prbsLockGain n => ⟨_, ev_execPrbsLockGain n s, rfl⟩
  | .prbsLockLoss n errs => ⟨_, ev_execPrbsLockLoss n errs s, rfl⟩
  | .fsHeaderBuild n => ⟨_, ev_execFsHeaderBuild n s, rfl⟩
  | .mapDeadline n => ⟨_, ev_execMapDeadline n s, rfl⟩
  | .frameStart n => ⟨_, ev_execFrameStart n s, rfl⟩
  | .encoderSlot k => ⟨_, ev_execEncoderSlot k s, rfl⟩
  | .codewordUnderrun n => ⟨_, ev_execCodewordUnderrun n s, rfl⟩
  | .fecEnWrite n v => ⟨_, ev_execFecEnWrite n v s, rfl⟩
  | .dsEnWrite n v => ⟨_, ev_execDsEnWrite n v s, rfl⟩
  | .ponidHiWrite n v => ⟨_, ev_execPonidHiWrite n v s, rfl⟩
  | .sfcLoRead n => ⟨_, ev_execSfcLoRead n s, rfl⟩
  | .delimiterAccept n ofs => ⟨_, ev_execDelimiterAccept n ofs s, rfl⟩
  | .delimiterMiss n => ⟨_, ev_execDelimiterMiss n s, rfl⟩
  | .burstOverrun n => ⟨_, ev_execBurstOverrun n s, rfl⟩
  | .codewordQueued n bits first last => ⟨_, ev_execCodewordQueued n bits first last s, rfl⟩
  | .decoderDispatch => ⟨_, ev_execDecoderDispatch s, rfl⟩
  | .kvCheckDone j pass => ⟨_, ev_execKvCheckDone j pass s, rfl⟩
  | .codewordDecoded src r => ⟨_, ev_execCodewordDecoded src r s, rfl⟩
  | .codewordAgeDiscard => ⟨_, ev_execCodewordAgeDiscard s, rfl⟩
  | .decEnWrite j v => ⟨_, ev_execDecEnWrite j v s, rfl⟩
  | .reasmTimeout n port => ⟨_, ev_execReasmTimeout n port s, rfl⟩
  | .degWindowTimeout n t => ⟨_, ev_execDegWindowTimeout n t s, rfl⟩
  | .degDeclare n t => ⟨_, ev_execDegDeclare n t s, rfl⟩
  | .degClear n t => ⟨_, ev_execDegClear n t s, rfl⟩
  | .degCfgWrite n w => ⟨_, ev_execDegCfgWrite n w s, rfl⟩
  | .degEnClear n => ⟨_, ev_execDegEnClear n s, rfl⟩
  | .serialNumberOnu n r => ⟨_, ev_execSerialNumberOnu n r s, rfl⟩
  | .registration n t a start => ⟨_, ev_execRegistration n t a start s, rfl⟩
  | .rangingTimeout n t => ⟨_, ev_execRangingTimeout n t s, rfl⟩
  | .lobDeclare n t => ⟨_, ev_execLobDeclare n t s, rfl⟩
  | .lobHoldExpiry n t => ⟨_, ev_execLobHoldExpiry n t s, rfl⟩
  | .dyingGasp n t => ⟨_, ev_execDyingGasp n t s, rfl⟩
  | .tcmdDeactivate n t => ⟨_, ev_execTcmdDeactivate n t s, rfl⟩
  | .tcmdDisable n t => ⟨_, ev_execTcmdDisable n t s, rfl⟩
  | .tcmdEnable n t => ⟨_, ev_execTcmdEnable n t s, rfl⟩
  | .tcmdReRange n t => ⟨_, ev_execTcmdReRange n t s, rfl⟩
  | .tcmdEnableAll n t => ⟨_, ev_execTcmdEnableAll n t s, rfl⟩
  | .ploamUpstream n t kind ok body => ⟨_, ev_execPloamUpstream n t kind ok body s, rfl⟩
  | .ploamKeyCommit n w => ⟨_, ev_execPloamKeyCommit n w s, rfl⟩
  | .todRequest n v => ⟨_, ev_execTodRequest n v s, rfl⟩
  | .todDone n => ⟨_, ev_execTodDone n s, rfl⟩
  | .rogueCriterion n crit => ⟨_, ev_execRogueCriterion n crit s, rfl⟩
  | .smokerObserve n judged seen => ⟨_, ev_execSmokerObserve n judged seen s, rfl⟩
  | .smokerStop n => ⟨_, ev_execSmokerStop n s, rfl⟩
  | .combClose n => ⟨_, ev_execCombClose n s, rfl⟩
  | .cellDataWrite n w => ⟨_, ev_execCellDataWrite n w s, rfl⟩
  | .witCfgWrite n long start => ⟨_, ev_execWitCfgWrite n long start s, rfl⟩
  | .allocContextCommit n w => ⟨_, ev_execAllocContextCommit n w s, rfl⟩
  | .mirrorDelta n d crcOk => ⟨_, ev_execMirrorDelta n d crcOk s, rfl⟩
  | .mirrorCloseMarker n => ⟨_, ev_execMirrorCloseMarker n s, rfl⟩
  | .add k t => ⟨_, ev_execAdd k t s, rfl⟩
  | .sub k t => ⟨_, ev_execSub k t s, rfl⟩
  | .and k t => ⟨_, ev_execAnd k t s, rfl⟩
  | .or k t => ⟨_, ev_execOr k t s, rfl⟩
  | .xor k t => ⟨_, ev_execXor k t s, rfl⟩
  | .shl k t => ⟨_, ev_execShl k t s, rfl⟩
  | .shr k t => ⟨_, ev_execShr k t s, rfl⟩
  | .minu k t => ⟨_, ev_execMinu k t s, rfl⟩
  | .maxu k t => ⟨_, ev_execMaxu k t s, rfl⟩
  | .sltu k t => ⟨_, ev_execSltu k t s, rfl⟩
  | .mul k t => ⟨_, ev_execMul k t s, rfl⟩
  | .addi k t => ⟨_, ev_execAddi k t s, rfl⟩
  | .andi k t => ⟨_, ev_execAndi k t s, rfl⟩
  | .ori k t => ⟨_, ev_execOri k t s, rfl⟩
  | .xori k t => ⟨_, ev_execXori k t s, rfl⟩
  | .shli k t => ⟨_, ev_execShli k t s, rfl⟩
  | .shri k t => ⟨_, ev_execShri k t s, rfl⟩
  | .lui k t => ⟨_, ev_execLui k t s, rfl⟩
  | .sltui k t => ⟨_, ev_execSltui k t s, rfl⟩
  | .ld k t => ⟨_, ev_execLd k t s, rfl⟩
  | .st k t => ⟨_, ev_execSt k t s, rfl⟩
  | .amadd k t => ⟨_, ev_execAmadd k t s, rfl⟩
  | .beq k t => ⟨_, ev_execBeq k t s, rfl⟩
  | .bne k t => ⟨_, ev_execBne k t s, rfl⟩
  | .bltu k t => ⟨_, ev_execBltu k t s, rfl⟩
  | .bgeu k t => ⟨_, ev_execBgeu k t s, rfl⟩
  | .bst k t => ⟨_, ev_execBst k t s, rfl⟩
  | .bstn k t => ⟨_, ev_execBstn k t s, rfl⟩
  | .jmp k t => ⟨_, ev_execJmp k t s, rfl⟩
  | .jal k t => ⟨_, ev_execJal k t s, rfl⟩
  | .jr k t => ⟨_, ev_execJr k t s, rfl⟩
  | .illegalInstruction k t => ⟨_, ev_execIllegalInstruction k t s, rfl⟩
  | .popr k t => ⟨_, ev_execPopr k t s, rfl⟩
  | .popa k t => ⟨_, ev_execPopa k t s, rfl⟩
  | .wfe k t => ⟨_, ev_execWfe k t s, rfl⟩
  | .threadWake k t => ⟨_, ev_execThreadWake k t s, rfl⟩
  | .cwr k t race => ⟨_, ev_execCwr k t race s, rfl⟩
  | .crd k t => ⟨_, ev_execCrd k t s, rfl⟩
  | .plf k t lost => ⟨_, ev_execPlf k t lost s, rfl⟩
  | .dur k t => ⟨_, ev_execDur k t s, rfl⟩
  | .ctxr k t => ⟨_, ev_execCtxr k t s, rfl⟩
  | .ctxw k t lost => ⟨_, ev_execCtxw k t lost s, rfl⟩
  | .tbu k t lost => ⟨_, ev_execTbu k t lost s, rfl⟩
  | .pls k t => ⟨_, ev_execPls k t s, rfl⟩
  | .emp k t => ⟨_, ev_execEmp k t s, rfl⟩
  | .evr k t => ⟨_, ev_execEvr k t s, rfl⟩
  | .frm k t => ⟨_, ev_execFrm k t s, rfl⟩
  | .tickEvent k => ⟨_, ev_execTickEvent k s, rfl⟩
  | .watchdogFault k t => ⟨_, ev_execWatchdogFault k t s, rfl⟩
  | .threadEnable k t => ⟨_, ev_execThreadEnable k t s, rfl⟩
  | .threadDisable k t => ⟨_, ev_execThreadDisable k t s, rfl⟩
  | .thrRegionWrite k t w => ⟨_, ev_execThrRegionWrite k t w s, rfl⟩
  | .handoverRequest k t => ⟨_, ev_execHandoverRequest k t s, rfl⟩
  | .mailboxWrite k t w => ⟨_, ev_execMailboxWrite k t w s, rfl⟩
  | .imemWrite k w => ⟨_, ev_execImemWrite k w s, rfl⟩
  | .dmemWrite k w => ⟨_, ev_execDmemWrite k w s, rfl⟩
  | .ctxDataWrite k w => ⟨_, ev_execCtxDataWrite k w s, rfl⟩
  | .traceCtlWrite k w => ⟨_, ev_execTraceCtlWrite k w s, rfl⟩
  | .traceFull k => ⟨_, ev_execTraceFull k s, rfl⟩
  | .crlBind dir n l => ⟨_, ev_execCrlBind dir n l s, rfl⟩
  | .crlUnbind dir n l => ⟨_, ev_execCrlUnbind dir n l s, rfl⟩
  | .crlBuild n l ofs => ⟨_, ev_execCrlBuild n l ofs s, rfl⟩
  | .crlContainerDeadline n l => ⟨_, ev_execCrlContainerDeadline n l s, rfl⟩
  | .crlContainerRx n l c => ⟨_, ev_execCrlContainerRx n l c s, rfl⟩
  | .crlContainerMissing n l => ⟨_, ev_execCrlContainerMissing n l s, rfl⟩
  | .crlSyncEnter n l => ⟨_, ev_execCrlSyncEnter n l s, rfl⟩
  | .crlSyncLeave n l => ⟨_, ev_execCrlSyncLeave n l s, rfl⟩
  | .labelAccept n l => ⟨_, ev_execLabelAccept n l s, rfl⟩
  | .crlPacketEmit n l => ⟨_, ev_execCrlPacketEmit n l s, rfl⟩
  | .roePacketRx n l flow len pt => ⟨_, ev_execRoePacketRx n l flow len pt s, rfl⟩
  | .roePacketPresent n l => ⟨_, ev_execRoePacketPresent n l s, rfl⟩
  | .ohpPeriod p words => ⟨_, ev_execOhpPeriod p words s, rfl⟩
  | .ohpChannelWrite p w => ⟨_, ev_execOhpChannelWrite p w s, rfl⟩
  | .crlLaneWrite w => ⟨_, ev_execCrlLaneWrite w s, rfl⟩
  | .clsFrame k f => ⟨_, ev_execClsFrame k f s, rfl⟩
  | .clsSecondSlot k => ⟨_, ev_execClsSecondSlot k s, rfl⟩
  | .learnApply k => ⟨_, ev_execLearnApply k s, rfl⟩
  | .relocationClear k => ⟨_, ev_execRelocationClear k s, rfl⟩
  | .merge => ⟨_, ev_execMerge s, rfl⟩
  | .conditionalClear k => ⟨_, ev_execConditionalClear k s, rfl⟩
  | .agingVisit k hits => ⟨_, ev_execAgingVisit k hits s, rfl⟩
  | .emInsert k slot => ⟨_, ev_execEmInsert k slot s, rfl⟩
  | .emDelete k slot => ⟨_, ev_execEmDelete k slot s, rfl⟩
  | .emSearch k slot => ⟨_, ev_execEmSearch k slot s, rfl⟩
  | .emReadSlot k slot => ⟨_, ev_execEmReadSlot k slot s, rfl⟩
  | .emFlushLearned k slot => ⟨_, ev_execEmFlushLearned k slot s, rfl⟩
  | .emFlushTree k slot => ⟨_, ev_execEmFlushTree k slot s, rfl⟩
  | .emCmdDone k => ⟨_, ev_execEmCmdDone k s, rfl⟩
  | .lpmAdd => ⟨_, ev_execLpmAdd s, rfl⟩
  | .lpmDelete => ⟨_, ev_execLpmDelete s, rfl⟩
  | .lpmFlushV4 => ⟨_, ev_execLpmFlushV4 s, rfl⟩
  | .lpmFlushV6 => ⟨_, ev_execLpmFlushV6 s, rfl⟩
  | .lpmCmdDone => ⟨_, ev_execLpmCmdDone s, rfl⟩
  | .hashSeedWrite k no w => ⟨_, ev_execHashSeedWrite k no w s, rfl⟩
  | .tableEntryCommit k w => ⟨_, ev_execTableEntryCommit k w s, rfl⟩
  | .alloc r control len count holders => ⟨_, ev_execAlloc r control len count holders s, rfl⟩
  | .share r h n dst => ⟨_, ev_execShare r h n dst s, rfl⟩
  | .free r h => ⟨_, ev_execFree r h s, rfl⟩
  | .transfer r h dst => ⟨_, ev_execTransfer r h dst s, rfl⟩
  | .bufferArbitration => ⟨_, ev_execBufferArbitration s, rfl⟩
  | .bufferAccess r h ofs len data ecc => ⟨_, ev_execBufferAccess r h ofs len data ecc s, rfl⟩
  | .poolLock => ⟨_, ev_execPoolLock s, rfl⟩
  | .freeListDone => ⟨_, ev_execFreeListDone s, rfl⟩
  | .quotaCommit w => ⟨_, ev_execQuotaCommit w s, rfl⟩
  | .reclaimDone => ⟨_, ev_execReclaimDone s, rfl⟩
  | .descSnapshot h => ⟨_, ev_execDescSnapshot h s, rfl⟩
  | .hbmTempSample st t => ⟨_, ev_execHbmTempSample st t s, rfl⟩
  | .hbmPhyTrainLoss st => ⟨_, ev_execHbmPhyTrainLoss st s, rfl⟩
  | .hbmRetrainDone st => ⟨_, ev_execHbmRetrainDone st s, rfl⟩
  | .tmdEnqueue n port h len => ⟨_, ev_execTmdEnqueue n port h len s, rfl⟩
  | .tmdDequeueOffer n => ⟨_, ev_execTmdDequeueOffer n s, rfl⟩
  | .tmdFrameTaken n err => ⟨_, ev_execTmdFrameTaken n err s, rfl⟩
  | .nofragReturn n => ⟨_, ev_execNofragReturn n s, rfl⟩
  | .treeDead n => ⟨_, ev_execTreeDead n s, rfl⟩
  | .tmuEnqueue p k h len m => ⟨_, ev_execTmuEnqueue p k h len m s, rfl⟩
  | .tmuTxDecision p err => ⟨_, ev_execTmuTxDecision p err s, rfl⟩
  | .gateEvent p => ⟨_, ev_execGateEvent p s, rfl⟩
  | .preemptCut p => ⟨_, ev_execPreemptCut p s, rfl⟩
  | .gateChangeRequest p w => ⟨_, ev_execGateChangeRequest p w s, rfl⟩
  | .gateListChange p => ⟨_, ev_execGateListChange p s, rfl⟩
  | .cutThroughOffer p g c h len => ⟨_, ev_execCutThroughOffer p g c h len s, rfl⟩
  | .nodeWrite m w => ⟨_, ev_execNodeWrite m w s, rfl⟩
  | .shaperWrite m w => ⟨_, ev_execShaperWrite m w s, rfl⟩
  | .cipherDsSdu n port len ofs bytes => ⟨_, ev_execCipherDsSdu n port len ofs bytes s, rfl⟩
  | .cipherUsSdu n ki frame index whole tagOk micOk bytes =>
    ⟨_, ev_execCipherUsSdu n ki frame index whole tagOk micOk bytes s, rfl⟩
  | .ctTagCheck ok => ⟨_, ev_execCtTagCheck ok s, rfl⟩
  | .invocationWarning d f => ⟨_, ev_execInvocationWarning d f s, rfl⟩
  | .flowHold d f => ⟨_, ev_execFlowHold d f s, rfl⟩
  | .flowKeyCommit d w => ⟨_, ev_execFlowKeyCommit d w s, rfl⟩
  | .terminalKeyCommit d w => ⟨_, ev_execTerminalKeyCommit d w s, rfl⟩
  | .ringKeyCommit d w => ⟨_, ev_execRingKeyCommit d w s, rfl⟩
  | .rekeyTerminalSwitch d n t => ⟨_, ev_execRekeyTerminalSwitch d n t s, rfl⟩
  | .rekeyFlowSwitch d f => ⟨_, ev_execRekeyFlowSwitch d f s, rfl⟩
  | .rekeyLoadRing d f => ⟨_, ev_execRekeyLoadRing d f s, rfl⟩
  | .rekeyClearSlot d f => ⟨_, ev_execRekeyClearSlot d f s, rfl⟩
  | .oldSlotExpiry d f => ⟨_, ev_execOldSlotExpiry d f s, rfl⟩
  | .flowWrite d w => ⟨_, ev_execFlowWrite d w s, rfl⟩
  | .cipherPortWrite d w => ⟨_, ev_execCipherPortWrite d w s, rfl⟩
  | .portCfgWrite n w => ⟨_, ev_execPortCfgWrite n w s, rfl⟩
  | .anComplete n => ⟨_, ev_execAnComplete n s, rfl⟩
  | .linkUp n => ⟨_, ev_execLinkUp n s, rfl⟩
  | .ltTimeout n => ⟨_, ev_execLtTimeout n s, rfl⟩
  | .ltSignalLoss n => ⟨_, ev_execLtSignalLoss n s, rfl⟩
  | .backoffEnd n => ⟨_, ev_execBackoffEnd n s, rfl⟩
  | .linkDown n localFault => ⟨_, ev_execLinkDown n localFault s, rfl⟩
  | .remoteFault n => ⟨_, ev_execRemoteFault n s, rfl⟩
  | .fecWindow n corr uncorr sym => ⟨_, ev_execFecWindow n corr uncorr sym s, rfl⟩
  | .verifyResponse n => ⟨_, ev_execVerifyResponse n s, rfl⟩
  | .verifyTimeout n => ⟨_, ev_execVerifyTimeout n s, rfl⟩
  | .netFrameRx n hdr bytes fcsOk => ⟨_, ev_execNetFrameRx n hdr bytes fcsOk s, rfl⟩
  | .referenceUpdate err => ⟨_, ev_execReferenceUpdate err s, rfl⟩
  | .timLocked => ⟨_, ev_execTimLocked s, rfl⟩
  | .timUnlock => ⟨_, ev_execTimUnlock s, rfl⟩
  | .sourceLoss src err => ⟨_, ev_execSourceLoss src err s, rfl⟩
  | .sourceReturn err => ⟨_, ev_execSourceReturn err s, rfl⟩
  | .refclkCheck ok => ⟨_, ev_execRefclkCheck ok s, rfl⟩
  | .ppsEdge held => ⟨_, ev_execPpsEdge held s, rfl⟩
  | .ppsLost => ⟨_, ev_execPpsLost s, rfl⟩
  | .todMessage bytes => ⟨_, ev_execTodMessage bytes s, rfl⟩
  | .ppsQualified => ⟨_, ev_execPpsQualified s, rfl⟩
  | .adjOffset => ⟨_, ev_execAdjOffset s, rfl⟩
  | .adjSetTime => ⟨_, ev_execAdjSetTime s, rfl⟩
  | .setTimeApply => ⟨_, ev_execSetTimeApply s, rfl⟩
  | .adjRealign => ⟨_, ev_execAdjRealign s, rfl⟩
  | .realignCut => ⟨_, ev_execRealignCut s, rfl⟩
  | .frameTimebaseAligned => ⟨_, ev_execFrameTimebaseAligned s, rfl⟩
  | .adjFreqWrite w => ⟨_, ev_execAdjFreqWrite w s, rfl⟩
  | .ppsOutPulse => ⟨_, ev_execPpsOutPulse s, rfl⟩
  | .ptpMessageRx n m => ⟨_, ev_execPtpMessageRx n m s, rfl⟩
  | .ptpQualLoss n => ⟨_, ev_execPtpQualLoss n s, rfl⟩
  | .txtsRead p => ⟨_, ev_execTxtsRead p s, rfl⟩
  | .sentinelTimeCopy => ⟨_, ev_execSentinelTimeCopy s, rfl⟩
  | .heartbeatRx h => ⟨_, ev_execHeartbeatRx h s, rfl⟩
  | .heartbeatMiss => ⟨_, ev_execHeartbeatMiss s, rfl⟩
  | .partnerLinkDown => ⟨_, ev_execPartnerLinkDown s, rfl⟩
  | .partnerLinkUp => ⟨_, ev_execPartnerLinkUp s, rfl⟩
  | .p0LockLoss => ⟨_, ev_execP0LockLoss s, rfl⟩
  | .p1Loss trees => ⟨_, ev_execP1Loss trees s, rfl⟩
  | .bulkCopyDone => ⟨_, ev_execBulkCopyDone s, rfl⟩
  | .upstreamFrameJudge light => ⟨_, ev_execUpstreamFrameJudge light s, rfl⟩
  | .ofsValid n ofs => ⟨_, ev_execOfsValid n ofs s, rfl⟩
  | .healthEval enc lane => ⟨_, ev_execHealthEval enc lane s, rfl⟩
  | .healthReport => ⟨_, ev_execHealthReport s, rfl⟩
  | .yield => ⟨_, ev_execYield s, rfl⟩
  | .switchRx k => ⟨_, ev_execSwitchRx k s, rfl⟩
  | .ackRx => ⟨_, ev_execAckRx s, rfl⟩
  | .nakRx => ⟨_, ev_execNakRx s, rfl⟩
  | .commitRx => ⟨_, ev_execCommitRx s, rfl⟩
  | .switchoverExecute => ⟨_, ev_execSwitchoverExecute s, rfl⟩
  | .switchAbort => ⟨_, ev_execSwitchAbort s, rfl⟩
  | .commitTimeout => ⟨_, ev_execCommitTimeout s, rfl⟩
  | .releasedRx epoch => ⟨_, ev_execReleasedRx epoch s, rfl⟩
  | .returnSend => ⟨_, ev_execReturnSend s, rfl⟩
  | .returnRx => ⟨_, ev_execReturnRx s, rfl⟩
  | .linkDownRoleChange => ⟨_, ev_execLinkDownRoleChange s, rfl⟩
  | .startupExpiry => ⟨_, ev_execStartupExpiry s, rfl⟩
  | .sentinelFeedLoss f => ⟨_, ev_execSentinelFeedLoss f s, rfl⟩
  | .sentinelFeedReturn f => ⟨_, ev_execSentinelFeedReturn f s, rfl⟩
  | .coreFeedLoss => ⟨_, ev_execCoreFeedLoss s, rfl⟩
  | .coreFeedReturn => ⟨_, ev_execCoreFeedReturn s, rfl⟩
  | .roleSwitchOver => ⟨_, ev_execRoleSwitchOver s, rfl⟩
  | .roleEnterTest => ⟨_, ev_execRoleEnterTest s, rfl⟩
  | .roleLeaveTest => ⟨_, ev_execRoleLeaveTest s, rfl⟩
  | .roleRejoin => ⟨_, ev_execRoleRejoin s, rfl⟩
  | .mbakinHeartbeatSend => ⟨_, ev_execMbakinHeartbeatSend s, rfl⟩
  | .mbakinRx m => ⟨_, ev_execMbakinRx m s, rfl⟩
  | .peerLost p => ⟨_, ev_execPeerLost p s, rfl⟩
  | .sysCtlWrite w => ⟨_, ev_execSysCtlWrite w s, rfl⟩
  | .sysKeyCommit w => ⟨_, ev_execSysKeyCommit w s, rfl⟩
  | .powerOn a b => ⟨_, ev_execPowerOn a b s, rfl⟩
  | .fuseMapLatch => ⟨_, ev_execFuseMapLatch s, rfl⟩
  | .resetNPulse width taken => ⟨_, ev_execResetNPulse width taken s, rfl⟩
  | .rstWarm => ⟨_, ev_execRstWarm s, rfl⟩
  | .rstBlock no => ⟨_, ev_execRstBlock no s, rfl⟩
  | .rstReleaseHeld no => ⟨_, ev_execRstReleaseHeld no s, rfl⟩
  | .rstCold => ⟨_, ev_execRstCold s, rfl⟩
  | .islandRelease no f => ⟨_, ev_execIslandRelease no f s, rfl⟩
  | .phaseStall no => ⟨_, ev_execPhaseStall no s, rfl⟩
  | .clockGoodDrop no pll f => ⟨_, ev_execClockGoodDrop no pll f s, rfl⟩
  | .ioRailLoss => ⟨_, ev_execIoRailLoss s, rfl⟩
  | .ioRailReturn => ⟨_, ev_execIoRailReturn s, rfl⟩
  | .pinOverride w => ⟨_, ev_execPinOverride w s, rfl⟩
  | .thermalSample t => ⟨_, ev_execThermalSample t s, rfl⟩
  | .thermalTrip => ⟨_, ev_execThermalTrip s, rfl⟩
  | .otpShadowLoaded => ⟨_, ev_execOtpShadowLoaded s, rfl⟩
  | .flashDiscoveryDone good => ⟨_, ev_execFlashDiscoveryDone good s, rfl⟩
  | .slotCheckDone => ⟨_, ev_execSlotCheckDone s, rfl⟩
  | .runApply => ⟨_, ev_execRunApply s, rfl⟩
  | .recordWrite => ⟨_, ev_execRecordWrite s, rfl⟩
  | .recordStream => ⟨_, ev_execRecordStream s, rfl⟩
  | .recordModify => ⟨_, ev_execRecordModify s, rfl⟩
  | .recordWait => ⟨_, ev_execRecordWait s, rfl⟩
  | .waitPoll who => ⟨_, ev_execWaitPoll who s, rfl⟩
  | .waitTimeout who => ⟨_, ev_execWaitTimeout who s, rfl⟩
  | .recordKey => ⟨_, ev_execRecordKey s, rfl⟩
  | .recordTable => ⟨_, ev_execRecordTable s, rfl⟩
  | .recordEnd => ⟨_, ev_execRecordEnd s, rfl⟩
  | .nvmRead addr len => ⟨_, ev_execNvmRead addr len s, rfl⟩
  | .nvmProgram addr len => ⟨_, ev_execNvmProgram addr len s, rfl⟩
  | .nvmErase addr => ⟨_, ev_execNvmErase addr s, rfl⟩
  | .nvmCheck slot => ⟨_, ev_execNvmCheck slot s, rfl⟩
  | .nvmBoot => ⟨_, ev_execNvmBoot s, rfl⟩
  | .flashOpDone => ⟨_, ev_execFlashOpDone s, rfl⟩
  | .flashTimeout => ⟨_, ev_execFlashTimeout s, rfl⟩
  | .otpProgramSettings => ⟨_, ev_execOtpProgramSettings s, rfl⟩
  | .otpProgramKey arg => ⟨_, ev_execOtpProgramKey arg s, rfl⟩
  | .otpProgramDevnum => ⟨_, ev_execOtpProgramDevnum s, rfl⟩
  | .otpAdvanceArb arg => ⟨_, ev_execOtpAdvanceArb arg s, rfl⟩
  | .otpProgramPin pin => ⟨_, ev_execOtpProgramPin pin s, rfl⟩
  | .otpWordProgrammed ok => ⟨_, ev_execOtpWordProgrammed ok s, rfl⟩
  | .usb4LinkUp gen4 => ⟨_, ev_execUsb4LinkUp gen4 s, rfl⟩
  | .usb4LinkRefused => ⟨_, ev_execUsb4LinkRefused s, rfl⟩
  | .usb4EnWrite v => ⟨_, ev_execUsb4EnWrite v s, rfl⟩
  | .tunnelLoss down => ⟨_, ev_execTunnelLoss down s, rfl⟩
  | .sessionOpen no w => ⟨_, ev_execSessionOpen no w s, rfl⟩
  | .sessionClose no w => ⟨_, ev_execSessionClose no w s, rfl⟩
  | .windowWrite no l => ⟨_, ev_execWindowWrite no l s, rfl⟩
  | .packetTimeout no => ⟨_, ev_execPacketTimeout no s, rfl⟩
  | .headWrite no w => ⟨_, ev_execHeadWrite no w s, rfl⟩
  | .hostSilent no => ⟨_, ev_execHostSilent no s, rfl⟩
  | .unlistedOpcode no => ⟨_, ev_execUnlistedOpcode no s, rfl⟩
  | .echo no => ⟨_, ev_execEcho no s, rfl⟩
  | .regRead no => ⟨_, ev_execRegRead no s, rfl⟩
  | .regWrite no => ⟨_, ev_execRegWrite no s, rfl⟩
  | .regModify no => ⟨_, ev_execRegModify no s, rfl⟩
  | .idxRead no => ⟨_, ev_execIdxRead no s, rfl⟩
  | .idxWrite no => ⟨_, ev_execIdxWrite no s, rfl⟩
  | .tableLoad no => ⟨_, ev_execTableLoad no s, rfl⟩
  | .progLoad no => ⟨_, ev_execProgLoad no s, rfl⟩
  | .flashRead no => ⟨_, ev_execFlashRead no s, rfl⟩
  | .flashWrite no => ⟨_, ev_execFlashWrite no s, rfl⟩
  | .ploamSend no => ⟨_, ev_execPloamSend no s, rfl⟩
  | .inject no => ⟨_, ev_execInject no s, rfl⟩
  | .capture no => ⟨_, ev_execCapture no s, rfl⟩
  | .mbakinSend no => ⟨_, ev_execMbakinSend no s, rfl⟩
  | .mbakinReplyTimeout no => ⟨_, ev_execMbakinReplyTimeout no s, rfl⟩
  | .privChallenge => ⟨_, ev_execPrivChallenge s, rfl⟩
  | .privProve => ⟨_, ev_execPrivProve s, rfl⟩
  | .privDrop => ⟨_, ev_execPrivDrop s, rfl⟩
  | .lockoutExpiry => ⟨_, ev_execLockoutExpiry s, rfl⟩
  | .mmioAccess ofs w be => ⟨_, ev_execMmioAccess ofs w be s, rfl⟩
  | .indDataAccess w => ⟨_, ev_execIndDataAccess w s, rfl⟩
  | .registerWrite src ofs w => ⟨_, ev_execRegisterWrite src ofs w s, rfl⟩
  | .rcCounterRead src ofs => ⟨_, ev_execRcCounterRead src ofs s, rfl⟩
  | .causeRaise src bit d0 d1 d2 => ⟨_, ev_execCauseRaise src bit d0 d1 d2 s, rfl⟩
  | .countDelivery src => ⟨_, ev_execCountDelivery src s, rfl⟩
  | .holdoffEnd src => ⟨_, ev_execHoldoffEnd src s, rfl⟩
  | .dlvEnable => ⟨_, ev_execDlvEnable s, rfl⟩
  | .eventEnWrite src w => ⟨_, ev_execEventEnWrite src w s, rfl⟩
  | .causeW1c src w => ⟨_, ev_execCauseW1c src w s, rfl⟩
  | .captureRelease src => ⟨_, ev_execCaptureRelease src s, rfl⟩
  | .pinPulseEnd p => ⟨_, ev_execPinPulseEnd p s, rfl⟩
  | .pmuWrap no => ⟨_, ev_execPmuWrap no s, rfl⟩
  | .pmuWindowEnd no => ⟨_, ev_execPmuWindowEnd no s, rfl⟩
  | .pmuSnap => ⟨_, ev_execPmuSnap s, rfl⟩
  | .valLoRead no => ⟨_, ev_execValLoRead no s, rfl⟩
  | .pmuValWrite no w => ⟨_, ev_execPmuValWrite no w s, rfl⟩
  | .pmuCfgWrite no arg w => ⟨_, ev_execPmuCfgWrite no arg w s, rfl⟩
  | .shaperRecovery m level t idx => ⟨_, ev_execShaperRecovery m level t idx s, rfl⟩
  | .memoryScrubPass l => ⟨_, ev_execMemoryScrubPass l s, rfl⟩
  | .netLaneSignalChange n sig cdr => ⟨_, ev_execNetLaneSignalChange n sig cdr s, rfl⟩
  | .coreFeedRangeChange out => ⟨_, ev_execCoreFeedRangeChange out s, rfl⟩
  | .ppsOutFall => ⟨_, ev_execPpsOutFall s, rfl⟩
  | .hbmPhyTrained st ok => ⟨_, ev_execHbmPhyTrained st ok s, rfl⟩

theorem exec_canonical {c : Instr} {s t : State} (h : exec c s = .next t) (hs : s.canonical = true) : t.canonical = true := by
  obtain ⟨m, hm, -⟩ := exec_evolves c s
  exact (hm t h).canonical hs

theorem idle_canonical {s : State} (hs : s.canonical = true) : (idle s).canonical = true :=
  (ev_relaySend (pass 1 s)).canonical ((ev_pass 1 s).canonical hs)

/-- Settles O3: by what stands in front of the queue, from the set of parts every command evolves. -/
theorem canonicalKept : Obligations.CanonicalKept := by
  intro s t h hs
  unfold step at h
  split at h
  · cases h; exact idle_canonical hs
  · exact exec_canonical h hs

end Sys2Proof.Machine

/-! The USB4 port (R366, R368, R389, R426, R434). -/

namespace Sys2Proof.Machine

/-! Frames, and what a session keeps. -/

/-- A frame by fields, its parts from what the operation evolves. -/
theorem Evolves.touches {m : Nat} {ps : List Part} {fs : List (Fld × Nat × Nat)} {s t : State} (h : Evolves m s t)
    (hf : OnlyFields fs s t) (hm : m % 2 ^ 64 ||| partMask ps = partMask ps := by decide) : Touches ps fs s t :=
  ⟨h.keeps.ofParts hm, hf⟩

theorem State.setSession_session_other (s : State) {i j : Nat} (h : j ≠ i) (x : Session) :
    (s.setSession i x).session j = s.session j :=
  Tbl.get_set_other _ _ h _

@[simp] theorem raise_session (a b : Nat) (d : List Nat) (s : State) (q : Nat) : (raise a b d s).session q = s.session q := by
  simp [State.session]

@[simp] theorem dropPrivilege_session (s : State) (q : Nat) : (dropPrivilege s).session q = s.session q := rfl

theorem onlyIf_pos {c : Prop} [Decidable c] (h : c) (f : State → State) (s : State) : onlyIf c f s = f s := if_pos h

theorem onlyIf_neg {c : Prop} [Decidable c] (h : ¬ c) (f : State → State) (s : State) : onlyIf c f s = s := if_neg h

/-! The end of a session (R368, R369). -/

@[simp] theorem closeSession_mem (i : Nat) (s : State) : (closeSession i s).mem = s.mem := (ev_closeSession i s).keeps .mem rfl
@[simp] theorem closeSession_islands (i : Nat) (s : State) : (closeSession i s).islands = s.islands :=
  (ev_closeSession i s).keeps .islands rfl
@[simp] theorem closeSession_nvm (i : Nat) (s : State) : (closeSession i s).nvm = s.nvm := (ev_closeSession i s).keeps .nvm rfl

@[simp] theorem closeSession_link (i : Nat) (s : State) : (closeSession i s).cmd.link = s.cmd.link := by
  unfold closeSession onlyIf
  split <;> rfl

theorem closeSession_self (i : Nat) (s : State) :
    ((closeSession i s).session i).state = .closed ∧ ((closeSession i s).session i).waiting = [] ∧
      ((closeSession i s).session i).fifo = [] := by
  unfold closeSession onlyIf
  split <;> simp

theorem closeSession_other {i j : Nat} (h : j ≠ i) (s : State) : (closeSession i s).session j = s.session j := by
  unfold closeSession onlyIf
  split <;> exact State.setSession_session_other s h _

/-- A session that is open or at fault is closed: what the loss of the tunnel does to each session. -/
def closeOpen (i : Nat) (s : State) : State := if (s.session i).state = .closed then s else closeSession i s

theorem closeOpen_keeps {α : Type} {f : State → α} (hf : ∀ i s, f (closeSession i s) = f s) (i : Nat) (s : State) :
    f (closeOpen i s) = f s := by
  unfold closeOpen
  split
  · rfl
  · exact hf i s

theorem closeOpen_other {i j : Nat} (h : j ≠ i) (s : State) : (closeOpen i s).session j = s.session j := by
  unfold closeOpen
  split
  · rfl
  · exact closeSession_other h s

theorem closeOpen_of_closed {i : Nat} {s : State} (h : (s.session i).state = .closed) : closeOpen i s = s := if_pos h

theorem closeOpen_of_not_closed {i : Nat} {s : State} (h : (s.session i).state ≠ .closed) : closeOpen i s = closeSession i s :=
  if_neg h

theorem allOf_closeOpen_keeps {α : Type} {f : State → α} (hf : ∀ i s, f (closeSession i s) = f s) (l : List Nat)
    (s : State) : f (allOf l closeOpen s) = f s := by
  induction l generalizing s with
  | nil => rfl
  | cons a l ih => exact (ih (closeOpen a s)).trans (closeOpen_keeps hf a s)

theorem allOf_closeOpen_of_closed {i : Nat} (l : List Nat) {s : State} (h : (s.session i).state = .closed) :
    (allOf l closeOpen s).session i = s.session i := by
  induction l generalizing s with
  | nil => rfl
  | cons a l ih =>
    have ha : (closeOpen a s).session i = s.session i := by
      by_cases e : i = a
      · subst e; rw [closeOpen_of_closed h]
      · exact closeOpen_other e s
    exact (ih (s := closeOpen a s) (by rw [ha]; exact h)).trans ha

/-- Every session of the list ends closed, and one that was not closed is emptied. -/
theorem allOf_closeOpen_session {i : Nat} {l : List Nat} (hi : i ∈ l) (s : State) :
    ((allOf l closeOpen s).session i).state = .closed ∧ ((s.session i).state ≠ .closed →
      ((allOf l closeOpen s).session i).waiting = [] ∧ ((allOf l closeOpen s).session i).fifo = []) := by
  by_cases h : (s.session i).state = .closed
  · rw [allOf_closeOpen_of_closed l h]
    exact ⟨h, fun k => absurd h k⟩
  · induction l generalizing s with
    | nil => cases hi
    | cons a l ih =>
      by_cases e : i = a
      · subst e
        have hc := closeSession_self i s
        rw [← closeOpen_of_not_closed h] at hc
        have hs : (allOf (i :: l) closeOpen s).session i = (closeOpen i s).session i := allOf_closeOpen_of_closed l hc.1
        rw [hs]
        exact ⟨hc.1, fun _ => hc.2⟩
      · have ha := closeOpen_other e s
        have hs := ih ((List.mem_cons.mp hi).resolve_left e) (closeOpen a s) (by rw [ha]; exact h)
        rw [ha] at hs
        exact hs

/-! The link (R366, R368, R389, R434). -/

@[simp] theorem linkStart_mem (s : State) : (linkStart s).mem = s.mem := (ev_linkStart s).keeps .mem rfl
@[simp] theorem linkStart_ev (s : State) : (linkStart s).ev = s.ev := (ev_linkStart s).keeps .ev rfl
@[simp] theorem linkStart_islands (s : State) : (linkStart s).islands = s.islands := (ev_linkStart s).keeps .islands rfl
@[simp] theorem linkStart_session (s : State) (i : Nat) : (linkStart s).session i = s.session i := by
  unfold linkStart
  split <;> rfl

@[simp] theorem linkStart_priv (s : State) : (linkStart s).cmd.priv = s.cmd.priv := by
  unfold linkStart
  split <;> rfl

theorem linkStart_link {s : State} (h : s.cmd.link = 0) :
    (linkStart s).cmd.link = if usb4Enabled s && usb4Islands s then 1 else 0 := by
  unfold linkStart
  by_cases he : usb4Enabled s = true <;> by_cases hi : usb4Islands s = true <;> simp [h, he, hi]

theorem usb4Enabled_of_same {s t : State} (hm : t.mem = s.mem) (hn : t.nvm = s.nvm) : usb4Enabled t = usb4Enabled s := by
  unfold usb4Enabled on
  rw [rd_of_mem hm rfl, hn]

theorem usb4Islands_of_same {s t : State} (h : t.islands = s.islands) : usb4Islands t = usb4Islands s := by
  simp [usb4Islands, State.up_of_islands h]

/-- The host is gone: privilege is over, and the link is down where `down` says so. -/
def hostGone (down : Bool) (s : State) : State :=
  s.setCmd { s.cmd with priv := false, link := if down then 0 else s.cmd.link }

/-- The tunnel is lost and the link not started again: the sessions closed, the loss counted and its cause raised. -/
def tunnelLost (down : Bool) (s : State) : State :=
  raise 183 18 [] (bump CMD.LINK_DOWN_CNT 0 (hostGone down (allOf (List.range 4) closeOpen s)))

theorem tunnelLoss_of_up {s : State} (h : 2 ≤ s.cmd.link) (down : Bool) :
    tunnelLoss down s = onlyIf (down = true) linkStart (tunnelLost down s) := by
  unfold tunnelLoss
  rw [if_neg (Nat.not_lt.mpr h)]
  unfold tunnelLost closeOpen hostGone
  with_reducible rfl

section
variable (down : Bool) (s : State)

theorem tunnelLost_session (i : Nat) : (tunnelLost down s).session i = (allOf (List.range 4) closeOpen s).session i := by
  simp [tunnelLost, hostGone]

theorem tunnelLost_cmd : (tunnelLost down s).cmd.priv = false ∧
    (tunnelLost down s).cmd.link = if down then 0 else s.cmd.link := by
  have h := allOf_closeOpen_keeps (f := fun x => x.cmd.link) closeSession_link (List.range 4) s
  simp only [tunnelLost, hostGone, raise_cmd, bump_cmd, State.setCmd_self, true_and]
  rw [h]

theorem tunnelLost_counted : Counted CMD.LINK_DOWN_CNT 0 s (tunnelLost down s) := by
  have h := allOf_closeOpen_keeps (f := State.mem) closeSession_mem (List.range 4) s
  unfold Counted tunnelLost hostGone
  rw [rd_raise _ _ _ _ _ _ rfl, rd_bump_self _ _ _ (by decide), rd_setCmd, rd_of_mem h rfl]

theorem tunnelLost_raised : Raised 183 18 (tunnelLost down s) := raise_raised _ _ _ _ (by decide)

/-- The loss counts, and writes no other word. -/
theorem tunnelLost_rd {g : Fld} (hg : CMD.LINK_DOWN_CNT.clear g = true) (he : g.sp.isEvent = false) (j : Nat) :
    rd g j (tunnelLost down s) = rd g j s := by
  have hm := allOf_closeOpen_keeps (f := State.mem) closeSession_mem (List.range 4) s
  rw [tunnelLost, hostGone, rd_raise _ _ _ _ _ _ he, rd_bump_clear _ _ _ _ _ hg, rd_setCmd, rd_of_mem hm he]

theorem tunnelLost_enabled : usb4Enabled (tunnelLost down s) = usb4Enabled s := by
  have hn := allOf_closeOpen_keeps (f := State.nvm) closeSession_nvm (List.range 4) s
  unfold usb4Enabled on
  rw [tunnelLost_rd down s (by decide) rfl]
  simp [tunnelLost, hostGone, hn]

theorem tunnelLost_islands : usb4Islands (tunnelLost down s) = usb4Islands s := by
  have h := allOf_closeOpen_keeps (f := State.islands) closeSession_islands (List.range 4) s
  exact usb4Islands_of_same (by simpa [tunnelLost, hostGone] using h)

end

/-- What the loss of the tunnel leaves of a link that was up (R368). -/
theorem tunnelLoss_spec {s : State} (h : 2 ≤ s.cmd.link) (down : Bool) :
    (∀ i, (tunnelLoss down s).session i = (allOf (List.range 4) closeOpen s).session i) ∧
    (tunnelLoss down s).cmd.priv = false ∧
    (tunnelLoss down s).cmd.link = (if down then (if usb4Enabled s && usb4Islands s then 1 else 0) else s.cmd.link) ∧
    Counted CMD.LINK_DOWN_CNT 0 s (tunnelLoss down s) ∧ Raised 183 18 (tunnelLoss down s) := by
  obtain ⟨hp, hl⟩ := tunnelLost_cmd down s
  have hc := tunnelLost_counted down s
  have hr := tunnelLost_raised down s
  rw [tunnelLoss_of_up h]
  cases down with
  | false =>
    rw [onlyIf_neg Bool.false_ne_true]
    exact ⟨tunnelLost_session false s, hp, hl, hc, hr⟩
  | true =>
    rw [onlyIf_pos rfl]
    refine ⟨fun i => ?_, ?_, ?_, ?_, hr.stay (.same (linkStart_ev _) (linkStart_islands _))⟩
    · rw [linkStart_session, tunnelLost_session]
    · rw [linkStart_priv, hp]
    · rw [linkStart_link hl, tunnelLost_enabled, tunnelLost_islands]; rfl
    · unfold Counted; rw [rd_of_mem (linkStart_mem _) rfl]; exact hc

/-- With no tunnel to lose, only a link that was coming up goes down. -/
theorem tunnelLoss_of_down {s : State} (h : s.cmd.link < 2) (down : Bool) :
    tunnelLoss down s = onlyIf (down = true) linkStart (s.setCmd { s.cmd with link := if down then 0 else s.cmd.link }) := by
  unfold tunnelLoss
  rw [if_pos h]

theorem linkStart_of_disabled {s : State} (h : usb4Enabled s = false) : linkStart s = s := by
  simp [linkStart, h]

theorem linkStart_of_ready {s : State} (hl : s.cmd.link = 0) (he : usb4Enabled s = true) (hi : usb4Islands s = true) :
    linkStart s = s.setCmd { s.cmd with link := 1 } := by
  simp [linkStart, hl, he, hi]

/-- R368: whatever the link was, the loss of the tunnel writes no word but its counter. -/
theorem tunnelLoss_rd (down : Bool) (g : Fld) (j : Nat) (s : State) (hg : CMD.LINK_DOWN_CNT.clear g = true)
    (he : g.sp.isEvent = false) : rd g j (tunnelLoss down s) = rd g j s := by
  have hstart : ∀ x : State, rd g j (onlyIf (down = true) linkStart x) = rd g j x := fun x => by
    unfold onlyIf
    split
    · exact rd_of_mem (linkStart_mem x) he j
    · rfl
  by_cases h : s.cmd.link < 2
  · rw [tunnelLoss_of_down h, hstart, rd_setCmd]
  · rw [tunnelLoss_of_up (Nat.le_of_not_lt h), hstart, tunnelLost_rd down s hg he]

/-- A port that is not enabled stays down (R389). -/
theorem tunnelLoss_disabled_link {s : State} (h : usb4Enabled s = false) : (tunnelLoss true s).cmd.link = 0 := by
  by_cases hl : s.cmd.link < 2
  · rw [tunnelLoss_of_down hl, onlyIf_pos rfl, linkStart_of_disabled]
    · rfl
    · exact h
  · obtain ⟨-, -, hlink, -, -⟩ := tunnelLoss_spec (Nat.le_of_not_lt hl) true
    rw [hlink, h]
    rfl

theorem usb4LinkUp_of_init {s : State} (h : s.cmd.link = 1) (g : Bool) :
    usb4LinkUp g s =
      onlyIf (g = false) (raise 183 19 []) (raise 183 17 [] (s.setCmd { s.cmd with link := if g then 3 else 2 })) :=
  if_pos h

theorem usb4LinkRefused_of_init {s : State} (h : s.cmd.link = 1) :
    usb4LinkRefused s = raise 183 20 [] (s.setCmd { s.cmd with link := 0 }) := if_pos h

theorem usb4LinkUp_cmd {s : State} (h : s.cmd.link = 1) (g : Bool) :
    (usb4LinkUp g s).cmd = { s.cmd with link := if g then 3 else 2 } := by
  rw [usb4LinkUp_of_init h, onlyIf]
  split <;> simp

/-- USB4_EN as written, before the port acts on it (R389). -/
theorem usb4Enabled_wr (v : Nat) (s : State) :
    usb4Enabled (wr CMD.CTL_USB4_EN 0 v s) = (v % 2 == 1 || s.nvm.state == 4) := by
  unfold usb4Enabled on
  rw [rd_wr_self _ _ _ _ (by decide), wr_nvm]
  rfl

/-- Settles O51: each clause from the equation of the command's meaning for the link state it names. -/
theorem portLink : Obligations.PortLink := by
  refine ⟨?up, ?notInit, ?refused, ?loss, ?noTunnel, ?enable, ?disable⟩
  case up =>
    intro g s hup hl
    refine ⟨_, onIsland_up hup, usb4LinkUp_cmd hl g, ?cause, ?slow, ?host,
      (ev_usb4LinkUp g s).touches (.ofMem ?mem (.refl _ s))⟩
    case cause =>
      rw [usb4LinkUp_of_init hl]
      have h := raise_raised 183 17 [] (s.setCmd { s.cmd with link := if g then 3 else 2 }) (by decide)
      exact h.onlyIf h.raise
    case slow =>
      intro hg
      rw [usb4LinkUp_of_init hl, onlyIf_pos hg]
      exact raise_raised _ _ _ _ (by decide)
    case host =>
      rw [hostSees, usb4LinkUp_cmd hl]
      exact if_pos (by cases g <;> simp)
    case mem =>
      rw [usb4LinkUp_of_init hl, onlyIf]
      split <;> simp
  case notInit =>
    intro g s hup hl
    exact ⟨_, onIsland_up hup, if_neg hl⟩
  case refused =>
    intro s hup hl
    refine ⟨_, onIsland_up hup, ?_, ?_, ?_, (ev_usb4LinkRefused s).touches (.ofMem ?_ (.refl _ s))⟩ <;>
      rw [usb4LinkRefused_of_init hl]
    · simp
    · exact raise_raised _ _ _ _ (by decide)
    · simp [hostSees]
    · simp
  case loss =>
    intro down i s hup hl
    obtain ⟨hs, hp, hlink, hc, hr⟩ := tunnelLoss_spec hl down
    obtain ⟨hclosed, hempty⟩ := allOf_closeOpen_session (List.mem_range.mpr i.isLt) s
    refine ⟨_, onIsland_up hup, ?_, ?_, hp, hlink, hc, hr⟩ <;> rw [hs]
    · exact hclosed
    · exact hempty
  case noTunnel =>
    intro s hup hl
    refine ⟨_, onIsland_up hup, ?_⟩
    rw [tunnelLoss_of_down hl, onlyIf_neg Bool.false_ne_true]
    rfl
  case enable =>
    intro s hup hl hi
    have he : usb4EnWrite 1 s = (wr CMD.CTL_USB4_EN 0 1 s).setCmd { s.cmd with link := 1 } := by
      have h1 : usb4Enabled (wr CMD.CTL_USB4_EN 0 1 s) = true := by rw [usb4Enabled_wr]; rfl
      have h2 : usb4Islands (wr CMD.CTL_USB4_EN 0 1 s) = true := by rw [usb4Islands_of_same (wr_islands ..), hi]
      unfold usb4EnWrite
      rw [if_pos h1, linkStart_of_ready (by simpa using hl) h1 h2, wr_cmd]
    refine ⟨_, onIsland_up hup, ?_, ?_, ?_⟩
    · show rd CMD.CTL_USB4_EN 0 (usb4EnWrite 1 s) = 1
      rw [he, rd_setCmd, rd_wr_self _ _ _ _ (by decide)]
      rfl
    · show (usb4EnWrite 1 s).cmd = _
      rw [he, State.setCmd_self]
    · show Touches _ _ s (usb4EnWrite 1 s)
      rw [he]
      exact Evolves.touches (m := wordMask .cmd ||| 2048) (.step (ev_State_setCmd ..) (.wr (.refl s)))
        (.ofMem rfl (.wr (.refl _ s) (by simp) (by decide)))
  case disable =>
    intro s hup hn
    have hd : usb4Enabled (wr CMD.CTL_USB4_EN 0 0 s) = false := by rw [usb4Enabled_wr]; simpa using hn
    have he : usb4EnWrite 0 s = tunnelLoss true (wr CMD.CTL_USB4_EN 0 0 s) := if_neg (by rw [hd]; exact Bool.false_ne_true)
    refine ⟨_, onIsland_up hup, ?_⟩
    show rd CMD.CTL_USB4_EN 0 (usb4EnWrite 0 s) = 0 ∧ (usb4EnWrite 0 s).cmd.link = 0 ∧ (2 ≤ s.cmd.link →
      (usb4EnWrite 0 s).cmd.priv = false ∧ Counted CMD.LINK_DOWN_CNT 0 s (usb4EnWrite 0 s) ∧
      Raised 183 18 (usb4EnWrite 0 s) ∧ ((usb4EnWrite 0 s).session 0).state = .closed)
    rw [he]
    refine ⟨?_, tunnelLoss_disabled_link hd, fun hl => ?_⟩
    · rw [tunnelLoss_rd _ _ _ _ (by decide) rfl, rd_wr_self _ _ _ _ (by decide)]
      rfl
    · obtain ⟨hs, hp, -, hc, hr⟩ := tunnelLoss_spec (s := wr CMD.CTL_USB4_EN 0 0 s) (by simpa using hl) true
      refine ⟨hp, ?_, hr, ?_⟩
      · unfold Counted at hc ⊢
        rwa [rd_wr_clear CMD.CTL_USB4_EN CMD.LINK_DOWN_CNT _ _ _ _ (by decide)] at hc
      · rw [hs]
        exact (allOf_closeOpen_session (by simp) _).1

end Sys2Proof.Machine

/-! Register accesses (R334, R385, R396). -/

namespace Sys2Proof.Machine

/-- The buffer manager is in reset. Cause 21 of source 183 is enabled, and its delivery goes as a packet to session 0, which is
open and takes event packets. -/
def poolDownState : State :=
  { State.reset with islands := [(223, { up := true })], sess := [(0, { state := .open })] }
    |> wr SRC.EN 183 (2 ^ 21) |> wr SRC.CFG_PKT 183 1 |> wr EVT.CTL_DLV_EN 0 1 |> wr SESS.CTL_EVT_EN 0 1

theorem poolDownState_up : poolDownState.up 223 = true := by decide +kernel

theorem poolDownState_runs : Runs 0 0x180004 poolDownState := by decide +kernel

theorem poolDownState_wrapped : Tbl.get 0 poolDownState.wrapped 213 = 0 := by decide +kernel

/-- The wrapper of the buffer manager answers the write of POOL_S, and again the request for a buffer of the event packet that
carries the cause of that answer (R13, R396). -/
theorem poolDownState_answers_twice :
    Tbl.get 0 (oneAccess 0 0x180004 (some 0) poolDownState).wrapped 213 = 2 := by decide +kernel

/-- Refutes O60: a register write that island 213's wrapper answers raises cause 21; where that cause is delivered to the host,
the event packet asks the same wrapper for a buffer, and two answers are counted, not one. -/
theorem not_registerAccesses : ¬ Obligations.RegisterAccesses := by
  rintro ⟨-, -, -, -, -, -, -, -, -, -, -, -, hdown, -⟩
  obtain ⟨t, ht, -, hw, -⟩ := hdown 0 0x180004 0 .bpm 0 1 213 poolDownState poolDownState_runs (by decide)
    (by decide +kernel) (by decide) (by decide +kernel)
  have hexec : exec (.registerWrite 0 0x180004 0) poolDownState = .next (oneAccess 0 0x180004 (some 0) poolDownState) :=
    onIsland_up poolDownState_up
  rw [← Host.Outcome.next.inj (hexec.symm.trans ht), poolDownState_answers_twice, poolDownState_wrapped] at hw
  exact absurd hw (by decide)

end Sys2Proof.Machine

/-! What a cold reset leaves of the words (R8, R361). -/

namespace Sys2Proof.Machine

theorem Assoc.get_of_unlisted {κ α : Type} [DecidableEq κ] (d : κ → α) {k : κ} {m : List (κ × α)}
    (h : ∀ e ∈ m, e.1 ≠ k) : Assoc.get d m k = d k := by
  induction m with
  | nil => rfl
  | cons e m ih =>
    have he : e.1 ≠ k := h e List.mem_cons_self
    simp [Assoc.get, he, ih fun x hx => h x (List.mem_cons_of_mem e hx)]

/-- A cold reset keeps the flash, the fuses as a cut programming leaves them, and the shadow; every other word is at its reset
value (R8, R361). -/
theorem coldReset_get (last : Nat) (on_ : Bool) (s : State) (k : Key) :
    (coldReset last on_ s).get k = if k.sp ∈ [Sp.flash, Sp.otpFuse, Sp.otpSh] then (otpCut s).get k else k.reset := by
  have hmem : (coldReset last on_ s).mem =
      (otpCut s).mem.filter fun e => e.1.sp == .flash || e.1.sp == .otpFuse || e.1.sp == .otpSh := rfl
  have hev : (coldReset last on_ s).ev.mem = [] := rfl
  unfold State.get
  rw [hmem, hev]
  by_cases hk : k.sp ∈ [Sp.flash, Sp.otpFuse, Sp.otpSh]
  · have hs : k.sp.isEvent = false := by
      simp only [List.mem_cons, List.not_mem_nil, or_false] at hk
      rcases hk with e | e | e <;> rw [e] <;> rfl
    rw [if_pos hk, hs]
    exact Assoc.get_filter _ _ _ k fun e he => by simpa [he, or_assoc] using hk
  · rw [if_neg hk]
    split
    · rfl
    · refine Assoc.get_of_unlisted _ fun e he hek => hk ?_
      simpa [hek, or_assoc] using (List.mem_filter.mp he).2

/-- Programming that is cut short leaves its word with some of its bits programmed, which of them is a free value (R361). -/
theorem otpCut_fuse {s : State} {o : OtpOp} {w bits : Nat} {l : List (Nat × Nat)} (h : s.nvm.otpOp = some o)
    (hl : o.left = (w, bits) :: l) :
    (otpCut s).get ⟨.otpFuse, 0, w, 0⟩ = BitVec.ofNat 32 (fuseWord w s ||| (bits &&& Config.freeNat s.freeCount)) := by
  obtain ⟨op, item, left, since⟩ := o
  cases hl
  unfold otpCut
  rw [h]
  exact State.get_set_self _ _ _

/-- No feed is up, n free values have been drawn, and every bit of fuse word 0 is being programmed. -/
def programmingState (n : Nat) : State :=
  { State.reset with freeCount := n, nvm := { otpOp := some { op := 0, item := 0, left := [(0, 2 ^ 32 - 1)], since := 0 } } }

/-- Why O53 stands open: it says of every state that a cold reset leaves the fuses as they were, so it fixes the low bits of every
free value, which the model leaves without a definition (log entry 5). -/
theorem freeNat_low_of_resetsAndFeeds (h : Obligations.ResetsAndFeeds) (n : Nat) : Config.freeNat n % 2 ^ 32 = 0 := by
  obtain ⟨hon, -⟩ := h
  obtain ⟨t, ht, hkept, -⟩ := hon true false 0 (programmingState n) rfl rfl
  rw [← Host.Outcome.next.inj ht] at hkept
  have hcold := (coldReset_get ..).symm.trans (hkept ⟨.otpFuse, 0, 0, 0⟩)
  rw [if_pos (by decide), if_pos (by decide)] at hcold
  have hbits := (otpCut_fuse rfl rfl).symm.trans hcold
  have hzero : (BitVec.ofNat 32 (0 ||| ((2 ^ 32 - 1) &&& Config.freeNat n))).toNat = 0 := congrArg BitVec.toNat hbits
  rw [BitVec.toNat_ofNat, Nat.zero_or, Nat.and_comm, Nat.and_two_pow_sub_one_eq_mod, Nat.mod_mod] at hzero
  exact hzero
end Sys2Proof.Machine

/-! What a reset does to the islands it covers (R8, R324, R332). -/

namespace Sys2Proof.Machine

/-- Each of the islands `is` goes over to what `g` makes of it. -/
def onIslands (g : Island → Island) (is : List Nat) (s : State) : State := allOf is (fun i s => s.setIsland i (g (s.island i))) s

theorem ev_onIslands (g : Island → Island) (is : List Nat) (s : State) : Evolves 256 s (onIslands g is s) :=
  Evolves.allOf (fun _ _ => ev_State_setIsland ..) (.refl s)

theorem onIslands_cons (g : Island → Island) (i : Nat) (is : List Nat) (s : State) :
    onIslands g (i :: is) s = onIslands g is (s.setIsland i (g (s.island i))) := rfl

theorem State.setIsland_other {i j : Nat} (h : j ≠ i) (s : State) (x : Island) : (s.setIsland i x).island j = s.island j :=
  Tbl.get_set_other _ _ h _

theorem onIslands_other (g : Island → Island) {is : List Nat} {j : Nat} (h : j ∉ is) (s : State) :
    (onIslands g is s).island j = s.island j := by
  induction is generalizing s with
  | nil => rfl
  | cons i is ih =>
    obtain ⟨hi, hl⟩ := not_or.mp (h ∘ List.mem_cons.mpr)
    rw [onIslands_cons, ih hl, State.setIsland_other hi]

/-- What `g` leaves of an island, `onIslands g` leaves of every island. -/
theorem onIslands_keeps {α : Type} {p : Island → α} {g : Island → Island} (h : ∀ x, p (g x) = p x) (is : List Nat) (s : State)
    (j : Nat) : p ((onIslands g is s).island j) = p (s.island j) := by
  induction is generalizing s with
  | nil => rfl
  | cons i is ih =>
    rw [onIslands_cons, ih]
    by_cases hj : j = i
    · rw [hj, State.setIsland_self, h]
    · rw [State.setIsland_other hj]

/-- What `g` gives to every island, `onIslands g` gives to those of the list. -/
theorem onIslands_gives {α : Type} {p : Island → α} {g : Island → Island} {c : α} (h : ∀ x, p (g x) = c) {is : List Nat}
    {j : Nat} (hj : j ∈ is) (s : State) : p ((onIslands g is s).island j) = c := by
  induction is generalizing s with
  | nil => cases hj
  | cons i is ih =>
    rw [onIslands_cons]
    by_cases hl : j ∈ is
    · exact ih hl _
    · rw [onIslands_other g hl, (List.mem_cons.mp hj).resolve_right hl, State.setIsland_self, h]

/-- R324: an island enters reset. -/
def Island.stop (x : Island) : Island := { x with up := false, configured := false }

/-- R332: an island loses its relapse history and its hold. -/
def Island.forget (x : Island) : Island := { x with relapses := [], held := false, blockReset := false }

/-- An island loses its clock. -/
def Island.unclock (x : Island) : Island := { x with clkGood := false, pllLock := false }

theorem forgetRelapses_eq (is : List Nat) (s : State) : forgetRelapses is s = onIslands Island.forget is s := rfl

/-- R8: the words of the islands `is` after a reset of class `r`. -/
def resetWords (r : Cls) (is : List Nat) (s : State) : State :=
  { s with
    mem := resetStore r (fun i => is.contains i) s.mem
    ev := { s.ev with mem := resetStore r (fun i => is.contains i) s.ev.mem } }

/-- R389: USB4_EN is as the settings give it after a reset of island 223. -/
def usb4Default (is : List Nat) (s : State) : State :=
  onlyIf (is.contains 223 = true) (fun s => wr CMD.CTL_USB4_EN 0 (1 - setting 5 1 1 s) s) s

/-- A reset that is no block reset meets no neighbours. -/
theorem assertReset_eq {r : Cls} (hr : r ≠ .cwb) (is : List Nat) (s : State) :
    assertReset r is s = usb4Default is (allOf is (clearHidden r) (resetWords r is (onIslands Island.stop is s))) := by
  unfold assertReset
  rw [if_neg hr]
  rfl

theorem ev_usb4Default (is : List Nat) (s : State) :
    Evolves (wordMask .cmd) s (usb4Default is s) :=
  Evolves.onlyIf (fun _ => Evolves.wr (.refl _)) (.refl s)

theorem ev_allClearHidden (r : Cls) (is : List Nat) (s : State) :
    Evolves 265849504471569832697557717034117102095 s (allOf is (clearHidden r) s) :=
  Evolves.allOf (fun _ _ => ev_clearHidden ..) (.refl s)

theorem assertReset_islands {r : Cls} (hr : r ≠ .cwb) (is : List Nat) (s : State) :
    (assertReset r is s).islands = (onIslands Island.stop is s).islands := by
  rw [assertReset_eq hr, (ev_usb4Default ..).keeps .islands rfl, (ev_allClearHidden ..).keeps .islands rfl]
  rfl

theorem assertReset_island {r : Cls} (hr : r ≠ .cwb) (is : List Nat) (s : State) (j : Nat) :
    (assertReset r is s).island j = (onIslands Island.stop is s).island j := by
  simp only [State.island, assertReset_islands hr]

theorem assertReset_rst {r : Cls} (hr : r ≠ .cwb) (is : List Nat) (s : State) : (assertReset r is s).rst = s.rst := by
  rw [assertReset_eq hr, (ev_usb4Default ..).keeps .rst rfl, (ev_allClearHidden ..).keeps .rst rfl]
  exact (ev_onIslands ..).keeps .rst rfl

theorem assertReset_clk {r : Cls} (hr : r ≠ .cwb) (is : List Nat) (s : State) : (assertReset r is s).clk = s.clk := by
  rw [assertReset_eq hr, (ev_usb4Default ..).keeps .clk rfl, (ev_allClearHidden ..).keeps .clk rfl]
  exact (ev_onIslands ..).keeps .clk rfl

/-- An entry whose key lookup does not change: it stays where the key is sought, and keeps its key elsewhere. -/
theorem Assoc.get_filterMap {κ α : Type} [DecidableEq κ] (d : κ → α) {k : κ} {f : κ × α → Option (κ × α)}
    (hk : ∀ e, e.1 = k → f e = some e) (hf : ∀ e x, f e = some x → x.1 = e.1) (m : List (κ × α)) :
    Assoc.get d (m.filterMap f) k = Assoc.get d m k := by
  induction m with
  | nil => rfl
  | cons e m ih =>
    by_cases he : e.1 = k
    · simp [hk e he, Assoc.get, he]
    · cases hx : f e with
      | none => simp [hx, Assoc.get, he, ih]
      | some x => simp [hx, Assoc.get, hf e x hx, he, ih]

/-- The words of an island outside `is`, and those of no island, are not reset. -/
theorem resetStore_get (r : Cls) {is : Nat → Bool} {k : Key} (h : (homeOf k.sp k.inst k.word).any is = false) (m : Store) :
    Store.get (resetStore r is m) k = Store.get m k := by
  refine Assoc.get_filterMap _ (fun e he => ?_) (fun e x hx => ?_) m
  · subst he
    cases hh : homeOf e.1.sp e.1.inst e.1.word with
    | none => rfl
    | some i =>
      have hi : is i = false := by simpa [hh] using h
      simp [hi]
  · split at hx
    · split at hx
      · dsimp only at hx
        split at hx
        · cases hx
        · cases hx; rfl
      · cases hx; rfl
    · cases hx; rfl

theorem resetWords_get (r : Cls) {is : List Nat} {k : Key} (h : (homeOf k.sp k.inst k.word).any is.contains = false) (s : State) :
    (resetWords r is s).get k = s.get k := by
  unfold State.get
  split <;> exact resetStore_get r h _

/-- A register of the sentinel's reset control keeps its value where island 224 is not reset. -/
theorem assertReset_rd_rst {r : Cls} (hr : r ≠ .cwb) {is : List Nat} (h : is.contains 224 = false) {f : Fld} (hf : f.sp = .rst)
    (i : Nat) (s : State) : rd f i (assertReset r is s) = rd f i s := by
  rw [assertReset_eq hr]
  have hkey : (f.key i 0).sp = .rst := hf
  unfold rd rdx
  rw [(ev_usb4Default ..).words _ (by rw [hkey]; decide), (ev_allClearHidden ..).words _ (by rw [hkey]; decide),
    resetWords_get r (by rw [hkey]; simpa [homeOf] using h), (ev_onIslands ..).words _ (by rw [hkey]; decide)]

theorem assertReset_up {r : Cls} (hr : r ≠ .cwb) (is : List Nat) (s : State) (j : Nat) :
    (assertReset r is s).up j = (s.up j && !is.contains j) := by
  unfold State.up
  rw [assertReset_island hr]
  by_cases hj : j ∈ is
  · rw [onIslands_gives (g := Island.stop) (p := Island.up) (fun _ => rfl) hj]
    simp [hj]
  · rw [onIslands_other _ hj]
    simp [hj]

end Sys2Proof.Machine

/-! What giving up control does (R288, R302). -/

namespace Sys2Proof.Machine

theorem refreshReady_eq (s : State) : ∃ v, refreshReady s = track (wr PAR.STS_READY 0 v s) := ⟨_, rfl⟩

theorem cs_refreshReady (s : State) : CausesStay s (refreshReady s) := by
  obtain ⟨v, h⟩ := refreshReady_eq s
  rw [h]
  exact ((CausesStay.refl s).wr (by decide) (.inl (by decide))).trans
    (.same ((ev_track _).keeps .ev rfl) ((ev_track _).keeps .islands rfl))

theorem refreshReady_role (s : State) : role (refreshReady s) = role s := by
  obtain ⟨v, h⟩ := refreshReady_eq s
  rw [h]
  exact ((ev_track _).rd (by decide) 0).trans (rd_wr_clear PAR.STS_READY PAR.STS_ROLE 0 0 v s (by decide))

/-- The role NONE is taken: the pair's state of the role is left, and its words say so. -/
theorem setRole_zero (s : State) : ∃ p e l, setRole 0 s =
    refreshReady (pairCause 0 l ((({ s with rst := { s.rst with overrides := [] } } : State).setPair p)
      |> wr PAR.STS_ROLE 0 0 |> wr PAR.EPOCH 0 e |> wr PAR.STS_LIVE 0 0 |> wr PAR.ROLE_CMD_GO 0 0)) := by
  unfold setRole
  dsimp only
  rw [if_neg (show ¬ (0 : Nat) = 3 by decide), if_neg (show ¬ (0 : Nat) = 1 by decide)]
  exact ⟨_, _, _, rfl⟩

theorem setRole_zero_role (s : State) : role (setRole 0 s) = 0 := by
  obtain ⟨p, e, l, h⟩ := setRole_zero s
  rw [h, refreshReady_role]
  unfold role pairCause
  rw [rd_raise _ _ _ _ _ _ rfl, rd_wr_clear _ _ _ _ _ _ (by decide), rd_wr_clear _ _ _ _ _ _ (by decide),
    rd_wr_clear _ _ _ _ _ _ (by decide), rd_wr_self _ _ _ _ (by decide)]
  rfl

theorem setRole_zero_rst (s : State) : (setRole 0 s).rst = { s.rst with overrides := [] } := by
  obtain ⟨p, e, l, h⟩ := setRole_zero s
  rw [h, (ev_refreshReady _).keeps .rst rfl]
  simp [pairCause]

theorem cs_setRole_zero (s : State) : CausesStay s (setRole 0 s) := by
  obtain ⟨p, e, l, h⟩ := setRole_zero s
  rw [h]
  refine CausesStay.trans (CausesStay.raise ?_) (cs_refreshReady _)
  refine CausesStay.wr ?_ (by decide) (.inl (by decide))
  refine CausesStay.wr ?_ (by decide) (.inl (by decide))
  refine CausesStay.wr ?_ (by decide) (.inl (by decide))
  refine CausesStay.wr ?_ (by decide) (.inl (by decide))
  exact (CausesStay.refl s).other

/-- R302: a pair member ends its switchover and tells the partner that control is released. -/
def tellPartner (e : Nat) (s : State) : State :=
  if pairEn s then s.setPair { s.pair with sw := none } |> sendPair (.released e (ownDev s)) |> raise 186 5 [] else s

theorem giveUp_eq (s : State) : ∃ e, giveUp s =
    (let t := tellPartner e s
     if roleActive t then setRole 0 t else if roleTest t then t.setPair { t.pair with dark := true } else t) := ⟨_, rfl⟩

theorem ev_tellPartner (e : Nat) (s : State) : Evolves 255211775190703847597530955582416093706 s (tellPartner e s) :=
  Evolves.ite (Evolves.step (ev_raise ..) (Evolves.step (ev_sendPair ..) (Evolves.step (ev_State_setPair ..) (.refl s)))) (.refl s)

theorem cs_sendPair (m : PairMsg) (s : State) : CausesStay s (sendPair m s) :=
  CausesStay.ite (CausesStay.refl s).other (cs_wrapperAnswer _ s)

theorem cs_tellPartner (e : Nat) (s : State) : CausesStay s (tellPartner e s) :=
  CausesStay.ite (CausesStay.raise ((CausesStay.other (.refl s)).trans (cs_sendPair ..))) (.refl s)

theorem cs_giveUp (s : State) : CausesStay s (giveUp s) := by
  obtain ⟨e, h⟩ := giveUp_eq s
  rw [h]
  have ht := cs_tellPartner e s
  exact CausesStay.ite (ht.trans (cs_setRole_zero _)) (CausesStay.ite ht.other ht)

theorem giveUp_rst (s : State) : ∃ o, (giveUp s).rst = { s.rst with overrides := o } := by
  obtain ⟨e, h⟩ := giveUp_eq s
  have ht : (tellPartner e s).rst = s.rst := (ev_tellPartner e s).keeps .rst rfl
  rw [h]
  dsimp only
  split
  · exact ⟨[], by rw [setRole_zero_rst, ht]⟩
  · refine ⟨s.rst.overrides, ?_⟩
    split
    · exact ht
    · exact ht

theorem giveUp_inactive (s : State) : roleActive (giveUp s) = false := by
  obtain ⟨e, h⟩ := giveUp_eq s
  rw [h]
  dsimp only
  split
  · simp [roleActive, setRole_zero_role]
  next hn =>
    have hn := Bool.eq_false_iff.mpr hn
    split
    · exact hn
    · exact hn

end Sys2Proof.Machine

/-! Warm resets (R322, R329). -/

namespace Sys2Proof.Machine

theorem nvmRestart_image (full : Bool) (s : State) : (nvmRestart full s).nvm.image = none := rfl

theorem waitRefclk_rst (s : State) : ∃ r, (waitRefclk s).rst = { s.rst with refclkFrom := r } := by
  unfold waitRefclk
  split
  · exact ⟨_, rfl⟩
  · exact ⟨s.rst.refclkFrom, rfl⟩

/-- A phase in progress stays the one in progress. -/
theorem nextPhase_of_waiting {s : State} (h : phaseDone s = false) : nextPhase s = s := if_pos (.inr h)

/-- Phase 1 waits for the image (R329, R354). -/
theorem phaseDone_without_image {s : State} (hp : s.rst.phase = 1) (hi : s.nvm.image = none) : phaseDone s = false := by
  simp [phaseDone, hp, hi]

theorem nextPhase_waits {t : State} {x : RstCtl} (hp : x.phase = 1) (hi : t.nvm.image = none) :
    nextPhase (waitRefclk (t.setRst x)) = waitRefclk (t.setRst x) := by
  obtain ⟨r, hr⟩ := waitRefclk_rst (t.setRst x)
  refine nextPhase_of_waiting (phaseDone_without_image ?_ ?_)
  · rw [hr]
    exact hp
  · rw [(ev_waitRefclk _).keeps .nvm rfl]
    exact hi

theorem forgetRelapses_up (is : List Nat) (s : State) (i : Nat) : (forgetRelapses is s).up i = s.up i := by
  rw [forgetRelapses_eq]
  exact onIslands_keeps (g := Island.forget) (p := Island.up) (fun _ => rfl) is s i

theorem nvmRestart_up (full : Bool) (s : State) (i : Nat) : (nvmRestart full s).up i = s.up i :=
  State.up_of_islands ((ev_nvmRestart full s).keeps .islands rfl) i

theorem giveUp_up (s : State) (i : Nat) : (giveUp s).up i = s.up i := State.up_of_islands ((ev_giveUp s).keeps .islands rfl) i

/-- R322: what a warm reset does to the islands it covers. -/
def warmStop (s : State) : State :=
  s |> bump RST.WARM_CNT 0 |> giveUp |> assertReset .cw warmIslands |> forgetRelapses warmIslands |> nvmRestart false

/-- R289, R295: the pair after a warm reset; a standby waits for a new bulk copy. -/
def awaitCopy (s : State) : State :=
  ({ s with pair := { s.pair with imageApplied := false, dark := s.pair.dark && s.rst.thermTrip } } : State)
    |> onlyIf (roleStandby s = true) (fun s => s |> wr PAR.STS_SYNC 0 0 |> refreshReady)

theorem ev_awaitCopy (s : State) : Evolves 2596148429267413814265256754544641 s (awaitCopy s) :=
  Evolves.onlyIf (fun _ => Evolves.step (ev_refreshReady ..) (Evolves.wr (.refl _))) (Evolves.upd_pair (.refl s))

/-- The sentinel's reset control at the start of a warm reset. -/
def warmRst (last : Nat) (s : State) : RstCtl :=
  { s.rst with lastClass := last, phase := min 1 s.rst.phase, cold := false, stallAt := stallDeadline s }

theorem warmRst_phase (last : Nat) (s : State) : (warmRst last s).phase = min 1 s.rst.phase := rfl

theorem warmReset_eq (last : Nat) (s : State) : warmReset last s =
    nextPhase (waitRefclk ((awaitCopy (warmStop s)).setRst (warmRst last (awaitCopy (warmStop s))))) := rfl

theorem warmStop_rst (s : State) : ∃ o, (warmStop s).rst = { s.rst with overrides := o } := by
  unfold warmStop
  rw [(ev_nvmRestart ..).keeps .rst rfl, (ev_forgetRelapses ..).keeps .rst rfl, assertReset_rst (by decide)]
  obtain ⟨o, h⟩ := giveUp_rst (bump RST.WARM_CNT 0 s)
  exact ⟨o, by rw [h, bump_rst]⟩

theorem warmStop_clk (s : State) : (warmStop s).clk = s.clk := by
  unfold warmStop
  rw [(ev_nvmRestart ..).keeps .clk rfl, (ev_forgetRelapses ..).keeps .clk rfl, assertReset_clk (by decide),
    (ev_giveUp _).keeps .clk rfl, bump_clk]

theorem warmStop_up (s : State) (i : Fin 226) : (warmStop s).up i = (s.up i && phaseOf i == 0) := by
  have hw : warmIslands.contains i.val = !(phaseOf i == 0) := by
    simp [warmIslands, allIslands, Bool.beq_eq_decide_eq, bne]
  unfold warmStop
  rw [nvmRestart_up, forgetRelapses_up, assertReset_up (by decide), giveUp_up, bump_up, hw, Bool.not_not]

theorem warmStop_counted (s : State) : Counted RST.WARM_CNT 0 s (warmStop s) := by
  unfold Counted warmStop
  rw [(ev_nvmRestart ..).rd (by decide), (ev_forgetRelapses ..).rd (by decide),
    assertReset_rd_rst (by decide) (by decide) rfl, (ev_giveUp _).rd (by decide), rd_bump_self _ _ _ (by decide)]

variable {s : State} (last : Nat)

/-- A warm reset out of a phase past 0 waits in phase 1 for the image. -/
theorem warmReset_of_started (h : s.rst.phase ≠ 0) : warmReset last s =
    waitRefclk ((awaitCopy (warmStop s)).setRst (warmRst last (awaitCopy (warmStop s)))) := by
  rw [warmReset_eq]
  refine nextPhase_waits ?_ ?_
  · obtain ⟨o, ho⟩ := warmStop_rst s
    rw [warmRst_phase, (ev_awaitCopy _).keeps .rst rfl, ho]
    exact Nat.min_eq_left (Nat.one_le_iff_ne_zero.mpr h)
  · rw [(ev_awaitCopy _).keeps .nvm rfl]
    exact nvmRestart_image ..

theorem warmReset_rst (h : s.rst.phase ≠ 0) : ∃ o d r, (warmReset last s).rst =
    { s.rst with overrides := o, lastClass := last, phase := 1, cold := false, stallAt := d, refclkFrom := r } := by
  rw [warmReset_of_started last h]
  obtain ⟨r, hr⟩ := waitRefclk_rst ((awaitCopy (warmStop s)).setRst (warmRst last (awaitCopy (warmStop s))))
  obtain ⟨o, ho⟩ := warmStop_rst s
  have hm : min 1 s.rst.phase = 1 := Nat.min_eq_left (Nat.one_le_iff_ne_zero.mpr h)
  have hrst : (awaitCopy (warmStop s)).rst = { s.rst with overrides := o } := ((ev_awaitCopy _).keeps .rst rfl).trans ho
  refine ⟨o, stallDeadline (awaitCopy (warmStop s)), r, hr.trans ?_⟩
  simp only [State.setRst, warmRst, hrst, hm]

/-- The parts and the words that a warm reset changes only as it stops the islands. -/
theorem warmReset_of_stop (h : s.rst.phase ≠ 0) : (warmReset last s).islands = (warmStop s).islands ∧
    (warmReset last s).clk = (warmStop s).clk ∧ ∀ i, rd RST.WARM_CNT i (warmReset last s) = rd RST.WARM_CNT i (warmStop s) := by
  have hmask : Evolves 2596148429267413814265256754545665 (warmStop s) (warmReset last s) := by
    rw [warmReset_of_started last h]
    exact Evolves.step (ev_waitRefclk _) (Evolves.step (ev_State_setRst ..) ((ev_awaitCopy _).mono (by decide)))
  exact ⟨hmask.keeps .islands rfl, hmask.keeps .clk rfl, hmask.rd (by decide)⟩

theorem warmReset_up (h : s.rst.phase ≠ 0) (i : Fin 226) : (warmReset last s).up i = (s.up i && phaseOf i == 0) :=
  (State.up_of_islands (warmReset_of_stop last h).1 i).trans (warmStop_up s i)

theorem warmReset_clk (h : s.rst.phase ≠ 0) : (warmReset last s).clk = s.clk :=
  (warmReset_of_stop last h).2.1.trans (warmStop_clk s)

theorem warmReset_counted (h : s.rst.phase ≠ 0) : Counted RST.WARM_CNT 0 s (warmReset last s) :=
  ((warmReset_of_stop last h).2.2 0).trans (warmStop_counted s)

end Sys2Proof.Machine

/-! Cold resets (R322, R325 to R327), where a cut programming leaves the fuses as they were. -/

namespace Sys2Proof.Machine

theorem coldReset_up (last : Nat) (on_ : Bool) (s : State) (i : Nat) : (coldReset last on_ s).up i = false := rfl

theorem otpCut_rst (s : State) : (otpCut s).rst = s.rst := (ev_otpCut s).keeps .rst rfl

theorem coldReset_clk (last : Nat) (on_ : Bool) (s : State) : (coldReset last on_ s).clk = s.clk := (ev_otpCut s).keeps .clk rfl

/-- The feeds, and what a power-on clears of the fuse latch. -/
theorem coldReset_kept (last : Nat) (on_ : Bool) (s : State) : let r := (coldReset last on_ s).rst
    r.feedA = s.rst.feedA ∧ r.feedB = s.rst.feedB ∧ r.fuseValid = (!on_ && s.rst.fuseValid) ∧
    r.fuse = if on_ then [] else s.rst.fuse := by
  rw [← otpCut_rst s]
  exact ⟨rfl, rfl, rfl, rfl⟩

/-- The words of the flash, the fuses and their shadow stand as they did. -/
def KeepsStores (s t : State) : Prop := ∀ k : Key, k.sp ∈ [Sp.flash, Sp.otpFuse, Sp.otpSh] → t.get k = s.get k

/-- A cut programming changes no word. -/
def CutKeepsWords : Prop := ∀ (s : State) (k : Key), (otpCut s).get k = s.get k

theorem coldReset_cleared (hcut : CutKeepsWords) {s u : State} (h : KeepsStores s u) (last : Nat) (on_ : Bool) :
    ClearedBut [.flash, .otpFuse, .otpSh] s (coldReset last on_ u) := by
  intro k
  rw [coldReset_get]
  split
  next hk => rw [hcut, h k hk]
  next => rfl

theorem powerOn_of_unpowered {a b : Bool} {s : State} (hp : powered s = false) (hab : (a || b) = true) :
    powerOn a b s = coldReset 0 true (s.setRst { s.rst with feedA := a, feedB := b }) := by
  unfold powerOn
  rw [hp, hab]
  rfl

/-- POWER_ON is a cold reset with the feeds that rose. -/
theorem powerOn_clears (hcut : CutKeepsWords) (a b : Bool) (i : Fin 226) (s : State) (hp : powered s = false)
    (hab : (a || b) = true) :
    ∃ t, exec (.powerOn a b) s = .next t ∧ ClearedBut [.flash, .otpFuse, .otpSh] s t ∧ t.up i = false ∧
      (t.island i).held = false ∧ t.rst.feedA = a ∧ t.rst.feedB = b ∧ t.rst.phase = 0 ∧ t.rst.lastClass = 0 ∧
      t.rst.cold = true ∧ t.ptp = 0 ∧ t.cmd = {} ∧ t.sess = [] ∧ t.rst.fuseValid = false := by
  refine ⟨coldReset 0 true (s.setRst { s.rst with feedA := a, feedB := b }),
    congrArg Host.Outcome.next (powerOn_of_unpowered hp hab), coldReset_cleared hcut (fun _ _ => rfl) _ _, coldReset_up ..,
    rfl, ?_⟩
  obtain ⟨ha, hb, hv, -⟩ := coldReset_kept 0 true (s.setRst { s.rst with feedA := a, feedB := b })
  exact ⟨ha, hb, rfl, rfl, rfl, rfl, rfl, rfl, hv⟩

theorem powerOn_without_rise (a b : Bool) (s : State) (h : powered s = true ∨ (a || b) = false) :
    ∃ t, exec (.powerOn a b) s = .next t ∧ t = s := by
  refine ⟨s, congrArg Host.Outcome.next (if_pos ?_), rfl⟩
  rcases h with h | h <;> simp [h]

theorem pass_clk (d : Nat) (s : State) : (pass d s).clk = s.clk + d := (ev_pmuCount ..).keeps .clk rfl

theorem pass_get (d : Nat) (s : State) (k : Key) : (pass d s).get k = s.get k := by
  have hmem : (pass d s).mem = s.mem := (ev_pass d s).keeps .mem rfl
  have hev : (pass d s).ev = s.ev := (ev_pass d s).keeps .ev rfl
  rw [State.get, hmem, hev]
  rfl

/-- An accepted pulse is a cold reset. -/
theorem resetNPulse_of_long {w : Nat} (k : Bool) {s : State} (hp : powered s = true) (hw : 10000 ≤ w) :
    resetNPulse w k s = pass w (coldReset 1 false s) := by
  simp [resetNPulse, hp, hw]

theorem resetNPulse_clears (hcut : CutKeepsWords) (w : Nat) (k : Bool) (i : Fin 226) (s : State) (hp : powered s = true)
    (hw : 10000 ≤ w) :
    ∃ t, exec (.resetNPulse w k) s = .next t ∧ ClearedBut [.flash, .otpFuse, .otpSh] s t ∧ t.up i = false ∧
      t.rst.lastClass = 1 ∧ t.rst.phase = 0 ∧ t.rst.cold = true ∧ t.rst.feedA = s.rst.feedA ∧ t.rst.feedB = s.rst.feedB ∧
      t.rst.fuseValid = s.rst.fuseValid ∧ t.rst.fuse = s.rst.fuse ∧ t.clk = s.clk + w := by
  have hpass := ev_pass w (coldReset 1 false s)
  have hrst := hpass.keeps .rst rfl
  obtain ⟨ha, hb, hv, hf⟩ := coldReset_kept 1 false s
  refine ⟨_, congrArg Host.Outcome.next (resetNPulse_of_long k hp hw), fun key => ?_, ?_, ?_⟩
  · rw [pass_get]
    exact coldReset_cleared hcut (fun _ _ => rfl) _ _ key
  · exact (State.up_of_islands (hpass.keeps .islands rfl) i).trans (coldReset_up ..)
  · rw [hrst, pass_clk, coldReset_clk]
    exact ⟨rfl, rfl, rfl, ha, hb, hv, hf, rfl⟩

/-- The writes of RST.CMD_OP and RST.CMD_ISLAND that a command of island 0 begins with. -/
theorem rstOperate_cold (s : State) : rstOperate 3 0 s = coldReset 2 false (s |> wr RST.CMD_OP 0 3 |> wr RST.CMD_ISLAND 0 0) := by
  unfold rstOperate
  dsimp only
  rw [if_neg (show ¬ 225 < 0 by decide), if_neg (show ¬ (3 : Nat) = 0 by decide), if_pos rfl]

theorem rstOperate_warm (s : State) :
    rstOperate 0 0 s = warmReset 3 (s |> wr RST.CMD_OP 0 0 |> wr RST.CMD_ISLAND 0 0 |> rstDone 0) := by
  unfold rstOperate
  dsimp only
  rw [if_neg (show ¬ 225 < 0 by decide), if_pos rfl]

theorem startDue_of_none {s : State} (h : s.rst.blockDue = none) : startDue s = s := by
  unfold startDue
  rw [h]

/-- A privileged RST.CMD does its operation. -/
theorem rstCommand_of_privileged {op i : Nat} {s : State} (hup : s.up 224 = true) (hp : privileged s = true) :
    rstCommand op i s = .next (startDue (rstOperate op i s)) := by
  unfold rstCommand
  rw [onIsland_up hup, guarded, if_pos hp]

theorem rstCold_clears (hcut : CutKeepsWords) (i : Fin 226) (s : State) (hup : s.up 224 = true) (hp : privileged s = true) :
    ∃ t, exec .rstCold s = .next t ∧ ClearedBut [.flash, .otpFuse, .otpSh] s t ∧ t.up i = false ∧ t.rst.lastClass = 2 ∧
      t.rst.phase = 0 ∧ t.rst.cold = true := by
  have hexec : exec .rstCold s = .next (coldReset 2 false (s |> wr RST.CMD_OP 0 3 |> wr RST.CMD_ISLAND 0 0)) := by
    refine (rstCommand_of_privileged hup hp).trans ?_
    rw [rstOperate_cold, startDue_of_none rfl]
  refine ⟨_, hexec, coldReset_cleared hcut (fun k hk => ?_) _ _, rfl, rfl, rfl, rfl⟩
  have hev : Evolves (wordMask .rst) s (s |> wr RST.CMD_OP 0 3 |> wr RST.CMD_ISLAND 0 0) := Evolves.wr (Evolves.wr (.refl s))
  refine hev.words k ?_
  simp only [List.mem_cons, List.not_mem_nil, or_false] at hk
  rcases hk with h | h | h <;> rw [h] <;> decide

end Sys2Proof.Machine

/-! Short pulses, and warm resets by command (R325 to R328, R331). -/

namespace Sys2Proof.Machine

/-- A pulse below 2 µs is no reset; from 100 ns on it counts. -/
theorem resetNPulse_of_short {w : Nat} (k : Bool) {s : State} (hw : w < 2000) (hp : powered s = true ∨ w < 100) :
    resetNPulse w k s = (pass w s |> onlyIf (100 ≤ w) (fun s => s |> bump RST.GLITCH_CNT 0 |> rstCause 6 [])) := by
  have haccept : (decide (10000 ≤ w) || (decide (2000 ≤ w) && k)) = false := by
    rw [decide_eq_false (by omega), decide_eq_false (by omega)]
    rfl
  unfold resetNPulse
  dsimp only
  rw [haccept, if_neg Bool.false_ne_true]
  rcases hp with hp | hlow
  · rw [hp]
    rfl
  · rw [onlyIf_neg (by omega), ite_self]

theorem pulse_counted (w : Nat) (k : Bool) (s : State) (hp : powered s = true) (hl : 100 ≤ w) (hw : w < 2000) :
    ∃ t, exec (.resetNPulse w k) s = .next t ∧ t.clk = s.clk + w ∧ Counted RST.GLITCH_CNT 0 s t ∧ Raised 185 6 t ∧
      t.islands = s.islands ∧ Touches (.clk :: .ptp :: .ptpFrac :: .tim :: .mem :: signals) [(RST.GLITCH_CNT, 0, 0)] s t := by
  have hpulse : resetNPulse w k s = rstCause 6 [] (bump RST.GLITCH_CNT 0 (pass w s)) := by
    rw [resetNPulse_of_short k hw (.inl hp), onlyIf_pos hl]
  have hpass : (pass w s).mem = s.mem := (ev_pass w s).keeps .mem rfl
  have hev : Evolves (spacesAll ||| partMask (.clk :: .ptp :: .ptpFrac :: .tim :: .mem :: signals)) s
      (rstCause 6 [] (bump RST.GLITCH_CNT 0 (pass w s))) :=
    Evolves.step (ev_rstCause ..) (Evolves.step (ev_bump ..) ((ev_pass ..).mono (by decide)))
  refine ⟨_, congrArg Host.Outcome.next hpulse, ?_, ?_, raise_raised _ _ _ _ (by decide), hev.keeps .islands rfl,
    hev.touches ?_⟩
  · rw [rstCause, raise_clk, bump_clk, pass_clk]
  · unfold Counted rstCause
    rw [rd_raise _ _ _ _ _ _ rfl, rd_bump_self _ _ _ (by decide), rd_of_mem hpass rfl]
  · exact OnlyFields.raise (OnlyFields.bump (OnlyFields.ofMem hpass (.refl _ s)) (by simp) (by decide))

theorem pulse_ignored (w : Nat) (k : Bool) (s : State) (hw : w < 100) :
    ∃ t, exec (.resetNPulse w k) s = .next t ∧ t.clk = s.clk + w ∧ Touches [.clk, .ptp, .ptpFrac, .tim, .pmu] [] s t := by
  have hpulse : resetNPulse w k s = pass w s := by
    rw [resetNPulse_of_short k (by omega) (.inr hw), onlyIf_neg (by omega)]
  exact ⟨_, congrArg Host.Outcome.next hpulse, pass_clk w s,
    (ev_pass w s).touches (OnlyFields.ofMem ((ev_pass w s).keeps .mem rfl) (.refl _ s))⟩

/-- The words of RST.CMD as a warm reset by command leaves them. -/
def warmCommanded (s : State) : State := s |> wr RST.CMD_OP 0 0 |> wr RST.CMD_ISLAND 0 0 |> rstDone 0

theorem ev_warmCommanded (s : State) : Evolves (wordMask .rst) s (warmCommanded s) := by
  unfold warmCommanded rstDone
  exact Evolves.wr (Evolves.wr (Evolves.wr (Evolves.wr (Evolves.wr (.refl s)))))

theorem warmCommanded_warmCnt (s : State) : rd RST.WARM_CNT 0 (warmCommanded s) = rd RST.WARM_CNT 0 s := by
  unfold warmCommanded rstDone
  rw [rd_wr_clear _ _ _ _ _ _ (by decide), rd_wr_clear _ _ _ _ _ _ (by decide), rd_wr_clear _ _ _ _ _ _ (by decide),
    rd_wr_clear _ _ _ _ _ _ (by decide), rd_wr_clear _ _ _ _ _ _ (by decide)]

theorem rstWarm_resets (i : Fin 226) (s : State) (hup : s.up 224 = true) (hpriv : privileged s = true)
    (hphase : s.rst.phase ≠ 0) (hdue : s.rst.blockDue = none) :
    ∃ t, exec .rstWarm s = .next t ∧ Counted RST.WARM_CNT 0 s t ∧ t.rst.phase = 1 ∧ t.rst.lastClass = 3 ∧ t.rst.cold = false ∧
      t.up i = (s.up i && phaseOf i == 0) ∧ t.clk = s.clk := by
  have hcmd := ev_warmCommanded s
  have hcrst : (warmCommanded s).rst = s.rst := hcmd.keeps .rst rfl
  have hstart : (warmCommanded s).rst.phase ≠ 0 := by rwa [hcrst]
  obtain ⟨o, d, r, hrst⟩ := warmReset_rst 3 hstart
  have hexec : exec .rstWarm s = .next (warmReset 3 (warmCommanded s)) := by
    refine (rstCommand_of_privileged hup hpriv).trans ?_
    rw [rstOperate_warm, ← warmCommanded, startDue_of_none]
    rw [hrst, hcrst]
    exact hdue
  refine ⟨_, hexec, ?_, by rw [hrst], by rw [hrst], by rw [hrst], ?_, ?_⟩
  · have hcount := warmReset_counted 3 hstart
    rwa [Counted, warmCommanded_warmCnt] at hcount
  · rw [warmReset_up 3 hstart, State.up_of_islands (hcmd.keeps .islands rfl)]
  · rw [warmReset_clk 3 hstart, hcmd.keeps .clk rfl]

/-- A guarded access without privilege: it counts and raises its cause (R382). -/
def guardRefuse (ofs v : Nat) (s : State) : State := s |> bump CMD.GUARD_CNT 0 |> accessCause 4 ofs v |> setVerdict 4 0

theorem rstCommand_of_unprivileged {op i : Nat} {s : State} (hup : s.up 224 = true) (hp : privileged s = false) :
    rstCommand op i s = .next (startDue (guardRefuse (regOffset .rst 0 1) (2 ^ 31 + op * 2 ^ 24 + i) s)) := by
  unfold rstCommand
  rw [onIsland_up hup, guarded, if_neg (by simp [hp])]
  rfl

theorem ev_guardRefuse (ofs v : Nat) (s : State) :
    Evolves (spacesAll ||| partMask (.cmd :: .mem :: signals)) s (guardRefuse ofs v s) :=
  Evolves.step (ev_setVerdict ..) (Evolves.step (ev_accessCause ..) ((ev_bump ..).mono (by decide)))

theorem guardRefuse_counted (ofs v : Nat) (s : State) : Counted CMD.GUARD_CNT 0 s (guardRefuse ofs v s) := by
  unfold Counted guardRefuse
  rw [rd_of_mem (setVerdict_mem ..) rfl, accessCause, rd_raise _ _ _ _ _ _ rfl, rd_bump_self _ _ _ (by decide)]

theorem guardRefuse_raised (ofs v : Nat) (s : State) : Raised 183 4 (guardRefuse ofs v s) := by
  have hverdict := ev_setVerdict 4 0 (accessCause 4 ofs v (bump CMD.GUARD_CNT 0 s))
  exact (accessCause_raised 4 ofs v _ (by decide)).stay (.same (hverdict.keeps .ev rfl) (hverdict.keeps .islands rfl))

theorem guardRefuse_fields (ofs v : Nat) (s : State) : OnlyFields [(CMD.GUARD_CNT, 0, 0)] s (guardRefuse ofs v s) :=
  (OnlyFields.accessCause (OnlyFields.bump (.refl _ s) (by simp) (by decide))).setVerdict

theorem rstWarm_refused (s : State) (hup : s.up 224 = true) (hpriv : privileged s = false) (hdue : s.rst.blockDue = none) :
    ∃ t, exec .rstWarm s = .next t ∧ Counted CMD.GUARD_CNT 0 s t ∧ Raised 183 4 t ∧ t.islands = s.islands ∧
      Touches (.cmd :: .mem :: signals) [(CMD.GUARD_CNT, 0, 0)] s t := by
  have hev := ev_guardRefuse (regOffset .rst 0 1) (2 ^ 31 + 0 * 2 ^ 24 + 0) s
  have hrst := hev.keeps .rst rfl
  refine ⟨_, rstCommand_of_unprivileged hup hpriv, ?_⟩
  rw [startDue_of_none ((congrArg RstCtl.blockDue hrst).trans hdue)]
  exact ⟨guardRefuse_counted .., guardRefuse_raised .., hev.keeps .islands rfl, hev.touches (guardRefuse_fields _ _ _)⟩

end Sys2Proof.Machine

/-! The feeds and REFCLK (R309, R322, R328, R419, R420). -/

namespace Sys2Proof.Machine

theorem ev_setFeedRaise (f b : Nat) (v : Bool) (s : State) :
    Evolves 255211775190703847597530955573826160138 s (raise 186 b [] (setFeed f v s)) :=
  Evolves.step (ev_raise ..) ((ev_setFeed ..).mono (by decide))

theorem setFeedRaise_touches (f b : Nat) (v : Bool) (s : State) :
    Touches (.rst :: signals) [] s (raise 186 b [] (setFeed f v s)) :=
  (ev_setFeedRaise f b v s).touches (OnlyFields.raise (OnlyFields.ofMem ((ev_setFeed f v s).keeps .mem rfl) (.refl _ s)))

theorem feedUp_of_rst {s t : State} (h : t.rst = s.rst) (f : Nat) : feedUp f t = feedUp f s := by
  simp [feedUp, h]

theorem powered_of_rst {s t : State} (h : t.rst = s.rst) : powered t = powered s := by
  simp [powered, h]

theorem setFeed_self (f : Nat) (v : Bool) (s : State) : feedUp f (setFeed f v s) = v := by
  by_cases h : f = 0 <;> simp [feedUp, setFeed, h]

theorem setFeed_other (f : Fin 2) (v : Bool) (s : State) : feedUp (1 - f) (setFeed f v s) = feedUp (1 - f) s := by
  match f with
  | 0 => rfl
  | 1 => rfl

theorem powered_of_feed {f : Nat} {s : State} (h : feedUp f s = true) : powered s = true := by
  unfold feedUp at h
  unfold powered
  split at h <;> simp [h]

theorem feedLoss_of_other {f : Fin 2} {s : State} (h : feedUp f s = true) (hother : feedUp (1 - f) s = true) :
    feedLoss f s = raise 186 (2 * f) [] (setFeed f false s) := by
  have hp : powered (setFeed f false s) = true := powered_of_feed ((setFeed_other f false s).trans hother)
  unfold feedLoss
  rw [if_pos h]
  exact if_pos hp

theorem feedLoss_reported (f : Fin 2) (s : State) (ha : s.rst.feedA = true) (hb : s.rst.feedB = true) :
    ∃ t, exec (.sentinelFeedLoss f) s = .next t ∧ feedUp f t = false ∧ feedUp (1 - f) t = true ∧ Raised 186 (2 * f) t ∧
      t.islands = s.islands ∧ Touches (.rst :: signals) [] s t := by
  have hup : ∀ g, feedUp g s = true := fun g => by simp [feedUp, ha, hb]
  have hrst : (raise 186 (2 * f) [] (setFeed f false s)).rst = (setFeed f false s).rst := raise_rst ..
  refine ⟨_, congrArg Host.Outcome.next (feedLoss_of_other (hup f) (hup _)), ?_, ?_, raise_raised _ _ _ _ (by omega),
    (ev_setFeedRaise ..).keeps .islands rfl, setFeedRaise_touches ..⟩
  · rw [feedUp_of_rst hrst, setFeed_self]
  · rw [feedUp_of_rst hrst, setFeed_other, hup]

/-- R309: the islands once both sentinel feeds are lost. -/
def sentinelStop (s : State) : State :=
  s |> assertReset .c [224, 160, 162] |> assertReset .cw coreIslands |> forgetRelapses allIslands |> nvmRestart true
    |> onIslands Island.unclock allIslands

theorem sentinelReset_eq (s : State) : sentinelReset s = rstCause 11 [] (sentinelKept s.rst (sentinelStop s)) := rfl

theorem onIslands_unclock_up (is : List Nat) (s : State) (i : Nat) : (onIslands Island.unclock is s).up i = s.up i :=
  onIslands_keeps (g := Island.unclock) (p := Island.up) (fun _ => rfl) is s i

theorem onIslands_unclock_held (is : List Nat) (s : State) (i : Nat) :
    ((onIslands Island.unclock is s).island i).held = (s.island i).held :=
  onIslands_keeps (g := Island.unclock) (p := Island.held) (fun _ => rfl) is s i

theorem sentinelStop_up (s : State) (i : Fin 226) : (sentinelStop s).up i = false := by
  have hi : onSentinelFeeds i = true → [224, 160, 162].contains i.val = true := by
    simp only [onSentinelFeeds, Bool.or_eq_true, beq_iff_eq, List.contains_eq_mem, decide_eq_true_eq, List.mem_cons,
      List.not_mem_nil, or_false]
    omega
  have hc : coreIslands.contains i.val = !onSentinelFeeds i := by simp [coreIslands, allIslands]
  unfold sentinelStop
  rw [onIslands_unclock_up, nvmRestart_up, forgetRelapses_up, assertReset_up (by decide), assertReset_up (by decide), hc]
  cases hs : onSentinelFeeds i with
  | false => rw [Bool.not_false, Bool.not_true, Bool.and_false]
  | true => rw [hi hs, Bool.not_true, Bool.and_false, Bool.false_and]

theorem sentinelStop_held (s : State) (i : Fin 226) : ((sentinelStop s).island i).held = false := by
  unfold sentinelStop
  rw [onIslands_unclock_held, State.island, (ev_nvmRestart ..).keeps .islands rfl]
  exact onIslands_gives (g := Island.forget) (p := Island.held) (fun _ => rfl) (List.mem_range.mpr i.isLt) _

theorem feedLoss_of_last {s : State} (ha : s.rst.feedA = true) (hb : s.rst.feedB = false) :
    feedLoss 0 s = sentinelReset (setFeed 0 false s) := by
  have hp : powered (setFeed 0 false s) = false := hb
  unfold feedLoss
  rw [if_pos (show feedUp 0 s = true from ha)]
  dsimp only
  rw [hp]
  exact if_neg Bool.false_ne_true

theorem sentinelKept_islands (r : RstCtl) (s : State) : (sentinelKept r s).islands = s.islands := rfl

/-- No feed is up, and the class and the time of the sentinel say so. -/
theorem sentinelKept_lost (r : RstCtl) (s : State) :
    powered (sentinelKept r s) = false ∧ (sentinelKept r s).rst.lastClass = 5 ∧ (sentinelKept r s).tim.copy = none := ⟨rfl, rfl, rfl⟩

theorem sentinelReset_islands (s : State) : (sentinelReset s).islands = (sentinelStop s).islands := by
  rw [sentinelReset_eq, rstCause, raise_islands, sentinelKept_islands]

theorem sentinelReset_up (s : State) (i : Fin 226) : (sentinelReset s).up i = false :=
  (State.up_of_islands (sentinelReset_islands s) i).trans (sentinelStop_up s i)

theorem sentinelReset_held (s : State) (i : Fin 226) : ((sentinelReset s).island i).held = false := by
  rw [State.island, sentinelReset_islands, ← State.island]
  exact sentinelStop_held s i

theorem sentinelReset_lost (s : State) :
    powered (sentinelReset s) = false ∧ (sentinelReset s).rst.lastClass = 5 ∧ (sentinelReset s).tim.copy = none := by
  obtain ⟨hp, hc, ht⟩ := sentinelKept_lost s.rst (sentinelStop s)
  rw [sentinelReset_eq, rstCause, powered_of_rst (raise_rst ..), raise_rst, raise_tim]
  exact ⟨hp, hc, ht⟩

theorem feedLoss_last_resets (i : Fin 226) (s : State) (ha : s.rst.feedA = true) (hb : s.rst.feedB = false) :
    ∃ t, exec (.sentinelFeedLoss 0) s = .next t ∧ powered t = false ∧ t.up i = false ∧ (t.island i).held = false ∧
      t.rst.lastClass = 5 ∧ t.tim.copy = none := by
  obtain ⟨hp, hc, ht⟩ := sentinelReset_lost (setFeed 0 false s)
  exact ⟨sentinelReset (setFeed 0 false s), congrArg Host.Outcome.next (feedLoss_of_last ha hb), hp, sentinelReset_up _ i,
    sentinelReset_held _ i, hc, ht⟩

theorem feedReturn_of_powered {f : Nat} {s : State} (h : feedUp f s = false) (hp : powered s = true) :
    feedReturn f s = raise 186 (2 * f + 1) [] (setFeed f true s) := by
  unfold feedReturn
  rw [if_neg (by simp [h])]
  exact if_pos hp

/-- R322: the warm reset that follows once a feed has returned to a unit without one. -/
def restartPhases (s : State) : State := bump RST.WARM_CNT 0 (s.setRst { s.rst with phase := 0, lastClass := 5 })

theorem restartPhases_rst (s : State) : (restartPhases s).rst = { s.rst with phase := 0, lastClass := 5 } := bump_rst ..

theorem restartPhases_counted (s : State) : Counted RST.WARM_CNT 0 s (restartPhases s) := by
  rw [Counted, restartPhases, rd_bump_self _ _ _ (by decide), rd_setRst]

theorem cs_restartPhases (s : State) : CausesStay s (restartPhases s) :=
  CausesStay.bump (CausesStay.other (.refl s)) (by decide) (.inl (by decide))

theorem feedReturn_of_unpowered {f : Nat} {s : State} (hp : powered s = false) :
    feedReturn f s = restartPhases (raise 186 (2 * f + 1) [] (setFeed f true s)) := by
  have h : feedUp f s = false := Bool.eq_false_iff.mpr fun hf => by simp [powered_of_feed hf] at hp
  unfold feedReturn
  rw [if_neg (by simp [h])]
  exact if_neg (by simp [hp])

theorem feedReturn_reported (f : Fin 2) (s : State) (h : feedUp f s = false) (hother : feedUp (1 - f) s = true) :
    ∃ t, exec (.sentinelFeedReturn f) s = .next t ∧ feedUp f t = true ∧ Raised 186 (2 * f + 1) t ∧
      Touches (.rst :: signals) [] s t := by
  refine ⟨_, congrArg Host.Outcome.next (feedReturn_of_powered h (powered_of_feed hother)), ?_, raise_raised _ _ _ _ (by omega),
    setFeedRaise_touches ..⟩
  rw [feedUp_of_rst (raise_rst ..), setFeed_self]

theorem feedReturn_restarts (f : Fin 2) (s : State) (hp : powered s = false) :
    ∃ t, exec (.sentinelFeedReturn f) s = .next t ∧ feedUp f t = true ∧ Raised 186 (2 * f + 1) t ∧ t.rst.phase = 0 ∧
      t.rst.lastClass = 5 ∧ Counted RST.WARM_CNT 0 s t := by
  have hraise : (raise 186 (2 * f + 1) [] (setFeed f true s)).rst = (setFeed f true s).rst := raise_rst ..
  have hcnt : rd RST.WARM_CNT 0 (raise 186 (2 * f + 1) [] (setFeed f true s)) = rd RST.WARM_CNT 0 s :=
    (rd_raise _ _ _ _ _ _ rfl).trans (rd_of_mem ((ev_setFeed ..).keeps .mem rfl) rfl 0)
  have hcount := restartPhases_counted (raise 186 (2 * f + 1) [] (setFeed f true s))
  have hrst := restartPhases_rst (raise 186 (2 * f + 1) [] (setFeed f true s))
  refine ⟨_, congrArg Host.Outcome.next (feedReturn_of_unpowered hp), ?_,
    (raise_raised _ _ _ _ (by omega)).stay (cs_restartPhases _), by rw [hrst], by rw [hrst], ?_⟩
  · have hself := setFeed_self f true s
    rwa [← feedUp_of_rst hraise, feedUp, ← congrArg RstCtl.feedA hrst, ← congrArg RstCtl.feedB hrst] at hself
  · rwa [Counted, hcnt] at hcount

/-- R309: the islands once the core feed is lost. -/
def coreStop (s : State) : State :=
  s |> assertReset .cw coreIslands |> forgetRelapses coreIslands |> onIslands Island.unclock coreIslands

theorem coreStop_up (s : State) (i : Fin 226) : (coreStop s).up i = (s.up i && onSentinelFeeds i) := by
  have hc : coreIslands.contains i.val = !onSentinelFeeds i := by simp [coreIslands, allIslands]
  unfold coreStop
  rw [onIslands_unclock_up, forgetRelapses_up, assertReset_up (by decide), hc, Bool.not_not]

theorem coreStop_rst (s : State) : (coreStop s).rst = s.rst := by
  unfold coreStop
  rw [(ev_onIslands ..).keeps .rst rfl, (ev_forgetRelapses ..).keeps .rst rfl, assertReset_rst (by decide)]

theorem coreLoss_of_powered {s : State} (hp : powered s = true) (hg : s.rst.coreGood = true) :
    coreLoss s = giveUp (raise 186 4 [] (coreStop (s.setRst { s.rst with coreGood := false }))) := by
  have hp' : powered (s.setRst { s.rst with coreGood := false }) = true := hp
  unfold coreLoss
  rw [hg, if_neg (by decide)]
  dsimp only
  rw [hp', if_neg (by decide)]
  rfl

theorem coreLoss_isolates (i : Fin 226) (s : State) (hp : powered s = true) (hg : s.rst.coreGood = true) :
    ∃ t, exec .coreFeedLoss s = .next t ∧ t.rst.coreGood = false ∧ t.up i = (s.up i && onSentinelFeeds i) ∧
      Raised 186 4 t ∧ roleActive t = false := by
  refine ⟨_, congrArg Host.Outcome.next (coreLoss_of_powered hp hg), ?_, ?_, ?_, giveUp_inactive _⟩
  · obtain ⟨o, h⟩ := giveUp_rst (raise 186 4 [] (coreStop (s.setRst { s.rst with coreGood := false })))
    rw [h, raise_rst, coreStop_rst]
    rfl
  · rw [giveUp_up, raise_up, coreStop_up]
    rfl
  · exact (raise_raised _ _ _ _ (by decide)).stay (cs_giveUp _)

theorem coreReturn_of_ever {s : State} (hp : powered s = true) (hg : s.rst.coreGood = false) (he : s.rst.coreEver = true) :
    coreReturn s = warmReset 4 (s.setRst { s.rst with coreGood := true, coreEver := true }) := by
  have hp' : powered (s.setRst { s.rst with coreGood := true, coreEver := true }) = true := hp
  unfold coreReturn
  rw [hg, if_neg (by decide)]
  dsimp only
  rw [hp', if_neg (by decide), if_pos he]

theorem coreReturn_resets (s : State) (hp : powered s = true) (hg : s.rst.coreGood = false) (he : s.rst.coreEver = true)
    (hphase : s.rst.phase ≠ 0) :
    ∃ t, exec .coreFeedReturn s = .next t ∧ t.rst.coreGood = true ∧ t.rst.lastClass = 4 ∧ t.rst.phase = 1 ∧
      Counted RST.WARM_CNT 0 s t := by
  obtain ⟨o, d, r, hrst⟩ := warmReset_rst (s := s.setRst { s.rst with coreGood := true, coreEver := true }) 4 hphase
  refine ⟨_, congrArg Host.Outcome.next (coreReturn_of_ever hp hg he), by rw [hrst]; rfl, by rw [hrst], by rw [hrst], ?_⟩
  exact warmReset_counted (s := s.setRst { s.rst with coreGood := true, coreEver := true }) 4 hphase

theorem coreReturn_of_good (s : State) (h : s.rst.coreGood = true) : ∃ t, exec .coreFeedReturn s = .next t ∧ t = s :=
  ⟨s, congrArg Host.Outcome.next (if_pos h), rfl⟩

/-- While island 222 is in reset a check only changes what the release waits for. -/
theorem refclkCheck_of_change {ok : Bool} {s : State} (hdown : s.up 222 = false) (hp : s.rst.phase ≤ 4)
    (hne : s.rst.refclk = !ok) : refclkCheck ok s =
      (let u := s.setRst { s.rst with refclk := ok }
       if ok then u.setRst { u.rst with stallAt := if u.rst.phase = 0 then none else stallDeadline u }
       else waitRefclk (u.setRst { u.rst with stallAt := none })) := by
  have hdown' : (s.setRst { s.rst with refclk := ok }).up 222 = false := hdown
  have hgo : ¬ (4 < (s.setRst { s.rst with refclk := ok }).rst.phase ∨ s.rst.refclk = ok) := by
    rw [hne]
    simpa using hp
  unfold refclkCheck
  dsimp only
  rw [hdown', if_neg Bool.false_ne_true, if_neg hgo]

theorem refclkCheck_lost (ok : Bool) (s : State) (hdown : s.up 222 = false) (hr : s.rst.refclk = true) (hp : s.rst.phase ≤ 4)
    (hok : ok = false) :
    ∃ t, exec (.refclkCheck ok) s = .next t ∧ t.rst.refclk = false ∧ t.rst.stallAt = none ∧
      (s.up 223 = false → t.rst.refclkFrom = some (s.rst.refclkFrom.getD s.clk)) ∧ Touches [.rst] [] s t := by
  subst hok
  have hev : Evolves 1024 s (waitRefclk (s.setRst { s.rst with refclk := false, stallAt := none })) :=
    Evolves.step (ev_waitRefclk _) (ev_State_setRst ..)
  refine ⟨waitRefclk (s.setRst { s.rst with refclk := false, stallAt := none }),
    congrArg Host.Outcome.next (refclkCheck_of_change hdown hp hr), ?_, ?_, fun hup => ?_,
    hev.touches (OnlyFields.ofMem (hev.keeps .mem rfl) (.refl _ s))⟩
  · obtain ⟨r, h⟩ := waitRefclk_rst (s.setRst { s.rst with refclk := false, stallAt := none })
    rw [h]
    rfl
  · obtain ⟨r, h⟩ := waitRefclk_rst (s.setRst { s.rst with refclk := false, stallAt := none })
    rw [h]
    rfl
  · have hup' : (s.setRst { s.rst with refclk := false, stallAt := none }).up 223 = false := hup
    unfold waitRefclk
    rw [hup']
    cases hf : s.rst.refclkFrom <;> simp [hf]

theorem refclkCheck_found (ok : Bool) (s : State) (hdown : s.up 222 = false) (hr : s.rst.refclk = false)
    (hl : 1 ≤ s.rst.phase) (hp : s.rst.phase ≤ 4) (hok : ok = true) :
    ∃ t, exec (.refclkCheck ok) s = .next t ∧ t = { s with rst := { s.rst with
      refclk := true, stallAt := some (s.clk + rd RST.CTL_STALL_MS 0 s * 1000000) } } := by
  subst hok
  have hphase : (s.setRst { s.rst with refclk := true }).rst.phase ≠ 0 := Nat.ne_of_gt hl
  refine ⟨_, congrArg Host.Outcome.next (refclkCheck_of_change hdown hp hr), ?_⟩
  dsimp only
  rw [if_pos rfl, if_neg hphase]
  rfl

end Sys2Proof.Machine

/-! What O53 comes to: every clause holds but for the fuses a cold reset cuts the programming of (R361). -/

namespace Sys2Proof.Machine

/-- A cut programming writes its word, or there is none to cut. -/
theorem otpCut_cases (s : State) : otpCut s = s ∨ ∃ w bits u, (∀ k, State.get u k = s.get k) ∧ otpCut s =
    u.set ⟨.otpFuse, 0, w, 0⟩ (BitVec.ofNat 32 (fuseWord w s ||| (bits &&& Config.freeNat s.freeCount))) := by
  unfold otpCut
  split
  · exact .inr ⟨_, _, { s with freeCount := s.freeCount + 1, nvm := { s.nvm with otpOp := none } }, fun _ => rfl, rfl⟩
  · exact .inl rfl

/-- Free values without low bits program nothing. -/
theorem fuseWord_or_low (w bits : Nat) {v : Nat} (hv : v % 2 ^ 32 = 0) (s : State) :
    BitVec.ofNat 32 (fuseWord w s ||| (bits &&& v)) = s.get ⟨.otpFuse, 0, w, 0⟩ := by
  have hlow : (bits &&& v) % 2 ^ 32 = 0 := by rw [Nat.and_mod_two_pow, hv, Nat.and_zero]
  refine BitVec.eq_of_toNat_eq ?_
  rw [BitVec.toNat_ofNat, Nat.or_mod_two_pow, hlow, Nat.or_zero]
  exact Nat.mod_eq_of_lt (BitVec.isLt _)

theorem cutKeepsWords_of_freeNat_low (h : ∀ n, Config.freeNat n % 2 ^ 32 = 0) : CutKeepsWords := by
  intro s k
  rcases otpCut_cases s with hidle | ⟨w, bits, u, hu, hcut⟩
  · rw [hidle]
  · rw [hcut]
    by_cases hk : k = ⟨.otpFuse, 0, w, 0⟩
    · rw [hk, State.get_set_self, fuseWord_or_low w bits (h _)]
    · rw [State.get_set_other _ hk, hu]

/-- Every clause of O53, where a cut programming changes no word. -/
theorem resetsAndFeeds_of_cut (hcut : CutKeepsWords) : Obligations.ResetsAndFeeds :=
  ⟨powerOn_clears hcut, powerOn_without_rise, resetNPulse_clears hcut, pulse_counted, pulse_ignored, rstWarm_resets,
    rstWarm_refused, rstCold_clears hcut, feedLoss_reported, feedLoss_last_resets, feedReturn_reported, feedReturn_restarts,
    coreLoss_isolates, coreReturn_resets, coreReturn_of_good, fun _ _ => ⟨_, rfl, rfl⟩, refclkCheck_lost, refclkCheck_found⟩

/-- O53 says neither more nor less than that no free value has a low bit, which the model leaves open (log entry 5): neither O53 nor
its negation follows from the model. -/
theorem resetsAndFeeds_iff : Obligations.ResetsAndFeeds ↔ ∀ n, Config.freeNat n % 2 ^ 32 = 0 :=
  ⟨freeNat_low_of_resetsAndFeeds, fun h => resetsAndFeeds_of_cut (cutKeepsWords_of_freeNat_low h)⟩

end Sys2Proof.Machine

/-! Every command is answered (R13, R334). -/

namespace Sys2Proof.Machine

theorem onIsland_next (i : Nat) (s : State) (f : State → State) : ∃ t, onIsland i s f = .next t := by
  cases h : s.up i with
  | true => exact ⟨f s, onIsland_up h⟩
  | false => exact ⟨_, onIsland_down h⟩

/-- What a command writes before it acts on an island that is up belongs to its effect on the island. -/
theorem onIsland_after {i : Nat} {s : State} {g : State → State} (f : State → State) (hg : (g s).up i = s.up i) :
    onIsland i (if s.up i then g s else s) f = onIsland i s fun x => f (g x) := by
  cases h : s.up i with
  | true => rw [if_pos rfl, onIsland_up (hg.trans h), onIsland_up h]
  | false => rw [if_neg (by decide), onIsland_down h, onIsland_down h]

theorem rstCommand_onIsland (op i : Nat) (s : State) : ∃ f, rstCommand op i s = onIsland 224 s f := by
  unfold rstCommand
  exact ⟨_, rfl⟩

theorem nvmAt_onIsland (addr op slot len : Nat) (s : State) :
    ∃ f, nvmAt addr s (nvmCommand op slot len) = onIsland 225 s f :=
  ⟨_, onIsland_after _ (wr_up NVM.ADDR 0 addr s 225)⟩

/-- A command of an island acts through the island's wrapper. -/
theorem exec_onIsland {c : Instr} {j : Nat} (h : homeIsland c = some j) (s : State) : ∃ f, exec c s = onIsland j s f := by
  cases c
  all_goals cases h
  all_goals dsimp only [exec]
  case rstWarm | rstBlock | rstReleaseHeld | rstCold => exact rstCommand_onIsland ..
  case nvmRead | nvmProgram | nvmErase => exact nvmAt_onIsland ..
  all_goals exact ⟨_, rfl⟩

theorem execCodewordDecoded_next (src : CwFrom) (r : CwResult) (s : State) :
    ∃ t, execCodewordDecoded src r s = .next t := by
  cases src <;> exact onIsland_next ..

theorem execWaitPoll_next (who : Option (Fin 5)) (s : State) : ∃ t, execWaitPoll who s = .next t := by
  cases who <;> exact onIsland_next ..

theorem execWaitTimeout_next (who : Option (Fin 5)) (s : State) : ∃ t, execWaitTimeout who s = .next t := by
  cases who <;> exact onIsland_next ..

theorem execCipherDsSdu_next (n : Fin 48) (port : BitVec 16) (len : BitVec 14) (ofs : BitVec 20) (bytes : List Byte)
    (s : State) : ∃ t, execCipherDsSdu n port len ofs bytes s = .next t := by
  unfold execCipherDsSdu
  repeat' split
  all_goals exact ⟨_, rfl⟩

/-- A command that belongs to no one island is answered as well. -/
theorem exec_next_of_no_home {c : Instr} (h : homeIsland c = none) (s : State) : ∃ t, exec c s = .next t := by
  cases c
  all_goals cases h
  all_goals dsimp only [exec]
  case codewordDecoded => exact execCodewordDecoded_next ..
  case cipherDsSdu => exact execCipherDsSdu_next ..
  case waitPoll => exact execWaitPoll_next ..
  case waitTimeout => exact execWaitTimeout_next ..
  all_goals exact ⟨_, rfl⟩

/-- Settles O6: a command acts through the wrapper of its island, which answers in reset (R13, R334; log entry 17), or belongs to no
one island and is answered by its own meaning. -/
theorem everyCommandAnswers : Obligations.EveryCommandAnswers := by
  refine ⟨fun c s => ?_, fun c j s hj hdown => ?_⟩
  · cases hc : homeIsland c with
    | none => exact exec_next_of_no_home hc s
    | some j =>
      obtain ⟨f, hf⟩ := exec_onIsland hc s
      exact hf ▸ onIsland_next j s f
  · obtain ⟨f, hf⟩ := exec_onIsland hj s
    exact hf.trans (onIsland_down hdown)

end Sys2Proof.Machine

/-! SDUs at the downstream cipher (R16, R239, R379). -/

namespace Sys2Proof.Machine

/-- A clear SDU of 100 bytes on Port-ID 5. -/
def clearSdu : Sdu := { port := 5, len := 100, treat := {}, frame := 3, ofs := 40, stop := 150, cut := false }

def clearSduBytes : List Byte := List.replicate 100 7

/-- The downstream cipher is up and has one clear SDU of tree 0 before it. No host session has armed a capture; an ACTION of another device
has armed one copy of what leaves the cipher for that tree (R312, log entry 98). -/
def actionCaptureState : State := { State.reset with
  islands := [(218, { up := true })]
  framing := [(0, { sealing := [clearSdu] })]
  sess := [(6, { capture := some { point := 2, whereIdx := 0, portId := 0xFFFF, left := 1, snap := 64 } })] }

theorem actionCaptureState_captures_none : ∀ i, i < 4 → (actionCaptureState.session i).capture = none := by decide

/-- The state in which the SDU has left the cipher, past the capture point (R239, R379). -/
def actionCaptureLeft : State :=
  let o : DsOut := { bytes := clearSduBytes }
  framerGets 0 clearSdu o (dsLeaves 0 5 100 o (takeSdu 0 actionCaptureState)).2

theorem actionCaptureState_leaves :
    exec (.cipherDsSdu 0 5 100 40 clearSduBytes) actionCaptureState = .next actionCaptureLeft := rfl

theorem actionCaptureLeft_spends_copy : (actionCaptureLeft.session 6).capture = none := rfl

/-- Refutes O41: its first clause says that a clear SDU changes nothing but its framing island where sessions 0 to 3 have no capture
armed. An ACTION's capture, in session record 6, is left out: it takes its copy of the SDU and counts it off (R379, log entry 98). -/
theorem not_sduCipher : ¬ Obligations.SduCipher := by
  rintro ⟨hclear, -⟩
  obtain ⟨t, ht, -, -, hkeeps, -⟩ := hclear 0 5 100 40 clearSduBytes clearSdu [] actionCaptureState
    rfl rfl rfl rfl rfl rfl rfl rfl actionCaptureState_captures_none
  have hsess : t.sess = actionCaptureState.sess := hkeeps .sess rfl
  have hspent := actionCaptureLeft_spends_copy
  rw [Host.Outcome.next.inj (actionCaptureState_leaves.symm.trans ht), State.session, hsess] at hspent
  exact absurd hspent nofun

end Sys2Proof.Machine

/-! The bursts of a terminal in trial (R81): one cut short before a codeword of it has been taken scores its trial, which changes the
terminal's record. -/

namespace Sys2Proof.Machine

/-- A command has one next state. -/
theorem next_unique {o : Host.Outcome State Fault Refusal} {s t : State} (hs : o = .next s) (ht : o = .next t) : s = t :=
  Host.Outcome.next.inj (hs.symm.trans ht)

/-- Terminal 5 of tree 0 in trial: its burst has locked and its delimiter has been accepted; no codeword of it has been taken. -/
def trialBurstState : State := { State.reset with
  islands := [(48, { up := true }), (167, { up := true })]
  lanes := [(0, { window := some { sel := { index := 5 }, locked := true, delimiter := some 0 } })]
  framing := [(0, { burst := some { no := 0, pos := 0, term := 5, kind := .burst, frame := 0, lockUi := 0, fec := false, left := 0 } })]
  terms := [(5, { trial := some { left := [6, 7], scores := [] } })] }

/-- The state after the burst's loss of lock. -/
def trialBurstLost : State :=
  lockBad 0 { sel := { index := 5 }, locked := true, delimiter := some 0 } trialBurstState

/-- The state after the lane has gone into test mode 1. -/
def trialBurstTested : State := testModeWrite 0 1 0 trialBurstState

theorem trialBurstState_loses : exec (.lockLost 0) trialBurstState = .next trialBurstLost := rfl

theorem trialBurstState_tests : exec (.testModeWrite 0 1 0) trialBurstState = .next trialBurstTested := rfl

theorem trialBurstLost_scored : (State.term trialBurstLost 0 5).trial = some { left := [7], scores := [(6, 4095)] } := by
  decide

theorem trialBurstTested_scored : (State.term trialBurstTested 0 5).trial = some { left := [7], scores := [(6, 4095)] } := by
  decide

/-- A step that keeps the terminals' records leaves the trial as it was, unscored. -/
theorem trialBurst_unscored_of_keeps {t : State} (h : t.terms = State.terms trialBurstState) :
    (t.term 0 5).trial = some { left := [6, 7], scores := [] } := by
  rw [State.term, h]
  rfl

/-- Refutes O9: its clause on a lost lock says that nothing but the lane, the framing and LOL_CNT changes. The burst of a terminal in
trial of which no codeword has been taken is left out: framing drops it, which scores the terminal's trial (R30, R81). -/
theorem not_laneWindows : ¬ Obligations.LaneWindows := by
  rintro ⟨-, -, -, -, -, -, -, hlost, -⟩
  obtain ⟨t, ht, -, -, -, -, -, hkeeps, -⟩ := hlost 0 _ trialBurstState rfl rfl rfl rfl
  have hunscored := trialBurst_unscored_of_keeps (hkeeps .terms rfl)
  rw [← next_unique trialBurstState_loses ht, trialBurstLost_scored] at hunscored
  exact absurd hunscored (by decide)

/-- Refutes O10: its clause on test modes says that nothing but the lane, the framing and the words of the test register changes. The
burst of a terminal in trial of which no codeword has been taken is left out: the test mode drops it, which scores the terminal's
trial (R37, R81). -/
theorem not_laneModule : ¬ Obligations.LaneModule := by
  rintro ⟨-, -, -, -, -, -, htest, -⟩
  obtain ⟨t, ht, -, -, -, hkeeps, -⟩ := htest 0 1 0 trialBurstState rfl (by decide)
  have hunscored := trialBurst_unscored_of_keeps (hkeeps .terms rfl)
  rw [← next_unique trialBurstState_tests ht, trialBurstTested_scored] at hunscored
  exact absurd hunscored (by decide)

end Sys2Proof.Machine

/-! Windows opened while the receiver is disabled (R40). -/

namespace Sys2Proof.Machine

/-- A window of tree 0 that opened while the receiver was disabled. -/
def offWindow : Win := { off := true }

def offWindowState : State := { State.reset with
  islands := [(167, { up := true })]
  lanes := [(0, { window := some offWindow })] }

/-- Nothing is received in the window, so it is not counted as missed (log entry 104). -/
theorem offWindowState_energyMiss : exec (.windowEnergyMiss 0) offWindowState = .next offWindowState := rfl

theorem offWindowState_missCounts : missCounts 0 0 offWindowState = true := by decide

/-- Refutes O13: its clause on a window without energy says that every granted one is marked missed and counted. One that opened while
the receiver was disabled is left out: nothing can be received in it, and it stays as it is (R28, R40, log entry 104). -/
theorem not_upstreamWindows : ¬ Obligations.UpstreamWindows := by
  rintro ⟨-, hmiss, -⟩
  obtain ⟨t, ht, hmarked, -⟩ := hmiss 0 offWindow offWindowState rfl rfl rfl rfl rfl offWindowState_missCounts
  rw [← next_unique offWindowState_energyMiss ht] at hmarked
  exact absurd hmarked (by decide)

end Sys2Proof.Machine

/-! Block resets of an island whose last block reset has not been answered by a release (R331). -/

namespace Sys2Proof.Machine

/-- Island 0 is up and its block reset stands; the reset block is up and the command is privileged. -/
def blockMarkedState : State := { State.reset with
  islands := [(0, { up := true, blockReset := true }), (224, { up := true })]
  cmd := { source := 4, priv := true } }

def blockMarkedAfter : State := blockCommand 0 (rstDone 0 (wr RST.CMD_ISLAND 0 0 (wr RST.CMD_OP 0 1 blockMarkedState)))

theorem blockMarkedState_merges : exec (.rstBlock 0) blockMarkedState = .next blockMarkedAfter := by
  have hpriv : privileged blockMarkedState = true := by decide
  exact (rstCommand_of_privileged rfl hpriv).trans (congrArg Host.Outcome.next (startDue_of_none rfl))

theorem blockMarkedAfter_up : State.up blockMarkedAfter 0 = true := rfl

/-- Refutes O54: its clause on block resets says that the island, where it is up, enters reset. A state in which the island is up while
its block reset stands is not ruled out, though no release leaves one: a command there merges with that block reset and resets
nothing (R331). -/
theorem not_islandsAndPins : ¬ Obligations.IslandsAndPins := by
  rintro ⟨-, -, -, -, -, -, -, -, hblock, -⟩
  obtain ⟨t, ht, hdown, -⟩ := hblock 0 0 blockMarkedState rfl (by decide) rfl (by decide) (by decide) (by decide) rfl
  rw [← next_unique blockMarkedState_merges ht] at hdown
  have hreset : State.up blockMarkedAfter 0 = false := hdown
  rw [blockMarkedAfter_up] at hreset
  exact absurd hreset (by decide)

end Sys2Proof.Machine

/-! An upstream PLOAM and an event packet that waits for its buffer, bound for the ring of one session (R89, R204, R369, R396). -/

namespace Sys2Proof.Machine

/-- In the roles active and test ACT does its work on a tree whose framing island is up. -/
theorem onAct_of_active {n : Nat} {s : State} {f : State → State} (hup : s.up (framingIsland n) = true)
    (hrole : (roleActive s || roleTest s) = true) : onAct n s f = .next (f s) := by
  rw [onAct, onIsland_up hup, if_pos hrole]

/-- The active unit. Session 0 is open for PLOAM and for events; its ring has room for one 64-byte packet before its end. The buffer
manager is locked, requesters 5 and 18 have a quota of pool C; an event packet waits for its buffer there, and is next in turn. -/
def sharedRingState : State := { State.reset with
  mem := [(⟨.bpm, 0, 0, 0⟩, 3), (⟨.bpm, 0, 0, 1⟩, 1), (⟨.bpm, 0, 0, 4⟩, 4), (⟨.quota, 5, 3, 1⟩, 9), (⟨.quota, 18, 3, 1⟩, 9),
    (⟨.par, 0, 0, 3⟩, 0x40000000), (⟨.sess, 0, 0, 0⟩, 10)]
  islands := [(167, { up := true }), (213, { up := true })]
  bpm := { listed := true, last := [(3, 5)], queue := [(3, [{ req := 18, need := 1, len := 80, count := 1, holders := 2 ^ 18 }])] }
  ev := { asks := [{ src := 183, mask := 1, pay := List.replicate 16 0 }] }
  sess := [(0, { state := .open, tail := 65344 })] }

/-- The packet of an upstream PLOAM of terminal 5 of tree 0. -/
def ploamPacket : Packet := { kind := 2, opcode := 0x81, arg0 := 0, arg1 := 5, session := 0, payload := List.replicate 48 0 }

theorem sharedRingState_up : State.up sharedRingState (framingIsland 0) = true := rfl

theorem sharedRingState_active : (roleActive sharedRingState || roleTest sharedRingState) = true := rfl

theorem sharedRingState_session : openSession SESS.CTL_PLU_EN sharedRingState = some 0 := rfl

theorem sharedRingState_buffer : (allocNow 5 true 64 1 (2 ^ 5) sharedRingState).1.isSome = true := by decide

theorem sharedRingState_room : ringRoom 0 ploamPacket sharedRingState = true := rfl

def sharedRingAfter : State := ploamUpstream 0 5 .other { ok := true, overlap := false } [] sharedRingState

theorem sharedRingState_ploam :
    exec (.ploamUpstream 0 5 .other { ok := true, overlap := false } []) sharedRingState = .next sharedRingAfter :=
  onAct_of_active sharedRingState_up sharedRingState_active

/-- The arbiter has served the event packet first, which took the room; the PLOAM's own was dropped. -/
theorem sharedRingAfter_holds_event :
    (State.session sharedRingAfter 0).waiting = [] ∧ (State.session sharedRingAfter 0).ring.map (fun e => e.2.opcode) = [0x80] := by
  decide

theorem not_responded_ploam : ¬ Responded 0 ploamPacket sharedRingAfter := by
  obtain ⟨hwaiting, hring⟩ := sharedRingAfter_holds_event
  rintro (hmem | ⟨e, he, heq⟩)
  · rw [hwaiting] at hmem
    exact List.not_mem_nil hmem
  · have hop : e.2.opcode = 0x80 := by
      have hmem := List.mem_map_of_mem (f := fun e : Nat × Packet => e.2.opcode) he
      rwa [hring, List.mem_singleton] at hmem
    have hploam : e.2.opcode = 0x81 := congrArg Packet.opcode heq
    omega

/-- Refutes O18: its last clause says that an upstream PLOAM enters the session's ring where the ring has room as the command begins. The
event packet that waits in pool C's arbiter before the PLOAM's own request is left out: it is served first and takes the room
(R204, R396; log entry 12). -/
theorem not_ploamAndRogue : ¬ Obligations.PloamAndRogue := by
  rintro ⟨-, -, -, -, -, -, -, -, -, -, -, -, hploam⟩
  obtain ⟨t, ht, hresponded, -⟩ := hploam 0 5 false [] 0 5 ploamPacket sharedRingState sharedRingState_up sharedRingState_active
    sharedRingState_session rfl sharedRingState_buffer rfl sharedRingState_room
  rw [← next_unique sharedRingState_ploam ht] at hresponded
  exact not_responded_ploam hresponded

end Sys2Proof.Machine

/-! The transmitter of a tree and its preset table (R19, R22, R23, R32, R39, R40). -/

namespace Sys2Proof.Machine

/-! The exit sequence, and idle. -/

theorem startExit_of_up {n : Nat} {s : State} (h : s.up n = true) :
    startExit n s = wr TLN.STS_TX_STATE n 1 (s.setLane n { s.lane n with exitStart := s.clk }) := if_pos h

/-- A write of RUN from IDLE, the transmit island up, starts the exit sequence. -/
theorem txModeRun_of_idle {n : Nat} {s : State} (hidle : rd TLN.CTL_TX_MODE n s = 0) (hup : s.up n = true) :
    txModeRun n s = wr TLN.STS_TX_STATE n 1
      ((wr TLN.CTL_TX_MODE n 1 s).setLane n { s.lane n with exitStart := s.clk }) := by
  have hup' : (wr TLN.CTL_TX_MODE n 1 s).up n = true := (wr_up ..).trans hup
  rw [txModeRun, if_pos hidle, startExit_of_up hup', wr_lane, wr_clk]

theorem txModeRun_starts (n : Fin 48) (s : State) (hup : s.up (framingIsland n) = true) (hidle : rd TLN.CTL_TX_MODE n s = 0)
    (htx : s.up n = true) :
    ∃ t, exec (.txModeRun n) s = .next t ∧ rd TLN.CTL_TX_MODE n t = 1 ∧ rd TLN.STS_TX_STATE n t = 1 ∧
      (t.lane n).exitStart = s.clk ∧
      Touches [.mem, .lanes] [(TLN.CTL_TX_MODE, n, 0), (TLN.STS_TX_STATE, n, 0)] s t := by
  refine ⟨txModeRun n s, onIsland_up hup, ?_, ?_, ?_, (ev_txModeRun n s).touches ?_ (by decide)⟩ <;> rw [txModeRun_of_idle hidle htx]
  · rw [rd_wr_clear _ _ _ _ _ _ (by decide), rd_setLane, rd_wr_self _ _ _ _ (by decide)]
    rfl
  · rw [rd_wr_self _ _ _ _ (by decide)]
    rfl
  · rw [wr_lane, State.setLane_self]
  · exact OnlyFields.wr (OnlyFields.ofMem (t := wr TLN.CTL_TX_MODE n 1 s) rfl
      (OnlyFields.wr (.refl _ s) (by simp) (by decide))) (by simp) (by decide)

/-- The end of the exit sequence: the time it takes, TX_STATE, cause 13. -/
def exitDone (n : Nat) (s : State) : State :=
  s |> passTo ((s.lane n).exitStart + 206) |> wr TLN.STS_TX_STATE n 2 |> raise (48 + n) 13 []

theorem ev_exitDone (n : Nat) (s : State) :
    Evolves (spacesAll ||| partMask (.mem :: .clk :: .ptp :: .ptpFrac :: .tim :: signals)) s (exitDone n s) :=
  Evolves.step (ev_raise ..) (Evolves.wr (Evolves.step (ev_passTo ..) (.refl s) (by decide)) (by decide)) (by decide)

theorem txExitComplete_ends (n : Fin 48) (s : State) (hup : s.up n = true) (hexit : rd TLN.STS_TX_STATE n s = 1) :
    ∃ t, exec (.txExitComplete n) s = .next t ∧ rd TLN.STS_TX_STATE n t = 2 ∧ Raised (48 + n) 13 t ∧
      t.clk = max s.clk ((s.lane n).exitStart + 206) ∧
      Touches (.mem :: .clk :: .ptp :: .ptpFrac :: .tim :: signals) [(TLN.STS_TX_STATE, n, 0)] s t := by
  refine ⟨exitDone n s, (onIsland_up hup).trans (congrArg Host.Outcome.next (if_pos hexit)), ?_,
    raise_raised _ _ _ _ (by decide), ?_, (ev_exitDone n s).touches ?_ (by decide)⟩
  · rw [exitDone, rd_raise _ _ _ _ _ _ rfl, rd_wr_self _ _ _ _ (by decide)]
    rfl
  · rw [exitDone, raise_clk, wr_clk, passTo_clk]
  · exact OnlyFields.raise (OnlyFields.wr (OnlyFields.passTo (.refl _ s)) (by simp) (by decide))

theorem txModeIdle_idles (n : Fin 48) (s : State) (hup : s.up (framingIsland n) = true) :
    ∃ t, exec (.txModeIdle n) s = .next t ∧ rd TLN.CTL_TX_MODE n t = 0 ∧ rd TLN.STS_TX_STATE n t = 0 ∧
      (t.fram n).cut = true ∧ Touches [.mem, .framing] [(TLN.CTL_TX_MODE, n, 0), (TLN.STS_TX_STATE, n, 0)] s t := by
  refine ⟨txModeIdle n s, onIsland_up hup, ?_, ?_, ?_, (ev_txModeIdle n s).touches ?_ (by decide)⟩ <;> rw [txModeIdle, cutFrame]
  · rw [rd_setFram, rd_wr_clear _ _ _ _ _ _ (by decide), rd_wr_self _ _ _ _ (by decide)]
    rfl
  · rw [rd_setFram, rd_wr_self _ _ _ _ (by decide)]
    rfl
  · rw [State.setFram_self]
  · exact OnlyFields.ofMem (t := wr TLN.STS_TX_STATE n 0 (wr TLN.CTL_TX_MODE n 0 s)) rfl
      (OnlyFields.wr (OnlyFields.wr (.refl _ s) (by simp) (by decide)) (by simp) (by decide))

/-! FORCE. -/

/-- FORCE takes a listed value, 0b10 in the test role only. -/
theorem txdisForceWrite_of_listed {n v : Nat} {s : State} (hv : v ≠ 3) (htest : v = 2 → roleTest s = true) :
    txdisForceWrite n v s = wr TLN.FORCE_TXDIS_FORCE n v s := by
  have hrole : ¬ (v = 2 ∧ roleTest s = false) := fun ⟨h, hf⟩ => absurd ((htest h).symm.trans hf) (by decide)
  unfold txdisForceWrite
  rw [if_neg hv, if_neg hrole]

theorem txdisForceWrite_takes (n : Fin 48) (v : BitVec 2) (s : State) (hup : s.up (framingIsland n) = true)
    (hpriv : privileged s = true) (hv : v ≠ 3) (htest : v = 2 → roleTest s = true) :
    ∃ t, exec (.txdisForceWrite n v) s = .next t ∧ rd TLN.FORCE_TXDIS_FORCE n t = v.toNat ∧
      Touches [.mem] [(TLN.FORCE_TXDIS_FORCE, n, 0)] s t := by
  have hwrite : txdisForceWrite n v.toNat s = wr TLN.FORCE_TXDIS_FORCE n v.toNat s :=
    txdisForceWrite_of_listed (fun h => hv (BitVec.eq_of_toNat_eq h)) (fun h => htest (BitVec.eq_of_toNat_eq h))
  have hev : Evolves (wordMask .tln ||| partMask [.mem]) s (wr TLN.FORCE_TXDIS_FORCE n v.toNat s) :=
    Evolves.wr (.refl s) (by decide)
  refine ⟨_, (onIsland_up hup).trans (congrArg Host.Outcome.next ((if_pos hpriv).trans hwrite)), ?_,
    hev.touches (OnlyFields.wr (.refl _ s) (by simp) (by decide)) (by decide)⟩
  rw [rd_wr_self _ _ _ _ (by decide)]
  exact Nat.mod_eq_of_lt v.isLt

/-! The preset table. -/

theorem presetAdvance_fields {l : List (Fld × Nat × Nat)} {n : Nat} {s t : State} (h : OnlyFields l s t)
    (hl : (TLN.PRESET_IDX_IDX, n, 0) ∈ l) : OnlyFields l s (presetAdvance n t) :=
  OnlyFields.onlyIf (fun x => OnlyFields.wr (.refl _ x) hl (by decide)) h

theorem rdx_presetAdvance (n : Nat) (s : State) {g : Fld} (j y : Nat) (h : TLN.PRESET_IDX_IDX.clear g = true) :
    rdx g j y (presetAdvance n s) = rdx g j y s := by
  unfold presetAdvance onlyIf
  split
  · rw [rdx_wr_clear _ _ _ _ _ _ _ h]
  · rfl

/-- The index advances from where it stood before the access. -/
theorem presetAdvance_index {n : Nat} {s t : State} (hidx : rd TLN.PRESET_IDX_IDX n t = rd TLN.PRESET_IDX_IDX n s)
    (hinc : rd TLN.PRESET_IDX_AUTO_INC n t = rd TLN.PRESET_IDX_AUTO_INC n s) :
    rd TLN.PRESET_IDX_IDX n (presetAdvance n t) =
      if on TLN.PRESET_IDX_AUTO_INC n s then (rd TLN.PRESET_IDX_IDX n s + 1) % 512 else rd TLN.PRESET_IDX_IDX n s := by
  have hon : on TLN.PRESET_IDX_AUTO_INC n t = on TLN.PRESET_IDX_AUTO_INC n s := by rw [on, hinc, on]
  unfold presetAdvance onlyIf
  rw [hidx, hon]
  split
  · rw [rd_wr_self _ _ _ _ (by decide)]
    exact Nat.mod_eq_of_lt (Nat.mod_lt _ (by decide))
  · exact hidx

theorem rd_presetWrite (n x w : Nat) (s : State) {g : Fld} (j : Nat) (hg : g.sp ≠ .preset) (hw : g.hi < 32) :
    rd g j (presetWrite n x w s) = rd g j s := by
  unfold presetWrite
  rw [rd_wrx_clear _ _ _ _ _ _ _ ?_, rd_wrx_clear _ _ _ _ _ _ _ ?_] <;> simp [Fld.clear, hw, hg.symm]

theorem presetDataAccess_some {n : Fin 48} {s : State} (w : Word) (hup : s.up (framingIsland n) = true) :
    exec (.presetDataAccess n (some w)) s =
      .next (presetAdvance n (presetWrite n (rd TLN.PRESET_IDX_IDX n s) w.toNat s)) := by
  change execPresetDataAccess n (some w) s = _
  rw [execPresetDataAccess, onIsland_up hup]

theorem presetDataAccess_none {n : Fin 48} {s : State} (hup : s.up (framingIsland n) = true) :
    exec (.presetDataAccess n none) s =
      .next (presetAdvance n (setRead (rdWord .preset n (rd TLN.PRESET_IDX_IDX n s) 0 s) s)) := by
  change execPresetDataAccess n none s = _
  rw [execPresetDataAccess, onIsland_up hup]

theorem presetDataAccess_writes (n : Fin 48) (w : Word) (s : State) (hup : s.up (framingIsland n) = true) :
    ∃ t, exec (.presetDataAccess n (some w)) s = .next t ∧
      rdx ⟨.preset, 0, 31, 16⟩ n (rd TLN.PRESET_IDX_IDX n s) t = w.toNat / 2 ^ 16 ∧
      rdx PRESET.AGE n (rd TLN.PRESET_IDX_IDX n s) t = 0 ∧
      rd TLN.PRESET_IDX_IDX n t =
        (if on TLN.PRESET_IDX_AUTO_INC n s then (rd TLN.PRESET_IDX_IDX n s + 1) % 512 else rd TLN.PRESET_IDX_IDX n s) ∧
      Touches [.mem] [(⟨.preset, 0, 31, 16⟩, n, rd TLN.PRESET_IDX_IDX n s), (PRESET.AGE, n, rd TLN.PRESET_IDX_IDX n s),
        (TLN.PRESET_IDX_IDX, n, 0)] s t := by
  have hw : w.toNat / 2 ^ 16 < 2 ^ 16 := Nat.div_lt_of_lt_mul w.isLt
  have hev : Evolves (wordMask .tln ||| wordMask .preset ||| partMask [.mem]) s
      (presetAdvance n (presetWrite n (rd TLN.PRESET_IDX_IDX n s) w.toNat s)) :=
    Evolves.step (ev_presetAdvance ..) (Evolves.step (ev_presetWrite ..) (.refl s) (by decide)) (by decide)
  refine ⟨presetAdvance n (presetWrite n (rd TLN.PRESET_IDX_IDX n s) w.toNat s), presetDataAccess_some w hup, ?_, ?_, ?_,
    hev.touches ?_ (by decide)⟩
  · rw [rdx_presetAdvance _ _ _ _ (by decide), presetWrite, rdx_wrx_clear _ _ _ _ _ _ _ _ (by decide),
      rdx_wrx_self _ _ _ _ _ (by decide)]
    exact Nat.mod_eq_of_lt hw
  · rw [rdx_presetAdvance _ _ _ _ (by decide), presetWrite, rdx_wrx_self _ _ _ _ _ (by decide), Nat.zero_mod]
  · exact presetAdvance_index (rd_presetWrite _ _ _ _ _ (by decide) (by decide))
      (rd_presetWrite _ _ _ _ _ (by decide) (by decide))
  · exact presetAdvance_fields (OnlyFields.wrx (OnlyFields.wrx (.refl _ s) (by simp) (by decide)) (by simp) (by decide))
      (by simp)

theorem presetDataAccess_reads (n : Fin 48) (s : State) (hup : s.up (framingIsland n) = true) :
    ∃ t, exec (.presetDataAccess n none) s = .next t ∧
      t.cmd.readData = rdWord .preset n (rd TLN.PRESET_IDX_IDX n s) 0 s ∧
      rd TLN.PRESET_IDX_IDX n t =
        (if on TLN.PRESET_IDX_AUTO_INC n s then (rd TLN.PRESET_IDX_IDX n s + 1) % 512 else rd TLN.PRESET_IDX_IDX n s) ∧
      Touches [.mem, .cmd] [(TLN.PRESET_IDX_IDX, n, 0)] s t := by
  have hev : Evolves (wordMask .tln ||| partMask [.mem, .cmd]) s
      (presetAdvance n (setRead (rdWord .preset n (rd TLN.PRESET_IDX_IDX n s) 0 s) s)) :=
    Evolves.step (ev_presetAdvance ..) (Evolves.step (ev_setRead ..) (.refl s) (by decide)) (by decide)
  refine ⟨presetAdvance n (setRead (rdWord .preset n (rd TLN.PRESET_IDX_IDX n s) 0 s) s), presetDataAccess_none hup, ?_,
    presetAdvance_index (rd_setRead ..) (rd_setRead ..), hev.touches ?_ (by decide)⟩
  · rw [(ev_presetAdvance ..).keeps .cmd rfl, setRead_readData]
  · exact presetAdvance_fields (OnlyFields.setRead (.refl _ s)) (by simp)

/-- Settles O8, a clause for each command: each does on its island, which is up, what its register says. -/
theorem laneTransmit : Obligations.LaneTransmit :=
  ⟨txModeRun_starts, txExitComplete_ends, txModeIdle_idles, txdisForceWrite_takes, presetDataAccess_writes,
    presetDataAccess_reads⟩

end Sys2Proof.Machine

/-! What an operation that leaves a part alone leaves of its records. -/

namespace Sys2Proof.Machine

theorem Evolves.actOf {m : Nat} {s t : State} (h : Evolves m s t) (n : Nat) (hm : m.testBit Part.act.ctorIdx = false) :
    t.actOf n = s.actOf n := by
  have hpart : t.act = s.act := h.keeps .act hm
  exact congrArg (fun a => Tbl.get {} a n) hpart

theorem Evolves.term {m : Nat} {s t : State} (h : Evolves m s t) (n k : Nat)
    (hm : m.testBit Part.terms.ctorIdx = false) : t.term n k = s.term n k := by
  have hpart : t.terms = s.terms := h.keeps .terms hm
  exact congrArg (fun a => Tbl.get {} a (n * 512 + k)) hpart

theorem Evolves.fram {m : Nat} {s t : State} (h : Evolves m s t) (n : Nat)
    (hm : m.testBit Part.framing.ctorIdx = false) : t.fram n = s.fram n := by
  have hpart : t.framing = s.framing := h.keeps .framing hm
  exact congrArg (fun a => Tbl.get {} a n) hpart

/-- What changes neither the events block nor the islands leaves every cause raised. -/
theorem Evolves.causesStay {m : Nat} {s t : State} (h : Evolves m s t)
    (hev : m.testBit Part.ev.ctorIdx = false) (hisl : m.testBit Part.islands.ctorIdx = false) :
    CausesStay s t := .same (h.keeps .ev hev) (h.keeps .islands hisl)

/-- A count from a state in which the counter stood as it does in `s`. -/
theorem Counted.since {f : Fld} {i : Nat} {s u t : State} (h : Counted f i u t) (hu : rd f i u = rd f i s) : Counted f i s t :=
  Eq.trans h (by rw [hu])

/-- What follows the count leaves the counter as it is. -/
theorem Counted.kept {f : Fld} {i : Nat} {s u t : State} (h : Counted f i s u) (ht : rd f i t = rd f i u) : Counted f i s t :=
  ht.trans h

theorem counted_bump (f : Fld) (i : Nat) (s : State) (hf : f.lo ≤ f.hi ∧ f.hi < 32) : Counted f i s (bump f i s) :=
  rd_bump_self f i s hf

end Sys2Proof.Machine

/-! The messages, the brood and the states of a terminal's record (R73, R74, R78, R87). -/

namespace Sys2Proof.Machine

theorem queueHigh_of_room {n : Nat} {s : State} (hlen : (s.actOf n).high.length < 32) (hheld : (s.actOf n).holding = [])
    (m : Ploam) : queueHigh n m s = s.setAct n { s.actOf n with high := (s.actOf n).high ++ [m] } := if_pos ⟨hlen, hheld⟩

theorem queueHigh_high {n : Nat} {s : State} (hlen : (s.actOf n).high.length < 32) (hheld : (s.actOf n).holding = [])
    (m : Ploam) : ((queueHigh n m s).actOf n).high = (s.actOf n).high ++ [m] := by
  rw [queueHigh_of_room hlen hheld, State.setAct_self]

theorem queueHigh_mem (n : Nat) (m : Ploam) (s : State) : (queueHigh n m s).mem = s.mem := (ev_queueHigh n m s).keeps .mem rfl

section
variable (n t e vendor vssn phase rtd : Nat) (s : State)

/-- The flags of a brood entry that has been taken (R78). -/
theorem rdx_takeBrood_flags (g : Fld) (hsp : g.sp = .brood) (hword : g.word = 2) :
    rdx g n e (takeBrood n t e vendor vssn phase rtd s) =
      (2 ^ 31 + phase * 2 ^ 29 + t * 2 ^ 20) % 2 ^ 32 / 2 ^ g.lo % 2 ^ (g.hi + 1 - g.lo) := by
  have hbrood : ∀ x : State, rdx g n e (wrx ACTT.BROOD n t e x) = rdx g n e x := fun x =>
    ((Evolves.refl (m := wordMask .actT) x).wrx (by decide)).rdx (by rw [hsp]; decide) n e
  delta takeBrood
  rw [hbrood, rdx_wrWord_clear _ _ _ _ _ _ _ _ _ (by simp [hword]), rdx_wrWord_self _ _ _ _ _ _ _ (by simp [hsp, hword])]

variable {t phase} in
theorem takeBrood_valid (ht : t < 512) (hphase : phase < 4) :
    rdx BROOD.VALID n e (takeBrood n t e vendor vssn phase rtd s) = 1 := by
  rw [rdx_takeBrood_flags _ _ _ _ _ _ _ _ _ rfl rfl]
  dsimp only
  omega

variable {t phase} in
theorem takeBrood_phase (ht : t < 512) (hphase : phase < 4) :
    rdx BROOD.PHASE n e (takeBrood n t e vendor vssn phase rtd s) = phase := by
  rw [rdx_takeBrood_flags _ _ _ _ _ _ _ _ _ rfl rfl]
  dsimp only
  omega

/-- Of a terminal's record only the number of its brood entry is written. -/
theorem rdx_takeBrood_record (g : Fld) (j y : Nat) (hsp : g.sp = .actT) (hg : ACTT.BROOD.clear g = true) :
    rdx g j y (takeBrood n t e vendor vssn phase rtd s) = rdx g j y s := by
  have hword : ∀ w, decide (Sp.brood ≠ g.sp ∨ w ≠ g.word) = true := by simp [hsp]
  delta takeBrood
  rw [rdx_wrx_clear _ _ _ _ _ _ _ _ hg, rdx_wrWord_clear _ _ _ _ _ _ _ _ _ (hword 3),
    rdx_wrWord_clear _ _ _ _ _ _ _ _ _ (hword 2), rdx_wrWord_clear _ _ _ _ _ _ _ _ _ (hword 1),
    rdx_wrWord_clear _ _ _ _ _ _ _ _ _ (hword 0)]

end

section
variable {n t st : Nat} (hfree : st ≠ 0) (hdis : st ≠ 4) (s : State)
include hfree hdis

/-- RANGING, OPERATING and LOST are entered with nothing but a record to the cluster (R74). -/
theorem enterState_of_serving : enterState n t st s = sendRecord n t (wrx ACTT.STATE n t st s) := by
  have hend : ¬(st = 0 ∨ st = 4) := fun h => h.elim hfree hdis
  delta enterState
  dsimp only
  rw [if_neg hend, if_neg hfree]

theorem ev_enterState_serving :
    Evolves (wordMask .actT ||| partMask [.mem, .wrapped, .clusters]) s (enterState n t st s) := by
  rw [enterState_of_serving hfree hdis]
  exact Evolves.step (ev_sendRecord ..) (.wrx (.refl s) (by decide)) (by decide)

theorem enterState_state (hst : st < 8) : termState n t (enterState n t st s) = st := by
  delta termState
  rw [enterState_of_serving hfree hdis, (ev_sendRecord ..).rdx (by decide), rdx_wrx_self _ _ _ _ _ (by decide)]
  exact Nat.mod_eq_of_lt hst

theorem rdx_enterState_record (g : Fld) (j y : Nat) (hg : ACTT.STATE.clear g = true) (hsp : g.sp = .actT) :
    rdx g j y (enterState n t st s) = rdx g j y s := by
  rw [enterState_of_serving hfree hdis, (ev_sendRecord ..).rdx (by rw [hsp]; decide), rdx_wrx_clear _ _ _ _ _ _ _ _ hg]

end

end Sys2Proof.Machine

/-! Deactivation (R85). -/

namespace Sys2Proof.Machine

/-- A terminal goes out of service: its message is queued, its key forgotten, its trial, its preset and its brood entry given up. -/
def beginDeactivation (n t : Nat) (s : State) : State :=
  let s := queueHigh n { kind := .deactivate, onu := t, moves := true } s
  (s.setTerm n t { s.term n t with deactivating := true, key := none, trial := none, lobDue := false })
    |> wrx ACTT.TRIAL n t 0 |> presetClear n t |> freeBrood n t

/-- Deactivation is that, counted and reported. -/
theorem deactivate_of_serving {n t : Nat} {s : State} (h : (s.term n t).deactivating = false) :
    deactivate n t s = raise n 22 [t] (bump ACT.DEACT_CNT n (beginDeactivation n t s)) := by
  delta deactivate
  rw [h, if_neg Bool.false_ne_true]
  rfl

theorem ev_beginDeactivation (n t : Nat) (s : State) :
    Evolves (wordMask .actT ||| wordMask .preset ||| wordMask .brood ||| partMask [.mem, .act, .terms, .wrapped]) s
      (beginDeactivation n t s) :=
  Evolves.step (ev_freeBrood ..) (Evolves.step (ev_presetClear ..) (Evolves.wrx (Evolves.step (ev_State_setTerm ..)
    ((ev_queueHigh ..).mono (by decide)) (by decide)) (by decide)) (by decide)) (by decide)

theorem beginDeactivation_term (n t : Nat) (s : State) : (beginDeactivation n t s).term n t =
    { s.term n t with deactivating := true, key := none, trial := none, lobDue := false } := by
  delta beginDeactivation
  rw [(ev_freeBrood ..).term _ _ (by decide), (ev_presetClear ..).term _ _ (by decide), wrx_term, State.setTerm_self,
    (ev_queueHigh ..).term _ _ (by decide)]

theorem cs_deactivate (n t : Nat) (s : State) : CausesStay s (deactivate n t s) := by
  cases h : (s.term n t).deactivating with
  | true => rw [show deactivate n t s = s from if_pos h]; exact .refl s
  | false =>
    rw [deactivate_of_serving h]
    exact (((ev_beginDeactivation n t s).causesStay (by decide) (by decide)).bump (by decide) (by decide)).raise

/-- Of ACT's registers deactivation writes its counter alone. -/
theorem rd_deactivate (n t : Nat) (s : State) (g : Fld) (j : Nat) (hsp : g.sp = .act) (hg : ACT.DEACT_CNT.clear g = true) :
    rd g j (deactivate n t s) = rd g j s := by
  cases h : (s.term n t).deactivating with
  | true => rw [show deactivate n t s = s from if_pos h]
  | false =>
    rw [deactivate_of_serving h, rd_raise _ _ _ _ _ _ (by rw [hsp]; rfl), rd_bump_clear _ _ _ _ _ hg,
      (ev_beginDeactivation ..).rd (by rw [hsp]; decide)]

/-- What R85 says of a deactivated terminal: its message is under way, its key is gone, the count and cause 22 tell of it. -/
def Deactivated (n t : Nat) (s u : State) : Prop :=
  (u.term n t).deactivating = true ∧ (u.term n t).key = none ∧ Counted ACT.DEACT_CNT n s u ∧ Raised n 22 u

theorem deactivate_deactivated {n t : Nat} {s : State} (h : (s.term n t).deactivating = false) :
    Deactivated n t s (deactivate n t s) := by
  have hterm : (deactivate n t s).term n t = (beginDeactivation n t s).term n t := by
    rw [deactivate_of_serving h, raise_term, bump_term]
  refine ⟨?_, ?_, ?_, ?_⟩
  · rw [hterm, beginDeactivation_term]
  · rw [hterm, beginDeactivation_term]
  · rw [deactivate_of_serving h]
    have hcnt : Counted ACT.DEACT_CNT n s (bump ACT.DEACT_CNT n (beginDeactivation n t s)) :=
      (counted_bump _ _ _ (by decide)).since ((ev_beginDeactivation n t s).rd (by decide) n)
    exact hcnt.kept (rd_raise _ _ _ _ _ _ rfl)
  · rw [deactivate_of_serving h]
    exact raise_raised _ _ _ _ (by decide)

theorem Deactivated.since {n t : Nat} {s v u : State} (h : Deactivated n t v u)
    (hcnt : rd ACT.DEACT_CNT n v = rd ACT.DEACT_CNT n s) : Deactivated n t s u := by
  obtain ⟨hbegun, hkey, hcount, hraised⟩ := h
  exact ⟨hbegun, hkey, hcount.since hcnt, hraised⟩

end Sys2Proof.Machine

/-! Admission of a serial number (R77). -/

namespace Sys2Proof.Machine

/-- Entries a list does not look for may come and go. -/
theorem Assoc.filter_erase {κ α : Type} [DecidableEq κ] {k : κ} {p : κ × α → Bool} (hp : ∀ v, p (k, v) = false)
    (m : List (κ × α)) : (Assoc.erase k m).filter p = m.filter p := by
  induction m with
  | nil => rfl
  | cons e m ih =>
    obtain ⟨k', v⟩ := e
    by_cases he : k' = k
    · subst he
      simp [Assoc.erase, hp, ih]
    · simp [Assoc.erase, he, List.filter_cons, ih]

theorem Assoc.filter_insert {κ α : Type} {lt : κ → κ → Bool} {k : κ} {p : κ × α → Bool} (hp : ∀ v, p (k, v) = false) (v : α)
    (m : List (κ × α)) : (Assoc.insert lt k v m).filter p = m.filter p := by
  induction m with
  | nil => simp [Assoc.insert, hp]
  | cons e m ih =>
    obtain ⟨k', v'⟩ := e
    by_cases hlt : lt k k' = true
    · simp [Assoc.insert, hlt, hp]
    · simp [Assoc.insert, hlt, List.filter_cons, ih]

theorem Store.filter_set {k : Key} {p : Key × Word → Bool} (hp : ∀ v, p (k, v) = false) (v : Word) (m : Store) :
    (Store.set m k v).filter p = List.filter p m := by
  delta Store.set Assoc.set
  split
  · exact Assoc.filter_erase hp m
  · rw [Assoc.filter_insert hp, Assoc.filter_erase hp]

/-- A count in a register changes no terminal's record. -/
theorem terminals_bump {f : Fld} (hsp : f.sp ≠ .actT) (i n : Nat) (s : State) : terminals n (bump f i s) = terminals n s := by
  have hmem : (bump f i s).mem = (wr f i (min (rd f i s + 1) f.max) s).mem := by
    delta bump bumpBy onlyIf
    split
    · rw [pmuCount_mem]
    · rfl
  delta terminals
  rw [hmem]
  delta wr wrx State.set
  split
  · rfl
  · exact congrArg (List.map fun e => e.1.idx)
      (Store.filter_set (k := f.key i 0) (p := fun e => e.1.sp == .actT && e.1.inst == n && e.1.word == 0)
        (fun _ => by simp [Fld.key, hsp]) _ _)

section
variable (n : Nat) (s : State)

theorem rdx_snRx (g : Fld) (j y : Nat) (hg : ACT.SN_RX_CNT.clear g = true) :
    rdx g j y (bump ACT.SN_RX_CNT n s) = rdx g j y s := rdx_bump_clear _ _ _ _ _ _ hg

theorem broodFree_snRx : broodFree n (bump ACT.SN_RX_CNT n s) = broodFree n s := by
  delta broodFree
  simp only [rdx_snRx n s BROOD.VALID _ _ (by decide)]

/-- What `admitRecord` reads: the listed records, their words and ADMIT. -/
theorem admitRecord_of_same {n vendor vssn : Nat} {s t : State} (hterms : terminals n t = terminals n s)
    (hrecord : ∀ (g : Fld) (x : Nat), g.sp = .actT → g.hi < 32 → rdx g n x t = rdx g n x s)
    (hadmit : rd ACT.CTL_ADMIT n t = rd ACT.CTL_ADMIT n s) : admitRecord n vendor vssn t = admitRecord n vendor vssn s := by
  have hstate : ∀ x, termState n x t = termState n x s := fun x => hrecord _ x rfl (by decide)
  have hlisted : ∀ x, rdx ACTT.LISTED n x t = rdx ACTT.LISTED n x s := fun x => hrecord _ x rfl (by decide)
  have hvendor : ∀ x, rdx ACTT.SN_VENDOR n x t = rdx ACTT.SN_VENDOR n x s := fun x => hrecord _ x rfl (by decide)
  have hvssn : ∀ x, rdx ACTT.SN_VSSN n x t = rdx ACTT.SN_VSSN n x s := fun x => hrecord _ x rfl (by decide)
  delta admitRecord
  simp only [hterms, hstate, hlisted, hvendor, hvssn, hadmit]

theorem admitRecord_snRx (vendor vssn : Nat) :
    admitRecord n vendor vssn (bump ACT.SN_RX_CNT n s) = admitRecord n vendor vssn s :=
  admitRecord_of_same (terminals_bump (by decide) n n s)
    (fun g x hsp hhi => rdx_snRx n s g n x (by simp [Fld.clear, hsp, hhi])) (rd_bump_clear _ _ _ _ _ (by decide))

theorem smokerRunning_snRx : smokerRunning n (bump ACT.SN_RX_CNT n s) = smokerRunning n s := by
  delta smokerRunning
  rw [bump_actOf]

end

/-- A serial number that no record has is judged by rows 4 to 7 of R77's table. -/
theorem serialRow_of_unknown (n : Nat) (r : SerialResponse) (s : State) : serialRow n r [] s = admitTable n r s := by
  delta serialRow
  rw [List.any_nil, if_neg Bool.false_ne_true, List.find?_nil]

/-- The rows of R77's table past which an admission goes: no record has the serial number, activation is enabled and admits, no
smoker runs, a brood entry and a record are free. -/
theorem serialNumberOnu_of_admitted {n o e : Nat} {r : SerialResponse} {s : State}
    (hmatch : snMatch n r.vendor.toNat r.vssn.toNat s = []) (hen : on ACT.CTL_ACT_EN n s = true)
    (hadmit : rd ACT.CTL_ADMIT n s ≠ 0) (hsmk : smokerRunning n s = false) (hbrood : broodFree n s = some e)
    (hrec : admitRecord n r.vendor.toNat r.vssn.toNat s = some o) (hwin : windowStart n r.grant s ≠ none) :
    serialNumberOnu n r s = admitAs n o e r (bump ACT.SN_RX_CNT n s) := by
  have hrow : serialNumberOnu n r s = admitTable n r (bump ACT.SN_RX_CNT n s) := by
    delta serialNumberOnu
    dsimp only
    rw [hmatch, if_neg (by simp [hwin]), serialRow_of_unknown]
  have hen' : on ACT.CTL_ACT_EN n (bump ACT.SN_RX_CNT n s) = true := by
    rwa [on, rd_bump_clear _ _ _ _ _ (by decide)]
  have hopen : ¬(on ACT.CTL_ACT_EN n (bump ACT.SN_RX_CNT n s) = false ∨ rd ACT.CTL_ADMIT n (bump ACT.SN_RX_CNT n s) = 0 ∨
      smokerRunning n (bump ACT.SN_RX_CNT n s) = true) := by
    rw [hen', rd_bump_clear _ _ _ _ _ (by decide), smokerRunning_snRx, hsmk]
    simp [hadmit]
  rw [hrow]
  delta admitTable
  rw [if_neg hopen, broodFree_snRx, hbrood, admitRecord_snRx, hrec]

/-- The record of an admitted serial number, which goes to RANGING with its brood entry. -/
def admittedRecord (n t e : Nat) (r : SerialResponse) (s : State) : State :=
  s |> onlyIf (rdx ACTT.LISTED n t s = 0) (wrx ACTT.RATE n t (((ringBurst n r.grant s).map (·.rate)).getD 0))
    |> wrx ACTT.SN_VENDOR n t r.vendor.toNat |> wrx ACTT.SN_VSSN n t r.vssn.toNat
    |> takeBrood n t e r.vendor.toNat r.vssn.toNat 0 (roundTrip n r s)
    |> enterState n t 1

theorem admitAs_eq (n t e : Nat) (r : SerialResponse) (s : State) : admitAs n t e r s =
    raise n 12 [t] (queueHigh n { kind := .assignOnuId, onu := t, vendor := r.vendor.toNat, vssn := r.vssn.toNat, moves := true }
      (admittedRecord n t e r s)) := rfl

section
variable (n t e : Nat) (r : SerialResponse) (s : State)

theorem ev_admittedRecord :
    Evolves (wordMask .actT ||| wordMask .brood ||| partMask [.mem, .wrapped, .clusters]) s (admittedRecord n t e r s) :=
  Evolves.step (ev_enterState_serving (by decide) (by decide) _) (Evolves.step (ev_takeBrood ..) (Evolves.wrx (Evolves.wrx
    (Evolves.onlyIf (fun _ => .wrx (.refl _) (by decide)) (.refl s)) (by decide)) (by decide)) (by decide)) (by decide)

theorem admittedRecord_state : termState n t (admittedRecord n t e r s) = 1 :=
  enterState_state (by decide) (by decide) _ (by decide)

theorem admittedRecord_vendor : rdx ACTT.SN_VENDOR n t (admittedRecord n t e r s) = r.vendor.toNat := by
  delta admittedRecord
  rw [rdx_enterState_record (by decide) (by decide) _ _ _ _ (by decide) rfl,
    rdx_takeBrood_record _ _ _ _ _ _ _ _ _ _ _ rfl (by decide), rdx_wrx_clear _ _ _ _ _ _ _ _ (by decide),
    rdx_wrx_self _ _ _ _ _ (by decide)]
  exact Nat.mod_eq_of_lt r.vendor.isLt

theorem admittedRecord_vssn : rdx ACTT.SN_VSSN n t (admittedRecord n t e r s) = r.vssn.toNat := by
  delta admittedRecord
  rw [rdx_enterState_record (by decide) (by decide) _ _ _ _ (by decide) rfl,
    rdx_takeBrood_record _ _ _ _ _ _ _ _ _ _ _ rfl (by decide), rdx_wrx_self _ _ _ _ _ (by decide)]
  exact Nat.mod_eq_of_lt r.vssn.isLt

theorem admittedRecord_brood (ht : t < 512) : rdx BROOD.VALID n e (admittedRecord n t e r s) = 1 := by
  delta admittedRecord
  rw [(ev_enterState_serving (by decide) (by decide) _).rdx (by decide)]
  exact takeBrood_valid _ _ _ _ _ _ ht (by decide)

/-- The message and cause 12 that follow write no word of a block. -/
theorem rdx_admitAs (g : Fld) (j y : Nat) (hg : g.sp.isEvent = false) :
    rdx g j y (admitAs n t e r s) = rdx g j y (admittedRecord n t e r s) := by
  rw [admitAs_eq, rdx_raise _ _ _ _ _ _ _ hg, rdx_of_mem (queueHigh_mem ..) hg]

end

theorem serialNumber_admitted (n : Fin 48) (r : SerialResponse) (o e : Nat) (s : State) (hup : s.up (framingIsland n) = true)
    (hrole : (roleActive s || roleTest s) = true) (hmatch : snMatch n r.vendor.toNat r.vssn.toNat s = [])
    (hen : on ACT.CTL_ACT_EN n s = true) (hadmit : rd ACT.CTL_ADMIT n s ≠ 0) (hsmk : smokerRunning n s = false)
    (hbrood : broodFree n s = some e) (hrec : admitRecord n r.vendor.toNat r.vssn.toNat s = some o)
    (hwin : windowStart n r.grant s ≠ none) (hlen : (s.actOf n).high.length < 32) (hheld : (s.actOf n).holding = [])
    (ho : o < 512) :
    ∃ t, exec (.serialNumberOnu n r) s = .next t ∧ rdx ACTT.STATE n o t = 1 ∧ rdx ACTT.SN_VENDOR n o t = r.vendor.toNat ∧
      rdx ACTT.SN_VSSN n o t = r.vssn.toNat ∧ rdx BROOD.VALID n e t = 1 ∧
      (t.actOf n).high = (s.actOf n).high ++
        [{ kind := .assignOnuId, onu := o, vendor := r.vendor.toNat, vssn := r.vssn.toNat, moves := true }] ∧
      Counted ACT.SN_RX_CNT n s t ∧ Raised n 12 t := by
  have hact : (admittedRecord n o e r (bump ACT.SN_RX_CNT n s)).actOf n = s.actOf n := by
    rw [(ev_admittedRecord ..).actOf _ (by decide), bump_actOf]
  refine ⟨admitAs n o e r (bump ACT.SN_RX_CNT n s), ?_, ?_, ?_, ?_, ?_, ?_, ?_, raise_raised _ _ _ _ (by decide)⟩
  · exact (onAct_of_active hup hrole).trans
      (congrArg Host.Outcome.next (serialNumberOnu_of_admitted hmatch hen hadmit hsmk hbrood hrec hwin))
  · rw [rdx_admitAs _ _ _ _ _ _ _ _ rfl]
    exact admittedRecord_state ..
  · rw [rdx_admitAs _ _ _ _ _ _ _ _ rfl, admittedRecord_vendor]
  · rw [rdx_admitAs _ _ _ _ _ _ _ _ rfl, admittedRecord_vssn]
  · rw [rdx_admitAs _ _ _ _ _ _ _ _ rfl, admittedRecord_brood _ _ _ _ _ ho]
  · rw [admitAs_eq, raise_actOf, queueHigh_high (by rwa [hact]) (by rwa [hact]), hact]
  · refine (counted_bump ACT.SN_RX_CNT n s (by decide)).kept ?_
    exact (rdx_admitAs _ _ _ _ _ _ _ _ rfl).trans ((ev_admittedRecord ..).rd (by decide) n)

end Sys2Proof.Machine

/-! Ranging (R78 to R80), and the losses of a terminal (R83, R84). -/

namespace Sys2Proof.Machine

/-- The DIFF_MAX that the ranging in progress took (R80, R96). -/
theorem rngCfg_diffMax (w : Nat) : bitsOf (BitVec.ofNat 32 w) 9 0 = w % 2 ^ 10 := by
  simp only [bitsOf, BitVec.toNat_ofNat]
  omega

/-- The equalization delay of a Registration: what URO leaves after the round trip (R79). -/
def registeredEqd (n t a start : Nat) (s : State) : Int :=
  (64 * rd TFR.US_CFG_URO n s : Nat) - (((a * 2 ^ rdx ACTT.RATE n t s : Nat) : Int) - (64 * start : Nat))

/-- A ranging result is accepted (R80): its record holds the delay, its brood entry waits for Ranging_Time to be sent. -/
def rangingAccepted (n t e : Nat) (eqd : Int) (s : State) : State :=
  let s := s |> wrx ACTT.EQD n t eqd.toNat |> wrx BROOD.PHASE n e 2
  (s.setTerm n t { s.term n t with hasEqd := true })
    |> queueHigh n { kind := .rangingTime, onu := t, eqd := eqd.toNat, moves := true }

theorem registration_of_reached {n t a start e : Nat} {g : GrantRef} {s : State} (hwin : windowStart n g s = some start)
    (hbrood : broodOf n t s = some e) (hstate : termState n t s = 1) (hphase : rdx BROOD.PHASE n e s = 1)
    (hserving : (s.term n t).deactivating = false)
    (hreach : reachOk n t (registeredEqd n t a start s) ((s.term n t).rngCfg % 2 ^ 10) s = true) :
    registration n t a g s = rangingAccepted n t e (registeredEqd n t a start s) s := by
  delta registration
  rw [hbrood, hwin]
  dsimp only
  rw [if_pos ⟨hstate, hphase, hserving⟩, rngCfg_diffMax]
  exact if_pos hreach

section
variable (n t e : Nat) (eqd : Int) (s : State)

theorem rangingAccepted_term : ((rangingAccepted n t e eqd s).term n t).hasEqd = true := by
  delta rangingAccepted
  rw [(ev_queueHigh ..).term _ _ (by decide), State.setTerm_self]

theorem rdx_rangingAccepted (f : Fld) (j y : Nat) (hf : f.sp.isEvent = false) : rdx f j y (rangingAccepted n t e eqd s) =
    rdx f j y (wrx BROOD.PHASE n e 2 (wrx ACTT.EQD n t eqd.toNat s)) := by
  delta rangingAccepted
  rw [rdx_of_mem (queueHigh_mem ..) hf, rdx_setTerm]

end

theorem registration_reached (n : Fin 48) (o : BitVec 9) (a : Nat) (g : GrantRef) (st e : Nat) (s : State)
    (hup : s.up (framingIsland n) = true) (hrole : (roleActive s || roleTest s) = true) (hwin : windowStart n g s = some st)
    (hbrood : broodOf n o.toNat s = some e) (hstate : termState n o.toNat s = 1) (hphase : rdx BROOD.PHASE n e s = 1)
    (hserving : (s.term n o.toNat).deactivating = false)
    (hreach : reachOk n o.toNat ((64 * rd TFR.US_CFG_URO n s : Nat) -
      (((a * 2 ^ rdx ACTT.RATE n o.toNat s : Nat) : Int) - (64 * st : Nat)))
      ((s.term n o.toNat).rngCfg % 2 ^ 10) s = true) :
    ∃ t, exec (.registration n o a g) s = .next t ∧ rdx BROOD.PHASE n e t = 2 ∧ (t.term n o.toNat).hasEqd = true ∧
      rdx ACTT.EQD n o.toNat t = (((64 * rd TFR.US_CFG_URO n s : Nat) : Int) -
        (((a * 2 ^ rdx ACTT.RATE n o.toNat s : Nat) : Int) - (64 * st : Nat))).toNat % 2 ^ (ACTT.EQD.hi - ACTT.EQD.lo + 1) := by
  refine ⟨rangingAccepted n o.toNat e (registeredEqd n o.toNat a st s) s, ?_, ?_, rangingAccepted_term .., ?_⟩
  · exact (onAct_of_active hup hrole).trans
      (congrArg Host.Outcome.next (registration_of_reached hwin hbrood hstate hphase hserving hreach))
  · rw [rdx_rangingAccepted _ _ _ _ _ _ _ _ rfl, rdx_wrx_self _ _ _ _ _ (by decide)]
    rfl
  · rw [rdx_rangingAccepted _ _ _ _ _ _ _ _ rfl, rdx_wrx_clear _ _ _ _ _ _ _ _ (by decide), rdx_wrx_self _ _ _ _ _ (by decide)]
    rfl

/-- A ranging fails (R78): the wait has ended, and the failure is counted and reported. -/
def rangingFailed (n t k : Nat) (s : State) : State :=
  raise n 16 [t] (bump ACT.RNG_FAIL_CNT n (passToFrame (frameT0 (k + 1) + uroNs n s) s))

theorem rangingTimeout_of_waiting {n t e k : Nat} {s : State} (hbrood : broodOf n t s = some e)
    (hend : (s.term n t).rngEnd = some k) (hstate : termState n t s = 1) (hphase : rdx BROOD.PHASE n e s = 1)
    (hserving : (s.term n t).deactivating = false) : rangingTimeout n t s = deactivate n t (rangingFailed n t k s) := by
  delta rangingTimeout
  rw [hbrood, hend]
  exact if_pos ⟨hstate, hphase, hserving⟩

theorem rangingFailed_term (n t k : Nat) (s : State) : (rangingFailed n t k s).term n t = s.term n t := by
  delta rangingFailed
  rw [raise_term, bump_term, passToFrame_term]

theorem rangingFailed_counted (n t k : Nat) (s : State) : Counted ACT.RNG_FAIL_CNT n s (rangingFailed n t k s) :=
  ((counted_bump _ _ _ (by decide)).since (rd_passToFrame ..)).kept (rd_raise _ _ _ _ _ _ rfl)

theorem rangingFailed_deactCnt (n t k : Nat) (s : State) :
    rd ACT.DEACT_CNT n (rangingFailed n t k s) = rd ACT.DEACT_CNT n s := by
  delta rangingFailed
  rw [rd_raise _ _ _ _ _ _ rfl, rd_bump_clear _ _ _ _ _ (by decide), rd_passToFrame]

theorem rangingTimeout_fails (n : Fin 48) (o : BitVec 9) (e k : Nat) (s : State) (hup : s.up (framingIsland n) = true)
    (hrole : (roleActive s || roleTest s) = true) (hbrood : broodOf n o.toNat s = some e)
    (hend : (s.term n o.toNat).rngEnd = some k) (hstate : termState n o.toNat s = 1) (hphase : rdx BROOD.PHASE n e s = 1)
    (hserving : (s.term n o.toNat).deactivating = false) :
    ∃ t, exec (.rangingTimeout n o) s = .next t ∧ (t.term n o.toNat).deactivating = true ∧
      (t.term n o.toNat).key = none ∧ Counted ACT.RNG_FAIL_CNT n s t ∧ Counted ACT.DEACT_CNT n s t ∧ Raised n 16 t ∧
      Raised n 22 t ∧ t.clk = (passToFrame (frameT0 (k + 1) + uroNs n s) s).clk := by
  obtain ⟨hbegun, hkey, hcount, hraised⟩ :=
    (deactivate_deactivated (by rwa [rangingFailed_term])).since (rangingFailed_deactCnt n o.toNat k s)
  have hfailed : Raised n 16 (rangingFailed n o.toNat k s) := raise_raised _ _ _ _ (by decide)
  refine ⟨deactivate n o.toNat (rangingFailed n o.toNat k s), ?_, hbegun, hkey, ?_, hcount,
    hfailed.stay (cs_deactivate ..), hraised, ?_⟩
  · exact (onAct_of_active hup hrole).trans
      (congrArg Host.Outcome.next (rangingTimeout_of_waiting hbrood hend hstate hphase hserving))
  · exact (rangingFailed_counted ..).kept (rd_deactivate _ _ _ _ _ rfl (by decide))
  · rw [(ev_deactivate ..).keeps .clk rfl]
    delta rangingFailed
    rw [raise_clk, bump_clk]

/-- A record becomes LOST (R83). -/
def lostEntered (n t : Nat) (s : State) : State :=
  enterState n t 3 (s.setTerm n t { s.term n t with lostFrames := 0, lobDue := false, lobFrame := some (s.fram n).frame })

theorem lobDeclare_of_due {n t : Nat} {s : State} (hstate : termState n t s = 2) (hdue : (s.term n t).lobDue = true)
    (hserving : (s.term n t).deactivating = false) :
    lobDeclare n t s = raise n 20 [t] (bump ACT.LOB_CNT n (lostEntered n t s)) := if_pos ⟨hstate, hdue, hserving⟩

theorem ev_lostEntered (n t : Nat) (s : State) :
    Evolves (wordMask .actT ||| partMask [.mem, .terms, .wrapped, .clusters]) s (lostEntered n t s) :=
  Evolves.step (ev_enterState_serving (by decide) (by decide) _) ((ev_State_setTerm ..).mono (by decide)) (by decide)

theorem lob_declares (n : Fin 48) (o : BitVec 9) (s : State) (hup : s.up (framingIsland n) = true)
    (hrole : (roleActive s || roleTest s) = true) (hstate : termState n o.toNat s = 2)
    (hdue : (s.term n o.toNat).lobDue = true) (hserving : (s.term n o.toNat).deactivating = false) :
    ∃ t, exec (.lobDeclare n o) s = .next t ∧ termState n o.toNat t = 3 ∧ (t.term n o.toNat).lostFrames = 0 ∧
      Counted ACT.LOB_CNT n s t ∧ Raised n 20 t := by
  refine ⟨raise n 20 [o.toNat] (bump ACT.LOB_CNT n (lostEntered n o.toNat s)), ?_, ?_, ?_, ?_,
    raise_raised _ _ _ _ (by decide)⟩
  · exact (onAct_of_active hup hrole).trans (congrArg Host.Outcome.next (lobDeclare_of_due hstate hdue hserving))
  · delta termState
    rw [rdx_raise _ _ _ _ _ _ _ rfl, rdx_bump_clear _ _ _ _ _ _ (by decide)]
    exact enterState_state (by decide) (by decide) _ (by decide)
  · delta lostEntered
    rw [raise_term, bump_term, (ev_enterState_serving (by decide) (by decide) _).term _ _ (by decide), State.setTerm_self]
  · have hcnt : Counted ACT.LOB_CNT n s (bump ACT.LOB_CNT n (lostEntered n o.toNat s)) :=
      (counted_bump _ _ _ (by decide)).since ((ev_lostEntered n o.toNat s).rd (by decide) n)
    exact hcnt.kept (rd_raise _ _ _ _ _ _ rfl)

theorem lobHold_expires (n : Fin 48) (o : BitVec 9) (s : State) (hup : s.up (framingIsland n) = true)
    (hrole : (roleActive s || roleTest s) = true) (hstate : termState n o.toNat s = 3)
    (hhold : rd ACT.LOB_CFG_LOB_HOLD n s ≤ (s.term n o.toNat).lostFrames)
    (hserving : (s.term n o.toNat).deactivating = false) :
    ∃ t, exec (.lobHoldExpiry n o) s = .next t ∧ (t.term n o.toNat).deactivating = true ∧
      (t.term n o.toNat).key = none ∧ Counted ACT.DEACT_CNT n s t ∧ Raised n 22 t := by
  obtain ⟨hbegun, hkey, hcount, hraised⟩ := deactivate_deactivated hserving
  have hexpired : lobHoldExpiry n o.toNat s = deactivate n o.toNat s := if_pos ⟨hstate, hhold⟩
  exact ⟨_, (onAct_of_active hup hrole).trans (congrArg Host.Outcome.next hexpired), hbegun, hkey, hcount, hraised⟩

/-- A Dying_Gasp is reported, and takes back a LOB declared in its frame (R84). -/
def gaspReported (n t : Nat) (s : State) : State :=
  s |> onlyIf ((s.term n t).lobFrame = some (s.fram n).frame) (wr ACT.LOB_CNT n (rd ACT.LOB_CNT n s - 1)) |> raise n 23 [t]

theorem dyingGasp_of_serving {n t : Nat} {s : State} (hfree : termState n t s ≠ 0) (hdis : termState n t s ≠ 4)
    (hserving : (s.term n t).deactivating = false) : dyingGasp n t s = deactivate n t (gaspReported n t s) :=
  if_neg (by simp [hfree, hdis, hserving])

theorem gaspReported_keeps (n t : Nat) (s : State) : (gaspReported n t s).term n t = s.term n t ∧
    rd ACT.DEACT_CNT n (gaspReported n t s) = rd ACT.DEACT_CNT n s := by
  delta gaspReported onlyIf
  rw [raise_term, rd_raise _ _ _ _ _ _ rfl]
  split
  · rw [wr_term, rd_wr_clear _ _ _ _ _ _ (by decide)]
    exact ⟨rfl, rfl⟩
  · exact ⟨rfl, rfl⟩

theorem dyingGasp_deactivates (n : Fin 48) (o : BitVec 9) (s : State) (hup : s.up (framingIsland n) = true)
    (hrole : (roleActive s || roleTest s) = true) (hfree : termState n o.toNat s ≠ 0) (hdis : termState n o.toNat s ≠ 4)
    (hserving : (s.term n o.toNat).deactivating = false) :
    ∃ t, exec (.dyingGasp n o) s = .next t ∧ (t.term n o.toNat).deactivating = true ∧
      (t.term n o.toNat).key = none ∧ Counted ACT.DEACT_CNT n s t ∧ Raised n 23 t ∧ Raised n 22 t := by
  obtain ⟨hterm, hcnt⟩ := gaspReported_keeps n o.toNat s
  obtain ⟨hbegun, hkey, hcount, hraised⟩ := (deactivate_deactivated (by rwa [hterm])).since hcnt
  have hgasp : Raised n 23 (gaspReported n o.toNat s) := raise_raised _ _ _ _ (by decide)
  exact ⟨_, (onAct_of_active hup hrole).trans (congrArg Host.Outcome.next (dyingGasp_of_serving hfree hdis hserving)),
    hbegun, hkey, hcount, hgasp.stay (cs_deactivate ..), hraised⟩

/-- Settles O16, a clause for each command: a terminal is admitted, ranged, lost and deactivated (R77 to R80, R83 to R85; the brood
entry taken is the lowest free one, log entry 9). -/
theorem terminalLife : Obligations.TerminalLife :=
  ⟨serialNumber_admitted, registration_reached, rangingTimeout_fails, lob_declares, lobHold_expires, dyingGasp_deactivates⟩

end Sys2Proof.Machine

/-! The commands of software on a terminal (R86). -/

namespace Sys2Proof.Machine

/-- TCMD as a command leaves it: OP and TERM as written, ERR by its outcome, GO clear (R86; log entry 118). -/
def Commanded (n op t err : Nat) (u : State) : Prop :=
  rd ACT.TCMD_OP n u = op ∧ rd ACT.TCMD_TERM n u = t ∧ rd ACT.TCMD_ERR n u = err ∧ rd ACT.TCMD_GO n u = 0

theorem Commanded.stay {n op t err : Nat} {u v : State} (h : Commanded n op t err u)
    (hkeeps : ∀ g : Fld, g.sp = .act → ACT.DEACT_CNT.clear g = true → rd g n v = rd g n u) : Commanded n op t err v := by
  obtain ⟨hop, hterm, herr, hgo⟩ := h
  exact ⟨(hkeeps _ rfl (by decide)).trans hop, (hkeeps _ rfl (by decide)).trans hterm, (hkeeps _ rfl (by decide)).trans herr,
    (hkeeps _ rfl (by decide)).trans hgo⟩

theorem tcmdDone_commanded {op t err : Nat} (n : Nat) (s : State) (hop : op < 8) (ht : t < 512) (herr : err < 2) :
    Commanded n op t err (tcmdDone n op t err s) := by
  delta tcmdDone
  refine ⟨?_, ?_, ?_, ?_⟩
  · rw [rd_wr_clear _ _ _ _ _ _ (by decide), rd_wr_clear _ _ _ _ _ _ (by decide), rd_wr_clear _ _ _ _ _ _ (by decide),
      rd_wr_self _ _ _ _ (by decide)]
    exact Nat.mod_eq_of_lt hop
  · rw [rd_wr_clear _ _ _ _ _ _ (by decide), rd_wr_clear _ _ _ _ _ _ (by decide), rd_wr_self _ _ _ _ (by decide)]
    exact Nat.mod_eq_of_lt ht
  · rw [rd_wr_clear _ _ _ _ _ _ (by decide), rd_wr_self _ _ _ _ (by decide)]
    exact Nat.mod_eq_of_lt herr
  · rw [rd_wr_self _ _ _ _ (by decide)]
    rfl

/-- The other registers stand. -/
theorem rd_tcmdDone (n op t err : Nat) (s : State) (g : Fld) (j : Nat) (hword : g.word ≠ 4) (hhi : g.hi < 32) :
    rd g j (tcmdDone n op t err s) = rd g j s := by
  have hclear : ∀ hi lo, lo ≤ hi → hi < 32 → Fld.clear ⟨.act, 4, hi, lo⟩ g = true := fun _ _ hlo h32 =>
    decide_eq_true ⟨hlo, h32, hhi, .inr (.inl (Ne.symm hword))⟩
  delta tcmdDone
  rw [rd_wr_clear _ _ _ _ _ _ (hclear _ _ (by decide) (by decide)), rd_wr_clear _ _ _ _ _ _ (hclear _ _ (by decide) (by decide)),
    rd_wr_clear _ _ _ _ _ _ (hclear _ _ (by decide) (by decide)), rd_wr_clear _ _ _ _ _ _ (hclear _ _ (by decide) (by decide))]

theorem tcmdDone_fields (n op t err : Nat) (s : State) :
    OnlyFields [(ACT.TCMD_OP, n, 0), (ACT.TCMD_TERM, n, 0), (ACT.TCMD_ERR, n, 0), (ACT.TCMD_GO, n, 0)] s
      (tcmdDone n op t err s) := by
  delta tcmdDone
  exact OnlyFields.wr (OnlyFields.wr (OnlyFields.wr (OnlyFields.wr (.refl _ s) (by simp) (by decide)) (by simp) (by decide)) (by simp)
    (by decide)) (by simp) (by decide)

theorem smokerRunning_of_none {n : Nat} {s : State} (h : (s.actOf n).smoker = none) : smokerRunning n s = false := by
  delta smokerRunning
  rw [h]
  rfl

theorem smokerRemove_of_none {n : Nat} {s : State} (h : (s.actOf n).smoker = none) (t : Nat) : smokerRemove n t s = s := by
  delta smokerRemove
  rw [h]

/-! A command whose message joins the high queue at once. -/

/-- The command is taken and its message queued. -/
def tcmdQueued (n op t : Nat) (m : Ploam) (s : State) : State := queueHigh n m (tcmdDone n op t 0 s)

theorem tcmdQueued_commanded {op t : Nat} (n : Nat) (m : Ploam) (s : State) (hop : op < 8) (ht : t < 512) :
    Commanded n op t 0 (tcmdQueued n op t m s) :=
  (tcmdDone_commanded n s hop ht (by decide)).stay fun g hsp _ => rd_of_mem (queueHigh_mem ..) (by rw [hsp]; rfl) n

theorem tcmdQueued_high {n : Nat} {s : State} (hlen : (s.actOf n).high.length < 32) (hheld : (s.actOf n).holding = [])
    (op t : Nat) (m : Ploam) : ((tcmdQueued n op t m s).actOf n).high = (s.actOf n).high ++ [m] := by
  have hact : (tcmdDone n op t 0 s).actOf n = s.actOf n := (ev_tcmdDone ..).actOf n (by decide)
  delta tcmdQueued
  rw [queueHigh_high (by rwa [hact]) (by rwa [hact]), hact]

theorem tcmdQueued_touches (n op t : Nat) (m : Ploam) (s : State) :
    Touches [.mem, .act] [(ACT.TCMD_OP, n, 0), (ACT.TCMD_TERM, n, 0), (ACT.TCMD_ERR, n, 0), (ACT.TCMD_GO, n, 0)] s
      (tcmdQueued n op t m s) :=
  have hev : Evolves (wordMask .act ||| partMask [.mem, .act]) s (tcmdQueued n op t m s) :=
    Evolves.step (ev_queueHigh ..) ((ev_tcmdDone ..).mono (by decide)) (by decide)
  hev.touches (OnlyFields.ofMem (queueHigh_mem ..) (tcmdDone_fields n op t 0 s)) (by decide)

theorem tcmdDisable_of_known {n t : Nat} {s : State} (hstate : termState n t s ≠ 0) (hsmk : (s.actOf n).smoker = none) :
    tcmdDisable n t s = tcmdQueued n 1 t { smokerMessage n .disable t s with moves := true } s := by
  have hnone : ((tcmdDone n 1 t 0 s).actOf n).smoker = none := by rwa [(ev_tcmdDone ..).actOf _ (by decide)]
  delta tcmdDisable
  rw [if_neg hstate, smokerRemove_of_none hnone]
  rfl

theorem tcmdEnable_of_disabled {n t : Nat} {s : State} (hstate : termState n t s = 4) (hsmk : (s.actOf n).smoker = none) :
    tcmdEnable n t s = tcmdQueued n 2 t { smokerMessage n .enable t s with moves := true } s :=
  if_neg (by simp [hstate, smokerRunning_of_none hsmk])

theorem tcmdEnableAll_of_idle {n : Nat} {s : State} (hsmk : (s.actOf n).smoker = none) (t : Nat) :
    tcmdEnableAll n t s = tcmdQueued n 4 t { kind := .enableAll, onu := 0x3FF, moves := true } s :=
  if_neg (by simp [smokerRunning_of_none hsmk])

theorem disable_queues (n : Fin 48) (o : BitVec 9) (s : State) (hup : s.up (framingIsland n) = true)
    (hstate : termState n o.toNat s ≠ 0) (hsmk : (s.actOf n).smoker = none) (hlen : (s.actOf n).high.length < 32)
    (hheld : (s.actOf n).holding = []) :
    ∃ t, exec (.tcmdDisable n o) s = .next t ∧ rd ACT.TCMD_OP n t = 1 ∧ rd ACT.TCMD_TERM n t = o.toNat ∧
      rd ACT.TCMD_ERR n t = 0 ∧ rd ACT.TCMD_GO n t = 0 ∧
      (t.actOf n).high = (s.actOf n).high ++ [{ smokerMessage n .disable o.toNat s with moves := true }] ∧
      Touches [.mem, .act] [(ACT.TCMD_OP, n, 0), (ACT.TCMD_TERM, n, 0), (ACT.TCMD_ERR, n, 0), (ACT.TCMD_GO, n, 0)] s t := by
  obtain ⟨hop, hterm, herr, hgo⟩ := tcmdQueued_commanded n { smokerMessage n .disable o.toNat s with moves := true } s
    (show 1 < 8 by decide) o.isLt
  exact ⟨_, (onIsland_up hup).trans (congrArg Host.Outcome.next (tcmdDisable_of_known hstate hsmk)), hop, hterm, herr, hgo,
    tcmdQueued_high hlen hheld _ _ _, tcmdQueued_touches ..⟩

theorem enable_queues (n : Fin 48) (o : BitVec 9) (s : State) (hup : s.up (framingIsland n) = true)
    (hstate : termState n o.toNat s = 4) (hsmk : (s.actOf n).smoker = none) (hlen : (s.actOf n).high.length < 32)
    (hheld : (s.actOf n).holding = []) :
    ∃ t, exec (.tcmdEnable n o) s = .next t ∧ rd ACT.TCMD_OP n t = 2 ∧ rd ACT.TCMD_TERM n t = o.toNat ∧
      rd ACT.TCMD_ERR n t = 0 ∧ rd ACT.TCMD_GO n t = 0 ∧
      (t.actOf n).high = (s.actOf n).high ++ [{ smokerMessage n .enable o.toNat s with moves := true }] ∧
      Touches [.mem, .act] [(ACT.TCMD_OP, n, 0), (ACT.TCMD_TERM, n, 0), (ACT.TCMD_ERR, n, 0), (ACT.TCMD_GO, n, 0)] s t := by
  obtain ⟨hop, hterm, herr, hgo⟩ := tcmdQueued_commanded n { smokerMessage n .enable o.toNat s with moves := true } s
    (show 2 < 8 by decide) o.isLt
  exact ⟨_, (onIsland_up hup).trans (congrArg Host.Outcome.next (tcmdEnable_of_disabled hstate hsmk)), hop, hterm, herr, hgo,
    tcmdQueued_high hlen hheld _ _ _, tcmdQueued_touches ..⟩

theorem enableAll_queues (n : Fin 48) (o : BitVec 9) (s : State) (hup : s.up (framingIsland n) = true)
    (hsmk : (s.actOf n).smoker = none) (hlen : (s.actOf n).high.length < 32) (hheld : (s.actOf n).holding = []) :
    ∃ t, exec (.tcmdEnableAll n o) s = .next t ∧ rd ACT.TCMD_OP n t = 4 ∧ rd ACT.TCMD_ERR n t = 0 ∧
      rd ACT.TCMD_GO n t = 0 ∧
      (t.actOf n).high = (s.actOf n).high ++ [{ kind := .enableAll, onu := 0x3FF, moves := true }] ∧
      Touches [.mem, .act] [(ACT.TCMD_OP, n, 0), (ACT.TCMD_TERM, n, 0), (ACT.TCMD_ERR, n, 0), (ACT.TCMD_GO, n, 0)] s t := by
  obtain ⟨hop, -, herr, hgo⟩ := tcmdQueued_commanded n { kind := .enableAll, onu := 0x3FF, moves := true } s
    (show 4 < 8 by decide) o.isLt
  exact ⟨_, (onIsland_up hup).trans (congrArg Host.Outcome.next (tcmdEnableAll_of_idle hsmk o.toNat)), hop, herr, hgo,
    tcmdQueued_high hlen hheld _ _ _, tcmdQueued_touches ..⟩

/-! Refusals, deactivation and re-ranging by command. -/

theorem tcmdRefuse_commanded {op t : Nat} (n : Nat) (s : State) (hop : op < 8) (ht : t < 512) :
    Commanded n op t 1 (tcmdRefuse n op t s) :=
  (tcmdDone_commanded n s hop ht (by decide)).stay fun g hsp _ =>
    (rd_of_mem (setVerdict_mem ..) (by rw [hsp]; rfl) n).trans (rd_raise _ _ _ _ _ _ (by rw [hsp]; rfl))

theorem tcmdRefuse_raised (n op t : Nat) (s : State) : Raised n 30 (tcmdRefuse n op t s) :=
  (raise_raised n 30 _ _ (by decide)).setVerdict

theorem ev_tcmdRefuse_parts (n op t : Nat) (s : State) :
    Evolves (spacesAll ||| partMask (.mem :: .cmd :: signals)) s (tcmdRefuse n op t s) := (ev_tcmdRefuse ..).mono (by decide)

theorem enable_refused (n : Fin 48) (o : BitVec 9) (s : State) (hup : s.up (framingIsland n) = true)
    (hstate : termState n o.toNat s ≠ 4) :
    ∃ t, exec (.tcmdEnable n o) s = .next t ∧ rd ACT.TCMD_OP n t = 2 ∧ rd ACT.TCMD_ERR n t = 1 ∧ rd ACT.TCMD_GO n t = 0 ∧
      Raised n 30 t ∧ (t.actOf n) = (s.actOf n) ∧
      Touches (.mem :: .cmd :: signals) [(ACT.TCMD_OP, n, 0), (ACT.TCMD_TERM, n, 0), (ACT.TCMD_ERR, n, 0),
        (ACT.TCMD_GO, n, 0)] s t := by
  have hrefused : tcmdEnable n o.toNat s = tcmdRefuse n 2 o.toNat s := if_pos (.inl hstate)
  obtain ⟨hop, -, herr, hgo⟩ := tcmdRefuse_commanded n s (show 2 < 8 by decide) o.isLt
  exact ⟨_, (onIsland_up hup).trans (congrArg Host.Outcome.next hrefused), hop, herr, hgo, tcmdRefuse_raised ..,
    (ev_tcmdRefuse ..).actOf n (by decide),
    (ev_tcmdRefuse_parts ..).touches (OnlyFields.setVerdict (OnlyFields.raise (tcmdDone_fields n 2 o.toNat 1 s))) (by decide)⟩

/-- Deactivation by command takes a candidate out of the smoker's test (R95). -/
theorem tcmdDeactivate_of_serving {n t : Nat} {s : State} (hfree : termState n t s ≠ 0) (hdis : termState n t s ≠ 4) :
    tcmdDeactivate n t s = deactivate n t (smokerRemove n t (tcmdDone n 0 t 0 s)) := if_neg (by simp [hfree, hdis])

theorem command_deactivates (n : Fin 48) (o : BitVec 9) (s : State) (hup : s.up (framingIsland n) = true)
    (hfree : termState n o.toNat s ≠ 0) (hdis : termState n o.toNat s ≠ 4)
    (hserving : (s.term n o.toNat).deactivating = false) :
    ∃ t, exec (.tcmdDeactivate n o) s = .next t ∧ rd ACT.TCMD_OP n t = 0 ∧ rd ACT.TCMD_TERM n t = o.toNat ∧
      rd ACT.TCMD_ERR n t = 0 ∧ rd ACT.TCMD_GO n t = 0 ∧ (t.term n o.toNat).deactivating = true ∧
      Counted ACT.DEACT_CNT n s t ∧ Raised n 22 t := by
  have hmem : ∀ x, (smokerRemove n o.toNat x).mem = x.mem := fun x => (ev_smokerRemove n o.toNat x).keeps .mem rfl
  have hterm : (smokerRemove n o.toNat (tcmdDone n 0 o.toNat 0 s)).term n o.toNat = s.term n o.toNat := by
    rw [(ev_smokerRemove ..).term _ _ (by decide), (ev_tcmdDone ..).term _ _ (by decide)]
  have hcnt : rd ACT.DEACT_CNT n (smokerRemove n o.toNat (tcmdDone n 0 o.toNat 0 s)) = rd ACT.DEACT_CNT n s :=
    (rd_of_mem (hmem _) rfl n).trans (rd_tcmdDone n 0 o.toNat 0 s _ n (by decide) (by decide))
  obtain ⟨hop, hto, herr, hgo⟩ := (tcmdDone_commanded n s (show 0 < 8 by decide) o.isLt (show 0 < 2 by decide)).stay
    fun g hsp hg => (rd_deactivate n o.toNat _ g n hsp hg).trans (rd_of_mem (hmem _) (by rw [hsp]; rfl) n)
  obtain ⟨hbegun, -, hcount, hraised⟩ := (deactivate_deactivated (by rwa [hterm])).since hcnt
  exact ⟨_, (onIsland_up hup).trans (congrArg Host.Outcome.next (tcmdDeactivate_of_serving hfree hdis)), hop, hto, herr, hgo,
    hbegun, hcount, hraised⟩

/-- A terminal is to be ranged again: a brood entry asks for its grant from this frame on (R86; log entries 9 and 11). -/
def reRanged (n t e : Nat) (s : State) : State :=
  let s := s |> tcmdDone n 3 t 0
    |> takeBrood n t e (rdx ACTT.SN_VENDOR n t s) (rdx ACTT.SN_VSSN n t s) 1
         ((64 * rd TFR.US_CFG_URO n s - rdx ACTT.EQD n t s) / 64)
  (s.setTerm n t { s.term n t with hasEqd := false }) |> rangingBegins n t (s.fram n).frame

theorem tcmdReRange_of_operating {n t e : Nat} {s : State} (hbrood : broodFree n s = some e) (hstate : termState n t s = 2)
    (hsmk : (s.actOf n).smoker = none) : tcmdReRange n t s = enterState n t 1 (reRanged n t e s) := by
  delta tcmdReRange
  rw [hbrood]
  exact if_neg (by simp [hstate, smokerRunning_of_none hsmk])

/-- After TCMD has been written only the terminal's record, its brood entry and the cluster's queue change. -/
theorem ev_reRanging (n t e : Nat) (s : State) :
    Evolves (wordMask .actT ||| wordMask .brood ||| partMask [.mem, .terms, .wrapped, .clusters]) (tcmdDone n 3 t 0 s)
      (enterState n t 1 (reRanged n t e s)) :=
  Evolves.step (ev_enterState_serving (by decide) (by decide) _) (Evolves.step (ev_rangingBegins ..)
    (Evolves.step (ev_State_setTerm ..) ((ev_takeBrood ..).mono (by decide)) (by decide)) (by decide)) (by decide)

theorem reRanging_commanded {n t : Nat} (e : Nat) (s : State) (ht : t < 512) :
    Commanded n 3 t 0 (enterState n t 1 (reRanged n t e s)) :=
  (tcmdDone_commanded n s (by decide) ht (by decide)).stay fun _ hsp _ => (ev_reRanging n t e s).rd (by rw [hsp]; decide) n

theorem reRanged_term (n t e : Nat) (s : State) : ((reRanged n t e s).term n t).hasEqd = false ∧
    ((reRanged n t e s).term n t).rngEnd = some ((s.fram n).frame + rd ACT.RNG_CFG_RNG_TO n s) := by
  have hcfg : rd ACT.RNG_CFG_RNG_TO n (tcmdDone n 3 t 0 s) = rd ACT.RNG_CFG_RNG_TO n s :=
    rd_tcmdDone n 3 t 0 s _ n (by decide) (by decide)
  delta reRanged rangingBegins
  dsimp only
  rw [State.setTerm_self, State.setTerm_self, rd_setTerm, (ev_takeBrood ..).rd (by decide), hcfg,
    (ev_takeBrood ..).fram _ (by decide), (ev_tcmdDone ..).fram _ (by decide)]
  exact ⟨rfl, rfl⟩

theorem reRanging_brood {n t : Nat} (e : Nat) (s : State) (ht : t < 512) :
    rdx BROOD.VALID n e (enterState n t 1 (reRanged n t e s)) = 1 ∧
      rdx BROOD.PHASE n e (enterState n t 1 (reRanged n t e s)) = 1 := by
  delta reRanged
  constructor <;> rw [(ev_enterState_serving (by decide) (by decide) _).rdx (by decide),
    (ev_rangingBegins ..).rdx (by decide), rdx_setTerm]
  · exact takeBrood_valid _ _ _ _ _ _ ht (by decide)
  · exact takeBrood_phase _ _ _ _ _ _ ht (by decide)

theorem command_reRanges (n : Fin 48) (o : BitVec 9) (e : Nat) (s : State) (hup : s.up (framingIsland n) = true)
    (hbrood : broodFree n s = some e) (hstate : termState n o.toNat s = 2) (hsmk : (s.actOf n).smoker = none) :
    ∃ t, exec (.tcmdReRange n o) s = .next t ∧ rd ACT.TCMD_OP n t = 3 ∧ rd ACT.TCMD_TERM n t = o.toNat ∧
      rd ACT.TCMD_ERR n t = 0 ∧ rd ACT.TCMD_GO n t = 0 ∧ termState n o.toNat t = 1 ∧ rdx BROOD.VALID n e t = 1 ∧
      rdx BROOD.PHASE n e t = 1 ∧ (t.term n o.toNat).hasEqd = false ∧
      (t.term n o.toNat).rngEnd = some ((s.fram n).frame + rd ACT.RNG_CFG_RNG_TO n s) := by
  obtain ⟨hop, hto, herr, hgo⟩ := reRanging_commanded (n := n) e s o.isLt
  obtain ⟨hvalid, hphase⟩ := reRanging_brood (n := n) e s o.isLt
  have hterm : (enterState n o.toNat 1 (reRanged n o.toNat e s)).term n o.toNat = (reRanged n o.toNat e s).term n o.toNat :=
    (ev_enterState_serving (by decide) (by decide) _).term _ _ (by decide)
  refine ⟨_, (onIsland_up hup).trans (congrArg Host.Outcome.next (tcmdReRange_of_operating hbrood hstate hsmk)), hop, hto, herr,
    hgo, enterState_state (by decide) (by decide) _ (by decide), hvalid, hphase, ?_⟩
  rw [hterm]
  exact reRanged_term ..

/-- Settles O17, a clause for each command: it applies, or its precondition fails (R86; the completion before the message is sent
is log entry 118, the brood entry of a re-range log entries 9 and 11). -/
theorem terminalCommands : Obligations.TerminalCommands :=
  ⟨command_deactivates, disable_queues, enable_queues, enable_refused, command_reRanges, enableAll_queues⟩

end Sys2Proof.Machine
